-- ==== Sys2Proof/Word.lean ====
section
/-!
DEFINITION. Word.lean: the words of the module. A byte is 8 bits and a word 32 bits (R18); every register is 32 bits wide
(R21).
-/
namespace Sys2Proof

abbrev Byte := BitVec 8
abbrev W16 := BitVec 16
abbrev W32 := BitVec 32
abbrev W64 := BitVec 64

/-- An accumulator of an engine: 72 bits (R232). -/
abbrev W72 := BitVec 72

end Sys2Proof
end

