-- ==== Sys2Proof/Types.lean ====
section
/-!
DEFINITION. Types.lean: the kinds of thing a command names: ports, dies, links, rails, channels, descriptors. Numbers of
objects (engine n, CHnnn, MPnnn, Pnn, SWnn ...) are natural numbers (R34); `WellFormed.lean` bounds them.
-/
namespace Sys2Proof

/-- A host port (R34). -/
inductive Port where | h0 | h1
deriving DecidableEq, Repr

/-- The port's number: 0 for H0, 1 for H1. -/
def Port.num : Port → Nat | .h0 => 0 | .h1 => 1

/-- The other port. -/
def Port.other : Port → Port | .h0 => .h1 | .h1 => .h0

/-- Who makes a register access: a host port or C-die firmware (R142, R206). -/
inductive Accessor where | host (p : Port) | firmware
deriving DecidableEq, Repr

/-- The two sealed measuring dies. -/
inductive Firn where | f0 | f1
deriving DecidableEq, Repr

def Firn.num : Firn → Nat | .f0 => 0 | .f1 => 1

/-- The dies and the island that can stop on their own (R46, R110). -/
inductive Die where | cdie | f0 | f1 | ddie | serac
deriving DecidableEq, Repr

/-- The links between the dies (R42). -/
inductive Link where | firn0 | firn1 | driver | pulse0 | pulse1 | freeze0 | freeze1
deriving DecidableEq, Repr

/-- The supply rails of R103. -/
inductive Rail where
  | vbat | vaon | vddSoc | vddC | vio18 | vdd2 | vddq | vddF0 | vddF1 | vanaF0 | vanaF1 | vddD | vpilP | vpilN | vsw
deriving DecidableEq, Repr

/-- The four variants (R1, R8). -/
inductive Variant where | bx9192 | bx9096 | bx9192L | bx9192M
deriving DecidableEq, Repr

/-- The state of a comparator input (R125). -/
inductive Level where | low | high | undet
deriving DecidableEq, Repr

/-- R125: 0b00 Low, 0b01 High, 0b10 Undetermined. -/
def Level.code : Level → Nat | .low => 0 | .high => 1 | .undet => 2

/-- A comparator input of the module (R125). -/
inductive Inp where
  | pulseA (i : Nat) | pulseB (i : Nat) | safety (i : Nat) | aux (i : Nat) | lockFb (i : Nat)
  | kyZc | wake | cover (d : Firn) | magnet (d : Firn) | seal (d : Firn) | dispStep
deriving DecidableEq, Repr

/-- What the host answered to a read the module made of its memory. -/
inductive DmaRead where
  | data (bytes : List Byte)
  /-- Unsupported Request, Completer Abort or poisoned data (R150, R162, R775), for the request at this offset from the first byte. -/
  | abort (off : Nat := 0)
deriving DecidableEq, Repr

/-- A 64-byte descriptor but for its OPCODE byte, which the command names (R160). -/
structure Desc where
  port : Port
  sq : Nat
  flags : Byte
  cmdId : W16
  target : BitVec 24
  rsv7 : Byte
  bufAddr : W64
  /-- Bytes 16 to 19 whole: BUF_LEN in bits 24:0, bits 31:25 must be 0. -/
  bufLenW : W32
  rsv20 : W32
  /-- PARAM, bytes 24 to 63 of the descriptor. -/
  param : List Byte
deriving DecidableEq, Repr

/-- A message held in a mailbox channel: its sender and receiver (R189). -/
inductive Chan where
  | hostFw (p : Port) | fwHost (p : Port)
  | hostEng (p : Port) (n : Nat) | engHost (p : Port) (n : Nat)
  | hostFirn (p : Port) (d : Firn) | firnHost (p : Port) (d : Firn)
  | hostSerac (p : Port) | seracHost (p : Port)
  | fwFirn (d : Firn) | firnFw (d : Firn) | fwSerac | seracFw | fwEng (n : Nat) | engFw (n : Nat)
deriving DecidableEq, Repr

/-- Who writes to a mailbox channel (R189, R190). -/
inductive MbxEnd where | host (p : Port) | firmware | firn (d : Firn) | serac | engine (n : Nat)
deriving DecidableEq, Repr

/-- The ring registers that RING_SEL selects (R149). -/
inductive RingReg where | baseLo | baseHi | dbLo | dbHi | cfg
deriving DecidableEq, Repr

/-- The three registers of a host memory window (R144). -/
inductive WinReg where | lo | hi | size
deriving DecidableEq, Repr

/-- A received Ethernet frame as the filter sees it (R184, R185). Addresses are numbers, the first byte on the wire lowest. -/
structure EthFrame where
  dst : Nat
  src : Nat
  etherType : Nat
  len : Nat
  vlanTags : Nat
  /-- a PTP event message: one that is timestamped on arrival (R93) -/
  ptpEvent : Bool := false
deriving DecidableEq, Repr

/-- A metering point of the configuration image (R37, R62, R175, R182, R323 to R331, R351, R365 to R370). Channels are local
indices; single-precision fields are their words. -/
structure PointCfg where
  die : Firn := .f0
  owner : Port := .h0
  single : Bool := false
  /-- COMMODITY and TOPOLOGY of R324, R323, R365 -/
  commodity : Nat := 0
  topology : Nat := 0
  /-- voltage channels UA, UB, UC and current channels IA, IB, IC -/
  uch : List Nat := []
  ich : List Nat := []
  neutral : Option Nat := none
  nom60 : Bool := false
  harm : Bool := false
  /-- number of tariff rates, 1 to 8 -/
  rates : Nat := 1
  slice : Option Nat := none
  switch : Option Nat := none
  /-- supply group of a point with neither (R573), and its default tariff (R534) -/
  group : Nat := 0
  tariff : Nat := 0
  un : W32 := 0
  inom : W32 := 0
  /-- demand: DI in min, SUB, offset in min -/
  di : Nat := 15
  sub : Nat := 1
  offset : Nat := 0
  /-- schedule 0 to 3, 15 none (R426) -/
  sched : Nat := 15
  /-- flow: the channels DP, DP_HI, P, T, T2 by 0 to 4, and the pulse input -/
  fch : List (Nat × Nat) := []
  pulse : Option Nat := none
  flowRule : Bool := false
  freezeBlocks : Nat := 1
  tailMax : Nat := 1
  tReact : W32 := 0
  tClose : W32 := 0
  fClose : W32 := 0
  trimGain : W32 := 0
  trimMax : W32 := 0
  discLimit : Nat := 1
  paramHash : Nat := 0
  /-- the default posting plan (R329) -/
  plan : List Byte := []
deriving DecidableEq, Repr

/-- A channel of the configuration image (R290). -/
structure ChanCfg where
  type : Nat := 0
  gain : Nat := 0
  /-- excitation source, 15 none, and its current code -/
  src : Nat := 15
  iexc : Nat := 0
deriving DecidableEq, Repr

/-- One calibration of an ADC as measured (R309): the sums of raw × 256 over each segment, the sum of squares of the zero
samples, and whether a stability check or monitor tripped. -/
structure CalSums where
  z : Int
  zSq : Nat
  p : Int
  n : Int
  po : Int
  no : Int
  trip : Bool
deriving DecidableEq, Repr

/-- One phase of a cycle (R332, R341, R342): the aligned samples u and i, the fundamental reactive power Q₁ in units of 2⁻⁷⁷ of a
product, and K_E with the offset from which it is in force (R357). -/
structure PhaseIn where
  u : List Int
  i : List Int
  q1 : Int := 0
  ks : List (Nat × Nat) := []
deriving DecidableEq, Repr

/-- A cycle or DC block as its samples give it (R336): first index b_k, length N_k in 2⁻¹⁶ sample, whether it is a fixed block, the phases,
the neutral current, and the rotation seen (0 neither, 1 UB leads by 60° to 180°, 2 lags; R339). -/
structure CycleIn where
  b : Nat
  len : Nat := 0
  fixed : Bool := false
  phases : List PhaseIn
  neutral : List Int := []
  rot : Nat := 0
deriving DecidableEq, Repr

/-- A 100 ms block of a flow point as its samples give it (R371 to R377), in the units of Machine/Reals.lean: first index, sample count, the
block root S and that of the accumulated part, the values of the inputs (DP, DP_HI, P, T, T2 as 0 to 4) in Pa and °C, and the mask of
invalid inputs (bit 0 DP, 1 P, 2 T). -/
structure BlockIn where
  first : Nat
  n : Nat
  root : Int := 0
  rootPart : Int := 0
  mean : List (Nat × Int) := []
  invalid : Nat := 0
deriving DecidableEq, Repr

/-- A point slice of the configuration image (R516): `lockHold` in ms, `iMax` in 0.1 A, `offerTimeout` in s. -/
structure SliceCfg where
  owner : Port := .h0
  single : Bool := false
  kind : Nat := 0
  point : Option Nat := none
  switch : Option Nat := none
  efMode : Nat := 0
  ppMode : Nat := 0
  lock : Bool := false
  lockOnPlug : Bool := false
  lockHold : Nat := 500
  iMax : Nat := 0
  antenna : Option Nat := none
  hlc : Bool := false
  hlcPort : Nat := 0
  hlcCs : Nat := 0
  /-- HLC_FALLBACK (R537); the protocols, by PROTO, that the configuration removes (R538) -/
  fallback : Bool := false
  noProto : List Nat := []
  bpt : Bool := false
  vent : Bool := false
  offerTimeout : Nat := 600
  localAuth : Bool := false
  group : Nat := 0
deriving DecidableEq, Repr

/-- A load switch of the configuration image (R554). -/
structure SwitchCfg where
  owner : Port := .h0
  single : Bool := false
  group : Nat := 0
  safety : Bool := false
  fs : Nat := 0
  ilim : Nat := 2
  ilimTime : Nat := 0
  otMode : Nat := 0
  clampBudget : Nat := 800
  loadW : Nat := 0
  inrush : Bool := false
deriving DecidableEq, Repr

/-- A supply group of the configuration image (R573, R574, R577): times in s, 10 ms and ms. -/
structure GroupCfg where
  budget : Nat := 0xFFFFFFFF
  deferMax : Nat := 600
  maxPerS : Nat := 4
  minGap : Nat := 20
  rampMs : Nat := 2000
deriving DecidableEq, Repr

/-- A measured value that the D-die's mirrors take at a boundary (R551, R581), by switch or slice. -/
inductive Meas where
  /-- load current in mA and output voltage in 10 mV; in current limit -/
  | load (n i v : Nat) (limiting : Bool)
  /-- junction temperature in °C + 50 -/
  | temp (n tj : Nat)
  /-- VSW in 10 mV -/
  | vsw (v : Nat)
  /-- pilot levels in mV -/
  | pilot (s : Nat) (high low : Int)
  /-- proximity resistance in Ω -/
  | pp (s ohm : Nat)
  /-- residual current in 10 µA: AC rms, DC -/
  | rdc (s ac : Nat) (dc : Int)
  /-- insulation in kΩ and pole voltage in V -/
  | iso (s r u : Nat)
deriving DecidableEq, Repr

/-- A task of the application partition or of firmware (R244, R251). Times are in µs, the budget in CLK_ENG cycles. -/
structure TaskCfg where
  /-- 0 firmware part of the C-die, 1 application partition, 2 F0, 3 F1 -/
  domain : Nat := 0
  /-- the engine it is pinned to -/
  pin : Option Nat := none
  period : Nat := 1000
  deadline : Nat := 1000
  budget : Nat := 0
  /-- triggered by a mailbox message, with its minimum interval -/
  message : Bool := false
  /-- bytes of code, and of data -/
  bytes : Nat := 0
  data : Nat := 0
  entry : W32 := 0
  /-- a Firn task that carries the work of a metering point -/
  point : Option Nat := none
deriving DecidableEq, Repr

/-- An atomic memory operation of RV32A. -/
inductive AmoOp where | swap | add | xor | and | or | min | max | minu | maxu
deriving DecidableEq, Repr

/-- The loads of an engine, FLW included (R223). -/
inductive LoadOp where | lb | lbu | lh | lhu | lw | flw
deriving DecidableEq, Repr

/-- The stores of an engine, FSW included (R223). -/
inductive StoreOp where | sb | sh | sw | fsw
deriving DecidableEq, Repr

/-- A tag failure met while a command runs (R491, R492). -/
inductive TagFail where
  /-- a slot line, by its region offset / 64: read in step 2 of R503 (0), written in step 5 (1), backed out (2),
  rewritten as its counter overflows (3) -/
  | line (stage n : Nat)
  /-- a counter node -/
  | node (level n : Nat)
  /-- a line of the journal entry at a position -/
  | journal (pos : Nat)
  /-- a line of the credential index -/
  | index
deriving DecidableEq, Repr

/-- The Kyoti item of a configuration image (R622 to R663) and the federation table (R662). -/
structure KyCfg where
  on : Bool := false
  device : Nat := 0
  host : Port := .h0
  nom60 : Bool := false
  secure : Bool := true
  rate : Nat := 2
  band : Nat := 0
  interleave : Nat := 1
  /-- F_BASE in 0.1 kHz, TX_LEVEL in 0.1 V -/
  fBase : Nat := 600
  level : Nat := 10
  /-- nibble codes of the 16 units of the even and the odd superframe (R647), and whether they differ -/
  layout : List Nat := []
  cycle2 : Bool := false
  pollInterval : Nat := 64
  retries : Nat := 3
  lostPolls : Nat := 8
  relayInterval : Nat := 16
  rejoinSpread : Nat := 256
  /-- Rime slots of the cell key and the federation key (R654, R662); the coordinator's own phase, 0 L1 -/
  keySlot : Nat := 0
  fedSlot : Nat := 0
  phase : Nat := 0
  /-- node table: UID and the address it fixes; empty: every UID is admitted (R646) -/
  nodes : List (Nat × Option Nat) := []
  /-- permission table: node, KIND of R657 and object -/
  perms : List (Nat × Nat × Nat) := []
  /-- federation table: device and its MAC address -/
  fed : List (Nat × Nat) := []
deriving DecidableEq, Repr

/-- A received Kyoti frame whose codeword 0 is valid (R632); `payload` has LEN bytes. -/
structure KyFrame where
  ftype : Nat
  seg : Nat := 0
  more : Bool := false
  secured : Bool := false
  cell : Nat
  next : Nat := 0
  last : Nat
  dst : Nat := 0
  src : Nat
  seq : Nat := 0
  hopsLeft : Nat := 0
  payload : List Byte := []
deriving DecidableEq, Repr

/-- The body of a federation frame (R662): TYPE 1 message, 2 result. -/
structure FedFrame where
  type : Nat
  src : Nat
  dst : Nat
  node : Nat
  tag : Nat
  status : Nat := 0
  msg : List Byte := []
deriving DecidableEq, Repr

/-- An issuer of the configuration image (R678): its public key's slot, read command (of layer 4 or layer 3), and the offset of
the signature in the answer. -/
structure Issuer where
  slot : Nat
  l4 : Bool := false
  cmd : List Byte := []
  off : Nat := 0
deriving DecidableEq, Repr

/-- The reader item of a configuration image (R671 to R679): by front end PERIOD, GUARD, MAX_RATE, TX_LEVEL; by position EN,
SIG_POLICY, AMP_THR, PH_THR. -/
structure ReaderCfg where
  on : Bool := false
  fes : List (Nat × (Nat × Nat × Nat × Nat)) := []
  ants : List (Nat × (Bool × Nat × Nat × Nat)) := []
  issuers : List Issuer := []
deriving DecidableEq, Repr

/-- A card's answer at a front end (R674): each as received without error, bits of a collision aside. -/
inductive CardFrame where
  | atqa (v : W16)
  /-- four UID bytes (or CT and three) and BCC -/
  | anticol (b : List Byte)
  /-- a collision bit was seen in anticollision after the first `bits` UID bits of the level, which stand in `b` -/
  | collision (bits : Nat) (b : List Byte)
  | sak (v : Byte)
  /-- the ATS, from its length byte TL on -/
  | ats (b : List Byte)
  | pps
  /-- an I-block with more to follow; S(WTX) with its multiplier (layer 4) -/
  | more (b : List Byte)
  | wtx (m : Nat)
  /-- the answer to a signature read, or the last I-block of it -/
  | resp (b : List Byte)
deriving DecidableEq, Repr

/-- One Ethernet port of the global item (R185 to R188); intervals as 4-bit fields. -/
structure EthCfg where
  en : Bool := false
  ptp : Bool := false
  role : Nat := 0
  mac : Option Nat := none
  domain : Nat := 0
  prio : Nat := 0x80
  logSync : Nat := 0
  logAnn : Nat := 1
deriving DecidableEq, Repr

/-- The global item of a configuration image (R622, R433, R569, R699, R709, R185 to R187). -/
structure GlobalCfg where
  device : Nat := 0
  /-- commit interval of F0 and F1 in ms -/
  commit0 : Nat := 100
  commit1 : Nat := 100
  /-- serial watchdog period in ms -/
  wdt : Nat := 50
  /-- key rights of H0 and H1, and the armed tamper monitors -/
  rights0 : Nat := 0
  rights1 : Nat := 0
  arm : Nat := 0
  eth0 : EthCfg := {}
  eth1 : EthCfg := {}
deriving DecidableEq, Repr

/-- One item of a configuration image (R733) as its payload reads; KIND is `kind`. -/
inductive ConfItem where
  | glob (g : GlobalCfg)
  | chan (ch : Nat) (c : ChanCfg)
  | point (p : Nat) (c : PointCfg)
  | slice (s : Nat) (c : SliceCfg)
  | switch (n : Nat) (c : SwitchCfg)
  | group (g : Nat) (c : GroupCfg)
  | site (budget : Nat)
  | task (c : TaskCfg)
  /-- a deadline chain (R252): its tasks by item index, its bound in µs, and whether it begins at a D-die input and ends at a D-die
  output -/
  | chain (tasks : List Nat) (bound : Nat) (fromInput toOutput : Bool)
  /-- a safety reaction time in 0.01 ms of a Serac function (R605) -/
  | reaction (f : Nat) (t : Nat)
  | kyoti (c : KyCfg)
  /-- an antenna position: EN, SIG_POLICY, AMP_THR, PH_THR; a front end: PERIOD, GUARD, MAX_RATE, TX_LEVEL; an issuer -/
  | antenna (pos : Nat) (owner : Port) (en : Bool) (policy amp ph : Nat)
  | frontEnd (n : Nat) (period guard rate level : Nat)
  | issuer (i : Issuer)
  | appCluster (k : Nat) (hash : Nat) (points : List Nat)
  /-- the application partition's part of the shared SRAM, in blocks of 64 KiB (R217) -/
  | sram (first blocks : Nat)
  | fed (device mac : Nat)
  | fedGroup (mac : Nat)
deriving DecidableEq, Repr

/-- KIND of an item (R733). -/
def ConfItem.kind : ConfItem → Nat
  | .glob _ => 1 | .chan _ _ => 2 | .point _ _ => 3 | .slice _ _ => 4 | .switch _ _ => 5 | .group _ _ | .site _ => 6
  | .task _ => 7 | .chain _ _ _ _ => 8 | .reaction _ _ => 9 | .kyoti _ => 10
  | .antenna _ _ _ _ _ _ | .frontEnd _ _ _ _ _ | .issuer _ => 11
  | .appCluster _ _ _ | .sram _ _ => 12 | .fed _ _ | .fedGroup _ => 13

/-- A configuration image in force (R733): its items by kind. -/
structure Conf where
  glob : GlobalCfg := {}
  points : List (Nat × PointCfg) := []
  /-- precision channels by global number (R290) -/
  chans : List (Nat × ChanCfg) := []
  slices : List (Nat × SliceCfg) := []
  switches : List (Nat × SwitchCfg) := []
  groups : List (Nat × GroupCfg) := []
  siteBudget : Nat := 0xFFFFFFFF
  /-- serial watchdog period in ms (R569) -/
  wdtPeriod : Nat := 50
  /-- owning port of an antenna position (R175) -/
  antOwner : List (Nat × Port) := []
  /-- multicast addresses and listed senders of the federation table (R185, R662) -/
  fedGroups : List Nat := []
  fedSources : List Nat := []
  /-- tasks by item index (R244) -/
  tasks : List (Nat × TaskCfg) := []
  /-- SHA-256 recorded for a cluster's application section (R246) -/
  appHash : List (Nat × Nat) := []
  ky : KyCfg := {}
  reader : ReaderCfg := {}
  /-- points granted to the application partition (R245) -/
  appPoints : List Nat := []
  /-- engine that each task is mapped to (R253) -/
  taskEngine : List (Nat × Nat) := []
  /-- engines that carry the work of each Firn point: (engine, point) (R251, R270) -/
  pointEngines : List (Nat × Nat) := []
  /-- C-die clusters of the application partition (R41) -/
  appClusters : List Nat := []
  /-- the partition's part of the shared SRAM, in blocks of 64 KiB (R217) -/
  sramFirst : Nat := 0
  sramBlocks : Nat := 0
deriving DecidableEq, Repr

/-- What an entry of a governor queue asks for (R573): a start, an on order, a restart for a reason of SWITCH_RESTARTED. -/
inductive QObj where
  | start (p : Nat)
  | on (n : Nat)
  | restart (n why : Nat)
deriving DecidableEq, Repr

end Sys2Proof
end

