-- ==== Sys2Proof/Syntax.lean ====
section
/-!
DEFINITION. Syntax.lean: the commands of the module, one constructor for each row of the opcode table, in the table's order; the rule and
the table's own words stand before each. An operand that stands for what the module meets outside (host memory, samples, a
verdict of a signature, a measurement) is explained at the command's meaning.
-/
namespace Sys2Proof

/-- A command: what a host, firmware, an engine's program, a Firn die, a link, a pin or the passing of a time gives the module. -/
inductive Instr where
  /-- REGISTER_WRITE (R21): A host or firmware write to a register that has no row of its own sets the field, or is discarded under the enable-byte, access-type, ownership and absent-unit rules. -/
  | registerWrite (w : Accessor) (a : Nat) (be : BitVec 4) (v : W32) (rd : DmaRead)
  /-- STICKY_BIT_CLEAR (R24): A W1C write clears the sticky bits written as 1, unless the module sets the same bit in that cycle. -/
  | stickyBitClear (w : Accessor) (a : Nat) (v setNow : W32)
  /-- READ_TO_CLEAR (R25): A read of an RC field returns its value and clears it, keeping any occurrence recorded in the same cycle. -/
  | readToClear (w : Accessor) (a : Nat) (occ : W32)
  /-- PWR_DVFS_WRITE (R76): A PWR_DVFS write is judged against the state left by the previous write, and is either applied or refused with PWR_DVFS_ERR cause and count. -/
  | pwrDvfsWrite (w : W32)
  /-- VOK_SET (R80): The VDD_C rail settles within ±2 % of the VSEL voltage and VOK becomes 1. -/
  | vokSet
  /-- FSEL_IN_EFFECT (R80): The new engine frequency takes effect glitch-free after the engine stall of the switch. -/
  | fselInEffect
  /-- CLUSTER_IDLE_ENTRY (R82): A C-die cluster whose engines have all waited, halted or stood spare for IDLE_DELAY cycles has its clock gated. -/
  | clusterIdleEntry (k : Nat)
  /-- SLEEP_ENTRY (R84): After SLEEP_DELAY of uninterrupted sleep conditions the system controller rechecks, latches the commit point, lowers the operating point and gates clocks. -/
  | sleepEntry (dma : Bool)
  /-- WAKE (R96): An enabled wake source ends Sleep or Deep sleep, restores the operating point and clusters in order, and posts the wake reason once Run is reached. -/
  | wake (src ticks : Nat)
  /-- GATED_BLOCK_ACCESS (R87): A host register access to a clock-gated block in Sleep restores its clock within 2 µs, is served, and counts as a wake source. -/
  | gatedBlockAccess
  /-- PWR_REQ_DEEP_SLEEP (R88): A PWR_REQ write of 0x1 requests Deep sleep and is granted, deferred or refused with a cause. -/
  | pwrReqDeepSleep
  /-- PWR_REQ_OFF (R88): A PWR_REQ write of 0x2 requests Off and is granted, deferred or refused with a cause, including ledger parking. -/
  | pwrReqOff (parked : Bool)
  /-- FRAME_BUSY_TIMEOUT (R88): A request deferred for a frame in progress is refused with FRAME_BUSY when the frame has lasted 100 ms. -/
  | frameBusyTimeout
  /-- WAKE_POL_WRITE (R95): A write of PWR_WAKE_EN.WAKE_POL also writes the WAKE polarity latch. -/
  | wakePolWrite (v : W32)
  /-- WAKE_BALL_ASSERT (R95): The WAKE ball asserted at its polarity for 100 µs sets its wake source and, in Off, starts the module. -/
  | wakeBallAssert
  /-- AON_ALARM (R93): Device time reaches a non-zero PWR_ALARM and raises the AON_ALARM wake source. -/
  | aonAlarm
  /-- WAKE_PORT_ADDRESS_MATCH (R100): A frame addressed to the wake port is ACKed, begins to be in progress, and in Sleep or Deep sleep raises WAKE_PORT. -/
  | wakePortAddressMatch (read : Bool)
  /-- WAKE_PORT_DATA_BYTE (R101): A data byte of a wake-port frame goes to the FIFO, to the wake buffer, or is NACKed, as decided at its ACK slot. -/
  | wakePortDataByte (b : Byte)
  /-- WAKE_PORT_STOP (R102): A STOP or a repeated START elsewhere ends a wake-port frame and its deferral of power-state entry. -/
  | wakePortStop
  /-- WAKE_PORT_STUCK (R102): A wake-port frame lasting 35 ms is treated as a stuck bus: the matcher resets and the deferral ends. -/
  | wakePortStuck
  /-- WAKE_BUFFER_RELEASE (R101): Writing RELEASE in WP_STATUS empties the wake buffer. -/
  | wakeBufferRelease
  /-- REFCLK_LOSS (R73): No REFCLK edge for 2 µs stops the C-die on its monitor oscillator and makes each Firn die halt accumulation and log a clock tamper. -/
  | refclkLoss
  /-- CORE_PLL_UNLOCK (R73): The core PLL loses lock, the system controller moves to its monitor oscillator and the C-die counts as stopped. -/
  | corePllUnlock
  /-- CORE_PLL_RELOCK (R73): The core PLL locks again and the system controller resets the C-die with its links. -/
  | corePllRelock
  /-- MEM_PLL_UNLOCK (R73): The memory PLL loses lock and ledger accesses stall while it relocks. -/
  | memPllUnlock
  /-- MEM_PLL_RELOCK (R73): A relock attempt of the memory PLL ends, resuming ledger access or, after three failures, making ledger descriptors complete with DOMAIN_OFF. -/
  | memPllRelock (ok : Bool)
  /-- SERDES_PLL_UNLOCK (R73): The SerDes PLL loses lock and both Ethernet links go down. -/
  | serdesPllUnlock
  /-- AON_OSC_FAIL (R73): The 32.768 kHz oscillator stops and AON_OSC_FAIL is set. -/
  | aonOscFail
  /-- RAIL_POWER_GOOD (R103): A rail passes its rising threshold, releasing the die it feeds from reset once all its rails are good. -/
  | railPowerGood (r : Rail)
  /-- RAIL_FAIL (R103): A rail falls below its falling threshold and the die it feeds enters reset. -/
  | railFail (r : Rail)
  /-- RESET_N_ASSERT (R110): RESET_N held low for 10 µs resets the C-die with its links. -/
  | resetNAssert
  /-- SYSCTRL_WATCHDOG_EXPIRY (R110): The system controller watchdog runs 2 s without service and resets the C-die with its links. -/
  | sysctrlWatchdogExpiry
  /-- RST_CTRL_WRITE (R110): A RST_CTRL write with KEY 0x9192 and CDIE_RESET 1 schedules a C-die reset 10 µs later. -/
  | rstCtrlWrite (v : W32)
  /-- C_DIE_RESET (R108): The C-die resets with its Firn links and driver link, losing undelivered descriptors and setting its RST_CAUSE bit. -/
  | cDieReset (cause : Nat)
  /-- C_DIE_OVERTEMP (R110): The C-die junction reaches 125 °C and the C-die is held in reset until below 105 °C. -/
  | cDieOvertemp
  /-- FIRN_DIE_RESET (R108): A Firn die resets with its Firn link and pulse link. -/
  | firnDieReset (d : Firn)
  /-- D_DIE_RESET (R108): The D-die and Serac reset with the driver link, pulse links and freeze lines, and all outputs are de-energised. -/
  | dDieReset
  /-- PERST (R112): PERSTn_N low resets that port's endpoint; fetched descriptors run to completion and their completions are discarded. -/
  | perst (p : Port)
  /-- FUNCTION_LEVEL_RESET (R138): A function-level reset acts as PERSTn_N on that port while the link stays up. -/
  | functionLevelReset (p : Port)
  /-- BOOT_STAGE_ADVANCE (R115): The work of a boot stage completes and the system controller moves to the next stage, or stops with a boot error. -/
  | bootStageAdvance (codes : List Nat) (item status : Nat) (other : Bool) (img : List Byte)
  /-- PLL_LOCK_TIMEOUT (R135): A PLL that has not locked within 1 ms stops the boot at stage 0x2 with error 0x03. -/
  | pllLockTimeout (core mem serdes : Bool)
  /-- BOOT_IMG_GO (R118): Writing GO in BOOT_IMG_LEN starts the DMA fetch of a host boot image. -/
  | bootImgGo (v : W32)
  /-- LINK_TRAINED (R114): A link leaves reset and trains; a Firn die resends every unacknowledged event, record and reply in order. -/
  | linkTrained (l : Link)
  /-- FIRN_DIE_START (R120): A Firn die verifies and runs its legal firmware, computes its check value, restores from its store and writes any outage record. -/
  | firnDieStart (d : Firn) (ok0 ok1 : Bool) (check : W32) (bad : List Nat)
  /-- REFERENCES_SETTLED (R315): The references settle and every ADC calibrates in parallel, after which channels enter service and lanes start. -/
  | referencesSettled (d : Firn) (cals : List (Nat × CalSums)) (idx : Nat)
  /-- ENGINE_SELF_TEST_DONE (R121): An engine's 15 ms built-in self-test ends, making it SPARE or PROBATION on a pass or RETIRED on a failure. -/
  | engineSelfTestDone (n : Nat) (pass : Bool)
  /-- INPUT_DEFINED (R126): An undetermined comparator input holds beyond a threshold for its filter time and takes a defined state, which is never an edge. -/
  | inputDefined (i : Inp) (high : Bool)
  /-- INPUT_INDETERMINATE (R127): A tamper, contact, auxiliary-sense or SEAL input undetermined for 10 ms is logged once per die reset. -/
  | inputIndeterminate (i : Inp)
  /-- CROSSING_TIMEOUT (R130): An access to a gated domain not served within 64 µs is withdrawn with TIMEOUT_CROSSING and recorded in FAB_XERR. -/
  | crossingTimeout (init xid addr : Nat) (rd : Bool)
  /-- RING_ENABLE (R147): RING_CTRL ENABLE makes a disabled ring ACTIVE if its configuration, windows and binding are valid, or refuses it. -/
  | ringEnable (p : Port) (rec : DmaRead)
  /-- RING_DISABLE (R147): RING_CTRL DISABLE disables a CQ with no live SQs, or puts an SQ into DRAINING. -/
  | ringDisable (p : Port)
  /-- RING_CLEAR_ERROR (R147): RING_CTRL CLEAR_ERROR returns a ring in ERROR to DISABLED when allowed. -/
  | ringClearError (p : Port)
  /-- RING_CONFIG_WRITE (R149): A write to a ring's base, record or configuration registers is applied while DISABLED, or discarded with ERR_CAUSE 0x1. -/
  | ringConfigWrite (p : Port) (w : RingReg) (v : W32)
  /-- WINDOW_WRITE (R144): A host window register write is applied while HOST_CTRL.EN is 0, or discarded with WIN_LOCKED. -/
  | windowWrite (p : Port) (w : Nat) (x : WinReg) (v : W32)
  /-- HOST_ENABLE (R774): HOST_CTRL.EN going to 1 rechecks every live ring and record against the windows, putting misplaced ones into ERROR. -/
  | hostEnable (p : Port) (poll : Byte) (idle : W16)
  /-- HOST_DISABLE (R774): HOST_CTRL.EN going to 0 stops fetching, completes descriptors in flight and then reports DRAINED. -/
  | hostDisable (p : Port) (poll : Byte) (idle : W16)
  /-- SQ_POLL (R153): Every POLL_US the module reads an active SQ's record and fetches the waiting descriptors when its CQ has room. -/
  | sqPoll (p : Port) (q : Nat) (tail head : DmaRead) (slots : Option (List (Nat × Desc)))
  /-- SQ_IDLE_TIMEOUT (R154): An SQ with no new TAIL for IDLE_US writes NEED_KICK, rereads TAIL and becomes IDLE or stays ACTIVE. -/
  | sqIdleTimeout (p : Port) (q : Nat) (tail : DmaRead)
  /-- SQ_KICK (R155): A write to an SQ's kick register makes an IDLE SQ ACTIVE, clears NEED_KICK and reads TAIL. -/
  | sqKick (p : Port) (q : Nat) (tail : DmaRead)
  /-- SQ_DRAINED (R147): The last fetched descriptor of a DRAINING SQ completes and the SQ becomes DISABLED. -/
  | sqDrained (p : Port) (q : Nat)
  /-- CQ_HEAD_POLL (R158): While an SQ is STALLED the module rereads its CQ head record every POLL_US and resumes fetching when room returns. -/
  | cqHeadPoll (p : Port) (c : Nat) (head : DmaRead)
  /-- INTERRUPT_MODERATION_TIMEOUT (R172): The oldest unsignalled CQ entry has waited MOD_TIME and the CQ's MSI-X message is sent. -/
  | interruptModerationTimeout (p : Port) (c : Nat)
  /-- MSIX_UNMASK (R171): Unmasking an MSI-X vector sends a message pending on it. -/
  | msixUnmask (p : Port) (v : Nat)
  /-- BUS_MASTER_ENABLE (R139): Bus Master Enable set in D0 releases held completions and events. -/
  | busMasterEnable (p : Port)
  /-- EVENT_FAILOVER (R176): A port down or without bus mastering for FAILOVER_MS has its events routed to the other port as well. -/
  | eventFailover (p : Port)
  /-- PCIE_LINK_CHANGE (R176): A port's PCIe link goes down or returns to L0, starting the failover delay or ending failover. -/
  | pcieLinkChange (p : Port) (up : Bool) (width speed : Nat)
  /-- NOP (R165): NOP completes with DONE after earlier descriptors are fetched, or after they complete with FENCE. -/
  | nop (d : Desc)
  /-- TIME_SET (R166): TIME_SET sets device time at the next boundary, or is refused while PTP disciplines device time. -/
  | timeSet (d : Desc)
  /-- START_DELIVERY (R329): START_DELIVERY is checked, arbitrated, admitted by the governor and, once the session is posted, completes finally. -/
  | startDelivery (d : Desc) (rd : DmaRead)
  /-- STOP_DELIVERY (R330): STOP_DELIVERY is an arbitrated stop that completes when the point freezes, removes a waiting start, or finds the point idle. -/
  | stopDelivery (d : Desc)
  /-- STOP_FREEZE_TIMEOUT (R330): A stop whose freeze line has not risen 500 ms after the applying boundary completes with TIMEOUT_CROSSING. -/
  | stopFreezeTimeout (p : Nat)
  /-- SET_LIMIT (R331): SET_LIMIT replaces the host-rank standing limit of a kind at the boundary that applies it. -/
  | setLimit (d : Desc)
  /-- POINT_READ (R361): POINT_READ writes one section of a metering point's checkpoint data to the buffer. -/
  | pointRead (d : Desc)
  /-- SWITCH_SET (R559): SWITCH_SET orders a switch on or off through arbitration and, for INRUSH switches, a governor grant. -/
  | switchSet (d : Desc)
  /-- SWITCH_GROUP (R560): SWITCH_GROUP orders every switch in its mask as a part, with partial or all-or-none completion. -/
  | switchGroup (d : Desc)
  /-- SWITCH_UNLOCK (R565): SWITCH_UNLOCK releases a switch's protection locks when all their release conditions hold. -/
  | switchUnlock (d : Desc)
  /-- SWITCH_CONFIG (R561): SWITCH_CONFIG changes a switch's changeable settings at the next boundary. -/
  | switchConfig (d : Desc)
  /-- SWITCH_RETURN (R285): SWITCH_RETURN tests a failed switch and returns it to service if allowed. -/
  | switchReturn (d : Desc)
  /-- SLICE_RETURN (R285): SLICE_RETURN tests a failed point slice and returns it to service if allowed. -/
  | sliceReturn (d : Desc)
  /-- RETURN_SELF_TEST_DONE (R285): The 50 ms self-test of a slice or switch being returned ends and the return completes or is refused. -/
  | returnSelfTestDone (isSlice : Bool) (n code : Nat)
  /-- CONNECTOR_LOCK (R546): CONNECTOR_LOCK is an arbitrated order to lock or unlock a slice's connector. -/
  | connectorLock (d : Desc)
  /-- PILOT_SET (R548): PILOT_SET sets or releases a host-rank state F, or clears an earth-fault latch. -/
  | pilotSet (d : Desc)
  /-- CONVERTER_STATUS (R547): HLC_CTRL CONVERTER_STATUS reports the DC converter's readiness, faults and limits. -/
  | converterStatus (d : Desc) (rd : DmaRead)
  /-- RENEGOTIATE (R547): HLC_CTRL RENEGOTIATE requests renegotiation with the vehicle at the next opportunity. -/
  | renegotiate (d : Desc)
  /-- MODEM_RESET (R547): HLC_CTRL MODEM_RESET resets the slice's modem and restarts SLAC unless energised. -/
  | modemReset (d : Desc)
  /-- LEDGER_READ (R509): LEDGER_READ writes a verified slot image into the buffer. -/
  | ledgerRead (d : Desc) (fs : List TagFail)
  /-- LEDGER_POST (R503): LEDGER_POST checks, journals and applies a balanced multi-part posting, or aborts it. -/
  | ledgerPost (d : Desc) (rd : DmaRead) (fs : List TagFail)
  /-- LEDGER_RESTORE (R508): LEDGER_RESTORE writes a whole slot image with new versions and releases quarantine. -/
  | ledgerRestore (d : Desc) (rd : DmaRead) (full : Bool)
  /-- LEDGER_LOOKUP (R509): LEDGER_LOOKUP finds the slot holding a credential hash and writes its image. -/
  | ledgerLookup (d : Desc) (rd : DmaRead) (fs : List TagFail)
  /-- TARIFF_LOAD (R494): TARIFF_LOAD checks a tariff table and stores it as the pending table of its index. -/
  | tariffLoad (d : Desc) (rd : DmaRead)
  /-- TARIFF_ACTIVATE (R494): TARIFF_ACTIVATE makes the pending tariff table active at the next boundary. -/
  | tariffActivate (d : Desc)
  /-- FIRN_MSG (R200): FIRN_MSG sends a request to a Firn die through the port's channel and completes with the matched reply. -/
  | firnMsg (d : Desc) (rd : DmaRead)
  /-- SERAC_MSG (R200): SERAC_MSG sends a request to Serac through the port's channel and completes with the matched reply. -/
  | seracMsg (d : Desc) (rd : DmaRead)
  /-- APP_MSG (R200): APP_MSG sends a request to an application engine through the port's channel and completes with the matched reply. -/
  | appMsg (d : Desc) (rd : DmaRead)
  /-- MAILBOX_REPLY_TIMEOUT (R202): A descriptor message without a reply 1 s after posting completes with TIMEOUT_CROSSING and its request is withdrawn. -/
  | mailboxReplyTimeout (c : Chan) (seq : Nat)
  /-- RECORD_READ (R448): RECORD_READ writes a queued signed reading record of a point into the buffer. -/
  | recordRead (d : Desc)
  /-- MORAINE_READ (R480): MORAINE_READ writes held Moraine log entries from a given SEQ into the buffer. -/
  | moraineRead (d : Desc)
  /-- KYOTI_SEND (R659): KYOTI_SEND queues host data for a node, a broadcast or a federated device. -/
  | kyotiSend (d : Desc) (rd : DmaRead)
  /-- SEND_START_TIMEOUT (R659): A KYOTI_SEND not started within 600 s of acceptance completes with CAPACITY_REFUSED. -/
  | sendStartTimeout (p : Port) (q cmdId : Nat)
  /-- NODE_READ (R660): KYOTI_NODE_CMD NODE_READ writes a node's record. -/
  | nodeRead (d : Desc)
  /-- RECEIVE (R660): KYOTI_NODE_CMD RECEIVE writes the oldest inbound message queued for the port. -/
  | receive (d : Desc)
  /-- REMOVE (R648): KYOTI_NODE_CMD REMOVE sends a leave to a node, frees its address and drops its fixed address. -/
  | remove (d : Desc)
  /-- JOIN_WINDOW (R660): KYOTI_NODE_CMD JOIN_WINDOW opens or closes JOIN_OPEN for a number of seconds. -/
  | joinWindow (d : Desc)
  /-- PING (R660): KYOTI_NODE_CMD PING runs one POLL transaction and returns its round trip. -/
  | ping (d : Desc)
  /-- READ_LAST (R684): TAG_CMD READ_LAST writes the last credential record of a position. -/
  | readLast (d : Desc)
  /-- APDU (R684): TAG_CMD APDU sends a command APDU to the card of the current presentation and writes its response. -/
  | apdu (d : Desc) (resp : Option (List Byte))
  /-- RELEASE (R684): TAG_CMD RELEASE ends the current presentation with HLTA and carrier off. -/
  | release (d : Desc)
  /-- ENABLE (R684): TAG_CMD ENABLE enables or disables pinging of a position. -/
  | enable (d : Desc)
  /-- CALIBRATE (R685): TAG_CMD CALIBRATE captures 64 pings on an empty position and stores A_REF. -/
  | calibrate (d : Desc) (pings : List Nat)
  /-- KEY_WRITE (R701): KEY_WRITE writes a clear key into an empty slot and optionally exports a blob. -/
  | keyWrite (d : Desc) (rd : DmaRead) (oldForm : Bool)
  /-- KEY_DERIVE (R704): KEY_DERIVE derives a key from a parent derivation secret into an empty slot. -/
  | keyDerive (d : Desc) (oldForm : Bool)
  /-- KEY_DESTROY (R707): KEY_DESTROY MODE DESTROY clears a key and increments the governing generation. -/
  | keyDestroy (d : Desc)
  /-- KEY_DESTROY_CHILDREN (R707): KEY_DESTROY MODE CHILDREN increments a key's own generation, orphaning its children while the key stays. -/
  | keyDestroyChildren (d : Desc)
  /-- EVICT (R707): KEY_DESTROY MODE EVICT clears a key without changing any generation. -/
  | evict (d : Desc)
  /-- KEY_UNWRAP (R703): KEY_UNWRAP verifies a wrapped blob and loads its key into the empty slot. -/
  | keyUnwrap (d : Desc) (rd : DmaRead)
  /-- IMAGE_STAGE (R722): IMAGE_STAGE writes a chunk of a firmware image into the free slot and verifies the whole image at LAST. -/
  | imageStage (d : Desc) (rd : DmaRead) (sigOk hashOk flashOk : Bool)
  /-- HITLESS (R729): IMAGE_ACTIVATE HITLESS maps the staged image onto spare engines and prepares a handover. -/
  | hitless (d : Desc)
  /-- HANDOVER_PREPARED (R729): The handover area becomes current and the handover is due at the next control-cycle boundary. -/
  | handoverPrepared
  /-- HANDOVER_DONE (R731): The new image takes over rings, links and arbiter, renews the watchdog, ends the pause and starts its trial. -/
  | handoverDone (us : Nat)
  /-- RESTART (R723): IMAGE_ACTIVATE RESTART makes the staged slot TRIAL and resets the C-die. -/
  | restart (d : Desc)
  /-- FIRN_INSTALL (R727): IMAGE_ACTIVATE FIRN_INSTALL offers the staged Firn section to the named dies. -/
  | firnInstall (d : Desc) (v : W32) (ok0 ok1 : Bool)
  /-- REVERT (R726): IMAGE_ACTIVATE REVERT ends a running trial by a reverse handover or a restart. -/
  | revert (d : Desc)
  /-- HEALTH_CONFIRM (R725): HEALTH_CONFIRM ends a trial by blowing fuses, promoting the slot, removing old settings and returning resident engines. -/
  | healthConfirm (d : Desc)
  /-- TRIAL_EXPIRING (R724): Five minutes before a trial window ends, TRIAL_EXPIRING is posted. -/
  | trialExpiring
  /-- TRIAL_WINDOW_EXPIRY (R726): A trial window ends without confirmation and the image is reverted with cause 0x1. -/
  | trialWindowExpiry
  /-- CONFIG_LOAD (R735): CONFIG_LOAD checks a configuration image in order, runs admission and accepts or refuses it. -/
  | configLoad (d : Desc) (rd : DmaRead) (raw : List (Option ConfItem)) (sigOk oldForm : Bool)
  /-- CONFIG_TAKES_EFFECT (R736): An accepted configuration takes effect at a boundary, applying mapping, FLOOR and unit settings, and CONFIG_LOAD completes. -/
  | configTakesEffect
  /-- APP_LOAD (R246): APP_LOAD checks an application section and reloads the cluster's engines at the next boundary. -/
  | appLoad (d : Desc) (rd : DmaRead) (imem dmem : List Byte)
  /-- ETH_LINK (R184): An Ethernet link comes up or goes down and ETH_LINK is posted. -/
  | ethLink (p : Nat) (phy : Option (Nat × Bool))
  /-- ETH_FRAME_RX (R185): A received Ethernet frame passes or fails the address and EtherType filters and is handed on or dropped. -/
  | ethFrameRx (p : Nat) (f : EthFrame)
  /-- PTP_SYNC (R187): A Sync message is timestamped and feeds the servo of the disciplining port. -/
  | ptpSync (p : Nat) (twoStep : Bool) (rx off trim : Int)
  /-- PTP_FOLLOW_UP (R187): A Follow_Up message supplies the precise origin time of a two-step Sync. -/
  | ptpFollowUp (p : Nat) (off trim : Int)
  /-- PTP_ANNOUNCE (R186): An Announce message enters the best master clock algorithm. -/
  | ptpAnnounce (p st : Nat)
  /-- PTP_DELAY_REQ (R186): A Delay_Req received as master is timestamped and answered with Delay_Resp. -/
  | ptpDelayReq (p : Nat)
  /-- PTP_DELAY_RESP (R187): A Delay_Resp gives the slave the path delay measurement. -/
  | ptpDelayResp (p delay : Nat)
  /-- PTP_SYNC_TRANSMIT (R186): As master at each sync interval the port sends a two-step Sync with Follow_Up. -/
  | ptpSyncTransmit (p : Nat)
  /-- PTP_ANNOUNCE_TRANSMIT (R186): As master at each announce interval the port sends an Announce. -/
  | ptpAnnounceTransmit (p : Nat)
  /-- PTP_SYNC_TIMEOUT (R187): No Sync for 3 intervals makes the servo lose lock while keeping the last trim. -/
  | ptpSyncTimeout (p : Nat)
  /-- MDIO_FRAME (R184): Writing GO in ETH_MDIO sends one clause 22 frame to an external PHY. -/
  | mdioFrame (v : W32)
  /-- MDIO_FRAME_DONE (R184): A clause 22 frame ends, GO clears and read data is stored. -/
  | mdioFrameDone (data : W16)
  /-- FEDERATION_FRAME (R662): A federation frame is verified and forwarded into the cell or its result completes the sender's descriptor. -/
  | federationFrame (b : List Byte)
  /-- FEDERATION_RESULT_TIMEOUT (R662): No result 30 s after a federated message completes its descriptor with CAPACITY_REFUSED. -/
  | federationResultTimeout (tag : Nat)
  /-- CONTROL_CYCLE_BOUNDARY (R48): At each whole millisecond the command arbiter applies the cycle's orders and firmware runs its per-cycle work. -/
  | controlCycleBoundary (fails : List (Nat × Nat)) (meas : List Meas) (ran : List (Nat × List (List Nat)))
  /-- HEARTBEAT_MISSED (R257): An engine's heartbeat not renewed at two consecutive boundaries retires it with cause 0x01. -/
  | heartbeatMissed (n : Nat)
  /-- MBX_SEND (R192): MBX_SEND posts a channel's payload with a new sequence number and sets doorbell bit 0, or is refused. -/
  | mbxSend (e : MbxEnd) (c : Chan) (len : Nat) (payload : Option (List Byte)) (clearNow : Bool)
  /-- MBX_DB_SET (R197): MBX_DB_SET sets doorbell bits and may notify the receiver. -/
  | mbxDbSet (e : MbxEnd) (c : Chan) (v : W32)
  /-- MBX_DB_CLEAR (R192): The receiver's W1C write of MBX_DB clears doorbell bits, freeing the channel when bit 0 is cleared. -/
  | mbxDbClear (e : MbxEnd) (c : Chan) (v setNow : W32)
  /-- MBX_DB_MASK_WRITE (R199): A write of MBX_DB_MASK unmasking a set doorbell raises the receiver's notification. -/
  | mbxDbMaskWrite (e : MbxEnd) (c : Chan) (v : W32)
  /-- SPAD_APERTURE_ACCESS (R215): A host access through the scratchpad aperture reaches the selected partition cluster or is refused. -/
  | spadApertureAccess (p : Port) (off : Nat) (w : Option (BitVec 4 × W32)) (rivals : List Nat)
  /-- SCRATCHPAD_ECC_ERROR (R259): A double-bit scratchpad error faults the access and the work restarts in place from its last checkpoint. -/
  | scratchpadEccError (k : Nat) (double : Option (Nat × W32))
  /-- LOAD (R219): An engine load is checked by the MPU and performed or faulted. -/
  | load (n : Nat) (op : LoadOp) (rd rs1 : Nat) (imm : W32) (rivals : List (List Nat))
  /-- STORE (R219): An engine store is checked by the MPU and buffered or faulted. -/
  | store (n : Nat) (op : StoreOp) (rs2 rs1 : Nat) (imm : W32) (rivals : List (List Nat))
  /-- LR (R231): LR loads a word and reserves its 32-byte granule. -/
  | lr (n rd rs1 : Nat) (rivals : List (List Nat))
  /-- SC (R231): SC stores if the reservation holds and reports success. -/
  | sc (n rd rs2 rs1 : Nat) (rivals : List (List Nat))
  /-- AMO (R231): An AMO is performed single-copy atomically at the memory bank. -/
  | amo (n : Nat) (op : AmoOp) (rd rs2 rs1 : Nat) (rivals : List (List Nat))
  /-- RESERVATION_TIMEOUT (R231): A reservation is lost 256 CLK_FAB cycles after LR. -/
  | reservationTimeout (n : Nat)
  /-- FENCE (R248): FENCE waits for the store buffer to drain or loads to return as its sets name. -/
  | fence (n : Nat) (predR predW : Bool)
  /-- FENCE_I (R226): FENCE.I drains the store buffer and makes stores to instruction memory visible to fetch. -/
  | fenceI (n : Nat)
  /-- WFI (R227): WFI waits for an interrupt and counts toward cluster idle. -/
  | wfi (n : Nat)
  /-- XBLSTAT_WRITE (R242): Writing 0 to xblstat sticky flags clears them. -/
  | xblstatWrite (n : Nat) (v : W32)
  /-- MACS (R232): MACS adds a signed product to an accumulator with saturation. -/
  | macs (n acc rs1 rs2 : Nat)
  /-- MACU (R232): MACU adds an unsigned product to an accumulator with saturation. -/
  | macu (n acc rs1 rs2 : Nat)
  /-- MSUS (R241): MSUS subtracts a signed product from an accumulator. -/
  | msus (n acc rs1 rs2 : Nat)
  /-- MULA (R241): MULA sets an accumulator to a signed product. -/
  | mula (n acc rs1 rs2 : Nat)
  /-- ACLR (R241): ACLR clears an accumulator. -/
  | aclr (n acc : Nat)
  /-- ARD (R233): ARD reads an accumulator shifted, rounded and saturated to 32 bits. -/
  | ard (n rd acc imm : Nat)
  /-- ARDX (R233): ARDX reads an accumulator shifted by 32 plus imm, rounded and saturated. -/
  | ardx (n rd acc imm : Nat)
  /-- ARDR (R241): ARDR reads raw accumulator bits. -/
  | ardr (n rd acc imm : Nat)
  /-- AWR (R241): AWR writes the low 64 bits of an accumulator with sign extension. -/
  | awr (n acc rs1 rs2 : Nat)
  /-- AWRH (R241): AWRH writes the top 8 bits of an accumulator. -/
  | awrh (n acc rs1 : Nat)
  /-- PADD16 (R234): PADD16 adds two packed halves with saturation. -/
  | padd16 (n rd rs1 rs2 : Nat)
  /-- PSUB16 (R234): PSUB16 subtracts two packed halves with saturation. -/
  | psub16 (n rd rs1 rs2 : Nat)
  /-- PMULQ15 (R234): PMULQ15 multiplies packed Q15 halves with rounding and saturation. -/
  | pmulq15 (n rd rs1 rs2 : Nat)
  /-- PMAC16 (R234): PMAC16 adds the sum of packed half products to an accumulator. -/
  | pmac16 (n acc rs1 rs2 : Nat)
  /-- PPACK (R241): PPACK packs two low halves into one register. -/
  | ppack (n rd rs1 rs2 : Nat)
  /-- PSRA16 (R241): PSRA16 shifts each half right arithmetically. -/
  | psra16 (n rd rs1 imm : Nat)
  /-- FDSTEP (R235): FDSTEP loads four samples and writes the cubic Lagrange value at a fractional delay. -/
  | fdstep (n rd rs1 rs2 : Nat) (rivals : List (List Nat))
  /-- DLSET (R238): DLSET arms the deadline timer at an absolute FCOUNT. -/
  | dlset (n rs1 rs2 : Nat) (dlie : Bool)
  /-- DLREL (R238): DLREL arms the deadline at the previous deadline plus a count. -/
  | dlrel (n rs1 : Nat) (dlie : Bool)
  /-- DLWAIT (R240): DLWAIT stalls until the deadline and returns the lateness, counting a miss if already late. -/
  | dlwait (n rd : Nat)
  /-- DLCLR (R241): DLCLR disarms the deadline and clears DLIE. -/
  | dlclr (n : Nat)
  /-- DEADLINE_EXPIRY (R238): FCOUNT reaches the armed deadline, releasing DLWAIT or raising interrupt 16 with DLIE. -/
  | deadlineExpiry (n : Nat)
  /-- END_JOB (R245): ECALL with a7 = 0 ends the current job. -/
  | endJob (n : Nat)
  /-- READ_DEVICE_TIME (R245): ECALL with a7 = 1 returns device time. -/
  | readDeviceTime (n : Nat)
  /-- READ_RELEASE_FCOUNT (R245): ECALL with a7 = 2 returns the job's release FCOUNT. -/
  | readReleaseFcount (n : Nat)
  /-- READ_SNAPSHOT (R245): ECALL with a7 = 3 writes a granted point's totals snapshot into data memory. -/
  | readSnapshot (n : Nat)
  /-- JOB_RELEASE (R244): The executive releases a periodic job each period, or a job for a task's message after its minimum interval. -/
  | jobRelease (item fc : Nat)
  /-- BUDGET_OVERRUN (R245): A job reaching its budget is stopped, counted and BUDGET_OVERRUN is posted. -/
  | budgetOverrun (n : Nat)
  /-- JOB_DEADLINE_MISS (R245): A job not ended by its deadline is stopped and counted in ENG_DLMISS. -/
  | jobDeadlineMiss (n : Nat)
  /-- ENGINE_MEMORY_ECC_ERROR (R257): A double-bit error in an engine's own memory retires it with cause 0x02. -/
  | engineMemoryEccError (n : Nat)
  /-- ENGINE_UNEXPECTED_TRAP (R257): An unexpected M-mode trap retires the engine with cause 0x03. -/
  | engineUnexpectedTrap (n : Nat)
  /-- REPLAY_COMPLETE (R269): The replacement makes up its backlog and MIGRATED is posted with the lost-sample count. -/
  | replayComplete (n first : Nat)
  /-- CHECKPOINT (R262): A point's work is checkpointed at a mains cycle end or every 640 samples into its older slot. -/
  | checkpoint (p idx : Nat) (est shadow : Option Nat)
  /-- SPARE_SELF_TEST (R257): Every 60 s a spare engine is self-tested and retired with cause 0x05 on failure. -/
  | spareSelfTest (n : Nat) (pass : Bool)
  /-- RETIRED_SELF_TEST (R276): Every 60 min a retired engine is self-tested and moves to probation on a pass. -/
  | retiredSelfTest (n : Nat) (pass : Bool)
  /-- PROBATION_COMPLETE (R277): A clean probation ends and the engine becomes SPARE. -/
  | probationComplete (n : Nat) (clean : Bool)
  /-- ADC_STABILITY_TRIP (R281): A serving or incoming ADC's stability monitor trips and a spare takes over or the step ends. -/
  | adcStabilityTrip (d : Firn) (a : Nat) (settled : Bool) (lost : Nat)
  /-- LANE_STEP_START (R304): A lane step begins and its spare ADC is connected to the channel as INCOMING. -/
  | laneStepStart (d : Firn) (k : Nat)
  /-- SEAM_DECISION (R305): At the handover index the seam is evaluated and the incoming ADC takes over on a pass. -/
  | seamDecision (d : Firn) (k : Nat) (ys ya : List Int)
  /-- ADC_CALIBRATION_DONE (R309): An ADC calibration ends and its coefficients are published, or it fails its checks. -/
  | adcCalibrationDone (d : Firn) (a : Nat) (m : CalSums)
  /-- REF_HALT_LIFT (R300): Divergence below 10 ppm for 60 s lifts the reference halt. -/
  | refHaltLift (d : Firn)
  /-- RESERVE_RECALIBRATION (R302): An ADC staying in RESERVE is recalibrated every 60 s. -/
  | reserveRecalibration (d : Firn) (a : Nat)
  /-- RETIRED_ADC_CALIBRATION (R280): A retired ADC is recalibrated in a free slot at most once per 60 s and returns after two clean calibrations. -/
  | retiredAdcCalibration (d : Firn) (a : Nat) (m : CalSums)
  /-- RTD_REVERSAL (R291): Every 1,024 samples an RTD source reverses its current and a resistance value is formed. -/
  | rtdReversal (d : Firn) (src idx : Nat)
  /-- CHANNEL_FAULT (R292): A channel fault condition sets CH_STATUS.FAULT and posts CHANNEL_FAULT. -/
  | channelFault (ch code : Nat)
  /-- CHANNEL_FAULT_CLEAR (R292): A fault condition absent for 1 s clears the channel's FAULT. -/
  | channelFaultClear (ch : Nat)
  /-- CAL_MEASURE (R316): CAL_MEASURE starts a measurement of a channel's mean and rms over N samples. -/
  | calMeasure (c : Chan)
  /-- CAL_MEASURE_DONE (R316): After N samples the CAL_MEASURE reply is sent. -/
  | calMeasureDone (d : Firn) (raw : List (Nat × Int)) (first : Nat)
  /-- CAL_WRITE (R317): CAL_WRITE writes channel coefficients under the seal and increments the calibration counter. -/
  | calWrite (c : Chan) (eff : Nat)
  /-- REF_BASELINE (R317): REF_BASELINE sets the working reference and q_base under the seal. -/
  | refBaseline (c : Chan)
  /-- CAL_DELAY (R335): CAL_DELAY writes a channel's delay and phase terms under the seal. -/
  | calDelay (c : Chan) (eff : Nat)
  /-- CYCLE_END (R345): At a mains cycle end the point's energies are formed, their direction decided and added to the rate's accumulators. -/
  | cycleEnd (p : Nat) (cross : Option Nat)
  /-- FIXED_BLOCK_ENTRY (R337): No crossing within 707 samples puts the point into fixed-block mode and posts FREQUENCY_RANGE. -/
  | fixedBlockEntry (p : Nat)
  /-- DC_BLOCK_END (R348): At each 32-sample block end a DC point's energy is formed and accumulated. -/
  | dcBlockEnd (p b : Nat)
  /-- DEMAND_SUBINTERVAL_END (R352): At a demand sub-interval end demand is computed and the maximum demand updated. -/
  | demandSubintervalEnd (p t : Nat)
  /-- HARMONIC_WINDOW_END (R354): A 10- or 12-cycle window ends and its harmonic groups and THD are computed. -/
  | harmonicWindowEnd (p : Nat)
  /-- MD_RESET (R353): MD_RESET copies and clears maximum demand and logs the reset. -/
  | mdReset (c : Chan)
  /-- ENERGY_MEASURE (R364): ENERGY_MEASURE starts a calibration energy measurement over N cycles. -/
  | energyMeasure (c : Chan) (first : Nat)
  /-- ENERGY_RESULT (R364): ENERGY_RESULT returns the progress and results of the measurement. -/
  | energyResult (c : Chan)
  /-- CONTROL_CYCLE_MARK (R419): A Firn die receives a control-cycle mark carrying device time and runs its per-mark work. -/
  | controlCycleMark (d : Firn) (dev m : Nat) (busy : Bool) (raw : List (Nat × List Nat))
  /-- LOCAL_MARK (R434): With no mark 1.1 ms after the previous one the Firn die makes its own mark. -/
  | localMark (d : Firn) (m : Nat) (busy : Bool) (raw : List (Nat × List Nat))
  /-- RESTART_MARK_TIMEOUT (R422): No usable mark within 60 s of restart resumes the legal clock unverified. -/
  | restartMarkTimeout (d : Firn)
  /-- FREEZE_LINE_EDGE (R45): A freeze line rising freezes the point's session at the next sample index, or falling marks its path closed. -/
  | freezeLineEdge (p : Nat) (rising : Bool) (idx : Nat)
  /-- READING_RECORD_FORM (R445): Once session registers are final the Firn die forms, signs, queues and sends the reading record. -/
  | readingRecordForm (p : Nat)
  /-- RECORD_ACKNOWLEDGE (R447): The C-die acknowledges a reading record and the point returns from FROZEN to IDLE. -/
  | recordAcknowledge (d : Firn) (seq : Nat)
  /-- FLOW_BLOCK_END (R376): At each 100 ms block end a flow point's quantities, direction, faults and freeze rule are evaluated. -/
  | flowBlockEnd (p b : Nat)
  /-- PULSE_EDGE (R385): A timestamped pulse edge from the pulse link is judged, paired or held, and counts are added. -/
  | pulseEdge (i : Nat) (isB rising : Bool) (t : Nat)
  /-- PULSE_HOLD_EXPIRY (R387): An unpaired pulse's hold ends and it is counted with a supplied counterpart or discarded. -/
  | pulseHoldExpiry (i : Nat) (isB : Bool) (t : Nat)
  /-- INFERRED_PULSE (R390): 1.5P without a pulse places an inferred pulse on a single-train input. -/
  | inferredPulse (i : Nat)
  /-- ACQUISITION_RESTART (R388): 4P without a count restarts pulse acquisition. -/
  | acquisitionRestart (p : Nat)
  /-- FLOW_TAIL_TIMEOUT (R397): TAIL_MAX after the freeze line rose freezes a flow-rule point. -/
  | flowTailTimeout (p idx : Nat)
  /-- FLOW_PARAM (R368): FLOW_PARAM writes a flow parameter set under the seal. -/
  | flowParam (c : Chan) (eff : Nat)
  /-- PROVE_ARM (R401): PROVE_ARM arms a proving run on a detector input. -/
  | proveArm (c : Chan)
  /-- PROVE_RESULT (R401): PROVE_RESULT returns the proving run's state and results. -/
  | proveResult (c : Chan)
  /-- PROVE_TIMEOUT (R401): A proving run without a second detector edge within 600 s times out. -/
  | proveTimeout (i : Nat)
  /-- SEAL_CHANGE (R411): SEAL changes between defined states and a seal-change tamper is logged. -/
  | sealChange (d : Firn) (high : Bool)
  /-- TAMPER_INPUT (R473): A COVER or MAGNET input changes, counting an occurrence on assertion and logging a TAMPER record. -/
  | tamperInput (d : Firn) (magnet high : Bool)
  /-- FIRMWARE_CHECK_PERIODIC (R416): Every 24 h, or 10 min while halted, the check value is recomputed and a mismatch halts or a match lifts. -/
  | firmwareCheckPeriodic (d : Firn) (v : W32)
  /-- FIRMWARE_CHECK (R454): FIRMWARE_CHECK computes the check value and replies with it. -/
  | firmwareCheck (c : Chan) (v : W32)
  /-- LEGAL_FIRMWARE_INSTALL (R415): A legal firmware image is written to the inactive slot, activated, logged and the die restarts. -/
  | legalFirmwareInstall (d : Firn) (v : W32) (ok : Bool)
  /-- LEGAL_TIME_SET (R424): LEGAL_TIME_SET steps the legal clock at the next mark under the seal. -/
  | legalTimeSet (c : Chan) (eff : Nat)
  /-- RATE_SWITCH (R428): Civil time reaches a profile minute and the tariff rate changes from that index. -/
  | rateSwitch (d : Firn) (idx : Nat)
  /-- RATE_SCHEDULE (R429): RATE_SCHEDULE checks a schedule and stores it as pending. -/
  | rateSchedule (c : Chan) (mark : Nat)
  /-- SCHEDULE_ACTIVATION (R430): At its activation time a pending schedule replaces the one in force. -/
  | scheduleActivation (d : Firn) (k idx : Nat)
  /-- PFW_FALL (R437): PFW falls, regelation stops and each point is finally committed at the cut index. -/
  | pfwFall (d : Firn) (idx : Nat) (done : Bool)
  /-- PFW_RISE (R442): PFW rises again without supply loss. -/
  | pfwRise (d : Firn)
  /-- PFW_HIGH_TIMEOUT (R442): PFW high for 100 ms restarts the die from its store. -/
  | pfwHighTimeout (d : Firn) (ok0 ok1 : Bool) (check : W32) (bad : List Nat)
  /-- PULSE_OUT (R453): PULSE_OUT configures or disables a pulse test output. -/
  | pulseOut (c : Chan)
  /-- PULSE_TEST_OUTPUT_EDGE (R451): The spread quantity crosses a multiple of QPP and a test pulse starts or is queued. -/
  | pulseTestOutputEdge (d : Firn) (k : Nat)
  /-- PULSE_TEST_OUTPUT_END (R452): A test pulse's width ends. -/
  | pulseTestOutputEnd (d : Firn) (k : Nat)
  /-- OUTAGE_READ (R454): OUTAGE_READ returns a point's unbilled-outage register. -/
  | outageRead (c : Chan)
  /-- LEGAL_IDENTITY (R449): LEGAL_IDENTITY returns the die's serial, public key and certificate. -/
  | legalIdentity (c : Chan)
  /-- DISPLAY_FRAME_END (R462): At a frame end the front buffer CRC is compared and a mismatch blanks the display. -/
  | displayFrameEnd (upset : List (Nat × Byte))
  /-- DISPLAY_FAULT_REWRITE (R463): Every 10 s in a display fault the buffers are rewritten. -/
  | displayFaultRewrite
  /-- DISP_MAP (R461): DISP_MAP stores the glass map once while unsealed. -/
  | dispMap (c : Chan)
  /-- DISP_SCROLL (R468): DISP_SCROLL stages scroll items and commits a new sequence. -/
  | dispScroll (c : Chan)
  /-- SCROLL_DWELL_EXPIRY (R469): An item's dwell ends and the display advances. -/
  | scrollDwellExpiry
  /-- DISP_STEP_PRESS (R469): A short DISP_STEP press advances to the next item and pauses scrolling. -/
  | dispStepPress
  /-- DISP_STEP_LONG_PRESS (R469): DISP_STEP held for 2 s returns to the first item. -/
  | dispStepLongPress
  /-- SCROLL_RESUME (R469): 60 s after the last press automatic scrolling resumes. -/
  | scrollResume
  /-- F1_DISPLAY_VALUES (R471): F0 receives and verifies F1's signed item values. -/
  | f1DisplayValues (ok : Bool) (vals : List (Nat × Nat))
  /-- F1_VALUES_STALE (R471): F1 values older than 5 s are shown as dashes and error 0x5 holds. -/
  | f1ValuesStale
  /-- MORAINE_RELEASE (R479): MORAINE_RELEASE releases held log entries up to a SEQ while unsealed. -/
  | moraineRelease (c : Chan)
  /-- SLOT_REPLAY (R506): Firmware rebuilds a quarantined slot from journal images, or keeps it quarantined. -/
  | slotReplay (n : Nat) (bad : List Nat)
  /-- RECORD_ARRIVAL (R501): A signed reading record arrives, is journalled and acknowledged. -/
  | recordArrival (d : Firn) (seq : Nat) (fs : List TagFail)
  /-- PARK_TIMEOUT (R512): A park not completed within 100 ms refuses Off. -/
  | parkTimeout
  /-- PILOT_STATE_CONFIRMED (R520): A pilot state classified in three consecutive periods is confirmed. -/
  | pilotStateConfirmed (i : Nat) (high low : Int)
  /-- PROXIMITY_CONFIRMED (R525): A proximity code classified three times is confirmed. -/
  | proximityConfirmed (i ohm : Nat)
  /-- OFFER_BELOW_MINIMUM_TIMEOUT (R523): A vehicle still in C or D 6 s after PWM stopped below 6 A has its contactor ordered off. -/
  | offerBelowMinimumTimeout (i : Nat)
  /-- OVERCURRENT (R524): A phase above its limit for 5 s ends the session and posts OVERCURRENT. -/
  | overcurrent (i : Nat)
  /-- OFFER_TIMEOUT (R527): ARMED for OFFER_TIMEOUT without state C ends the session. -/
  | offerTimeout (i : Nat)
  /-- TRIP_STATE_F_TIMEOUT (R526): After 5 s of state F in TRIPPED the pilot returns to +12 V. -/
  | tripStateFTimeout (i : Nat)
  /-- LOCK_FEEDBACK_CHANGE (R531): The filtered lock feedback changes, confirming a drive or triggering a lost-lock reflex. -/
  | lockFeedbackChange (i : Nat) (locked : Bool)
  /-- LOCK_CONFIRM_TIMEOUT (R531): No confirmation within 300 ms of a lock drive schedules a retry or posts LOCK_FAULT. -/
  | lockConfirmTimeout (i : Nat)
  /-- LOCK_RETRY (R531): One second after a failed window the lock drive is repeated. -/
  | lockRetry (i : Nat)
  /-- LOCK_HOLD_EXPIRY (R532): De-energised for LOCK_HOLD, the point becomes unlockable and unlocking follows. -/
  | lockHoldExpiry (i : Nat)
  /-- CREDENTIAL_EXPIRY (R533): A credential kept in SLICE_CRED for 60 s expires. -/
  | credentialExpiry (i : Nat)
  /-- SLAC_MATCH (R537): The modem reports a SLAC match and SDP and the protocol begin. -/
  | slacMatch (i atten : Nat) (sdp : Bool) (tls : Option Bool) (offers : List Nat) (tls13 : Bool)
  /-- SLAC_TIMEOUT (R537): No match within 20 s fails SLAC, driving state E or falling back. -/
  | slacTimeout (i : Nat)
  /-- SLAC_RETRY (R537): After 4 s of state E SLAC matching is tried again. -/
  | slacRetry (i : Nat)
  /-- HLC_AUTHORIZATION (R535): An Authorization exchange verifies a Plug & Charge contract chain and forms its credential. -/
  | hlcAuthorization (i : Nat) (emaid : List Byte) (nb na : Nat) (ok : Bool)
  /-- HLC_AUTHORIZATION_TIMEOUT (R533): An HLC session waiting 60 s in Authorization fails. -/
  | hlcAuthorizationTimeout (i : Nat)
  /-- HLC_POWER_DELIVERY (R527): The vehicle's PowerDelivery to start lets the switch close. -/
  | hlcPowerDelivery (i : Nat) (start : Bool)
  /-- HLC_CURRENT_DEMAND (R539): A CurrentDemand or charge-loop request enters the arbiter at vehicle rank and is answered with the effective limit. -/
  | hlcCurrentDemand (i u : Nat) (cur : Int)
  /-- CONVERTER_STALE (R540): A DC converter not READY in 10 s, or reporting older than 2 s, ends the session. -/
  | converterStale (i : Nat)
  /-- EARTH_FAULT_TRIP (R542): A DC residual band's persistence timer expires, switching off and latching TRIPPED. -/
  | earthFaultTrip (i : Nat) (dc : Int)
  /-- RDC_SELF_TEST_RESULT (R543): The pre-close RDC self-test trip indication arrives or times out at 50 ms. -/
  | rdcSelfTestResult (i : Nat) (ok : Bool)
  /-- INSULATION_MEASUREMENT (R544): An insulation measurement warns, or after 1 s below threshold trips a DC slice. -/
  | insulationMeasurement (i r u umax : Nat) (long : Bool)
  /-- CABLE_CHECK_RESULT (R544): Cable check gives its insulation result within 5 s. -/
  | cableCheckResult (i r u umax : Nat) (selfTest : Bool)
  /-- OVERLOAD_TRIP (R562): Current limiting for ILIM_TIME switches a channel off for overload. -/
  | overloadTrip (n : Nat)
  /-- OVERLOAD_RESTART_DELAY (R562): One second after an overload trip the channel asks the governor for a restart. -/
  | overloadRestartDelay (n : Nat)
  /-- OVERTEMPERATURE_TRIP (R563): A channel junction at 170 °C switches off and may latch. -/
  | overtemperatureTrip (n : Nat)
  /-- OVERTEMPERATURE_COOLED (R563): The junction falls below 150 °C and an auto-restart is requested. -/
  | overtemperatureCooled (n tj : Nat)
  /-- SWITCH_OPEN_LOAD (R567): An on output below the open-load threshold for 100 ms sets OPEN_LOAD. -/
  | switchOpenLoad (n : Nat)
  /-- SWITCH_FAILURE (R284): A switch failing a check is locked off and SWITCH_FAILED is posted. -/
  | switchFailure (n code : Nat)
  /-- VSW_UNDERVOLTAGE (R568): VSW below 7.5 V switches every output off and records restarts. -/
  | vswUndervoltage (v : Nat)
  /-- VSW_RESTORED (R568): VSW above 8.5 V queues waiting switches for governor restarts. -/
  | vswRestored (v : Nat)
  /-- SERIAL_WATCHDOG_EXPIRY (R569): The serial watchdog expires and outputs go to fail-safe states with pilots at F. -/
  | serialWatchdogExpiry
  /-- FAILSAFE_ON_SEQUENCE (R569): Each 200 ms the next FS-on switch is switched on by the sequencer. -/
  | failsafeOnSequence
  /-- DRV_ISNS_SEL_WRITE (R571): A DRV_ISNS_SEL write selects the switch mirrored on ISNS. -/
  | drvIsnsSelWrite (v : W32)
  /-- SNS_SEL_CHANGE (R571): A change on the SNS_SEL balls changes the ISNS selection. -/
  | snsSelChange (v : Nat)
  /-- TOKEN_RETURN (R573): A grant's token returns 1,000 ms after the grant. -/
  | tokenReturn (g : Nat)
  /-- DEFER_MAX_EXPIRY (R574): A queued entry reaching DEFER_MAX leaves the queue and completes with CAPACITY_REFUSED. -/
  | deferMaxExpiry (o : QObj)
  /-- RAMP_STEP (R577): Every 100 ms a ramping session's cap rises by a twentieth. -/
  | rampStep (p : Nat)
  /-- GOV_BUDGET_WRITE (R579): A GOV_BUDGET write changes a group budget from the next boundary. -/
  | govBudgetWrite (g : Nat) (v : W32)
  /-- GOV_SITE_BUDGET_WRITE (R579): A GOV_SITE_BUDGET write changes the site budget from the next boundary. -/
  | govSiteBudgetWrite (v : W32)
  /-- SERAC_CYCLE (R584): Every 500 µs Serac samples inputs, evaluates functions, runs diagnostics and writes enables. -/
  | seracCycle (samples : List (Nat × List Level)) (passed : List Nat)
  /-- DISCREPANCY_TIMEOUT (R597): Two channels disagreeing for DISC_MS put the function in FAULT. -/
  | discrepancyTimeout (f : Nat)
  /-- SERAC_CYCLE_MONITOR_EXPIRY (R588): A Serac cycle not complete within 600 µs is a direct-path failure. -/
  | seracCycleMonitorExpiry
  /-- SERAC_DIRECT_FAULT (R589): A direct-path diagnostic fails and Serac turns all enables off, resets and stays in FAULT. -/
  | seracDirectFault (code : Nat)
  /-- SERAC_OFF_PATH_FAULT (R607): An off-path diagnostic fails and Serac enters DEGRADED. -/
  | seracOffPathFault (code : Nat)
  /-- DEGRADED_TIME_STORE (R607): Every 10 s the remaining degraded time is written to the Serac store. -/
  | degradedTimeStore
  /-- SERAC_DEGRADED_REMINDER (R608): Every 10 min SERAC_DEGRADED is posted with the remaining minutes. -/
  | seracDegradedReminder
  /-- SERAC_DEGRADED_EXPIRY (R609): The degraded time runs out and Serac enters SAFE_HOLD. -/
  | seracDegradedExpiry
  /-- TEST_PULSE (R592): A test-pulse output drives its 400 µs low pulse in its 8 ms period. -/
  | testPulse (k low high : Nat)
  /-- THRESHOLD_SELF_TEST (R593): Once per second each safety input's threshold is self-tested. -/
  | thresholdSelfTest (bad : Nat)
  /-- ENABLE_UNTESTED_TIMEOUT (R602): A switch on for 24 h without a tested turn-off fails diagnostic 0x13. -/
  | enableUntestedTimeout (k : Nat)
  /-- IMAGE_HASH_CHECK (R588): Every 24 h Serac recomputes its image hash. -/
  | imageHashCheck (ok : Bool)
  /-- SERAC_START (R606): A delivered Serac image is hashed and accepted, starting the start-up tests. -/
  | seracStart (hash : Nat) (verified : Bool)
  /-- SERAC_START_TESTS_DONE (R606): Start-up tests end and Serac enters RUN, DEGRADED, SAFE_HOLD or FAULT. -/
  | seracStartTestsDone (direct : Nat) (off : List Nat)
  /-- LOGIN (R614): LOGIN opens a configuration session on a correct password. -/
  | login (p : Port)
  /-- LOGOUT (R612): LOGOUT ends the session and discards staged bytes. -/
  | logout (p : Port)
  /-- CONFIG_READ (R612): CONFIG_READ returns bytes of the configuration in force or staged. -/
  | configRead (p : Port)
  /-- CONFIG_STAGE (R612): CONFIG_STAGE writes bytes into the staging area. -/
  | configStage (p : Port)
  /-- CONFIG_COMMIT (R615): CONFIG_COMMIT writes the staged configuration with its log entry and restarts Serac or holds it pending. -/
  | configCommit (p : Port)
  /-- PASSWORD_SET (R614): PASSWORD_SET stores a new salted password hash. -/
  | passwordSet (p : Port)
  /-- LOG_READ (R612): LOG_READ returns up to 7 change-log entries. -/
  | logRead (p : Port)
  /-- LOG_RELEASE (R617): LOG_RELEASE frees held change-log entries. -/
  | logRelease (p : Port)
  /-- SERAC_RESTART (R610): SERAC_RESTART restarts Serac from FAULT or SAFE_HOLD if allowed. -/
  | seracRestart (p : Port)
  /-- SERAC_SESSION_TIMEOUT (R614): A session with no request for 10 min ends. -/
  | seracSessionTimeout
  /-- LOCKOUT_EXPIRY (R614): A 15 min login lockout ends. -/
  | lockoutExpiry
  /-- KY_ZERO_CROSSING (R627): A positive-going mains crossing on KY_ZC is timestamped and starts a unit. -/
  | kyZeroCrossing (t : Nat)
  /-- ZC_LOST (R627): No crossing within 1.5 T sets ZC_LOST and runs at the nominal period. -/
  | zcLost
  /-- BEACON_TRANSMIT (R635): 1 ms after the beacon slot starts the coordinator sends its beacon. -/
  | beaconTransmit
  /-- POLLED_SLOT (R638): At a polled slot the coordinator sends the next DATA, POLL, relay beacon or broadcast segment. -/
  | polledSlot
  /-- UP (R638): An UP frame from a node carries a message segment and completes a transaction. -/
  | up (rx : List Byte)
  /-- IDLE (R638): An IDLE frame from a node completes a transaction without a segment. -/
  | idle (rx : List Byte)
  /-- CONTENTION (R643): A CONTENTION frame in a sub-slot carries a join request or alert segment. -/
  | contention (rx : List Byte)
  /-- HOST_DATA (R661): A reassembled host-data message is queued for the port named in KY_CFG.HOST. -/
  | hostData (n : Nat)
  /-- COMMAND (R657): A node command is checked against permissions and entered at Kyoti rank, and its result is returned. -/
  | command (n : Nat)
  /-- ROUTE_REPORT (R649): A node's route report updates link costs and may change routes. -/
  | routeReport (n : Nat) (theta : Option Nat)
  /-- JOIN_REQUEST (R646): A join request is verified and accepted with an address, or refused. -/
  | joinRequest (src : Nat)
  /-- LEAVE (R648): A node's leave frees its address. -/
  | leave (n : Nat)
  /-- ALERT (R661): An alert sent in contention is queued for the host port. -/
  | alert (n : Nat)
  /-- TRANSACTION_TIMEOUT (R640): A transaction without answer is repeated, rerouted, failed, and may make the node LOST. -/
  | transactionTimeout (n : Nat)
  /-- LINE_FAULT (R626): A driver current or thermal trip ends the frame and disables the driver for 1 s. -/
  | lineFault (why : Nat)
  /-- LINE_FAULT_RECOVERY (R626): One second after a line fault the driver is usable again. -/
  | lineFaultRecovery
  /-- LOST_ADDRESS_EXPIRY (R648): A LOST node's address is freed after 24 h. -/
  | lostAddressExpiry (n : Nat)
  /-- JOIN_WINDOW_EXPIRY (R660): The JOIN_OPEN period ends. -/
  | joinWindowExpiry
  /-- CELL_START (R663): Once Kyoti is configured the cell starts at a superframe boundary with a new EPOCH. -/
  | cellStart
  /-- DETUNING_PING (R671): A ping measures a position's antenna and may detect a card. -/
  | detuningPing (p a : Nat) (ph : Int)
  /-- CONFIRMING_PING (R672): A second ping 200 µs later confirms a detection and starts polling. -/
  | confirmingPing (p a : Nat) (ph : Int)
  /-- BASELINE_CAPTURE (R673): A position's baseline is captured from 16 pings, taking it out of pinging on a fault. -/
  | baselineCapture (p : Nat) (pings : List (Nat × Int))
  /-- GUARD_EXPIRY (R675): After GUARD the reader sends REQA. -/
  | guardExpiry (n : Nat)
  /-- CARD_FRAME_RX (R674): A card answer advances anticollision, selection, signature read or the second-card check. -/
  | cardFrameRx (n : Nat) (f : CardFrame)
  /-- CARD_RESPONSE_TIMEOUT (R677): A card exchange that fails after a retry ends the presentation. -/
  | cardResponseTimeout (n : Nat) (error : Bool)
  /-- PRESENTATION_TIMEOUT (R677): A presentation lasting 1 s ends without a credential. -/
  | presentationTimeout (n : Nat)
  /-- SIGNATURE_VERIFY_DONE (R678): The originality signature check ends and a credential is formed or refused. -/
  | signatureVerifyDone (p : Nat) (ok : Bool)
  /-- KEY_REMASK (R695): Once per second each slot's key shares are re-masked. -/
  | keyRemask
  /-- DRBG_RESEED (R692): The DRBG is reseeded at start and every 2^16 requests, with health tests. -/
  | drbgReseed (ok : Bool)
  /-- TAMPER_MONITOR_TRIP (R710): An armed VBAT tamper monitor trips and zeroes the root and keys. -/
  | tamperMonitorTrip (k : Nat)
  /-- FUNCTION_D3HOT (R139): The host moves a port's function into D3hot or back to D0, holding or releasing that port's DMA traffic. -/
  | functionD3hot (p : Port) (enter : Bool)
  /-- OVERTEMP_RESET_RELEASE (R110): The C-die junction falls below 105 °C and the C-die held in reset for overtemperature is released to boot. -/
  | overtempResetRelease
  /-- FIRN_PLL_RELOCK (R73): REFCLK returns at a Firn die, its Firn PLL locks, the die leaves its monitor oscillator and the clock halt is lifted. -/
  | firnPllRelock (d : Firn)
  /-- ANNOUNCE_RECEIPT_TIMEOUT (R186): No Announce within the receipt timeout makes the best master clock algorithm change the port's PTP state. -/
  | announceReceiptTimeout (p st : Nat)
  /-- PTP_DELAY_REQ_TRANSMIT (R187): As slave the port sends a timestamped Delay_Req at its interval to measure path delay. -/
  | ptpDelayReqTransmit (p : Nat)
  /-- HLC_SEQUENCE_TIMEOUT (R538): A sequence, performance or SDP timer of the protocol in use expires and the HLC session fails with HLC_FAILED. -/
  | hlcSequenceTimeout (i : Nat)
  /-- PREAMBLE_DETECTION (R102): The Kyoti receiver detects a preamble and a frame in progress begins, deferring Sleep and Deep sleep entry. -/
  | preambleDetection
  /-- KYOTI_FRAME_DISCARDED (R632): A received Kyoti frame that fails codeword 0 or carries another version, cell or bad field is discarded and counted, ending its frame in progress. -/
  | kyotiFrameDiscarded (rx : List Byte) (sub : Bool)
deriving DecidableEq, Repr

end Sys2Proof
end

