-- ==== Sys2Proof/Decode.lean ====
section
/-!
DEFINITION. Decode.lean: what the opcode table's bits spell. No row of the table gives its command any bits (every row's list of
fields is empty), so no word spells a command (log entry 5).
-/
namespace Sys2Proof

/-- The command that the low `nbits` bits of `w` spell, as the opcode table numbers them: none, for the table gives no row bits. -/
def decodeTableWord (_nbits _w : Nat) : Option Instr := none

end Sys2Proof
end

