-- ==== Sys2Proof/Machine/Tab.lean ====
section
/-!
DEFINITION. Machine/Tab.lean: sparse tables: a list of (key, value) pairs with at most one pair a key. What a table holds
at a key it does not list is the default its reader gives. A write puts its pair first; nothing depends on the order.
-/
namespace Sys2Proof

/-- The value listed at a key. -/
def tabFind {κ α : Type} [DecidableEq κ] : List (κ × α) → κ → Option α
  | [], _ => none
  | (a, v) :: r, k => if a = k then some v else tabFind r k

/-- The table without a key. -/
def tabErase {κ α : Type} [DecidableEq κ] : List (κ × α) → κ → List (κ × α)
  | [], _ => []
  | (a, v) :: r, k => if a = k then tabErase r k else (a, v) :: tabErase r k

/-- The table's value at a key, `d` where it lists none. -/
def tabGet {κ α : Type} [DecidableEq κ] (d : α) (t : List (κ × α)) (k : κ) : α := (tabFind t k).getD d

/-- The table with a key's value set. -/
def tabSet {κ α : Type} [DecidableEq κ] (t : List (κ × α)) (k : κ) (v : α) : List (κ × α) := (k, v) :: tabErase t k

/-- A value cut to a saturating counter of this width. -/
def satTo (width n : Nat) : Nat := min n (2 ^ width - 1)

/-- Signed reading of the low `w` bits of a natural number. -/
def signedOf (w n : Nat) : Int := let m := n % 2 ^ w; if m < 2 ^ (w - 1) then (m : Int) else (m : Int) - 2 ^ w

/-- The low `w` bits of an integer. -/
def bitsOf (w : Nat) (z : Int) : Nat := (z % (2 ^ w : Int)).toNat

/-- An integer clamped to `w` signed bits. -/
def clampS (w : Nat) (z : Int) : Int := max (-(2 ^ (w - 1) : Int)) (min z (2 ^ (w - 1) - 1))

/-- The bits `lo + width - 1` to `lo` of a number. -/
def bitsAt (n lo width : Nat) : Nat := n / 2 ^ lo % 2 ^ width

/-- Is bit `i` of a number 1? -/
def bitAt (n i : Nat) : Bool := n / 2 ^ i % 2 == 1

/-- A number with its bits `lo + width - 1` to `lo` replaced. -/
def putBits (n lo width v : Nat) : Nat := n - bitsAt n lo width * 2 ^ lo + v % 2 ^ width * 2 ^ lo

/-- The little-endian number of a list of bytes (R19). -/
def leNat : List Byte → Nat
  | [] => 0
  | b :: r => b.toNat + 256 * leNat r

/-- The little-endian bytes of a number (R19). -/
def leBytes : Nat → Nat → List Byte
  | 0, _ => []
  | k + 1, n => BitVec.ofNat 8 n :: leBytes k (n / 256)

/-- Division rounded to the nearest integer, half to even (R33). -/
def divHalfEven (a : Int) (b : Nat) : Int :=
  let q := a / (b : Int); let r := a % (b : Int)
  if 2 * r < b then q else if 2 * r > b then q + 1 else if q % 2 = 0 then q else q + 1

/-- A Bool as a bit. -/
def b2n (b : Bool) : Nat := if b then 1 else 0

/-- Replace the list element at a position. -/
def listSet {α : Type} : List α → Nat → α → List α
  | [], _, _ => []
  | _ :: r, 0, v => v :: r
  | a :: r, n + 1, v => a :: listSet r n v

/-- Numbers 0 to n - 1, rising. -/
def upTo : Nat → List Nat
  | 0 => []
  | n + 1 => upTo n ++ [n]

end Sys2Proof
end

