-- ==== Sys2Proof/Machine/Num.lean ====
section
/-!
DEFINITION. Machine/Num.lean: number formats: square roots, single precision, CRC-32, billing registers (R31, R32, R462).
-/
namespace Sys2Proof

/-- The integer square root, found bit by bit from bit `k - 1` down. -/
def isqrtFrom : Nat → Nat → Nat → Nat
  | 0, _, r => r
  | k + 1, n, r => if (r + 2 ^ k) * (r + 2 ^ k) ≤ n then isqrtFrom k n (r + 2 ^ k) else isqrtFrom k n r

/-- The integer square root of a number below 2^512. -/
def isqrt (n : Nat) : Nat := isqrtFrom 256 n 0

/-- Division rounded half up (R233, R296). -/
def divHalfUp (a : Int) (b : Nat) : Int := (2 * a + b) / (2 * b)

/-- A positive single-precision value as mantissa and exponent of 2 (R296: sign and NaN play no part where it is used). -/
def f32Parts (w : W32) : Nat × Int :=
  let e := bitsAt w.toNat 23 8; let m := bitsAt w.toNat 0 23
  if e = 0 then (m, -149) else (m + 2 ^ 23, (e : Int) - 150)

/-- A positive single-precision value on the common scale 2⁻¹⁴⁹. -/
def f32Int (w : W32) : Nat := let (m, e) := f32Parts w; m * 2 ^ (e + 149).toNat

/-- Is the single-precision value negative, and not −0? -/
def f32Neg (w : W32) : Bool := bitAt w.toNat 31 && w.toNat % 2 ^ 31 != 0

/-- A single-precision value times 2^k, truncated toward zero. -/
def f32Scaled (w : W32) (k : Int) : Nat :=
  let (m, e) := f32Parts w
  if 0 ≤ e + k then m * 2 ^ (e + k).toNat else m / 2 ^ (-(e + k)).toNat

/-- Is `a * 2^x < b * 2^y`? -/
def scaledLt (a : Nat) (x : Int) (b : Nat) (y : Int) : Bool :=
  if y ≤ x then decide (a * 2 ^ (x - y).toNat < b) else decide (a < b * 2 ^ (y - x).toNat)

/-- `a * 2^x / d`, rounded half to even. -/
def scaledDiv (a : Int) (x : Int) (d : Nat) : Int :=
  if 0 ≤ x then divHalfEven (a * 2 ^ x.toNat) d else divHalfEven a (d * 2 ^ (-x).toNat)

/-- CRC-32 (R462): one bit, one byte, a list of bytes. -/
def crcBit (c : W32) : W32 := if c &&& 1 = 1 then (c >>> 1) ^^^ 0xEDB88320 else c >>> 1
def crcByte (c : W32) (b : Byte) : W32 :=
  crcBit (crcBit (crcBit (crcBit (crcBit (crcBit (crcBit (crcBit (c ^^^ b.setWidth 32))))))))
def crc32 (bs : List Byte) : W32 := ~~~ (bs.foldl crcByte 0xFFFFFFFF)

/-- R32: the billing register of an accumulator. -/
def billing (acc : Nat) : Nat := min (acc * 1000000 / 2 ^ 64) (2 ^ 63 - 1)

/-- The bytes of a signed number, little-endian. -/
def leInt (k : Nat) (z : Int) : List Byte := leBytes k (z % (2 ^ (8 * k) : Int)).toNat

/-- Bytes `pos` to `pos + n - 1` of a list as a number; what the list lacks is 0. -/
def field (b : List Byte) (pos n : Nat) : Nat := leNat ((b.drop pos).take n)

/-- A list of bytes cut or filled with 0 to a length. -/
def padTo (n : Nat) (b : List Byte) : List Byte := (b ++ List.replicate (n - b.length) 0).take n

/-- Are all bytes outside the given ranges (first, last) 0? -/
def zeroOutside (b : List Byte) (rs : List (Nat × Nat)) : Bool :=
  (b.zipIdx).all fun x => x.1 == 0 || rs.any fun r => r.1 ≤ x.2 && x.2 ≤ r.2

/-- The cubic Lagrange value times 6 · 65,536³, for the step `m` / 65,536. -/
def lagrange (xm x0 x1 x2 m : Int) : Int :=
  let o : Int := 65536
  x0 * (3 * ((m + o) * (m - o) * (m - 2 * o))) - xm * (m * (m - o) * (m - 2 * o))
    - x1 * (3 * ((m + o) * m * (m - 2 * o))) + x2 * ((m + o) * m * (m - o))

/-- R235: the value rounded to the nearest integer, ties toward positive infinity. -/
def lagrangeRound (xm x0 x1 x2 m : Int) : Int :=
  let d : Int := 6 * 65536 ^ 3
  (2 * lagrange xm x0 x1 x2 m + d) / (2 * d)

end Sys2Proof
end

