-- ==== Sys2Proof/Config.lean ====
section
/-!
DEFINITION. Config.lean: what one unit fixes and what the spec leaves open. The open values are opaque: nothing can see
their value, so whatever is claimed of them holds for every value (log entries 1 and 2).
-/
namespace Sys2Proof.Config

/-- The n-th value the spec leaves open where a 32-bit word results (log entry 1). -/
opaque freeWord : Nat → BitVec 32

/-- The n-th natural number the spec leaves open; each use bounds it as the spec does (log entry 1). -/
opaque freeNat : Nat → Nat

/-- A built-in table of the property models (R380, R383, R384) and a limit of ISO 5167, which the spec names and does not print: entry `n` at
its arguments, in the units of Machine/Reals.lean (log entry 2). -/
opaque table : Nat → List Int → Int

/-- The word that an ADC delivers for a channel (global number) at a sample index, where no command brings it (log entry 156). -/
opaque rawWord : Nat → Nat → BitVec 24

/-- A hash, tag, cipher or signature the spec names but whose value no rule of the module's states depends on: the number
`n` says which function, the list what it is computed over (log entry 3). -/
opaque digest : Nat → List Nat → Nat

end Sys2Proof.Config
end

