-- ==== Sys2Proof/Machine/Names.lean ====
section
/-!
DEFINITION. Machine/Names.lean: codes and names of dies, ports and variants.
-/
namespace Sys2Proof

/-! ### Units present (R1, R2, R7, R8) -/

def Variant.code : Variant → Nat | .bx9192 => 0 | .bx9096 => 1 | .bx9192L => 2 | .bx9192M => 3
def Variant.hasF1 (v : Variant) : Bool := v != .bx9096
def Variant.hasDdie (v : Variant) : Bool := v != .bx9192M
def Variant.hasKyoti (v : Variant) : Bool := v == .bx9192 || v == .bx9096
def Variant.hasReader (v : Variant) : Bool := v == .bx9192 || v == .bx9096

/-- R2, R11, R15: is the unit that owns an input present? -/
def Variant.hasInput (v : Variant) : Inp → Bool
  | .cover d | .magnet d | .seal d => d == .f0 || v.hasF1
  | .dispStep | .wake => true
  | .kyZc => v.hasKyoti
  | _ => v.hasDdie

/-- The SYS_UNIT_PRESENT value of a variant (R8). -/
def Variant.unitPresent : Variant → W32
  | .bx9192 => 0x0000007F | .bx9096 => 0x0100007B | .bx9192L => 0x0200001F | .bx9192M => 0x03000007

def Firn.die : Firn → Die | .f0 => .f0 | .f1 => .f1
def Firn.link : Firn → Link | .f0 => .firn0 | .f1 => .firn1
def Firn.xid : Firn → Nat | .f0 => 4 | .f1 => 5

/-- R49: the source codes. -/
def Port.source : Port → Nat | .h0 => 4 | .h1 => 5
def Firn.source : Firn → Nat | .f0 => 2 | .f1 => 3

/-! Mailbox channels (R189). -/

def Chan.sender : Chan → MbxEnd
  | .hostFw p | .hostEng p _ | .hostFirn p _ | .hostSerac p => .host p
  | .fwHost _ | .fwFirn _ | .fwSerac | .fwEng _ => .firmware
  | .engHost _ n | .engFw n => .engine n
  | .firnHost _ d | .firnFw d => .firn d
  | .seracHost _ | .seracFw => .serac

def Chan.receiver : Chan → MbxEnd
  | .hostFw _ | .engFw _ | .firnFw _ | .seracFw => .firmware
  | .fwHost p | .engHost p _ | .firnHost p _ | .seracHost p => .host p
  | .hostEng _ n | .fwEng n => .engine n
  | .hostFirn _ d | .fwFirn d => .firn d
  | .hostSerac _ | .fwSerac => .serac

/-- The channel a reply travels on. -/
def Chan.reverse : Chan → Chan
  | .hostFw p => .fwHost p | .fwHost p => .hostFw p
  | .hostEng p n => .engHost p n | .engHost p n => .hostEng p n
  | .hostFirn p d => .firnHost p d | .firnHost p d => .hostFirn p d
  | .hostSerac p => .seracHost p | .seracHost p => .hostSerac p
  | .fwFirn d => .firnFw d | .firnFw d => .fwFirn d
  | .fwSerac => .seracFw | .seracFw => .fwSerac
  | .fwEng n => .engFw n | .engFw n => .fwEng n

/-- R189: the BAR0 offset of a channel's slot; an internal channel has none. -/
def Chan.slot : Chan → Option Nat
  | .hostFw p => some (0x81000 + 0x200 * p.num)
  | .fwHost p => some (0x81400 + 0x200 * p.num)
  | .hostEng p n => some (0xC0000 + 0x800 * n + 0x200 * p.num)
  | .engHost p n => some (0xC0400 + 0x800 * n + 0x200 * p.num)
  | .hostFirn p d => some (0x330000 + 0x40000 * d.num + 0x200 * p.num)
  | .firnHost p d => some (0x330400 + 0x40000 * d.num + 0x200 * p.num)
  | .hostSerac p => some (0x480000 + 0x200 * p.num)
  | .seracHost p => some (0x480400 + 0x200 * p.num)
  | _ => none

/-- An accessor's number, which selects its own copy of MBX_ERR and SPAD_APER (R206, R215); its mailbox end; its initiator code in
FAB_XERR. -/
def Accessor.num : Accessor → Nat | .host p => p.num | .firmware => 2
def Accessor.mbxEnd : Accessor → MbxEnd | .host p => .host p | .firmware => .firmware
def Accessor.initCode : Accessor → Nat | .host p => p.num | .firmware => 3

/-- The XID of the crossing a channel passes (R202). -/
def Chan.xid : Chan → Nat
  | .hostFirn _ d | .firnHost _ d | .fwFirn d | .firnFw d => d.xid
  | .hostSerac _ | .seracHost _ | .fwSerac | .seracFw => 0xB
  | _ => 0

/-- The accessor whose MBX_ERR records an end's errors (R206): 0 H0, 1 H1, 2 firmware. -/
def MbxEnd.errIdx : MbxEnd → Option Nat
  | .host p => some p.num
  | .firmware => some 2
  | _ => none

/-- The channels between the C-die and a Firn die, and those of Serac. -/
def Chan.ofFirn (d : Firn) : Chan → Bool
  | .hostFirn _ e | .firnHost _ e | .fwFirn e | .firnFw e => e == d
  | _ => false
def Chan.ofSerac : Chan → Bool
  | .hostSerac _ | .seracHost _ | .fwSerac | .seracFw => true
  | _ => false


/-- The switch that a governor entry is about. -/
def QObj.switch : QObj → Option Nat | .start _ => none | .on n => some n | .restart n _ => some n

end Sys2Proof
end

