-- ==== Sys2Proof/Regs.lean ====
section
/-!
DEFINITION. Regs.lean: the registers of the module, one name per register of the spec's register tables (R20 to R26,
R141). An indexed register (a port, a point, a slice, a key slot ...) is one name; its index stands beside it in `RegKey`.
The domain says which reset puts the register back to its reset value (R107, R742).
-/
namespace Sys2Proof

/-- A register of the module, by the spec's own name. -/
inductive Reg where
  | SYS_ID
  | SYS_REV
  | SYS_UNIT_PRESENT
  | CLK_STATUS
  | CLK_ERR
  | PWR_DVFS
  | PWR_DVFS_ERR
  | PWR_STATE
  | PWR_REQ
  | PWR_REQ_STATUS
  | PWR_IDLE_CFG
  | PWR_WAKE_EN
  | PWR_WAKE_SRC
  | PWR_ALARM_LO
  | PWR_ALARM_HI
  | WP_CFG
  | WP_STATUS
  | WP_BUF
  | RST_CAUSE
  | RST_CTRL
  | FAB_XERR
  | FAB_XERR_ADDR
  | BOOT_STATUS
  | BOOT_STRAP
  | BOOT_IMG_LO
  | BOOT_IMG_HI
  | BOOT_IMG_LEN
  | HOST_WIN_LO
  | HOST_WIN_HI
  | HOST_WIN_SIZE
  | RING_SEL
  | RING_BASE_LO
  | RING_BASE_HI
  | RING_DB_LO
  | RING_DB_HI
  | RING_CFG
  | RING_CTRL
  | RING_STATUS
  | HOST_CTRL
  | HOST_STATUS
  | HOST_ERR
  | HOST_EVT_LOST
  | HOST_EVT_CFG
  | ETH_CFG
  | ETH_MAC_LO
  | ETH_MAC_HI
  | ETH_STATUS
  | ETH_OFFSET
  | ETH_PATH
  | ETH_RX_FRAMES
  | ETH_RX_DROPPED
  | ETH_TX_FRAMES
  | ETH_PTP_RX
  | ETH_TIME_TRIM
  | ETH_MDIO
  | MBX_ERR
  | SPAD_APER
  | SPAD_CONF
  | SPAD_ECC
  | ENG_MPU_BASE
  | ENG_MPU_LIMIT
  | ENG_MPU_FAULT
  | ENG_MPU_FAULT_ADDR
  | ENG_STATE
  | ENG_LOAD
  | ENG_DLMISS
  | ENG_HEALTH
  | ENG_ADMIT_STATUS
  | ENG_ADMIT_ITEM
  | ENG_ADMIT_SPARES
  | ENG_POOL
  | CH_CFG
  | CH_STATUS
  | CH_SAMPLE
  | CH_INDEX
  | CH_GAIN
  | CH_OFFSET
  | CH_SCALE
  | CH_SEAM
  | CH_REGEL_LO
  | CH_REGEL_HI
  | CH_OVR_COUNT
  | CH_DELAY
  | CH_PHASE
  | CH_DELAY_EFF
  | ADC_STATUS
  | ADC_GAIN
  | ADC_OFFSET
  | ADC_COUNT
  | REF_STATUS
  | REF_DEV
  | REGEL_STATUS
  | REGEL_ROUND
  | REGEL_SEAMS
  | REGEL_SEAM_FAIL
  | MP_UNB_LO
  | MP_UNB_HI
  | MP_CFG
  | MP_STATE
  | MP_UCH
  | MP_ICH
  | MP_FREQ
  | MP_P
  | MP_Q
  | MP_S
  | MP_PF
  | MP_START_INDEX
  | MP_FREEZE_INDEX
  | FP_STATUS
  | FP_RATE
  | FP_QM
  | FP_DP
  | FP_P
  | FP_T
  | FP_RHO
  | FP_H
  | FP_C
  | FP_PRED
  | FP_TRIM
  | FP_BLOCK
  | FP_OUTSIDE
  | MP_DEMAND
  | MP_MD
  | MP_UN
  | MP_IN
  | MP_MD_RESETS
  | MP_REC_SEQ
  | MP_REC_STATE
  | MP_COMMIT_IDX
  | MP_OUTAGES
  | MP_URMS
  | MP_IRMS
  | MP_BILL_LO
  | MP_BILL_HI
  | MP_MD_TIME
  | PI_CFG
  | PI_CORR
  | PI_EDGES
  | PI_MISS
  | PI_SPUR
  | FIRN_STATUS
  | FIRN_CAL_COUNT
  | FIRN_CHECK
  | FIRN_CHECK_REF
  | FIRN_LTIME_LO
  | FIRN_LTIME_HI
  | FIRN_CLOCK_DEV
  | FIRN_ADJ_USED
  | FIRN_COMMIT_SEQ
  | FIRN_COMMIT_CFG
  | FIRN_REC_SEQ
  | FIRN_QUEUE
  | FIRN_OUTAGES
  | FIRN_SCHED
  | FIRN_SCHED_PEND
  | FENG_STATE
  | FENG_HEALTH
  | FENG_DLMISS
  | FIRN_POOL
  | FSPAD_CONF
  | FSPAD_ECC
  | PTO_CFG
  | PTO_COUNT
  | PTO_QPP
  | TAMPER_COUNT
  | TAMPER_STATE
  | TAMPER_FIRST
  | TAMPER_LAST
  | MOR_STATUS
  | MOR_HEAD_SEQ
  | MOR_TAIL_SEQ
  | MOR_LOST
  | MOR_OVERWRITTEN
  | DISP_STATUS
  | DISP_CFG
  | DISP_CRC
  | LEDGER_STATUS
  | LEDGER_ERR
  | LEDGER_POST_SEQ_LO
  | LEDGER_POST_SEQ_HI
  | LEDGER_QUARANTINED
  | LEDGER_POISONED
  | LEDGER_LAST_ABORT
  | LEDGER_TAG_FAIL_ADDR
  | LEDGER_POSTS
  | LEDGER_ABORTS
  | LEDGER_JOURNAL
  | TARIFF_STATUS
  | TARIFF_ID
  | TARIFF_PEND_ID
  | SLICE_CFG
  | SLICE_STATUS
  | SLICE_PILOT
  | SLICE_DUTY
  | SLICE_PP
  | SLICE_RDC
  | SLICE_ISO
  | SLICE_DC_SET
  | SLICE_HLC
  | SLICE_CRED_LO
  | SLICE_CRED_HI
  | SLICE_COUNT
  | SLICE_LIMITS
  | DRV_STATUS
  | DRV_ERR
  | DRV_WDT
  | DRV_ISNS_SEL
  | SW_CFG
  | SW_LOAD
  | SW_STATUS
  | SW_CURRENT
  | SW_CLAMP
  | SW_COUNT
  | GOV_BUDGET
  | GOV_RATE
  | GOV_RAMP
  | GOV_STATUS
  | GOV_ALLOC
  | GOV_FLOOR
  | GOV_SITE_BUDGET
  | GOV_SITE_ALLOC
  | GOV_SITE_LEVEL
  | SERAC_STATUS
  | SERAC_DIAG
  | SERAC_DEGRADED
  | SERAC_ENABLE
  | SERAC_FUNC_STATE
  | SERAC_INPUT_LO
  | SERAC_INPUT_HI
  | SERAC_INFAULT
  | SERAC_CONFIG_ID
  | SERAC_IMAGE
  | SERAC_LOG
  | SERAC_LOG_SEQ
  | SERAC_UNTESTED
  | SERAC_ENMAP
  | SERAC_FUNC
  | SERAC_FUNC_COUNT
  | KY_CFG
  | KY_TONE
  | KY_LAYOUT
  | KY_LIMITS
  | KY_STATUS
  | KY_SF
  | KY_ERR
  | KY_TX_FRAMES
  | KY_RX_FRAMES
  | KY_RS_CORRECTED
  | KY_RS_FAILED
  | KY_COLLISIONS
  | KY_RX_DROPPED
  | TAG_STATUS
  | RD_CFG
  | RD_STATUS
  | ANT_CFG
  | ANT_BASE
  | ANT_STATUS
  | ANT_COUNT
  | KEY_STATUS
  | KEY_ERR
  | KEY_TAMPER
  | KEY_TAMPER_TIME_LO
  | KEY_TAMPER_TIME_HI
  | KEY_ROOT_ID
  | KEY_REMASK
  | KEY_RIGHTS
  | KEY_ATTR
  | KEY_PARENT
  | KEY_PGEN
  | KEY_GEN
  | KEY_ID
  | UPD_STATUS
  | UPD_VERSION_RUN
  | UPD_VERSION_STAGED
  | UPD_VERSION_FALLBACK
  | UPD_TRIAL
  | UPD_SVN
  | UPD_OWNER
  | UPD_CONFIG_SEQ
  | UPD_CONFIG_ID
  | UPD_LAST_PAUSE
  | UPD_ERR
  | UPD_SERIAL_HASH_LO
  | UPD_SERIAL_HASH_HI
  | UPD_RESIDENT
  | SYS_ERR_SUMMARY
  | SYS_MPU_MAP
deriving DecidableEq, Repr

/-- The reset domain that holds a register (R107, R742): `fixed` registers are set at manufacture or by straps. -/
inductive Dom where
  | fixed | vbat | aon | cdie | firn | ddie | serac
deriving DecidableEq, Repr

/-- One register: its name and its index (0 where the register stands alone). -/
structure RegKey where
  reg : Reg
  idx : Nat
deriving DecidableEq, Repr

/-- What the spec's register table says of a register: where it stands (`base`, and for an index `i` the offset
`s1 * (i / inner) + s2 * (i % inner)`), how many indices it has, which bits a write sets (`rw`), clears by a 1 (`w1c`),
which bits a read clears (`rc`), which bits act on a written 1 (`w1s`) or on the value written (`wo`), and its reset value. -/
structure RegInfo where
  base : Nat
  n : Nat
  inner : Nat
  s1 : Nat
  s2 : Nat
  dom : Dom
  rw : Nat
  w1c : Nat
  rc : Nat
  w1s : Nat
  wo : Nat
  reset : Nat
deriving DecidableEq, Repr

/-- A field of a register: bits `lo + width - 1` down to `lo`. -/
structure Fld where
  reg : Reg
  lo : Nat
  width : Nat
deriving DecidableEq, Repr

end Sys2Proof
end

