-- ==== Sys2Proof/Machine/RegMap.lean ====
section
/-!
DEFINITION. Machine/RegMap.lean: the register tables of the spec as data. `Reg.info` gives every register its BAR0 address,
its access bits (R23) and its reset value; the definitions under `Fld` name every field. A reset value the tables leave
to the unit (the factory MAC address, the serial hash, the straps) stands here as 0: log entry 4.
-/
namespace Sys2Proof

/-- The register table row of a register. -/
def Reg.info : Reg → RegInfo
  | .SYS_ID => ⟨0x0, 1, 1, 0x4, 0x0, .fixed, 0x0, 0x0, 0x0, 0x0, 0x0, 0x9192⟩
  | .SYS_REV => ⟨0x4, 1, 1, 0x4, 0x0, .fixed, 0x0, 0x0, 0x0, 0x0, 0x0, 0x0⟩
  | .SYS_UNIT_PRESENT => ⟨0x8, 1, 1, 0x4, 0x0, .fixed, 0x0, 0x0, 0x0, 0x0, 0x0, 0x3⟩
  | .CLK_STATUS => ⟨0x10000, 1, 1, 0x4, 0x0, .cdie, 0x0, 0x0, 0x0, 0x0, 0x0, 0x0⟩
  | .CLK_ERR => ⟨0x10004, 1, 1, 0x4, 0x0, .aon, 0x0, 0x3e, 0x0, 0x0, 0x0, 0x0⟩
  | .PWR_DVFS => ⟨0x10010, 1, 1, 0x4, 0x0, .cdie, 0x33, 0x0, 0x0, 0x0, 0x0, 0x1200⟩
  | .PWR_DVFS_ERR => ⟨0x10014, 1, 1, 0x4, 0x0, .cdie, 0x0, 0x1, 0x0, 0x0, 0x0, 0x0⟩
  | .PWR_STATE => ⟨0x10020, 1, 1, 0x4, 0x0, .cdie, 0x0, 0x0, 0x0, 0x0, 0x0, 0x0⟩
  | .PWR_REQ => ⟨0x10024, 1, 1, 0x4, 0x0, .cdie, 0x0, 0x0, 0x0, 0x0, 0xf, 0x0⟩
  | .PWR_REQ_STATUS => ⟨0x10028, 1, 1, 0x4, 0x0, .cdie, 0x0, 0x0, 0x0, 0x0, 0x0, 0x0⟩
  | .PWR_IDLE_CFG => ⟨0x10030, 1, 1, 0x4, 0x0, .aon, 0xffff00ff, 0x0, 0x0, 0x0, 0x0, 0xc0320040⟩
  | .PWR_WAKE_EN => ⟨0x10034, 1, 1, 0x4, 0x0, .aon, 0x800007ff, 0x0, 0x0, 0x0, 0x0, 0x3fdf⟩
  | .PWR_WAKE_SRC => ⟨0x10038, 1, 1, 0x4, 0x0, .aon, 0x0, 0x3fff, 0x0, 0x0, 0x0, 0x0⟩
  | .PWR_ALARM_LO => ⟨0x10040, 1, 1, 0x4, 0x0, .aon, 0xffffffff, 0x0, 0x0, 0x0, 0x0, 0x0⟩
  | .PWR_ALARM_HI => ⟨0x10044, 1, 1, 0x4, 0x0, .aon, 0xffffffff, 0x0, 0x0, 0x0, 0x0, 0x0⟩
  | .WP_CFG => ⟨0x10050, 1, 1, 0x4, 0x0, .aon, 0xc000007f, 0x0, 0x0, 0x0, 0x0, 0x8000004c⟩
  | .WP_STATUS => ⟨0x10054, 1, 1, 0x4, 0x0, .aon, 0x0, 0x0, 0xff0000, 0x80000000, 0x0, 0x0⟩
  | .WP_BUF => ⟨0x10060, 8, 1, 0x4, 0x0, .aon, 0x0, 0x0, 0x0, 0x0, 0x0, 0x0⟩
  | .RST_CAUSE => ⟨0x20000, 1, 1, 0x4, 0x0, .aon, 0x0, 0x1fff, 0x0, 0x0, 0x0, 0x0⟩
  | .RST_CTRL => ⟨0x20004, 1, 1, 0x4, 0x0, .cdie, 0x0, 0x0, 0x0, 0x0, 0xffff0001, 0x0⟩
  | .FAB_XERR => ⟨0x700000, 1, 1, 0x4, 0x0, .cdie, 0x0, 0x7, 0x0, 0x0, 0x0, 0x0⟩
  | .FAB_XERR_ADDR => ⟨0x700004, 1, 1, 0x4, 0x0, .cdie, 0x0, 0x0, 0x0, 0x0, 0x0, 0x0⟩
  | .BOOT_STATUS => ⟨0x20010, 1, 1, 0x4, 0x0, .cdie, 0x0, 0x0, 0x0, 0x0, 0x0, 0x0⟩
  | .BOOT_STRAP => ⟨0x20014, 1, 1, 0x4, 0x0, .fixed, 0x0, 0x0, 0x0, 0x0, 0x0, 0x0⟩
  | .BOOT_IMG_LO => ⟨0x20020, 1, 1, 0x4, 0x0, .cdie, 0xffffffff, 0x0, 0x0, 0x0, 0x0, 0x0⟩
  | .BOOT_IMG_HI => ⟨0x20024, 1, 1, 0x4, 0x0, .cdie, 0xffffffff, 0x0, 0x0, 0x0, 0x0, 0x0⟩
  | .BOOT_IMG_LEN => ⟨0x20028, 1, 1, 0x4, 0x0, .cdie, 0x1ffffff, 0x0, 0x0, 0x80000000, 0x0, 0x0⟩
  | .HOST_WIN_LO => ⟨0x40100, 16, 8, 0x10000, 0x10, .cdie, 0xfffff003, 0x0, 0x0, 0x0, 0x0, 0x0⟩
  | .HOST_WIN_HI => ⟨0x40104, 16, 8, 0x10000, 0x10, .cdie, 0xffffffff, 0x0, 0x0, 0x0, 0x0, 0x0⟩
  | .HOST_WIN_SIZE => ⟨0x40108, 16, 8, 0x10000, 0x10, .cdie, 0xffffffff, 0x0, 0x0, 0x0, 0x0, 0x0⟩
  | .RING_SEL => ⟨0x40020, 2, 1, 0x10000, 0x0, .cdie, 0x3f, 0x0, 0x0, 0x0, 0x0, 0x0⟩
  | .RING_BASE_LO => ⟨0x40024, 2, 1, 0x10000, 0x0, .cdie, 0xffffffff, 0x0, 0x0, 0x0, 0x0, 0x0⟩
  | .RING_BASE_HI => ⟨0x40028, 2, 1, 0x10000, 0x0, .cdie, 0xffffffff, 0x0, 0x0, 0x0, 0x0, 0x0⟩
  | .RING_DB_LO => ⟨0x4002c, 2, 1, 0x10000, 0x0, .cdie, 0xffffffff, 0x0, 0x0, 0x0, 0x0, 0x0⟩
  | .RING_DB_HI => ⟨0x40030, 2, 1, 0x10000, 0x0, .cdie, 0xffffffff, 0x0, 0x0, 0x0, 0x0, 0x0⟩
  | .RING_CFG => ⟨0x40034, 2, 1, 0x10000, 0x0, .cdie, 0xffffffff, 0x0, 0x0, 0x0, 0x0, 0x0⟩
  | .RING_CTRL => ⟨0x40038, 2, 1, 0x10000, 0x0, .cdie, 0x0, 0x0, 0x0, 0x0, 0x3, 0x0⟩
  | .RING_STATUS => ⟨0x4003c, 2, 1, 0x10000, 0x0, .cdie, 0x0, 0x0, 0x0, 0x0, 0x0, 0x0⟩
  | .HOST_CTRL => ⟨0x40000, 2, 1, 0x10000, 0x0, .cdie, 0x80ffffff, 0x0, 0x0, 0x0, 0x0, 0x20064⟩
  | .HOST_STATUS => ⟨0x40004, 2, 1, 0x10000, 0x0, .cdie, 0x0, 0x0, 0x0, 0x0, 0x0, 0x1⟩
  | .HOST_ERR => ⟨0x40008, 2, 1, 0x10000, 0x0, .cdie, 0x0, 0xff, 0x0, 0x0, 0x0, 0x0⟩
  | .HOST_EVT_LOST => ⟨0x4000c, 2, 1, 0x10000, 0x0, .cdie, 0x0, 0x0, 0xffffffff, 0x0, 0x0, 0x0⟩
  | .HOST_EVT_CFG => ⟨0x40010, 2, 1, 0x10000, 0x0, .cdie, 0xffff3fff, 0x0, 0x0, 0x0, 0x0, 0x3e83fff⟩
  | .ETH_CFG => ⟨0x18000, 2, 1, 0x40, 0x0, .cdie, 0x0, 0x0, 0x0, 0x0, 0x0, 0x8001⟩
  | .ETH_MAC_LO => ⟨0x18004, 2, 1, 0x40, 0x0, .fixed, 0x0, 0x0, 0x0, 0x0, 0x0, 0x0⟩
  | .ETH_MAC_HI => ⟨0x18008, 2, 1, 0x40, 0x0, .fixed, 0x0, 0x0, 0x0, 0x0, 0x0, 0x0⟩
  | .ETH_STATUS => ⟨0x1800c, 2, 1, 0x40, 0x0, .cdie, 0x0, 0x0, 0x0, 0x0, 0x0, 0x0⟩
  | .ETH_OFFSET => ⟨0x18010, 2, 1, 0x40, 0x0, .cdie, 0x0, 0x0, 0x0, 0x0, 0x0, 0x0⟩
  | .ETH_PATH => ⟨0x18014, 2, 1, 0x40, 0x0, .cdie, 0x0, 0x0, 0x0, 0x0, 0x0, 0x0⟩
  | .ETH_RX_FRAMES => ⟨0x18018, 2, 1, 0x40, 0x0, .cdie, 0x0, 0x0, 0xffffffff, 0x0, 0x0, 0x0⟩
  | .ETH_RX_DROPPED => ⟨0x1801c, 2, 1, 0x40, 0x0, .cdie, 0x0, 0x0, 0xffffffff, 0x0, 0x0, 0x0⟩
  | .ETH_TX_FRAMES => ⟨0x18020, 2, 1, 0x40, 0x0, .cdie, 0x0, 0x0, 0xffffffff, 0x0, 0x0, 0x0⟩
  | .ETH_PTP_RX => ⟨0x18024, 2, 1, 0x40, 0x0, .cdie, 0x0, 0x0, 0xffffffff, 0x0, 0x0, 0x0⟩
  | .ETH_TIME_TRIM => ⟨0x18080, 1, 1, 0x4, 0x0, .cdie, 0x0, 0x0, 0x0, 0x0, 0x0, 0x0⟩
  | .ETH_MDIO => ⟨0x18084, 1, 1, 0x4, 0x0, .cdie, 0x7ff0ffff, 0x0, 0x0, 0x80000000, 0x0, 0x0⟩
  | .MBX_ERR => ⟨0x80000, 3, 1, 0x0, 0x0, .cdie, 0x0, 0x7, 0xff000000, 0x0, 0x0, 0x0⟩
  | .SPAD_APER => ⟨0x181000, 2, 1, 0x0, 0x0, .cdie, 0x8000000f, 0x100, 0x0, 0x0, 0x0, 0x0⟩
  | .SPAD_CONF => ⟨0x180000, 144, 9, 0x100, 0x4, .cdie, 0x0, 0x0, 0xffffffff, 0x0, 0x0, 0x0⟩
  | .SPAD_ECC => ⟨0x180040, 16, 1, 0x100, 0x0, .cdie, 0x0, 0x0, 0xffff, 0x0, 0x0, 0x0⟩
  | .ENG_MPU_BASE => ⟨0x100c00, 2048, 16, 0x1000, 0x10, .cdie, 0x0, 0x0, 0x0, 0x0, 0x0, 0x0⟩
  | .ENG_MPU_LIMIT => ⟨0x100c04, 2048, 16, 0x1000, 0x10, .cdie, 0x0, 0x0, 0x0, 0x0, 0x0, 0x0⟩
  | .ENG_MPU_FAULT => ⟨0x100d00, 128, 1, 0x1000, 0x0, .cdie, 0x0, 0x3, 0x0, 0x0, 0x0, 0x0⟩
  | .ENG_MPU_FAULT_ADDR => ⟨0x100d04, 128, 1, 0x1000, 0x0, .cdie, 0x0, 0x0, 0x0, 0x0, 0x0, 0x0⟩
  | .ENG_STATE => ⟨0x100000, 128, 1, 0x1000, 0x0, .cdie, 0x0, 0x0, 0x0, 0x0, 0x0, 0x0⟩
  | .ENG_LOAD => ⟨0x100004, 128, 1, 0x1000, 0x0, .cdie, 0x0, 0x0, 0x0, 0x0, 0x0, 0x0⟩
  | .ENG_DLMISS => ⟨0x100008, 128, 1, 0x1000, 0x0, .cdie, 0x0, 0x0, 0xffffffff, 0x0, 0x0, 0x0⟩
  | .ENG_HEALTH => ⟨0x10000c, 128, 1, 0x1000, 0x0, .cdie, 0x0, 0x0, 0x0, 0x0, 0x0, 0x0⟩
  | .ENG_ADMIT_STATUS => ⟨0x100b00, 1, 1, 0x4, 0x0, .cdie, 0x0, 0x0, 0x0, 0x0, 0x0, 0x0⟩
  | .ENG_ADMIT_ITEM => ⟨0x100b04, 1, 1, 0x4, 0x0, .cdie, 0x0, 0x0, 0x0, 0x0, 0x0, 0x0⟩
  | .ENG_ADMIT_SPARES => ⟨0x100b08, 1, 1, 0x4, 0x0, .cdie, 0x0, 0x0, 0x0, 0x0, 0x0, 0x0⟩
  | .ENG_POOL => ⟨0x100b0c, 1, 1, 0x4, 0x0, .cdie, 0x0, 0x0, 0x0, 0x0, 0x0, 0x0⟩
  | .CH_CFG => ⟨0x300000, 192, 96, 0x40000, 0x40, .firn, 0x0, 0x0, 0x0, 0x0, 0x0, 0xf00⟩
  | .CH_STATUS => ⟨0x300004, 192, 96, 0x40000, 0x40, .firn, 0x0, 0x0, 0x0, 0x0, 0x0, 0xffff0000⟩
  | .CH_SAMPLE => ⟨0x300008, 192, 96, 0x40000, 0x40, .firn, 0x0, 0x0, 0x0, 0x0, 0x0, 0x0⟩
  | .CH_INDEX => ⟨0x30000c, 192, 96, 0x40000, 0x40, .firn, 0x0, 0x0, 0x0, 0x0, 0x0, 0x0⟩
  | .CH_GAIN => ⟨0x300010, 192, 96, 0x40000, 0x40, .firn, 0x0, 0x0, 0x0, 0x0, 0x0, 0x40000000⟩
  | .CH_OFFSET => ⟨0x300014, 192, 96, 0x40000, 0x40, .firn, 0x0, 0x0, 0x0, 0x0, 0x0, 0x0⟩
  | .CH_SCALE => ⟨0x300018, 192, 96, 0x40000, 0x40, .firn, 0x0, 0x0, 0x0, 0x0, 0x0, 0x3f800000⟩
  | .CH_SEAM => ⟨0x30001c, 192, 96, 0x40000, 0x40, .firn, 0x0, 0x0, 0x0, 0x0, 0x0, 0x0⟩
  | .CH_REGEL_LO => ⟨0x300020, 192, 96, 0x40000, 0x40, .firn, 0x0, 0x0, 0x0, 0x0, 0x0, 0x0⟩
  | .CH_REGEL_HI => ⟨0x300024, 192, 96, 0x40000, 0x40, .firn, 0x0, 0x0, 0x0, 0x0, 0x0, 0x0⟩
  | .CH_OVR_COUNT => ⟨0x300028, 192, 96, 0x40000, 0x40, .firn, 0x0, 0x0, 0x0, 0x0, 0x0, 0x0⟩
  | .CH_DELAY => ⟨0x30002c, 192, 96, 0x40000, 0x40, .firn, 0x0, 0x0, 0x0, 0x0, 0x0, 0x0⟩
  | .CH_PHASE => ⟨0x300030, 192, 96, 0x40000, 0x40, .firn, 0x0, 0x0, 0x0, 0x0, 0x0, 0x0⟩
  | .CH_DELAY_EFF => ⟨0x300034, 192, 96, 0x40000, 0x40, .firn, 0x0, 0x0, 0x0, 0x0, 0x0, 0x0⟩
  | .ADC_STATUS => ⟨0x310000, 208, 104, 0x40000, 0x10, .firn, 0x0, 0x0, 0x0, 0x0, 0x0, 0xff06f000⟩
  | .ADC_GAIN => ⟨0x310004, 208, 104, 0x40000, 0x10, .firn, 0x0, 0x0, 0x0, 0x0, 0x0, 0x2aaaaaab⟩
  | .ADC_OFFSET => ⟨0x310008, 208, 104, 0x40000, 0x10, .firn, 0x0, 0x0, 0x0, 0x0, 0x0, 0x0⟩
  | .ADC_COUNT => ⟨0x31000c, 208, 104, 0x40000, 0x10, .firn, 0x0, 0x0, 0x0, 0x0, 0x0, 0x0⟩
  | .REF_STATUS => ⟨0x311000, 2, 1, 0x40000, 0x0, .firn, 0x0, 0x0, 0x0, 0x0, 0x0, 0x0⟩
  | .REF_DEV => ⟨0x311004, 2, 1, 0x40000, 0x0, .firn, 0x0, 0x0, 0x0, 0x0, 0x0, 0x0⟩
  | .REGEL_STATUS => ⟨0x311100, 2, 1, 0x40000, 0x0, .firn, 0x0, 0x0, 0x0, 0x0, 0x0, 0x0⟩
  | .REGEL_ROUND => ⟨0x311104, 2, 1, 0x40000, 0x0, .firn, 0x0, 0x0, 0x0, 0x0, 0x0, 0x0⟩
  | .REGEL_SEAMS => ⟨0x311108, 2, 1, 0x40000, 0x0, .firn, 0x0, 0x0, 0x0, 0x0, 0x0, 0x0⟩
  | .REGEL_SEAM_FAIL => ⟨0x31110c, 2, 1, 0x40000, 0x0, .firn, 0x0, 0x0, 0x0, 0x0, 0x0, 0x0⟩
  | .MP_UNB_LO => ⟨0x3200e0, 512, 2, 0x100, 0x8, .firn, 0x0, 0x0, 0x0, 0x0, 0x0, 0x0⟩
  | .MP_UNB_HI => ⟨0x3200e4, 512, 2, 0x100, 0x8, .firn, 0x0, 0x0, 0x0, 0x0, 0x0, 0x0⟩
  | .MP_CFG => ⟨0x320000, 256, 1, 0x100, 0x0, .firn, 0x0, 0x0, 0x0, 0x0, 0x0, 0xffff⟩
  | .MP_STATE => ⟨0x320004, 256, 1, 0x100, 0x0, .firn, 0x0, 0x0, 0x0, 0x0, 0x0, 0x0⟩
  | .MP_UCH => ⟨0x320008, 256, 1, 0x100, 0x0, .firn, 0x0, 0x0, 0x0, 0x0, 0x0, 0xffffff⟩
  | .MP_ICH => ⟨0x32000c, 256, 1, 0x100, 0x0, .firn, 0x0, 0x0, 0x0, 0x0, 0x0, 0xffffffff⟩
  | .MP_FREQ => ⟨0x320010, 256, 1, 0x100, 0x0, .firn, 0x0, 0x0, 0x0, 0x0, 0x0, 0x0⟩
  | .MP_P => ⟨0x320030, 256, 1, 0x100, 0x0, .firn, 0x0, 0x0, 0x0, 0x0, 0x0, 0x0⟩
  | .MP_Q => ⟨0x320034, 256, 1, 0x100, 0x0, .firn, 0x0, 0x0, 0x0, 0x0, 0x0, 0x0⟩
  | .MP_S => ⟨0x320038, 256, 1, 0x100, 0x0, .firn, 0x0, 0x0, 0x0, 0x0, 0x0, 0x0⟩
  | .MP_PF => ⟨0x32003c, 256, 1, 0x100, 0x0, .firn, 0x0, 0x0, 0x0, 0x0, 0x0, 0x0⟩
  | .MP_START_INDEX => ⟨0x320040, 256, 1, 0x100, 0x0, .firn, 0x0, 0x0, 0x0, 0x0, 0x0, 0x0⟩
  | .MP_FREEZE_INDEX => ⟨0x320044, 256, 1, 0x100, 0x0, .firn, 0x0, 0x0, 0x0, 0x0, 0x0, 0x0⟩
  | .FP_STATUS => ⟨0x320048, 256, 1, 0x100, 0x0, .firn, 0x0, 0x0, 0x0, 0x0, 0x0, 0x0⟩
  | .FP_RATE => ⟨0x32004c, 256, 1, 0x100, 0x0, .firn, 0x0, 0x0, 0x0, 0x0, 0x0, 0x0⟩
  | .FP_QM => ⟨0x320050, 256, 1, 0x100, 0x0, .firn, 0x0, 0x0, 0x0, 0x0, 0x0, 0x0⟩
  | .FP_DP => ⟨0x320054, 256, 1, 0x100, 0x0, .firn, 0x0, 0x0, 0x0, 0x0, 0x0, 0x0⟩
  | .FP_P => ⟨0x320058, 256, 1, 0x100, 0x0, .firn, 0x0, 0x0, 0x0, 0x0, 0x0, 0x0⟩
  | .FP_T => ⟨0x32005c, 256, 1, 0x100, 0x0, .firn, 0x0, 0x0, 0x0, 0x0, 0x0, 0x0⟩
  | .FP_RHO => ⟨0x320060, 256, 1, 0x100, 0x0, .firn, 0x0, 0x0, 0x0, 0x0, 0x0, 0x0⟩
  | .FP_H => ⟨0x320064, 256, 1, 0x100, 0x0, .firn, 0x0, 0x0, 0x0, 0x0, 0x0, 0x0⟩
  | .FP_C => ⟨0x320068, 256, 1, 0x100, 0x0, .firn, 0x0, 0x0, 0x0, 0x0, 0x0, 0x0⟩
  | .FP_PRED => ⟨0x32006c, 256, 1, 0x100, 0x0, .firn, 0x0, 0x0, 0x0, 0x0, 0x0, 0x0⟩
  | .FP_TRIM => ⟨0x320070, 256, 1, 0x100, 0x0, .firn, 0x0, 0x0, 0x0, 0x0, 0x0, 0x0⟩
  | .FP_BLOCK => ⟨0x320074, 256, 1, 0x100, 0x0, .firn, 0x0, 0x0, 0x0, 0x0, 0x0, 0x0⟩
  | .FP_OUTSIDE => ⟨0x320078, 256, 1, 0x100, 0x0, .firn, 0x0, 0x0, 0x0, 0x0, 0x0, 0x0⟩
  | .MP_DEMAND => ⟨0x3200c0, 256, 1, 0x100, 0x0, .firn, 0x0, 0x0, 0x0, 0x0, 0x0, 0x0⟩
  | .MP_MD => ⟨0x3200c4, 256, 1, 0x100, 0x0, .firn, 0x0, 0x0, 0x0, 0x0, 0x0, 0x0⟩
  | .MP_UN => ⟨0x3200d0, 256, 1, 0x100, 0x0, .firn, 0x0, 0x0, 0x0, 0x0, 0x0, 0x0⟩
  | .MP_IN => ⟨0x3200d4, 256, 1, 0x100, 0x0, .firn, 0x0, 0x0, 0x0, 0x0, 0x0, 0x0⟩
  | .MP_MD_RESETS => ⟨0x3200d8, 256, 1, 0x100, 0x0, .firn, 0x0, 0x0, 0x0, 0x0, 0x0, 0x0⟩
  | .MP_REC_SEQ => ⟨0x3200f0, 256, 1, 0x100, 0x0, .firn, 0x0, 0x0, 0x0, 0x0, 0x0, 0x0⟩
  | .MP_REC_STATE => ⟨0x3200f4, 256, 1, 0x100, 0x0, .firn, 0x0, 0x0, 0x0, 0x0, 0x0, 0x0⟩
  | .MP_COMMIT_IDX => ⟨0x3200f8, 256, 1, 0x100, 0x0, .firn, 0x0, 0x0, 0x0, 0x0, 0x0, 0x0⟩
  | .MP_OUTAGES => ⟨0x3200fc, 256, 1, 0x100, 0x0, .firn, 0x0, 0x0, 0x0, 0x0, 0x0, 0x0⟩
  | .MP_URMS => ⟨0x320014, 768, 3, 0x100, 0x4, .firn, 0x0, 0x0, 0x0, 0x0, 0x0, 0x0⟩
  | .MP_IRMS => ⟨0x320020, 1024, 4, 0x100, 0x4, .firn, 0x0, 0x0, 0x0, 0x0, 0x0, 0x0⟩
  | .MP_BILL_LO => ⟨0x320080, 2048, 8, 0x100, 0x8, .firn, 0x0, 0x0, 0x0, 0x0, 0x0, 0x0⟩
  | .MP_BILL_HI => ⟨0x320084, 2048, 8, 0x100, 0x8, .firn, 0x0, 0x0, 0x0, 0x0, 0x0, 0x0⟩
  | .MP_MD_TIME => ⟨0x3200c8, 512, 2, 0x100, 0x4, .firn, 0x0, 0x0, 0x0, 0x0, 0x0, 0x0⟩
  | .PI_CFG => ⟨0x338000, 64, 1, 0x20, 0x0, .firn, 0x0, 0x0, 0x0, 0x0, 0x0, 0xff000028⟩
  | .PI_CORR => ⟨0x33800c, 64, 1, 0x20, 0x0, .firn, 0x0, 0x0, 0x0, 0x0, 0x0, 0x0⟩
  | .PI_EDGES => ⟨0x338004, 128, 2, 0x20, 0x4, .firn, 0x0, 0x0, 0x0, 0x0, 0x0, 0x0⟩
  | .PI_MISS => ⟨0x338010, 128, 2, 0x20, 0x4, .firn, 0x0, 0x0, 0x0, 0x0, 0x0, 0x0⟩
  | .PI_SPUR => ⟨0x338018, 128, 2, 0x20, 0x4, .firn, 0x0, 0x0, 0x0, 0x0, 0x0, 0x0⟩
  | .FIRN_STATUS => ⟨0x331000, 2, 1, 0x40000, 0x0, .firn, 0x0, 0x0, 0x0, 0x0, 0x0, 0x202⟩
  | .FIRN_CAL_COUNT => ⟨0x331004, 2, 1, 0x40000, 0x0, .firn, 0x0, 0x0, 0x0, 0x0, 0x0, 0x0⟩
  | .FIRN_CHECK => ⟨0x331008, 2, 1, 0x40000, 0x0, .firn, 0x0, 0x0, 0x0, 0x0, 0x0, 0x0⟩
  | .FIRN_CHECK_REF => ⟨0x33100c, 2, 1, 0x40000, 0x0, .firn, 0x0, 0x0, 0x0, 0x0, 0x0, 0x0⟩
  | .FIRN_LTIME_LO => ⟨0x331010, 2, 1, 0x40000, 0x0, .firn, 0x0, 0x0, 0x0, 0x0, 0x0, 0x0⟩
  | .FIRN_LTIME_HI => ⟨0x331014, 2, 1, 0x40000, 0x0, .firn, 0x0, 0x0, 0x0, 0x0, 0x0, 0x0⟩
  | .FIRN_CLOCK_DEV => ⟨0x331018, 2, 1, 0x40000, 0x0, .firn, 0x0, 0x0, 0x0, 0x0, 0x0, 0x0⟩
  | .FIRN_ADJ_USED => ⟨0x33101c, 2, 1, 0x40000, 0x0, .firn, 0x0, 0x0, 0x0, 0x0, 0x0, 0x0⟩
  | .FIRN_COMMIT_SEQ => ⟨0x331020, 2, 1, 0x40000, 0x0, .firn, 0x0, 0x0, 0x0, 0x0, 0x0, 0x0⟩
  | .FIRN_COMMIT_CFG => ⟨0x331024, 2, 1, 0x40000, 0x0, .firn, 0x0, 0x0, 0x0, 0x0, 0x0, 0x64⟩
  | .FIRN_REC_SEQ => ⟨0x331028, 2, 1, 0x40000, 0x0, .firn, 0x0, 0x0, 0x0, 0x0, 0x0, 0x0⟩
  | .FIRN_QUEUE => ⟨0x33102c, 2, 1, 0x40000, 0x0, .firn, 0x0, 0x0, 0x0, 0x0, 0x0, 0x0⟩
  | .FIRN_OUTAGES => ⟨0x331030, 2, 1, 0x40000, 0x0, .firn, 0x0, 0x0, 0x0, 0x0, 0x0, 0x0⟩
  | .FIRN_SCHED => ⟨0x331040, 8, 4, 0x40000, 0x4, .firn, 0x0, 0x0, 0x0, 0x0, 0x0, 0x0⟩
  | .FIRN_SCHED_PEND => ⟨0x331050, 8, 4, 0x40000, 0x4, .firn, 0x0, 0x0, 0x0, 0x0, 0x0, 0x0⟩
  | .FENG_STATE => ⟨0x332000, 128, 64, 0x40000, 0x10, .firn, 0x0, 0x0, 0x0, 0x0, 0x0, 0x0⟩
  | .FENG_HEALTH => ⟨0x332004, 128, 64, 0x40000, 0x10, .firn, 0x0, 0x0, 0x0, 0x0, 0x0, 0x0⟩
  | .FENG_DLMISS => ⟨0x332008, 128, 64, 0x40000, 0x10, .firn, 0x0, 0x0, 0x0, 0x0, 0x0, 0x0⟩
  | .FIRN_POOL => ⟨0x332400, 2, 1, 0x40000, 0x0, .firn, 0x0, 0x0, 0x0, 0x0, 0x0, 0x0⟩
  | .FSPAD_CONF => ⟨0x333000, 144, 9, 0x0, 0x4, .firn, 0x0, 0x0, 0x0, 0x0, 0x0, 0x0⟩
  | .FSPAD_ECC => ⟨0x333024, 16, 8, 0x40000, 0x40, .firn, 0x0, 0x0, 0x0, 0x0, 0x0, 0x0⟩
  | .PTO_CFG => ⟨0x339000, 16, 8, 0x40000, 0x10, .firn, 0x0, 0x0, 0x0, 0x0, 0x0, 0xa⟩
  | .PTO_COUNT => ⟨0x33900c, 16, 8, 0x40000, 0x10, .firn, 0x0, 0x0, 0x0, 0x0, 0x0, 0x0⟩
  | .PTO_QPP => ⟨0x339004, 32, 2, 0x0, 0x4, .firn, 0x0, 0x0, 0x0, 0x0, 0x0, 0x0⟩
  | .TAMPER_COUNT => ⟨0x334000, 18, 9, 0x40000, 0x20, .firn, 0x0, 0x0, 0x0, 0x0, 0x0, 0x0⟩
  | .TAMPER_STATE => ⟨0x334014, 18, 9, 0x40000, 0x20, .firn, 0x0, 0x0, 0x0, 0x0, 0x0, 0xa⟩
  | .TAMPER_FIRST => ⟨0x334004, 36, 2, 0x0, 0x4, .firn, 0x0, 0x0, 0x0, 0x0, 0x0, 0x0⟩
  | .TAMPER_LAST => ⟨0x33400c, 36, 2, 0x0, 0x4, .firn, 0x0, 0x0, 0x0, 0x0, 0x0, 0x0⟩
  | .MOR_STATUS => ⟨0x335000, 2, 1, 0x40000, 0x0, .firn, 0x0, 0x0, 0x0, 0x0, 0x0, 0x0⟩
  | .MOR_HEAD_SEQ => ⟨0x335004, 2, 1, 0x40000, 0x0, .firn, 0x0, 0x0, 0x0, 0x0, 0x0, 0x0⟩
  | .MOR_TAIL_SEQ => ⟨0x335008, 2, 1, 0x40000, 0x0, .firn, 0x0, 0x0, 0x0, 0x0, 0x0, 0x0⟩
  | .MOR_LOST => ⟨0x33500c, 2, 1, 0x40000, 0x0, .firn, 0x0, 0x0, 0x0, 0x0, 0x0, 0x0⟩
  | .MOR_OVERWRITTEN => ⟨0x335010, 2, 1, 0x40000, 0x0, .firn, 0x0, 0x0, 0x0, 0x0, 0x0, 0x0⟩
  | .DISP_STATUS => ⟨0x336000, 1, 1, 0x4, 0x0, .firn, 0x0, 0x0, 0x0, 0x0, 0x0, 0x0⟩
  | .DISP_CFG => ⟨0x336004, 1, 1, 0x4, 0x0, .firn, 0x0, 0x0, 0x0, 0x0, 0x0, 0x0⟩
  | .DISP_CRC => ⟨0x336008, 1, 1, 0x4, 0x0, .firn, 0x0, 0x0, 0x0, 0x0, 0x0, 0x0⟩
  | .LEDGER_STATUS => ⟨0x200000, 1, 1, 0x4, 0x0, .cdie, 0x0, 0x0, 0x0, 0x0, 0x0, 0x0⟩
  | .LEDGER_ERR => ⟨0x200004, 1, 1, 0x4, 0x0, .cdie, 0x0, 0x7f, 0x0, 0x0, 0x0, 0x0⟩
  | .LEDGER_POST_SEQ_LO => ⟨0x200008, 1, 1, 0x4, 0x0, .cdie, 0x0, 0x0, 0x0, 0x0, 0x0, 0x0⟩
  | .LEDGER_POST_SEQ_HI => ⟨0x20000c, 1, 1, 0x4, 0x0, .cdie, 0x0, 0x0, 0x0, 0x0, 0x0, 0x0⟩
  | .LEDGER_QUARANTINED => ⟨0x200010, 1, 1, 0x4, 0x0, .cdie, 0x0, 0x0, 0x0, 0x0, 0x0, 0x0⟩
  | .LEDGER_POISONED => ⟨0x200014, 1, 1, 0x4, 0x0, .cdie, 0x0, 0x0, 0x0, 0x0, 0x0, 0x0⟩
  | .LEDGER_LAST_ABORT => ⟨0x200018, 1, 1, 0x4, 0x0, .cdie, 0x0, 0x0, 0x0, 0x0, 0x0, 0x0⟩
  | .LEDGER_TAG_FAIL_ADDR => ⟨0x20001c, 1, 1, 0x4, 0x0, .cdie, 0x0, 0x0, 0x0, 0x0, 0x0, 0x0⟩
  | .LEDGER_POSTS => ⟨0x200020, 1, 1, 0x4, 0x0, .cdie, 0x0, 0x0, 0xffffffff, 0x0, 0x0, 0x0⟩
  | .LEDGER_ABORTS => ⟨0x200024, 1, 1, 0x4, 0x0, .cdie, 0x0, 0x0, 0xffffffff, 0x0, 0x0, 0x0⟩
  | .LEDGER_JOURNAL => ⟨0x200028, 1, 1, 0x4, 0x0, .cdie, 0x0, 0x0, 0x0, 0x0, 0x0, 0x0⟩
  | .TARIFF_STATUS => ⟨0x280000, 256, 1, 0x10, 0x0, .cdie, 0x0, 0x0, 0x0, 0x0, 0x0, 0x0⟩
  | .TARIFF_ID => ⟨0x280004, 256, 1, 0x10, 0x0, .cdie, 0x0, 0x0, 0x0, 0x0, 0x0, 0x0⟩
  | .TARIFF_PEND_ID => ⟨0x280008, 256, 1, 0x10, 0x0, .cdie, 0x0, 0x0, 0x0, 0x0, 0x0, 0x0⟩
  | .SLICE_CFG => ⟨0x440000, 64, 1, 0x40, 0x0, .cdie, 0x0, 0x0, 0x0, 0x0, 0x0, 0xfffc0000⟩
  | .SLICE_STATUS => ⟨0x440004, 64, 1, 0x40, 0x0, .cdie, 0x0, 0x0, 0x0, 0x0, 0x0, 0x7000000⟩
  | .SLICE_PILOT => ⟨0x440008, 64, 1, 0x40, 0x0, .cdie, 0x0, 0x0, 0x0, 0x0, 0x0, 0x8000⟩
  | .SLICE_DUTY => ⟨0x44000c, 64, 1, 0x40, 0x0, .cdie, 0x0, 0x0, 0x0, 0x0, 0x0, 0x0⟩
  | .SLICE_PP => ⟨0x440010, 64, 1, 0x40, 0x0, .cdie, 0x0, 0x0, 0x0, 0x0, 0x0, 0xffff0000⟩
  | .SLICE_RDC => ⟨0x440014, 64, 1, 0x40, 0x0, .cdie, 0x0, 0x0, 0x0, 0x0, 0x0, 0x0⟩
  | .SLICE_ISO => ⟨0x440018, 64, 1, 0x40, 0x0, .cdie, 0x0, 0x0, 0x0, 0x0, 0x0, 0xffff0000⟩
  | .SLICE_DC_SET => ⟨0x44001c, 64, 1, 0x40, 0x0, .cdie, 0x0, 0x0, 0x0, 0x0, 0x0, 0x0⟩
  | .SLICE_HLC => ⟨0x440020, 64, 1, 0x40, 0x0, .cdie, 0x0, 0x0, 0x0, 0x0, 0x0, 0x0⟩
  | .SLICE_CRED_LO => ⟨0x440024, 64, 1, 0x40, 0x0, .cdie, 0x0, 0x0, 0x0, 0x0, 0x0, 0x0⟩
  | .SLICE_CRED_HI => ⟨0x440028, 64, 1, 0x40, 0x0, .cdie, 0x0, 0x0, 0x0, 0x0, 0x0, 0x0⟩
  | .SLICE_COUNT => ⟨0x44002c, 64, 1, 0x40, 0x0, .cdie, 0x0, 0x0, 0x0, 0x0, 0x0, 0x0⟩
  | .SLICE_LIMITS => ⟨0x440030, 64, 1, 0x40, 0x0, .cdie, 0x0, 0x0, 0x0, 0x0, 0x0, 0xff000000⟩
  | .DRV_STATUS => ⟨0x400000, 1, 1, 0x4, 0x0, .ddie, 0x0, 0x0, 0x0, 0x0, 0x0, 0x40000000⟩
  | .DRV_ERR => ⟨0x400004, 1, 1, 0x4, 0x0, .ddie, 0x0, 0x1f, 0x0, 0x0, 0x0, 0x0⟩
  | .DRV_WDT => ⟨0x400008, 1, 1, 0x4, 0x0, .ddie, 0x0, 0x0, 0x0, 0x0, 0x0, 0x32⟩
  | .DRV_ISNS_SEL => ⟨0x40000c, 1, 1, 0x4, 0x0, .ddie, 0x3f, 0x0, 0x0, 0x0, 0x0, 0x3f⟩
  | .SW_CFG => ⟨0x410000, 48, 1, 0x20, 0x0, .ddie, 0x0, 0x0, 0x0, 0x0, 0x0, 0x200320⟩
  | .SW_LOAD => ⟨0x410004, 48, 1, 0x20, 0x0, .ddie, 0x0, 0x0, 0x0, 0x0, 0x0, 0x0⟩
  | .SW_STATUS => ⟨0x410008, 48, 1, 0x20, 0x0, .ddie, 0x0, 0x0, 0x0, 0x0, 0x0, 0x0⟩
  | .SW_CURRENT => ⟨0x41000c, 48, 1, 0x20, 0x0, .ddie, 0x0, 0x0, 0x0, 0x0, 0x0, 0x0⟩
  | .SW_CLAMP => ⟨0x410010, 48, 1, 0x20, 0x0, .ddie, 0x0, 0x0, 0x0, 0x0, 0x0, 0x0⟩
  | .SW_COUNT => ⟨0x410014, 48, 1, 0x20, 0x0, .ddie, 0x0, 0x0, 0x0, 0x0, 0x0, 0x0⟩
  | .GOV_BUDGET => ⟨0x420000, 16, 1, 0x20, 0x0, .cdie, 0xffffffff, 0x0, 0x0, 0x0, 0x0, 0xffffffff⟩
  | .GOV_RATE => ⟨0x420004, 16, 1, 0x20, 0x0, .cdie, 0x0, 0x0, 0x0, 0x0, 0x0, 0x2580414⟩
  | .GOV_RAMP => ⟨0x420008, 16, 1, 0x20, 0x0, .cdie, 0x0, 0x0, 0x0, 0x0, 0x0, 0x7d0⟩
  | .GOV_STATUS => ⟨0x42000c, 16, 1, 0x20, 0x0, .cdie, 0x0, 0x0, 0x0, 0x0, 0x0, 0x7fff⟩
  | .GOV_ALLOC => ⟨0x420010, 16, 1, 0x20, 0x0, .cdie, 0x0, 0x0, 0x0, 0x0, 0x0, 0x0⟩
  | .GOV_FLOOR => ⟨0x420014, 16, 1, 0x20, 0x0, .cdie, 0x0, 0x0, 0x0, 0x0, 0x0, 0x0⟩
  | .GOV_SITE_BUDGET => ⟨0x421000, 1, 1, 0x4, 0x0, .cdie, 0xffffffff, 0x0, 0x0, 0x0, 0x0, 0xffffffff⟩
  | .GOV_SITE_ALLOC => ⟨0x421004, 1, 1, 0x4, 0x0, .cdie, 0x0, 0x0, 0x0, 0x0, 0x0, 0x0⟩
  | .GOV_SITE_LEVEL => ⟨0x421008, 1, 1, 0x4, 0x0, .cdie, 0x0, 0x0, 0x0, 0x0, 0x0, 0xffffffff⟩
  | .SERAC_STATUS => ⟨0x481000, 1, 1, 0x4, 0x0, .serac, 0x0, 0x0, 0x0, 0x0, 0x0, 0x0⟩
  | .SERAC_DIAG => ⟨0x481004, 1, 1, 0x4, 0x0, .serac, 0x0, 0x0, 0x0, 0x0, 0x0, 0x0⟩
  | .SERAC_DEGRADED => ⟨0x481008, 1, 1, 0x4, 0x0, .serac, 0x0, 0x0, 0x0, 0x0, 0x0, 0x3c0000⟩
  | .SERAC_ENABLE => ⟨0x48100c, 1, 1, 0x4, 0x0, .serac, 0x0, 0x0, 0x0, 0x0, 0x0, 0x0⟩
  | .SERAC_FUNC_STATE => ⟨0x481010, 1, 1, 0x4, 0x0, .serac, 0x0, 0x0, 0x0, 0x0, 0x0, 0x0⟩
  | .SERAC_INPUT_LO => ⟨0x481014, 1, 1, 0x4, 0x0, .serac, 0x0, 0x0, 0x0, 0x0, 0x0, 0xaaaaaaaa⟩
  | .SERAC_INPUT_HI => ⟨0x481018, 1, 1, 0x4, 0x0, .serac, 0x0, 0x0, 0x0, 0x0, 0x0, 0xaaaaaaaa⟩
  | .SERAC_INFAULT => ⟨0x48101c, 1, 1, 0x4, 0x0, .serac, 0x0, 0x0, 0x0, 0x0, 0x0, 0x0⟩
  | .SERAC_CONFIG_ID => ⟨0x481020, 1, 1, 0x4, 0x0, .serac, 0x0, 0x0, 0x0, 0x0, 0x0, 0x0⟩
  | .SERAC_IMAGE => ⟨0x481024, 1, 1, 0x4, 0x0, .serac, 0x0, 0x0, 0x0, 0x0, 0x0, 0x0⟩
  | .SERAC_LOG => ⟨0x481028, 1, 1, 0x4, 0x0, .serac, 0x0, 0x0, 0x0, 0x0, 0x0, 0x0⟩
  | .SERAC_LOG_SEQ => ⟨0x48102c, 1, 1, 0x4, 0x0, .serac, 0x0, 0x0, 0x0, 0x0, 0x0, 0x0⟩
  | .SERAC_UNTESTED => ⟨0x481040, 1, 1, 0x4, 0x0, .serac, 0x0, 0x0, 0x0, 0x0, 0x0, 0x0⟩
  | .SERAC_ENMAP => ⟨0x481030, 4, 1, 0x4, 0x0, .serac, 0x0, 0x0, 0x0, 0x0, 0x0, 0xffffffff⟩
  | .SERAC_FUNC => ⟨0x481100, 16, 1, 0x8, 0x0, .serac, 0x0, 0x0, 0x0, 0x0, 0x0, 0xff0000⟩
  | .SERAC_FUNC_COUNT => ⟨0x481104, 16, 1, 0x8, 0x0, .serac, 0x0, 0x0, 0x0, 0x0, 0x0, 0x0⟩
  | .KY_CFG => ⟨0x500000, 1, 1, 0x4, 0x0, .cdie, 0x0, 0x0, 0x0, 0x0, 0x0, 0x18400000⟩
  | .KY_TONE => ⟨0x500004, 1, 1, 0x4, 0x0, .cdie, 0x0, 0x0, 0x0, 0x0, 0x0, 0x258000a⟩
  | .KY_LAYOUT => ⟨0x500008, 1, 1, 0x4, 0x0, .cdie, 0x0, 0x0, 0x0, 0x0, 0x0, 0x0⟩
  | .KY_LIMITS => ⟨0x50000c, 1, 1, 0x4, 0x0, .cdie, 0x0, 0x0, 0x0, 0x0, 0x0, 0x0⟩
  | .KY_STATUS => ⟨0x500010, 1, 1, 0x4, 0x0, .cdie, 0x0, 0x0, 0x0, 0x0, 0x0, 0x8000000⟩
  | .KY_SF => ⟨0x500014, 1, 1, 0x4, 0x0, .cdie, 0x0, 0x0, 0x0, 0x0, 0x0, 0x0⟩
  | .KY_ERR => ⟨0x500018, 1, 1, 0x4, 0x0, .cdie, 0x0, 0xf, 0x0, 0x0, 0x0, 0x0⟩
  | .KY_TX_FRAMES => ⟨0x500020, 1, 1, 0x4, 0x0, .cdie, 0x0, 0x0, 0xffffffff, 0x0, 0x0, 0x0⟩
  | .KY_RX_FRAMES => ⟨0x500024, 1, 1, 0x4, 0x0, .cdie, 0x0, 0x0, 0xffffffff, 0x0, 0x0, 0x0⟩
  | .KY_RS_CORRECTED => ⟨0x500028, 1, 1, 0x4, 0x0, .cdie, 0x0, 0x0, 0xffffffff, 0x0, 0x0, 0x0⟩
  | .KY_RS_FAILED => ⟨0x50002c, 1, 1, 0x4, 0x0, .cdie, 0x0, 0x0, 0xffffffff, 0x0, 0x0, 0x0⟩
  | .KY_COLLISIONS => ⟨0x500030, 1, 1, 0x4, 0x0, .cdie, 0x0, 0x0, 0xffffffff, 0x0, 0x0, 0x0⟩
  | .KY_RX_DROPPED => ⟨0x500034, 1, 1, 0x4, 0x0, .cdie, 0x0, 0x0, 0xffffffff, 0x0, 0x0, 0x0⟩
  | .TAG_STATUS => ⟨0x580000, 1, 1, 0x4, 0x0, .cdie, 0x0, 0x0, 0x0, 0x0, 0x0, 0x0⟩
  | .RD_CFG => ⟨0x580100, 8, 1, 0x10, 0x0, .cdie, 0x0, 0x0, 0x0, 0x0, 0x0, 0x1f4a8008⟩
  | .RD_STATUS => ⟨0x580104, 8, 1, 0x10, 0x0, .cdie, 0x0, 0x0, 0x0, 0x0, 0x0, 0xff000000⟩
  | .ANT_CFG => ⟨0x581000, 64, 1, 0x10, 0x0, .cdie, 0x0, 0x0, 0x0, 0x0, 0x0, 0x140f⟩
  | .ANT_BASE => ⟨0x581004, 64, 1, 0x10, 0x0, .cdie, 0x0, 0x0, 0x0, 0x0, 0x0, 0x0⟩
  | .ANT_STATUS => ⟨0x581008, 64, 1, 0x10, 0x0, .cdie, 0x0, 0x0, 0x0, 0x0, 0x0, 0x0⟩
  | .ANT_COUNT => ⟨0x58100c, 64, 1, 0x10, 0x0, .cdie, 0x0, 0x0, 0xffffffff, 0x0, 0x0, 0x0⟩
  | .KEY_STATUS => ⟨0x600000, 1, 1, 0x4, 0x0, .cdie, 0x0, 0x0, 0x0, 0x0, 0x0, 0x0⟩
  | .KEY_ERR => ⟨0x600004, 1, 1, 0x4, 0x0, .cdie, 0x0, 0xf, 0x0, 0x0, 0x0, 0x0⟩
  | .KEY_TAMPER => ⟨0x600008, 1, 1, 0x4, 0x0, .vbat, 0x0, 0x1f, 0x0, 0x0, 0x0, 0x0⟩
  | .KEY_TAMPER_TIME_LO => ⟨0x60000c, 1, 1, 0x4, 0x0, .vbat, 0x0, 0x0, 0x0, 0x0, 0x0, 0x0⟩
  | .KEY_TAMPER_TIME_HI => ⟨0x600010, 1, 1, 0x4, 0x0, .vbat, 0x0, 0x0, 0x0, 0x0, 0x0, 0x0⟩
  | .KEY_ROOT_ID => ⟨0x600014, 1, 1, 0x4, 0x0, .vbat, 0x0, 0x0, 0x0, 0x0, 0x0, 0x0⟩
  | .KEY_REMASK => ⟨0x600018, 1, 1, 0x4, 0x0, .cdie, 0x0, 0x0, 0x0, 0x0, 0x0, 0x0⟩
  | .KEY_RIGHTS => ⟨0x60001c, 1, 1, 0x4, 0x0, .cdie, 0x0, 0x0, 0x0, 0x0, 0x0, 0x0⟩
  | .KEY_ATTR => ⟨0x601000, 256, 1, 0x20, 0x0, .cdie, 0x0, 0x0, 0x0, 0x0, 0x0, 0x0⟩
  | .KEY_PARENT => ⟨0x601004, 256, 1, 0x20, 0x0, .cdie, 0x0, 0x0, 0x0, 0x0, 0x0, 0x1ff⟩
  | .KEY_PGEN => ⟨0x601008, 256, 1, 0x20, 0x0, .cdie, 0x0, 0x0, 0x0, 0x0, 0x0, 0x0⟩
  | .KEY_GEN => ⟨0x60100c, 256, 1, 0x20, 0x0, .vbat, 0x0, 0x0, 0x0, 0x0, 0x0, 0x0⟩
  | .KEY_ID => ⟨0x601010, 256, 1, 0x20, 0x0, .cdie, 0x0, 0x0, 0x0, 0x0, 0x0, 0x0⟩
  | .UPD_STATUS => ⟨0x680000, 1, 1, 0x4, 0x0, .cdie, 0x0, 0x0, 0x0, 0x0, 0x0, 0x0⟩
  | .UPD_VERSION_RUN => ⟨0x680004, 1, 1, 0x4, 0x0, .cdie, 0x0, 0x0, 0x0, 0x0, 0x0, 0x0⟩
  | .UPD_VERSION_STAGED => ⟨0x680008, 1, 1, 0x4, 0x0, .cdie, 0x0, 0x0, 0x0, 0x0, 0x0, 0x0⟩
  | .UPD_VERSION_FALLBACK => ⟨0x68000c, 1, 1, 0x4, 0x0, .cdie, 0x0, 0x0, 0x0, 0x0, 0x0, 0x0⟩
  | .UPD_TRIAL => ⟨0x680010, 1, 1, 0x4, 0x0, .cdie, 0x0, 0x0, 0x0, 0x0, 0x0, 0x0⟩
  | .UPD_SVN => ⟨0x680014, 1, 1, 0x4, 0x0, .cdie, 0x0, 0x0, 0x0, 0x0, 0x0, 0x0⟩
  | .UPD_OWNER => ⟨0x680018, 1, 1, 0x4, 0x0, .cdie, 0x0, 0x0, 0x0, 0x0, 0x0, 0x0⟩
  | .UPD_CONFIG_SEQ => ⟨0x68001c, 1, 1, 0x4, 0x0, .cdie, 0x0, 0x0, 0x0, 0x0, 0x0, 0x0⟩
  | .UPD_CONFIG_ID => ⟨0x680020, 1, 1, 0x4, 0x0, .cdie, 0x0, 0x0, 0x0, 0x0, 0x0, 0x0⟩
  | .UPD_LAST_PAUSE => ⟨0x680024, 1, 1, 0x4, 0x0, .cdie, 0x0, 0x0, 0x0, 0x0, 0x0, 0x0⟩
  | .UPD_ERR => ⟨0x680028, 1, 1, 0x4, 0x0, .aon, 0x0, 0x1f, 0x0, 0x0, 0x0, 0x0⟩
  | .UPD_SERIAL_HASH_LO => ⟨0x68002c, 1, 1, 0x4, 0x0, .fixed, 0x0, 0x0, 0x0, 0x0, 0x0, 0x0⟩
  | .UPD_SERIAL_HASH_HI => ⟨0x680030, 1, 1, 0x4, 0x0, .fixed, 0x0, 0x0, 0x0, 0x0, 0x0, 0x0⟩
  | .UPD_RESIDENT => ⟨0x680040, 4, 1, 0x4, 0x0, .cdie, 0x0, 0x0, 0x0, 0x0, 0x0, 0x0⟩
  | .SYS_ERR_SUMMARY => ⟨0x10, 1, 1, 0x4, 0x0, .cdie, 0x0, 0x0, 0x0, 0x0, 0x0, 0x0⟩
  | .SYS_MPU_MAP => ⟨0x20, 4, 1, 0x4, 0x0, .cdie, 0x0, 0x0, 0x0, 0x0, 0x0, 0x0⟩

/-- The index of a register at an address, by its table row; none where the row has no register there. -/
def RegInfo.indexOf (r : RegInfo) (a : Nat) : Option Nat :=
  if a < r.base then none
  else
    let off := a - r.base
    let outer := if r.s1 = 0 then 0 else off / r.s1
    let rest := off - outer * r.s1
    let k := if r.s2 = 0 then 0 else rest / r.s2
    if k < r.inner && rest = k * r.s2 && outer * r.inner + k < r.n then some (outer * r.inner + k) else none

/-- Every register. -/
def Reg.all : List Reg :=
  ([.SYS_ID, .SYS_REV, .SYS_UNIT_PRESENT, .CLK_STATUS, .CLK_ERR, .PWR_DVFS, .PWR_DVFS_ERR, .PWR_STATE, .PWR_REQ, .PWR_REQ_STATUS, .PWR_IDLE_CFG, .PWR_WAKE_EN, .PWR_WAKE_SRC, .PWR_ALARM_LO, .PWR_ALARM_HI, .WP_CFG, .WP_STATUS, .WP_BUF, .RST_CAUSE, .RST_CTRL] : List Reg) ++
  ([.FAB_XERR, .FAB_XERR_ADDR, .BOOT_STATUS, .BOOT_STRAP, .BOOT_IMG_LO, .BOOT_IMG_HI, .BOOT_IMG_LEN, .HOST_WIN_LO, .HOST_WIN_HI, .HOST_WIN_SIZE, .RING_SEL, .RING_BASE_LO, .RING_BASE_HI, .RING_DB_LO, .RING_DB_HI, .RING_CFG, .RING_CTRL, .RING_STATUS, .HOST_CTRL, .HOST_STATUS] : List Reg) ++
  ([.HOST_ERR, .HOST_EVT_LOST, .HOST_EVT_CFG, .ETH_CFG, .ETH_MAC_LO, .ETH_MAC_HI, .ETH_STATUS, .ETH_OFFSET, .ETH_PATH, .ETH_RX_FRAMES, .ETH_RX_DROPPED, .ETH_TX_FRAMES, .ETH_PTP_RX, .ETH_TIME_TRIM, .ETH_MDIO, .MBX_ERR, .SPAD_APER, .SPAD_CONF, .SPAD_ECC, .ENG_MPU_BASE] : List Reg) ++
  ([.ENG_MPU_LIMIT, .ENG_MPU_FAULT, .ENG_MPU_FAULT_ADDR, .ENG_STATE, .ENG_LOAD, .ENG_DLMISS, .ENG_HEALTH, .ENG_ADMIT_STATUS, .ENG_ADMIT_ITEM, .ENG_ADMIT_SPARES, .ENG_POOL, .CH_CFG, .CH_STATUS, .CH_SAMPLE, .CH_INDEX, .CH_GAIN, .CH_OFFSET, .CH_SCALE, .CH_SEAM, .CH_REGEL_LO] : List Reg) ++
  ([.CH_REGEL_HI, .CH_OVR_COUNT, .CH_DELAY, .CH_PHASE, .CH_DELAY_EFF, .ADC_STATUS, .ADC_GAIN, .ADC_OFFSET, .ADC_COUNT, .REF_STATUS, .REF_DEV, .REGEL_STATUS, .REGEL_ROUND, .REGEL_SEAMS, .REGEL_SEAM_FAIL, .MP_UNB_LO, .MP_UNB_HI, .MP_CFG, .MP_STATE, .MP_UCH] : List Reg) ++
  ([.MP_ICH, .MP_FREQ, .MP_P, .MP_Q, .MP_S, .MP_PF, .MP_START_INDEX, .MP_FREEZE_INDEX, .FP_STATUS, .FP_RATE, .FP_QM, .FP_DP, .FP_P, .FP_T, .FP_RHO, .FP_H, .FP_C, .FP_PRED, .FP_TRIM, .FP_BLOCK] : List Reg) ++
  ([.FP_OUTSIDE, .MP_DEMAND, .MP_MD, .MP_UN, .MP_IN, .MP_MD_RESETS, .MP_REC_SEQ, .MP_REC_STATE, .MP_COMMIT_IDX, .MP_OUTAGES, .MP_URMS, .MP_IRMS, .MP_BILL_LO, .MP_BILL_HI, .MP_MD_TIME, .PI_CFG, .PI_CORR, .PI_EDGES, .PI_MISS, .PI_SPUR] : List Reg) ++
  ([.FIRN_STATUS, .FIRN_CAL_COUNT, .FIRN_CHECK, .FIRN_CHECK_REF, .FIRN_LTIME_LO, .FIRN_LTIME_HI, .FIRN_CLOCK_DEV, .FIRN_ADJ_USED, .FIRN_COMMIT_SEQ, .FIRN_COMMIT_CFG, .FIRN_REC_SEQ, .FIRN_QUEUE, .FIRN_OUTAGES, .FIRN_SCHED, .FIRN_SCHED_PEND, .FENG_STATE, .FENG_HEALTH, .FENG_DLMISS, .FIRN_POOL, .FSPAD_CONF] : List Reg) ++
  ([.FSPAD_ECC, .PTO_CFG, .PTO_COUNT, .PTO_QPP, .TAMPER_COUNT, .TAMPER_STATE, .TAMPER_FIRST, .TAMPER_LAST, .MOR_STATUS, .MOR_HEAD_SEQ, .MOR_TAIL_SEQ, .MOR_LOST, .MOR_OVERWRITTEN, .DISP_STATUS, .DISP_CFG, .DISP_CRC, .LEDGER_STATUS, .LEDGER_ERR, .LEDGER_POST_SEQ_LO, .LEDGER_POST_SEQ_HI] : List Reg) ++
  ([.LEDGER_QUARANTINED, .LEDGER_POISONED, .LEDGER_LAST_ABORT, .LEDGER_TAG_FAIL_ADDR, .LEDGER_POSTS, .LEDGER_ABORTS, .LEDGER_JOURNAL, .TARIFF_STATUS, .TARIFF_ID, .TARIFF_PEND_ID, .SLICE_CFG, .SLICE_STATUS, .SLICE_PILOT, .SLICE_DUTY, .SLICE_PP, .SLICE_RDC, .SLICE_ISO, .SLICE_DC_SET, .SLICE_HLC, .SLICE_CRED_LO] : List Reg) ++
  ([.SLICE_CRED_HI, .SLICE_COUNT, .SLICE_LIMITS, .DRV_STATUS, .DRV_ERR, .DRV_WDT, .DRV_ISNS_SEL, .SW_CFG, .SW_LOAD, .SW_STATUS, .SW_CURRENT, .SW_CLAMP, .SW_COUNT, .GOV_BUDGET, .GOV_RATE, .GOV_RAMP, .GOV_STATUS, .GOV_ALLOC, .GOV_FLOOR, .GOV_SITE_BUDGET] : List Reg) ++
  ([.GOV_SITE_ALLOC, .GOV_SITE_LEVEL, .SERAC_STATUS, .SERAC_DIAG, .SERAC_DEGRADED, .SERAC_ENABLE, .SERAC_FUNC_STATE, .SERAC_INPUT_LO, .SERAC_INPUT_HI, .SERAC_INFAULT, .SERAC_CONFIG_ID, .SERAC_IMAGE, .SERAC_LOG, .SERAC_LOG_SEQ, .SERAC_UNTESTED, .SERAC_ENMAP, .SERAC_FUNC, .SERAC_FUNC_COUNT, .KY_CFG, .KY_TONE] : List Reg) ++
  ([.KY_LAYOUT, .KY_LIMITS, .KY_STATUS, .KY_SF, .KY_ERR, .KY_TX_FRAMES, .KY_RX_FRAMES, .KY_RS_CORRECTED, .KY_RS_FAILED, .KY_COLLISIONS, .KY_RX_DROPPED, .TAG_STATUS, .RD_CFG, .RD_STATUS, .ANT_CFG, .ANT_BASE, .ANT_STATUS, .ANT_COUNT, .KEY_STATUS, .KEY_ERR] : List Reg) ++
  ([.KEY_TAMPER, .KEY_TAMPER_TIME_LO, .KEY_TAMPER_TIME_HI, .KEY_ROOT_ID, .KEY_REMASK, .KEY_RIGHTS, .KEY_ATTR, .KEY_PARENT, .KEY_PGEN, .KEY_GEN, .KEY_ID, .UPD_STATUS, .UPD_VERSION_RUN, .UPD_VERSION_STAGED, .UPD_VERSION_FALLBACK, .UPD_TRIAL, .UPD_SVN, .UPD_OWNER, .UPD_CONFIG_SEQ, .UPD_CONFIG_ID] : List Reg) ++
  ([.UPD_LAST_PAUSE, .UPD_ERR, .UPD_SERIAL_HASH_LO, .UPD_SERIAL_HASH_HI, .UPD_RESIDENT, .SYS_ERR_SUMMARY, .SYS_MPU_MAP] : List Reg)

namespace Fld
def SYS_ID__ID : Fld := ⟨.SYS_ID, 0, 32⟩
def SYS_REV__STEP_LETTER : Fld := ⟨.SYS_REV, 8, 8⟩
def SYS_REV__STEP_DIGIT : Fld := ⟨.SYS_REV, 0, 8⟩
def SYS_UNIT_PRESENT__VARIANT : Fld := ⟨.SYS_UNIT_PRESENT, 24, 8⟩
def SYS_UNIT_PRESENT__READER : Fld := ⟨.SYS_UNIT_PRESENT, 6, 1⟩
def SYS_UNIT_PRESENT__KYOTI : Fld := ⟨.SYS_UNIT_PRESENT, 5, 1⟩
def SYS_UNIT_PRESENT__SERAC : Fld := ⟨.SYS_UNIT_PRESENT, 4, 1⟩
def SYS_UNIT_PRESENT__DDIE : Fld := ⟨.SYS_UNIT_PRESENT, 3, 1⟩
def SYS_UNIT_PRESENT__F1 : Fld := ⟨.SYS_UNIT_PRESENT, 2, 1⟩
def SYS_UNIT_PRESENT__F0 : Fld := ⟨.SYS_UNIT_PRESENT, 1, 1⟩
def SYS_UNIT_PRESENT__CDIE : Fld := ⟨.SYS_UNIT_PRESENT, 0, 1⟩
def CLK_STATUS__F1_PLL_LOCK : Fld := ⟨.CLK_STATUS, 7, 1⟩
def CLK_STATUS__F0_PLL_LOCK : Fld := ⟨.CLK_STATUS, 6, 1⟩
def CLK_STATUS__AON_OSC_OK : Fld := ⟨.CLK_STATUS, 5, 1⟩
def CLK_STATUS__SERDES_PLL_LOCK : Fld := ⟨.CLK_STATUS, 4, 1⟩
def CLK_STATUS__MEM_PLL_LOCK : Fld := ⟨.CLK_STATUS, 3, 1⟩
def CLK_STATUS__CORE_PLL_LOCK : Fld := ⟨.CLK_STATUS, 2, 1⟩
def CLK_STATUS__REFCLK_OK : Fld := ⟨.CLK_STATUS, 1, 1⟩
def CLK_ERR__AON_OSC_FAIL : Fld := ⟨.CLK_ERR, 5, 1⟩
def CLK_ERR__SERDES_UNLOCK : Fld := ⟨.CLK_ERR, 4, 1⟩
def CLK_ERR__MEM_UNLOCK : Fld := ⟨.CLK_ERR, 3, 1⟩
def CLK_ERR__CORE_UNLOCK : Fld := ⟨.CLK_ERR, 2, 1⟩
def CLK_ERR__REFCLK_LOSS : Fld := ⟨.CLK_ERR, 1, 1⟩
def PWR_DVFS__VOK : Fld := ⟨.PWR_DVFS, 12, 1⟩
def PWR_DVFS__FLOOR : Fld := ⟨.PWR_DVFS, 8, 2⟩
def PWR_DVFS__FSEL : Fld := ⟨.PWR_DVFS, 4, 2⟩
def PWR_DVFS__VSEL : Fld := ⟨.PWR_DVFS, 0, 2⟩
def PWR_DVFS_ERR__COUNT : Fld := ⟨.PWR_DVFS_ERR, 8, 8⟩
def PWR_DVFS_ERR__CAUSE : Fld := ⟨.PWR_DVFS_ERR, 4, 4⟩
def PWR_DVFS_ERR__ERR : Fld := ⟨.PWR_DVFS_ERR, 0, 1⟩
def PWR_STATE__STATE : Fld := ⟨.PWR_STATE, 16, 4⟩
def PWR_STATE__CLUSTER_IDLE : Fld := ⟨.PWR_STATE, 0, 16⟩
def PWR_REQ__REQ : Fld := ⟨.PWR_REQ, 0, 4⟩
def PWR_REQ_STATUS__RESULT : Fld := ⟨.PWR_REQ_STATUS, 4, 4⟩
def PWR_REQ_STATUS__CAUSE : Fld := ⟨.PWR_REQ_STATUS, 0, 4⟩
def PWR_IDLE_CFG__SLEEP_EN : Fld := ⟨.PWR_IDLE_CFG, 31, 1⟩
def PWR_IDLE_CFG__SLEEP_FIRN : Fld := ⟨.PWR_IDLE_CFG, 30, 1⟩
def PWR_IDLE_CFG__SLEEP_KYOTI : Fld := ⟨.PWR_IDLE_CFG, 29, 1⟩
def PWR_IDLE_CFG__SLEEP_READER : Fld := ⟨.PWR_IDLE_CFG, 28, 1⟩
def PWR_IDLE_CFG__SLEEP_DELAY : Fld := ⟨.PWR_IDLE_CFG, 16, 12⟩
def PWR_IDLE_CFG__IDLE_DELAY : Fld := ⟨.PWR_IDLE_CFG, 0, 8⟩
def PWR_WAKE_EN__WAKE_POL : Fld := ⟨.PWR_WAKE_EN, 31, 1⟩
def PWR_WAKE_EN__TAMPER : Fld := ⟨.PWR_WAKE_EN, 13, 1⟩
def PWR_WAKE_EN__REG_ACCESS : Fld := ⟨.PWR_WAKE_EN, 12, 1⟩
def PWR_WAKE_EN__SERAC : Fld := ⟨.PWR_WAKE_EN, 11, 1⟩
def PWR_WAKE_EN__READER : Fld := ⟨.PWR_WAKE_EN, 10, 1⟩
def PWR_WAKE_EN__KYOTI : Fld := ⟨.PWR_WAKE_EN, 9, 1⟩
def PWR_WAKE_EN__FIRN1 : Fld := ⟨.PWR_WAKE_EN, 8, 1⟩
def PWR_WAKE_EN__FIRN0 : Fld := ⟨.PWR_WAKE_EN, 7, 1⟩
def PWR_WAKE_EN__DDIE : Fld := ⟨.PWR_WAKE_EN, 6, 1⟩
def PWR_WAKE_EN__ETH : Fld := ⟨.PWR_WAKE_EN, 5, 1⟩
def PWR_WAKE_EN__PCIE_H1 : Fld := ⟨.PWR_WAKE_EN, 4, 1⟩
def PWR_WAKE_EN__PCIE_H0 : Fld := ⟨.PWR_WAKE_EN, 3, 1⟩
def PWR_WAKE_EN__AON_ALARM : Fld := ⟨.PWR_WAKE_EN, 2, 1⟩
def PWR_WAKE_EN__WAKE_PORT : Fld := ⟨.PWR_WAKE_EN, 1, 1⟩
def PWR_WAKE_EN__WAKE_BALL : Fld := ⟨.PWR_WAKE_EN, 0, 1⟩
def PWR_WAKE_SRC__SRC : Fld := ⟨.PWR_WAKE_SRC, 0, 14⟩
def PWR_ALARM_LO__ALARM_LO : Fld := ⟨.PWR_ALARM_LO, 0, 32⟩
def PWR_ALARM_HI__ALARM_HI : Fld := ⟨.PWR_ALARM_HI, 0, 32⟩
def WP_CFG__EN : Fld := ⟨.WP_CFG, 31, 1⟩
def WP_CFG__HOST : Fld := ⟨.WP_CFG, 30, 1⟩
def WP_CFG__ADDR : Fld := ⟨.WP_CFG, 0, 7⟩
def WP_STATUS__RELEASE : Fld := ⟨.WP_STATUS, 31, 1⟩
def WP_STATUS__NACKED : Fld := ⟨.WP_STATUS, 16, 8⟩
def WP_STATUS__TRUNC : Fld := ⟨.WP_STATUS, 7, 1⟩
def WP_STATUS__VALID : Fld := ⟨.WP_STATUS, 6, 1⟩
def WP_STATUS__COUNT : Fld := ⟨.WP_STATUS, 0, 6⟩
def WP_BUF__BYTE3 : Fld := ⟨.WP_BUF, 24, 8⟩
def WP_BUF__BYTE2 : Fld := ⟨.WP_BUF, 16, 8⟩
def WP_BUF__BYTE1 : Fld := ⟨.WP_BUF, 8, 8⟩
def WP_BUF__BYTE0 : Fld := ⟨.WP_BUF, 0, 8⟩
def RST_CAUSE__CAUSE : Fld := ⟨.RST_CAUSE, 0, 13⟩
def RST_CTRL__KEY : Fld := ⟨.RST_CTRL, 16, 16⟩
def RST_CTRL__CDIE_RESET : Fld := ⟨.RST_CTRL, 0, 1⟩
def FAB_XERR__INIT : Fld := ⟨.FAB_XERR, 16, 4⟩
def FAB_XERR__XID : Fld := ⟨.FAB_XERR, 8, 4⟩
def FAB_XERR__OVERFLOW : Fld := ⟨.FAB_XERR, 2, 1⟩
def FAB_XERR__DOMAIN_OFF : Fld := ⟨.FAB_XERR, 1, 1⟩
def FAB_XERR__TIMEOUT : Fld := ⟨.FAB_XERR, 0, 1⟩
def FAB_XERR_ADDR__ADDR : Fld := ⟨.FAB_XERR_ADDR, 0, 32⟩
def BOOT_STATUS__ERROR : Fld := ⟨.BOOT_STATUS, 24, 8⟩
def BOOT_STATUS__FATAL : Fld := ⟨.BOOT_STATUS, 23, 1⟩
def BOOT_STATUS__SLOT : Fld := ⟨.BOOT_STATUS, 16, 1⟩
def BOOT_STATUS__DEGRADED : Fld := ⟨.BOOT_STATUS, 8, 8⟩
def BOOT_STATUS__STAGE : Fld := ⟨.BOOT_STATUS, 0, 4⟩
def BOOT_STRAP__SNS_SEL_MODE : Fld := ⟨.BOOT_STRAP, 2, 1⟩
def BOOT_STRAP__BOOT_MODE : Fld := ⟨.BOOT_STRAP, 0, 2⟩
def BOOT_IMG_LO__ADDR_LO : Fld := ⟨.BOOT_IMG_LO, 0, 32⟩
def BOOT_IMG_HI__ADDR_HI : Fld := ⟨.BOOT_IMG_HI, 0, 32⟩
def BOOT_IMG_LEN__GO : Fld := ⟨.BOOT_IMG_LEN, 31, 1⟩
def BOOT_IMG_LEN__LEN : Fld := ⟨.BOOT_IMG_LEN, 0, 25⟩
def HOST_WIN_LO__BASE_LO : Fld := ⟨.HOST_WIN_LO, 12, 20⟩
def HOST_WIN_LO__WR : Fld := ⟨.HOST_WIN_LO, 1, 1⟩
def HOST_WIN_LO__RD : Fld := ⟨.HOST_WIN_LO, 0, 1⟩
def HOST_WIN_HI__BASE_HI : Fld := ⟨.HOST_WIN_HI, 0, 32⟩
def HOST_WIN_SIZE__PAGES : Fld := ⟨.HOST_WIN_SIZE, 0, 32⟩
def RING_SEL__CQ : Fld := ⟨.RING_SEL, 5, 1⟩
def RING_SEL__INDEX : Fld := ⟨.RING_SEL, 0, 5⟩
def RING_BASE_LO__ADDR_LO : Fld := ⟨.RING_BASE_LO, 0, 32⟩
def RING_BASE_HI__ADDR_HI : Fld := ⟨.RING_BASE_HI, 0, 32⟩
def RING_DB_LO__ADDR_LO : Fld := ⟨.RING_DB_LO, 0, 32⟩
def RING_DB_HI__ADDR_HI : Fld := ⟨.RING_DB_HI, 0, 32⟩
def RING_CFG__MOD_COUNT : Fld := ⟨.RING_CFG, 26, 6⟩
def RING_CFG__MOD_TIME : Fld := ⟨.RING_CFG, 16, 10⟩
def RING_CFG__VECTOR : Fld := ⟨.RING_CFG, 10, 6⟩
def RING_CFG__BIND_CQ : Fld := ⟨.RING_CFG, 5, 5⟩
def RING_CFG__LOG2_SIZE : Fld := ⟨.RING_CFG, 0, 5⟩
def RING_CTRL__CMD : Fld := ⟨.RING_CTRL, 0, 2⟩
def RING_STATUS__HEAD : Fld := ⟨.RING_STATUS, 16, 16⟩
def RING_STATUS__ERR_CAUSE : Fld := ⟨.RING_STATUS, 8, 4⟩
def RING_STATUS__STATE : Fld := ⟨.RING_STATUS, 0, 3⟩
def HOST_CTRL__EN : Fld := ⟨.HOST_CTRL, 31, 1⟩
def HOST_CTRL__POLL_US : Fld := ⟨.HOST_CTRL, 16, 8⟩
def HOST_CTRL__IDLE_US : Fld := ⟨.HOST_CTRL, 0, 16⟩
def HOST_STATUS__INFLIGHT : Fld := ⟨.HOST_STATUS, 20, 11⟩
def HOST_STATUS__LINK_WIDTH : Fld := ⟨.HOST_STATUS, 16, 4⟩
def HOST_STATUS__LINK_SPEED : Fld := ⟨.HOST_STATUS, 12, 4⟩
def HOST_STATUS__LINK_STATE : Fld := ⟨.HOST_STATUS, 8, 4⟩
def HOST_STATUS__EVT_FAILOVER : Fld := ⟨.HOST_STATUS, 2, 1⟩
def HOST_STATUS__HELD : Fld := ⟨.HOST_STATUS, 1, 1⟩
def HOST_STATUS__DRAINED : Fld := ⟨.HOST_STATUS, 0, 1⟩
def HOST_ERR__WIN_LOCKED : Fld := ⟨.HOST_ERR, 7, 1⟩
def HOST_ERR__FOREIGN_WRITE : Fld := ⟨.HOST_ERR, 6, 1⟩
def HOST_ERR__DMA_ABORT : Fld := ⟨.HOST_ERR, 5, 1⟩
def HOST_ERR__EVT_LOST : Fld := ⟨.HOST_ERR, 4, 1⟩
def HOST_ERR__RING : Fld := ⟨.HOST_ERR, 3, 1⟩
def HOST_ERR__BAD_DESC : Fld := ⟨.HOST_ERR, 2, 1⟩
def HOST_ERR__PROTECTION : Fld := ⟨.HOST_ERR, 1, 1⟩
def HOST_ERR__BOUNDARY : Fld := ⟨.HOST_ERR, 0, 1⟩
def HOST_EVT_LOST__COUNT : Fld := ⟨.HOST_EVT_LOST, 0, 32⟩
def HOST_EVT_CFG__FAILOVER_MS : Fld := ⟨.HOST_EVT_CFG, 16, 16⟩
def HOST_EVT_CFG__CLASS_MASK : Fld := ⟨.HOST_EVT_CFG, 0, 14⟩
def ETH_CFG__EN : Fld := ⟨.ETH_CFG, 31, 1⟩
def ETH_CFG__PTP_EN : Fld := ⟨.ETH_CFG, 30, 1⟩
def ETH_CFG__ROLE : Fld := ⟨.ETH_CFG, 28, 2⟩
def ETH_CFG__LOCAL_MAC : Fld := ⟨.ETH_CFG, 27, 1⟩
def ETH_CFG__DOMAIN : Fld := ⟨.ETH_CFG, 16, 8⟩
def ETH_CFG__PRIORITY1 : Fld := ⟨.ETH_CFG, 8, 8⟩
def ETH_CFG__LOG_SYNC : Fld := ⟨.ETH_CFG, 4, 4⟩
def ETH_CFG__LOG_ANNOUNCE : Fld := ⟨.ETH_CFG, 0, 4⟩
def ETH_MAC_LO__ADDR_LO : Fld := ⟨.ETH_MAC_LO, 0, 32⟩
def ETH_MAC_HI__ADDR_HI : Fld := ⟨.ETH_MAC_HI, 0, 16⟩
def ETH_STATUS__LINK : Fld := ⟨.ETH_STATUS, 31, 1⟩
def ETH_STATUS__PTP_STATE : Fld := ⟨.ETH_STATUS, 24, 4⟩
def ETH_STATUS__LOCKED : Fld := ⟨.ETH_STATUS, 17, 1⟩
def ETH_STATUS__DISC : Fld := ⟨.ETH_STATUS, 16, 1⟩
def ETH_OFFSET__OFFSET : Fld := ⟨.ETH_OFFSET, 0, 32⟩
def ETH_PATH__DELAY : Fld := ⟨.ETH_PATH, 0, 32⟩
def ETH_RX_FRAMES__VALUE : Fld := ⟨.ETH_RX_FRAMES, 0, 32⟩
def ETH_RX_DROPPED__VALUE : Fld := ⟨.ETH_RX_DROPPED, 0, 32⟩
def ETH_TX_FRAMES__VALUE : Fld := ⟨.ETH_TX_FRAMES, 0, 32⟩
def ETH_PTP_RX__VALUE : Fld := ⟨.ETH_PTP_RX, 0, 32⟩
def ETH_TIME_TRIM__STEPS : Fld := ⟨.ETH_TIME_TRIM, 24, 8⟩
def ETH_TIME_TRIM__TRIM : Fld := ⟨.ETH_TIME_TRIM, 0, 8⟩
def ETH_MDIO__GO : Fld := ⟨.ETH_MDIO, 31, 1⟩
def ETH_MDIO__WRITE : Fld := ⟨.ETH_MDIO, 30, 1⟩
def ETH_MDIO__PHYAD : Fld := ⟨.ETH_MDIO, 25, 5⟩
def ETH_MDIO__REGAD : Fld := ⟨.ETH_MDIO, 20, 5⟩
def ETH_MDIO__DATA : Fld := ⟨.ETH_MDIO, 0, 16⟩
def MBX_ERR__LATE : Fld := ⟨.MBX_ERR, 24, 8⟩
def MBX_ERR__BAD_LEN : Fld := ⟨.MBX_ERR, 2, 1⟩
def MBX_ERR__BUSY : Fld := ⟨.MBX_ERR, 1, 1⟩
def MBX_ERR__FOREIGN : Fld := ⟨.MBX_ERR, 0, 1⟩
def SPAD_APER__EN : Fld := ⟨.SPAD_APER, 31, 1⟩
def SPAD_APER__APER_REFUSED : Fld := ⟨.SPAD_APER, 8, 1⟩
def SPAD_APER__CLUSTER : Fld := ⟨.SPAD_APER, 0, 4⟩
def SPAD_CONF__WAITS : Fld := ⟨.SPAD_CONF, 0, 32⟩
def SPAD_ECC__CORRECTED : Fld := ⟨.SPAD_ECC, 0, 16⟩
def ENG_MPU_BASE__BASE : Fld := ⟨.ENG_MPU_BASE, 5, 27⟩
def ENG_MPU_LIMIT__LIMIT : Fld := ⟨.ENG_MPU_LIMIT, 5, 27⟩
def ENG_MPU_LIMIT__X : Fld := ⟨.ENG_MPU_LIMIT, 3, 1⟩
def ENG_MPU_LIMIT__W : Fld := ⟨.ENG_MPU_LIMIT, 2, 1⟩
def ENG_MPU_LIMIT__R : Fld := ⟨.ENG_MPU_LIMIT, 1, 1⟩
def ENG_MPU_LIMIT__EN : Fld := ⟨.ENG_MPU_LIMIT, 0, 1⟩
def ENG_MPU_FAULT__NONE : Fld := ⟨.ENG_MPU_FAULT, 8, 1⟩
def ENG_MPU_FAULT__KIND : Fld := ⟨.ENG_MPU_FAULT, 6, 2⟩
def ENG_MPU_FAULT__REGION : Fld := ⟨.ENG_MPU_FAULT, 2, 4⟩
def ENG_MPU_FAULT__PROTECTION : Fld := ⟨.ENG_MPU_FAULT, 1, 1⟩
def ENG_MPU_FAULT__BOUNDARY : Fld := ⟨.ENG_MPU_FAULT, 0, 1⟩
def ENG_MPU_FAULT_ADDR__ADDR : Fld := ⟨.ENG_MPU_FAULT_ADDR, 0, 32⟩
def ENG_STATE__TASKS : Fld := ⟨.ENG_STATE, 16, 8⟩
def ENG_STATE__ROLE : Fld := ⟨.ENG_STATE, 8, 2⟩
def ENG_STATE__STATE : Fld := ⟨.ENG_STATE, 0, 4⟩
def ENG_LOAD__UTIL_FLOOR : Fld := ⟨.ENG_LOAD, 16, 10⟩
def ENG_LOAD__UTIL_TOP : Fld := ⟨.ENG_LOAD, 0, 10⟩
def ENG_DLMISS__OVERRUN : Fld := ⟨.ENG_DLMISS, 16, 16⟩
def ENG_DLMISS__MISS : Fld := ⟨.ENG_DLMISS, 0, 16⟩
def ENG_HEALTH__RETIRE_COUNT : Fld := ⟨.ENG_HEALTH, 24, 4⟩
def ENG_HEALTH__LAST_CAUSE : Fld := ⟨.ENG_HEALTH, 16, 8⟩
def ENG_HEALTH__SHADOW : Fld := ⟨.ENG_HEALTH, 8, 8⟩
def ENG_HEALTH__PERMANENT : Fld := ⟨.ENG_HEALTH, 7, 1⟩
def ENG_HEALTH__PROGRESS : Fld := ⟨.ENG_HEALTH, 0, 7⟩
def ENG_ADMIT_STATUS__REASON : Fld := ⟨.ENG_ADMIT_STATUS, 4, 4⟩
def ENG_ADMIT_STATUS__OUTCOME : Fld := ⟨.ENG_ADMIT_STATUS, 0, 4⟩
def ENG_ADMIT_ITEM__ITEM : Fld := ⟨.ENG_ADMIT_ITEM, 0, 32⟩
def ENG_ADMIT_SPARES__F1 : Fld := ⟨.ENG_ADMIT_SPARES, 24, 8⟩
def ENG_ADMIT_SPARES__F0 : Fld := ⟨.ENG_ADMIT_SPARES, 16, 8⟩
def ENG_ADMIT_SPARES__APP : Fld := ⟨.ENG_ADMIT_SPARES, 8, 8⟩
def ENG_ADMIT_SPARES__FW : Fld := ⟨.ENG_ADMIT_SPARES, 0, 8⟩
def ENG_POOL__F1 : Fld := ⟨.ENG_POOL, 24, 8⟩
def ENG_POOL__F0 : Fld := ⟨.ENG_POOL, 16, 8⟩
def ENG_POOL__APP : Fld := ⟨.ENG_POOL, 8, 8⟩
def ENG_POOL__FW : Fld := ⟨.ENG_POOL, 0, 8⟩
def CH_CFG__POINT : Fld := ⟨.CH_CFG, 24, 8⟩
def CH_CFG__USED : Fld := ⟨.CH_CFG, 23, 1⟩
def CH_CFG__GAIN : Fld := ⟨.CH_CFG, 16, 4⟩
def CH_CFG__IEXC : Fld := ⟨.CH_CFG, 12, 2⟩
def CH_CFG__RTD_SRC : Fld := ⟨.CH_CFG, 8, 4⟩
def CH_CFG__TYPE : Fld := ⟨.CH_CFG, 0, 4⟩
def CH_STATUS__SERVING : Fld := ⟨.CH_STATUS, 24, 8⟩
def CH_STATUS__INCOMING : Fld := ⟨.CH_STATUS, 16, 8⟩
def CH_STATUS__FAULT : Fld := ⟨.CH_STATUS, 4, 4⟩
def CH_STATUS__OVR : Fld := ⟨.CH_STATUS, 3, 1⟩
def CH_STATUS__STATE : Fld := ⟨.CH_STATUS, 0, 2⟩
def CH_SAMPLE__V : Fld := ⟨.CH_SAMPLE, 0, 32⟩
def CH_INDEX__INDEX : Fld := ⟨.CH_INDEX, 0, 32⟩
def CH_GAIN__GAIN : Fld := ⟨.CH_GAIN, 0, 32⟩
def CH_OFFSET__OFFSET : Fld := ⟨.CH_OFFSET, 0, 32⟩
def CH_SCALE__SCALE : Fld := ⟨.CH_SCALE, 0, 32⟩
def CH_SEAM__GSTEP : Fld := ⟨.CH_SEAM, 16, 16⟩
def CH_SEAM__DSTEP : Fld := ⟨.CH_SEAM, 0, 16⟩
def CH_REGEL_LO__TIME_LO : Fld := ⟨.CH_REGEL_LO, 0, 32⟩
def CH_REGEL_HI__TIME_HI : Fld := ⟨.CH_REGEL_HI, 0, 32⟩
def CH_OVR_COUNT__COUNT : Fld := ⟨.CH_OVR_COUNT, 0, 32⟩
def CH_DELAY__DELAY : Fld := ⟨.CH_DELAY, 0, 32⟩
def CH_PHASE__PHASE : Fld := ⟨.CH_PHASE, 0, 32⟩
def CH_DELAY_EFF__INDEX : Fld := ⟨.CH_DELAY_EFF, 0, 32⟩
def ADC_STATUS__CHANNEL : Fld := ⟨.ADC_STATUS, 24, 8⟩
def ADC_STATUS__GAIN : Fld := ⟨.ADC_STATUS, 20, 4⟩
def ADC_STATUS__STATE : Fld := ⟨.ADC_STATUS, 16, 4⟩
def ADC_STATUS__LANE : Fld := ⟨.ADC_STATUS, 12, 4⟩
def ADC_STATUS__CLEAN : Fld := ⟨.ADC_STATUS, 6, 2⟩
def ADC_STATUS__CAUSE : Fld := ⟨.ADC_STATUS, 0, 4⟩
def ADC_GAIN__GAIN : Fld := ⟨.ADC_GAIN, 0, 32⟩
def ADC_OFFSET__OFFSET : Fld := ⟨.ADC_OFFSET, 0, 32⟩
def ADC_COUNT__CALS : Fld := ⟨.ADC_COUNT, 16, 16⟩
def ADC_COUNT__FAILS : Fld := ⟨.ADC_COUNT, 8, 8⟩
def ADC_COUNT__RETIRES : Fld := ⟨.ADC_COUNT, 0, 8⟩
def REF_STATUS__STALE : Fld := ⟨.REF_STATUS, 7, 1⟩
def REF_STATUS__HALT : Fld := ⟨.REF_STATUS, 6, 1⟩
def REF_STATUS__DIVERGED : Fld := ⟨.REF_STATUS, 5, 1⟩
def REF_STATUS__SETTLED : Fld := ⟨.REF_STATUS, 4, 1⟩
def REF_STATUS__WORKING : Fld := ⟨.REF_STATUS, 0, 1⟩
def REF_DEV__DEV : Fld := ⟨.REF_DEV, 0, 32⟩
def REGEL_STATUS__POOL : Fld := ⟨.REGEL_STATUS, 24, 8⟩
def REGEL_STATUS__LANES : Fld := ⟨.REGEL_STATUS, 20, 4⟩
def REGEL_STATUS__LEVEL : Fld := ⟨.REGEL_STATUS, 16, 2⟩
def REGEL_STATUS__RETIRED : Fld := ⟨.REGEL_STATUS, 8, 8⟩
def REGEL_STATUS__SERVING : Fld := ⟨.REGEL_STATUS, 0, 8⟩
def REGEL_ROUND__SAMPLES : Fld := ⟨.REGEL_ROUND, 0, 32⟩
def REGEL_SEAMS__COUNT : Fld := ⟨.REGEL_SEAMS, 0, 32⟩
def REGEL_SEAM_FAIL__COUNT : Fld := ⟨.REGEL_SEAM_FAIL, 0, 32⟩
def MP_UNB_LO__VALUE : Fld := ⟨.MP_UNB_LO, 0, 32⟩
def MP_UNB_HI__VALUE : Fld := ⟨.MP_UNB_HI, 0, 32⟩
def MP_CFG__COMMODITY : Fld := ⟨.MP_CFG, 28, 4⟩
def MP_CFG__TOPOLOGY : Fld := ⟨.MP_CFG, 24, 4⟩
def MP_CFG__NO_PATH : Fld := ⟨.MP_CFG, 23, 1⟩
def MP_CFG__NOM_60 : Fld := ⟨.MP_CFG, 22, 1⟩
def MP_CFG__HARM : Fld := ⟨.MP_CFG, 21, 1⟩
def MP_CFG__RATES : Fld := ⟨.MP_CFG, 16, 3⟩
def MP_CFG__SLICE : Fld := ⟨.MP_CFG, 8, 8⟩
def MP_CFG__SWITCH : Fld := ⟨.MP_CFG, 0, 8⟩
def MP_STATE__PHSEQ : Fld := ⟨.MP_STATE, 20, 1⟩
def MP_STATE__HALTED : Fld := ⟨.MP_STATE, 19, 1⟩
def MP_STATE__FIXED : Fld := ⟨.MP_STATE, 18, 1⟩
def MP_STATE__VLOSS : Fld := ⟨.MP_STATE, 17, 1⟩
def MP_STATE__DIR : Fld := ⟨.MP_STATE, 16, 1⟩
def MP_STATE__RATE : Fld := ⟨.MP_STATE, 8, 3⟩
def MP_STATE__STATE : Fld := ⟨.MP_STATE, 0, 3⟩
def MP_UCH__UC : Fld := ⟨.MP_UCH, 16, 8⟩
def MP_UCH__UB : Fld := ⟨.MP_UCH, 8, 8⟩
def MP_UCH__UA : Fld := ⟨.MP_UCH, 0, 8⟩
def MP_ICH__IN : Fld := ⟨.MP_ICH, 24, 8⟩
def MP_ICH__IC : Fld := ⟨.MP_ICH, 16, 8⟩
def MP_ICH__IB : Fld := ⟨.MP_ICH, 8, 8⟩
def MP_ICH__IA : Fld := ⟨.MP_ICH, 0, 8⟩
def MP_FREQ__VALUE : Fld := ⟨.MP_FREQ, 0, 32⟩
def MP_P__VALUE : Fld := ⟨.MP_P, 0, 32⟩
def MP_Q__VALUE : Fld := ⟨.MP_Q, 0, 32⟩
def MP_S__VALUE : Fld := ⟨.MP_S, 0, 32⟩
def MP_PF__VALUE : Fld := ⟨.MP_PF, 0, 32⟩
def MP_START_INDEX__VALUE : Fld := ⟨.MP_START_INDEX, 0, 32⟩
def MP_FREEZE_INDEX__VALUE : Fld := ⟨.MP_FREEZE_INDEX, 0, 32⟩
def FP_STATUS__PROPERTY : Fld := ⟨.FP_STATUS, 20, 4⟩
def FP_STATUS__LEVEL : Fld := ⟨.FP_STATUS, 16, 4⟩
def FP_STATUS__ACQUIRE : Fld := ⟨.FP_STATUS, 8, 1⟩
def FP_STATUS__STACK_HI : Fld := ⟨.FP_STATUS, 7, 1⟩
def FP_STATUS__UNBILLED : Fld := ⟨.FP_STATUS, 6, 1⟩
def FP_STATUS__HOLD : Fld := ⟨.FP_STATUS, 5, 1⟩
def FP_STATUS__REVERSE : Fld := ⟨.FP_STATUS, 4, 1⟩
def FP_STATUS__RANGE : Fld := ⟨.FP_STATUS, 3, 1⟩
def FP_STATUS__INVALID : Fld := ⟨.FP_STATUS, 0, 3⟩
def FP_RATE__VALUE : Fld := ⟨.FP_RATE, 0, 32⟩
def FP_QM__VALUE : Fld := ⟨.FP_QM, 0, 32⟩
def FP_DP__VALUE : Fld := ⟨.FP_DP, 0, 32⟩
def FP_P__VALUE : Fld := ⟨.FP_P, 0, 32⟩
def FP_T__VALUE : Fld := ⟨.FP_T, 0, 32⟩
def FP_RHO__VALUE : Fld := ⟨.FP_RHO, 0, 32⟩
def FP_H__VALUE : Fld := ⟨.FP_H, 0, 32⟩
def FP_C__VALUE : Fld := ⟨.FP_C, 0, 32⟩
def FP_PRED__VALUE : Fld := ⟨.FP_PRED, 0, 32⟩
def FP_TRIM__VALUE : Fld := ⟨.FP_TRIM, 0, 32⟩
def FP_BLOCK__VALUE : Fld := ⟨.FP_BLOCK, 0, 32⟩
def FP_OUTSIDE__VALUE : Fld := ⟨.FP_OUTSIDE, 0, 32⟩
def MP_DEMAND__VALUE : Fld := ⟨.MP_DEMAND, 0, 32⟩
def MP_MD__VALUE : Fld := ⟨.MP_MD, 0, 32⟩
def MP_UN__VALUE : Fld := ⟨.MP_UN, 0, 32⟩
def MP_IN__VALUE : Fld := ⟨.MP_IN, 0, 32⟩
def MP_MD_RESETS__VALUE : Fld := ⟨.MP_MD_RESETS, 0, 32⟩
def MP_REC_SEQ__VALUE : Fld := ⟨.MP_REC_SEQ, 0, 32⟩
def MP_REC_STATE__ACKED : Fld := ⟨.MP_REC_STATE, 31, 1⟩
def MP_REC_STATE__END_CAUSE : Fld := ⟨.MP_REC_STATE, 16, 8⟩
def MP_REC_STATE__FLAGS : Fld := ⟨.MP_REC_STATE, 0, 9⟩
def MP_COMMIT_IDX__VALUE : Fld := ⟨.MP_COMMIT_IDX, 0, 32⟩
def MP_OUTAGES__VALUE : Fld := ⟨.MP_OUTAGES, 0, 32⟩
def MP_URMS__VALUE : Fld := ⟨.MP_URMS, 0, 32⟩
def MP_IRMS__VALUE : Fld := ⟨.MP_IRMS, 0, 32⟩
def MP_BILL_LO__LO : Fld := ⟨.MP_BILL_LO, 0, 32⟩
def MP_BILL_HI__HI : Fld := ⟨.MP_BILL_HI, 0, 32⟩
def MP_MD_TIME__VALUE : Fld := ⟨.MP_MD_TIME, 0, 32⟩
def PI_CFG__POINT : Fld := ⟨.PI_CFG, 24, 8⟩
def PI_CFG__LEVEL : Fld := ⟨.PI_CFG, 20, 4⟩
def PI_CFG__ROLE : Fld := ⟨.PI_CFG, 18, 2⟩
def PI_CFG__STATE_B : Fld := ⟨.PI_CFG, 4, 2⟩
def PI_CFG__STATE_A : Fld := ⟨.PI_CFG, 2, 2⟩
def PI_CORR__VALUE : Fld := ⟨.PI_CORR, 0, 32⟩
def PI_EDGES__VALUE : Fld := ⟨.PI_EDGES, 0, 32⟩
def PI_MISS__VALUE : Fld := ⟨.PI_MISS, 0, 32⟩
def PI_SPUR__VALUE : Fld := ⟨.PI_SPUR, 0, 32⟩
def FIRN_STATUS__LOCAL_MARKS : Fld := ⟨.FIRN_STATUS, 27, 1⟩
def FIRN_STATUS__HALT_FW : Fld := ⟨.FIRN_STATUS, 26, 1⟩
def FIRN_STATUS__HALT_REF : Fld := ⟨.FIRN_STATUS, 25, 1⟩
def FIRN_STATUS__HALT_CLK : Fld := ⟨.FIRN_STATUS, 24, 1⟩
def FIRN_STATUS__CLOCK : Fld := ⟨.FIRN_STATUS, 16, 2⟩
def FIRN_STATUS__SEAL : Fld := ⟨.FIRN_STATUS, 8, 2⟩
def FIRN_STATUS__SLOT : Fld := ⟨.FIRN_STATUS, 4, 1⟩
def FIRN_STATUS__CHECK_OK : Fld := ⟨.FIRN_STATUS, 2, 1⟩
def FIRN_STATUS__SEALED : Fld := ⟨.FIRN_STATUS, 1, 1⟩
def FIRN_STATUS__READY : Fld := ⟨.FIRN_STATUS, 0, 1⟩
def FIRN_CAL_COUNT__COUNT : Fld := ⟨.FIRN_CAL_COUNT, 0, 32⟩
def FIRN_CHECK__VALUE : Fld := ⟨.FIRN_CHECK, 0, 32⟩
def FIRN_CHECK_REF__VALUE : Fld := ⟨.FIRN_CHECK_REF, 0, 32⟩
def FIRN_LTIME_LO__TIME_LO : Fld := ⟨.FIRN_LTIME_LO, 0, 32⟩
def FIRN_LTIME_HI__TIME_HI : Fld := ⟨.FIRN_LTIME_HI, 0, 32⟩
def FIRN_CLOCK_DEV__DELTA : Fld := ⟨.FIRN_CLOCK_DEV, 0, 32⟩
def FIRN_ADJ_USED__USED : Fld := ⟨.FIRN_ADJ_USED, 0, 32⟩
def FIRN_COMMIT_SEQ__SEQ : Fld := ⟨.FIRN_COMMIT_SEQ, 8, 24⟩
def FIRN_COMMIT_SEQ__SKIPS : Fld := ⟨.FIRN_COMMIT_SEQ, 0, 8⟩
def FIRN_COMMIT_CFG__FINAL_OK : Fld := ⟨.FIRN_COMMIT_CFG, 16, 1⟩
def FIRN_COMMIT_CFG__INTERVAL : Fld := ⟨.FIRN_COMMIT_CFG, 0, 10⟩
def FIRN_REC_SEQ__SEQ : Fld := ⟨.FIRN_REC_SEQ, 0, 32⟩
def FIRN_QUEUE__UNACKED : Fld := ⟨.FIRN_QUEUE, 0, 8⟩
def FIRN_OUTAGES__COUNT : Fld := ⟨.FIRN_OUTAGES, 0, 32⟩
def FIRN_SCHED__ID : Fld := ⟨.FIRN_SCHED, 0, 32⟩
def FIRN_SCHED_PEND__ID : Fld := ⟨.FIRN_SCHED_PEND, 0, 32⟩
def FENG_STATE__VALUE : Fld := ⟨.FENG_STATE, 0, 32⟩
def FENG_HEALTH__VALUE : Fld := ⟨.FENG_HEALTH, 0, 32⟩
def FENG_DLMISS__VALUE : Fld := ⟨.FENG_DLMISS, 0, 32⟩
def FIRN_POOL__RETIRED : Fld := ⟨.FIRN_POOL, 24, 8⟩
def FIRN_POOL__PROBATION : Fld := ⟨.FIRN_POOL, 16, 8⟩
def FIRN_POOL__SPARE : Fld := ⟨.FIRN_POOL, 8, 8⟩
def FIRN_POOL__ACTIVE : Fld := ⟨.FIRN_POOL, 0, 8⟩
def FSPAD_CONF__WAITS : Fld := ⟨.FSPAD_CONF, 0, 32⟩
def FSPAD_ECC__CORRECTED : Fld := ⟨.FSPAD_ECC, 0, 16⟩
def PTO_CFG__EN : Fld := ⟨.PTO_CFG, 31, 1⟩
def PTO_CFG__LOST : Fld := ⟨.PTO_CFG, 30, 1⟩
def PTO_CFG__POS : Fld := ⟨.PTO_CFG, 27, 3⟩
def PTO_CFG__POINT : Fld := ⟨.PTO_CFG, 16, 8⟩
def PTO_CFG__WIDTH : Fld := ⟨.PTO_CFG, 0, 7⟩
def PTO_COUNT__PULSES : Fld := ⟨.PTO_COUNT, 0, 32⟩
def PTO_QPP__QPP : Fld := ⟨.PTO_QPP, 0, 32⟩
def TAMPER_COUNT__COUNT : Fld := ⟨.TAMPER_COUNT, 0, 32⟩
def TAMPER_STATE__MAGNET : Fld := ⟨.TAMPER_STATE, 2, 2⟩
def TAMPER_STATE__COVER : Fld := ⟨.TAMPER_STATE, 0, 2⟩
def TAMPER_FIRST__TIME : Fld := ⟨.TAMPER_FIRST, 0, 32⟩
def TAMPER_LAST__TIME : Fld := ⟨.TAMPER_LAST, 0, 32⟩
def MOR_STATUS__NO_FREE : Fld := ⟨.MOR_STATUS, 18, 1⟩
def MOR_STATUS__LIMIT : Fld := ⟨.MOR_STATUS, 17, 1⟩
def MOR_STATUS__HELD : Fld := ⟨.MOR_STATUS, 0, 17⟩
def MOR_HEAD_SEQ__SEQ : Fld := ⟨.MOR_HEAD_SEQ, 0, 32⟩
def MOR_TAIL_SEQ__SEQ : Fld := ⟨.MOR_TAIL_SEQ, 0, 32⟩
def MOR_LOST__COUNT : Fld := ⟨.MOR_LOST, 0, 32⟩
def MOR_OVERWRITTEN__COUNT : Fld := ⟨.MOR_OVERWRITTEN, 0, 32⟩
def DISP_STATUS__ITEM : Fld := ⟨.DISP_STATUS, 24, 8⟩
def DISP_STATUS__ERRORS : Fld := ⟨.DISP_STATUS, 14, 5⟩
def DISP_STATUS__MAPPED : Fld := ⟨.DISP_STATUS, 13, 1⟩
def DISP_STATUS__MANUAL : Fld := ⟨.DISP_STATUS, 12, 1⟩
def DISP_STATUS__FAULT : Fld := ⟨.DISP_STATUS, 11, 1⟩
def DISP_STATUS__MISMATCHES : Fld := ⟨.DISP_STATUS, 0, 8⟩
def DISP_CFG__ITEMS : Fld := ⟨.DISP_CFG, 24, 8⟩
def DISP_CFG__DWELL : Fld := ⟨.DISP_CFG, 19, 5⟩
def DISP_CFG__VLCD_TC : Fld := ⟨.DISP_CFG, 16, 3⟩
def DISP_CFG__VLCD : Fld := ⟨.DISP_CFG, 11, 5⟩
def DISP_CFG__FRAME : Fld := ⟨.DISP_CFG, 8, 3⟩
def DISP_CFG__INVERSION : Fld := ⟨.DISP_CFG, 6, 2⟩
def DISP_CFG__BIAS : Fld := ⟨.DISP_CFG, 4, 2⟩
def DISP_CFG__COMS : Fld := ⟨.DISP_CFG, 0, 4⟩
def DISP_CRC__CRC : Fld := ⟨.DISP_CRC, 0, 32⟩
def LEDGER_STATUS__STATE : Fld := ⟨.LEDGER_STATUS, 30, 2⟩
def LEDGER_STATUS__INFLIGHT : Fld := ⟨.LEDGER_STATUS, 16, 5⟩
def LEDGER_STATUS__UNSETTLED : Fld := ⟨.LEDGER_STATUS, 0, 11⟩
def LEDGER_ERR__INDEX : Fld := ⟨.LEDGER_ERR, 6, 1⟩
def LEDGER_ERR__PARK : Fld := ⟨.LEDGER_ERR, 5, 1⟩
def LEDGER_ERR__RECOVERY : Fld := ⟨.LEDGER_ERR, 4, 1⟩
def LEDGER_ERR__UNDO_INCOMPLETE : Fld := ⟨.LEDGER_ERR, 3, 1⟩
def LEDGER_ERR__JOURNAL : Fld := ⟨.LEDGER_ERR, 2, 1⟩
def LEDGER_ERR__COUNTER : Fld := ⟨.LEDGER_ERR, 1, 1⟩
def LEDGER_ERR__TAG : Fld := ⟨.LEDGER_ERR, 0, 1⟩
def LEDGER_POST_SEQ_LO__SEQ_LO : Fld := ⟨.LEDGER_POST_SEQ_LO, 0, 32⟩
def LEDGER_POST_SEQ_HI__SEQ_HI : Fld := ⟨.LEDGER_POST_SEQ_HI, 0, 32⟩
def LEDGER_QUARANTINED__COUNT : Fld := ⟨.LEDGER_QUARANTINED, 0, 32⟩
def LEDGER_POISONED__COUNT : Fld := ⟨.LEDGER_POISONED, 0, 32⟩
def LEDGER_LAST_ABORT__REASON : Fld := ⟨.LEDGER_LAST_ABORT, 24, 8⟩
def LEDGER_LAST_ABORT__PART : Fld := ⟨.LEDGER_LAST_ABORT, 16, 3⟩
def LEDGER_LAST_ABORT__STATUS : Fld := ⟨.LEDGER_LAST_ABORT, 0, 16⟩
def LEDGER_TAG_FAIL_ADDR__OFFSET : Fld := ⟨.LEDGER_TAG_FAIL_ADDR, 0, 32⟩
def LEDGER_POSTS__COUNT : Fld := ⟨.LEDGER_POSTS, 0, 32⟩
def LEDGER_ABORTS__COUNT : Fld := ⟨.LEDGER_ABORTS, 0, 32⟩
def LEDGER_JOURNAL__PINNED : Fld := ⟨.LEDGER_JOURNAL, 16, 16⟩
def LEDGER_JOURNAL__OLDEST : Fld := ⟨.LEDGER_JOURNAL, 0, 16⟩
def TARIFF_STATUS__ACTIVE : Fld := ⟨.TARIFF_STATUS, 31, 1⟩
def TARIFF_STATUS__PENDING : Fld := ⟨.TARIFF_STATUS, 30, 1⟩
def TARIFF_STATUS__COMMODITY : Fld := ⟨.TARIFF_STATUS, 24, 4⟩
def TARIFF_STATUS__COMPONENTS : Fld := ⟨.TARIFF_STATUS, 16, 5⟩
def TARIFF_STATUS__CURRENCY : Fld := ⟨.TARIFF_STATUS, 0, 16⟩
def TARIFF_ID__ID : Fld := ⟨.TARIFF_ID, 0, 32⟩
def TARIFF_PEND_ID__ID : Fld := ⟨.TARIFF_PEND_ID, 0, 32⟩
def SLICE_CFG__POINT : Fld := ⟨.SLICE_CFG, 24, 8⟩
def SLICE_CFG__SWITCH : Fld := ⟨.SLICE_CFG, 18, 6⟩
def SLICE_CFG__KIND : Fld := ⟨.SLICE_CFG, 16, 2⟩
def SLICE_CFG__EF_MODE : Fld := ⟨.SLICE_CFG, 14, 2⟩
def SLICE_CFG__PP_MODE : Fld := ⟨.SLICE_CFG, 13, 1⟩
def SLICE_CFG__LOCK : Fld := ⟨.SLICE_CFG, 12, 1⟩
def SLICE_CFG__HLC : Fld := ⟨.SLICE_CFG, 11, 1⟩
def SLICE_CFG__BPT : Fld := ⟨.SLICE_CFG, 10, 1⟩
def SLICE_CFG__HLC_PORT : Fld := ⟨.SLICE_CFG, 6, 4⟩
def SLICE_CFG__HLC_CS : Fld := ⟨.SLICE_CFG, 4, 2⟩
def SLICE_CFG__GROUP : Fld := ⟨.SLICE_CFG, 0, 4⟩
def SLICE_STATUS__SESSION : Fld := ⟨.SLICE_STATUS, 28, 4⟩
def SLICE_STATUS__PILOT : Fld := ⟨.SLICE_STATUS, 24, 3⟩
def SLICE_STATUS__LOCK : Fld := ⟨.SLICE_STATUS, 20, 2⟩
def SLICE_STATUS__CONTACTOR : Fld := ⟨.SLICE_STATUS, 19, 1⟩
def SLICE_STATUS__PWM : Fld := ⟨.SLICE_STATUS, 18, 1⟩
def SLICE_STATUS__UNAVAIL : Fld := ⟨.SLICE_STATUS, 17, 1⟩
def SLICE_STATUS__TRIP : Fld := ⟨.SLICE_STATUS, 16, 1⟩
def SLICE_STATUS__END : Fld := ⟨.SLICE_STATUS, 8, 8⟩
def SLICE_STATUS__FAULT : Fld := ⟨.SLICE_STATUS, 0, 8⟩
def SLICE_PILOT__HIGH : Fld := ⟨.SLICE_PILOT, 16, 16⟩
def SLICE_PILOT__LOW : Fld := ⟨.SLICE_PILOT, 0, 16⟩
def SLICE_DUTY__DUTY : Fld := ⟨.SLICE_DUTY, 16, 10⟩
def SLICE_DUTY__I_EFF : Fld := ⟨.SLICE_DUTY, 0, 16⟩
def SLICE_PP__R_PP : Fld := ⟨.SLICE_PP, 16, 16⟩
def SLICE_PP__PP_CODE : Fld := ⟨.SLICE_PP, 8, 4⟩
def SLICE_PP__CABLE_A : Fld := ⟨.SLICE_PP, 0, 8⟩
def SLICE_RDC__I_AC : Fld := ⟨.SLICE_RDC, 16, 16⟩
def SLICE_RDC__I_DC : Fld := ⟨.SLICE_RDC, 0, 16⟩
def SLICE_ISO__R_ISO : Fld := ⟨.SLICE_ISO, 16, 16⟩
def SLICE_ISO__U_DC : Fld := ⟨.SLICE_ISO, 0, 16⟩
def SLICE_DC_SET__I_SET : Fld := ⟨.SLICE_DC_SET, 16, 16⟩
def SLICE_DC_SET__U_SET : Fld := ⟨.SLICE_DC_SET, 0, 16⟩
def SLICE_HLC__PROTO : Fld := ⟨.SLICE_HLC, 28, 4⟩
def SLICE_HLC__STAGE : Fld := ⟨.SLICE_HLC, 24, 4⟩
def SLICE_HLC__FAILS : Fld := ⟨.SLICE_HLC, 16, 8⟩
def SLICE_HLC__REASON : Fld := ⟨.SLICE_HLC, 0, 16⟩
def SLICE_CRED_LO__CRED_LO : Fld := ⟨.SLICE_CRED_LO, 0, 32⟩
def SLICE_CRED_HI__CRED_HI : Fld := ⟨.SLICE_CRED_HI, 0, 32⟩
def SLICE_COUNT__TRIPS : Fld := ⟨.SLICE_COUNT, 16, 16⟩
def SLICE_COUNT__SESSIONS : Fld := ⟨.SLICE_COUNT, 0, 16⟩
def SLICE_LIMITS__ANTENNA : Fld := ⟨.SLICE_LIMITS, 24, 8⟩
def SLICE_LIMITS__I_MAX : Fld := ⟨.SLICE_LIMITS, 0, 16⟩
def DRV_STATUS__VSW_STATE : Fld := ⟨.DRV_STATUS, 30, 2⟩
def DRV_STATUS__SNS_SEL_MODE : Fld := ⟨.DRV_STATUS, 29, 1⟩
def DRV_STATUS__VSW : Fld := ⟨.DRV_STATUS, 0, 13⟩
def DRV_ERR__OVERLOAD : Fld := ⟨.DRV_ERR, 4, 1⟩
def DRV_ERR__OVERTEMP : Fld := ⟨.DRV_ERR, 3, 1⟩
def DRV_ERR__CLAMP_LOCK : Fld := ⟨.DRV_ERR, 2, 1⟩
def DRV_ERR__VSW_UV : Fld := ⟨.DRV_ERR, 1, 1⟩
def DRV_ERR__WDT_EXPIRED : Fld := ⟨.DRV_ERR, 0, 1⟩
def DRV_WDT__EXPIRIES : Fld := ⟨.DRV_WDT, 8, 8⟩
def DRV_WDT__PERIOD : Fld := ⟨.DRV_WDT, 0, 8⟩
def DRV_ISNS_SEL__SEL : Fld := ⟨.DRV_ISNS_SEL, 0, 6⟩
def SW_CFG__GROUP : Fld := ⟨.SW_CFG, 28, 4⟩
def SW_CFG__SAFETY : Fld := ⟨.SW_CFG, 27, 1⟩
def SW_CFG__INRUSH : Fld := ⟨.SW_CFG, 26, 1⟩
def SW_CFG__FS : Fld := ⟨.SW_CFG, 24, 2⟩
def SW_CFG__OT_MODE : Fld := ⟨.SW_CFG, 23, 1⟩
def SW_CFG__ILIM : Fld := ⟨.SW_CFG, 20, 3⟩
def SW_CFG__ILIM_TIME : Fld := ⟨.SW_CFG, 12, 8⟩
def SW_CFG__CLAMP_BUDGET : Fld := ⟨.SW_CFG, 0, 12⟩
def SW_LOAD__LOAD_W : Fld := ⟨.SW_LOAD, 0, 32⟩
def SW_STATUS__OUT : Fld := ⟨.SW_STATUS, 31, 1⟩
def SW_STATUS__WANT : Fld := ⟨.SW_STATUS, 30, 1⟩
def SW_STATUS__SERAC_EN : Fld := ⟨.SW_STATUS, 29, 1⟩
def SW_STATUS__SESSION : Fld := ⟨.SW_STATUS, 28, 1⟩
def SW_STATUS__LOCK : Fld := ⟨.SW_STATUS, 24, 4⟩
def SW_STATUS__RETRIES : Fld := ⟨.SW_STATUS, 20, 4⟩
def SW_STATUS__OPEN_LOAD : Fld := ⟨.SW_STATUS, 19, 1⟩
def SW_STATUS__LIMITING : Fld := ⟨.SW_STATUS, 18, 1⟩
def SW_STATUS__WAITING : Fld := ⟨.SW_STATUS, 17, 1⟩
def SW_STATUS__UV_WAIT : Fld := ⟨.SW_STATUS, 16, 1⟩
def SW_STATUS__FAIL : Fld := ⟨.SW_STATUS, 8, 8⟩
def SW_STATUS__TJ : Fld := ⟨.SW_STATUS, 0, 8⟩
def SW_CURRENT__I_LOAD : Fld := ⟨.SW_CURRENT, 16, 16⟩
def SW_CURRENT__V_OUT : Fld := ⟨.SW_CURRENT, 0, 16⟩
def SW_CLAMP__LAST : Fld := ⟨.SW_CLAMP, 16, 16⟩
def SW_CLAMP__SUM : Fld := ⟨.SW_CLAMP, 0, 16⟩
def SW_COUNT__ONS : Fld := ⟨.SW_COUNT, 16, 16⟩
def SW_COUNT__PROT_OFFS : Fld := ⟨.SW_COUNT, 8, 8⟩
def SW_COUNT__LOCKS : Fld := ⟨.SW_COUNT, 0, 8⟩
def GOV_BUDGET__VALUE : Fld := ⟨.GOV_BUDGET, 0, 32⟩
def GOV_RATE__DEFER_MAX : Fld := ⟨.GOV_RATE, 16, 16⟩
def GOV_RATE__MAX_PER_S : Fld := ⟨.GOV_RATE, 8, 8⟩
def GOV_RATE__MIN_GAP : Fld := ⟨.GOV_RATE, 0, 8⟩
def GOV_RAMP__RAMP_MS : Fld := ⟨.GOV_RAMP, 0, 16⟩
def GOV_STATUS__TOKENS : Fld := ⟨.GOV_STATUS, 24, 8⟩
def GOV_STATUS__WAITING : Fld := ⟨.GOV_STATUS, 16, 8⟩
def GOV_STATUS__SHED : Fld := ⟨.GOV_STATUS, 15, 1⟩
def GOV_STATUS__SINCE : Fld := ⟨.GOV_STATUS, 0, 15⟩
def GOV_ALLOC__VALUE : Fld := ⟨.GOV_ALLOC, 0, 32⟩
def GOV_FLOOR__VALUE : Fld := ⟨.GOV_FLOOR, 0, 32⟩
def GOV_SITE_BUDGET__BUDGET : Fld := ⟨.GOV_SITE_BUDGET, 0, 32⟩
def GOV_SITE_ALLOC__ALLOC : Fld := ⟨.GOV_SITE_ALLOC, 0, 32⟩
def GOV_SITE_LEVEL__LEVEL : Fld := ⟨.GOV_SITE_LEVEL, 0, 32⟩
def SERAC_STATUS__SET_MISMATCH : Fld := ⟨.SERAC_STATUS, 23, 1⟩
def SERAC_STATUS__PENDING : Fld := ⟨.SERAC_STATUS, 22, 1⟩
def SERAC_STATUS__LOCKOUT : Fld := ⟨.SERAC_STATUS, 21, 1⟩
def SERAC_STATUS__SESSION : Fld := ⟨.SERAC_STATUS, 20, 1⟩
def SERAC_STATUS__SESSION_PORT : Fld := ⟨.SERAC_STATUS, 19, 1⟩
def SERAC_STATUS__PASSWORD_SET : Fld := ⟨.SERAC_STATUS, 18, 1⟩
def SERAC_STATUS__STATE : Fld := ⟨.SERAC_STATUS, 0, 4⟩
def SERAC_DIAG__FAULT_CODE : Fld := ⟨.SERAC_DIAG, 24, 8⟩
def SERAC_DIAG__DEGRADED_CODE : Fld := ⟨.SERAC_DIAG, 16, 8⟩
def SERAC_DIAG__FAILING : Fld := ⟨.SERAC_DIAG, 0, 5⟩
def SERAC_DEGRADED__DEGRADED_MIN : Fld := ⟨.SERAC_DEGRADED, 16, 16⟩
def SERAC_DEGRADED__REMAINING : Fld := ⟨.SERAC_DEGRADED, 0, 16⟩
def SERAC_ENABLE__MAPPED : Fld := ⟨.SERAC_ENABLE, 16, 16⟩
def SERAC_ENABLE__EN : Fld := ⟨.SERAC_ENABLE, 0, 16⟩
def SERAC_FUNC_STATE__FAULT : Fld := ⟨.SERAC_FUNC_STATE, 16, 16⟩
def SERAC_FUNC_STATE__DEMAND : Fld := ⟨.SERAC_FUNC_STATE, 0, 16⟩
def SERAC_INPUT_LO__STATE : Fld := ⟨.SERAC_INPUT_LO, 0, 32⟩
def SERAC_INPUT_HI__STATE : Fld := ⟨.SERAC_INPUT_HI, 0, 32⟩
def SERAC_INFAULT__FAULT : Fld := ⟨.SERAC_INFAULT, 0, 32⟩
def SERAC_CONFIG_ID__ID : Fld := ⟨.SERAC_CONFIG_ID, 0, 32⟩
def SERAC_IMAGE__HASH : Fld := ⟨.SERAC_IMAGE, 0, 32⟩
def SERAC_LOG__HELD : Fld := ⟨.SERAC_LOG, 16, 11⟩
def SERAC_LOG__LOST : Fld := ⟨.SERAC_LOG, 0, 16⟩
def SERAC_LOG_SEQ__SEQ : Fld := ⟨.SERAC_LOG_SEQ, 0, 32⟩
def SERAC_UNTESTED__EN : Fld := ⟨.SERAC_UNTESTED, 0, 16⟩
def SERAC_ENMAP__EN3 : Fld := ⟨.SERAC_ENMAP, 24, 8⟩
def SERAC_ENMAP__EN2 : Fld := ⟨.SERAC_ENMAP, 16, 8⟩
def SERAC_ENMAP__EN1 : Fld := ⟨.SERAC_ENMAP, 8, 8⟩
def SERAC_ENMAP__EN0 : Fld := ⟨.SERAC_ENMAP, 0, 8⟩
def SERAC_FUNC__TYPE : Fld := ⟨.SERAC_FUNC, 28, 4⟩
def SERAC_FUNC__STATE : Fld := ⟨.SERAC_FUNC, 24, 4⟩
def SERAC_FUNC__IN_A : Fld := ⟨.SERAC_FUNC, 16, 8⟩
def SERAC_FUNC__ENABLE_MASK : Fld := ⟨.SERAC_FUNC, 0, 16⟩
def SERAC_FUNC_COUNT__DEMANDS : Fld := ⟨.SERAC_FUNC_COUNT, 16, 16⟩
def SERAC_FUNC_COUNT__FAULTS : Fld := ⟨.SERAC_FUNC_COUNT, 0, 16⟩
def KY_CFG__EN : Fld := ⟨.KY_CFG, 31, 1⟩
def KY_CFG__HOST : Fld := ⟨.KY_CFG, 30, 1⟩
def KY_CFG__NOM_60 : Fld := ⟨.KY_CFG, 29, 1⟩
def KY_CFG__SECURE : Fld := ⟨.KY_CFG, 28, 1⟩
def KY_CFG__RATE : Fld := ⟨.KY_CFG, 26, 2⟩
def KY_CFG__BAND : Fld := ⟨.KY_CFG, 25, 1⟩
def KY_CFG__INTERLEAVE : Fld := ⟨.KY_CFG, 22, 3⟩
def KY_CFG__DEVICE : Fld := ⟨.KY_CFG, 0, 14⟩
def KY_TONE__F_BASE : Fld := ⟨.KY_TONE, 16, 16⟩
def KY_TONE__TX_LEVEL : Fld := ⟨.KY_TONE, 0, 5⟩
def KY_LAYOUT__LEN_P : Fld := ⟨.KY_LAYOUT, 24, 8⟩
def KY_LAYOUT__LEN_C : Fld := ⟨.KY_LAYOUT, 16, 8⟩
def KY_LAYOUT__CYCLE2 : Fld := ⟨.KY_LAYOUT, 15, 1⟩
def KY_LAYOUT__POLLED : Fld := ⟨.KY_LAYOUT, 8, 4⟩
def KY_LAYOUT__SUBSLOTS : Fld := ⟨.KY_LAYOUT, 4, 4⟩
def KY_LAYOUT__BEACON : Fld := ⟨.KY_LAYOUT, 0, 4⟩
def KY_LIMITS__MSG_MAX : Fld := ⟨.KY_LIMITS, 16, 16⟩
def KY_LIMITS__POLL_ROUND : Fld := ⟨.KY_LIMITS, 0, 16⟩
def KY_STATUS__STATE : Fld := ⟨.KY_STATUS, 28, 4⟩
def KY_STATUS__ZC : Fld := ⟨.KY_STATUS, 26, 2⟩
def KY_STATUS__ZC_LOST : Fld := ⟨.KY_STATUS, 25, 1⟩
def KY_STATUS__JOIN_OPEN : Fld := ⟨.KY_STATUS, 24, 1⟩
def KY_STATUS__EPOCH : Fld := ⟨.KY_STATUS, 16, 8⟩
def KY_STATUS__NODES : Fld := ⟨.KY_STATUS, 0, 12⟩
def KY_SF__NUMBER : Fld := ⟨.KY_SF, 0, 32⟩
def KY_ERR__AUTH_FAIL : Fld := ⟨.KY_ERR, 3, 1⟩
def KY_ERR__QUEUE_FULL : Fld := ⟨.KY_ERR, 2, 1⟩
def KY_ERR__LINE_FAULT : Fld := ⟨.KY_ERR, 1, 1⟩
def KY_ERR__ZC_LOST : Fld := ⟨.KY_ERR, 0, 1⟩
def KY_TX_FRAMES__VALUE : Fld := ⟨.KY_TX_FRAMES, 0, 32⟩
def KY_RX_FRAMES__VALUE : Fld := ⟨.KY_RX_FRAMES, 0, 32⟩
def KY_RS_CORRECTED__VALUE : Fld := ⟨.KY_RS_CORRECTED, 0, 32⟩
def KY_RS_FAILED__VALUE : Fld := ⟨.KY_RS_FAILED, 0, 32⟩
def KY_COLLISIONS__VALUE : Fld := ⟨.KY_COLLISIONS, 0, 32⟩
def KY_RX_DROPPED__VALUE : Fld := ⟨.KY_RX_DROPPED, 0, 32⟩
def TAG_STATUS__STATE : Fld := ⟨.TAG_STATUS, 28, 4⟩
def TAG_STATUS__POLLING : Fld := ⟨.TAG_STATUS, 0, 8⟩
def RD_CFG__PERIOD : Fld := ⟨.RD_CFG, 21, 11⟩
def RD_CFG__GUARD : Fld := ⟨.RD_CFG, 16, 5⟩
def RD_CFG__MAX_RATE : Fld := ⟨.RD_CFG, 14, 2⟩
def RD_CFG__TX_LEVEL : Fld := ⟨.RD_CFG, 0, 5⟩
def RD_STATUS__POSITION : Fld := ⟨.RD_STATUS, 24, 8⟩
def RD_STATUS__CARD : Fld := ⟨.RD_STATUS, 20, 4⟩
def RD_STATUS__RATE : Fld := ⟨.RD_STATUS, 18, 2⟩
def ANT_CFG__EN : Fld := ⟨.ANT_CFG, 31, 1⟩
def ANT_CFG__SIG_POLICY : Fld := ⟨.ANT_CFG, 30, 1⟩
def ANT_CFG__AMP_THR : Fld := ⟨.ANT_CFG, 8, 8⟩
def ANT_CFG__PH_THR : Fld := ⟨.ANT_CFG, 0, 8⟩
def ANT_BASE__A_BASE : Fld := ⟨.ANT_BASE, 16, 16⟩
def ANT_BASE__PHI_BASE : Fld := ⟨.ANT_BASE, 0, 16⟩
def ANT_STATUS__A_REF : Fld := ⟨.ANT_STATUS, 16, 16⟩
def ANT_STATUS__FAULT : Fld := ⟨.ANT_STATUS, 3, 1⟩
def ANT_STATUS__HELD : Fld := ⟨.ANT_STATUS, 2, 1⟩
def ANT_STATUS__DETECT : Fld := ⟨.ANT_STATUS, 1, 1⟩
def ANT_COUNT__DETECTIONS : Fld := ⟨.ANT_COUNT, 16, 16⟩
def ANT_COUNT__FALSE_WAKES : Fld := ⟨.ANT_COUNT, 0, 16⟩
def KEY_STATUS__ROOT : Fld := ⟨.KEY_STATUS, 30, 2⟩
def KEY_STATUS__ORPHANED : Fld := ⟨.KEY_STATUS, 16, 9⟩
def KEY_STATUS__USED : Fld := ⟨.KEY_STATUS, 0, 9⟩
def KEY_ERR__REMASK_LATE : Fld := ⟨.KEY_ERR, 3, 1⟩
def KEY_ERR__DRBG : Fld := ⟨.KEY_ERR, 2, 1⟩
def KEY_ERR__RESTORE : Fld := ⟨.KEY_ERR, 1, 1⟩
def KEY_ERR__ZEROISED : Fld := ⟨.KEY_ERR, 0, 1⟩
def KEY_TAMPER__ARMED : Fld := ⟨.KEY_TAMPER, 8, 5⟩
def KEY_TAMPER__TRIPPED : Fld := ⟨.KEY_TAMPER, 0, 5⟩
def KEY_TAMPER_TIME_LO__TIME_LO : Fld := ⟨.KEY_TAMPER_TIME_LO, 0, 32⟩
def KEY_TAMPER_TIME_HI__TIME_HI : Fld := ⟨.KEY_TAMPER_TIME_HI, 0, 32⟩
def KEY_ROOT_ID__ID : Fld := ⟨.KEY_ROOT_ID, 0, 32⟩
def KEY_REMASK__ROUNDS : Fld := ⟨.KEY_REMASK, 0, 32⟩
def KEY_RIGHTS__H1 : Fld := ⟨.KEY_RIGHTS, 4, 3⟩
def KEY_RIGHTS__H0 : Fld := ⟨.KEY_RIGHTS, 0, 3⟩
def KEY_ATTR__STATE : Fld := ⟨.KEY_ATTR, 28, 4⟩
def KEY_ATTR__TYPE : Fld := ⟨.KEY_ATTR, 24, 4⟩
def KEY_ATTR__LEVEL : Fld := ⟨.KEY_ATTR, 21, 3⟩
def KEY_ATTR__DERIVED : Fld := ⟨.KEY_ATTR, 20, 1⟩
def KEY_ATTR__PERSIST : Fld := ⟨.KEY_ATTR, 19, 1⟩
def KEY_ATTR__EXPORTED : Fld := ⟨.KEY_ATTR, 18, 1⟩
def KEY_ATTR__USAGE : Fld := ⟨.KEY_ATTR, 0, 7⟩
def KEY_PARENT__PARENT : Fld := ⟨.KEY_PARENT, 0, 9⟩
def KEY_PGEN__PGEN : Fld := ⟨.KEY_PGEN, 0, 32⟩
def KEY_GEN__GEN : Fld := ⟨.KEY_GEN, 0, 32⟩
def KEY_ID__ID : Fld := ⟨.KEY_ID, 0, 32⟩
def UPD_STATUS__STATE : Fld := ⟨.UPD_STATUS, 28, 4⟩
def UPD_STATUS__ROLE_A : Fld := ⟨.UPD_STATUS, 26, 2⟩
def UPD_STATUS__ROLE_B : Fld := ⟨.UPD_STATUS, 24, 2⟩
def UPD_STATUS__RUNNING : Fld := ⟨.UPD_STATUS, 23, 1⟩
def UPD_STATUS__TRIAL : Fld := ⟨.UPD_STATUS, 22, 1⟩
def UPD_STATUS__BOOT_TRIAL : Fld := ⟨.UPD_STATUS, 21, 1⟩
def UPD_STATUS__HOST_BOOTED : Fld := ⟨.UPD_STATUS, 20, 1⟩
def UPD_STATUS__PENDING : Fld := ⟨.UPD_STATUS, 16, 4⟩
def UPD_STATUS__STAGED_PCT : Fld := ⟨.UPD_STATUS, 8, 8⟩
def UPD_STATUS__LAST_REASON : Fld := ⟨.UPD_STATUS, 0, 8⟩
def UPD_VERSION_RUN__VERSION : Fld := ⟨.UPD_VERSION_RUN, 0, 32⟩
def UPD_VERSION_STAGED__VERSION : Fld := ⟨.UPD_VERSION_STAGED, 0, 32⟩
def UPD_VERSION_FALLBACK__VERSION : Fld := ⟨.UPD_VERSION_FALLBACK, 0, 32⟩
def UPD_TRIAL__WINDOW : Fld := ⟨.UPD_TRIAL, 21, 11⟩
def UPD_TRIAL__REMAINING : Fld := ⟨.UPD_TRIAL, 0, 21⟩
def UPD_SVN__RUNNING : Fld := ⟨.UPD_SVN, 8, 6⟩
def UPD_SVN__FUSES : Fld := ⟨.UPD_SVN, 0, 7⟩
def UPD_OWNER__USED : Fld := ⟨.UPD_OWNER, 28, 4⟩
def UPD_OWNER__HASH : Fld := ⟨.UPD_OWNER, 0, 28⟩
def UPD_CONFIG_SEQ__SEQ : Fld := ⟨.UPD_CONFIG_SEQ, 0, 32⟩
def UPD_CONFIG_ID__ID : Fld := ⟨.UPD_CONFIG_ID, 0, 32⟩
def UPD_LAST_PAUSE__US : Fld := ⟨.UPD_LAST_PAUSE, 0, 32⟩
def UPD_ERR__FLASH : Fld := ⟨.UPD_ERR, 4, 1⟩
def UPD_ERR__HANDOVER_ABORT : Fld := ⟨.UPD_ERR, 3, 1⟩
def UPD_ERR__REVERTED : Fld := ⟨.UPD_ERR, 2, 1⟩
def UPD_ERR__BINDING : Fld := ⟨.UPD_ERR, 1, 1⟩
def UPD_ERR__BAD_IMAGE : Fld := ⟨.UPD_ERR, 0, 1⟩
def UPD_SERIAL_HASH_LO__HASH_LO : Fld := ⟨.UPD_SERIAL_HASH_LO, 0, 32⟩
def UPD_SERIAL_HASH_HI__HASH_HI : Fld := ⟨.UPD_SERIAL_HASH_HI, 0, 32⟩
def UPD_RESIDENT__ENGINES : Fld := ⟨.UPD_RESIDENT, 0, 32⟩
def SYS_ERR_SUMMARY__UPD : Fld := ⟨.SYS_ERR_SUMMARY, 14, 1⟩
def SYS_ERR_SUMMARY__TAMPER : Fld := ⟨.SYS_ERR_SUMMARY, 13, 1⟩
def SYS_ERR_SUMMARY__KEYS : Fld := ⟨.SYS_ERR_SUMMARY, 12, 1⟩
def SYS_ERR_SUMMARY__KYOTI : Fld := ⟨.SYS_ERR_SUMMARY, 11, 1⟩
def SYS_ERR_SUMMARY__DRV : Fld := ⟨.SYS_ERR_SUMMARY, 10, 1⟩
def SYS_ERR_SUMMARY__LEDGER : Fld := ⟨.SYS_ERR_SUMMARY, 9, 1⟩
def SYS_ERR_SUMMARY__MPU : Fld := ⟨.SYS_ERR_SUMMARY, 8, 1⟩
def SYS_ERR_SUMMARY__APER : Fld := ⟨.SYS_ERR_SUMMARY, 7, 1⟩
def SYS_ERR_SUMMARY__MBX : Fld := ⟨.SYS_ERR_SUMMARY, 6, 1⟩
def SYS_ERR_SUMMARY__HOST_OTHER : Fld := ⟨.SYS_ERR_SUMMARY, 5, 1⟩
def SYS_ERR_SUMMARY__HOST_OWN : Fld := ⟨.SYS_ERR_SUMMARY, 4, 1⟩
def SYS_ERR_SUMMARY__FAB : Fld := ⟨.SYS_ERR_SUMMARY, 3, 1⟩
def SYS_ERR_SUMMARY__RST : Fld := ⟨.SYS_ERR_SUMMARY, 2, 1⟩
def SYS_ERR_SUMMARY__DVFS : Fld := ⟨.SYS_ERR_SUMMARY, 1, 1⟩
def SYS_ERR_SUMMARY__CLK : Fld := ⟨.SYS_ERR_SUMMARY, 0, 1⟩
def SYS_MPU_MAP__ENGINES : Fld := ⟨.SYS_MPU_MAP, 0, 32⟩
end Fld

end Sys2Proof
end

