-- ==== Sys2Proof/Machine/State.lean ====
section
/-!
DEFINITION. Machine/State.lean: the state of the module as plain data, its faults and refusals, and the state after reset.
A register of the spec's register tables stands in `regs`, under its own name and index; a register that `regs` does not
list holds its reset value (`Reg.info`). What no register shows stands in the structures below, one for each unit.
-/
namespace Sys2Proof.Machine

/-- Why a command ends in a fault. No command of this module does: log entry 7. -/
inductive Fault where
  /-- raised by nothing: every command of the module has an effect -/
  | none
deriving DecidableEq, Repr

/-- Why a command is refused. -/
inductive Refusal where
  /-- an instruction with no meaning yet, by its mnemonic; raised by `exec` alone (safe: the run stops) -/
  | notModelled (mnemonic : String)
deriving DecidableEq, Repr

/-- A completion ring entry, as R167 and R173 lay it out; for an event, `lo` is the TIMESTAMP and `w1` holds MERGE_COUNT
and OBJECT. -/
structure Entry where
  event : Bool
  lo : Nat
  w1 : Nat
  phase : Bool
  /-- bits 29:16 of bytes 12 to 15 -/
  hi : Nat
  code : Nat
deriving DecidableEq, Repr

/-- What the module has sent outwards, in order: entries written to host memory, MSI-X messages, DMA writes, frames,
drive orders. It is the model's record of its own output (log entry 6). -/
inductive Out where
  /-- a completion entry or an event entry in a slot of a completion ring (R167, R173) -/
  | entry (p : Port) (cq slot : Nat) (e : Entry)
  | msix (p : Port) (vector : Nat)
  | needKick (p : Port) (sq : Nat) (v : Bool)
  | dma (p : Port) (addr : Nat) (bytes : List Byte)
  | ethTx (port : Nat) (kind : Nat) (bytes : List Nat)
  | mdio (word : W32)
  | pilot (s : Nat) (mode duty : Nat)
  | lockDrive (s : Nat) (lock : Bool)
  | mbx (c : Chan) (bytes : List Byte)
  /-- a Kyoti frame (1: a beacon) at a level in 0.1 V, as the frequencies of its symbols in Hz -/
  | kyTx (level : Nat) (kind : Nat) (tones : List Nat)
  | rf (pos : Nat) (kind : Nat) (bytes : List Byte)
  | hlc (s : Nat) (kind : Nat) (v : Nat)
  | pulse (d : Firn) (k : Nat)
  /-- a byte that the wake port answers to a read frame (R100) -/
  | wakePort (b : Byte)
  /-- the current that ISNS sources in µA; none: high impedance (R571) -/
  | isns (i : Option Nat)
  /-- a test pulse of Serac (R592) -/
  | testPulse (k : Nat)
  | readValue (v : W32)
deriving DecidableEq, Repr

/-- A submission or completion ring (R145 to R158). `state` is the STATE code of RING_STATUS. -/
structure Ring where
  base : Nat := 0
  record : Nat := 0
  cfg : Nat := 0
  state : Nat := 0
  err : Nat := 0
  /-- SQ: next slot fetched; CQ: next slot written -/
  idx : Nat := 0
  /-- CQ: the PHASE written on the present pass (R168) -/
  phase : Bool := true
  /-- CQ: the last HEAD read -/
  head : Nat := 0
  /-- SQ: the last TAIL read -/
  tail : Nat := 0
  needKick : Bool := false
  /-- CQ: entries written since its last message -/
  unsig : Nat := 0
  /-- SQ: the number of the next descriptor fetched, and the numbers of those fetched without a final completion (R160) -/
  count : Nat := 0
  live : List Nat := []
  /-- CQ: when the oldest unsignalled entry was written (R172) -/
  unsigAt : Nat := 0
  /-- CQ: CQ_FAULT posted for failed head reads (R775) -/
  headFault : Bool := false
deriving DecidableEq, Repr

/-- An MSI-X table entry: address, data, mask bit (R171; masked at reset, as PCI Express defines). -/
structure Vec where
  addr : Nat := 0
  data : Nat := 0
  masked : Bool := true
deriving DecidableEq, Repr

/-- Whose completion it is: what of a descriptor its later completions need. -/
structure Ticket where
  port : Port
  sq : Nat
  cmdId : Nat
  irqNow : Bool
  /-- the port's reset count when the descriptor was fetched (R112) -/
  epoch : Nat
  /-- the order of a Kyoti node instead of a descriptor (R657, R658): `port` owns the object -/
  node : Option Nat := none
  /-- its number among the descriptors fetched from its SQ (R160) -/
  n : Nat := 0
deriving DecidableEq, Repr

/-- A completion held or due: its ticket and contents. -/
structure Cpl where
  t : Ticket
  status : Nat
  result : Nat := 0
  more : Bool := false
  winner : Nat := 0
deriving DecidableEq, Repr

/-- A descriptor fetched and not yet executed: `checked` when the checks 1 to 5 of R161 have passed. -/
structure Fetched where
  op : Nat
  d : Desc
  epoch : Nat
  checked : Bool
  n : Nat := 0
deriving DecidableEq, Repr

/-- One host port: rings, vectors and what it holds back. -/
structure HostSt where
  sq : List (Nat × Ring) := []
  cq : List (Nat × Ring) := []
  msix : List (Nat × Vec) := []
  pending : List Nat := []
  bme : Bool := false
  d3hot : Bool := false
  /-- configuration space (R136): base addresses of BAR0 and BAR2; MSI-X Enable and Function Mask (R171) -/
  bar0 : Nat := 0
  bar2 : Nat := 0
  msixEn : Bool := false
  msixMask : Bool := false
  /-- device control of the PCI Express capability, as the host programs it (R136) -/
  devCtl : Nat := 0
  /-- the SQ served last (R159) -/
  rr : Nat := 31
  /-- PERSTn_N resets so far (R112) -/
  epoch : Nat := 0
  held : List Cpl := []
  /-- events held under R139, each with its severity -/
  heldEv : List (Nat × Entry) := []
  fetched : List Fetched := []
  /-- events lost and not yet reported by EVENTS_LOST (R177) -/
  lost : Nat := 0
  /-- the failover delay of this port has run out (R176) -/
  failedOver : Bool := false
deriving DecidableEq, Repr

/-- A mailbox channel (R192, R197, R204): reset FREE, sequence restarting, doorbells 0, masks 1. -/
structure Mbx where
  posted : Bool := false
  seq : Nat := 0
  len : Nat := 0
  payload : List Byte := []
  /-- what the sender has written; towards a host it stands in `payload` only once a message is posted that is no descriptor's reply
  (R201) -/
  draft : List Byte := []
  db : W32 := 0
  mask : W32 := 0xFFFFFFFF
  cfg : W32 := 0
deriving DecidableEq, Repr

/-- A descriptor whose message waits for its reply (R200 to R203). -/
structure MsgWait where
  t : Ticket
  chan : Chan
  seq : Nat
  taken : Bool
  bufAddr : Nat
  bufLen : Nat
  /-- the request's TYPE -/
  kind : Nat
deriving DecidableEq, Repr

/-- Clocks and power: what no register shows (R73, R80, R84, R95, R101, R102). -/
structure PowerSt where
  polLatch : Bool := false
  /-- the commit point of an entry to Sleep or below has passed and Run is not reached -/
  committed : Bool := false
  /-- FSEL and VSEL in force before Sleep (R84) -/
  savedFsel : Nat := 0
  savedVsel : Nat := 0
  /-- the frequency code in effect (R80) -/
  fselNow : Nat := 0
  /-- the deferred PWR_REQ: 1 Deep sleep, 2 Off -/
  deferred : Nat := 0
  /-- the state entered: 2 Sleep, 3 Deep sleep, 5 Off, 0 none -/
  entered : Nat := 0
  memFails : Nat := 0
  memStall : Bool := false
  memOff : Bool := false
  wpFrame : Bool := false
  wpMatcher : Bool := false
  /-- the frame reads, and bytes it has been answered (R100); a frame has been matched past the commit point (R101) -/
  wpRead : Option Nat := none
  wpHit : Bool := false
  /-- the wake buffer held bytes when this commit point passed (R101) -/
  wpOld : Bool := false
  /-- bytes handed to firmware, in the order in which it delivers them (R100, R101) -/
  wpFifo : List Byte := []
  kyFrame : Bool := false
  /-- the FSEL code firmware is raising the operating point to (R79) -/
  raiseTo : Option Nat := none
  /-- the 32.768 kHz oscillator has stopped; REFCLK is lost (R71 to R73) -/
  oscFailed : Bool := false
  refLost : Bool := false
deriving DecidableEq, Repr

/-- Pins that no register shows (R123): LPDDR4X RESET_n and CKE released; the HLC SPI ports configured by their firmware. -/
structure PinSt where
  lpddr : Bool := false
  hlc : Bool := false
deriving DecidableEq, Repr

/-- Supplies, resets and the boot chain: what no register shows. -/
structure BootSt where
  badRails : List Rail := []
  stopped : List Die := [.cdie, .serac]
  downLinks : List Link := [.firn0, .firn1, .driver]
  /-- held in reset until the junction is below 105 °C (R110) -/
  hot : Bool := false
  /-- a RST_CTRL write has scheduled a C-die reset (R110) -/
  resetDue : Bool := false
  /-- fetch of a host boot image is under way (R118) -/
  fetching : Bool := false
  inputs : List (Inp × Level) := []
  /-- inputs whose INPUT_INDETERMINATE has been logged since their die's reset (R127) -/
  indet : List Inp := []
  /-- tamper inputs asserted while their die did not run: recorded when it starts (R128) -/
  late : List Inp := []
  /-- RST_CAUSE bits 7 to 12 of domains whose DOMAIN_RETURNED is still to come (R747) -/
  away : List Nat := []
deriving DecidableEq, Repr

/-- A PTP event message received in Sleep, as PTP_SYNC or PTP_DELAY_REQ brings it, with its timestamp (R93). -/
inductive PtpHeld where
  | sync (twoStep : Bool) (rx off trim : Int)
  | delayReq
deriving DecidableEq, Repr

/-- PTP of one Ethernet port: what no register shows (R186, R187). -/
structure PtpSt where
  /-- receive time in ns of a two-step Sync that waits for its Follow_Up -/
  syncRx : Option Int := none
  /-- consecutive Sync messages with the offset below 10 µs, up to 16 -/
  good : Nat := 0
  /-- UNCALIBRATED has been entered and no offset has been taken since -/
  fresh : Bool := false
deriving DecidableEq, Repr

/-- Device time and Ethernet: what no register shows. -/
structure EthSt where
  /-- ETH0's address assigned at manufacture, the first byte on the wire lowest (R185) -/
  mac : Nat := 0
  /-- PTP event messages held in Sleep, by port (R93) -/
  sleepHeld : List (Nat × PtpHeld) := []
  p0 : PtpSt := {}
  p1 : PtpSt := {}
  /-- the offset in ns by which the next boundary steps device time (R187) -/
  stepDue : Option Int := none
  /-- the trim for the next control cycle -/
  trimNext : Int := 0
deriving DecidableEq, Repr

/-- An engine core (R223 to R242): the RV32IMAFC registers and what Xbarlux adds. -/
structure Engine where
  x : List (Nat × W32) := []
  f : List (Nat × W32) := []
  fcsr : W32 := 0
  pc : W32 := 0
  /-- machine mode -/
  mach : Bool := true
  mstatus : W32 := 0
  mtvec : W32 := 0
  mscratch : W32 := 0
  mepc : W32 := 0
  mcause : W32 := 0
  mtval : W32 := 0
  mie : W32 := 0
  mip : W32 := 0
  acc : List (Nat × W72) := []
  /-- xblstat bits 3:0: ASAT, PSAT, FDSAT, DLMISS -/
  stat : Nat := 0
  dlArm : Bool := false
  dlie : Bool := false
  deadline : Nat := 0
  /-- waiting in WFI -/
  wfi : Bool := false
  /-- waiting in DLWAIT for the register that takes the lateness -/
  dlWait : Option Nat := none
  /-- the store buffer, oldest first: memory address and bytes (R247) -/
  sb : List (Nat × List Byte) := []
  /-- the reserved 32-byte granule (R231) -/
  resv : Option Nat := none
  /-- MPU regions of a Firn engine by region number, BASE and LIMIT words (R221) -/
  mpu : List (Nat × (W32 × W32)) := []
  /-- the job that runs: task item and its release FCOUNT (R244) -/
  job : Option (Nat × Nat) := none
  /-- jobs released and not yet begun -/
  jobs : List (Nat × Nat) := []
deriving DecidableEq, Repr

/-- An APP_LOAD accepted: its cluster and images; `stopped`: its jobs are stopped until the following boundary (R246). -/
structure AppLoad where
  t : Ticket
  cluster : Nat
  imem : List Byte
  dmem : List Byte
  stopped : Bool := false
deriving DecidableEq, Repr

/-- A migration whose backlog is being made up: the engine that failed, and each point with the LAST_INDEX it resumes from
(R266). -/
structure Migr where
  old : Nat
  points : List (Nat × Nat) := []
  /-- the PEAK of each point's checkpoint (R268) -/
  peaks : List (Nat × List (Nat × Nat)) := []
deriving DecidableEq, Repr

/-- The engine array: what no register shows. -/
structure EngSt where
  core : List (Nat × Engine) := []
  /-- FCOUNT of the C-die, F0 and F1 (R237), and its value at the latest control-cycle boundary -/
  fc : List (Nat × Nat) := []
  fcBoundary : List (Nat × Nat) := []
  /-- next master of a scratchpad bank, by 8 * cluster + bank (R209) -/
  ptr : List (Nat × Nat) := []
  /-- what instruction fetch sees where it differs from memory (R226) -/
  imem : List (Nat × Byte) := []
  /-- APP_LOADs under way (R246) -/
  appLoads : List AppLoad := []
  /-- when the probation of an engine began (R277) -/
  prob : List (Nat × Nat) := []
  /-- the engine that serves the channel slots of a retired one (R272) -/
  stand : List (Nat × Nat) := []
  /-- FCOUNT of the latest release of a task (R244) -/
  lastRelease : List (Nat × Nat) := []
  /-- tasks that no engine has room for (R270) -/
  suspended : List Nat := []
  /-- migrations under way, by replacement engine -/
  migr : List (Nat × Migr) := []
  /-- engines whose ENGINE_RETIRED waits until events of their die reach a host (R121) -/
  unposted : List Nat := []
  /-- the cores whose registers firmware has saved in data memory before Deep sleep (R89) -/
  saved : List (Nat × Engine) := []
deriving DecidableEq, Repr

/-- What an order asks for (R49, R51): an arbitrated order of some source. -/
inductive Act where
  /-- a start of a delivery that the governor has granted (R574), or one given to the arbiter by a source -/
  | start (p : Nat)
  | stop (p : Nat)
  /-- KIND 1 current in mA, 2 power in W, 3 flow rate (R331); value 0 removes -/
  | limit (p kind v : Nat)
  | switch (n : Nat) (on : Bool)
  | lock (s : Nat) (lock : Bool)
  /-- MODE of R516; the duty in 0.1 % -/
  | pilot (s mode duty : Nat)
deriving DecidableEq, Repr

/-- An order accepted in this control cycle, with the source code of R49 and the descriptor it completes, if any. A part of
a switch group carries the group's number (R567). -/
structure Order where
  src : Nat
  act : Act
  t : Option Ticket := none
  group : Option Nat := none
  /-- the END code of R528 that a stop gives its slice; 0: that of its source -/
  endc : Nat := 0
deriving DecidableEq, Repr

/-- A CAL_MEASURE under way (R316): its request's channel and sequence number, the measured channel and N. -/
structure CalMeas where
  chan : Chan
  seq : Nat
  ch : Nat
  n : Nat
deriving DecidableEq, Repr

/-- The coefficients of a channel (R297, R333). -/
structure ChCoef where
  gain : W32
  off : W32
  scale : W32
  delay : W32
  phase : W32
deriving DecidableEq, Repr

/-- New coefficients of a channel that wait for the next control-cycle mark (R318, R335). -/
structure CalPend where
  ch : Nat
  coef : Option (W32 × W32 × W32) := none
  align : Option (W32 × W32) := none
  eff : Nat := 0
deriving DecidableEq, Repr

/-- A clean calibration of an ADC at a gain (R310): its coefficients and the time of it. -/
structure AdcCal where
  gain : Nat
  offset : Int
  time : Nat
deriving DecidableEq, Repr

/-- A rate schedule (R429), as its request carried it, and when it activates. -/
structure Sched where
  id : Nat
  activate : Nat
  body : List Byte
deriving DecidableEq, Repr

/-- A signed reading record in the record queue (R445 to R447): its bytes but for the signature, whose value is open. -/
structure Rec where
  seq : Nat
  point : Nat
  bytes : List Byte
  acked : Bool := false
deriving DecidableEq, Repr

/-- A pulse test output (R450 to R453): what no register shows. -/
structure PtoSt where
  /-- the setting that the next mark takes: EN, point, position, W, QPP -/
  pend : Option (Bool × Nat × Nat × Nat × Nat) := none
  qpp : Nat := 0
  /-- the position's sum over all rates when counting began, in units of 2⁻⁶⁴ -/
  start : Nat := 0
  queued : Nat := 0
  /-- the pulse is conducting -/
  on : Bool := false
deriving DecidableEq, Repr

/-- A Firn die: what no register shows. What the Firn store keeps is marked so (R431). -/
structure FirnSt where
  /-- the legal firmware runs (R120) -/
  runs : Bool := false
  /-- it has stopped for Sleep and is not ready again (R86) -/
  waking : Bool := false
  /-- the base pair (L_b, n_b) of the legal clock (R418) -/
  lb : Nat := 0
  nb : Nat := 0
  /-- the base pair in force before n_b -/
  was : Nat × Nat := (0, 0)
  /-- the index of the latest control-cycle mark -/
  m : Nat := 0
  /-- daily steps of the preceding 86,400 s: legal time and size (R419) -/
  steps : List (Nat × Int) := []
  /-- a clock-deviation tamper event has been logged and |δ| has not fallen below 1 s since (R420) -/
  deviated : Bool := false
  /-- the legal time that LEGAL_TIME_SET sets at the next mark (R424) -/
  timeSet : Option Nat := none
  /-- the die has started with its clock set and waits for its first mark (R422) -/
  restart : Bool := false
  /-- control-cycle marks since the die's start (R433) -/
  marks : Nat := 0
  /-- store: legal time and index of the last commit (R422, R423) -/
  commitTime : Nat := 0
  commitIdx : Nat := 0
  commitSeq : Nat := 0
  /-- store: legal time of the last periodic commit (R439) -/
  perTime : Nat := 0
  /-- the latest ratios q of both references as fractions, newest first (R299) -/
  ratios : List (Int × Int) := []
  /-- store: q_base as a fraction, and K_G × 2³⁰ by gain code (R299, R309) -/
  qBase : Int × Int := (1, 1)
  kG : List (Nat × Nat) := []
  /-- time since when |REF_DEV| has stayed below 5 ppm (R300) -/
  lowSince : Option Nat := none
  /-- position in its channel list of a lane's next step (R303) -/
  lanePos : List (Nat × Nat) := []
  /-- channels (local) whose latest seam failed once (R306) -/
  failedOnce : List Nat := []
  /-- ADCs calibrated after a handover against a failed seam, with the channel (R306) -/
  suspect : List (Nat × Nat) := []
  /-- latest clean calibration by ADC and gain code (R310) -/
  adcCal : List ((Nat × Nat) × AdcCal) := []
  /-- polarity and half-period sum of an RTD source (R291), and the latest difference of two halves -/
  rtd : List (Nat × (Bool × Option Int)) := []
  rtdDiff : List (Nat × Int) := []
  /-- the sample ring by local channel: entry i mod 1,280 (R260) -/
  ring : List (Nat × List (Nat × W32)) := []
  /-- channel coefficients before an effective index: global channel, index, coefficients (R318) -/
  coefOld : List (Nat × Nat × ChCoef) := []
  /-- edge records of the trains (2 × input + B), newest first, and the index of the newest record lost (R261) -/
  edges : List (Nat × List (Nat × Bool)) := []
  edgeLost : List (Nat × Nat) := []
  measure : List CalMeas := []
  calPend : List CalPend := []
  /-- store: images of the two legal firmware slots by their check value (R414, R416) -/
  slots : List (Nat × Nat) := []
  /-- store: schedules in force and pending (R426, R430) -/
  sched : List (Nat × Sched) := []
  schedPend : List (Nat × Sched) := []
  /-- store: the Moraine log's held entries, oldest first: SEQ and bytes 4 to 27 (R475) -/
  log : List (Nat × List Byte) := []
  /-- records lost since the latest MORAINE_LOST; NEAR_FULL and FULL posted -/
  lostEv : Nat := 0
  nearFull : Bool := false
  fullPosted : Bool := false
  /-- store: the record queue (R447) -/
  records : List Rec := []
  /-- PFW latched: the index P and its legal time (R437) -/
  pfw : Option (Nat × Nat) := none
  pfwHigh : Bool := true
  /-- the final-commit marker is valid and newer than the last periodic commit (R438) -/
  finalOk : Bool := false
  pto : List (Nat × PtoSt) := []
  /-- an outage whose record waits for the restart time (R439): was the final commit missing, and the points METERING at
  their cut with the legal time of it -/
  outage : Option (Bool × List (Nat × Nat)) := none
  /-- legal time of the latest PFW latch, 0 without one (R439) -/
  pfwAt : Nat := 0
  /-- store: the die has run before -/
  started : Bool := false
  /-- VBAT mesh trips passed by firmware and not yet logged: monitor and device time (R473) -/
  vbatPend : List (Nat × Nat) := []
  /-- fixed at manufacture: die serial number -/
  serial : Nat := 0
  /-- events that wait for the die's link, each for one port or for both, with its severity (R114) -/
  held : List (Option Port × (Nat × Entry)) := []
  /-- firmware-check mismatch stands (R417) is HALT_FW; the halts' first index of the standing halt -/
  haltFrom : Option Nat := none
deriving DecidableEq, Repr

/-- Accumulators (R30, R349): units of 2⁻⁶⁴ by 8 × rate + position. -/
abbrev Accs := List (Nat × Nat)

/-- Demand of one rate (R352): maximum in mW with its legal time, previous-period maximum, latest demand. -/
structure RateDemand where
  max : Nat := 0
  time : Nat := 0
  prev : Nat := 0
  latest : Nat := 0
deriving DecidableEq, Repr

/-- Demand of a point: energies of its last sub-intervals (newest first) and of the running one, and the rates' demands. -/
structure DemandSt where
  subs : List Nat := []
  cur : Nat := 0
  lastEnd : Nat := 0
  rates : List (Nat × RateDemand) := []
deriving DecidableEq, Repr

/-- An ENERGY_MEASURE (R364): cycles wanted and done, the first index, and per phase active and reactive energy in 2⁻⁶⁴ Wh
and the sums that the mean rms values are formed from. -/
structure EnMeas where
  n : Nat
  done : Nat := 0
  first : Nat := 0
  sums : List (Nat × (Int × Int × Nat × Nat)) := []
deriving DecidableEq, Repr

/-- An open or counted pulse train of a pulse input (R387 to R390). Times are in CLK_MOD periods. -/
structure TrainSt where
  /-- the rising edge that waits for its falling edge (R385) -/
  rise : Option Nat := none
  /-- open pulses, oldest first -/
  held : List Nat := []
  /-- the latest corroborated count's pulse on the train -/
  last : Option Nat := none
deriving DecidableEq, Repr

/-- A billed count (R391): its A-time index, tariff rate, direction and quantity in units of 2⁻⁶⁴ m³ or kg. -/
structure CountRec where
  idx : Nat
  rate : Nat
  rev : Bool
  qty : Nat
  /-- on the accumulated side of a session -/
  live : Bool := true
deriving DecidableEq, Repr

/-- The running block of a flow point (R375, R262): its number, the next index, v by input (DP, DP_HI, P, T, T2 as 0 to 4), newest first, and
the inputs whose channel had a fault at a sample. -/
structure BlkSt where
  b : Nat
  next : Nat
  vals : List (Nat × List Int) := []
  bad : List Nat := []
deriving DecidableEq, Repr

/-- A flow point: what no register shows (R373 to R402). -/
structure FlowSt where
  /-- store: the parameter set and its hash (R368) -/
  par : List Byte := []
  hash : Nat := 0
  /-- last valid values by input, the last valid state (P, T, dew point), and the invalid run: its first block's legal time -/
  mean : List (Nat × Int) := []
  state : Option (Int × Int × Int) := none
  invalidFrom : Option Nat := none
  /-- the running block -/
  blk : Option BlkSt := none
  /-- end of the latest block, and what a unit of the counted position is in position 0 by its properties, over 2⁻⁶⁴ (R395) -/
  blkEnd : Nat := 0
  unit : Nat := 2 ^ 64
  /-- consecutive blocks below LFC since the freeze line rose, and the first index of the run (R397) -/
  low : Nat := 0
  lowFirst : Nat := 0
  /-- the freeze line rose: its index -/
  rose : Option Nat := none
  outside : Nat := 0
  outsideRun : Nat := 0
  outsidePosted : Bool := false
  /-- store: TRIM in units of 2⁻⁶⁴ (R396) -/
  trim : Int := 0
  batch : Bool := false
  /-- the latest forward rate, in 2⁻⁶⁴ of the unit per hour, and what the latest block added to position 0 of the session -/
  rate : Nat := 0
  /-- consecutive blocks above the flow limit (R400) -/
  above : Nat := 0
  /-- P, the latest A-time, direction and acquisition (R387, R388) -/
  p : Nat := 0
  lastA : Option Nat := none
  reverse : Bool := false
  acquire : Bool := true
  /-- acquisition pairs so far and a pulse waiting for its counterpart: train B, time -/
  acqPairs : Nat := 0
  acqOpen : Option (Bool × Nat) := none
  ivals : List Nat := []
  a : TrainSt := {}
  b : TrainSt := {}
  /-- billed counts that wait for their block to end -/
  counts : List CountRec := []
  /-- inferred pulses since the latest accepted pulse (R395) -/
  inferred : Nat := 0
  /-- counts of A and B since the previous comparison, missing plus spurious since the previous event (R386) -/
  cmpA : Nat := 0
  cmpB : Nat := 0
  disc : Nat := 0
  /-- counts of the point so far, and those at which a pulse was missing or spurious (R386) -/
  total : Nat := 0
  discAt : List Nat := []
  /-- stop issued in this session -/
  stopped : Bool := false
deriving DecidableEq, Repr

/-- Cycle detection and the harmonic window of an electricity point (R336, R337, R354). Times are in 2⁻¹⁶ sample. -/
structure CycSt where
  /-- a cycle has begun: t_k and b_k -/
  on : Bool := false
  tk : Nat := 0
  b : Nat := 0
  /-- N of the previous cycle, 0 in fixed-block mode; its Q₁ by phase -/
  prev : Nat := 0
  q1 : List Int := []
  /-- fixed-block mode: the latest crossing, and the good ones in a row -/
  last : Option Nat := none
  good : Nat := 0
  /-- the latest ignored crossing's distance from t_k, 0 without one -/
  ign : Nat := 0
  /-- the window: first index, cycles so far, resampled points by channel -/
  winFirst : Nat := 0
  win : Nat := 0
  pts : List (List Int) := []
deriving DecidableEq, Repr

/-- A checkpoint of a point (R262): accumulators, demand and PEAK, and the working state that a replacement resumes from. -/
structure Ckpt where
  lastIdx : Nat
  time : Nat
  tot : Accs
  ses : Accs
  dm : DemandSt
  peak : List (Nat × Nat)
  trim : Int
  state : Nat
  startIdx : Nat
  freezeIdx : Nat
  cyc : CycSt := {}
  fixed : Bool := false
  /-- lost channels, good cycles, rotation and its run (R338, R339) -/
  rot : Nat × Nat × Nat × Nat := (0, 0, 0, 0)
  flow : FlowSt := {}
deriving DecidableEq, Repr

/-- A proving run (R401): state 0 armed, 1 running, 2 complete, 3 timed out. -/
structure ProveSt where
  point : Nat
  vol : W32
  state : Nat := 0
  first : Nat := 0
  second : Option Nat := none
  /-- A-times of the first count after each edge, and the counts between the edges -/
  c1 : Option Nat := none
  c2 : Option Nat := none
  n : Nat := 0
  firstTime : Nat := 0
deriving DecidableEq, Repr

/-- A metering point: what no register shows. `commit` is in the Firn store (R435). -/
structure MpSt where
  tot : Accs := []
  ses : Accs := []
  entry : Accs := []
  /-- store: the unbilled-outage register, and the bounds added in the session (R440, R445) -/
  unb : List (Nat × Nat) := []
  sesUnb : List (Nat × Nat) := []
  startIdx : Nat := 0
  /-- the first index accumulated in the session (R346) -/
  meterIdx : Nat := 0
  freezeIdx : Nat := 0
  startTime : Nat := 0
  freezeTime : Nat := 0
  flags : Nat := 0
  endCause : Nat := 0
  lost : Nat := 0
  /-- the port whose order started the session: its POINT_STATE goes there (R174) -/
  port : Option Port := none
  calCount : Nat := 0
  /-- SCHED_ID in force at the freeze index (R445) -/
  schedId : Nat := 0
  /-- session registers are final: the record may be formed (R346) -/
  final : Bool := true
  recFormed : Bool := true
  /-- legal time of the latest outage that added a bound -/
  outTime : Nat := 0
  ck : Option Ckpt := none
  ckOld : Option Ckpt := none
  commit : Option Ckpt := none
  /-- store: the final record of the latest PFW latch (R437) -/
  fin : Option Ckpt := none
  peak : List (Nat × Nat) := []
  /-- the index from which MP_STATE.RATE holds, and the rate before it -/
  rateFrom : Nat := 0
  ratePrev : Nat := 0
  /-- lost voltage channels, consecutive good cycles, consecutive cycles of a rotation (R338, R339) -/
  vmask : Nat := 0
  vgood : Nat := 0
  seqDir : Nat := 0
  seqRun : Nat := 0
  dm : DemandSt := {}
  meas : Option EnMeas := none
  /-- harmonics: first index and cycles of the window, channel mask, values by channel (R361) -/
  harmFirst : Nat := 0
  harmCount : Nat := 0
  harmMask : Nat := 0
  harm : List (List W32) := []
  flow : FlowSt := {}
  /-- START_DELIVERY's tariff and limits (R329) -/
  tariff : Nat := 0
  qLimit : Nat := 0
  stopIssued : Bool := false
  /-- the D-die has confirmed the energy path closed -/
  pathClosed : Bool := false
  /-- out of service for: a slice, a switch (R285), a channel (R281), an engine (R270) -/
  oos : List Nat := []
  /-- the session's last verified index on a slice failure (R283) -/
  verified : Option Nat := none
  /-- cycles accumulated in the session: first index and what each added, newest first, for R283; the newest cycle -/
  tail : List (Nat × List (Nat × Nat)) := []
  lastCyc : Option CycleIn := none
  cyc : CycSt := {}
  /-- the freeze index of a session that a slice failure has ended at `verified` -/
  frozeAt : Option Nat := none
  /-- a cycle has ended since the point was armed (R522) -/
  cycled : Bool := false
deriving DecidableEq, Repr

/-- The legal display of F0 (R457 to R471). What the Firn store keeps is marked so. -/
structure DispSt where
  /-- store: the glass map, 120 elements as (common line, segment line) (R460, R461) -/
  map : List (Nat × Nat) := []
  /-- front buffer and the supervisor's shadow CRC (R459, R462) -/
  front : List Byte := []
  back : List Byte := []
  shadow : W32 := 0
  /-- the next frame is driven blank (R463) -/
  blank : Bool := false
  /-- consecutive mismatches; consecutive clean frames in a display fault -/
  miss : Nat := 0
  clean : Nat := 0
  /-- store: the configured items, and the staged ones (R468) -/
  seq : List (List Byte) := []
  staged : List (List Byte) := []
  /-- a committed sequence that waits for the next mark: its dwell and items -/
  pend : Option (Nat × List (List Byte)) := none
  /-- the error item shown after the item, counted from 1; 0: the item itself (R470) -/
  err : Nat := 0
  /-- values of F1's items by item index, while valid (R471) -/
  vals : Option (List (Nat × Nat)) := none
deriving DecidableEq, Repr

/-- An image pair in a journal entry: line (region offset / 64), before and after (R502). -/
structure Image where
  line : Nat
  before : List Byte
  after : List Byte
deriving DecidableEq, Repr

/-- A journal entry (R502): KIND 1 POSTING, 2 RESTORE, 3 SESSION, 4 RECORD, with the STATE code of the same rule. -/
structure JEntry where
  kind : Nat
  state : Nat
  seq : Nat := 0
  time : Nat := 0
  ref : Nat := 0
  images : List Image := []
  /-- SESSION: plan, tariff copy, point, and the port that started the session -/
  plan : List Byte := []
  tariff : List Byte := []
  point : Nat := 0
  port : Port := .h0
  /-- RECORD: the die and the signed record -/
  die : Firn := .f0
  bytes : List Byte := []
deriving DecidableEq, Repr

/-- The account ledger and tariffs (R485 to R515): contents in plain form, and the versions of every protected line. -/
structure LedgerSt where
  /-- slot images that are not all 0, by slot -/
  slots : List (Nat × List Byte) := []
  /-- minor counters by level and child index, major counters by level and node, root counters (R488) -/
  minor : List ((Nat × Nat) × Nat) := []
  major : List ((Nat × Nat) × Nat) := []
  root : List (Nat × Nat) := []
  /-- poisoned lines and quarantined slots; `dead`: the whole region is poisoned but for the slots restored since (R492) -/
  poison : List Nat := []
  quar : List Nat := []
  dead : Bool := false
  revived : List Nat := []
  /-- the journal by position, the next position, and the latest posting sequence number -/
  journal : List (Nat × JEntry) := []
  jpos : Nat := 0
  seq : Nat := 0
  /-- the credential index: CRED_HASH and slot (R508) -/
  index : List (Nat × Nat) := []
  /-- active and pending tariff tables (R494) -/
  active : List (Nat × List Byte) := []
  pend : List (Nat × List Byte) := []
  /-- TARIFF_ACTIVATEs that wait for the boundary -/
  acts : List (Ticket × Nat) := []
  /-- record acknowledgements on their way to Firn: die and sequence number (R447) -/
  acks : List (Firn × Nat) := []
  /-- descriptors that stall while the memory PLL relocks: opcode, ticket, descriptor, data read (R73) -/
  stalled : List (Nat × Ticket × Desc × List Byte) := []
  /-- a park is under way: no new descriptor is accepted (R512) -/
  parking : Bool := false
  /-- the root counters in the AON domain are lost (R505, R512) -/
  rootLost : Bool := false
  /-- VBAT domain: the park count; boot flash: the park record: count and root counters (R512) -/
  parks : Nat := 0
  parkRecord : Option (Nat × List (Nat × Nat)) := none
deriving DecidableEq, Repr

/-- A start of a delivery accepted and not yet final (R59, R60, R329): its descriptor, or the port whose identity it carries;
`src` the source code of R49. `phase`: 0 waits for the boundary, 1 in its governor queue, 2 waits for its lock (R531), 3 admitted. -/
structure StartSt where
  t : Option Ticket
  port : Port
  src : Nat
  point : Nat
  tariff : Nat
  limit : Nat
  qLimit : Nat
  plan : List Byte
  phase : Nat := 0
  /-- ADMISSION_DEFERRED has been reported -/
  deferred : Bool := false
  since : Nat := 0
  jpos : Option Nat := none
  /-- started on a credential that firmware accepted (R534) -/
  card : Bool := false
  /-- started by a Kyoti node (R657) -/
  node : Option Nat := none
  /-- the source code it names at its end, having won a conflict in its cycle (R52); 0 otherwise -/
  conf : Nat := 0
deriving DecidableEq, Repr

/-- A point slice: what no register shows (R516 to R552). -/
structure SliceSt where
  /-- the vehicle's PowerDelivery to start has come; basic charging after SLAC failed (R537) -/
  hlcGo : Bool := false
  basic : Bool := false
  /-- pilot driver: 0 +12 V, 1 PWM, 2 state F, 3 state E, 4 high impedance -/
  out : Nat := 0
  /-- PILOT as the latest boundary saw it (R527) -/
  seen : Nat := 7
  /-- a Serac inhibit stands, as recorded at the boundary (R56) -/
  inhibit : Bool := false
  /-- a reflex that the next boundary records, by its END code, and the DATA of EARTH_FAULT_TRIP (R529, R545) -/
  reflex : Option Nat := none
  tripData : Nat := 0
  /-- TRIPPED drives state F until 5 s have passed (R526) -/
  tripF : Bool := false
  /-- the session reached OFFERED and its end is not yet reported; its END code -/
  owed : Bool := false
  endc : Nat := 0
  /-- PWM has stopped for an offer below 6 A while the contactor is closed (R523) -/
  low : Bool := false
  /-- the close waits for the RDC self-test (R543) -/
  rdcWait : Bool := false
  /-- lock: orders that wait for room, oldest first (`true` lock; tickets that wait for it, with the winner each names, 0: none);
  the order that is driven, its drive's start, and whether it is the second drive -/
  lockWant : List (Bool × List (Ticket × Nat)) := []
  lockDir : Option Bool := none
  lockRun : Option Nat := none
  lockAgain : Bool := false
  lockFault : Bool := false
  /-- locked under an order; an unlock is due; released under R532 for LOCK_HOLD -/
  locked : Bool := false
  unlockDue : Bool := false
  held : Bool := false
  /-- CONNECTOR_LOCKs that wait for the order that is driven, with the winner each names (0: none) -/
  lockWaits : List (Ticket × Nat) := []
  /-- a lock ordered for a start -/
  lockForStart : Bool := false
  /-- a credential is kept in SLICE_CRED: 1 card, 2 Plug & Charge (R533) -/
  cred : Nat := 0
  /-- the converter's report (R547) since the session was offered: byte 0 and the three limits -/
  conv : Option (Nat × Nat × Nat × Nat) := none
  /-- the vehicle's target voltage in 0.1 V and current in 0.1 A, signed (R539) -/
  demand : Option (Nat × Int) := none
  /-- the limit in the schedule in force, in mA (R539) -/
  sched : Option Nat := none
  /-- the limit last sent to the vehicle under HLC, in mA (R524) -/
  sent : Nat := 0
  /-- R524: phases above their limit, each with the time since which it counts -/
  above : List (Nat × Nat) := []
  /-- a SLICE_RETURN whose self-test runs (R285) -/
  test : Option Ticket := none
deriving DecidableEq, Repr

/-- A load switch: what no register shows (R553 to R572). -/
structure SwSt where
  /-- the D-die's commanded state -/
  drive : Bool := false
  /-- clamp lock 1 budget, 2 single event; latch 3 overtemperature, 4 overload -/
  clampLock : Nat := 0
  latch : Nat := 0
  /-- clamp sum in nJ at a time -/
  sum : Nat := 0
  sumAt : Nat := 0
  /-- when the output last went on -/
  onSince : Nat := 0
  /-- a restart is owed: 1 overload, 2 overtemperature -/
  due : Nat := 0
  /-- SWITCH_CONFIGs that wait for the boundary (R561) -/
  cfgPend : List (Ticket × List Byte) := []
  /-- a SWITCH_RETURN whose self-test runs (R285) -/
  test : Option Ticket := none
deriving DecidableEq, Repr

/-- An entry of a governor queue (R574), in order of acceptance over all groups. `waits`: the SWITCH_SETs it completes, `true` once their deferral is reported, with
the winner each names if it won a conflict in its cycle (R52), else 0; `parts`: the switch groups whose part it is. -/
structure QEntry where
  obj : QObj
  group : Nat
  since : Nat := 0
  src : Nat := 6
  waits : List (Ticket × Bool × Nat) := []
  parts : List Nat := []
  /-- it has reached DEFER_MAX and leaves its queue at the next boundary if that grants it nothing -/
  overdue : Bool := false
deriving DecidableEq, Repr

/-- A SWITCH_GROUP that has parts without outcome (R560): masks of its switches, of parts applied, and what failed. -/
structure GroupOp where
  id : Nat
  t : Ticket
  mask : Nat
  on : Bool
  all : Bool
  applied : Nat := 0
  failed : List (Nat × Nat) := []
  deferred : Bool := false
  /-- its applied parts are switched off at the next boundary -/
  backing : Bool := false
deriving DecidableEq, Repr

/-- A STOP_DELIVERY that waits for its point to freeze (R330), with the winner its completion names (0: none). -/
structure StopWait where
  t : Ticket
  point : Nat
  winner : Nat := 0
deriving DecidableEq, Repr

/-- The governor and the driver: what no register shows. -/
structure GovSt where
  queue : List QEntry := []
  /-- grants whose token is still out, by group -/
  out : List (Nat × Nat) := []
  /-- budget writes that the next boundary takes: a group, or none for the site -/
  budgets : List (Option Nat × Nat) := []
  /-- ramp steps done by point; points whose session is shed; A by point in units of 2⁻¹⁶ mW -/
  ramp : List (Nat × Nat) := []
  shed : List Nat := []
  alloc : List (Nat × Nat) := []
  /-- points with a running session, oldest admission first (R578) -/
  admitted : List Nat := []
  /-- switch groups under way, and how many there have been -/
  groups : List GroupOp := []
  seq : Nat := 0
  /-- the serial watchdog has expired: switches changed; FS-on switches still to start (R569) -/
  wdt : Option Nat := none
  fsOn : List Nat := []
deriving DecidableEq, Repr


/-- A safety input (R591 to R593): its filtered state, a new value that is being held and for how many 50 µs samples, its
fault, and what the fault tests count: stuck pulses, cross-shorts by output, a test failed since its last own pulse, good
periods, good threshold tests; for a reset input, the cycle in which it went active (R598). -/
structure SInput where
  filt : Level := .undet
  cand : Level := .undet
  run : Nat := 0
  fault : Nat := 0
  stuck : Nat := 0
  cross : List (Nat × Nat) := []
  bad : Bool := false
  passes : Nat := 0
  thr : Nat := 0
  press : Option Nat := none
deriving DecidableEq, Repr

/-- A safety function (R596 to R599): state, discrepancy timers in cycles, a manual reset still owed after the start, armed
and actuation times of a two-hand function, and the input that caused its demand. -/
structure SFunc where
  st : Nat := 0
  disc : Option Nat := none
  disc2 : Option Nat := none
  owes : Bool := false
  armed : Bool := false
  t1 : Option Nat := none
  t2 : Option Nat := none
  cause : Nat := 31
deriving DecidableEq, Repr

/-- The locked configuration at manufacture (R606): no function, no enable mapped, no image hash; DEGRADED_MIN 60. -/
def seracFactory : List Byte :=
  [1, 0, 60, 0] ++ List.replicate 36 0 ++ List.replicate 16 0xFF ++ List.replicate 8 0 ++ (List.replicate 32 [0x80, 4]).flatten ++ List.replicate 256 0

/-- Serac (R584 to R620): what no register shows. What the Serac store keeps is marked so. -/
structure SeracSt where
  /-- STATE of R586 -/
  st : Nat := 0
  /-- cycles of 500 µs since the start -/
  tick : Nat := 0
  inputs : List (Nat × SInput) := []
  fns : List (Nat × SFunc) := []
  /-- switches whose enable has been off at some moment of this control cycle (R618) -/
  fell : List Nat := []
  /-- the input that caused the fall, by switch -/
  fellCause : List (Nat × Nat) := []
  /-- store: the configuration in force and one held pending; the staging area -/
  cfg : List Byte := seracFactory
  pend : Option (List Byte) := none
  staged : Option (List Byte) := none
  /-- SHA-256 of the running image -/
  img : Nat := 0
  /-- store: salt and hash of the password -/
  pw : Option (List Byte × Nat) := none
  session : Option Port := none
  fails : Nat := 0
  lockout : Bool := false
  /-- remaining degraded time in cycles; store: the remaining seconds and the failing diagnostics -/
  rem : Nat := 0
  store : Option (Nat × Nat) := none
  /-- consecutive passes of a failing diagnostic -/
  passes : List (Nat × Nat) := []
  /-- when FAULT was entered; three in 24 h: only a D-die reset restarts Serac (R610) -/
  faults : List Nat := []
  stuck : Bool := false
  /-- store: the change log's held entries, oldest first -/
  log : List (List Byte) := []
  /-- LOG_FULL posted -/
  fullPosted : Bool := false
  /-- events held while the driver link is down, each with its severity (R587) -/
  held : List (Nat × Entry) := []
  /-- enables that are on; enables whose switch fails diagnostic 0x13 -/
  en : Nat := 0
  untested : Nat := 0
  /-- latest FAULT's diagnostic; first failure of this DEGRADED; off-path diagnostics failing, bit n 0x11 + n -/
  faultCode : Nat := 0
  degCode : Nat := 0
  failing : Nat := 0
  /-- store: entries into DEMAND and FAULT by function -/
  counts : List (Nat × (Nat × Nat)) := []
  /-- store: entries not written, and the newest entry's SEQ -/
  lost : Nat := 0
  lseq : Nat := 0
deriving DecidableEq, Repr


/-- A field node of the cell, by its node address (R645 to R652): `st` 0 free, 1 joining, 2 joined, 3 LOST. -/
structure KyNode where
  uid : Nat := 0
  st : Nat := 0
  phase : Nat := 7
  hops : Nat := 1
  routeCap : Bool := false
  cap : Nat := 0
  /-- the route from the coordinator, the node last, and its cost in quarters; a route set to send with the next frame -/
  route : List Nat := []
  cost : Nat := 0
  heard : Nat := 0
  okN : Nat := 0
  failN : Nat := 0
  /-- frame counters: last accepted from the node, next sent to it -/
  fcIn : Option Nat := none
  fcOut : Nat := 0
  /-- SEQ towards the node; its latest UP segment is still to be acknowledged -/
  seq : Nat := 0
  ack : Bool := false
  /-- consecutive failed transactions (R640) -/
  lostRun : Nat := 0
  /-- up to 5 measurements θ, newest first (R652) -/
  theta : List Nat := []
  /-- reassembly of UP segments: SEQ of the message, the next SEG, secured, bytes so far (R633) -/
  part : Option (Nat × Nat × Bool × List Byte) := none
deriving DecidableEq, Repr

/-- A message of the coordinator (R639): its destination (0xFFF: broadcast), MTYPE (0x100: a PING) and what follows it. -/
structure KyMsg where
  dst : Nat
  mtype : Nat
  bytes : List Byte
  secured : Bool
  /-- segments of its first transmission on, and the next one to send -/
  segs : Option (List (List Byte)) := none
  seg : Nat := 0
  /-- transmissions of the present segment -/
  tries : Nat := 0
  t : Option Ticket := none
  /-- for a federated sender: its device and tag (R662) -/
  fed : Option (Nat × Nat) := none
  /-- a leave, formed already: the route of the node that has been removed (R648) -/
  route : List Nat := []
deriving DecidableEq, Repr

/-- The transaction in progress (R638): its node, route, whether it carries the queue's message, a PING, attempts, and polled
slots still to come before its answer is missing. -/
structure KyTx where
  node : Nat
  route : List Nat
  msg : Bool := false
  ping : Option Ticket := none
  attempts : Nat := 1
  /-- its frame is sent in the next polled slot -/
  due : Bool := true
  second : Bool := false
  slots : Nat := 0
  since : Nat := 0
deriving DecidableEq, Repr

/-- A message received whole (R633): its originator, the relay or node that brought it, and the bytes after MTYPE. -/
structure KyIn where
  src : Nat
  via : Nat
  mtype : Nat
  secured : Bool
  bytes : List Byte
deriving DecidableEq, Repr

/-- Kyoti (R621 to R668): what no register shows. -/
structure KySt where
  /-- latest crossing and up to 4 intervals in µs, newest first; regular crossings since ZC_LOST -/
  zc : Option Nat := none
  ivals : List Nat := []
  regular : Nat := 0
  /-- unit in the superframe -/
  unit : Nat := 0
  nodes : List (Nat × KyNode) := []
  /-- addresses that the node table no longer fixes in this configuration (R648) -/
  unfixed : List Nat := []
  /-- ratios of frames received by (from, at), as fractions of 255 (R649); frames of neighbours expected by the coordinator -/
  ratio : List ((Nat × Nat) × Nat) := []
  own : List (Nat × List Bool) := []
  queue : List KyMsg := []
  tx : Option KyTx := none
  /-- polled slots kept free for a broadcast (R642) -/
  hold : Nat := 0
  /-- the broadcast SEQ and frame counter -/
  bseq : Nat := 0
  bfc : Nat := 0
  /-- routine polls: last node polled, and the superframe the round began in (R639) -/
  last : Nat := 0
  roundAt : Nat := 0
  /-- superframe of each relay's latest beacon (R641) -/
  relayAt : List (Nat × Nat) := []
  /-- segments received in contention, by originator and transmitter -/
  parts : List ((Nat × Nat) × (Nat × Nat × Bool × List Byte)) := []
  inbox : List KyIn := []
  /-- host data queued for the host: device, node, device time of arrival, bytes (R661) -/
  inq : List (Nat × Nat × Nat × List Byte) := []
  /-- line driver at high impedance after a fault (R626) -/
  fault : Bool := false
  /-- the layout in use, its LAYOUT_ID, and one that is announced, with the superframes still to go (R666) -/
  layout : List Nat := []
  layoutId : Nat := 0
  nextLayout : Option (List Nat × Nat) := none
  /-- federated messages that wait for their result: tag and ticket (R662); the next tag -/
  fed : List (Nat × Ticket) := []
  tag : Nat := 0
deriving DecidableEq, Repr


/-- A presentation at a front end (R674 to R678). `phase`: 0 GUARD, 1 REQA, 2 anticollision, 3 SELECT, 4 RATS, 5 PPS,
6 signature read, 7 REQA after HLTA, 8 selected and open for an APDU. -/
structure Pres where
  pos : Nat
  phase : Nat := 0
  tries : Nat := 0
  retried : Bool := false
  issuers : List Issuer := []
  policy : Nat := 0
  uid : List Byte := []
  /-- the four bytes of the running cascade level -/
  part : List Byte := []
  level : Nat := 1
  atqa : Nat := 0
  sak : Nat := 0
  time : Nat := 0
  l4 : Bool := false
  rate : Nat := 0
  /-- next issuer to ask; the one that answered -/
  ask : Nat := 0
  issuer : Option Nat := none
  /-- HLTA's check has found no second card; the verdict on the signature -/
  alone : Bool := false
  verdict : Option Bool := none
  /-- a collision has been seen in anticollision -/
  multi : Bool := false
  /-- the frame sent last; layer 4: the card's frame size, its frame waiting time and the extensions of the running exchange in µs, the
  block number, the part of a chained answer received -/
  sent : List Byte := []
  fsc : Nat := 32
  fwt : Nat := 0
  wtx : Nat := 0
  blk : Nat := 0
  part4 : List Byte := []
deriving DecidableEq, Repr

/-- An antenna position (R671 to R683): what no register shows. -/
structure AntSt where
  /-- baseline amplitude and phase in 2⁻¹⁶ of their units -/
  a : Int := 0
  ph : Int := 0
  /-- its baseline is to be captured; a detection waits for its confirming ping -/
  capt : Bool := false
  conf : Bool := false
  /-- consecutive false wakes; pings without detection since a credential -/
  wakes : Nat := 0
  clear : Nat := 0
  /-- the last credential record since the start -/
  last : List Byte := []
  /-- a signature that is verified after the carrier has gone off -/
  pend : Option Pres := none
deriving DecidableEq, Repr

/-- The reader (R669 to R689). -/
structure ReaderSt where
  ants : List (Nat × AntSt) := []
  /-- presentations by front end; detected positions that wait for their front end -/
  pres : List (Nat × Pres) := []
  waits : List Nat := []
  /-- front ends whose new settings wait for the end of their presentation (R687) -/
  due : List Nat := []
deriving DecidableEq, Repr


/-- The two shares of a key: k ⊕ m and m (R695). The key's attributes stand in KEY_ATTRs and its neighbours. -/
structure KeySlot where
  s0 : Nat
  s1 : Nat
deriving DecidableEq, Repr

/-- A key marked PERSIST as the boot flash holds it (R696): a written key's blob, or a recorded derivation. -/
structure Persisted where
  rootId : Nat
  type : Nat
  usage : Nat
  id : Nat
  exported : Bool := false
  /-- written: the blob, and the slot's generation in it -/
  blob : List Byte := []
  gen : Nat := 0
  derived : Bool := false
  level : Nat := 1
  parent : Nat := 0
  pgen : Nat := 0
  label : List Byte := []
  ctx : List Byte := []
deriving DecidableEq, Repr

/-- Rime (R690 to R714). -/
structure RimeSt where
  /-- the root secret in VBAT SRAM -/
  root : Option Nat := none
  /-- it has been zeroised; a root made since makes ROOT read 2 -/
  zeroed : Bool := false
  /-- a zeroisation that the stopped C-die has not yet acted on -/
  clearDue : Bool := false
  /-- the ledger's keys have changed since it was last open (R711) -/
  ledgerLost : Bool := false
  /-- random generator: 0 not seeded, 1 good, 2 failed; requests since the seed (R692) -/
  drbg : Nat := 0
  reqs : Nat := 0
  slots : List (Nat × KeySlot) := []
  /-- working-key registers by engine: the source slot and the key (R697) -/
  ces : List (Nat × (Nat × Nat)) := []
  /-- start of the latest re-mask round -/
  lastMask : Nat := 0
  /-- the key area of the boot flash, by slot -/
  persist : List (Nat × Persisted) := []
deriving DecidableEq, Repr


/-- Firmware and configuration update (R715 to R739): what no register shows. What the boot flash keeps is marked so. -/
structure UpdSt where
  /-- flash: the images of slots A and B, and the slot-state record: roles (0 ACTIVE, 1 STAGED, 2 FALLBACK, 3 STALE, 4 TRIAL),
  BOOT_TRIAL and the trial's window in minutes -/
  imgA : List Byte := []
  imgB : List Byte := []
  roleA : Nat := 0
  roleB : Nat := 3
  bootTrial : Bool := false
  window : Nat := 0
  /-- flash: a revert or a trial's start that stage 0xA reports: 0 none, 1 to 5 a revert's cause, 6 a trial -/
  news : Nat := 0
  /-- the running image: slot 0 A or 1 B; loaded from host memory (R118) -/
  running : Nat := 0
  hostBooted : Bool := false
  hostImg : List Byte := []
  /-- a staging run: its port and the next offset -/
  stage : Option (Port × Nat) := none
  /-- a handover (R729): 0 none, 1 under preparation, 2 due at the next boundary, 3 the pause; a reverse one and its cause;
  its descriptor; the engines taken and the tasks they take -/
  phase : Nat := 0
  rev : Bool := false
  cause : Nat := 0
  actT : Option Ticket := none
  newEng : List Nat := []
  newMap : List (Nat × Nat) := []
  /-- the old image is resident (R729): the tasks its engines carried -/
  resident : Bool := false
  oldMap : List (Nat × Nat) := []
  /-- when the trial began, and whether TRIAL_EXPIRING was posted -/
  trialAt : Nat := 0
  warned : Bool := false
  /-- its window has ended while a configuration was being applied (R737) -/
  trialOver : Bool := false
  /-- SHA-256 of the Kyoti, reader and Serac sections delivered at the latest start -/
  delivered : List Nat := []
  /-- fuses: the hash of the owner key (R734) -/
  owner : Nat := 0
  /-- flash: the configuration in force by settings format, with its CONFIG_ID (R719, R728) -/
  settings : List (Nat × (Conf × Nat)) := []
  /-- an accepted configuration that waits for its boundary: descriptor, configuration, CONFIG_ID -/
  cfgDue : List (Ticket × Conf × Nat) := []
deriving DecidableEq, Repr


/-- The state of the module (R107, R34): the queue of waiting commands, and all the spec gives the module. -/
structure State where
  /-- the commands that wait, first in, first out -/
  pending : List Instr := []
  /-- fixed at manufacture (R9) -/
  variant : Variant := .bx9192
  /-- silicon stepping: two ASCII characters (R6) -/
  stepping : Nat := 0x4230
  /-- microseconds counted since the module started (R47) -/
  time : Nat := 0
  /-- device time in microseconds, 0 while not set (R27, R28) -/
  devTime : Nat := 0
  /-- how many values the spec leaves open have been drawn: the model's own field (log entry 1) -/
  free : Nat := 0
  regs : List (RegKey × W32) := []
  /-- memories that commands address, by internal address (R207): strictly rising, no 0 bytes -/
  mem : List Host.Cell := []
  /-- what the module has sent outwards (log entry 6) -/
  out : List Out := []
  /-- events that a boundary has ready are gathered and written in the order of R753: each with its source and port -/
  gather : Bool := false
  ready : List (Nat × (Port × (Nat × Entry))) := []
  h0 : HostSt := {}
  h1 : HostSt := {}
  mbx : List (Chan × Mbx) := []
  waits : List MsgWait := []
  power : PowerSt := {}
  boot : BootSt := {}
  pins : PinSt := {}
  /-- the strap balls as the board ties them: BOOT_MODE in bits 1:0, SNS_SEL_MODE in bit 2 (R116) -/
  straps : Nat := 0
  /-- registers whose value a boundary refreshes, as the latest boundary left them -/
  mirror : List (RegKey × W32) := []
  /-- the configuration in force -/
  cfg : Conf := {}
  /-- TIME_SET orders that wait for the boundary (R166) -/
  timeSets : List (Ticket × Nat) := []
  eth : EthSt := {}
  eng : EngSt := {}
  /-- descriptor requests that wait for their channel to be FREE (R200) -/
  msgQueue : List (MsgWait × List Byte) := []
  /-- messages towards a host or firmware that wait for their channel -/
  mbxQueue : List (Chan × List Byte) := []
  /-- sequence numbers whose replies would be late (R202), by reply channel -/
  lateSeqs : List (Chan × Nat) := []
  /-- orders accepted in this control cycle, in order of arrival (R47, R51) -/
  orders : List Order := []
  f0 : FirnSt := {}
  f1 : FirnSt := {}
  points : List (Nat × MpSt) := []
  /-- proving runs by detector input (R401) -/
  prove : List (Nat × ProveSt) := []
  /-- standing limits by point, KIND and rank (R55, R331) -/
  limits : List ((Nat × Nat × Nat) × Nat) := []
  /-- the legal display (R457) -/
  disp : DispSt := {}
  /-- account ledger and tariffs (R485) -/
  ledger : LedgerSt := {}
  /-- starts accepted and not yet final, in order of acceptance (R59) -/
  starts : List StartSt := []
  slices : List (Nat × SliceSt) := []
  switches : List (Nat × SwSt) := []
  gov : GovSt := {}
  /-- stops that wait for their point to freeze (R330) -/
  stops : List StopWait := []
  serac : SeracSt := {}
  ky : KySt := {}
  reader : ReaderSt := {}
  rime : RimeSt := {}
  upd : UpdSt := {}
deriving DecidableEq, Repr

/-- The module right after a reset of its AON domain with every rail good: every register at its reset value, memory with
nothing listed, no command waiting (R110: such a reset leaves bit 0 of RST_CAUSE set). -/
def State.reset : State := { regs := [(⟨.RST_CAUSE, 0⟩, 1)] }

end Sys2Proof.Machine
end

