-- ==== Sys2Proof/Machine/Ops.lean ====
section
/-!
DEFINITION. Machine/Ops.lean: the shared operations: registers and their fields, free values, memory, completion rings,
events, completions.
-/
namespace Sys2Proof.Machine

/-! ### Registers (R20 to R26) -/

/-- The value of a register: its reset value until something sets it. -/
def State.reg (s : State) (r : Reg) (i : Nat) : W32 := tabGet (BitVec.ofNat 32 r.info.reset) s.regs ⟨r, i⟩

/-- Set a register. -/
def State.setReg (s : State) (r : Reg) (i : Nat) (v : W32) : State := { s with regs := tabSet s.regs ⟨r, i⟩ v }

/-- A field of the register with index `i`. -/
def State.get (s : State) (f : Fld) (i : Nat) : Nat := bitsAt (s.reg f.reg i).toNat f.lo f.width

/-- Set a field of the register with index `i`; the value is cut to the field. -/
def State.put (s : State) (f : Fld) (i : Nat) (v : Nat) : State :=
  s.setReg f.reg i (BitVec.ofNat 32 (putBits (s.reg f.reg i).toNat f.lo f.width v))

/-- Is a field not 0? -/
def State.flag (s : State) (f : Fld) (i : Nat) : Bool := s.get f i != 0

/-- Set a one-bit field. -/
def State.putB (s : State) (f : Fld) (i : Nat) (b : Bool) : State := s.put f i (b2n b)

/-- Add to a counter field, saturating (R24, R25). -/
def State.bump (s : State) (f : Fld) (i : Nat) (n : Nat) : State := s.put f i (satTo f.width (s.get f i + n))

/-- Put every register for which `p` holds back to its reset value. -/
def State.resetRegs (s : State) (p : RegKey → Bool) : State := { s with regs := s.regs.filter (fun kv => !p kv.1) }

/-! ### Free values (log entry 1) -/

/-- The next free word; the counter advances. -/
def State.drawWord (s : State) : W32 × State := (Config.freeWord s.free, { s with free := s.free + 1 })

/-- The next free number below `n` (0 where `n` is 0). -/
def State.drawBelow (s : State) (n : Nat) : Nat × State := (Config.freeNat s.free % n, { s with free := s.free + 1 })

/-! ### Addressed memory (R207): a list of bytes, addresses strictly rising, no byte 0 -/

/-- The byte at an address; 0 where none is listed (log entry 8). -/
def memRead : List Host.Cell → Nat → Byte
  | [], _ => 0
  | (a, b) :: r, k => if a = k then b else memRead r k

/-- Write one byte, keeping the form. -/
def memWrite : List Host.Cell → Nat → Byte → List Host.Cell
  | [], k, v => if v = 0 then [] else [(k, v)]
  | (a, b) :: r, k, v =>
    if k < a then (if v = 0 then (a, b) :: r else (k, v) :: (a, b) :: r)
    else if k = a then (if v = 0 then r else (k, v) :: r)
    else (a, b) :: memWrite r k v

/-- Write a list of bytes upwards from an address. -/
def memWriteL : List Host.Cell → Nat → List Byte → List Host.Cell
  | m, _, [] => m
  | m, k, v :: r => memWriteL (memWrite m k v) (k + 1) r

/-- Read `n` bytes upwards from an address. -/
def memReadL (m : List Host.Cell) (k : Nat) : Nat → List Byte
  | 0 => []
  | n + 1 => memRead m k :: memReadL m (k + 1) n

/-- The form of memory, from a least address on. -/
def memWfFrom : Nat → List Host.Cell → Bool
  | _, [] => true
  | lo, (a, b) :: r => decide (lo ≤ a) && decide (b ≠ 0) && memWfFrom (a + 1) r

/-- Memory is in its one form: addresses strictly rising, no byte equal to what an unlisted address reads as. -/
def Memory.wf (m : List Host.Cell) : Bool := memWfFrom 0 m

def State.setMem (s : State) (m : List Host.Cell) : State := { s with mem := m }

/-! ### Output -/

def State.emit (s : State) (o : Out) : State := { s with out := s.out ++ [o] }

/-! ### Host ports and rings (R145 to R172) -/

def State.host (s : State) (p : Port) : HostSt := match p with | .h0 => s.h0 | .h1 => s.h1

def State.setHost (s : State) (p : Port) (h : HostSt) : State :=
  match p with | .h0 => { s with h0 := h } | .h1 => { s with h1 := h }

def HostSt.getSq (h : HostSt) (q : Nat) : Ring := tabGet {} h.sq q
def HostSt.getCq (h : HostSt) (q : Nat) : Ring := tabGet {} h.cq q
def State.sq (s : State) (p : Port) (q : Nat) : Ring := (s.host p).getSq q
def State.cq (s : State) (p : Port) (q : Nat) : Ring := (s.host p).getCq q
def State.setSq (s : State) (p : Port) (q : Nat) (r : Ring) : State :=
  s.setHost p { s.host p with sq := tabSet (s.host p).sq q r }
def State.setCq (s : State) (p : Port) (q : Nat) (r : Ring) : State :=
  s.setHost p { s.host p with cq := tabSet (s.host p).cq q r }

/-- R147, R153: the STATE codes of a ring. -/
def rDisabled : Nat := 0
def rActive : Nat := 1
def rIdle : Nat := 2
def rDraining : Nat := 3
def rStalled : Nat := 4
def rError : Nat := 5

/-- The fields of RING_CFG. -/
def Ring.size (r : Ring) : Nat := 2 ^ bitsAt r.cfg 0 5
def Ring.bindCq (r : Ring) : Nat := bitsAt r.cfg 5 5
def Ring.vector (r : Ring) : Nat := bitsAt r.cfg 10 6
def Ring.modTime (r : Ring) : Nat := bitsAt r.cfg 16 10
def Ring.modCount (r : Ring) : Nat := bitsAt r.cfg 26 6

/-- R158: the room of a CQ: one slot always stays free. -/
def Ring.room (r : Ring) : Nat := r.size - 1 - (r.idx + r.size - r.head) % r.size

/-- The descriptors fetched from an SQ without a final completion. -/
def Ring.owed (r : Ring) : Nat := r.live.length

/-- R139: the port holds its DMA traffic. -/
def HostSt.holds (h : HostSt) : Bool := !h.bme || h.d3hot

/-- R171: may the message of a vector go out: MSI-X is enabled and neither the function nor the vector is masked (as PCI Express
defines), and the port does not hold its DMA traffic (R139; log entry 159)? -/
def HostSt.msixOpen (h : HostSt) (v : Nat) : Bool := h.msixEn && !h.msixMask && !(tabGet {} h.msix v).masked && !h.holds

/-- R171: send the message of a vector, or set its pending bit while it may not go out. -/
def State.sendMsix (s : State) (p : Port) (v : Nat) : State :=
  let h := s.host p
  if h.msixOpen v then s.emit (.msix p v) else s.setHost p { h with pending := v :: h.pending.filter (· != v) }

/-- R171: the messages pending on vectors that may now go out are sent. -/
def State.msixRelease (s : State) (p : Port) : State :=
  let l := (s.host p).pending.filter (s.host p).msixOpen
  l.foldl (fun s v => s.emit (.msix p v)) (s.setHost p { s.host p with pending := (s.host p).pending.filter fun v => !l.contains v })

/-- R172: is a message of a CQ due by count or by time? -/
def State.msixDue (s : State) (r : Ring) : Bool :=
  decide (0 < r.unsig) && (decide (max 1 r.modCount ≤ r.unsig) || decide (r.unsigAt + r.modTime ≤ s.time))

/-- R172: a message on a vector, which answers every CQ that shares the vector and is due. -/
def State.signal (s : State) (p : Port) (v : Nat) : State :=
  let h := s.host p
  (s.setHost p { h with cq := h.cq.map fun kv => if kv.2.vector == v && s.msixDue kv.2 then (kv.1, { kv.2 with unsig := 0 }) else kv }).sendMsix p v

/-- R168, R172: write one entry into a CQ with room, and send its message when it is due (`now`: IRQ_NOW or severity 3). -/
def State.writeEntry (s : State) (p : Port) (c : Nat) (e : Entry) (now : Bool) : State :=
  let r := s.cq p c
  let wrap := r.idx + 1 == r.size
  let due := now || decide (max 1 r.modCount ≤ r.unsig + 1)
  let r' := { r with idx := if wrap then 0 else r.idx + 1, phase := if wrap then !r.phase else r.phase,
                     unsig := if due then 0 else r.unsig + 1, unsigAt := if r.unsig = 0 then s.time else r.unsigAt }
  let s := (s.setCq p c r').emit (.entry p c r.idx { e with phase := r.phase })
  if due then s.signal p r.vector else s

/-! ### Events (R173 to R177, R746 to R748) -/

/-- One event record before it is written. -/
structure Event where
  code : Nat
  sev : Nat
  obj : Nat := 0
  data : Nat := 0
deriving DecidableEq, Repr

def Event.cls (e : Event) : Nat := e.code / 256

/-- The entry of R173 with a merge count. -/
def Event.entry (e : Event) (time merge : Nat) : Entry :=
  { event := true, lo := time, w1 := merge % 65536 * 65536 + e.obj % 65536, phase := false,
    hi := 2 ^ 14 + e.sev % 4 * 2 ^ 12 + e.code % 4096, code := e.data % 65536 }

/-- R174: the classes no mask stops are SAFETY, TAMPER, LEDGER and HOST. -/
def State.classOpen (s : State) (p : Port) (c : Nat) : Bool :=
  c == 6 || c == 7 || c == 8 || c == 13 || bitAt (s.get Fld.HOST_EVT_CFG__CLASS_MASK p.num) c

/-- R177: an event lost to a port. -/
def State.loseEvent (s : State) (p : Port) : State :=
  let s := (s.bump Fld.HOST_EVT_LOST__COUNT p.num 1).put Fld.HOST_ERR__EVT_LOST p.num 1
  s.setHost p { s.host p with lost := (s.host p).lost + 1 }

/-- R177: EVENTS_LOST is written when CQ 0 has room again. -/
def State.reportLost (s : State) (p : Port) : State :=
  let h := s.host p
  if h.lost == 0 || h.holds || (s.cq p 0).state != rActive || (s.cq p 0).room == 0 then s
  else
    let s := s.setHost p { h with lost := 0 }
    s.writeEntry p 0 (({ code := 0xD02, sev := 2, data := min h.lost 65535 } : Event).entry s.devTime 1) false

/-- R748: do two events that wait for CQ 0 merge; and the merged event, with the first one's TIMESTAMP. -/
def mergesWith (a b : Nat × Entry) : Bool :=
  a.2.hi % 4096 == b.2.hi % 4096 && a.2.w1 % 65536 == b.2.w1 % 65536 && a.1 == b.1
def mergeEv (a b : Nat × Entry) : Nat × Entry :=
  let code := a.2.hi % 4096
  (a.1, { a.2 with w1 := min (a.2.w1 / 65536 + 1) 65535 * 65536 + a.2.w1 % 65536,
                   code := if code = 0x233 || code = 0x254 then min (a.2.code + b.2.code) 65535 else b.2.code })

/-- Write an event entry to CQ 0 of one port, or lose it (R177); a class the port masks does not reach it (R174). -/
def State.entryNow (s : State) (p : Port) (x : Nat × Entry) : State :=
  if !s.classOpen p (x.2.hi % 4096 / 256) then s
  else
    let s := s.reportLost p
    let h := s.host p
    if h.holds && h.heldEv.any (mergesWith x) then
      s.setHost p { h with heldEv := h.heldEv.map fun y => if mergesWith x y then mergeEv y x else y }
    else if (s.cq p 0).state != rActive || (s.cq p 0).room ≤ h.heldEv.length then s.loseEvent p
    else if h.holds then s.setHost p { h with heldEv := h.heldEv ++ [x] }
    else s.writeEntry p 0 x.2 (x.1 == 3)

/-- R753: the rank of a class among the classes of events that are ready together. -/
def classRank (c : Nat) : Nat :=
  match [6, 7, 0, 1, 8, 9, 2, 4, 5, 3, 10, 11, 12, 13].findIdx? (· == c) with | some k => k | none => 14

/-- R753: is `a` written before `b`: by class, then TIMESTAMP, then CODE? -/
def readyBefore (a b : Entry) : Bool :=
  let key (e : Entry) : Nat × Nat × Nat := (classRank (e.hi % 4096 / 256), e.lo, e.hi % 4096)
  let (ca, ta, na) := key a
  let (cb, tb, nb) := key b
  decide (ca < cb) || (ca == cb && (decide (ta < tb) || (ta == tb && decide (na < nb))))

/-- Does nothing from the same source stand before the event (R752), and does no other source's oldest one come first? -/
def readyNext (l : List (Nat × (Port × (Nat × Entry)))) : Option (Nat × (Port × (Nat × Entry))) :=
  let heads := l.foldl (fun hs x => if hs.any (·.1 == x.1) then hs else hs ++ [x]) ([] : List (Nat × (Port × (Nat × Entry))))
  heads.foldl (fun b x => match b with
    | none => some x
    | some y => if readyBefore x.2.2.2 y.2.2.2 then some x else some y) none

/-- R752, R753: the events that are ready, in the order in which firmware writes them. -/
def readyOrder : Nat → List (Nat × (Port × (Nat × Entry))) → List (Nat × (Port × (Nat × Entry)))
  | 0, l => l
  | k + 1, l => match readyNext l with
    | none => []
    | some x => x :: readyOrder k (l.erase x)

/-- R751 to R753: what has been gathered is written. -/
def State.flushReady (s : State) : State :=
  (readyOrder s.ready.length s.ready).foldl (fun s x => s.entryNow x.2.1 x.2.2) { s with ready := [] }

/-- R752: the source of an event by its class where its origin does not say: F0 for METERING and TAMPER, Serac, the D-die, otherwise the
C-die (log entry 160). -/
def eventSource (e : Entry) : Nat :=
  let c := e.hi % 4096 / 256
  if c = 2 || c = 7 then 1 else if c = 6 then 2 else if c = 4 || c = 5 then 3 else 0
/-- R752: each Firn die is a source of its own. -/
def Firn.source (d : Firn) : Nat := match d with | .f0 => 1 | .f1 => 4

/-- An event of a source for CQ 0 of one port: written at once, or gathered with those of its boundary (R753), where it merges with an
equal one (R748). -/
def State.entryFrom (s : State) (src : Nat) (p : Port) (x : Nat × Entry) : State :=
  if !s.gather then s.entryNow p x
  else if s.ready.any (fun y => y.2.1 == p && mergesWith x y.2.2) then
    { s with ready := s.ready.map fun y => if y.2.1 == p && mergesWith x y.2.2 then (y.1, (p, mergeEv y.2.2 x)) else y }
  else { s with ready := s.ready ++ [(src, (p, x))] }
def State.entryTo (s : State) (p : Port) (x : Nat × Entry) : State := s.entryFrom (eventSource x.2) p x
/-- An event of a source for one port, and for the other one during its failover (R176), or for both. -/
def State.entryRoute (s : State) (src : Nat) (p : Option Port) (x : Nat × Entry) : State :=
  match p with
  | none => (s.entryFrom src .h0 x).entryFrom src .h1 x
  | some p =>
    let s := s.entryFrom src p x
    if (s.host p).failedOver then s.entryFrom src p.other x else s

def State.eventTo (s : State) (p : Port) (e : Event) : State := s.entryTo p (e.sev, e.entry s.devTime 1)

/-- R93: a wake source has occurred. -/
def State.wakeSource (s : State) (n : Nat) : State :=
  s.put Fld.PWR_WAKE_SRC__SRC 0 (putBits (s.get Fld.PWR_WAKE_SRC__SRC 0) n 1 1)

/-- An event routed to both ports. -/
def State.postBoth (s : State) (e : Event) : State := (s.eventTo .h0 e).eventTo .h1 e

/-- An event routed to one port; during that port's failover it goes to the other port as well (R176). -/
def State.postTo (s : State) (p : Port) (e : Event) : State :=
  let s := s.eventTo p e
  if (s.host p).failedOver then s.eventTo p.other e else s

/-- R175: the owning ports; H0 while no configuration is in force. -/
def State.pointOwner (s : State) (p : Nat) : Port := (tabGet {} s.cfg.points p).owner
def State.sliceOwner (s : State) (p : Nat) : Port := (tabGet {} s.cfg.slices p).owner
def State.switchOwner (s : State) (n : Nat) : Port := (tabGet {} s.cfg.switches n).owner
def State.antOwner (s : State) (n : Nat) : Port := tabGet .h0 s.cfg.antOwner n
def State.postPoint (s : State) (p : Nat) (e : Event) : State := s.postTo (s.pointOwner p) e
/-- A D-die event is the wake source DDIE (R93). -/
def State.postSlice (s : State) (p : Nat) (e : Event) : State := (s.wakeSource 6).postTo (s.sliceOwner p) e
def State.postSwitch (s : State) (n : Nat) (e : Event) : State := (s.wakeSource 6).postTo (s.switchOwner n) e
def State.postAnt (s : State) (n : Nat) (e : Event) : State := s.postTo (s.antOwner n) e

/-! ### Completions (R160, R167 to R170) -/

/-- The entry of R167. -/
def Cpl.entry (c : Cpl) (sqHead : Nat) : Entry :=
  { event := false, lo := c.result, w1 := c.t.cmdId * 65536 + sqHead % 65536, phase := false,
    hi := b2n c.more * 2 ^ 13 + c.t.sq % 32 * 2 ^ 8 + c.winner % 16 * 2 ^ 4, code := c.status }

/-- R740: the sticky bit of the submitting port that a status sets. -/
def State.stickyOf (s : State) (p : Port) (status : Nat) : State :=
  if status = 0x30 then s.put Fld.HOST_ERR__BOUNDARY p.num 1
  else if status = 0x31 then s.put Fld.HOST_ERR__PROTECTION p.num 1
  else if status = 0x80 then s.put Fld.HOST_ERR__BAD_DESC p.num 1
  else s

/-- Refresh DRAINED (HOST_STATUS): EN is 0 and INFLIGHT is 0. -/
def State.drained (s : State) (p : Port) : State :=
  s.putB Fld.HOST_STATUS__DRAINED p.num (!s.flag Fld.HOST_CTRL__EN p.num && s.get Fld.HOST_STATUS__INFLIGHT p.num == 0)

/-- A descriptor is in flight no more. -/
def State.landed (s : State) (t : Ticket) : State :=
  let r := s.sq t.port t.sq
  -- the rings of a port that has been reset since owe it nothing
  let s := if t.epoch = (s.host t.port).epoch then s.setSq t.port t.sq { r with live := r.live.filter (· != t.n) } else s
  (s.put Fld.HOST_STATUS__INFLIGHT t.port.num (s.get Fld.HOST_STATUS__INFLIGHT t.port.num - 1)).drained t.port

/-- Write a completion to the SQ's CQ; one due on a CQ in ERROR is lost (R774). -/
def State.writeCpl (s : State) (c : Cpl) : State :=
  let q := (s.sq c.t.port c.t.sq).bindCq
  if (s.cq c.t.port q).state == rActive then
    s.writeEntry c.t.port q (c.entry (s.sq c.t.port c.t.sq).idx) c.t.irqNow
  else s

/-- R658: the answer to a node's order: a command result goes to the node, and KY_COMMAND to the object's owner. -/
def State.kyAnswer (s : State) (n : Nat) (owner : Port) (status result : Nat) : State :=
  let m : KyMsg := { dst := n, mtype := 2, bytes := leBytes 2 status ++ leBytes 4 result, secured := true }
  { s with ky := { s.ky with queue := s.ky.queue ++ [m] } }.postTo owner { code := 0xA07, sev := 0, obj := n, data := status }

/-- Complete a descriptor: its sticky bit, its entry (held under R139, discarded after a reset of its port under R112),
and, where it is final, its place among the descriptors in flight. The order of a Kyoti node is answered instead, but for
ADMISSION_DEFERRED (R658). -/
def State.complete (s : State) (c : Cpl) : State :=
  match c.t.node with
  | some n => if c.more then s else s.kyAnswer n c.t.port c.status c.result
  | none =>
    -- R751: an event that names a fault comes before the completion that results from it
    let s := if s.ready.isEmpty then s else s.flushReady
    let s := s.stickyOf c.t.port c.status
    let h := s.host c.t.port
    let s := if c.t.epoch ≠ h.epoch then s
      else if h.holds then s.setHost c.t.port { h with held := h.held ++ [c] }
      else s.writeCpl c
    if c.more then s else s.landed c.t

/-- Write the completions and events a port has held (R139), and the messages due; an event that finds CQ 0 unable to take it is lost
(R177, R774). -/
def State.releaseHeld (s : State) (p : Port) : State :=
  let cs := (s.host p).held
  let es := (s.host p).heldEv
  let s := s.setHost p { s.host p with held := [], heldEv := [] }
  let s := cs.foldl (fun s c => s.writeCpl c) s
  let s := es.foldl (fun s e =>
    if (s.cq p 0).state != rActive || (s.cq p 0).room == 0 then s.loseEvent p else s.writeEntry p 0 e.2 (e.1 == 3)) s
  s.msixRelease p

/-- R49: the source code of firmware on its own account. -/
def srcFirmware : Nat := 6

/-! ### Sticky capture of crossing failures (R131, FAB_XERR) -/

/-- Record a failed crossing access: `off` for DOMAIN_OFF, otherwise TIMEOUT_CROSSING. A capture posts CROSSING_FAULT. -/
def State.crossingFailed (s : State) (init xid addr : Nat) (off : Bool) : State :=
  let had := s.flag Fld.FAB_XERR__TIMEOUT 0 || s.flag Fld.FAB_XERR__DOMAIN_OFF 0
  let s := if off then s.put Fld.FAB_XERR__DOMAIN_OFF 0 1 else s.put Fld.FAB_XERR__TIMEOUT 0 1
  if had then s.put Fld.FAB_XERR__OVERFLOW 0 1
  else
    let s := ((s.put Fld.FAB_XERR__INIT 0 init).put Fld.FAB_XERR__XID 0 xid).setReg .FAB_XERR_ADDR 0 (BitVec.ofNat 32 addr)
    s.postBoth { code := 0x006, sev := 1, obj := xid, data := if off then 2 else 1 }

/-! ### Units that run -/

/-- R731: the pause of a handover: nothing is fetched, no order accepted, no boundary processed. -/
def State.inPause (s : State) : Bool := s.upd.phase == 3


/-- BOOT_STATUS.STAGE. -/
def State.stage (s : State) : Nat := s.get Fld.BOOT_STATUS__STAGE 0

def State.dieRuns (s : State) (d : Die) : Bool := !s.boot.stopped.contains d
def State.linkUp (s : State) (l : Link) : Bool := !s.boot.downLinks.contains l

/-- PWR_STATE.STATE: 0 Run, 1 Idle, 2 Sleep, 3 Deep sleep, 4 entering, 5 waking. -/
def State.pwr (s : State) : Nat := s.get Fld.PWR_STATE__STATE 0

/-- A change of a structure of State, for short. -/
def State.setPower (s : State) (p : PowerSt) : State := { s with power := p }
def State.setBoot (s : State) (b : BootSt) : State := { s with boot := b }

end Sys2Proof.Machine
end

