-- ==== Sys2Proof/Machine/Descriptor.lean ====
section
/-!
DEFINITION. Machine/Descriptor.lean: what every descriptor goes through before its own meaning: the opcode table (R164), the
checks 1 to 5 of R161, host memory windows (R143, R162), fetching and FENCE (R159, R160).
-/
namespace Sys2Proof.Machine

/-- What a TARGET names (R164). -/
inductive TargetKind where
  | zero | point | switch | slice | slot | tariff | die | position | keySlot | cluster | engine
deriving DecidableEq, Repr

/-- What buffer an opcode takes (R164). -/
inductive BufKind where | none | read | write | both | optRead | optWrite
deriving DecidableEq, Repr

/-- One row of R164, with the number of PARAM bytes the opcode's chapter uses (bytes from there on must be 0). -/
structure OpRow where
  target : TargetKind
  buf : BufKind
  arbitrated : Bool
  used : Nat
deriving DecidableEq, Repr

/-- The opcode table (R164). -/
def opRow : Nat → Option OpRow
  | 0x00 => some ⟨.zero, .none, false, 0⟩
  | 0x01 => some ⟨.zero, .none, false, 8⟩
  | 0x10 => some ⟨.point, .optRead, true, 16⟩
  | 0x11 => some ⟨.point, .none, true, 0⟩
  | 0x12 => some ⟨.point, .none, true, 8⟩
  | 0x13 => some ⟨.point, .write, false, 1⟩
  | 0x20 => some ⟨.switch, .none, true, 1⟩
  | 0x21 => some ⟨.zero, .none, true, 9⟩
  | 0x22 => some ⟨.switch, .none, false, 0⟩
  | 0x23 => some ⟨.switch, .none, false, 40⟩
  | 0x24 => some ⟨.switch, .none, false, 0⟩
  | 0x28 => some ⟨.slice, .none, true, 1⟩
  | 0x29 => some ⟨.slice, .none, true, 1⟩
  | 0x2A => some ⟨.slice, .optRead, false, 40⟩
  | 0x2C => some ⟨.slice, .none, false, 0⟩
  | 0x30 => some ⟨.slot, .write, false, 0⟩
  | 0x31 => some ⟨.zero, .read, false, 0⟩
  | 0x32 => some ⟨.slot, .read, false, 8⟩
  | 0x33 => some ⟨.zero, .both, false, 0⟩
  | 0x38 => some ⟨.tariff, .read, false, 0⟩
  | 0x39 => some ⟨.tariff, .none, false, 0⟩
  | 0x40 => some ⟨.die, .both, false, 2⟩
  | 0x41 => some ⟨.point, .write, false, 4⟩
  | 0x42 => some ⟨.die, .write, false, 8⟩
  | 0x48 => some ⟨.zero, .both, false, 2⟩
  | 0x50 => some ⟨.zero, .read, false, 40⟩
  | 0x51 => some ⟨.zero, .optWrite, false, 40⟩
  | 0x58 => some ⟨.position, .write, false, 40⟩
  | 0x60 => some ⟨.keySlot, .read, false, 8⟩
  | 0x61 => some ⟨.keySlot, .none, false, 36⟩
  | 0x62 => some ⟨.keySlot, .none, false, 1⟩
  | 0x63 => some ⟨.keySlot, .read, false, 0⟩
  | 0x68 => some ⟨.zero, .read, false, 9⟩
  | 0x69 => some ⟨.zero, .none, false, 6⟩
  | 0x6A => some ⟨.zero, .none, false, 0⟩
  | 0x6B => some ⟨.zero, .read, false, 0⟩
  | 0x70 => some ⟨.cluster, .read, false, 40⟩
  | 0x71 => some ⟨.engine, .both, false, 2⟩
  | _ => none

/-- How many objects a TARGET numbers (R34, R164, R485, R497). -/
def TargetKind.bound : TargetKind → Nat
  | .zero => 1 | .point => 256 | .switch => 48 | .slice => 64 | .slot => 5242880 | .tariff => 256 | .die => 2
  | .position => 64 | .keySlot => 256 | .cluster => 16 | .engine => 256

namespace DescF
def bufLen (d : Desc) : Nat := bitsAt d.bufLenW.toNat 0 25
def fence (d : Desc) : Bool := bitAt d.flags.toNat 0
def irqNow (d : Desc) : Bool := bitAt d.flags.toNat 1
def allOrNone (d : Desc) : Bool := bitAt d.flags.toNat 2
/-- PARAM bytes `at` to `at + n - 1`, little-endian. -/
def par (d : Desc) (pos n : Nat) : Nat := leNat ((d.param.drop pos).take n)
/-- The first PARAM byte from `pos` on that is not 0. -/
def parNonZero (d : Desc) (pos : Nat) : Option Nat :=
  match (d.param.drop pos).findIdx? (· != 0) with
  | none => none
  | some k => some (pos + k)
end DescF

/-- The first 4 KiB-page window arithmetic of a port: window `w` as (base, end, RD, WR), none where it is disabled (R143, R144). -/
def State.window (s : State) (p : Port) (w : Nat) : Option (Nat × Nat × Bool × Bool) :=
  let i := p.num * 8 + w
  let base := s.get Fld.HOST_WIN_LO__BASE_LO i * 4096 + (s.reg .HOST_WIN_HI i).toNat * 2 ^ 32
  let size := (s.reg .HOST_WIN_SIZE i).toNat * 4096
  if size = 0 || base + size > 2 ^ 64 then none
  else some (base, base + size, s.flag Fld.HOST_WIN_LO__RD i, s.flag Fld.HOST_WIN_LO__WR i)

/-- What a check of a range of host memory gives (R143, R162, R218). -/
inductive Access where | ok | boundary (addr : Nat) | protection (addr : Nat)
deriving DecidableEq, Repr

/-- The windows of a port that hold both bytes. -/
def State.holding (s : State) (p : Port) (first last : Nat) : List (Nat × Nat × Bool × Bool) :=
  (upTo 8).filterMap fun w => match s.window p w with
    | some x => if x.1 ≤ first && last < x.2.1 then some x else none
    | none => none

/-- Check the bytes `first` to `first + len - 1` for reading and writing. -/
def State.checkRange (s : State) (p : Port) (first len : Nat) (rd wr : Bool) : Access :=
  let last := first + len - 1
  if last ≥ 2 ^ 64 then .boundary first
  else match s.holding p first last with
    | [] => if (s.holding p first first).isEmpty then .boundary first else .boundary last
    | ws => if ws.any (fun x => (!rd || x.2.2.1) && (!wr || x.2.2.2)) then .ok else .protection first

def BufKind.rd : BufKind → Bool | .read | .both | .optRead => true | _ => false
def BufKind.wr : BufKind → Bool | .write | .both | .optWrite => true | _ => false

/-- Check 1 of R161: the byte offset of the first offending field. -/
def badField (row : OpRow) (op : Nat) (d : Desc) : Option Nat :=
  if bitsAt d.flags.toNat 3 5 ≠ 0 || (DescF.allOrNone d && op != 0x21) then some 1
  else if d.target.toNat ≥ row.target.bound then some 4
  else if d.rsv7 ≠ 0 then some 7
  else if d.bufAddr ≠ 0 && (row.buf = .none || DescF.bufLen d = 0) then some 8
  else if row.buf = .none && DescF.bufLen d ≠ 0 then some 16
  else if bitsAt d.bufLenW.toNat 25 7 ≠ 0 then some 19
  else if d.rsv20 ≠ 0 then some 20
  else match DescF.parNonZero d row.used with
    | some k => some (24 + k)
    | none => none

/-- Check 2 of R161: is the target absent (R12)? -/
def State.targetAbsent (s : State) (op : Nat) (d : Desc) : Bool :=
  match opRow op with
  | none => false
  | some row => match row.target with
    | .point => (tabGet {} s.cfg.points d.target.toNat).die == .f1 && !s.variant.hasF1
    | .switch | .slice => !s.variant.hasDdie
    | .die => d.target.toNat == 1 && !s.variant.hasF1
    | .position => !s.variant.hasReader
    | .engine => decide (192 ≤ d.target.toNat) && !s.variant.hasF1
    | .zero => ((op == 0x50 || op == 0x51) && !s.variant.hasKyoti) || ((op == 0x21 || op == 0x48) && !s.variant.hasDdie)
    | _ => false

/-- Is the object single-host and the port not its owner (R182), or the key out of the port's rights (R694, R699)? -/
def State.notAllowed (s : State) (row : OpRow) (op : Nat) (d : Desc) : Bool :=
  (row.arbitrated && match row.target with
    | .point => let c := tabGet {} s.cfg.points d.target.toNat; c.single && c.owner != d.port
    | .slice => let c := tabGet {} s.cfg.slices d.target.toNat; c.single && c.owner != d.port
    | .switch => let c := tabGet {} s.cfg.switches d.target.toNat; c.single && c.owner != d.port
    | _ => false)
  || (0x60 ≤ op && op ≤ 0x63 &&
    let right := if op = 0x61 then 1 else if op = 0x62 then 2 else 0
    let mode := bitsAt (leNat (d.param.take 1)) 0 8
    !bitAt (s.get (if d.port = .h0 then Fld.KEY_RIGHTS__H0 else Fld.KEY_RIGHTS__H1) 0) right
    || (decide (d.target.toNat < 8) && (op != 0x62 || mode == 1 || mode == 3)))
  || (op == 0x71 && !s.cfg.appClusters.contains (d.target.toNat / 8))

/-- The XID of a Firn die that is stopped or whose link is down. -/
def State.firnOff (s : State) (f : Firn) : Option Nat :=
  if s.dieRuns f.die && s.linkUp f.link then none else some f.xid

/-- Check 5 of R161: the crossing XID of a target whose domain is off (R46, R73, R129, R135, R203). -/
def State.domainOff (s : State) (op : Nat) (d : Desc) : Option Nat :=
  let waking (f : Firn) : Bool := match f with | .f0 => s.f0.waking | .f1 => s.f1.waking
  -- R86: a start for a point of a die that returns from Sleep is deferred instead
  if op == 0x10 && waking (tabGet {} s.cfg.points d.target.toNat).die then none
  else if op == 0x10 || op == 0x11 || op == 0x12 || op == 0x13 || op == 0x41 then
    s.firnOff (tabGet {} s.cfg.points d.target.toNat).die
  else if op == 0x40 || op == 0x42 then s.firnOff (if d.target.toNat = 0 then .f0 else .f1)
  else if (0x20 ≤ op && op ≤ 0x2C) then (if s.dieRuns .ddie && s.linkUp .driver then none else some 6)
  else if (0x30 ≤ op && op ≤ 0x33) then (if s.power.memOff then some 3 else none)
  else if op == 0x48 then (if s.dieRuns .ddie && s.linkUp .driver then none else some 0xB)
  else if op == 0x50 || op == 0x51 then (if bitAt (s.get Fld.BOOT_STATUS__DEGRADED 0) 4 then some 9 else none)
  else if op == 0x58 then (if bitAt (s.get Fld.BOOT_STATUS__DEGRADED 0) 5 then some 0xA else none)
  else none

/-- Checks 1 to 5 of R161, in order: the status and RESULT of the first failure. -/
def State.checkDesc (s : State) (op : Nat) (d : Desc) : Option (Nat × Nat) :=
  match opRow op with
  | none => some (0x80, 0)
  | some row =>
    match badField row op d with
    | some k => some (0x80, k)
    | none =>
      if s.targetAbsent op d then some (0x20, 0)
      else
        let acc := if DescF.bufLen d = 0 then Access.ok
          else s.checkRange d.port d.bufAddr.toNat (DescF.bufLen d) row.buf.rd row.buf.wr
        match acc with
        | .boundary a => some (0x30, a)
        | .protection a => some (0x31, a)
        | .ok =>
          if s.notAllowed row op d then some (0x31, 0)
          else match s.domainOff op d with
            | some x => some (0x21, x)
            | none => none

/-- The ticket of a descriptor fetched now. -/
def State.ticket (s : State) (d : Desc) : Ticket :=
  { port := d.port, sq := d.sq, cmdId := d.cmdId.toNat, irqNow := DescF.irqNow d, epoch := (s.host d.port).epoch,
    n := (s.sq d.port d.sq).count - 1 }

/-- R159: a descriptor is copied from the ring's next slot and enters the descriptors in flight. -/
def State.takeOff (s : State) (p : Port) (q : Nat) : State :=
  let r := s.sq p q
  let next := if r.idx + 1 = r.size then 0 else r.idx + 1
  (((s.setSq p q { r with idx := next, tail := if r.tail = r.idx then next else r.tail, count := r.count + 1, live := r.live ++ [r.count] }).put
    Fld.HOST_STATUS__INFLIGHT p.num (s.get Fld.HOST_STATUS__INFLIGHT p.num + 1))).drained p

def State.dropFetched (s : State) (p : Port) (f : Fetched) : State :=
  let h := s.host p
  s.setHost p { h with fetched := h.fetched.erase f }

/-- R164: does an opcode ask for an arbitrated order? -/
def arbOp (op : Nat) : Bool := match opRow op with | some r => r.arbitrated | none => false

/-- R59, R170, R574: may an opcode complete with ADMISSION_DEFERRED first? -/
def mayDefer (op : Nat) : Bool := op == 0x10 || op == 0x20 || op == 0x21

/-- Does the descriptor with number `n` of its SQ still wait: with FENCE, for every earlier one's final completion (R160); an arbitrated
order, for the earlier ones of its SQ that the arbiter has not yet accepted (R163)? -/
def State.descWaits (s : State) (op : Nat) (d : Desc) (n : Nat) : Bool :=
  (DescF.fence d && (s.sq d.port d.sq).live.any (fun k => decide (k < n)))
  || (arbOp op && (s.host d.port).fetched.any fun f => f.d.sq == d.sq && decide (f.n < n) && arbOp f.op)

/-- R158: the completions still owed on a CQ: of the fetched descriptors of the SQs bound to it, those held under R139, and the
ADMISSION_DEFERRED that a start or a switch order may still get. -/
def State.owedOn (s : State) (p : Port) (c : Nat) : Nat :=
  let h := s.host p
  let on (t : Ticket) : Bool := t.port == p && t.epoch == h.epoch && t.node.isNone && (h.getSq t.sq).bindCq == c
  let onOpt (t : Option Ticket) : Bool := match t with | some t => on t | none => false
  (h.sq.filter (fun kv => kv.2.bindCq == c)).foldl (fun n kv => n + kv.2.owed) 0
  + (h.held.filter (fun x => on x.t)).length
  + (h.fetched.filter (fun f => mayDefer f.op && (h.getSq f.d.sq).bindCq == c)).length
  + (s.starts.filter (fun x => !x.deferred && onOpt x.t)).length
  + (s.gov.queue.foldl (fun n e => n + (e.waits.filter (fun w => !w.2.1 && on w.1)).length) 0)
  + (s.gov.groups.filter (fun g => !g.deferred && on g.t)).length

/-- R158: has the bound CQ room for every completion owed on it and two more? -/
def State.cqRoom (s : State) (p : Port) (c : Nat) : Bool := decide (s.owedOn p c + 2 ≤ (s.cq p c).room)

/-- R139, R150, R158, R159: may the module fetch from an SQ now: it is ACTIVE on an enabled port that does not hold its traffic and has
fewer than 1,024 descriptors in flight, and its CQ has room? -/
def State.mayFetch (s : State) (p : Port) (q : Nat) : Bool :=
  s.flag Fld.HOST_CTRL__EN p.num && !(s.host p).holds && (s.sq p q).state == rActive
  && decide (s.get Fld.HOST_STATUS__INFLIGHT p.num < 1024) && s.cqRoom p (s.sq p q).bindCq

/-- The C-die serves descriptors: it runs (R46) outside the pause of a handover (R731), in Run or Idle (R81, R84). -/
def State.serves (s : State) : Bool := s.dieRuns .cdie && !s.inPause && decide (s.pwr ≤ 1)

/-- A descriptor taken now: it waits among the fetched ones, or it is checked and runs. -/
def State.runTaken (s : State) (op : Nat) (d : Desc) (k : Ticket → State → State) : State :=
  let t := s.ticket d
  if s.descWaits op d t.n then
    let h := s.host d.port
    s.setHost d.port { h with fetched := h.fetched ++ [{ op := op, d := d, epoch := h.epoch, checked := false, n := t.n }] }
  else match s.checkDesc op d with
    | some (st, res) => s.complete { t := t, status := st, result := res }
    | none => k t s

/-- Run a descriptor: one that SQ_POLL fetched is taken from the fetched ones; another is fetched now, where its SQ may be served. What
waits under R160 or R163 goes on waiting. The checks of R161 run unless SQ_POLL has run them; then its own meaning `k`. -/
def State.withDesc (s : State) (op : Nat) (d : Desc) (k : Ticket → State → State) : State :=
  if !s.serves then s
  else match (s.host d.port).fetched.find? (fun f => f.op == op && f.d == d) with
  | some f =>
    if s.descWaits op d f.n then s
    else
      let s := s.dropFetched d.port f
      let t := { s.ticket d with epoch := f.epoch, n := f.n }
      if f.checked then k t s
      else match s.checkDesc op d with
        | some (st, res) => s.complete { t := t, status := st, result := res }
        | none => k t s
  | none => if s.mayFetch d.port d.sq then (s.takeOff d.port d.sq).runTaken op d k else s

/-- R162: a host read that failed completes the descriptor with PROTECTION_FAULT and the failing address, and sets DMA_ABORT. -/
def State.withRead (s : State) (t : Ticket) (d : Desc) (rd : DmaRead) (k : List Byte → State → State) : State :=
  match rd with
  | .data b => k b s
  | .abort off => (s.put Fld.HOST_ERR__DMA_ABORT t.port.num 1).complete { t := t, status := 0x31, result := d.bufAddr.toNat + off }

/-- Complete with a status and a RESULT. -/
def State.fin (s : State) (t : Ticket) (status : Nat) (result : Nat := 0) : State :=
  s.complete { t := t, status := status, result := result }

/-- R140: the data of a descriptor are written before its completion; at most BUF_LEN bytes. -/
def State.writeBuf (s : State) (d : Desc) (bytes : List Byte) : State :=
  if bytes.isEmpty then s else s.emit (.dma d.port d.bufAddr.toNat (bytes.take (DescF.bufLen d)))

/-! The status codes of R740 by name. -/
def stDone : Nat := 0x00
def stConflict : Nat := 0x10
def stAbsent : Nat := 0x20
def stDomainOff : Nat := 0x21
def stTimeout : Nat := 0x22
def stBoundary : Nat := 0x30
def stProtection : Nat := 0x31
def stIntegrity : Nat := 0x40
def stQuarantined : Nat := 0x41
def stAborted : Nat := 0x42
def stDeadline : Nat := 0x50
def stCapacity : Nat := 0x51
def stSealLocked : Nat := 0x60
def stInhibit : Nat := 0x61
def stDegraded : Nat := 0x62
def stPartial : Nat := 0x70
def stDeferred : Nat := 0x71
def stBad : Nat := 0x80
def stImage : Nat := 0x81
def stBinding : Nat := 0x82

end Sys2Proof.Machine
end

