-- ==== Sys2Proof/Machine/HostPort.lean ====
section
/-!
DEFINITION. Machine/HostPort.lean: host ports, rings and doorbells (R136 to R183, R774, R775): the meanings of the ring,
window, polling and interrupt commands, of NOP and of TIME_SET.
-/
namespace Sys2Proof.Machine

abbrev Res := Host.Outcome State Fault Refusal

/-- The ring RING_SEL names: is it a CQ, and its number. -/
def State.selCq (s : State) (p : Port) : Bool := s.flag Fld.RING_SEL__CQ p.num
def State.selIdx (s : State) (p : Port) : Nat := s.get Fld.RING_SEL__INDEX p.num
def State.ring (s : State) (p : Port) (isCq : Bool) (q : Nat) : Ring := if isCq then s.cq p q else s.sq p q
def State.setRing (s : State) (p : Port) (isCq : Bool) (q : Nat) (r : Ring) : State :=
  if isCq then s.setCq p q r else s.setSq p q r

/-- R145, R151, R152: do a ring and its record lie in windows with the permission they need? -/
def State.ringPlaced (s : State) (p : Port) (isCq : Bool) (r : Ring) : Bool :=
  (if isCq then s.checkRange p r.base (16 * r.size) false true == .ok && s.checkRange p r.record 8 true false == .ok
   else s.checkRange p r.base (64 * r.size) true false == .ok && s.checkRange p r.record 8 true true == .ok)

/-- R147: why ENABLE of the selected ring is refused (log entry 9 for the order of the checks). -/
def State.enableRefusal (s : State) (p : Port) (isCq : Bool) (r : Ring) : Option Nat :=
  if r.state ≠ rDisabled then some 0xA
  else if !s.flag Fld.HOST_CTRL__EN p.num then some 0x9
  else if bitsAt r.cfg 0 5 < 4 || 16 < bitsAt r.cfg 0 5 then some 0x2
  else if r.base % 4096 ≠ 0 || r.record % 8 ≠ 0 then some 0x3
  else if !s.ringPlaced p isCq r then some 0x4
  else if !isCq && (r.bindCq = 0 || (s.cq p r.bindCq).state = rDisabled || (s.cq p r.bindCq).state = rError) then some 0x5
  else none

/-- R147: DISABLE waits until every fetched descriptor has its final completion: the SQ is DISABLED once none is left. -/
def Ring.drain (r : Ring) : Ring := { r with state := if r.owed = 0 then rDisabled else rDraining }

/-- R150: an SQ enters ERROR; a failed read sets DMA_ABORT as well. The HOST class is routed to this port alone (R174, R176). -/
def State.sqError (s : State) (p : Port) (q cause : Nat) : State :=
  let s := if cause = 6 then s.put Fld.HOST_ERR__DMA_ABORT p.num 1 else s
  let s := (s.setSq p q { s.sq p q with state := rError, err := cause }).put Fld.HOST_ERR__RING p.num 1
  s.postTo p { code := 0xD01, sev := 2, obj := q, data := cause }

/-- R150, R153: what a read of an SQ's record gives: the new TAIL, or the ERR_CAUSE. -/
def tailOf (r : Ring) : DmaRead → Nat ⊕ Nat
  | .abort _ => .inr 6
  | .data b => let t := leNat (b.take 4); if t < r.size then .inl t else .inr 7

/-- RING_CTRL ENABLE (R147). `rec` is what a read of the SQ's record answers. A CQ starts with HEAD taken as 0, since the host has set
its memory to zero and the module has read no head record yet (log entry 161). Descriptors fetched before a CLEAR_ERROR stay counted. A
CQ 0 that has room again reports events lost (R177). -/
def execRingEnable (p : Port) (rec : DmaRead) (s : State) : Res :=
  let isCq := s.selCq p; let q := s.selIdx p; let r := s.ring p isCq q
  match s.enableRefusal p isCq r with
  | some c => .next (s.setRing p isCq q { r with err := c })
  | none =>
    if isCq then
      let s := s.setCq p q { r with state := rActive, idx := 0, phase := true, head := 0, unsig := 0, headFault := false }
      .next (if q = 0 then s.reportLost p else s)
    else match tailOf r rec with
      | .inl t => .next (s.setSq p q { r with state := rActive, idx := t, tail := t, needKick := false })
      | .inr c => .next ((s.setSq p q { r with state := rActive }).sqError p q c)

/-- Is some SQ bound to a CQ anything but DISABLED? -/
def HostSt.boundLive (h : HostSt) (c : Nat) : Bool := h.sq.any (fun kv => kv.2.bindCq == c && kv.2.state != rDisabled)

/-- RING_CTRL DISABLE (R147). Of two reasons to refuse a CQ, bound SQs (0x8) come before the state (0xA): log entry 9. -/
def execRingDisable (p : Port) (s : State) : Res :=
  let isCq := s.selCq p; let q := s.selIdx p; let r := s.ring p isCq q
  if isCq then
    if (s.host p).boundLive q then .next (s.setCq p q { r with err := 0x8 })
    else if r.state = rError then .next (s.setCq p q { r with err := 0xA })
    else .next (s.setCq p q { r with state := rDisabled })
  else .next (s.setSq p q r.drain)

/-- RING_CTRL CLEAR_ERROR (R147, R774). -/
def execRingClearError (p : Port) (s : State) : Res :=
  let isCq := s.selCq p; let q := s.selIdx p; let r := s.ring p isCq q
  if r.state ≠ rError then .next (s.setRing p isCq q { r with err := 0xA })
  else if isCq && (s.host p).boundLive q then .next (s.setRing p isCq q { r with err := 0x8 })
  else .next (s.setRing p isCq q { r with state := rDisabled })

/-- A ring with one of its configuration registers written. -/
def Ring.withReg (r : Ring) (w : RingReg) (v : W32) : Ring :=
  match w with
  | .baseLo => { r with base := putBits r.base 0 32 v.toNat }
  | .baseHi => { r with base := putBits r.base 32 32 v.toNat }
  | .dbLo => { r with record := putBits r.record 0 32 v.toNat }
  | .dbHi => { r with record := putBits r.record 32 32 v.toNat }
  | .cfg => { r with cfg := v.toNat }

/-- A write of RING_BASE, RING_DB or RING_CFG (R149). -/
def execRingConfigWrite (p : Port) (w : RingReg) (v : W32) (s : State) : Res :=
  let isCq := s.selCq p; let q := s.selIdx p; let r := s.ring p isCq q
  if r.state ≠ rDisabled then .next (s.setRing p isCq q { r with err := 0x1 })
  else .next (s.setRing p isCq q (r.withReg w v))

/-- A write of a window register (R144). -/
def execWindowWrite (p : Port) (w : Nat) (x : WinReg) (v : W32) (s : State) : Res :=
  if s.flag Fld.HOST_CTRL__EN p.num then .next (s.put Fld.HOST_ERR__WIN_LOCKED p.num 1)
  else
    let i := p.num * 8 + w
    match x with
    | .lo => .next (s.setReg .HOST_WIN_LO i (v &&& 0xFFFFF003))
    | .hi => .next (s.setReg .HOST_WIN_HI i v)
    | .size => .next (s.setReg .HOST_WIN_SIZE i v)

/-- R774: a live CQ no longer placed enters ERROR with every SQ bound to it. -/
def State.cqError (s : State) (p : Port) (c : Nat) : State :=
  let s := (s.setCq p c { s.cq p c with state := rError, err := 4 }).put Fld.HOST_ERR__RING p.num 1
  let s := s.postTo p { code := 0xD05, sev := 2, obj := c, data := 0x104 }
  ((s.host p).sq.filter (fun kv => kv.2.bindCq == c && kv.2.state != rDisabled && kv.2.state != rError)).foldl
    (fun s kv => s.sqError p kv.1 4) s

/-- R774: every live ring and record is checked against the windows in force. -/
def State.recheckRings (s : State) (p : Port) : State :=
  let s := ((s.host p).cq.filter (fun kv => kv.2.state != rDisabled && kv.2.state != rError && !s.ringPlaced p true kv.2)).foldl
    (fun s kv => s.cqError p kv.1) s
  ((s.host p).sq.filter (fun kv => kv.2.state != rDisabled && kv.2.state != rError && !s.ringPlaced p false kv.2)).foldl
    (fun s kv => s.sqError p kv.1 4) s

/-- HOST_CTRL written with EN 1 (R774); POLL_US and IDLE_US take the written value. -/
def execHostEnable (p : Port) (poll : Byte) (idle : W16) (s : State) : Res :=
  let was := s.flag Fld.HOST_CTRL__EN p.num
  let s := (((s.put Fld.HOST_CTRL__EN p.num 1).put Fld.HOST_CTRL__POLL_US p.num poll.toNat).put Fld.HOST_CTRL__IDLE_US p.num idle.toNat).drained p
  .next (if was then s else s.recheckRings p)

/-- HOST_CTRL written with EN 0: nothing more is fetched; DRAINED once nothing is in flight. -/
def execHostDisable (p : Port) (poll : Byte) (idle : W16) (s : State) : Res :=
  .next ((((s.put Fld.HOST_CTRL__EN p.num 0).put Fld.HOST_CTRL__POLL_US p.num poll.toNat).put Fld.HOST_CTRL__IDLE_US p.num idle.toNat).drained p)

/-- R152, R158, R775: a read of a CQ's head record. HEAD is bytes 0 and 1; a value the host must not write (R152) is taken modulo the ring's
size, and other bytes are not looked at (log entry 162). -/
def State.readHead (s : State) (p : Port) (c : Nat) : DmaRead → State
  | .data b =>
    let s := s.setCq p c { s.cq p c with head := leNat (b.take 2) % (s.cq p c).size, headFault := false }
    if c = 0 then s.reportLost p else s
  | .abort _ =>
    let s := s.put Fld.HOST_ERR__DMA_ABORT p.num 1
    if (s.cq p c).headFault then s
    else (s.setCq p c { s.cq p c with headFault := true }).postTo p { code := 0xD05, sev := 2, obj := c, data := 6 }

/-- R159 to R161: take one fetched slot: it goes in flight and is checked, unless FENCE makes it wait. -/
def State.takeSlot (s : State) (p : Port) (q : Nat) (op : Nat) (d : Desc) : State :=
  let s := s.takeOff p q
  let d := { d with port := p, sq := q }
  let t := s.ticket d
  let keep (c : Bool) (s : State) : State :=
    s.setHost p { s.host p with fetched := (s.host p).fetched ++ [{ op := op, d := d, epoch := (s.host p).epoch, checked := c, n := t.n }] }
  if DescF.fence d && (s.sq p q).live.any (fun k => decide (k < t.n)) then keep false s
  else match s.checkDesc op d with
    | some (st, res) => s.complete { t := t, status := st, result := res }
    | none => keep true s

/-- R159: the SQ whose turn it is among the ACTIVE ones with slots to fetch: the first after the one served last. -/
def HostSt.turn (h : HostSt) : Option Nat :=
  ((upTo 32).map fun k => (h.rr + 1 + k) % 32).find? fun q => let r := h.getSq q; r.state == rActive && r.idx != r.tail

/-- Fetch at most the listed slots while there is room (R158, R159); where room is short the head record is read once. -/
def State.fetchSlots (s : State) (p : Port) (q : Nat) (head : DmaRead) : List (Nat × Desc) → State
  | [] => s
  | (op, d) :: r =>
    let c := (s.sq p q).bindCq
    if 1024 ≤ s.get Fld.HOST_STATUS__INFLIGHT p.num || (s.sq p q).idx == (s.sq p q).tail then s
    else
      let s := if s.cqRoom p c then s else s.readHead p c head
      if s.cqRoom p c then (s.takeSlot p q op d).fetchSlots p q head r
      else s.setSq p q { s.sq p q with state := rStalled }

/-- One poll of an SQ (R150, R153, R158, R159): `tail` answers the read of its record, `head` a read of the CQ's head
record, `slots` the reads of its ring, none where they fail. The slots are fetched in the SQ's turn. -/
def execSqPoll (p : Port) (q : Nat) (tail head : DmaRead) (slots : Option (List (Nat × Desc))) (s : State) : Res :=
  let r := s.sq p q
  if !s.flag Fld.HOST_CTRL__EN p.num || (s.host p).holds || r.state ≠ rActive || !s.serves then .next s
  else match tailOf r tail with
    | .inr c => .next (s.sqError p q c)
    | .inl t =>
      let s := s.setSq p q { r with tail := t }
      if (s.host p).turn ≠ some q then .next s
      else
        let s := s.setHost p { s.host p with rr := q }
        match slots with
        | none => .next (s.sqError p q 6)
        | some l => .next (s.fetchSlots p q head (l.take 8))

/-- R154: the idle time has run out on an SQ whose head equals TAIL. A port that holds its DMA traffic writes and reads nothing (R139). -/
def execSqIdleTimeout (p : Port) (q : Nat) (tail : DmaRead) (s : State) : Res :=
  let r := s.sq p q
  if r.state ≠ rActive || r.idx ≠ r.tail || (s.host p).holds || !s.serves then .next s
  else
    let s := s.emit (.needKick p q true)
    match tailOf r tail with
    | .inr c => .next ((s.setSq p q { r with needKick := true }).sqError p q c)
    | .inl t =>
      if t = r.tail then .next (s.setSq p q { r with needKick := true, state := rIdle })
      else .next ((s.emit (.needKick p q false)).setSq p q { r with tail := t })

/-- R155: a write to an SQ's kick register; R93: a kick-page write is the wake source of its port. While the port holds its DMA
traffic, NEED_KICK is written when the hold ends (R139). -/
def execSqKick (p : Port) (q : Nat) (tail : DmaRead) (s : State) : Res :=
  let s := s.wakeSource (3 + p.num)
  let r := s.sq p q
  if r.state ≠ rIdle then .next s
  else if (s.host p).holds then .next (s.setSq p q { r with state := rActive })
  else
    let s := s.emit (.needKick p q false)
    let r := { r with state := rActive, needKick := false }
    match tailOf r tail with
    | .inr c => .next ((s.setSq p q r).sqError p q c)
    | .inl t => .next (s.setSq p q { r with tail := t })

/-- R139: what the SQs of a port that held its traffic still owe their records: NEED_KICK = 0 for those kicked meanwhile. -/
def State.kicksDone (s : State) (p : Port) : State :=
  (s.host p).sq.foldl (fun s kv =>
    if kv.2.state == rActive && kv.2.needKick then (s.emit (.needKick p kv.1 false)).setSq p kv.1 { kv.2 with needKick := false } else s) s

/-- R147: a DRAINING SQ with nothing in flight is DISABLED. -/
def execSqDrained (p : Port) (q : Nat) (s : State) : Res :=
  let r := s.sq p q
  .next (if r.state = rDraining && r.owed = 0 then s.setSq p q { r with state := rDisabled } else s)

/-- R158: the SQs stalled on a CQ resume once it has room. -/
def State.resumeSqs (s : State) (p : Port) (c : Nat) : State :=
  if !s.cqRoom p c then s
  else s.setHost p { s.host p with sq := (s.host p).sq.map (fun kv =>
    if kv.2.bindCq == c && kv.2.state == rStalled then (kv.1, { kv.2 with state := rActive }) else kv) }

/-- R158: the module rereads a head record only where the room it knows of is short: an SQ is STALLED on the CQ, or it is CQ 0 and events
are lost or without room. -/
def State.needsHead (s : State) (p : Port) (c : Nat) : Bool :=
  (s.host p).sq.any (fun kv => kv.2.bindCq == c && kv.2.state == rStalled)
  || (c == 0 && ((s.host p).lost != 0 || (s.cq p 0).room == 0))

/-- R158, R775: the module rereads a CQ's head record. -/
def execCqHeadPoll (p : Port) (c : Nat) (head : DmaRead) (s : State) : Res :=
  if (s.cq p c).state ≠ rActive || (s.host p).holds || !s.needsHead p c then .next s
  else .next ((s.readHead p c head).resumeSqs p c)

/-- R172: the oldest unsignalled entry has waited MOD_TIME. -/
def execInterruptModerationTimeout (p : Port) (c : Nat) (s : State) : Res :=
  let r := s.cq p c
  .next (if r.unsig = 0 then s else (s.setCq p c { r with unsig := 0 }).signal p r.vector)

/-- R171, R172: unmasking a vector sends its pending message. -/
def execMsixUnmask (p : Port) (v : Nat) (s : State) : Res :=
  let h := s.host p
  .next ((s.setHost p { h with msix := tabSet h.msix v { tabGet {} h.msix v with masked := false } }).msixRelease p)

/-- R176: failover of a port ends; the other port hears of it. -/
def State.endFailover (s : State) (p : Port) : State :=
  if !(s.host p).failedOver then s
  else
    let s := (s.setHost p { s.host p with failedOver := false }).put Fld.HOST_STATUS__EVT_FAILOVER p.other.num 0
    s.eventTo p.other { code := 0xD04, sev := 0, obj := p.num }

/-- R176: a port whose link is in L0 with Bus Master Enable set gets its events alone again. -/
def State.maybeEndFailover (s : State) (p : Port) : State :=
  if s.get Fld.HOST_STATUS__LINK_STATE p.num = 1 && (s.host p).bme then s.endFailover p else s

/-- Is the port's link in L0? -/
def State.linkL0 (s : State) (p : Port) : Bool := s.get Fld.HOST_STATUS__LINK_STATE p.num == 1

/-- A port's holding of DMA changes (R139): HELD shows it, and what was held is written when it ends. -/
def State.setHolding (s : State) (p : Port) (bme d3 : Bool) : State :=
  let was := (s.host p).holds
  let s := s.setHost p { s.host p with bme := bme, d3hot := d3 }
  let now := (s.host p).holds
  let s := s.putB Fld.HOST_STATUS__HELD p.num now
  if was && !now then ((s.releaseHeld p).reportLost p).kicksDone p else s

/-- R139, R176: Bus Master Enable is set; the Command register of configuration space clears it (R136). -/
def execBusMasterEnable (p : Port) (s : State) : Res := .next ((s.setHolding p true (s.host p).d3hot).maybeEndFailover p)

/-- R139: the function enters D3hot or returns to D0. -/
def execFunctionD3hot (p : Port) (enter : Bool) (s : State) : Res := .next (s.setHolding p (s.host p).bme enter)

/-- R176: a port's link has been down, or it has been without Bus Master Enable, for FAILOVER_MS. -/
def execEventFailover (p : Port) (s : State) : Res :=
  if s.get Fld.HOST_EVT_CFG__FAILOVER_MS p.num = 0 || (s.host p).failedOver || (s.get Fld.HOST_STATUS__LINK_STATE p.num ≠ 0 && (s.host p).bme) then .next s
  else
    let s := (s.setHost p { s.host p with failedOver := true }).put Fld.HOST_STATUS__EVT_FAILOVER p.other.num 1
    .next (s.eventTo p.other { code := 0xD03, sev := 1, obj := p.num })

/-- NOP (R165). -/
def execNop (d : Desc) (s : State) : Res := .next (s.withDesc 0x00 d fun t s => s.fin t stDone)

/-- Is an Ethernet port disciplining device time (R187)? -/
def State.ptpDisciplines (s : State) : Bool := s.flag Fld.ETH_STATUS__DISC 0 || s.flag Fld.ETH_STATUS__DISC 1

/-- TIME_SET (R166): refused while PTP disciplines device time, otherwise due at the next boundary. -/
def execTimeSet (d : Desc) (s : State) : Res :=
  .next (s.withDesc 0x01 d fun t s =>
    if s.ptpDisciplines then s.complete { t := t, status := stConflict, winner := srcFirmware }
    else { s with timeSets := s.timeSets ++ [(t, DescF.par d 0 8)] })

end Sys2Proof.Machine
end

