-- ==== Sys2Proof/Machine/Power.lean ====
section
/-!
DEFINITION. Machine/Power.lean: operating points (R74 to R80), wake configuration and the wake port (R93 to R102), clock
failures that touch only the C-die (R72, R73).
-/
namespace Sys2Proof.Machine

/-- R78: the cause for which a PWR_DVFS write is refused (log entry 12 for the order), from the codes in force and written. -/
def dvfsCause (run vok : Bool) (floor v f v' f' : Nat) : Option Nat :=
  if !run then some 0x7
  else if v' = 3 || f' = 3 then some 0x6
  else if v' ≠ v && f' ≠ f then some 0x3
  else if f' < f && f' < v then some 0x1
  else if v < v' && f < v' then some 0x2
  else if f' < f && !vok then some 0x4
  else if f' ≠ f && floor < f' then some 0x5
  else none

/-- A write of PWR_DVFS (R75 to R78). STATE Idle counts as Run for CAUSE 0x7: Idle is a state of clusters, and the module is still in Run
(log entry 165). -/
def execPwrDvfsWrite (w : W32) (s : State) : Res :=
  let v := s.get Fld.PWR_DVFS__VSEL 0; let f := s.get Fld.PWR_DVFS__FSEL 0
  let v' := bitsAt w.toNat 0 2; let f' := bitsAt w.toNat 4 2
  if v' = v && f' = f then .next s
  else match dvfsCause (s.pwr ≤ 1) (s.flag Fld.PWR_DVFS__VOK 0) (s.get Fld.PWR_DVFS__FLOOR 0) v f v' f' with
    | some c => .next (((s.put Fld.PWR_DVFS_ERR__ERR 0 1).put Fld.PWR_DVFS_ERR__CAUSE 0 c).bump Fld.PWR_DVFS_ERR__COUNT 0 1)
    | none =>
      let s := (s.put Fld.PWR_DVFS__VSEL 0 v').put Fld.PWR_DVFS__FSEL 0 f'
      .next (if v' ≠ v then s.put Fld.PWR_DVFS__VOK 0 0 else s)

/-- R79: the next write of firmware that raises the operating point to FSEL code `floor`: first VSEL, then, with VOK, FSEL; none where the
point is high enough, or outside Run. -/
def State.raiseStep (s : State) : State :=
  match s.power.raiseTo with
  | none => s
  | some floor =>
    if s.get Fld.PWR_DVFS__FSEL 0 ≤ floor || 1 < s.pwr then s
    else if floor < s.get Fld.PWR_DVFS__VSEL 0 then (s.put Fld.PWR_DVFS__VSEL 0 floor).put Fld.PWR_DVFS__VOK 0 0
    else if s.flag Fld.PWR_DVFS__VOK 0 then s.put Fld.PWR_DVFS__FSEL 0 floor else s

/-- R80: the rail has settled; R79: firmware raising the operating point then writes FSEL. -/
def execVokSet (s : State) : Res := .next (s.put Fld.PWR_DVFS__VOK 0 1).raiseStep

/-- R80: the new frequency takes effect. -/
def execFselInEffect (s : State) : Res := .next (s.setPower { s.power with fselNow := s.get Fld.PWR_DVFS__FSEL 0 })

/-- R79: firmware starts to raise the operating point to a FLOOR. -/
def State.raisePoint (s : State) (floor : Nat) : State := (s.setPower { s.power with raiseTo := some floor }).raiseStep

/-- R79: is the frequency that a FLOOR needs in effect? -/
def State.pointMet (s : State) (floor : Nat) : Bool := decide (s.power.fselNow ≤ floor) && decide (s.get Fld.PWR_DVFS__FSEL 0 ≤ floor)

/-- R79: at a boundary a raise that a later write has undone is repeated; it ends once its frequency is in effect and no configuration
waits for it (`due`). -/
def State.raiseAgain (s : State) (due : Bool) : State :=
  match s.power.raiseTo with
  | none => s
  | some floor => if s.pointMet floor && !due then s.setPower { s.power with raiseTo := none } else s.raiseStep

/-- R95: a write of PWR_WAKE_EN also writes the WAKE polarity latch. -/
def execWakePolWrite (v : W32) (s : State) : Res :=
  .next ((s.setReg .PWR_WAKE_EN 0 ((v &&& 0x800007FF) ||| 0x3800)).setPower { s.power with polLatch := bitAt v.toNat 31 })

/-- R93: device time reaches a non-zero PWR_ALARM; in Off there is none. -/
def execAonAlarm (s : State) : Res :=
  .next (if (s.reg .PWR_ALARM_LO 0 = 0 && s.reg .PWR_ALARM_HI 0 = 0) || s.power.entered == 5 then s else s.wakeSource 2)

/-- The state entered is Off: the wake port is unpowered (R100). -/
def State.isOff (s : State) : Bool := s.power.entered == 5

/-- Deep sleep or Off has been entered. -/
def State.isDown (s : State) : Bool := s.power.entered == 3 || s.power.entered == 5

/-- R100, R123: the wake port's matcher handles frames itself from a commit point until Run, and before stage 0xB. -/
def State.wpMatches (s : State) : Bool := s.power.committed || s.stage != 0xB

/-- R100, R102: the wake port ACKs its address, that of a read frame where `read`: a frame is in progress; the matcher, where it acts,
raises the wake source. -/
def execWakePortAddressMatch (read : Bool) (s : State) : Res :=
  if s.isOff || !s.flag Fld.WP_CFG__EN 0 then .next s
  else
    let m := s.wpMatches
    let s := s.setPower { s.power with wpFrame := true, wpMatcher := m, wpRead := if read then some 0 else none, wpHit := s.power.wpHit || m }
    .next (if m then
        let s := s.wakeSource 1
        if s.get Fld.WP_STATUS__COUNT 0 = 0 && !read then s.put Fld.WP_STATUS__TRUNC 0 0 else s
      else s)

/-- R100: a byte of a read frame: the matcher answers PWR_STATE.STATE, then 0xFF; in Run firmware answers, with what no rule gives (log
entry 1). -/
def State.wakeAnswer (s : State) (n : Nat) : State :=
  let s := s.setPower { s.power with wpRead := some (n + 1) }
  if s.wpMatches then s.emit (.wakePort (if n = 0 then BitVec.ofNat 8 s.pwr else 255))
  else let (w, s) := s.drawWord; s.emit (.wakePort (w.setWidth 8))

/-- R100, R101: a data byte, decided at its ACK slot: the wake buffer before Run is reached, NACK when it is full or holds
an earlier frame, the FIFO in Run. A byte of a read frame is answered; `b` does not matter then. -/
def execWakePortDataByte (b : Byte) (s : State) : Res :=
  if !s.power.wpFrame then .next s
  else match s.power.wpRead with
  | some n => .next (s.wakeAnswer n)
  | none =>
    if !s.wpMatches then .next (s.setPower { s.power with wpFifo := s.power.wpFifo ++ [b] })
    else
      let n := s.get Fld.WP_STATUS__COUNT 0
      if 32 ≤ n || s.power.wpOld then .next ((s.bump Fld.WP_STATUS__NACKED 0 1).put Fld.WP_STATUS__TRUNC 0 1)
      else
        let s := s.setReg .WP_BUF (n / 4) (BitVec.ofNat 32 (putBits (s.reg .WP_BUF (n / 4)).toNat (8 * (n % 4)) 8 b.toNat))
        .next ((s.put Fld.WP_STATUS__COUNT 0 (n + 1)).put Fld.WP_STATUS__VALID 0 1)

/-- R101: RELEASE empties the wake buffer. -/
def execWakeBufferRelease (s : State) : Res :=
  .next (((s.put Fld.WP_STATUS__COUNT 0 0).put Fld.WP_STATUS__VALID 0 0).setPower { s.power with wpOld := false })

/-- R102: the Kyoti receiver detects a preamble: a frame is in progress. -/
def execPreambleDetection (s : State) : Res := .next (s.setPower { s.power with kyFrame := true })

/-- R72, R744: a clock failure: its sticky bit (its bit number in CLK_ERR) and CLOCK_FAULT. -/
def State.clockFault (s : State) (f : Fld) (sev : Nat) : State :=
  (s.put f 0 1).postBoth { code := 0x005, sev := sev, data := 2 ^ f.lo }

def State.stopDie (s : State) (d : Die) : State :=
  if s.boot.stopped.contains d then s else s.setBoot { s.boot with stopped := d :: s.boot.stopped }
def State.startDie (s : State) (d : Die) : State := s.setBoot { s.boot with stopped := s.boot.stopped.filter (· != d) }
def State.dropLink (s : State) (l : Link) : State :=
  if s.boot.downLinks.contains l then s else s.setBoot { s.boot with downLinks := l :: s.boot.downLinks }
def State.raiseLink (s : State) (l : Link) : State := s.setBoot { s.boot with downLinks := s.boot.downLinks.filter (· != l) }

/-- The rails of a die (R103): while one is bad the die is in reset. -/
def railDie : Rail → Option Die
  | .vaon | .vddSoc | .vddC | .vio18 | .vdd2 | .vddq => some .cdie
  | .vddF0 | .vanaF0 => some .f0
  | .vddF1 | .vanaF1 => some .f1
  | .vddD | .vpilP | .vpilN => some .ddie
  | .vbat | .vsw => none

def State.railsGood (s : State) (d : Die) : Bool := s.boot.badRails.all fun r => railDie r != some d

/-- R110: the reset source with this RST_CAUSE bit has acted. -/
def State.rstCause (s : State) (bit : Nat) : State :=
  s.put Fld.RST_CAUSE__CAUSE 0 (putBits (s.get Fld.RST_CAUSE__CAUSE 0) bit 1 1)

/-- DOMAIN_RESET and DOMAIN_RETURNED (R747), for bits 7 to 12. -/
def State.domainReset (s : State) (bit : Nat) : State :=
  let s := (s.rstCause bit).postBoth { code := 0x003, sev := 2, obj := bit }
  s.setBoot { s.boot with away := bit :: s.boot.away.filter (· != bit) }
def State.domainReturned (s : State) (bit : Nat) : State :=
  if !s.boot.away.contains bit then s
  else (s.setBoot { s.boot with away := s.boot.away.filter (· != bit) }).postBoth { code := 0x004, sev := 0, obj := bit }

/-- R73: the core PLL unlocks: the C-die counts as stopped. -/
def execCorePllUnlock (s : State) : Res :=
  .next (((s.put Fld.CLK_STATUS__CORE_PLL_LOCK 0 0).clockFault Fld.CLK_ERR__CORE_UNLOCK 3).stopDie .cdie)

/-- R73: the memory PLL unlocks: ledger accesses stall. -/
def execMemPllUnlock (s : State) : Res :=
  let s := (s.put Fld.CLK_STATUS__MEM_PLL_LOCK 0 0).clockFault Fld.CLK_ERR__MEM_UNLOCK 2
  .next (s.setPower { s.power with memStall := true, memFails := 0 })

/-- R73: the SerDes PLL unlocks: both Ethernet links go down. -/
def execSerdesPllUnlock (s : State) : Res :=
  let s := (s.put Fld.CLK_STATUS__SERDES_PLL_LOCK 0 0).clockFault Fld.CLK_ERR__SERDES_UNLOCK 2
  let down (p : Nat) (s : State) : State :=
    if s.flag Fld.ETH_STATUS__LINK p then
      (s.put Fld.ETH_STATUS__LINK p 0).postBoth { code := 0x009, sev := 1, obj := p, data := 0 }
    else s
  .next (down 1 (down 0 s))

/-- R73: the 32.768 kHz oscillator stops. -/
def execAonOscFail (s : State) : Res :=
  .next (((s.setPower { s.power with oscFailed := true }).put Fld.CLK_STATUS__AON_OSC_OK 0 0).clockFault Fld.CLK_ERR__AON_OSC_FAIL 2)

/-- R130, R131: an access not served within 64 µs is withdrawn; a host's read (`rd`) is answered with ones. In Sleep a gated block's clock
returns in time (R87). -/
def execCrossingTimeout (init xid addr : Nat) (rd : Bool) (s : State) : Res :=
  if s.pwr = 2 then .next s
  else
    let s := s.crossingFailed init xid addr false
    .next (if rd && init ≤ 1 then s.emit (.readValue 0xFFFFFFFF) else s)

end Sys2Proof.Machine
end

