-- ==== Sys2Proof/Machine/Keys.lean ====
section
/-!
DEFINITION. Machine/Keys.lean: what the units ask of Rime (R690 to R708): slots and their attributes, key material,
working-key registers, derivation, the orphaning of slots.
-/
namespace Sys2Proof.Machine

def State.setRime (s : State) (r : RimeSt) : State := { s with rime := r }

/-- R713: STATE of a slot: 0 EMPTY, 1 VALID, 2 ORPHANED. -/
def State.keySt (s : State) (n : Nat) : Nat := s.get Fld.KEY_ATTR__STATE n
def State.keyType (s : State) (n : Nat) : Nat := s.get Fld.KEY_ATTR__TYPE n
/-- G[n] (R691). -/
def State.keyGen (s : State) (n : Nat) : Nat := (s.reg .KEY_GEN n).toNat

/-- A key that a function may use: a VALID slot of one of these types with the usage bit (R693). -/
def State.keyUsable (s : State) (n : Nat) (types : List Nat) (usage : Nat) : Bool :=
  s.keySt n == 1 && types.contains (s.keyType n) && bitAt (s.get Fld.KEY_ATTR__USAGE n) usage

/-- The clear key: the XOR of its shares (R695). -/
def KeySlot.key (k : KeySlot) : Nat := Nat.xor k.s0 k.s1
def State.keyOf (s : State) (n : Nat) : Nat := (tabGet ⟨0, 0⟩ s.rime.slots n).key

/-- R697: load a key into an engine's working-key register, in place of the one it held. -/
def State.loadCe (s : State) (e src key : Nat) : State := s.setRime { s.rime with ces := tabSet s.rime.ces e (src, key) }

/-- R697: use a slot's key in an engine. -/
def State.useKey (s : State) (e n : Nat) : State := s.loadCe e n (s.keyOf n)

/-- R698: the working keys of a slot that is no more are cleared. -/
def State.clearCe (s : State) (n : Nat) : State := s.setRime { s.rime with ces := s.rime.ces.filter (fun x => x.2.1 != n) }

/-- R713: the counts of KEY_STATUS. -/
def State.keyCounts (s : State) : State :=
  let n (st : Nat) : Nat := (s.regs.filter fun kv => kv.1.reg == .KEY_ATTR && bitsAt kv.2.toNat 28 4 == st).length
  (s.put Fld.KEY_STATUS__USED 0 (n 1)).put Fld.KEY_STATUS__ORPHANED 0 (n 2)

/-- R693: the bytes of a key of a type, and the usage bits the type allows. -/
def keyLen (type : Nat) : Nat := if type = 1 then 16 else if type = 5 then 64 else 32
def usageOf (type : Nat) : Nat :=
  if type = 1 || type = 2 then 0x47 else if type = 3 then 0x64 else if type = 4 then 0x48 else if type = 5 then 0x50 else 0

/-- The curve P-256: its field prime, coefficient b and order n (FIPS 186-4; log entry 3). -/
def p256P : Nat := 2 ^ 256 - 2 ^ 224 + 2 ^ 192 + 2 ^ 96 - 1
def p256B : Nat := 0x5ac635d8aa3a93e7b3ebbd55769886bc651d06b0cc53b0f63bce3c3e27d2604b
def p256N : Nat := 0xffffffff00000000ffffffffffffffffbce6faada7179e84f3b9cac2fc632551

/-- R693: is this material (little-endian number of its bytes) one of the type? -/
def materialOk (type : Nat) (bytes : List Byte) : Bool :=
  if type = 4 then let k := leNat (bytes.take 32); decide (1 ≤ k) && decide (k < p256N)
  else if type = 5 then
    let x := leNat (bytes.take 32).reverse; let y := leNat ((bytes.drop 32).take 32).reverse
    decide (x < p256P) && decide (y < p256P) && (y * y) % p256P == (x * x * x + (p256P - 3) * x + p256B) % p256P
  else true

/-- R705: the KDF in counter mode under a key; the function's values are opaque (log entry 3). -/
def kdf (key : Nat) (label ctx : List Byte) (gen type : Nat) : Nat :=
  let bits := if type = 4 then 320 else 8 * keyLen type
  let out := Config.digest 20 (key :: label.map (·.toNat) ++ [0] ++ (padTo 8 ctx).map (·.toNat)
    ++ (leBytes 4 gen ++ [BitVec.ofNat 8 type] ++ (leBytes 4 bits).reverse).map (·.toNat)) % 2 ^ bits
  if type = 4 then out % (p256N - 1) + 1 else out

/-- What a slot shows of its key. -/
structure KeyAttr where
  type : Nat
  usage : Nat
  level : Nat := 1
  derived : Bool := false
  persist : Bool := false
  exported : Bool := false
  parent : Nat := 0x1FF
  pgen : Nat := 0
  id : Nat := 0
deriving DecidableEq, Repr

/-- Load a key into a slot, as two shares under a fresh mask (R695). -/
def State.storeKey (s : State) (n : Nat) (a : KeyAttr) (key : Nat) : State :=
  let (m, s) := s.drawBelow (2 ^ 512)
  let s := s.setRime { s.rime with slots := tabSet s.rime.slots n ⟨Nat.xor key m, m⟩ }
  let s := ((s.put Fld.KEY_ATTR__STATE n 1).put Fld.KEY_ATTR__TYPE n a.type).put Fld.KEY_ATTR__LEVEL n a.level
  let s := ((s.putB Fld.KEY_ATTR__DERIVED n a.derived).putB Fld.KEY_ATTR__PERSIST n a.persist).putB Fld.KEY_ATTR__EXPORTED n a.exported
  let s := ((s.put Fld.KEY_ATTR__USAGE n a.usage).put Fld.KEY_PARENT__PARENT n a.parent).put Fld.KEY_PGEN__PGEN n a.pgen
  (s.put Fld.KEY_ID__ID n a.id).keyCounts

/-- A slot's key is cleared and the slot shows this STATE (R707, R708); what the key area keeps of it goes with its mark. -/
def State.dropKey (s : State) (n st : Nat) : State :=
  let s := (s.setRime { s.rime with slots := tabErase s.rime.slots n, persist := tabErase s.rime.persist n }).clearCe n
  let s := s.resetRegs fun k => k.idx == n && (k.reg == .KEY_ATTR || k.reg == .KEY_PARENT || k.reg == .KEY_PGEN || k.reg == .KEY_ID)
  s.put Fld.KEY_ATTR__STATE n st

/-- R708: is the slot orphaned: a derived key whose parent holds another generation, or no key? -/
def State.isOrphan (s : State) (n : Nat) : Bool :=
  let p := s.get Fld.KEY_PARENT__PARENT n
  s.keySt n == 1 && s.flag Fld.KEY_ATTR__DERIVED n && decide (p < 256)
  && (s.keySt p != 1 || s.keyGen p != (s.reg .KEY_PGEN n).toNat)

/-- The general slots, and one round of orphaning over them. -/
def generalSlots : List Nat := (upTo 248).map (· + 8)
def State.orphanRound (s : State) : State × Nat :=
  let l := generalSlots.filter fun n => s.isOrphan n
  (l.foldl (fun s n => s.dropKey n 2) s, l.length)

/-- R708: orphaning runs through the whole tree, of at most 4 levels. -/
def State.orphanTree : Nat → State → State × Nat
  | 0, s => (s, 0)
  | k + 1, s => let (s, n) := s.orphanRound; let (s, m) := s.orphanTree k; (s, n + m)

/-- R708: a generation increases: what it orphans is cleared, and KEY_ORPHANED is posted. The number of orphans. -/
def State.raiseGen (s : State) (n : Nat) : State × Nat :=
  let s := s.put Fld.KEY_GEN__GEN n (s.keyGen n + 1)
  let (s, k) := s.orphanTree 4
  (s.keyCounts.postBoth { code := 0x0C2, sev := 1, obj := n, data := min k 65535 }, k)

/-- R706: the cell key can be used: a derivation secret. CE5 then takes the key of a node, or the broadcast key. -/
def State.cellKey (s : State) (n : Nat) : Bool := s.keyUsable n [3] 5
def State.useNodeKey (s : State) (slot : Nat) (uid : Option Nat) : State :=
  s.loadCe 5 slot (match uid with
    | some u => kdf (s.keyOf slot) [78, 79, 68, 69] (leBytes 8 u) (s.keyGen slot) 1
    | none => kdf (s.keyOf slot) [66, 67, 65, 83, 84] [] (s.keyGen slot) 1)

end Sys2Proof.Machine
end

