-- ==== Sys2Proof/Machine/Civil.lean ====
section
/-!
DEFINITION. Machine/Civil.lean: civil time and rate schedules (R27, R427 to R430). A schedule is the bytes of its request.
-/
namespace Sys2Proof.Machine

/-- Year, month and day of a day counted from 2000-01-01, in the proleptic Gregorian calendar (R427). -/
def civilOf (day : Int) : Nat × Nat × Nat :=
  -- days from 0000-03-01, so that a leap day ends its year; no legal time lies earlier
  let z := (day + 730425).toNat
  let era := z / 146097
  let doe := z % 146097
  let yoe := (doe - doe / 1460 + doe / 36524 - doe / 146096) / 365
  let doy := doe - (365 * yoe + yoe / 4 - yoe / 100)
  let mp := (5 * doy + 2) / 153
  let m := if mp < 10 then mp + 3 else mp - 9
  (yoe + 400 * era + b2n (m ≤ 2), m, doy - (153 * mp + 2) / 5 + 1)

/-- The day, counted from 2000-01-01, of a date. -/
def dayOf (y m d : Nat) : Int :=
  let y := y - b2n (m ≤ 2)
  let yoe := y % 400
  let doy := (153 * (if 2 < m then m - 3 else m + 9) + 2) / 5 + d - 1
  ((y / 400 * 146097 + yoe * 365 + yoe / 4 - yoe / 100 + doy : Nat) : Int) - 730425

/-- R427, R429: the weekday, 0 Monday to 6 Sunday; 2000-01-01 is a Saturday. -/
def weekday (day : Int) : Nat := ((day + 5) % 7).toNat

/-- A field of a schedule. -/
def schedByte (b : List Byte) (i : Nat) : Nat := field b i 1

/-- The minute, counted from 2000-01-01, that a DST rule (its first byte at `at_`) names in a year (R427). -/
def ruleMinute (b : List Byte) (at_ y : Nat) : Int :=
  let m := schedByte b at_; let week := schedByte b (at_ + 1); let wd := schedByte b (at_ + 2)
  let first := dayOf y m 1
  let next := if m = 12 then dayOf (y + 1) 1 1 else dayOf y (m + 1) 1
  let d := if week = 5 then next - 7 + (((wd + 7 - weekday next) % 7 : Nat) : Int)
    else first + (((wd + 7 - weekday first) % 7 + 7 * (week - 1) : Nat) : Int)
  d * 1440 + field b (at_ + 3) 2

/-- OFFSET of a schedule in seconds. -/
def schedOffset (b : List Byte) : Int := signedOf 32 (field b 232 4)

/-- R427: civil time in minutes from 2000-01-01, with daylight time, at a legal time in µs; and its seconds. -/
def civilSecond (b : List Byte) (legal : Nat) : Int :=
  let std := (legal : Int) / 1000000 + schedOffset b
  let shift : Int := schedByte b 246
  let y := (civilOf (std / 86400)).1
  let on := ruleMinute b 236 y
  let off := ruleMinute b 241 y - shift
  let mnt := std / 60
  let day := if on ≤ off then decide (on ≤ mnt) && decide (mnt < off) else decide (on ≤ mnt) || decide (mnt < off)
  if shift ≠ 0 && day then std + shift * 60 else std

/-- The entries of a profile: minute, rate and VALID. -/
def profileEntries (b : List Byte) (p : Nat) : List (Nat × Nat × Bool) :=
  (upTo 8).map fun e => let w := field b (20 + 16 * p + 2 * e) 2; (bitsAt w 5 11, bitsAt w 2 3, bitAt w 0)

def validEntries (b : List Byte) (p : Nat) : List (Nat × Nat) := ((profileEntries b p).filter (·.2.2)).map fun e => (e.1, e.2.1)

/-- The used seasons: start as month × 32 + day, and the profile word, in their order. -/
def seasons (b : List Byte) : List (Nat × Nat) :=
  (upTo 4).filterMap fun q =>
    let m := schedByte b (148 + 6 * q)
    if m = 0 then none else some (m * 32 + schedByte b (149 + 6 * q), field b (150 + 6 * q) 4)

/-- The profile of a date (R427): a special day, else the weekday of the season that began last. -/
def profileOf (b : List Byte) (day : Int) : Nat :=
  let (_, m, d) := civilOf day
  match (upTo 20).find? fun k => schedByte b (172 + 3 * k) == m && schedByte b (173 + 3 * k) == d with
  | some k => schedByte b (174 + 3 * k) % 8
  | none =>
    let ss := seasons b
    let now := ss.filter fun s => decide (s.1 ≤ m * 32 + d)
    let w := match now.getLast? with | some s => s.2 | none => (match ss.getLast? with | some s => s.2 | none => 0)
    bitsAt w (4 * weekday day) 4

/-- R427: the rate in force at a legal time. -/
def rateOf (b : List Byte) (legal : Nat) : Nat :=
  let c := civilSecond b legal
  let mnt := (c / 60 % 1440).toNat
  match ((validEntries b (profileOf b (c / 86400))).filter fun e => decide (e.1 ≤ mnt)).getLast? with
  | some e => e.2
  | none => 0

/-- Does a list of numbers ascend? -/
def ascends : List Nat → Bool
  | a :: b :: r => decide (a < b) && ascends (b :: r)
  | _ => true

/-- R429: the ranges of a DST rule. -/
def ruleOk (b : List Byte) (at_ : Nat) : Bool :=
  let f (i : Nat) : Nat := schedByte b (at_ + i)
  decide (1 ≤ f 0 && f 0 ≤ 12 && 1 ≤ f 1 && f 1 ≤ 5 && f 2 ≤ 6 && field b (at_ + 3) 2 ≤ 1439)

/-- The profiles that used seasons and special days refer to. -/
def referred (b : List Byte) : List Nat :=
  ((seasons b).flatMap fun s => (upTo 7).map fun k => bitsAt s.2 (4 * k) 4)
    ++ (upTo 20).filterMap fun k => if schedByte b (172 + 3 * k) = 0 then none else some (schedByte b (174 + 3 * k))

/-- R429, R430: may a RATE_SCHEDULE request be kept? -/
def scheduleOk (b : List Byte) : Bool :=
  let month (i : Nat) : Bool := decide (schedByte b i ≤ 12)
  let day (i : Nat) : Bool := decide (1 ≤ schedByte b i && schedByte b i ≤ 31)
  decide (schedByte b 4 ≤ 3) && schedByte b 5 == 1 && field b 6 2 == 0 && field b 16 4 != 0
  && (upTo 8).all (fun p => (upTo 8).all fun e => let w := field b (20 + 16 * p + 2 * e) 2
      !bitAt w 1 && (!bitAt w 0 || decide (bitsAt w 5 11 ≤ 1439)))
  && schedByte b 148 != 0
  && (upTo 4).all (fun q => schedByte b (148 + 6 * q) == 0
      || (month (148 + 6 * q) && day (149 + 6 * q) && decide (field b (150 + 6 * q) 4 < 2 ^ 28)))
  && ascends ((seasons b).map (·.1))
  && (upTo 20).all (fun k => schedByte b (172 + 3 * k) == 0 || (month (172 + 3 * k) && day (173 + 3 * k)))
  && decide (-50460 ≤ schedOffset b) && decide (schedOffset b ≤ 50460)
  && decide (schedByte b 246 ≤ 120) && (schedByte b 246 == 0 || (ruleOk b 236 && ruleOk b 241))
  && (upTo 9).all (fun i => schedByte b (247 + i) == 0)
  && (referred b).all (fun p => decide (p ≤ 7) && (validEntries b p).any (fun e => e.1 == 0))
  && (upTo 8).all (fun p => ascends ((validEntries b p).map (·.1)))

/-- The highest rate of a schedule's entries. -/
def topRate (b : List Byte) : Nat := (upTo 8).foldl (fun m p => (validEntries b p).foldl (fun m e => max m e.2) m) 0

end Sys2Proof.Machine
end

