-- ==== Sys2Proof/Machine/Float.lean ====
section
/-!
DEFINITION. Machine/Float.lean: IEEE 754 single precision as the F extension has it (R225): every value a word, every operation exact and then
rounded once, with its five rounding modes, subnormal numbers and the five flags.
-/
namespace Sys2Proof

/-- A word taken apart: NaN (quiet or not), infinity, or the finite number `m` · 2^`e`, each with its sign. -/
inductive F32 where
  | nan (quiet : Bool)
  | inf (neg : Bool)
  | fin (neg : Bool) (m : Nat) (e : Int)
deriving DecidableEq, Repr

namespace F32

/-- The flags of fcsr: NX 1, UF 2, OF 4, DZ 8, NV 16. -/
def nx : Nat := 1
def uf : Nat := 2
def ovf : Nat := 4
def dz : Nat := 8
def nv : Nat := 16

def ofWord (w : W32) : F32 :=
  let neg := bitAt w.toNat 31; let e := bitsAt w.toNat 23 8; let f := bitsAt w.toNat 0 23
  if e = 255 then (if f = 0 then .inf neg else .nan (bitAt f 22))
  else if e = 0 then .fin neg f (-149) else .fin neg (f + 2 ^ 23) ((e : Int) - 150)

/-- The canonical NaN, zero and infinity. -/
def nanW : W32 := 0x7FC00000
def zeroW (neg : Bool) : W32 := if neg then 0x80000000 else 0
def infW (neg : Bool) : W32 := if neg then 0xFF800000 else 0x7F800000

/-- The number of bits of a number below 2^1024. -/
def bitLen (n : Nat) : Nat := if n = 0 then 0 else Nat.log2 n + 1

/-- Does a mode round a magnitude up? `odd`: its last bit; `cmp`: the rest against half a unit; `some_`: the rest is not 0. Modes: 0 to
nearest even, 1 toward zero, 2 down, 3 up, 4 to nearest, ties away. -/
def roundsUp (rm : Nat) (neg odd : Bool) (cmp : Ordering) (some_ : Bool) : Bool :=
  match rm with
  | 0 => cmp == .gt || (cmp == .eq && odd)
  | 1 => false
  | 2 => neg && some_
  | 3 => !neg && some_
  | _ => cmp != .lt

/-- The magnitude (m, or a little more with `sticky`) · 2^e cut to a multiple of 2^q and rounded, and whether anything was cut. -/
def cut (rm : Nat) (neg : Bool) (m : Nat) (e q : Int) (sticky : Bool) : Nat × Bool :=
  if q ≤ e then (m * 2 ^ (e - q).toNat, sticky)
  else
    let d := 2 ^ (q - e).toNat
    let t := m / d; let r := m % d
    let some_ := r != 0 || sticky
    let cmp : Ordering := if 2 * r < d then .lt else if 2 * r = d then (if sticky then .gt else .eq) else .gt
    (if roundsUp rm neg (t % 2 == 1) cmp some_ then t + 1 else t, some_)

/-- Round an exact magnitude to a word, with the flags it raises. Tininess is detected after rounding. -/
def round (rm : Nat) (neg : Bool) (m : Nat) (e : Int) (sticky : Bool) : W32 × Nat :=
  if m = 0 && !sticky then (zeroW neg, 0)
  else
    let top : Int := e + bitLen m
    let q0 : Int := top - 24
    let q : Int := max q0 (-149)
    let (t, lost) := cut rm neg m e q sticky
    let (t, q) := if t = 2 ^ 24 then (2 ^ 23, q + 1) else (t, q)
    if 104 < q then
      let big := rm = 0 || rm = 4 || (rm = 2 && neg) || (rm = 3 && !neg)
      (if big then infW neg else infW neg - 1, ovf + nx)
    else
      let free := cut rm neg m e q0 sticky
      let tiny := decide (q0 < -150) || (decide (q0 = -150) && free.1 != 2 ^ 24)
      let flags := if lost then (if tiny then nx + uf else nx) else 0
      let body : Nat := if 2 ^ 23 ≤ t then (q + 150).toNat * 2 ^ 23 + (t - 2 ^ 23) else t
      (BitVec.ofNat 32 (body + b2n neg * 2 ^ 31), flags)

/-- Does an operand raise NV on its own: a signalling NaN? -/
def sig : F32 → Nat
  | .nan false => nv
  | _ => 0

def neg1 (w : W32) : W32 := w ^^^ 0x80000000

/-- The exact sum of two signed magnitudes at one exponent, rounded; an exact zero has the sign of both, or that of the mode. -/
def sumRound (rm : Nat) (na : Bool) (a : Nat) (ea : Int) (nb : Bool) (b : Nat) (eb : Int) : W32 × Nat :=
  let e := min ea eb
  let x : Int := (a * 2 ^ (ea - e).toNat : Nat); let y : Int := (b * 2 ^ (eb - e).toNat : Nat)
  let s := (if na then -x else x) + (if nb then -y else y)
  if s = 0 then (zeroW (if na = nb then na else rm = 2), 0) else round rm (decide (s < 0)) s.natAbs e false

def add (rm : Nat) (x y : W32) : W32 × Nat :=
  match ofWord x, ofWord y with
  | .nan a, b => (nanW, max (sig (.nan a)) (sig b))
  | a, .nan b => (nanW, max (sig a) (sig (.nan b)))
  | .inf a, .inf b => if a = b then (x, 0) else (nanW, nv)
  | .inf _, _ => (x, 0)
  | _, .inf _ => (y, 0)
  | .fin na a ea, .fin nb b eb => sumRound rm na a ea nb b eb

def mul (rm : Nat) (x y : W32) : W32 × Nat :=
  let zero : F32 → Bool := fun v => match v with | .fin _ m _ => m == 0 | _ => false
  match ofWord x, ofWord y with
  | .nan a, b => (nanW, max (sig (.nan a)) (sig b))
  | a, .nan b => (nanW, max (sig a) (sig (.nan b)))
  | .inf a, .inf b => (infW (a != b), 0)
  | .inf a, .fin nb m e => if zero (.fin nb m e) then (nanW, nv) else (infW (a != nb), 0)
  | .fin na m e, .inf b => if zero (.fin na m e) then (nanW, nv) else (infW (na != b), 0)
  | .fin na a ea, .fin nb b eb => round rm (na != nb) (a * b) (ea + eb) false

/-- x · y + z with one rounding. -/
def fma (rm : Nat) (x y z : W32) : W32 × Nat :=
  let a := ofWord x; let b := ofWord y; let c := ofWord z
  let bad := match a, b with
    | .inf _, .fin _ m _ => m == 0
    | .fin _ m _, .inf _ => m == 0
    | _, _ => false
  let s := max (max (sig a) (sig b)) (sig c)
  match a, b, c with
  | .nan _, _, _ => (nanW, s)
  | _, .nan _, _ => (nanW, s)
  | _, _, .nan _ => (nanW, if bad then nv else s)
  | .fin na m e, .fin nb k f, .fin nc l g => sumRound rm (na != nb) (m * k) (e + f) nc l g
  | .fin _ _ _, .fin _ _ _, .inf _ => (z, 0)
  | _, _, _ =>
    if bad then (nanW, nv)
    else
      let p := infW (bitAt x.toNat 31 != bitAt y.toNat 31)
      match c with
      | .inf _ => if p = z then (z, 0) else (nanW, nv)
      | _ => (p, 0)

def div (rm : Nat) (x y : W32) : W32 × Nat :=
  match ofWord x, ofWord y with
  | .nan a, b => (nanW, max (sig (.nan a)) (sig b))
  | a, .nan b => (nanW, max (sig a) (sig (.nan b)))
  | .inf _, .inf _ => (nanW, nv)
  | .inf a, .fin nb _ _ => (infW (a != nb), 0)
  | .fin na _ _, .inf b => (zeroW (na != b), 0)
  | .fin na a ea, .fin nb b eb =>
    if b = 0 then (if a = 0 then (nanW, nv) else (infW (na != nb), dz))
    else round rm (na != nb) (a * 2 ^ 64 / b) (ea - eb - 64) (a * 2 ^ 64 % b != 0)

def sqrt (rm : Nat) (x : W32) : W32 × Nat :=
  match ofWord x with
  | .nan a => (nanW, sig (.nan a))
  | .inf a => if a then (nanW, nv) else (x, 0)
  | .fin na a ea =>
    if a = 0 then (x, 0)
    else if na then (nanW, nv)
    else
      -- an even exponent, and 64 bits more than the result needs
      let (m, e) := if ea % 2 = 0 then (a * 2 ^ 64, ea - 64) else (a * 2 ^ 65, ea - 65)
      let r := isqrt m
      round rm false r (e / 2) (r * r != m)

/-- Comparison of finite or infinite values; none with a NaN. Zeros are equal. -/
def cmp (x y : W32) : Option Ordering :=
  match ofWord x, ofWord y with
  | .nan _, _ => none
  | _, .nan _ => none
  | _, _ =>
    let key (w : W32) : Int := let k : Int := (w.toNat % 2 ^ 31 : Nat); if bitAt w.toNat 31 then -k else k
    some (compare (key x) (key y))

/-- FEQ (quiet), FLT and FLE (signalling): 1 or 0. -/
def eqW (x y : W32) : W32 × Nat :=
  match cmp x y with
  | some o => (if o == .eq then 1 else 0, 0)
  | none => (0, max (sig (ofWord x)) (sig (ofWord y)))
def ltW (orEq : Bool) (x y : W32) : W32 × Nat :=
  match cmp x y with
  | some o => (if o == .lt || (orEq && o == .eq) then 1 else 0, 0)
  | none => (0, nv)

/-- FMIN and FMAX: a NaN loses to a number, and −0 is below +0. -/
def pick (big : Bool) (x y : W32) : W32 × Nat :=
  let s := max (sig (ofWord x)) (sig (ofWord y))
  match ofWord x, ofWord y with
  | .nan _, .nan _ => (nanW, s)
  | .nan _, _ => (y, s)
  | _, .nan _ => (x, s)
  | _, _ =>
    let key (w : W32) : Int := let k : Int := (w.toNat % 2 ^ 31 : Nat); if bitAt w.toNat 31 then -k - 1 else k
    (if decide (key x < key y) = big then y else x, 0)

/-- FCLASS: the class as one bit of ten. -/
def classify (x : W32) : W32 :=
  match ofWord x with
  | .nan q => if q then 512 else 256
  | .inf n => if n then 1 else 128
  | .fin n m _ => if m = 0 then (if n then 8 else 16) else if m < 2 ^ 23 then (if n then 4 else 32) else (if n then 2 else 64)

/-- FCVT to an integer of 32 bits, rounded as the mode says, saturated with NV. -/
def toWord (rm : Nat) (signed : Bool) (x : W32) : W32 × Nat :=
  let top : Int := if signed then 2 ^ 31 - 1 else 2 ^ 32 - 1
  let low : Int := if signed then -(2 ^ 31) else 0
  match ofWord x with
  | .nan _ => (BitVec.ofInt 32 top, nv)
  | .inf n => (BitVec.ofInt 32 (if n then low else top), nv)
  | .fin n m e =>
    let (t, lost) := cut rm n m e 0 false
    let z : Int := if n then -(t : Int) else t
    if top < z then (BitVec.ofInt 32 top, nv) else if z < low then (BitVec.ofInt 32 low, nv) else (BitVec.ofInt 32 z, if lost then nx else 0)

/-- FCVT from an integer. -/
def ofInt (rm : Nat) (z : Int) : W32 × Nat := round rm (decide (z < 0)) z.natAbs 0 false

end F32
end Sys2Proof
end

