-- ==== Sys2Proof/Machine/Reals.lean ====
section
/-!
DEFINITION. Machine/Reals.lean: the real numbers that the metering equations are evaluated in: multiples of 2⁻¹⁶⁰, which is finer than
the 1 ppm of R381 and the rounding of the single-precision mirrors need (log entry 183).
-/
namespace Sys2Proof.Fx

def one : Int := 2 ^ 160
def ofInt (a : Int) : Int := a * one
def ofFrac (a : Int) (b : Nat) : Int := a * one / b
/-- The decimal number `m` · 10⁻ᵏ. -/
def dec (m : Int) (k : Nat) : Int := ofFrac m (10 ^ k)
def mul (a b : Int) : Int := a * b / one
def div (a b : Int) : Int := if b = 0 then 0 else a * one / b
def sqrt (x : Int) : Int := isqrt (x * one).toNat

def pow (x : Int) : Nat → Int
  | 0 => one
  | n + 1 => mul (pow x n) x

/-- An integer power. -/
def zpow (x : Int) (n : Int) : Int := if 0 ≤ n then pow x n.toNat else div one (pow x (-n).toNat)

def ln2 : Int := dec 693147180559945309417232121458176568075500134360255254 54
/-- π · 10⁵⁰. -/
def pi50 : Nat := 314159265358979323846264338327950288419716939937510
def pi : Int := dec pi50 50

/-- The terms r^i / i! from the `i`-th on, `t` being the one before. -/
def expTerms (r : Int) : Nat → Nat → Int → Int
  | 0, _, _ => 0
  | n + 1, i, t => let t := mul t r / i; t + expTerms r n (i + 1) t

/-- e^x: the power of 2 apart, a series over |r| ≤ ln 2. -/
def exp (x : Int) : Int :=
  let k := x / ln2
  let r := x - k * ln2
  let y := one + expTerms r 45 1 one
  if 0 ≤ k then y * 2 ^ k.toNat else y / 2 ^ (-k).toNat

/-- The terms z^(2i+1) / (2i+1), `t` being z^(2i−1). -/
def lnTerms (z2 : Int) : Nat → Nat → Int → Int
  | 0, _, _ => 0
  | n + 1, i, t => t / i + lnTerms z2 n (i + 2) (mul t z2)

/-- ln x of a positive number: the power of 2 apart, 2 artanh of (m − 1) / (m + 1) for 1 ≤ m < 2. -/
def ln (x : Int) : Int :=
  if x ≤ 0 then 0
  else
    let k : Int := (Nat.log2 x.toNat : Int) - 160
    let m := if 0 ≤ k then x / 2 ^ k.toNat else x * 2 ^ (-k).toNat
    let z := div (m - one) (m + one)
    2 * lnTerms (mul z z) 55 1 z + k * ln2

/-- x^y of a positive x. -/
def rpow (x y : Int) : Int := if x ≤ 0 then 0 else exp (mul y (ln x))

/-- The terms of the cosine's or sine's series, `t` being the one before and `i` the factor of the factorial. -/
def trigTerms (x2 : Int) : Nat → Nat → Int → Int
  | 0, _, _ => 0
  | n + 1, i, t => let t := -(mul t x2) / (i * (i + 1)); t + trigTerms x2 n (i + 2) t
def cos (x : Int) : Int := one + trigTerms (mul x x) 40 1 one
def sin (x : Int) : Int := x + trigTerms (mul x x) 40 2 x

/-! ### Single and double precision -/

def ofF32 (w : W32) : Int :=
  let (m, e) := f32Parts w
  let a : Int := if 0 ≤ e + 160 then (m * 2 ^ (e + 160).toNat : Nat) else (m / 2 ^ (-(e + 160)).toNat : Nat)
  if bitAt w.toNat 31 then -a else a

/-- The nearest single-precision value. -/
def toF32 (x : Int) : W32 := (F32.round 0 (decide (x < 0)) x.natAbs (-160) false).1

/-- The nearest single-precision value of a fraction. -/
def fracF32 (a : Int) (b : Nat) : W32 :=
  if b = 0 then 0
  else
    let k := 80 + F32.bitLen b
    let n := a.natAbs * 2 ^ k
    (F32.round 0 (decide (a < 0)) (n / b) (-(k : Int)) (n % b != 0)).1

/-- The nearest single-precision value of a positive scale times √(a / b). -/
def rootF32 (scale : W32) (a b : Nat) : W32 :=
  if b = 0 then 0
  else
    let (m, e) := f32Parts scale
    let k := 80 + F32.bitLen b
    let n := m * m * a * 4 ^ k
    let r := isqrt (n / b)
    (F32.round 0 false r (e - k) (r * r * b != n)).1

/-- The nearest double-precision value of a fraction of naturals (R401). -/
def fracF64 (a b : Nat) : Nat :=
  if a = 0 || b = 0 then 0
  else
    let top : Int := (F32.bitLen a : Int) - F32.bitLen b
    -- 2^(top−1) < a / b < 2^(top+1): 55 bits or 54 of the quotient, then the nearest 53
    let sh : Int := 54 - top
    let n := if 0 ≤ sh then a * 2 ^ sh.toNat else a
    let d := if 0 ≤ sh then b else b * 2 ^ (-sh).toNat
    let e : Int := if n / d < 2 ^ 54 then -sh + 1 else -sh + 2
    let q := (if n / d < 2 ^ 54 then divHalfEven n (d * 2) else divHalfEven n (d * 4)).toNat
    let (q, e) := if q = 2 ^ 53 then (2 ^ 52, e + 1) else (q, e)
    (e + 1075).toNat * 2 ^ 52 + (q - 2 ^ 52)

end Sys2Proof.Fx
end

