-- ==== Sys2Proof/Machine/Fluid.lean ====
section
/-!
DEFINITION. Machine/Fluid.lean: primary devices and fluid properties (R372, R378 to R384). IAPWS-IF97 and the Reader-Harris/Gallagher
equation are written from the published standards that the spec names (log entry 184); what the spec calls a built-in table is
`Config.table` (log entry 2). Pressures are in MPa and temperatures in K where IF97 is meant, in Pa and °C elsewhere.
-/
namespace Sys2Proof.Fluid
open Sys2Proof.Fx

/-! ### IAPWS-IF97 (R382): rows are the exponents I and J and the coefficient m · 10⁻ᵏ -/

abbrev Row := Int × Int × Int × Nat

def region1 : List Row :=
  [(0, -2, 14632971213167, 14), (0, -1, -84548187169114, 14), (0, 0, -3756360367204, 12), (0, 1, 33855169168385, 13),
   (0, 2, -95791963387872, 14), (0, 3, 15772038513228, 14), (0, 4, -16616417199501, 15), (0, 5, 81214629983568, 17),
   (1, -9, 28319080123804, 17), (1, -7, -60706301565874, 17), (1, -1, -18990068218419, 15), (1, 0, -32529748770505, 15),
   (1, 1, -21841717175414, 15), (1, 3, -5283835796993, 17), (2, -3, -47184321073267, 17), (2, 0, -30001780793026, 17),
   (2, 1, 47661393906987, 18), (2, 3, -44141845330846, 19), (2, 17, -72694996297594, 29), (3, -4, -31679644845054, 18),
   (3, 0, -28270797985312, 19), (3, 6, -85205128120103, 23), (4, -5, -22425281908, 16), (4, -2, -65171222895601, 20),
   (4, 10, -14341729937924, 26), (5, -8, -40516996860117, 20), (8, -11, -12734301741641, 22), (8, -6, -17424871230634, 23),
   (21, -29, -68762131295531, 32), (23, -31, 14478307828521, 33), (29, -38, 26335781662795, 36), (30, -39, -11947622640071, 36),
   (31, -40, 18228094581404, 37), (32, -41, -93537087292458, 39)]
def ideal2 : List Row :=
  [(0, 0, -96927686500217, 13), (0, 1, 10086655968018, 12), (0, -5, -5608791128302, 15), (0, -4, 71452738081455, 15),
   (0, -3, -40710498223928, 14), (0, -2, 14240819171444, 13), (0, -1, -4383951131945, 12), (0, 2, -28408632460772, 14),
   (0, 3, 21268463753307, 15)]
def region2 : List Row :=
  [(1, 0, -17731742473213, 16), (1, 1, -17834862292358, 15), (1, 2, -45996013696365, 15), (1, 3, -57581259083432, 15),
   (1, 6, -5032527872793, 14), (2, 1, -33032641670203, 18), (2, 2, -18948987516315, 17), (2, 4, -39392777243355, 16),
   (2, 7, -43797295650573, 15), (2, 36, -26674547914087, 18), (3, 0, 20481737692309, 21), (3, 1, 43870667284435, 20),
   (3, 3, -3227767723857, 17), (3, 6, -15033924542148, 16), (3, 35, -40668253562649, 15), (4, 1, -78847309559367, 23),
   (4, 2, 12790717852285, 21), (4, 3, 48225372718507, 20), (5, 7, 22922076337661, 19), (6, 3, -16714766451061, 24),
   (6, 16, -21171472321355, 16), (6, 35, -23895741934104, 12), (7, 0, -5905956432427, 30), (7, 11, -12621808899101, 19),
   (7, 25, -38946842435739, 15), (8, 8, 11256211360459, 24), (8, 36, -82311340897998, 13), (9, 13, 19809712802088, 21),
   (10, 4, 10406965210174, 32), (10, 10, -10234747095929, 26), (10, 14, -10018179379511, 22), (16, 29, -80882908646985, 24),
   (16, 50, 10693031879409, 14), (18, 57, -33662250574171, 14), (20, 20, 89185845355421, 38), (20, 35, 30629316876232, 26),
   (20, 48, -42002467698208, 19), (21, 21, -59056029685639, 39), (22, 53, 37826947613457, 19), (23, 39, -12768608934681, 28),
   (24, 26, 73087610595061, 42), (24, 40, 55414715350778, 30), (24, 58, -9436970724121, 19)]
def ideal5 : List Row :=
  [(0, 0, -13179983674201, 12), (0, 1, 68540841634434, 13), (0, -3, -24805148933466, 15), (0, -2, 36901534980333, 14),
   (0, -1, -31161318213925, 13), (0, 2, -32961626538917, 14)]
def region5 : List Row :=
  [(1, 1, 15736404855259, 16), (1, 2, 90153761673944, 17), (1, 3, -50270077677648, 16), (2, 3, 22440037409485, 19),
   (2, 9, -41163275453471, 19), (3, 7, 37919454822955, 21)]

/-- Σ n · d(I, J) over the rows. -/
def rowSum (l : List Row) (d : Int → Int → Int) : Int := (l.map fun r => mul (dec r.2.2.1 r.2.2.2) (d r.1 r.2.1)).sum

/-- R of water in kJ/(kg K). -/
def rWater : Int := dec 461526 6

/-- ∂/∂x of xⁱ yʲ and ∂/∂y of it. -/
def dx (x y i j : Int) : Int := if i = 0 then 0 else i * mul (zpow x (i - 1)) (zpow y j)
def dy (x y i j : Int) : Int := if j = 0 then 0 else j * mul (zpow x i) (zpow y (j - 1))

/-- Region 1: specific enthalpy in kJ/kg. -/
def h1 (p t : Int) : Int :=
  let a := dec 71 1 - div p (dec 1653 2); let b := div (ofInt 1386) t - dec 1222 3
  mul (1386 * rWater) (rowSum region1 (dy a b))

/-- Region 2: density in kg/m³ and specific enthalpy. -/
def rho2 (p t : Int) : Int :=
  let b := div (ofInt 540) t - dec 5 1
  div (1000 * one) (mul (mul rWater t) (div one p + rowSum region2 (dx p b)))
def h2 (p t : Int) : Int :=
  let tau := div (ofInt 540) t
  mul (540 * rWater) (rowSum ideal2 (dy one tau) + rowSum region2 (dy p (tau - dec 5 1)))

/-- Region 5. -/
def rho5 (p t : Int) : Int :=
  let tau := div (ofInt 1000) t
  div (1000 * one) (mul (mul rWater t) (div one p + rowSum region5 (dx p tau)))
def h5 (p t : Int) : Int :=
  let tau := div (ofInt 1000) t
  mul (1000 * rWater) (rowSum ideal5 (dy one tau) + rowSum region5 (dy p tau))

/-- Region 4: the coefficients n₁ to n₁₀. -/
def region4 : List (Int × Nat) :=
  [(11670521452767, 10), (-72421316703206, 8), (-17073846940092, 12), (1202082470247, 8), (-32325550322333, 7), (1491510861353, 11), (-48232657361591, 10), (40511340542057, 8), (-23855557567849, 14), (65017534844798, 11)]
def satN (k : Nat) : Int := match region4[k - 1]? with | some r => dec r.1 r.2 | none => 0

/-- Saturation pressure at a temperature, and temperature at a pressure. -/
def pSat (t : Int) : Int :=
  let th := t + div (satN 9) (t - satN 10)
  let th2 := mul th th
  let a := th2 + mul (satN 1) th + satN 2
  let b := mul (satN 3) th2 + mul (satN 4) th + satN 5
  let c := mul (satN 6) th2 + mul (satN 7) th + satN 8
  pow (div (2 * c) (sqrt (mul b b - 4 * mul a c) - b)) 4
def tSat (p : Int) : Int :=
  let b := sqrt (sqrt p); let b2 := mul b b
  let e := b2 + mul (satN 3) b + satN 6
  let f := mul (satN 1) b2 + mul (satN 4) b + satN 7
  let g := mul (satN 2) b2 + mul (satN 5) b + satN 8
  let d := div (2 * g) (-f - sqrt (mul f f - 4 * mul e g))
  let m := satN 10 + d
  (m - sqrt (mul m m - 4 * (satN 9 + mul (satN 10) d))) / 2

/-- The boundary between regions 2 and 3. -/
def pB23 (t : Int) : Int := dec 34805185628969 11 - mul (dec 11671859879975 13) t + mul (dec 10192970039326 16) (mul t t)

def kelvin (c : Int) : Int := c + dec 27315 2
def mega (p : Int) : Int := p / 1000000

/-- R374, R382: may superheated steam be in a state: region 2 or 5, or no more than 2 K below the saturation temperature? -/
def steamOk (p t : Int) : Bool :=
  let top := dec 165291642526 10
  if p ≤ 0 then false
  else if t ≤ dec 62315 2 then decide (dec 27315 2 ≤ t) && decide (p ≤ top) && decide (tSat p - ofInt 2 ≤ t)
  else if t ≤ dec 86315 2 then decide (p ≤ pB23 t)
  else if t ≤ dec 107315 2 then decide (p ≤ ofInt 100)
  else decide (t ≤ dec 227315 2) && decide (p ≤ ofInt 50)

/-! ### A state of the fluid -/

/-- What a block takes from the property model: density in kg/m³, specific heat difference in kJ/kg, dynamic viscosity in Pa s, and normal
volume per kg (AIR). -/
structure Props where
  rho : Int := 0
  h : Int := 0
  mu : Int := 0
  nv : Int := 0
deriving DecidableEq, Repr

/-- R374: which of P (bit 1) and T (bit 2) make a state invalid: `prop` the property model, P in Pa, T and dew point in °C. A range that P
leaves is P's, any other T's (log entry 185). -/
def stateBad (prop : Nat) (p t dew : Int) : Nat :=
  let m := mega p
  match prop with
  | 1 => if m ≤ 0 || ofInt 100 < m then 2 else if steamOk m (kelvin t) then 0 else if ofInt 22 < m then 2 else 4
  | 2 => if m < dec 611213 9 || dec 165291642526 10 < m then 2 else 0
  | 3 => (if m < dec 5 2 || ofInt 4 < m then 2 else 0) + (if t < ofInt (-20) || ofInt 80 < t || t < dew then 4 else 0)
  | _ => (if m < dec 1 1 || dec 25 1 < m then 2 else 0) + (if t < 0 || ofInt 150 < t then 4 else 0)

/-- Humid air (R383): p in Pa, t and dew point in °C. -/
def airProps (p t dew : Int) : Int × Int :=
  let ps := if 0 ≤ dew then 1000000 * pSat (kelvin dew) else Config.table 5 [dew]
  let xv := div ps p
  let m := mul (one - xv) (dec 289647 4) + mul xv (dec 1801528 5)
  let b := mul (mul (one - xv) (one - xv)) (Config.table 2 [t]) + 2 * mul (mul xv (one - xv)) (Config.table 3 [t]) + mul (mul xv xv) (Config.table 4 [t])
  let rt := mul (dec 8314462618 9) (kelvin t)
  let z := one + div (mul b p) rt
  (div (mul p m / 1000) (mul z rt), div (mul xv (dec 1801528 5)) m)

/-- The properties at a state: `hot` the heat reference in °C, `dew` the dew point (R382 to R384). -/
def propsAt (prop : Nat) (p t dew hot : Int) : Props :=
  let m := mega p; let k := kelvin t
  let mu := Config.table 1 [ofInt prop, p, t]
  match prop with
  | 1 => let href := h1 (dec 101325 6) (kelvin hot)
         if k ≤ dec 107315 2 then { rho := rho2 m k, h := h2 m k - href, mu := mu } else { rho := rho5 m k, h := h5 m k - href, mu := mu }
  | 2 => let ts := tSat m
         { rho := rho2 m ts, h := h2 m ts - h1 (dec 101325 6) (kelvin hot), mu := Config.table 1 [ofInt prop, p, ts] }
  | 3 => let (rho, w) := airProps p t dew
         { rho := rho, mu := mu, nv := div (one - w) (dec 12929 4) }
  | _ => { rho := mul (Config.table 6 [t]) (one + mul (Config.table 7 [t]) (m - one)), h := h1 m k - h1 m (kelvin hot), mu := mu }

/-! ### RTDs (R372) -/

/-- R(t) / R0 − r and its derivative. -/
def rtdF (t r : Int) : Int × Int :=
  let a := dec 39083 7; let b := dec (-5775) 10; let c := if t < 0 then dec (-4183) 15 else 0
  let t2 := mul t t; let t3 := mul t2 t
  (one + mul a t + mul b t2 + mul c (mul (t - ofInt 100) t3) - r, a + 2 * mul b t + mul c (4 * t3 - 300 * t2))

/-- Newton's iteration for the temperature in °C at a ratio r = R / R0; each step is far below 10 µK by the tenth. -/
def rtdIter (r : Int) : Nat → Int → Int
  | 0, t => t
  | n + 1, t => let f := rtdF t r; rtdIter r n (t - div f.1 f.2)
def rtdTemp (r : Int) : Int := rtdIter r 10 (div (r - one) (dec 385 5))

/-! ### Primary devices (R378 to R380) -/

/-- R379: the discharge coefficient, with `x` = 10⁶ / Re_D (0 for an infinite one), β and D in m. -/
def discharge (prim : Nat) (beta dm x : Int) : Int :=
  let b4 := pow beta 4
  match prim with
  | 4 => dec 9900 4 - mul (dec 2262 4) (rpow beta (dec 41 1))
      - mul (mul (dec 175 5) (mul beta beta) - mul (dec 33 4) (rpow beta (dec 415 2))) (rpow x (dec 115 2))
  | 5 => dec 9965 4 - mul (mul (dec 653 5) (sqrt beta)) (sqrt x)
  | 6 => dec 9858 4 - mul (dec 196 3) (rpow beta (dec 45 1))
  | 7 => dec 995 3
  | 8 => dec 984 3
  | 9 => dec 985 3
  | k =>
    -- tapping spacings: 1 flange, 2 corner, 3 D and D/2
    let inch := div (dec 254 4) dm
    let l1 := if k = 1 then inch else if k = 3 then one else 0
    let l2 := if k = 1 then inch else if k = 3 then dec 47 2 else 0
    let a := rpow (mul (mul beta x) (dec 19 3)) (dec 8 1)
    let m := div (2 * l2) (one - beta)
    let small := if dm < dec 7112 5 then mul (mul (dec 11 3) (dec 75 2 - beta)) (dec 28 1 - div dm (dec 254 4)) else 0
    dec 5961 4 + mul (dec 261 4) (mul beta beta) - mul (dec 216 3) (pow beta 8)
      + mul (dec 521 6) (rpow (mul beta x) (dec 7 1))
      + mul (dec 188 4 + mul (dec 63 4) a) (mul (rpow beta (dec 35 1)) (rpow x (dec 3 1)))
      + mul (mul (dec 43 3 + mul (dec 80 3) (exp (-10 * l1)) - mul (dec 123 3) (exp (-7 * l1))) (one - mul (dec 11 2) a)) (div b4 (one - b4))
      - mul (mul (dec 31 3) (m - mul (dec 8 1) (rpow m (dec 11 1)))) (rpow beta (dec 13 1)) + small

/-- R378: ε: 1 for water; for gases from τ = p₂ / p₁ and κ. -/
def expansibility (prim : Nat) (gas : Bool) (beta tau kappa : Int) : Int :=
  if !gas then one
  else
    let b4 := pow beta 4
    if prim ≤ 3 then
      one - mul (dec 351 3 + mul (dec 256 3) b4 + mul (dec 93 2) (pow beta 8)) (one - rpow tau (div one kappa))
    else
      let t2 := rpow tau (div (2 * one) kappa)
      sqrt (mul (mul (div (mul kappa t2) (kappa - one)) (div (one - b4) (one - mul b4 t2)))
        (div (one - rpow tau (div (kappa - one) kappa)) (one - tau)))

/-- Of R378: q_m / C. -/
def flowBase (beta eps d rho s : Int) : Int :=
  div (mul (mul eps (mul (div pi (4 * one)) (mul d d))) (mul (sqrt (2 * rho)) s)) (sqrt (one - pow beta 4))

/-- 10⁶ / Re_D, with Re_D = 4 q_m / (π μ D). -/
def invRe (qm mu dm : Int) : Int := div (1000000 * mul pi (mul mu dm)) (4 * qm)

/-- R380: C repeats until it changes by less than 10⁻⁸, at most `n` passes. -/
def converge (prim : Nat) (beta dm mu base : Int) : Nat → Int → Int
  | 0, c => c
  | n + 1, c =>
    let c' := discharge prim beta dm (invRe (mul c base) mu dm)
    if (c' - c).natAbs < (dec 1 8).toNat then c' else converge prim beta dm mu base n c'

end Sys2Proof.Fluid
end

