-- ==== Sys2Proof/Machine/Mailbox.lean ====
section
/-!
DEFINITION. Machine/Mailbox.lean: mailbox channels, doorbells and the descriptor path (R189 to R206), and the engines'
interrupts that a doorbell raises (R199, R227).
-/
namespace Sys2Proof.Machine

/-! ### Engine cores -/

def State.core (s : State) (n : Nat) : Engine := tabGet {} s.eng.core n
def State.setCore (s : State) (n : Nat) (e : Engine) : State := { s with eng := { s.eng with core := tabSet s.eng.core n e } }

/-- R82: an interrupt, doorbell or deadline event for an engine of an idle C-die cluster ends the cluster's Idle. -/
def State.endIdle (s : State) (n : Nat) : State :=
  if 128 ≤ n then s
  else
    let s := s.put Fld.PWR_STATE__CLUSTER_IDLE 0 (putBits (s.get Fld.PWR_STATE__CLUSTER_IDLE 0) (n / 8) 1 0)
    if s.pwr = 1 then s.put Fld.PWR_STATE__STATE 0 0 else s

/-- R227: interrupt `code` of an engine becomes pending; an enabled one ends WFI, and the cluster's Idle ends. -/
def State.engIrq (s : State) (n code : Nat) : State :=
  let e := s.core n
  let mip := BitVec.ofNat 32 (putBits e.mip.toNat code 1 1)
  let woken := e.wfi && bitAt e.mie.toNat code
  (s.setCore n { e with mip := mip, wfi := if woken then false else e.wfi }).endIdle n

/-! ### Channels (R189) -/

def State.chan (s : State) (c : Chan) : Mbx := tabGet {} s.mbx c
def State.setChan (s : State) (c : Chan) (m : Mbx) : State := { s with mbx := tabSet s.mbx c m }

/-- R272: the engine that serves an engine's channel slots, and the slots that an engine's code reaches as its own. -/
def State.serving (s : State) (n : Nat) : Nat := tabGet n s.eng.stand n
def State.slotOf (s : State) (n : Nat) : Nat := match s.eng.stand.find? (·.2 == n) with | some x => x.1 | none => n

/-- R190, R229: the channel belongs to an engine outside the application partition. -/
def State.chanClosed (s : State) : Chan → Bool
  | .hostEng _ n | .engHost _ n => !s.cfg.appClusters.contains (n / 8)
  | _ => false

/-- R203: is the die that holds the channel off? -/
def State.chanOff (s : State) (c : Chan) : Bool :=
  match c with
  | .hostFirn _ d | .firnHost _ d | .fwFirn d | .firnFw d => (s.firnOff d).isSome
  | .hostSerac _ | .seracHost _ | .fwSerac | .seracFw => !(s.dieRuns .ddie && s.linkUp .driver)
  | _ => false

/-- R199: the receiver's notification. -/
def State.notifyEnd (s : State) (c : Chan) : State :=
  match c.receiver with
  | .host p => if bitAt (s.chan c).cfg.toNat 31 then s.sendMsix p (bitsAt (s.chan c).cfg.toNat 0 6) else s
  | .engine n => s.engIrq (s.serving n) 17
  | _ => s

/-- R197 to R199: set doorbell bits; a bit going from 0 to 1 unmasked notifies. -/
def State.ringDb (s : State) (c : Chan) (bits : W32) : State :=
  let m := s.chan c
  let fresh := bits &&& ~~~m.db &&& ~~~m.mask
  let s := s.setChan c { m with db := m.db ||| bits }
  if fresh = 0 then s else s.notifyEnd c

def State.mbxErr (s : State) (e : MbxEnd) (f : Fld) : State := match e.errIdx with | some i => s.put f i 1 | none => s

/-- R192: post a message in a FREE channel under the next sequence number; beyond its length the payload holds what the sender wrote. -/
def State.postMsg (s : State) (c : Chan) (bytes : List Byte) : State :=
  let m := s.chan c
  let seq := if m.seq = 65535 then 1 else m.seq + 1
  let full := bytes ++ (padTo 256 m.draft).drop bytes.length
  (s.setChan c { m with posted := true, seq := seq, len := bytes.length, payload := full, draft := full }).ringDb c 1

/-- R201: the descriptor whose reply a message on the reverse channel with this REPLY_TO is. -/
def State.waitFor (s : State) (c : Chan) (replyTo : Nat) : Option MsgWait :=
  if replyTo = 0 then none else s.waits.find? (fun w => w.chan.reverse == c && w.seq == replyTo)

/-- A message arrives on a channel towards a host: the reply of a waiting descriptor (R201), a late reply (R202), or a
message the channel posts; one that finds the channel POSTED waits for it, and so does one of a Firn die whose link is down (R114). -/
def State.arrive (s : State) (c : Chan) (bytes : List Byte) : State :=
  let rt := leNat (bytes.take 2)
  if s.chanOff c then (match c with | .seracHost _ | .seracFw => s | _ => { s with mbxQueue := s.mbxQueue ++ [(c, bytes)] })
  else match s.waitFor c rt with
  | some w =>
    let s := { s with waits := s.waits.erase w }
    let s := if bytes.isEmpty then s else s.emit (.dma w.t.port w.bufAddr (bytes.take w.bufLen))
    s.complete { t := w.t, status := stDone, result := bytes.length }
  | none =>
    if s.lateSeqs.contains (c, rt) then
      let s := { s with lateSeqs := s.lateSeqs.erase (c, rt) }
      match c.receiver with
      | .host p => s.bump Fld.MBX_ERR__LATE p.num 1
      | _ => s
    else if (s.chan c).posted then { s with mbxQueue := s.mbxQueue ++ [(c, bytes)] }
    else s.postMsg c bytes

/-- A channel has become FREE: what waits for it is posted, descriptor requests (R200) and held messages in order. -/
def State.chanFree (s : State) (c : Chan) : State :=
  match s.msgQueue.find? (fun q => q.1.chan == c) with
  | some q =>
    let s := { s with msgQueue := s.msgQueue.erase q }
    let s := s.postMsg c q.2
    { s with waits := s.waits ++ [{ q.1 with seq := (s.chan c).seq }] }
  | none => s.mbxQueue.foldl (fun s q =>
      if q.1 = c && !(s.chan c).posted then ({ s with mbxQueue := s.mbxQueue.erase q } : State).arrive c q.2 else s) s

/-- R227: the mailbox interrupt of a receiving engine is pending no more once no unmasked doorbell of its channels is set. -/
def State.calmIrq (s : State) (c : Chan) : State :=
  match c.receiver with
  | .engine n =>
    if [Chan.fwEng n, .hostEng .h0 n, .hostEng .h1 n].any (fun c => (s.chan c).db &&& ~~~(s.chan c).mask ≠ 0) then s
    else
      let n := s.serving n
      s.setCore n { s.core n with mip := BitVec.ofNat 32 (putBits (s.core n).mip.toNat 17 1 0) }
  | _ => s

/-- R192, R197: the receiver clears doorbell bits; clearing bit 0 frees the channel and marks its request as taken. -/
def State.clearDb (s : State) (c : Chan) (bits : W32) : State :=
  let m := s.chan c
  let frees := bitAt bits.toNat 0 && m.posted
  let s := (s.setChan c { m with db := m.db &&& ~~~bits, posted := if frees then false else m.posted }).calmIrq c
  if frees then
    let s := { s with waits := s.waits.map (fun (w : MsgWait) => if w.chan == c && w.seq == m.seq then { w with taken := true } else w) }
    s.chanFree c
  else s

/-- R193: is a message length refused? -/
def badLen (n : Nat) : Bool := n % 4 != 0 || decide (n < 4) || decide (256 < n)

/-- MBX_SEND (R190, R192 to R194, R203): the sender posts its payload; `payload` is what an inner end has written, what a host or an
engine has written stands in the slot. -/
def State.mbxSend (s : State) (e : MbxEnd) (c : Chan) (len : Nat) (payload : Option (List Byte)) : State :=
  if (s.chan c).posted then s.mbxErr e Fld.MBX_ERR__BUSY
  else if badLen len then s.mbxErr e Fld.MBX_ERR__BAD_LEN
  else
    let bytes := padTo len (payload.getD (s.chan c).draft)
    match c.receiver with
    | .host _ => s.arrive c bytes
    | _ => s.postMsg c bytes

/-- Is `e` the end that a channel names, or the engine that serves its slots (R272)? -/
def State.endIs (s : State) (e owner : MbxEnd) : Bool := e == owner || (match e with | .engine m => .engine (s.slotOf m) == owner | _ => false)

/-- An access of an end to a channel slot (R190, R203): closed channels ignore it, a foreign one sets FOREIGN, one to a die
that is off fails at the crossing with its offset. -/
def State.mbxAccess (s : State) (e owner : MbxEnd) (c : Chan) (off : Nat) (k : State → State) : State :=
  if s.chanClosed c then s
  else if !s.endIs e owner then s.mbxErr e Fld.MBX_ERR__FOREIGN
  else if s.chanOff c then (match e with | .host p => s.crossingFailed p.num c.xid (c.slot.getD 0 + off) true | _ => s)
  else k s

/-- R87: a host's access to a clock-gated block in Sleep is a wake source (log entry 174: every block but SYS, PWR and CLK, RST and BOOT is
gated). -/
def State.touched (s : State) (host : Bool) (a : Nat) : State :=
  if host && s.pwr == 2 && decide (0x40000 ≤ a) then s.wakeSource 12 else s

/-- R11, R119, R129, R203: a host reaches a channel's slot as any register: nothing while the C-die is stopped or the unit is absent,
DOMAIN_OFF before stage 0xB. An inner end reaches its own. -/
def State.mbxReach (s : State) (e : MbxEnd) (c : Chan) (off : Nat) (k : State → State) : State :=
  let absent := match c with
    | .hostFirn _ .f1 | .firnHost _ .f1 | .fwFirn .f1 | .firnFw .f1 => !s.variant.hasF1
    | .hostSerac _ | .seracHost _ | .fwSerac | .seracFw => !s.variant.hasDdie
    | _ => false
  if absent then s
  else match e with
  | .host p =>
    let a := c.slot.getD 0 + off
    if !s.dieRuns .cdie then s else if s.stage ≠ 0xB then s.crossingFailed p.num c.xid a true else k (s.touched true a)
  | _ => k s

/-- R199: a new mask; unmasking a set bit notifies. -/
def State.mbxMask (s : State) (c : Chan) (v : W32) : State :=
  let m := s.chan c
  let s := s.setChan c { m with mask := v }
  if m.mask &&& ~~~v &&& m.db = 0 then s.calmIrq c else s.notifyEnd c

/-- MBX_SEND. `clearNow`: the receiver's clear of bit 0 arrives in the same cycle and takes effect first (R194). -/
def execMbxSend (e : MbxEnd) (c : Chan) (len : Nat) (payload : Option (List Byte)) (clearNow : Bool) (s : State) : Res :=
  .next (s.mbxReach e c 4 fun s => s.mbxAccess e c.sender c 4 fun s => (if clearNow then s.clearDb c 1 else s).mbxSend e c len payload)

/-- MBX_DB_SET (R190, R197, R198): bit 0 is set only by MBX_SEND. -/
def execMbxDbSet (e : MbxEnd) (c : Chan) (v : W32) (s : State) : Res :=
  .next (s.mbxReach e c 8 fun s => s.mbxAccess e c.sender c 8 fun s => s.ringDb c (v &&& 0xFFFFFFFE))

/-- MBX_DB_CLEAR (R190, R192, R197): bits set in the same cycle (`setNow`) stay set (R24). -/
def execMbxDbClear (e : MbxEnd) (c : Chan) (v setNow : W32) (s : State) : Res :=
  .next (s.mbxReach e c 0xC fun s => s.mbxAccess e c.receiver c 0xC fun s => s.clearDb c (v &&& ~~~setNow))

/-- MBX_DB_MASK_WRITE (R190, R199). -/
def execMbxDbMaskWrite (e : MbxEnd) (c : Chan) (v : W32) (s : State) : Res :=
  .next (s.mbxReach e c 0x10 fun s => s.mbxAccess e c.receiver c 0x10 fun s => s.mbxMask c v)

/-- The word a channel slot shows at an offset (R205); its sender (`own`) sees what it has written. -/
def State.slotRead (s : State) (c : Chan) (own : Bool) (off : Nat) : W32 :=
  let m := s.chan c
  match off with
  | 0x00 => BitVec.ofNat 32 (m.seq * 65536 + m.len)
  | 0x04 => BitVec.ofNat 32 (b2n m.posted * 512)
  | 0x08 => m.db &&& 0xFFFFFFFE
  | 0x0C => m.db
  | 0x10 => m.mask
  | 0x14 => (match c.receiver with | .host _ => m.cfg | _ => 0)
  | o => if 0x100 ≤ o && o < 0x200 then BitVec.ofNat 32 (field (padTo 256 (if own then m.draft else m.payload)) (o - 0x100) 4) else 0

/-- A write of a word to a channel slot by one of its ends (R190, R193, R205): the payload while the channel is FREE, and
the registers that act. Elsewhere a write does nothing but be foreign. -/
def State.slotWrite (s : State) (e : MbxEnd) (c : Chan) (off : Nat) (v : W32) : State :=
  match off with
  | 0x04 => s.mbxAccess e c.sender c off fun s => s.mbxSend e c (bitsAt v.toNat 0 9) none
  | 0x08 => s.mbxAccess e c.sender c off fun s => s.ringDb c (v &&& 0xFFFFFFFE)
  | 0x0C => s.mbxAccess e c.receiver c off fun s => s.clearDb c v
  | 0x10 => s.mbxAccess e c.receiver c off fun s => s.mbxMask c v
  | 0x14 => s.mbxAccess e c.receiver c off fun s => (match c.receiver with
      | .host _ => s.setChan c { s.chan c with cfg := v &&& 0x8000003F }
      | _ => s)
  | o =>
    if 0x100 ≤ o && o < 0x200 then s.mbxAccess e c.sender c off fun s =>
      if (s.chan c).posted then s.mbxErr e Fld.MBX_ERR__BUSY
      else
        let m := s.chan c
        let p := padTo 256 m.draft
        let p := p.take (o - 0x100) ++ leBytes 4 v.toNat ++ p.drop (o - 0x100 + 4)
        s.setChan c { m with draft := p, payload := match c.receiver with | .host _ => m.payload | _ => p }
    else s.mbxAccess e (if s.endIs e c.receiver then c.receiver else c.sender) c off id

/-- R200: a descriptor sends a request: its length is checked, the first two bytes go as 0, and it waits for FREE. -/
def State.sendRequest (s : State) (t : Ticket) (d : Desc) (c : Chan) (rd : DmaRead) : State :=
  let len := DescF.par d 0 2
  if badLen len || DescF.bufLen d < len then s.fin t stBad 24
  else s.withRead t d rd fun b s =>
    let req := [0, 0] ++ ((b ++ List.replicate 256 0).take len).drop 2
    let w : MsgWait := { t := t, chan := c, seq := 0, taken := false, bufAddr := d.bufAddr.toNat, bufLen := DescF.bufLen d,
                         kind := leNat ((req.drop 2).take 2) }
    if (s.chan c).posted then { s with msgQueue := s.msgQueue ++ [(w, req)] }
    else
      let s := s.postMsg c req
      { s with waits := s.waits ++ [{ w with seq := (s.chan c).seq }] }

/-- FIRN_MSG (R200). -/
def execFirnMsg (d : Desc) (rd : DmaRead) (s : State) : Res :=
  .next (s.withDesc 0x40 d fun t s => s.sendRequest t d (.hostFirn d.port (if d.target.toNat = 0 then .f0 else .f1)) rd)

/-- SERAC_MSG (R200). -/
def execSeracMsg (d : Desc) (rd : DmaRead) (s : State) : Res :=
  .next (s.withDesc 0x48 d fun t s => s.sendRequest t d (.hostSerac d.port) rd)

/-- APP_MSG (R191, R200). -/
def execAppMsg (d : Desc) (rd : DmaRead) (s : State) : Res :=
  .next (s.withDesc 0x71 d fun t s => s.sendRequest t d (.hostEng d.port d.target.toNat) rd)

/-- MAILBOX_REPLY_TIMEOUT (R202): 1 s after posting the descriptor completes; a request still POSTED is withdrawn. -/
def execMailboxReplyTimeout (c : Chan) (seq : Nat) (s : State) : Res :=
  match s.waits.find? (fun w => w.chan == c && w.seq == seq) with
  | none => .next s
  | some w =>
    let s := { s with waits := s.waits.erase w }
    let m := s.chan c
    let still := m.posted && m.seq == seq
    let s := if still then ((s.setChan c { m with posted := false, db := m.db &&& 0xFFFFFFFE }).calmIrq c).chanFree c
      else { s with lateSeqs := s.lateSeqs ++ [(c.reverse, seq)] }
    .next (s.complete { t := w.t, status := stTimeout, result := c.xid })

/-- R203: the link of a channel is reset: a descriptor whose request was not taken completes with DOMAIN_OFF. -/
def State.linkLost (s : State) (p : Chan → Bool) : State :=
  let gone := s.waits.filter (fun w => p w.chan && !w.taken)
  let q := (s.msgQueue.filter (fun x => p x.1.chan)).map (·.1)
  let s := { s with waits := s.waits.filter (fun w => !(p w.chan && !w.taken)),
                    msgQueue := s.msgQueue.filter (fun x => !p x.1.chan) }
  (gone ++ q).foldl (fun s w => s.complete { t := w.t, status := stDomainOff, result := w.chan.xid }) s

/-- R204: channels reset with the domain that holds them and with their link. -/
def State.resetChans (s : State) (p : Chan → Bool) : State :=
  { s with mbx := s.mbx.filter (fun kv => !p kv.1), mbxQueue := s.mbxQueue.filter (fun kv => !p kv.1),
           lateSeqs := s.lateSeqs.filter (fun kv => !p kv.1) }

/-- The channels of a Firn die are reset with its link. A die that runs on keeps the replies that nobody has taken, to send them again
(R114), and the sequence numbers of late ones (R202). -/
def State.resetFirnChans (s : State) (d : Firn) : State :=
  let late := s.lateSeqs
  let kept := [Chan.firnHost .h0 d, .firnHost .h1 d, .firnFw d].flatMap fun c =>
    let m := s.chan c
    (if m.posted then [(c, m.payload.take m.len)] else []) ++ s.mbxQueue.filter (·.1 == c)
  let s := s.resetChans (Chan.ofFirn d)
  if s.dieRuns d.die then { s with mbxQueue := s.mbxQueue ++ kept, lateSeqs := late } else s

/-- A Firn supervisor or Serac takes the request its channel holds and answers it: the channel becomes FREE, and the reply
goes with REPLY_TO set to the request's sequence number (R195, R201). -/
def State.answer (s : State) (c : Chan) (bytes : List Byte) : State :=
  let m := s.chan c
  let s := s.clearDb c 1
  s.arrive c.reverse (leBytes 2 m.seq ++ bytes.drop 2)

end Sys2Proof.Machine
end

