-- ==== Sys2Proof/Machine/Engine.lean ====
section
/-!
DEFINITION. Machine/Engine.lean: engine cores: protection, loads and stores, reservations, fences, and Xbarlux (R208 to R242).
-/
namespace Sys2Proof.Machine

/-! ### Numbers of an engine -/

/-- The die of an engine: 0 C-die, 1 F0, 2 F1 (R34). -/
def engDie (n : Nat) : Nat := if n < 128 then 0 else n / 64 - 1

/-- R44, R275: the register field and index that show a fact of an engine: its page, or its row of a Firn window. -/
def engFld (f : Fld) (n : Nat) : Fld :=
  if n < 128 then f
  else { f with reg := match f.reg with
    | .ENG_STATE => .FENG_STATE
    | .ENG_HEALTH => .FENG_HEALTH
    | .ENG_DLMISS => .FENG_DLMISS
    | r => r }
def engIdx (n : Nat) : Nat := if n < 128 then n else n - 128
def State.engGet (s : State) (f : Fld) (n : Nat) : Nat := s.get (engFld f n) (engIdx n)
def State.engPut (s : State) (f : Fld) (n v : Nat) : State := s.put (engFld f n) (engIdx n) v
def State.engBump (s : State) (f : Fld) (n : Nat) : State := s.bump (engFld f n) (engIdx n) 1

/-- R254: ENG_STATE.STATE codes. -/
def eHalted : Nat := 0
def eActive : Nat := 1
def eSpare : Nat := 2
def eProbation : Nat := 3
def eRetired : Nat := 4
def eLoading : Nat := 5

/-- FCOUNT of an engine's die (R237). -/
def State.fcount (s : State) (n : Nat) : Nat := tabGet 0 s.eng.fc (engDie n)
def State.fcountBoundary (s : State) (n : Nat) : Nat := tabGet 0 s.eng.fcBoundary (engDie n)
def State.setFcount (s : State) (die v : Nat) : State := { s with eng := { s.eng with fc := tabSet s.eng.fc die v } }

/-- A control-cycle boundary of a die (R237): 325,440 counts after the one before, and `adj` more; xblcyb takes FCOUNT. -/
def State.cycleFcount (s : State) (die : Nat) (adj : Int) : State :=
  let b := ((tabGet 0 s.eng.fcBoundary die + 325440 : Nat) + adj).toNat
  let fc := max b (tabGet 0 s.eng.fc die)
  { s with eng := { s.eng with fc := tabSet s.eng.fc die fc, fcBoundary := tabSet s.eng.fcBoundary die fc } }

/-! ### Registers of an engine; x0 reads 0 -/

def Engine.getX (e : Engine) (r : Nat) : W32 := if r = 0 then 0 else tabGet 0 e.x r
def Engine.setX (e : Engine) (r : Nat) (v : W32) : Engine := if r = 0 then e else { e with x := tabSet e.x r v }
def Engine.getF (e : Engine) (r : Nat) : W32 := tabGet 0 e.f r
def Engine.setF (e : Engine) (r : Nat) (v : W32) : Engine := { e with f := tabSet e.f r v }
def Engine.getAcc (e : Engine) (a : Nat) : W72 := tabGet 0 e.acc a
def Engine.setAcc (e : Engine) (a : Nat) (v : W72) : Engine := { e with acc := tabSet e.acc a v }
def Engine.next (e : Engine) : Engine := { e with pc := e.pc + 4 }
/-- Past an instruction of `len` bytes. -/
def Engine.skip (e : Engine) (len : W32) : Engine := { e with pc := e.pc + len }
/-- Set sticky bits of xblstat (R242): 1 ASAT, 2 PSAT, 4 FDSAT, 8 DLMISS. -/
def Engine.orStat (e : Engine) (set : Bool) (bit : Nat) : Engine := if set then { e with stat := e.stat ||| bit } else e

/-- An engine takes instructions while its die runs and it neither waits nor is retired (R227, R258); a C-die engine while its clock is not
gated (R81, R84). -/
def State.engRuns (s : State) (n : Nat) : Bool :=
  (match engDie n with | 0 => s.dieRuns .cdie && decide (s.pwr ≤ 1) | 1 => s.dieRuns .f0 | _ => s.dieRuns .f1)
  && s.engGet Fld.ENG_STATE__STATE n != eRetired && !(s.core n).wfi && (s.core n).dlWait.isNone

/-- An exception (`cause`) or interrupt (bit 31 of the cause set) of an engine: trap entry to machine mode as the privileged
architecture defines it; a reservation is lost (R231). -/
def Engine.trap (e : Engine) (cause tval : W32) : Engine :=
  let mie := bitsAt e.mstatus.toNat 3 1
  let m := putBits (putBits (putBits e.mstatus.toNat 7 1 mie) 3 1 0) 11 2 (if e.mach then 3 else 0)
  let base := e.mtvec &&& 0xFFFFFFFC
  let vec := if bitAt cause.toNat 31 && e.mtvec &&& 3 = 1 then base + (cause &&& 0x7FFFFFFF) * 4 else base
  { e with mepc := e.pc, mcause := cause, mtval := tval, mstatus := BitVec.ofNat 32 m, mach := true, pc := vec, resv := none }

def State.trap (s : State) (n : Nat) (cause : Nat) (tval : W32) : State :=
  s.setCore n ((s.core n).trap (BitVec.ofNat 32 cause) tval)

/-- Run one instruction of engine `n`: nothing while it takes none; a pending enabled interrupt is taken first, the lowest
code first (R227). -/
def Engine.irqDue (e : Engine) : Option Nat :=
  if e.mach && !bitAt e.mstatus.toNat 3 then none
  else [3, 16, 17].find? (fun c => bitAt e.mip.toNat c && bitAt e.mie.toNat c)

def State.runs (s : State) (n : Nat) (k : Engine → State → State) : State :=
  if !s.engRuns n then s
  else match (s.core n).irqDue with
    | some c => s.trap n (2 ^ 31 + c) 0
    | none => k (s.core n) s

/-! ### Protection (R218 to R222) -/

/-- What an access does: a fetch, a load, a store or an atomic (the KIND codes of ENG_MPU_FAULT). -/
inductive AccKind where | fetch | load | store | atomic
deriving DecidableEq, Repr

def AccKind.code : AccKind → Nat | .fetch => 0 | .load => 1 | .store => 2 | .atomic => 3

/-- The MPU words of region `r` of an engine (R221, R222). -/
def State.mpuWords (s : State) (n r : Nat) : W32 × W32 :=
  if n < 128 then (s.reg .ENG_MPU_BASE (n * 16 + r), s.reg .ENG_MPU_LIMIT (n * 16 + r)) else tabGet (0, 0) (s.core n).mpu r

/-- Region `r` as its first and last byte and its permission bits (X 8, W 4, R 2), while it is enabled. -/
def State.mpuRegion (s : State) (n r : Nat) : Option (Nat × Nat × Nat) :=
  let b := (s.mpuWords n r).1.toNat / 32 * 32
  let l := (s.mpuWords n r).2.toNat
  if bitAt l 0 && decide (b ≤ l / 32 * 32) then some (b, l / 32 * 32 + 31, l % 16) else none

/-- The lowest-numbered enabled region that contains a byte (R219). -/
def State.mpuFind (s : State) (n a : Nat) : Option (Nat × Nat × Nat × Nat) :=
  (upTo 16).findSome? fun r => match s.mpuRegion n r with
    | some (b, l, p) => if b ≤ a && a ≤ l then some (r, b, l, p) else none
    | none => none

/-- How an access of `len` bytes at `a` is refused: the region checked, and whether it is a BOUNDARY_FAULT; none: allowed. The spec does not
say what an atomic is checked for: it needs R and W (log entry 178). -/
def State.mpuRefusal (s : State) (n a len : Nat) (k : AccKind) : Option (Option Nat × Bool) :=
  match s.mpuFind n a with
  | none => some (none, true)
  | some (r, _, l, p) =>
    if l < a + len - 1 then some (some r, true)
    else
      let ok := match k with
        | .fetch => bitAt p 3 | .load => bitAt p 1 | .store => bitAt p 2 | .atomic => bitAt p 1 && bitAt p 2
      if ok then none else some (some r, false)

/-- R220, ENG_MPU_FAULT: record a refusal of a C-die engine; the capture is the first since both sticky bits were clear. -/
def State.mpuRecord (s : State) (n a : Nat) (k : AccKind) (reg : Option Nat) (boundary : Bool) : State :=
  if 128 ≤ n then s
  else
    let had := s.flag Fld.ENG_MPU_FAULT__PROTECTION n || s.flag Fld.ENG_MPU_FAULT__BOUNDARY n
    let s := if had then s else
      ((((s.put Fld.ENG_MPU_FAULT__NONE n (b2n reg.isNone)).put Fld.ENG_MPU_FAULT__REGION n (reg.getD 0)).put
        Fld.ENG_MPU_FAULT__KIND n k.code).setReg .ENG_MPU_FAULT_ADDR n (BitVec.ofNat 32 a))
    if boundary then s.put Fld.ENG_MPU_FAULT__BOUNDARY n 1 else s.put Fld.ENG_MPU_FAULT__PROTECTION n 1

/-! ### The engine's view of memory (R207, R228 to R230) -/

/-- What an engine address names. -/
inductive Place where
  /-- plain memory, at this address of `State.mem`; `amo`: LR, SC and AMO reach it -/
  | mem (at_ : Nat) (amo : Bool)
  /-- the local I/O page, at this offset -/
  | io (off : Nat)
  | absent
deriving DecidableEq, Repr

/-- Where the memories stand in `State.mem`. -/
def privAddr (n off : Nat) : Nat := 0x100000000 + n * 0x20000 + off
def firnSpad (d off : Nat) : Nat := 0x180000000 + d * 0x200000 + off

/-- R228: the place of an address of engine `n`. -/
def place (n a : Nat) : Place :=
  if a < 0x10000 then .mem (privAddr n a) false
  else if a < 0x20000 then .mem (privAddr n a) true
  else if 0x30000 ≤ a && a < 0x30C00 then .io (a - 0x30000)
  else if 0x10000000 ≤ a && a < 0x10400000 && n < 128 then .mem a true
  else if 0x20000000 ≤ a && a < 0x20400000 && n < 128 then .mem a true
  else if 0x20000000 ≤ a && a < 0x20200000 then .mem (firnSpad (engDie n - 1) (a - 0x20000000)) true
  else if 0x80000000 ≤ a && a < 0x90000000 && n < 128 then .mem a false
  else .absent

/-- R229: the channel of a local I/O page slot. -/
def ioChan (n c : Nat) : Option Chan :=
  match c with
  | 0 => some (.engFw n) | 1 => some (.fwEng n) | 2 => some (.engHost .h0 n) | 3 => some (.hostEng .h0 n)
  | 4 => some (.engHost .h1 n) | 5 => some (.hostEng .h1 n) | _ => none

/-- The word at an offset of the I/O page, and a write of it (R205, R229). -/
def State.ioRead (s : State) (n off : Nat) : W32 :=
  match ioChan (s.slotOf n) (off / 512) with
  | some c => if s.chanClosed c then 0 else s.slotRead c (s.endIs (.engine n) c.sender) (off % 512)
  | none => 0
def State.ioWrite (s : State) (n off : Nat) (v : W32) : State :=
  match ioChan (s.slotOf n) (off / 512) with
  | some c => if s.chanClosed c then s else s.slotWrite (.engine n) c (off % 512) v
  | none => s

/-! ### Store buffer (R247) -/

/-- One buffered store reaches memory: a store to the engine's own instruction memory is seen by its fetch after FENCE.I
only (R226); a reservation of another engine in a granule it writes is lost (R231). -/
def granules (a len : Nat) : List Nat := [a / 32, (a + len - 1) / 32]

/-- Keep what fetch still sees of the bytes about to be written. -/
def State.keepFetch (s : State) (a len : Nat) : State :=
  let one (t : List (Nat × Byte)) (k : Nat) : List (Nat × Byte) :=
    if 0x100000000 ≤ k && k < 0x102000000 && k / 0x10000 % 2 = 0 && tabFind t k = none then tabSet t k (memRead s.mem k) else t
  { s with eng := { s.eng with imem := (upTo len).foldl (fun t i => one t (a + i)) s.eng.imem } }

def State.memStore (s : State) (n a : Nat) (bytes : List Byte) : State :=
  let s := (s.keepFetch a bytes.length).setMem (memWriteL s.mem a bytes)
  let hit (kv : Nat × Engine) : Nat × Engine :=
    if kv.1 ≠ n && (match kv.2.resv with | some g => (granules a bytes.length).contains g | none => false) then
      (kv.1, { kv.2 with resv := none }) else kv
  { s with eng := { s.eng with core := s.eng.core.map hit } }

/-- The scratchpad that holds an address: C0 to C15 as 0 to 15, F0.0 to F1.7 from 16 on. -/
def spadAt (a : Nat) : Option Nat :=
  if 0x20000000 ≤ a && a < 0x20400000 then some ((a - 0x20000000) / 0x40000)
  else if 0x180000000 ≤ a && a < 0x180400000 then some (16 + (a - 0x180000000) / 0x40000) else none

/-- The bank or DRAM channel that a store to an address goes to (R208, R216): stores to one of them drain in program order (R247). DRAM
counts as one channel (log entry 31). -/
def bankKey (a : Nat) : Nat × Nat :=
  match spadAt a with
  | some k => (1 + k, a / 4 % 8)
  | none => if 0x10000000 ≤ a && a < 0x10400000 then (40, a / 64 % 32) else if 0x80000000 ≤ a && a < 0x90000000 then (41, 0) else (0, 0)

/-- The positions of the buffered stores that are the first for their bank or channel: any of them may drain next (R247). -/
def drainable (sb : List (Nat × List Byte)) : List Nat :=
  (upTo sb.length).filter fun i =>
    let k := bankKey (sb.getD i (0, [])).1
    !(sb.take i).any fun x => bankKey x.1 == k

/-- One store of the buffer drains: the spec leaves open which of those that may (log entry 31). -/
def State.drainOne (s : State) (n : Nat) : State :=
  match (s.core n).sb with
  | [] => s
  | sb =>
    let (pick, s) := s.drawBelow (drainable sb).length
    let i := (drainable sb).getD pick 0
    let x := sb.getD i (0, [])
    (s.setCore n { s.core n with sb := sb.eraseIdx i }).memStore n x.1 x.2

/-- The whole store buffer empties; all of it is in memory then, so the order does not show. -/
def State.drainSb (s : State) (n : Nat) : State :=
  (s.core n).sb.foldl (fun s x => (s.setCore n { s.core n with sb := (s.core n).sb.drop 1 }).memStore n x.1 x.2) s

/-- A load's view of a byte: the youngest buffered store of the engine that writes it, else memory. -/
def Engine.forward (e : Engine) (m : List Host.Cell) (a : Nat) : Byte :=
  e.sb.foldl (fun b st => if st.1 ≤ a && a < st.1 + st.2.length then st.2.getD (a - st.1) b else b) (memRead m a)

def State.loadBytes (s : State) (n a len : Nat) : List Byte := (upTo len).map fun i => (s.core n).forward s.mem (a + i)

/-- The masters of a bank that come before `m`, or after it, when the pointer stands at `p` and all request in one cycle (R209). -/
def bankAhead (p m : Nat) (rivals : List Nat) : List Nat := (upTo 9).filter fun r => rivals.contains r && decide ((r + 9 - p) % 9 < (m + 9 - p) % 9)
def bankBehind (p m : Nat) (rivals : List Nat) : List Nat := (upTo 9).filter fun r => rivals.contains r && decide ((m + 9 - p) % 9 < (r + 9 - p) % 9)

/-- R210: a master's conflict counter. -/
def State.bankWait (s : State) (k m n : Nat) : State :=
  if n = 0 then s else if k < 16 then s.bump Fld.SPAD_CONF__WAITS (9 * k + m) n else s.bump Fld.FSPAD_CONF__WAITS (9 * (k - 16) + m) n

/-- R208 to R210: master `n` of the bank of a scratchpad word (8 for the fabric port) requests it in one cycle with the masters `rivals`: the
bank grants them round-robin from its pointer; each waits for those before it, and the pointer moves past the one granted. -/
def State.bankGrant (s : State) (n a : Nat) (rivals : List Nat) : State :=
  match spadAt a with
  | none => s
  | some k =>
    let m := if n / 8 = k then n % 8 else 8
    let b := 8 * k + a / 4 % 8
    let p := tabGet 0 s.eng.ptr b
    let ahead := bankAhead p m rivals
    let s := (ahead.zipIdx).foldl (fun s x => s.bankWait k x.1 x.2) s
    let s := (bankBehind p m rivals).foldl (fun s r => s.bankWait k r (ahead.length + 1)) (s.bankWait k m ahead.length)
    { s with eng := { s.eng with ptr := tabSet s.eng.ptr b ((m + 1) % 9) } }

/-- R212: the aligned accesses that one of `len` bytes is made as: in scratchpads and shared SRAM one for each word it touches. -/
def alignedParts (a len : Nat) : List (Nat × Nat) :=
  let fabric := (spadAt a).isSome || (decide (0x10000000 ≤ a) && decide (a < 0x10400000))
  let first := 4 - a % 4
  if fabric && decide (first < len) then [(a, first), (a + first, len - first)] else [(a, len)]

/-- The banks of consecutive accesses, each with its own rivals. -/
def State.bankAll (s : State) (n : Nat) (parts : List (Nat × Nat)) (rivals : List (List Nat)) : State :=
  parts.zipIdx.foldl (fun s x => s.bankGrant n x.1.1 (rivals.getD x.2 [])) s

/-! ### Loads and stores -/

def loadLen : LoadOp → Nat | .lb | .lbu => 1 | .lh | .lhu => 2 | .lw | .flw => 4
def loadValue (o : LoadOp) (b : List Byte) : W32 :=
  let n := leNat b
  match o with
  | .lb => BitVec.ofInt 32 (signedOf 8 n)
  | .lh => BitVec.ofInt 32 (signedOf 16 n)
  | _ => BitVec.ofNat 32 n
def storeLen : StoreOp → Nat | .sb => 1 | .sh => 2 | .sw | .fsw => 4

/-- The exception cause of a refused access (R220). -/
def AccKind.cause : AccKind → Nat | .fetch => 1 | .load => 5 | .store | .atomic => 7

/-- Check an access of `len` bytes at `a` and go on with its place; a refusal raises the exception at the first byte. -/
def State.checked (s : State) (n a len : Nat) (k : AccKind) (cause : Nat) (go : Place → State → State) : State :=
  match s.mpuRefusal n a len k with
  | some (r, b) => (s.mpuRecord n a k r b).trap n cause (BitVec.ofNat 32 a)
  | none =>
    let p := place n a
    match p with
    | .absent => s.trap n cause (BitVec.ofNat 32 a)
    | .io _ => if a % 4 + len ≤ 4 then go p s else s.trap n cause (BitVec.ofNat 32 a)
    | .mem _ _ => match place n (a + len - 1) with
      | .mem _ _ => go p s
      | _ => s.trap n cause (BitVec.ofNat 32 a)

def Engine.addr (e : Engine) (rs1 : Nat) (imm : W32) : Nat := (e.getX rs1 + imm).toNat

/-- One load of `len` instruction bytes (R212, R218 to R220, R228, R247); `rivals`: who requests the bank of each of its aligned accesses in
the same cycle. -/
def State.loadInstr (s : State) (n : Nat) (op : LoadOp) (rd rs1 : Nat) (imm : W32) (rivals : List (List Nat)) (len : W32) : State :=
  s.runs n fun e s =>
    let a := e.addr rs1 imm
    s.checked n a (loadLen op) .load 5 fun p s =>
      let r := match p with
        | .mem at_ _ => (s.loadBytes n at_ (loadLen op), s.bankAll n (alignedParts at_ (loadLen op)) rivals)
        | .io off => (((leBytes 4 (s.ioRead n (off / 4 * 4)).toNat).drop (off % 4)).take (loadLen op), s)
        | .absent => ([], s)
      let v := loadValue op r.1
      let e := r.2.core n
      r.2.setCore n (match op with | .flw => (e.setF rd v).skip len | _ => (e.setX rd v).skip len)

/-- LOAD (R219). -/
def execLoad (n : Nat) (op : LoadOp) (rd rs1 : Nat) (imm : W32) (rivals : List (List Nat)) (s : State) : Res :=
  .next (s.loadInstr n op rd rs1 imm rivals 4)

/-- A store enters the buffer; the oldest drains when the buffer is full (R247). -/
def State.bufferStore (s : State) (n a : Nat) (bytes : List Byte) : State :=
  let s := if 8 ≤ (s.core n).sb.length then s.drainOne n else s
  s.setCore n { s.core n with sb := (s.core n).sb ++ [(a, bytes)] }

/-- One store of `len` instruction bytes (R212, R218 to R220, R228, R247): each aligned access enters the store buffer. The I/O page is not
buffered; a store of less than a word there has no effect, and one that crosses a word faults (the spec is silent: log entry 179). -/
def State.storeInstr (s : State) (n : Nat) (op : StoreOp) (rs2 rs1 : Nat) (imm : W32) (rivals : List (List Nat)) (len : W32) : State :=
  s.runs n fun e s =>
    let a := e.addr rs1 imm
    let v := match op with | .fsw => e.getF rs2 | _ => e.getX rs2
    s.checked n a (storeLen op) .store 7 fun p s => match p with
      | .mem at_ _ =>
        let parts := alignedParts at_ (storeLen op)
        let bs := leBytes (storeLen op) v.toNat
        let s := parts.foldl (fun s x => s.bufferStore n x.1 ((bs.drop (x.1 - at_)).take x.2)) (s.bankAll n parts rivals)
        s.setCore n ((s.core n).skip len)
      | .io off =>
        let s := if (storeLen op) = 4 then s.ioWrite n off v else s
        s.setCore n ((s.core n).skip len)
      | .absent => s

/-- STORE (R219). -/
def execStore (n : Nat) (op : StoreOp) (rs2 rs1 : Nat) (imm : W32) (rivals : List (List Nat)) (s : State) : Res :=
  .next (s.storeInstr n op rs2 rs1 imm rivals 4)

/-! ### Reservations and atomics (R230, R231) -/

/-- An LR, SC or AMO: word-aligned, allowed, and to a memory that takes it. `lr`: LR counts as a load in KIND and cause (log entry 177). -/
def State.atomicAt (s : State) (n a : Nat) (lr : Bool) (go : Nat → State → State) : State :=
  if a % 4 ≠ 0 then s.trap n (if lr then 4 else 6) (BitVec.ofNat 32 a)
  else s.checked n a 4 (if lr then .load else .atomic) (if lr then 5 else 7) fun p s => match p with
    | .mem at_ true => go at_ s
    | _ => s.trap n 7 (BitVec.ofNat 32 a)

/-- LR (R231). -/
def execLr (n rd rs1 : Nat) (rivals : List (List Nat)) (s : State) : Res :=
  .next (s.runs n fun e s => s.atomicAt n (e.getX rs1).toNat true fun a s =>
    let s := (s.drainSb n).bankGrant n a (rivals.getD 0 [])
    let e := s.core n
    s.setCore n { (e.setX rd (BitVec.ofNat 32 (leNat (memReadL s.mem a 4)))).next with resv := some (a / 32) })

/-- SC (R231): succeeds, writing 0 to rd, while the reservation holds the granule; else rd takes 1 and nothing is written.
It ends the reservation. -/
def execSc (n rd rs2 rs1 : Nat) (rivals : List (List Nat)) (s : State) : Res :=
  .next (s.runs n fun e s => s.atomicAt n (e.getX rs1).toNat false fun a s =>
    let s := (s.drainSb n).bankGrant n a (rivals.getD 0 [])
    let ok := (s.core n).resv == some (a / 32)
    let s := if ok then s.memStore n a (leBytes 4 (e.getX rs2).toNat) else s
    s.setCore n { ((s.core n).setX rd (if ok then 0 else 1)).next with resv := none })

def amoVal (o : AmoOp) (x y : W32) : W32 :=
  match o with
  | .swap => y | .add => x + y | .xor => x ^^^ y | .and => x &&& y | .or => x ||| y
  | .min => if x.toInt ≤ y.toInt then x else y
  | .max => if x.toInt ≤ y.toInt then y else x
  | .minu => if x.toNat ≤ y.toNat then x else y
  | .maxu => if x.toNat ≤ y.toNat then y else x

/-- AMO (R231): performed at the bank, single-copy atomic; the engine's earlier stores are visible before it. -/
def execAmo (n : Nat) (op : AmoOp) (rd rs2 rs1 : Nat) (rivals : List (List Nat)) (s : State) : Res :=
  .next (s.runs n fun e s => s.atomicAt n (e.getX rs1).toNat false fun a s =>
    let s := (s.drainSb n).bankGrant n a (rivals.getD 0 [])
    let x : W32 := BitVec.ofNat 32 (leNat (memReadL s.mem a 4))
    let s := s.memStore n a (leBytes 4 (amoVal op x (e.getX rs2)).toNat)
    s.setCore n ((s.core n).setX rd x).next)

/-- RESERVATION_TIMEOUT (R231): 256 CLK_FAB cycles have passed since the LR. -/
def execReservationTimeout (n : Nat) (s : State) : Res := .next (s.setCore n { s.core n with resv := none })

/-! ### Fences, WFI and xblstat -/

/-- FENCE (R248): with w in the predecessor set it waits until the store buffer is empty; loads have returned already. -/
def execFence (n : Nat) (_predR predW : Bool) (s : State) : Res :=
  .next (s.runs n fun _ s =>
    let s := if predW then s.drainSb n else s
    s.setCore n (s.core n).next)

/-- The engine's instruction fetch sees its instruction memory as it stands (R226). -/
def State.syncFetch (s : State) (n : Nat) : State := { s with eng := { s.eng with imem := s.eng.imem.filter (fun kv => (kv.1 - 0x100000000) / 0x20000 ≠ n) } }

/-- FENCE.I (R226): empties the store buffer; fetch then sees the stores to the own instruction memory. -/
def execFenceI (n : Nat) (s : State) : Res :=
  .next (s.runs n fun _ s =>
    let s := (s.drainSb n).syncFetch n
    s.setCore n (s.core n).next)

/-- WFI (R227): the engine waits; with an enabled interrupt pending it goes on at once. -/
def execWfi (n : Nat) (s : State) : Res :=
  .next (s.runs n fun e s => s.setCore n { e.next with wfi := (e.mip &&& e.mie) = 0 })

/-- A write of xblstat (R242): a sticky bit written 0 is cleared. -/
def execXblstatWrite (n : Nat) (v : W32) (s : State) : Res :=
  .next (s.runs n fun e s => s.setCore n { e.next with stat := e.stat &&& (v.toNat % 16) })

/-- The value xblstat reads (R242). -/
def Engine.xblstat (e : Engine) : W32 := BitVec.ofNat 32 (e.stat % 16 + b2n e.dlArm * 256 + b2n e.dlie * 512)

/-! ### Accumulators (R232, R233) -/

/-- Add to an accumulator, saturating at 72 bits and setting ASAT. -/
def Engine.accAdd (e : Engine) (a : Nat) (z : Int) : Engine :=
  let sum := (e.getAcc a).toInt + z
  let c := clampS 72 sum
  (e.setAcc a (BitVec.ofInt 72 c)).orStat (c != sum) 1

def execMacs (n acc rs1 rs2 : Nat) (s : State) : Res :=
  .next (s.runs n fun e s => s.setCore n (e.accAdd acc ((e.getX rs1).toInt * (e.getX rs2).toInt)).next)
def execMacu (n acc rs1 rs2 : Nat) (s : State) : Res :=
  .next (s.runs n fun e s => s.setCore n (e.accAdd acc (((e.getX rs1).toNat * (e.getX rs2).toNat : Nat) : Int)).next)
def execMsus (n acc rs1 rs2 : Nat) (s : State) : Res :=
  .next (s.runs n fun e s => s.setCore n (e.accAdd acc (-((e.getX rs1).toInt * (e.getX rs2).toInt))).next)
def execMula (n acc rs1 rs2 : Nat) (s : State) : Res :=
  .next (s.runs n fun e s => s.setCore n (e.setAcc acc (BitVec.ofInt 72 ((e.getX rs1).toInt * (e.getX rs2).toInt))).next)
def execAclr (n acc : Nat) (s : State) : Res := .next (s.runs n fun e s => s.setCore n (e.setAcc acc 0).next)

/-- R233: shift right arithmetically, rounding half up, saturated to 32 bits. -/
def accShift (v : W72) (sh : Nat) : Int := if sh = 0 then v.toInt else (v.toInt + 2 ^ (sh - 1)) / 2 ^ sh
def Engine.accRead (e : Engine) (rd acc sh : Nat) : Engine :=
  let z := accShift (e.getAcc acc) sh
  let c := clampS 32 z
  (e.setX rd (BitVec.ofInt 32 c)).orStat (c != z) 1

def execArd (n rd acc imm : Nat) (s : State) : Res :=
  .next (s.runs n fun e s => s.setCore n (e.accRead rd acc (imm % 32)).next)
def execArdx (n rd acc imm : Nat) (s : State) : Res :=
  .next (s.runs n fun e s => s.setCore n (e.accRead rd acc (32 + imm % 32)).next)

/-- R241: a combination the table does not give is an illegal instruction (cause 2). -/
def State.illegal (s : State) (n : Nat) : State := s.trap n 2 0

/-- ARDR (R241): raw bits 31:0, 63:32, or 71:64 sign-extended. -/
def execArdr (n rd acc imm : Nat) (s : State) : Res :=
  .next (s.runs n fun e s =>
    let v := e.getAcc acc
    match imm with
    | 0 => s.setCore n (e.setX rd (BitVec.ofNat 32 v.toNat)).next
    | 1 => s.setCore n (e.setX rd (BitVec.ofNat 32 (v.toNat / 2 ^ 32))).next
    | 2 => s.setCore n (e.setX rd (BitVec.ofInt 32 (v.toInt / 2 ^ 64))).next
    | _ => s.illegal n)

/-- AWR (R241): acc[63:0] = rs2:rs1, acc[71:64] = sign of rs2. -/
def execAwr (n acc rs1 rs2 : Nat) (s : State) : Res :=
  .next (s.runs n fun e s => s.setCore n
    (e.setAcc acc (BitVec.ofInt 72 ((e.getX rs2).toInt * 2 ^ 32 + ((e.getX rs1).toNat : Int)))).next)
/-- AWRH (R241): acc[71:64] = rs1[7:0]. -/
def execAwrh (n acc rs1 : Nat) (s : State) : Res :=
  .next (s.runs n fun e s => s.setCore n
    (e.setAcc acc (BitVec.ofNat 72 (putBits (e.getAcc acc).toNat 64 8 (e.getX rs1).toNat))).next)

/-! ### Packed arithmetic (R234) -/

def loH (w : W32) : Int := signedOf 16 w.toNat
def hiH (w : W32) : Int := signedOf 16 (w.toNat / 65536)
def pack (hi lo : Int) : W32 := BitVec.ofNat 32 (bitsOf 16 hi * 65536 + bitsOf 16 lo)

/-- Apply an operation to both halves, saturating each and setting PSAT. -/
def Engine.packed (e : Engine) (rd : Nat) (f : Int → Int → Int) (x y : W32) : Engine :=
  let l := f (loH x) (loH y); let h := f (hiH x) (hiH y)
  (e.setX rd (pack (clampS 16 h) (clampS 16 l))).orStat (clampS 16 h != h || clampS 16 l != l) 2

def execPadd16 (n rd rs1 rs2 : Nat) (s : State) : Res :=
  .next (s.runs n fun e s => s.setCore n (e.packed rd (· + ·) (e.getX rs1) (e.getX rs2)).next)
def execPsub16 (n rd rs1 rs2 : Nat) (s : State) : Res :=
  .next (s.runs n fun e s => s.setCore n (e.packed rd (· - ·) (e.getX rs1) (e.getX rs2)).next)
def execPmulq15 (n rd rs1 rs2 : Nat) (s : State) : Res :=
  .next (s.runs n fun e s => s.setCore n (e.packed rd (fun a b => (a * b + 2 ^ 14) / 2 ^ 15) (e.getX rs1) (e.getX rs2)).next)
def execPmac16 (n acc rs1 rs2 : Nat) (s : State) : Res :=
  .next (s.runs n fun e s =>
    let x := e.getX rs1; let y := e.getX rs2
    s.setCore n (e.accAdd acc (loH x * loH y + hiH x * hiH y)).next)
def execPpack (n rd rs1 rs2 : Nat) (s : State) : Res :=
  .next (s.runs n fun e s => s.setCore n
    (e.setX rd (BitVec.ofNat 32 (bitsAt (e.getX rs2).toNat 0 16 * 65536 + bitsAt (e.getX rs1).toNat 0 16))).next)
/-- PSRA16 (R241): imm 0 to 15. -/
def execPsra16 (n rd rs1 imm : Nat) (s : State) : Res :=
  .next (s.runs n fun e s =>
    if 15 < imm then s.illegal n
    else s.setCore n (e.setX rd (pack (hiH (e.getX rs1) / 2 ^ imm) (loH (e.getX rs1) / 2 ^ imm))).next)

/-! ### Fractional-delay step (R235, R236) -/

/-- FDSTEP (R235, R236): a misaligned rs1 comes before a refused load, with rs1 as its trap value (log entry 180). -/
def execFdstep (n rd rs1 rs2 : Nat) (rivals : List (List Nat)) (s : State) : Res :=
  .next (s.runs n fun e s =>
    let a := (e.getX rs1 - 4).toNat
    if a % 4 ≠ 0 then s.trap n 4 (e.getX rs1)
    else s.checked n a 16 .load 5 fun p s => match p with
      | .mem at_ _ =>
        let w (i : Nat) : Int := signedOf 32 (leNat (s.loadBytes n (at_ + 4 * i) 4))
        let z := lagrangeRound (w 0) (w 1) (w 2) (w 3) ((e.getX rs2).toNat % 65536 : Nat)
        let c := clampS 32 z
        let s := s.bankAll n ((upTo 4).map fun i => (at_ + 4 * i, 4)) rivals
        s.setCore n (((s.core n).setX rd (BitVec.ofInt 32 c)).orStat (c != z) 4).next
      | _ => s.trap n 5 (BitVec.ofNat 32 a))

/-! ### Deadline timer (R237 to R240) -/

/-- Arm the deadline; arming and DLCLR end a pending interrupt 16 (log entry 181). -/
def Engine.arm (e : Engine) (dl : Nat) (dlie : Bool) : Engine :=
  { e with dlArm := true, dlie := dlie, deadline := dl % 2 ^ 64, mip := BitVec.ofNat 32 (putBits e.mip.toNat 16 1 0) }

/-- DLSET (R238): an absolute FCOUNT value; funct7 bit 6 is DLIE. -/
def execDlset (n rs1 rs2 : Nat) (dlie : Bool) (s : State) : Res :=
  .next (s.runs n fun e s => s.setCore n (e.arm ((e.getX rs2).toNat * 2 ^ 32 + (e.getX rs1).toNat) dlie).next)
/-- DLREL (R238): the previous deadline plus rs1 counts. -/
def execDlrel (n rs1 : Nat) (dlie : Bool) (s : State) : Res :=
  .next (s.runs n fun e s => s.setCore n (e.arm (e.deadline + (e.getX rs1).toNat) dlie).next)
/-- DLCLR (R238, R241). -/
def execDlclr (n : Nat) (s : State) : Res :=
  .next (s.runs n fun e s => s.setCore n { e.next with dlArm := false, dlie := false, mip := BitVec.ofNat 32 (putBits e.mip.toNat 16 1 0) })

/-- DLWAIT (R239, R240). -/
def execDlwait (n rd : Nat) (s : State) : Res :=
  .next (s.runs n fun e s =>
    if !e.dlArm then s.setCore n (e.setX rd 0).next
    else if e.deadline < s.fcount n then
      (s.setCore n ((e.setX rd (BitVec.ofNat 32 (min (s.fcount n - e.deadline) 0xFFFFFFFF))).orStat true 8).next).engBump
        Fld.ENG_DLMISS__MISS n
    else if e.deadline = s.fcount n then s.setCore n (e.setX rd 0).next
    else s.setCore n { e.next with dlWait := some rd })

/-- DEADLINE_EXPIRY (R238 to R240): FCOUNT reaches the armed deadline: DLWAIT ends with lateness 0, and with DLIE set
interrupt 16 is raised. -/
def execDeadlineExpiry (n : Nat) (s : State) : Res :=
  let e := s.core n
  if !e.dlArm then .next s
  else
    let s := if s.fcount n < e.deadline then s.setFcount (engDie n) e.deadline else s
    let s := (match e.dlWait with
      | some rd => s.setCore n { e.setX rd 0 with dlWait := none }
      | none => s)
    .next (if e.dlie then s.engIrq n 16 else s.endIdle n)

end Sys2Proof.Machine
end

