-- ==== Sys2Proof/Machine/Firn.lean ====
section
/-!
DEFINITION. Machine/Firn.lean: what the Firn die's parts share: the legal clock (R418), the Moraine log (R475 to R478), tamper
counts (R472, R473), standing halts (R53, R443), the unbilled-outage register (R440) and FIRN_MSG requests (R408).
-/
namespace Sys2Proof.Machine

def State.firn (s : State) (d : Firn) : FirnSt := match d with | .f0 => s.f0 | .f1 => s.f1
def State.setFirn (s : State) (d : Firn) (f : FirnSt) : State := match d with | .f0 => { s with f0 := f } | .f1 => { s with f1 := f }
def State.mp (s : State) (p : Nat) : MpSt := tabGet {} s.points p
def State.setMp (s : State) (p : Nat) (m : MpSt) : State := { s with points := tabSet s.points p m }
def State.pcfg (s : State) (p : Nat) : PointCfg := tabGet {} s.cfg.points p

/-- R46: firmware of the C-die receives what a Firn die sends. -/
def State.firnHeard (s : State) (d : Firn) : Bool := s.linkUp d.link && s.dieRuns .cdie && s.stage == 0xB

/-- An event of a Firn die for one port, or for both: it waits in the die while nothing receives it (R46, R114), and is a wake source
(R93). Those that wait merge (R748). -/
def State.firnPost (s : State) (d : Firn) (p : Option Port) (e : Event) : State :=
  let s := s.wakeSource (7 + d.num)
  let x := (e.sev, e.entry s.devTime 1)
  if s.firnHeard d then s.entryRoute d.source p x
  else
    let h := (s.firn d).held
    let h := if h.any (fun y => y.1 == p && mergesWith x y.2) then h.map fun y => if y.1 == p && mergesWith x y.2 then (p, mergeEv y.2 x) else y
      else h ++ [(p, x)]
    s.setFirn d { s.firn d with held := h }

/-- An event of a metering point, from its die to its owning port. -/
def State.postPt (s : State) (p : Nat) (e : Event) : State := s.firnPost (s.pcfg p).die (some (s.pointOwner p)) e

/-- R114: what a die could not send reaches the ports, in order. -/
def State.firnResend (s : State) (d : Firn) : State :=
  if !s.firnHeard d then s
  else
    let h := (s.firn d).held
    h.foldl (fun s x => s.entryRoute d.source x.1 x.2) (s.setFirn d { s.firn d with held := [] }) |> fun s =>
    [Chan.firnHost .h0 d, .firnHost .h1 d, .firnFw d].foldl (fun s c => if (s.chan c).posted then s else s.chanFree c) s

/-- R324: metering-point states, and the state of a point. -/
def mpIdle : Nat := 0
def mpArmed : Nat := 1
def mpMetering : Nat := 2
def mpFrozen : Nat := 3
def mpOos : Nat := 4
def State.mpState (s : State) (p : Nat) : Nat := s.get Fld.MP_STATE__STATE p
/-- A point changes its state: POINT_STATE (R747), to the port whose order started the session, otherwise to the owner (R174). -/
def State.setMpState (s : State) (p v : Nat) : State :=
  let old := s.mpState p
  if old = v then s
  else
    let dest := (s.mp p).port.getD (s.pointOwner p)
    let s := (s.put Fld.MP_STATE__STATE p v).firnPost (s.pcfg p).die (some dest) { code := 0x301, sev := 0, obj := p, data := v % 8 + old % 8 * 16 }
    if v = mpIdle then s.setMp p { s.mp p with port := none } else s

/-- The numbers of the configured points of a die, rising. -/
def State.diePoints (s : State) (d : Firn) : List Nat :=
  (upTo 256).filter fun p => (tabFind s.cfg.points p).any fun c => c.die == d && c.commodity != 0

/-- Does the die take requests and marks: its firmware runs and no PFW is latched (R437)? -/
def State.firnLive (s : State) (d : Firn) : Bool := (s.firn d).runs && (s.firn d).pfw.isNone && s.dieRuns d.die

/-! ### Legal clock (R418) -/

/-- L(n): by the base pair in force for the index. -/
def FirnSt.legal (f : FirnSt) (n : Nat) : Nat :=
  if n < f.nb then f.was.1 + (n - f.was.2) * 32000 / 1017 else f.lb + (n - f.nb) * 32000 / 1017

/-- The legal time at the latest mark. -/
def State.legalNow (s : State) (d : Firn) : Nat := (s.firn d).legal (s.firn d).m

/-- FIRN_STATUS.CLOCK: 0 never set, 1 set, 2 unverified. -/
def State.clockSt (s : State) (d : Firn) : Nat := s.get Fld.FIRN_STATUS__CLOCK d.num

/-- A METERING-class event of a die to both ports (R313, R456, R484), and its wake source (R93): OBJECT the die in bits 15:8. -/
def State.postDie (s : State) (d : Firn) (code sev data : Nat) : State :=
  s.firnPost d none { code := code, sev := sev, obj := d.num * 256, data := min data 65535 }

/-! ### The Moraine log (R475 to R478) -/

/-- The number of entries a record with this much data takes. -/
def morParts (len : Nat) : Nat := if len ≤ 12 then 1 else 1 + (len - 12 + 19) / 20

/-- Bytes 4 to 27 of the entries of a record. -/
def morEntries (typ obj time : Nat) (data : List Byte) : List (List Byte) :=
  let n := morParts data.length
  (upTo n).map fun i =>
    let head := [BitVec.ofNat 8 typ, BitVec.ofNat 8 (i * 16 + (n - 1))] ++ leBytes 2 obj
    if i = 0 then head ++ leBytes 8 time ++ padTo 12 data
    else
      let part := padTo 20 ((data.drop (12 + 20 * (i - 1))).take 20)
      head ++ part.drop 12 ++ part.take 12

/-- SEAL as the die judges it: sealed or undetermined counts as sealed (R126, R317). -/
def State.sealed (s : State) (d : Firn) : Bool := s.flag Fld.FIRN_STATUS__SEALED d.num

/-- Refresh the log's registers (R482). -/
def State.morMirror (s : State) (d : Firn) : State :=
  let f := s.firn d
  let held := f.log.length
  let s := s.put Fld.MOR_STATUS__HELD d.num held
  let s := (s.putB Fld.MOR_STATUS__LIMIT d.num (s.sealed d && decide (65024 < held))).putB Fld.MOR_STATUS__NO_FREE d.num
    (s.sealed d && decide (65536 ≤ held))
  s.put Fld.MOR_TAIL_SEQ__SEQ d.num (match f.log with | [] => 0 | e :: _ => e.1)

/-- Write a record's entries, numbered on from the newest. -/
def State.morAppend (s : State) (d : Firn) (es : List (List Byte)) : State :=
  let f := s.firn d
  let head := s.get Fld.MOR_HEAD_SEQ__SEQ d.num
  let new := es.zipIdx.map fun e => (head + 1 + e.2, e.1)
  let all := f.log ++ new
  let past := all.length - 65536
  let s := s.setFirn d { f with log := all.drop past }
  let s := (s.put Fld.MOR_HEAD_SEQ__SEQ d.num (head + es.length)).bump Fld.MOR_OVERWRITTEN__COUNT d.num past
  let s := s.morMirror d
  if 60000 < all.length && !f.nearFull then
    (s.setFirn d { s.firn d with nearFull := true }).postDie d 0x252 1 (65536 - min all.length 65536)
  else s

/-- R478: has the log room for a record the module makes on its own? Unsealed, old entries give way (R477). -/
def State.morRoom (s : State) (d : Firn) (len : Nat) : Bool :=
  !s.sealed d || decide ((s.firn d).log.length + morParts len ≤ 65536)

/-- R478: does the log refuse a Logged change whose record has this much data? -/
def State.morRefuses (s : State) (d : Firn) (len : Nat) : Bool :=
  s.sealed d && decide (65024 < (s.firn d).log.length + morParts len)

/-- R478: a refused Logged request: error 0x4 holds and MORAINE_FULL is posted once. -/
def State.morRefused (s : State) (d : Firn) : State :=
  if (s.firn d).fullPosted then s else (s.setFirn d { s.firn d with fullPosted := true }).postDie d 0x253 2 0

/-- Write a record at a legal time, or lose it where no position is free (R478). -/
def State.moraineAt (s : State) (d : Firn) (typ obj time : Nat) (data : List Byte) : State :=
  if s.morRoom d data.length then s.morAppend d (morEntries typ obj time data)
  else
    let n := (s.firn d).lostEv + 1
    ((s.bump Fld.MOR_LOST__COUNT d.num 1).setFirn d { s.firn d with lostEv := 0 }).postDie d 0x254 2 n

def State.moraine (s : State) (d : Firn) (typ obj : Nat) (data : List Byte) : State := s.moraineAt d typ obj (s.legalNow d) data

/-! ### Tamper (R472, R473, R483) -/

/-- The index of a class's registers. -/
def tamperIdx (d : Firn) (c : Nat) : Nat := d.num * 9 + c

/-- A TAMPER record: class, 1 asserted / 2 released / 3 event, count after. -/
def State.tamperRecord (s : State) (d : Firn) (c kind : Nat) (extra : List Byte) : State :=
  s.moraine d 0x01 0 ([BitVec.ofNat 8 c, BitVec.ofNat 8 kind, 0, 0] ++ leBytes 4 (s.get Fld.TAMPER_COUNT__COUNT (tamperIdx d c)) ++ extra)

/-- An occurrence of a tamper class at source input `src`; after a PFW latch none is recorded (R474). -/
def State.tamper (s : State) (d : Firn) (c kind src : Nat) (extra : List Byte) : State :=
  if (s.firn d).pfw.isSome then s
  else
    let i := tamperIdx d c
    let t := if s.clockSt d = 0 then 0 else s.legalNow d
    let first := s.get Fld.TAMPER_COUNT__COUNT i = 0
    let s := s.bump Fld.TAMPER_COUNT__COUNT i 1
    let s := if first then (s.setReg .TAMPER_FIRST (2 * i) (BitVec.ofNat 32 t)).setReg .TAMPER_FIRST (2 * i + 1) (BitVec.ofNat 32 (t / 2 ^ 32)) else s
    let s := (s.setReg .TAMPER_LAST (2 * i) (BitVec.ofNat 32 t)).setReg .TAMPER_LAST (2 * i + 1) (BitVec.ofNat 32 (t / 2 ^ 32))
    let s := s.tamperRecord d c kind extra
    s.firnPost d none { code := 0x700 + c, sev := 2, obj := d.num * 256 + src, data := s.get Fld.TAMPER_COUNT__COUNT i % 65536 }

/-! ### Accumulators -/

def accGet (a : Accs) (i : Nat) : Nat := tabGet 0 a i
/-- R30: an accumulator is 128 bits wide. -/
def accAdd (a : Accs) (i v : Nat) : Accs := if v = 0 then a else tabSet a i ((accGet a i + v) % 2 ^ 128)
/-- Add to the unbilled-outage position, saturating at all ones (R440). -/
def unbAdd (a : List (Nat × Nat)) (q v : Nat) : List (Nat × Nat) := if v = 0 then a else tabSet a q (min (tabGet 0 a q + v) (2 ^ 128 - 1))

/-- The sum of a position over all rates. -/
def accSum (a : Accs) (q : Nat) : Nat := ((upTo 8).map fun r => accGet a (8 * r + q)).sum

/-- R440: add a bound to a point's unbilled-outage register; the session's record takes it as well. -/
def State.addUnbilled (s : State) (p : Nat) (qs : List (Nat × Nat)) : State :=
  let m := s.mp p
  let m := { m with unb := qs.foldl (fun a q => unbAdd a q.1 q.2) m.unb,
                    sesUnb := qs.foldl (fun a q => unbAdd a q.1 q.2) m.sesUnb,
                    flags := if qs.any (·.2 != 0) then m.flags ||| 256 else m.flags }
  let s := s.setMp p m
  let b (k : Nat) : Nat := billing (tabGet 0 m.unb k)
  [0, 1].foldl (fun s k => (s.setReg .MP_UNB_LO (2 * p + k) (BitVec.ofNat 32 (b k))).setReg .MP_UNB_HI (2 * p + k) (BitVec.ofNat 32 (b k / 2 ^ 32))) s

/-- The UNBILLED record (R476): cause, lost samples or blocks, position-0 bound. -/
def State.unbilledRecord (s : State) (d : Firn) (p cause lost : Nat) (qs : List (Nat × Nat)) : State :=
  s.moraine d 0x05 p ([BitVec.ofNat 8 cause, 0, 0, 0] ++ leBytes 4 lost ++ [0, 0, 0, 0] ++ leBytes 8 (billing (tabGet 0 qs 0)))

/-- PEAK (R262) is kept in units of 2⁻⁶⁴ per hour; its bound over a number of samples (T_s = 256 / 8,136,000 s) and over a
number of microseconds, truncated (log entry 41). -/
def boundOver (peak : List (Nat × Nat)) (samples : Nat) : List (Nat × Nat) :=
  peak.map fun q => (q.1, q.2 * samples * 256 / (8136000 * 3600))
def boundTime (peak : List (Nat × Nat)) (us : Nat) : List (Nat × Nat) := peak.map fun q => (q.1, q.2 * us / 3600000000)

/-- PEAK with what a cycle or block of `n` samples added. -/
def peakWith (peak : List (Nat × Nat)) (adds : List (Nat × Nat)) (n : Nat) : List (Nat × Nat) :=
  if n = 0 then peak
  else adds.foldl (fun k a => let r := a.2 * 8136000 * 3600 / (256 * n); if tabGet 0 k a.1 < r then tabSet k a.1 r else k) peak

/-- R268, R281: lost samples of a METERING point: the bound, its record and the session's flag. -/
def State.loseSamples (s : State) (p cause n flag : Nat) (peak : List (Nat × Nat)) : State :=
  if n = 0 || s.mpState p ≠ mpMetering then s
  else
    let qs := boundOver peak n
    let s := (s.addUnbilled p qs).unbilledRecord (s.pcfg p).die p cause n qs
    let m := s.mp p
    s.setMp p { m with lost := min (m.lost + n) 0xFFFFFFFF, flags := m.flags ||| flag }

/-! ### Standing Firn halts (R53, R73, R300, R417, R443, R456) -/

/-- The FIRN_STATUS bit of a halt reason: 1 clock, 2 reference, 3 check value. -/
def haltFld : Nat → Fld
  | 1 => Fld.FIRN_STATUS__HALT_CLK
  | 2 => Fld.FIRN_STATUS__HALT_REF
  | _ => Fld.FIRN_STATUS__HALT_FW

def State.firnHalted (s : State) (d : Firn) : Bool :=
  s.flag Fld.FIRN_STATUS__HALT_CLK d.num || s.flag Fld.FIRN_STATUS__HALT_REF d.num || s.flag Fld.FIRN_STATUS__HALT_FW d.num

def State.markHalted (s : State) (d : Firn) (h : Bool) : State :=
  (s.diePoints d).foldl (fun s p => s.putB Fld.MP_STATE__HALTED p h) s

/-- A halt begins: its flag, its record and FIRN_HALT. -/
def State.haltBegin (s : State) (d : Firn) (why : Nat) : State :=
  if s.flag (haltFld why) d.num then s
  else
    let was := s.firnHalted d
    let s := s.put (haltFld why) d.num 1
    let s := if was then s else (s.setFirn d { s.firn d with haltFrom := some (s.firn d).m }).markHalted d true
    (s.moraine d 0x08 0 [1, BitVec.ofNat 8 why]).postDie d 0x243 2 why

/-- R443: the bound of a halt for a point METERING in it, over the samples from its first to its last index. -/
def State.haltBound (s : State) (d : Firn) (p n : Nat) : State :=
  if s.mpState p ≠ mpMetering then s
  else
    let qs := boundOver (s.mp p).peak n
    let s := (s.addUnbilled p qs).unbilledRecord d p 5 n qs
    s.setMp p { s.mp p with flags := (s.mp p).flags ||| 32 }

/-- A halt is lifted; when no other stands, accumulation goes on and the interval is bounded (R443). -/
def State.haltLift (s : State) (d : Firn) (why : Nat) : State :=
  if !s.flag (haltFld why) d.num then s
  else
    let s := s.put (haltFld why) d.num 0
    let s := (s.moraine d 0x08 0 [2, BitVec.ofNat 8 why]).postDie d 0x244 0 why
    if s.firnHalted d then s
    else
      let n := (s.firn d).m - ((s.firn d).haltFrom.getD (s.firn d).m)
      let s := (s.diePoints d).foldl (fun s p => s.haltBound d p n) s
      (s.setFirn d { s.firn d with haltFrom := none }).markHalted d false

/-! ### Requests to a Firn die (R195, R316, R408) -/

/-- The die that receives a channel. -/
def Chan.firn : Chan → Option Firn
  | .hostFirn _ d | .fwFirn d => some d
  | _ => none

/-- The die's supervisor takes the request that its channel holds, of TYPE `typ`: `k` gets the die, the request's bytes and
its sequence number; the channel becomes FREE. Nothing happens while the channel holds no such request. -/
def State.takeReq (s : State) (c : Chan) (typ : Nat) (k : Firn → List Byte → Nat → State → State) : State :=
  match Chan.firn c with
  | none => s
  | some d =>
    let m := s.chan c
    let b := padTo 256 (m.payload.take m.len)
    if !s.firnLive d || !m.posted || field b 2 2 ≠ typ then s
    else k d b m.seq (s.clearDb c 1)

/-- The reply to a request: REPLY_TO, TYPE, STATUS and what follows from byte 6, filled to a multiple of 4. -/
def State.replyReq (s : State) (c : Chan) (seq typ status : Nat) (body : List Byte) : State :=
  let b := leBytes 2 seq ++ leBytes 2 typ ++ leBytes 2 status ++ body
  s.arrive c.reverse (b ++ List.replicate ((4 - b.length % 4) % 4) 0)

/-- A Sealed request while sealed: SEAL_LOCKED, and the tamper class CAL_WHILE_SEALED (R317, R472). -/
def State.sealLocked (s : State) (d : Firn) (c : Chan) (seq typ : Nat) : State :=
  (s.tamper d 6 3 0 []).replyReq c seq typ stSealLocked []

/-- R413, R409: a Sealed change is accepted: the counter, the CALIBRATION record and CAL_CHANGED. The record holds the counter,
the request TYPE, the effective index and the old and new values. -/
def State.calRecord (s : State) (d : Firn) (typ obj eff : Nat) (values : List Byte) : State :=
  let n := s.get Fld.FIRN_CAL_COUNT__COUNT d.num + 1
  let s := s.put Fld.FIRN_CAL_COUNT__COUNT d.num n
  (s.moraine d 0x02 obj (leBytes 4 n ++ leBytes 2 typ ++ [0, 0] ++ leBytes 4 eff ++ values)).postDie d 0x240 0 (n % 65536)

/-- R413, R478: can a Sealed change be recorded: the counter is not at its end? Unsealed, the log always takes its record. -/
def State.calFull (s : State) (d : Firn) : Bool := s.get Fld.FIRN_CAL_COUNT__COUNT d.num == 0xFFFFFFFF

/-- The local index of a channel's registers: global numbers already run over both dies (R287). -/
def chDie (ch : Nat) : Firn := if ch < 96 then .f0 else .f1

/-- R287: does the die convert the channel? -/
def chOn (d : Firn) (ch : Nat) : Bool := decide (ch < 192) && (chDie ch == d)

/-- The channels (global) that a point uses. -/
def pointChannels (c : PointCfg) : List Nat :=
  let base := 96 * c.die.num
  (c.uch ++ c.ich ++ c.neutral.toList ++ c.fch.map (·.2)).map (· + base)

/-- The configured points that use a channel. -/
def State.usersOf (s : State) (ch : Nat) : List Nat :=
  (upTo 256).filter fun p => (tabFind s.cfg.points p).any fun c => c.commodity != 0 && (pointChannels c).contains ch

/-- R317: is the channel used by a point in ARMED, METERING or FROZEN? -/
def State.chBusy (s : State) (ch : Nat) : Bool :=
  (s.usersOf ch).any fun p => s.mpState p == mpArmed || s.mpState p == mpMetering || s.mpState p == mpFrozen

/-- An order of a Firn die for one of its points (R49, R63). -/
def State.firnOrder (s : State) (d : Firn) (a : Act) : State := { s with orders := s.orders ++ [{ src := d.source, act := a }] }

end Sys2Proof.Machine
end

