-- ==== Sys2Proof/Machine/Samples.lean ====
section
/-!
DEFINITION. Machine/Samples.lean: the sample ring (R260), the conversion's stages 6 and 7 (R293 to R297), time alignment (R333), and the
resampling and phasors of a cycle (R342).
-/
namespace Sys2Proof.Machine

def adcIdx (d : Firn) (a : Nat) : Nat := 104 * d.num + a
def chIdx (d : Firn) (j : Nat) : Nat := 96 * d.num + j

/-! ### The ring (R260, R294) -/

/-- A word whose magnitude is 1.25 × FS or more is an overrange (R294). -/
def overrange (raw : Int) : Bool := decide (0x780000 ≤ raw.natAbs)

/-- A ring entry: the sample word, the ADC that converted it, overrange. -/
def ringEntry (raw adc : Nat) : W32 :=
  BitVec.ofNat 32 (raw % 2 ^ 24 + adc % 128 * 2 ^ 24 + b2n (overrange (signedOf 24 raw)) * 2 ^ 31)
def entryRaw (w : W32) : Int := signedOf 24 w.toNat
def entryAdc (w : W32) : Nat := min 103 (w.toNat / 2 ^ 24 % 128)

/-- The entry of a local channel for a sample index: the ring holds the latest 1,280 before the latest mark; a word that no mark brought is
the converter's own (log entry 156). -/
def State.ringAt (s : State) (d : Firn) (j i : Nat) : W32 :=
  let f := s.firn d
  let held := if i < f.m && f.m ≤ i + 1280 then tabFind (tabGet [] f.ring j) (i % 1280) else none
  held.getD (ringEntry (Config.rawWord (chIdx d j) i).toNat (s.get Fld.CH_STATUS__SERVING (chIdx d j)))

/-- Write the entries of a channel from an index on. -/
def State.ringPush (s : State) (d : Firn) (j from_ : Nat) (es : List W32) : State :=
  let f := s.firn d
  let t := es.zipIdx.foldl (fun t x => tabSet t ((from_ + x.2) % 1280) x.1) (tabGet [] f.ring j)
  s.setFirn d { f with ring := tabSet f.ring j t }

/-! ### Stages 6 and 7 (R296, R297) -/

/-- The ADC correction: y = (raw × 256 − offset) × gain / 2³⁰. -/
def adcCorrect (raw : Int) (off gain : W32) : Int := clampS 32 (divHalfUp ((raw * 256 - signedOf 32 off.toNat) * gain.toNat) (2 ^ 30))

/-- y of a word that an ADC has converted, with the coefficients of that ADC. -/
def State.adcY (s : State) (d : Firn) (a : Nat) (raw : Int) : Int :=
  adcCorrect raw (s.reg .ADC_OFFSET (adcIdx d a)) (s.reg .ADC_GAIN (adcIdx d a))

/-- The channel correction: v = (y − offset) × gain / 2³⁰. -/
def chCorrect (y : Int) (off gain : W32) : Int := clampS 32 (divHalfUp ((y - signedOf 32 off.toNat) * signedOf 32 gain.toNat) (2 ^ 30))

/-- R318: the coefficients of a channel (global number) in force for an index. -/
def State.coefAt (s : State) (ch i : Nat) : ChCoef :=
  match (s.firn (chDie ch)).coefOld.find? fun x => x.1 == ch && decide (i < x.2.1) with
  | some x => x.2.2
  | none => ⟨s.reg .CH_GAIN ch, s.reg .CH_OFFSET ch, s.reg .CH_SCALE ch, s.reg .CH_DELAY ch, s.reg .CH_PHASE ch⟩

/-- v of a channel's sample: stages 6 and 7 on its ring entry. -/
def State.sampleV (s : State) (d : Firn) (j i : Nat) : Int :=
  let w := s.ringAt d j i
  let c := s.coefAt (chIdx d j) i
  chCorrect (s.adcY d (entryAdc w) (entryRaw w)) c.off c.gain

/-! ### Alignment (R333) -/

/-- The nominal cycle in units of 2⁻¹⁶ sample: 31,781.25 / 50 or / 60 samples. -/
def nominalLen (nom60 : Bool) : Nat := if nom60 then 34713600 else 41656320

/-- τ in units of 2⁻¹⁶ sample, to the nearest (log entry 32), for a cycle of `n16` such units: a and μ of R333 are its quotient and
remainder by 65,536. -/
def tau16 (c : ChCoef) (n16 : Nat) : Int :=
  signedOf 32 c.delay.toNat + divHalfUp (signedOf 32 c.phase.toNat * n16 * 10 ^ 50) (10 ^ 7 * (2 * Fx.pi50))

/-- The aligned value x(n + τ) of a channel, formed as FDSTEP forms it (R235, R333). -/
def State.aligned (s : State) (d : Firn) (j n16 n : Nat) : Int :=
  let r := tau16 (s.coefAt (chIdx d j) n) n16
  let x (k : Int) : Int := s.sampleV d j ((n : Int) + r / 65536 + k).toNat
  clampS 32 (lagrangeRound (x (-1)) (x 0) (x 1) (x 2) (r % 65536))

def State.stream (s : State) (d : Firn) (j n16 b n : Nat) : List Int := (upTo n).map fun i => s.aligned d j n16 (b + i)

/-! ### A cycle's resampling and fundamental (R342, R354) -/

/-- The 512 instants t + m × N / 512 of an aligned stream, in units of 2⁻¹⁶ sample, formed with FDSTEP. -/
def State.resampled (s : State) (d : Firn) (j n16 t len : Nat) : List Int :=
  (upTo 512).map fun m =>
    let at_ := t + (divHalfUp (m * len : Nat) 512).toNat
    let x (k : Nat) : Int := s.aligned d j n16 (at_ / 65536 + k - 1)
    clampS 32 (lagrangeRound (x 0) (x 1) (x 2) (x 3) (at_ % 65536 : Nat))

/-- cos and sin of 2πk/n in units of 2⁻³⁰ (log entry 187). -/
def cosQ (n k : Nat) : Int := divHalfUp (Fx.cos (2 * Fx.pi * (k % n : Nat) / n)) (2 ^ 130)
def sinQ (n k : Nat) : Int := divHalfUp (Fx.sin (2 * Fx.pi * (k % n : Nat) / n)) (2 ^ 130)

/-- Σ x(m) e^(−j2πkm/n) in units of 2⁻³⁰. -/
def dft (x : List Int) (n k : Nat) : Int × Int :=
  x.zipIdx.foldl (fun a y => (a.1 + y.1 * cosQ n (k * y.2), a.2 - y.1 * sinQ n (k * y.2))) (0, 0)

/-- ½ Im(U₁ × conj(I₁)) of the phasors 2/512 Σ, in units of 2⁻⁷⁷. -/
def reactive (u i : Int × Int) : Int := u.2 * i.1 - u.1 * i.2

/-- R339: the rotation of two fundamental phasors: 1 where b leads a by 60° to 180°, 2 where it lags by that, else 0. -/
def rotation (a b : Int × Int) : Nat :=
  let cross := b.2 * a.1 - b.1 * a.2
  let dot := a.1 * b.1 + a.2 * b.2
  let far := decide (dot ≤ 0) || decide (4 * (dot * dot) ≤ (a.1 * a.1 + a.2 * a.2) * (b.1 * b.1 + b.2 * b.2))
  if !far || (a.1 = 0 && a.2 = 0) || (b.1 = 0 && b.2 = 0) then 0 else if 0 < cross then 1 else if cross < 0 then 2 else 0

end Sys2Proof.Machine
end

