-- ==== Sys2Proof/Machine/FrontEnd.lean ====
section
/-!
DEFINITION. Machine/FrontEnd.lean: precision channels, regelation, references and channel calibration (R287 to R318, R335).
-/
namespace Sys2Proof.Machine

/-! ### Sessions that end for a fault (R270, R281, R283) -/

/-- The session of a point ends at an index, for an END_CAUSE of R446: its record may be formed at once. -/
def State.endSession (s : State) (p idx cause : Nat) : State :=
  let d := (s.pcfg p).die
  let m := s.mp p
  let sched := (s.pcfg p).sched
  let m := { m with freezeIdx := idx, freezeTime := (s.firn d).legal idx, endCause := cause, final := true, recFormed := false,
                    calCount := s.get Fld.FIRN_CAL_COUNT__COUNT d.num,
                    schedId := if sched = 15 then 0 else s.get Fld.FIRN_SCHED__ID (4 * d.num + sched) }
  (s.setMp p m).setReg .MP_FREEZE_INDEX p (BitVec.ofNat 32 idx)

/-- A point goes OUT_OF_SERVICE for a reason (1 slice, 2 switch, 3 channel, 4 engine, 5 lost link or die): a running session
ends at `idx`, and Firn stops the point at Firn rank (R270). -/
def State.pointOos (s : State) (p why idx : Nat) : State :=
  let st := s.mpState p
  let s := if st = mpMetering || st = mpArmed then (s.endSession p idx 5).firnOrder (s.pcfg p).die (.stop p) else s
  let s := s.setMp p { s.mp p with oos := why :: (s.mp p).oos.filter (· != why) }
  s.setMpState p mpOos

/-! ### ADCs, pool and lanes (R301 to R303, R312) -/

def aServing : Nat := 0
def aSpare : Nat := 1
def aReserve : Nat := 2
def aCalibrating : Nat := 3
def aIncoming : Nat := 4
def aRetired : Nat := 5
def aStart : Nat := 6

def State.adcSt (s : State) (d : Firn) (a : Nat) : Nat := s.get Fld.ADC_STATUS__STATE (adcIdx d a)
def State.setAdc (s : State) (d : Firn) (a st lane ch : Nat) : State :=
  ((s.put Fld.ADC_STATUS__STATE (adcIdx d a) st).put Fld.ADC_STATUS__LANE (adcIdx d a) lane).put Fld.ADC_STATUS__CHANNEL (adcIdx d a) ch
def State.adcLane (s : State) (d : Firn) (a : Nat) : Nat := s.get Fld.ADC_STATUS__LANE (adcIdx d a)
def State.chGain (s : State) (d : Firn) (j : Nat) : Nat := s.get Fld.CH_CFG__GAIN (chIdx d j)

/-- The used channels of a die, by local index, rising (R303). -/
def State.usedCh (s : State) (d : Firn) : List Nat := (upTo 96).filter fun j => s.flag Fld.CH_CFG__TYPE (chIdx d j)

def State.poolSize (s : State) (d : Firn) : Nat := ((upTo 104).filter fun a => let t := s.adcSt d a; 1 ≤ t && t ≤ 4).length
def State.lanes (s : State) (d : Firn) : Nat := min 8 (s.poolSize d)

/-- The channels of lane `k` (R303), and the channel of its next step. -/
def State.laneCh (s : State) (d : Firn) (k : Nat) : List Nat :=
  ((s.usedCh d).zipIdx.filter fun x => x.2 % max 1 (s.lanes d) == k).map (·.1)
def State.laneNext (s : State) (d : Firn) (k : Nat) : Option Nat :=
  let l := s.laneCh d k
  l[tabGet 0 (s.firn d).lanePos k % max 1 l.length]?

/-- The ADC that a lane holds. -/
def State.laneAdc (s : State) (d : Firn) (k : Nat) : Option Nat :=
  (upTo 104).find? fun a => s.adcLane d a == k && s.adcSt d a != aServing && s.adcSt d a != aRetired

/-- R302, R314: a lane without an ADC takes the lowest-numbered one from RESERVE, which first calibrates. -/
def State.fillLane (s : State) (d : Firn) (k : Nat) : State :=
  if (s.laneAdc d k).isSome || s.lanes d ≤ k then s
  else match (upTo 104).find? fun a => s.adcSt d a == aReserve with
    | some a => s.setAdc d a aCalibrating k ((s.laneNext d k).getD 255)
    | none => s

/-- R312: the level's event and record where it changes; the counts and the round period. -/
def State.regelRefresh (s : State) (d : Firn) : State :=
  let n := s.poolSize d
  let l := min 8 n
  let lv := if n = 0 then 2 else if n = 1 then 1 else 0
  let old := s.get Fld.REGEL_STATUS__LEVEL d.num
  let oldL := s.get Fld.REGEL_STATUS__LANES d.num
  let used := (s.usedCh d).length
  let count (t : Nat) : Nat := ((upTo 104).filter fun a => s.adcSt d a == t).length
  let sv := count aServing; let rt := count aRetired
  let s := (((s.put Fld.REGEL_STATUS__POOL d.num n).put Fld.REGEL_STATUS__LANES d.num l).put Fld.REGEL_STATUS__RETIRED d.num rt).put Fld.REGEL_STATUS__SERVING d.num sv
  let s := s.put Fld.REGEL_ROUND__SAMPLES d.num (if l = 0 then 0 else (used + l - 1) / l * 6400)
  let s := s.putB Fld.REF_STATUS__STALE d.num (n = 0)
  let s := if l = oldL then s else s.setFirn d { s.firn d with lanePos := [] }
  let s := (upTo 8).foldl (fun s k => s.fillLane d k) s
  if old = 3 || lv = old then s
  else
    let s := (s.put Fld.REGEL_STATUS__LEVEL d.num lv).moraine d 0x06 0 [BitVec.ofNat 8 lv, BitVec.ofNat 8 n]
    if lv = 0 then s.postDie d 0x214 0 n else if lv = 1 then s.postDie d 0x212 1 n else s.postDie d 0x213 2 0

/-- R280, R310: an ADC is retired for a cause. -/
def State.retireAdc (s : State) (d : Firn) (a cause : Nat) : State :=
  let i := adcIdx d a
  let s := (s.setAdc d a aRetired 15 255).put Fld.ADC_STATUS__CAUSE i cause
  let s := (s.put Fld.ADC_STATUS__CLEAN i 0).bump Fld.ADC_COUNT__RETIRES i 1
  s.firnPost d none { code := 0x210, sev := 1, obj := d.num * 256 + a, data := cause }

/-! ### References (R298 to R300) -/

/-- The mean of fractions with positive denominators, as a fraction. -/
def meanFrac (l : List (Int × Int)) : Int × Int :=
  let r := l.foldl (fun a q => (a.1 * q.2 + q.1 * a.2, a.2 * q.2)) ((0, 1) : Int × Int)
  (r.1, r.2 * max 1 l.length)

/-- |REF_DEV| in 0.01 ppm. -/
def State.refDev (s : State) (d : Firn) : Nat := (signedOf 32 (s.reg .REF_DEV d.num).toNat).natAbs

/-- The mean divergence in 0.01 ppm (R299). -/
def divergence (ratios : List (Int × Int)) (base : Int × Int) : Int :=
  let m := meanFrac ratios
  divHalfEven ((m.1 * base.2 - base.1 * m.2) * 100000000) (base.1 * m.2).natAbs

/-- A comparison of both references arrives (R299, R300). -/
def State.compareRefs (s : State) (d : Firn) (q : Int × Int) : State :=
  let f := s.firn d
  let ratios := (q :: f.ratios).take 8
  let s := s.setFirn d { f with ratios := ratios }
  let s := s.setReg .REF_DEV d.num (BitVec.ofInt 32 (clampS 32 (divergence ratios f.qBase)))
  let dev := s.refDev d
  let s := if 1000 < dev && !s.flag Fld.REF_STATUS__DIVERGED d.num then
      ((s.put Fld.REF_STATUS__DIVERGED d.num 1).tamper d 7 3 0 []).postDie d 0x215 2 (dev / 10)
    else s
  let s := if 5000 < dev then (s.put Fld.REF_STATUS__HALT d.num 1).haltBegin d 2 else s
  if dev < 500 then match (s.firn d).lowSince with
    | none => s.setFirn d { s.firn d with lowSince := some s.time }
    | some t => if t + 60000000 ≤ s.time then s.put Fld.REF_STATUS__DIVERGED d.num 0 else s
  else s.setFirn d { s.firn d with lowSince := none }

/-- REF_HALT_LIFT (R300): the divergence has been below 10 ppm for 60 s. -/
def execRefHaltLift (d : Firn) (s : State) : Res :=
  .next (if s.flag Fld.REF_STATUS__HALT d.num && s.refDev d < 1000 then (s.put Fld.REF_STATUS__HALT d.num 0).haltLift d 2 else s)

/-! ### Calibrating an ADC (R309 to R311) -/

/-- FS in units of raw / 256 (R294). -/
def fsRaw : Int := 0x600000 * 256

/-- Check 0x06: twice the typical noise, in 0.1 ppm of FS (R320). -/
def noiseLimit : Nat → Int
  | 0 => 32 | 1 => 36 | 2 => 44 | 3 => 60 | 4 => 90 | 5 => 140 | _ => 240

/-- ADC_OFFSET and ADC_GAIN of a calibration (R309). -/
def calOffset (m : CalSums) : Int := divHalfUp m.z 1024
def calGain (kG : Nat) (m : CalSums) : Nat :=
  if m.p - m.n ≤ 0 then 0 else (divHalfUp (2 * kG * 2 ^ 30 * 1024) (m.p - m.n).toNat).toNat

/-- R310: the first check that fails, in the table's order; 0: a clean calibration. `prev`: the previous clean calibration at
the gain, within 1 h. -/
def calCause (gain kG : Nat) (m : CalSums) (prev : Option AdcCal) : Nat :=
  let g := calGain kG m
  if 500 * fsRaw * 1024 < m.z.natAbs * 1000000 then 1
  else if 715827883 < ((g : Int) - 715827883).natAbs * 100 then 2
  else if prev.any fun c => 20 * c.gain < ((g : Int) - c.gain).natAbs * 1000000 then 3
  else if prev.any fun c => 10 * fsRaw < (calOffset m - c.offset).natAbs * 1000000 then 4
  else if 4 * fsRaw * 1024 < (m.p + m.n - 2 * m.z).natAbs * 1000000 then 5
  else if noiseLimit gain ^ 2 * fsRaw ^ 2 * 1024 ^ 2 < (1024 * m.zSq - m.z ^ 2) * 100000000000000 then 6
  else if m.trip then 7 else 0

def State.calVerdict (s : State) (d : Firn) (a gain : Nat) (m : CalSums) : Nat :=
  let f := s.firn d
  let prev := (tabFind f.adcCal (a, gain)).filter fun c => s.time ≤ c.time + 3600000000
  calCause gain (tabGet 858993459 f.kG gain) m prev

/-- R309: a calibration compares the references, whatever its checks give. -/
def State.calCompare (s : State) (d : Firn) (m : CalSums) : State :=
  if m.p - m.n ≤ 0 then s else s.compareRefs d ((m.po - m.no) * 1024, (m.p - m.n) * 768)

/-- R311: the coefficients of a clean calibration are published. -/
def State.publish (s : State) (d : Firn) (a gain : Nat) (m : CalSums) : State :=
  let f := s.firn d
  let g := calGain (tabGet 858993459 f.kG gain) m
  let i := adcIdx d a
  let s := (s.setReg .ADC_GAIN i (BitVec.ofNat 32 g)).setReg .ADC_OFFSET i (BitVec.ofInt 32 (calOffset m))
  let s := (s.put Fld.ADC_STATUS__GAIN i gain).bump Fld.ADC_COUNT__CALS i 1
  s.setFirn d { f with adcCal := tabSet f.adcCal (a, gain) { gain := g, offset := calOffset m, time := s.time } }

/-- The gain an ADC calibrates at: that of the channel named for it. -/
def State.calGainOf (s : State) (d : Firn) (a : Nat) : Nat :=
  let c := s.get Fld.ADC_STATUS__CHANNEL (adcIdx d a)
  if c < 96 then s.chGain d c else s.get Fld.ADC_STATUS__GAIN (adcIdx d a)

/-- ADC_CALIBRATION_DONE (R304, R306, R309 to R311): a clean one makes the ADC SPARE of its lane or RESERVE; a failed one
retires it. In START only the comparison counts (R315). -/
def execAdcCalibrationDone (d : Firn) (a : Nat) (m : CalSums) (s : State) : Res :=
  if !s.firnLive d then .next s
  else if s.adcSt d a = aStart then .next (s.calCompare d m)
  else if s.adcSt d a ≠ aCalibrating then .next s
  else
    let gain := s.calGainOf d a
    let cause := s.calVerdict d a gain m
    let s := s.calCompare d m
    let sus := tabFind (s.firn d).suspect a
    let s := s.setFirn d { s.firn d with suspect := tabErase (s.firn d).suspect a }
    if cause = 0 then
      let s := s.publish d a gain m
      let lane := s.adcLane d a
      let s := s.put Fld.ADC_STATUS__STATE (adcIdx d a) (if lane < 8 then aSpare else aReserve)
      let s := match sus with
        | some j => s.firnPost d none { code := 0x216, sev := 1, obj := chIdx d j, data := 3 }
        | none => s
      .next (s.regelRefresh d)
    else .next (((s.bump Fld.ADC_COUNT__FAILS (adcIdx d a) 1).retireAdc d a cause).regelRefresh d)

/-- RESERVE_RECALIBRATION (R302): an ADC that stays in RESERVE is recalibrated every 60 s. -/
def execReserveRecalibration (d : Firn) (a : Nat) (s : State) : Res :=
  .next (if s.adcSt d a = aReserve && s.firnLive d then s.setAdc d a aCalibrating 15 255 else s)

/-- RETIRED_ADC_CALIBRATION (R280, R310): two consecutive clean calibrations return a retired ADC to the spares. -/
def execRetiredAdcCalibration (d : Firn) (a : Nat) (m : CalSums) (s : State) : Res :=
  if s.adcSt d a ≠ aRetired || !s.firnLive d then .next s
  else
    let i := adcIdx d a
    let gain := s.get Fld.ADC_STATUS__GAIN i
    let cause := s.calVerdict d a gain m
    let s := s.calCompare d m
    if cause ≠ 0 then .next ((s.bump Fld.ADC_COUNT__FAILS i 1).put Fld.ADC_STATUS__CLEAN i 0)
    else
      let s := s.publish d a gain m
      let n := s.get Fld.ADC_STATUS__CLEAN i + 1
      let s := s.put Fld.ADC_STATUS__CLEAN i n
      if n < 2 then .next s
      else
        let s := (s.setAdc d a aReserve 15 255).firnPost d none { code := 0x211, sev := 0, obj := d.num * 256 + a, data := 0 }
        .next (s.regelRefresh d)

/-! ### Lane steps and the seam (R304 to R308) -/

/-- LANE_STEP_START (R304): the lane's SPARE becomes INCOMING on its next channel. -/
def execLaneStepStart (d : Firn) (k : Nat) (s : State) : Res :=
  match s.laneAdc d k, s.laneNext d k with
  | some a, some j =>
    if s.adcSt d a = aSpare && s.get Fld.CH_STATUS__STATE (chIdx d j) = 1 && s.firnLive d then
      .next ((s.setAdc d a aIncoming k j).put Fld.CH_STATUS__INCOMING (chIdx d j) a)
    else .next s
  | _, _ => .next s

/-- The lane goes on to its next channel. -/
def State.laneAdvance (s : State) (d : Firn) (k : Nat) : State :=
  s.setFirn d { s.firn d with lanePos := tabSet (s.firn d).lanePos k (tabGet 0 (s.firn d).lanePos k + 1) }

/-- R304: the incoming ADC serves the channel from the handover; the outgoing one calibrates for the lane's next channel. -/
def State.handover (s : State) (d : Firn) (k j a : Nat) : State :=
  let i := chIdx d j
  let out := s.get Fld.CH_STATUS__SERVING i
  let s := s.laneAdvance d k
  let s := (s.setAdc d a aServing 15 j).setAdc d out aCalibrating k ((s.laneNext d k).getD 255)
  let s := (s.put Fld.CH_STATUS__SERVING i a).put Fld.CH_STATUS__INCOMING i 255
  let t := s.legalNow d
  let s := (s.setReg .CH_REGEL_LO i (BitVec.ofNat 32 t)).setReg .CH_REGEL_HI i (BitVec.ofNat 32 (t / 2 ^ 32))
  (s.bump Fld.REGEL_SEAMS__COUNT d.num 1).regelRefresh d

/-- R306, R307: the first failure of a channel's step: the handover is cancelled and the incoming ADC calibrates. -/
def State.stepFailed (s : State) (d : Firn) (k j a : Nat) : State :=
  let i := chIdx d j
  let s := (s.setAdc d a aCalibrating k j).put Fld.CH_STATUS__INCOMING i 255
  let s := s.setFirn d { s.firn d with failedOnce := j :: (s.firn d).failedOnce.filter (· != j) }
  (s.bump Fld.REGEL_SEAM_FAIL__COUNT d.num 1).firnPost d none { code := 0x216, sev := 1, obj := i, data := 1 }

/-- The sums of R305 over the overlap: of d = y_s − y_a, d², y_a, y_a², d × y_a, and the number of samples. -/
structure SeamSums where
  d : Int
  dd : Int
  y : Int
  yy : Int
  dy : Int
  n : Int
deriving DecidableEq, Repr

def seamSums (ys ya : List Int) : SeamSums :=
  (ys.zip ya).foldl (fun a x => let d := x.1 - x.2
    { d := a.d + d, dd := a.dd + d * d, y := a.y + x.2, yy := a.yy + x.2 * x.2, dy := a.dy + d * x.2, n := a.n + 1 })
    { d := 0, dd := 0, y := 0, yy := 0, dy := 0, n := 0 }

/-- Is G evaluated: rms of y_a at least 5 % of 2³⁰? -/
def seamHasG (a : SeamSums) : Bool := decide (0 < a.yy) && decide (a.n * 2 ^ 60 ≤ a.yy * 400)
/-- R305: |D| ≤ 20 ppm, |G| ≤ 30 ppm, E ≤ 12 ppm. -/
def seamPass (a : SeamSums) : Bool :=
  decide ((a.d.natAbs : Int) * 1000000 ≤ 20 * a.n * 2 ^ 30)
  && (!seamHasG a || decide (((a.n * a.dy - a.d * a.y).natAbs : Int) * 1000000 ≤ 30 * a.n * a.yy))
  && decide ((a.n * a.dd - a.d * a.d) * 1000000000000 ≤ 144 * a.n * a.n * 2 ^ 60)

/-- D and G in 0.1 ppm, as CH_SEAM shows them (rounded to nearest, log entry 42). -/
def seamD (a : SeamSums) : Nat := bitsOf 16 (clampS 16 (divHalfEven (a.d * 10000000) (a.n.natAbs * 2 ^ 30)))
def seamG (a : SeamSums) : Nat :=
  if seamHasG a then bitsOf 16 (clampS 16 (divHalfEven ((a.n * a.dy - a.d * a.y) * 10000000) (a.n * a.yy).natAbs)) else 0x8000

/-- SEAM_DECISION (R305, R306), over the raw words of the overlap of the incoming and the outgoing ADC. -/
def execSeamDecision (d : Firn) (k : Nat) (ys ya : List Int) (s : State) : Res :=
  match s.laneAdc d k with
  | none => .next s
  | some a =>
    let j := s.get Fld.ADC_STATUS__CHANNEL (adcIdx d a)
    if s.adcSt d a ≠ aIncoming || 96 ≤ j || !s.firnLive d then .next s
    else
      let i := chIdx d j
      let m := seamSums (ys.map (s.adcY d a)) (ya.map (s.adcY d (s.get Fld.CH_STATUS__SERVING i)))
      let s := (s.put Fld.CH_SEAM__DSTEP i (seamD m)).put Fld.CH_SEAM__GSTEP i (seamG m)
      let again := (s.firn d).failedOnce.contains j
      if seamPass m then
        .next ((s.setFirn d { s.firn d with failedOnce := (s.firn d).failedOnce.filter (· != j) }).handover d k j a)
      else if !again then .next (s.stepFailed d k j a)
      else
        let out := s.get Fld.CH_STATUS__SERVING i
        let s := s.setFirn d { s.firn d with failedOnce := (s.firn d).failedOnce.filter (· != j),
                                             suspect := tabSet (s.firn d).suspect out j }
        let s := (s.bump Fld.REGEL_SEAM_FAIL__COUNT d.num 1).firnPost d none { code := 0x216, sev := 1, obj := i, data := 2 }
        .next (s.handover d k j a)

/-- The samples lost on a channel are lost to the points that use it (R281). -/
def State.chLose (s : State) (d : Firn) (j n : Nat) : State :=
  (s.usersOf (chIdx d j)).foldl (fun s p => s.loseSamples p 2 n 16 (s.mp p).peak) s

/-- ADC_STABILITY_TRIP (R281, R307, R314). `settled`: an incoming ADC of the failed one's channel has reached its overlap;
`lost`: samples from the fault to the takeover. -/
def execAdcStabilityTrip (d : Firn) (a : Nat) (settled : Bool) (lost : Nat) (s : State) : Res :=
  let st := s.adcSt d a
  let j := s.get Fld.ADC_STATUS__CHANNEL (adcIdx d a)
  if !s.firnLive d then .next s
  else if st = aIncoming then .next ((s.stepFailed d (s.adcLane d a) j a).regelRefresh d)
  else if st ≠ aServing then .next s
  else
    let i := chIdx d j
    let inc := s.get Fld.CH_STATUS__INCOMING i
    let s := s.retireAdc d a 8
    let k := s.adcLane d inc
    -- the lane's SPARE, else the lowest-numbered RESERVE (R314); a settled incoming ADC takes over itself (R307)
    let lane := (s.usedCh d).findIdx (· == j) % max 1 (s.lanes d)
    let cand := if inc < 104 && settled then some inc
      else ((upTo 104).find? fun b => s.adcSt d b == aSpare && s.adcLane d b == lane).or
        ((upTo 104).find? fun b => s.adcSt d b == aReserve)
    let s := if inc < 104 && !settled then (s.setAdc d inc aCalibrating k j).put Fld.CH_STATUS__INCOMING i 255 else s
    match cand with
    | some b =>
      let t := s.legalNow d
      let s := ((s.setAdc d b aServing 15 j).put Fld.CH_STATUS__SERVING i b).put Fld.CH_STATUS__INCOMING i 255
      let s := (s.setReg .CH_REGEL_LO i (BitVec.ofNat 32 t)).setReg .CH_REGEL_HI i (BitVec.ofNat 32 (t / 2 ^ 32))
      .next ((s.chLose d j (min lost 16)).regelRefresh d)
    | none =>
      let s := ((s.put Fld.CH_STATUS__SERVING i 255).put Fld.CH_STATUS__STATE i 2).put Fld.CH_STATUS__FAULT i 5
      let s := s.firnPost d none { code := 0x217, sev := 2, obj := i, data := 5 }
      let s := (s.usersOf i).foldl (fun s p => s.pointOos p 3 (((s.mp p).ck.map (·.lastIdx + 1)).getD (s.mp p).startIdx)) s
      .next (s.regelRefresh d)

/-! ### Start-up (R315) -/

/-- The working ADCs take up service: used channels get them in ascending order, the rest form the pool. -/
def State.assignAdcs (s : State) (d : Firn) : State :=
  let work := (upTo 104).filter fun a => s.adcSt d a != aRetired
  let used := s.usedCh d
  let s := (work.zip used).foldl (fun s x =>
    let i := chIdx d x.2
    let t := s.legalNow d
    let s := ((s.setAdc d x.1 aServing 15 x.2).put Fld.CH_STATUS__SERVING i x.1).put Fld.CH_STATUS__STATE i 1
    (s.setReg .CH_REGEL_LO i (BitVec.ofNat 32 t)).setReg .CH_REGEL_HI i (BitVec.ofNat 32 (t / 2 ^ 32))) s
  let s := (used.drop work.length).foldl (fun s j => (s.put Fld.CH_STATUS__STATE (chIdx d j) 2).put Fld.CH_STATUS__FAULT (chIdx d j) 5) s
  let pool := work.drop used.length
  let s := pool.foldl (fun s a => s.setAdc d a aReserve 15 255) s
  -- the pool's first ADCs stand in the lanes, calibrated for their first channels
  (pool.take 8).zipIdx.foldl (fun s x => s.setAdc d x.1 aSpare x.2 ((s.laneNext d x.2).getD 255)) s

/-- R315: every ADC makes one calibration; a failing one is retired; channels enter service. -/
def State.refsSettled (s : State) (d : Firn) (cals : List (Nat × CalSums)) : State :=
  if s.flag Fld.REF_STATUS__SETTLED d.num || !s.firnLive d then s
  else
    let s := s.put Fld.REF_STATUS__SETTLED d.num 1
    let used := s.usedCh d
    let one (s : State) (a : Nat) : State :=
      if s.adcSt d a ≠ aStart then s
      else
        let gain := match used[a]? with | some j => s.chGain d j | none => 0
        let m := tabGet { z := 0, zSq := 0, p := 0, n := 0, po := 0, no := 0, trip := true } cals a
        let cause := s.calVerdict d a gain m
        let s := s.calCompare d m
        if cause = 0 then s.publish d a gain m else (s.bump Fld.ADC_COUNT__FAILS (adcIdx d a) 1).retireAdc d a cause
    let s := (upTo 104).foldl one s
    let s := s.assignAdcs d
    let s := s.put Fld.REGEL_STATUS__LEVEL d.num 0
    let s := s.regelRefresh d
    (s.setFirn d { s.firn d with waking := false }).put Fld.FIRN_STATUS__READY d.num 1

/-! ### Channels (R291, R292) -/

/-- R291: the sum of v over the half-period that ends at an index, but for the 16 samples after its reversal. -/
def State.rtdSum (s : State) (d : Firn) (j idx : Nat) : Int := ((upTo 1008).map fun i => s.sampleV d j (idx - 1008 + i)).sum

/-- RTD_REVERSAL (R291): source `src` reverses at the index `idx`: the half-period's sum of v closes, but for the 16 samples after the
reversal that began it; with the half before it, it gives a resistance value. -/
def execRtdReversal (d : Firn) (src idx : Nat) (s : State) : Res :=
  match (s.usedCh d).find? fun j => s.get Fld.CH_CFG__TYPE (chIdx d j) == 6 && s.get Fld.CH_CFG__RTD_SRC (chIdx d j) == src with
  | none => .next s
  | some j =>
    if !s.firnLive d then .next s
    else
      let f := s.firn d
      let sum := s.rtdSum d j idx
      let (pos, before) := tabGet (true, none) f.rtd src
      let f := { f with rtd := tabSet f.rtd src (!pos, some sum),
                        rtdDiff := match before with
                          | some b => tabSet f.rtdDiff src (if pos then sum - b else b - sum)
                          | none => f.rtdDiff }
      .next (s.setFirn d f)

/-- R292: may a channel of this sensor type show the fault code? Code 0x5 is the loss of its ADC (R281). -/
def faultSuits (type code : Nat) : Bool :=
  match code with
  | 1 | 2 => type == 4
  | 3 => type == 6
  | 4 => type != 0
  | _ => false

/-- The running block of the points that use a channel has a sample with a fault (R374). -/
def State.faultBlocks (s : State) (ch : Nat) : State :=
  (s.usersOf ch).foldl (fun s p =>
    let m := s.mp p
    let mine := ((s.pcfg p).fch.filter fun x => chIdx (s.pcfg p).die x.2 == ch).map (·.1)
    match m.flow.blk with
    | some b => s.setMp p { m with flow := { m.flow with blk := some { b with bad := b.bad ++ mine } } }
    | none => s) s

/-- CHANNEL_FAULT (R292). -/
def execChannelFault (ch code : Nat) (s : State) : Res :=
  let s := s.faultBlocks ch
  if !faultSuits (s.get Fld.CH_CFG__TYPE ch) code || s.get Fld.CH_STATUS__STATE ch ≠ 1 || s.get Fld.CH_STATUS__FAULT ch = code then .next s
  else .next ((s.put Fld.CH_STATUS__FAULT ch code).firnPost (chDie ch) none { code := 0x217, sev := 2, obj := ch, data := code })

/-- CHANNEL_FAULT_CLEAR (R292); a channel out of service keeps code 0x5 (R281). -/
def execChannelFaultClear (ch : Nat) (s : State) : Res :=
  .next (if s.get Fld.CH_STATUS__STATE ch = 2 then s else s.put Fld.CH_STATUS__FAULT ch 0)

/-! ### Calibrating a channel (R316 to R318, R335) -/

/-- CAL_MEASURE (R316) starts; the reply follows after N samples. -/
def execCalMeasure (c : Chan) (s : State) : Res :=
  .next (s.takeReq c 0x0201 fun d b seq s =>
    let ch := field b 4 2; let n := field b 8 4
    if !zeroOutside b [(0, 5), (8, 11)] || n < 1024 || 16384 < n then s.replyReq c seq 0x0201 stBad []
    else if !chOn d ch then s.replyReq c seq 0x0201 stAbsent []
    else s.setFirn d { s.firn d with measure := (s.firn d).measure ++ [{ chan := c, seq := seq, ch := ch, n := n }] })

/-- The mean × 65,536 and the rms deviation of samples, to the nearest integer, ties up (R316). -/
def calMean (ys : List Int) : Int := divHalfUp (ys.sum * 65536) (max 1 ys.length)
def calRms (ys : List Int) : Nat :=
  let n := max 1 ys.length
  let v := ((n : Int) * (ys.map fun y => y * y).sum - ys.sum * ys.sum).toNat
  (isqrt (4 * v) / n + 1) / 2

/-- CAL_MEASURE_DONE (R316): N samples have been taken, given as ADC and raw word, from the index `first` on; y by stage 6. The oldest
measurement of as many samples is answered. -/
def execCalMeasureDone (d : Firn) (raw : List (Nat × Int)) (first : Nat) (s : State) : Res :=
  match (s.firn d).measure.find? (·.n == raw.length) with
  | none => .next s
  | some m =>
    let ys := raw.map fun x => s.adcY d x.1 x.2
    let s := s.setFirn d { s.firn d with measure := (s.firn d).measure.erase m }
    .next (s.replyReq m.chan m.seq 0x0201 stDone ([0, 0] ++ leInt 8 (calMean ys) ++ leBytes 4 (calRms ys) ++ leBytes 8 first))

/-- R317: the conditions of a Sealed request on a channel, then the change `k`. -/
def State.sealedReq (s : State) (c : Chan) (typ : Nat) (ok : List Byte → Bool) (chan : List Byte → Option Nat)
    (k : Firn → List Byte → Nat → State → State) : State :=
  s.takeReq c typ fun d b seq s =>
    if !ok b then s.replyReq c seq typ stBad []
    else if s.sealed d then s.sealLocked d c seq typ
    else if (chan b).any fun ch => !chOn d ch then s.replyReq c seq typ stAbsent []
    else if (chan b).any s.chBusy || s.calFull d then s.replyReq c seq typ stCapacity []
    else k d b seq s

/-- CAL_WRITE (R316 to R318): new coefficients from the effective index `eff`, the first after the next mark. -/
def execCalWrite (c : Chan) (eff : Nat) (s : State) : Res :=
  .next (s.sealedReq c 0x0202 (fun b => zeroOutside b [(0, 5), (8, 19)]) (fun b => some (field b 4 2)) fun d b seq s =>
    let ch := field b 4 2
    let w (pos : Nat) : W32 := BitVec.ofNat 32 (field b pos 4)
    let old := leBytes 4 (s.reg .CH_GAIN ch).toNat ++ leBytes 4 (s.reg .CH_OFFSET ch).toNat ++ leBytes 4 (s.reg .CH_SCALE ch).toNat
    let s := s.setFirn d { s.firn d with calPend := (s.firn d).calPend ++ [{ ch := ch, coef := some (w 8, w 12, w 16), eff := eff }] }
    let s := s.calRecord d 0x0202 ch eff (old ++ (b.drop 8).take 12)
    s.replyReq c seq 0x0202 stDone ([0, 0] ++ leBytes 4 (s.get Fld.FIRN_CAL_COUNT__COUNT d.num) ++ leBytes 8 eff))

/-- R335: could |τ| exceed 32 samples at 45 Hz? π to 15 places. -/
def tauTooLong (delay phase : Int) : Bool :=
  let pi : Int := 3141592653589793
  decide (32 * 65536 * 90 * pi * 10000000 < delay.natAbs * 90 * pi * 10000000 + phase.natAbs * 65536 * 3178125 * 10000000000000)

/-- CAL_DELAY (R335). -/
def execCalDelay (c : Chan) (eff : Nat) (s : State) : Res :=
  .next (s.sealedReq c 0x0204
    (fun b => zeroOutside b [(0, 5), (8, 15)] && !tauTooLong (signedOf 32 (field b 8 4)) (signedOf 32 (field b 12 4)))
    (fun b => some (field b 4 2)) fun d b seq s =>
      let ch := field b 4 2
      let w (pos : Nat) : W32 := BitVec.ofNat 32 (field b pos 4)
      let old := leBytes 4 (s.reg .CH_DELAY ch).toNat ++ leBytes 4 (s.reg .CH_PHASE ch).toNat
      let s := s.setFirn d { s.firn d with calPend := (s.firn d).calPend ++ [{ ch := ch, align := some (w 8, w 12), eff := eff }] }
      let s := s.calRecord d 0x0204 ch eff (old ++ (b.drop 8).take 8)
      s.replyReq c seq 0x0204 stDone ([0, 0] ++ leBytes 4 (s.get Fld.FIRN_CAL_COUNT__COUNT d.num) ++ leBytes 8 eff))

/-- (q_base − 1) in 0.01 ppm. -/
def baseDev (q : Int × Int) : Int := divHalfEven ((q.1 - q.2) * 100000000) q.2.natAbs

/-- REF_BASELINE (R316, R317): the working reference, and q_base as the mean ratio of the latest 8 comparisons. -/
def execRefBaseline (c : Chan) (s : State) : Res :=
  .next (s.sealedReq c 0x0203 (fun b => zeroOutside b [(0, 4)] && decide (field b 4 1 ≤ 1)) (fun _ => none) fun d b seq s =>
    let f := s.firn d
    let q := if f.ratios.isEmpty then f.qBase else meanFrac f.ratios
    let old := [BitVec.ofNat 8 (s.get Fld.REF_STATUS__WORKING d.num)] ++ leInt 4 (baseDev f.qBase)
    let s := s.setFirn d { f with qBase := q }
    let s := (s.put Fld.REF_STATUS__WORKING d.num (field b 4 1)).put Fld.REF_STATUS__DIVERGED d.num 0
    let s := s.calRecord d 0x0203 0 0 (old ++ [BitVec.ofNat 8 (field b 4 1)] ++ leInt 4 (baseDev q))
    s.replyReq c seq 0x0203 stDone ([0, 0] ++ leBytes 4 (s.get Fld.FIRN_CAL_COUNT__COUNT d.num) ++ leInt 4 (baseDev q)))

/-- R318: pending coefficients take effect at a mark; those before are kept for the 1,280 samples that a replay may read. -/
def State.applyCal (s : State) (d : Firn) : State :=
  let l := (s.firn d).calPend
  let m := (s.firn d).m
  let keep := (s.firn d).coefOld.filter fun x => decide (m ≤ x.2.1 + 1280)
  let s := s.setFirn d { s.firn d with calPend := [], coefOld := keep }
  l.foldl (fun s c =>
    let s := s.setFirn d { s.firn d with coefOld := (s.firn d).coefOld ++ [(c.ch, c.eff, s.coefAt c.ch c.eff)] }
    let s := match c.coef with
      | some (g, o, k) => ((s.setReg .CH_GAIN c.ch g).setReg .CH_OFFSET c.ch o).setReg .CH_SCALE c.ch k
      | none => s
    match c.align with
      | some (dl, ph) => ((s.setReg .CH_DELAY c.ch dl).setReg .CH_PHASE c.ch ph).setReg .CH_DELAY_EFF c.ch (BitVec.ofNat 32 c.eff)
      | none => s) s

/-- The samples of a channel in service from index `old` to `m - 1` enter its ring (R260), the ones the mark brings first (log entry 156); what
the registers show of them (R294, R322). -/
def State.chanSamples (s : State) (d : Firn) (old m : Nat) (words : List Nat) (j : Nat) : State :=
  let i := chIdx d j
  let n := min 1280 (m - old)
  let adc := s.get Fld.CH_STATUS__SERVING i
  let es := (upTo n).map fun k => ringEntry (words.getD (m - old - n + k) (Config.rawWord i (m - n + k)).toNat) adc
  let over_ := (es.filter fun w => bitAt w.toNat 31).length
  let s := s.ringPush d j (m - n) es
  let s := if n = 0 then s else (s.setReg .CH_SAMPLE i (BitVec.ofInt 32 (s.sampleV d j (m - 1)))).setReg .CH_INDEX i (BitVec.ofNat 32 (m - 1))
  (s.putB Fld.CH_STATUS__OVR i (over_ != 0)).bump Fld.CH_OVR_COUNT__COUNT i over_

/-- The channels at the mark that ends a control cycle with index `m`: `raw`: raw words by local channel, from the mark before on. A channel
out of service has no ring. -/
def State.chanMark (s : State) (d : Firn) (old m : Nat) (raw : List (Nat × List Nat)) : State :=
  let on := (s.usedCh d).filter fun j => s.get Fld.CH_STATUS__STATE (chIdx d j) = 1
  let s := s.setFirn d { s.firn d with ring := (s.firn d).ring.filter fun x => on.contains x.1 }
  on.foldl (fun s j => s.chanSamples d old m (tabGet [] raw j) j) s

/-- R314: a power-fail warning or Sleep stops regelation at once: a step is cancelled without an event, a calibration is abandoned (log
entry 186). -/
def State.regelStop (s : State) (d : Firn) : State :=
  (upTo 104).foldl (fun s a =>
    let j := s.get Fld.ADC_STATUS__CHANNEL (adcIdx d a)
    if s.adcSt d a = aIncoming then
      (s.put Fld.ADC_STATUS__STATE (adcIdx d a) aSpare).put Fld.CH_STATUS__INCOMING (chIdx d j) 255
    else if s.adcSt d a = aCalibrating then s.setAdc d a aReserve 15 255
    else s) s

end Sys2Proof.Machine
end

