-- ==== Sys2Proof/Machine/Metering.lean ====
section
/-!
DEFINITION. Machine/Metering.lean: electricity points: sessions, cycles, direction, accumulators, demand, harmonics, reading
(R323 to R364), and the freeze line (R45).
-/
namespace Sys2Proof.Machine

/-! ### Sessions on a point (R58, R327, R328, R349) -/

/-- R324: commodities. -/
def cAc : Nat := 1
def cDc : Nat := 2

def pointFlow (c : PointCfg) : Bool := decide (3 ≤ c.commodity)
/-- R327: the point has no energy path for the D-die to confirm. -/
def noPath (c : PointCfg) : Bool := c.slice.isNone && c.switch.isNone

/-- R388, R390: acquisition begins: what came before gives no interval and no counterpart. -/
def FlowSt.acquisition (f : FlowSt) : FlowSt :=
  { f with acquire := true, acqPairs := 0, acqOpen := none, p := 0, lastA := none, ivals := [], inferred := 0,
           a := { f.a with held := [], last := none }, b := { f.b with held := [], last := none } }

/-- IDLE to ARMED: the session accumulators are cleared and the session start index recorded. -/
def State.armPoint (s : State) (p tariff qLimit : Nat) : State :=
  let c := s.pcfg p
  let f := s.firn c.die
  let m := s.mp p
  let unsealed := s.get Fld.FIRN_STATUS__SEAL c.die.num != 0
  let m := { m with ses := [], sesUnb := [], entry := m.tot, startIdx := f.m, startTime := f.legal f.m, freezeIdx := 0,
                    flags := b2n unsealed, lost := 0, endCause := 0, final := false, recFormed := false, tariff := tariff,
                    qLimit := qLimit, stopIssued := false, pathClosed := noPath c, verified := none, tail := [], lastCyc := none,
                    frozeAt := none, cycled := false, port := (s.starts.find? (·.point == p)).map (·.port),
                    flow := { m.flow.acquisition with rose := none, low := 0, batch := false, stopped := false, above := 0 } }
  let s := ((s.setMp p m).setReg .MP_START_INDEX p (BitVec.ofNat 32 f.m)).setReg .MP_FREEZE_INDEX p 0
  let s := s.putB Fld.FP_STATUS__ACQUIRE p (pointFlow c && (m.flow.par.getD 4 0).toNat != 0)
  s.setMpState p mpArmed

/-- ARMED to METERING at a boundary whose mark has index `n` (R58). -/
def State.meterPoint (s : State) (p n : Nat) : State :=
  (s.setMp p { s.mp p with meterIdx := n, entry := (s.mp p).tot }).setMpState p mpMetering

/-- The stops that wait for a point complete once it is FROZEN (R330). -/
def State.finishStops (s : State) (p : Nat) : State :=
  let w := s.stops.filter (·.point == p)
  let s := { s with stops := s.stops.filter (·.point != p) }
  w.foldl (fun s x => s.complete { t := x.t, status := if x.winner = 0 then stDone else stConflict, result := 1, winner := x.winner }) s

/-- The point is frozen at an index (R45, R328): from METERING its registers are final once the running cycle has ended
(R346); from ARMED at once, with all quantities 0. -/
def State.freezePoint (s : State) (p idx cause : Nat) : State :=
  let st := s.mpState p
  if st = mpMetering || st = mpArmed then
    let s := s.endSession p idx cause
    let s := if st = mpMetering then s.setMp p { s.mp p with final := false } else s
    (s.setMpState p mpFrozen).finishStops p
  else s

/-- The contactor of a point is confirmed closed or open: what its slice shows (R526, R532). -/
def State.contactor (s : State) (p : Nat) (closed : Bool) : State :=
  s.cfg.slices.foldl (fun s x =>
    if x.2.point = some p then
      let c := tabGet {} s.slices x.1
      { s.putB Fld.SLICE_STATUS__CONTACTOR x.1 closed with slices := tabSet s.slices x.1 { c with held := c.held && !closed } }
    else s) s

/-- FREEZE_LINE_EDGE (R45, R46, R62, R126, R397): a point's freeze line rises at a sample index, or falls: its path is closed. The lines
carry an edge while the D-die and the point's Firn die run, and none falls while the auxiliary sense is undetermined. -/
def execFreezeLineEdge (p : Nat) (rising : Bool) (idx : Nat) (s : State) : Res :=
  let m := s.mp p
  let d := (s.pcfg p).die
  let aux := s.cfg.slices.all fun x => x.2.kind == 0 || x.2.point != some p || tabGet .undet s.boot.inputs (.aux x.1) != .undet
  if !s.dieRuns .ddie || !s.linkUp (match d with | .f0 => .freeze0 | .f1 => .freeze1) || !s.dieRuns d.die || (!rising && !aux) then .next s
  else
  let s := s.contactor p (!rising)
  if !rising then .next (s.setMp p { m with pathClosed := true })
  else
    let s := s.setMp p { m with pathClosed := false }
    if s.mpState p = mpOos && m.verified.isSome && m.frozeAt.isNone then .next (s.setMp p { s.mp p with frozeAt := some idx })
    else if s.mpState p ≠ mpMetering then .next s
    else if pointFlow (s.pcfg p) && (s.pcfg p).flowRule then
      let m := s.mp p
      .next (s.setMp p { m with flow := { m.flow with rose := some idx, low := 0 } })
    else .next (s.freezePoint p idx 1)

/-! ### Quantities of a cycle (R340 to R346) -/

/-- K_E of a phase (R341): round(CH_SCALE_U × CH_SCALE_I × T_s × 2⁵² / 3,600), exact from the two scales. -/
def kEnergy (su si : W32) : Nat :=
  let (mu, eu) := f32Parts su; let (mi, ei) := f32Parts si
  (scaledDiv (mu * mi * 256 : Nat) (eu + ei + 52) (8136000 * 3600)).toNat

/-- The K_E of a phase over the samples `b` to `b + n - 1` of a point: the offsets from which each is in force (R318, R357). -/
def State.phaseKs (s : State) (p k b n : Nat) : List (Nat × Nat) :=
  let c := s.pcfg p
  let u := chIdx c.die (c.uch.getD k 0); let i := chIdx c.die (c.ich.getD k 0)
  let offs := ((s.firn c.die).coefOld.filter fun x => (x.1 == u || x.1 == i) && decide (b < x.2.1) && decide (x.2.1 < b + n)).map fun x => x.2.1 - b
  (0 :: offs.eraseDups).map fun o => (o, kEnergy (s.coefAt u (b + o)).scale (s.coefAt i (b + o)).scale)

def dot (x y : List Int) : Int := ((x.zip y).map fun a => a.1 * a.2).sum
def sumSq (x : List Int) : Nat := (x.map fun a => a.natAbs * a.natAbs).sum

/-- The part of a cycle's samples from offset `lo` to offset `hi`. -/
def cutTo (x : List Int) (lo hi : Nat) : List Int := (x.take hi).drop lo

/-- The nearest square root of a number. -/
def nearSqrt (n : Nat) : Nat := (isqrt (4 * n) + 1) / 2

/-- Active energy E, reactive energy and apparent energy of the samples `lo` to `hi - 1` of a cycle, in units of 2⁻⁶⁴
(R341 to R343); `whole`: the samples are the whole cycle. -/
structure CycleE where
  e : Int
  q : Int
  sApp : Nat
deriving DecidableEq, Repr

/-- S_p × K_E of the samples `lo` to `hi - 1`, each part under its own K_E (R341, R357). -/
def phaseEnergy (x : PhaseIn) (lo hi : Nat) : Int :=
  ((x.ks.zip ((x.ks.drop 1).map (·.1) ++ [hi])).map fun y =>
    let a := max lo y.1.1; let b := min hi y.2
    divHalfEven (dot (cutTo x.u a b) (cutTo x.i a b) * y.1.2) (2 ^ 48)).sum

/-- The K_E at a phase's last sample. -/
def phaseK (x : PhaseIn) : Nat := (x.ks.getLast?.map (·.2)).getD 0

/-- Q₁ over a length in 2⁻¹⁶ sample, as reactive energy (R342). -/
def phaseQ (x : PhaseIn) (len16 : Nat) : Int := divHalfEven (x.q1 * len16 * phaseK x) (2 ^ 141)

def phaseEnergies (c : CycleIn) (lo hi : Nat) (whole : Bool) (tri : Bool) : CycleE :=
  let e := (c.phases.map fun x => phaseEnergy x lo hi).sum
  let len16 := if whole && c.len ≠ 0 then c.len else (hi - lo) * 65536
  let q := (c.phases.map fun x => phaseQ x len16).sum
  let sApp := if tri then nearSqrt (e.natAbs * e.natAbs + q.natAbs * q.natAbs)
    else (c.phases.map fun x => nearSqrt (sumSq (cutTo x.u lo hi) * sumSq (cutTo x.i lo hi) * phaseK x * phaseK x / 2 ^ 96)).sum
  { e := e, q := q, sApp := sApp }

/-- R345: what a cycle adds to each position, by its direction. -/
def cycleAdds (x : CycleE) (dc : Bool) : List (Nat × Nat) :=
  let imp := decide (0 ≤ x.e)
  let act := if x.e = 0 then [] else [(b2n (!imp), x.e.natAbs)]
  if dc then act
  else
    let quad := if imp then (if 0 ≤ x.q then 2 else 5) else (if 0 ≤ x.q then 3 else 4)
    act ++ [(quad, x.q.natAbs), (if imp then 6 else 7, x.sApp)]

/-- R350: the rate in force at an index. -/
def State.rateAt (s : State) (p idx : Nat) : Nat :=
  if idx < (s.mp p).rateFrom then (s.mp p).ratePrev else s.get Fld.MP_STATE__RATE p

/-- Add quantities of `n` samples at a rate to totals, session, demand and PEAK (R349, R352, R262). -/
def State.addQuantities (s : State) (p rate b n : Nat) (adds : List (Nat × Nat)) : State :=
  let m := s.mp p
  let put (a : Accs) : Accs := adds.foldl (fun a q => accAdd a (8 * rate + q.1) q.2) a
  s.setMp p { m with tot := put m.tot, ses := put m.ses, dm := if (s.pcfg p).commodity ≤ 2 then { m.dm with cur := m.dm.cur + tabGet 0 adds 0 } else m.dm,
                     peak := peakWith m.peak adds n, tail := ((b, adds.map fun q => (8 * rate + q.1, q.2)) :: m.tail).take 64 }

/-- R58, R346, R357: the indices that a cycle from `b` of `n` samples has on the accumulated side; none where it has none. -/
def State.accWindow (s : State) (p b n : Nat) : Option (Nat × Nat) :=
  let m := s.mp p
  let st := s.mpState p
  let live := st = mpMetering || ((st = mpFrozen || st = mpOos) && !m.final)
  let hi := if st = mpMetering then b + n else min (b + n) m.freezeIdx
  let lo := max b m.meterIdx
  let halted := s.firnHalted (s.pcfg p).die && decide (((s.firn (s.pcfg p).die).haltFrom.getD 0) ≤ b)
  if live && !halted && decide (lo < hi) then some (lo, hi) else none

/-- R346: once the cycle in which the freeze falls has ended, the session registers are final. -/
def State.settle (s : State) (p until_ : Nat) : State :=
  let m := s.mp p
  let ends := if m.verified.isSome then m.frozeAt.any (· ≤ until_) else decide (m.freezeIdx ≤ until_)
  if (s.mpState p = mpFrozen || s.mpState p = mpOos) && !m.final && ends then s.setMp p { m with final := true } else s

/-- R329: import reaches Q_LIMIT: Firn stops the point at Firn rank, once a session. -/
def State.qLimitCheck (s : State) (p : Nat) : State :=
  let m := s.mp p
  if m.qLimit ≠ 0 && !m.stopIssued && s.mpState p = mpMetering && decide (m.qLimit ≤ billing (accSum m.ses 0)) then
    (s.setMp p { m with stopIssued := true }).firnOrder (s.pcfg p).die (.stop p)
  else s

/-- √(Σ x² / n) as a fraction of FS, in the units of Machine/Reals.lean. -/
def rmsFx (sq n : Nat) : Nat := (Fx.sqrt (Fx.ofFrac sq (max 1 n * 2 ^ 60))).toNat

/-- R364: a running ENERGY_MEASURE takes a whole cycle. -/
def State.measureCycle (s : State) (p : Nat) (c : CycleIn) (n : Nat) : State :=
  match (s.mp p).meas with
  | none => s
  | some x =>
    if x.n ≤ x.done then s
    else
      let first := if x.done = 0 then c.b else x.first
      let len16 := if c.len ≠ 0 then c.len else n * 65536
      let one (t : List (Nat × (Int × Int × Nat × Nat))) (y : PhaseIn × Nat) :=
        let o := tabGet (0, 0, 0, 0) t y.2
        tabSet t y.2 (o.1 + phaseEnergy y.1 0 n, o.2.1 + phaseQ y.1 len16, o.2.2.1 + rmsFx (sumSq y.1.u) n, o.2.2.2 + rmsFx (sumSq y.1.i) n)
      s.setMp p { s.mp p with meas := some { x with done := x.done + 1, first := first, sums := c.phases.zipIdx.foldl one x.sums } }

/-! ### Voltage, rotation and mode (R337 to R339, R344) -/

/-- Is the rms of samples of a channel with this CH_SCALE below 10 % of U_n (R337, R338)? -/
def belowTenth (scale un : W32) (sq n : Nat) : Bool :=
  let (ms, es) := f32Parts scale; let (mu, eu) := f32Parts un
  scaledLt (100 * ms * ms * sq) (2 * es - 60) (mu * mu * n) (2 * eu)

/-- R338: the mask of lost voltage channels of a cycle, with VOLTAGE_LOSS and VOLTAGE_RETURN. -/
def State.voltageCheck (s : State) (p : Nat) (mask : Nat) : State :=
  let m := s.mp p
  let fresh := mask ||| m.vmask
  if mask ≠ 0 then
    let s := (s.setMp p { m with vmask := fresh, vgood := 0 }).put Fld.MP_STATE__VLOSS p 1
    if fresh ≠ m.vmask then s.postPt p { code := 0x220, sev := 1, obj := p, data := mask } else s
  else if m.vmask = 0 then s
  else if m.vgood + 1 < 10 then s.setMp p { m with vgood := m.vgood + 1 }
  else ((s.setMp p { m with vmask := 0, vgood := 0 }).put Fld.MP_STATE__VLOSS p 0).postPt p { code := 0x221, sev := 0, obj := p }

/-- R339: ten consecutive cycles of one rotation set or clear PHSEQ. -/
def State.rotationCheck (s : State) (p rot : Nat) : State :=
  let m := s.mp p
  let run := if rot ≠ 0 && rot = m.seqDir then m.seqRun + 1 else if rot ≠ 0 then 1 else 0
  let s := s.setMp p { m with seqDir := rot, seqRun := min run 10 }
  if run < 10 then s
  else if rot = 1 then
    if s.flag Fld.MP_STATE__PHSEQ p then s
    else (s.put Fld.MP_STATE__PHSEQ p 1).postPt p { code := 0x223, sev := 1, obj := p }
  else s.put Fld.MP_STATE__PHSEQ p 0

/-- R340, R344: the mirrors of the latest cycle, each the nearest single-precision value (log entry 183). -/
def State.cycleMirrors (s : State) (p : Nat) (c : CycleIn) (x : CycleE) (n : Nat) : State :=
  let cf := s.pcfg p
  let rms (l : List Nat) (k : Nat) (y : List Int) : W32 :=
    match l[k]? with | some j => Fx.rootF32 (s.reg .CH_SCALE (chIdx cf.die j)) (sumSq y) (n * 2 ^ 60) | none => 0
  let s := c.phases.zipIdx.foldl (fun s y =>
    (s.setReg .MP_URMS (3 * p + y.2) (rms cf.uch y.2 y.1.u)).setReg .MP_IRMS (4 * p + y.2) (rms cf.ich y.2 y.1.i)) s
  let s := if c.neutral.isEmpty then s else s.setReg .MP_IRMS (4 * p + 3) (rms cf.neutral.toList 0 c.neutral)
  let power (z : Int) : W32 := Fx.fracF32 (z * (3600 * 8136000)) (2 ^ 64 * n * 256)
  let s := (s.setReg .MP_P p (power x.e)).setReg .MP_Q p (power x.q)
  let s := (s.setReg .MP_S p (power x.sApp)).setReg .MP_PF p (if x.sApp = 0 then 0 else Fx.fracF32 x.e x.sApp)
  s.setReg .MP_FREQ p (if c.fixed || c.len = 0 then 0 else BitVec.ofInt 32 (divHalfEven (31781250 * 65536) c.len))

/-- R283: what a cycle holds from the verified index of a failed slice to the freeze goes to the unbilled-outage register. -/
def State.afterVerified (s : State) (p : Nat) (c : CycleIn) (n : Nat) (tri dc : Bool) : State :=
  let m := s.mp p
  match m.verified with
  | none => s
  | some v =>
    let lo := max (max c.b v) m.meterIdx
    let hi := match m.frozeAt with | some f => min (c.b + n) f | none => c.b + n
    if m.final || hi ≤ lo then s
    else
      let adds := cycleAdds (phaseEnergies c (lo - c.b) (hi - c.b) false tri) dc
      (s.addUnbilled p adds).unbilledRecord (s.pcfg p).die p 3 (hi - lo) adds

def accSub (a : Accs) (i v : Nat) : Accs := tabSet a i (accGet a i - v)

/-- R283: quantities accumulated from index `v` on are taken back out of session and totals: a cycle that begins at or after
`v` whole, the newest one that straddles it split there; they go to the unbilled-outage register. -/
def State.takeBack (s : State) (p v : Nat) : State :=
  let m := s.mp p
  let cf := s.pcfg p
  let dc := cf.commodity = cDc
  let tri := cf.topology = 3
  let gone := m.tail.filter fun x => v ≤ x.1
  let rest := m.tail.filter fun x => x.1 < v
  let cutIt : Option (CycleIn × List (Nat × Nat)) := match m.lastCyc, rest with
    | some c, x :: _ => if c.b = x.1 && v < c.b + (match c.phases with | [] => 0 | y :: _ => y.u.length) then some (c, x.2) else none
    | _, _ => none
  let minus (a : Accs) (l : List (Nat × Nat)) : Accs := l.foldl (fun a q => accSub a q.1 q.2) a
  let plus (a : Accs) (l : List (Nat × Nat)) : Accs := l.foldl (fun a q => accAdd a q.1 q.2) a
  let all := gone.flatMap (·.2)
  let m := { m with tot := minus m.tot all, ses := minus m.ses all, tail := rest }
  let unb := all.map fun q => (q.1 % 8, q.2)
  match cutIt with
  | none => (s.setMp p m).addUnbilled p unb
  | some (c, old) =>
    let n := match c.phases with | [] => 0 | y :: _ => y.u.length
    let rate := s.rateAt p c.b
    let keep := (cycleAdds (phaseEnergies c (max c.b m.meterIdx - c.b) (v - c.b) false tri) dc).map fun q => (8 * rate + q.1, q.2)
    let after := cycleAdds (phaseEnergies c (v - c.b) n false tri) dc
    let m := { m with tot := plus (minus m.tot old) keep, ses := plus (minus m.ses old) keep, tail := (c.b, keep) :: rest.drop 1 }
    (s.setMp p m).addUnbilled p (unb ++ after)

/-- R283: the point of a failed slice goes OUT_OF_SERVICE; a session ends at the last verified index `v`, and the record
waits for the freeze. Pulse test outputs on the point report LOST. -/
def State.failPoint (s : State) (p v : Nat) : State :=
  let st := s.mpState p
  let d := (s.pcfg p).die
  let s := if st = mpMetering then
      let before := (s.mp p).sesUnb
      let s := (s.takeBack p v).endSession p v 5
      let s := s.setMp p { s.mp p with final := false, verified := some v, frozeAt := none }
      let q := tabGet 0 (s.mp p).sesUnb 0 - tabGet 0 before 0
      s.unbilledRecord d p 3 ((s.firn d).m - v) [(0, q)]
    else if st = mpArmed then s.endSession p v 5 else s
  let s := s.setMp p { s.mp p with oos := 1 :: (s.mp p).oos.filter (· != 1) }
  let s := (upTo 8).foldl (fun s k =>
    let i := 8 * d.num + k
    if s.flag Fld.PTO_CFG__EN i && s.get Fld.PTO_CFG__POINT i = p then s.put Fld.PTO_CFG__LOST i 1 else s) s
  s.setMpState p mpOos

/-- A channel's signed mean in its engineering unit, as single precision. -/
def meanF32 (scale : W32) (sum : Int) (n : Nat) : W32 := Fx.fracF32 (sum * f32Int scale) (n * 2 ^ 179)

/-- A cycle or block of an electricity point ends (R332 to R350): energies, direction, accumulators, and what it shows. -/
def State.cycle (s : State) (p : Nat) (c : CycleIn) (dc : Bool) : State :=
  let cf := s.pcfg p
  let n := match c.phases with | [] => 0 | x :: _ => x.u.length
  let tri := cf.topology = 3
  let whole := phaseEnergies c 0 n true tri
  let s := match s.accWindow p c.b n with
    | none => s
    | some (lo, hi) =>
      let full := lo = c.b && hi = c.b + n
      let x := if full then whole else phaseEnergies c (lo - c.b) (hi - c.b) false tri
      let s := s.addQuantities p (s.rateAt p c.b) c.b (hi - lo) (cycleAdds x dc)
      s.setMp p { s.mp p with lastCyc := some c }
  let s := (s.setMp p { s.mp p with cycled := true }).afterVerified p c n tri dc
  let s := s.putB Fld.MP_STATE__DIR p (decide (whole.e < 0))
  let s := (s.settle p (c.b + n)).qLimitCheck p
  let s := s.measureCycle p c n
  if dc then
    let mean (l : List Nat) (x : List Int) : W32 := match l with | j :: _ => meanF32 (s.reg .CH_SCALE (chIdx cf.die j)) x.sum n | [] => 0
    match c.phases with
    | x :: _ => ((s.setReg .MP_URMS (3 * p) (mean cf.uch x.u)).setReg .MP_IRMS (4 * p) (mean cf.ich x.i)).setReg .MP_FREQ p 0
    | [] => s
  else
    let low (k : Nat) (x : PhaseIn) : Bool := match cf.uch[k]? with
      | some j => belowTenth (s.reg .CH_SCALE (chIdx cf.die j)) cf.un (sumSq x.u) n
      | none => false
    let mask := c.phases.zipIdx.foldl (fun a y => if low y.2 y.1 then a + 2 ^ y.2 else a) 0
    let s := s.cycleMirrors p c whole n
    let s := s.voltageCheck p mask
    let s := if cf.topology = 2 then s.rotationCheck p c.rot else s
    -- R337: low UA leaves crossing mode
    if bitAt mask 0 then (s.put Fld.MP_STATE__FIXED p 1).setReg .MP_FREQ p 0 else s

/-! ### Cycles from samples (R332 to R338, R354) -/

/-- R333: the length that the alignment takes the frequency from: that of the previous cycle, or the nominal one. -/
def State.alignLen (s : State) (p : Nat) : Nat :=
  let n := (s.mp p).cyc.prev
  if n = 0 then nominalLen (s.pcfg p).nom60 else n

/-- The samples `b` to `e - 1` of a point as a cycle that began at `t` and is `len` long; with `q1` given, Q₁ is not measured. -/
def State.formCycle (s : State) (p b e t len : Nat) (fixed : Bool) (q1 : Option (List Int)) : CycleIn :=
  let c := s.pcfg p
  let n16 := s.alignLen p
  let first (j : Nat) : Int × Int := dft (s.resampled c.die j n16 t len) 512 1
  let phase (k : Nat) : PhaseIn :=
    let u := c.uch.getD k 0; let i := c.ich.getD k 0
    { u := s.stream c.die u n16 b (e - b), i := s.stream c.die i n16 b (e - b), ks := s.phaseKs p k b (e - b),
      q1 := match q1 with | some l => l.getD k 0 | none => reactive (first u) (first i) }
  { b := b, len := len, fixed := fixed, phases := (upTo c.uch.length).map phase,
    neutral := match c.neutral with | some j => s.stream c.die j n16 b (e - b) | none => [],
    rot := match q1 with | none => if c.topology = 2 then rotation (first (c.uch.getD 0 0)) (first (c.uch.getD 1 0)) else 0 | some _ => 0 }

/-- The channels of a point in the order of the harmonic mask, and the mask (R361). -/
def harmChans (c : PointCfg) : List Nat := c.uch ++ c.ich ++ c.neutral.toList
def harmMaskOf (c : PointCfg) : Nat := 2 ^ c.uch.length - 1 + (2 ^ c.ich.length - 1) * 8 + (if c.neutral.isSome then 64 else 0)

/-- The cycles of a harmonic window (R354). -/
def harmCycles (c : PointCfg) : Nat := if c.nom60 then 12 else 10

/-- R354: a cycle's 512 points of every channel join the window; one that is complete gives way to the next. -/
def State.harmCycle (s : State) (p t len : Nat) : State :=
  let c := s.pcfg p; let m := s.mp p
  if !c.harm then s
  else
    let x := if harmCycles c ≤ m.cyc.win then { m.cyc with win := 0, pts := [] } else m.cyc
    let new := (harmChans c).map fun j => s.resampled c.die j (s.alignLen p) t len
    let pts := new.zipIdx.map fun y => x.pts.getD y.2 [] ++ y.1
    s.setMp p { m with cyc := { x with win := x.win + 1, winFirst := if x.win = 0 then x.b else x.winFirst, pts := pts } }

/-- Fixed-block mode begins at an index (R337): t_k equals b_k; no window is formed (R354). -/
def CycSt.fix (x : CycSt) (e : Nat) : CycSt :=
  { x with on := true, tk := e * 65536, b := e, prev := 0, last := none, good := 0, ign := 0, win := 0, pts := [] }

/-- The running cycle or block of a point ends before the index `e`, at the time `t`; in fixed-block mode its length is its sample count. -/
def State.endCycle (s : State) (p e t : Nat) : State :=
  let x := (s.mp p).cyc
  let fixed := s.flag Fld.MP_STATE__FIXED p
  let len := if fixed then (e - x.b) * 65536 else t - x.tk
  let c := s.formCycle p x.b e x.tk len fixed none
  let s := if fixed then s.setMp p { s.mp p with harmCount := 0 } else s.harmCycle p x.tk len
  let s := s.cycle p c false
  let y := { (s.mp p).cyc with b := e, tk := t, prev := if fixed then 0 else len, q1 := c.phases.map (·.q1), ign := 0 }
  if s.flag Fld.MP_STATE__FIXED p && !fixed then s.setMp p { s.mp p with cyc := y.fix e, harmCount := 0 }
  else s.setMp p { s.mp p with cyc := y }

/-- R337: no cycle is longer than 707 samples: a block that would be ends there. -/
def State.endBlock (s : State) (p e : Nat) : State :=
  let b := (s.mp p).cyc.b
  let s := if b + 707 < e then s.endCycle p (b + 707) ((b + 707) * 65536) else s
  if (s.mp p).cyc.b < e then s.endCycle p e (e * 65536) else s

/-- ⌈t⌉ of a time in 2⁻¹⁶ sample. -/
def ceilT (t : Nat) : Nat := (t + 65535) / 65536

/-- R337: FREQUENCY_RANGE's DATA: the frequency implied by the latest ignored crossing, in 0.1 Hz; 0 without one. -/
def freqImplied (ign : Nat) : Nat := if ign = 0 then 0 else min 65535 (divHalfUp (3178125 * 65536 : Nat) (10 * ign)).toNat

/-- R337: no crossing within 707 samples of b_k: the cycle ends there and fixed-block mode begins. A point that has seen no crossing yet
enters it at the latest mark (log entry 188). -/
def State.leaveCrossing (s : State) (p : Nat) : State :=
  let x := (s.mp p).cyc
  let d := (s.pcfg p).die
  let e := if x.on then x.b + 707 else (s.firn d).m
  let s := if x.on then s.endCycle p e (e * 65536) else s
  let s := (s.put Fld.MP_STATE__FIXED p 1).setReg .MP_FREQ p 0
  (s.setMp p { s.mp p with cyc := (s.mp p).cyc.fix e, harmCount := 0 }).postPt p { code := 0x222, sev := 1, obj := p, data := freqImplied x.ign }

/-- Is the rms of UA over an interval between crossings at or above 10 % of U_n (R337)? -/
def State.intervalGood (s : State) (p b e : Nat) : Bool :=
  let c := s.pcfg p
  let j := c.uch.getD 0 0
  !belowTenth (s.reg .CH_SCALE (chIdx c.die j)) c.un (sumSq (s.stream c.die j (s.alignLen p) b (e - b))) (e - b)

/-- R337: a crossing in fixed-block mode: the third good one in a row ends the block in progress, and crossing mode returns. -/
def State.fixedCrossing (s : State) (p t : Nat) : State :=
  let x := (s.mp p).cyc
  match x.last with
  | none => s.setMp p { s.mp p with cyc := { x with last := some t } }
  | some l =>
    if t < l + 489 * 65536 then s
    else
      let good := if t ≤ l + 707 * 65536 && s.intervalGood p (ceilT l) (ceilT t) then x.good + 1 else 0
      let s := s.setMp p { s.mp p with cyc := { x with last := some t, good := good } }
      if good < 3 then s
      else
        let s := (s.endBlock p (ceilT t)).put Fld.MP_STATE__FIXED p 0
        s.setMp p { s.mp p with cyc := { (s.mp p).cyc with tk := t, b := max (s.mp p).cyc.b (ceilT t), last := none, good := 0 } }

/-- R336: a crossing in crossing mode: one less than 489 samples after t_k is ignored; one that comes too late ends nothing. -/
def State.crossing (s : State) (p t : Nat) : State :=
  let x := (s.mp p).cyc
  if !x.on then s.setMp p { s.mp p with cyc := { x with on := true, tk := t, b := ceilT t } }
  else if t < x.tk + 489 * 65536 then s.setMp p { s.mp p with cyc := { x with ign := t - x.tk } }
  else if x.b + 707 < ceilT t then (s.leaveCrossing p).fixedCrossing p t
  else s.endCycle p (ceilT t) t

/-- CYCLE_END (R336 to R350): `cross`: the time of a positive-going crossing of the band-passed UA in 2⁻¹⁶ sample (log entry 189); none: a
fixed block of 636 or 530 samples ends. -/
def execCycleEnd (p : Nat) (cross : Option Nat) (s : State) : Res :=
  if (s.pcfg p).commodity ≠ cAc || !s.firnLive (s.pcfg p).die then .next s
  else .next (match cross with
    | some t => if s.flag Fld.MP_STATE__FIXED p then s.fixedCrossing p t else s.crossing p t
    | none => if s.flag Fld.MP_STATE__FIXED p then s.endBlock p ((s.mp p).cyc.b + (if (s.pcfg p).nom60 then 530 else 636)) else s)

/-- FIXED_BLOCK_ENTRY (R337). -/
def execFixedBlockEntry (p : Nat) (s : State) : Res :=
  if (s.pcfg p).commodity ≠ cAc || !s.firnLive (s.pcfg p).die || s.flag Fld.MP_STATE__FIXED p then .next s
  else .next (s.leaveCrossing p)

/-- DC_BLOCK_END (R348): the block of 32 samples that holds the index `b` ends. -/
def execDcBlockEnd (p b : Nat) (s : State) : Res :=
  if (s.pcfg p).commodity ≠ cDc || !s.firnLive (s.pcfg p).die then .next s
  else .next (s.cycle p (s.formCycle p (b / 32 * 32) (b / 32 * 32 + 32) 0 0 true (some [])) true)

/-! ### Demand (R351 to R353) -/

/-- Demand in mW of an energy over DI minutes, truncated (R352). -/
def demandMw (e di : Nat) : Nat := e * 60000 / (max 1 di * 2 ^ 64)

/-- DEMAND_SUBINTERVAL_END (R352) at a legal time. -/
def execDemandSubintervalEnd (p t : Nat) (s : State) : Res :=
  let c := s.pcfg p
  let m := s.mp p
  -- R425: a boundary already taken is not taken again
  if (c.commodity ≠ cAc && c.commodity ≠ cDc) || !s.firnLive c.die || (m.dm.lastEnd ≠ 0 && t ≤ m.dm.lastEnd) then .next s
  else
    let subs := (m.dm.cur :: m.dm.subs).take (max 1 c.sub)
    let dem := demandMw subs.sum c.di
    let r := s.get Fld.MP_STATE__RATE p
    let o := tabGet {} m.dm.rates r
    let o := { o with latest := dem }
    let o := if o.max < dem then { o with max := dem, time := t } else o
    let rates := tabSet m.dm.rates r o
    let top := rates.foldl (fun a x => if a.1 < x.2.max then (x.2.max, x.2.time) else a) (0, 0)
    let s := s.setMp p { m with dm := { subs := subs, cur := 0, lastEnd := t, rates := rates } }
    let s := (s.setReg .MP_DEMAND p (Fx.fracF32 dem 1000)).setReg .MP_MD p (Fx.fracF32 top.1 1000)
    .next ((s.setReg .MP_MD_TIME (2 * p) (BitVec.ofNat 32 top.2)).setReg .MP_MD_TIME (2 * p + 1) (BitVec.ofNat 32 (top.2 / 2 ^ 32)))

/-- The point a request names, where the die owns it (R454). -/
def State.ownsPoint (s : State) (d : Firn) (p : Nat) : Bool := (tabFind s.cfg.points p).any fun c => c.die == d && c.commodity != 0

/-- MD_RESET (R353). -/
def execMdReset (c : Chan) (s : State) : Res :=
  .next (s.takeReq c 0x0207 fun d b seq s =>
    let p := field b 4 2
    if !zeroOutside b [(0, 5)] then s.replyReq c seq 0x0207 stBad []
    else if !s.ownsPoint d p then s.replyReq c seq 0x0207 stAbsent []
    else if s.morRefuses d 8 then (s.morRefused d).replyReq c seq 0x0207 stCapacity []
    else
      let m := s.mp p
      let rates := m.dm.rates.map fun x => (x.1, { x.2 with prev := x.2.max, max := 0, time := 0 })
      let s := s.setMp p { m with dm := { m.dm with rates := rates } }
      let n := (s.reg .MP_MD_RESETS p).toNat + 1
      let s := ((s.setReg .MP_MD_RESETS p (BitVec.ofNat 32 n)).setReg .MP_MD p 0)
      let s := (s.setReg .MP_MD_TIME (2 * p) 0).setReg .MP_MD_TIME (2 * p + 1) 0
      let s := (s.moraine d 0x03 p ([5, 0, 0, 0] ++ leBytes 4 n)).postPt p { code := 0x224, sev := 0, obj := p, data := n % 65536 }
      s.replyReq c seq 0x0207 stDone [])

/-! ### Harmonics (R354, R355) -/

/-- Twice G_h², from the squares of the bins (R355), with W bins an order. -/
def groupSq (w : Nat) (c2 : List Nat) (h : Nat) : Nat :=
  let at_ (k : Nat) : Nat := c2.getD k 0
  at_ (w * h - w / 2) + 2 * ((upTo (w - 1)).map fun i => at_ (w * h - w / 2 + 1 + i)).sum + at_ (w * h + w / 2)

/-- The squares of the bins of a window's points up to order 63, in units of 2⁻⁶⁰: C_k² is 2 / points² of it. -/
def harmBins (w : Nat) (x : List Int) : List Nat :=
  (upTo (64 * w)).map fun k => let z := dft x (512 * w) k; z.1.natAbs * z.1.natAbs + z.2.natAbs * z.2.natAbs

/-- The 64 words of a channel: THD, then G_1 to G_63 (R355), each the nearest single-precision value. -/
def harmWords (w : Nat) (scale : W32) (c2 : List Nat) : List W32 :=
  let g := (upTo 63).map fun h => groupSq w c2 (h + 1)
  Fx.rootF32 0x3F800000 (g.drop 1).sum (g.getD 0 0) :: g.map fun x => Fx.rootF32 scale x ((512 * w) * (512 * w) * 2 ^ 120)

/-- HARMONIC_WINDOW_END (R354): a complete window gives the values that POINT_READ shows. -/
def execHarmonicWindowEnd (p : Nat) (s : State) : Res :=
  let c := s.pcfg p; let m := s.mp p
  let w := harmCycles c
  if c.commodity ≠ cAc || !c.harm || m.cyc.win ≠ w || !s.firnLive c.die then .next s
  else
    let one (x : List Int × Nat) : List W32 := harmWords w (s.reg .CH_SCALE (chIdx c.die ((harmChans c).getD x.2 0))) (harmBins w x.1)
    .next (s.setMp p { m with harmFirst := m.cyc.winFirst, harmCount := w, harmMask := harmMaskOf c, harm := m.cyc.pts.zipIdx.map one,
                              cyc := { m.cyc with win := 0, pts := [] } })

/-! ### Energy calibration (R364) -/

/-- ENERGY_MEASURE: a new measurement from the next cycle boundary, whose index `first` the reply gives. -/
def execEnergyMeasure (c : Chan) (first : Nat) (s : State) : Res :=
  .next (s.takeReq c 0x0205 fun d b seq s =>
    let p := field b 4 2; let n := field b 8 4
    if !zeroOutside b [(0, 5), (8, 11)] || n < 10 || 100000 < n then s.replyReq c seq 0x0205 stBad []
    else if !s.ownsPoint d p then s.replyReq c seq 0x0205 stAbsent []
    else if s.mpState p = mpOos then s.replyReq c seq 0x0205 stCapacity []
    else (s.setMp p { s.mp p with meas := some { n := n, first := first } }).replyReq c seq 0x0205 stDone ([0, 0] ++ leBytes 8 first))

/-- ENERGY_RESULT. -/
def execEnergyResult (c : Chan) (s : State) : Res :=
  .next (s.takeReq c 0x0206 fun d b seq s =>
    let p := field b 4 2
    if !zeroOutside b [(0, 5)] then s.replyReq c seq 0x0206 stBad []
    else if !s.ownsPoint d p then s.replyReq c seq 0x0206 stAbsent []
    else if s.mpState p = mpOos then s.replyReq c seq 0x0206 stCapacity []
    else
      let x := (s.mp p).meas.getD { n := 1 }
      let rms (l : List Nat) (k sum : Nat) : W32 :=
        match l[k]? with
        | some j => Fx.fracF32 (sum * f32Int (s.reg .CH_SCALE (chIdx d j)) : Nat) (max 1 x.done * 2 ^ 309)
        | none => 0
      let phase (k : Nat) : List Byte := match tabFind x.sums k with
        | some o => leInt 8 (Int.tdiv (o.1 * 1000000000) (2 ^ 64)) ++ leInt 8 (Int.tdiv (o.2.1 * 1000000000) (2 ^ 64))
            ++ leBytes 4 (rms (s.pcfg p).uch k o.2.2.1).toNat ++ leBytes 4 (rms (s.pcfg p).ich k o.2.2.2).toNat
        | none => List.replicate 24 0
      s.replyReq c seq 0x0206 stDone ([BitVec.ofNat 8 (b2n (decide (x.n ≤ x.done))), 0] ++ leBytes 4 x.done ++ leBytes 4 x.first
        ++ phase 0 ++ phase 1 ++ phase 2))

/-! ### Checkpoints and reading (R262, R361) -/

/-- What a checkpoint of a point holds at an index. -/
def State.snapshot (s : State) (p idx : Nat) : Ckpt :=
  let m := s.mp p
  { lastIdx := idx, time := (s.firn (s.pcfg p).die).legal idx, tot := m.tot, ses := m.ses, dm := m.dm, peak := m.peak,
    trim := m.flow.trim, state := s.mpState p, startIdx := m.startIdx, freezeIdx := m.freezeIdx, cyc := m.cyc,
    fixed := s.flag Fld.MP_STATE__FIXED p, rot := (m.vmask, m.vgood, m.seqDir, m.seqRun), flow := m.flow }

/-- R362: MP_BILL from the newest valid checkpoint. -/
def State.billMirror (s : State) (p : Nat) (k : Ckpt) : State :=
  (upTo 8).foldl (fun s q =>
    let b := billing (accSum k.tot q)
    (s.setReg .MP_BILL_LO (8 * p + q) (BitVec.ofNat 32 b)).setReg .MP_BILL_HI (8 * p + q) (BitVec.ofNat 32 (b / 2 ^ 32))) s

/-- A checkpoint of a point (R262, R263): the point's two slots are used in turn; PEAK starts anew. -/
def State.checkpoint (s : State) (p idx : Nat) : State :=
  let k := s.snapshot p idx
  let m := s.mp p
  (s.setMp p { m with ckOld := m.ck, ck := some k, peak := [] }).billMirror p k

def accBytes (a : Accs) (rates : Nat) : List Byte := (upTo (8 * rates)).flatMap fun i => leBytes 16 (accGet a i)

/-- One section of POINT_READ (R361); none where it does not apply. -/
def State.section_ (s : State) (p sec : Nat) : Option (List Byte) :=
  let c := s.pcfg p
  let m := s.mp p
  let k := m.ck.getD (s.snapshot p m.meterIdx)
  if c.commodity = 0 then none
  else if sec = 0 then some (leBytes 8 k.lastIdx ++ leBytes 8 k.time ++ accBytes k.tot c.rates)
  else if sec = 1 then some (leBytes 8 k.lastIdx ++ leBytes 8 k.startIdx ++ leBytes 8 k.freezeIdx ++ accBytes k.ses c.rates)
  else if sec = 2 && c.commodity = cAc && c.harm then
    some (leBytes 8 m.harmFirst ++ leBytes 2 m.harmCount ++ leBytes 2 m.harmMask ++ m.harm.flatMap fun ws => ws.flatMap fun w => leBytes 4 w.toNat)
  else if sec = 3 && !pointFlow c then
    some (leBytes 8 k.lastIdx ++ leBytes 8 k.dm.lastEnd ++ (upTo c.rates).flatMap fun r =>
      let x := tabGet {} k.dm.rates r
      leBytes 8 x.max ++ leBytes 8 x.time ++ leBytes 8 x.prev ++ leBytes 8 x.latest)
  else none

/-- POINT_READ (R361). -/
def execPointRead (d : Desc) (s : State) : Res :=
  .next (s.withDesc 0x13 d fun t s => match s.section_ d.target.toNat (DescF.par d 0 1) with
    | none => s.fin t stCapacity 1
    | some b => (s.writeBuf d b).fin t stDone b.length)

end Sys2Proof.Machine
end

