-- ==== Sys2Proof/Machine/Flow.lean ====
section
/-!
DEFINITION. Machine/Flow.lean: steam, compressed air and water points: parameter sets, blocks, pulses, batch close, freezing and
proving (R365 to R402). The equations are evaluated in Machine/Reals.lean and Machine/Fluid.lean.
-/
namespace Sys2Proof.Machine

/-! ### The parameter set (R368, R369) -/

def parByte (b : List Byte) (k : Nat) : Nat := (b.getD k 0).toNat
def parWord (b : List Byte) (k : Nat) : W32 := BitVec.ofNat 32 (field b k 4)

/-- An order of single-precision values; not a number compares with nothing. -/
def f32Key (w : W32) : Int := if bitAt w.toNat 31 then -((w.toNat % 2 ^ 31 : Nat) : Int) else (w.toNat : Int)
def f32Le (a b : W32) : Bool := bitsAt a.toNat 23 8 != 255 && bitsAt b.toNat 23 8 != 255 && decide (f32Key a ≤ f32Key b)
def f32In (w lo hi : W32) : Bool := f32Le lo w && f32Le w hi

/-- The used rows of MF_TABLE: frequency and meter factor. -/
def mfRows (b : List Byte) : List (W32 × W32) :=
  ((upTo 10).map fun i => (parWord b (56 + 8 * i), parWord b (60 + 8 * i))).filter fun r => r.1 != 0

def ascending : List (W32 × W32) → Bool
  | a :: b :: r => f32Le a.1 b.1 && a.1 != b.1 && ascending (b :: r)
  | _ => true

/-- R369: does a set keep every rule? ISO 5167's limits on D, d and β are entry 9 of `Config.table` (log entry 2). -/
def parOk (b : List Byte) : Bool :=
  field b 0 2 == 1 && decide (parByte b 2 ≤ 9) && decide (1 ≤ parByte b 3 ∧ parByte b 3 ≤ 4) && decide (parByte b 4 ≤ 4)
  && decide (parByte b 5 < 8) && decide (45 ≤ parByte b 6 ∧ parByte b 6 ≤ 135) && decide (5 ≤ parByte b 7 ∧ parByte b 7 ≤ 24)
  && decide (parByte b 7 * 36 < parByte b 6 * 10)
  && (parByte b 2 == 0 || Config.table 9 [(parByte b 2 : Int), Fx.ofF32 (parWord b 8), Fx.ofF32 (parWord b 12)] != 0)
  && f32In (parWord b 16) 0 0x37FBA882 && f32In (parWord b 20) 0 0x37FBA882
  && f32In (parWord b 28) 0x3F800000 0x3FD9999A && f32In (parWord b 40) 0xC2700000 0x42700000
  && ascending (mfRows b) && (parByte b 4 == 0 || !(mfRows b).isEmpty)
  && decide (field b 136 4 ≤ 600) && decide (1 ≤ field b 148 4 ∧ field b 148 4 ≤ 1000)
  && f32Le 0x3F000000 (parWord b 144) && f32Le (parWord b 144) (parWord b 140) && parWord b 144 != parWord b 140
  && f32Le (parWord b 140) 0x3F7AE148

/-- What the registers show of a flow point's parameter set (R404, R405). -/
def State.mirrorParams (s : State) (p : Nat) : State :=
  let c := s.pcfg p
  let b := (s.mp p).flow.par
  if !pointFlow c then s
  else
    let s := (s.put Fld.FP_STATUS__PROPERTY p (parByte b 3)).put Fld.FP_STATUS__LEVEL p (parByte b 4)
    match c.pulse with
    | some i => s.put Fld.PI_CFG__LEVEL i (parByte b 4)
    | none => s

/-- PARAM_HASH: the first 32 bits of the set's SHA-256 (log entry 3). -/
def parHash (b : List Byte) : Nat := Config.digest 1 (b.map (·.toNat)) % 2 ^ 32

/-- FLOW_PARAM (R368), effective at the index `eff`. -/
def execFlowParam (c : Chan) (eff : Nat) (s : State) : Res :=
  .next (s.takeReq c 0x020A fun d b seq s =>
    let p := field b 4 2
    let set := (b.drop 8).take 200
    let st := s.mpState p
    let cf := tabFind s.cfg.points p
    if !zeroOutside b [(0, 5), (8, 207)] || !parOk set then s.replyReq c seq 0x020A stBad []
    else if s.sealed d then s.sealLocked d c seq 0x020A
    else if 256 ≤ p || cf.any (fun x => x.die != d) then s.replyReq c seq 0x020A stAbsent []
    else if st = mpArmed || st = mpMetering || st = mpFrozen || s.calFull d then s.replyReq c seq 0x020A stCapacity []
    else
      let m := s.mp p
      let h := parHash set
      let s := s.setMp p { m with flow := { m.flow with par := set, hash := h, trim := 0 } }
      let s := (s.setReg .FP_TRIM p 0).mirrorParams p
      let s := s.calRecord d 0x020A p eff (leBytes 4 m.flow.hash ++ leBytes 4 h)
      s.replyReq c seq 0x020A stDone ([0, 0] ++ leBytes 4 (s.get Fld.FIRN_CAL_COUNT__COUNT d.num) ++ leBytes 8 eff ++ leBytes 4 h))

/-! ### Quantities -/

/-- Does the meter count mass? -/
def massMeter (b : List Byte) : Bool := bitAt (parByte b 5) 2

/-- The meter factor at a pulse interval P in CLK_MOD periods as a fraction (R391): linear between the used rows, held
outside them. -/
def meterFactor (b : List Byte) (p : Nat) : Nat × Nat :=
  let rows := (mfRows b).map fun r => (f32Int r.1, f32Int r.2)
  let f : Nat := 8136000 * 2 ^ 149
  let rec go : List (Nat × Nat) → Nat × Nat
    | [] => (0, 1)
    | [r] => (r.2, 1)
    | r :: r' :: rest =>
      if f ≤ r.1 * p then (r.2, 1)
      else if f ≤ r'.1 * p then
        let num : Int := (r.2 * ((r'.1 - r.1) * p) : Nat) + ((r'.2 : Int) - r.2) * ((f : Int) - (r.1 * p : Nat))
        (num.toNat, (r'.1 - r.1) * p)
      else go (r' :: rest)
  if p = 0 then (match rows.getLast? with | some r => (r.2, 1) | none => (0, 1)) else go rows

/-- One count's quantity MF / K_FACTOR in units of 2⁻⁶⁴, rounded half to even (R391). -/
def countQty (b : List Byte) (p : Nat) : Nat :=
  let mf := meterFactor b p
  let k := f32Int (parWord b 52)
  if k = 0 then 0 else (divHalfEven (mf.1 * 2 ^ 64 : Nat) (mf.2 * k)).toNat

/-- A real of the set. -/
def parFx (b : List Byte) (k : Nat) : Int := Fx.ofF32 (parWord b k)

/-- R381: a computed quantity errs by at most 1 ppm; by how much is open (log entry 2). -/
def withinPpm (q : Nat) (args : List Int) : Nat := q - q / 1000000 + (Config.table 10 args).natAbs % (2 * (q / 1000000) + 1)

/-- A positive real in units of 2⁻⁶⁴, as computed. -/
def unit64 (x : Int) (args : List Int) : Nat := withinPpm (x / 2 ^ 96).toNat args

/-- The quantities of a mass in kg by position, at the properties of its block (R382 to R384, R393). `exact`: the counted position with its
own quantity, which no equation touches. -/
def massAdds (commodity : Nat) (f : Fluid.Props) (mass : Int) (exact_ : Option (Nat × Nat)) (rev : Bool) : List (Nat × Nat) :=
  let o := b2n rev
  let put (q : Nat) (x : Int) : Nat × Nat := match exact_ with
    | some e => if e.1 = q then (q + o, e.2) else (q + o, unit64 x [q, mass, f.rho, f.h])
    | none => (q + o, unit64 x [q, mass, f.rho, f.h])
  let vol := Fx.div mass f.rho
  if commodity = 3 then [put 0 mass, put 2 (Fx.mul mass f.h)]
  else if commodity = 4 then [put 0 (Fx.mul mass f.nv), put 2 mass, put 4 vol]
  else
    let heat := Fx.mul mass f.h
    [put 0 vol, put 2 mass, (4 + 2 * o + b2n (decide (heat < 0)), unit64 heat.natAbs [4, mass, f.rho, f.h])]

/-- Does the meter count mass, and which position is the counted one? -/
def countedPos (commodity : Nat) (mass : Bool) : Option Nat :=
  if commodity = 3 then (if mass then some 0 else none) else if commodity = 4 then some (if mass then 2 else 4) else some (if mass then 2 else 0)

/-- The quantities of a count, in units of 2⁻⁶⁴ of volume or mass (R391). -/
def countAdds (commodity : Nat) (par : List Byte) (f : Fluid.Props) (qty : Nat) (rev : Bool) : List (Nat × Nat) :=
  let x : Int := (qty * 2 ^ 96 : Nat)
  massAdds commodity f (if massMeter par then x else Fx.mul x f.rho) ((countedPos commodity (massMeter par)).map fun q => (q, qty)) rev

/-- A quantity of `n` samples as a rate per hour. -/
def hourly (q n : Nat) : Nat := q * 3600 * 8136000 / (256 * max 1 n)

/-- LFC in units of 2⁻⁶⁴ per hour. -/
def lfcOf (b : List Byte) : Nat := f32Scaled (parWord b 48) 64

/-- The effective limit of a kind on a point (R55): the lowest of all standing limits. -/
def State.effLimit (s : State) (p kind : Nat) : Option Nat :=
  s.limits.foldl (fun a x => if x.1.1 = p && x.1.2.1 = kind then some (match a with | some v => min v x.2 | none => x.2) else a) none

/-! ### Batch close and trim (R395, R396) -/

/-- A quantity in units of 2⁻⁶⁴ of what is counted, in position 0 by the properties of the latest block (R395). -/
def FlowSt.inPos0 (f : FlowSt) (q : Nat) : Nat := q * f.unit / 2 ^ 64

/-- Q₀ of R395: position 0 of the session with the counts that wait for their block to end and, for a DP point, the latest block's rate over
the time since that block ended. -/
def State.qNow (s : State) (p rate : Nat) : Nat :=
  let m := s.mp p
  let wait := ((m.flow.counts.filter fun x => x.live && !x.rev).map (·.qty)).sum
  let since := (s.firn (s.pcfg p).die).m - m.flow.blkEnd
  accSum m.ses 0 + (if parByte m.flow.par 4 = 0 then rate * since * 256 / (3600 * 8136000) else m.flow.inPos0 wait)

/-- Q_pred in units of 2⁻⁶⁴, the rate per hour given (times to 2⁻²⁰ s, log entry 43). -/
def State.qPred (s : State) (p rate : Nat) : Int :=
  let m := s.mp p; let c := s.pcfg p
  let lead := f32Scaled c.tReact 20 + f32Scaled c.fClose 20 * f32Scaled c.tClose 20 / 2 ^ 20
  let inf := m.flow.inPos0 (m.flow.inferred * countQty m.flow.par m.flow.p)
  (s.qNow p rate + inf + rate * lead / (3600 * 2 ^ 20) : Nat) + m.flow.trim

/-- R395: while METERING with a Q_LIMIT, the predicted quantity that reaches it stops the point at Firn rank, once a session. -/
def State.batchCheck (s : State) (p rate : Nat) : State :=
  let m := { s.mp p with flow := { (s.mp p).flow with rate := rate } }
  let s := s.setMp p m
  if m.qLimit = 0 || s.mpState p ≠ mpMetering then s.setReg .FP_PRED p 0
  else if m.stopIssued then s
  else
    let q := s.qPred p rate
    let s := s.setReg .FP_PRED p (Fx.fracF32 q (2 ^ 64))
    if q * 1000000 < (m.qLimit * 2 ^ 64 : Nat) then s
    else
      let s := s.setMp p { m with stopIssued := true, flow := { m.flow with batch := true, stopped := true } }
      (s.firnOrder (s.pcfg p).die (.stop p)).postPt p { code := 0x234, sev := 0, obj := p }

/-- R396: TRIM after a session closed under R395, limited to ±TRIM_MAX. -/
def State.trimUpdate (s : State) (p : Nat) : State :=
  let m := s.mp p; let c := s.pcfg p
  if !m.flow.batch then s
  else
    let e : Int := (accSum m.ses 0 : Int) - (m.qLimit * 2 ^ 64 / 1000000 : Nat)
    let (g, x) := f32Parts c.trimGain
    let top : Int := f32Scaled c.trimMax 64
    let t := max (-top) (min top (m.flow.trim + scaledDiv (e * g) x 1))
    (s.setMp p { m with flow := { m.flow with trim := t, batch := false } }).setReg .FP_TRIM p (Fx.fracF32 t (2 ^ 64))

/-! ### Inputs of a block (R371 to R377) -/

/-- The first index of block `b` (R375). -/
def blkStart (b : Nat) : Nat := (25425 * b + 7) / 8

/-- The samples before the index `upto` join block `b` of a point, with the faults of their channels (R374). -/
def State.blkFill (s : State) (p b upto : Nat) : State :=
  let c := s.pcfg p; let m := s.mp p
  let x : BlkSt := match m.flow.blk with | some x => if x.b = b then x else { b := b, next := blkStart b } | none => { b := b, next := blkStart b }
  let end_ := max x.next (min upto (blkStart (b + 1)))
  let new (j : Nat) : List Int := ((upTo (end_ - x.next)).map fun i => s.sampleV c.die j (x.next + i)).reverse
  let vals := c.fch.map fun y => (y.1, new y.2 ++ tabGet [] x.vals y.1)
  let bad := (c.fch.filter fun y => s.flag Fld.CH_STATUS__FAULT (chIdx c.die y.2)).map (·.1)
  s.setMp p { m with flow := { m.flow with blk := some { x with next := end_, vals := vals, bad := (x.bad ++ bad).eraseDups } } }

/-- A mark: what has been converted joins the running block; the first one begins at the mark. -/
def State.blkMark (s : State) (p m : Nat) : State :=
  match (s.mp p).flow.blk with
  | some x => s.blkFill p x.b m
  | none => s.setMp p { s.mp p with flow := { (s.mp p).flow with blk := some { b := 8 * m / 25425, next := m } } }

/-- The engineering value of v (a sum over `n` samples), with the scale at index `i` (R297). -/
def State.engValue (s : State) (ch i : Nat) (sum : Int) (n : Nat) : Int := Fx.mul (Fx.ofFrac sum (max 1 n * 2 ^ 30)) (Fx.ofF32 (s.coefAt ch i).scale)

/-- R371: a transmitter's fraction of its span, from mA (type 0x4) or V. -/
def fraction (type : Nat) (x : Int) : Int := if type = 4 then (x - Fx.ofInt 4) / 16 else (x - Fx.one) / 4

/-- SPAN of an input: LO + fraction × (HI − LO). -/
def spanAt (par : List Byte) (k : Nat) (fr : Int) : Int :=
  let lo := parFx par (152 + 8 * k); let hi := parFx par (156 + 8 * k)
  lo + Fx.mul fr (hi - lo)

/-- The value of input `k` in Pa or °C from the sum of v over `n` samples up to the index `i` (R371, R372, R377). -/
def State.inputValue (s : State) (p k j i : Nat) (sum : Int) (n : Nat) : Option Int :=
  let c := s.pcfg p; let par := (s.mp p).flow.par; let ch := chIdx c.die j
  let type := s.get Fld.CH_CFG__TYPE ch
  if type = 6 then
    (tabFind (s.firn c.die).rtdDiff (s.get Fld.CH_CFG__RTD_SRC ch)).map fun d =>
      Fluid.rtdTemp (Fx.div (s.engValue ch i d 2016) (parFx par (if k = 4 then 196 else 192)))
  else
    let v := spanAt par k (fraction type (s.engValue ch i sum n))
    some (if k = 2 && bitAt (parByte par 5) 1 then v + parFx par 32 else v)

/-- Groups of 32 samples (R376). -/
def chunks : Nat → List Int → List (List Int)
  | 0, _ => []
  | _, [] => []
  | n + 1, l => l.take 32 :: chunks n (l.drop 32)

/-- √ with the sign of its argument. -/
def signedRoot (x : Int) : Int := if x < 0 then -(Fx.sqrt (-x)) else Fx.sqrt x

/-- The block root S of the samples of a DP input (R376). -/
def State.blockRoot (s : State) (p k j i : Nat) (vs : List Int) : Int :=
  let part (g : List Int) : Int := g.length * signedRoot ((s.inputValue p k j i g.sum g.length).getD 0)
  ((chunks 100 vs).map part).sum / max 1 vs.length

/-- P, T and the third state value: the dew point of AIR, else the heat reference; a missing channel's is the set's (R366, R369). -/
def flowState (par : List Byte) (mean : List (Nat × Int)) : Int × Int × Int :=
  ((tabFind mean 2).getD (parFx par 36), (tabFind mean 3).getD 0,
   (tabFind mean 4).getD (parFx par (if parByte par 3 = 3 then 40 else 44)))

def stateMask (par : List Byte) (x : Int × Int × Int) : Nat := Fluid.stateBad (parByte par 3) x.1 x.2.1 (if parByte par 3 = 3 then x.2.2 else 0)

/-- R373: the DP input in use: DP, or DP_HI of a stacked pair. -/
def State.dpInput (s : State) (p : Nat) : Nat := b2n (s.flag Fld.FP_STATUS__STACK_HI p)

/-- The first `n` samples of block `b` of a point as a block. -/
def State.formBlock (s : State) (p b n : Nat) : BlockIn :=
  let c := s.pcfg p; let fl := (s.mp p).flow
  let first := blkStart b; let i := first + n - 1
  let x := fl.blk.getD { b := b, next := first }
  let vs (k : Nat) : List Int := (tabGet [] x.vals k).reverse
  let mean := c.fch.filterMap fun y => (s.inputValue p y.1 y.2 i (vs y.1).sum (vs y.1).length).map fun v => (y.1, v)
  let k := s.dpInput p
  let bit (y : Nat × Nat) : Nat :=
    if !(x.bad.contains y.1 || (tabFind mean y.1).isNone) then 0
    else if y.1 ≤ 1 then (if y.1 = k then 1 else 0) else if y.1 = 2 then 2 else 4
  let mask := c.fch.foldl (fun a y => a ||| bit y) 0
  let mask := mask ||| stateMask fl.par (flowState fl.par mean)
  match tabFind c.fch k with
  | none => { first := first, n := n, mean := mean, invalid := mask }
  | some j =>
    let v := vs k
    let part := match s.accWindow p first n with | some (lo, hi) => cutTo v (lo - first) (hi - first) | none => []
    { first := first, n := n, mean := mean, invalid := mask, root := s.blockRoot p k j i v, rootPart := s.blockRoot p k j i part }

/-! ### Blocks (R373 to R377, R391 to R400) -/

/-- R374: the input values with held ones for invalid inputs: bit 0 DP, 1 P, 2 T or T2. -/
def heldMeans (mask : Nat) (now last : List (Nat × Int)) : List (Nat × Int) :=
  (upTo 5).filterMap fun k =>
    let bad := bitAt mask (if k ≤ 1 then 0 else if k = 2 then 1 else 2)
    (if bad then (tabFind last k).orElse (fun _ => tabFind now k) else tabFind now k).map fun v => (k, v)

/-- R386: a missing or spurious pulse was judged: PULSE_DISCREPANCY under the level's rule. -/
def State.discrepancy (s : State) (p : Nat) (force : Bool) : State :=
  let m := s.mp p
  let lvl := parByte m.flow.par 4
  let disc := m.flow.disc + 1
  let at_ := (m.flow.total :: m.flow.discAt).filter fun n => decide (m.flow.total < n + 10000)
  let post := force || lvl = 2 || (lvl = 1 && decide ((s.pcfg p).discLimit < at_.length))
  let s := s.setMp p { m with flow := { m.flow with disc := if post then 0 else disc, discAt := at_ } }
  if post then s.postPt p { code := 0x233, sev := 1, obj := p, data := min disc 65535 } else s

/-- The properties that a point's block uses (R374, R382 to R384). -/
def State.blockProps (s : State) (p : Nat) : Fluid.Props :=
  let fl := (s.mp p).flow
  let (pr, t, x) := fl.state.getD (flowState fl.par fl.mean)
  Fluid.propsAt (parByte fl.par 3) pr t (if parByte fl.par 3 = 3 then x else 0) x

/-- R378 to R380: mass flow in kg/s at |S|, C, and whether Re_D is outside the range of the primary (entry 8 of `Config.table`). -/
def State.massFlow (s : State) (p : Nat) (root : Nat) : Int × Int × Bool :=
  let fl := (s.mp p).flow; let par := fl.par
  let (pr, t, _) := fl.state.getD (flowState par fl.mean)
  let f := s.blockProps p
  let grow (k : Nat) : Int := Fx.one + Fx.mul (parFx par k) (t - parFx par 24)
  let d := Fx.mul (parFx par 12) (grow 20); let dm := Fx.mul (parFx par 8) (grow 16)
  let beta := Fx.div d dm
  let prim := parByte par 2
  let tau := Fx.one - Fx.div (Fx.mul root root) pr
  let base := Fluid.flowBase beta (Fluid.expansibility prim (parByte par 3 != 4) beta tau (parFx par 28)) d f.rho root
  let c := Fluid.converge prim beta dm f.mu base 10 (Fluid.discharge prim beta dm 0)
  let qm := Fx.mul c base
  (qm, c, Config.table 8 [prim, beta, dm, Fluid.invRe qm f.mu dm] != 0)

/-- The adds of `n` samples of a DP point with root S, or of the counts whose A-times lie in the block (R376, R391). -/
def State.blockAdds (s : State) (p : Nat) (b : BlockIn) (n : Nat) (root : Int) (live : Bool) : List (Nat × List (Nat × Nat)) :=
  let c := s.pcfg p; let m := s.mp p
  let par := m.flow.par
  if parByte par 4 = 0 then
    let rev := decide (root < 0)
    if rev && !bitAt (parByte par 5) 0 then []
    else
      let a := massAdds c.commodity (s.blockProps p) (Fx.mul (s.massFlow p root.natAbs).1 (Fx.ofFrac (n * 256) 8136000)) none rev
      if hourly ((a.map (·.2)).headD 0) n < lfcOf par then [] else [(s.rateAt p b.first, a)]
  else
    let mine := m.flow.counts.filter fun x => decide (x.idx < b.first + b.n) && (x.live || !live)
    let f := s.blockProps p
    mine.map fun x => (x.rate, countAdds c.commodity par f x.qty x.rev)

/-- R374: the values with held ones, and what FP_STATUS shows of them, with its events: held values are billed for FAULT_HOLD seconds, then
what is measured goes to the unbilled-outage register. -/
def State.blockInputs (s : State) (p : Nat) (b : BlockIn) : State :=
  let m := s.mp p
  let par := m.flow.par
  let now := (s.firn (s.pcfg p).die).legal b.first
  let from_ := if b.invalid = 0 then none else some (m.flow.invalidFrom.getD now)
  let unb := from_.any fun t => decide (t + field par 136 4 * 1000000 ≤ now)
  let hold := b.invalid ≠ 0 && !unb
  let wasHold := s.flag Fld.FP_STATUS__HOLD p; let wasUnb := s.flag Fld.FP_STATUS__UNBILLED p
  let mean := heldMeans b.invalid b.mean m.flow.mean
  let st := if b.invalid / 2 = 0 then some (flowState par mean) else m.flow.state
  let s := s.setMp p { m with flow := { m.flow with mean := mean, state := st, invalidFrom := from_ },
                              flags := if hold then m.flags ||| 128 else m.flags }
  let s := ((s.put Fld.FP_STATUS__INVALID p b.invalid).putB Fld.FP_STATUS__HOLD p hold).putB Fld.FP_STATUS__UNBILLED p unb
  let s := if hold && !wasHold then s.postPt p { code := 0x230, sev := 1, obj := p, data := b.invalid } else s
  if unb && !wasUnb then s.postPt p { code := 0x230, sev := 2, obj := p, data := b.invalid + 256 } else s

/-- R374: an invalid DP input's root is that of its last valid value, for the part as for the whole (log entry 190). -/
def State.blockHeld (s : State) (p : Nat) (b : BlockIn) : BlockIn :=
  if !bitAt b.invalid 0 then b
  else
    let r := signedRoot ((tabFind (s.mp p).flow.mean (s.dpInput p)).getD 0)
    { b with root := r, rootPart := r }

/-- R376, R380, R385: RANGE and REVERSE of a block, with their events. -/
def State.blockFlags (s : State) (p : Nat) (b : BlockIn) : State :=
  let fl := (s.mp p).flow; let par := fl.par
  let range := if parByte par 4 = 0 then b2n (s.massFlow p b.root.natAbs).2.2
    else if fl.p ≠ 0 && fl.p * 20000 < 8136000 then 2 else 0
  let s := if range ≠ 0 && !s.flag Fld.FP_STATUS__RANGE p then s.postPt p { code := 0x231, sev := 1, obj := p, data := range } else s
  let s := s.putB Fld.FP_STATUS__RANGE p (range ≠ 0)
  let rev0 := parByte par 4 = 0 && b.root < 0 && !bitAt (parByte par 5) 0
  let s := if rev0 && !s.flag Fld.FP_STATUS__REVERSE p then s.postPt p { code := 0x232, sev := 1, obj := p } else s
  s.putB Fld.FP_STATUS__REVERSE p rev0

/-- R376, R374: the accumulated part of a block goes to the point's quantities, or to the unbilled-outage register. -/
def State.blockBill (s : State) (p : Nat) (b : BlockIn) : State :=
  let fl := (s.mp p).flow
  let unb := s.flag Fld.FP_STATUS__UNBILLED p
  match s.accWindow p b.first b.n with
  | none => s
  | some (lo, hi) =>
    let part := !(lo = b.first && hi = b.first + b.n) && parByte fl.par 4 = 0
    let adds := if part then s.blockAdds p b (hi - lo) b.rootPart true else s.blockAdds p b b.n b.root true
    if unb then (adds.foldl (fun (s : State) (x : Nat × List (Nat × Nat)) => s.addUnbilled p x.2) s).unbilledRecord (s.pcfg p).die p 4 1 (adds.flatMap (·.2))
    else adds.foldl (fun (s : State) (x : Nat × List (Nat × Nat)) => s.addQuantities p x.1 b.first (hi - lo) x.2) s

/-- R386: the block's counts are done; the trains of level C are compared. -/
def State.blockCounts (s : State) (p : Nat) (b : BlockIn) : State :=
  let m := s.mp p
  let diff := if m.flow.cmpA < m.flow.cmpB then m.flow.cmpB - m.flow.cmpA else m.flow.cmpA - m.flow.cmpB
  let s := s.setMp p { m with flow := { m.flow with counts := m.flow.counts.filter (fun x => decide (b.first + b.n ≤ x.idx)), cmpA := 0, cmpB := 0 } }
  if parByte m.flow.par 4 = 3 && 1 < diff then s.discrepancy p true else s

/-- R373: a stacked pair's input for the next block: DP_HI once DP_LO reaches STACK_HI of its span, DP_LO once DP_HI falls below STACK_LO of
the span of DP_LO; both by the block's value (log entry 191). -/
def State.blockStack (s : State) (p : Nat) (b : BlockIn) : State :=
  let par := (s.mp p).flow.par
  let hi := s.flag Fld.FP_STATUS__STACK_HI p
  let v := (tabFind b.mean (b2n hi)).getD 0
  let next := if hi then !decide (v < spanAt par 0 (parFx par 144)) else decide (spanAt par 0 (parFx par 140) ≤ v)
  if (s.pcfg p).topology = 6 then s.putB Fld.FP_STATUS__STACK_HI p next else s

/-- The quantity of position 0 in a block's adds, forward, and with reverse. -/
def addsFwd (l : List (Nat × List (Nat × Nat))) : Nat := (l.map fun x => tabGet 0 x.2 0).sum
def addsRev (l : List (Nat × List (Nat × Nat))) : Nat := (l.map fun x => tabGet 0 x.2 1).sum

/-- R404: what the point's window shows of a block; each the nearest single-precision value. -/
def State.blockShow (s : State) (p : Nat) (b : BlockIn) (adds : List (Nat × List (Nat × Nat))) : State :=
  let fl := (s.mp p).flow; let par := fl.par
  let dp := parByte par 4 = 0
  let f := s.blockProps p
  let (pr, t, _) := fl.state.getD (flowState par fl.mean)
  let (qm, c, _) := s.massFlow p b.root.natAbs
  let mf := meterFactor par fl.p
  let net : Int := (hourly (addsFwd adds) b.n : Int) - hourly (addsRev adds) b.n
  let mass : Nat := ((adds.map fun x => tabGet 0 x.2 (if (s.pcfg p).commodity = 3 then 0 else 2) + tabGet 0 x.2 (if (s.pcfg p).commodity = 3 then 1 else 3))).sum
  let s := s.putB Fld.MP_STATE__DIR p (if dp then decide (b.root < 0) else fl.reverse)
  let s := (s.setReg .FP_RATE p (Fx.fracF32 net (2 ^ 64))).setReg .FP_BLOCK p (BitVec.ofNat 32 b.first)
  let s := s.setReg .FP_DP p (if dp then Fx.toF32 ((tabFind fl.mean (s.dpInput p)).getD 0) else Fx.fracF32 8136000 fl.p)
  let s := (s.setReg .FP_P p (Fx.toF32 pr)).setReg .FP_T p (Fx.toF32 t)
  let s := ((s.setReg .FP_RHO p (Fx.toF32 f.rho)).setReg .FP_H p (Fx.toF32 f.h)).setReg .FP_C p
    (if dp then Fx.toF32 c else Fx.fracF32 mf.1 (mf.2 * 2 ^ 149))
  s.setReg .FP_QM p (if dp then Fx.toF32 (if adds.isEmpty then 0 else qm) else Fx.fracF32 (mass * 8136000 : Nat) (2 ^ 64 * b.n * 256))

/-- R399: a quantity `q` that flows while the point is IDLE. -/
def State.blockOutside (s : State) (p q : Nat) (low : Bool) : State :=
  let m := s.mp p
  if s.mpState p ≠ mpIdle then s
  else if low then s.setMp p { m with flow := { m.flow with outsideRun := 0, outsidePosted := false } }
  else
    let run : Nat := m.flow.outsideRun + 1
    let post := decide (10 ≤ run) && !m.flow.outsidePosted
    let out := m.flow.outside + q
    let s := s.setMp p { m with flow := { m.flow with outside := out, outsideRun := run, outsidePosted := m.flow.outsidePosted || post } }
    let s := s.setReg .FP_OUTSIDE p (Fx.fracF32 (out : Nat) (2 ^ 64))
    if post then s.postPt p { code := 0x236, sev := 1, obj := p } else s

/-- R397: the run of blocks below LFC, all after the freeze line has risen. -/
def State.blockTail (s : State) (p : Nat) (b : BlockIn) (low : Bool) : State :=
  let c := s.pcfg p; let m := s.mp p
  if s.mpState p = mpMetering && c.flowRule && m.flow.rose.any (· ≤ b.first) then
    if low then
      let first := if m.flow.low = 0 then b.first else m.flow.lowFirst
      let n := m.flow.low + 1
      let s := s.setMp p { m with flow := { m.flow with low := n, lowFirst := first } }
      if c.freezeBlocks ≤ n then s.freezePoint p first 2 else s
    else s.setMp p { m with flow := { m.flow with low := 0 } }
  else s

/-- R346, R396: registers that the block's end makes final. -/
def State.blockSettle (s : State) (p until_ : Nat) : State :=
  let t := s.settle p until_
  if !(s.mp p).final && (t.mp p).final then t.trimUpdate p else t

/-- R400: the flow limit, in thousandths of the unit per hour, over three blocks in a row. -/
def State.blockLimit (s : State) (p fwd : Nat) : State :=
  let m := s.mp p
  let above := match s.effLimit p 3 with
    | some v => decide (v * 2 ^ 64 < fwd * 1000) && s.mpState p == mpMetering
    | none => false
  let n := if above then m.flow.above + 1 else 0
  let s := s.setMp p { m with flow := { m.flow with above := if 3 ≤ n then 0 else n } }
  if 3 ≤ n then { s with orders := s.orders ++ [{ src := srcFirmware, act := .stop p }] } else s

/-- R395: one unit of what is counted, in position 0 by the properties of the block that ends. -/
def State.blockUnit (s : State) (p b : Nat) : State :=
  let c := s.pcfg p; let fl := (s.mp p).flow
  let one_ := tabGet 0 (countAdds c.commodity fl.par (s.blockProps p) (2 ^ 64) false) 0
  s.setMp p { s.mp p with flow := { fl with blk := none, blkEnd := blkStart (b + 1), unit := if parByte fl.par 4 = 0 then fl.unit else one_ } }

/-- FLOW_BLOCK_END (R373 to R377, R391, R394 to R400): block `b` of the die ends. -/
def execFlowBlockEnd (p b : Nat) (s : State) : Res :=
  if !pointFlow (s.pcfg p) || !s.firnLive (s.pcfg p).die then .next s
  else
    let s := s.blkFill p b (blkStart (b + 1))
    let x := s.formBlock p b (blkStart (b + 1) - blkStart b)
    let s := s.blockInputs p x
    let x := s.blockHeld p x
    let s := s.blockFlags p x
    let whole := s.blockAdds p x x.n x.root false
    let rate := hourly (addsFwd whole + addsRev whole) x.n
    let low := decide (rate < lfcOf (s.mp p).flow.par)
    let s := ((((s.blockBill p x).blockShow p x whole).blockStack p x).blockOutside p (addsFwd whole + addsRev whole) low).blockUnit p b
    let s := ((s.blockCounts p x).blockTail p x low).blockSettle p (x.first + x.n)
    let s := if parByte (s.mp p).flow.par 4 = 0 then s.batchCheck p (hourly (addsFwd whole) x.n) else s
    .next (s.blockLimit p (hourly (addsFwd whole) x.n))

/-- FLOW_TAIL_TIMEOUT (R397): TAIL_MAX after the freeze line rose, at the index given. -/
def execFlowTailTimeout (p idx : Nat) (s : State) : Res :=
  if s.mpState p = mpMetering && (s.mp p).flow.rose.isSome && s.firnLive (s.pcfg p).die then
    .next ((s.freezePoint p idx 8).postPt p { code := 0x235, sev := 1, obj := p })
  else .next s

/-! ### Pulses (R385 to R392) -/

/-- R44: the sample index of a timestamp. -/
def tsIndex (t : Nat) : Nat := t / 256 + 50

/-- The point of a pulse input, where one is configured. -/
def State.piPoint (s : State) (i : Nat) : Option Nat :=
  if s.get Fld.PI_CFG__ROLE i = 1 then some (s.get Fld.PI_CFG__POINT i) else none

/-- R405: the die in whose window a pulse input's block stands: that of its point, or of the run it is a detector for. -/
def State.inputDie (s : State) (i : Nat) : Option Firn :=
  match s.get Fld.PI_CFG__ROLE i with
  | 1 => some (s.pcfg (s.get Fld.PI_CFG__POINT i)).die
  | 2 => (tabFind s.prove i).map fun v => (s.pcfg v.point).die
  | _ => none

/-- R401: a billed count of a point in its proving run. -/
def ProveSt.count (v : ProveSt) (a : Nat) : ProveSt :=
  if v.state = 0 || 2 ≤ v.state || a < v.first then v
  else
    let v := { v with c1 := v.c1.or (some a) }
    match v.second with
    | none => { v with n := v.n + 1 }
    | some t => if a < t then { v with n := v.n + 1 } else { v with c2 := some a, state := 2 }

def State.proveCount (s : State) (p a : Nat) : State :=
  { s with prove := s.prove.map fun x => if x.2.point = p then (x.1, x.2.count a) else x }

/-- One corroborated or accepted count at an A-time (R387 to R392): the interval, its billing, and the prediction. -/
def State.flowCount (s : State) (p i a : Nat) (rev : Bool) : State :=
  let m := s.mp p
  let fl := m.flow
  let ival := match fl.lastA with | some t => a - t | none => 0
  let single := decide (3 ≤ parByte fl.par 4)
  let ivals := if ival = 0 then fl.ivals else (ival :: fl.ivals).take 8
  let np := if ival = 0 then fl.p
    else if single then (ivals.sum / max 1 ivals.length)
    else if fl.p = 0 then ival else min ival (4 * fl.p)
  let idx := tsIndex a
  let st := s.mpState p
  let live := idx ≥ m.meterIdx && (st = mpMetering || (st = mpFrozen && !m.final && idx < m.freezeIdx))
  let qty := countQty fl.par np
  let rec_ : CountRec := { idx := idx, rate := s.rateAt p idx, rev := rev, qty := qty, live := live }
  let fl := { fl with p := np, lastA := some a, reverse := rev, ivals := ivals, inferred := 0, total := fl.total + 1,
                      cmpA := fl.cmpA + 1, counts := fl.counts ++ [rec_] }
  let s := (s.setMp p { m with flow := fl }).bump Fld.PI_CORR__VALUE i 1
  let s := s.proveCount p a
  s.batchCheck p (if np = 0 then 0 else fl.inPos0 qty * 3600 * 8136000 / np)

def trainIdx (i : Nat) (b : Bool) : Nat := 2 * i + b2n b
def State.setTrain (s : State) (p : Nat) (b : Bool) (t : TrainSt) : State :=
  let m := s.mp p
  s.setMp p { m with flow := if b then { m.flow with b := t } else { m.flow with a := t } }
def State.train (s : State) (p : Nat) (b : Bool) : TrainSt := if b then (s.mp p).flow.b else (s.mp p).flow.a

/-- Do an A pulse and a B pulse pair, and in reverse order (R387)? -/
def pairs (deg win p a b : Nat) : Option Bool :=
  let fit (x y : Nat) : Bool := decide ((((y : Int) - x) * 1800 - (5 * deg * p : Nat)).natAbs ≤ 18 * win * p)
  if fit a b then some false else if fit b a then some true else none

/-- The φ × P of a point, rounded down. -/
def phiP (par : List Byte) (p : Nat) : Nat := parByte par 6 * p / 360

/-- A dual-pulse count: both trains' latest counted pulses are set. -/
def State.dualCount (s : State) (p i a b : Nat) (rev : Bool) : State :=
  let s := s.setTrain p false { s.train p false with last := some a }
  let s := s.setTrain p true { s.train p true with last := some b }
  s.flowCount p i a rev

/-- A pulse of a dual-pulse meter at its rising edge's time (R387, R388). -/
def State.dualPulse (s : State) (p i : Nat) (isB : Bool) (t : Nat) : State :=
  let fl := (s.mp p).flow
  if fl.acquire then
    match fl.acqOpen with
    | some (ob, ot) =>
      if ob = isB then
        ((s.setMp p { s.mp p with flow := { fl with acqOpen := some (isB, t) } }).bump Fld.PI_SPUR__VALUE (trainIdx i isB) 1)
      else
        let (a, b) := if isB then (ot, t) else (t, ot)
        let n := fl.acqPairs + 1
        let s := s.setMp p { s.mp p with flow := { fl with acqOpen := none, acqPairs := n, acquire := decide (n < 2) } }
        (s.dualCount p i a b (decide (b < a))).putB Fld.FP_STATUS__ACQUIRE p (decide (n < 2))
    | none => s.setMp p { s.mp p with flow := { fl with acqOpen := some (isB, t) } }
  else
    let deg := parByte fl.par 6; let win := parByte fl.par 7
    let other := s.train p (!isB)
    let fits (y : Nat) : Option Bool := if isB then pairs deg win fl.p y t else pairs deg win fl.p t y
    match other.held.find? (fun y => (fits y).isSome) with
    | some y =>
      let s := s.setTrain p (!isB) { other with held := other.held.erase y }
      let (a, b) := if isB then (y, t) else (t, y)
      s.dualCount p i a b ((fits y).getD false)
    | none =>
      let own := s.train p isB
      s.setTrain p isB { own with held := own.held ++ [t] }

/-- A pulse of a single-train input (R390). -/
def State.singlePulse (s : State) (p i t : Nat) : State :=
  let fl := (s.mp p).flow
  match fl.lastA with
  | some l =>
    if !fl.acquire && decide ((t - l) * 2 < fl.p) then (s.bump Fld.PI_SPUR__VALUE (trainIdx i false) 1).discrepancy p false
    else (s.setMp p { s.mp p with flow := { fl with acquire := false } }).flowCount p i t false |>.putB Fld.FP_STATUS__ACQUIRE p false
  | none => s.flowCount p i t false

/-- R401: an edge of a proving run's detector. -/
def State.detectorEdge (s : State) (i t : Nat) : State :=
  match tabFind s.prove i with
  | none => s
  | some v =>
    let d := (s.pcfg v.point).die
    let v := if v.state = 0 then { v with state := 1, first := t, firstTime := (s.firn d).legal (tsIndex t) }
      else if v.state = 1 && v.second.isNone then { v with second := some t }
      else v
    { s with prove := tabSet s.prove i v }

/-- Pulses of an input reach a Firn die: the D-die runs, its pulse link to the die carries them (R42, R46), and the comparator has left
its undetermined state (R126). -/
def State.pulsesReach (s : State) (i : Nat) (isB : Bool) (d : Firn) : Bool :=
  s.dieRuns .ddie && s.linkUp (match d with | .f0 => .pulse0 | .f1 => .pulse1) && s.dieRuns d.die
  && tabGet .undet s.boot.inputs (if isB then .pulseB i else .pulseA i) != .undet

/-- The die that a pulse input's edges serve. -/
def State.pulseDie (s : State) (i : Nat) : Firn :=
  (s.pcfg (match tabFind s.prove i with | some v => v.point | none => (s.piPoint i).getD 0)).die

/-- R261: the edge record of a train: at most 2,048, and of 1,280 sample periods; the oldest give way. -/
def State.edgeRecord (s : State) (d : Firn) (k t : Nat) (rising : Bool) : State :=
  let f := s.firn d
  let all := ((t, rising) :: tabGet [] f.edges k).filter fun x => decide (t < x.1 + 1280 * 256)
  let lost := match all[2048]? with | some x => tabSet f.edgeLost k (tsIndex x.1) | none => f.edgeLost
  s.setFirn d { f with edges := tabSet f.edges k (all.take 2048), edgeLost := lost }

/-- PULSE_EDGE (R385 to R392, R401): an edge of train A or B of pulse input `i`, with its timestamp in CLK_MOD periods. -/
def execPulseEdge (i : Nat) (isB rising : Bool) (t : Nat) (s : State) : Res :=
  if !s.pulsesReach i isB (s.pulseDie i) then .next s
  else if s.get Fld.PI_CFG__ROLE i = 2 then .next (if rising && !isB then s.detectorEdge i t else s)
  else match s.piPoint i with
    | none => .next s
    | some p =>
      let s := s.edgeRecord (s.pcfg p).die (trainIdx i isB) t rising
      let tr := s.train p isB
      if rising then .next (s.setTrain p isB { tr with rise := some t })
      else match tr.rise with
        | none => .next s
        | some r =>
          let s := s.setTrain p isB { tr with rise := none }
          let par := (s.mp p).flow.par
          if (t - r) * 1000 < field par 148 4 * 8136 then .next (s.bump Fld.PI_SPUR__VALUE (trainIdx i isB) 1)
          else
            let s := s.bump Fld.PI_EDGES__VALUE (trainIdx i isB) 1
            let lvl := parByte par 4
            if lvl = 1 || lvl = 2 then .next (s.dualPulse p i isB r)
            else if isB then .next (s.setMp p { s.mp p with flow := { (s.mp p).flow with cmpB := (s.mp p).flow.cmpB + 1 } })
            else .next (s.singlePulse p i r)

/-- PULSE_HOLD_EXPIRY (R387): an open pulse's hold ends: in sequence it counts with its counterpart supplied, else it is
discarded. -/
def execPulseHoldExpiry (i : Nat) (isB : Bool) (t : Nat) (s : State) : Res :=
  match s.piPoint i with
  | none => .next s
  | some p =>
    let own := s.train p isB
    if !own.held.contains t || !s.firnLive (s.pcfg p).die then .next s
    else
      let fl := (s.mp p).flow
      let s := s.setTrain p isB { own with held := own.held.erase t }
      let inSeq := match own.last with
        | some l => decide (fl.p ≤ 2 * (t - l)) && decide (2 * (t - l) ≤ 3 * fl.p)
        | none => false
      if inSeq then
        let f := phiP fl.par fl.p
        let (a, b) := if isB then ((if fl.reverse then t + f else t - f), t) else (t, (if fl.reverse then t - f else t + f))
        let s := s.bump Fld.PI_MISS__VALUE (trainIdx i (!isB)) 1
        .next ((s.dualCount p i a b fl.reverse).discrepancy p false)
      else .next ((s.bump Fld.PI_SPUR__VALUE (trainIdx i isB) 1).discrepancy p false)

/-- INFERRED_PULSE (R390): a further 1.5P without a pulse, up to 4P. -/
def execInferredPulse (i : Nat) (s : State) : Res :=
  match s.piPoint i with
  | none => .next s
  | some p =>
    let m := s.mp p
    if parByte m.flow.par 4 < 3 || m.flow.acquire || m.flow.lastA.isNone || !s.firnLive (s.pcfg p).die then .next s
    else
      let s := (s.setMp p { m with flow := { m.flow with inferred := m.flow.inferred + 1 } }).bump Fld.PI_MISS__VALUE (trainIdx i false) 1
      .next (s.batchCheck p (if m.flow.p = 0 then 0 else m.flow.inPos0 (countQty m.flow.par m.flow.p) * 3600 * 8136000 / m.flow.p))

/-- ACQUISITION_RESTART (R388, R390): 4P have passed without a count. -/
def execAcquisitionRestart (p : Nat) (s : State) : Res :=
  let m := s.mp p
  if !pointFlow (s.pcfg p) || parByte m.flow.par 4 = 0 || !s.firnLive (s.pcfg p).die then .next s
  else
    .next ((s.setMp p { m with flow := m.flow.acquisition }).put Fld.FP_STATUS__ACQUIRE p 1)

/-! ### Proving (R401) -/

/-- PROVE_ARM. -/
def execProveArm (c : Chan) (s : State) : Res :=
  .next (s.takeReq c 0x0208 fun d b seq s =>
    let p := field b 4 2; let i := field b 6 1
    if !zeroOutside b [(0, 6), (8, 11)] || 64 ≤ i then s.replyReq c seq 0x0208 stBad []
    else if !s.variant.hasDdie then s.replyReq c seq 0x0208 stAbsent []
    else if !s.ownsPoint d p then s.replyReq c seq 0x0208 stAbsent []
    else if s.get Fld.PI_CFG__ROLE i = 1 || parByte (s.mp p).flow.par 4 = 0 then s.replyReq c seq 0x0208 stBad []
    else
      let others := s.prove.filter fun x => x.2.point ≠ p
      let s := (s.prove.filter fun x => x.2.point = p).foldl (fun s x => s.put Fld.PI_CFG__ROLE x.1 0) s
      let s := { s with prove := tabSet others i { point := p, vol := BitVec.ofNat 32 (field b 8 4) } }
      (s.put Fld.PI_CFG__ROLE i 2).replyReq c seq 0x0208 stDone [])

/-- PROVE_RESULT. -/
def execProveResult (c : Chan) (s : State) : Res :=
  .next (s.takeReq c 0x0209 fun d b seq s =>
    let p := field b 4 2
    if !zeroOutside b [(0, 5)] then s.replyReq c seq 0x0209 stBad []
    else if !s.ownsPoint d p then s.replyReq c seq 0x0209 stAbsent []
    else match s.prove.find? fun x => x.2.point = p with
      | none => s.replyReq c seq 0x0209 stCapacity []
      | some x =>
        let v := x.2
        let t1 := v.second.getD 0 - v.first; let t2 := v.c2.getD 0 - v.c1.getD 0
        let done := v.state = 2
        let ni := if done then Fx.fracF64 (v.n * t1) t2 else 0
        let k := f32Int v.vol * f32Int (parWord (s.mp p).flow.par 52)
        let mf := if done then (Fx.fracF32 (k * t2 : Nat) (v.n * t1 * 2 ^ 298)).toNat else 0
        s.replyReq c seq 0x0209 stDone ([BitVec.ofNat 8 v.state, 0] ++ leBytes 4 v.n ++ leBytes 8 ni ++ leBytes 4 mf ++ leBytes 8 v.firstTime))

/-- PROVE_TIMEOUT: 600 s without a second detector edge. -/
def execProveTimeout (i : Nat) (s : State) : Res :=
  match tabFind s.prove i with
  | some v => .next (if v.state ≤ 1 && v.second.isNone then { s with prove := tabSet s.prove i { v with state := 3 } } else s)
  | none => .next s

end Sys2Proof.Machine
end

