-- ==== Sys2Proof/Machine/Jobs.lean ====
section
/-!
DEFINITION. Machine/Jobs.lean: tasks and jobs of the engines: release, end, overrun, the ECALL services, and APP_LOAD (R244 to
R246, R251).
-/
namespace Sys2Proof.Machine

def State.task (s : State) (item : Nat) : TaskCfg := tabGet {} s.cfg.tasks item

/-- FCOUNT by which a job that was released at `rel` must end: 325.44 counts a microsecond. -/
def State.jobDue (s : State) (j : Nat × Nat) : Nat := j.2 + (s.task j.1).deadline * 32544 / 100

/-- The job with the earliest deadline; equal deadlines in order of release (R251). -/
def State.earliest (s : State) : List (Nat × Nat) → Option (Nat × Nat)
  | [] => none
  | j :: r => match s.earliest r with
    | some k => if s.jobDue k < s.jobDue j then some k else some j
    | none => some j

/-- Registers at a job's entry: the spec states none, so each is a free value (log entry 1). -/
def freshRegs (free lo n : Nat) : List (Nat × W32) := (upTo n).map fun k => (lo + k, Config.freeWord (free + k))

/-- An engine with no running job begins the released job of earliest deadline at its task's entry point, in user mode. -/
def State.nextJob (s : State) (n : Nat) : State :=
  let e := s.core n
  if e.job.isSome then s
  else match s.earliest e.jobs with
    | none => s
    | some j =>
      let e := { e with job := some j, jobs := e.jobs.erase j, mach := false, pc := (s.task j.1).entry, wfi := false,
                        dlWait := none, resv := none, x := freshRegs s.free 1 31, f := freshRegs (s.free + 31) 0 32 }
      { s with free := s.free + 63 }.setCore n e

/-- R224: no job runs: the executive has the engine, in machine mode, at its trap vector (log entry 175). -/
def Engine.executive (e : Engine) : Engine :=
  { e with job := none, mach := true, pc := e.mtvec &&& 0xFFFFFFFC, wfi := false, dlWait := none, resv := none }

/-- The running job ends or is stopped. -/
def State.dropJob (s : State) (n : Nat) : State := (s.setCore n (s.core n).executive).nextJob n

/-- An ECALL of an application job: in machine mode it is the exception of cause 11 and no service. -/
def State.service (s : State) (n : Nat) (k : Engine → State → State) : State :=
  s.runs n fun e s => if e.mach || e.job.isNone then s.trap n (if e.mach then 11 else 8) 0 else k e s

/-- END_JOB (R245): ECALL with a7 = 0. -/
def execEndJob (n : Nat) (s : State) : Res := .next (s.service n fun _ s => s.dropJob n)

/-- A service's result in a0 and a1. -/
def Engine.result (e : Engine) (lo hi : Nat) : Engine :=
  ({ (e.setX 10 (BitVec.ofNat 32 lo)).setX 11 (BitVec.ofNat 32 hi) with resv := none }).next

/-- READ_DEVICE_TIME (R245): ECALL with a7 = 1. -/
def execReadDeviceTime (n : Nat) (s : State) : Res :=
  .next (s.service n fun e s => s.setCore n (e.result s.devTime (s.devTime / 2 ^ 32)))

/-- READ_RELEASE_FCOUNT (R245): ECALL with a7 = 2. -/
def execReadReleaseFcount (n : Nat) (s : State) : Res :=
  .next (s.service n fun e s =>
    let rel := (e.job.getD (0, 0)).2
    s.setCore n (e.result rel (rel / 2 ^ 32)))

/-- READ_SNAPSHOT (R245): ECALL with a7 = 3: the snapshot of the point in a0 goes to the data-memory buffer at a1; −2 in a0
where the point is not granted. Bytes outside data memory are not written, and what a0 then takes is open (log entry 44). -/
def execReadSnapshot (n : Nat) (s : State) : Res :=
  .next (s.service n fun e s =>
    let p := (e.getX 10).toNat
    let a := (e.getX 11).toNat
    if !s.cfg.appPoints.contains p then s.setCore n ({ e.setX 10 0xFFFFFFFE with resv := none }).next
    else
      let bytes := (s.section_ p 0).getD []
      if 0x10000 ≤ a && a + bytes.length ≤ 0x20000 then
        let s := s.memStore n (privAddr n a) bytes
        s.setCore n ({ (s.core n).setX 10 0 with resv := none }).next
      else
        let (v, s) := s.drawWord
        s.setCore n ({ e.setX 10 v with resv := none }).next)

/-- The counts of a task's period. -/
def taskCounts (t : TaskCfg) : Nat := t.period * 32544 / 100

/-- Are a task's jobs stopped: it is suspended (R270), or its cluster is being loaded (R246)? -/
def State.taskHeld (s : State) (item n : Nat) : Bool :=
  s.eng.suspended.contains item || s.eng.appLoads.any (fun l => l.stopped && l.cluster == n / 8)

/-- FCOUNT of a task's next release (R244): a message's own `fc`; else the boundary, and from then on one period later each time. -/
def State.releaseAt (s : State) (t : TaskCfg) (item n fc : Nat) : Nat :=
  if t.message then fc else match tabFind s.eng.lastRelease item with
    | none => s.fcountBoundary n
    | some r => r + taskCounts t

/-- A job is released at FCOUNT `rel` to engine `n`. -/
def State.release (s : State) (item n rel : Nat) : State :=
  let s : State := { s with eng := { s.eng with lastRelease := tabSet s.eng.lastRelease item rel } }
  (s.setCore n { s.core n with jobs := (s.core n).jobs ++ [(item, rel)] }).nextJob n

/-- JOB_RELEASE (R244): a job of a task is released to its engine: a periodic task's first at a control-cycle boundary and then
each period; for a message at FCOUNT `fc`. -/
def execJobRelease (item fc : Nat) (s : State) : Res :=
  match tabFind s.cfg.tasks item, tabFind s.cfg.taskEngine item with
  | some t, some n =>
    .next (if s.taskHeld item n || s.engGet Fld.ENG_STATE__STATE n ≠ eActive then s else s.release item n (s.releaseAt t item n fc))
  | _, _ => .next s

/-- BUDGET_OVERRUN (R245, R747): the running job has reached its budget. -/
def execBudgetOverrun (n : Nat) (s : State) : Res :=
  match (s.core n).job with
  | none => .next s
  | some (item, _) =>
    let s := (s.engBump Fld.ENG_DLMISS__OVERRUN n).dropJob n
    .next (s.postBoth { code := 0x909, sev := 1, obj := item })

/-- JOB_DEADLINE_MISS (R245): the running job has not ended by its deadline. -/
def execJobDeadlineMiss (n : Nat) (s : State) : Res :=
  match (s.core n).job with
  | none => .next s
  | some _ => .next ((s.engBump Fld.ENG_DLMISS__MISS n).dropJob n)

/-! ### APP_LOAD (R246) -/

/-- APP_LOAD: `rd` is the section in host memory, `imem` and `dmem` the images it holds. -/
def execAppLoad (d : Desc) (rd : DmaRead) (imem dmem : List Byte) (s : State) : Res :=
  .next (s.withDesc 0x70 d fun t s => s.withRead t d rd fun b s =>
    let k := d.target.toNat
    if !s.cfg.appClusters.contains k then s.fin t stProtection
    else if tabFind s.cfg.appHash k ≠ some (Config.digest 1 (b.map (·.toNat))) then s.fin t stImage
    else if 65536 < imem.length || 65536 < dmem.length then s.fin t stCapacity 0
    else { s with eng := { s.eng with appLoads := s.eng.appLoads ++ [{ t := t, cluster := k, imem := imem, dmem := dmem }] } })

/-- The images go to an engine; its fetch sees them at once. -/
def State.writeImages (s : State) (l : AppLoad) (n : Nat) : State :=
  let s := s.setMem (memWriteL (memWriteL s.mem (privAddr n 0) l.imem) (privAddr n 0x10000) l.dmem)
  (s.setCore n { (s.core n).executive with sb := [], jobs := [] }).syncFetch n

/-- R246 at a control-cycle boundary: a load that stopped its cluster one cycle ago completes; a new one stops its cluster's
jobs and writes its images to the engines that carry tasks and to the spares. -/
def State.appLoadBoundary (s : State) : State :=
  let old := s.eng.appLoads.filter (·.stopped)
  let new := s.eng.appLoads.filter (fun l => !l.stopped)
  let s := { s with eng := { s.eng with appLoads := new.map fun l => { l with stopped := true } } }
  let s := old.foldl (fun s l => s.fin l.t stDone) s
  new.foldl (fun s l =>
    ((upTo 8).map (8 * l.cluster + ·)).foldl (fun s n =>
      let st := s.engGet Fld.ENG_STATE__STATE n
      if st = eActive || st = eSpare then s.writeImages l n else s) s) s

end Sys2Proof.Machine
end

