-- ==== Sys2Proof/Machine/Display.lean ====
section
/-!
DEFINITION. Machine/Display.lean: the legal display and its scroll sequence (R457 to R471), and release and reading of the Moraine
log (R479, R480).
-/
namespace Sys2Proof.Machine

def State.setDisp (s : State) (d : DispSt) : State := { s with disp := d }

/-! ### Glyphs (R464, R465): segments a to g in bits 0 to 6, the decimal point in bit 7 -/

/-- The segments of a hexadecimal digit (log entry 45). -/
def glyph (n : Nat) : Nat :=
  [0x3F, 0x06, 0x5B, 0x4F, 0x66, 0x6D, 0x7D, 0x07, 0x7F, 0x6F, 0x77, 0x7C, 0x39, 0x5E, 0x79, 0x71].getD n 0

/-- What the eight value digits show. -/
inductive Shown where
  | micro (v : Nat)
  | hex (v : Nat)
  /-- digits left to right, each with its point -/
  | digits (ds : List (Nat × Bool))
  | all | dashes | blank
deriving DecidableEq, Repr

/-- The glyphs of a value, left to right (R465). -/
def Shown.glyphs (v : Shown) (prefix_ dec : Nat) : List Nat :=
  match v with
  | .micro x =>
    let n := x * 10 ^ dec / 10 ^ (6 + 3 * prefix_) % 10 ^ 8
    ((upTo 8).map fun i => (if i ≤ dec || 10 ^ i ≤ n then glyph (n / 10 ^ i % 10) else 0) + (if i = dec then 128 else 0)).reverse
  | .hex x => ((upTo 8).map fun i => glyph (x / 16 ^ i % 16)).reverse
  | .digits ds => List.replicate (8 - ds.length) 0 ++ ds.map fun d => glyph d.1 + 128 * b2n d.2
  | .all => List.replicate 8 255
  | .dashes => List.replicate 8 64
  | .blank => List.replicate 8 0

/-! ### Items (R466, R467) -/

def itemKind (b : List Byte) : Nat := field b 0 1
def itemByte (b : List Byte) : Nat := field b 1 1
def itemPos (b : List Byte) : Nat := bitsAt (field b 2 1) 4 4
def itemRate (b : List Byte) : Nat := bitsAt (field b 2 1) 0 4
def itemPrefix (b : List Byte) : Nat := bitsAt (field b 3 1) 4 4
def itemDec (b : List Byte) : Nat := bitsAt (field b 3 1) 0 4
def itemLabel (b : List Byte) : Nat := field b 4 2

/-- R467: the fixed items. -/
def fixedItems (f1 : Bool) : List (List Byte) :=
  [[0x0C, 0, 0, 0, 0x88, 0x88], [0x05, 0, 0, 0, 0xC0, 0x00]] ++ (if f1 then [[0x05, 1, 0, 0, 0xC0, 0x01]] else [])
  ++ [[0x06, 0, 0, 0, 0xCA, 0x00]] ++ (if f1 then [[0x06, 1, 0, 0, 0xCA, 0x01]] else [])

def State.items (s : State) : List (List Byte) := fixedItems s.variant.hasF1 ++ s.disp.seq

/-- Is byte 1 of an item of this kind a point, a die? -/
def kindPoint (k : Nat) : Bool := (1 ≤ k && k ≤ 4) || k == 0x0A
def kindDie (k : Nat) : Bool := k == 5 || k == 6 || k == 9 || k == 0x0B || k == 0x0D

/-- The die whose value an item shows. -/
def State.itemDie (s : State) (b : List Byte) : Firn :=
  if kindPoint (itemKind b) then (s.pcfg (itemByte b)).die else if kindDie (itemKind b) && itemByte b = 1 then .f1 else .f0

/-- May the configuration carry an item (R466, R468)? -/
def State.itemOk (s : State) (b : List Byte) : Bool :=
  let k := itemKind b; let x := itemByte b; let c := s.pcfg x
  let rate := itemRate b == 15 || decide (itemRate b < c.rates)
  decide (itemPrefix b ≤ 2 && itemDec b ≤ 6)
  && (if kindPoint k then c.commodity != 0 && (k == 0x0A || k == 3 || decide (itemPos b ≤ 7)) && (k == 4 || k == 0x0A || rate)
        && (k != 3 || decide (c.commodity ≤ 2))
      else if kindDie k then decide (x ≤ 1) && (x == 0 || s.variant.hasF1)
        && (k != 9 || decide (field b 2 1 ≤ 8)) && (k != 0x0B || decide (field b 2 1 ≤ 3))
      else if k == 7 || k == 8 then decide (x ≤ 3) || x == 15
      else k == 0x0C)

/-- Civil time of a schedule, or legal time (R466), in seconds from 2000-01-01. -/
def State.shownSecond (s : State) (sched : Nat) : Int :=
  let l := s.legalNow .f0
  match tabFind s.f0.sched sched with
  | some sc => if sched ≤ 3 then civilSecond sc.body l else (l : Int) / 1000000
  | none => (l : Int) / 1000000

def two (n : Nat) (dot : Bool) : List (Nat × Bool) := [(n / 10 % 10, false), (n % 10, dot)]

/-- The value of an item whose registers F0 holds (R466). Plain counts are shown as whole units (log entry 46). -/
def State.itemValue (s : State) (b : List Byte) : Shown :=
  let x := itemByte b; let m := s.mp x
  let rates := if itemRate b = 15 then upTo 8 else [itemRate b]
  let total (a : Accs) : Nat := billing ((rates.map fun r => accGet a (8 * r + itemPos b)).sum)
  match itemKind b with
  | 0x01 => .micro (total m.tot)
  | 0x02 => .micro (total m.ses)
  | 0x03 => .micro (1000 * rates.foldl (fun t r => max t (tabGet {} m.dm.rates r).max) 0)
  | 0x04 => .micro (billing (tabGet 0 m.unb (itemPos b)))
  | 0x05 => .hex (s.get Fld.FIRN_CHECK__VALUE x)
  | 0x06 => .micro (s.get Fld.FIRN_CAL_COUNT__COUNT x * 1000000)
  | 0x07 =>
    let (y, mo, d) := civilOf (s.shownSecond x / 86400)
    .digits (two d true ++ two mo true ++ two (y / 100) false ++ two y false)
  | 0x08 =>
    let t := (s.shownSecond x % 86400).toNat
    .digits (two (t / 3600) true ++ two (t / 60 % 60) true ++ two (t % 60) false)
  | 0x09 => .micro (s.get Fld.TAMPER_COUNT__COUNT (9 * x + field b 2 1) * 1000000)
  | 0x0A => .hex m.flow.hash
  | 0x0B => .hex (s.get Fld.FIRN_SCHED__ID (4 * x + field b 2 1))
  | 0x0C => .all
  | 0x0D => .micro ((65024 - s.get Fld.MOR_STATUS__HELD x) * 1000000)
  | _ => .blank

/-- Does a kind show its value in hexadecimal? -/
def kindHex (k : Nat) : Bool := k == 5 || k == 0x0A || k == 0x0B

/-- The value of the item at an index: F1's items take theirs from its signed values (R471). -/
def State.shownAt (s : State) (i : Nat) (b : List Byte) : Shown :=
  if s.itemDie b = .f0 then s.itemValue b
  else match s.disp.vals with
    | none => .dashes
    | some l => match tabFind l i with
      | none => .dashes
      | some v => if kindHex (itemKind b) then .hex v else .micro v

/-! ### Errors (R470) -/

/-- The errors that hold: die and code. -/
def State.dispErrors (s : State) : List (Nat × Nat) :=
  let one (d : Firn) : List (Nat × Nat) :=
    let n := d.num
    ((if s.flag Fld.FIRN_STATUS__HALT_FW n then [1] else []) ++ (if s.flag Fld.FIRN_STATUS__HALT_REF n then [2] else [])
      ++ (if s.flag Fld.FIRN_STATUS__HALT_CLK n then [3] else [])
      ++ (if s.flag Fld.MOR_STATUS__LIMIT n || (s.firn d).fullPosted then [4] else [])).map fun c => (n, c)
  one .f0 ++ (if s.variant.hasF1 then one .f1 ++ (if s.disp.vals.isNone then [(1, 5)] else []) else [])

/-- Refresh DISP_STATUS.ERRORS and DISP_CFG.ITEMS. -/
def State.dispMirror (s : State) : State :=
  (s.put Fld.DISP_STATUS__ERRORS 0 (s.dispErrors.foldl (fun m e => m ||| 2 ^ (e.2 - 1)) 0)).put Fld.DISP_CFG__ITEMS 0 s.items.length

/-! ### The image (R459, R460, R464) -/

/-- The unit annunciators of a position (R464, R340, R393). -/
def unitAnn (commodity pos : Nat) : Nat :=
  if commodity ≤ 2 then (if pos ≤ 1 then 2 ^ 16 else if pos ≤ 5 then 2 ^ 17 else 2 ^ 18)
  else if commodity = 3 then (if pos ≤ 1 then 2 ^ 19 else if pos ≤ 3 then 2 ^ 20 else 0)
  else if commodity = 4 then (if pos ≤ 1 then 2 ^ 21 + 2 ^ 22 else if pos ≤ 3 then 2 ^ 19 else if pos ≤ 5 then 2 ^ 21 else 0)
  else if pos ≤ 1 then 2 ^ 21 else if pos ≤ 3 then 2 ^ 19 else 2 ^ 20

/-- The annunciators of the item shown; none: an error item. -/
def State.annunciators (s : State) (item : Option (List Byte)) : Nat :=
  let dies := if s.variant.hasF1 then [Firn.f0, .f1] else [.f0]
  let common := 2 ^ 10 * b2n (dies.any fun d => s.sealed d = false || s.get Fld.FIRN_STATUS__SEAL d.num = 2)
    + 2 ^ 11 * b2n (!s.dispErrors.isEmpty) + 2 ^ 12 * b2n (dies.any s.firnHalted)
  match item with
  | none => common
  | some b =>
    let k := itemKind b; let p := itemByte b
    let d := s.itemDie b
    let perRate := (k == 1 || k == 2 || k == 3) && itemRate b != 15
    let rate := if perRate then 2 ^ itemRate b else if kindPoint k then 2 ^ s.get Fld.MP_STATE__RATE p else 0
    let dir := if kindPoint k then (if s.flag Fld.MP_STATE__DIR p then 2 ^ 9 else 2 ^ 8) else 0
    let unit_ := if k == 1 || k == 2 || k == 4 then unitAnn (s.pcfg p).commodity (itemPos b) else 0
    rate + dir + common + 2 ^ 13 * b2n (d == .f1) + 2 ^ 14 * b2n (itemPrefix b == 1) + 2 ^ 15 * b2n (itemPrefix b == 2) + unit_
      + 2 ^ 23 * b2n (s.clockSt d != 1)

/-- The twelve digits and the annunciators shown. -/
def State.glass (s : State) : List Nat × Nat :=
  let i := s.get Fld.DISP_STATUS__ITEM 0
  let label (n : Nat) : List Nat := [glyph (n / 4096 % 16), glyph (n / 256 % 16), glyph (n / 16 % 16), glyph (n % 16)]
  match (if s.disp.err = 0 then none else s.dispErrors[s.disp.err - 1]?) with
  | some (d, c) =>
    (label (0xE000 + d * 256 + c) ++ (if c = 1 then Shown.hex (s.get Fld.FIRN_CHECK__VALUE d) else .blank).glyphs 0 0, s.annunciators none)
  | none =>
    let b := s.items.getD i []
    if itemKind b = 0x0C then (List.replicate 12 255, 2 ^ 24 - 1)
    else (label (itemLabel b) ++ (s.shownAt i b).glyphs (itemPrefix b) (itemDec b), s.annunciators (some b))

/-- Is an element on: digit segments first, then the annunciators (R460)? -/
def elementOn (g : List Nat × Nat) (e : Nat) : Bool := if e < 96 then bitAt (g.1.getD (e / 8) 0) (e % 8) else bitAt g.2 (e - 96)

/-- The 96 bytes of frame memory for the item shown; blank until a map is stored (R459, R461). -/
def State.frameImage (s : State) : List Byte :=
  let g := s.glass
  (s.disp.map.zipIdx.filter fun x => elementOn g x.2).foldl (fun img x =>
    let at_ := 12 * x.1.1 + x.1.2 / 8
    listSet img at_ ((img.getD at_ 0) ||| BitVec.ofNat 8 (2 ^ (x.1.2 % 8)))) (List.replicate 96 0)

/-- The supervisor writes both buffers from its own image and renews the shadow CRC (R463). -/
def State.writeFrame (s : State) : State :=
  let img := s.frameImage
  s.setDisp { s.disp with front := img, back := img, shadow := crc32 img }

/-- R459: the supervisor has written the back buffer; the buffers swap at the frame boundary, and the shadow CRC is renewed. -/
def State.swapFrame (s : State) : State :=
  let img := s.frameImage
  s.setDisp { s.disp with front := img, back := s.disp.front, shadow := crc32 img }

/-! ### Frames (R462, R463) -/

/-- A DISPLAY record and its data (R476). -/
def State.dispRecord (s : State) (kind : Nat) : State :=
  s.moraine .f0 0x09 0 ([BitVec.ofNat 8 kind, 0, 0, 0] ++ leBytes 4 (s.get Fld.DISP_STATUS__MISMATCHES 0))

/-- DISPLAY_FRAME_END (R459, R462, R463): a frame has been scanned; `upset` is what has been inverted in the front buffer since
the frame before: byte and bits. -/
def execDisplayFrameEnd (upset : List (Nat × Byte)) (s : State) : Res :=
  if !s.firnLive .f0 then .next s
  else
    let front := upset.foldl (fun b x => listSet b x.1 ((b.getD x.1 0) ^^^ x.2)) (padTo 96 s.disp.front)
    let crc := crc32 front
    let s := (s.setDisp { s.disp with front := front }).setReg .DISP_CRC 0 crc
    let fault := s.flag Fld.DISP_STATUS__FAULT 0
    let fresh := s.disp.front = List.replicate 96 0 && s.disp.shadow = 0
    if crc = s.disp.shadow || fresh then
      let s := s.setDisp { s.disp with miss := 0, blank := fault, clean := if fault then s.disp.clean + 1 else 0 }
      let s := if fault && 10 ≤ s.disp.clean then
          (((s.put Fld.DISP_STATUS__FAULT 0 0).setDisp { s.disp with blank := false, clean := 0 }).dispRecord 2).postDie .f0 0x251 0 0
        else s
      .next s.dispMirror.swapFrame
    else
      let s := (s.bump Fld.DISP_STATUS__MISMATCHES 0 1).setDisp { s.disp with miss := s.disp.miss + 1, blank := true, clean := 0 }
      if fault then .next s
      else if s.disp.miss < 3 then .next s.dispMirror.writeFrame
      else
        let s := (s.put Fld.DISP_STATUS__FAULT 0 1).dispRecord 1
        .next (s.postDie .f0 0x250 2 (s.get Fld.DISP_STATUS__MISMATCHES 0)).dispMirror.writeFrame

/-- DISPLAY_FAULT_REWRITE (R463): every 10 s of a display fault. -/
def execDisplayFaultRewrite (s : State) : Res := .next (if s.firnLive .f0 && s.flag Fld.DISP_STATUS__FAULT 0 then s.writeFrame else s)

/-! ### DISP_MAP (R461) -/

def mapElements (b : List Byte) : List (Nat × Nat) := (upTo 120).map fun e => let w := field b (16 + 2 * e) 2; (bitsAt w 8 3, bitsAt w 0 7)

/-- R458, R461: are the settings and elements of a request in range and on distinct positions? -/
def mapOk (b : List Byte) : Bool :=
  let coms := field b 4 1; let es := mapElements b
  decide (1 ≤ coms && coms ≤ 8 && field b 6 1 ≤ 2 && field b 7 1 ≤ 5 && field b 8 1 ≤ 23 && field b 9 1 ≤ 5)
  && (if coms = 1 then field b 5 1 == 0 else field b 5 1 == 1 || field b 5 1 == 2)
  && (upTo 120).all (fun e => let w := field b (16 + 2 * e) 2; w / 2048 == 0 && !bitAt w 7)
  && es.all (fun e => decide (e.1 < coms && e.2 ≤ 95)) && decide es.Nodup

/-- DISP_MAP (R461). -/
def execDispMap (c : Chan) (s : State) : Res :=
  .next (s.takeReq c 0x0110 fun d b seq s =>
    if d = .f1 then s.replyReq c seq 0x0110 stBad []
    else if s.flag Fld.DISP_STATUS__MAPPED 0 then s.replyReq c seq 0x0110 stCapacity []
    else if s.sealed .f0 then s.replyReq c seq 0x0110 stSealLocked []
    else if !mapOk b then s.replyReq c seq 0x0110 stBad []
    else
      let put (s : State) (f : Fld) (at_ : Nat) : State := s.put f 0 (field b at_ 1)
      let s := put (put (put (put s Fld.DISP_CFG__COMS 4) Fld.DISP_CFG__BIAS 5) Fld.DISP_CFG__INVERSION 6) Fld.DISP_CFG__FRAME 7
      let s := put (put s Fld.DISP_CFG__VLCD 8) Fld.DISP_CFG__VLCD_TC 9
      let s := (s.put Fld.DISP_STATUS__MAPPED 0 1).setDisp { s.disp with map := mapElements b }
      (s.dispRecord 3).replyReq c seq 0x0110 stDone [])

/-! ### The scroll sequence (R467 to R471) -/

def listPrefix (l : List (List Byte)) : Nat := Config.digest 1 (l.flatten.map (·.toNat)) % 2 ^ 32

/-- DISP_SCROLL (R468). -/
def execDispScroll (c : Chan) (s : State) : Res :=
  .next (s.takeReq c 0x0111 fun d b seq s =>
    let first := field b 6 1; let n := field b 7 1
    let new := (upTo n).map fun k => (b.drop (16 + 6 * k)).take 6
    let limit := if s.variant.hasF1 then 123 else 125
    let bad := s.setDisp { s.disp with staged := [] }
    if d = .f1 then s.replyReq c seq 0x0111 stBad []
    else if !(1 ≤ field b 4 1 && field b 4 1 ≤ 30 && 1 ≤ n && n ≤ 40 && first + n ≤ limit && first ≤ s.disp.staged.length && field b 8 1 ≤ 1)
      || !new.all s.itemOk then bad.replyReq c seq 0x0111 stBad []
    else
      let list := s.disp.staged.take first ++ new ++ s.disp.staged.drop (first + n)
      if field b 8 1 = 0 then (s.setDisp { s.disp with staged := list }).replyReq c seq 0x0111 stDone []
      else if s.morRefuses .f0 12 then (s.morRefused .f0).replyReq c seq 0x0111 stCapacity []
      else
        let items := list.take (first + n)
        let old := match s.disp.pend with | some p => p.2 | none => s.disp.seq
        let s := s.setDisp { s.disp with staged := [], pend := some (field b 4 1, items) }
        let s := s.moraine .f0 0x03 0 ([6, 0, 0, 0] ++ leBytes 4 (listPrefix old) ++ leBytes 4 (listPrefix items))
        s.replyReq c seq 0x0111 stDone [])

/-- R468 at a control-cycle mark: a committed sequence starts with its first item. -/
def State.displayMark (s : State) : State :=
  match s.disp.pend with
  | none => s
  | some (dwell, items) =>
    let s := s.setDisp { s.disp with seq := items, pend := none, err := 0, vals := none }
    ((s.put Fld.DISP_CFG__DWELL 0 dwell).put Fld.DISP_STATUS__ITEM 0 0).dispMirror

/-- Go on to the next item. -/
def State.nextItem (s : State) : State :=
  let i := s.get Fld.DISP_STATUS__ITEM 0 + 1
  (s.put Fld.DISP_STATUS__ITEM 0 (if i < s.items.length then i else 0)).setDisp { s.disp with err := 0 }

/-- SCROLL_DWELL_EXPIRY (R469, R470): automatic scrolling goes on, through the error items after each item. -/
def execScrollDwellExpiry (s : State) : Res :=
  if !s.firnLive .f0 || s.flag Fld.DISP_STATUS__MANUAL 0 then .next s
  else if s.disp.err < s.dispErrors.length then .next (s.setDisp { s.disp with err := s.disp.err + 1 })
  else .next s.nextItem

/-- R469: DISP_STEP is read while F0 runs and the input has a defined state. -/
def State.stepInput (s : State) : Bool := s.firnLive .f0 && tabGet .undet s.boot.inputs .dispStep != .undet

/-- DISP_STEP_PRESS (R469, R470): a press shorter than 2 s. -/
def execDispStepPress (s : State) : Res := .next (if s.stepInput then s.nextItem.put Fld.DISP_STATUS__MANUAL 0 1 else s)

/-- DISP_STEP_LONG_PRESS (R469): a press reaches 2 s. -/
def execDispStepLongPress (s : State) : Res :=
  .next (if s.stepInput then ((s.put Fld.DISP_STATUS__ITEM 0 0).setDisp { s.disp with err := 0 }).put Fld.DISP_STATUS__MANUAL 0 1 else s)

/-- SCROLL_RESUME (R469): 60 s after the last press. -/
def execScrollResume (s : State) : Res := .next (if s.firnLive .f0 then s.put Fld.DISP_STATUS__MANUAL 0 0 else s)

/-- F1_DISPLAY_VALUES (R471): F1's signed values arrive; `ok`: the signature verifies and they are for the list in force. -/
def execF1DisplayValues (ok : Bool) (vals : List (Nat × Nat)) (s : State) : Res :=
  .next (if !s.firnLive .f0 || !s.variant.hasF1 || !s.dieRuns .cdie || !s.linkUp Firn.f0.link || !s.linkUp Firn.f1.link then s else (s.setDisp { s.disp with vals := if ok then some vals else none }).dispMirror)

/-- F1_VALUES_STALE (R471): the values are older than 5 s. -/
def execF1ValuesStale (s : State) : Res := .next (if !s.firnLive .f0 then s else (s.setDisp { s.disp with vals := none }).dispMirror)

/-! ### MORAINE_RELEASE and MORAINE_READ (R479, R480) -/

/-- MORAINE_RELEASE (R479). -/
def execMoraineRelease (c : Chan) (s : State) : Res :=
  .next (s.takeReq c 0x0112 fun d b seq s =>
    let last := field b 8 4
    let log := (s.firn d).log
    if s.sealed d then s.sealLocked d c seq 0x0112
    else match log.head?, log.any (fun e => e.1 == last) with
      | some first, true =>
        let s := s.setFirn d { s.firn d with log := log.filter (fun e => decide (last < e.1)), nearFull := decide (60000 < (log.filter fun e => decide (last < e.1)).length), fullPosted := false }
        let s := s.morMirror d
        (s.moraine d 0x03 0 ([7, 0, 0, 0] ++ leBytes 4 first.1 ++ leBytes 4 last)).replyReq c seq 0x0112 stDone []
      | _, _ => s.replyReq c seq 0x0112 stBad [])

/-- The 32 bytes of an entry (R475). -/
def entryBytes (e : Nat × List Byte) : List Byte :=
  let b := leBytes 4 e.1 ++ padTo 24 e.2
  b ++ leBytes 4 (crc32 b).toNat

/-- MORAINE_READ (R480). -/
def execMoraineRead (d : Desc) (s : State) : Res :=
  .next (s.withDesc 0x42 d fun t s =>
    let die := if d.target.toNat = 0 then Firn.f0 else .f1
    let buf := DescF.bufLen d
    if buf < 32 then s.fin t stBad 16
    else
      let held := (s.firn die).log.filter fun e => decide (DescF.par d 0 4 ≤ e.1)
      let max_ := DescF.par d 4 4
      let n := if max_ = 0 then buf / 32 else min max_ (buf / 32)
      let out := held.take n
      let next := match (held.drop n).head? with | some e => e.1 | none => 0
      (s.writeBuf d (out.flatMap entryBytes)).fin t stDone (out.length + next * 2 ^ 32))

end Sys2Proof.Machine
end

