-- ==== Sys2Proof/Machine/Legal.lean ====
section
/-!
DEFINITION. Machine/Legal.lean: the Firn domain: legal firmware and its check value, the legal clock, rate schedules, the Firn
store, power failure and outages, reading records and pulse test outputs (R407 to R456), seal and tamper inputs (R410, R472).
-/
namespace Sys2Proof.Machine

/-- A session that is running or not yet final: what happens to its die marks its record. -/
def State.sessionOpen (s : State) (p : Nat) : Bool :=
  s.mpState p == mpArmed || s.mpState p == mpMetering || (s.mpState p == mpFrozen && !(s.mp p).final)

/-- Set flag bits of R446 in the sessions of a die that are open. -/
def State.flagSessions (s : State) (d : Firn) (bits : Nat) : State :=
  (s.diePoints d).foldl (fun s p => if s.sessionOpen p then s.setMp p { s.mp p with flags := (s.mp p).flags ||| bits } else s) s

/-- A digest cut or filled to a number of bytes: signatures, keys (log entry 3). -/
def digestBytes (n tag : Nat) (l : List Nat) : List Byte := leBytes n (Config.digest tag l)

/-! ### SEAL and tamper inputs (R410 to R412, R472, R473) -/

def State.setInput (s : State) (i : Inp) (l : Level) : State :=
  s.setBoot { s.boot with inputs := (i, l) :: s.boot.inputs.filter (fun x => x.1 != i) }
def State.input (s : State) (i : Inp) : Level := tabGet .undet s.boot.inputs i

/-- SEAL takes a state: 0 low and sealed, 1 high and unsealed, 2 undetermined and judged sealed (R126, R410, R412). -/
def State.sealState (s : State) (d : Firn) (l : Level) : State :=
  let s := s.setInput (.seal d) l
  let s := (s.put Fld.FIRN_STATUS__SEAL d.num l.code).putB Fld.FIRN_STATUS__SEALED d.num (l != .high)
  (if l = .low || !s.firnLive d then s else s.flagSessions d 1).morMirror d

/-- SEAL_CHANGE (R411): a change between defined states is a tamper event of a die that runs; it does not interrupt metering. -/
def execSealChange (d : Firn) (high : Bool) (s : State) : Res :=
  let old := s.input (.seal d)
  let new := if high then Level.high else .low
  if old = new then .next s
  else
    let s := s.sealState d new
    .next (if old = .undet || !s.firnLive d then s else s.tamper d 2 3 3 [])

/-- COVER or MAGNET takes a defined state (R128, R472): an assertion counts, unless it is the first defined state; a release is
recorded only. -/
def State.tamperLevel (s : State) (d : Firn) (magnet high : Bool) : State :=
  let c := b2n magnet
  let inp := if magnet then Inp.magnet d else .cover d
  let old := s.input inp
  let s := s.setInput inp (if high then .high else .low)
  let fld := if magnet then Fld.TAMPER_STATE__MAGNET else Fld.TAMPER_STATE__COVER
  let s := (s.put fld (tamperIdx d 0) (b2n high)).put fld (tamperIdx d 1) (b2n high)
  if (s.firn d).pfw.isSome || !(s.firn d).runs then
    -- R128: recorded when the die starts, if it is still asserted then
    s.setBoot { s.boot with late := if high && old != .high then inp :: s.boot.late else if high then s.boot.late else s.boot.late.filter (· != inp) }
  else match old, high with
    | .low, true => s.tamper d c 1 (c + 1) []
    | .undet, true => s.tamperRecord d c 1 []
    | .high, false => s.tamperRecord d c 2 []
    | _, _ => s

/-- TAMPER_INPUT (R473). -/
def execTamperInput (d : Firn) (magnet high : Bool) (s : State) : Res :=
  let old := s.input (if magnet then Inp.magnet d else .cover d)
  .next (if old = (if high then .high else .low) then s else s.tamperLevel d magnet high)

/-! ### The check value (R416, R417, R454) -/

/-- A computed check value is compared with the reference. -/
def State.checkValue (s : State) (d : Firn) (v : W32) : State :=
  let ref := s.reg .FIRN_CHECK_REF d.num
  let s := s.setReg .FIRN_CHECK d.num v
  let rec_ (k : Nat) (s : State) : State := s.moraine d 0x07 0 ([BitVec.ofNat 8 k, 0, 0, 0] ++ leBytes 4 v.toNat ++ leBytes 4 ref.toNat)
  if v = ref then
    let s := s.put Fld.FIRN_STATUS__CHECK_OK d.num 1
    if s.flag Fld.FIRN_STATUS__HALT_FW d.num then (rec_ 2 (s.haltLift d 3)).postDie d 0x242 0 0 else s
  else
    let s := s.put Fld.FIRN_STATUS__CHECK_OK d.num 0
    if s.flag Fld.FIRN_STATUS__HALT_FW d.num then s
    else (rec_ 1 (s.haltBegin d 3)).postDie d 0x241 3 (v.toNat % 65536)

/-- FIRMWARE_CHECK_PERIODIC (R416, R417): the computed value `v`. -/
def execFirmwareCheckPeriodic (d : Firn) (v : W32) (s : State) : Res := .next (if s.firnLive d then s.checkValue d v else s)

/-- FIRMWARE_CHECK (R454): the computed value `v`. -/
def execFirmwareCheck (c : Chan) (v : W32) (s : State) : Res :=
  .next (s.takeReq c 0x0105 fun d _ seq s =>
    let s := s.checkValue d v
    let ref := s.reg .FIRN_CHECK_REF d.num
    s.replyReq c seq 0x0105 stDone ([0, 0] ++ leBytes 4 v.toNat ++ leBytes 4 ref.toNat ++ leBytes 8 (s.legalNow d) ++ [BitVec.ofNat 8 (b2n (v != ref))]))

/-! ### The legal clock (R418 to R425) -/

/-- The step's size in ms as an event carries it (R456). -/
def stepMs (z : Int) : Nat := bitsOf 14 (max (-8192) (min 8191 (Int.tdiv z 1000)))

/-- The clock takes the value `new` at index `e`, for the indices from there on; `kind` is the event's kind, `sub` the parameter record's
(0: none). -/
def State.stepClock (s : State) (d : Firn) (e new : Nat) (kind sub : Nat) (delta : Int) : State :=
  let f := s.firn d
  let old := f.legal e
  let s := s.setFirn d { f with lb := new, nb := e, was := (f.lb, f.nb) }
  let s := s.flagSessions d 64
  let s := if sub = 0 then s else s.moraineAt d 0x03 0 new ([4, BitVec.ofNat 8 sub, 0, 0] ++ List.replicate 8 0 ++ leBytes 8 old ++ leBytes 8 new
    ++ leInt 4 (Int.tdiv delta 1000))
  s.postDie d 0x246 0 (kind * 2 ^ 14 + stepMs ((new : Int) - (old : Int)))

/-- The rate in force for a point at a legal time (R421, R426, R427). -/
def State.rateFor (s : State) (p legal : Nat) : Nat :=
  let c := s.pcfg p
  if s.clockSt c.die = 0 then 0
  else match tabFind (s.firn c.die).sched c.sched with
    | some sc => rateOf sc.body legal
    | none => 0

/-- Each point of a die takes the rate in force at an index (R428). -/
def State.rateRefresh (s : State) (d : Firn) (idx : Nat) : State :=
  let t := (s.firn d).legal idx
  (s.diePoints d).foldl (fun s p =>
    let old := s.get Fld.MP_STATE__RATE p
    let new := s.rateFor p t
    if old = new then s else (s.setMp p { s.mp p with rateFrom := idx, ratePrev := old }).put Fld.MP_STATE__RATE p new) s

/-- R422: the clock resumes from the last committed legal time, unverified; a supply interruption is logged (R439). -/
def State.resumeUnverified (s : State) (d : Firn) (m : Nat) : State :=
  let f := s.firn d
  let n := f.commitIdx + 1
  let s := s.setFirn d { f with restart := false, lb := f.commitTime, nb := n, was := (f.commitTime, n), m := max n m }
  (s.put Fld.FIRN_STATUS__CLOCK d.num 2).tamper d 4 3 0 []

/-- R419: the daily step of a mark: δ limited to what is left of the allowance of 1,000,000 µs in 86,400 s. -/
def State.dailyStep (s : State) (d : Firn) (m : Nat) (delta : Int) (hour : Bool) : State :=
  let f := s.firn d
  let l := f.legal m
  let recent := f.steps.filter fun x => decide (l < x.1 + 86400000000)
  let used := (recent.map fun x => x.2.natAbs).sum
  let s := (s.setFirn d { f with steps := recent }).setReg .FIRN_ADJ_USED d.num (BitVec.ofNat 32 used)
  let left : Int := ((1000000 - used : Nat) : Int)
  let step := max (-left) (min left delta)
  if !hour || delta.natAbs < 10000 || step = 0 || !s.morRoom d 32 then s
  else
    let new := ((f.legal (m + 1) : Int) + step).toNat
    let s := s.setFirn d { s.firn d with steps := (l, step) :: recent }
    let s := s.setReg .FIRN_ADJ_USED d.num (BitVec.ofNat 32 (used + step.natAbs))
    let s := s.stepClock d (m + 1) new 0 3 delta
    if 0 < step then s.rateRefresh d (m + 1) else s

/-- R419, R420, R422: δ of a received mark. -/
def State.markDelta (s : State) (d : Firn) (m dev : Nat) (hour : Bool) : State :=
  let f := s.firn d
  let delta : Int := (dev : Int) - (f.legal m : Int)
  let s := s.setReg .FIRN_CLOCK_DEV d.num (BitVec.ofInt 32 (clampS 32 delta))
  let s := if 5000000 < delta.natAbs && !f.deviated then (s.setFirn d { f with deviated := true }).tamper d 5 3 0 []
    else if delta.natAbs < 1000000 then s.setFirn d { f with deviated := false } else s
  let s := if s.clockSt d = 2 && delta.natAbs < 10000 then s.put Fld.FIRN_STATUS__CLOCK d.num 1 else s
  s.dailyStep d m delta hour

/-- The legal clock at a received mark with index `m` and device time `dev`, 0 while it is not set (R419 to R424). -/
def State.markClock (s : State) (d : Firn) (m dev : Nat) : State :=
  match (s.firn d).timeSet with
  | some v =>
    let s := if (s.firn d).restart then s.resumeUnverified d m else s
    let f := s.firn d
    let delta : Int := (v : Int) - (f.legal m : Int)
    let s := s.setFirn d { f with timeSet := none, steps := [], restart := false, m := m }
    let s := (s.setReg .FIRN_ADJ_USED d.num 0).put Fld.FIRN_STATUS__CLOCK d.num 1
    let s := s.stepClock d m v 3 0 delta
    if 0 < delta then s.rateRefresh d m else s
  | none =>
    let f := s.firn d
    if f.restart then
      if dev ≠ 0 && f.commitTime ≤ dev then
        let n := f.commitIdx + 1 + (dev - f.commitTime) * 1017 / 32000
        let s := s.setFirn d { f with restart := false, lb := f.commitTime, nb := n, m := n }
        let s := (s.stepClock d n dev 2 2 ((dev : Int) - f.commitTime)).put Fld.FIRN_STATUS__CLOCK d.num 1
        (s.tamper d 4 3 0 []).rateRefresh d n
      else s.resumeUnverified d m
    else
      let hour := decide (f.legal f.m / 3600000000 < f.legal m / 3600000000)
      let s := s.setFirn d { f with m := m }
      if s.clockSt d = 0 then
        if dev = 0 then s
        else
          let delta : Int := (dev : Int) - (f.legal m : Int)
          ((s.stepClock d m dev 1 1 delta).put Fld.FIRN_STATUS__CLOCK d.num 1).rateRefresh d m
      else if dev = 0 then s
      else s.markDelta d m dev hour

/-! ### Commits (R264, R433, R435) -/

/-- A point's commit: its newest valid checkpoint; a migrating point waits (R274). -/
def State.commitPoint (s : State) (p : Nat) : State :=
  let m := s.mp p
  if s.eng.migr.any fun x => x.2.points.any (·.1 == p) then s
  else match m.ck with
    | none => s
    | some k => (s.setMp p { m with commit := some { k with cyc := {}, fixed := false, rot := (0, 0, 0, 0), flow := {} } }).setReg .MP_COMMIT_IDX p (BitVec.ofNat 32 k.lastIdx)

/-- R433: a periodic commit of a die at index `m`; `busy`: the one before is still running, and this one is skipped. -/
def State.periodicCommit (s : State) (d : Firn) (m : Nat) (busy : Bool) : State :=
  let f := s.firn d
  if f.marks % max 1 (s.get Fld.FIRN_COMMIT_CFG__INTERVAL d.num) ≠ 0 then s
  else if busy then s.bump Fld.FIRN_COMMIT_SEQ__SKIPS d.num 1
  else
    let s := (s.diePoints d).foldl (fun s p => s.commitPoint p) s
    let f := s.firn d
    let s := s.setFirn d { f with commitSeq := f.commitSeq + 1, commitTime := f.legal m, perTime := f.legal m, commitIdx := m, finalOk := false }
    s.put Fld.FIRN_COMMIT_SEQ__SEQ d.num (f.commitSeq + 1)

/-- The die commits its whole state, as before a planned stop (R86, R415). -/
def State.storeAll (s : State) (d : Firn) : State :=
  let s := (s.diePoints d).foldl (fun s p => s.commitPoint p) s
  let f := s.firn d
  let s := s.setFirn d { f with commitSeq := f.commitSeq + 1, commitTime := f.legal f.m, perTime := f.legal f.m, commitIdx := f.m, finalOk := false }
  s.put Fld.FIRN_COMMIT_SEQ__SEQ d.num (f.commitSeq + 1)

/-! ### Pulse test outputs (R450 to R453) -/

def ptoIdx (d : Firn) (k : Nat) : Nat := 8 * d.num + k
def State.pto (s : State) (d : Firn) (k : Nat) : PtoSt := tabGet {} (s.firn d).pto k
def State.setPto (s : State) (d : Firn) (k : Nat) (x : PtoSt) : State := s.setFirn d { s.firn d with pto := tabSet (s.firn d).pto k x }

/-- R453: settings take effect at a mark, from which counting restarts. -/
def State.ptoMark (s : State) (d : Firn) : State :=
  (upTo 8).foldl (fun s k =>
    let x := s.pto d k
    match x.pend with
    | none => s
    | some (en, p, q, w, qpp) =>
      let i := ptoIdx d k
      let s := (((s.putB Fld.PTO_CFG__EN i en).put Fld.PTO_CFG__LOST i 0).put Fld.PTO_CFG__POS i q).put Fld.PTO_CFG__POINT i p
      let s := ((s.put Fld.PTO_CFG__WIDTH i w).setReg .PTO_QPP (2 * i) (BitVec.ofNat 32 qpp)).setReg .PTO_QPP (2 * i + 1) (BitVec.ofNat 32 (qpp / 2 ^ 32))
      (s.setReg .PTO_COUNT i 0).setPto d k { qpp := qpp, start := accSum (s.mp p).tot q }) s

/-- PULSE_OUT (R453). -/
def execPulseOut (c : Chan) (s : State) : Res :=
  .next (s.takeReq c 0x0104 fun d b seq s =>
    let k := field b 4 1; let en := field b 5 1; let p := field b 6 2; let q := field b 8 1; let w := field b 10 2; let qpp := field b 12 8
    if 8 ≤ k || 2 ≤ en || !s.ownsPoint d p || 8 ≤ q || field b 9 1 ≠ 0 || w < 1 || 80 < w || qpp < 1 || 10 ^ 12 < qpp then
      s.replyReq c seq 0x0104 stBad []
    else (s.setPto d k { s.pto d k with pend := some (en == 1, p, q, w, qpp) }).replyReq c seq 0x0104 stDone [])

/-- The pulses due so far: the billing register of what has been added since counting began, over QPP (R451). -/
def State.ptoDue (s : State) (d : Firn) (k : Nat) : Nat :=
  let i := ptoIdx d k; let x := s.pto d k
  let acc := accSum (s.mp (s.get Fld.PTO_CFG__POINT i)).tot (s.get Fld.PTO_CFG__POS i)
  if x.qpp = 0 then 0 else billing (acc - x.start) / x.qpp

/-- A pulse begins. -/
def State.ptoStart (s : State) (d : Firn) (k : Nat) : State :=
  ((s.setPto d k { s.pto d k with on := true }).bump Fld.PTO_COUNT__PULSES (ptoIdx d k) 1).emit (.pulse d k)

/-- PULSE_TEST_OUTPUT_EDGE (R451, R452): the spread sum crosses a multiple of QPP: a pulse begins, is queued, or is lost. -/
def execPulseTestOutputEdge (d : Firn) (k : Nat) (s : State) : Res :=
  let i := ptoIdx d k; let x := s.pto d k
  let p := s.get Fld.PTO_CFG__POINT i
  if !s.firnLive d || !s.flag Fld.PTO_CFG__EN i || s.mpState p ≠ mpMetering || s.ptoDue d k ≤ s.get Fld.PTO_COUNT__PULSES i + x.queued then .next s
  else if !x.on then .next (s.ptoStart d k)
  else if x.queued < 65535 then .next (s.setPto d k { x with queued := x.queued + 1 })
  else
    let s := s.put Fld.PTO_CFG__LOST i 1
    .next (s.firnPost d none { code := 0x248, sev := 1, obj := d.num * 256 + k })

/-- PULSE_TEST_OUTPUT_END (R452): a pulse's width ends; a queued one follows. -/
def execPulseTestOutputEnd (d : Firn) (k : Nat) (s : State) : Res :=
  let x := s.pto d k
  if !x.on then .next s
  else if x.queued = 0 then .next (s.setPto d k { x with on := false })
  else .next ((s.setPto d k { x with on := false, queued := x.queued - 1 }).ptoStart d k)

/-! ### Outages (R438 to R441) -/

/-- R439: the OUTAGE record and the bounds, once the front end is in service at index `idx` and the restart time is known. -/
def State.outageWrite (s : State) (d : Firn) (idx : Nat) : State :=
  let f := s.firn d
  match f.outage with
  | none => s
  | some (missing, points) =>
    if f.restart || !s.flag Fld.FIRN_STATUS__READY d.num then s
    else
      let t := f.legal idx
      let unknown := s.clockSt d ≠ 1
      let n := s.get Fld.FIRN_OUTAGES__COUNT d.num + 1
      let flags := b2n missing + 2 * b2n unknown
      let s := (s.setFirn d { f with outage := none }).put Fld.FIRN_OUTAGES__COUNT d.num n
      let s := s.moraineAt d 0x04 0 t (leBytes 4 flags ++ leBytes 4 n ++ [0, 0, 0, 0] ++ leBytes 8 f.perTime ++ leBytes 8 f.pfwAt)
      let s := s.postDie d 0x245 1 flags
      points.foldl (fun s x =>
        let us := t - x.2
        let qs := if unknown then (upTo 8).map fun q => (q, 2 ^ 128 - 1) else boundTime (s.mp x.1).peak us
        let s := (s.addUnbilled x.1 qs).unbilledRecord d x.1 6 (us * 1017 / 32000) qs
        let s := s.bump Fld.MP_OUTAGES__VALUE x.1 1
        s.setMp x.1 { s.mp x.1 with outTime := t, flags := (s.mp x.1).flags ||| (8 * b2n unknown) }) s

/-- REFERENCES_SETTLED (R315, R439): the calibrations of the start; channels enter service at index `idx`. -/
def execReferencesSettled (d : Firn) (cals : List (Nat × CalSums)) (idx : Nat) (s : State) : Res :=
  .next ((s.refsSettled d cals).outageWrite d idx)

/-! ### Marks (R419, R433, R434) -/

/-- R328: OUT_OF_SERVICE to IDLE, once every channel is in service and no slice, switch or engine of the point is wanting. -/
def State.oosReturn (s : State) (p : Nat) : State :=
  let m := s.mp p
  if s.mpState p = mpOos && m.oos.all (2 < ·) && (pointChannels (s.pcfg p)).all (fun ch => s.get Fld.CH_STATUS__STATE ch == 1) then
    (s.setMp p { m with oos := [] }).setMpState p mpIdle
  else s

/-- What every mark does, received or local: `old`: the index of the mark before, `raw`: the raw words of the control cycle. -/
def State.markWork (s : State) (d : Firn) (busy : Bool) (old : Nat) (raw : List (Nat × List Nat)) : State :=
  let f := s.firn d
  let m := f.m
  let s := s.setFirn d { f with marks := f.marks + 1, vbatPend := [] }
  let l := f.legal m
  let s := (s.setReg .FIRN_LTIME_LO d.num (BitVec.ofNat 32 l)).setReg .FIRN_LTIME_HI d.num (BitVec.ofNat 32 (l / 2 ^ 32))
  let s := f.vbatPend.foldl (fun s x => s.tamper d 3 3 (0x10 + x.1) ([0, 0, 0, 0] ++ leBytes 8 x.2)) s
  let s := (s.chanMark d old m raw).applyCal d
  let s := s.ptoMark d
  let s := (s.diePoints d).foldl (fun s p =>
    let s := s.oosReturn p
    let s := if s.mpState p = mpArmed && (s.mp p).pathClosed then s.meterPoint p m else s
    if pointFlow (s.pcfg p) then (s.blkMark p m).batchCheck p (s.mp p).flow.rate else s) s
  let s := s.outageWrite d m
  let s := if d = .f0 then s.displayMark else s
  s.periodicCommit d m busy

/-- CONTROL_CYCLE_MARK (R419 to R424, R433, R434): a mark with index `m` arrives and carries device time `dev`; `busy`: a commit is still
running; `raw`: the raw words the converters have delivered since the mark before, by local channel (R260, log entry 156). -/
def execControlCycleMark (d : Firn) (dev m : Nat) (busy : Bool) (raw : List (Nat × List Nat)) (s : State) : Res :=
  if !s.firnLive d || !s.linkUp d.link then .next s
  else
    let s := s.put Fld.FIRN_STATUS__LOCAL_MARKS d.num 0
    let old := (s.firn d).m
    let s := s.markClock d (max m old) dev
    .next ((s.cycleFcount (1 + d.num) 0).markWork d busy old raw)

/-- LOCAL_MARK (R434): the die's own mark, which carries no device time. -/
def execLocalMark (d : Firn) (m : Nat) (busy : Bool) (raw : List (Nat × List Nat)) (s : State) : Res :=
  if !s.firnLive d then .next s
  else
    let s := s.put Fld.FIRN_STATUS__LOCAL_MARKS d.num 1
    let old := (s.firn d).m
    let s := s.setFirn d { s.firn d with m := max m old }
    .next ((s.cycleFcount (1 + d.num) 0).markWork d busy old raw)

/-- RESTART_MARK_TIMEOUT (R422): no mark within 60 s of a restart. -/
def execRestartMarkTimeout (d : Firn) (s : State) : Res :=
  .next (if (s.firn d).restart && s.firnLive d then (s.resumeUnverified d 0).outageWrite d (s.firn d).m else s)

/-! ### Starting a die (R120, R414 to R417, R421, R438, R441) -/

/-- The registers of a die that its reset or restart puts back: what the Firn store does not keep. -/
def firnVolatile : Reg → Bool
  | .FIRN_CHECK | .FIRN_LTIME_LO | .FIRN_LTIME_HI | .FIRN_CLOCK_DEV | .FIRN_ADJ_USED | .ADC_STATUS | .ADC_GAIN | .ADC_OFFSET | .ADC_COUNT
  | .REF_DEV | .REGEL_STATUS | .REGEL_ROUND | .REGEL_SEAMS | .REGEL_SEAM_FAIL | .CH_STATUS | .CH_SAMPLE | .CH_INDEX | .CH_SEAM
  | .CH_REGEL_LO | .CH_REGEL_HI | .CH_OVR_COUNT | .PTO_CFG | .PTO_COUNT | .PTO_QPP | .FSPAD_CONF | .FSPAD_ECC
  | .PI_CORR | .PI_EDGES | .PI_MISS | .PI_SPUR => true
  | _ => false

/-- R434, R455: the die's registers and working state are lost; what the Firn store keeps stays. -/
def State.firnClear (s : State) (d : Firn) : State :=
  let n := d.num
  let s := s.resetRegs fun k => firnVolatile k.reg && k.idx / max 1 (k.reg.info.n / 2) == n
  let s := (((s.put Fld.FIRN_STATUS__LOCAL_MARKS n 0).put Fld.FIRN_STATUS__HALT_FW n 0).put Fld.FIRN_STATUS__HALT_REF n 0).put Fld.FIRN_STATUS__HALT_CLK n 0
  let s := (s.put Fld.FIRN_STATUS__CHECK_OK n 0).put Fld.FIRN_STATUS__READY n 0
  let s := ((((s.put Fld.REF_STATUS__STALE n 0).put Fld.REF_STATUS__HALT n 0).put Fld.REF_STATUS__DIVERGED n 0).put Fld.REF_STATUS__SETTLED n 0)
  let s := s.put Fld.FIRN_COMMIT_SEQ__SKIPS n 0
  let f := s.firn d
  let s := s.setFirn d { f with runs := false, steps := [], deviated := false, timeSet := none, restart := false, marks := 0,
                                ratios := [], lowSince := none, lanePos := [], failedOnce := [], suspect := [], adcCal := [], rtd := [],
                                rtdDiff := [], measure := [], ring := [], coefOld := [], edges := [], edgeLost := [], calPend := [], pto := [], haltFrom := none, vbatPend := f.vbatPend }
  if d = .f0 then
    let s := (((s.put Fld.DISP_STATUS__FAULT 0 0).put Fld.DISP_STATUS__MISMATCHES 0 0).put Fld.DISP_STATUS__ITEM 0 0).put Fld.DISP_STATUS__MANUAL 0 0
    (s.put Fld.DISP_STATUS__ERRORS 0 0).setDisp { s.disp with front := [], back := [], shadow := 0, blank := false, miss := 0, clean := 0, staged := [], pend := none, err := 0, vals := none }
  else s

/-- A point restored from the Firn store (R438, R441): its cut, with the legal time, where it was METERING. -/
def State.restorePoint (s : State) (useFinal : Bool) (bad : List Nat) (p : Nat) : State × Option (Nat × Nat) :=
  let m := s.mp p
  let fromFinal := useFinal && !bad.contains p && m.fin.isSome
  match (if fromFinal then m.fin else m.commit) with
  | none => ((s.setMp p { m with tot := [], ses := [], peak := [], ck := none, ckOld := none, final := true }).setMpState p (if s.mpState p = mpOos then mpOos else mpIdle), none)
  | some k =>
    let fl := m.flow
    let fl := { fl.acquisition with trim := k.trim, low := 0, rose := none, a := {}, b := {}, counts := [], invalidFrom := none, batch := false,
                                    above := 0, blk := none, state := none }
    let running := (k.state = mpMetering || k.state = mpArmed) && !(m.recFormed && m.startIdx == k.startIdx)
    let m := { m with tot := k.tot, ses := k.ses, dm := k.dm, peak := k.peak, startIdx := k.startIdx, flow := fl, ck := none, ckOld := none,
                      vmask := 0, vgood := 0, seqRun := 0, meas := none, final := true, pathClosed := false, cyc := {} }
    let s := (s.setMp p m).put Fld.MP_STATE__FIXED p 0
    if running then
      let s := s.endSession p (k.lastIdx + 1) 6
      let s := s.setMp p { s.mp p with freezeTime := k.time, flags := (s.mp p).flags ||| (2 + 4 * b2n (!fromFinal)) }
      let s := s.setMp p { s.mp p with commit := some { k with state := mpFrozen } }
      (s.setMpState p mpFrozen, if k.state = mpMetering then some (p, k.time) else none)
    else
      let s := s.setMp p { s.mp p with commit := some k }
      (if s.mpState p = mpMetering || s.mpState p = mpArmed then s.setMpState p (if k.state = mpFrozen then mpFrozen else mpIdle) else s, none)

/-- R221: the protection regions that legal firmware gives a Firn engine: its own memories and mailbox page, and the die's scratchpads
(log entry 182). -/
def firnMpu : List (Nat × (W32 × W32)) :=
  [(0, (0, 0x0000FFEF)), (1, (0x00010000, 0x0001FFE7)), (2, (0x00030000, 0x00030BE7)), (3, (0x20000000, 0x201FFFE7))]

/-- R121: the engines of a die that passed their self-test take their points' work, or stand spare; their regions are set. -/
def State.firnEngines (s : State) (d : Firn) : State :=
  (upTo 64).foldl (fun s k =>
    let n := 128 + 64 * d.num + k
    let s := s.setCore n { s.core n with mpu := firnMpu }
    if s.engGet Fld.ENG_STATE__STATE n = eSpare then
      s.engPut Fld.ENG_STATE__STATE n (if s.cfg.taskEngine.any (·.2 == n) then eActive else eSpare)
    else s) s

/-- R414, R120, R438: the die starts: `ok0`, `ok1`: the images of the slots verify; `check`: the check value computed; `bad`: points whose
own final record fails its CRC. With `clockKept` the legal clock never stopped (R442). -/
def State.dieStart (s : State) (d : Firn) (ok0 ok1 : Bool) (check : W32) (bad : List Nat) (clockKept : Bool) : State :=
  let n := d.num
  let s := s.firnClear d
  let active := s.get Fld.FIRN_STATUS__SLOT n
  let ok (k : Nat) : Bool := if k = 0 then ok0 else ok1
  let slot := if ok active then some active else if ok (1 - active) then some (1 - active) else none
  match slot with
  | none => s.setBoot { s.boot with stopped := d.die :: s.boot.stopped.filter (· != d.die) }
  | some k =>
    let s := s.setBoot { s.boot with stopped := s.boot.stopped.filter (· != d.die) }
    let s := if k = active then s else (s.put Fld.FIRN_STATUS__SLOT n k).setReg .FIRN_CHECK_REF n (BitVec.ofNat 32 (tabGet 0 (s.firn d).slots k))
    let f := s.firn d
    let useFinal := f.finalOk
    let first := if clockKept then f.m else f.commitIdx + b2n f.started
    let set := s.clockSt d ≠ 0
    let s := s.setFirn d { f with runs := true, pfw := none, pfwAt := if f.outage.isSome then f.pfwAt else (f.pfw.getD (0, 0)).2, started := true,
                                  restart := set && !clockKept && f.started, m := first,
                                  lb := if clockKept then f.lb else if set then f.commitTime else 0, nb := if clockKept then f.nb else first }
    let s := s.putB Fld.FIRN_COMMIT_CFG__FINAL_OK n (f.started && useFinal)
    let (s, cuts) := (s.diePoints d).foldl (fun (x : State × List (Nat × Nat)) p =>
      let r := x.1.restorePoint useFinal bad p
      (r.1, x.2 ++ r.2.toList)) (s, [])
    -- R444: an outage whose record is not yet written stands, with its cut
    let s := if f.started then s.setFirn d { s.firn d with outage := some (f.outage.getD (!useFinal, cuts)) } else s
    let s := if f.started && !(s.firn d).restart then s.tamper d 4 3 0 [] else s
    let s := (s.usedCh d).foldl (fun s j => s.put Fld.CH_STATUS__STATE (chIdx d j) 3) s
    let s := s.firnEngines d
    let s := s.checkValue d check
    -- R128: inputs asserted while the die did not run are evaluated by level
    let late := s.boot.late.filter fun i => i == .cover d || i == .magnet d
    let s := s.setBoot { s.boot with late := s.boot.late.filter fun i => !late.contains i }
    let s := late.foldl (fun s i => s.tamperRecord d (if i == .magnet d then 1 else 0) 1 []) s
    ((s.morMirror d).dispMirror).putB (match d with | .f0 => Fld.CLK_STATUS__F0_PLL_LOCK | .f1 => Fld.CLK_STATUS__F1_PLL_LOCK) 0 (!s.power.refLost)

/-- FIRN_DIE_START (R86, R120): not in Deep sleep or Off, nor while the die stands still for Sleep. -/
def execFirnDieStart (d : Firn) (ok0 ok1 : Bool) (check : W32) (bad : List Nat) (s : State) : Res :=
  .next (if (s.firn d).runs || (d = .f1 && !s.variant.hasF1) || !s.railsGood d.die || s.isDown || ((s.firn d).waking && s.pwr == 2) then s
    else s.dieStart d ok0 ok1 check bad false)

/-! ### Power failure (R436 to R442) -/

/-- R437: the running cycle of a point up to the index `e`; its reactive energy is by the previous cycle's Q₁. -/
def State.lastCycle (s : State) (p e : Nat) : State :=
  let c := s.pcfg p; let x := (s.mp p).cyc
  if c.commodity = cDc then
    let b := e / 32 * 32
    if b < e then s.cycle p (s.formCycle p b e 0 0 true (some [])) true else s
  else if x.on && x.b < e then
    s.cycle p { s.formCycle p x.b e x.tk 0 (s.flag Fld.MP_STATE__FIXED p) (some x.q1) with len := (e - x.b) * 65536 } false
  else s

/-- The running block of a flow point up to the index `e`: a partial block (R394). -/
def State.lastBlock (s : State) (p e : Nat) : State :=
  match (s.mp p).flow.blk with
  | none => s
  | some x =>
    let s := s.blkFill p x.b e
    let b := s.formBlock p x.b (e - blkStart x.b)
    (s.blockBill p (s.blockHeld p b)).blockCounts p b

/-- The final checkpoint of a point at the cut index `k` (R437). -/
def State.finalPoint (s : State) (p k : Nat) : State :=
  let s := if (s.pcfg p).commodity ≤ 2 then s.lastCycle p (k + 1) else s.lastBlock p (k + 1)
  let m := s.mp p
  let migrating := s.eng.migr.any fun x => x.2.points.any (·.1 == p)
  s.setMp p { m with fin := if migrating then m.ck.orElse (fun _ => m.commit) else some (s.snapshot p k) }

/-- PFW_FALL (R437, R474): the latest converted index `idx` is latched and the points are finally committed at the cut; `done`: the
hold-up lasts until the marker is written. The die stops. -/
def execPfwFall (d : Firn) (idx : Nat) (done : Bool) (s : State) : Res :=
  let f := s.firn d
  if f.pfw.isSome || !f.runs then .next (s.setFirn d { f with pfwHigh := false })
  else
    let k := idx - 34
    let inService := f.outage.isNone
    let s := (s.setFirn d { f with pfw := some (idx, f.legal idx), pfwHigh := false }).regelStop d
    let s := match f.haltFrom with
      | some from_ => (s.diePoints d).foldl (fun s p => s.haltBound d p (k - from_)) s
      | none => s
    let s := if inService then (s.diePoints d).foldl (fun s p => s.finalPoint p k) s else s
    let f := s.firn d
    -- the die stops, and with F0 the display is blank (R457)
    let s := if d = .f0 then s.setDisp { s.disp with front := [], back := [], shadow := 0 } else s
    .next (if inService && done then s.setFirn d { f with finalOk := true, commitTime := f.legal k, commitIdx := k } else s)

/-- PFW_RISE (R442). -/
def execPfwRise (d : Firn) (s : State) : Res := .next (s.setFirn d { s.firn d with pfwHigh := true })

/-- PFW_HIGH_TIMEOUT (R442): PFW high for 100 ms and no supply left its range: the die restarts from its store; the clock never
stopped. -/
def execPfwHighTimeout (d : Firn) (ok0 ok1 : Bool) (check : W32) (bad : List Nat) (s : State) : Res :=
  let f := s.firn d
  .next (if f.pfw.isSome && f.pfwHigh && f.runs then s.dieStart d ok0 ok1 check bad true else s)

/-! ### Reading records (R445 to R449) -/

/-- The bytes of a point's record but for the signature (R445). -/
def State.recordBytes (s : State) (p seq : Nat) : List Byte :=
  let c := s.pcfg p; let d := c.die; let m := s.mp p
  let rates := max 1 c.rates
  leBytes 2 1 ++ [BitVec.ofNat 8 d.num, BitVec.ofNat 8 m.endCause] ++ leBytes 4 seq ++ leBytes 2 p
    ++ [BitVec.ofNat 8 (c.commodity * 16 + c.topology), BitVec.ofNat 8 rates] ++ leBytes 4 m.flags
    ++ leBytes 8 m.startIdx ++ leBytes 8 m.freezeIdx ++ leBytes 8 m.startTime ++ leBytes 8 m.freezeTime ++ leBytes 8 s.devTime
    ++ leBytes 4 m.calCount ++ leBytes 4 (s.reg .FIRN_CHECK d.num).toNat ++ leBytes 4 (if c.commodity ≤ 2 then 0 else m.flow.hash) ++ leBytes 4 m.schedId
    ++ leBytes 8 (s.firn d).serial ++ leBytes 2 m.tariff ++ [0, 0] ++ leBytes 4 m.lost ++ List.replicate 40 0
    ++ (upTo rates).flatMap (fun r => (upTo 8).flatMap fun q => leBytes 8 (billing (accGet m.ses (8 * r + q))))
    ++ (upTo 8).flatMap (fun q => leBytes 8 (billing (tabGet 0 m.sesUnb q)))

/-- The record with its signature (R447, log entry 3). -/
def signed (d : Firn) (b : List Byte) : List Byte := b ++ digestBytes 64 2 (d.num :: b.map (·.toNat))

/-- Unacknowledged records of a die. -/
def State.queueMirror (s : State) (d : Firn) : State :=
  s.put Fld.FIRN_QUEUE__UNACKED d.num ((s.firn d).records.filter (fun r => !r.acked)).length

/-- READING_RECORD_FORM (R445, R447): once the session's registers are final, and after an outage once the die is in service again. -/
def execReadingRecordForm (p : Nat) (s : State) : Res :=
  let d := (s.pcfg p).die
  let m := s.mp p
  if !s.firnLive d || !m.final || m.recFormed || (s.firn d).outage.isSome || (s.mpState p ≠ mpFrozen && s.mpState p ≠ mpOos) then .next s
  else
    let seq := s.get Fld.FIRN_REC_SEQ__SEQ d.num + 1
    let f := s.firn d
    let kept := f.records.filter fun r => !(r.point == p && r.acked)
    let s := s.setFirn d { f with records := kept ++ [{ seq := seq, point := p, bytes := s.recordBytes p seq }] }
    let s := (s.put Fld.FIRN_REC_SEQ__SEQ d.num seq).setMp p { m with recFormed := true }
    let s := ((s.setReg .MP_REC_SEQ p (BitVec.ofNat 32 seq)).setReg .MP_REC_STATE p (BitVec.ofNat 32 (m.endCause * 65536 + m.flags % 512)))
    .next (s.queueMirror d)

/-- R447: a record is acknowledged, and its point goes from FROZEN to IDLE. -/
def State.acknowledge (s : State) (d : Firn) (seq : Nat) : State :=
  match (s.firn d).records.find? (fun r => r.seq == seq && !r.acked) with
  | none => s
  | some r =>
    let f := s.firn d
    let s := s.setFirn d { f with records := f.records.map fun (x : Rec) => if x.seq == seq then { x with acked := true } else x }
    let latest := (s.reg .MP_REC_SEQ r.point).toNat == seq
    let s := if latest then s.put Fld.MP_REC_STATE__ACKED r.point 1 else s
    let s := if latest && s.mpState r.point = mpFrozen then s.setMpState r.point mpIdle else s
    s.queueMirror d

/-- RECORD_READ (R448). -/
def execRecordRead (d : Desc) (s : State) : Res :=
  .next (s.withDesc 0x41 d fun t s =>
    let p := d.target.toNat
    let die := (s.pcfg p).die
    let q := DescF.par d 0 4
    let l := (s.firn die).records.filter fun r => r.point == p && (q == 0 || r.seq == q)
    match l.getLast? with
    | none => s.fin t stCapacity 1
    | some r =>
      let b := signed die r.bytes
      (s.writeBuf d b).fin t stDone (b.length % 65536))

/-! ### Other requests (R415, R424, R429, R430, R449, R454) -/

/-- LEGAL_TIME_SET (R424): the step takes effect at the next mark, whose index is `eff`. -/
def execLegalTimeSet (c : Chan) (eff : Nat) (s : State) : Res :=
  .next (s.sealedReq c 0x0103 (fun b => zeroOutside b [(0, 3), (8, 15)]) (fun _ => none) fun d b seq s =>
    let v := field b 8 8
    let s := s.setFirn d { s.firn d with timeSet := some v }
    let s := s.calRecord d 0x0103 0 eff (leBytes 8 (s.legalNow d) ++ leBytes 8 v)
    s.replyReq c seq 0x0103 stDone ([0, 0] ++ leBytes 4 (s.get Fld.FIRN_CAL_COUNT__COUNT d.num) ++ leBytes 8 eff))

/-- R415: the die's answer to a new legal firmware image with check value `v`; `ok`: it verifies once written. -/
def State.installLegal (s : State) (d : Firn) (v : W32) (ok : Bool) : State × Nat :=
  if s.sealed d then (s.tamper d 6 3 0 [], stSealLocked)
  else if (s.diePoints d).any (fun p => s.mpState p != mpIdle && s.mpState p != mpOos) || s.calFull d || !ok then (s, stCapacity)
  else
    let n := d.num
    let old := s.reg .FIRN_CHECK_REF n
    let slot := 1 - s.get Fld.FIRN_STATUS__SLOT n
    let f := s.firn d
    let s := s.setFirn d { f with slots := tabSet (tabSet f.slots (1 - slot) old.toNat) slot v.toNat }
    let s := (s.put Fld.FIRN_STATUS__SLOT n slot).setReg .FIRN_CHECK_REF n v
    let s := s.calRecord d 0 0 f.m (leBytes 4 old.toNat ++ leBytes 4 v.toNat)
    let s := s.storeAll d
    (s.setFirn d { s.firn d with runs := false }, stDone)

/-- LEGAL_FIRMWARE_INSTALL (R415): the image reaches the die by its firmware channel; it restarts by FIRN_DIE_START. -/
def execLegalFirmwareInstall (d : Firn) (v : W32) (ok : Bool) (s : State) : Res := .next (if s.firnLive d then (s.installLegal d v ok).1 else s)

/-- RATE_SWITCH (R428): civil time has reached a minute of a profile at index `idx`. -/
def execRateSwitch (d : Firn) (idx : Nat) (s : State) : Res := .next (if s.firnLive d then s.rateRefresh d idx else s)

/-- RATE_SCHEDULE (R429, R430): `mark` is the legal time of the next mark, the activation time of a request that names none. -/
def execRateSchedule (c : Chan) (mark : Nat) (s : State) : Res :=
  .next (s.takeReq c 0x0102 fun d b seq s =>
    let k := field b 4 1
    if !scheduleOk b then s.replyReq c seq 0x0102 stBad []
    else if (s.diePoints d).any (fun p => (s.pcfg p).sched == k && decide ((s.pcfg p).rates ≤ topRate b)) then s.replyReq c seq 0x0102 stCapacity []
    else if s.morRefuses d 12 then (s.morRefused d).replyReq c seq 0x0102 stCapacity []
    else
      let at_ := if field b 8 8 = 0 then mark else field b 8 8
      let id := field b 16 4
      let f := s.firn d
      let s := s.setFirn d { f with schedPend := tabSet f.schedPend k { id := id, activate := at_, body := b } }
      (s.setReg .FIRN_SCHED_PEND (4 * d.num + k) (BitVec.ofNat 32 id)).replyReq c seq 0x0102 stDone ([0, 0] ++ leBytes 4 id ++ leBytes 8 at_))

/-- SCHEDULE_ACTIVATION (R430): at its legal time, at index `idx`, a pending schedule comes into force; while no position is free for
its record it waits (R478). -/
def execScheduleActivation (d : Firn) (k idx : Nat) (s : State) : Res :=
  let f := s.firn d
  match tabFind f.schedPend k with
  | none => .next s
  | some sc =>
    if !s.firnLive d || f.legal idx < sc.activate || !s.morRoom d 12 then .next s
    else
      let i := 4 * d.num + k
      let old := s.get Fld.FIRN_SCHED__ID i
      let s := s.setFirn d { f with sched := tabSet f.sched k sc, schedPend := tabErase f.schedPend k }
      let s := (s.setReg .FIRN_SCHED i (BitVec.ofNat 32 sc.id)).setReg .FIRN_SCHED_PEND i 0
      let s := s.moraine d 0x03 0 ([3, BitVec.ofNat 8 k, 0, 0] ++ leBytes 4 old ++ leBytes 4 sc.id)
      .next ((s.postDie d 0x247 0 k).rateRefresh d idx)

/-- OUTAGE_READ (R454). -/
def execOutageRead (c : Chan) (s : State) : Res :=
  .next (s.takeReq c 0x0106 fun d b seq s =>
    let p := field b 4 2
    if !s.ownsPoint d p then s.replyReq c seq 0x0106 stAbsent []
    else
      let m := s.mp p
      s.replyReq c seq 0x0106 stDone ([0, 0] ++ (upTo 8).flatMap (fun q => leBytes 16 (tabGet 0 m.unb q))
        ++ leBytes 4 (s.get Fld.MP_OUTAGES__VALUE p) ++ leBytes 8 m.outTime))

/-- LEGAL_IDENTITY (R449): the key and the certificate are fixed at manufacture (log entry 3). -/
def execLegalIdentity (c : Chan) (s : State) : Res :=
  .next (s.takeReq c 0x0101 fun d _ seq s =>
    let f := s.firn d
    s.replyReq c seq 0x0101 stDone ([0, 0] ++ leBytes 8 f.serial ++ digestBytes 64 3 [d.num, f.serial] ++ digestBytes 64 4 [d.num, f.serial]
      ++ leBytes 4 (s.reg .FIRN_CHECK d.num).toNat ++ [BitVec.ofNat 8 (s.get Fld.FIRN_STATUS__SLOT d.num)]))

end Sys2Proof.Machine
end

