-- ==== Sys2Proof/Machine/Ledger.lean ====
section
/-!
DEFINITION. Machine/Ledger.lean: tariffs, pricing and the account ledger (R485 to R515), and how a start of a delivery completes
(R59, R60).
-/
namespace Sys2Proof.Machine

def State.setLedger (s : State) (l : LedgerSt) : State := { s with ledger := l }

/-! ### Starts (R59, R60) -/

/-- The final outcome of a start: its completion, or SESSION_RESULT for one that firmware submitted. A start that won a conflict in its
cycle ends with CONFLICT_RESOLVED in place of DONE (R52; log entry 84). -/
def State.finishStart (s : State) (x : StartSt) (status result : Nat) (winner : Nat := 0) : State :=
  let s := { s with starts := s.starts.filter (fun y => y.point != x.point) }
  let won := decide (status = stDone) && x.conf != 0
  let status := if won then stConflict else status
  match x.t with
  | some t => s.complete { t := t, status := status, result := if won then 1 else result, winner := if won then x.conf else winner }
  | none =>
    let s := match x.node with | some n => s.kyAnswer n x.port status result | none => s
    s.postTo x.port { code := 0x302, sev := if status = stDone || won then 0 else 1, obj := x.point, data := status }

/-- ADMISSION_DEFERRED for a start, once (R59, R169), with its RESULT. -/
def State.deferStart (s : State) (x : StartSt) (result : Nat) : State :=
  if x.deferred then s
  else
    let s := { s with starts := s.starts.map fun (y : StartSt) => if y.point == x.point then { y with deferred := true } else y }
    match x.t with
    | some t => s.complete { t := t, status := stDeferred, result := result, more := true }
    | none => s.postTo x.port { code := 0x302, sev := 0, obj := x.point, data := stDeferred }

/-! ### Slots and fields (R493) -/

def LedgerSt.slot (l : LedgerSt) (n : Nat) : List Byte := tabGet (List.replicate 256 0) l.slots n
def LedgerSt.setSlot (l : LedgerSt) (n : Nat) (b : List Byte) : LedgerSt := { l with slots := tabSet l.slots n b }
/-- The 64 bytes of line `k` of a slot. -/
def lineOf (b : List Byte) (k : Nat) : List Byte := padTo 64 ((b.drop (64 * k)).take 64)
def withLine (b : List Byte) (k : Nat) (l : List Byte) : List Byte := (padTo 256 b).take (64 * k) ++ padTo 64 l ++ (padTo 256 b).drop (64 * k + 64)

def setField (b : List Byte) (pos n v : Nat) : List Byte := b.take pos ++ leBytes n v ++ b.drop (pos + n)
def money (b : List Byte) (pos : Nat) : Int := signedOf 64 (field b pos 8)
def setMoney (b : List Byte) (pos : Nat) (v : Int) : List Byte := setField b pos 8 (bitsOf 64 v)

def slState (b : List Byte) : Nat := field b 2 1
def slCurrency (b : List Byte) : Nat := field b 4 2
def slHash (b : List Byte) : Nat := field b 128 8

/-- A slot is quarantined (R491, R492). -/
def LedgerSt.isQuar (l : LedgerSt) (n : Nat) : Bool := l.quar.contains n || (l.dead && !l.revived.contains n)

/-- Region line numbers: a line of a slot, of a journal entry; and the slot of a line. -/
def slotLine (n k : Nat) : Nat := 4 * n + k
def journalLine (pos k : Nat) : Nat := 0x52400000 / 64 + 64 * pos + k

/-! ### Versions (R488, R489) -/

/-- A child of a counter level is written: its minor counter advances; past 63 the node's major does, and every child starts at 0. -/
def LedgerSt.bumpChild (l : LedgerSt) (level child : Nat) : LedgerSt :=
  let m := tabGet 0 l.minor (level, child) + 1
  if m ≤ 63 then { l with minor := tabSet l.minor (level, child) m }
  else
    let node := child / 64
    { l with minor := l.minor.filter (fun x => !(x.1.1 == level && x.1.2 / 64 == node)),
             major := tabSet l.major (level, node) (tabGet 0 l.major (level, node) + 1) }

/-- A protected line is written: its version and those of its nodes advance, up to the root. -/
def LedgerSt.touch (l : LedgerSt) (line : Nat) : LedgerSt :=
  let l := ((l.bumpChild 0 line).bumpChild 1 (line / 64)).bumpChild 2 (line / 4096)
  { l with root := tabSet l.root (line / 262144) (tabGet 0 l.root (line / 262144) + 1) }

/-- Lines of a journal entry are written: header, images and state. -/
def LedgerSt.touchEntry (l : LedgerSt) (pos images : Nat) : LedgerSt :=
  (journalLine pos 63 :: (upTo (images + 1)).map (journalLine pos)).foldl LedgerSt.touch l

/-! ### Mirrors -/

def unsettled (l : LedgerSt) : Nat := (l.journal.filter fun x => x.2.kind == 4 && x.2.state == 7).length
def pinned (e : JEntry) : Bool := (e.kind == 3 && e.state == 5) || (e.kind == 4 && e.state == 7)

/-- The first position from `p` on whose entry is not pinned; none where all are (R502). -/
def freePos (l : LedgerSt) (p : Nat) : Nat → Option Nat
  | 0 => none
  | k + 1 => match tabFind l.journal p with
    | some e => if pinned e then freePos l ((p + 1) % 16384) k else some p
    | none => some p

def State.ledgerMirror (s : State) : State :=
  let l := s.ledger
  let s := (s.put Fld.LEDGER_STATUS__UNSETTLED 0 (unsettled l)).setReg .LEDGER_POST_SEQ_LO 0 (BitVec.ofNat 32 l.seq)
  let s := (s.setReg .LEDGER_POST_SEQ_HI 0 (BitVec.ofNat 32 (l.seq / 2 ^ 32))).setReg .LEDGER_QUARANTINED 0
    (BitVec.ofNat 32 (if l.dead then 5242880 - l.revived.length else l.quar.length))
  let s := s.setReg .LEDGER_POISONED 0 (BitVec.ofNat 32 (if l.dead then 24641536 - 4 * l.revived.length else l.poison.length))
  let s := s.put Fld.LEDGER_STATUS__INFLIGHT 0 (min 16 (l.stalled.filter fun x => x.1 == 0x31 || x.1 == 0x32).length)
  (s.put Fld.LEDGER_JOURNAL__PINNED 0 (l.journal.filter fun x => pinned x.2).length).put Fld.LEDGER_JOURNAL__OLDEST 0
    ((freePos l l.jpos 16384).getD l.jpos)

/-! ### Tag failures (R491, R492) -/

/-- A slot event (R515). -/
def State.slotEvent (s : State) (code sev slot more : Nat) : State :=
  s.postBoth { code := code, sev := sev, obj := slot % 65536, data := slot / 65536 % 128 + more }

/-- LEDGER_TAG_FAIL_ADDR: the first failure since TAG, COUNTER and JOURNAL were clear. -/
def State.captureFail (s : State) (f : Fld) (off : Nat) : State :=
  let clear := !s.flag Fld.LEDGER_ERR__TAG 0 && !s.flag Fld.LEDGER_ERR__COUNTER 0 && !s.flag Fld.LEDGER_ERR__JOURNAL 0
  let s := if clear then s.setReg .LEDGER_TAG_FAIL_ADDR 0 (BitVec.ofNat 32 off) else s
  s.put f 0 1

def State.quarantine (s : State) (slot : Nat) : State :=
  s.setLedger { s.ledger with quar := if s.ledger.quar.contains slot then s.ledger.quar else slot :: s.ledger.quar }

/-- A slot line fails its tag (R491). -/
def State.failLine (s : State) (line : Nat) : State :=
  let s := s.setLedger { s.ledger with poison := if s.ledger.poison.contains line then s.ledger.poison else line :: s.ledger.poison }
  let s := ((s.captureFail Fld.LEDGER_ERR__TAG (64 * line)).slotEvent 0x801 2 (line / 4) (line % 4 * 256)).quarantine (line / 4)
  s.ledgerMirror

/-- A counter node, a journal line or an index line fails its tag (R492). -/
def State.failOther (s : State) (f : TagFail) : State :=
  match f with
  | .line _ _ => s
  | .node level n =>
    let first := n * 64 ^ (level + 1)
    let s := if 2 ≤ level then s.setLedger { s.ledger with dead := true, revived := [] }
      else
        let lines := (upTo (64 ^ (level + 1))).map (first + ·)
        let slots := (upTo (64 ^ (level + 1) / 4)).map (first / 4 + ·)
        s.setLedger { s.ledger with poison := s.ledger.poison.filter (fun x => !lines.contains x) ++ lines,
                                    quar := s.ledger.quar.filter (fun x => !slots.contains x) ++ slots.filter (· < 5242880) }
    let off := (if level = 0 then 0x50000000 else if level = 1 then 0x51780000 else 0x517DE000) + 64 * n
    ((s.captureFail Fld.LEDGER_ERR__COUNTER off).slotEvent 0x801 2 (first / 4) 32768).ledgerMirror
  | .journal pos =>
    let s := (s.captureFail Fld.LEDGER_ERR__JOURNAL (64 * journalLine pos 0)).slotEvent 0x801 2 0 16384
    (s.setLedger { s.ledger with journal := tabErase s.ledger.journal pos }).ledgerMirror
  | .index =>
    -- firmware rebuilds the index from the slots that hold an account
    let l := s.ledger
    let idx := (l.slots.filter fun x => (slState x.2 == 1 || slState x.2 == 2) && slHash x.2 != 0).map fun x => (slHash x.2, x.1)
    ((s.put Fld.LEDGER_ERR__INDEX 0 1).slotEvent 0x801 2 0 16384).setLedger { l with index := idx }

/-- Failures other than of slot lines come first. -/
def State.failOthers (s : State) (fs : List TagFail) : State := fs.foldl (fun s f => s.failOther f) s

/-! ### The journal (R502) -/

/-- Write an entry at the next position that is not pinned. -/
def State.journalAdd (s : State) (e : JEntry) : State × Option Nat :=
  match freePos s.ledger s.ledger.jpos 16384 with
  | none => (s, none)
  | some p =>
    let l := s.ledger.touchEntry p (2 * e.images.length)
    let e := { e with time := s.devTime }
    ((s.setLedger { l with journal := tabSet l.journal p e, jpos := (p + 1) % 16384 }).ledgerMirror, some p)

def State.journalSet (s : State) (p st : Nat) : State :=
  match tabFind s.ledger.journal p with
  | none => s
  | some e =>
    let l := s.ledger.touch (journalLine p 63)
    (s.setLedger { l with journal := tabSet l.journal p { e with state := st } }).ledgerMirror

/-- The next posting sequence number. -/
def State.nextPostSeq (s : State) : State × Nat := (s.setLedger { s.ledger with seq := s.ledger.seq + 1 }, s.ledger.seq + 1)

/-! ### Parts (R499, R500) -/

structure Part where
  slot : Nat
  force : Bool
  amount : Int
  hold : Int
deriving DecidableEq, Repr

def fits64 (z : Int) : Bool := decide (-(2 ^ 63 : Int) ≤ z) && decide (z < 2 ^ 63)

/-- R500: the period is moved on by whole periods before check 7. -/
def movePeriod (b : List Byte) (now : Nat) : List Byte :=
  let len := field b 96 4 * 1000000; let start := field b 88 8
  if len ≠ 0 && start + len ≤ now then
    setField (setField (setField b 88 8 (start + (now - start) / len * len)) 72 8 0) 64 8 0
  else b

/-- R500: a part's check against its slot: its status and reason, or the slot after it but for what the posting stamps. -/
def checkPart (b : List Byte) (p : Part) (currency now : Nat) : (Nat × Nat) ⊕ List Byte :=
  let bad (r : Nat) : (Nat × Nat) ⊕ List Byte := .inl (stCapacity, r)
  let st := slState b
  if st ≠ 1 && !(st = 2 && 0 ≤ p.amount) then bad (if st = 2 then 2 else 1)
  else if slCurrency b ≠ currency then bad 3
  else
    let limit (pos : Nat) : Int := money b pos
    let bal := money b 16 + p.amount
    let hold0 := money b 24 + p.hold
    let hold := if p.force then max 0 hold0 else hold0
    if !p.force && p.amount < 0 && limit 112 ≠ 0 && limit 112 < -p.amount then bad 4
    else if !p.force && (p.amount < 0 || 0 < p.hold) && bal - hold0 < -(money b 32) then bad 5
    else
      let b := movePeriod b now
      if !p.force && p.amount < 0 && limit 80 ≠ 0 && limit 80 < money b 64 - p.amount then bad 6
      else
        let debit := money b 64 + (if p.amount < 0 then -p.amount else 0)
        let credit := money b 72 + (if 0 < p.amount then p.amount else 0)
        if !(fits64 bal && fits64 hold0 && fits64 debit && fits64 credit) then bad 7
        else if !p.force && hold0 < 0 then bad 8
        else
          let deep := decide (bal - hold < -(money b 32))
          let fl := field b 3 1
          let fl := if deep then (if p.force then putBits fl 0 1 1 else fl) else putBits fl 0 1 0
          let b := setMoney (setMoney (setMoney (setMoney b 16 bal) 24 hold) 64 debit) 72 credit
          .inr (setMoney (setField (setField b 3 1 fl) 100 4 ((field b 100 4 + 1) % 2 ^ 32)) 104 p.amount)

/-- How a posting ends: DONE with its sequence number, or aborted at a part with a status and reason. -/
inductive PostRes where
  | done (seq : Nat)
  | aborted (part status reason : Nat)
deriving DecidableEq, Repr

/-- Does a list of failures name a line at a stage, or cover it by a node? -/
def tagFails (fs : List TagFail) (stage line : Nat) : Bool :=
  fs.any fun f => match f with
    | .line st n => st == stage && n == line
    | .node level n => stage == 0 && line / 64 ^ (level + 1) == n
    | _ => false

/-- R503 steps 2 and 3: lines verify and parts pass, in part order: the slot images after, or the first failure. `quar`: the slots that were
quarantined before (R507). -/
def State.checkParts (s : State) (quar : List Nat) (fs : List TagFail) (currency : Nat) :
    List Part → Nat → State × (PostRes ⊕ List (Part × List Byte))
  | [], _ => (s, .inr [])
  | p :: r, k =>
    let bad := [slotLine p.slot 0, slotLine p.slot 1].find? fun n => tagFails fs 0 n
    if quar.contains p.slot then (s, .inl (.aborted k stQuarantined 0))
    else match bad with
    | some n => (if s.ledger.isQuar p.slot then s else s.failLine n, .inl (.aborted k stIntegrity 0))
    | none =>
      if s.ledger.isQuar p.slot then (s, .inl (.aborted k stQuarantined 0))
      else match checkPart (s.ledger.slot p.slot) p currency s.devTime with
        | .inl (st, why) => (s, .inl (.aborted k st why))
        | .inr b => match s.checkParts quar fs currency r (k + 1) with
          | (s, .inr l) => (s, .inr ((p, b) :: l))
          | x => x

/-- R489: the minor counter of a line about to be written would pass 63: the other lines under its node are read and verified, and one that
fails is poisoned. -/
def State.rewriteNode (s : State) (fs : List TagFail) (line : Nat) : State :=
  if tabGet 0 s.ledger.minor (0, line) < 63 then s
  else
    let others := (upTo 64).map fun k => line / 64 * 64 + k
    (others.filter fun n => n != line && decide (n / 4 < 5242880) && tagFails fs 3 n && !s.ledger.poison.contains n).foldl (fun s n => s.failLine n) s

/-- A line of a slot is written with new bytes and a new version. -/
def State.writeLine (s : State) (fs : List TagFail) (slot k : Nat) (bytes : List Byte) : State :=
  let s := s.rewriteNode fs (slotLine slot k)
  let l := s.ledger.touch (slotLine slot k)
  s.setLedger (l.setSlot slot (withLine (l.slot slot) k bytes))

/-- R504: the lines written are restored, newest first; true where every one was. -/
def State.backOut (s : State) (fs : List TagFail) : List (Nat × Nat × List Byte) → State × Bool
  | [] => (s, true)
  | (slot, k, before) :: r =>
    if tagFails fs 2 (slotLine slot k) then
      let (s, _) := (s.failLine (slotLine slot k)).backOut fs r
      (s.put Fld.LEDGER_ERR__UNDO_INCOMPLETE 0 1, false)
    else (s.writeLine fs slot k before).backOut fs r

/-- R503 step 5: lines are written in order; `done`: what has been written, newest first. The failing part's index where one fails. -/
def State.applyLines (s : State) (fs : List TagFail) : List (Nat × Nat × Nat × List Byte) → List (Nat × Nat × List Byte) → State × Option (Nat × List (Nat × Nat × List Byte))
  | [], _ => (s, none)
  | (part, slot, k, after) :: r, done =>
    if tagFails fs 1 (slotLine slot k) then (s.failLine (slotLine slot k), some (part, done))
    else
      let before := lineOf (s.ledger.slot slot) k
      (s.writeLine fs slot k after).applyLines fs r ((slot, k, before) :: done)

/-- R503: a posting from step 2 on. -/
def State.post (s : State) (fs : List TagFail) (parts : List Part) (currency ref : Nat) : State × PostRes :=
  let quar := (parts.map (·.slot)).filter s.ledger.isQuar
  let s := s.failOthers fs
  match s.checkParts quar fs currency parts 0 with
  | (s, .inl (.aborted k st why)) =>
    let s := (((s.put Fld.LEDGER_LAST_ABORT__PART 0 k).put Fld.LEDGER_LAST_ABORT__STATUS 0 st).put Fld.LEDGER_LAST_ABORT__REASON 0 why).bump Fld.LEDGER_ABORTS__COUNT 0 1
    (s.ledgerMirror, .aborted k st why)
  | (s, .inl r) => (s, r)
  | (s, .inr l) =>
    let (s, seq) := s.nextPostSeq
    let stamp (b : List Byte) : List Byte := setField (setField b 40 8 seq) 48 8 s.devTime
    let l := l.map fun x => (x.1, stamp x.2)
    let images := l.flatMap fun x => [0, 1].map fun k =>
      ({ line := slotLine x.1.slot k, before := lineOf (s.ledger.slot x.1.slot) k, after := lineOf x.2 k } : Image)
    let (s, pos) := s.journalAdd { kind := 1, state := 1, seq := seq, ref := ref, images := images }
    let pos := pos.getD 0
    let writes := l.zipIdx.flatMap fun x => [0, 1].map fun k => (x.2, x.1.1.slot, k, lineOf x.1.2 k)
    match s.applyLines fs writes [] with
    | (s, none) =>
      let s := (s.journalSet pos 2).bump Fld.LEDGER_POSTS__COUNT 0 1
      (s, .done seq)
    | (s, some (k, done)) =>
      let (s, whole) := s.backOut fs done
      let s := s.journalSet pos (if whole then 3 else 4)
      let s := ((s.put Fld.LEDGER_LAST_ABORT__PART 0 k).put Fld.LEDGER_LAST_ABORT__STATUS 0 stIntegrity).put Fld.LEDGER_LAST_ABORT__REASON 0 0
      ((s.bump Fld.LEDGER_ABORTS__COUNT 0 1).ledgerMirror, .aborted k stIntegrity 0)

/-! ### Tariffs and pricing (R494 to R496) -/

def tfComponents (b : List Byte) : Nat := field b 4 1
def tfCommodity (b : List Byte) : Nat := field b 5 1
def tfCurrency (b : List Byte) : Nat := field b 2 2

/-- R495: may a table be loaded? -/
def tariffOk (b : List Byte) : Bool :=
  let n := tfComponents b
  decide (64 + 32 * n ≤ b.length) && field b 0 2 == 1 && decide (1 ≤ n && n ≤ 16) && decide (1 ≤ tfCommodity b && tfCommodity b ≤ 5)
  && field b 6 2 == 0 && field b 8 4 != 0 && ((b.drop 12).take 52).all (· == 0)
  && (upTo n).all fun c =>
    let f (pos k : Nat) : Nat := field b (64 + 32 * c + pos) k
    let kind := f 0 1
    decide (1 ≤ kind && kind ≤ 4) && decide (f 3 1 ≤ 7 && f 4 1 ≤ 7) && f 3 1 != f 4 1 && f 5 1 == 0 && f 16 8 == 0 && f 24 8 == 0
    && (if kind = 1 then decide (f 1 1 ≤ 7) && (decide (f 2 1 ≤ 7) || f 2 1 == 15) else f 1 1 == 0 && f 2 1 == 0)
    && (if kind = 4 then decide (f 6 2 < 2 ^ c) else f 6 2 == 0)

/-- The parties a table names. -/
def tariffParties (b : List Byte) : Nat :=
  (upTo (tfComponents b)).foldl (fun m c => max m (max (field b (64 + 32 * c + 3) 1) (field b (64 + 32 * c + 4) 1) + 1)) 0

/-- A session quantity of a record (R445): a position at a rate, 15 for all. -/
def recQty (r : List Byte) (pos rate : Nat) : Int :=
  let one (k : Nat) : Int := signedOf 64 (field r (128 + 64 * k + 8 * pos) 8)
  if rate = 15 then ((upTo (field r 11 1)).map one).foldl (· + ·) 0 else if rate < field r 11 1 then one rate else 0

/-- R496: the amounts of the components, in order. -/
def amounts (tf r : List Byte) : List Int :=
  (upTo (tfComponents tf)).foldl (fun acc c =>
    let at_ := 64 + 32 * c
    let price := signedOf 64 (field tf (at_ + 8) 8)
    let a := match field tf at_ 1 with
      | 1 => divHalfEven (recQty r (field tf (at_ + 1) 1) (field tf (at_ + 2) 1) * price) (10 ^ 13)
      | 2 => divHalfEven (((field r 40 8 : Nat) - (field r 32 8 : Nat) : Int) * price) (10 ^ 13)
      | 3 => divHalfEven price (10 ^ 7)
      | _ =>
        let m := field tf (at_ + 6) 2
        divHalfEven ((acc.zipIdx.filter fun x => bitAt m x.2).foldl (fun t x => t + x.1) 0 * price) (10 ^ 8)
    acc ++ [a]) []

/-- R496: party p's amount. -/
def partyAmount (tf r : List Byte) (p : Nat) : Int :=
  (amounts tf r).zipIdx.foldl (fun t x =>
    let at_ := 64 + 32 * x.2
    t + (if field tf (at_ + 4) 1 = p then x.1 else 0) - (if field tf (at_ + 3) 1 = p then x.1 else 0)) 0

/-- A table's registers (R514). -/
def State.tariffMirror (s : State) (t : Nat) : State :=
  let a := tabFind s.ledger.active t
  let p := tabFind s.ledger.pend t
  let b := a.getD []
  let s := (s.putB Fld.TARIFF_STATUS__ACTIVE t a.isSome).putB Fld.TARIFF_STATUS__PENDING t p.isSome
  let s := ((s.put Fld.TARIFF_STATUS__COMMODITY t (tfCommodity b)).put Fld.TARIFF_STATUS__COMPONENTS t (tfComponents b)).put Fld.TARIFF_STATUS__CURRENCY t (tfCurrency b)
  (s.setReg .TARIFF_ID t (BitVec.ofNat 32 (field b 8 4))).setReg .TARIFF_PEND_ID t (BitVec.ofNat 32 (field (p.getD []) 8 4))

/-- TARIFF_LOAD (R494, R495). -/
def execTariffLoad (d : Desc) (rd : DmaRead) (s : State) : Res :=
  .next (s.withDesc 0x38 d fun t s => s.withRead t d rd fun b s =>
    let b := b.take (DescF.bufLen d)
    if !tariffOk b then s.fin t stBad 8
    else
      let k := d.target.toNat
      ((s.setLedger { s.ledger with pend := tabSet s.ledger.pend k (b.take (64 + 32 * tfComponents b)) }).tariffMirror k).fin t stDone)

/-- TARIFF_ACTIVATE (R494). -/
def execTariffActivate (d : Desc) (s : State) : Res :=
  .next (s.withDesc 0x39 d fun t s =>
    if (tabFind s.ledger.pend d.target.toNat).isNone then s.fin t stCapacity 1
    else s.setLedger { s.ledger with acts := s.ledger.acts ++ [(t, d.target.toNat)] })

/-- R494 at a control-cycle boundary, before any start is admitted. -/
def State.tariffBoundary (s : State) : State :=
  let acts := s.ledger.acts
  let s := s.setLedger { s.ledger with acts := [] }
  acts.foldl (fun s x =>
    let s := match tabFind s.ledger.pend x.2 with
      | some b => (s.setLedger { s.ledger with active := tabSet s.ledger.active x.2 b, pend := tabErase s.ledger.pend x.2 }).tariffMirror x.2
      | none => s
    s.fin x.1 stDone) s

/-! ### Plans and sessions (R497, R498, R501) -/

def planParties (b : List Byte) : Nat := field b 2 1
def planHold (b : List Byte) : Int := money b 8
def planSlot (b : List Byte) (p : Nat) : Nat := field b (32 + 8 * p) 4

/-- R498: the layout of a posting plan. -/
def planOk (b : List Byte) : Bool :=
  let n := planParties b
  decide (128 ≤ b.length) && field b 0 2 == 1 && decide (1 ≤ n && n ≤ 8) && field b 3 5 == 0 && decide (0 ≤ planHold b) && field b 24 8 == 0
  && ((b.drop 96).take 32).all (· == 0)
  && (upTo 8).all (fun p => if p < n then decide (planSlot b p < 5242880) && field b (36 + 8 * p) 4 == 0 else field b (32 + 8 * p) 8 == 0)
  && decide (((upTo n).map (planSlot b)).Nodup)

/-- R497: a session is opened at admission: the RESULT of CAPACITY_REFUSED, or its SESSION entry. -/
def State.openSession (s : State) (x : StartSt) : State × (Nat ⊕ Nat) :=
  let l := s.ledger
  match tabFind l.active x.tariff with
  | none => (s, .inl 4)
  | some tf =>
    let slots := (upTo (planParties x.plan)).map (planSlot x.plan)
    let payer := l.slot (planSlot x.plan 0)
    let mask := field payer 144 32
    if planParties x.plan < tariffParties tf then (s, .inl 7)
    else if tfCommodity tf ≠ (s.pcfg x.point).commodity then (s, .inl 8)
    else if slots.any (fun n => slCurrency (l.slot n) != tfCurrency tf) || (mask ≠ 0 && !bitAt mask x.tariff) then (s, .inl 9)
    else if (freePos l l.jpos 16384).isNone then (s, .inl 10)
    else
      let hold : Part := { slot := planSlot x.plan 0, force := false, amount := 0, hold := planHold x.plan }
      match s.post [] [hold] (tfCurrency tf) (field x.plan 16 8) with
      | (s, .aborted _ _ _) => (s, .inl 6)
      | (s, .done _) =>
        let (s, pos) := s.journalAdd { kind := 3, state := 5, ref := field x.plan 16 8, plan := x.plan, tariff := tf, point := x.point, port := x.port }
        (s, .inr (pos.getD 0))

/-- The open SESSION entry of a point. -/
def LedgerSt.session (l : LedgerSt) (p : Nat) : Option (Nat × JEntry) := l.journal.find? fun x => x.2.kind == 3 && x.2.state == 5 && x.2.point == p

/-- R501 step 3: a session's posting: one part for each party. -/
def sessionParts (plan tf r : List Byte) : List Part :=
  (upTo (planParties plan)).map fun p =>
    let a := partyAmount tf r p
    { slot := planSlot plan p, force := p == 0 || decide (0 < a), amount := a, hold := if p = 0 then -(planHold plan) else 0 }

/-- The outcome of a session reaches its start, or the port that started it (R59, R122). -/
def State.sessionOutcome (s : State) (port : Port) (r : List Byte) (res : PostRes) : State :=
  let p := field r 8 2; let die := field r 2 1
  match s.starts.find? (fun x => x.point == p && x.phase == 3) with
  | some x => match res with
    | .done _ => s.finishStart x stDone (field r 4 4)
    | .aborted k st _ => s.finishStart x stAborted (k + st * 2 ^ 32)
  | none =>
    let ok := match res with | .done _ => true | _ => false
    s.postTo port { code := 0x806, sev := 0, obj := p, data := die * 256 + b2n ok * 512 }

/-- R501 steps 3 and 4: a RECORD entry is priced and posted. -/
def State.settleRecord (s : State) (fs : List TagFail) (pos : Nat) (e : JEntry) : State :=
  let p := field e.bytes 8 2
  let lost (s : State) (k : Nat) : State := s.postBoth { code := 0x805, sev := 2, obj := p, data := k + e.die.num * 256 }
  match s.ledger.session p with
  | none => (lost s 0).sessionOutcome .h0 e.bytes (.aborted 0 stIntegrity 0)
  | some (sp, se) =>
    if fs.contains (.journal sp) then
      ((lost (s.failOther (.journal sp)) 0).sessionOutcome se.port e.bytes (.aborted 0 stIntegrity 0))
    else
      match s.post fs (sessionParts se.plan se.tariff e.bytes) (tfCurrency se.tariff) se.ref with
      | (s, .done q) => ((s.journalSet pos 8).journalSet sp 6).sessionOutcome se.port e.bytes (.done q)
      | (s, .aborted k st why) => (lost s k).sessionOutcome se.port e.bytes (.aborted k st why)

/-- The RECORD entry of a die's record. -/
def LedgerSt.record (l : LedgerSt) (d : Firn) (seq : Nat) : Option (Nat × JEntry) :=
  l.journal.find? fun x => x.2.kind == 4 && x.2.die == d && field x.2.bytes 4 4 == seq

/-- RECORD_ARRIVAL (R114, R447, R501): a signed record of a die reaches firmware, in the order of the numbers, is journalled and acknowledged,
and is priced and posted; not while the ledger waits for its memory (R73) or is being parked (R512). -/
def execRecordArrival (d : Firn) (seq : Nat) (fs : List TagFail) (s : State) : Res :=
  let inOrder := ((s.firn d).records.filter fun r => !r.acked && decide (r.seq < seq)).all fun r => (s.ledger.record d r.seq).isSome
  if !s.dieRuns .cdie || !s.linkUp d.link || s.get Fld.LEDGER_STATUS__STATE 0 ≠ 1 || !inOrder || s.power.memStall || s.ledger.parking then .next s
  else match (s.firn d).records.find? (fun r => r.seq == seq && !r.acked) with
  | none => .next s
  | some r =>
    let ack (s : State) : State := s.setLedger { s.ledger with acks := (d, seq) :: s.ledger.acks.filter (· != (d, seq)) }
    match s.ledger.record d seq with
    | some _ => .next (ack s)
    | none =>
      if 1024 ≤ unsettled s.ledger then .next s
      else
        let e : JEntry := { kind := 4, state := 7, bytes := signed d r.bytes, die := d, point := r.point }
        match s.journalAdd e with
        | (s, none) => .next s
        | (s, some pos) => .next (((ack s).settleRecord fs pos e).ledgerMirror)

/-- RECORD_ACKNOWLEDGE (R447): the acknowledgement reaches the die. -/
def execRecordAcknowledge (d : Firn) (seq : Nat) (s : State) : Res :=
  if !s.firnLive d || !s.linkUp d.link || !s.ledger.acks.contains (d, seq) then .next s
  else .next ((s.setLedger { s.ledger with acks := s.ledger.acks.filter (· != (d, seq)) }).acknowledge d seq)

/-! ### Ledger descriptors (R499, R508 to R510) -/

/-- R499: the parts of a LEDGER_POST buffer, where its layout holds. -/
def postParts (b : List Byte) (bufLen : Nat) : Option (List Part) :=
  let n := field b 2 1; let fl := field b 3 1
  let parts : List Part := (upTo n).map fun k =>
    let at_ := 64 + 32 * k
    { slot := field b at_ 4, force := bitAt (field b (at_ + 4) 1) 0, amount := money b (at_ + 8), hold := money b (at_ + 16) }
  let ok := decide (64 + 32 * n ≤ bufLen) && field b 0 2 == 1 && decide (1 ≤ n && n ≤ 8) && decide (fl ≤ 1) && field b 6 2 == 0
    && ((b.drop 21).take 43).all (· == 0) && decide (field b 20 1 ≤ 1) && (fl == 1 || (field b 16 4 == 0 && field b 20 1 == 0))
    && (upTo n).all (fun k => decide (field b (64 + 32 * k + 4) 1 ≤ 1) && field b (69 + 32 * k) 3 == 0 && field b (88 + 32 * k) 8 == 0)
    && parts.all (fun p => decide (p.slot < 5242880)) && decide ((parts.map (·.slot)).Nodup)
    && (parts.foldl (fun t p => t + p.amount) 0) == 0
  if ok then some parts else none

/-- R499, R503: LEDGER_POST once its data have been read. -/
def State.ledgerPost (s : State) (t : Ticket) (d : Desc) (b : List Byte) (fs : List TagFail) : State :=
  match postParts b (DescF.bufLen d) with
  | none => s.fin t stBad 8
  | some parts =>
    let settle := field b 3 1 == 1
    let die := if field b 20 1 = 0 then Firn.f0 else .f1
    let rec_ := s.ledger.record die (field b 16 4)
    let held := match rec_ with | some (_, e) => e.state == 7 | none => false
    if settle && !held then s.fin t stCapacity 3
    else if s.ledger.dead && parts.any (fun p => s.ledger.isQuar p.slot) then s.fin t stIntegrity
    else match s.post fs parts (field b 4 2) (field b 8 8) with
      | (s, .done seq) =>
        let s := match rec_, settle with
          | some (pos, e), true =>
            let s := s.journalSet pos 8
            (match s.ledger.session (field e.bytes 8 2) with | some (sp, _) => s.journalSet sp 6 | none => s)
          | _, _ => s
        s.fin t stDone seq
      | (s, .aborted k st _) => s.fin t stAborted (k + st * 2 ^ 32)

/-- R508: is a slot image refused? -/
def badImage (b : List Byte) : Bool :=
  field b 0 2 != 1 || decide (3 < slState b) || decide (2 ≤ field b 3 1) || field b 6 2 != 0 || field b 176 8 != 0
  || decide (money b 24 < 0) || decide (money b 32 < 0)
  || (slState b == 0 && (field b 16 8 != 0 || field b 24 8 != 0 || slHash b != 0))

/-- The tag positions of an image read as 0. -/
def noTags (b : List Byte) : List Byte := [56, 120, 184, 248].foldl (fun b k => setField b k 8 0) (padTo 256 b)

/-- R508: LEDGER_RESTORE once its data have been read; `full`: the credential index has no room. -/
def State.ledgerRestore (s : State) (t : Ticket) (d : Desc) (b : List Byte) (full : Bool) : State :=
  let n := d.target.toNat
  let l := s.ledger
  let q := l.isQuar n
  let h := slHash b
  if DescF.bufLen d < 256 || badImage b then s.fin t stBad 8
  else if !q && DescF.par d 0 8 ≠ 0 && DescF.par d 0 8 ≠ field (l.slot n) 40 8 then s.fin t stCapacity 2
  else if h ≠ 0 && l.index.any (fun x => x.1 == h && x.2 != n) then s.fin t stCapacity 3
  else if full && h ≠ 0 && !l.index.contains (h, n) then s.fin t stCapacity 4
  else
    let (s, seq) := s.nextPostSeq
    let old := s.ledger.slot n
    let new := noTags (setField (setField (padTo 256 b) 40 8 seq) 48 8 s.devTime)
    let images := [0, 1, 2, 3].map fun k => ({ line := slotLine n k, before := lineOf old k, after := lineOf new k } : Image)
    let (s, pos) := s.journalAdd { kind := 2, state := 1, seq := seq, images := images }
    let s := [0, 1, 2, 3].foldl (fun s k => s.writeLine [] n k (lineOf new k)) s
    let idx := s.ledger.index.filter fun x => x.2 != n
    let idx := if h ≠ 0 && slState b ≠ 3 && slState b ≠ 0 then (h, n) :: idx else idx
    let s := s.setLedger { s.ledger with index := idx, quar := s.ledger.quar.filter (· != n), poison := s.ledger.poison.filter (fun x => x / 4 != n),
                                         revived := if s.ledger.dead && !s.ledger.revived.contains n then n :: s.ledger.revived else s.ledger.revived }
    let s := s.journalSet (pos.getD 0) 2
    ((s.slotEvent 0x804 0 n 0).ledgerMirror).fin t stDone seq

/-- A slot image as a host takes it, where its four lines verify; the failing line otherwise (R490, R507). -/
def State.readSlot (s : State) (fs : List TagFail) (n : Nat) : State × Option (List Byte) :=
  let s := s.failOthers fs
  if s.ledger.isQuar n then (s, none)
  else match [0, 1, 2, 3].find? fun k => tagFails fs 0 (slotLine n k) with
    | some k => (s.failLine (slotLine n k), none)
    | none => (s, some (noTags (s.ledger.slot n)))

/-- R509: LEDGER_READ. -/
def State.ledgerRead (s : State) (t : Ticket) (d : Desc) (fs : List TagFail) : State :=
  let n := d.target.toNat
  if DescF.bufLen d < 256 then s.fin t stBad 16
  else match s.readSlot fs n with
    | (s, none) => s.fin t stIntegrity n
    | (s, some b) => (s.writeBuf d b).fin t stDone (field b 40 8)

/-- R509: LEDGER_LOOKUP. -/
def State.ledgerLookup (s : State) (t : Ticket) (d : Desc) (b : List Byte) (fs : List TagFail) : State :=
  if DescF.bufLen d < 256 then s.fin t stBad 16
  else if fs.contains .index then (s.failOther .index).fin t stIntegrity 0x7FFFFF
  else if s.ledger.dead && s.ledger.revived.isEmpty then s.fin t stIntegrity 0x7FFFFF
  else match s.ledger.index.find? (fun x => x.1 == field b 0 8) with
    | none => s.fin t stCapacity 1
    | some (_, n) => match s.readSlot fs n with
      | (s, none) => s.fin t stIntegrity n
      | (s, some b) => (s.writeBuf d b).fin t stDone n

/-- A ledger descriptor waits while the memory PLL relocks (R73) and while a park is under way (R512). -/
def State.ledgerDesc (s : State) (op : Nat) (t : Ticket) (d : Desc) (b : List Byte) (k : State → State) : State :=
  if s.power.memStall || s.ledger.parking then (s.setLedger { s.ledger with stalled := s.ledger.stalled ++ [(op, t, d, b)] }).ledgerMirror
  else k s

/-- LEDGER_READ (R509). -/
def execLedgerRead (d : Desc) (fs : List TagFail) (s : State) : Res :=
  .next (s.withDesc 0x30 d fun t s => s.ledgerDesc 0x30 t d [] fun s => s.ledgerRead t d fs)

/-- LEDGER_POST (R499, R503). -/
def execLedgerPost (d : Desc) (rd : DmaRead) (fs : List TagFail) (s : State) : Res :=
  .next (s.withDesc 0x31 d fun t s => s.withRead t d rd fun b s => s.ledgerDesc 0x31 t d b fun s => s.ledgerPost t d b fs)

/-- LEDGER_RESTORE (R508). -/
def execLedgerRestore (d : Desc) (rd : DmaRead) (full : Bool) (s : State) : Res :=
  .next (s.withDesc 0x32 d fun t s => s.withRead t d rd fun b s => s.ledgerDesc 0x32 t d b fun s => s.ledgerRestore t d b full)

/-- LEDGER_LOOKUP (R509). -/
def execLedgerLookup (d : Desc) (rd : DmaRead) (fs : List TagFail) (s : State) : Res :=
  .next (s.withDesc 0x33 d fun t s => s.withRead t d rd fun b s => s.ledgerDesc 0x33 t d b fun s => s.ledgerLookup t d b fs)

/-- R73: the memory PLL has relocked: what stalled runs, in order of acceptance. -/
def State.memBack (s : State) : State :=
  let l := s.ledger.stalled
  let s := (s.setLedger { s.ledger with stalled := [] }).ledgerMirror
  l.foldl (fun s x =>
    let (op, t, d, b) := x
    if op = 0x30 then s.ledgerRead t d []
    else if op = 0x31 then s.ledgerPost t d b []
    else if op = 0x32 then s.ledgerRestore t d b false
    else s.ledgerLookup t d b []) s

/-- R73: three relocks have failed: what stalled completes with DOMAIN_OFF, XID 0x3. -/
def State.memLost (s : State) : State :=
  let l := s.ledger.stalled
  l.foldl (fun s x => s.fin x.2.1 stDomainOff 3) (s.setLedger { s.ledger with stalled := [] }).ledgerMirror

/-! ### Replay (R506) -/

/-- The entries of the journal, newest first. -/
def LedgerSt.newest (l : LedgerSt) : List (Nat × JEntry) :=
  (upTo 16384).filterMap fun k =>
    let p := (l.jpos + 16384 - 1 - k) % 16384
    (tabFind l.journal p).map fun e => (p, e)

/-- R506: the image that the newest entry carrying a line gives, and where it stands. -/
def replayImage (es : List (Nat × JEntry)) (line : Nat) : Option (Nat × List Byte) :=
  es.findSome? fun x => match x.2.images.find? (fun i => i.line == line) with
    | none => none
    | some i => if x.2.state = 3 || x.2.state = 4 then some (x.1, i.before) else some (x.1, i.after)

/-- SLOT_REPLAY (R506): firmware rebuilds a quarantined slot; `bad`: journal positions whose lines do not verify. -/
def execSlotReplay (n : Nat) (bad : List Nat) (s : State) : Res :=
  if !s.ledger.quar.contains n then .next s
  else
    let es := s.ledger.newest
    let lines := [0, 1, 2, 3].filter fun k => s.ledger.poison.contains (slotLine n k)
    let imgs := lines.map fun k => (k, replayImage es (slotLine n k))
    let s := (imgs.filterMap fun x => match x.2 with | some (p, _) => if bad.contains p then some p else none | none => none).foldl
      (fun s p => s.failOther (.journal p)) s
    if imgs.all fun x => match x.2 with | some (p, _) => !bad.contains p | none => false then
      let s := imgs.foldl (fun s x => match x.2 with | some (_, b) => s.writeLine [] n x.1 b | none => s) s
      let s := s.setLedger { s.ledger with quar := s.ledger.quar.filter (· != n), poison := s.ledger.poison.filter (fun x => x / 4 != n) }
      .next (s.ledgerMirror.slotEvent 0x802 0 n 0)
    else .next (s.ledgerMirror.slotEvent 0x803 2 n 0)

/-! ### Boot recovery and parking (R505, R512) -/

/-- R505: a PREPARED entry is rolled forward. -/
def State.rollForward (s : State) (p : Nat) (e : JEntry) : State :=
  (e.images.foldl (fun s i => s.writeLine [] (i.line / 4) (i.line % 4) i.after) s).journalSet p 2

/-- R505, R512: stage 0x9 opens the ledger; `ok`: the root store is intact or the park record verifies. -/
def State.ledgerRecovery (s : State) (ok : Bool) : State :=
  if !ok then
    ((s.setLedger { s.ledger with dead := true, revived := [], parking := false, parkRecord := none }).put Fld.LEDGER_ERR__RECOVERY 0 1).put
      Fld.LEDGER_STATUS__STATE 0 1 |>.ledgerMirror
  else
    let s := s.setLedger { s.ledger with parkRecord := none, parking := false }
    let prep := s.ledger.journal.filter fun x => (x.2.kind == 1 || x.2.kind == 2) && x.2.state == 1
    let s := prep.foldl (fun s x => s.rollForward x.1 x.2) s
    let s := if prep.isEmpty then s else s.postBoth { code := 0x807, sev := 1, data := min prep.length 65535 }
    let s := s.put Fld.LEDGER_STATUS__STATE 0 1
    let s := (s.ledger.journal.filter fun x => x.2.kind == 4 && x.2.state == 7).foldl (fun s x => s.settleRecord [] x.1 x.2) s
    let s := (upTo 256).foldl (fun s t => if (tabFind s.ledger.active t).isSome || (tabFind s.ledger.pend t).isSome then s.tariffMirror t else s) s
    s.ledgerMirror

/-- R512: the ledger is parked for Off. -/
def State.ledgerPark (s : State) : State :=
  let l := s.ledger
  (s.setLedger { l with parkRecord := some (l.parks, l.root), parks := l.parks + 1, parking := false }).put Fld.LEDGER_STATUS__STATE 0 3

/-- R512: a park that did not complete: the ledger reopens. -/
def State.parkFailed (s : State) : State :=
  let s := (s.put Fld.LEDGER_ERR__PARK 0 1).postBoth { code := 0x808, sev := 1 }
  let s := s.setLedger { s.ledger with parking := false }
  if s.power.memStall then s else s.memBack

end Sys2Proof.Machine
end

