-- ==== Sys2Proof/Machine/Switches.lean ====
section
/-!
DEFINITION. Machine/Switches.lean: the D-die's load switches (R553 to R572): outputs, protection, clamp energy, supply
under-voltage, the serial watchdog and ISNS; and what slices and switches share.
-/
namespace Sys2Proof.Machine

/-! ### Slices, switches and points -/

def State.scfg (s : State) (i : Nat) : SliceCfg := tabGet {} s.cfg.slices i
def State.slice (s : State) (i : Nat) : SliceSt := tabGet {} s.slices i
def State.setSlice (s : State) (i : Nat) (c : SliceSt) : State := { s with slices := tabSet s.slices i c }
def State.sw (s : State) (n : Nat) : SwSt := tabGet {} s.switches n
def State.setSw (s : State) (n : Nat) (x : SwSt) : State := { s with switches := tabSet s.switches n x }
def State.setGov (s : State) (g : GovSt) : State := { s with gov := g }
def State.pushOrder (s : State) (o : Order) : State := { s with orders := s.orders ++ [o] }

/-- The slice of a point, the switch that is its energy path (R517), and the points a switch is the path of. -/
def State.sliceOf (s : State) (p : Nat) : Option Nat := ((upTo 64).find? fun i => (tabFind s.cfg.slices i).any fun c => c.kind != 0 && c.point == some p)
def State.swOf (s : State) (p : Nat) : Option Nat :=
  match s.sliceOf p with
  | some i => (s.scfg i).switch
  | none => (s.pcfg p).switch
def State.pointsOfSw (s : State) (n : Nat) : List Nat := (upTo 256).filter fun p => s.swOf p == some n

def State.swOn (s : State) (n : Nat) : Bool := s.flag Fld.SW_STATUS__OUT n
def State.swFailed (s : State) (n : Nat) : Bool := s.flag Fld.SW_STATUS__FAIL n
/-- A protection lock holds (R562 to R565). -/
def State.swLocked (s : State) (n : Nat) : Bool := (s.sw n).clampLock != 0 || (s.sw n).latch != 0
def State.vswGood (s : State) : Bool := s.get Fld.DRV_STATUS__VSW_STATE 0 != 1
/-- Serac's series enable lets the output on (R556). -/
def State.seriesOk (s : State) (n : Nat) : Bool := !s.flag Fld.SW_CFG__SAFETY n || s.flag Fld.SW_STATUS__SERAC_EN n
/-- R558: a session switch. -/
def State.sessionSw (s : State) (n : Nat) : Bool := s.flag Fld.SW_STATUS__SESSION n

/-! ### The governor's queues: entries in and out (R574) -/

/-- The entries of a group, and the registers that count them. -/
def State.qMirror (s : State) (g : Nat) (n : Option Nat) : State :=
  let s := s.put Fld.GOV_STATUS__WAITING g (min 255 (s.gov.queue.filter (·.group == g)).length)
  let s := match n with
    | none => s
    | some n => s.putB Fld.SW_STATUS__WAITING n (s.gov.queue.any fun e => e.obj == .on n || e.obj == .restart n 1 || e.obj == .restart n 2)
  if s.get Fld.DRV_STATUS__VSW_STATE 0 = 2 && !((upTo 48).any fun k => s.flag Fld.SW_STATUS__UV_WAIT k) then s.put Fld.DRV_STATUS__VSW_STATE 0 0 else s

def State.qAdd (s : State) (e : QEntry) : State := (s.setGov { s.gov with queue := s.gov.queue ++ [e] }).qMirror e.group e.obj.switch

/-- Take an entry out of its queue. -/
def State.qDrop (s : State) (o : QObj) : State :=
  match s.gov.queue.find? (·.obj == o) with
  | none => s
  | some e => (s.setGov { s.gov with queue := s.gov.queue.filter (·.obj != o) }).qMirror e.group o.switch

/-- A waiting restart leaves its queue and is owed no more (R574, R580). -/
def State.dropRestart (s : State) (n : Nat) : State :=
  let s := s.setSw n { s.sw n with due := 0 }
  let s := s.put Fld.SW_STATUS__UV_WAIT n 0
  ((s.qDrop (.restart n 1)).qDrop (.restart n 2))

/-- A switch asks the governor for a restart for a reason of SWITCH_RESTARTED (R562, R563, R568), where it has no entry yet (R574). -/
def State.askRestart (s : State) (n why : Nat) : State :=
  if s.gov.queue.any fun e => e.obj.switch == some n then s
  else s.qAdd { obj := .restart n why, group := s.get Fld.SW_CFG__GROUP n, since := s.time }

/-! ### Outputs (R556, R564) -/

/-- LOCK of SW_STATUS (R565). -/
def State.lockMirrorSw (s : State) (n : Nat) : State :=
  let x := s.sw n
  s.put Fld.SW_STATUS__LOCK n (if s.swFailed n then 5 else if x.clampLock ≠ 0 then x.clampLock else x.latch)

/-- The clamp sum in nJ now: it leaks at 50 mJ/s (R564). -/
def State.clampSum (s : State) (n : Nat) : Nat := (s.sw n).sum - 50 * (s.time - (s.sw n).sumAt)

def State.clampMirror (s : State) (n : Nat) : State := s.put Fld.SW_CLAMP__SUM n (min 65535 (s.clampSum n / 100000))

/-- R564: a turn-off: the clamp's measured energy, in 0.1 mJ, is whatever the load returns (log entry 50); past 150 mJ or at
the budget the channel locks off. -/
def State.clampEvent (s : State) (n : Nat) : State :=
  let (e, s) := s.drawBelow 65536
  let sum := s.clampSum n + e * 100000
  let s := (s.setSw n { s.sw n with sum := sum, sumAt := s.time }).put Fld.SW_CLAMP__LAST n e
  let s := s.clampMirror n
  let lock := if 1500 < e then 2 else if s.get Fld.SW_CFG__CLAMP_BUDGET n * 1000000 ≤ sum then 1 else 0
  if lock = 0 then s
  else
    let s := (s.setSw n { s.sw n with clampLock := lock }).lockMirrorSw n
    let s := (s.bump Fld.SW_COUNT__LOCKS n 1).put Fld.DRV_ERR__CLAMP_LOCK 0 1
    (s.dropRestart n).postSwitch n { code := 0x502, sev := 2, obj := n, data := lock }

/-- A slice holds the close of a switch for its RDC self-test (R543). -/
def State.rdcHolds (s : State) (n : Nat) : Bool := (upTo 64).any fun i => (s.scfg i).switch == some n && (s.slice i).rdcWait

/-- ENABLE_SWITCH of Serac's configuration in force (R611): the switch of an enable. -/
def State.enSwitch (s : State) (k : Nat) : Option Nat :=
  let n := field s.serac.cfg (40 + k) 1
  if n < 48 then some n else none

def State.setSerac (s : State) (x : SeracSt) : State := { s with serac := x }

/-- R602, R590: a turn-off tests the switch-off path of the enable that maps the switch. -/
def State.testedOff (s : State) (n : Nat) : State :=
  let u := (upTo 16).foldl (fun u k => if s.enSwitch k = some n then putBits u k 1 0 else u) s.serac.untested
  if s.serac.st = 0 then s else s.setSerac { s.serac with untested := u, failing := if u = 0 then putBits s.serac.failing 2 1 0 else s.serac.failing }

/-- R556: the output follows its conditions; turn-ons count, turn-offs are measured. -/
def State.swRefresh (s : State) (n : Nat) : State :=
  let on := (s.sw n).drive && !s.swLocked n && s.vswGood && !s.swFailed n && s.seriesOk n && !s.rdcHolds n && s.dieRuns .ddie
  if on = s.swOn n then s
  else
    let s := s.putB Fld.SW_STATUS__OUT n on
    if on then (s.put Fld.SW_COUNT__ONS n (s.get Fld.SW_COUNT__ONS n + 1)).setSw n { s.sw n with onSince := s.time }
    else (s.clampEvent n).testedOff n

/-- The arbiter's wanted state, which the D-die drives. -/
def State.setWant (s : State) (n : Nat) (on : Bool) : State :=
  ((s.putB Fld.SW_STATUS__WANT n on).setSw n { s.sw n with drive := on }).swRefresh n

/-- Stop the deliveries whose energy path a switch is, at firmware rank (R566). -/
def State.stopPoints (s : State) (n endc : Nat) : State :=
  (s.pointsOfSw n).foldl (fun s p => s.pushOrder { src := srcFirmware, act := .stop p, endc := endc }) s

/-! ### Protection (R562 to R567, R284) -/

/-- A channel switches off with a cause (1 overload, 2 overtemperature): it latches, or owes a restart (R562, R563, R566). -/
def State.protectOff (s : State) (n cause : Nat) : State :=
  let x := s.sw n
  let r := if x.onSince + 10000000 ≤ s.time then 0 else s.get Fld.SW_STATUS__RETRIES n
  let s := s.put Fld.SW_STATUS__RETRIES n r
  let s := s.setWant n false
  let s := s.bump Fld.SW_COUNT__PROT_OFFS n 1
  let s := if cause = 1 then s.put Fld.DRV_ERR__OVERLOAD 0 1 else s.put Fld.DRV_ERR__OVERTEMP 0 1
  let s := s.postSwitch n { code := 0x501, sev := 1, obj := n, data := cause }
  let s := if s.sessionSw n then s.stopPoints n 5 else s
  if s.flag Fld.SW_CFG__OT_MODE n || (8 ≤ r && !s.sessionSw n) then
    let code := if cause = 1 then 4 else 3
    let s := (s.setSw n { s.sw n with latch := code }).lockMirrorSw n
    (s.dropRestart n).postSwitch n { code := 0x502, sev := 2, obj := n, data := code }
  else if s.sessionSw n || s.swLocked n then s
  else s.setSw n { s.sw n with due := cause }

/-- OVERLOAD_TRIP (R562): limiting has lasted ILIM_TIME. -/
def execOverloadTrip (n : Nat) (s : State) : Res :=
  .next (if s.swOn n && s.flag Fld.SW_CFG__ILIM_TIME n then s.protectOff n 1 else s)

/-- OVERLOAD_RESTART_DELAY (R562): 1 s after an overload. -/
def execOverloadRestartDelay (n : Nat) (s : State) : Res :=
  .next (if (s.sw n).due = 1 && s.dieRuns .cdie then (s.setSw n { s.sw n with due := 0 }).askRestart n 2 else s)

/-- OVERTEMPERATURE_TRIP (R563): the junction reaches 170 °C. -/
def execOvertemperatureTrip (n : Nat) (s : State) : Res :=
  let s := s.put Fld.SW_STATUS__TJ n 220
  .next (if s.swOn n then s.protectOff n 2 else s)

/-- OVERTEMPERATURE_COOLED (R563): the junction, given in °C + 50, has fallen below 150 °C. -/
def execOvertemperatureCooled (n tj : Nat) (s : State) : Res :=
  if 200 ≤ tj then .next s
  else
    let s := s.put Fld.SW_STATUS__TJ n tj
    .next (if (s.sw n).due = 2 && s.dieRuns .cdie then (s.setSw n { s.sw n with due := 0 }).askRestart n 2 else s)

/-- SWITCH_OPEN_LOAD (R567). -/
def execSwitchOpenLoad (n : Nat) (s : State) : Res :=
  .next (if s.swOn n && !s.flag Fld.SW_STATUS__OPEN_LOAD n then
    (s.put Fld.SW_STATUS__OPEN_LOAD n 1).postSwitch n { code := 0x504, sev := 1, obj := n } else s)

/-- SWITCH_FAILURE (R284): the switch is locked off. -/
def execSwitchFailure (n code : Nat) (s : State) : Res :=
  if code = 0 || 5 < code then .next s
  else
    let s := (s.put Fld.SW_STATUS__FAIL n code).setWant n false
    let s := (s.lockMirrorSw n).dropRestart n
    let s := s.postSwitch n { code := 0x5F0, sev := 2, obj := n, data := code }
    .next (if s.sessionSw n then s.stopPoints n 5 else s)

/-- SWITCH_UNLOCK (R565). -/
def execSwitchUnlock (d : Desc) (s : State) : Res :=
  .next (s.withDesc 0x22 d fun t s =>
    let n := d.target.toNat
    let x := s.sw n
    if x.test.isSome then s.fin t stCapacity 1
    else if !s.swLocked n then s.fin t stDone 0
    else if x.clampLock ≠ 0 && s.get Fld.SW_CFG__CLAMP_BUDGET n * 500000 ≤ s.clampSum n then s.fin t stCapacity 3
    else if x.latch ≠ 0 && 200 ≤ s.get Fld.SW_STATUS__TJ n then s.fin t stCapacity 5
    else
      let s := (s.setSw n { x with clampLock := 0, latch := 0, drive := false }).lockMirrorSw n
      (s.postSwitch n { code := 0x505, sev := 0, obj := n }).fin t stDone 1)

/-- The settings of SWITCH_CONFIG's PARAM that its boundary takes (R561). -/
def State.takeSwitchConfig (s : State) (n : Nat) (b : List Byte) : State :=
  let s := (((s.put Fld.SW_CFG__FS n (field b 0 1)).put Fld.SW_CFG__ILIM n (field b 1 1)).put Fld.SW_CFG__ILIM_TIME n (field b 2 1)).put Fld.SW_CFG__OT_MODE n (field b 3 1)
  ((s.put Fld.SW_CFG__CLAMP_BUDGET n (field b 4 2)).put Fld.SW_LOAD__LOAD_W n (field b 8 4)).put Fld.SW_CFG__INRUSH n (field b 12 1)

/-- The byte offset of a PARAM field of SWITCH_CONFIG out of range (R554, R561). -/
def switchConfigBad (b : List Byte) : Option Nat :=
  if 2 < field b 0 1 then some 24 else if 4 < field b 1 1 then some 25 else if 1 < field b 3 1 then some 27
  else if field b 4 2 < 50 || 800 < field b 4 2 then some 28 else if field b 6 2 ≠ 0 then some 30
  else if 1000000 < field b 8 4 then some 32 else if 1 < field b 12 1 then some 36
  else if zeroOutside b [(0, 12)] then none else (b.zipIdx.find? fun x => x.1 != 0 && decide (12 < x.2)).map fun x => 24 + x.2

/-- SWITCH_CONFIG (R561). -/
def execSwitchConfig (d : Desc) (s : State) : Res :=
  .next (s.withDesc 0x23 d fun t s =>
    let n := d.target.toNat
    let x := s.sw n
    match switchConfigBad d.param with
    | some k => s.fin t stBad k
    | none =>
      if field d.param 0 1 ≠ 0 && (s.sessionSw n || s.flag Fld.SW_CFG__SAFETY n) then s.fin t stCapacity 1
      else if x.test.isSome then s.fin t stCapacity 1
      else s.setSw n { x with cfgPend := x.cfgPend ++ [(t, d.param)] })

/-- The SWITCH_CONFIGs that a boundary takes. -/
def State.switchConfigs (s : State) : State :=
  s.switches.foldl (fun s x =>
    let w := (s.sw x.1).cfgPend
    if w.isEmpty then s
    else
      let s := s.setSw x.1 { s.sw x.1 with cfgPend := [] }
      w.foldl (fun s y => (s.takeSwitchConfig x.1 y.2).fin y.1 stDone 0) s) s

/-! ### Returning a switch (R285, R286) -/

/-- SWITCH_RETURN: the self-test of 50 ms begins. -/
def execSwitchReturn (d : Desc) (s : State) : Res :=
  .next (s.withDesc 0x24 d fun t s =>
    let n := d.target.toNat
    let x := s.sw n
    if x.test.isSome then s.fin t stCapacity 1
    else if !s.swFailed n then s.fin t stDone 0
    else if (s.pointsOfSw n).any fun p => let m := s.mpState p; 1 ≤ m && m ≤ 3 then s.fin t stCapacity 1
    else s.setSw n { x with test := some t })

/-- The self-test of a switch ends, with the code of a check that failed (0: none). -/
def State.switchTested (s : State) (n code : Nat) : State :=
  let x := s.sw n
  match x.test with
  | none => s
  | some t =>
    let s := s.setSw n { x with test := none }
    if code ≠ 0 then ((s.put Fld.SW_STATUS__FAIL n code).postSwitch n { code := 0x5F0, sev := 2, obj := n, data := code }).fin t stCapacity 2
    else if s.get Fld.SW_CFG__CLAMP_BUDGET n * 500000 ≤ s.clampSum n then s.fin t stCapacity 3
    else
      let s := (s.put Fld.SW_STATUS__FAIL n 0).lockMirrorSw n
      let s := (s.put Fld.SW_STATUS__WANT n 0).setSw n { s.sw n with drive := false }
      (s.postSwitch n { code := 0x5F1, sev := 0, obj := n }).fin t stDone 1

/-! ### Supply under-voltage (R568) -/

/-- VSW_UNDERVOLTAGE: VSW, in 10 mV, falls below 7.5 V. -/
def execVswUndervoltage (v : Nat) (s : State) : Res :=
  if 750 ≤ v || !s.vswGood || !s.dieRuns .ddie then .next s
  else
    let on := (upTo 48).filter s.swOn
    let s := (s.put Fld.DRV_STATUS__VSW 0 v).put Fld.DRV_STATUS__VSW_STATE 0 1
    let s := s.put Fld.DRV_ERR__VSW_UV 0 1
    let s := on.foldl (fun s n =>
      let s := s.setWant n false
      if s.sessionSw n then s.stopPoints n 5
      else if s.swLocked n then s else s.put Fld.SW_STATUS__UV_WAIT n 1) s
    .next (s.postBoth { code := 0x110, sev := 2, data := on.length })

/-- VSW_RESTORED: VSW, in 10 mV, rises above 8.5 V; waiting switches ask for restarts in ascending number. A C-die that does not run keeps
none waiting (R570). -/
def execVswRestored (v : Nat) (s : State) : Res :=
  if v ≤ 850 || s.vswGood || !s.dieRuns .ddie then .next s
  else
    let s := if s.dieRuns .cdie then s else (upTo 48).foldl (fun s n => s.put Fld.SW_STATUS__UV_WAIT n 0) s
    let wait := (upTo 48).filter fun n => s.flag Fld.SW_STATUS__UV_WAIT n
    let s := (s.put Fld.DRV_STATUS__VSW 0 v).put Fld.DRV_STATUS__VSW_STATE 0 (if wait.isEmpty then 0 else 2)
    let s := s.postBoth { code := 0x111, sev := 0, data := wait.length }
    let s := wait.foldl (fun s n => s.askRestart n 1) s
    .next ((upTo 48).foldl (fun s n => s.swRefresh n) s)

/-! ### The pilot driver (R518, R526) -/

/-- Drive a slice's pilot: 0 +12 V, 1 PWM at a duty in 0.1 %, 2 state F, 3 state E (0 V), 4 high impedance. State F is
reported as the slice's own output (R519). -/
def State.drivePilot (s : State) (i out duty : Nat) : State :=
  let c := s.slice i
  let duty := if out = 1 then duty else 0
  let s := if c.out = out && s.get Fld.SLICE_DUTY__DUTY i = duty then s else s.emit (.pilot i out duty)
  let s := (s.setSlice i { s.slice i with out := out }).put Fld.SLICE_DUTY__DUTY i duty
  let s := s.putB Fld.SLICE_STATUS__PWM i (out == 1)
  let s := if out = 1 then s else s.put Fld.SLICE_PILOT__LOW i 0x8000
  if out = 2 then s.put Fld.SLICE_STATUS__PILOT i 5 else s

/-! ### The serial watchdog (R569, R570) -/

/-- SERIAL_WATCHDOG_EXPIRY (R569). In Sleep the system controller renews the watchdog over the driver link (R85). -/
def execSerialWatchdogExpiry (s : State) : Res :=
  if s.gov.wdt.isSome || !s.dieRuns .ddie || s.pwr = 2 && s.linkUp .driver then .next s
  else
    let s := (s.bump Fld.DRV_WDT__EXPIRIES 0 1).put Fld.DRV_ERR__WDT_EXPIRED 0 1
    let off := (upTo 48).filter fun n => s.swOn n && s.get Fld.SW_CFG__FS n == 0
    let on := (upTo 48).filter fun n => !s.swOn n && s.get Fld.SW_CFG__FS n == 1 && !s.swLocked n && !s.swFailed n
    let s := off.foldl (fun s n => (s.setSw n { s.sw n with drive := false }).swRefresh n) s
    let s := (upTo 64).foldl (fun s i => s.drivePilot i 2 0) s
    .next (s.setGov { s.gov with wdt := some off.length, fsOn := on })

/-- FAILSAFE_ON_SEQUENCE (R569): each 200 ms the next switch with FS on is switched on, without the governor. -/
def execFailsafeOnSequence (s : State) : Res :=
  match s.gov.wdt, s.gov.fsOn with
  | some k, n :: r =>
    let s := s.setGov { s.gov with wdt := some (k + 1), fsOn := r }
    if s.swLocked n || s.swFailed n then .next s
    else
      let s := (s.setSw n { s.sw n with drive := true }).swRefresh n
      .next (s.postSwitch n { code := 0x503, sev := 0, obj := n, data := 3 })
  | _, _ => .next s

/-- R570: the C-die, with its driver link up, sends orders again: WATCHDOG_EXPIRED, and each wanted state is the output as
found. -/
def State.watchdogOver (s : State) : State :=
  match s.gov.wdt with
  | none => s
  | some k =>
    if !s.dieRuns .cdie || !s.linkUp .driver then s
    else
      let s := s.setGov { s.gov with wdt := none, fsOn := [] }
      let s := (upTo 48).foldl (fun s n =>
        let on := s.swOn n
        (s.putB Fld.SW_STATUS__WANT n on).setSw n { s.sw n with drive := on }) s
      s.postBoth { code := 0x112, sev := 3, data := k }

/-! ### ISNS (R571) -/

/-- R571: the current in µA that ISNS sources: 1/2,000 of the selected switch's load current as last measured, nothing from a switch that is
off; none, high impedance, where nothing is selected. -/
def State.isns (s : State) : Option Nat :=
  let n := s.get Fld.DRV_ISNS_SEL__SEL 0
  if 48 ≤ n || !s.dieRuns .ddie then none else some (if s.swOn n then s.get Fld.SW_CURRENT__I_LOAD n / 2 else 0)

/-- A new selection, and the current that it puts on ISNS. -/
def State.selectIsns (s : State) (v : Nat) : State :=
  let s := s.put Fld.DRV_ISNS_SEL__SEL 0 v
  s.emit (.isns s.isns)

/-- DRV_ISNS_SEL_WRITE: with SNS_SEL_MODE 1 the register reads the balls and ignores writes. -/
def execDrvIsnsSelWrite (v : W32) (s : State) : Res :=
  .next (if s.flag Fld.DRV_STATUS__SNS_SEL_MODE 0 then s else s.selectIsns (bitsAt v.toNat 0 6))

/-- SNS_SEL_CHANGE: the SNS_SEL balls take a value. -/
def execSnsSelChange (v : Nat) (s : State) : Res :=
  .next (if s.flag Fld.DRV_STATUS__SNS_SEL_MODE 0 then s.selectIsns v else s)

end Sys2Proof.Machine
end

