-- ==== Sys2Proof/Machine/Slices.lean ====
section
/-!
DEFINITION. Machine/Slices.lean: vehicle charging points (R516 to R552): pilot, proximity, offer, lock, starts and their
admission, credentials, high-level communication, earth fault, and the session state machine; slice failures (R282 to R286).
-/
namespace Sys2Proof.Machine

/-! ### What a slice shows and offers (R516, R521, R522) -/

def State.session (s : State) (i : Nat) : Nat := s.get Fld.SLICE_STATUS__SESSION i
def State.setSession (s : State) (i v : Nat) : State := s.put Fld.SLICE_STATUS__SESSION i v
def State.pilot (s : State) (i : Nat) : Nat := s.get Fld.SLICE_STATUS__PILOT i
def State.contactorOn (s : State) (i : Nat) : Bool := s.flag Fld.SLICE_STATUS__CONTACTOR i

/-- The session states of R526 by name. -/
def ssVacant : Nat := 0
def ssPlugged : Nat := 1
def ssWaiting : Nat := 2
def ssOffered : Nat := 3
def ssEnergised : Nat := 4
def ssEnding : Nat := 5
def ssEnded : Nat := 6
def ssUnavailable : Nat := 7
def ssTripped : Nat := 8
def ssOos : Nat := 9

/-- A session runs on the slice. -/
def State.inSession (s : State) (i : Nat) : Bool := s.session i == ssOffered || s.session i == ssEnergised

def phases (c : SliceCfg) : Nat := if c.kind = 2 then 3 else 1

/-- R522: U of a point in units of 2⁻¹⁶ V (log entry 51): its lowest MP_URMS in the latest cycle, or U_n. -/
def State.voltageOf (s : State) (p : Nat) : Nat :=
  let c := s.pcfg p
  let un := f32Scaled c.un 16
  if !(s.mp p).cycled || s.flag Fld.MP_STATE__VLOSS p then un
  else match (upTo (max 1 c.uch.length)).map fun k => f32Scaled (s.reg .MP_URMS (3 * p + k)) 16 with
    | [] => un
    | v :: r => r.foldl min v

/-- Currents in mA per phase as power in units of 2⁻¹⁶ mW, and back. -/
def State.toPower (s : State) (i p ma : Nat) : Nat := ma * phases (s.scfg i) * s.voltageOf p
def State.toCurrent (s : State) (i p pw : Nat) : Nat := pw / max 1 (phases (s.scfg i) * s.voltageOf p)
def wattUnits (w : Nat) : Nat := w * 65536000

/-- R525: the rating in A that a proximity code gives a slice. -/
def cableOf (c : SliceCfg) (code : Nat) : Nat :=
  if c.ppMode = 1 then c.iMax / 10 else match code with | 1 => 13 | 2 => 20 | 3 => 32 | 4 => 63 | _ => 0

/-- The installation's and the cable's limit in mA (R522). -/
def State.ratingOf (s : State) (i : Nat) : Nat :=
  let c := s.scfg i
  let top := c.iMax * 100
  if c.kind = 3 || c.ppMode = 1 then top else min top (cableOf c (s.get Fld.SLICE_PP__PP_CODE i) * 1000)

/-- The lowest standing limit of R55 in mA, the governor's aside; none where none stands. -/
def State.standing (s : State) (i p : Nat) : Option Nat :=
  let a := s.effLimit p 1
  let b := (s.effLimit p 2).map fun w => s.toCurrent i p (wattUnits w)
  match a, b with
  | some x, some y => some (min x y)
  | some x, none => some x
  | none, y => y

/-- R541: the lowest standing discharge limit in mA; none where none stands. -/
def State.dischargeLimit (s : State) (i p : Nat) : Option Nat :=
  match s.effLimit p 4, (s.effLimit p 5).map fun w => s.toCurrent i p (wattUnits w) with
  | some x, some y => some (min x y)
  | some x, none => some x
  | none, y => y

/-- R522, R539: the offered current of a slice in mA. -/
def State.offered (s : State) (i p : Nat) : Nat :=
  let r := match s.standing i p with | some x => min x (s.ratingOf i) | none => s.ratingOf i
  match tabFind s.gov.alloc p with
  | some a => min r (s.toCurrent i p a)
  | none => if (s.scfg i).kind = 3 then r else min r 6000

/-- R521: the duty in 0.1 % of a current of at least 6 A, rounded down. -/
def dutyOf (ma : Nat) : Nat := if ma ≤ 51000 then ma / 60 else if ma ≤ 80000 then ma / 250 + 640 else 960

/-- The slice's session uses high-level communication (R537). -/
def State.usesHlc (s : State) (i : Nat) : Bool := (s.scfg i).hlc && !(s.slice i).basic

/-- R526: the pilot of a slice whose session offers: 5 % with HLC (state E stands for its 4 s), PWM from 6 A on, otherwise none. -/
def State.driveOffer (s : State) (i p : Nat) : State :=
  let ma := s.offered i p
  let s := s.put Fld.SLICE_DUTY__I_EFF i (min 65535 (ma / 100))
  if s.usesHlc i then (if (s.slice i).out = 3 then s else s.drivePilot i 1 50)
  else if ma < 6000 then
    let s := s.setSlice i { s.slice i with low := s.contactorOn i }
    s.drivePilot i 0 0
  else (s.setSlice i { s.slice i with low := false }).drivePilot i 1 (dutyOf ma)

/-! ### The lock (R531, R532, R764) -/

def State.lockSeen (s : State) (i : Nat) : Bool := tabGet .undet s.boot.inputs (.lockFb i) == .high
/-- A lock drive runs, for 100 ms. -/
def State.lockRuns (s : State) (i : Nat) : Bool := (s.slice i).lockRun.any fun t => s.time < t + 100000

/-- SLICE_STATUS.LOCK. -/
def State.lockMirror (s : State) (i : Nat) : State :=
  s.put Fld.SLICE_STATUS__LOCK i (if s.lockRuns i then 2 else if (s.slice i).lockFault then 3 else b2n (s.lockSeen i))

/-- R764: one lock drive per group of 8, at most two in the module. -/
def State.lockRoom (s : State) (i : Nat) : Bool :=
  let run := (upTo 64).filter s.lockRuns
  decide (run.length < 2) && run.all fun k => k / 8 != i / 8

/-- The lock's order is confirmed: it is over, LOCK_FAULT with it, and what waits for it completes. Its drive runs out its 100 ms. -/
def State.lockConfirmed (s : State) (i : Nat) (dir : Bool) : State :=
  let c := s.slice i
  let s := s.setSlice i { c with lockDir := none, lockAgain := false, lockFault := false, locked := dir, unlockDue := c.unlockDue && dir, lockWaits := [] }
  c.lockWaits.foldl (fun s w => s.complete { t := w.1, status := if w.2 = 0 then stDone else stConflict, result := if w.2 = 0 then 0 else 1, winner := w.2 }) (s.lockMirror i)

/-- Start the order that waits first, where no other is driven and there is room for it; feedback that already shows confirms it at
once. -/
def State.lockGo (s : State) (i : Nat) : State :=
  let c := s.slice i
  match c.lockWant with
  | [] => s
  | (dir, w) :: r =>
    if c.lockDir.isSome || s.lockRuns i || !s.lockRoom i || !s.dieRuns .ddie then s
    else
      let s := (s.setSlice i { c with lockWant := r, lockDir := some dir, lockRun := some s.time, lockWaits := w }).emit (.lockDrive i dir)
      if s.lockSeen i = dir then s.lockConfirmed i dir else s.lockMirror i

/-- A lock or unlock order is to be driven: it joins an order of its direction that comes last, or waits its turn. -/
def State.lockOrder (s : State) (i : Nat) (dir : Bool) (w : List (Ticket × Nat)) : State :=
  let c := s.slice i
  match c.lockWant.getLast? with
  | some (d, v) => s.setSlice i { c with lockWant := if d = dir then c.lockWant.dropLast ++ [(dir, v ++ w)] else c.lockWant ++ [(dir, w)] }
  | none =>
    if c.lockDir = some dir then s.setSlice i { c with lockWaits := c.lockWaits ++ w }
    else s.setSlice i { c with lockWant := [(dir, w)] }

/-- R532: the point is de-energised: contactor confirmed open and, on DC, less than 60 V between the poles. -/
def State.deEnergised (s : State) (i : Nat) : Bool :=
  !s.contactorOn i && ((s.scfg i).kind != 3 || decide (s.get Fld.SLICE_ISO__U_DC i < 60))

/-- LOCK_HOLD_EXPIRY (R532): de-energised for LOCK_HOLD. -/
def execLockHoldExpiry (i : Nat) (s : State) : Res :=
  .next (if s.deEnergised i then s.setSlice i { s.slice i with held := true } else s)

/-- R532 at a boundary: unlocking follows where it is due and the lock may be released. -/
def State.unlockStep (s : State) (i : Nat) : State :=
  let c := s.slice i
  let st := s.session i
  let due := c.unlockDue || st == ssEnded || st == ssTripped || st == ssOos || s.pilot i == 0
  if (s.scfg i).lock && due && c.held && c.lockWant.isEmpty && c.lockDir.isNone && s.lockSeen i && !c.lockFault then s.lockOrder i false []
  else s

/-! ### Sessions that end (R527, R529) -/

/-- The index that a boundary freezes at: that of the latest mark. -/
def State.markIdx (s : State) (p : Nat) : Nat := (s.firn (s.pcfg p).die).m

/-- R527: the session ends: its switch is ordered off, an ARMED point freezes with zero quantities, HLC ends. -/
def State.endSlice (s : State) (i code : Nat) : State :=
  if !s.inSession i then s
  else
    let c := s.scfg i
    let s := (s.setSession i ssEnding).setSlice i { s.slice i with endc := code, hlcGo := false, rdcWait := false, low := false }
    let s := if s.get Fld.SLICE_HLC__STAGE i = 0 || s.get Fld.SLICE_HLC__STAGE i = 6 then s else (s.put Fld.SLICE_HLC__STAGE i 5).emit (.hlc i 0 0)
    let s := match c.switch with | some n => s.setWant n false | none => s
    match c.point with
    | some p => if s.mpState p = mpArmed then s.freezePoint p (s.markIdx p) 7 else s
    | none => s

/-- R529: a reflex of the D-die: the contactor's switch goes off at once and the pilot to state F, for the next boundary to record. -/
def State.reflex (s : State) (i code data : Nat) : State :=
  match (s.scfg i).switch with
  | none => s
  | some n =>
    if !s.swOn n then s
    else
      let s := (s.setWant n false).drivePilot i 2 0
      s.setSlice i { s.slice i with reflex := some code, tripData := data }

/-- R527, R545: the machine records a reflex. -/
def State.recordReflex (s : State) (i : Nat) : State :=
  let c := s.slice i
  match c.reflex with
  | none => s
  | some code =>
    let s := s.setSlice i { c with reflex := none }
    let s := s.endSlice i code
    if code ≠ 4 then s
    else
      let s := (s.setSession i ssTripped).put Fld.SLICE_STATUS__TRIP i 1
      let s := (s.bump Fld.SLICE_COUNT__TRIPS i 1).setSlice i { s.slice i with tripF := true }
      s.postSlice i { code := 0x405, sev := 2, obj := i, data := c.tripData }

/-- The END codes of a stop by its source (R528); for a source R528 does not name, its value is open (log entry 52). -/
def State.endOf (s : State) (o : Order) : Nat × State :=
  if o.endc ≠ 0 then (o.endc, s)
  else if o.src = 2 || o.src = 3 then (6, s)
  else if o.src = 4 || o.src = 5 || o.src = 6 then (5, s)
  else let (v, s) := s.drawBelow 13; (v + 1, s)

/-! ### Slice failure and return (R282 to R286) -/

/-- R283: a slice fails a check. -/
def State.failSlice (s : State) (i code : Nat) : State :=
  let c := s.scfg i
  let was := s.inSession i || s.session i == ssEnding || s.session i == ssTripped
  let s := (s.put Fld.SLICE_STATUS__FAULT i code).setSlice i { s.slice i with rdcWait := false, reflex := none, low := false, endc := if was then 0xD else (s.slice i).endc }
  let s := match c.switch with | some n => s.setWant n false | none => s
  let s := s.drivePilot i (if code = 1 then 4 else 2) 0
  let s := if s.get Fld.SLICE_HLC__STAGE i = 0 then s else (s.put Fld.SLICE_HLC__STAGE i 5).emit (.hlc i 3 0)
  let s := match c.point with | some p => s.failPoint p (s.markIdx p) | none => s
  (s.setSession i ssOos).postSlice i { code := 0x4F0, sev := 2, obj := i, data := code }

/-- SLICE_RETURN (R285): the self-test of 50 ms begins. -/
def execSliceReturn (d : Desc) (s : State) : Res :=
  .next (s.withDesc 0x2C d fun t s =>
    let i := d.target.toNat
    let c := s.slice i
    let ready := match (s.scfg i).point with
      | some p => (s.mp p).oos == [1] && (s.mp p).final && (s.mp p).recFormed && !s.starts.any (·.point == p)
      | none => true
    if c.test.isSome then s.fin t stCapacity 1
    else if !s.flag Fld.SLICE_STATUS__FAULT i then s.fin t stDone 0
    else if !ready then s.fin t stCapacity 1
    else s.setSlice i { c with test := some t })

/-- The self-test of a slice ends, with the code of a check that failed (0: none). -/
def State.sliceTested (s : State) (i code : Nat) : State :=
  let c := s.slice i
  match c.test with
  | none => s
  | some t =>
    let s := s.setSlice i { c with test := none }
    if code ≠ 0 then ((s.put Fld.SLICE_STATUS__FAULT i code).postSlice i { code := 0x4F0, sev := 2, obj := i, data := code }).fin t stCapacity 2
    else
      -- the earth-fault latch outlives the failure (R545)
      let s := ((s.put Fld.SLICE_STATUS__FAULT i 0).setSession i (if s.flag Fld.SLICE_STATUS__TRIP i then ssTripped else ssVacant)).drivePilot i 0 0
      let s := match (s.scfg i).point with
        | some p => (s.setMp p { s.mp p with oos := (s.mp p).oos.filter (· != 1) }).setMpState p (if (s.mp p).oos.all (· == 1) then mpIdle else mpOos)
        | none => s
      (s.postSlice i { code := 0x4F1, sev := 0, obj := i }).fin t stDone 1

/-- RETURN_SELF_TEST_DONE (R285): of a slice or a switch. -/
def execReturnSelfTestDone (isSlice : Bool) (n code : Nat) (s : State) : Res :=
  .next (if isSlice then s.sliceTested n code else s.switchTested n code)

/-! ### Starts (R329, R497, R498, R549) -/

/-- The checks made when a start is accepted: status and RESULT of the first that fails. -/
def State.startRefusal (s : State) (x : StartSt) (qNeg : Bool) : Option (Nat × Nat) :=
  let p := x.point
  let c := s.pcfg p
  let st := s.mpState p
  if c.commodity = 0 then some (stCapacity, 1)
  else if st ≠ mpIdle && st ≠ mpOos || s.starts.any (·.point == p) then some (stCapacity, 2)
  else if st = mpOos then some (stCapacity, 3)
  else if (tabFind s.ledger.active x.tariff).isNone then some (stCapacity, 4)
  else if qNeg then some (stCapacity, 5)
  else if !planOk x.plan then some (stBad, 8)
  else match s.sliceOf p with
    | none => none
    | some i =>
      let v := s.session i
      if (s.slice i).test.isSome then some (stCapacity, 1)
      else if v = ssTripped then some (stCapacity, 0xB)
      else if v = ssVacant then some (stCapacity, 0xC)
      else if v = ssUnavailable && s.flag Fld.SLICE_STATUS__UNAVAIL i then some (stCapacity, 0xE)
      else none

/-- Accept a start for this cycle, or finish it with its refusal. -/
def State.acceptStart (s : State) (x : StartSt) (qNeg : Bool) : State :=
  match s.startRefusal x qNeg with
  | some (st, r) => match x.t with
    | some t => s.fin t st r
    | none =>
      let s := match x.node with | some n => s.kyAnswer n x.port st r | none => s
      s.postTo x.port { code := 0x302, sev := 1, obj := x.point, data := st }
  | none => { s with starts := s.starts ++ [x] }.pushOrder { src := x.src, act := .start x.point }

def State.setStart (s : State) (p : Nat) (f : StartSt → StartSt) : State :=
  { s with starts := s.starts.map fun y => if y.point == p then f y else y }

/-- R497, R328: an admitted start opens its session: the point becomes ARMED, or the start is refused, by a full journal or a point that
its die holds out of service (R53, R54). -/
def State.admitStart (s : State) (x : StartSt) : State :=
  let p := x.point
  if s.mpState p = mpOos then s.finishStart x stConflict 0 (s.pcfg p).die.source
  else match s.openSession x with
  | (s, .inl r) =>
    let s := s.finishStart x stCapacity r
    match s.sliceOf p with
    | some i => if x.card && r = 6 then s.postSlice i { code := 0x403, sev := 1, obj := i, data := 4 } else s
    | none => s
  | (s, .inr pos) =>
    let s := (s.setStart p fun y => { y with phase := 3, jpos := some pos }).armPoint p x.tariff x.qLimit
    let s := s.setGov { s.gov with admitted := s.gov.admitted.filter (· != p) ++ [p], ramp := tabErase s.gov.ramp p, shed := s.gov.shed.filter (· != p) }
    match s.sliceOf p with
    | none => match s.swOf p with
      | some n => s.setWant n true
      | none => s
    | some i =>
      let c := s.slice i
      let s := s.setSlice i { c with owed := true, hlcGo := false, conv := none, demand := none, sched := none, low := false }
      let s := s.setSession i ssOffered
      if s.usesHlc i then s.put Fld.SLICE_HLC__STAGE i 1 else s

/-- A start waits no more for its lock: its slice's lock is confirmed, or none is fitted (R527). -/
def State.lockReady (s : State) (p : Nat) : Bool :=
  match s.sliceOf p with
  | none => true
  | some i => !(s.scfg i).lock || ((s.slice i).locked && s.lockSeen i && (s.slice i).lockDir.isNone)

/-- The admitted starts whose lock is confirmed go on; their holds wait behind what stalls in the ledger (R73, R181, R512). -/
def State.admitReady (s : State) : State :=
  if s.power.memStall || s.ledger.parking then s
  else (s.starts.filter (·.phase == 2)).foldl (fun s x => if s.lockReady x.point then s.admitStart x else s) s

/-- A start that has not reached OFFERED ends: it leaves its queue and completes finally. -/
def State.dropStart (s : State) (x : StartSt) (status result winner : Nat) : State :=
  (s.qDrop (.start x.point)).finishStart x status result winner

/-- LOCK_CONFIRM_TIMEOUT (R531): the window of a drive ends; the second one's end is a LOCK_FAULT. -/
def execLockConfirmTimeout (i : Nat) (s : State) : Res :=
  let c := s.slice i
  match c.lockDir, c.lockRun with
  | some dir, some _ =>
    if !c.lockAgain then .next ((s.setSlice i { c with lockRun := none, lockAgain := true }).lockMirror i)
    else
      let s := s.setSlice i { c with lockDir := none, lockRun := none, lockAgain := false, lockFault := true, locked := false, unlockDue := false,
                                     lockWaits := [] }
      let s := (s.lockMirror i).postSlice i { code := 0x407, sev := 2, obj := i, data := if dir then 1 else 2 }
      let s := c.lockWaits.foldl (fun s w => s.fin w.1 stCapacity 3) s
      -- R532: a lock that fails to lock keeps its start from OFFERED
      .next (match dir, (s.scfg i).point with
        | true, some p => match s.starts.find? fun x => x.point == p && x.phase != 3 with
          | some x => s.dropStart x stCapacity 0xD 0
          | none => s
        | _, _ => s)
  | _, _ => .next s

/-- LOCK_RETRY (R531): the drive is repeated once. -/
def execLockRetry (i : Nat) (s : State) : Res :=
  let c := s.slice i
  match c.lockDir with
  | none => .next s
  | some dir =>
    .next (if c.lockAgain && c.lockRun.isNone then
      (s.setSlice i { c with lockWant := (dir, c.lockWaits) :: c.lockWant, lockDir := none, lockWaits := [] }).lockGo i else s)

/-- LOCK_FEEDBACK_CHANGE (R531, R529): the filtered feedback changes; with the D-die out the input is undetermined (R125). -/
def execLockFeedbackChange (i : Nat) (locked : Bool) (s : State) : Res :=
  if !s.dieRuns .ddie then .next s
  else
    let s := s.setBoot { s.boot with inputs := tabSet s.boot.inputs (.lockFb i) (if locked then .high else .low) }
    let c := s.slice i
    if c.lockDir = some locked && c.lockRun.isSome then .next (s.lockConfirmed i locked)
    else if !locked && c.locked && c.lockDir.isNone then
      let s := s.setSlice i { c with locked := false, lockFault := true }
      let s := (s.lockMirror i).postSlice i { code := 0x407, sev := 2, obj := i, data := 3 }
      .next (s.reflex i 0xA 0)
    else .next (s.lockMirror i)

/-! ### Pilot and proximity (R519, R520, R525) -/

/-- R519: the state that a high and a low level in mV classify, by the state last confirmed. -/
def pilotClass (last : Nat) (pwm : Bool) (h l : Int) : Nat :=
  let within (lo hi : Int) : Bool := decide (lo ≤ h) && decide (h ≤ hi)
  let keep := match last with
    | 0 => decide (10400 ≤ h) | 1 => within 7400 10600 | 2 => within 4400 7600 | 3 => within 1400 4600 | 4 => decide (h ≤ 1600)
    | _ => false
  let k := if keep then last else if 10500 < h then 0 else if 7500 ≤ h then 1 else if 4500 ≤ h then 2 else if 1500 ≤ h then 3 else 4
  if 1 ≤ k && k ≤ 3 && pwm && decide (-10500 < l) then 6 else k

/-- PILOT_STATE_CONFIRMED (R520, R529): three equal classifications of the levels given. While the slice drives state E, F
or high impedance, nothing counts. -/
def execPilotStateConfirmed (i : Nat) (high low : Int) (s : State) : Res :=
  let c := s.slice i
  if 2 ≤ c.out || !s.dieRuns .ddie then .next s
  else
    let k := pilotClass (s.pilot i) (c.out == 1) high low
    let s := s.put Fld.SLICE_PILOT__HIGH i (bitsOf 16 high)
    let s := s.put Fld.SLICE_PILOT__LOW i (if c.out = 1 then bitsOf 16 low else 0x8000)
    -- R520: the first confirmed state is no change
    let s := if s.pilot i = k then s else if s.pilot i = 7 then s.put Fld.SLICE_STATUS__PILOT i k else (s.put Fld.SLICE_STATUS__PILOT i k).wakeSource 6
    .next (if k = 0 then s.reflex i 2 0 else if k = 4 || k = 6 then s.reflex i 3 0 else s)

/-- R525: the code of a proximity resistance in Ω. -/
def ppClass (mode ohm : Nat) : Nat :=
  if mode = 1 then (if 1500 < ohm then 0 else if 100 ≤ ohm && ohm ≤ 250 then 1 else if 330 ≤ ohm && ohm ≤ 800 then 2 else 5)
  else if 4500 < ohm then 0 else if 1100 ≤ ohm then 1 else if 450 ≤ ohm && ohm ≤ 1099 then 2
  else if 160 ≤ ohm && ohm ≤ 449 then 3 else if 60 ≤ ohm && ohm ≤ 159 then 4 else 5

/-- Order a slice's session, or the start that waits for one, to stop at a source's rank with an END code. -/
def State.stopSlice (s : State) (i src code : Nat) : State :=
  match (s.scfg i).point with
  | some p => if s.inSession i || s.session i == ssWaiting then s.pushOrder { src := src, act := .stop p, endc := code } else s
  | none => s

/-- PROXIMITY_CONFIRMED (R525, R529): a released latch is a vehicle's stop request. -/
def execProximityConfirmed (i ohm : Nat) (s : State) : Res :=
  if !s.dieRuns .ddie then .next s
  else
    let c := s.scfg i
    let k := ppClass c.ppMode ohm
    let s := ((s.put Fld.SLICE_PP__R_PP i (if k = 0 then 65535 else min 65535 ohm)).put Fld.SLICE_PP__PP_CODE i k).put Fld.SLICE_PP__CABLE_A i (min 255 (cableOf c k))
    if c.ppMode = 0 then .next (if k = 0 then s.reflex i 2 0 else if k = 5 then s.reflex i 3 0 else s)
    else .next (if k = 2 then s.stopSlice i 8 2 else s)

/-- OFFER_BELOW_MINIMUM_TIMEOUT (R523). -/
def execOfferBelowMinimumTimeout (i : Nat) (s : State) : Res :=
  .next (if (s.slice i).low && s.contactorOn i && (s.pilot i = 2 || s.pilot i = 3) then s.stopSlice i srcFirmware 9 else s)

/-- R524: the limit of a phase's current in units of 2⁻¹⁶ · 10⁻⁴ A: 1.1 times the offered current, or under HLC the limit last sent, and 0.5 A. -/
def State.overLimit (s : State) (i p : Nat) : Nat :=
  ((if s.usesHlc i then (s.slice i).sent else s.offered i p) * 11 + 5000) * 65536

/-- R524: a boundary's comparison while ENERGISED: each phase above its limit counts from its first boundary. -/
def State.overStep (s : State) (i p : Nat) : State :=
  let c := s.slice i
  if s.session i ≠ ssEnergised then (if c.above.isEmpty then s else s.setSlice i { c with above := [] })
  else
    let top := s.overLimit i p
    let hot := (upTo (phases (s.scfg i))).filter fun k => decide (top < f32Scaled (s.reg .MP_IRMS (4 * p + k)) 16 * 10000)
    let new := hot.map fun k => (k, tabGet s.time c.above k)
    if new = c.above then s else s.setSlice i { c with above := new }

/-- OVERCURRENT (R524): the phases that have been above their limit for 5 s. -/
def execOvercurrent (i : Nat) (s : State) : Res :=
  let hot := (s.slice i).above.filter fun x => decide (x.2 + 5000000 ≤ s.time)
  .next (if s.session i = ssEnergised && !hot.isEmpty then
    (s.stopSlice i srcFirmware 8).postSlice i { code := 0x40A, sev := 1, obj := i, data := hot.foldl (fun m x => m + 2 ^ x.1) 0 } else s)

/-- OFFER_TIMEOUT (R527): ARMED for OFFER_TIMEOUT without state C. -/
def execOfferTimeout (i : Nat) (s : State) : Res :=
  .next (if s.session i = ssOffered && s.pilot i ≠ 2 then s.stopSlice i srcFirmware 0xB else s)

/-- TRIP_STATE_F_TIMEOUT (R526). -/
def execTripStateFTimeout (i : Nat) (s : State) : Res :=
  if !(s.slice i).tripF then .next s
  else
    let s := s.setSlice i { s.slice i with tripF := false }
    .next (if s.session i = ssTripped then s.drivePilot i 0 0 else s)

/-! ### Credentials (R533 to R535) -/

/-- R534: the DATA of AUTH_REFUSED for a credential, or the slot that pays. -/
def State.credCheck (s : State) (hash p : Nat) : Nat ⊕ Nat :=
  let l := s.ledger
  match tabFind l.index hash with
  | none => .inl 1
  | some n =>
    let b := l.slot n
    let mask := field b 144 32
    if l.isQuar n || slState b ≠ 1 then .inl 2
    else if mask ≠ 0 && !bitAt mask (s.pcfg p).tariff then .inl 3
    else .inr n

/-- R533, R534: a slice uses the credential in SLICE_CRED. -/
def State.useCred (s : State) (i kind hash : Nat) : State :=
  let c := s.scfg i
  let s := s.setSlice i { s.slice i with cred := 0 }
  if !c.localAuth then s.postSlice i { code := 0x402, sev := 0, obj := i, data := kind }
  else match c.point with
    | none => s
    | some p => match s.credCheck hash p with
      | .inl why => s.postSlice i { code := 0x403, sev := 1, obj := i, data := why }
      | .inr slot =>
        let pc := s.pcfg p
        s.acceptStart { t := none, port := c.owner, src := c.owner.source, point := p, tariff := pc.tariff, limit := 0, qLimit := 0,
                        plan := setField pc.plan 32 4 slot, card := true } false

/-- A credential is presented to a slice: used in PLUGGED or ENDED, otherwise kept (R533, R550). -/
def State.presentCred (s : State) (i kind hash : Nat) : State :=
  let s := (s.setReg .SLICE_CRED_LO i (BitVec.ofNat 32 hash)).setReg .SLICE_CRED_HI i (BitVec.ofNat 32 (hash / 2 ^ 32))
  let v := s.session i
  if v = ssPlugged || v = ssEnded then s.useCred i kind hash
  else
    let s := s.setSlice i { s.slice i with cred := kind }
    if v = ssEnergised then s.postSlice i { code := 0x402, sev := 0, obj := i, data := kind } else s

def State.credHash (s : State) (i : Nat) : Nat := (s.reg .SLICE_CRED_LO i).toNat + (s.reg .SLICE_CRED_HI i).toNat * 2 ^ 32

/-- CREDENTIAL_EXPIRY (R533). -/
def execCredentialExpiry (i : Nat) (s : State) : Res :=
  .next (if (s.slice i).cred = 0 then s
    else ((s.setReg .SLICE_CRED_LO i 0).setReg .SLICE_CRED_HI i 0).setSlice i { s.slice i with cred := 0 })

/-! ### High-level communication (R536 to R541) -/

/-- R524: a lower offer restarts the counts of the phases above their limit. -/
def State.offerLess (s : State) (i old new : Nat) : State :=
  if old ≤ new then s else s.setSlice i { s.slice i with above := (s.slice i).above.map fun x => (x.1, s.time) }

/-- R539, R541: what an HLC session sends as its limits: the current in mA, and the discharge current where BPT is offered. -/
def State.sendLimit (s : State) (i p op ma : Nat) : State :=
  let s := s.offerLess i (s.slice i).sent ma
  let s := (s.setSlice i { s.slice i with sent := ma }).emit (.hlc i op ma)
  match (if (s.scfg i).bpt then s.dischargeLimit i p else none) with
  | some d => s.emit (.hlc i 8 d)
  | none => s

/-- HLC fails for a reason of R552: the session ends with END 0x7. -/
def State.hlcFail (s : State) (i reason : Nat) : State :=
  let s := ((s.put Fld.SLICE_HLC__STAGE i 6).put Fld.SLICE_HLC__REASON i reason).postSlice i { code := 0x409, sev := 1, obj := i, data := reason }
  s.stopSlice i srcFirmware 7

/-- R537: a matching fails: state E for 4 s, and after the third basic charging, for which HLC has failed too, or the end. -/
def State.slacFail (s : State) (i : Nat) : State :=
  let n := s.get Fld.SLICE_HLC__FAILS i + 1
  let s := (s.put Fld.SLICE_HLC__FAILS i (min 255 n)).put Fld.SLICE_HLC__REASON i 1
  if n < 3 then s.drivePilot i 3 0
  else if (s.scfg i).fallback then
    ((s.setSlice i { s.slice i with basic := true }).put Fld.SLICE_HLC__STAGE i 6).postSlice i { code := 0x409, sev := 1, obj := i, data := 1 }
  else s.hlcFail i 1

/-- R538: the protocol agreed on, the first in the module's order that the configuration leaves, the vehicle offers and the slice's
kind and TLS allow; 0 where there is none. -/
def protoOf (c : SliceCfg) (offers : List Nat) (tls tls13 : Bool) : Nat :=
  (([3, 2, 1].find? fun k => offers.contains k && !c.noProto.contains k
    && (if k = 3 then tls && !tls13 else if k = 1 then c.kind == 3 else true))).getD 0

/-- SLAC_MATCH (R537, R538): the modem reports a match with an attenuation in dB; SDP and the protocol follow. `sdp`: the vehicle answers
SDP (otherwise its timer runs on); `tls`: the outcome of the TLS handshake, none where the vehicle asks for no TLS; `offers`: the
protocols it offers, by PROTO; `tls13`: it requires TLS 1.3 for ISO 15118-20. -/
def execSlacMatch (i atten : Nat) (sdp : Bool) (tls : Option Bool) (offers : List Nat) (tls13 : Bool) (s : State) : Res :=
  if s.get Fld.SLICE_HLC__STAGE i ≠ 1 || !s.inSession i then .next s
  else if 50 < atten then .next (s.slacFail i)
  else if !sdp then .next (s.put Fld.SLICE_HLC__STAGE i 2)
  else if tls = some false then .next (s.hlcFail i 3)
  else match protoOf (s.scfg i) offers tls.isSome tls13 with
    | 0 => .next (s.hlcFail i 4)
    | k =>
      let s := (s.put Fld.SLICE_HLC__STAGE i 4).put Fld.SLICE_HLC__PROTO i k
      .next ((s.emit (.hlc i 4 k)).postSlice i { code := 0x408, sev := 0, obj := i, data := k })

/-- SLAC_TIMEOUT (R537): no match within 20 s. -/
def execSlacTimeout (i : Nat) (s : State) : Res :=
  .next (if s.get Fld.SLICE_HLC__STAGE i = 1 && s.inSession i && (s.slice i).out ≠ 3 then s.slacFail i else s)

/-- SLAC_RETRY (R537): 4 s of state E are over. -/
def execSlacRetry (i : Nat) (s : State) : Res :=
  .next (if (s.slice i).out = 3 && s.inSession i then (s.drivePilot i 1 50).emit (.hlc i 1 0) else s)

/-- R535: CRED_HASH of an eMAID: the first 64 bits of its SHA-256, without separators. -/
def emaidHash (emaid : List Byte) : Nat := Config.digest 1 ((emaid.filter (· != 45)).map (·.toNat)) % 2 ^ 64

/-- HLC_AUTHORIZATION (R535): a contract with its eMAID and its validity in µs of device time; `ok`: its chain to a root in Rime and the
vehicle's signature verify. Revocation is not checked. -/
def execHlcAuthorization (i : Nat) (emaid : List Byte) (nb na : Nat) (ok : Bool) (s : State) : Res :=
  .next (if !(s.scfg i).hlc then s
    else if ok && decide (nb ≤ s.devTime) && decide (s.devTime ≤ na) then s.presentCred i 2 (emaidHash emaid)
    else (s.put Fld.SLICE_HLC__REASON i 6).postSlice i { code := 0x403, sev := 1, obj := i, data := 5 })

/-- HLC_AUTHORIZATION_TIMEOUT (R533): 60 s in Authorization. -/
def execHlcAuthorizationTimeout (i : Nat) (s : State) : Res :=
  .next (if s.get Fld.SLICE_HLC__STAGE i = 4 then s.hlcFail i 5 else s)

/-- HLC_SEQUENCE_TIMEOUT (R538, R552): a timer of the protocol in use expires. -/
def execHlcSequenceTimeout (i : Nat) (s : State) : Res :=
  let st := s.get Fld.SLICE_HLC__STAGE i
  .next (if st = 2 then s.hlcFail i 2 else if st = 3 then s.hlcFail i 3 else if st = 4 then s.hlcFail i 5 else s)

/-- HLC_POWER_DELIVERY (R527): the vehicle's PowerDelivery to start, or to stop. -/
def execHlcPowerDelivery (i : Nat) (start : Bool) (s : State) : Res :=
  .next (if !s.inSession i || !s.usesHlc i then s
    else if start then s.setSlice i { s.slice i with hlcGo := true }
    else s.stopSlice i 8 7)

/-- HLC_CURRENT_DEMAND (R539): target voltage in 0.1 V and current in 0.1 A; an order at vehicle rank, answered with the
effective limit in mA. -/
def execHlcCurrentDemand (i u : Nat) (cur : Int) (s : State) : Res :=
  match (s.scfg i).point with
  | none => .next s
  | some p =>
    if !s.inSession i || !s.usesHlc i then .next s
    else
      let s := s.setSlice i { s.slice i with demand := some (u, cur) }
      let s := s.pushOrder { src := 8, act := .limit p (if cur < 0 then 4 else 1) (cur.natAbs * 100) }
      .next (s.sendLimit i p 5 (s.offered i p))

/-- The checks of HLC_CTRL (R547): the sub-operation in PARAM byte 0, then HLC. -/
def State.hlcCtrl (s : State) (d : Desc) (subop : Nat) (buf : Bool) (k : Ticket → Nat → State → State) : State :=
  s.withDesc 0x2A d fun t s =>
    let i := d.target.toNat
    if field d.param 0 1 ≠ subop then s.fin t stBad 24
    else match DescF.parNonZero d 1 with
      | some n => s.fin t stBad (24 + n)
      | none =>
        if buf && DescF.bufLen d ≠ 16 then s.fin t stBad 16
        else if !buf && d.bufAddr ≠ 0 then s.fin t stBad 8
        else if !buf && DescF.bufLen d ≠ 0 then s.fin t stBad 16
        else if !(s.scfg i).hlc then s.fin t stCapacity 2
        else if (s.slice i).test.isSome then s.fin t stCapacity 1
        else k t i s

/-- CONVERTER_STATUS (R547, R540). -/
def execConverterStatus (d : Desc) (rd : DmaRead) (s : State) : Res :=
  .next (s.hlcCtrl d 1 true fun t i s => s.withRead t d rd fun b s =>
    let s := s.setSlice i { s.slice i with conv := some (field b 0 1, field b 4 4, field b 8 4, field b 12 4) }
    let s := if bitAt (field b 0 1) 1 && (s.scfg i).kind = 3 then s.stopSlice i srcFirmware 7 else s
    s.fin t stDone 0)

/-- RENEGOTIATE (R547). -/
def execRenegotiate (d : Desc) (s : State) : Res := .next (s.hlcCtrl d 2 false fun t i s => (s.emit (.hlc i 2 0)).fin t stDone 0)

/-- MODEM_RESET (R547): the modem is reset and SLAC starts again. -/
def execModemReset (d : Desc) (s : State) : Res :=
  .next (s.hlcCtrl d 3 false fun t i s =>
    if s.session i = ssEnergised then s.fin t stCapacity 1
    else
      let s := (s.emit (.hlc i 6 0)).put Fld.SLICE_HLC__STAGE i (if s.session i = ssOffered then 1 else 0)
      ((s.setSlice i { s.slice i with basic := false }).put Fld.SLICE_HLC__PROTO i 0).fin t stDone 0)

/-- CONVERTER_STALE (R540): not READY within 10 s of OFFERED, or the report older than 2 s while ENERGISED. -/
def execConverterStale (i : Nat) (s : State) : Res :=
  if (s.scfg i).kind ≠ 3 || !s.inSession i then .next s
  else
    let ready := (s.slice i).conv.any fun c => bitAt c.1 0
    if s.session i = ssOffered && ready then .next s
    else
      let s := s.postSlice i { code := 0x40C, sev := 1, obj := i, data := if s.session i = ssOffered then 1 else 2 }
      .next (s.stopSlice i srcFirmware 7)

/-! ### Earth fault (R542 to R545) -/

/-- EARTH_FAULT_TRIP (R542): the persistence of a band ends at a DC residual current in 10 µA. -/
def execEarthFaultTrip (i : Nat) (dc : Int) (s : State) : Res :=
  let c := s.scfg i
  if c.efMode ≠ 1 || c.kind = 3 || c.kind = 0 || !s.dieRuns .ddie || !s.contactorOn i || dc.natAbs < 300 then .next s
  else .next ((s.put Fld.SLICE_RDC__I_DC i (bitsOf 16 (clampS 16 dc))).reflex i 4 (min 0x7FFF (dc.natAbs / 100)))

/-- RDC_SELF_TEST_RESULT (R543): the trip indication arrives within 50 ms, or not. -/
def execRdcSelfTestResult (i : Nat) (ok : Bool) (s : State) : Res :=
  if !(s.slice i).rdcWait then .next s
  else if !ok then .next (s.failSlice i 4)
  else
    let s := s.setSlice i { s.slice i with rdcWait := false }
    .next (match (s.scfg i).switch with | some n => s.swRefresh n | none => s)

/-- Insulation in Ω/V of a resistance in kΩ. -/
def isoPerVolt (r umax : Nat) : Nat := r * 1000 / max 1 umax

def State.isoShow (s : State) (i r u : Nat) : State :=
  let s := (s.put Fld.SLICE_ISO__R_ISO i (min 65535 r)).put Fld.SLICE_ISO__U_DC i (min 65535 u)
  if u < 60 then s else s.setSlice i { s.slice i with held := false }

/-- INSULATION_MEASUREMENT (R544): R_iso in kΩ, the pole voltage and U_MAX in V; `long`: it has been below 100 Ω/V for 1 s. -/
def execInsulationMeasurement (i r u umax : Nat) (long : Bool) (s : State) : Res :=
  let c := s.scfg i
  if c.efMode ≠ 2 || c.kind ≠ 3 || !s.dieRuns .ddie then .next s
  else
    let s := s.isoShow i r u
    -- R540: the pole voltage answers welding detection once the contactor has opened
    let s := if s.usesHlc i && s.session i = ssEnding && !s.contactorOn i then s.emit (.hlc i 9 u) else s
    let q := isoPerVolt r umax
    if 500 * umax < r * 1000 then .next s
    else if 100 ≤ q then .next (s.postSlice i { code := 0x406, sev := 1, obj := i, data := min q 65535 })
    else .next (if long && s.session i = ssEnergised then s.reflex i 4 (0x8000 + q) else s)

/-- CABLE_CHECK_RESULT (R544): its self-test, then the insulation at the converter's test voltage. -/
def execCableCheckResult (i r u umax : Nat) (selfTest : Bool) (s : State) : Res :=
  let c := s.scfg i
  if c.efMode ≠ 2 || c.kind ≠ 3 || !s.inSession i then .next s
  else if !selfTest then .next (s.failSlice i 4)
  else
    let s := s.isoShow i r u
    let q := isoPerVolt r umax
    if 500 * umax < r * 1000 then .next s
    else if 100 ≤ q then .next (s.postSlice i { code := 0x406, sev := 1, obj := i, data := min q 65535 })
    else .next (s.stopSlice i srcFirmware 4)

/-! ### The session state machine (R526, R527) -/

/-- A start of the point that an earlier cycle accepted has not completed finally. -/
def State.owes (s : State) (p : Nat) : Bool := s.starts.any fun x => x.point == p && x.phase != 0

/-- The end of a session is reported once its start has completed finally. -/
def State.reportEnd (s : State) (i p : Nat) : State :=
  let c := s.slice i
  if !c.owed || s.owes p || s.inSession i then s
  else
    let s := s.setSlice i { c with owed := false }
    let s := (s.put Fld.SLICE_STATUS__END i c.endc).put Fld.SLICE_COUNT__SESSIONS i (s.get Fld.SLICE_COUNT__SESSIONS i + 1)
    let s := s.setGov { s.gov with admitted := s.gov.admitted.filter (· != p), shed := s.gov.shed.filter (· != p), alloc := tabErase s.gov.alloc p, ramp := tabErase s.gov.ramp p }
    if s.session i = ssOos then s else s.postSlice i { code := 0x404, sev := 0, obj := i, data := c.endc }

/-- R527, R59: a session whose start has completed finally ends before the boundary's orders, so that a new start meets it ended. -/
def State.sliceEnd (s : State) (i : Nat) : State :=
  let p := (s.scfg i).point.getD 0
  let s := if s.session i = ssEnding && !s.owes p then s.setSession i (if s.pilot i = 0 then ssVacant else ssEnded) else s
  s.reportEnd i p

/-- The state that a free slice takes by its pilot; none while the pilot tells nothing. -/
def byPilot : Nat → Option Nat | 0 => some ssVacant | 1 => some ssPlugged | 2 => some ssPlugged | 3 => some ssPlugged | _ => none

/-- A vehicle is plugged in: the lock is ordered under LOCK_ON_PLUG, and a credential that waits is used. -/
def State.plugIn (s : State) (i : Nat) : State :=
  let c := s.scfg i
  let s := (s.setSession i ssPlugged).setSlice i { s.slice i with basic := false, unlockDue := false }
  let s := ((s.put Fld.SLICE_HLC__FAILS i 0).put Fld.SLICE_HLC__STAGE i 0).put Fld.SLICE_HLC__PROTO i 0
  let s := if c.lock && c.lockOnPlug then s.lockOrder i true [] else s
  let k := (s.slice i).cred
  -- R520: a vehicle found at start-up starts no session by itself
  if k = 0 || (s.slice i).seen = 7 then s else s.useCred i k (s.credHash i)

/-- Order the contactor on: an AC slice with RDC first runs its self-test (R543). -/
def State.closeContactor (s : State) (i n : Nat) : State :=
  if (s.sw n).drive then s
  else
    let s := if (s.scfg i).efMode = 1 then s.setSlice i { s.slice i with rdcWait := true } else s
    s.setWant n true

/-- R527, R540: what HLC must have reached before the contactor closes: the vehicle's PowerDelivery to start on AC, the protocol's session
on DC, where the contactor is closed before cable check (log entry 195). -/
def State.hlcReady (s : State) (i : Nat) : Bool :=
  !s.usesHlc i || (s.slice i).hlcGo || ((s.scfg i).kind == 3 && s.get Fld.SLICE_HLC__STAGE i == 4)

/-- One boundary of a used slice's machine. -/
def State.sliceStep (s : State) (i : Nat) : State :=
  let c := s.scfg i
  let p := c.point.getD 0
  let n := c.switch.getD 0
  let s := s.recordReflex i
  let inh := !s.seriesOk n || s.serac.fell.contains n
  let s := s.setSlice i { s.slice i with inhibit := inh }
  let f := inh || s.flag Fld.SLICE_STATUS__UNAVAIL i
  let st := s.session i
  let pil := s.pilot i
  let s := if st = ssOos then s
    else if st = ssVacant then
      (if f then s.setSession i ssUnavailable else if 1 ≤ pil && pil ≤ 3 then s.plugIn i else s)
    else if st = ssPlugged || st = ssEnded then
      (if f then s.setSession i ssUnavailable
       else if pil = 0 then (s.setSession i ssVacant).setSlice i { s.slice i with unlockDue := true } else s)
    else if st = ssWaiting then
      match s.starts.find? (·.point == p) with
      | none => (s.setSession i (if f then ssUnavailable else ssPlugged)).setSlice i { s.slice i with lockForStart := false, unlockDue := (s.slice i).lockForStart && !c.lockOnPlug }
      | some x =>
        let away (s : State) (v : Nat) : State := (s.setSession i v).setSlice i { s.slice i with lockForStart := false, unlockDue := v == ssVacant || ((s.slice i).lockForStart && !c.lockOnPlug) }
        if pil = 0 then away (s.dropStart x stCapacity 0xC 0) ssVacant
        else if s.flag Fld.SLICE_STATUS__UNAVAIL i && x.phase ≠ 3 then away (s.dropStart x stCapacity 0xE 0) ssUnavailable
        else if pil = 3 && !c.vent then s.pushOrder { src := 8, act := .stop p }
        else s
    else if st = ssOffered || st = ssEnergised then
      if inh then s.endSlice i 0xC
      else if f then s.endSlice i 5
      else if (s.firnOff (s.pcfg p).die).isSome || !s.dieRuns .ddie || (s.firn (s.pcfg p).die).pfw.isSome then s.endSlice i 0xD
      else if pil = 0 then s.endSlice i 2
      else if pil = 4 || pil = 6 then s.endSlice i 3
      else if st = ssOffered && s.contactorOn i then s.setSession i ssEnergised
      else if st = ssEnergised && pil = 1 then s.endSlice i 1
      else if pil = 3 && !c.vent then s.pushOrder { src := 8, act := .stop p }
      else if st = ssOffered && (pil = 2 || pil = 3) && s.hlcReady i then s.closeContactor i n
      else s
    else if st = ssEnding then
      if s.owes p then s
      else if f then s.setSession i ssUnavailable
      else s.setSession i (if pil = 0 then ssVacant else ssEnded)
    else if st = ssTripped then
      if f then s.setSession i ssUnavailable
      else if pil = 0 then (s.put Fld.SLICE_STATUS__TRIP i 0).setSession i ssVacant
      else s
    else if st = ssUnavailable then
      if f then s
      else if s.flag Fld.SLICE_STATUS__TRIP i then s.setSession i ssTripped
      else
        -- state F ends first; the pilot then tells what is plugged in
        let s := if 2 ≤ (s.slice i).out then s.drivePilot i 0 0 else s
        match byPilot pil with
        | some v => if v = ssPlugged then s.plugIn i else s.setSession i v
        | none => s
    else s
  (s.reportEnd i p).overStep i p

/-- R526: the pilot that a slice drives in its state, and DC setpoint and renegotiation (R539). -/
def State.sliceDrive (s : State) (i : Nat) : State :=
  let c := s.scfg i
  let v := s.session i
  if c.kind = 0 then s.drivePilot i 0 0
  else if s.inSession i then
    let p := c.point.getD 0
    let old := s.get Fld.SLICE_DUTY__DUTY i
    let s := s.driveOffer i p
    let s := if s.usesHlc i then s else s.offerLess i old (s.get Fld.SLICE_DUTY__DUTY i)
    if !s.usesHlc i then s
    else
      let ma := s.offered i p
      let x := s.slice i
      if c.kind = 3 then match x.demand with
        | none => s
        | some (u, a) =>
          let set : Int := if a < 0 then -((match s.dischargeLimit i p with | some d => min a.natAbs (d / 100) | none => a.natAbs : Nat) : Int) else min a (ma / 100 : Nat)
          let new := bitsOf 16 (clampS 16 set) * 65536 + u % 65536
          if (s.reg .SLICE_DC_SET i).toNat = new then s
          else (s.setReg .SLICE_DC_SET i (BitVec.ofNat 32 new)).postSlice i { code := 0x40B, sev := 0, obj := i }
      else
        let again := match x.sched with | none => false | some o => decide (ma < o) || decide (o * 11 < ma * 10)
        if again || x.sched.isNone then
          let s := s.setSlice i { x with sched := some ma }
          if again then s.sendLimit i p 2 ma else s.setSlice i { s.slice i with sent := ma }
        else s
  else if v = ssEnding || v = ssOos then s
  else if v = ssUnavailable then
    let s := s.put Fld.SLICE_DUTY__I_EFF i 0
    if (s.slice i).inhibit || s.flag Fld.SLICE_STATUS__UNAVAIL i then s.drivePilot i 2 0 else s
  else if v = ssTripped then
    let s := s.put Fld.SLICE_DUTY__I_EFF i 0
    if (s.slice i).tripF then s else s.drivePilot i 0 0
  else (s.drivePilot i 0 0).put Fld.SLICE_DUTY__I_EFF i 0

/-- R527: PILOT_STATE, once for each change that a boundary sees. -/
def State.pilotEvent (s : State) (i : Nat) : State :=
  let k := s.pilot i
  if (s.slice i).seen = k then s
  else (s.setSlice i { s.slice i with seen := k }).postSlice i { code := 0x401, sev := 0, obj := i, data := k + 256 * s.session i }

/-- The used slices, rising. -/
def State.usedSlices (s : State) : List Nat := (upTo 64).filter fun i => (s.scfg i).kind != 0

end Sys2Proof.Machine
end

