-- ==== Sys2Proof/Machine/Governor.lean ====
section
/-!
DEFINITION. Machine/Governor.lean: the avalanche governor (R573 to R580): tokens, queues, power checks, allocation, ramps and
shedding; and what becomes of the parts of a SWITCH_GROUP (R560).
-/
namespace Sys2Proof.Machine

/-! ### Groups, floors and loads (R573, R575) -/

/-- The supply group of a point. -/
def State.groupOf (s : State) (p : Nat) : Nat :=
  match s.sliceOf p with
  | some i => (s.scfg i).group
  | none => match (s.pcfg p).switch with
    | some n => s.get Fld.SW_CFG__GROUP n
    | none => (s.pcfg p).group

def State.loadOf (s : State) (n : Nat) : Nat := wattUnits (s.get Fld.SW_LOAD__LOAD_W n)

/-- The floor of a point's session, in units of 2⁻¹⁶ mW. -/
def State.floorOf (s : State) (p : Nat) : Nat :=
  match s.sliceOf p with
  | some i => if (s.scfg i).kind = 3 then 0 else s.toPower i p 6000
  | none => match s.swOf p with | some n => s.loadOf n | none => 0

/-- A session is OFFERED or ENERGISED; a point without a slice counts while ARMED or METERING (log entry 53). -/
def State.runsSession (s : State) (p : Nat) : Bool :=
  match s.sliceOf p with
  | some i => s.inSession i
  | none => s.mpState p == mpArmed || s.mpState p == mpMetering

/-- The points with running sessions, oldest admission first. -/
def State.running (s : State) : List Nat := s.gov.admitted.filter s.runsSession

/-- The fixed load of a group: its switches that are on outside sessions. -/
def State.fixedLoad (s : State) (g : Nat) : Nat :=
  (((upTo 48).filter fun n => s.get Fld.SW_CFG__GROUP n == g && s.swOn n && !s.sessionSw n).map s.loadOf).sum
def State.fixedAll (s : State) : Nat := ((upTo 16).map s.fixedLoad).sum

/-- A budget in power units; none where 0xFFFF_FFFF stands. -/
def budgetOf (w : Nat) : Option Nat := if w = 0xFFFFFFFF then none else some (wattUnits w)
def State.groupBudget (s : State) (g : Nat) : Option Nat := budgetOf (s.get Fld.GOV_BUDGET__VALUE g)
def State.siteBudget (s : State) : Option Nat := budgetOf (s.get Fld.GOV_SITE_BUDGET__BUDGET 0)
def within (b : Option Nat) (n : Nat) : Bool := match b with | none => true | some v => decide (n ≤ v)

def State.floors (s : State) (g : Nat) : Nat := ((s.running.filter fun p => s.groupOf p == g).map s.floorOf).sum
def State.floorsAll (s : State) : Nat := (s.running.map s.floorOf).sum

/-! ### Tokens and registers (R573) -/

/-- A token is out for exactly 1,000 ms from its grant. -/
def State.tokensOut (s : State) (g : Nat) : Nat := (s.gov.out.filter fun x => x.1 == g && decide (s.time < x.2 + 1000000)).length
def State.tokens (s : State) (g : Nat) : Nat := s.get Fld.GOV_RATE__MAX_PER_S g - s.tokensOut g
def State.tokenMirror (s : State) (g : Nat) : State := s.put Fld.GOV_STATUS__TOKENS g (s.tokens g)

/-- The list without the first entry that a test accepts. -/
def dropFirst {α : Type} (f : α → Bool) : List α → List α
  | [] => []
  | a :: r => if f a then r else a :: dropFirst f r

/-- TOKEN_RETURN (R573): the oldest token of a group that has been out for 1,000 ms returns. -/
def execTokenReturn (g : Nat) (s : State) : Res :=
  .next ((s.setGov { s.gov with out := dropFirst (fun x => x.1 == g && decide (x.2 + 1000000 ≤ s.time)) s.gov.out }).tokenMirror g)

/-- A group grants once. -/
def State.takeToken (s : State) (g : Nat) : State :=
  ((s.setGov { s.gov with out := s.gov.out ++ [(g, s.time)] }).tokenMirror g).put Fld.GOV_STATUS__SINCE g 0

/-- GOV_BUDGET_WRITE, GOV_SITE_BUDGET_WRITE (R579): the next boundary takes the new budget. -/
def execGovBudgetWrite (g : Nat) (v : W32) (s : State) : Res := .next (s.setGov { s.gov with budgets := s.gov.budgets ++ [(some g, v.toNat)] })
def execGovSiteBudgetWrite (v : W32) (s : State) : Res := .next (s.setGov { s.gov with budgets := s.gov.budgets ++ [(none, v.toNat)] })

def State.takeBudgets (s : State) : State :=
  let w := s.gov.budgets
  w.foldl (fun s x => match x.1 with
    | some g => s.put Fld.GOV_BUDGET__VALUE g x.2
    | none => s.put Fld.GOV_SITE_BUDGET__BUDGET 0 x.2) (s.setGov { s.gov with budgets := [] })

/-! ### SWITCH_GROUP (R560) -/

def State.setGroup (s : State) (x : GroupOp) : State := s.setGov { s.gov with groups := s.gov.groups.map fun y => if y.id == x.id then x else y }

/-- The switches of a mask, rising. -/
def maskList (m : Nat) : List Nat := (upTo 48).filter (bitAt m)

/-- RESULT of PARTIAL_GROUP (R170): the parts applied, the lowest failed switch and its status. -/
def partialResult (applied : Nat) (failed : List (Nat × Nat)) : Nat :=
  match failed with
  | [] => applied
  | f :: r => let l := r.foldl (fun a b => if b.1 < a.1 then b else a) f
    applied + l.1 * 2 ^ 48 + l.2 % 256 * 2 ^ 56

/-- A group whose parts all have their outcome completes. -/
def State.groupCheck (s : State) (id : Nat) : State :=
  match s.gov.groups.find? (·.id == id) with
  | none => s
  | some x =>
    if x.backing || !(maskList x.mask).all fun n => bitAt x.applied n || x.failed.any (·.1 == n) then s
    else
      let s := s.setGov { s.gov with groups := s.gov.groups.filter (·.id != id) }
      if x.failed.isEmpty then s.fin x.t stDone 0 else s.fin x.t 0x70 (partialResult x.applied x.failed)

/-- A group's waiting parts leave their queues (R560, GROUP_ALL_OR_NONE). -/
def State.leaveQueues (s : State) (id : Nat) : State :=
  s.gov.queue.foldl (fun s e =>
    if !e.parts.contains id then s
    else if e.waits.isEmpty && e.parts == [id] then s.qDrop e.obj
    else s.setGov { s.gov with queue := s.gov.queue.map fun y => if y.obj == e.obj then { y with parts := y.parts.filter (· != id) } else y }) s

/-- A part has its outcome: status 0 for applied. -/
def State.partDone (s : State) (id n status : Nat) : State :=
  match s.gov.groups.find? (·.id == id) with
  | none => s
  | some x =>
    if status = 0 then (s.setGroup { x with applied := putBits x.applied n 1 1 }).groupCheck id
    else
      let x := { x with failed := x.failed ++ [(n, status)] }
      if x.all then (s.setGroup { x with backing := true }).leaveQueues id
      else (s.setGroup x).groupCheck id

/-- Back out, at a boundary, the groups of which a part has failed: applied parts off in descending number. -/
def State.backOutGroups (s : State) : State :=
  (s.gov.groups.filter (·.backing)).foldl (fun s x =>
    let s := (maskList x.applied).reverse.foldl (fun s n => s.setWant n false) s
    (s.setGov { s.gov with groups := s.gov.groups.filter (·.id != x.id) }).fin x.t 0x70 (partialResult 0 x.failed)) s

/-! ### What waits leaves its queue (R574) -/

/-- An on order that waits gets its outcome, for every descriptor and part that joined it; one that won a conflict in its cycle names
the winner when it is applied (R52). -/
def State.onOutcome (s : State) (n status result winner : Nat) : State :=
  match s.gov.queue.find? (·.obj == .on n) with
  | none => s
  | some e =>
    let s := s.qDrop (.on n)
    let s := e.waits.foldl (fun s w => s.complete (if status = stDone && w.2.2 ≠ 0 then { t := w.1, status := stConflict, result := 1, winner := w.2.2 }
      else { t := w.1, status := status, result := result, winner := winner })) s
    e.parts.foldl (fun s id => s.partDone id n status) s

/-- DEFER_MAX_EXPIRY (R574): an entry has waited DEFER_MAX: it leaves its queue at the boundary, after that boundary's grants. -/
def execDeferMaxExpiry (o : QObj) (s : State) : Res :=
  .next (s.setGov { s.gov with queue := s.gov.queue.map fun e => if e.obj == o then { e with overdue := true } else e })

/-- R574: the entries that have reached DEFER_MAX, after the boundary's grants. -/
def State.deferOver (s : State) : State :=
  (s.gov.queue.filter (·.overdue)).foldl (fun s e => match e.obj with
    | .start p => match s.starts.find? (fun x => x.point == p && x.phase == 1) with
      | some x => s.dropStart x stCapacity 0x10 0
      | none => s.qDrop e.obj
    | .on n => s.onOutcome n stCapacity 0x10 0
    | .restart n _ => s.dropRestart n) s

/-! ### Grants (R574, R575) -/

/-- What a pass over the queues carries: the state, groups that grant no more at this boundary, whether the site does not,
groups that have granted at it, and the floors granted by group. -/
structure Pass where
  s : State
  blocked : List Nat := []
  site : Bool := false
  granted : List Nat := []
  extra : List (Nat × Nat) := []

/-- The floor that a grant of an entry adds. -/
def State.entryFloor (s : State) (e : QEntry) : Nat :=
  match e.obj with
  | .start p => s.floorOf p
  | .on n => s.loadOf n
  | .restart n _ => s.loadOf n

/-- R46, R129: orders do not reach the D-die: it is stopped, or the driver link is down. -/
def State.driverOff (s : State) : Bool := !s.dieRuns .ddie || !s.linkUp .driver

/-- R46, R53, R54: a start refused for its Firn die: the die is stopped (but not one that returns from Sleep, R86), it halts
accumulation, or it holds the point out of service. -/
def State.firnRefusal (s : State) (p : Nat) : Option (Nat × Nat × Nat) :=
  let d := (s.pcfg p).die
  match (if (s.firn d).waking then none else s.firnOff d) with
  | some x => some (stDomainOff, x, 0)
  | none => if s.firnHalted d || s.mpState p == mpOos then some (stConflict, 0, d.source) else none

/-- Why a waiting order can no longer be granted (R741, R46): status, RESULT and winner; `inh` gives the RESULT of SAFETY_INHIBIT. -/
def State.entryRefusal (s : State) (inh : Nat → Nat) (degraded : Nat → Bool) (e : QEntry) : Option (Nat × Nat × Nat) :=
  let sw (n : Nat) : Option (Nat × Nat × Nat) :=
    if s.driverOff then some (stDomainOff, 6, 0)
    else if !s.seriesOk n then some (stInhibit, inh n, 0) else if degraded n then some (stDegraded, 0, 0) else none
  match e.obj with
  | .start p => match (match s.swOf p with | some n => sw n | none => none) with
    | some r => some r
    | none => s.firnRefusal p
  | .on n => match sw n with
    | some r => some r
    | none => if s.swFailed n then some (stProtection, 0, 0) else if s.swLocked n then some (stCapacity, 2, 0) else none
  | .restart _ _ => none

/-- Grant an entry. -/
def State.grant (s : State) (e : QEntry) : State :=
  let s := s.takeToken e.group
  match e.obj with
  | .start p => (s.qDrop e.obj).setStart p fun y => { y with phase := 2 }
  | .on n =>
    let was := s.swOn n
    let s := s.setWant n true
    s.onOutcome n stDone (b2n (!was && s.swOn n)) 0
  | .restart n why =>
    let s := s.put Fld.SW_STATUS__UV_WAIT n 0
    let s := if why = 2 then s.put Fld.SW_STATUS__RETRIES n (min 15 (s.get Fld.SW_STATUS__RETRIES n + 1)) else s
    ((s.qDrop e.obj).setWant n true).postSwitch n { code := 0x503, sev := 0, obj := n, data := why }

/-- One entry of a pass. -/
def Pass.entry (inh : Nat → Nat) (degraded : Nat → Bool) (a : Pass) (e : QEntry) : Pass :=
  let s := a.s
  let g := e.group
  if !s.gov.queue.any (·.obj == e.obj) then a
  else match s.entryRefusal inh degraded e with
  | some (st, r, w) => match e.obj with
    | .start p => match s.starts.find? (·.point == p) with
      | some x => { a with s := s.dropStart x st r w }
      | none => { a with s := s.qDrop e.obj }
    | .on n => { a with s := s.onOutcome n st r w }
    | .restart _ _ => a
  | none =>
    let gap := if a.granted.contains g then decide (s.get Fld.GOV_RATE__MIN_GAP g ≤ 1)
      else decide (s.get Fld.GOV_RATE__MIN_GAP g * 10 ≤ s.get Fld.GOV_STATUS__SINCE g)
    let f := s.entryFloor e
    let ex := tabGet 0 a.extra g
    let all := (a.extra.map (·.2)).sum
    if a.site || a.blocked.contains g then a
    else if s.tokens g = 0 || !gap || (e.obj.switch.isSome && !s.vswGood) || s.flag Fld.GOV_STATUS__SHED g
      || !within (s.groupBudget g) (s.fixedLoad g + s.floors g + ex + f) then { a with blocked := g :: a.blocked }
    else if !within s.siteBudget (s.fixedAll + s.floorsAll + all + f) then { a with site := true }
    else
      -- the fixed load of a switch that the grant turns on counts in its group from now on by itself
      let s := s.grant e
      let counts := match e.obj with | .start _ => true | .on n => !s.swOn n | .restart n _ => !s.swOn n
      { a with s := s, granted := g :: a.granted, extra := if counts then tabSet a.extra g (ex + f) else a.extra }

/-- The grants of a boundary, in order of acceptance over all groups. -/
def State.govGrants (s : State) (inh : Nat → Nat) (degraded : Nat → Bool) : State :=
  (s.gov.queue.foldl (Pass.entry inh degraded) { s := s }).s

/-- RESULT of ADMISSION_DEFERRED (R170) for the entry at a place of the queue: starts ahead of it in its group, and the group. -/
def deferResult (ahead : List QEntry) (g : Nat) : Nat :=
  min 65535 (ahead.filter fun e => e.group == g && e.obj.switch.isNone).length + g % 16 * 65536

/-- What still waits after the grants has its deferral reported, once. -/
def State.deferEntry (s : State) (ahead : List QEntry) (e : QEntry) : State :=
  let r := deferResult ahead e.group
  match e.obj with
  | .start p => match s.starts.find? (·.point == p) with
    | some x => s.deferStart x r
    | none => s
  | .on _ =>
    let s := e.waits.foldl (fun s w => if w.2.1 then s else s.complete { t := w.1, status := stDeferred, result := r, more := true }) s
    let s := s.setGov { s.gov with queue := s.gov.queue.map fun y => if y.obj == e.obj then { y with waits := y.waits.map fun w => (w.1, true, w.2.2) } else y }
    e.parts.foldl (fun s id => match s.gov.groups.find? (·.id == id) with
      | some x => if x.deferred then s else (s.setGroup { x with deferred := true }).complete { t := x.t, status := stDeferred, result := r, more := true }
      | none => s) s
  | .restart _ _ => s

def State.deferWaiting (s : State) : State :=
  -- by switch number, so that a group's deferral names its lowest waiting part
  let q := s.gov.queue
  let starts := q.zipIdx.filter fun e => e.1.obj.switch.isNone
  let ons := (upTo 48).flatMap fun n => q.zipIdx.filter fun e => e.1.obj == .on n
  (starts ++ ons).foldl (fun s e => s.deferEntry (q.take e.2) e.1) s

/-! ### Allocation (R576 to R578) -/

/-- A running session as the governor sees it. -/
structure Sess where
  p : Nat
  g : Nat
  f : Nat
  /-- T′ -/
  t : Nat
deriving DecidableEq, Repr

/-- R576, R577: T and T′ of a running session. -/
def State.sess (s : State) (p : Nat) : Sess :=
  let f := s.floorOf p
  let g := s.groupOf p
  match s.sliceOf p with
  | none => { p := p, g := g, f := f, t := f }
  | some i =>
    if s.session i = ssOffered then { p := p, g := g, f := f, t := f }
    else
      let ma := match s.standing i p with | some x => min x (s.ratingOf i) | none => s.ratingOf i
      let t := s.toPower i p ma
      let r := f + (t - f) * min (tabGet 0 s.gov.ramp p * 100) (s.get Fld.GOV_RAMP__RAMP_MS g) / max 1 (s.get Fld.GOV_RAMP__RAMP_MS g)
      { p := p, g := g, f := f, t := min t r }

/-- The sessions, oldest first, whose floors fit together. -/
def keepFit : Option Nat → List Sess → List Sess
  | none, l => l
  | some _, [] => []
  | some v, x :: r => if x.f ≤ v then x :: keepFit (some (v - x.f)) r else []

/-- What sessions take at a level. -/
def takeAt (l : List Sess) (cap : Sess → Nat → Nat) (w : Nat) : Nat := (l.map fun x => max x.f (cap x w)).sum

/-- The largest level below 2^k above `w` at which a demand stays within a supply, found bit by bit. -/
def levelFrom (d : Nat → Nat) (v : Nat) : Nat → Nat → Nat
  | 0, w => w
  | k + 1, w => if d (w + 2 ^ k) ≤ v then levelFrom d v k (w + 2 ^ k) else levelFrom d v k w

/-- R576 steps 3 and 4: the level; none where the supply does not bind. -/
def levelOf (l : List Sess) (cap : Sess → Nat → Nat) (v : Option Nat) : Option Nat :=
  match v with
  | none => none
  | some v => if takeAt l cap (2 ^ 64) ≤ v then none else some (levelFrom (takeAt l cap) v 64 0)

def capAt (x : Nat) (w : Option Nat) : Nat := match w with | none => x | some w => min x w

/-- R578: the sessions that are shed now: by their group's budget, then by the site's. -/
def State.shedNow (s : State) (all : List Sess) : List (Sess × Bool) :=
  let kept := (upTo 16).flatMap fun g => keepFit ((s.groupBudget g).map (· - s.fixedLoad g)) (all.filter (·.g == g))
  let byGroup := all.filter fun x => !kept.contains x
  let order := all.filter fun x => kept.contains x
  let fit := keepFit (s.siteBudget.map (· - s.fixedAll)) order
  byGroup.map (·, false) ++ (order.filter fun x => !fit.contains x).map (·, true)

/-- R576, R578: shed and allocate; the registers that show it. -/
def State.allocate (s : State) : State :=
  let all := s.running.map s.sess
  let shed := s.shedNow all
  let old := s.gov.shed
  let s := shed.foldl (fun s x => if old.contains x.1.p then s
    else s.postBoth { code := 0x120, sev := 1, obj := x.1.p, data := x.1.g + 256 * b2n x.2 }) s
  let out := shed.map fun x => x.1.p
  -- a session whose allocation returns ramps again
  let ramp := (old.filter fun p => !out.contains p).foldl tabErase s.gov.ramp
  let s := s.setGov { s.gov with shed := out, ramp := ramp }
  let live := (s.running.map s.sess).filter fun x => !out.contains x.p
  let wg (g : Nat) : Option Nat := levelOf (live.filter (·.g == g)) (fun x w => min x.t w) ((s.groupBudget g).map (· - s.fixedLoad g))
  let lv := (upTo 16).map fun g => (g, wg g)
  let capG (x : Sess) : Nat := capAt x.t (tabGet none lv x.g)
  let ws := levelOf live (fun x w => min (capG x) w) (s.siteBudget.map (· - s.fixedAll))
  let a := live.map fun x => (x.p, max x.f (capAt (capG x) ws))
  let s := s.setGov { s.gov with alloc := a ++ out.map (·, 0) }
  let watts (n : Nat) : Nat := min (n / 65536000) 0xFFFFFFFF
  let s := (upTo 16).foldl (fun s g =>
    let mine := all.filter (·.g == g)
    let sumA := (mine.map fun x => tabGet 0 a x.p).sum + s.fixedLoad g
    let sumF := (mine.map (·.f)).sum + s.fixedLoad g
    let s := (s.put Fld.GOV_ALLOC__VALUE g (watts sumA)).put Fld.GOV_FLOOR__VALUE g (watts sumF)
    s.putB Fld.GOV_STATUS__SHED g (mine.any fun x => out.contains x.p)) s
  let site := ((upTo 16).map fun g => s.get Fld.GOV_ALLOC__VALUE g).sum
  (s.put Fld.GOV_SITE_ALLOC__ALLOC 0 (min site 0xFFFFFFFF)).put Fld.GOV_SITE_LEVEL__LEVEL 0 (match ws with | none => 0xFFFFFFFF | some w => watts w)

/-- RAMP_STEP (R577): 100 ms of a ramp have passed. -/
def execRampStep (p : Nat) (s : State) : Res :=
  .next (match s.sliceOf p with
    | some i => if s.session i = ssEnergised && !s.gov.shed.contains p && tabGet 0 s.gov.ramp p * 100 < s.get Fld.GOV_RAMP__RAMP_MS (s.groupOf p) then
        s.setGov { s.gov with ramp := tabSet s.gov.ramp p (tabGet 0 s.gov.ramp p + 1) } else s
    | none => s)

/-- The milliseconds since each group's latest grant, and its tokens. -/
def State.govTick (s : State) : State :=
  (upTo 16).foldl (fun s g => (s.bump Fld.GOV_STATUS__SINCE g 1).tokenMirror g) s

end Sys2Proof.Machine
end

