-- ==== Sys2Proof/Machine/Serac.lean ====
section
/-!
DEFINITION. Machine/Serac.lean: the safety island (R584 to R620): diagnostics, safety inputs and functions, series enables,
degraded mode, the locked configuration and its change log.
-/
namespace Sys2Proof.Machine

/-! ### The locked configuration (R611) -/

def serByte (cfg : List Byte) (o : Nat) : Nat := field cfg o 1
def serMapped (cfg : List Byte) (k : Nat) : Bool := serByte cfg (40 + k) < 48
/-- The switches a configuration maps. -/
def serSwitches (cfg : List Byte) : List Nat := ((upTo 16).map fun k => serByte cfg (40 + k)).filter (· < 48)
/-- The TP source of an input. -/
def serSource (cfg : List Byte) (i : Nat) : Option Nat :=
  let b := serByte cfg (64 + 2 * i)
  if 128 ≤ b then none else some (b % 16)
/-- F of an input, in 0.25 ms. -/
def serF (cfg : List Byte) (i : Nat) : Nat := serByte cfg (65 + 2 * i)

/-- A function of the locked configuration. -/
structure FnCfg where
  type : Nat
  inp : List Nat
  reset : Nat
  mode : Nat
  pol : Nat
  mask : Nat
  disc : Nat
  tpw : Nat
  startReset : Nat
deriving DecidableEq, Repr

def fnCfg (cfg : List Byte) (f : Nat) : FnCfg :=
  let o := 128 + 16 * f
  { type := serByte cfg o, inp := (upTo 4).map fun j => serByte cfg (o + 1 + j), reset := serByte cfg (o + 5),
    mode := serByte cfg (o + 6), pol := serByte cfg (o + 7), mask := field cfg (o + 8) 2, disc := field cfg (o + 10) 2,
    tpw := serByte cfg (o + 12), startReset := serByte cfg (o + 13) }

def FnCfg.input (c : FnCfg) (j : Nat) : Nat := c.inp.getD j 255
def FnCfg.used (c : FnCfg) : Bool := c.type != 0
/-- How many inputs a type has (R595). -/
def FnCfg.arity (c : FnCfg) : Nat := if c.type = 4 then 4 else 2

def usedFns (cfg : List Byte) : List Nat := (upTo 16).filter fun f => (fnCfg cfg f).used
/-- The inputs that the functions use, reset inputs apart. -/
def fnInputs (cfg : List Byte) : List Nat := (usedFns cfg).flatMap fun f => ((fnCfg cfg f).inp.filter (· < 32))
/-- The inputs that some function uses. -/
def usedInputs (cfg : List Byte) : List Nat := fnInputs cfg ++ (usedFns cfg).map fun f => (fnCfg cfg f).reset

/-- The offending fields of a used function, as offsets into it (R611). -/
def fnBad (cfg : List Byte) (f : Nat) : List Nat :=
  let c := fnCfg cfg f
  let o := 128 + 16 * f
  let lt := c.type = 5
  let two := c.type = 1 || c.type = 2
  -- inputs of the functions before this one
  let before := ((usedFns cfg).filter (· < f)).flatMap fun g => (fnCfg cfg g).inp.filter (· < 32)
  let inBad (j : Nat) : Bool :=
    let i := c.input j
    if c.arity ≤ j then i != 255
    else decide (31 < i) || before.contains i || (two && (serSource cfg i).isNone)
      || (two && j == 1 && serSource cfg i == serSource cfg (c.input 0))
      || (c.type == 1 && decide (17 < serF cfg i))
      || (decide lt && ((serSource cfg i).isSome || decide (serF cfg i * 25 ≤ c.tpw * 10 + 50)))
  (if c.type ≤ 5 then [] else [0])
  ++ ((upTo 4).filter inBad).map (· + 1)
  ++ (if c.reset = 255 || (c.reset < 32 && (serSource cfg c.reset).isNone && !(fnInputs cfg).contains c.reset) then [] else [5])
  ++ (if 1 < c.mode || (c.type = 1 && c.mode = 0) then [6] else [])
  ++ (if (if c.type = 2 then c.pol ≤ 1 else c.pol = 0) then [] else [7])
  ++ (if c.mask = 0 || ((upTo 16).any fun k => bitAt c.mask k && !serMapped cfg k) then [8] else [])
  ++ (if c.type ≠ 3 && (c.disc < 5 || 1000 < c.disc) then [10] else [])
  ++ (if (if lt then 1 ≤ c.tpw ∧ c.tpw ≤ 10 else c.tpw = 0) then [] else [12])
  ++ (if 1 < c.startReset then [13] else [])
  ++ (if field cfg (o + 14) 2 = 0 then [] else [14])

/-- The byte offset of the first offending field of a configuration (R611; log entry 54). -/
def configBad (cfg : List Byte) : Option Nat :=
  let deg := field cfg 2 2
  ((if field cfg 0 2 = 1 then [] else [0])
  ++ (if 1 ≤ deg && deg ≤ 480 then [] else [2])
  ++ (if field cfg 4 4 = 0 then [4] else [])
  ++ (if field cfg 8 32 = 0 then [8] else [])
  ++ (((upTo 16).filter fun k =>
      let n := serByte cfg (40 + k)
      n != 255 && (decide (47 < n) || (upTo k).any fun j => serByte cfg (40 + j) == n)).map (40 + ·))
  ++ (if field cfg 56 8 = 0 then [] else [56])
  ++ ((upTo 32).flatMap fun i => (if bitsAt (serByte cfg (64 + 2 * i)) 4 3 = 0 then [] else [64 + 2 * i])
      ++ (if 4 ≤ serF cfg i && serF cfg i ≤ 80 then [] else [65 + 2 * i]))
  ++ ((usedFns cfg).flatMap fun f => (fnBad cfg f).map (· + (128 + 16 * f)))).head?

/-! ### Events, the change log, the mirrors (R587, R616, R617, R619) -/

/-- Post a SAFETY event: held while the driver link is down (R587), and a wake source but for three codes (R620). -/
def State.seracPost (s : State) (code sev obj data : Nat) : State :=
  let s := if code = 0x602 || code = 0x605 || code = 0x608 then s else s.wakeSource 11
  let e : Event := { code := code, sev := sev, obj := obj, data := data }
  if s.linkUp .driver && s.dieRuns .cdie then s.postBoth e
  else
    let x := (sev, e.entry s.devTime 1)
    let h := s.serac.held
    if h.length < 64 then s.setSerac { s.serac with held := h ++ [x] }
    else s.setSerac { s.serac with held := h.map fun y => if mergesWith x y then mergeEv y x else y }

/-- The held events reach the ports. -/
def State.seracRelease (s : State) : State :=
  if s.serac.held.isEmpty || !s.linkUp .driver || !s.dieRuns .cdie then s
  else
    let h := s.serac.held
    h.foldl (fun s x => (s.entryTo .h0 x).entryTo .h1 x) (s.setSerac { s.serac with held := [] })

/-- First 32 bits of the SHA-256 of a configuration. -/
def configHash (cfg : List Byte) : Nat := Config.digest 1 (cfg.map (·.toNat)) % 2 ^ 32

/-- R617: the kinds of entry that Serac makes on its own. -/
def logOwn (kind : Nat) : Bool := kind == 2 || kind == 3 || kind == 5 || (8 ≤ kind && kind ≤ 12)

/-- Write a change-log entry (R616, R617). `port`: 0, 1, or 15 for Serac itself. -/
def State.seracLog (s : State) (kind port obj : Nat) (before after : List Byte) (data : Nat) : State :=
  let x := s.serac
  if (if logOwn kind then 1024 else 1008) ≤ x.log.length then s.setSerac { x with lost := min 65535 (x.lost + 1) }
  else
    let b := leBytes 4 (x.lseq + 1) ++ leBytes 1 kind ++ leBytes 1 port ++ leBytes 2 obj ++ leBytes 8 s.devTime
      ++ leBytes 4 (configHash before) ++ leBytes 4 (configHash after) ++ leBytes 4 data
    let log := x.log ++ [b ++ leBytes 4 (crc32 b).toNat]
    let full := 1008 ≤ log.length && !x.fullPosted
    let s := s.setSerac { x with log := log, lseq := x.lseq + 1, fullPosted := x.fullPosted || full }
    if full then s.seracPost 0x60A 2 0 log.length else s

/-- An entry that changes no configuration. -/
def State.seracNote (s : State) (kind port obj data : Nat) : State := s.seracLog kind port obj s.serac.cfg s.serac.cfg data

def SeracSt.input (x : SeracSt) (i : Nat) : SInput := tabGet {} x.inputs i
def SeracSt.fn (x : SeracSt) (f : Nat) : SFunc := tabGet {} x.fns f
def State.setInp (s : State) (i : Nat) (v : SInput) : State := s.setSerac { s.serac with inputs := tabSet s.serac.inputs i v }
def State.setFn (s : State) (f : Nat) (v : SFunc) : State := s.setSerac { s.serac with fns := tabSet s.serac.fns f v }

/-- A mask with the bits for which `p` holds. -/
def maskOf (n : Nat) (p : Nat → Bool) : Nat := ((upTo n).filter p).foldl (fun m i => m + 2 ^ i) 0

/-- R619: the mirrors as a boundary refreshes them; while Serac is OFF or the driver link is down only STATE changes, to 0. -/
def State.seracMirror (s : State) : State :=
  let x := s.serac
  if x.st = 0 || !s.linkUp .driver then s.put Fld.SERAC_STATUS__STATE 0 0
  else
    let s := (((s.put Fld.SERAC_STATUS__STATE 0 x.st).putB Fld.SERAC_STATUS__PENDING 0 x.pend.isSome).putB Fld.SERAC_STATUS__LOCKOUT 0 x.lockout).putB Fld.SERAC_STATUS__SESSION 0 x.session.isSome
    let s := (s.put Fld.SERAC_STATUS__SESSION_PORT 0 ((x.session.map Port.num).getD 0)).putB Fld.SERAC_STATUS__PASSWORD_SET 0 x.pw.isSome
    let s := ((s.put Fld.SERAC_DIAG__FAULT_CODE 0 x.faultCode).put Fld.SERAC_DIAG__DEGRADED_CODE 0 x.degCode).put Fld.SERAC_DIAG__FAILING 0 x.failing
    let s := (s.put Fld.SERAC_DEGRADED__DEGRADED_MIN 0 (field x.cfg 2 2)).put Fld.SERAC_DEGRADED__REMAINING 0 (if x.st = 3 then x.rem / 2000 else 0)
    let s := (s.put Fld.SERAC_ENABLE__MAPPED 0 (maskOf 16 (serMapped x.cfg))).put Fld.SERAC_ENABLE__EN 0 x.en
    let s := (s.put Fld.SERAC_FUNC_STATE__FAULT 0 (maskOf 16 fun f => (x.fn f).st == 4)).put Fld.SERAC_FUNC_STATE__DEMAND 0 (maskOf 16 fun f => decide (2 ≤ (x.fn f).st))
    let lv (n : Nat) : Nat := (upTo 16).foldl (fun m i => m + (x.input (n + i)).cand.code * 4 ^ i) 0
    let s := ((s.put Fld.SERAC_INPUT_LO__STATE 0 (lv 0)).put Fld.SERAC_INPUT_HI__STATE 0 (lv 16)).put Fld.SERAC_INFAULT__FAULT 0 (maskOf 32 fun i => (x.input i).fault != 0)
    let s := (s.put Fld.SERAC_CONFIG_ID__ID 0 (field x.cfg 4 4)).put Fld.SERAC_IMAGE__HASH 0 (x.img % 2 ^ 32)
    let s := ((s.put Fld.SERAC_LOG__HELD 0 x.log.length).put Fld.SERAC_LOG__LOST 0 x.lost).put Fld.SERAC_LOG_SEQ__SEQ 0 x.lseq
    let s := (upTo 4).foldl (fun s m => s.setReg .SERAC_ENMAP m (BitVec.ofNat 32 (field x.cfg (40 + 4 * m) 4))) s
    let s := s.put Fld.SERAC_UNTESTED__EN 0 x.untested
    (upTo 16).foldl (fun s f =>
      let c := fnCfg x.cfg f
      let n := tabGet (0, 0) x.counts f
      let s := ((s.put Fld.SERAC_FUNC__TYPE f c.type).put Fld.SERAC_FUNC__STATE f (x.fn f).st).put Fld.SERAC_FUNC__IN_A f (c.input 0)
      ((s.put Fld.SERAC_FUNC__ENABLE_MASK f c.mask).put Fld.SERAC_FUNC_COUNT__DEMANDS f n.1).put Fld.SERAC_FUNC_COUNT__FAULTS f n.2) s

/-! ### Enables (R600, R601) -/

/-- The functions that hold an enable off. -/
def SeracSt.holding (x : SeracSt) (k : Nat) : List Nat :=
  (usedFns x.cfg).filter fun f => bitAt (fnCfg x.cfg f).mask k && (x.fn f).st != 1

/-- Write one enable; a fall switches its output off and withdraws its restart, a return switches nothing on (R557). -/
def State.setEnable (s : State) (k : Nat) (on : Bool) : State :=
  if bitAt s.serac.en k = on then s
  else
    let s := s.setSerac { s.serac with en := putBits s.serac.en k 1 (b2n on) }
    match s.enSwitch k with
    | none => s
    | some n =>
      let s := s.putB Fld.SW_STATUS__SERAC_EN n on
      if on then s
      else
        let x := s.serac
        let why := match x.holding k with | f :: _ => if x.st = 2 || x.st = 3 then min 0x1F (x.fn f).cause else 0x1F | [] => 0x1F
        let s := s.setSerac { x with fell := if x.fell.contains n then x.fell else x.fell ++ [n], fellCause := tabSet x.fellCause n why }
        ((s.setSw n { s.sw n with drive := false }).dropRestart n).swRefresh n

def State.writeEnables (s : State) : State :=
  (upTo 16).foldl (fun s k =>
    let x := s.serac
    s.setEnable k ((x.st == 2 || x.st == 3) && serMapped x.cfg k && (x.holding k).isEmpty)) s

/-! ### Starting and stopping (R584, R589, R606, R610) -/

def isSeracChan : Chan → Bool
  | .hostSerac _ | .seracHost _ | .fwSerac | .seracFw => true
  | _ => false

/-- Serac goes OFF: a restart, standby of the D-die or its reset. The session ends; every enable is off. -/
def State.seracOff (s : State) : State :=
  (s.setSerac { s.serac with st := 0, session := none, staged := none, inputs := [], fns := [], passes := [] }).writeEnables

/-- The channels of Serac are reset (R204, R589). -/
def State.seracChannels (s : State) : State := (s.linkLost isSeracChan).resetChans isSeracChan

/-- A D-die reset (R108, R586). -/
def State.seracReset (s : State) : State := s.seracOff.seracChannels

/-- Functions and inputs as a start of Serac leaves them (R606). -/
def State.seracInit (s : State) : State :=
  let x := s.serac
  s.setSerac { x with tick := 0, inputs := [], passes := [],
                      fns := (usedFns x.cfg).map fun f =>
                        let c := fnCfg x.cfg f
                        (f, { st := 2, owes := c.type == 1 || c.startReset == 1 }) }

/-- FAULTs entered in the preceding 24 h (R610). -/
def State.faults24 (s : State) : List Nat := s.serac.faults.filter fun t => s.time < t + 86400000000

/-- R589: a failure on the direct path. -/
def State.directFault (s : State) (code : Nat) : State :=
  if s.serac.st = 0 || s.serac.st = 5 then s
  else
    let s := (s.setSerac { s.serac with st := 5, faultCode := code }).writeEnables
    let fs := s.faults24 ++ [s.time]
    let s := s.setSerac { s.serac with faults := fs, stuck := s.serac.stuck || decide (3 ≤ fs.length) }
    let s := (s.seracNote 0x0C 15 code fs.length).seracPost 0x607 3 code fs.length
    let s := s.domainReset 12
    (s.setSerac { s.serac with session := none, staged := none }).seracChannels.seracInit

/-- SERAC_DIRECT_FAULT (R588, R589). -/
def execSeracDirectFault (code : Nat) (s : State) : Res := .next (if 1 ≤ code && code ≤ 6 then s.directFault code else s)

/-- SERAC_CYCLE_MONITOR_EXPIRY (R588): no cycle complete within 600 µs. -/
def execSeracCycleMonitorExpiry (s : State) : Res := .next (s.directFault 2)

/-- IMAGE_HASH_CHECK (R588): each 24 h. -/
def execImageHashCheck (ok : Bool) (s : State) : Res := .next (if ok then s else s.directFault 6)

/-- R603: compare the mapped set with the SAFETY set of the configuration image in force. -/
def State.seracMismatch (s : State) : State :=
  let m := serSwitches s.serac.cfg
  s.putB Fld.SERAC_STATUS__SET_MISMATCH 0 ((upTo 48).any fun n => m.contains n != s.flag Fld.SW_CFG__SAFETY n)

/-- SERAC_START (R606, R615): the system controller delivers an image with this SHA-256 (a little-endian number); `verified`:
its signature verifies. -/
def execSeracStart (hash : Nat) (verified : Bool) (s : State) : Res :=
  if s.serac.st ≠ 0 || !s.dieRuns .ddie || !s.variant.hasDdie then .next s
  else
    let s := match s.serac.pend with
      | none => s
      | some c =>
        let old := s.serac.cfg
        (((s.setSerac { s.serac with cfg := c, pend := none })).seracLog 0x05 15 0 old c 0).seracMismatch
    let want := field s.serac.cfg 8 32
    .next (if (if want = 0 then verified else want == hash) then (s.setSerac { s.serac with st := 1, img := hash }).seracInit else s)

/-! ### Off-path failures and degraded mode (R590, R607 to R609) -/

/-- The diagnostics of a mask, by code. -/
def diagMask (codes : List Nat) : Nat := maskOf 5 fun n => codes.contains (0x11 + n)

/-- Whole minutes of a time in cycles. -/
def cycMinutes (n : Nat) : Nat := n / 120000

/-- DEGRADED begins with a code and a time in cycles. -/
def State.enterDegraded (s : State) (code rem : Nat) : State :=
  let s := s.setSerac { s.serac with st := 3, rem := rem, degCode := code, store := some (rem / 2000, s.serac.failing) }
  (s.seracNote 0x09 15 code (cycMinutes rem)).seracPost 0x604 2 code (cycMinutes rem)

def State.safeHold (s : State) : State :=
  let s := (s.setSerac { s.serac with st := 4, rem := 0, store := some (0, s.serac.failing) }).writeEnables
  (s.seracNote 0x0B 15 0 0).seracPost 0x606 3 0 0

/-- A diagnostic off the direct path fails. -/
def State.offPath (s : State) (code : Nat) : State :=
  let x := s.serac
  if x.st = 0 || code < 0x11 || 0x15 < code then s
  else
    let s := s.setSerac { x with failing := putBits x.failing (code - 0x11) 1 1, passes := tabErase x.passes code }
    if s.serac.st = 2 then s.enterDegraded code (field x.cfg 2 2 * 120000)
    else if s.serac.st = 3 then s.setSerac { s.serac with store := some (s.serac.rem / 2000, s.serac.failing) }
    else s

/-- A diagnostic's run passes; after three in a row it fails no more (R590). Diagnostic 0x13 clears by tested turn-offs. -/
def State.diagPass (s : State) (code : Nat) : State :=
  let x := s.serac
  if code < 0x11 || 0x15 < code || code = 0x13 || !bitAt x.failing (code - 0x11) then s
  else
    let n := tabGet 0 x.passes code + 1
    if n < 3 then s.setSerac { x with passes := tabSet x.passes code n }
    else s.setSerac { x with passes := tabErase x.passes code, failing := putBits x.failing (code - 0x11) 1 0 }

/-- R607: every failed diagnostic has cleared. In SAFE_HOLD, which only a restart leaves, the store then names none. -/
def State.degradedCheck (s : State) : State :=
  let x := s.serac
  if x.failing ≠ 0 then s
  else if x.st = 3 then
    let s := s.setSerac { x with st := 2, rem := 0, degCode := 0, store := none }
    (s.seracNote 0x0A 15 0 0).seracPost 0x605 0 0 0
  else if x.st = 4 then s.setSerac { x with store := none }
  else s

/-- SERAC_OFF_PATH_FAULT (R588, R607). -/
def execSeracOffPathFault (code : Nat) (s : State) : Res := .next (s.offPath code)

/-- DEGRADED_TIME_STORE (R607): each 10 s. -/
def execDegradedTimeStore (s : State) : Res :=
  .next (if s.serac.st = 3 then s.setSerac { s.serac with store := some (s.serac.rem / 2000, s.serac.failing) } else s)

/-- SERAC_DEGRADED_REMINDER (R608): each 10 min. -/
def execSeracDegradedReminder (s : State) : Res :=
  .next (if s.serac.st = 3 then s.seracPost 0x604 2 s.serac.degCode (cycMinutes s.serac.rem) else s)

/-- SERAC_DEGRADED_EXPIRY (R609). -/
def execSeracDegradedExpiry (s : State) : Res := .next (if s.serac.st = 3 then s.safeHold else s)

/-- ENABLE_UNTESTED_TIMEOUT (R602): the switch of an enable has stayed on for 24 h. -/
def execEnableUntestedTimeout (k : Nat) (s : State) : Res :=
  .next (match s.enSwitch k with
    | some n => if s.serac.st ≠ 0 && s.swOn n then (s.setSerac { s.serac with untested := putBits s.serac.untested k 1 1 }).offPath 0x13 else s
    | none => s)

/-- SERAC_START_TESTS_DONE (R606): the start-up tests end with a failed code of the direct path (0: none) and the failed codes
off the path. The on-and-off test of the enables clears diagnostic 0x13. -/
def execSeracStartTestsDone (direct : Nat) (off : List Nat) (s : State) : Res :=
  if s.serac.st ≠ 1 then .next s
  else if direct ≠ 0 then .next (s.directFault direct)
  else
    let old := match s.serac.store with | some (_, m) => putBits m 2 1 0 | none => 0
    let failing := old ||| diagMask off
    let s := s.setSerac { s.serac with failing := failing, untested := 0 }
    let code := match (upTo 5).find? fun n => bitAt failing n with | some n => 0x11 + n | none => 0x13
    .next (match s.serac.store with
      | some (0, _) => if failing = 0 then (s.setSerac { s.serac with st := 2, store := none }).domainReturned 12 else s.safeHold
      | some (sec, _) => (s.enterDegraded code (sec * 2000)).domainReturned 12
      | none =>
        if failing = 0 then (s.setSerac { s.serac with st := 2 }).domainReturned 12
        else (s.enterDegraded code (field s.serac.cfg 2 2 * 120000)).domainReturned 12)

/-! ### Safety inputs (R591 to R593, R598) -/

/-- One 50 µs sample. -/
def SInput.sample (x : SInput) (f : Nat) (v : Level) : SInput :=
  if v = x.filt then { x with cand := v, run := 0 }
  else
    let n := if v = x.cand then x.run + 1 else 1
    if f * 5 ≤ n then { x with filt := v, cand := v, run := 0 } else { x with cand := v, run := n }

/-- The ten samples of a cycle; during an input's own source pulse they count as the value before it. The answer tells whether
a valid reset was given (R598). -/
def SInput.cycle (x : SInput) (f tick : Nat) (blank : Bool) (l : List Level) : SInput × Bool :=
  let y := (l.take 10).foldl (fun y v => y.sample f (if blank then x.cand else v)) x
  if y.filt = x.filt then (y, false)
  else match x.filt, y.filt with
    | .low, .high => ({ y with press := some tick }, false)
    | .high, .low => ({ y with press := none }, match x.press with | some t => 200 ≤ tick - t && tick - t ≤ 10000 | none => false)
    | _, _ => ({ y with press := none }, false)

/-- An input fault begins (R593). -/
def State.inputFault (s : State) (i code : Nat) : State :=
  let x := s.serac.input i
  if x.fault ≠ 0 then s else (s.setInp i { x with fault := code }).seracPost 0x603 2 i code

/-- What a test pulse shows of one input (R593): `high`: it stays high throughout; `low`: it, high before, goes low. -/
def State.pulseTest (s : State) (k i : Nat) (high low : Bool) : State :=
  let x := s.serac.input i
  match serSource s.serac.cfg i with
  | none => s
  | some j =>
    if j = k then
      let st := if high then x.stuck + 1 else 0
      let bad := x.bad || high
      let p := if bad then 0 else x.passes + 1
      let y := { x with stuck := st, bad := false, passes := p }
      if 2 ≤ st then (s.setInp i y).inputFault i 1
      else s.setInp i { y with fault := if 2 ≤ p && (x.fault = 1 || x.fault = 2) then 0 else x.fault }
    else if low && x.cand = .high then
      let n := tabGet 0 x.cross k + 1
      let s := s.setInp i { x with cross := tabSet x.cross k n, bad := true }
      if 2 ≤ n then s.inputFault i 2 else s
    else s.setInp i { x with cross := tabErase x.cross k }

/-- TEST_PULSE (R592, R593): output k's pulse in its place of the 8 ms period, if an input has it as source; `low` and `high`
are masks of the inputs. -/
def execTestPulse (k low high : Nat) (s : State) : Res :=
  let x := s.serac
  if x.st = 0 || x.tick % 16 ≠ k || !((upTo 32).any fun i => serSource x.cfg i == some k) then .next s
  else .next ((upTo 32).foldl (fun s i => s.pulseTest k i (bitAt high i) (bitAt low i)) (s.emit (.testPulse k)))

/-- THRESHOLD_SELF_TEST (R588, R593): once a second; `bad` is the mask of inputs that fail. -/
def execThresholdSelfTest (bad : Nat) (s : State) : Res :=
  if s.serac.st = 0 then .next s
  else
    let s := (upTo 32).foldl (fun s i =>
      let x := s.serac.input i
      if bitAt bad i then (s.setInp i { x with thr := 0 }).inputFault i 3
      else s.setInp i { x with thr := min 2 (x.thr + 1), fault := if x.fault = 3 && 1 ≤ x.thr then 0 else x.fault }) s
    let used := usedInputs s.serac.cfg
    if (upTo 32).any fun i => bitAt bad i && !used.contains i then .next (s.offPath 0x15)
    else .next (s.diagPass 0x15).degradedCheck

/-! ### Safety functions (R595 to R599) -/

/-- Healthy (R597): channel 0 or 1. -/
def FnCfg.healthy (c : FnCfg) (j : Nat) (v : Level) : Bool :=
  if c.type = 2 && c.pol = 1 && j = 1 then v == .low else v == .high

/-- A two-channel function's cycle (R597). -/
def twoChannel (c : FnCfg) (ha hb fault reset : Bool) (tick : Nat) (x : SFunc) : SFunc :=
  let x := if (!ha || !hb) && x.st ≠ 4 then { x with st := 2, cause := if x.st = 2 then x.cause else if ha then c.input 1 else c.input 0 } else x
  let x := if ha ≠ hb then
      let t := x.disc.getD tick
      { x with disc := some t, st := if 2 * c.disc ≤ tick - t || fault then 4 else x.st }
    else { x with disc := none }
  -- R593: an input fault makes the state FAULT, whatever the channels show
  let x := if fault then { x with st := 4 } else x
  let x := if x.st = 4 && !ha && !hb && !fault then { x with st := 2 } else x
  let x := if x.st = 2 && ha && hb then { x with st := if c.mode = 1 || x.owes then 3 else 1 } else x
  if x.st = 3 && reset then { x with st := 1, owes := false } else x

/-- The times a two-hand function keeps (R599): when each hand was actuated, and since when each pair disagrees. -/
def handTimes (h1 h2 d1 d2 : Bool) (tick : Nat) (x : SFunc) : SFunc :=
  let since (h : Bool) (t : Option Nat) : Option Nat := if h then some (t.getD tick) else none
  { x with t1 := since h1 x.t1, t2 := since h2 x.t2, disc := since d1 x.disc, disc2 := since d2 x.disc2 }

/-- A pair has disagreed for longer than DISC_MS. -/
def handLate (c : FnCfg) (tick : Nat) (t : Option Nat) : Bool := t.any fun t => decide (2 * c.disc < tick - t)

/-- Both hands were actuated within 500 ms. -/
def handsNear (x : SFunc) : Bool := match x.t1, x.t2 with | some a, some b => decide (max a b - min a b ≤ 1000) | _, _ => false

/-- The states of a two-hand function without a fault (R599); one that has ended leaves as a new actuation does: both hands
released first (log entry 55). -/
def handRun (c : FnCfg) (h1 h2 reset : Bool) (x : SFunc) : SFunc :=
  let both := h1 && h2
  if x.st = 4 then (if h1 || h2 then x else { x with st := 2, armed := true })
  else if x.st = 3 then (if reset then { x with st := 2, owes := false } else x)
  else
    let x := if x.st = 1 && !both then { x with st := 5, armed := false, cause := if h1 then c.input 1 else c.input 0 } else x
    if x.st = 5 || x.st = 2 then
      let x := if !h1 && !h2 then { x with st := if x.owes then 3 else 2, armed := true } else x
      if both && x.armed && handsNear x && x.st ≠ 3 then { x with st := 1 }
      else if both then { x with st := 5, armed := false }
      else x
    else x

/-- A two-hand function's cycle (R599): `h1`, `h2` actuated, `d1`, `d2` pairs that disagree. -/
def twoHand (c : FnCfg) (h1 h2 d1 d2 fault reset : Bool) (tick : Nat) (x : SFunc) : SFunc :=
  let x := handTimes h1 h2 d1 d2 tick x
  if fault || handLate c tick x.disc || handLate c tick x.disc2 then { x with st := 4, armed := false }
  else handRun c h1 h2 reset x

/-- Evaluate a function and report what it does. `resets`: the inputs that gave a valid reset. -/
def State.evalFn (s : State) (resets : List Nat) (f : Nat) : State :=
  let sx := s.serac
  let c := fnCfg sx.cfg f
  let x := sx.fn f
  let v (j : Nat) : Level := (sx.input (c.input j)).filt
  let bad := (c.inp.filter (· < 32)).find? fun i => (sx.input i).fault != 0
  let reset := resets.contains c.reset
  let act (j : Nat) : Bool := v j == .high && (c.type == 3 || v (j + 2) == .low)
  let dis (j : Nat) : Bool := c.type == 4 && ((v j == .high) == (v (j + 2) == .high))
  let y := if c.type = 3 || c.type = 4 then twoHand c (act 0) (act 1) (dis 0) (dis 1) bad.isSome reset sx.tick x
    else twoChannel c (c.healthy 0 (v 0)) (c.healthy 1 (v 1)) bad.isSome reset sx.tick x
  let y := match bad with | some i => if x.st = 1 then { y with cause := i } else y | none => y
  let s := s.setFn f y
  if y.st = x.st then s
  else
    let n := tabGet (0, 0) s.serac.counts f
    let n := (if y.st = 2 then satTo 16 (n.1 + 1) else n.1, if y.st = 4 then satTo 16 (n.2 + 1) else n.2)
    let s := s.setSerac { s.serac with counts := tabSet s.serac.counts f n }
    if x.st = 1 then s.seracPost 0x601 2 f y.cause
    else if y.st = 1 then s.seracPost 0x602 0 f 0
    else s

/-- The ten samples that a cycle takes of an input: those given, or its comparator's standing state. -/
def State.samplesOf (s : State) (samples : List (Nat × List Level)) (i : Nat) : List Level :=
  match tabFind samples i with
  | some l => l
  | none => List.replicate 10 (tabGet .undet s.boot.inputs (.safety i))

/-- SERAC_CYCLE (R584, R591 to R601): 500 µs. `samples`: the ten samples of the inputs that change; `passed`: the off-path
diagnostics whose run has passed since the cycle before. -/
def execSeracCycle (samples : List (Nat × List Level)) (passed : List Nat) (s : State) : Res :=
  if s.serac.st = 0 then .next s
  else
    let tick := s.serac.tick
    let got := (upTo 32).map fun i =>
      (i, (s.serac.input i).cycle (serF s.serac.cfg i) tick (serSource s.serac.cfg i == some (tick % 16)) (s.samplesOf samples i))
    let s := s.setBoot { s.boot with inputs := samples.foldl (fun t x => match x.2.getLast? with | some v => tabSet t (.safety x.1) v | none => t) s.boot.inputs }
    let s := s.setSerac { s.serac with inputs := got.map fun x => (x.1, x.2.1) }
    let resets := (got.filter fun x => x.2.2).map (·.1)
    let s := (usedFns s.serac.cfg).foldl (fun s f => s.evalFn resets f) s
    let s := (passed.foldl (fun s c => s.diagPass c) s).degradedCheck
    let s := s.setSerac { s.serac with tick := tick + 1, rem := if s.serac.st = 3 then s.serac.rem - 1 else s.serac.rem }
    .next s.writeEnables

/-- DISCREPANCY_TIMEOUT (R597, R599): two channels have disagreed for DISC_MS. -/
def execDiscrepancyTimeout (f : Nat) (s : State) : Res :=
  let x := s.serac.fn f
  if s.serac.st = 0 || (x.disc.isNone && x.disc2.isNone) || x.st = 4 then .next s
  else
    let n := tabGet (0, 0) s.serac.counts f
    let s := s.setFn f { x with st := 4, armed := false }
    let s := s.setSerac { s.serac with counts := tabSet s.serac.counts f (n.1, satTo 16 (n.2 + 1)) }
    .next (if x.st = 1 then s.seracPost 0x601 2 f x.cause else s).writeEnables

/-! ### Requests (R612 to R617) -/

/-- Serac takes a request of TYPE `typ` that a port's channel holds: its sequence number and bytes. -/
def State.seracReq (s : State) (p : Port) (typ : Nat) (k : Nat → List Byte → State → State) : State :=
  let m := s.chan (.hostSerac p)
  let b := padTo 256 (m.payload.take m.len)
  if s.serac.st = 0 || !m.posted || field b 2 2 ≠ typ then s else k m.seq b (s.clearDb (.hostSerac p) 1)

/-- The reply: STATUS, reason, and the bytes from 8 on. -/
def State.seracReply (s : State) (p : Port) (seq typ status reason : Nat) (body : List Byte) : State :=
  s.replyReq (.hostSerac p) seq typ status ([BitVec.ofNat 8 reason, 0] ++ body)

def State.closeSession (s : State) : State := s.setSerac { s.serac with session := none, staged := none }
/-- R614: the session of a port ends with its link or its reset. -/
def State.endSeracSession (s : State) (p : Port) : State := if s.serac.session = some p then s.closeSession else s

/-- R617: the log is at its change limit. -/
def State.logFull (s : State) : Bool := decide (1008 ≤ s.serac.log.length)

/-- A request that needs the session of its port (R612, R613): `ranges` are the request bytes in use. -/
def State.sessionReq (s : State) (p : Port) (typ : Nat) (ranges : List Byte → List (Nat × Nat)) (bad : List Byte → Bool)
    (k : Nat → List Byte → State → State) : State :=
  s.seracReq p typ fun seq b s =>
    if bad b || !zeroOutside b ([(0, 3)] ++ ranges b) then s.seracReply p seq typ stBad 0 []
    else if s.serac.session ≠ some p then s.seracReply p seq typ stCapacity 3 []
    else k seq b s

/-- LOGIN (R612 to R614). -/
def execLogin (p : Port) (s : State) : Res :=
  .next (s.seracReq p 0x301 fun seq b s =>
    let n := field b 4 1
    let x := s.serac
    if 32 < n || !zeroOutside b [(0, 4), (8, 39)] then s.seracReply p seq 0x301 stBad 0 []
    else if x.lockout then s.seracReply p seq 0x301 stCapacity 2 []
    else if x.session = some p.other then s.seracReply p seq 0x301 stCapacity 1 []
    else
      let ok : Bool := match x.pw with
        | none => n == 0
        | some (salt, h) => Config.digest 1 ((salt ++ (b.drop 8).take n).map (·.toNat)) == h
      if ok then
        let s := if x.session = some p then s else s.setSerac { x with session := some p, staged := none }
        let s := (s.setSerac { s.serac with fails := 0 }).seracNote 0x01 p.num 0 0
        s.seracReply p seq 0x301 stDone 0 []
      else
        let f := x.fails + 1
        let s := (s.setSerac { x with fails := f }).seracNote 0x02 p.num 0 f
        let s := s.seracPost 0x609 1 p.num f
        let s := if f < 5 then s else ((s.setSerac { s.serac with lockout := true }).seracNote 0x03 p.num 0 0).seracPost 0x609 1 p.num f
        s.seracReply p seq 0x301 stProtection 1 [])

/-- LOGOUT. -/
def execLogout (p : Port) (s : State) : Res :=
  .next (s.sessionReq p 0x302 (fun _ => []) (fun _ => false) fun seq _ s => s.closeSession.seracReply p seq 0x302 stDone 0 [])

/-- Offset and length of CONFIG_READ and CONFIG_STAGE out of range. -/
def spanBad (b : List Byte) : Bool := let o := field b 4 2; let n := field b 6 2; n == 0 || decide (240 < n) || decide (384 < o + n)

/-- CONFIG_READ: the staging area before its first CONFIG_STAGE holds what the spec does not say (log entry 1). -/
def execConfigRead (p : Port) (s : State) : Res :=
  .next (s.seracReq p 0x303 fun seq b s =>
    let o := field b 4 2; let n := field b 6 2
    if spanBad b || 1 < field b 8 1 || !zeroOutside b [(0, 8)] then s.seracReply p seq 0x303 stBad 0 []
    else
      let give (l : List Byte) (s : State) : State := s.seracReply p seq 0x303 stDone 0 (List.replicate 8 0 ++ (l.drop o).take n)
      if field b 8 1 = 0 then give s.serac.cfg s
      else match s.serac.staged with
        | some l => give l s
        | none =>
          let (w, s) := s.drawBelow (2 ^ 3072)
          give (leBytes 384 w) s)

/-- CONFIG_STAGE: the first of a session copies the configuration in force. -/
def execConfigStage (p : Port) (s : State) : Res :=
  .next (s.sessionReq p 0x304 (fun b => [(4, 7), (16, 15 + field b 6 2)]) spanBad fun seq b s =>
    let o := field b 4 2; let n := field b 6 2
    let l := s.serac.staged.getD s.serac.cfg
    let l := l.take o ++ (b.drop 16).take n ++ l.drop (o + n)
    (s.setSerac { s.serac with staged := some l }).seracReply p seq 0x304 stDone 0 [])

/-- A port's change is written with its log entry (R615): the entry's SEQ. -/
def State.seracChange (s : State) (p : Port) (kind data : Nat) (before after : List Byte) : State := s.seracLog kind p.num 0 before after data

/-- CONFIG_COMMIT (R611, R613, R615). -/
def execConfigCommit (p : Port) (s : State) : Res :=
  .next (s.sessionReq p 0x305 (fun _ => []) (fun _ => false) fun seq _ s =>
    let x := s.serac
    let c := x.staged.getD x.cfg
    -- whatever the outcome, nothing remains staged (R612)
    let s := s.setSerac { x with staged := none }
    if (serSwitches x.cfg ++ serSwitches c).any s.swOn then s.seracReply p seq 0x305 stCapacity 4 []
    else if x.pw.isNone then s.seracReply p seq 0x305 stCapacity 5 []
    else if s.logFull then s.seracReply p seq 0x305 stCapacity 6 []
    else match configBad c with
      | some o => s.seracReply p seq 0x305 stImage 0 (leBytes 2 o)
      | none =>
        let held := field c 8 32 ≠ x.img
        let s := s.seracChange p 0x04 (b2n (decide held)) x.cfg c
        let s := if held then s.setSerac { s.serac with pend := some c } else s.setSerac { s.serac with cfg := c }
        let s := s.seracReply p seq 0x305 stDone 0 (leBytes 4 s.serac.lseq ++ leBytes 4 (configHash c) ++ [BitVec.ofNat 8 (b2n (decide held))])
        let s := (s.seracPost 0x608 1 0 (field c 4 4 % 65536)).closeSession
        if held then s else s.seracMismatch.seracOff)

/-- PASSWORD_SET (R614): a new salt, whose value is open (log entry 1). -/
def execPasswordSet (p : Port) (s : State) : Res :=
  .next (s.sessionReq p 0x306 (fun _ => [(4, 4), (8, 39)]) (fun b => let n := field b 4 1; decide (n < 8) || decide (32 < n)) fun seq b s =>
    if s.logFull then s.seracReply p seq 0x306 stCapacity 6 []
    else
      let (w, s) := s.drawBelow (2 ^ 128)
      let salt := leBytes 16 w
      let h := Config.digest 1 ((salt ++ (b.drop 8).take (field b 4 1)).map (·.toNat))
      let s := (s.setSerac { s.serac with pw := some (salt, h) }).seracChange p 0x06 0 s.serac.cfg s.serac.cfg
      s.seracReply p seq 0x306 stDone 0 (leBytes 4 s.serac.lseq))

/-- LOG_READ (R612). -/
def execLogRead (p : Port) (s : State) : Res :=
  .next (s.seracReq p 0x307 fun seq b s =>
    if !zeroOutside b [(0, 3), (8, 11)] then s.seracReply p seq 0x307 stBad 0 []
    else
      let l := s.serac.log.filter fun e => field b 8 4 ≤ field e 0 4
      let next := match l.drop 7 with | [] => 0 | e :: _ => field e 0 4
      s.seracReply p seq 0x307 stDone 0 ([BitVec.ofNat 8 (min 7 l.length), 0, 0, 0] ++ leBytes 4 next ++ (l.take 7).flatten))

/-- LOG_RELEASE (R617). -/
def execLogRelease (p : Port) (s : State) : Res :=
  .next (s.sessionReq p 0x308 (fun _ => [(8, 11)]) (fun _ => false) fun seq b s =>
    if s.logFull then s.seracReply p seq 0x308 stCapacity 6 []
    else
      let n := field b 8 4
      let s := s.setSerac { s.serac with log := s.serac.log.filter fun e => decide (n < field e 0 4), fullPosted := false }
      let s := s.seracChange p 0x07 n s.serac.cfg s.serac.cfg
      s.seracReply p seq 0x308 stDone 0 (leBytes 4 s.serac.lseq))

/-- SERAC_RESTART (R610, R612). -/
def execSeracRestart (p : Port) (s : State) : Res :=
  .next (s.sessionReq p 0x309 (fun _ => []) (fun _ => false) fun seq _ s =>
    if s.serac.st = 5 && s.serac.stuck then s.seracReply p seq 0x309 stCapacity 7 []
    else
      let s := s.seracNote 0x08 p.num 0 s.serac.st
      (s.seracReply p seq 0x309 stDone 0 []).seracOff)

/-- SERAC_SESSION_TIMEOUT (R614): 10 min without a session request. -/
def execSeracSessionTimeout (s : State) : Res := .next (if s.serac.session.isSome then s.closeSession else s)

/-- LOCKOUT_EXPIRY (R614): 15 min. -/
def execLockoutExpiry (s : State) : Res := .next (if s.serac.lockout then s.setSerac { s.serac with lockout := false, fails := 0 } else s)

/-! ### What the arbiter sees (R56, R603, R608, R609) -/

/-- RESULT of SAFETY_INHIBIT for a switch (R170): the input that caused the demand of the lowest function holding its enable off, else
0x1F. -/
def State.inhibitInput (s : State) (n : Nat) : Nat :=
  match (upTo 16).find? fun k => s.enSwitch k = some n with
  | none => 0x1F
  | some k => match s.serac.holding k with
    | f :: _ => if s.serac.st = 2 || s.serac.st = 3 then min 0x1F (s.serac.fn f).cause else 0x1F
    -- an enable that fell in this cycle and has returned (R618)
    | [] => if s.serac.fell.contains n then tabGet 0x1F s.serac.fellCause n else 0x1F

/-- R603: while the sets differ, the switches of either set. -/
def State.mismatchRefuses (s : State) (n : Nat) : Bool :=
  s.flag Fld.SERAC_STATUS__SET_MISMATCH 0 && (s.flag Fld.SW_CFG__SAFETY n || (serSwitches s.serac.cfg).contains n)

/-- R608: a safety-related switch in DEGRADED. -/
def State.degradedRefuses (s : State) (n : Nat) : Bool := s.serac.st == 3 && s.flag Fld.SW_CFG__SAFETY n

end Sys2Proof.Machine
end

