-- ==== Sys2Proof/Machine/Arbiter.lean ====
section
/-!
DEFINITION. Machine/Arbiter.lean: the command arbiter (R48 to R57): what the arbitrated opcodes accept (R329 to R331, R546,
R548, R558 to R560), and how a boundary refuses, resolves and applies a cycle's orders (R51 to R55, R741).
-/
namespace Sys2Proof.Machine

/-! ### Acceptance -/

/-- START_DELIVERY (R329). `rd`: the host's answer to the read of the plan; without a buffer the default plan applies. -/
def execStartDelivery (d : Desc) (rd : DmaRead) (s : State) : Res :=
  .next (s.withDesc 0x10 d fun t s =>
    let p := d.target.toNat
    let q := signedOf 64 (DescF.par d 8 8)
    if DescF.par d 2 2 ≠ 0 then s.fin t stBad (if DescF.par d 2 1 ≠ 0 then 26 else 27)
    else
      let go (plan : List Byte) (s : State) : State :=
        s.acceptStart { t := some t, port := d.port, src := d.port.source, point := p, tariff := DescF.par d 0 2, limit := DescF.par d 4 4,
                        qLimit := q.toNat, plan := plan } (decide (q < 0))
      if DescF.bufLen d = 0 then go (s.pcfg p).plan s
      else s.withRead t d rd fun b s => go (b.take (DescF.bufLen d)) s)

/-- STOP_DELIVERY (R330). -/
def execStopDelivery (d : Desc) (s : State) : Res :=
  .next (s.withDesc 0x11 d fun t s => s.pushOrder { src := d.port.source, act := .stop d.target.toNat, t := some t })

/-- A kind of limit suits a point (R331, R539). -/
def State.limitSuits (s : State) (p kind : Nat) : Bool :=
  let c := (s.pcfg p).commodity
  if kind = 1 || kind = 2 then c == cAc || c == cDc
  else if kind = 3 then decide (3 ≤ c)
  else if kind = 4 || kind = 5 then (s.sliceOf p).any fun i => (s.scfg i).bpt
  else false

/-- SET_LIMIT (R331). -/
def execSetLimit (d : Desc) (s : State) : Res :=
  .next (s.withDesc 0x12 d fun t s =>
    let p := d.target.toNat
    let k := DescF.par d 0 4
    if !s.limitSuits p k then s.fin t stBad 24
    else s.pushOrder { src := d.port.source, act := .limit p k (DescF.par d 4 4), t := some t })

/-- The refusal of an order for a switch at its acceptance (R286, R284, R558). -/
def State.switchRefusal (s : State) (n : Nat) (on : Bool) : Option (Nat × Nat) :=
  if (s.sw n).test.isSome then some (stCapacity, 1)
  else if on && s.swFailed n then some (stProtection, 0)
  else if on && s.sessionSw n then some (stCapacity, 1)
  else none

/-- Accept an order for a switch: off for a session switch is a stop of its points (R558). -/
def State.pushSwitch (s : State) (src n : Nat) (on : Bool) (t : Option Ticket) (group : Option Nat) : State :=
  match (if s.sessionSw n && !on then s.pointsOfSw n else []) with
  | [] => s.pushOrder { src := src, act := .switch n on, t := t, group := group }
  | p :: r => r.foldl (fun s q => s.pushOrder { src := src, act := .stop q }) (s.pushOrder { src := src, act := .stop p, t := t })

/-- SWITCH_SET (R559). -/
def execSwitchSet (d : Desc) (s : State) : Res :=
  .next (s.withDesc 0x20 d fun t s =>
    let n := d.target.toNat
    let v := DescF.par d 0 1
    if 1 < v then s.fin t stBad 24
    else match s.switchRefusal n (v == 1) with
      | some (st, r) => s.fin t st r
      | none => s.pushSwitch d.port.source n (v == 1) (some t) none)

/-- One part of a SWITCH_GROUP (R182, R560). -/
def State.groupPart (s : State) (port : Port) (id n : Nat) (on : Bool) : State :=
  let c := tabGet {} s.cfg.switches n
  if c.single && c.owner != port then s.partDone id n stProtection
  else match s.switchRefusal n on with
    | some (st, _) => s.partDone id n st
    | none => s.pushSwitch port.source n on none (some id)

/-- SWITCH_GROUP (R560). -/
def execSwitchGroup (d : Desc) (s : State) : Res :=
  .next (s.withDesc 0x21 d fun t s =>
    let mask := DescF.par d 0 6
    let v := DescF.par d 8 1
    if mask = 0 then s.fin t stBad 24
    else if DescF.par d 6 2 ≠ 0 then s.fin t stBad (if DescF.par d 6 1 ≠ 0 then 30 else 31)
    else if 1 < v then s.fin t stBad 32
    else if DescF.allOrNone d && v = 0 then s.fin t stBad 1
    else
      let id := s.gov.seq
      let x : GroupOp := { id := id, t := t, mask := mask, on := v == 1, all := DescF.allOrNone d }
      let s := s.setGov { s.gov with groups := s.gov.groups ++ [x], seq := id + 1 }
      (maskList mask).foldl (fun s n => s.groupPart d.port id n (v == 1)) s)

/-- CONNECTOR_LOCK (R546). -/
def execConnectorLock (d : Desc) (s : State) : Res :=
  .next (s.withDesc 0x28 d fun t s =>
    let i := d.target.toNat
    let v := DescF.par d 0 1
    if v = 0 || 2 < v then s.fin t stBad 24
    else if !(s.scfg i).lock then s.fin t stCapacity 2
    else if (s.slice i).test.isSome then s.fin t stCapacity 1
    else s.pushOrder { src := d.port.source, act := .lock i (v == 1), t := some t })

/-- PILOT_SET (R548). -/
def execPilotSet (d : Desc) (s : State) : Res :=
  .next (s.withDesc 0x29 d fun t s =>
    let i := d.target.toNat
    let v := DescF.par d 0 1
    if v = 0 || 3 < v then s.fin t stBad 24
    else if (s.slice i).test.isSome then s.fin t stCapacity 1
    else s.pushOrder { src := d.port.source, act := .pilot i v 0, t := some t })

/-! ### Standing states (R53, R54, R741) -/

/-- The refusal of an order that would let energy flow through a switch. -/
def State.seracRefusal (s : State) (n : Nat) (needOff : Bool) : Option (Nat × Nat × Nat) :=
  if s.mismatchRefuses n then some (stInhibit, 0x1F, 0)
  else if !s.seriesOk n || s.serac.fell.contains n then some (stInhibit, s.inhibitInput n, 0)
  else if s.degradedRefuses n && !(needOff && s.swOn n) then some (stDegraded, 0, 0)
  else none

/-- R527, R550: a start that waits on a slice whose series enable a Serac inhibit has taken completes with SAFETY_INHIBIT. -/
def State.inhibitStarts (s : State) : State :=
  (s.starts.filter fun x => x.phase != 0 && x.phase != 3 && (s.sliceOf x.point).isSome).foldl (fun s x =>
    match (s.swOf x.point).bind fun n => s.seracRefusal n false with
    | some (st, r, _) => if st = stInhibit then s.dropStart x st r 0 else s
    | none => s) s

/-- The refusal of an order at its boundary for a standing state, or for a die that has stopped since its acceptance (R46): status, RESULT
and winner. -/
def State.standingRefusal (s : State) (o : Order) : Option (Nat × Nat × Nat) :=
  let away : Option (Nat × Nat × Nat) := some (stDomainOff, 6, 0)
  match o.act with
  | .start p => match (match s.swOf p with | some n => (if s.driverOff then away else s.seracRefusal n false) | none => none) with
    | some r => some r
    | none => s.firnRefusal p
  | .switch n on => if s.driverOff then away else if on then s.seracRefusal n true else none
  | .lock _ _ | .pilot _ _ _ => if s.driverOff then away else none
  | .stop p | .limit p _ _ => match s.firnOff (s.pcfg p).die with
    | some x => if o.t.isSome then some (stDomainOff, x, 0) else none
    | none => none

/-- An order gets a final outcome: its descriptor, its part of a group, its start. -/
def State.orderOutcome (s : State) (o : Order) (status result winner : Nat) : State :=
  match o.act with
  | .start p => match s.starts.find? (fun x => x.point == p && x.phase == 0) with
    | some x => s.finishStart x status result winner
    | none => s
  | act =>
    let s := match o.t with | some t => s.complete { t := t, status := status, result := result, winner := winner } | none => s
    match o.group, act with
    | some id, .switch n _ => s.partDone id n status
    | _, _ => s

/-! ### Resolution (R49, R51, R52) -/

/-- The rank of a source code. -/
def rankOf (src : Nat) : Nat := if src = 1 then 1 else if src ≤ 3 then 2 else if src ≤ 6 then 3 else if src = 7 then 4 else 5

/-- The object and class of orders that contradict each other. -/
def Order.key (o : Order) : Nat × Nat × Nat × Nat :=
  match o.act with
  | .start p | .stop p => (0, p, 0, 0)
  | .switch n _ => (1, n, 0, 0)
  | .lock i _ => (2, i, 0, 0)
  | .pilot i m _ => (if m = 3 then 4 else 3, i, 0, 0)
  | .limit p k _ => (5, p, k, rankOf o.src)

/-- R51: does `a` lie on the safer side than `b`? -/
def Act.safer : Act → Act → Bool
  | .stop _, .start _ => true
  | .switch _ false, .switch _ true => true
  | .lock _ true, .lock _ false => true
  | .pilot _ 2 _, .pilot _ 1 _ => true
  | .limit _ _ v, .limit _ _ w => v != 0 && (w == 0 || decide (v < w))
  | _, _ => false

/-- The winning order among those of one object: highest rank, then the safe side, then the first accepted. -/
def winner : Order → List Order → Order
  | w, [] => w
  | w, o :: r => winner (if rankOf o.src < rankOf w.src || (rankOf o.src = rankOf w.src && o.act.safer w.act) then o else w) r

/-! ### What an order that stands does -/

/-- The winning orders complete: CONFLICT_RESOLVED, RESULT bit 0 = 1, where others lost to them (R52). -/
def State.finishAll (s : State) (ws : List Order) (conf : Option Nat) (status result : Nat) : State :=
  ws.foldl (fun s o => match conf with
    | some w => if status = stDone then
        let s := match o.t with | some t => s.complete { t := t, status := stConflict, result := 1, winner := w } | none => s
        (match o.group, o.act with
        | some id, .switch n _ => s.partDone id n stDone
        | _, _ => s)
      else s.orderOutcome o status result 0
    | none => s.orderOutcome o status result 0) s

/-- R527, R86, R574, R52: an accepted start takes its slice to WAITING and goes to its governor queue, or waits for its Firn die. -/
def State.applyStart (s : State) (o : Order) (conf : Option Nat) (p : Nat) : State :=
  match s.starts.find? (fun x => x.point == p && x.phase == 0) with
  | none => s
  | some x =>
    let s := s.setStart p fun y => { y with conf := conf.getD 0 }
    let s := if x.limit = 0 then s else { s with limits := tabSet s.limits (p, 1, rankOf o.src) x.limit }
    let go (s : State) : State :=
      if !s.flag Fld.FIRN_STATUS__READY (s.pcfg p).die.num then (s.setStart p fun y => { y with phase := 4 }).deferStart x (deferResult s.gov.queue (s.groupOf p))
      else (s.setStart p fun y => { y with phase := 1, since := s.time }).qAdd { obj := .start p, group := s.groupOf p, since := s.time, src := o.src }
    match s.sliceOf p with
    | none => go s
    | some i =>
      if s.session i ≠ ssPlugged && s.session i ≠ ssEnded then s.finishStart x stCapacity 0xC
      else
        let s := s.setSession i ssWaiting
        let c := s.slice i
        let s := if (s.scfg i).lock && !(c.locked && s.lockSeen i) then (s.setSlice i { c with lockForStart := true }).lockOrder i true [] else s
        go s

/-- Starts whose Firn die has become ready enter their queues (R86). -/
def State.readyStarts (s : State) : State :=
  (s.starts.filter fun x => x.phase == 4 && s.flag Fld.FIRN_STATUS__READY (s.pcfg x.point).die.num).foldl (fun s x =>
    (s.setStart x.point fun y => { y with phase := 1, since := s.time }).qAdd { obj := .start x.point, group := s.groupOf x.point, since := s.time, src := x.src }) s

/-- A stop that stands (R330, R328, R527, R574). -/
def State.applyStop (s : State) (o : Order) (ws : List Order) (conf : Option Nat) (p : Nat) : State :=
  match s.starts.find? (fun x => x.point == p && x.phase != 3) with
  | some x => (s.dropStart x stConflict 0 o.src).finishAll ws conf stDone 1
  | none =>
    let m := s.mpState p
    if m ≠ mpArmed && m ≠ mpMetering then s.finishAll ws conf stDone 0
    else
      let wait := (ws.filterMap (·.t)).map fun t => ({ t := t, point := p, winner := conf.getD 0 } : StopWait)
      let s := { s with stops := s.stops ++ wait }
      let firn := o.src = 2 || o.src = 3
      match s.sliceOf p with
      | some i => let (code, s) := s.endOf o; s.endSlice i code
      | none =>
        let s := match s.swOf p with | some n => s.setWant n false | none => s
        if m = mpArmed then s.freezePoint p (s.markIdx p) 7
        else if (s.swOf p).isNone then s.freezePoint p (s.markIdx p) (if firn then 4 else 3)
        else s

/-- A switch order that stands (R559, R574). -/
def State.applySwitch (s : State) (o : Order) (ws : List Order) (conf : Option Nat) (n : Nat) (on : Bool) : State :=
  if !on then
    let s := (s.onOutcome n stConflict 0 o.src).dropRestart n
    let was := s.swOn n
    let s := s.setWant n false
    s.finishAll ws conf stDone (b2n was)
  else if s.swOn n then (s.setWant n true).finishAll ws conf stDone 0
  else if s.swFailed n then s.finishAll ws conf stProtection 0
  else if s.swLocked n then s.finishAll ws conf stCapacity 2
  else if !s.vswGood then s.finishAll ws conf stCapacity 4
  else if s.flag Fld.SW_CFG__INRUSH n then
    let ts := (ws.filterMap (·.t)).map fun t => (t, false, conf.getD 0)
    let gs := ws.filterMap (·.group)
    -- one entry per object: an on order joins the entry of its switch, and takes over a restart that waits (log entry 196)
    if s.gov.queue.any (·.obj.switch == some n) then
      let s := s.put Fld.SW_STATUS__UV_WAIT n 0
      s.setGov { s.gov with queue := s.gov.queue.map fun e => if e.obj.switch == some n then { e with obj := .on n, waits := e.waits ++ ts, parts := e.parts ++ gs } else e }
    else s.qAdd { obj := .on n, group := s.get Fld.SW_CFG__GROUP n, since := s.time, src := o.src, waits := ts, parts := gs }
  else
    let s := (s.dropRestart n).setWant n true
    s.finishAll ws conf stDone (b2n (s.swOn n))

/-- A lock order that stands (R531, R532, R546). -/
def State.applyLock (s : State) (ws : List Order) (conf : Option Nat) (i : Nat) (lock : Bool) : State :=
  if !lock && !(s.slice i).held then s.finishAll ws none stCapacity 1
  else s.lockOrder i lock ((ws.filterMap (·.t)).map fun t => (t, conf.getD 0))

/-- A PILOT_SET that stands (R545, R548). -/
def State.applyPilot (s : State) (ws : List Order) (conf : Option Nat) (i mode : Nat) : State :=
  if mode = 1 then (s.put Fld.SLICE_STATUS__UNAVAIL i 0).finishAll ws conf stDone 0
  else if mode = 2 then (s.put Fld.SLICE_STATUS__UNAVAIL i 1).finishAll ws conf stDone 0
  else if !s.flag Fld.SLICE_STATUS__TRIP i then s.finishAll ws conf stDone 0
  else if !s.deEnergised i then s.finishAll ws conf stCapacity 1
  else
    let s := s.put Fld.SLICE_STATUS__TRIP i 0
    let s := if s.session i ≠ ssTripped then s else match byPilot (s.pilot i) with
      | some v => s.setSession i v
      | none => s.setSession i ssVacant
    s.finishAll ws conf stDone 1

/-- Apply the winner of an object. -/
def State.applyWinner (s : State) (o : Order) (ws : List Order) (conf : Option Nat) : State :=
  match o.act with
  | .start p => s.applyStart o conf p
  | .stop p => s.applyStop o ws conf p
  | .limit p k v =>
    let key := (p, k, rankOf o.src)
    { s with limits := if v = 0 then tabErase s.limits key else tabSet s.limits key v }.finishAll ws conf stDone 0
  | .switch n on => s.applySwitch o ws conf n on
  | .lock i l => s.applyLock ws conf i l
  | .pilot i m _ => s.applyPilot ws conf i m

/-- Resolve and apply the orders of one object. -/
def State.resolveKey (s : State) (os : List Order) (k : Nat × Nat × Nat × Nat) : State :=
  match os.filter (·.key == k) with
  | [] => s
  | a :: r =>
    let w := winner a r
    let ws := (a :: r).filter fun o => o.act == w.act
    let ls := (a :: r).filter fun o => o.act != w.act
    let s := ls.foldl (fun s o => s.orderOutcome o stConflict 0 w.src) s
    s.applyWinner w ws (if ls.isEmpty then none else some w.src)

/-- Is an order part of a group that no longer takes parts? -/
def State.deadPart (s : State) (o : Order) : Bool :=
  match o.group with
  | none => false
  | some id => match s.gov.groups.find? (·.id == id) with | some x => x.backing | none => true

/-- R48: the boundary refuses, resolves and applies the orders of its cycle. -/
def State.arbitrate (s : State) : State :=
  let os := s.orders.filter fun o => !s.deadPart o
  let s := { s with orders := [] }
  let refused := os.filter fun o => (s.standingRefusal o).isSome
  let left := os.filter fun o => (s.standingRefusal o).isNone
  let s := refused.foldl (fun s o => match s.standingRefusal o with | some (st, r, w) => s.orderOutcome o st r w | none => s) s
  (left.map Order.key).eraseDups.foldl (fun s k => s.resolveKey left k) s

/-- The off parts of switch groups for session switches have their outcome once their points meter no more (R558). -/
def State.groupStops (s : State) : State :=
  (s.gov.groups.filter fun x => !x.on).foldl (fun s x =>
    (maskList x.mask).foldl (fun s n =>
      if s.sessionSw n && !bitAt x.applied n && !(x.failed.any (·.1 == n))
        && (s.pointsOfSw n).all (fun p => s.mpState p != mpArmed && s.mpState p != mpMetering) then s.partDone x.id n 0
      else s) s) s

/-- STOP_FREEZE_TIMEOUT (R61, R330): the freeze line of a stopped point has not risen in time: its stops complete with
TIMEOUT_CROSSING. -/
def execStopFreezeTimeout (p : Nat) (s : State) : Res :=
  if s.mpState p ≠ mpMetering then .next s
  else
    let w := s.stops.filter (·.point == p)
    let s := { s with stops := s.stops.filter (·.point != p) }
    let s := w.foldl (fun s x => s.fin x.t stTimeout 6) s
    .next (match s.swOf p with
      | none => s
      | some n => (s.gov.groups.filter fun x => !x.on && bitAt x.mask n && !x.failed.any (·.1 == n) && !bitAt x.applied n).foldl
          (fun s x => s.partDone x.id n stTimeout) s)

/-- R46, R441: sessions of points without a slice end with their Firn die: their switch is ordered off. -/
def State.orphanPoints (s : State) : State :=
  (s.gov.admitted.filter fun p => (s.sliceOf p).isNone).foldl (fun s p =>
    let d := (s.pcfg p).die
    let s := if (s.firnOff d).isSome || (s.firn d).pfw.isSome then (match s.swOf p with | some n => s.setWant n false | none => s) else s
    if s.runsSession p then s
    else s.setGov { s.gov with admitted := s.gov.admitted.filter (· != p), shed := s.gov.shed.filter (· != p), alloc := tabErase s.gov.alloc p }) s

/-- R557: the wanted state of a switch whose enable fell becomes off at the boundary after. -/
def State.clearFell (s : State) : State :=
  let f := s.serac.fell
  f.foldl (fun s n => s.setWant n false) (s.setSerac { s.serac with fell := [] })

/-- R608: starts that wait in a governor queue for a safety-related switch complete with DEGRADED_REFUSED. -/
def State.degradedDrop (s : State) : State :=
  (s.starts.filter fun x => x.phase == 1 && (s.swOf x.point).any s.degradedRefuses).foldl (fun s x => s.dropStart x stDegraded 0 0) s

/-! ### Measured values that mirrors take (R551, R581, R567) -/

def State.takeMeas (s : State) : Meas → State
  | .load n i v lim =>
    let s := (s.put Fld.SW_CURRENT__I_LOAD n (min 65535 i)).put Fld.SW_CURRENT__V_OUT n (min 65535 v)
    let s := s.putB Fld.SW_STATUS__LIMITING n lim
    let s := if s.flag Fld.SW_STATUS__OPEN_LOAD n && 5 ≤ i then s.put Fld.SW_STATUS__OPEN_LOAD n 0 else s
    if s.get Fld.DRV_ISNS_SEL__SEL 0 = n then s.emit (.isns s.isns) else s
  | .temp n tj => s.put Fld.SW_STATUS__TJ n (min 255 tj)
  | .vsw v => s.put Fld.DRV_STATUS__VSW 0 (min 8191 v)
  | .pilot i h l => (s.put Fld.SLICE_PILOT__HIGH i (bitsOf 16 (clampS 16 h))).put Fld.SLICE_PILOT__LOW i (if (s.slice i).out = 1 then bitsOf 16 (clampS 16 l) else 0x8000)
  | .pp i o => s.put Fld.SLICE_PP__R_PP i (min 65535 o)
  | .rdc i ac dc => (s.put Fld.SLICE_RDC__I_AC i (min 65535 ac)).put Fld.SLICE_RDC__I_DC i (bitsOf 16 (clampS 16 dc))
  | .iso i r u => s.isoShow i r u

end Sys2Proof.Machine
end

