-- ==== Sys2Proof/Machine/Ethernet.lean ====
section
/-!
DEFINITION. Machine/Ethernet.lean: Ethernet ports, PTP and the management interface (R184 to R188). Ports are numbered 0
and 1. The best master clock algorithm, the offset filter and the servo's law are not in the spec's text (it names
IEEE 1588): their results come with the commands (log entry 11).
-/
namespace Sys2Proof.Machine

def State.ptp (s : State) (p : Nat) : PtpSt := if p = 0 then s.eth.p0 else s.eth.p1
def State.setPtp (s : State) (p : Nat) (x : PtpSt) : State :=
  { s with eth := if p = 0 then { s.eth with p0 := x } else { s.eth with p1 := x } }

/-- R187: the port that disciplines device time: the port in UNCALIBRATED or SLAVE; of a boundary clock the one in SLAVE;
ETH0 where both ordinary clocks are in SLAVE. Of one in UNCALIBRATED and one in SLAVE it is the one in SLAVE, and of two in UNCALIBRATED
it is ETH0: log entry 167. -/
def State.discPort (s : State) : Option Nat :=
  let st (p : Nat) := s.get Fld.ETH_STATUS__PTP_STATE p
  let ok (p : Nat) := if s.get Fld.ETH_CFG__ROLE p = 2 then st p == 9 else st p == 8 || st p == 9
  if st 0 = 9 then some 0 else if st 1 = 9 then some 1 else if ok 0 then some 0 else if ok 1 then some 1 else none

/-- DISC follows the disciplining port. -/
def State.setDisc (s : State) : State :=
  let d := s.discPort
  (s.putB Fld.ETH_STATUS__DISC 0 (d == some 0)).putB Fld.ETH_STATUS__DISC 1 (d == some 1)

/-- PTP_STATE (0x00A) is posted when the state, DISC or LOCKED of a port changed from what `old` showed. -/
def State.ptpChanged (s old : State) (p : Nat) (stepped : Bool) : State :=
  let disc := s.flag Fld.ETH_STATUS__DISC p; let lk := s.flag Fld.ETH_STATUS__LOCKED p
  let st := s.get Fld.ETH_STATUS__PTP_STATE p
  let fell := (old.flag Fld.ETH_STATUS__DISC p && !disc) || (old.flag Fld.ETH_STATUS__LOCKED p && !lk)
  if old.reg .ETH_STATUS p = s.reg .ETH_STATUS p && !stepped then s
  else s.postBoth { code := 0x00A, sev := b2n fell, obj := p,
                    data := st + b2n disc * 256 + b2n lk * 512 + b2n stepped * 1024 }

/-- Both ports' PTP_STATE events. -/
def State.ptpReport (s old : State) : State := (s.ptpChanged old 0 false).ptpChanged old 1 false

/-- A port's PTP state becomes `st` (R186): a slave-only clock is never MASTER, and stays LISTENING where the algorithm decides so (log entry
168); SLAVE is reached through UNCALIBRATED, by the servo's lock alone (R187); leaving SLAVE loses lock; the offset reads 0 outside
UNCALIBRATED and SLAVE. -/
def State.setPtpState (s : State) (p st : Nat) : State :=
  let st := if s.get Fld.ETH_CFG__ROLE p = 0 && st == 6 then 4 else st
  let st := if st = 9 && !s.flag Fld.ETH_STATUS__LOCKED p then 8 else st
  let was := s.get Fld.ETH_STATUS__PTP_STATE p
  let s := s.put Fld.ETH_STATUS__PTP_STATE p st
  let s := if st = 9 then s else s.put Fld.ETH_STATUS__LOCKED p 0
  let s := if st = 8 || st = 9 then s else s.setReg .ETH_OFFSET p 0
  let s := if st = 8 && was ≠ 8 then s.setPtp p { s.ptp p with fresh := true, good := 0 } else s
  s.setDisc

/-- R184: the PHY of a port reports its mode, in Mbit/s and full duplex, or no link: any mode but 1000 Mbit/s full duplex counts as down.
A link that comes up has its SerDes PLL locked (R71). -/
def execEthLink (p : Nat) (phy : Option (Nat × Bool)) (s : State) : Res :=
  let up := phy == some (1000, true)
  if s.flag Fld.ETH_STATUS__LINK p == up || (up && !s.dieRuns .cdie) then .next s
  else
    let s := s.putB Fld.ETH_STATUS__LINK p up
    let s := if up then s.put Fld.CLK_STATUS__SERDES_PLL_LOCK 0 1 else s
    .next (s.postBoth { code := 0x009, sev := b2n (!up), obj := p, data := b2n up })

/-- R185: a port's address in force, the first byte on the wire lowest: the one assigned at manufacture, ETH1's being ETH0's plus 1 in its
last byte, unless the configuration replaces it. -/
def State.ethMac (s : State) (p : Nat) : Nat :=
  if s.flag Fld.ETH_CFG__LOCAL_MAC p then (s.reg .ETH_MAC_LO p).toNat + s.get Fld.ETH_MAC_HI__ADDR_HI p * 2 ^ 32
  else if p = 0 then s.eth.mac else putBits s.eth.mac 40 8 (bitsAt s.eth.mac 40 8 + 1)

/-- R185: does a frame pass the receive filter? -/
def State.ethFilter (s : State) (p : Nat) (f : EthFrame) : Bool :=
  f.dst == s.ethMac p || f.dst == 0xFFFFFFFFFFFF || f.dst == 0x000000191B01 || f.dst == 0x0E0000C28001 || (s.cfg.fedGroups.take 8).contains f.dst

/-- R93, R184, R185: a received frame is counted, wakes the module unless it is a PTP event message in Sleep, or is dropped. -/
def execEthFrameRx (p : Nat) (f : EthFrame) (s : State) : Res :=
  if 1522 < f.len || 1 < f.vlanTags || !s.ethFilter p f then .next (s.bump Fld.ETH_RX_DROPPED__VALUE p 1)
  else
    let s := s.bump Fld.ETH_RX_FRAMES__VALUE p 1
    let s := if s.pwr = 2 && f.etherType == 0x88F7 && f.ptpEvent then s else s.wakeSource 5
    if f.etherType = 0x88F7 then .next (s.bump Fld.ETH_PTP_RX__VALUE p 1)
    else if f.etherType = 0x88B5 && s.cfg.fedSources.contains f.src then .next s
    else .next (s.bump Fld.ETH_RX_DROPPED__VALUE p 1)

/-- R187: one filtered offset (ns) reaches the servo, with the trim its law gives. -/
def State.servo (s : State) (p : Nat) (off trim : Int) : State :=
  let old := s
  let st := s.get Fld.ETH_STATUS__PTP_STATE p
  if st ≠ 8 && st ≠ 9 then s
  else
    let s := s.setReg .ETH_OFFSET p (BitVec.ofNat 32 (bitsOf 32 (clampS 32 off)))
    let x := s.ptp p
    let far := decide (1000000 < off.natAbs)
    let disc := s.discPort == some p
    let good := if off.natAbs < 10000 then min 16 (x.good + 1) else 0
    let s := s.setPtp p { x with good := if far then 0 else good, fresh := if disc then false else x.fresh }
    let s := if disc then
        if far || x.fresh then { s with eth := { s.eth with stepDue := some off } }
        else { s with eth := { s.eth with trimNext := max (-33) (min 33 trim) } }
      else s
    let s := if far then s.put Fld.ETH_STATUS__LOCKED p 0
      else if good = 16 then ((s.put Fld.ETH_STATUS__PTP_STATE p 9).put Fld.ETH_STATUS__LOCKED p 1).setDisc else s
    s.ptpReport old

/-- R187: the PTP epoch of 1970-01-01 TAI lies this many seconds before that of device time. -/
def ptpEpoch : Nat := 946684800

/-- R187: device time of a PTP time of `sec` seconds and `ns` nanoseconds; and the PTP time, in seconds and nanoseconds, of a device time
with its fraction in ns. -/
def ptpToDevice (sec ns : Nat) : Nat := (sec - ptpEpoch) * 1000000 + ns / 1000
def deviceToPtp (t frac : Nat) : Nat × Nat := (t / 1000000 + ptpEpoch, t % 1000000 * 1000 + frac)

/-- PTP runs on a port with its link (R73): its messages count. -/
def State.ptpOn (s : State) (p : Nat) : Bool := s.flag Fld.ETH_STATUS__LINK p && s.dieRuns .cdie

/-- R93: in Sleep an event message is timestamped and held, at most 64 of a port; otherwise `k`. -/
def State.orHold (s : State) (p : Nat) (m : PtpHeld) (k : State → State) : State :=
  if !s.ptpOn p then s
  else if s.pwr = 2 then
    (if (s.eth.sleepHeld.filter (·.1 == p)).length < 64 then { s with eth := { s.eth with sleepHeld := s.eth.sleepHeld ++ [(p, m)] } } else s)
  else k s

/-- R187: a Sync: one-step gives its offset at once, two-step waits for its Follow_Up. -/
def State.takeSync (s : State) (p : Nat) (twoStep : Bool) (rx off trim : Int) : State :=
  if twoStep then s.setPtp p { s.ptp p with syncRx := some rx } else s.servo p off trim

/-- PTP_SYNC (R187). -/
def execPtpSync (p : Nat) (twoStep : Bool) (rx : Int) (off trim : Int) (s : State) : Res :=
  .next (s.orHold p (.sync twoStep rx off trim) fun s => s.takeSync p twoStep rx off trim)

/-- R187: a Follow_Up completes the two-step Sync that waits for it. -/
def execPtpFollowUp (p : Nat) (off trim : Int) (s : State) : Res :=
  match (s.ptp p).syncRx with
  | none => .next s
  | some _ => .next (if s.ptpOn p && s.pwr ≤ 1 then (s.setPtp p { s.ptp p with syncRx := none }).servo p off trim else s)

/-- R186: an Announce enters the best master clock algorithm, whose decision is `st`. -/
def execPtpAnnounce (p st : Nat) (s : State) : Res :=
  .next (if s.flag Fld.ETH_CFG__PTP_EN p && s.ptpOn p && s.pwr ≤ 1 then (s.setPtpState p st).ptpReport s else s)

/-- R186: no Announce within the receipt timeout; the algorithm's decision is `st`. -/
def execAnnounceReceiptTimeout (p st : Nat) (s : State) : Res :=
  .next (if s.flag Fld.ETH_CFG__PTP_EN p && s.pwr ≤ 1 then (s.setPtpState p st).ptpReport s else s)

/-- One frame sent on a port, with its contents; in Sleep the MAC only receives (R81). -/
def State.ethSend (s : State) (p kind : Nat) (body : List Nat) : State :=
  if s.pwr = 2 || !s.ptpOn p then s else (s.bump Fld.ETH_TX_FRAMES__VALUE p 1).emit (.ethTx p kind body)

/-- A timestamp of the PTP clock now, as seconds and nanoseconds (R187): the fraction of a microsecond is what CLK_FAB has counted (log
entry 1). -/
def State.ptpNow (s : State) : List Nat × State :=
  let (f, s) := s.drawBelow 1000
  let x := deviceToPtp s.devTime f
  ([x.1, x.2], s)

def State.isMaster (s : State) (p : Nat) : Bool := s.get Fld.ETH_STATUS__PTP_STATE p == 6

/-- R186: as master, a Delay_Req is answered with a Delay_Resp, which carries the time of its receipt. -/
def State.answerDelay (s : State) (p : Nat) : State :=
  if s.isMaster p then (let (t, s) := s.ptpNow; s.ethSend p 9 t) else s

/-- PTP_DELAY_REQ (R186). -/
def execPtpDelayReq (p : Nat) (s : State) : Res := .next (s.orHold p .delayReq fun s => s.answerDelay p)

/-- R93: what was held in Sleep is handled on waking. -/
def State.ethHeld (s : State) : State :=
  s.eth.sleepHeld.foldl (fun s x => match x.2 with
    | .sync two rx off trim => s.takeSync x.1 two rx off trim
    | .delayReq => s.answerDelay x.1) { s with eth := { s.eth with sleepHeld := [] } }

/-- R187: a Delay_Resp gives the mean path delay in ns. -/
def execPtpDelayResp (p delay : Nat) (s : State) : Res :=
  let st := s.get Fld.ETH_STATUS__PTP_STATE p
  .next (if (st = 8 || st = 9) && s.ptpOn p then s.setReg .ETH_PATH p (BitVec.ofNat 32 delay) else s)

/-- R186: as master the port sends a two-step Sync and its Follow_Up, which carries the time at which the Sync left. -/
def execPtpSyncTransmit (p : Nat) (s : State) : Res :=
  .next (if s.isMaster p then (let (t, s) := s.ptpNow; (s.ethSend p 0 []).ethSend p 8 t) else s)

/-- R186: what a master announces: priority1 of the configuration, clockClass 248, clockAccuracy 0xFE, priority2 128, timeSource 0xA0, and
currentUtcOffsetValid FALSE. -/
def State.announced (s : State) (p : Nat) : List Nat := [s.get Fld.ETH_CFG__PRIORITY1 p, 248, 0xFE, 128, 0xA0, 0]

/-- R186: as master the port sends an Announce. -/
def execPtpAnnounceTransmit (p : Nat) (s : State) : Res := .next (if s.isMaster p then s.ethSend p 11 (s.announced p) else s)

/-- R187: no Sync for 3 intervals: lock is lost, the trim stays. -/
def execPtpSyncTimeout (p : Nat) (s : State) : Res :=
  .next (((s.put Fld.ETH_STATUS__LOCKED p 0).setPtp p { s.ptp p with good := 0 }).ptpReport s)

/-- R187: as slave the port sends a Delay_Req. -/
def execPtpDelayReqTransmit (p : Nat) (s : State) : Res :=
  let st := s.get Fld.ETH_STATUS__PTP_STATE p
  .next (if st = 8 || st = 9 then s.ethSend p 1 [] else s)

/-- R187, R166: at a boundary a due step moves device time by the offset, and STEPS counts it. -/
def State.ptpStep (s : State) : State :=
  match s.eth.stepDue with
  | none => s
  | some off =>
    let p := s.discPort.getD 0
    let base : Int := if s.devTime = 0 then s.time else s.devTime
    let s := { s with devTime := ((base * 1000 - off) / 1000).toNat, eth := { s.eth with stepDue := none } }
    (s.bump Fld.ETH_TIME_TRIM__STEPS 0 1).ptpChanged s p true

/-- R184, R188: a write of ETH_MDIO with GO: one clause 22 frame; discarded while GO is 1. -/
def execMdioFrame (v : W32) (s : State) : Res :=
  if s.flag Fld.ETH_MDIO__GO 0 then .next s
  else .next ((s.setReg .ETH_MDIO 0 ((v &&& 0x7FF0FFFF) ||| 0x80000000)).emit (.mdio v))

/-- R188: the frame is complete; a read frame leaves its data in DATA. -/
def execMdioFrameDone (data : W16) (s : State) : Res :=
  if !s.flag Fld.ETH_MDIO__GO 0 then .next s
  else
    let s := s.put Fld.ETH_MDIO__GO 0 0
    .next (if s.flag Fld.ETH_MDIO__WRITE 0 then s else s.put Fld.ETH_MDIO__DATA 0 data.toNat)

end Sys2Proof.Machine
end

