-- ==== Sys2Proof/Machine/Modem.lean ====
section
/-!
DEFINITION. Machine/Modem.lean: Kyoti's frames on the line (R624, R630 to R632): the Reed-Solomon code, whitening, the codewords of
a frame, its tones, and how a received frame is read.
-/
namespace Sys2Proof.Machine

/-! ### GF(2⁸) with primitive polynomial 0x11D -/

def gfDouble (a : Nat) : Nat := if a < 128 then 2 * a else Nat.xor (2 * a) 0x11D

/-- Multiply by the low `k` bits of `b`, onto `acc`. -/
def gfMulBits : Nat → Nat → Nat → Nat → Nat
  | 0, _, _, acc => acc
  | k + 1, a, b, acc => gfMulBits k (gfDouble a) (b / 2) (if b % 2 = 1 then Nat.xor acc a else acc)

def gfMul (a b : Nat) : Nat := gfMulBits 8 a b 0

/-- αᵏ. -/
def gfAlpha : Nat → Nat
  | 0 => 1
  | k + 1 => gfDouble (gfAlpha k)

/-- a² · a⁴ · … over `k` squarings: the inverse, a²⁵⁴, for k = 7. -/
def gfSquares : Nat → Nat → Nat
  | 0, _ => 1
  | k + 1, a => let b := gfMul a a; gfMul b (gfSquares k b)

def gfInv (a : Nat) : Nat := gfSquares 7 a

/-- Polynomials, lowest coefficient first. -/
def gfEval (p : List Nat) (x : Nat) : Nat := p.foldr (fun c s => Nat.xor (gfMul s x) c) 0
def gfAdd : List Nat → List Nat → List Nat
  | [], q => q
  | p, [] => p
  | a :: p, b :: q => Nat.xor a b :: gfAdd p q
def gfScale (c : Nat) (p : List Nat) : List Nat := p.map (gfMul c)
def gfPolyMul : List Nat → List Nat → List Nat
  | [], _ => []
  | a :: p, q => gfAdd (gfScale a q) (0 :: gfPolyMul p q)

/-! ### Reed–Solomon (255,239), generator roots α⁰ to α¹⁵ (R630) -/

/-- The generator's coefficients below x¹⁶, highest first. -/
def rsGen : List Nat := [59, 13, 104, 189, 68, 209, 30, 8, 163, 65, 41, 229, 98, 50, 36, 59]

/-- One data byte through the encoder's 16 bytes. -/
def rsStep (r : List Nat) (d : Nat) : List Nat :=
  let f := Nat.xor d (r.headD 0)
  gfAdd (r.drop 1 ++ [0]) (gfScale f rsGen)

/-- The 16 parity bytes of a shortened codeword's data. -/
def rsParity (data : List Nat) : List Nat := data.foldl rsStep (List.replicate 16 0)

def rsEncode (data : List Nat) : List Nat := data ++ rsParity data

/-- The 16 syndromes of a received word. -/
def rsSyndromes (w : List Nat) : List Nat := (upTo 16).map fun i => gfEval w.reverse (gfAlpha i)

/-- Where Berlekamp's and Massey's search for the error locator stands: locator, the last one before its length grew, its length, the
steps since, and the discrepancy then. -/
structure RsLoc where
  c : List Nat := [1]
  b : List Nat := [1]
  l : Nat := 0
  m : Nat := 1
  d : Nat := 1

def RsLoc.step (syn : List Nat) (x : RsLoc) (n : Nat) : RsLoc :=
  let d := (upTo (x.l + 1)).foldl (fun a i => if i ≤ n then Nat.xor a (gfMul (x.c.getD i 0) (syn.getD (n - i) 0)) else a) 0
  if d = 0 then { x with m := x.m + 1 }
  else
    let c := gfAdd x.c (List.replicate x.m 0 ++ gfScale (gfMul d (gfInv x.d)) x.b)
    if 2 * x.l ≤ n then { c := c, b := x.c, l := n + 1 - x.l, m := 1, d := d } else { x with c := c, m := x.m + 1 }

/-- A received codeword of at most 255 bytes: corrected, with the number of bytes corrected; none where it is not correctable. -/
def rsDecode (w : List Nat) : Option (List Nat × Nat) :=
  let syn := rsSyndromes w
  if syn.all (· == 0) then some (w, 0)
  else
    let x := (upTo 16).foldl (RsLoc.step syn) {}
    let n := w.length
    let at' := (upTo n).filter fun j => gfEval x.c (gfAlpha (254 * (n - 1 - j) % 255)) == 0
    if 8 < x.l || at'.length ≠ x.l then none
    else
      let om := (gfPolyMul syn x.c).take 16
      let dc := (x.c.drop 1).zipIdx.map fun y => if y.2 % 2 = 0 then y.1 else 0
      let fix := at'.map fun j =>
        let p := n - 1 - j
        let xi := gfAlpha (254 * p % 255)
        (j, gfMul (gfAlpha (p % 255)) (gfMul (gfEval om xi) (gfInv (gfEval dc xi))))
      let v := w.zipIdx.map fun y => match fix.find? (·.1 == y.2) with | some e => Nat.xor y.1 e.2 | none => y.1
      if (rsSyndromes v).all (· == 0) then some (v, at'.length) else none

/-! ### Whitening (R630) -/

/-- `k` steps of the PN9 register of x⁹ + x⁵ + 1. -/
def pn9 : Nat → Nat → Nat
  | 0, r => r
  | k + 1, r => pn9 k (r / 2 + 256 * ((r + r / 32) % 2))

/-- Whiten data bytes, or take it off: the low byte of the register for each, 8 steps apart (log entry 197). -/
def whitenFrom : Nat → List Nat → List Nat
  | _, [] => []
  | r, b :: l => Nat.xor b (r % 256) :: whitenFrom (pn9 8 r) l
def whiten (l : List Nat) : List Nat := whitenFrom 0x1FF l

/-! ### Codewords of a frame (R631) -/

/-- The data bytes of each of the D further codewords for `n` payload bytes. -/
def kyShares (d n : Nat) : List Nat := (upTo d).map fun k => n / d + (if k < n % d then 1 else 0)
def kyWords (inter len : Nat) : Nat := if len ≤ 3 then 0 else min inter (len - 3)

/-- Consecutive parts of a list. -/
def cutParts : List Nat → List Nat → List (List Nat)
  | [], _ => []
  | n :: r, l => l.take n :: cutParts r (l.drop n)

/-- The order in which bytes of interleaved codewords of these lengths are sent: codeword and place. -/
def interOrder (lens : List Nat) : List (Nat × Nat) :=
  (upTo (lens.foldl max 0)).flatMap fun j => lens.zipIdx.filterMap fun x => if j < x.1 then some (x.2, j) else none

/-- The bytes of a frame on the line: data codeword 0 of 16 bytes, and the rest in D interleaved codewords. -/
def kyCode (inter len : Nat) (data : List Nat) : List Nat :=
  let w := whiten data
  let d := kyWords inter len
  let cs := (cutParts (kyShares d (len - 3)) (w.drop 16)).map rsEncode
  rsEncode (w.take 16) ++ (interOrder (cs.map List.length)).map fun x => (cs.getD x.1 []).getD x.2 0

/-- A frame's data bytes: its 13-byte header, payload bytes 0 to 2 (unused ones 0), and the others. -/
def kyData (header payload : List Nat) : List Nat := header ++ (payload ++ List.replicate (3 - payload.length) 0)

/-! ### Symbols and tones (R624, R630) -/

/-- The bit pairs of a byte, most significant first. -/
def pairsOf (b : Nat) : List Nat := [b / 64 % 4, b / 16 % 4, b / 4 % 4, b % 4]
/-- The tone of a bit pair: a Gray mapping. -/
def toneOf (p : Nat) : Nat := if p = 2 then 3 else if p = 3 then 2 else p

/-- The tones of a frame: preamble, sync word, and its bytes. -/
def kyTones (beacon : Bool) (bytes : List Nat) : List Nat :=
  ((List.replicate 8 [0, 3]).flatten) ++ ((if beacon then [0x4B, 0x1C] else [0xB4, 0xE3]).flatMap pairsOf ++ bytes.flatMap pairsOf).map toneOf

/-- The frequency of a tone in Hz: F_BASE in 0.1 kHz, Δ the baud rate. -/
def toneHz (fBase baud k : Nat) : Nat := fBase * 100 + k * baud

/-! ### Reading a received frame (R632) -/

/-- What a received frame is: the frame and the bytes corrected; a count of codewords not correctable; or a header out of place. -/
inductive KyRx where
  | frame (f : KyFrame) (corrected : Nat)
  | failed (n : Nat)
  | dropped (corrected : Nat)
deriving DecidableEq, Repr

def natField (b : List Nat) (o n : Nat) : Nat := ((b.drop o).take n).foldr (fun c s => c + 256 * s) 0

/-- Are the header's fields in their ranges? -/
def kyHeaderOk (h : List Nat) : Bool :=
  let b0 := h.getD 0 0; let b12 := h.getD 12 0
  b0 / 64 == 1 && b0 % 4 == 0 && decide (1 ≤ b0 / 4 % 16) && decide (b0 / 4 % 16 ≤ 5) && decide (natField h 2 2 < 2 ^ 14)
  && decide (h.getD 11 0 < 128) && decide (b12 ≤ 8)

/-- The frame of a header and its payload. -/
def kyFrameOf (h payload : List Nat) : KyFrame :=
  { ftype := h.getD 0 0 / 4 % 16, seg := h.getD 1 0 / 16, more := h.getD 1 0 / 8 % 2 == 1, secured := h.getD 1 0 / 2 % 2 == 1, cell := natField h 2 2,
    next := natField h 4 3 % 4096, last := natField h 4 3 / 4096, dst := natField h 7 3 % 4096, src := natField h 7 3 / 4096, seq := h.getD 10 0,
    hopsLeft := h.getD 12 0, payload := payload.map (BitVec.ofNat 8) }

/-- The bytes that follow the sync word of a data frame. -/
def kyRead (inter : Nat) (rx : List Byte) : KyRx :=
  let b := rx.map (·.toNat)
  match rsDecode (b.take 32) with
  | none => .failed 1
  | some (w, e) =>
    let h := whiten (w.take 16)
    if !kyHeaderOk h then .dropped e
    else
      let len := h.getD 11 0
      let d := kyWords inter len
      let lens := (kyShares d (len - 3)).map (· + 16)
      let got := (interOrder lens).zip (b.drop 32)
      let cs := (upTo d).map fun k => rsDecode ((got.filter (·.1.1 == k)).map (·.2))
      let bad := (cs.filter (·.isNone)).length
      if bad ≠ 0 || got.length ≠ lens.sum then .failed (max 1 bad)
      else
        let data := w.take 16 ++ (cs.zip (kyShares d (len - 3))).flatMap fun x => ((x.1.getD ([], 0)).1).take x.2
        .frame (kyFrameOf h (((whiten data).drop 13).take len)) (e + (cs.map fun x => (x.getD ([], 0)).2).sum)

end Sys2Proof.Machine
end

