-- ==== Sys2Proof/Machine/Kyoti.lean ====
section
/-!
DEFINITION. Machine/Kyoti.lean: the power-line link (R621 to R668): mains time, superframes, transactions, joining, routing,
phase, mesh commands, the host's descriptors, and federation.
-/
namespace Sys2Proof

/-! ### Layout (R631, R635 to R637) -/

def kyBaud (rate : Nat) : Nat := if rate = 0 then 1200 else if rate = 1 then 2400 else 4800

/-- N of a data frame of `len` payload bytes (R631). -/
def kySymbols (inter len : Nat) : Nat :=
  let d := if len ≤ 3 then 0 else min inter (len - 3)
  24 + 4 * (32 + (len - 3) + 16 * d)

/-- A frame of `len` bytes fits a slot of `units` at 52 or 62.4 Hz with 1 ms before and after it (R635, R636). -/
def KyCfg.fits (c : KyCfg) (units len : Nat) : Bool :=
  let b := kyBaud c.rate; let f := if c.nom60 then 624 else 520
  decide (kySymbols c.interleave len * 1000 * f + 2 * b * f ≤ units * 10000 * b)

/-- The lengths in units of the slots of a superframe that a nibble code starts and another continues. -/
def slotLens (start cont : Nat) : List Nat → List Nat
  | [] => []
  | c :: r => if c = start then (1 + (r.takeWhile (· == cont)).length) :: slotLens start cont r else slotLens start cont r

/-- The units of the superframe with this parity. -/
def sfUnits (layout : List Nat) (cycle2 odd : Bool) : List Nat := if cycle2 && odd then (layout.drop 16).take 16 else layout.take 16

/-- The largest LEN that fits. -/
def KyCfg.maxLen (c : KyCfg) (units : Nat) : Nat := (((upTo 128).reverse.find? fun n => c.fits units n)).getD 0

def KyCfg.polled (c : KyCfg) : List Nat := slotLens 1 2 (sfUnits c.layout c.cycle2 false) ++ (if c.cycle2 then slotLens 1 2 (sfUnits c.layout true true) else [])
def KyCfg.subSlots (c : KyCfg) : List Nat := slotLens 3 4 (sfUnits c.layout c.cycle2 false) ++ (if c.cycle2 then slotLens 3 4 (sfUnits c.layout true true) else [])
def KyCfg.lenP (c : KyCfg) : Nat := match c.polled with | [] => 0 | a :: r => c.maxLen (r.foldl min a)
def KyCfg.lenC (c : KyCfg) : Nat := match c.subSlots with | [] => 0 | a :: r => c.maxLen (r.foldl min a)
def KyCfg.msgMax (c : KyCfg) : Nat := 16 * c.lenP - 13

def KyFrame.ok (f : KyFrame) (cell ftype : Nat) : Bool :=
  f.ftype == ftype && f.cell == cell && decide (f.seg < 16) && decide (f.payload.length ≤ 127) && decide (f.hopsLeft ≤ 8)

end Sys2Proof

namespace Sys2Proof.Machine

def State.setKy (s : State) (k : KySt) : State := { s with ky := k }
def KySt.node (k : KySt) (n : Nat) : KyNode := tabGet {} k.nodes n
def State.kyNode (s : State) (n : Nat) : KyNode := s.ky.node n
def State.setNode (s : State) (n : Nat) (x : KyNode) : State := s.setKy { s.ky with nodes := tabSet s.ky.nodes n x }
def State.kySf (s : State) : Nat := (s.reg .KY_SF 0).toNat
/-- KY_STATUS.STATE: 0 off, 1 starting, 2 running, 3 silent. -/
def State.kyState (s : State) : Nat := s.get Fld.KY_STATUS__STATE 0
def State.kyRuns (s : State) : Bool := s.kyState == 2

def kyBroadcast : Nat := 0xFFF
/-- The MTYPE under which a PING waits in the coordinator's queue. -/
def kyPing : Nat := 0x100

/-! ### Frames (R632, R655) -/

/-- The header of a downward frame (R632). -/
def kyHeader (cell ftype seg : Nat) (more ack secured bc : Bool) (next dst seq len hops : Nat) : List Nat :=
  let last := 0
  ([0x40 + ftype % 16 * 4, seg % 16 * 16 + b2n more * 8 + b2n ack * 4 + b2n secured * 2 + b2n bc, cell % 256, cell / 256 % 64]
    ++ (leBytes 3 (next % 4096 + last * 4096)).map (·.toNat) ++ (leBytes 3 (dst % 4096)).map (·.toNat) ++ [seq % 256, len % 128, hops % 16])

/-- The key stream of CCM under a key and a nonce, as long as `plain` (R655): what it is XORed with is the same both ways; its values are
opaque (log entry 3). -/
def ccmStream (key : Nat) (nonce : List Nat) (plain : List Byte) : List Byte :=
  leBytes plain.length (Nat.xor (leNat plain) (Config.digest 10 (key :: nonce) % 2 ^ (8 * plain.length)))
def ccmMic (key : Nat) (nonce : List Nat) (plain : List Byte) : List Byte := leBytes 8 (Config.digest 11 (key :: nonce ++ plain.map (·.toNat)))

/-- A secured message: MTYPE, FC, ciphertext and MIC (R655). -/
def kySecure (key cell src dst fc mtype : Nat) (plain : List Byte) : List Byte :=
  let nonce := [cell, src, dst, fc, mtype]
  [BitVec.ofNat 8 mtype] ++ leBytes 4 fc ++ ccmStream key nonce plain ++ ccmMic key nonce plain

/-- The contents of a secured message's bytes after MTYPE; none where its MIC fails. -/
def kyUnseal (key cell src dst mtype : Nat) (b : List Byte) : Option (List Byte) :=
  let nonce := [cell, src, dst, field b 0 4, mtype]
  let plain := ccmStream key nonce ((b.drop 4).take (b.length - 12))
  if b.length < 12 || b.drop (b.length - 8) != ccmMic key nonce plain then none else some plain

/-- R654: the key of a node, by its UID, or the broadcast key. -/
def State.kyKey (s : State) (uid : Option Nat) : Nat :=
  let slot := s.cfg.ky.keySlot
  match uid with
  | some u => kdf (s.keyOf slot) [78, 79, 68, 69] (leBytes 8 u) (s.keyGen slot) 1
  | none => kdf (s.keyOf slot) [66, 67, 65, 83, 84] [] (s.keyGen slot) 1

/-- Cut a message into segments of at most `n` bytes (R633). -/
def kySegments (n : Nat) : Nat → List Byte → List (List Byte)
  | 0, _ => []
  | k + 1, b => if b.length ≤ n then [b] else b.take n :: kySegments n k (b.drop n)

/-- A frame of the coordinator goes onto the line, by the frequencies of its symbols: a beacon (kind 1), or a data frame's header and payload. -/
def State.kySendFrame (s : State) (kind : Nat) (bytes : List Nat) : State :=
  let c := s.cfg.ky
  let code := if kind = 1 then rsEncode (whiten bytes) else kyCode c.interleave (bytes.length - 13) (kyData (bytes.take 13) (bytes.drop 13))
  (s.bump Fld.KY_TX_FRAMES__VALUE 0 1).emit (.kyTx c.level kind ((kyTones (kind == 1) code).map (toneHz c.fBase (kyBaud c.rate))))

/-! ### Mains time and superframes (R627, R628, R634, R663) -/

/-- A unit begins; a superframe begins with unit 0. -/
def State.kyUnit (s : State) : State :=
  if !s.kyRuns then s
  else
    let u := (s.ky.unit + 1) % 16
    let s := s.setKy { s.ky with unit := u }
    if u ≠ 0 then s
    else
      let s := s.setReg .KY_SF 0 (s.reg .KY_SF 0 + 1)
      -- R666: a new layout is announced in 4 superframes and then takes effect
      match s.ky.nextLayout with
      | none => s
      | some (l, 0) => s.setKy { s.ky with layout := l, layoutId := (s.ky.layoutId + 1) % 16, nextLayout := none }
      | some (l, k + 1) =>
        let m : KyMsg := { dst := kyBroadcast, mtype := 8, bytes := l.map (BitVec.ofNat 8), secured := true }
        s.setKy { s.ky with nextLayout := some (l, k), queue := s.ky.queue ++ [m] }

/-- T in µs: the mean of the latest intervals, or the nominal period. -/
def State.kyT (s : State) : Nat :=
  if s.ky.ivals.isEmpty then (if s.cfg.ky.nom60 then 16667 else 20000) else s.ky.ivals.sum / s.ky.ivals.length

/-- R635, R636: a frame of `n` symbols ends 1 ms before the end of a slot of `units` at the present unit length. -/
def State.kyFitsNow (s : State) (units n : Nat) : Bool :=
  let b := kyBaud s.cfg.ky.rate
  decide (n * 1000000 + 2000 * b ≤ units * s.kyT * b)

/-- The length in units of the polled slot that begins now. -/
def State.kySlotUnits (s : State) : Nat :=
  1 + (((sfUnits s.ky.layout s.cfg.ky.cycle2 (s.kySf % 2 == 1)).drop (s.ky.unit + 1)).takeWhile (· == 2)).length

/-- Does a data frame of `len` payload bytes fit this slot? -/
def State.kySlotFits (s : State) (len : Nat) : Bool := s.kyFitsNow s.kySlotUnits (kySymbols s.cfg.ky.interleave len)

/-- KY_ZERO_CROSSING (R627, R628): a positive-going crossing at a time in µs. -/
def execKyZeroCrossing (t : Nat) (s : State) : Res :=
  if !s.variant.hasKyoti || !s.dieRuns .ddie then .next s
  else
  let s := s.put Fld.KY_STATUS__ZC 0 1
  let k := s.ky
  match k.zc with
  | none => .next (s.setKy { k with zc := some t })
  | some z =>
    let d := t - z
    if d * 10 < s.kyT * 8 then .next s
    else
      let regular := decide (2 * d ≤ 3 * s.kyT)
      let s := s.setKy { k with zc := some t, ivals := if regular then (d :: k.ivals).take 4 else k.ivals }
      if s.flag Fld.KY_STATUS__ZC_LOST 0 then
        let n := if regular then k.regular + 1 else 0
        let s := s.setKy { s.ky with regular := n }
        .next (if n < 3 then s else (s.put Fld.KY_STATUS__ZC_LOST 0 0).kyUnit)
      else .next s.kyUnit

/-- ZC_LOST (R627): no crossing within 1.5 T. While it stands, each further one is a unit of the nominal period. -/
def execZcLost (s : State) : Res :=
  if !s.variant.hasKyoti then .next s
  else if s.flag Fld.KY_STATUS__ZC_LOST 0 then .next s.kyUnit
  else
    let s := (s.put Fld.KY_STATUS__ZC_LOST 0 1).put Fld.KY_ERR__ZC_LOST 0 1
    .next ((s.setKy { s.ky with regular := 0 }).postBoth { code := 0xA09, sev := 1 }).kyUnit

/-- CELL_START (R663). -/
def execCellStart (s : State) : Res :=
  if s.kyState ≠ 1 then .next s
  else
    let e := s.devTime / 1000000 % 256
    let s := (s.put Fld.KY_STATUS__STATE 0 2).put Fld.KY_STATUS__EPOCH 0 (if e = 0 then 1 else e)
    .next ((s.setReg .KY_SF 0 0).setKy { s.ky with unit := 0, roundAt := 0, relayAt := [] })

/-- BEACON_TRANSMIT (R634, R635). -/
def execBeaconTransmit (s : State) : Res :=
  if !s.kyRuns || s.ky.fault || s.ky.unit ≠ 0 || !s.kyFitsNow ((s.ky.layout.takeWhile (· == 0)).length) 120 then .next s
  else
    let cell := s.cfg.ky.device
    let body := [s.ky.layoutId % 16, cell % 256, cell / 256 % 64 + 64 * b2n (s.flag Fld.KY_STATUS__JOIN_OPEN 0), s.kySf % 256, s.get Fld.KY_STATUS__EPOCH 0, 0, 0, 0]
    .next (s.kySendFrame 1 body)

/-! ### Routing (R649 to R651) -/

/-- The ratio of frames from `a` received at `b`, of 255; none while it is missing. The coordinator's own come from its transactions. -/
def State.kyRatio (s : State) (a b : Nat) : Option Nat :=
  if b = 0 then
    match tabFind s.ky.own a with
    | none => none
    | some l => if l.length < 8 then none else some ((l.filter id).length * 255 / l.length)
  else tabFind s.ky.ratio (a, b)

/-- R650: the cost of a link; none where it is unusable or a ratio is missing. -/
def State.linkCost (s : State) (a b : Nat) : Option Nat :=
  match s.kyRatio a b, s.kyRatio b a with
  | some x, some y =>
    if x = 0 || y = 0 then none
    else
      let c := (divHalfEven (16 * 255 * 255 : Nat) (x * y)).toNat
      if 128 < c then none else some c
  | _, _ => none

/-- A link that has become unusable: a ratio known to be 0, or a cost above 128. -/
def State.linkBroken (s : State) (a b : Nat) : Bool :=
  s.kyRatio a b == some 0 || s.kyRatio b a == some 0 || ((s.kyRatio a b).isSome && (s.kyRatio b a).isSome && (s.linkCost a b).isNone)

abbrev KyRoute := Nat × List Nat

/-- The node before the last of a route: its parent, 0 the coordinator. -/
def routeParent (r : List Nat) : Nat := (r.dropLast.getLast?).getD 0

/-- R651: is the first route the better one? -/
def KyRoute.better (a b : KyRoute) : Bool :=
  decide (a.1 < b.1) || (a.1 == b.1 && (decide (a.2.length < b.2.length) || (a.2.length == b.2.length && decide (routeParent a.2 < routeParent b.2))))

def bestRoute : List KyRoute → Option KyRoute
  | [] => none
  | a :: r => match bestRoute r with | none => some a | some b => if b.better a then some b else some a

/-- The nodes that belong to the cell. -/
def State.kyMembers (s : State) : List Nat := ((s.ky.nodes.filter fun x => x.2.st == 1 || x.2.st == 2).map (·.1)).filter (· != 0)

/-- How many nodes' routes lead through a relay. -/
def State.kyThrough (s : State) (q : Nat) : Nat := (s.ky.nodes.filter fun x => x.1 != q && (x.2.route.dropLast).contains q).length

/-- May a node relay for another? -/
def State.kyRelayOk (s : State) (q : Nat) : Bool :=
  let x := s.kyNode q
  x.st == 2 && x.routeCap && decide (s.kyThrough q < 256 * x.cap)

/-- The best path of at most `k` hops to each node that can be reached. -/
def State.kyPaths (s : State) : Nat → List (Nat × KyRoute)
  | 0 => [(0, (0, []))]
  | k + 1 =>
    let old := s.kyPaths k
    (0, (0, [])) :: s.kyMembers.filterMap fun n =>
      let via := old.filterMap fun x =>
        if x.1 = n || x.2.2.contains n || (x.1 != 0 && !s.kyRelayOk x.1) then none
        else (s.linkCost x.1 n).map fun c => (x.2.1 + c, x.2.2 ++ [n])
      (bestRoute via).map (n, ·)

/-- All candidate routes of a node of at most 8 hops, one for each parent. -/
def State.kyRoutes (s : State) (n : Nat) : List KyRoute :=
  (s.kyPaths 7).filterMap fun x =>
    if x.1 = n || x.2.2.contains n || (x.1 != 0 && !s.kyRelayOk x.1) then none
    else (s.linkCost x.1 n).map fun c => (x.2.1 + c, x.2.2 ++ [n])

/-- The second-best route: the cheapest with another first relay. -/
def State.kySecond (s : State) (n : Nat) (r : List Nat) : Option KyRoute := bestRoute ((s.kyRoutes n).filter fun x => routeParent x.2 != routeParent r)

/-- The links of a route. -/
def routeLinks (r : List Nat) : List (Nat × Nat) := (0 :: r).zip r

/-- KY_STATUS.NODES. -/
def State.kyCount (s : State) : State := s.put Fld.KY_STATUS__NODES 0 (min 4095 (s.ky.nodes.filter fun x => x.2.st == 2).length)

/-- Route sets to relays, the nearest first (R651); their contents are not given (log entry 1). -/
def State.kyRouteSets (s : State) (relays : List Nat) : State :=
  relays.foldl (fun s q =>
    let (w, s) := s.drawWord
    s.setKy { s.ky with queue := s.ky.queue ++ [{ dst := q, mtype := 7, bytes := leBytes 4 w.toNat, secured := true }] }) s

/-- R662: a federation frame's body goes to a device's MAC address, on the first port whose link is up, with its CMAC. -/
def State.kyFedSend (s : State) (dev : Nat) (body : List Byte) : State :=
  let slot := s.cfg.ky.fedSlot
  let mac := leBytes 8 (Config.digest 12 (s.keyOf slot :: body.map (·.toNat)))
  (s.useKey 2 slot).ethSend (if s.ptpOn 0 then 0 else 1) 0x88B5 (tabGet 0 s.cfg.ky.fed dev :: (body ++ mac).map (·.toNat))

/-- R662: the result of a federated message goes back to its sender. -/
def State.kyFedResult (s : State) (dev tag status : Nat) : State :=
  s.kyFedSend dev ([1, 2] ++ leBytes 2 s.cfg.ky.device ++ leBytes 2 dev ++ leBytes 2 0 ++ leBytes 4 tag ++ leBytes 2 0 ++ leBytes 2 status)

/-- A message of the queue has its outcome. -/
def State.kyOutcome (s : State) (m : KyMsg) (status result : Nat) : State :=
  let s := match m.t with | some t => s.fin t status result | none => s
  match m.fed with | some (d, tag) => s.kyFedResult d tag status | none => s

/-- A node becomes LOST (R640): what waits for it completes. -/
def State.kyLose (s : State) (n : Nat) : State :=
  let x := s.kyNode n
  let s := s.setNode n { x with st := 3, part := none }
  let mine := s.ky.queue.filter (·.dst == n)
  let s := s.setKy { s.ky with queue := s.ky.queue.filter (·.dst != n), tx := if s.ky.tx.any (·.node == n) then none else s.ky.tx }
  let s := mine.foldl (fun s m => s.kyOutcome m stCapacity 2) s
  (s.postBoth { code := 0xA03, sev := 1, obj := n, data := min 65535 x.lostRun }).kyCount

/-- R651: one node's route under the costs now known. -/
def State.kyReroute1 (s : State) (n : Nat) : State :=
  let x := s.kyNode n
  if x.st ≠ 2 then s
  else
    let broken := (routeLinks x.route).any (fun l => s.linkBroken l.1 l.2) || x.route.dropLast.any fun q => (s.kyNode q).st != 2
    let costs := (routeLinks x.route).map fun l => s.linkCost l.1 l.2
    let cost := if costs.all (·.isSome) then (costs.map (·.getD 0)).sum else x.cost
    match bestRoute (s.kyRoutes n) with
    | none => if broken then s.kyLose n else s.setNode n { x with cost := cost }
    | some (c, r) =>
      if !broken && (r = x.route || cost * 3 < c * 4) then s.setNode n { x with cost := cost }
      else if r = x.route then s.setNode n { x with cost := c }
      else
        let s := s.setNode n { x with route := r, cost := c, hops := r.length }
        (s.kyRouteSets r.dropLast).postBoth { code := 0xA05, sev := 0, obj := n, data := min 65535 c }

def State.kyReroute (s : State) : State := s.kyMembers.foldl (fun s n => s.kyReroute1 n) s

/-- One frame expected from a direct neighbour by the coordinator, received or not. -/
def State.kyHeard (s : State) (q : Nat) (got : Bool) : State := s.setKy { s.ky with own := tabSet s.ky.own q ((got :: tabGet [] s.ky.own q).take 32) }

/-! ### Phase (R652, R653) -/

/-- The code of a measured θ. -/
def phaseOf (theta : Nat) : Nat :=
  let lag := (256 - theta % 256) % 256
  match (upTo 6).find? fun k => let d := (lag * 6 + 1536 - k * 256) % 1536; d ≤ 64 || 1472 ≤ d with
  | some k => k
  | none => 7

def insertNat (a : Nat) : List Nat → List Nat
  | [] => [a]
  | b :: r => if a ≤ b then a :: b :: r else b :: insertNat a r
/-- The median of measurements. -/
def medianNat (l : List Nat) : Nat := let m := l.foldr insertNat []; m.getD (m.length / 2) 0

/-- A node reports a measurement: the code of the median of its latest five; none counts while ZC_LOST is set. -/
def State.kyTheta (s : State) (n theta : Nat) : State :=
  if s.flag Fld.KY_STATUS__ZC_LOST 0 then s
  else
    let x := s.kyNode n
    let l := (theta :: x.theta).take 5
    s.setNode n { x with theta := l, phase := phaseOf (medianNat l) }

/-! ### Transactions (R638 to R642) -/

/-- The message's segments, formed at its first transmission under the next frame counter. -/
def State.kyForm (s : State) (m : KyMsg) : KyMsg × State :=
  match m.segs with
  | some _ => (m, s)
  | none =>
    let c := s.cfg.ky
    let bc := m.dst == kyBroadcast
    let fc := (if bc then s.ky.bfc else (s.kyNode m.dst).fcOut) + 1
    let key := s.kyKey (if bc then none else some (s.kyNode m.dst).uid)
    let bytes := if m.secured then kySecure key c.device 0 m.dst fc m.mtype m.bytes else BitVec.ofNat 8 m.mtype :: m.bytes
    let segs := kySegments (max 1 (s.get Fld.KY_LAYOUT__LEN_P 0)) 16 bytes
    let s := if bc then s.setKy { s.ky with bfc := fc, bseq := s.ky.bseq + 1 }
      else s.setNode m.dst { s.kyNode m.dst with fcOut := fc, seq := (s.kyNode m.dst).seq + 1 }
    ({ m with segs := some segs }, s)

/-- Send the due frame of the transaction in progress; one that would overrun its slot waits for the next (R636). -/
def State.kySendTx (s : State) (t : KyTx) : State :=
  let x := s.kyNode t.node
  let cell := s.cfg.ky.device
  let next := t.route.headD t.node
  let msg := if t.msg then s.ky.queue.head? else none
  let p := match msg with | some m => (m.segs.getD []).getD m.seg [] | none => []
  if !s.kySlotFits p.length then s.setKy { s.ky with tx := some t }
  else
    let s := s.setKy { s.ky with tx := some { t with due := false, slots := 2 * t.route.length - 1 } }
    match msg with
    | some m => s.kySendFrame 0 (kyHeader cell 1 m.seg (decide (m.seg + 1 < (m.segs.getD []).length)) x.ack m.secured false next t.node x.seq p.length 8 ++ p.map (·.toNat))
    | none => s.kySendFrame 0 (kyHeader cell 2 0 false x.ack false false next t.node x.seq 0 8)

/-- The cell's greatest hop count. -/
def State.kyDepth (s : State) : Nat := (s.ky.nodes.filter fun x => x.2.st == 2).foldl (fun h x => max h x.2.hops) 0

/-- A polled slot for the head of the queue. A secured message for which no cell key can be used fails (R654, R699). -/
def State.kyServe (s : State) (m : KyMsg) : State :=
  if m.mtype = kyPing then
    let t : KyTx := { node := m.dst, route := (s.kyNode m.dst).route, ping := m.t, since := s.time }
    (s.setKy { s.ky with queue := s.ky.queue.drop 1 }).kySendTx t
  else if m.secured && m.segs.isNone && !s.cellKey s.cfg.ky.keySlot then
    (s.setKy { s.ky with queue := s.ky.queue.drop 1 }).kyOutcome m stCapacity 4
  else
    let s := if m.secured && m.segs.isNone then
        s.useNodeKey s.cfg.ky.keySlot (if m.dst = kyBroadcast then none else some (s.kyNode m.dst).uid)
      else s
    let (m, s) := s.kyForm m
    let segs := m.segs.getD []
    let s := s.setKy { s.ky with queue := m :: s.ky.queue.drop 1 }
    if m.dst = kyBroadcast then
      let p := segs.getD m.seg []
      let more := decide (m.seg + 1 < segs.length)
      if !s.kySlotFits p.length then s
      else
      let s := s.kySendFrame 0 (kyHeader s.cfg.ky.device 1 m.seg more false m.secured true kyBroadcast kyBroadcast s.ky.bseq p.length 8 ++ p.map (·.toNat))
      let s := s.setKy { s.ky with hold := s.kyDepth }
      if more then s.setKy { s.ky with queue := { m with seg := m.seg + 1 } :: s.ky.queue.drop 1 }
      else (s.setKy { s.ky with queue := s.ky.queue.drop 1 }).kyOutcome m stDone 0
    else s.kySendTx { node := m.dst, route := (s.kyNode m.dst).route, msg := true, since := s.time }

/-- A routine poll: the next member by address (R639). -/
def State.kyRoutine (s : State) : State :=
  let l := s.kyMembers.foldr insertNat []
  match l.find? (s.ky.last < ·) with
  | some n =>
    let s := s.setKy { s.ky with last := n }
    let s := s.setNode n { s.kyNode n with seq := (s.kyNode n).seq + 1 }
    s.kySendTx { node := n, route := (s.kyNode n).route, since := s.time }
  | none => match l with
    | [] => s
    | n :: _ =>
      let s := s.put Fld.KY_LIMITS__POLL_ROUND 0 (min 65535 (s.kySf - s.ky.roundAt))
      let s := s.setKy { s.ky with last := n, roundAt := s.kySf }
      s.kySendTx { node := n, route := (s.kyNode n).route, since := s.time }

/-- R648: the frame of a leave to a node that has been removed, without an answer to wait for. -/
def State.kyLeaveFrame (s : State) (m : KyMsg) : State :=
  let p := (m.segs.getD []).headD []
  if !s.kySlotFits p.length then s
  else (s.setKy { s.ky with queue := s.ky.queue.drop 1 }).kySendFrame 0
    (kyHeader s.cfg.ky.device 1 0 false false m.secured false (m.route.headD m.dst) m.dst m.seg p.length 8 ++ p.map (·.toNat))

/-- POLLED_SLOT (R638, R639, R641, R642). -/
def execPolledSlot (s : State) : Res :=
  let k := s.ky
  let units := sfUnits k.layout s.cfg.ky.cycle2 (s.kySf % 2 == 1)
  if !s.kyRuns || k.fault || units.getD k.unit 5 ≠ 1 then .next s
  else if k.hold ≠ 0 then .next (s.setKy { k with hold := k.hold - 1 })
  else match k.tx with
    | some t => .next (if t.due then s.kySendTx t else s.setKy { k with tx := some { t with slots := t.slots - 1 } })
    | none =>
      let relays := s.kyMembers.filter fun q => decide (0 < s.kyThrough q)
      match relays.find? fun q => decide (tabGet 0 k.relayAt q + s.cfg.ky.relayInterval ≤ s.kySf) with
      | some q => .next (s.setKy { k with relayAt := tabSet k.relayAt q s.kySf })
      | none => match k.queue with
        | [] => .next s.kyRoutine
        | m :: r =>
          let x := s.kyNode m.dst
          if !m.route.isEmpty then .next (s.kyLeaveFrame m)
          else if m.dst ≠ kyBroadcast && x.st ≠ 1 && x.st ≠ 2 then .next ((s.setKy { k with queue := r }).kyOutcome m stCapacity (if x.st = 3 then 2 else 1))
          else .next (s.kyServe m)

/-- The answer of a node completes its transaction (R638): its segment counts as delivered; a joining node has joined. -/
def State.kyAnswered (s : State) (t : KyTx) (up : Bool) : State :=
  let x := s.kyNode t.node
  let s := s.setNode t.node { x with okN := x.okN + 1, lostRun := 0, heard := s.kySf, ack := up, st := if x.st = 1 then 2 else x.st }
  let s := (s.setKy { s.ky with tx := none }).kyHeard (t.route.headD t.node) true
  let s := if x.st = 1 then (s.postBoth { code := 0xA01, sev := 0, obj := t.node, data := x.hops % 16 + x.phase * 16 }).kyCount else s
  let s := match t.ping with | some k => s.fin k stDone ((s.time - t.since) / 1000) | none => s
  if !t.msg then s
  else match s.ky.queue with
    | [] => s
    | m :: r =>
      let n := (m.segs.getD []).length
      if m.seg + 1 < n then s.setKy { s.ky with queue := { m with seg := m.seg + 1 } :: r }
      else (s.setKy { s.ky with queue := r }).kyOutcome m stDone (min 255 t.route.length + min 255 t.attempts * 256 + n % 16 * 65536)

/-- A frame whose header is out of place is discarded (R632). -/
def State.kyDrop (s : State) : State := (s.bump Fld.KY_RX_DROPPED__VALUE 0 1).setPower { s.power with kyFrame := false }

/-- The counts of a received frame with a valid codeword 0. -/
def State.kyReceived (s : State) (corrected : Nat) : State :=
  ((s.bump Fld.KY_RX_FRAMES__VALUE 0 1).bump Fld.KY_RS_CORRECTED__VALUE 0 corrected).setPower { s.power with kyFrame := false }

/-- R633: the next segment of a message: what is held after it, and the message if it is whole. A lost segment discards all. -/
def kyJoinSeg (part : Option (Nat × Nat × Bool × List Byte)) (f : KyFrame) : Option (Nat × Nat × Bool × List Byte) × Option (Bool × List Byte) :=
  let bytes := if f.seg = 0 then some f.payload else match part with
    | some (_, k, _, b) => if k = f.seg then some (b ++ f.payload) else none
    | none => none
  match bytes with
  | none => (none, none)
  | some b => if f.more then (some (f.seq, f.seg + 1, f.secured, b), none) else (none, some (f.secured, b))

/-- A whole message waits to be acted on. -/
def State.kyArrived (s : State) (src via : Nat) (m : Option (Bool × List Byte)) : State :=
  match m with
  | some (sec, t :: b) => s.setKy { s.ky with inbox := s.ky.inbox ++ [{ src := src, via := via, mtype := t.toNat, secured := sec, bytes := b }] }
  | _ => s

/-- R632, R643: a frame that is discarded: codewords not correctable, or a header out of place; `sub`: in a contention sub-slot. -/
def State.kyDiscard (s : State) (failed : Nat) (sub : Bool) : State :=
  if failed = 0 then s.kyDrop
  else
    let s := (s.bump Fld.KY_RS_FAILED__VALUE 0 failed).setPower { s.power with kyFrame := false }
    if sub then s.bump Fld.KY_COLLISIONS__VALUE 0 1 else s

/-- A frame received in the cell, given by the bytes after its sync word: discarded, or counted and taken by `k` if it is of this type
and for the coordinator. -/
def State.kyTakeFrame (s : State) (rx : List Byte) (ftype : Nat) (k : KyFrame → State → State) : State :=
  if !s.kyRuns then s
  else match kyRead s.cfg.ky.interleave rx with
  | .failed n => s.kyDiscard n (ftype == 5)
  | .dropped _ => s.kyDrop
  | .frame f e =>
    if !f.ok s.cfg.ky.device ftype || f.next ≠ 0 then s.kyDrop else k f (s.kyReceived e)

/-- The answer of the node whose transaction is in progress: its SEQ echoes the frame that it answers (R632). -/
def State.kyAnswers (s : State) (f : KyFrame) (t : KyTx) : Bool := t.node == f.src && !t.due && f.seq == (s.kyNode f.src).seq % 256

/-- UP (R638): the node's answer with a segment. -/
def execUp (rx : List Byte) (s : State) : Res :=
  .next (s.kyTakeFrame rx 3 fun f s =>
    match s.ky.tx with
    | some t =>
      if !s.kyAnswers f t then s
      else
        let (p, m) := kyJoinSeg (s.kyNode f.src).part f
        let s := s.setNode f.src { s.kyNode f.src with part := p }
        (s.kyAnswered t true).kyArrived f.src f.src m
    | none => s)

/-- IDLE (R638): the node's answer without a segment. -/
def execIdle (rx : List Byte) (s : State) : Res :=
  .next (s.kyTakeFrame rx 4 fun f s =>
    match s.ky.tx with
    | some t => if s.kyAnswers f t then s.kyAnswered t false else s
    | none => s)

/-- CONTENTION (R643): a segment in a contention sub-slot, for the coordinator. -/
def execContention (rx : List Byte) (s : State) : Res :=
  .next (s.kyTakeFrame rx 5 fun f s =>
    let (p, m) := kyJoinSeg (tabFind s.ky.parts (f.src, f.last)) f
    let s := s.setKy { s.ky with parts := match p with | some x => tabSet s.ky.parts (f.src, f.last) x | none => tabErase s.ky.parts (f.src, f.last) }
    let s := if (s.kyNode f.src).st = 2 then s.setNode f.src { s.kyNode f.src with ack := true } else s
    s.kyArrived f.src 0 m)

/-- A transaction has failed for good (R640). -/
def State.kyFailed (s : State) (t : KyTx) : State :=
  let x := s.kyNode t.node
  let s := s.setNode t.node { x with failN := x.failN + 1, lostRun := x.lostRun + 1 }
  let s := s.setKy { s.ky with tx := none }
  let s := match t.ping with | some k => s.fin k stCapacity 4 | none => s
  let s := if !t.msg then s else match s.ky.queue with
    | [] => s
    | m :: r => (s.setKy { s.ky with queue := r }).kyOutcome m stCapacity 4
  if x.lostRun + 1 < s.cfg.ky.lostPolls then s else (s.kyLose t.node).kyReroute

/-- The transaction is repeated, then once on the second-best route, then fails. -/
def State.kyAgain (s : State) (t : KyTx) : State :=
  if t.second then s.kyFailed t
  else if t.attempts ≤ s.cfg.ky.retries then s.setKy { s.ky with tx := some { t with attempts := t.attempts + 1, due := true, slots := 0 } }
  else match s.kySecond t.node t.route with
    | some (_, r) => s.setKy { s.ky with tx := some { t with attempts := t.attempts + 1, due := true, slots := 0, second := true, route := r } }
    | none => s.kyFailed t

/-- TRANSACTION_TIMEOUT (R640): the transaction in progress with this node has no answer. -/
def execTransactionTimeout (n : Nat) (s : State) : Res :=
  match s.ky.tx with
  | some t => .next (if t.node = n && !t.due then (s.kyHeard (t.route.headD n) false).kyAgain t else s)
  | none => .next s

/-- KYOTI_FRAME_DISCARDED (R632, R643): a frame, by the bytes after its sync word, that is not correctable, or whose VERSION, CELL or fields
are out of place; `sub`: in a contention sub-slot. -/
def execKyotiFrameDiscarded (rx : List Byte) (sub : Bool) (s : State) : Res :=
  .next (if !s.kyRuns then s
    else match kyRead s.cfg.ky.interleave rx with
    | .failed n => s.kyDiscard n sub
    | .dropped _ => s.kyDrop
    | .frame f _ => if f.cell = s.cfg.ky.device then s else s.kyDrop)

/-- LINE_FAULT (R626): 1 current limit, 2 thermal: the frame in progress ends; its transaction is repeated. -/
def execLineFault (why : Nat) (s : State) : Res :=
  if !s.variant.hasKyoti then .next s
  else
  let s := (s.put Fld.KY_ERR__LINE_FAULT 0 1).postBoth { code := 0xA0A, sev := 2, data := why }
  let s := s.setKy { s.ky with fault := true }
  .next (match s.ky.tx with | some t => if t.due then s else s.kyAgain t | none => s)

/-- LINE_FAULT_RECOVERY (R626). -/
def execLineFaultRecovery (s : State) : Res := .next (s.setKy { s.ky with fault := false })

/-! ### Messages (R633, R655 to R658, R661) -/

/-- Take the first whole message of a type from a node. -/
def State.kyTake (s : State) (src mtype : Nat) (k : KyIn → State → State) : State :=
  match s.ky.inbox.find? fun m => m.src == src && m.mtype == mtype with
  | none => s
  | some m => k m (s.setKy { s.ky with inbox := s.ky.inbox.erase m })

/-- R655, R656: the contents of a message: of a secured one if the cell key can be used (R654), its MIC verifies and its FC rises; of an
unsecured one what it carries, unless it must be secured. -/
def State.kyOpen (s : State) (m : KyIn) (must : Bool) (k : List Byte → State → State) : State :=
  if !m.secured then (if must then s.bump Fld.KY_RX_DROPPED__VALUE 0 1 else k m.bytes s)
  else
    let x := s.kyNode m.src
    let fc := field m.bytes 0 4
    let key := s.cellKey s.cfg.ky.keySlot
    let s := if key then s.useNodeKey s.cfg.ky.keySlot (some x.uid) else s
    match (if key && (match x.fcIn with | none => true | some n => decide (n < fc)) then kyUnseal (s.kyKey (some x.uid)) s.cfg.ky.device m.src 0 m.mtype m.bytes else none) with
    | none => (s.put Fld.KY_ERR__AUTH_FAIL 0 1).postBoth { code := 0xA08, sev := 1, obj := m.src }
    | some plain => k plain (s.setNode m.src { x with fcIn := some fc })

/-- R661: host data reaches the queue of the port in KY_CFG.HOST. -/
def State.kyInbound (s : State) (dev node : Nat) (b : List Byte) : State :=
  let s := s.wakeSource 9
  if 256 ≤ s.ky.inq.length then (s.bump Fld.KY_RX_DROPPED__VALUE 0 1).put Fld.KY_ERR__QUEUE_FULL 0 1
  else
    let s := s.setKy { s.ky with inq := s.ky.inq ++ [(dev, node, s.devTime, b)] }
    s.postTo s.cfg.ky.host { code := 0xA06, sev := 0, data := s.ky.inq.length }

/-- HOST_DATA (R661): a reassembled message of a node. -/
def execHostData (n : Nat) (s : State) : Res :=
  .next (s.kyTake n 0 fun m s => s.kyOpen m s.cfg.ky.secure fun b s => s.kyInbound s.cfg.ky.device n b)

/-- ALERT (R643, R661): host data sent in contention. -/
def execAlert (n : Nat) (s : State) : Res :=
  .next (s.kyTake n 9 fun m s => s.kyOpen m s.cfg.ky.secure fun b s => s.kyInbound s.cfg.ky.device n b)

/-- The owner of the object of a command (R175). -/
def State.kyOwner (s : State) (kind obj : Nat) : Port := if kind = 1 then s.switchOwner obj else s.pointOwner obj

/-- R657: a permitted command enters the arbiter at Kyoti rank. -/
def State.kyCommand (s : State) (n : Nat) (b : List Byte) : State :=
  let kind := field b 0 1; let obj := field b 2 2; let v := field b 4 4
  let port := s.kyOwner kind obj
  let t : Ticket := { port := port, sq := 0, cmdId := 0, irqNow := false, epoch := 0, node := some n }
  if !s.cfg.ky.perms.contains (n, kind, obj) || field b 1 1 ≠ 0 then s.kyAnswer n port stProtection 0
  else if kind = 1 then
    if !s.variant.hasDdie then s.kyAnswer n port stAbsent 0
    else if 48 ≤ obj || 1 < v then s.kyAnswer n port stBad 0
    else match s.switchRefusal obj (v == 1) with
      | some (st, r) => s.kyAnswer n port st r
      | none => s.pushSwitch 7 obj (v == 1) (some t) none
  else if 256 ≤ obj then s.kyAnswer n port stBad 0
  else match s.firnOff (s.pcfg obj).die with
    | some x => s.kyAnswer n port stDomainOff x
    | none =>
      if kind = 2 then s.acceptStart { t := none, port := port, src := 7, point := obj, tariff := v, limit := 0, qLimit := 0, plan := (s.pcfg obj).plan, node := some n } false
      else if kind = 3 then s.pushOrder { src := 7, act := .stop obj, t := some t }
      else if kind = 4 then
        if s.limitSuits obj (v / 2 ^ 28) then s.pushOrder { src := 7, act := .limit obj (v / 2 ^ 28) (v % 2 ^ 28), t := some t }
        else s.kyAnswer n port stBad 24
      else s.kyAnswer n port stProtection 0

/-- COMMAND (R656 to R658). -/
def execCommand (n : Nat) (s : State) : Res :=
  .next (s.kyTake n 1 fun m s => s.kyOpen m true fun b s => (s.wakeSource 9).kyCommand n b)

/-- The neighbours of a route report: address and r × 255 (R649). -/
def reportItems : Nat → List Byte → List (Nat × Nat)
  | 0, _ => []
  | k + 1, b => if b.length < 3 then [] else (field b 0 2 % 4096, field b 2 1) :: reportItems k (b.drop 3)

/-- ROUTE_REPORT (R649, R651, R653); `theta`: a measurement that comes with it. -/
def execRouteReport (n : Nat) (theta : Option Nat) (s : State) : Res :=
  .next (s.kyTake n 3 fun m s => s.kyOpen m s.cfg.ky.secure fun b s =>
    let s := s.setKy { s.ky with ratio := (reportItems 16 b).foldl (fun t x => tabSet t (x.1, n) x.2) s.ky.ratio }
    let old := (s.kyNode n).phase
    let s := match theta with | some t => s.kyTheta n t | none => s
    let new := (s.kyNode n).phase
    let s := if old = new then s else (s.kyRouteSets [n]).postBoth { code := 0xA04, sev := 1, obj := n, data := old + new * 16 }
    s.kyReroute)

/-! ### Joining and leaving (R644 to R648) -/

/-- An address with this UID. -/
def State.kyByUid (s : State) (uid : Nat) : Option Nat := (s.ky.nodes.find? fun x => x.2.st != 0 && x.2.uid == uid).map (·.1)

/-- The address that the node table fixes for a UID. -/
def State.kyFixed (s : State) (uid : Nat) : Option Nat :=
  match tabFind s.cfg.ky.nodes uid with
  | some (some a) => if s.ky.unfixed.contains a then none else some a
  | _ => none

/-- R646: the address for a request. -/
def State.kyAddress (s : State) (uid want : Nat) : Option Nat :=
  let free (a : Nat) : Bool := (s.kyNode a).st == 0
  let other : Option Nat := if 1 ≤ want && want ≤ 4095 && free want then some want else (upTo 4096).find? fun a => decide (1 ≤ a) && free a
  match s.kyByUid uid with
  | some a => some a
  | none => match s.kyFixed uid with
    | some a => if free a then some a else other
    | none => other

/-- The layout descriptor (R647). -/
def State.kyLayoutBytes (s : State) : List Byte :=
  let c := s.cfg.ky
  let l := (s.ky.layout ++ List.replicate 32 5).take 32
  [BitVec.ofNat 8 (c.rate % 4 + c.band * 4 + b2n c.cycle2 * 8 + (c.interleave - 1) % 8 * 16), BitVec.ofNat 8 (c.fBase - 350)]
    ++ (upTo 16).map fun k => BitVec.ofNat 8 (l.getD (2 * k) 5 + l.getD (2 * k + 1) 5 * 16)

/-- R645: the first 8 bytes of the AES-CMAC of a request's bytes 0 to 17 under the node key (log entry 3). -/
def State.joinMac (s : State) (b : List Byte) : List Byte := leBytes 8 (Config.digest 13 (s.kyKey (some (field b 0 8)) :: (b.take 18).map (·.toNat)))

/-- JOIN_REQUEST (R645, R646): a request of the requester's `src`. -/
def execJoinRequest (src : Nat) (s : State) : Res :=
  if !s.variant.hasKyoti then .next s
  else .next (s.kyTake src 4 fun m s =>
    let s := s.wakeSource 9
    let b := m.bytes
    let uid := field b 0 8
    let refuse (why : Nat) : State := s.postBoth { code := 0xA0B, sev := 1, obj := uid % 65536, data := why }
    if !s.cellKey s.cfg.ky.keySlot || (b.drop 18).take 8 ≠ s.joinMac b then refuse 3
    else if !s.cfg.ky.nodes.isEmpty && (tabFind s.cfg.ky.nodes uid).isNone then refuse 1
    else match s.kyAddress uid (field b 8 2) with
      | none => refuse 2
      | some a =>
        let old := s.kyNode a
        let route := if m.via = 0 then [a] else (s.kyNode m.via).route ++ [a]
        let x : KyNode := { uid := uid, st := 1, hops := route.length, routeCap := bitAt (field b 10 1) 0, cap := field b 10 1 / 16, route := route,
                            cost := field b 12 2, fcIn := old.fcIn, fcOut := old.fcOut, okN := old.okN, failN := old.failN, seq := old.seq, heard := old.heard }
        let s := (s.setNode a x).kyTheta a (field b 11 1)
        let s := s.kyCount
        let body := leBytes 8 uid ++ leBytes 2 a ++ (b.drop 14).take 4 ++ [BitVec.ofNat 8 (s.kyNode a).phase, BitVec.ofNat 8 route.length]
          ++ leBytes 2 (routeParent route) ++ leBytes 4 ((x.fcIn.getD 0) + 1) ++ [BitVec.ofNat 8 s.ky.layoutId] ++ s.kyLayoutBytes
        s.setKy { s.ky with queue := s.ky.queue ++ [{ dst := a, mtype := 5, bytes := body, secured := true }] })

/-- A node's address becomes free. -/
def State.kyFree (s : State) (n : Nat) : State :=
  let mine := s.ky.queue.filter (·.dst == n)
  let s := s.setKy { s.ky with nodes := tabErase s.ky.nodes n, queue := s.ky.queue.filter (·.dst != n), tx := if s.ky.tx.any (·.node == n) then none else s.ky.tx }
  let s := mine.foldl (fun s m => s.kyOutcome m stCapacity 1) s
  s.kyCount.kyReroute

/-- LEAVE (R648): a node's leave. -/
def execLeave (n : Nat) (s : State) : Res :=
  .next (s.kyTake n 6 fun m s => s.kyOpen m s.cfg.ky.secure fun _ s =>
    if (s.kyNode n).st = 0 then s else (s.kyFree n).postBoth { code := 0xA02, sev := 0, obj := n })

/-- LOST_ADDRESS_EXPIRY (R648): 24 h after a node became LOST. -/
def execLostAddressExpiry (n : Nat) (s : State) : Res := .next (if (s.kyNode n).st = 3 then s.kyFree n else s)

/-- JOIN_WINDOW_EXPIRY (R660). -/
def execJoinWindowExpiry (s : State) : Res := .next (s.put Fld.KY_STATUS__JOIN_OPEN 0 0)

/-! ### The host's descriptors (R659, R660) -/

/-- The messages of a port that wait or are under way (R659). -/
def State.kyPending (s : State) (p : Port) : Nat := (s.ky.queue.filter fun m => m.mtype == 0 && m.t.any (·.port == p)).length + (s.ky.fed.filter fun x => x.2.port == p).length

/-- KYOTI_SEND (R659, R662). -/
def execKyotiSend (d : Desc) (rd : DmaRead) (s : State) : Res :=
  .next (s.withDesc 0x50 d fun t s =>
    let c := s.cfg.ky
    let dev := DescF.par d 0 2; let node := DescF.par d 2 2; let fl := DescF.par d 4 1
    let bc := bitAt fl 0; let plain := bitAt fl 1
    let far := dev ≠ 0 && dev ≠ c.device
    if DescF.bufLen d = 0 || c.msgMax < DescF.bufLen d then s.fin t stBad 16
    else if 2 ^ 14 ≤ dev then s.fin t stBad 25
    else if node = 0 && !bc then s.fin t stBad 26
    else if 4096 ≤ node then s.fin t stBad 27
    else if 4 ≤ fl then s.fin t stBad 28
    else match DescF.parNonZero d 5 with
      | some k => s.fin t stBad (24 + k)
      | none =>
        let st := (s.kyNode node).st
        if !far && !bc && st ≠ 2 && st ≠ 3 then s.fin t stCapacity 1
        else if !far && !bc && st = 3 then s.fin t stCapacity 2
        else if 64 ≤ s.kyPending d.port then (s.put Fld.KY_ERR__QUEUE_FULL 0 1).fin t stCapacity 3
        else if far && (tabFind c.fed dev).isNone then s.fin t stCapacity 5
        else if plain && c.secure then s.fin t stCapacity 6
        else if !s.kyRuns && !far then s.fin t stCapacity 7
        else s.withRead t d rd fun b s =>
          let b := b.take (DescF.bufLen d)
          if !far then s.setKy { s.ky with queue := s.ky.queue ++ [{ dst := if bc then kyBroadcast else node, mtype := 0, bytes := b, secured := !plain, t := some t }] }
          else
            if !s.keyUsable c.fedSlot [1, 2] 2 then s.fin t stCapacity 4
            else
            let tag := s.ky.tag
            let body := [1, 1] ++ leBytes 2 c.device ++ leBytes 2 dev ++ leBytes 2 (if bc then 0 else node) ++ leBytes 4 tag ++ leBytes 2 b.length ++ leBytes 2 0 ++ b
            let s := s.setKy { s.ky with fed := s.ky.fed ++ [(tag, t)], tag := tag + 1 }
            s.kyFedSend dev body)

/-- SEND_START_TIMEOUT (R659): a KYOTI_SEND has not started within 600 s. -/
def execSendStartTimeout (p : Port) (q cmdId : Nat) (s : State) : Res :=
  .next (match s.ky.queue.find? fun m => m.mtype == 0 && m.segs.isNone && m.t.any fun t => t.port == p && t.sq == q && t.cmdId == cmdId with
    | none => s
    | some m => (s.setKy { s.ky with queue := s.ky.queue.erase m }).kyOutcome m stCapacity 8)

/-- The checks of KYOTI_NODE_CMD (R660): SUBOP, PARAM bytes in use up to `used`, buffer, node. -/
def State.nodeCmd (s : State) (d : Desc) (subop used minBuf : Nat) (needNode : Bool) (k : Ticket → Nat → State → State) : State :=
  s.withDesc 0x51 d fun t s =>
    let n := DescF.par d 2 2
    if DescF.par d 4 1 ≠ subop then s.fin t stBad 24
    else if DescF.par d 0 2 ≠ 0 then s.fin t stBad (if DescF.par d 0 1 ≠ 0 then 24 else 25)
    else if needNode && 4096 ≤ n then s.fin t stBad 27
    else match (if used ≤ 8 then DescF.parNonZero d 5 else match DescF.par d 5 3 with | 0 => DescF.parNonZero d used | _ => DescF.parNonZero d 5) with
      | some j => s.fin t stBad (24 + j)
      | none =>
        if minBuf ≠ 0 && DescF.bufLen d < minBuf then s.fin t stBad 16
        else if minBuf = 0 && DescF.bufLen d ≠ 0 then s.fin t stBad 16
        else if needNode && (s.kyNode n).st ≠ 2 && (s.kyNode n).st ≠ 3 then s.fin t stCapacity 2
        else k t n s

/-- NODE_READ (R660). -/
def execNodeRead (d : Desc) (s : State) : Res :=
  .next (s.nodeCmd d 1 5 32 true fun t n s =>
    let x := s.kyNode n
    let b := leBytes 8 x.uid ++ [BitVec.ofNat 8 x.st, BitVec.ofNat 8 x.phase, BitVec.ofNat 8 x.hops, BitVec.ofNat 8 (b2n x.routeCap)]
      ++ leBytes 2 (routeParent x.route) ++ leBytes 2 (min 65535 x.cost) ++ leBytes 4 x.heard ++ leBytes 4 x.okN ++ leBytes 4 x.failN ++ leBytes 4 (x.fcIn.getD 0)
    (s.writeBuf d b).fin t stDone 0)

/-- RECEIVE (R660, R661). -/
def execReceive (d : Desc) (s : State) : Res :=
  .next (s.nodeCmd d 2 5 (16 + s.cfg.ky.msgMax) false fun t _ s =>
    match (if d.port = s.cfg.ky.host then s.ky.inq else []) with
    | [] => s.fin t stCapacity 1
    | (dev, node, at', b) :: r =>
      let s := s.setKy { s.ky with inq := r }
      (s.writeBuf d (leBytes 2 dev ++ leBytes 2 node ++ leBytes 2 b.length ++ [0, 0] ++ leBytes 8 at' ++ b)).fin t stDone b.length)

/-- REMOVE (R648): a leave is sent in its turn, the address is free, and the UID's fixed address is dropped. -/
def execRemove (d : Desc) (s : State) : Res :=
  .next (s.nodeCmd d 3 5 0 true fun t n s =>
    let x := s.kyNode n
    let sec := s.cellKey s.cfg.ky.keySlot
    let b := if sec then kySecure (s.kyKey (some x.uid)) s.cfg.ky.device 0 n (x.fcOut + 1) 6 [] else [6]
    let s := if sec then s.useNodeKey s.cfg.ky.keySlot (some x.uid) else s
    let s := match s.kyFixed x.uid with | some a => s.setKy { s.ky with unfixed := a :: s.ky.unfixed } | none => s
    let s := s.kyFree n
    let s := s.setKy { s.ky with queue := s.ky.queue ++ [{ dst := n, mtype := 6, bytes := [], secured := sec, segs := some [b], seg := x.seq + 1, route := x.route }] }
    (s.postBoth { code := 0xA02, sev := 0, obj := n }).fin t stDone 0)

/-- JOIN_WINDOW (R660). -/
def execJoinWindow (d : Desc) (s : State) : Res :=
  .next (s.nodeCmd d 4 12 0 false fun t _ s =>
    let v := DescF.par d 8 4
    if 86400 < v then s.fin t stBad 32
    else (s.putB Fld.KY_STATUS__JOIN_OPEN 0 (v != 0)).fin t stDone 0)

/-- PING (R660): one POLL transaction, in its turn. -/
def execPing (d : Desc) (s : State) : Res :=
  .next (s.nodeCmd d 5 5 0 true fun t n s => s.setKy { s.ky with queue := s.ky.queue ++ [{ dst := n, mtype := kyPing, bytes := [], secured := false, t := some t }] })

/-! ### Federation (R662) -/

/-- The fields of a federation frame's body. -/
def fedFrame (b : List Byte) : FedFrame :=
  { type := field b 1 1, src := field b 2 2, dst := field b 4 2, node := field b 6 2, tag := field b 8 4, status := field b 14 2, msg := (b.drop 16).take (field b 12 2) }

/-- Does a frame's CMAC verify under the federation key, over everything before it? -/
def State.fedOk (s : State) (b : List Byte) : Bool :=
  let n := 16 + field b 12 2
  b.getD 0 0 == 1 && b.length == n + 8 && b.drop n == leBytes 8 (Config.digest 12 (s.keyOf s.cfg.ky.fedSlot :: (b.take n).map (·.toNat)))
  && s.keyUsable s.cfg.ky.fedSlot [1, 2] 2

/-- FEDERATION_FRAME (R662), by its body: a message is sent into the cell, a result completes its sender's descriptor. -/
def execFederationFrame (b : List Byte) (s : State) : Res :=
  let f := fedFrame b
  if !s.variant.hasKyoti then .next s
  else if !s.fedOk b then .next ((s.put Fld.KY_ERR__AUTH_FAIL 0 1).postBoth { code := 0xA08, sev := 1 })
  else if f.dst ≠ s.cfg.ky.device then .next s
  else if f.type = 2 then
    .next (match tabFind s.ky.fed f.tag with
      | none => s
      | some t =>
        -- the frame carries no RESULT (log entry 1)
        let (r, s) := s.drawBelow (2 ^ 64)
        (s.setKy { s.ky with fed := tabErase s.ky.fed f.tag }).fin t f.status r)
  else if f.type ≠ 1 then .next s
  else
    let st := (s.kyNode f.node).st
    let refuse := !s.kyRuns || (f.node ≠ 0 && st ≠ 2)
    .next (if refuse then s.kyFedResult f.src f.tag stCapacity
      else s.setKy { s.ky with queue := s.ky.queue ++ [{ dst := if f.node = 0 then kyBroadcast else f.node, mtype := 0, bytes := f.msg, secured := s.cfg.ky.secure, fed := some (f.src, f.tag) }] })

/-- FEDERATION_RESULT_TIMEOUT (R662): no result 30 s after the message was sent. -/
def execFederationResultTimeout (tag : Nat) (s : State) : Res :=
  .next (match tabFind s.ky.fed tag with
    | none => s
    | some t => (s.setKy { s.ky with fed := tabErase s.ky.fed tag }).fin t stCapacity 4)

/-! ### Configuration, sleep and resets (R663 to R667) -/

/-- R667: the mirrors of an accepted configuration; a cell that can run starts (R663), a running one announces a new layout
(R666). -/
def State.kyConfigure (s : State) (old : KyCfg) : State :=
  let c := s.cfg.ky
  let s := ((s.putB Fld.KY_CFG__EN 0 c.on).put Fld.KY_CFG__HOST 0 c.host.num).putB Fld.KY_CFG__NOM_60 0 c.nom60
  let s := ((s.putB Fld.KY_CFG__SECURE 0 c.secure).put Fld.KY_CFG__RATE 0 c.rate).put Fld.KY_CFG__BAND 0 c.band
  let s := ((s.put Fld.KY_CFG__INTERLEAVE 0 c.interleave).put Fld.KY_CFG__DEVICE 0 c.device).put Fld.KY_TONE__F_BASE 0 c.fBase
  let s := ((s.put Fld.KY_TONE__TX_LEVEL 0 c.level).put Fld.KY_LAYOUT__LEN_P 0 c.lenP).put Fld.KY_LAYOUT__LEN_C 0 c.lenC
  let s := ((s.putB Fld.KY_LAYOUT__CYCLE2 0 c.cycle2).put Fld.KY_LAYOUT__POLLED 0 c.polled.length).put Fld.KY_LAYOUT__SUBSLOTS 0 c.subSlots.length
  let s := s.put Fld.KY_LAYOUT__BEACON 0 ((c.layout.takeWhile (· == 0)).length)
  let s := s.put Fld.KY_LIMITS__MSG_MAX 0 c.msgMax
  let s := s.setKy { s.ky with unfixed := [] }
  let absent := !s.variant.hasKyoti || bitAt (s.get Fld.BOOT_STATUS__DEGRADED 0) 4
  if !c.on || c.device = 0 || absent then s.put Fld.KY_STATUS__STATE 0 0
  else if s.kyRuns && old.on && old.device = c.device then
    if c.layout = s.ky.layout then s else s.setKy { s.ky with nextLayout := some (c.layout, 4) }
  else (s.setKy { s.ky with layout := c.layout }).put Fld.KY_STATUS__STATE 0 1

/-- R664: without SLEEP_KYOTI the cell is silent in Sleep; on waking it starts again. -/
def State.kySilent (s : State) : State := if s.kyState = 0 then s else s.put Fld.KY_STATUS__STATE 0 3
def State.kyWake (s : State) : State := if s.kyState = 3 then s.put Fld.KY_STATUS__STATE 0 1 else s

/-- R665: a C-die reset resets the modem; what was queued is lost. -/
def State.kyReset (s : State) : State := s.setKy {}

end Sys2Proof.Machine
end

