-- ==== Sys2Proof/Machine/Reader.lean ====
section
/-!
DEFINITION. Machine/Reader.lean: the contactless reader (R669 to R689): detuning pings, ISO/IEC 14443-A presentations,
originality signatures, credentials and their hand-off, TAG_CMD.
-/
namespace Sys2Proof.Machine

def State.setReader (s : State) (r : ReaderSt) : State := { s with reader := r }
def State.ant (s : State) (p : Nat) : AntSt := tabGet {} s.reader.ants p
def State.setAnt (s : State) (p : Nat) (a : AntSt) : State := s.setReader { s.reader with ants := tabSet s.reader.ants p a }
/-- The presentation at a front end. -/
def State.presAt (s : State) (n : Nat) : Option Pres := tabFind s.reader.pres n
def State.setPres (s : State) (n : Nat) (x : Pres) : State := s.setReader { s.reader with pres := tabSet s.reader.pres n x }
/-- TAG_STATUS.STATE: 0 off, 1 capturing, 2 running, 3 silent. -/
def State.tagState (s : State) : Nat := s.get Fld.TAG_STATUS__STATE 0

/-- Some front end sends a frame on a position: 0 carrier off, 1 carrier on, 2 a frame. -/
def State.rfSend (s : State) (p kind : Nat) (b : List Byte) : State := s.emit (.rf p kind b)

/-! ### Settings (R688) -/

/-- The settings of a front end and its positions, as the configuration gives them; enabled positions capture their baseline. -/
def State.readerApply (s : State) (n : Nat) : State :=
  let c := s.cfg.reader
  let f := tabGet (250, 10, 2, 8) c.fes n
  let s := (((s.put Fld.RD_CFG__PERIOD n f.1).put Fld.RD_CFG__GUARD n f.2.1).put Fld.RD_CFG__MAX_RATE n f.2.2.1).put Fld.RD_CFG__TX_LEVEL n f.2.2.2
  (upTo 8).foldl (fun s k =>
    let p := 8 * n + k
    let a := tabGet (false, 0, 20, 15) c.ants p
    let s := (((s.putB Fld.ANT_CFG__EN p a.1).put Fld.ANT_CFG__SIG_POLICY p a.2.1).put Fld.ANT_CFG__AMP_THR p a.2.2.1).put Fld.ANT_CFG__PH_THR p a.2.2.2
    let s := s.put Fld.ANT_STATUS__FAULT p 0
    s.setAnt p { s.ant p with capt := a.1, conf := false }) s

/-- TAG_STATUS.STATE of a reader that runs: 1 while some position's baseline is to be captured, then 2. -/
def State.readerCaptures (s : State) : State :=
  s.put Fld.TAG_STATUS__STATE 0 (if (upTo 64).any (fun q => (s.ant q).capt && !s.flag Fld.ANT_STATUS__FAULT q) then 1 else 2)

/-- A configuration is accepted: settings of a front end with a presentation wait for its end (R687). -/
def State.readerConfigure (s : State) : State :=
  if !s.variant.hasReader || bitAt (s.get Fld.BOOT_STATUS__DEGRADED 0) 5 then s
  else
    let s := (upTo 8).foldl (fun s n => if (s.presAt n).isSome then s.setReader { s.reader with due := n :: s.reader.due } else s.readerApply n) s
    if s.cfg.reader.on then s.readerCaptures else s.put Fld.TAG_STATUS__STATE 0 0

/-! ### Presentations: carrier on and off -/

/-- R675: a detected position takes its front end. -/
def State.presBegin (s : State) (p : Nat) : State :=
  let n := p / 8
  let s := s.setPres n { pos := p, issuers := s.cfg.reader.issuers, policy := s.get Fld.ANT_CFG__SIG_POLICY p }
  let s := s.put Fld.TAG_STATUS__POLLING 0 (putBits (s.get Fld.TAG_STATUS__POLLING 0) n 1 1)
  (s.put Fld.RD_STATUS__POSITION n p).rfSend p 1 []

/-- The carrier goes off; the lowest position that waits for the front end follows (R687). -/
def State.presEnd (s : State) (n : Nat) : State :=
  match s.presAt n with
  | none => s
  | some x =>
    let s := s.setReader { s.reader with pres := tabErase s.reader.pres n }
    let s := s.put Fld.TAG_STATUS__POLLING 0 (putBits (s.get Fld.TAG_STATUS__POLLING 0) n 1 0)
    let s := (((s.put Fld.RD_STATUS__POSITION n 0xFF).put Fld.RD_STATUS__CARD n 0).put Fld.RD_STATUS__RATE n 0).rfSend x.pos 0 []
    let s := if s.reader.due.contains n then (s.setReader { s.reader with due := s.reader.due.filter (· != n) }).readerApply n else s
    match (upTo 8).find? fun k => s.reader.waits.contains (8 * n + k) with
    | none => s
    | some k => (s.setReader { s.reader with waits := s.reader.waits.filter (· != 8 * n + k) }).presBegin (8 * n + k)

/-! ### Detuning pings and baselines (R671 to R673) -/

/-- R673: a baseline outside 50 % to 150 % of A_REF, or no A_REF, takes the position out of pinging. -/
def State.antCheck (s : State) (p : Nat) : State :=
  let r := s.get Fld.ANT_STATUS__A_REF p
  let a := s.get Fld.ANT_BASE__A_BASE p
  if (r ≠ 0 && r ≤ 2 * a && 2 * a ≤ 3 * r) || s.flag Fld.ANT_STATUS__FAULT p then s
  else (s.put Fld.ANT_STATUS__FAULT p 1).postAnt p { code := 0xB05, sev := 2, obj := p, data := if r = 0 then 65535 else min 65535 (a * 1000 / r) }

/-- Set a baseline, in 2⁻¹⁶ units. -/
def State.setBase (s : State) (p : Nat) (a ph : Int) : State :=
  let s := s.setAnt p { s.ant p with a := a, ph := ph }
  ((s.put Fld.ANT_BASE__A_BASE p (a / 65536).toNat).put Fld.ANT_BASE__PHI_BASE p (bitsOf 16 (ph / 65536))).antCheck p

/-- R672: does a ping with amplitude and phase (0.01°) detect a card? -/
def State.detects (s : State) (p a : Nat) (ph : Int) : Bool :=
  let x := s.ant p
  let da := ((a : Int) * 65536 - x.a).natAbs
  let dp := (ph * 65536 - x.ph).natAbs
  decide (s.get Fld.ANT_CFG__AMP_THR p * x.a.natAbs < da * 1000) || decide (s.get Fld.ANT_CFG__PH_THR p * 10 * 65536 < dp)

/-- The position is pinged now: enabled, not faulted, its front end there and without a carrier (R671, R687). -/
def State.pinged (s : State) (p : Nat) : Bool :=
  (s.tagState == 1 || s.tagState == 2) && s.flag Fld.ANT_CFG__EN p && !s.flag Fld.ANT_STATUS__FAULT p && (s.presAt (p / 8)).isNone
    && s.dieRuns .ddie && s.linkUp .driver

/-- R672: the baseline tracks a ping that does not detect, unless a detection stands. -/
def State.baseTrack (s : State) (p a : Nat) (ph : Int) : State :=
  let x := s.ant p
  if s.flag Fld.ANT_STATUS__DETECT p then s
  else s.setBase p (x.a + ((a : Int) * 65536 - x.a) / 64) (x.ph + (ph * 65536 - x.ph) / 64)

/-- DETUNING_PING (R671, R672, R683): amplitude and phase in 0.01°. -/
def execDetuningPing (p a : Nat) (ph : Int) (s : State) : Res :=
  let x := s.ant p
  if !s.pinged p || x.capt then .next s
  else if s.detects p a ph then
    if s.flag Fld.ANT_STATUS__HELD p then .next (s.setAnt p { x with clear := 0 })
    else .next (s.setAnt p { x with conf := true })
  else
    let s := s.setAnt p { x with conf := false }
    let s :=
      if s.flag Fld.ANT_STATUS__HELD p then
        if x.clear + 1 < 2 then s.setAnt p { s.ant p with clear := x.clear + 1 }
        else ((s.setAnt p { s.ant p with clear := 0 }).put Fld.ANT_STATUS__HELD p 0).put Fld.ANT_STATUS__DETECT p 0
      else s.put Fld.ANT_STATUS__DETECT p 0
    .next (s.baseTrack p a ph)

/-- CONFIRMING_PING (R672, R675, R686, R687): 200 µs after a ping that detects. Where another position of the front end has begun to poll
meanwhile, the detection waits for the end of that presentation. -/
def execConfirmingPing (p a : Nat) (ph : Int) (s : State) : Res :=
  let x := s.ant p
  if !x.conf || !(s.setReader { s.reader with pres := [] }).pinged p then .next s
  else
    let s := s.setAnt p { x with conf := false }
    if !s.detects p a ph then .next (s.baseTrack p a ph)
    else
      let s := (s.bump Fld.ANT_COUNT__DETECTIONS p 1).put Fld.ANT_STATUS__DETECT p 1
      let s := s.wakeSource 10
      .next (if (s.presAt (p / 8)).isSome then s.setReader { s.reader with waits := s.reader.waits ++ [p] } else s.presBegin p)

/-- BASELINE_CAPTURE (R673): the 16 pings of a position that is to be captured; the baseline is their mean. -/
def execBaselineCapture (p : Nat) (pings : List (Nat × Int)) (s : State) : Res :=
  if !(s.ant p).capt || !s.pinged p then .next s
  else
    let sum (l : List Int) : Int := l.foldl (· + ·) 0
    let s := (s.setAnt p { s.ant p with capt := false }).setBase p (sum (pings.map fun x => (x.1 : Int)) * 4096) (sum (pings.map (·.2)) * 4096)
    .next (if s.tagState = 1 then s.readerCaptures else s)

/-! ### Credentials (R679 to R683) -/

/-- The first 64 bits of a SHA-256. -/
def hash64 (b : List Byte) : Nat := Config.digest 1 (b.map (·.toNat)) % 2 ^ 64

/-- The record of R682. -/
def credRecord (x : Pres) (ok : Bool) : List Byte :=
  let flags := b2n ok + 2 * b2n x.issuer.isNone + 4 * b2n x.l4
  [1, 0, BitVec.ofNat 8 x.pos, BitVec.ofNat 8 x.uid.length] ++ padTo 10 x.uid ++ leBytes 2 x.atqa ++ [BitVec.ofNat 8 x.sak, BitVec.ofNat 8 flags]
    ++ [BitVec.ofNat 8 (x.issuer.getD 0xFF), BitVec.ofNat 8 x.rate, 0, 0, 0, 0] ++ leBytes 8 (hash64 x.uid) ++ leBytes 8 x.time ++ List.replicate 24 0

/-- R679, R681: the card is alone and its signature judged: a credential is formed and handed off, or none is. -/
def State.credential (s : State) (x : Pres) : State :=
  let ok := x.verdict == some true
  let s := if ok then s else s.postAnt x.pos { code := 0xB02, sev := 1, obj := x.pos, data := if x.issuer.isNone then 1 else 2 }
  if !ok && x.policy = 0 then s
  else
    let r := credRecord x ok
    let s := (s.setAnt x.pos { s.ant x.pos with last := r, clear := 0 }).put Fld.ANT_STATUS__HELD x.pos 1
    match (upTo 64).find? fun i => (s.scfg i).kind != 0 && (s.scfg i).antenna == some x.pos with
    | some i => s.presentCred i 1 (hash64 x.uid)
    | none => s.postAnt x.pos { code := 0xB01, sev := 0, obj := x.pos, data := field r 17 1 }

/-- The presentation has learnt something: once the card is alone and judged, the credential follows. A layer-3 card's carrier
goes off when the check is done; a layer-4 card stays for APDUs (log entry 61). -/
def State.presJudge (s : State) (n : Nat) (x : Pres) : State :=
  let judged := x.issuer.isNone || x.verdict.isSome
  if !x.alone then s.setPres n x
  else if x.l4 then
    let s := (s.setPres n { x with phase := 8 }).put Fld.RD_STATUS__CARD n 2
    if judged then s.credential x else s
  else
    let s := s.presEnd n
    if judged then s.credential x else s.setAnt x.pos { s.ant x.pos with pend := some x }

/-! ### The exchange with a card (R674 to R678) -/

/-- Anticollision bytes: four and their BCC. -/
def bccOk (b : List Byte) : Bool := b.length == 5 && (b.take 4).foldl (· ^^^ ·) 0 == b.getD 4 0
/-- The code of SELECT and ANTICOLLISION at a cascade level. -/
def selByte (level : Nat) : Byte := if level ≤ 1 then 0x93 else if level = 2 then 0x95 else 0x97

/-- Send a frame and wait for its answer. -/
def State.presSend (s : State) (n : Nat) (x : Pres) (b : List Byte) : State :=
  (s.setPres n { x with sent := b, retried := false }).rfSend x.pos 2 b

/-- R676: a second card. -/
def State.presMultiple (s : State) (n : Nat) (x : Pres) (why : Nat) : State :=
  (s.presEnd n).postAnt x.pos { code := 0xB03, sev := 1, obj := x.pos, data := why }

/-- A presentation ends without a credential; one that has seen a collision has shown two cards (R676, R677). -/
def State.presFail (s : State) (n : Nat) (x : Pres) : State := if x.multi then s.presMultiple n x 1 else s.presEnd n

/-- R676, steps 2 and 3: HLTA, then REQA once more. -/
def State.presHalt (s : State) (n : Nat) (x : Pres) : State :=
  ((s.rfSend x.pos 2 [0x50, 0]).put Fld.RD_STATUS__CARD n 3).presSend n { x with phase := 7 } [0x26]

/-- ISO/IEC 14443-4: an APDU as I-blocks of the card's frame size, and the block number after them. -/
def apduBlocks (fsc : Nat) : Nat → Nat → List Byte → List (List Byte) × Nat
  | 0, blk, b => ([BitVec.ofNat 8 (2 + blk % 2) :: b], blk + 1)
  | k + 1, blk, b =>
    if b.length ≤ fsc - 3 then ([BitVec.ofNat 8 (2 + blk % 2) :: b], blk + 1)
    else
      let r := apduBlocks fsc k (blk + 1) (b.drop (fsc - 3))
      ((BitVec.ofNat 8 (0x12 + blk % 2) :: b.take (fsc - 3)) :: r.1, r.2)

/-- Send an APDU to a layer-4 card. -/
def State.presApdu (s : State) (n : Nat) (x : Pres) (b : List Byte) : State :=
  let r := apduBlocks x.fsc 3 x.blk b
  let s := r.1.dropLast.foldl (fun s f => s.rfSend x.pos 2 f) s
  s.presSend n { x with blk := r.2, wtx := 0, part4 := [] } (r.1.getLastD [])

/-- Ask the next issuer for its signature; after the last, the card is halted and checked for company (R676, R678). -/
def State.presAsk (s : State) (n : Nat) (x : Pres) : Nat → State
  | 0 => s.presHalt n x
  | k + 1 => match x.issuers[x.ask]? with
    | none => s.presHalt n x
    | some i =>
      if !i.l4 then s.presSend n { x with phase := 6 } i.cmd
      else if !bitAt x.sak 5 then s.presAsk n { x with ask := x.ask + 1 } k
      else if !x.l4 then s.presSend n { x with phase := 4 } [0xE0, 0x80]
      else s.presApdu n { x with phase := 6 } i.cmd

/-- The UID is complete or not (R675 to R677); a cascade has at most three levels. -/
def State.presSelected (s : State) (n : Nat) (x : Pres) (sak : Nat) : State :=
  if bitAt sak 2 then
    if 3 ≤ x.level then s.presFail n x
    else
      let x := { x with uid := x.uid ++ x.part.drop 1, level := x.level + 1, phase := 2 }
      s.presSend n x [selByte x.level, 0x20]
  else
    let x := { x with uid := x.uid ++ x.part, sak := sak, time := s.devTime }
    let s := s.put Fld.RD_STATUS__CARD n 2
    if x.multi then s.presMultiple n x 1
    else if x.uid.length = 4 && x.uid.headD 0 = 0x08 then (s.presEnd n).postAnt x.pos { code := 0xB04, sev := 0, obj := x.pos }
    else s.presAsk n x 8

/-- ISO/IEC 14443-4: what an ATS says of FSC in bytes, of the higher rates and of the frame waiting time in µs (R674; log entry 198). -/
def atsFsc (b : List Byte) : Nat :=
  let l := [16, 24, 32, 40, 48, 64, 96, 128, 256]
  if b.length < 2 then 32 else l.getD (min 8 ((b.getD 1 0).toNat % 16)) 256
def atsHas (b : List Byte) (k : Nat) : Bool := decide (2 ≤ b.length) && bitAt (b.getD 1 0).toNat (4 + k)
/-- Interface byte k, where TA, TB and TC present stand in that order. -/
def atsByte (b : List Byte) (k : Nat) : Option Nat :=
  if atsHas b k then some (b.getD (2 + ((upTo k).filter (atsHas b)).length) 0).toNat else none
def atsRate (b : List Byte) : Nat :=
  match atsByte b 0 with
  | none => 0
  | some ta => if bitAt ta 1 && bitAt ta 5 then 2 else if bitAt ta 0 && bitAt ta 4 then 1 else 0
def atsFwt (b : List Byte) : Nat := min 4949000 (302 * 2 ^ ((atsByte b 1).getD 0x40 / 16))

/-- CARD_FRAME_RX (R674 to R678): a card's answer at front end n. -/
def execCardFrameRx (n : Nat) (f : CardFrame) (s : State) : Res :=
  match s.presAt n with
  | none => .next s
  | some x =>
    match f with
    | .atqa v =>
      if x.phase = 1 then
        let s := (s.put Fld.RD_STATUS__CARD n 1).setAnt x.pos { s.ant x.pos with wakes := 0 }
        .next (s.presSend n { x with phase := 2, atqa := v.toNat } [0x93, 0x20])
      else if x.phase = 7 then .next (s.presMultiple n x 2)
      else .next s
    | .collision k b =>
      -- R675: the reader chooses 1 and goes on; R676: two cards are there
      if x.phase = 2 then
        let known := (leNat b % 2 ^ k) + 2 ^ k
        .next (s.presSend n { x with multi := true } ([selByte x.level, BitVec.ofNat 8 ((2 + (k + 1) / 8) * 16 + (k + 1) % 8)] ++ leBytes ((k + 8) / 8) known))
      else .next s
    | .anticol b =>
      if x.phase = 2 && bccOk b then .next (s.presSend n { x with phase := 3, part := b.take 4 } ([selByte x.level, 0x70] ++ b))
      else .next s
    | .sak v => if x.phase = 3 then .next (s.presSelected n x v.toNat) else .next s
    | .ats b =>
      if x.phase = 4 then
        let rate := min (atsRate b) (s.get Fld.RD_CFG__MAX_RATE n)
        let x := { x with l4 := true, rate := rate, fsc := atsFsc b, fwt := atsFwt b }
        if rate = 0 then .next (s.presAsk n x 8)
        else .next (s.presSend n { x with phase := 5 } [0xD0, 0x11, BitVec.ofNat 8 (5 * rate)])
      else .next s
    | .pps => if x.phase = 5 then .next ((s.put Fld.RD_STATUS__RATE n x.rate).presAsk n x 8) else .next s
    | .wtx m =>
      -- an extension is honoured up to 5 s in one exchange
      if x.phase = 6 && x.l4 && x.wtx + m * x.fwt ≤ 5000000 then
        .next ((s.setPres n { x with wtx := x.wtx + m * x.fwt }).rfSend x.pos 2 [0xF2, BitVec.ofNat 8 (m % 64)])
      else .next s
    | .more b =>
      if x.phase = 6 && x.l4 then .next (s.presSend n { x with part4 := x.part4 ++ b, blk := x.blk + 1 } [BitVec.ofNat 8 (0xA2 + x.blk % 2)])
      else .next s
    | .resp b =>
      if x.phase = 6 then
        let i := x.issuers[x.ask]?.getD { slot := 0 }
        let r := x.part4 ++ b
        .next (s.presHalt n { x with issuer := some x.ask, verdict := if r.length < i.off + 64 then some false else none })
      else .next s

/-- GUARD_EXPIRY (R675): REQA. -/
def execGuardExpiry (n : Nat) (s : State) : Res :=
  match s.presAt n with
  | some x => .next (if x.phase = 0 then s.presSend n { x with phase := 1, tries := 1 } [0x26] else s)
  | none => .next s

/-- CARD_RESPONSE_TIMEOUT (R675 to R678): no answer within its time, or (`error`) one with a CRC or parity error. A layer-3 read command
that stays unanswered passes to the next issuer; in layer 4, where a card that is there always answers, the exchange has failed (log
entry 199). -/
def execCardResponseTimeout (n : Nat) (error : Bool) (s : State) : Res :=
  match s.presAt n with
  | none => .next s
  | some x =>
    if x.phase = 0 || x.phase = 8 then .next s
    else if x.phase = 1 then
      if x.tries < 3 then .next (s.presSend n { x with tries := x.tries + 1 } [0x26])
      else
        -- a false wake: the position is armed again; after 8 its baseline is captured again
        let w := (s.ant x.pos).wakes + 1
        let s := (s.presEnd n).bump Fld.ANT_COUNT__FALSE_WAKES x.pos 1
        let s := s.put Fld.ANT_STATUS__DETECT x.pos 0
        .next (s.setAnt x.pos { s.ant x.pos with wakes := if w < 8 then w else 0, capt := (s.ant x.pos).capt || decide (8 ≤ w) })
    else if x.phase = 7 && !error then .next (s.presJudge n { x with alone := true })
    else if !x.retried then
      .next ((s.setPres n { x with retried := true }).rfSend x.pos 2 (if x.phase = 6 && x.l4 then [BitVec.ofNat 8 (0xB2 + (x.blk + 1) % 2)] else x.sent))
    else if x.phase = 6 && !error && !x.l4 then .next (s.presAsk n { x with ask := x.ask + 1 } 8)
    else .next (s.presFail n x)

/-- SIGNATURE_VERIFY_DONE (R678, R679): of the card at a position. -/
def execSignatureVerifyDone (p : Nat) (ok : Bool) (s : State) : Res :=
  let x? := match (s.ant p).pend with | some x => some x | none => s.presAt (p / 8)
  let slot := (x?.bind fun x => x.issuer.bind fun i => x.issuers[i]?).map (·.slot)
  let ok := ok && slot.any fun k => s.keyUsable k [5] 4
  let s : State := match slot with | some k => s.useKey 3 k | none => s
  match (s.ant p).pend with
  | some x => .next ((s.setAnt p { s.ant p with pend := none }).credential { x with verdict := some ok })
  | none => match s.presAt (p / 8) with
    | some x => .next (if x.pos = p && x.issuer.isSome && x.verdict.isNone then s.presJudge (p / 8) { x with verdict := some ok } else s)
    | none => .next s

/-- PRESENTATION_TIMEOUT (R677): 1 s after carrier on. -/
def execPresentationTimeout (n : Nat) (s : State) : Res :=
  match s.presAt n with
  | some x => .next (s.presFail n x)
  | none => .next s

/-! ### TAG_CMD (R684, R685) -/

/-- The checks of TAG_CMD: SUBOP, PARAM bytes in use, buffer. -/
def State.tagCmd (s : State) (d : Desc) (subop used minBuf : Nat) (k : Ticket → Nat → State → State) : State :=
  s.withDesc 0x58 d fun t s =>
    if DescF.par d 0 1 ≠ subop || (DescF.parNonZero d used).isSome then s.fin t stBad 24
    else if minBuf ≠ 0 && DescF.bufLen d < minBuf then s.fin t stBad 16
    else k t d.target.toNat s

/-- READ_LAST. -/
def execReadLast (d : Desc) (s : State) : Res :=
  .next (s.tagCmd d 1 1 64 fun t p s =>
    let r := (s.ant p).last
    if r.isEmpty then s.fin t stCapacity 1 else (s.writeBuf d r).fin t stDone 64)

/-- APDU: `resp` is the card's answer, none where the exchange fails, which ends the presentation (R677). -/
def execApdu (d : Desc) (resp : Option (List Byte)) (s : State) : Res :=
  .next (s.tagCmd d 2 40 258 fun t p s =>
    let n := DescF.par d 1 1
    if n < 4 || 32 < n || !zeroOutside d.param [(0, 1), (8, 39)] then s.fin t stBad 24
    else match s.presAt (p / 8) with
      | none => s.fin t stCapacity 2
      | some x =>
        if x.pos ≠ p || x.phase ≠ 8 || !s.flag Fld.ANT_STATUS__HELD p then s.fin t stCapacity 2
        else
          let s := s.presApdu (p / 8) x ((d.param.drop 8).take n)
          match resp with
          | some b => (s.writeBuf d b).fin t stDone b.length
          | none => (s.presEnd (p / 8)).fin t stCapacity 2)

/-- RELEASE: HLTA, carrier off. -/
def execRelease (d : Desc) (s : State) : Res :=
  .next (s.tagCmd d 3 1 0 fun t p s =>
    let s := match s.presAt (p / 8) with
      | some x => if x.pos = p then (s.rfSend p 2 [0x50, 0]).presEnd (p / 8) else s
      | none => s
    s.fin t stDone 0)

/-- ENABLE: a position enabled captures its baseline (R673). -/
def execEnable (d : Desc) (s : State) : Res :=
  .next (s.tagCmd d 4 2 0 fun t p s =>
    let v := DescF.par d 1 1
    if 1 < v then s.fin t stBad 24
    else
      let s := s.putB Fld.ANT_CFG__EN p (v == 1)
      (s.setAnt p { s.ant p with capt := v == 1, conf := false }).fin t stDone 0)

/-- CALIBRATE (R685): the mean amplitude of its 64 pings; it clears a fault, and the baseline is captured again. -/
def execCalibrate (d : Desc) (pings : List Nat) (s : State) : Res :=
  .next (s.tagCmd d 5 1 0 fun t p s =>
    if s.flag Fld.ANT_STATUS__DETECT p then s.fin t stCapacity 3
    else
      let a := min (pings.foldl (· + ·) 0 / 64) 65535
      let s := (s.put Fld.ANT_STATUS__A_REF p a).put Fld.ANT_STATUS__FAULT p 0
      (s.setAnt p { s.ant p with capt := s.flag Fld.ANT_CFG__EN p }).fin t stDone a)

/-! ### Sleep and resets (R686) -/

/-- The D-die is out: every front end's carrier goes off, each presentation without a credential. -/
def State.readerEnds (s : State) : State :=
  (upTo 8).foldl (fun s n => s.presEnd n) (s.setReader { s.reader with waits := [] })

/-- Every carrier goes off: Sleep without SLEEP_READER, Deep sleep, Off. -/
def State.readerSilent (s : State) : State :=
  let s := s.readerEnds
  if s.tagState = 0 then s else s.put Fld.TAG_STATUS__STATE 0 3

def State.readerWake (s : State) : State := if s.tagState = 3 then s.readerCaptures else s

/-- A C-die reset ends every presentation without a credential; only A_REF, stored at commissioning, stays. -/
def State.readerReset (s : State) : State :=
  ((upTo 8).foldl (fun s n => s.presEnd n) (s.setReader { s.reader with waits := [], due := [] })).setReader {}

end Sys2Proof.Machine
end

