-- ==== Sys2Proof/Machine/Rime.lean ====
section
/-!
DEFINITION. Machine/Rime.lean: the key store (R690 to R714): the root secret and the system slots, the key descriptors,
re-masking, the random generator, tamper and zeroisation, restoration at a start.
-/
namespace Sys2Proof.Machine

/-! ### Root and system slots -/

/-- R692: a random value is asked of the generator. -/
def State.random (s : State) (bits : Nat) : Nat × State :=
  let s := s.setRime { s.rime with reqs := s.rime.reqs + 1 }
  s.drawBelow (2 ^ bits)

/-- R692: the generator is seeded, its health tests have passed, and no reseed is due (log entry 200). -/
def State.rngReady (s : State) : Bool := s.rime.drbg == 1 && decide (s.rime.reqs < 65536)

/-- R690: KEY_ROOT_ID of a root: bits 31:0 of the SHA-256 of the root and "ROOT-ID". -/
def rootId (root : Nat) : Nat :=
  Config.digest 1 ((leBytes 32 root).map (·.toNat) ++ [82, 79, 79, 84, 45, 73, 68]) % 2 ^ 32

/-- R694: the labels and types of the system slots. -/
def sysLabel : Nat → List Byte
  | 0 => [76, 69, 68, 71, 69, 82, 45, 69, 78, 67]
  | 1 => [76, 69, 68, 71, 69, 82, 45, 84, 65, 71]
  | 2 => [87, 82, 65, 80]
  | 3 => [80, 65, 82, 75]
  | n => [66, 65, 83, 69, BitVec.ofNat 8 (44 + n)]
def sysType (n : Nat) : Nat := if n < 4 then 2 else 3

/-- R694, R705: the system slots are derived from the root. Their USAGE is given by no rule but for DERIVE (log entry 1). -/
def State.deriveSystem (s : State) : State :=
  match s.rime.root with
  | none => s
  | some root =>
    let s := (upTo 8).foldl (fun s n =>
      let (u, s) := s.drawBelow 128
      let usage := u &&& usageOf (sysType n) ||| (if n < 4 then 0 else 0x20)
      s.storeKey n { type := sysType n, usage := usage, derived := true, parent := 0x100 } (kdf root (sysLabel n) [] 0 (sysType n))) s
    -- R697: CE0 and CE1 work with the ledger's keys only
    (s.useKey 0 0).useKey 1 1

/-- R690, R711: a new root is made where none is held, and the ledger's keys change with it. -/
def State.makeRoot (s : State) : State :=
  if s.rime.root.isSome || !s.rngReady then s
  else
    let (r, s) := s.random 256
    let s := s.setRime { s.rime with root := some r, ledgerLost := true }
    let s := (s.setReg .KEY_ROOT_ID 0 (BitVec.ofNat 32 (rootId r))).put Fld.KEY_STATUS__ROOT 0 (if s.rime.zeroed then 2 else 1)
    s.deriveSystem.postBoth { code := 0x0C5, sev := 2 }

/-- R711: an open ledger whose keys have changed is reopened with every slot quarantined. -/
def State.reopenLedger (s : State) : State :=
  if s.rime.ledgerLost && s.get Fld.LEDGER_STATUS__STATE 0 = 1 then (s.setRime { s.rime with ledgerLost := false }).ledgerRecovery false
  else s

/-- R696: the store is cleared, as at a C-die reset; G, the root and the tamper registers stay in VBAT. -/
def State.clearSlots (s : State) : State :=
  let s := s.setRime { s.rime with slots := [], ces := [] }
  (s.resetRegs fun k => k.reg == .KEY_ATTR || k.reg == .KEY_PARENT || k.reg == .KEY_PGEN || k.reg == .KEY_ID).keyCounts

/-- R696, R698: a C-die reset. -/
def State.rimeReset (s : State) : State :=
  let s := (s.setRime { s.rime with drbg := 0, reqs := 0, lastMask := s.time, clearDue := false }).clearSlots
  s.resetRegs fun k => k.reg == .KEY_ERR || k.reg == .KEY_REMASK || k.reg == .KEY_RIGHTS

/-- R694: before stage 0x9 the system slots are derived again. -/
def State.rimeStart (s : State) : State := (s.setRime { s.rime with lastMask := s.time }).deriveSystem

/-- The loss of VBAT: root, generations and tamper registers go with it (R691). -/
def State.rimeVbatLoss (s : State) : State :=
  let s := s.setRime { s.rime with root := none, zeroed := false }
  (s.resetRegs fun k => k.reg == .KEY_GEN || k.reg == .KEY_TAMPER || k.reg == .KEY_TAMPER_TIME_LO || k.reg == .KEY_TAMPER_TIME_HI
    || k.reg == .KEY_ROOT_ID).put Fld.KEY_STATUS__ROOT 0 0

/-- DRBG_RESEED (R692): the seed's health tests pass or fail. A start that finds the root absent then makes one. -/
def execDrbgReseed (ok : Bool) (s : State) : Res :=
  if !s.dieRuns .cdie then .next s
  else if ok then .next (((s.setRime { s.rime with drbg := 1, reqs := 0 }).makeRoot).reopenLedger)
  else .next ((s.setRime { s.rime with drbg := 2 }).put Fld.KEY_ERR__DRBG 0 1)

/-- R695: the same fresh random goes into both shares of a slot. -/
def KeySlot.mask (k : KeySlot) (d : Nat) : KeySlot := ⟨Nat.xor k.s0 d, Nat.xor k.s1 d⟩

/-- R695: a slot is re-masked. -/
def State.remaskSlot (s : State) (n : Nat) : State :=
  let u := (s.random 512).2
  u.setRime { u.rime with slots := tabSet u.rime.slots n ((tabGet ⟨0, 0⟩ u.rime.slots n).mask (s.random 512).1) }

/-- KEY_REMASK (R695): a round over every slot: the same fresh random goes into both shares. A round late by its second sets
REMASK_LATE; in Deep sleep, and while the generator gives nothing, no round runs. -/
def execKeyRemask (s : State) : Res :=
  if s.pwr = 3 || !s.dieRuns .cdie then .next s
  else
    let s := if s.rime.lastMask + 1100000 < s.time then s.put Fld.KEY_ERR__REMASK_LATE 0 1 else s
    if !s.rngReady then .next s
    else
      let s := (s.setRime { s.rime with lastMask := s.time }).put Fld.KEY_REMASK__ROUNDS 0 ((s.reg .KEY_REMASK 0).toNat + 1)
      .next ((s.rime.slots.map (·.1)).foldl State.remaskSlot s)

/-! ### Key descriptors -/

/-- R702: the key stream and the tag of AES-256-GCM under the wrapping key; their values are opaque (log entry 3). -/
def gcmStream (key nonce : Nat) : Nat := Config.digest 21 [key, nonce] % 2 ^ 512
def gcmTag (key nonce : Nat) (covered : List Byte) : Nat := Config.digest 22 (key :: nonce :: covered.map (·.toNat)) % 2 ^ 128

/-- R702: the blob of a written key in a slot. -/
def State.makeBlob (s : State) (n : Nat) (a : KeyAttr) (key nonce : Nat) : List Byte :=
  let head := leBytes 2 1 ++ [BitVec.ofNat 8 a.type, 0] ++ leBytes 2 a.usage ++ leBytes 2 n ++ leBytes 4 a.id ++ leBytes 4 (s.keyGen n)
    ++ leBytes 4 (s.keyGen 2) ++ leBytes 4 (s.reg .KEY_ROOT_ID 0).toNat
  let ct := leBytes 64 (Nat.xor key (gcmStream (s.keyOf 2) nonce))
  head ++ leBytes 12 nonce ++ ct ++ List.replicate 12 0 ++ leBytes 16 (gcmTag (s.keyOf 2) nonce (head ++ ct))

/-- R702: does a blob verify? Its key otherwise. -/
def State.openBlob (s : State) (b : List Byte) : Option Nat :=
  let nonce := field b 24 12; let ct := (b.drop 36).take 64
  if field b 112 16 = gcmTag (s.keyOf 2) nonce (b.take 24 ++ ct) && field b 20 4 = (s.reg .KEY_ROOT_ID 0).toNat
    && field b 16 4 = s.keyGen 2 && field b 12 4 = s.keyGen (field b 6 2) then
    some (Nat.xor (leNat ct) (gcmStream (s.keyOf 2) nonce))
  else none

/-- R701: is the buffer of KEY_WRITE well laid out? A blob needs a key that may be exported. -/
def keyWriteOk (b : List Byte) : Bool :=
  let type := field b 2 1; let flags := field b 3 1; let usage := field b 4 2
  field b 0 2 == 1 && decide (1 ≤ type) && decide (type ≤ 5) && decide (flags < 4) && (usage &&& usageOf type) == usage
  && field b 6 2 == 0 && field b 12 4 == 0 && field b (16 + keyLen type) (64 - keyLen type) == 0 && field b 80 16 == 0
  && materialOk type ((b.drop 16).take (keyLen type)) && (!bitAt flags 1 || bitAt usage 6)

/-- R728: while a trial of another settings format runs, a key marked PERSIST must have a form the old image reads. -/
def State.trialRefuses (s : State) (oldForm : Bool) : Bool := s.flag Fld.UPD_STATUS__TRIAL 0 && !oldForm

/-- R696: the key area takes a key marked PERSIST. -/
def State.keepKey (s : State) (n : Nat) (p : Persisted) : State := s.setRime { s.rime with persist := tabSet s.rime.persist n p }

/-- KEY_WRITE (R701). `oldForm`: the settings format of an image under trial's predecessor can express the key (R728). -/
def execKeyWrite (d : Desc) (rd : DmaRead) (oldForm : Bool) (s : State) : Res :=
  .next (s.withDesc 0x60 d fun t s =>
    let n := d.target.toNat
    let refused (s : State) (a : Access) (k : State) : State := match a with
      | .boundary a => s.fin t stBoundary a
      | .protection a => s.fin t stProtection a
      | .ok => k
    if DescF.bufLen d < 96 then s.fin t stBad 16
    -- BLOB_ADDR is checked before any transfer
    else refused s (if DescF.par d 0 8 ≠ 0 then s.checkRange d.port (DescF.par d 0 8) 128 false true else .ok) <| s.withRead t d rd fun b s =>
      let b := b.take 96
      let type := field b 2 1; let persist := bitAt (field b 3 1) 0; let blobOut := bitAt (field b 3 1) 1
      let addr := DescF.par d 0 8
      if !keyWriteOk b then s.fin t stBad 8
      else if !blobOut && addr ≠ 0 then s.fin t stBad 24
      else refused s (if blobOut then s.checkRange d.port addr 128 false true else .ok) <|
          if s.keySt n = 1 then s.fin t stCapacity 1
          else if (blobOut || persist) && s.rime.root.isNone then s.fin t stCapacity 9
          else if (blobOut || persist) && !s.rngReady then s.fin t stCapacity 0xB
          else if persist && s.trialRefuses oldForm then s.fin t stCapacity 0xD
          else
            let a : KeyAttr := { type := type, usage := field b 4 2, persist := persist, exported := blobOut, id := field b 8 4 }
            let key := leNat ((b.drop 16).take (keyLen type))
            let s := s.storeKey n a key
            let s := if !blobOut && !persist then s
              else
                let (nonce, s) := s.random 96
                let s := s.useKey 2 2
                let blob := s.makeBlob n a key nonce
                let s := if blobOut then s.emit (.dma d.port addr blob) else s
                let kept : Persisted := { rootId := (s.reg .KEY_ROOT_ID 0).toNat, type := type, usage := a.usage, id := a.id,
                                          exported := blobOut, blob := blob, gen := s.keyGen n }
                if persist then s.keepKey n kept else s
            s.fin t stDone (s.keyGen n))

/-- KEY_UNWRAP (R703): a blob loads its key. -/
def execKeyUnwrap (d : Desc) (rd : DmaRead) (s : State) : Res :=
  .next (s.withDesc 0x63 d fun t s =>
    let n := d.target.toNat
    if DescF.bufLen d < 128 then s.fin t stBad 16
    else s.withRead t d rd fun b s =>
      let b := b.take 128
      if field b 0 2 ≠ 1 || field b 3 1 ≠ 0 || field b 100 12 ≠ 0 then s.fin t stBad 8
      else if s.keySt n = 1 then s.fin t stCapacity 1
      else if field b 6 2 ≠ n then s.fin t stCapacity 2
      else if s.rime.root.isNone then s.fin t stCapacity 9
      else
        let s := s.useKey 2 2
        match s.openBlob b with
        | none => s.fin t stCapacity 3
        | some key => (s.storeKey n { type := field b 2 1, usage := field b 4 2, exported := true, id := field b 8 4 } key).fin t stDone 0)

/-- R704: the first PARAM byte of KEY_DERIVE that breaks its layout. -/
def deriveBad (d : Desc) : Option Nat :=
  let type := DescF.par d 2 1; let usage := DescF.par d 4 2; let len := DescF.par d 6 2
  if 256 ≤ DescF.par d 0 2 then some 24
  else if type = 0 || 4 < type then some 26
  else if 2 ≤ DescF.par d 3 1 then some 27
  else if (usage &&& usageOf type) ≠ usage then some 28
  else if len = 0 || 16 < len then some 30
  else if DescF.par d (8 + len) (16 - len) ≠ 0 then some (32 + len)
  else none

/-- KEY_DERIVE (R704, R705). -/
def execKeyDerive (d : Desc) (oldForm : Bool) (s : State) : Res :=
  .next (s.withDesc 0x61 d fun t s =>
    let n := d.target.toNat
    match deriveBad d with
    | some k => s.fin t stBad k
    | none =>
      let p := DescF.par d 0 2; let type := DescF.par d 2 1; let persist := bitAt (DescF.par d 3 1) 0
      let label := (d.param.drop 8).take (DescF.par d 6 2); let ctx := (d.param.drop 24).take 8
      let level := s.get Fld.KEY_ATTR__LEVEL p + 1
      if s.keySt n = 1 then s.fin t stCapacity 1
      else if 4 < level then s.fin t stCapacity 4
      else if !s.keyUsable p [3] 5 then s.fin t stCapacity 5
      else if persist && s.trialRefuses oldForm then s.fin t stCapacity 0xD
      else
        let g := s.keyGen p
        let a : KeyAttr := { type := type, usage := DescF.par d 4 2, level := level, derived := true, persist := persist, parent := p, pgen := g,
                             id := DescF.par d 32 4 }
        let s := s.useKey 4 p
        let s := s.storeKey n a (kdf (s.keyOf p) label ctx g type)
        let kept : Persisted := { rootId := (s.reg .KEY_ROOT_ID 0).toNat, type := type, usage := a.usage, id := a.id, derived := true,
                                  level := level, parent := p, pgen := g, label := label, ctx := ctx }
        (if persist then s.keepKey n kept else s).fin t stDone 0)

/-- The checks of KEY_DESTROY for this MODE (R707): PARAM byte 0 must hold it. -/
def State.keyDestroy (s : State) (d : Desc) (mode : Nat) (k : Ticket → Nat → State → State) : State :=
  s.withDesc 0x62 d fun t s => if DescF.par d 0 1 ≠ mode then s.fin t stBad 24 else k t d.target.toNat s

/-- KEY_DESTROY, MODE DESTROY (R707, R708). -/
def execKeyDestroy (d : Desc) (s : State) : Res :=
  .next (s.keyDestroy d 1 fun t n s =>
    if s.keySt n ≠ 1 then s.fin t stDone 0
    else
      let g := if s.flag Fld.KEY_ATTR__DERIVED n then s.get Fld.KEY_PARENT__PARENT n else n
      if s.keyGen g = 0xFFFFFFFF then s.fin t stCapacity 7
      else
        let (s, k) := (s.dropKey n 0).raiseGen g
        s.fin t stDone (k + 1))

/-- KEY_DESTROY, MODE CHILDREN (R707, R708): derived keys and BASE0 to BASE3. -/
def execKeyDestroyChildren (d : Desc) (s : State) : Res :=
  .next (s.keyDestroy d 2 fun t n s =>
    if n < 4 || s.keySt n ≠ 1 || !s.flag Fld.KEY_ATTR__DERIVED n then s.fin t stCapacity 6
    else if s.keyGen n = 0xFFFFFFFF then s.fin t stCapacity 7
    else
      let (s, k) := s.raiseGen n
      s.fin t stDone k)

/-- R707: EVICT of a key with children in slots is refused. -/
def State.hasChildren (s : State) (n : Nat) : Bool :=
  generalSlots.any fun c => s.keySt c == 1 && s.flag Fld.KEY_ATTR__DERIVED c && s.get Fld.KEY_PARENT__PARENT c == n

/-- KEY_DESTROY, MODE EVICT (R707). -/
def execEvict (d : Desc) (s : State) : Res :=
  .next (s.keyDestroy d 3 fun t n s =>
    if s.keySt n ≠ 1 then s.fin t stDone 0
    else if !s.flag Fld.KEY_ATTR__DERIVED n && !s.flag Fld.KEY_ATTR__EXPORTED n then s.fin t stCapacity 8
    else if s.hasChildren n then s.fin t stCapacity 0xC
    else ((s.dropKey n 0).keyCounts).fin t stDone 1)

/-! ### Tamper and zeroisation -/

/-- R710: Rime clears every slot and working key; key descriptors in progress complete with 0xA. R711: a new root at once. -/
def State.zeroiseSlots (s : State) : State :=
  let s := (s.setRime { s.rime with clearDue := false }).clearSlots.put Fld.KEY_ERR__ZEROISED 0 1
  let s := s.postBoth { code := 0x0C1, sev := 3, data := s.get Fld.KEY_TAMPER__TRIPPED 0 }
  let s := [Port.h0, Port.h1].foldl (fun s p =>
    ((s.host p).fetched.filter fun f => decide (0x60 ≤ f.op) && decide (f.op ≤ 0x63)).foldl (fun s f =>
      (s.dropFetched p f).fin { s.ticket f.d with epoch := f.epoch } stCapacity 0xA) s) s
  s.makeRoot.reopenLedger

/-- R709, R710: monitor k has tripped: TRIPPED and its time stand, the root is gone, the module wakes and the firmware of the
Firn dies has the trip to log (R473). -/
def State.tamperLatch (s : State) (k : Nat) : State :=
  let s := s.put Fld.KEY_TAMPER__TRIPPED 0 (putBits (s.get Fld.KEY_TAMPER__TRIPPED 0) k 1 1)
  let dt := if s.boot.badRails.contains .vaon || s.isOff then 0 else s.devTime
  let s := (s.setReg .KEY_TAMPER_TIME_LO 0 (BitVec.ofNat 32 dt)).setReg .KEY_TAMPER_TIME_HI 0 (BitVec.ofNat 32 (dt / 2 ^ 32))
  let s := s.setReg .KEY_ROOT_ID 0 0
  let s := (s.put Fld.KEY_STATUS__ROOT 0 0).wakeSource 13
  let s := { s with f0 := { s.f0 with vbatPend := s.f0.vbatPend ++ [(k, dt)] } }
  let s := if s.variant.hasF1 then { s with f1 := { s.f1 with vbatPend := s.f1.vbatPend ++ [(k, dt)] } } else s
  s.setRime { s.rime with root := none, zeroed := true }

/-- TAMPER_MONITOR_TRIP (R709, R710): monitor k trips; one that is not armed does nothing. -/
def execTamperMonitorTrip (k : Nat) (s : State) : Res :=
  if 5 ≤ k || !bitAt (s.get Fld.KEY_TAMPER__ARMED 0) k then .next s
  else
    let u := s.tamperLatch k
    .next (if u.dieRuns .cdie && u.pwr ≠ 3 && !u.isOff then u.zeroiseSlots else u.setRime { u.rime with clearDue := true })

/-- R696, R710: on waking, a zeroisation of the sleep reaches the slots, and re-masking resumes. -/
def State.rimeWake (s : State) : State :=
  let s := s.setRime { s.rime with lastMask := s.time }
  if s.rime.clearDue then s.zeroiseSlots else s

/-! ### Restoration (R696) -/

/-- Why a persisted key cannot be restored (R714); a parent that is not there has no code of its own (log entry 1). -/
def State.restoreFails (s : State) (n : Nat) (p : Persisted) : Option (Option Nat) :=
  if p.rootId ≠ (s.reg .KEY_ROOT_ID 0).toNat || s.rime.root.isNone then some (some 3)
  else if p.derived then
    if s.keyGen p.parent ≠ p.pgen then some (some 2) else if s.keyUsable p.parent [3] 5 then none else some none
  else if p.gen = s.keyGen n && (s.openBlob p.blob).isSome then none else some (some 1)

/-- Restore one persisted key. -/
def State.restoreKey (s : State) (n : Nat) (p : Persisted) : State :=
  match s.restoreFails n p with
  | some why =>
    let (c, s) := match why with | some c => (c, s) | none => let (r, s) := s.drawBelow 3; (r + 1, s)
    let s := s.setRime { s.rime with persist := tabErase s.rime.persist n }
    (s.put Fld.KEY_ERR__RESTORE 0 1).postBoth { code := 0x0C3, sev := 2, obj := n, data := c }
  | none =>
    let a : KeyAttr := { type := p.type, usage := p.usage, level := p.level, derived := p.derived, persist := true, exported := p.exported,
                         parent := if p.derived then p.parent else 0x1FF, pgen := p.pgen, id := p.id }
    if p.derived then s.storeKey n a (kdf (s.keyOf p.parent) p.label p.ctx p.pgen p.type)
    else s.storeKey n a ((s.openBlob p.blob).getD 0)

/-- R696: stage 0xA restores the persisted keys, derived ones in ascending level. -/
def State.keyRestoration (s : State) : State :=
  let run (f : Persisted → Bool) (s : State) : State :=
    (s.rime.persist.filter fun x => f x.2).foldl (fun s x => s.restoreKey x.1 x.2) s
  let s := run (fun p => !p.derived) s
  let s := run (fun p => p.derived && p.level == 2) s
  let s := run (fun p => p.derived && p.level == 3) s
  run (fun p => p.derived && p.level == 4) s

/-- R709: the configuration arms monitors. -/
def State.armTamper (s : State) (arm : Nat) : State :=
  if s.get Fld.KEY_TAMPER__ARMED 0 = arm % 32 then s
  else (s.put Fld.KEY_TAMPER__ARMED 0 arm).postBoth { code := 0x0C4, sev := 1, data := arm % 32 }

end Sys2Proof.Machine
end

