-- ==== Sys2Proof/Machine/Admission.lean ====
section
/-!
DEFINITION. Machine/Admission.lean: admission of a configuration image (R251 to R256): densities, the mapping of tasks to
engines, deadline chains, the spare reserve, FLOOR.
-/
namespace Sys2Proof.Machine

/-! ### Densities: exact fractions (numerator, denominator) -/

abbrev Frac := Nat × Nat

def Frac.add (a b : Frac) : Frac := (a.1 * b.2 + b.1 * a.2, a.2 * b.2)
def Frac.le (a b : Frac) : Bool := decide (a.1 * b.2 ≤ b.1 * a.2)
/-- A fraction in ‰, truncated. -/
def Frac.permille (a : Frac) : Nat := a.1 * 1000 / a.2

/-- R251: density (C + 400) / (f × D) at FSEL code `fsel`: f is 650.88 MHz halved by each code, 325.44 MHz on a Firn die. -/
def density (c : TaskCfg) (fsel : Nat) : Frac :=
  ((c.budget + 400) * 100 * (if c.domain < 2 then 2 ^ fsel else 2), 65088 * max 1 c.deadline)

/-- The tasks of an image with their item index, in image order. -/
def tasksOf (items : List ConfItem) : List (Nat × TaskCfg) :=
  items.zipIdx.filterMap fun x => match x.1 with | .task c => some (x.2, c) | _ => none

/-- The clusters of the application partition that an image names (R41). -/
def appOf (items : List ConfItem) : List Nat := items.filterMap fun i => match i with | .appCluster k _ _ => some k | _ => none

/-- The domain of an engine: 0 the firmware part, 1 the application partition, 2 F0, 3 F1 (R251). -/
def engDomain (app : List Nat) (n : Nat) : Nat :=
  if n < 128 then (if app.contains (n / 8) then 1 else 0) else if n < 192 then 2 else 3

/-- Engines that admission counts: those that passed their self-test and hold no old image (R121, R276, R729). -/
def State.counted (s : State) (n : Nat) : Bool :=
  let st := s.engGet Fld.ENG_STATE__STATE n
  st != eHalted && st != eRetired && st != eProbation && !(decide (n < 128) && bitAt (s.reg .UPD_RESIDENT (n / 32)).toNat (n % 32))
  && (decide (n < 192) || s.variant.hasF1)

/-- The engines of a domain, rising. -/
def State.domainEngines (s : State) (app : List Nat) (dom : Nat) : List Nat :=
  (upTo 256).filter fun n => engDomain app n == dom && s.counted n

/-! ### Mapping (R253, step 2) -/

/-- Utilisation by engine, and the engine of each task by item index. -/
structure Mapping where
  util : List (Nat × Frac) := []
  task : List (Nat × Nat) := []
deriving DecidableEq, Repr

def Mapping.utilOf (m : Mapping) (n : Nat) : Frac := tabGet (0, 1) m.util n
def Mapping.place (m : Mapping) (i n : Nat) (q : Frac) : Mapping :=
  { util := tabSet m.util n ((m.utilOf n).add q), task := m.task ++ [(i, n)] }

/-- Place one task on the first of these engines whose utilisation stays at or below 0.80. -/
def Mapping.fit (m : Mapping) (i : Nat) (q : Frac) (engines : List Nat) : Option Mapping :=
  (engines.find? fun n => ((m.utilOf n).add q).le (4, 5)).map fun n => m.place i n q

/-- Decreasing density, ties in image order. -/
def insertTask (x : Nat × TaskCfg) : List (Nat × TaskCfg) → List (Nat × TaskCfg)
  | [] => [x]
  | y :: r => if (density y.2 0).le (density x.2 0) && !(density x.2 0).le (density y.2 0) then x :: y :: r else y :: insertTask x r
def byDensity (l : List (Nat × TaskCfg)) : List (Nat × TaskCfg) := l.foldl (fun acc x => insertTask x acc) []

/-- Map tasks onto the engines that `engines` gives their domain; the first that fits nowhere otherwise. -/
def mapTasks (engines : Nat → List Nat) : Mapping → List (Nat × TaskCfg) → Mapping ⊕ Nat
  | m, [] => .inl m
  | m, (i, c) :: r =>
    let on := match c.pin with | some n => [n] | none => engines c.domain
    match m.fit i (density c 0) on with
    | some m => mapTasks engines m r
    | none => .inr i

/-- R253: pinned tasks first, then the others in order of decreasing density. -/
def mapAll (engines : Nat → List Nat) (ts : List (Nat × TaskCfg)) : Mapping ⊕ Nat :=
  mapTasks engines {} ((ts.filter (·.2.pin.isSome)) ++ byDensity (ts.filter (·.2.pin.isNone)))

/-! ### Chains (R252) -/

/-- The latency of a hop between two engines; between the Firn dies by way of the C-die. -/
def hop (a b : Nat) : Nat :=
  let die (n : Nat) : Nat := if n < 128 then 0 else if n < 192 then 1 else 2
  if a = b then 0 else if a / 8 = b / 8 then 1 else if die a = die b then 2 else if die a = 0 || die b = 0 then 20 else 40

/-- The latency of the stages of a chain from the second on: each periodic one's period, every deadline, every hop. -/
def chainRest (ts : List (Nat × TaskCfg)) (m : Mapping) : List Nat → Nat
  | [] => 0
  | [_] => 0
  | a :: b :: r =>
    let c := tabGet {} ts b
    hop (tabGet 0 m.task a) (tabGet 0 m.task b) + c.deadline + (if c.message then 0 else c.period) + chainRest ts m (b :: r)

def chainLatency (ts : List (Nat × TaskCfg)) (m : Mapping) (chain : List Nat) (fromInput toOutput : Bool) : Nat :=
  (match chain with | [] => 0 | a :: _ => (tabGet {} ts a).deadline) + chainRest ts m chain
    + (if fromInput then 200 else 0) + (if toOutput then 1150 else 0)

/-! ### The checks (R253) -/

/-- Why admission refuses: status, reason of R256, item. -/
structure AdmitFail where
  status : Nat
  reason : Nat
  item : Nat
deriving DecidableEq, Repr

/-- R605: the least reaction time of a function of the locked configuration, in 0.01 ms: 1.03 × F + B + 1.1 ms. -/
def leastReaction (cfg : List Byte) (f : Nat) : Nat :=
  let ins := (fnCfg cfg f).inp.filter (· < 32)
  let fmax := ins.foldl (fun m i => max m (serF cfg i)) 0
  let b := ins.foldl (fun m i => if (serSource cfg i).isSome then 50 else m) 0
  (fmax * 25 * 103 + 99) / 100 + b + 110

/-- Step 1 for one item. -/
def State.admitItem (s : State) (app : List Nat) : Nat → ConfItem → Option AdmitFail
  | i, .task c =>
    if 65536 < c.bytes || 65536 < c.data then some ⟨stCapacity, 7, i⟩
    else if !(density c 0).le (4, 5) then some ⟨stDeadline, 1, i⟩
    else match c.pin with
      | some n => if engDomain app n ≠ c.domain || !s.counted n then some ⟨stImage, 8, i⟩ else none
      | none => none
  | i, .reaction f t => if t < leastReaction s.serac.cfg f then some ⟨stDeadline, 4, i⟩ else none
  | _, _ => none

/-- The first item that concerns a domain; the index ITEMS where the image has none (R735). -/
def domainItem (items : List ConfItem) (dom : Nat) : Nat :=
  ((tasksOf items).find? fun x => x.2.domain == dom).elim items.length (·.1)

/-- Step 4: the spares of each domain under a mapping. -/
def State.sparesUnder (s : State) (app : List Nat) (m : Mapping) (dom : Nat) : Nat :=
  ((s.domainEngines app dom).filter fun n => !m.task.any (·.2 == n)).length

def State.spareFail (s : State) (items : List ConfItem) (app : List Nat) (m : Mapping) : Option AdmitFail :=
  let sp := s.sparesUnder app m
  if sp 2 < 2 then some ⟨stDeadline, 5, domainItem items 2⟩
  else if s.variant.hasF1 && sp 3 < 2 then some ⟨stDeadline, 5, domainItem items 3⟩
  else if sp 0 + sp 1 < 4 || sp 0 < 2 then some ⟨stDeadline, 6, domainItem items 0⟩
  else if !app.isEmpty && sp 1 < 1 then some ⟨stDeadline, 6, domainItem items 1⟩
  else none

/-- R253: the checks in order, and the mapping of an image that passes. -/
def State.admission (s : State) (items : List ConfItem) : Mapping ⊕ AdmitFail :=
  let app := appOf items
  match items.zipIdx.findSome? fun x => s.admitItem app x.2 x.1 with
  | some f => .inr f
  | none =>
    let ts := tasksOf items
    match mapAll (s.domainEngines app) ts with
    | .inr i => .inr ⟨stDeadline, 2, i⟩
    | .inl m =>
      let bad := items.zipIdx.find? fun x => match x.1 with
        | .chain l b fi last => decide (b < chainLatency ts m l fi last)
        | _ => false
      match bad with
      | some x => .inr ⟨stDeadline, 3, x.2⟩
      | none => match s.spareFail items app m with
        | some f => .inr f
        | none => .inl m

/-- The utilisation of an engine under a mapping at an FSEL code. -/
def utilAt (ts : List (Nat × TaskCfg)) (map : List (Nat × Nat)) (fsel n : Nat) : Frac :=
  (map.filter (·.2 == n)).foldl (fun (q : Frac) x => q.add (density (tabGet {} ts x.1) fsel)) (0, 1)

/-- R254: the highest FSEL code at which every C-die engine stays at or below 0.80. -/
def fselFloor (ts : List (Nat × TaskCfg)) (map : List (Nat × Nat)) : Nat :=
  let ok (fsel : Nat) : Bool := (upTo 128).all fun n => (utilAt ts map fsel n).le (4, 5)
  if ok 2 then 2 else if ok 1 then 1 else 0

/-- R256: the admission registers after an admission. -/
def State.admitRegs (s : State) (items : List ConfItem) (r : Mapping ⊕ AdmitFail) : State :=
  let s := match r with
    | .inl _ => ((s.put Fld.ENG_ADMIT_STATUS__REASON 0 0).put Fld.ENG_ADMIT_STATUS__OUTCOME 0 2).setReg .ENG_ADMIT_ITEM 0 0
    | .inr f => ((s.put Fld.ENG_ADMIT_STATUS__REASON 0 f.reason).put Fld.ENG_ADMIT_STATUS__OUTCOME 0 1).setReg .ENG_ADMIT_ITEM 0
        (BitVec.ofNat 32 f.item)
  let app := appOf items
  let m : Mapping := match r with
    | .inl m => m
    | .inr _ => match mapAll (s.domainEngines app) (tasksOf items) with | .inl m => m | .inr _ => {}
  let sp (dom : Nat) : Nat := s.sparesUnder app m dom
  let s := (s.put Fld.ENG_ADMIT_SPARES__FW 0 (sp 0)).put Fld.ENG_ADMIT_SPARES__APP 0 (sp 1)
  (s.put Fld.ENG_ADMIT_SPARES__F0 0 (sp 2)).put Fld.ENG_ADMIT_SPARES__F1 0 (sp 3)

/-- ENG_POOL and FIRN_POOL: how many engines are in each state (R276, R456). -/
def State.poolRefresh (s : State) : State :=
  let n (dom : Nat) : Nat := ((upTo 256).filter fun e => engDomain s.cfg.appClusters e == dom && s.engGet Fld.ENG_STATE__STATE e == eSpare).length
  let s := ((s.put Fld.ENG_POOL__FW 0 (n 0)).put Fld.ENG_POOL__APP 0 (n 1)).put Fld.ENG_POOL__F0 0 (n 2) |>.put Fld.ENG_POOL__F1 0 (n 3)
  let k (d st : Nat) : Nat := ((upTo 64).filter fun e => s.engGet Fld.ENG_STATE__STATE (128 + 64 * d + e) == st).length
  [0, 1].foldl (fun s d => (((s.put Fld.FIRN_POOL__RETIRED d (k d eRetired)).put Fld.FIRN_POOL__PROBATION d (k d eProbation)).put
    Fld.FIRN_POOL__SPARE d (k d eSpare)).put Fld.FIRN_POOL__ACTIVE d (k d eActive)) s

end Sys2Proof.Machine
end

