-- ==== Sys2Proof/Machine/ConfigLoad.lean ====
section
/-!
DEFINITION. Machine/ConfigLoad.lean: configuration images (R733 to R736): their layout, owner, checks, and their taking effect.
-/
namespace Sys2Proof.Machine

def State.setUpd (s : State) (u : UpdSt) : State := { s with upd := u }

/-! ### The running image (R715) -/

/-- The image in a slot: 0 A, 1 B; the running image. -/
def State.slotImg (s : State) (k : Nat) : List Byte := if k = 0 then s.upd.imgA else s.upd.imgB
def State.runImg (s : State) : List Byte := if s.upd.hostBooted then s.upd.hostImg else s.slotImg s.upd.running

/-- Header fields of a firmware image (R715). -/
def imgVersion (b : List Byte) : Nat := field b 8 4
def imgSvn (b : List Byte) : Nat := field b 12 1
def imgHitlessOk (b : List Byte) : Bool := bitAt (field b 13 1) 1
def imgFormat (b : List Byte) : Nat := field b 32 4
def imgOldest (b : List Byte) : Nat := field b 36 4
/-- Does an image read a settings format? -/
def imgReads (b : List Byte) (f : Nat) : Bool := decide (imgOldest b ≤ f) && decide (f ≤ imgFormat b)

/-! ### Layout (R733) -/

/-- KIND and LENGTH of each item; none where the headers do not fill the bytes exactly. -/
def itemHeads : Nat → List Byte → Option (List (Nat × Nat))
  | 0, b => if b.isEmpty then some [] else none
  | n + 1, b =>
    let len := field b 4 4
    if b.length < 8 + len || len % 4 ≠ 0 || field b 2 2 ≠ 0 then none
    else (itemHeads n (b.drop (8 + len))).map fun r => (field b 0 2, len) :: r

/-- Check 1 of R735, and the item headers. -/
def State.confHeads (s : State) (b : List Byte) : Option (List (Nat × Nat)) :=
  let flags := field b 19 1
  if b.length < 256 || field b 0 4 ≠ 0x46435842 || !imgReads s.runImg (field b 4 2) || field b 6 2 ≠ 0 || field b 8 4 = 0
      || 8 ≤ flags || (!bitAt flags 0 && field b 20 8 ≠ 0) || (!bitAt flags 2 && field b 96 64 ≠ 0) || field b 160 32 ≠ 0 then none
  else itemHeads (field b 12 4) ((b.take (b.length - 64)).drop 192)

/-- R734: the hash of a public key. -/
def keyHash (b : List Byte) : Nat := Config.digest 1 (b.map (·.toNat))

/-- R716: the revision of the silicon, coded as R136; the checks of DEVICE, VARIANT_MASK and UNIT_HASH, by reason. -/
def State.revision (s : State) : Nat := 16 * (s.stepping / 256 - 0x41) + (s.stepping % 256 - 0x30)
def State.serialHash (s : State) : Nat := (s.reg .UPD_SERIAL_HASH_LO 0).toNat + (s.reg .UPD_SERIAL_HASH_HI 0).toNat * 2 ^ 32
def State.bindFail (s : State) (device mask : Nat) (bound : Bool) (hash : Nat) (minStep : Nat) : Option Nat :=
  if device ≠ 0x9192 then some 1
  else if !bitAt mask s.variant.code then some 2
  else if s.revision < minStep then some 3
  else if bound && hash ≠ s.serialHash then some 4
  else none

/-! ### Items: absent units (R14) and the rules of their chapters -/

/-- Check 6: an item that refers to an absent unit or object. -/
def State.itemAbsent (s : State) : ConfItem → Bool
  | .chan ch _ => decide ((if s.variant.hasF1 then 192 else 96) ≤ ch)
  | .point p c => decide (256 ≤ p) || (c.die == .f1 && !s.variant.hasF1) || (c.slice.isSome && (!s.variant.hasDdie || decide (64 ≤ c.slice.getD 0)))
      || (c.switch.isSome && (!s.variant.hasDdie || decide (48 ≤ c.switch.getD 0))) || (c.pulse.isSome && (!s.variant.hasDdie || decide (64 ≤ c.pulse.getD 0)))
  | .slice n c => !s.variant.hasDdie || decide (64 ≤ n) || c.point.any (256 ≤ ·) || c.switch.any (48 ≤ ·)
      || c.antenna.any fun a => !s.variant.hasReader || decide (64 ≤ a)
  | .switch n _ => !s.variant.hasDdie || decide (48 ≤ n)
  | .kyoti _ => !s.variant.hasKyoti
  | .antenna p _ _ _ _ _ => !s.variant.hasReader || decide (64 ≤ p)
  | .frontEnd n _ _ _ _ => !s.variant.hasReader || decide (8 ≤ n)
  | .issuer _ => !s.variant.hasReader
  | .task c => (c.domain == 3 && !s.variant.hasF1) || c.pin.any fun n => decide (256 ≤ n) || (decide (192 ≤ n) && !s.variant.hasF1)
  | .reaction _ _ => !s.variant.hasDdie
  | .chain _ _ fromInput toOutput => (fromInput || toOutput) && !s.variant.hasDdie
  | .appCluster k _ _ => decide (16 ≤ k)
  | _ => false

/-- The type that the image gives a die's channel. -/
def chTypeIn (items : List ConfItem) (d : Firn) (j : Nat) : Nat :=
  (items.findSome? fun i => match i with | .chan ch c => if ch = chIdx d j then some c.type else none | _ => none).getD 0

def pointsIn (items : List ConfItem) : List (Nat × PointCfg) := items.filterMap fun i => match i with | .point p c => some (p, c) | _ => none
def slicesIn (items : List ConfItem) : List (Nat × SliceCfg) := items.filterMap fun i => match i with | .slice p c => some (p, c) | _ => none
def switchesIn (items : List ConfItem) : List (Nat × SwitchCfg) := items.filterMap fun i => match i with | .switch p c => some (p, c) | _ => none

/-- R323: the voltage and current channels of a topology. -/
def topoCount (t : Nat) : Nat × Nat := if t = 1 || t = 4 then (1, 1) else if t = 2 then (3, 3) else if t = 3 then (2, 2) else (0, 0)

/-- R325: an electricity point. -/
def State.elecBad (s : State) (items : List ConfItem) (p : Nat) (c : PointCfg) : Bool :=
  let ty := chTypeIn items c.die
  let others := (pointsIn items).filter (·.1 != p)
  let cur := c.ich ++ c.neutral.toList
  -- R37: every channel is one of the die's own
  (c.uch ++ cur).any (fun j => decide (96 ≤ j)) ||
  (c.uch.length, c.ich.length) != topoCount c.topology || (c.commodity == cDc) != (c.topology == 4)
  || (c.neutral.isSome && c.topology != 2)
  || c.uch.any (fun j => ty j != 1 && ty j != 5)
  || cur.any (fun j => ty j != 2 && ty j != (if c.commodity = cDc then 5 else 3))
  || others.any (fun q => q.2.die == c.die && (q.2.ich ++ q.2.neutral.toList).any (cur.contains ·)) || cur.length != cur.eraseDups.length
  || others.any (fun q => q.2.die == c.die && q.2.uch.any (c.uch.contains ·) && q.2.nom60 != c.nom60)
  || (c.uch.zip c.ich).any (fun x =>
      let k := kEnergy (s.reg .CH_SCALE (chIdx c.die x.1)) (s.reg .CH_SCALE (chIdx c.die x.2))
      decide (k < 2 ^ 32) || decide (2 ^ 64 ≤ k))
  || !([5, 10, 15, 30, 60].contains c.di) || c.sub = 0 || 15 < c.sub || c.di % (max 1 c.sub) != 0

/-- The type of the channel on an input of a flow point; 0 where it has none. -/
def flowType (items : List ConfItem) (c : PointCfg) (k : Nat) : Nat := match tabFind c.fch k with | some j => chTypeIn items c.die j | none => 0

/-- The channels of a point, and those that measure a differential pressure (R324, R365). -/
def pointChans (c : PointCfg) : List Nat := c.uch ++ c.ich ++ c.neutral.toList ++ c.fch.map (·.2)
def dpChans (c : PointCfg) : List Nat := (c.fch.filter fun y => y.1 < 2).map (·.2)

/-- R365 to R370: a flow point. -/
def State.flowBad (s : State) (items : List ConfItem) (p : Nat) (c : PointCfg) : Bool :=
  let x := (s.mp p).flow
  let prop := field x.par 3 1; let primary := field x.par 2 1; let level := field x.par 4 1
  let ty := flowType items c
  let others := (pointsIn items).filter (·.1 != p)
  let has (k : Nat) : Bool := (tabFind c.fch k).isSome
  let dp := c.topology = 5 || c.topology = 6
  let analog (k : Nat) : Bool := !has k || ty k == 4 || ty k == 5
  let temp (k : Nat) : Bool := !has k || ty k == 4 || ty k == 5 || ty k == 6
  let one (w : W32) : Bool := decide (w.toNat ≤ 0x3F800000)
  let minute (w : W32) : Bool := decide (w.toNat ≤ 0x42700000)
  -- R37: every channel is one of the die's own
  c.fch.any (fun y => decide (96 ≤ y.2)) || x.par.isEmpty || x.hash != c.paramHash
  || (if c.commodity = 3 then prop != 1 && prop != 2 else if c.commodity = 4 then prop != 3 else prop != 4)
  || ((prop = 1 || prop = 2 || prop = 3) && !has 2) || ((prop = 1 || prop = 3 || prop = 4) && !has 3)
  || (dp && !has 0) || (c.topology = 6 && !has 1) || ((c.topology = 7 || c.topology = 8) && c.pulse.isNone)
  || !analog 0 || !analog 1 || !analog 2 || !temp 3 || (if prop = 3 then !analog 4 else !temp 4)
  || others.any (fun q => q.2.die == c.die && ((dpChans q.2).any (pointChans c).contains || (dpChans c).any (pointChans q.2).contains))
  || others.any (fun q => c.pulse.isSome && q.2.pulse == c.pulse)
  || (dp && primary = 0) || (!dp && primary != 0) || !([5, 6, 7, 8].contains c.topology)
  || (c.topology = 7 && level != 1 && level != 2) || (c.topology = 8 && level != 3 && level != 4)
  || c.freezeBlocks = 0 || 50 < c.freezeBlocks || c.tailMax = 0 || 600 < c.tailMax || c.discLimit = 0 || 1000 < c.discLimit
  || !minute c.tReact || !minute c.tClose || !one c.fClose || !one c.trimGain

/-- R426: the point names a schedule with a rate that the point does not have. -/
def State.schedBad (s : State) (c : PointCfg) : Bool :=
  c.sched != 15 && (decide (3 < c.sched) || match tabFind (s.firn c.die).sched c.sched with | some x => decide (c.rates ≤ topRate x.body) | none => false)

/-- R517: a point slice. -/
def sliceBad (items : List ConfItem) (n : Nat) (c : SliceCfg) : Bool :=
  let others := (slicesIn items).filter (·.1 != n)
  let pt := c.point.bind (tabFind (pointsIn items) ·)
  decide (3 < c.kind) || c.point.any (fun p => decide (255 < p)) || c.switch.any (fun k => decide (47 < k)) || c.antenna.any (fun a => decide (63 < a)) || decide (2 < c.efMode) || decide (1 < c.ppMode) || decide (10000 < c.lockHold) || decide (15 < c.hlcPort) || decide (3 < c.hlcCs)
  || decide (15 < c.group) || decide (c.offerTimeout < 10) || decide (3600 < c.offerTimeout)
  || (c.kind != 0 &&
    (c.switch.isNone || decide (c.iMax < 60) || decide ((if c.kind = 3 then 30000 else 800) < c.iMax)
    || (match pt with
      | none => true
      | some q => (if c.kind = 1 then !(q.commodity == 1 && q.topology == 1) else if c.kind = 2 then !(q.commodity == 1 && q.topology == 2) else q.commodity != cDc)
          || (q.switch.isSome && q.switch != c.switch))
    || (c.efMode = 1 && c.kind = 3) || (c.efMode = 2 && c.kind != 3)))
  || others.any (fun x => (c.point.isSome && x.2.point == c.point) || (c.switch.isSome && x.2.switch == c.switch)
      || (c.hlc && x.2.hlc && x.2.hlcPort == c.hlcPort && x.2.hlcCs == c.hlcCs))
  || (c.bpt && !c.hlc)

/-- R555: a switch; `before`: the safety switches of earlier items. -/
def State.switchBad (s : State) (items : List ConfItem) (n : Nat) (c : SwitchCfg) : Bool :=
  let named := (slicesIn items).any (fun x => x.2.switch == some n) || (pointsIn items).any (fun x => x.2.switch == some n)
  let first := ((switchesIn items).takeWhile (·.1 != n)).filter (·.2.safety)
  decide (15 < c.group) || decide (2 < c.fs) || decide (4 < c.ilim) || decide (255 < c.ilimTime) || decide (1 < c.otMode) || decide (c.clampBudget < 50)
  || decide (800 < c.clampBudget) || decide (1000000 < c.loadW)
  || (named && c.fs != 0) || (c.safety && c.fs != 0)
  || (c.safety && decide (16 ≤ first.length))
  || c.safety != (serSwitches s.serac.cfg).contains n

/-- R622 to R642, R636: the Kyoti item. -/
def kyotiBad (c : KyCfg) : Bool :=
  let baud := kyBaud c.rate / 100
  let (lo, hi) := if c.band = 0 then (350, 910) else (950, 1250)
  let beacon := if c.rate = 0 then (if c.nom60 then 7 else 6) else if c.rate = 1 then (if c.nom60 then 4 else 3) else 2
  let sf (odd : Bool) : Bool :=
    let u := sfUnits c.layout c.cycle2 odd
    u.length == 16 && (u.take beacon).all (· == 0) && (u.drop beacon).all (fun k => decide (1 ≤ k) && decide (k ≤ 5))
    && (u.filter (· == 1)).length ≤ 8
  decide (2 < c.rate) || decide (1 < c.band)
  || decide (c.fBase * 10 < lo * 10 + baud * 10) || decide (hi * 10 < c.fBase * 10 + 4 * baud * 10)
  || c.interleave = 0 || decide (4 < c.interleave) || c.level = 0 || decide (30 < c.level) || c.pollInterval = 0 || decide (65535 < c.pollInterval)
  || decide (7 < c.retries) || c.lostPolls = 0 || decide (64 < c.lostPolls) || c.relayInterval = 0 || decide (64 < c.relayInterval)
  || decide (c.rejoinSpread < 16) || decide (4096 < c.rejoinSpread) || decide (255 < c.keySlot) || decide (255 < c.fedSlot)
  || !sf false || (c.cycle2 && !sf true) || (c.polled ++ c.subSlots).any (fun k => !c.fits k 3)

/-- One Ethernet port: a replaced address is unicast and locally administered. -/
def ethBad (e : EthCfg) : Bool :=
  decide (2 < e.role) || decide (127 < e.domain) || decide (255 < e.prio) || decide (4 < e.logAnn)
  || !([0, 1, 13, 14, 15].contains e.logSync) || e.mac.any fun m => m % 4 != 2 || decide (2 ^ 48 ≤ m)

/-- Check 7 for one item. -/
def State.itemBad (s : State) (items : List ConfItem) : ConfItem → Bool
  | .glob g => decide (g.wdt < 2) || decide (200 < g.wdt) || decide (0x3FFF < g.device)
      || (decide (g.wdt < 4) && (imgHitlessOk s.upd.imgA || imgHitlessOk s.upd.imgB))
      || [g.commit0, g.commit1].any (fun v => decide (v < 20) || decide (1000 < v)) || decide (7 < g.rights0) || decide (7 < g.rights1)
      || decide (31 < g.arm) || ethBad g.eth0 || ethBad g.eth1 || (g.eth0.role == 2) != (g.eth1.role == 2)
  | .chan ch c =>
      let used (x : ConfItem) : Bool := match x with | .chan k y => k != ch && chDie k == chDie ch && y.type == 6 && y.src == c.src | _ => false
      decide (6 < c.type) || decide (15 < c.gain) || decide (2 < c.iexc) || (c.src != 15 && decide (7 < c.src))
      || (c.type = 6 && (c.src = 15 || items.any used))
  | .point p c => c.commodity = 0 || decide (5 < c.commodity) || c.rates = 0 || decide (8 < c.rates) || s.schedBad c || decide (15 < c.group)
      || (if c.commodity ≤ 2 then s.elecBad items p c else s.flowBad items p c)
  | .slice n c => sliceBad items n c
  | .switch n c => s.switchBad items n c
  | .group g c => decide (15 < g) || c.deferMax = 0 || decide (3600 < c.deferMax) || c.maxPerS = 0 || decide (16 < c.maxPerS) || c.minGap = 0
      || decide (255 < c.minGap) || decide (65535 < c.rampMs)
  | .site _ => false
  | .task c => decide (3 < c.domain) || c.deadline = 0 || c.period < c.deadline
  | .chain l _ _ _ => l.isEmpty || l.any fun i => match items[i]? with | some (.task _) => false | _ => true
  | .reaction f _ => decide (16 ≤ f) || !(fnCfg s.serac.cfg f).used
  | .kyoti c => kyotiBad c
  | .antenna _ _ _ policy _ _ => decide (1 < policy)
  | .frontEnd _ period guard rate _ => decide (period < 50) || decide (2000 < period) || decide (guard < 5) || decide (20 < guard) || decide (2 < rate)
  | .issuer i => decide (255 < i.slot) || (if i.l4 then decide (i.cmd.length < 4) else i.cmd.isEmpty) || decide (8 < i.cmd.length)
      || decide (8 < (items.filter fun x => match x with | .issuer _ => true | _ => false).length)
  | .appCluster _ _ _ => decide (12 < (appOf items).length)
  | .sram first n => decide (32 < n) || decide (64 < first + n) || decide (1 < (items.filter fun x => match x with | .sram _ _ => true | _ => false).length)
  | .fed dev mac => dev = 0 || decide (0x3FFF < dev) || decide (2 ^ 48 ≤ mac)
  | .fedGroup _ => decide (8 < (items.filter fun x => match x with | .fedGroup _ => true | _ => false).length)

/-- R555: a switch that Serac's locked configuration maps has no item. -/
def State.safetyMissing (s : State) (items : List ConfItem) : Bool :=
  s.variant.hasDdie && (serSwitches s.serac.cfg).any fun n => (tabFind (switchesIn items) n).isNone

/-! ### The configuration that an image declares -/

/-- An item joins the configuration. -/
def addItem (c : Conf) (i : Nat) : ConfItem → Conf
  | .glob g => { c with glob := g, wdtPeriod := g.wdt }
  | .chan ch x => { c with chans := c.chans ++ [(ch, x)] }
  | .point p x => { c with points := c.points ++ [(p, x)] }
  | .slice n x => { c with slices := c.slices ++ [(n, x)] }
  | .switch n x => { c with switches := c.switches ++ [(n, x)] }
  | .group g x => { c with groups := c.groups ++ [(g, x)] }
  | .site b => { c with siteBudget := b }
  | .task x => { c with tasks := c.tasks ++ [(i, x)] }
  | .chain _ _ _ _ | .reaction _ _ => c
  | .kyoti k => { c with ky := { k with on := true, fed := c.ky.fed } }
  | .antenna p o en pol amp ph =>
    { c with antOwner := c.antOwner ++ [(p, o)], reader := { c.reader with on := true, ants := c.reader.ants ++ [(p, en, pol, amp, ph)] } }
  | .frontEnd n per g r l => { c with reader := { c.reader with on := true, fes := c.reader.fes ++ [(n, per, g, r, l)] } }
  | .issuer x => { c with reader := { c.reader with issuers := c.reader.issuers ++ [x] } }
  | .appCluster k h ps => { c with appClusters := c.appClusters ++ [k], appHash := c.appHash ++ [(k, h)], appPoints := c.appPoints ++ ps }
  | .sram first n => { c with sramFirst := first, sramBlocks := n }
  | .fed dev mac => { c with ky := { c.ky with fed := c.ky.fed ++ [(dev, mac)] }, fedSources := c.fedSources ++ [mac] }
  | .fedGroup mac => { c with fedGroups := c.fedGroups ++ [mac] }

def confOf (items : List ConfItem) (m : Mapping) : Conf :=
  let c := items.zipIdx.foldl (fun c x => addItem c x.2 x.1) ({} : Conf)
  { c with ky := { c.ky with device := c.glob.device }, taskEngine := m.task
           pointEngines := (tasksOf items).filterMap fun x => x.2.point.bind fun p => (tabFind m.task x.1).map fun n => (n, p) }

/-- The items of a metering-point definition (R407). -/
def definitionOf (c : PointCfg) : PointCfg :=
  { die := c.die, commodity := c.commodity, topology := c.topology, uch := c.uch, ich := c.ich, neutral := c.neutral, fch := c.fch, pulse := c.pulse,
    rates := c.rates, di := c.di, sub := c.sub, offset := c.offset, sched := c.sched, un := c.un, inom := c.inom, flowRule := c.flowRule }

/-- The points whose definition changes, by number. -/
def changedPoints (old new : Conf) : List Nat :=
  (upTo 256).filter fun p => definitionOf (tabGet {} old.points p) != definitionOf (tabGet {} new.points p)

/-- The index of the item that concerns an object; ITEMS where none does. -/
def itemAt (items : List ConfItem) (f : ConfItem → Bool) : Nat := (items.findIdx? f).getD items.length

/-- Check 9: the item of a changed definition of an object in use. -/
def State.busyChange (s : State) (new : Conf) (items : List ConfItem) : Option Nat :=
  let idleMp (p : Nat) : Bool := let st := s.mpState p; st == mpIdle || st == mpOos
  let idleSl (n : Nat) : Bool := let st := s.session n; st == ssVacant || st == ssPlugged || st == ssUnavailable
  let pts := ((upTo 256).filter fun p => tabFind s.cfg.points p != tabFind new.points p && !idleMp p).map fun p =>
    itemAt items fun i => match i with | .point q _ => q == p | _ => false
  let sls := ((upTo 64).filter fun n => tabFind s.cfg.slices n != tabFind new.slices n && !idleSl n).map fun n =>
    itemAt items fun i => match i with | .slice q _ => q == n | _ => false
  let sws := ((upTo 48).filter fun n => tabFind s.cfg.switches n != tabFind new.switches n && s.swOn n).map fun n =>
    itemAt items fun i => match i with | .switch q _ => q == n | _ => false
  match pts ++ sls ++ sws with
  | [] => none
  | a :: r => some (r.foldl min a)

/-- Check 11: the dies whose log cannot take the records that a change causes (R409, R478). -/
def State.confLogFull (s : State) (new : Conf) : List Firn :=
  [Firn.f0, Firn.f1].filter fun d =>
    let n := ((changedPoints s.cfg new).filter fun p =>
      (tabGet {} s.cfg.points p).die == d && (tabFind s.cfg.points p).isSome || (tabGet {} new.points p).die == d && (tabFind new.points p).isSome).length
    let iv := if (if d = .f0 then s.cfg.glob.commit0 != new.glob.commit0 else s.cfg.glob.commit1 != new.glob.commit1) then 1 else 0
    n + iv != 0 && s.sealed d && decide (65024 < (s.firn d).log.length + n * morParts 140 + iv)

/-! ### CONFIG_LOAD (R735) -/

/-- Why a configuration is refused: status, reason (0 none), item (none: nothing is named). -/
structure ConfFail where
  status : Nat
  reason : Nat
  item : Option Nat
deriving DecidableEq, Repr

/-- A handover, a PWR_REQ that is being entered, or an APP_LOAD is in progress. -/
def State.confBusy (s : State) : Bool := s.upd.phase != 0 || s.power.deferred != 0 || s.power.committed || !s.eng.appLoads.isEmpty

/-- The checks 1 to 4 on the header: `sigOk`, the signature verifies under SIGNER. -/
def State.headFail (s : State) (b : List Byte) (sigOk : Bool) : Option ConfFail :=
  let flags := field b 19 1
  let used := s.get Fld.UPD_OWNER__USED 0
  if (s.confHeads b).isNone then some ⟨stImage, 1, some 0xFFFFFFFF⟩
  else if !sigOk || (if used = 0 then !bitAt flags 1 else keyHash ((b.drop 32).take 64) != s.upd.owner) then some ⟨stImage, 2, some 0xFFFFFFFF⟩
  else if bitAt flags 2 && used = 8 then some ⟨stCapacity, 4, none⟩
  else match s.bindFail (field b 16 2) (field b 18 1) (bitAt flags 0) (field b 20 8) 0 with
    | some k => some ⟨stBinding, k, some 0xFFFFFFFF⟩
    | none => if imgVersion s.runImg < field b 28 4 then some ⟨stBinding, 5, some 0xFFFFFFFF⟩ else none

/-- The checks 5 to 12 on the items, and the configuration that passes them; the state takes the registers of an admission. -/
def State.itemChecks (s : State) (heads : List (Nat × Nat)) (raw : List (Option ConfItem)) (oldForm : Bool) : State × (Conf ⊕ ConfFail) :=
  let badKind := heads.zipIdx.find? fun x => match raw[x.2]? with | some (some i) => i.kind != x.1.1 | _ => true
  match badKind with
  | some x => (s, .inr ⟨stImage, 3, some x.2⟩)
  | none =>
    let items := raw.filterMap id
    match items.findIdx? s.itemAbsent with
    | some k => (s, .inr ⟨stAbsent, 0, some k⟩)
    | none => match items.findIdx? (s.itemBad items) with
      | some k => (s, .inr ⟨stImage, 4, some k⟩)
      | none =>
        if s.safetyMissing items then (s, .inr ⟨stImage, 4, some items.length⟩)
        else
          let r := s.admission items
          let s := s.admitRegs items r
          match r with
          | .inr f => (s, .inr ⟨f.status, if f.status = stDeadline then 0 else f.reason, some f.item⟩)
          | .inl m =>
            let new := confOf items m
            match s.busyChange new items with
            | some k => (s, .inr ⟨stCapacity, 3, some k⟩)
            | none =>
              if s.trialRefuses oldForm then (s, .inr ⟨stCapacity, 2, none⟩)
              else match s.confLogFull new with
                | d :: r =>
                  let first := ((changedPoints s.cfg new).map fun p => itemAt items fun i => match i with | .point q _ => q == p | _ => false).foldl min items.length
                  ((d :: r).foldl (fun s d => s.morRefused d) s, .inr ⟨stCapacity, 1, some first⟩)
                | [] => if s.confBusy then (s, .inr ⟨stCapacity, 6, none⟩) else (s, .inl new)

/-- A refused image: completion, CONFIG_REFUSED, UPD_ERR and LAST_REASON. A refusal that names no item leaves RESULT bits 31:0 open
(log entry 1). -/
def State.confRefused (s : State) (t : Ticket) (f : ConfFail) : State :=
  let (i, s) := match f.item with | some i => (i, s) | none => s.drawBelow (2 ^ 32)
  let s := if f.status = stImage then s.put Fld.UPD_ERR__BAD_IMAGE 0 1 else if f.status = stBinding then s.put Fld.UPD_ERR__BINDING 0 1 else s
  let s := s.put Fld.UPD_STATUS__LAST_REASON 0 f.reason
  (s.fin t f.status (i % 2 ^ 32 + f.reason * 2 ^ 32)).postBoth { code := 0xC08, sev := 1, data := f.status }

/-- R734: an owner slot is programmed. -/
def State.programOwner (s : State) (hash : Nat) : State :=
  let n := s.get Fld.UPD_OWNER__USED 0 + 1
  let s := ((s.setUpd { s.upd with owner := hash }).put Fld.UPD_OWNER__USED 0 n).put Fld.UPD_OWNER__HASH 0 (hash % 2 ^ 28)
  s.postBoth { code := 0xC09, sev := 2, data := n }

/-- R728: the settings formats a change is written in: the running image's, and during a trial the old image's too. -/
def State.settingFormats (s : State) : List Nat :=
  let f := imgFormat s.runImg
  if s.flag Fld.UPD_STATUS__TRIAL 0 then [f, imgFormat (s.slotImg (1 - s.upd.running))].eraseDups else [f]

/-- R736: an accepted image is written to the settings area before anything else changes. -/
def State.storeConf (s : State) (c : Conf) (id : Nat) : State :=
  s.setUpd { s.upd with settings := s.settingFormats.foldl (fun t f => tabSet t f (c, id)) s.upd.settings }

/-- R734 to R736: an accepted image: the owner slots that it programs, the settings area, and the wait for the boundary. -/
def State.confAccept (s : State) (t : Ticket) (b : List Byte) (c : Conf) : State :=
  let s := if s.get Fld.UPD_OWNER__USED 0 = 0 then s.programOwner (keyHash ((b.drop 32).take 64)) else s
  let s := if bitAt (field b 19 1) 2 then s.programOwner (keyHash ((b.drop 96).take 64)) else s
  let s := s.storeConf c (field b 8 4)
  (s.setUpd { s.upd with cfgDue := [(t, c, field b 8 4)] }).raisePoint (fselFloor c.tasks c.taskEngine)

/-- CONFIG_LOAD (R735). The buffer `rd` holds the image; `raw` are its items' payloads as they read, none where a LENGTH does not fit
its KIND; `sigOk`: the signature verifies; `oldForm`: the format of the image before a trial can express it (R728). While another
accepted image waits for its boundary the descriptor waits (R736). -/
def execConfigLoad (d : Desc) (rd : DmaRead) (raw : List (Option ConfItem)) (sigOk oldForm : Bool) (s : State) : Res :=
  if !s.upd.cfgDue.isEmpty then .next s
  else .next (s.withDesc 0x6B d fun t s => s.withRead t d rd fun b s =>
    let b := b.take (DescF.bufLen d)
    match s.headFail b sigOk with
    | some f => s.confRefused t f
    | none => match s.itemChecks ((s.confHeads b).getD []) raw oldForm with
      | (s, .inr f) => s.confRefused t f
      | (s, .inl c) => s.confAccept t b c)

end Sys2Proof.Machine
end

