-- ==== Sys2Proof/Machine/ConfigEffect.lean ====
section
/-!
DEFINITION. Machine/ConfigEffect.lean: what an accepted configuration changes when it takes effect (R736, R254, R409, R440).
-/
namespace Sys2Proof.Machine

/-! ### Engines (R254, R255) -/

/-- R217, R221: the protection regions that firmware gives a C-die engine: first and last byte, and the permissions (X 8, W 4, R 2). An
application engine reaches its own memories and mailbox page, the partition's part of the shared SRAM and its scratchpads; a firmware
engine does not write that part (the split into regions is the model's: log entry 182). -/
def mpuPlan (c : Conf) (n : Nat) : List (Nat × Nat × Nat) :=
  let own := [(0, 0xFFFF, 14), (0x10000, 0x1FFFF, 6), (0x30000, 0x30BFF, 6)]
  let lo := 0x10000000 + c.sramFirst * 0x10000; let hi := lo + c.sramBlocks * 0x10000
  let part (a b p : Nat) : List (Nat × Nat × Nat) := if a < b then [(a, b - 1, p)] else []
  if c.appClusters.contains (n / 8) then
    own ++ part lo hi 6 ++ c.appClusters.map fun k => (0x20000000 + 0x40000 * k, 0x2003FFFF + 0x40000 * k, 6)
  else own ++ part 0x10000000 lo 6 ++ part lo hi 2 ++ part hi 0x10400000 6 ++ [(0x20000000, 0x203FFFFF, 6), (0x80000000, 0x8FFFFFFF, 6)]

/-- The BASE and LIMIT words of a region. -/
def mpuWord (x : Nat × Nat × Nat) : W32 × W32 := (BitVec.ofNat 32 x.1, BitVec.ofNat 32 (x.2.1 / 32 * 32 + x.2.2 + 1))

/-- Firmware sets the regions of the C-die engines from the configuration in force (R221). -/
def State.mpuSetup (s : State) : State :=
  let s := s.resetRegs fun k => k.reg == .ENG_MPU_BASE || k.reg == .ENG_MPU_LIMIT
  (upTo 128).foldl (fun s n => (mpuPlan s.cfg n).zipIdx.foldl (fun s x =>
    (s.setReg .ENG_MPU_BASE (16 * n + x.2) (mpuWord x.1).1).setReg .ENG_MPU_LIMIT (16 * n + x.2) (mpuWord x.1).2) s) s

/-- An engine's registers under the mapping of the configuration in force at FLOOR `floor`. -/
def State.mapEngine (s : State) (floor n : Nat) : State :=
  let c := s.cfg
  let mine := c.taskEngine.filter (·.2 == n)
  let s := s.engPut Fld.ENG_STATE__TASKS n mine.length
  let s := if n < 128 then
      let s := s.engPut Fld.ENG_STATE__ROLE n (if c.appClusters.contains (n / 8) then 2 else 1)
      let s := s.put Fld.ENG_LOAD__UTIL_TOP n (utilAt c.tasks c.taskEngine 0 n).permille
      s.put Fld.ENG_LOAD__UTIL_FLOOR n (utilAt c.tasks c.taskEngine floor n).permille
    else s
  if s.counted n then s.engPut Fld.ENG_STATE__STATE n (if mine.isEmpty then eSpare else eActive) else s

/-- R254, R736: the mapping and FLOOR; application jobs stop and restart (R246). -/
def State.mapEngines (s : State) : State :=
  let floor := fselFloor s.cfg.tasks s.cfg.taskEngine
  let s := (upTo 256).foldl (fun s n => s.mapEngine floor n) s.mpuSetup
  let s := s.put Fld.PWR_DVFS__FLOOR 0 floor
  let s : State := { s with eng := { s.eng with lastRelease := [], suspended := [], stand := [] } }
  ((s.cfg.appClusters.flatMap fun k => (upTo 8).map (8 * k + ·)).foldl (fun s n =>
    s.setCore n { (s.core n).executive with jobs := [] }) s).poolRefresh

/-! ### Channels and points -/

/-- CH_CFG of a channel (global number). -/
def State.mirrorChan (s : State) (ch : Nat) : State :=
  let c : ChanCfg := tabGet {} s.cfg.chans ch
  let users := s.usersOf ch
  let s := ((s.put Fld.CH_CFG__TYPE ch c.type).put Fld.CH_CFG__RTD_SRC ch c.src).put Fld.CH_CFG__IEXC ch c.iexc
  ((s.put Fld.CH_CFG__GAIN ch c.gain).putB Fld.CH_CFG__USED ch (!users.isEmpty)).put Fld.CH_CFG__POINT ch (users.headD 0)

/-- A channel that is used no more gives up its ADC; a newly used one takes the lowest-numbered working spare (R281), or goes out of
service, once the die's front end has started (R315). -/
def State.serveChan (s : State) (d : Firn) (j : Nat) : State :=
  let i := chIdx d j
  let used := s.flag Fld.CH_CFG__TYPE i
  let st := s.get Fld.CH_STATUS__STATE i
  if !used && st ≠ 0 then
    let a := s.get Fld.CH_STATUS__SERVING i
    let s := if a < 104 then s.setAdc d a aReserve 15 255 else s
    let b := s.get Fld.CH_STATUS__INCOMING i
    let s := if b < 104 then (s.setAdc d b aReserve 15 255).put Fld.CH_STATUS__INCOMING i 255 else s
    ((s.put Fld.CH_STATUS__SERVING i 255).put Fld.CH_STATUS__STATE i 0).put Fld.CH_STATUS__FAULT i 0
  else if used && st = 0 then
    if !s.flag Fld.REF_STATUS__SETTLED d.num then s.put Fld.CH_STATUS__STATE i 3
    else match (upTo 104).find? fun a => s.adcSt d a == aReserve with
      | some a =>
        let t := s.legalNow d
        let s := ((s.setAdc d a aServing 15 j).put Fld.CH_STATUS__SERVING i a).put Fld.CH_STATUS__STATE i 1
        (s.setReg .CH_REGEL_LO i (BitVec.ofNat 32 t)).setReg .CH_REGEL_HI i (BitVec.ofNat 32 (t / 2 ^ 32))
      | none => (s.put Fld.CH_STATUS__STATE i 2).put Fld.CH_STATUS__FAULT i 5
  else s

/-- The mirrors that read 0 for a flow point, and those that read 0 for an electricity point (R362, R404): register and words for a point. -/
def elecRegs : List (Reg × Nat) :=
  [(.MP_FREQ, 1), (.MP_URMS, 3), (.MP_IRMS, 4), (.MP_P, 1), (.MP_Q, 1), (.MP_S, 1), (.MP_PF, 1), (.MP_DEMAND, 1), (.MP_MD, 1),
   (.MP_MD_TIME, 2), (.MP_UN, 1), (.MP_IN, 1), (.MP_MD_RESETS, 1)]
def flowRegs : List (Reg × Nat) :=
  [(.FP_STATUS, 1), (.FP_RATE, 1), (.FP_QM, 1), (.FP_DP, 1), (.FP_P, 1), (.FP_T, 1), (.FP_RHO, 1), (.FP_H, 1), (.FP_C, 1), (.FP_PRED, 1),
   (.FP_TRIM, 1), (.FP_BLOCK, 1), (.FP_OUTSIDE, 1)]
def State.clearMirrors (s : State) (p : Nat) (l : List (Reg × Nat)) : State :=
  s.resetRegs fun k => l.any fun x => x.1 == k.reg && k.idx / x.2 == p

/-- MP_CFG of a point (R362). -/
def State.mirrorPoint (s : State) (p : Nat) : State :=
  let c := s.pcfg p
  let slice := ((s.cfg.slices.find? fun x => x.2.kind != 0 && x.2.point == some p).map (·.1)).or c.slice
  let sw := (slice.bind fun n => (s.scfg n).switch).or c.switch
  let flow := pointFlow c
  let s := s.clearMirrors p (if c.commodity = 0 then elecRegs ++ flowRegs else if flow then elecRegs else flowRegs)
  let s := if flow then ((s.put Fld.MP_STATE__PHSEQ p 0).put Fld.MP_STATE__FIXED p 0).put Fld.MP_STATE__VLOSS p 0 else s
  let s := ((s.put Fld.MP_CFG__COMMODITY p c.commodity).put Fld.MP_CFG__TOPOLOGY p c.topology).putB Fld.MP_CFG__NOM_60 p (c.nom60 && !flow)
  let s := ((s.putB Fld.MP_CFG__HARM p (c.harm && !flow)).put Fld.MP_CFG__RATES p (c.rates - 1)).putB Fld.MP_CFG__NO_PATH p
    (c.commodity != 0 && slice.isNone && sw.isNone)
  let s := (s.put Fld.MP_CFG__SLICE p (slice.getD 0xFF)).put Fld.MP_CFG__SWITCH p (sw.getD 0xFF)
  let word (l : List Nat) : W32 := BitVec.ofNat 32 (leNat ((l ++ [0xFF, 0xFF, 0xFF]).map (BitVec.ofNat 8) |>.take 3))
  let s := (s.setReg .MP_UCH p (word c.uch)).setReg .MP_ICH p (word c.ich ||| BitVec.ofNat 32 (c.neutral.getD 0xFF * 2 ^ 24))
  if c.commodity = 1 || c.commodity = 2 then (s.setReg .MP_UN p c.un).setReg .MP_IN p c.inom else s

/-- PI_CFG of a pulse input (R405): the meter of the point that names it; a detector stays one. -/
def State.mirrorPulse (s : State) (i : Nat) : State :=
  match s.cfg.points.find? fun x => x.2.commodity != 0 && x.2.pulse == some i with
  | some x => ({ s with prove := tabErase s.prove i } : State).put Fld.PI_CFG__ROLE i 1 |>.put Fld.PI_CFG__POINT i x.1
  | none => if s.get Fld.PI_CFG__ROLE i = 1 then ((s.put Fld.PI_CFG__ROLE i 0).put Fld.PI_CFG__LEVEL i 0).put Fld.PI_CFG__POINT i 0xFF else s

/-- R440, R476: the record of a changed definition: its hashes and the unbilled-outage register, which it clears. -/
def State.redefine (s : State) (old : Conf) (p : Nat) : State :=
  let hash (c : PointCfg) : Nat := Config.digest 30 ([c.die.num, c.commodity, c.topology, c.rates, c.di, c.sub, c.offset, c.sched, c.un.toNat,
    c.inom.toNat, b2n c.flowRule, c.pulse.getD 255] ++ c.uch ++ c.ich ++ c.neutral.toList ++ c.fch.map (·.2)) % 2 ^ 32
  let o : PointCfg := tabGet {} old.points p
  let n := s.pcfg p
  let d := if n.commodity = 0 then o.die else n.die
  let unb := (upTo 8).flatMap fun q => leBytes 16 (tabGet 0 (s.mp p).unb q)
  let s := s.moraine d 0x03 p ([1, 0, 0, 0] ++ leBytes 4 (hash o) ++ leBytes 4 (hash n) ++ unb)
  s.setMp p { s.mp p with unb := [] }

/-- The commit interval of a die (R433). -/
def State.setInterval (s : State) (d : Firn) (v : Nat) : State :=
  let old := s.get Fld.FIRN_COMMIT_CFG__INTERVAL d.num
  if old = v then s
  else (s.moraine d 0x03 0 ([2, 0, 0, 0] ++ leBytes 2 old ++ leBytes 2 v)).put Fld.FIRN_COMMIT_CFG__INTERVAL d.num v

/-! ### The D-die's settings -/

def State.mirrorSlice (s : State) (n : Nat) : State :=
  let c := s.scfg n
  let s := ((s.put Fld.SLICE_CFG__POINT n (c.point.getD 0xFF)).put Fld.SLICE_CFG__SWITCH n (c.switch.getD 0x3F)).put Fld.SLICE_CFG__KIND n c.kind
  let s := ((s.put Fld.SLICE_CFG__EF_MODE n c.efMode).put Fld.SLICE_CFG__PP_MODE n c.ppMode).putB Fld.SLICE_CFG__LOCK n c.lock
  let s := ((s.putB Fld.SLICE_CFG__HLC n c.hlc).putB Fld.SLICE_CFG__BPT n c.bpt).put Fld.SLICE_CFG__HLC_PORT n c.hlcPort
  let s := (s.put Fld.SLICE_CFG__HLC_CS n c.hlcCs).put Fld.SLICE_CFG__GROUP n c.group
  (s.put Fld.SLICE_LIMITS__ANTENNA n (c.antenna.getD 0xFF)).put Fld.SLICE_LIMITS__I_MAX n c.iMax

/-- SW_CFG, SW_LOAD, and the parts of SW_STATUS that the configuration decides: a switch without SAFETY has no series enable, one with it that of Serac, and
SESSION marks the switch of a slice or a point (R554, R581). -/
def State.mirrorSwitch (s : State) (n : Nat) : State :=
  let c : SwitchCfg := tabGet {} s.cfg.switches n
  let session := s.cfg.slices.any (fun x => x.2.kind != 0 && x.2.switch == some n) || s.cfg.points.any (fun x => x.2.switch == some n)
  let s := ((s.put Fld.SW_CFG__GROUP n c.group).putB Fld.SW_CFG__SAFETY n c.safety).putB Fld.SW_CFG__INRUSH n c.inrush
  let s := ((s.put Fld.SW_CFG__FS n c.fs).put Fld.SW_CFG__OT_MODE n c.otMode).put Fld.SW_CFG__ILIM n c.ilim
  let s := ((s.put Fld.SW_CFG__ILIM_TIME n c.ilimTime).put Fld.SW_CFG__CLAMP_BUDGET n c.clampBudget).setReg .SW_LOAD n (BitVec.ofNat 32 c.loadW)
  let s := s.putB Fld.SW_STATUS__SESSION n session
  -- R124: a switch that becomes safety-related has the enable that Serac gives it: none while Serac does not run
  (s.putB Fld.SW_STATUS__SERAC_EN n (!c.safety || ((upTo 16).any fun k => s.enSwitch k == some n && bitAt s.serac.en k))).swRefresh n

def State.mirrorGroup (s : State) (g : Nat) : State :=
  let c : GroupCfg := tabGet {} s.cfg.groups g
  let s := (s.setReg .GOV_BUDGET g (BitVec.ofNat 32 c.budget)).put Fld.GOV_RATE__DEFER_MAX g c.deferMax
  ((s.put Fld.GOV_RATE__MAX_PER_S g c.maxPerS).put Fld.GOV_RATE__MIN_GAP g c.minGap).put Fld.GOV_RAMP__RAMP_MS g c.rampMs

/-! ### Ports and keys -/

def State.mirrorEth (s : State) (p : Nat) (c : EthCfg) : State :=
  let was := s.flag Fld.ETH_CFG__PTP_EN p
  let s := ((s.putB Fld.ETH_CFG__EN p c.en).putB Fld.ETH_CFG__PTP_EN p c.ptp).put Fld.ETH_CFG__ROLE p c.role
  let s := ((s.putB Fld.ETH_CFG__LOCAL_MAC p c.mac.isSome).put Fld.ETH_CFG__DOMAIN p c.domain).put Fld.ETH_CFG__PRIORITY1 p c.prio
  let s := (s.put Fld.ETH_CFG__LOG_SYNC p c.logSync).put Fld.ETH_CFG__LOG_ANNOUNCE p c.logAnn
  let s := s.resetRegs fun k => (k.reg == .ETH_MAC_LO || k.reg == .ETH_MAC_HI) && k.idx == p
  let s := match c.mac with
    | some m => (s.setReg .ETH_MAC_LO p (BitVec.ofNat 32 m)).setReg .ETH_MAC_HI p (BitVec.ofNat 32 (m / 2 ^ 32))
    | none => s
  -- IEEE 1588: PTP that begins is LISTENING, PTP that ends is off (R186)
  if was = c.ptp then s else s.put Fld.ETH_STATUS__PTP_STATE p (if c.ptp then 4 else 0)

/-- R736: everything that a configuration changes from its boundary on. `old` is the one it replaces. -/
def State.applyConf (s : State) (c : Conf) (id : Nat) : State :=
  let old := s.cfg
  let s := ({ s with cfg := c } : State).setReg .UPD_CONFIG_ID 0 (BitVec.ofNat 32 id)
  let s := s.mapEngines
  let s := (upTo 192).foldl (fun s ch => s.mirrorChan ch) s
  let s := (upTo 96).foldl (fun s j => (s.serveChan .f0 j).serveChan .f1 j) s
  let s := (changedPoints old c).foldl (fun s p => s.redefine old p) s
  let s := (upTo 256).foldl (fun s p => s.mirrorPoint p) s
  let s := (upTo 64).foldl (fun s i => s.mirrorPulse i) s
  let s := (upTo 256).foldl (fun s p => s.mirrorParams p) s
  -- R270: a point that no engine had room for is offered its engine again
  let s := s.points.foldl (fun s x => if x.2.oos.contains 4 then s.setMp x.1 { s.mp x.1 with oos := (s.mp x.1).oos.filter (· != 4) } else s) s
  let s := s.setInterval .f0 c.glob.commit0
  let s := if s.variant.hasF1 then s.setInterval .f1 c.glob.commit1 else s
  let s := (upTo 64).foldl (fun s n => s.mirrorSlice n) s
  let s := (upTo 48).foldl (fun s n => s.mirrorSwitch n) s
  let s := (upTo 16).foldl (fun s g => s.mirrorGroup g) s
  let s := (s.setReg .GOV_SITE_BUDGET 0 (BitVec.ofNat 32 c.siteBudget)).put Fld.DRV_WDT__PERIOD 0 c.wdtPeriod
  let s := (s.put Fld.KEY_RIGHTS__H0 0 c.glob.rights0).put Fld.KEY_RIGHTS__H1 0 c.glob.rights1
  let s := (s.armTamper c.glob.arm).mirrorEth 0 c.glob.eth0
  let s := (s.mirrorEth 1 c.glob.eth1).kyConfigure old.ky
  s.readerConfigure.seracMismatch

/-- R736: a configuration has taken effect: UPD_CONFIG_SEQ counts, CONFIG_LOAD completes with it, CONFIG_CHANGED is posted. -/
def State.confDone (s : State) (t : Ticket) : State :=
  let n := (s.reg .UPD_CONFIG_SEQ 0).toNat + 1
  let s := s.setReg .UPD_CONFIG_SEQ 0 (BitVec.ofNat 32 n)
  (s.fin t stDone (n % 2 ^ 32)).postBoth { code := 0xC07, sev := 0, data := n % 65536 }

/-- R115, R721: stage 0xA loads the configuration in force from the settings area, if the running image reads a format of it; the
copies a new image writes beside it (R728). Whether one was found. -/
def State.configAtBoot (s : State) : State × Bool :=
  match s.upd.settings.find? fun x => imgReads s.runImg x.1 with
  | some (_, c, id) => ((s.applyConf c id).storeConf c id, true)
  | none => (s, s.upd.settings.isEmpty)

end Sys2Proof.Machine
end

