-- ==== Sys2Proof/Machine/Update.lean ====
section
/-!
DEFINITION. Machine/Update.lean: firmware images (R715 to R718), slots (R719 to R721), staging (R722), activation and the trial up
to the point where a reset acts (R723 to R732).
-/
namespace Sys2Proof.Machine

/-! ### Slots and registers (R719, R738) -/

def State.setSlotImg (s : State) (k : Nat) (b : List Byte) : State :=
  s.setUpd (if k = 0 then { s.upd with imgA := b } else { s.upd with imgB := b })
def State.role (s : State) (k : Nat) : Nat := if k = 0 then s.upd.roleA else s.upd.roleB
def State.setRole (s : State) (k r : Nat) : State := s.setUpd (if k = 0 then { s.upd with roleA := r } else { s.upd with roleB := r })
def roActive : Nat := 0
def roStaged : Nat := 1
def roFallback : Nat := 2
def roStale : Nat := 3
def roTrial : Nat := 4
/-- The slot with a role. -/
def State.slotWith (s : State) (r : Nat) : Option Nat := [0, 1].find? fun k => s.role k == r
/-- R722: the slot that is neither ACTIVE nor TRIAL. -/
def State.freeSlot (s : State) : Nat := if s.upd.roleA = roActive || s.upd.roleA = roTrial then 1 else 0

/-- A trial runs (R724). -/
def State.onTrial (s : State) : Bool := s.flag Fld.UPD_STATUS__TRIAL 0

/-- R738: the registers follow the slot-state record, the running image and the activity in progress. -/
def State.updMirror (s : State) : State :=
  let u := s.upd
  let code (r : Nat) : Nat := if r = roTrial then 0 else r
  let trial := s.role u.running == roTrial && !u.hostBooted
  let st := if u.phase ≠ 0 then (if u.rev then 5 else 3) else if trial then 4 else if u.stage.isSome then 1 else if (s.slotWith roStaged).isSome then 2 else 0
  let s := ((s.put Fld.UPD_STATUS__STATE 0 st).put Fld.UPD_STATUS__ROLE_A 0 (code u.roleA)).put Fld.UPD_STATUS__ROLE_B 0 (code u.roleB)
  let s := ((s.put Fld.UPD_STATUS__RUNNING 0 u.running).putB Fld.UPD_STATUS__TRIAL 0 trial).putB Fld.UPD_STATUS__BOOT_TRIAL 0 u.bootTrial
  let s := s.putB Fld.UPD_STATUS__HOST_BOOTED 0 u.hostBooted
  let ver (r : Nat) : Nat := match s.slotWith r with | some k => imgVersion (s.slotImg k) | none => 0
  let s := (s.setReg .UPD_VERSION_RUN 0 (BitVec.ofNat 32 (imgVersion s.runImg))).setReg .UPD_VERSION_STAGED 0 (BitVec.ofNat 32 (ver roStaged))
  (s.setReg .UPD_VERSION_FALLBACK 0 (BitVec.ofNat 32 (ver roFallback))).put Fld.UPD_SVN__RUNNING 0 (imgSvn s.runImg)

/-! ### Images (R715, R716) -/

/-- Section `k` of an image: TYPE, OFFSET, LENGTH, hash. -/
def imgSection (b : List Byte) (k : Nat) : Nat × Nat × Nat × Nat :=
  let o := 64 + 48 * k
  (field b o 1, field b (o + 4) 4, field b (o + 8) 4, field b (o + 16) 32)
def imgSections (b : List Byte) : List (Nat × Nat × Nat × Nat) := (upTo (field b 6 2)).map (imgSection b)
/-- The hash of a section by its TYPE. -/
def sectionHash (b : List Byte) (type : Nat) : Option Nat := ((imgSections b).find? (·.1 == type)).map (·.2.2.2)

/-- Two ranges of bytes share none. -/
def apart (a b : Nat × Nat) : Bool := decide (a.1 + a.2 ≤ b.1) || decide (b.1 + b.2 ≤ a.1)
def allApart : List (Nat × Nat) → Bool
  | [] => true
  | a :: r => r.all (apart a) && allApart r

/-- Check 1 of R716. -/
def imgLayoutOk (b : List Byte) : Bool :=
  let n := field b 6 2; let flags := field b 13 1
  let secs := imgSections b
  decide (64 + 48 * n + 64 ≤ b.length) && field b 0 4 == 0x4D495842 && field b 4 2 == 1 && decide (1 ≤ n) && decide (n ≤ 16) && decide (field b 12 1 < 64)
  && decide (flags < 4) && field b 14 2 == 0 && (bitAt flags 0 || field b 20 8 == 0) && field b 40 24 == 0
  && (upTo n).all (fun k => field b (64 + 48 * k + 1) 3 == 0 && field b (64 + 48 * k + 12) 4 == 0)
  && secs.all (fun x => decide (1 ≤ x.1) && decide (x.1 ≤ 5) && x.2.1 % 4096 == 0 && decide (x.2.1 + x.2.2.1 ≤ b.length - 64))
  && allApart ((0, 64 + 48 * n) :: secs.map fun x => (x.2.1, x.2.2.1))

/-- R715: a section that the module needs is missing. -/
def State.sectionMissing (s : State) (b : List Byte) : Bool :=
  let has (t : Nat) : Bool := (sectionHash b t).isSome
  !has 1 || (s.variant.hasKyoti && !has 2) || (s.variant.hasReader && !has 3) || (s.variant.hasDdie && !has 4)

/-- R716: status and reason of the first check that fails. `sigOk`: the signature; `hashOk`: every section's hash. -/
def State.imgFail (s : State) (b : List Byte) (sigOk hashOk : Bool) : Option (Nat × Nat) :=
  if !imgLayoutOk b then some (stImage, 1)
  else if 2 ^ 24 < b.length then some (stImage, 5)
  else if !sigOk then some (stImage, 2)
  else if !hashOk then some (stImage, 3)
  else if s.sectionMissing b then some (stImage, 7)
  else match s.bindFail (field b 16 2) (field b 18 1) (bitAt (field b 13 1) 0) (field b 20 8) (field b 19 1) with
    | some k => some (stBinding, k)
    | none => if imgSvn b < s.get Fld.UPD_SVN__FUSES 0 then some (stImage, 4) else none

/-- UPD_ERR and LAST_REASON of a refused image. -/
def State.imgRefused (s : State) (status reason : Nat) : State :=
  (s.put (if status = stBinding then Fld.UPD_ERR__BINDING else Fld.UPD_ERR__BAD_IMAGE) 0 1).put Fld.UPD_STATUS__LAST_REASON 0 reason

/-! ### IMAGE_STAGE (R722) -/

/-- A staging run ends without an image: its slot is STALE. -/
def State.stageEnd (s : State) : State :=
  ((s.setRole s.freeSlot roStale).setUpd { (s.setRole s.freeSlot roStale).upd with stage := none }).put Fld.UPD_STATUS__STAGED_PCT 0 0 |>.updMirror

/-- R722: a run's bytes reach the slot, which is STALE meanwhile; no byte goes beyond the slot. -/
def State.stageChunk (s : State) (d : Desc) (b : List Byte) (off total : Nat) : State :=
  let k := s.freeSlot
  let img := ((if off = 0 then [] else s.slotImg k) ++ b).take (2 ^ 24 + 1)
  let s := (s.setSlotImg k img).setRole k roStale
  let s := s.setUpd { s.upd with stage := some (d.port, off + b.length) }
  (s.put Fld.UPD_STATUS__STAGED_PCT 0 ((off + b.length) * 100 / max 1 total)).updMirror

/-- R722: the whole image is accepted and STAGED. -/
def State.stageAccept (s : State) (t : Ticket) (len : Nat) (img : List Byte) : State :=
  let s := s.setRole s.freeSlot roStaged
  let s := (s.setUpd { s.upd with stage := none }).updMirror
  (s.fin t stDone (len + imgVersion img * 2 ^ 32)).postBoth { code := 0xC01, sev := 0, data := imgVersion img / 65536 }

/-- R722: a chunk that breaks the run ends it. -/
def State.stageBreak (s : State) : State := if s.upd.stage.isSome then s.stageEnd else s

/-- IMAGE_STAGE (R722). `flashOk`: the flash write succeeds. -/
def execImageStage (d : Desc) (rd : DmaRead) (sigOk hashOk flashOk : Bool) (s : State) : Res :=
  .next (s.withDesc 0x68 d fun t s =>
    let off := DescF.par d 0 4; let total := DescF.par d 4 4; let last := bitAt (DescF.par d 8 1) 0
    if 2 ≤ DescF.par d 8 1 then s.fin t stBad 32
    else if s.onTrial then s.fin t stCapacity 1
    else if s.upd.phase ≠ 0 then s.fin t stCapacity 2
    else if s.upd.stage.any (·.1 != d.port) then s.fin t stCapacity 3
    else s.withRead t d rd fun b s =>
      let b := b.take (DescF.bufLen d)
      let next := (s.upd.stage.map (·.2)).getD 0
      if off % 4096 ≠ 0 || (off ≠ 0 && off ≠ next) || total < off + b.length || (last && total ≠ off + b.length) then
        (s.stageBreak.imgRefused stImage 6).fin t stImage 6
      else if !flashOk then (s.stageEnd.put Fld.UPD_ERR__FLASH 0 1).fin t stCapacity 8
      else
        let s := s.stageChunk d b off total
        let img := s.slotImg s.freeSlot
        if !last then s.fin t stDone (off + b.length)
        else match s.imgFail img sigOk hashOk with
          | some (st, why) => (s.stageEnd.imgRefused st why).fin t st why
          | none => s.stageAccept t (off + b.length) img)

/-! ### IMAGE_ACTIVATE (R723) -/

/-- The first PARAM byte of IMAGE_ACTIVATE that does not fit, its MODE being `mode`. -/
def activateBad (d : Desc) (mode : Nat) : Option Nat :=
  if DescF.par d 0 1 ≠ mode then some 24
  else if 2 ≤ DescF.par d 1 1 then some 25
  else if 4 ≤ DescF.par d 2 1 then some 26
  else if DescF.par d 3 1 ≠ 0 then some 27
  else if 1440 < DescF.par d 4 2 then some 28
  else none

def State.activate (s : State) (d : Desc) (mode : Nat) (k : Ticket → State → State) : State :=
  s.withDesc 0x69 d fun t s => match activateBad d mode with | some j => s.fin t stBad j | none => k t s

/-- The window in minutes. -/
def activateWindow (d : Desc) : Nat := if DescF.par d 4 2 = 0 then 30 else DescF.par d 4 2

/-- The image in the STAGED slot. -/
def State.stagedImg (s : State) : Option (List Byte) := (s.slotWith roStaged).map s.slotImg

/-- R723, RESULT 0x4: the staged Serac section is one that the locked configuration, in force or pending, accepts. -/
def State.seracHashOk (s : State) (b : List Byte) : Bool :=
  match sectionHash b 4 with
  | none => true
  | some h => !s.variant.hasDdie || h == field s.serac.cfg 8 32 || s.serac.pend.any fun c => h == field c 8 32

/-- R723, RESULT 0x9: a power request is deferred or being entered, or an APP_LOAD or CONFIG_LOAD is being applied. -/
def State.activateBusy (s : State) : Bool :=
  s.power.deferred != 0 || s.power.committed || !s.eng.appLoads.isEmpty || !s.upd.cfgDue.isEmpty

/-- R729, R730: the firmware part's tasks under the new image, mapped onto its SPARE engines with one left over. -/
def State.firmwareMap (s : State) : Option Mapping :=
  let spares := (upTo 128).filter fun n => engDomain s.cfg.appClusters n == 0 && s.engGet Fld.ENG_STATE__STATE n == eSpare
  match mapAll (fun _ => spares) ((s.cfg.tasks.filter (·.2.domain == 0)).map fun x => (x.1, { x.2 with pin := none })) with
  | .inl m => if (m.task.map (·.2)).eraseDups.length < spares.length then some m else none
  | .inr _ => none

/-- Why HITLESS (`hitless`) or RESTART is refused (R723). -/
def State.activateRefusal (s : State) (hitless serOff : Bool) : Option Nat :=
  match s.stagedImg with
  | none => some 1
  | some b =>
    if s.onTrial || s.upd.phase ≠ 0 then some 1
    else if hitless && (!imgHitlessOk b || decide (imgVersion s.runImg < field b 28 4)) then some 2
    else if hitless && s.firmwareMap.isNone then some 3
    else if !s.seracHashOk b && !serOff then some 4
    else if hitless && decide (s.get Fld.DRV_WDT__PERIOD 0 < 4) then some 7
    else if s.activateBusy then some 9
    else none

/-- R729, steps 1 and 2: the new image's tasks are mapped and loaded, and it writes its settings copies. -/
def State.handoverBegin (s : State) (d : Desc) (t : Ticket) (m : Mapping) (b : List Byte) : State :=
  let engs := (m.task.map (·.2)).eraseDups
  let s := engs.foldl (fun s n => s.engPut Fld.ENG_STATE__STATE n eLoading) s
  let copies := match s.upd.settings.find? fun x => imgReads b x.1 with
    | some (_, c) => tabSet s.upd.settings (imgFormat b) c
    | none => s.upd.settings
  (s.setUpd { s.upd with phase := 1, rev := false, cause := 0, actT := some t, newEng := engs, newMap := m.task, window := activateWindow d,
                         settings := copies }).updMirror.poolRefresh

/-- HITLESS (R723, R729): the handover begins. -/
def execHitless (d : Desc) (s : State) : Res :=
  .next (s.activate d 1 fun t s =>
    match s.activateRefusal true (bitAt (DescF.par d 1 1) 0), s.firmwareMap, s.stagedImg with
    | none, some m, some b => s.handoverBegin d t m b
    | some r, _, _ => s.fin t stCapacity r
    | none, _, _ => s.fin t stCapacity 3)

/-- HANDOVER_PREPARED (R729, step 3): the handover area is current; the handover is due at the next boundary. -/
def execHandoverPrepared (s : State) : Res := .next (if s.upd.phase = 1 then s.setUpd { s.upd with phase := 2 } else s)

/-- R729, step 4: at the boundary the old image hands over and the pause begins. -/
def State.beginPause (s : State) : State := if s.upd.phase = 2 then s.setUpd { s.upd with phase := 3 } else s

/-- R724: a trial begins. -/
def State.beginTrial (s : State) : State :=
  let w := s.upd.window
  let s := s.setUpd { s.upd with trialAt := s.time, warned := decide (w ≤ 5), trialOver := false }
  let s := (s.put Fld.UPD_TRIAL__WINDOW 0 w).put Fld.UPD_TRIAL__REMAINING 0 (w * 60)
  let s := s.postBoth { code := 0xC03, sev := 1, data := w }
  if w ≤ 5 then s.postBoth { code := 0xC04, sev := 1, data := w } else s

/-- R724: UPD_TRIAL counts down in device time; refreshed at every boundary. -/
def State.trialTick (s : State) : State :=
  if s.onTrial then s.put Fld.UPD_TRIAL__REMAINING 0 (s.upd.window * 60 - (s.time - s.upd.trialAt) / 1000000)
  else s

/-- R729, step 5: the new image's sections that wait for the next C-die start: PENDING. -/
def State.pendingSections (s : State) : State :=
  let b := s.runImg
  let diff (k : Nat) : Nat := match sectionHash b (2 + k) with | some h => if s.upd.delivered.getD k 0 = h then 0 else 2 ^ k | none => 0
  s.put Fld.UPD_STATUS__PENDING 0 (diff 0 + diff 1 + diff 2)

/-- Firmware tasks move to other engines, which become ACTIVE. -/
def State.moveTasks (s : State) (m : List (Nat × Nat)) : State :=
  let s : State := { s with cfg := { s.cfg with taskEngine := m ++ s.cfg.taskEngine.filter fun x => !m.any (·.1 == x.1) } }
  ((m.map (·.2)).eraseDups).foldl (fun s n =>
    (s.engPut Fld.ENG_STATE__STATE n eActive).engPut Fld.ENG_STATE__TASKS n ((m.filter (·.2 == n)).length)) s

/-- UPD_RESIDENT over a list of engines. -/
def State.setResident (s : State) (l : List Nat) : State :=
  [0, 1, 2, 3].foldl (fun s m => s.setReg .UPD_RESIDENT m (BitVec.ofNat 32 (l.foldl (fun v n => if n / 32 = m then v + 2 ^ (n % 32) else v) 0))) s
def State.residents (s : State) : List Nat := (upTo 128).filter fun n => bitAt (s.reg .UPD_RESIDENT (n / 32)).toNat (n % 32)

/-- The pause is over: its length is shown and posted, and the serial watchdog is renewed (R729, R731). -/
def State.endPause (s : State) (us : Nat) : State :=
  let t := s.upd.actT
  let s := (s.setUpd { s.upd with phase := 0, actT := none }).setReg .UPD_LAST_PAUSE 0 (BitVec.ofNat 32 us)
  let s := s.postBoth { code := 0xC02, sev := 0, data := us / 10 }
  match t with | some t => s.fin t stDone | none => s

/-- A revert is over (R726): the TRIAL slot is STALE, the old image runs, and settings copies in the new image's own format that the
old one cannot read are removed. -/
def State.revertSlots (s : State) : State :=
  match s.slotWith roTrial, s.slotWith roFallback with
  | some k, some j =>
    let s := (s.setRole k roStale).setRole j roActive
    let own := imgFormat (s.slotImg k)
    let keep := if imgReads (s.slotImg j) own then s.upd.settings else tabErase s.upd.settings own
    let s := (s.setUpd { s.upd with settings := keep, bootTrial := false, resident := false }).put Fld.UPD_ERR__REVERTED 0 1
    (s.put Fld.UPD_TRIAL__REMAINING 0 0).setResident []
  | _, _ => s

def State.postReverted (s : State) (cause : Nat) : State := s.postBoth { code := 0xC06, sev := 2, data := cause }

/-- R726: the end of a reverse handover: the old image's tasks run on its engines again, the other engines are SPARE. -/
def State.handBack (s : State) (us : Nat) : State :=
  let cause := s.upd.cause
  let new := (s.cfg.taskEngine.filter fun x => s.upd.oldMap.any (·.1 == x.1)).map (·.2)
  let s := s.moveTasks s.upd.oldMap
  let s := new.foldl (fun s n => (s.engPut Fld.ENG_STATE__STATE n eSpare).engPut Fld.ENG_STATE__TASKS n 0) s
  let s := s.revertSlots
  let s := (s.setUpd { s.upd with running := 1 - s.upd.running }).endPause us
  s.pendingSections.updMirror.poolRefresh.postReverted cause

/-- R729, steps 5 and 6: the new image runs on its engines, the old one stays resident, and the trial begins. -/
def State.handOver (s : State) (us : Nat) : State :=
  let old := s.cfg.taskEngine.filter fun x => s.upd.newMap.any (·.1 == x.1)
  let s := s.moveTasks s.upd.newMap
  let oldEng := (old.map (·.2)).eraseDups
  let s := (oldEng.foldl (fun s n => s.engPut Fld.ENG_STATE__TASKS n 0) s).setResident oldEng
  let k := (s.slotWith roStaged).getD s.freeSlot
  let s := (s.setRole k roTrial).setRole (1 - k) roFallback
  let s := (s.setUpd { s.upd with running := k, hostBooted := false, resident := true, oldMap := old }).endPause us
  s.pendingSections.updMirror.poolRefresh.beginTrial

/-- HANDOVER_DONE (R729, steps 5 and 6; R731): the image takes over after a pause of `us` µs, at most 2 ms. -/
def execHandoverDone (us : Nat) (s : State) : Res :=
  if s.upd.phase ≠ 3 || 2000 < us then .next s
  else if s.upd.rev then .next (s.handBack us)
  else .next (s.handOver us)

/-- FIRN_INSTALL (R727, R415): the staged image's Firn section is offered to the dies in DIES; `v`: its check value; `ok0`, `ok1`: it
verifies once written in that die. -/
def execFirnInstall (d : Desc) (v : W32) (ok0 ok1 : Bool) (s : State) : Res :=
  .next (s.activate d 3 fun t s =>
    match s.stagedImg.bind fun b => sectionHash b 5 with
    | none => s.fin t stCapacity 5
    | some _ =>
      if s.activateBusy then s.fin t stCapacity 9
      else
        let one (f : Firn) (ok : Bool) (s : State) : State × Nat :=
          if !bitAt (DescF.par d 2 1) f.num then (s, 0xFFFF)
          else if f = .f1 && !s.variant.hasF1 then (s, stAbsent)
          else if (s.firnOff f).isSome || !s.firnLive f then (s, stDomainOff)
          else s.installLegal f v ok
        let (s, a) := one .f0 ok0 s
        let (s, b) := one .f1 ok1 s
        s.fin t stDone (a + b * 65536))

/-- R725: the trial's image stays: the SVN fuses follow it, it is ACTIVE and the other STALE, settings copies of other formats go,
and the old image's engines are SPARE. -/
def State.confirm (s : State) (k : Nat) : State :=
  let b := s.slotImg k
  let s := s.put Fld.UPD_SVN__FUSES 0 (max (s.get Fld.UPD_SVN__FUSES 0) (imgSvn b))
  let s := (s.setRole k roActive).setRole (1 - k) roStale
  let s := s.setUpd { s.upd with settings := s.upd.settings.filter (·.1 == imgFormat b), resident := false, oldMap := [] }
  let s := s.residents.foldl (fun s n => (s.engPut Fld.ENG_STATE__STATE n eSpare).engPut Fld.ENG_STATE__TASKS n 0) s
  ((s.setResident []).put Fld.UPD_TRIAL__REMAINING 0 0).updMirror.poolRefresh

/-- HEALTH_CONFIRM (R725). -/
def execHealthConfirm (d : Desc) (s : State) : Res :=
  .next (s.withDesc 0x6A d fun t s =>
    match s.slotWith roTrial with
    | none => s.fin t stCapacity 1
    | some k =>
      if !s.onTrial || s.upd.phase ≠ 0 then s.fin t stCapacity 1
      else (((s.confirm k).fin t stDone).postBoth { code := 0xC05, sev := 0, data := imgSvn (s.slotImg k) }))

/-- TRIAL_EXPIRING (R724): 5 min before the end of the window. -/
def execTrialExpiring (s : State) : Res :=
  if !s.onTrial || s.upd.warned then .next s
  else .next ((s.setUpd { s.upd with warned := true }).postBoth { code := 0xC04, sev := 1, data := 5 })

/-! ### Handover aborts and boots (R720, R732) -/

/-- R732: a retirement in the firmware part ends a handover: the old image stays, the new engines return to SPARE. -/
def State.abortHandover (s : State) : State :=
  if s.upd.phase = 0 || s.upd.rev then s
  else
    let t := s.upd.actT
    let s := s.upd.newEng.foldl (fun s n => if s.engGet Fld.ENG_STATE__STATE n = eLoading then s.engPut Fld.ENG_STATE__STATE n eSpare else s) s
    let s := ((s.setUpd { s.upd with phase := 0, actT := none, newEng := [], newMap := [] }).put Fld.UPD_ERR__HANDOVER_ABORT 0 1).updMirror.poolRefresh
    match t with | some t => s.fin t stCapacity 0xA | none => s

/-- R720: the slot that a start takes, after a stage 0x4 that verified it; `other`: the slot chosen failed and the other booted. -/
def State.bootTrial (s : State) (other : Bool) : State :=
  let s := s.setUpd { s.upd with hostBooted := false, phase := 0, rev := false, actT := none, stage := none }
  let (k, s) := match s.slotWith roTrial with
    | some k =>
      if s.upd.bootTrial then (k, s.setUpd { s.upd with bootTrial := false, news := 6 })
      else
        let j := 1 - k
        (j, let s := s.revertSlots; s.setUpd { s.upd with news := if s.upd.news = 0 || s.upd.news = 6 then 3 else s.upd.news })
    | none => ((s.slotWith roActive).getD 0, s)
  let k := if other then 1 - k else k
  let s := (s.setUpd { s.upd with running := k }).put Fld.BOOT_STATUS__SLOT 0 k
  let b := s.slotImg k
  ((s.setUpd { s.upd with delivered := [2, 3, 4].map fun t => (sectionHash b t).getD 0 }).put Fld.UPD_STATUS__PENDING 0 0).updMirror

/-- R118: an image loaded from host memory runs. -/
def State.bootHost (s : State) (img : List Byte) : State :=
  (s.setUpd { s.upd with hostBooted := true, hostImg := img, phase := 0, rev := false, actT := none, stage := none,
                         delivered := [2, 3, 4].map fun t => (sectionHash img t).getD 0 }).updMirror

/-- R724, R726: the end of stage 0xA reports a trial's start or a revert. -/
def State.bootNews (s : State) : State :=
  let n := s.upd.news
  let s := s.setUpd { s.upd with news := 0 }
  if n = 0 then s else if n = 6 then (if s.onTrial then s.beginTrial else s) else s.postReverted n

/-- The C-die's reset: what was under way is lost; what the boot flash keeps stays. -/
def State.updReset (s : State) : State :=
  s.setUpd { s.upd with stage := none, phase := 0, rev := false, actT := none, newEng := [], newMap := [], resident := false, oldMap := [], cfgDue := [] }

end Sys2Proof.Machine
end

