-- ==== Sys2Proof/Machine/Domains.lean ====
section
/-!
DEFINITION. Machine/Domains.lean: what the reset of each domain puts back and what it leaves (R107 to R114, R742), and what a die's
stop and return mean to the others (R46, R108, R109).
-/
namespace Sys2Proof.Machine

/-! ### Links (R108, R114) -/

/-- R108: a Firn link is reset: its channels with it (R203, R204). -/
def State.firnLinkDown (s : State) (d : Firn) : State := ((s.dropLink d.link).linkLost (Chan.ofFirn d)).resetFirnChans d

/-- The driver link is reset, and Serac's channels with it. What the D-die owes a completion completes with DOMAIN_OFF (R130). -/
def State.driverDown (s : State) : State :=
  let s := s.dropLink .driver
  let s := s.seracChannels
  let ts := s.slices.flatMap (fun x => x.2.test.toList ++ x.2.lockWaits.map (·.1) ++ x.2.lockWant.flatMap fun w => w.2.map (·.1)) ++ s.switches.flatMap (fun x => x.2.test.toList ++ x.2.cfgPend.map (·.1))
  let s : State := { s with slices := s.slices.map fun x => (x.1, { x.2 with test := none, lockWaits := [], lockWant := x.2.lockWant.map fun w => (w.1, []) }),
                            switches := s.switches.map fun x => (x.1, { x.2 with test := none, cfgPend := [] }) }
  ts.foldl (fun s t => s.fin t stDomainOff 6) s

/-- The D-die's settings are sent to it again. -/
def State.driverMirrors (s : State) : State :=
  let s := (upTo 64).foldl (fun s n => s.mirrorSlice n) s
  let s := (upTo 48).foldl (fun s n => s.mirrorSwitch n) s
  s.put Fld.DRV_WDT__PERIOD 0 s.cfg.wdtPeriod

/-- A link trains: while the die at its far end runs, it carries traffic. -/
def State.trainLink (s : State) (l : Link) : State :=
  match l with
  | .firn0 => if s.dieRuns .f0 then ((s.raiseLink l).domainReturned 7).firnResend .f0 else s
  | .firn1 => if s.variant.hasF1 && s.dieRuns .f1 then ((s.raiseLink l).domainReturned 8).firnResend .f1 else s
  | .driver =>
    if s.variant.hasDdie && s.dieRuns .ddie then
      let again := s.boot.away.contains 9
      let s := (s.raiseLink l).domainReturned 9
      (if again then s.driverMirrors else s).seracRelease
    else s
  | _ => if s.variant.hasDdie && s.dieRuns .ddie then s.raiseLink l else s

/-! ### The Firn dies (R108, R110) -/

/-- The comparator inputs of a Firn die. -/
def inpFirn (d : Firn) : Inp → Bool
  | .cover e | .magnet e | .seal e => e == d
  | .dispStep => d == .f0
  | _ => false

/-- Inputs are undetermined again from the reset of their die (R125). -/
def State.dropInputs (s : State) (p : Inp → Bool) : State :=
  s.setBoot { s.boot with inputs := s.boot.inputs.filter (fun x => !p x.1), indet := s.boot.indet.filter (fun x => !p x),
                           late := s.boot.late.filter (fun x => !p x) }

/-- The cores of a group of engines are lost; the pointers of their clusters' banks, 8 for 8 engines, start at master 0 again (R209). -/
def State.dropCores (s : State) (p : Nat → Bool) : State :=
  let e := s.eng
  { s with eng := { e with core := e.core.filter (fun x => !p x.1), prob := e.prob.filter (fun x => !p x.1), stand := e.stand.filter (fun x => !p x.1),
                           imem := e.imem.filter (fun x => !p ((x.1 - 0x100000000) / 0x20000)), ptr := e.ptr.filter (fun x => !p x.1),
                           saved := e.saved.filter (fun x => !p x.1), migr := e.migr.filter (fun x => !p x.1), unposted := e.unposted.filter (fun n => !p n) } }

def firnEng (d : Firn) (n : Nat) : Bool := decide (128 + 64 * d.num ≤ n) && decide (n < 192 + 64 * d.num)

/-- The lock of a Firn die's PLL as CLK_STATUS shows it (R71). -/
def State.firnLock (s : State) (d : Firn) (v : Bool) : State :=
  match d with | .f0 => s.putB Fld.CLK_STATUS__F0_PLL_LOCK 0 v | .f1 => s.putB Fld.CLK_STATUS__F1_PLL_LOCK 0 v

/-- A Firn die stands still: reset, or stopped in Sleep. With F0 the legal display is blank (R86, R123). -/
def State.firnDown (s : State) (d : Firn) : State :=
  let s := ((s.setFirn d { s.firn d with runs := false }).stopDie d.die).firnLock d false
  let s := if d = .f0 then s.setDisp { s.disp with front := [], back := [], shadow := 0 } else s
  let s := s.firnLinkDown d
  s.dropLink (match d with | .f0 => .pulse0 | .f1 => .pulse1)

/-- R108, R110, R121: a Firn die resets with its Firn link and pulse link; its engines' history goes. -/
def State.firnReset (s : State) (d : Firn) : State :=
  let s := (s.firnDown d).firnClear d
  let s := s.resetRegs fun k => (k.reg == .FENG_STATE || k.reg == .FENG_HEALTH || k.reg == .FENG_DLMISS) && k.idx / 64 == d.num
  let s : State := { s with eng := { s.eng with fc := tabErase s.eng.fc (1 + d.num), fcBoundary := tabErase s.eng.fcBoundary (1 + d.num) } }
  let s := (s.dropCores (firnEng d)).dropInputs (inpFirn d)
  let s := (s.put Fld.FIRN_STATUS__SEAL d.num 2).put Fld.FIRN_STATUS__SEALED d.num 1
  let s := s.resetRegs fun k => k.reg == .TAMPER_STATE && k.idx / 9 == d.num
  s.poolRefresh.domainReset (7 + d.num)

/-- R86: a Firn die commits its state to its store and stops; it is not ready again until its references have settled after waking. -/
def State.firnSleep (s : State) (d : Firn) : State :=
  if (s.firn d).runs then (let s := (s.regelStop d).storeAll d; (s.setFirn d { s.firn d with waking := true }).firnDown d) else s

/-- REFCLK loss (R73): the die halts accumulation and records a clock-deviation tamper event. -/
def State.firnClockHalt (s : State) (d : Firn) : State := if (s.firn d).runs then (s.haltBegin d 1).tamper d 5 3 0 [] else s

/-! ### The D-die (R46, R90, R108, R110, R123) -/

def inpDdie : Inp → Bool
  | .safety _ | .aux _ | .lockFb _ | .pulseA _ | .pulseB _ | .kyZc => true
  | _ => false

/-- R46: pulse and freeze inputs stop: running points whose path or pulses come from the D-die freeze at their last sample, which the
latest mark leaves free within its cycle, and the Moraine log records the loss for points with pulse inputs (in an UNBILLED record
whose cause no rule gives: log entry 1). -/
def State.ddieLost (s : State) : State :=
  let (j, s) := s.drawBelow 32
  (upTo 256).foldl (fun s p =>
    let c := s.pcfg p
    if s.mpState p ≠ mpMetering then s
    else
      let s := if c.pulse.isSome then
          let (k, s) := s.drawBelow 6
          s.unbilledRecord c.die p (k + 1) 0 []
        else s
      if c.pulse.isSome || (s.sliceOf p).isSome || (s.swOf p).isSome then s.freezePoint p ((s.firn c.die).m + j) 1 else s) s

/-- The D-die is out: every output off (R90, R123), its inputs undetermined, Serac off, its links down. -/
def State.ddieDown (s : State) : State :=
  let s := ((s.stopDie .ddie).stopDie .serac).ddieLost
  let s := ((s.driverDown.dropLink .pulse0).dropLink .pulse1).dropLink .freeze0 |>.dropLink .freeze1
  let s := s.seracOff.dropInputs inpDdie
  let s := (upTo 48).foldl (fun s n => if s.swOn n then s.swRefresh n else s) s
  let s := s.setGov { s.gov with wdt := none, fsOn := [] }
  (s.put Fld.KY_STATUS__ZC 0 2).readerEnds

/-- The D-die's registers and working state are lost: each switch is off, each lock undriven, each pilot at 0 V. -/
def State.ddieClear (s : State) : State :=
  let s := s.resetRegs fun k => k.reg.info.dom == .ddie || k.reg == .SLICE_PILOT || k.reg == .SLICE_DUTY || k.reg == .SLICE_PP
    || k.reg == .SLICE_RDC || k.reg == .SLICE_ISO
  let s : State := { s with switches := [] }
  (upTo 64).foldl (fun s i =>
    let s := ((((s.put Fld.SLICE_STATUS__PILOT i 7).put Fld.SLICE_STATUS__LOCK i 0).put Fld.SLICE_STATUS__CONTACTOR i 0).put Fld.SLICE_STATUS__PWM i 0).put
      Fld.SLICE_STATUS__UNAVAIL i 0
    match tabFind s.slices i with
    | none => s
    | some c => s.setSlice i { c with out := 3, seen := 7, reflex := none, tripF := false, low := false, rdcWait := false, lockWant := [], lockDir := none,
                                      lockRun := none, lockAgain := false, lockFault := false, locked := false, held := false, conv := none }) s

/-- The D-die leaves reset or standby (R90, R116, R123): it samples its strap, drives every pilot to +12 V, its inputs are undetermined and
Serac waits for its image. -/
def State.ddieRelease (s : State) : State :=
  let s := s.startDie .ddie
  let m := s.straps / 4 % 2
  let s := (s.put Fld.DRV_STATUS__SNS_SEL_MODE 0 m).put Fld.BOOT_STRAP__SNS_SEL_MODE 0 m
  (upTo 64).foldl (fun s i => s.drivePilot i 0 0) s

/-- R108, R110: a D-die reset; `cause`: VDD_D, the source of RST_CAUSE bit 9. -/
def State.ddieReset (s : State) (cause : Bool) : State :=
  let s := s.ddieDown.ddieClear
  let s := s.setSerac { s.serac with stuck := false }
  if cause then s.domainReset 9 else s.setBoot { s.boot with away := 9 :: s.boot.away.filter (· != 9) }

/-- Standby (R90). -/
def State.ddieStandby (s : State) : State :=
  if s.variant.hasDdie && s.dieRuns .ddie then s.ddieDown.ddieClear else s

def State.ddieLeaveStandby (s : State) : State :=
  if !s.variant.hasDdie then s
  else (((s.ddieRelease.trainLink .driver).trainLink .pulse0).trainLink .pulse1).driverMirrors

/-! ### The C-die (R108, R111, R113, R742) -/

/-- Registers that a C-die reset leaves: what flash and fuses hold, what the D-die holds of its slices, Rime's own (R696), and the
state of the clock sources, which are not reset with the C-die (R66, R71). -/
def cdieKeeps : Reg → Bool
  | .UPD_SVN | .UPD_OWNER | .UPD_CONFIG_SEQ | .SLICE_STATUS | .SLICE_PILOT | .SLICE_DUTY | .SLICE_PP | .SLICE_RDC | .SLICE_ISO
  | .KEY_STATUS | .KEY_ERR | .KEY_REMASK | .KEY_RIGHTS | .KEY_ATTR | .KEY_PARENT | .KEY_PGEN | .KEY_ID | .ANT_STATUS | .CLK_STATUS => true
  | _ => false

/-- What a C-die reset leaves of a slice: what the D-die holds (R107, R109), and the count of its faults. -/
def SliceSt.ddiePart (x : SliceSt) : SliceSt :=
  { out := x.out, seen := x.seen, inhibit := x.inhibit, locked := x.locked, held := x.held, reflex := x.reflex, tripF := x.tripF, low := x.low,
    lockWant := x.lockWant.map fun w => (w.1, []), lockDir := x.lockDir, lockRun := x.lockRun, lockAgain := x.lockAgain, lockFault := x.lockFault }

/-- The PLLs of the C-die lose their lock with their supply (R103). -/
def State.pllsDown (s : State) : State :=
  ((s.put Fld.CLK_STATUS__CORE_PLL_LOCK 0 0).put Fld.CLK_STATUS__MEM_PLL_LOCK 0 0).put Fld.CLK_STATUS__SERDES_PLL_LOCK 0 0

/-- R108, R110, R111, R107: the C-die resets with its Firn links and driver link. Both PCIe links go down, and every descriptor that had not
completed is lost. Cause 13 stands for a rail with no RST_CAUSE bit (log entry 15). Memories and the ledger region keep what they
hold (log entry 8). -/
def State.cdieReset (s : State) (cause : Nat) : State :=
  let deep := s.power.entered == 3
  let s := if cause < 13 then s.rstCause cause else s
  let s := (s.endSeracSession .h0).endSeracSession .h1
  -- nothing that has not completed is reported afterwards
  let s : State := { s with h0 := { epoch := s.h0.epoch + 1 }, h1 := { epoch := s.h1.epoch + 1 }, mbx := s.mbx.filter (fun x => Chan.ofFirn .f0 x.1 || Chan.ofFirn .f1 x.1),
                            mbxQueue := s.mbxQueue.filter (fun x => Chan.ofFirn .f0 x.1 || Chan.ofFirn .f1 x.1), lateSeqs := [], waits := [],
                            msgQueue := [], orders := [], starts := [], stops := [], limits := [], timeSets := [], eth := { mac := s.eth.mac },
                            gather := false, ready := [], pins := {} }
  let s := (s.firnLinkDown .f0).firnLinkDown .f1
  let s : State := { s with slices := s.slices.map fun x => (x.1, x.2.ddiePart),
                            switches := s.switches.map fun x => (x.1, { x.2 with test := none, cfgPend := [], due := 0 }) }
  let s := s.driverDown
  let s := s.readerReset
  let s := s.resetRegs fun k => k.reg.info.dom == .cdie && !cdieKeeps k.reg
  let s := if cause = 0 || cause = 1 || cause = 13 then s.pllsDown else s
  let s := (upTo 64).foldl (fun s i => ((s.put Fld.SLICE_STATUS__SESSION i 0).put Fld.SLICE_STATUS__END i 0).put Fld.SLICE_STATUS__TRIP i 0) s
  let s := (upTo 64).foldl (fun s i => ((s.put Fld.ANT_STATUS__DETECT i 0).put Fld.ANT_STATUS__HELD i 0).put Fld.ANT_STATUS__FAULT i 0) s
  let s := s.setGov { wdt := s.gov.wdt, fsOn := s.gov.fsOn }
  let s := s.dropCores (· < 128)
  let e := s.eng
  let s : State := { s with eng := { e with fc := tabErase e.fc 0, fcBoundary := tabErase e.fcBoundary 0, appLoads := [], lastRelease := [], suspended := [] } }
  let s := s.setLedger { s.ledger with acts := [], acks := [], stalled := [], parking := false }
  let s := (s.kyReset.rimeReset).updReset
  let s := s.setPower { s.power with fselNow := 0, deferred := 0, committed := false, entered := 0, memFails := 0, memStall := false, memOff := false,
                                     kyFrame := false, raiseTo := none, savedFsel := 0, savedVsel := 0 }
  let s := (s.stopDie .cdie).setBoot { (s.stopDie .cdie).boot with resetDue := false, fetching := false }
  -- a D-die left in the standby of Deep sleep starts again
  if deep && s.variant.hasDdie && s.railsGood .ddie then s.ddieRelease else s

/-- R107, R110, R113: the AON domain is reset with the C-die: device time is lost, RST_CAUSE shows bit 0 alone, and the root counters
that the AON domain holds are gone (R505). -/
def State.aonReset (s : State) (latch : Bool) : State :=
  let s := s.resetRegs fun k => k.reg.info.dom == .aon
  let s := { s with devTime := 0 }
  let s := s.setLedger { s.ledger with rootLost := true }
  let s := if latch then s.put Fld.PWR_WAKE_EN__WAKE_POL 0 (b2n s.power.polLatch)
    else (s.setPower { s.power with polLatch := false }).dropInputs (· == .wake)
  let s := s.setPower { s.power with wpFrame := false, wpMatcher := false, wpRead := none, wpHit := false, wpOld := false, wpFifo := [], oscFailed := false, entered := 0 }
  s.cdieReset 0

/-- R92, R95, R98: the start from Off: as at power-up, but for VBAT and the polarity latch; the memories are empty. -/
def State.startFromOff (s : State) : State :=
  let s := (s.aonReset true).setMem []
  if s.variant.hasDdie then s.ddieReset false |>.ddieRelease else s

/-- R691, R512: the loss of VBAT. -/
def State.vbatLoss (s : State) : State := s.rimeVbatLoss.setLedger { s.rimeVbatLoss.ledger with parks := 0 }

end Sys2Proof.Machine
end

