-- ==== Sys2Proof/Machine/PowerState.lean ====
section
/-!
DEFINITION. Machine/PowerState.lean: power states (R81 to R102): entry to Idle, Sleep, Deep sleep and Off, wake, the frames
that defer them, and the clock failures that reach the Firn dies (R73).
-/
namespace Sys2Proof.Machine

/-! What stands in the way of a power state (R82, R83, R88). -/

/-- R82, R227: every engine of a cluster waits in WFI or DLWAIT, is halted, or stands spare. -/
def State.clusterQuiet (s : State) (k : Nat) : Bool :=
  (upTo 8).all fun i =>
    let n := 8 * k + i
    let st := s.engGet Fld.ENG_STATE__STATE n
    (s.core n).wfi || (s.core n).dlWait.isSome || st == eHalted || st == eSpare
def State.pointActive (s : State) : Bool := (upTo 256).any fun p => let v := s.mpState p; v == mpArmed || v == mpMetering || v == mpFrozen
def State.switchOn (s : State) : Bool := (upTo 48).any s.swOn
def State.vehiclePresent (s : State) : Bool := s.usedSlices.any fun i => decide (1 ≤ s.pilot i) && decide (s.pilot i ≤ 3)
def State.startsDeferred (s : State) : Bool := s.gov.queue.any fun e => match e.obj with | .start _ => true | _ => false
def State.handoverActive (s : State) : Bool := s.upd.phase != 0

/-- A PCIe link in L0 goes to L1; one in L1 returns; both go down in L2. -/
def State.sleepLink (s : State) (p : Port) : State :=
  if s.get Fld.HOST_STATUS__LINK_STATE p.num = 1 then s.put Fld.HOST_STATUS__LINK_STATE p.num 2 else s
def State.wakeLink (s : State) (p : Port) : State :=
  if s.get Fld.HOST_STATUS__LINK_STATE p.num = 2 then s.put Fld.HOST_STATUS__LINK_STATE p.num 1 else s
def State.downPcie (s : State) (p : Port) : State :=
  (((s.put Fld.HOST_STATUS__LINK_WIDTH p.num 0).put Fld.HOST_STATUS__LINK_SPEED p.num 0).put Fld.HOST_STATUS__LINK_STATE p.num 3).endSeracSession p

/-- R82: a cluster whose engines have all waited, halted or stood spare for IDLE_DELAY cycles has its clock gated; the
module shows Idle when all 16 clusters are idle. -/
def execClusterIdleEntry (k : Nat) (s : State) : Res :=
  if !s.clusterQuiet k || 16 ≤ k || 1 < s.pwr || !s.dieRuns .cdie then .next s
  else
    let m := putBits (s.get Fld.PWR_STATE__CLUSTER_IDLE 0) k 1 1
    let s := s.put Fld.PWR_STATE__CLUSTER_IDLE 0 m
    .next (s.put Fld.PWR_STATE__STATE 0 (if m = 0xFFFF then 1 else 0))

/-- R83: every submission ring of a port is idle, with NEED_KICK set (a DISABLED ring holds nothing to fetch). -/
def State.sqsIdle (s : State) (p : Port) : Bool :=
  (s.host p).sq.all fun kv => kv.2.state == rDisabled || (kv.2.state == rIdle && kv.2.needKick)

/-- R83: nothing but time stands between the module and Sleep. `dma`: a DMA transfer is outstanding. -/
def State.sleepReady (s : State) (dma : Bool) : Bool :=
  s.flag Fld.PWR_IDLE_CFG__SLEEP_EN 0 && decide (s.pwr ≤ 1) && s.get Fld.PWR_STATE__CLUSTER_IDLE 0 == 0xFFFF
  && s.sqsIdle .h0 && s.sqsIdle .h1 && !s.pointActive && !s.startsDeferred && !s.handoverActive && !dma
  && !s.power.wpFrame && !(s.flag Fld.PWR_IDLE_CFG__SLEEP_KYOTI 0 && s.power.kyFrame)

/-- The commit point of an entry to Sleep (2), Deep sleep (3) or Off (5) (R84, R89): what the wake buffer still holds is an
earlier frame's (R101). Until the module runs again its events wait for firmware (log entry 171). -/
def State.passCommit (s : State) (st : Nat) : State :=
  let s := s.setPower { s.power with committed := true, entered := st, deferred := 0, wpOld := s.flag Fld.WP_STATUS__VALID 0, wpHit := false }
  ({ s with gather := true } : State).put Fld.PWR_STATE__STATE 0 (if st = 5 then 4 else st)

/-- SLEEP_ENTRY (R83 to R86). -/
def execSleepEntry (dma : Bool) (s : State) : Res :=
  if !s.sleepReady dma then .next s
  else
    let s := s.passCommit 2
    let s := s.setPower { s.power with savedFsel := s.get Fld.PWR_DVFS__FSEL 0, savedVsel := s.get Fld.PWR_DVFS__VSEL 0, fselNow := 2 }
    let s := ((s.put Fld.PWR_DVFS__FSEL 0 2).put Fld.PWR_DVFS__VSEL 0 2).put Fld.PWR_DVFS__VOK 0 1
    let s := (s.sleepLink .h0).sleepLink .h1
    let s := if s.flag Fld.PWR_IDLE_CFG__SLEEP_FIRN 0 then s else (s.firnSleep .f0).firnSleep .f1
    let s := if s.flag Fld.PWR_IDLE_CFG__SLEEP_KYOTI 0 then s else s.kySilent
    .next (if s.flag Fld.PWR_IDLE_CFG__SLEEP_READER 0 then s else s.readerSilent)

/-- R88: why a request for Deep sleep (`off` false) or Off is refused; log entry 13 for the order. -/
def State.reqRefusal (s : State) (off : Bool) : Option Nat :=
  if s.pointActive then some 0x1
  else if s.switchOn then some 0x2
  else if s.vehiclePresent then some 0x3
  else if (s.reg .PWR_WAKE_SRC 0 &&& s.reg .PWR_WAKE_EN 0 &&& 0x3FFF) ≠ 0 then some 0x5
  else if s.handoverActive then some 0x6
  else if off && !s.flag Fld.PWR_WAKE_EN__WAKE_BALL 0 then some 0x8
  else if s.startsDeferred then some 0xA
  else none

/-- A frame is in progress at the wake port or the Kyoti receiver (R88, R102). -/
def State.frameBusy (s : State) : Bool := s.power.wpFrame || s.power.kyFrame

def State.reqStatus (s : State) (result cause : Nat) : State :=
  (s.put Fld.PWR_REQ_STATUS__RESULT 0 result).put Fld.PWR_REQ_STATUS__CAUSE 0 cause

/-- R89, R98: firmware saves the engines' registers in data memory before Deep sleep, where they are lost (log entry 172). -/
def State.saveCores (s : State) : State :=
  { s with eng := { s.eng with saved := s.eng.core.filter (fun x => decide (x.1 < 128)), core := s.eng.core.filter (fun x => decide (128 ≤ x.1)) } }

/-- R89: and they come back from there. -/
def State.restoreCores (s : State) : State := { s with eng := { s.eng with saved := [], core := s.eng.saved ++ s.eng.core } }

/-- R81, R89 to R91: the module is put into Deep sleep or Off. Device time is lost on Off, and on Deep sleep while the AON
oscillator is stopped. -/
def State.enterDeep (s : State) (off : Bool) : State :=
  let s := (s.reqStatus 2 0).saveCores
  let s := s.passCommit (if off then 5 else 3)
  let s := (s.downPcie .h0).downPcie .h1
  let s := (s.put Fld.ETH_STATUS__LINK 0 0).put Fld.ETH_STATUS__LINK 1 0
  let s := (((s.put Fld.CLK_STATUS__CORE_PLL_LOCK 0 0).put Fld.CLK_STATUS__MEM_PLL_LOCK 0 0).put Fld.CLK_STATUS__SERDES_PLL_LOCK 0 0).put Fld.CLK_STATUS__REFCLK_OK 0 0
  let s := ((s.firnSleep .f0).firnSleep .f1)
  let s := (s.kySilent.readerSilent).ddieStandby
  let s := s.stopDie .cdie
  let s := if off then s.setPower { s.power with polLatch := s.flag Fld.PWR_WAKE_EN__WAKE_POL 0 } else s
  if off || !s.flag Fld.CLK_STATUS__AON_OSC_OK 0 then { s with devTime := 0 } else s

/-- A request that waits, for a frame or for the ledger's park, is replaced by a new one (R88). -/
def State.dropRequest (s : State) : State :=
  let s := s.setPower { s.power with deferred := 0 }
  if s.ledger.parking then
    let s := s.setLedger { s.ledger with parking := false }
    if s.power.memStall then s else s.memBack
  else s

/-- A request that nothing stands in the way of is granted; Off with the ledger parked (R88, R512). -/
def State.grantRequest (s : State) (off : Bool) : State := (if off then s.ledgerPark else s).enterDeep off

/-- A PWR_REQ write (R88): refused, deferred while a frame is in progress, or granted. Off waits for the ledger's park. -/
def State.powerRequest (s : State) (off parked : Bool) : State :=
  if 1 < s.pwr then s
  else
    let s := s.dropRequest
    match s.reqRefusal off with
    | some c => s.reqStatus 3 c
    | none =>
      if s.frameBusy then (s.setPower { s.power with deferred := if off then 2 else 1 }).reqStatus 1 4
      else if off && !parked then (s.setLedger { s.ledger with parking := true }).reqStatus 1 7
      else s.grantRequest off

/-- A PWR_REQ write with a REQ value that is not defined (R88). -/
def State.badRequest (s : State) : State := if 1 < s.pwr then s else s.dropRequest.reqStatus 3 9

/-- R512: at a boundary a park whose memory answers is complete, and Off is entered, unless something has come into its way. -/
def State.parkStep (s : State) : State :=
  if !s.ledger.parking || s.power.memStall || s.power.memOff then s
  else match s.reqRefusal true with
    | some c => s.dropRequest.reqStatus 3 c
    | none => if s.frameBusy then s else s.grantRequest true

/-- PWR_REQ_DEEP_SLEEP (R88, R89). -/
def execPwrReqDeepSleep (s : State) : Res := .next (s.powerRequest false true)

/-- PWR_REQ_OFF (R88, R95, R512). `parked`: firmware parks the ledger; otherwise the park goes on, and PARK_TIMEOUT ends it. -/
def execPwrReqOff (parked : Bool) (s : State) : Res := .next (s.powerRequest true parked)

/-- PARK_TIMEOUT (R512): a park that has not completed within 100 ms: Off is refused with cause LEDGER. -/
def execParkTimeout (s : State) : Res := .next (if s.ledger.parking then s.parkFailed.reqStatus 3 7 else s)

/-- A deferred request is taken up again when no frame is in progress (R88, R102); one for Off has its ledger parked then. -/
def State.retryRequest (s : State) : State :=
  if s.power.deferred = 0 || s.frameBusy then s else s.powerRequest (s.power.deferred == 2) false

/-- FRAME_BUSY_TIMEOUT (R88): a deferral that has lasted 100 ms. -/
def execFrameBusyTimeout (s : State) : Res :=
  .next (if s.power.deferred = 0 || !s.frameBusy then s
    else (s.setPower { s.power with deferred := 0 }).reqStatus 3 4)

/-- WAKE_PORT_STOP (R102): the frame ends, and with it its deferral. -/
def execWakePortStop (s : State) : Res :=
  .next ((s.setPower { s.power with wpFrame := false, wpMatcher := false, wpRead := none }).retryRequest)

/-- WAKE_PORT_STUCK (R102): the matcher resets and the frame counts as NACKed. -/
def execWakePortStuck (s : State) : Res :=
  if !s.power.wpFrame then .next s
  else .next (((s.bump Fld.WP_STATUS__NACKED 0 1).setPower { s.power with wpFrame := false, wpMatcher := false, wpRead := none }).retryRequest)

/-- R93: may a source wake the module from the state it is in, under the conditions of its row? -/
def State.mayWake (s : State) (src : Nat) : Bool :=
  decide (src < 14) && bitAt (s.reg .PWR_WAKE_EN 0).toNat src &&
  (if s.pwr = 2 then
    (if src = 7 || src = 8 then s.flag Fld.PWR_IDLE_CFG__SLEEP_FIRN 0
     else if src = 9 then s.flag Fld.PWR_IDLE_CFG__SLEEP_KYOTI 0
     else if src = 10 then s.flag Fld.PWR_IDLE_CFG__SLEEP_READER 0 else true)
  else s.pwr == 3 && (src == 0 || src == 1 || src == 2 || src == 13))

/-- R100, R101: at Run firmware takes the bytes of a frame that the matcher has handled, before any FIFO bytes of it, and posts the
wake-port event. -/
def State.postWakePort (s : State) : State :=
  if !s.power.wpHit then s
  else
    let n := s.get Fld.WP_STATUS__COUNT 0
    let l := if s.power.wpOld then [] else (upTo n).map fun k => BitVec.ofNat 8 ((s.reg .WP_BUF (k / 4)).toNat / 2 ^ (8 * (k % 4)))
    let s := s.setPower { s.power with wpHit := false, wpFifo := s.power.wpFifo ++ l }
    let p := if s.flag Fld.WP_CFG__HOST 0 then Port.h1 else Port.h0
    s.postTo p { code := 0x008, sev := 0, data := n + b2n (s.flag Fld.WP_STATUS__TRUNC 0) * 128 }

/-- What has been gathered while firmware did not run, or at a boundary, is written in the order of R753. -/
def State.endGather (s : State) : State := ({ s with gather := false } : State).flushReady

/-- WAKE (R84, R86, R89 to R91, R96, R97). `ticks`: AON ticks since the entry of a Deep sleep. -/
def execWake (src ticks : Nat) (s : State) : Res :=
  let s := s.wakeSource src
  if !s.mayWake src then .next s
  else
    let deep := s.pwr == 3
    let s := (s.put Fld.PWR_STATE__STATE 0 0).put Fld.PWR_STATE__CLUSTER_IDLE 0 0
    let s := if deep then
        let s := if s.devTime = 0 then s else { s with devTime := s.devTime + ticks * 15625 / 512 }
        let s := (((s.put Fld.CLK_STATUS__CORE_PLL_LOCK 0 1).put Fld.CLK_STATUS__MEM_PLL_LOCK 0 1).put Fld.CLK_STATUS__SERDES_PLL_LOCK 0 1).put Fld.CLK_STATUS__REFCLK_OK 0 1
        ((s.startDie .cdie).restoreCores).ddieLeaveStandby
      else
        let s := s.setPower { s.power with fselNow := s.power.savedFsel }
        ((s.put Fld.PWR_DVFS__VSEL 0 s.power.savedVsel).put Fld.PWR_DVFS__FSEL 0 s.power.savedFsel)
    let s := s.setPower { s.power with committed := false, entered := 0, wpMatcher := false }
    let s := ((s.wakeLink .h0).maybeEndFailover .h0).wakeLink .h1 |>.maybeEndFailover .h1
    let s := (s.kyWake.readerWake).rimeWake
    let s := s.postBoth { code := 0x101, sev := 0, data := s.get Fld.PWR_WAKE_SRC__SRC 0 }
    .next (s.ethHeld.postWakePort).endGather

/-- GATED_BLOCK_ACCESS (R87): an access to a gated block in Sleep is served and is a wake source. -/
def execGatedBlockAccess (s : State) : Res := .next (if s.pwr = 2 then s.wakeSource 12 else s)

/-- WAKE_BALL_ASSERT (R94, R95, R126): the wake source; in Off the module starts as at power-up, keeping VBAT and the latch. While the
ball's state is undetermined it counts as not asserted. -/
def execWakeBallAssert (s : State) : Res :=
  if s.input .wake = .undet then .next s
  else if s.isOff then .next (s.startFromOff.wakeSource 0) else .next (s.wakeSource 0)

/-- REFCLK_LOSS (R73): the C-die counts as stopped; each Firn die halts accumulation and logs a clock tamper. The locks that the PLLs lose
with their reference are shown, but only REFCLK_LOSS is set in CLK_ERR: the failure is the reference's (log entry 166). -/
def execRefclkLoss (s : State) : Res :=
  let s := s.setPower { s.power with refLost := true }
  let s := (s.put Fld.CLK_STATUS__REFCLK_OK 0 0).put Fld.CLK_STATUS__CORE_PLL_LOCK 0 0
  let s := (s.put Fld.CLK_STATUS__F0_PLL_LOCK 0 0).put Fld.CLK_STATUS__F1_PLL_LOCK 0 0
  let s := (s.clockFault Fld.CLK_ERR__REFCLK_LOSS 3).stopDie .cdie
  .next ((s.firnClockHalt .f0).firnClockHalt .f1)

/-- FIRN_PLL_RELOCK (R73, R443): the die leaves its monitor oscillator and the clock halt is lifted. -/
def execFirnPllRelock (d : Firn) (s : State) : Res :=
  if d = .f1 && !s.variant.hasF1 then .next s
  else
    let s := match d with | .f0 => s.put Fld.CLK_STATUS__F0_PLL_LOCK 0 1 | .f1 => s.put Fld.CLK_STATUS__F1_PLL_LOCK 0 1
    .next (s.haltLift d 1)

/-- CORE_PLL_RELOCK (R73, R110): the system controller resets the C-die with its links. -/
def execCorePllRelock (s : State) : Res :=
  if s.isDown then .next s
  else .next ((((s.setPower { s.power with refLost := false }).put Fld.CLK_STATUS__CORE_PLL_LOCK 0 1).put Fld.CLK_STATUS__REFCLK_OK 0 1).cdieReset 5)

/-- MEM_PLL_RELOCK (R73, R504): after three failed relocks ledger descriptors complete with DOMAIN_OFF until one succeeds. -/
def execMemPllRelock (ok : Bool) (s : State) : Res :=
  if ok then
    let s := (s.put Fld.CLK_STATUS__MEM_PLL_LOCK 0 1).setPower { s.power with memStall := false, memOff := false, memFails := 0 }
    .next (if s.ledger.parking then s else s.memBack)
  else
    let n := s.power.memFails + 1
    let s := s.setPower { s.power with memFails := n, memOff := s.power.memOff || decide (3 ≤ n) }
    .next (if 3 ≤ n then s.memLost else s)

end Sys2Proof.Machine
end

