-- ==== Sys2Proof/Machine/Reset.lean ====
section
/-!
DEFINITION. Machine/Reset.lean: supplies, resets and the boot chain (R103 to R135), comparator inputs (R125 to R128), and
the resets of host ports (R112, R138).
-/
namespace Sys2Proof.Machine

/-- RAIL_POWER_GOOD (R103, R123): a die whose rails are all good leaves reset; a boot that a rail has stopped begins again (R135). In Deep
sleep and Off the D-die stays in standby (R90). -/
def execRailPowerGood (r : Rail) (s : State) : Res :=
  let was := s.boot.badRails.contains r
  let s := s.setBoot { s.boot with badRails := s.boot.badRails.filter (· != r) }
  match railDie r with
  | none => .next s
  | some d =>
    if !was || !s.railsGood d then .next s
    else match d with
      | .ddie => .next (if s.isDown || !s.variant.hasDdie then s else s.ddieRelease)
      | .cdie => .next (if s.get Fld.BOOT_STATUS__ERROR 0 = 1 then s.put Fld.BOOT_STATUS__FATAL 0 0 else s)
      | _ => .next s

/-- The C-die resets because one of its rails has failed; during the boot that is error 0x01 (R135). -/
def State.railReset (s : State) (cause : Nat) : State :=
  let booting := s.stage != 0xB
  let s := s.cdieReset cause
  if booting then (s.put Fld.BOOT_STATUS__ERROR 0 1).put Fld.BOOT_STATUS__FATAL 0 1 else s

/-- RAIL_FAIL (R103, R110): the die a rail feeds enters reset; VSW is no reset (R106). Rails of a die for which R110 names
no RST_CAUSE bit reset it without one (log entry 15). In Off only VAON and VBAT still feed something. -/
def execRailFail (r : Rail) (s : State) : Res :=
  if s.boot.badRails.contains r then .next s
  else
    let s := s.setBoot { s.boot with badRails := r :: s.boot.badRails }
    match r with
    | .vaon => .next (s.aonReset false)
    | .vbat => .next s.vbatLoss
    | .vsw => .next s
    | r =>
      if s.isOff then .next s
      else match r with
        | .vddSoc | .vio18 => .next (s.railReset 1)
        | .vddC | .vdd2 | .vddq => .next (s.railReset 13)
        | .vddF0 | .vanaF0 => .next (s.firnReset .f0)
        | .vddF1 | .vanaF1 => .next (if s.variant.hasF1 then s.firnReset .f1 else s)
        | .vddD => .next (if s.variant.hasDdie then s.ddieReset true else s)
        | _ => .next (if s.variant.hasDdie then s.ddieReset false else s)

/-- RESET_N held low for 10 µs (R110); in Off only the WAKE ball starts the module (R95). -/
def execResetNAssert (s : State) : Res := .next (if s.isOff then s else s.cdieReset 2)

/-- The system controller watchdog has run 2 s without service (R110). -/
def execSysctrlWatchdogExpiry (s : State) : Res := .next (if s.isOff then s else s.cdieReset 3)

/-- A write of RST_CTRL (R110): with KEY 0x9192 and CDIE_RESET 1 the C-die reset follows 10 µs later. -/
def execRstCtrlWrite (v : W32) (s : State) : Res :=
  .next (if bitsAt v.toNat 16 16 = 0x9192 && bitAt v.toNat 0 then s.setBoot { s.boot with resetDue := true } else s)

/-- The junction is at 125 °C (R110): the C-die is held in reset until it is below 105 °C. -/
def State.overtemp (s : State) : State :=
  let s := s.cdieReset 6
  s.setBoot { s.boot with hot := true }

/-- C_DIE_RESET (R108, R110, R111) for the source with this RST_CAUSE bit; one by RST_CTRL must have been scheduled. -/
def execCDieReset (cause : Nat) (s : State) : Res :=
  .next (if cause = 0 || 6 < cause || (cause = 4 && !s.boot.resetDue) || s.isOff then s else if cause = 6 then s.overtemp else s.cdieReset cause)

/-- C_DIE_OVERTEMP (R110). -/
def execCDieOvertemp (s : State) : Res := .next (if s.isOff then s else s.overtemp)

/-- OVERTEMP_RESET_RELEASE (R110). -/
def execOvertempResetRelease (s : State) : Res := .next (s.setBoot { s.boot with hot := false })

/-- FIRN_DIE_RESET (R108, R110). -/
def execFirnDieReset (d : Firn) (s : State) : Res := .next (if (d = .f1 && !s.variant.hasF1) || s.isOff then s else s.firnReset d)

/-- D_DIE_RESET (R108, R110, R123); in the standby of Deep sleep and Off the D-die has nothing to reset. -/
def execDDieReset (s : State) : Res :=
  .next (if s.variant.hasDdie && !s.isDown then (let s := s.ddieReset true; if s.railsGood .ddie then s.ddieRelease else s) else s)

/-- R112, R742: the endpoint of a port is reset: its registers, rings and vectors; what is in flight completes unseen. -/
def State.portReset (s : State) (p : Port) : State :=
  let h := s.host p
  let inflight := s.get Fld.HOST_STATUS__INFLIGHT p.num
  let s := s.resetRegs fun k =>
    ((k.reg == .HOST_CTRL || k.reg == .HOST_ERR || k.reg == .HOST_EVT_LOST || k.reg == .HOST_EVT_CFG || k.reg == .RING_SEL)
      && k.idx == p.num)
    || ((k.reg == .HOST_WIN_LO || k.reg == .HOST_WIN_HI || k.reg == .HOST_WIN_SIZE) && k.idx / 8 == p.num)
  let s := s.setHost p { epoch := h.epoch + 1, fetched := h.fetched, failedOver := h.failedOver }
  let s := (s.put Fld.HOST_STATUS__HELD p.num 0).put Fld.HOST_STATUS__INFLIGHT p.num inflight
  (s.drained p).endSeracSession p

/-- PERST (R110, R112, R119). -/
def execPerst (p : Port) (s : State) : Res :=
  if s.isOff then .next s
  else
    let s := s.portReset p
    let s := ((s.put Fld.HOST_STATUS__LINK_WIDTH p.num 0).put Fld.HOST_STATUS__LINK_SPEED p.num 0).put Fld.HOST_STATUS__LINK_STATE p.num 0
    .next (s.domainReset (10 + p.num))

/-- FUNCTION_LEVEL_RESET (R138): as PERSTn_N, but the link stays up; a host asks for it over its link. -/
def State.flReset (s : State) (p : Port) : State := ((s.portReset p).domainReset (10 + p.num)).domainReturned (10 + p.num)
def execFunctionLevelReset (p : Port) (s : State) : Res := .next (if s.isOff then s else s.flReset p)

/-- R119, R123: the endpoints train from stage 0x2 on, while the C-die runs. -/
def State.mayTrain (s : State) : Bool := s.dieRuns .cdie && decide (2 ≤ s.stage) && !s.isDown

/-- PCIE_LINK_CHANGE (R119, R176, R183, R614): the link of a port goes down, or returns to L0 with a width and speed. -/
def execPcieLinkChange (p : Port) (up : Bool) (width speed : Nat) (s : State) : Res :=
  if up && !s.mayTrain then .next s
  else
    -- R93: an L1 exit is the wake source of its port
    let s := if up && s.get Fld.HOST_STATUS__LINK_STATE p.num = 2 then s.wakeSource (3 + p.num) else s
    let s := ((s.put Fld.HOST_STATUS__LINK_WIDTH p.num (if up then width else 0)).put Fld.HOST_STATUS__LINK_SPEED p.num
      (if up then speed else 0)).put Fld.HOST_STATUS__LINK_STATE p.num (if up then 1 else 0)
    if up then .next ((s.maybeEndFailover p).domainReturned (10 + p.num))
    else .next (s.endSeracSession p)

/-- The boot meets with an error of R135. -/
def State.bootError (s : State) (code : Nat) (fatal : Bool) : State :=
  let s := s.put Fld.BOOT_STATUS__ERROR 0 code
  if fatal then s.put Fld.BOOT_STATUS__FATAL 0 1 else s

/-- A DEGRADED bit of BOOT_STATUS (R135), by its number in the register. -/
def State.degrade (s : State) (bit : Nat) : State :=
  s.put Fld.BOOT_STATUS__DEGRADED 0 (putBits (s.get Fld.BOOT_STATUS__DEGRADED 0) (bit - 8) 1 1)

/-- R135: the errors that stop the boot. -/
def bootFatal (code : Nat) : Bool :=
  code == 0x01 || code == 0x02 || code == 0x03 || code == 0x10 || code == 0x11 || code == 0x12 || code == 0x40

/-- R135: the DEGRADED bit of a non-fatal error. -/
def bootDegraded (code : Nat) : Option Nat :=
  if code = 0x20 then some 11 else if code = 0x21 then some 12 else if code = 0x22 then some 13
  else if code = 0x30 then some 8 else if code = 0x31 then some 9 else if code = 0x32 then some 10
  else if code = 0x41 then some 15 else if code = 0x50 then some 14 else none

/-- PLL_LOCK_TIMEOUT (R135): the boot stops at stage 0x2; CLK_STATUS shows which of the PLLs have locked. -/
def execPllLockTimeout (core mem serdes : Bool) (s : State) : Res :=
  .next (if s.stage = 2 then
      (((s.putB Fld.CLK_STATUS__CORE_PLL_LOCK 0 core).putB Fld.CLK_STATUS__MEM_PLL_LOCK 0 mem).putB Fld.CLK_STATUS__SERDES_PLL_LOCK 0 serdes).bootError 0x03 true
    else s)

/-- BOOT_MODE, and the port whose host memory a host boot reads (R116). -/
def State.bootMode (s : State) : Nat := s.get Fld.BOOT_STRAP__BOOT_MODE 0
def State.bootPort (s : State) : Port := if s.bootMode = 2 then .h1 else .h0

/-- R116, R118, R135: may the host start a fetch: up to FETCH under modes 0x1 to 0x3, after both slots have failed, and after a boot
flash that does not answer under mode 0x3 (log entry 173)? -/
def State.mayFetchImage (s : State) : Bool :=
  let e := s.get Fld.BOOT_STATUS__ERROR 0
  let stopped := s.flag Fld.BOOT_STATUS__FATAL 0
  (!stopped && decide (s.stage ≤ 3) && s.bootMode != 0) || (stopped && s.stage == 4 && (e == 0x11 || e == 0x12))

/-- BOOT_IMG_GO (R118): GO written in BOOT_IMG_LEN with a length; the system controller waits for it at FETCH. After errors 0x11 and 0x12
the fetch begins again (R135). -/
def execBootImgGo (v : W32) (s : State) : Res :=
  if s.flag Fld.BOOT_IMG_LEN__GO 0 || !s.mayFetchImage then .next s
  else
    let s := (s.put Fld.BOOT_IMG_LEN__LEN 0 (bitsAt v.toNat 0 25)).put Fld.BOOT_IMG_LEN__GO 0 1
    let s := s.setBoot { s.boot with fetching := true }
    .next (if s.flag Fld.BOOT_STATUS__FATAL 0 then (s.put Fld.BOOT_STATUS__FATAL 0 0).put Fld.BOOT_STATUS__STAGE 0 3 else s)

/-- Does the stage in progress wait for the host (R116, R118): for GO, or for the link and the DMA of the port that serves the image? Under
mode 0x3 it does once the boot flash has failed. -/
def State.waitsForImage (s : State) : Bool :=
  let e := s.get Fld.BOOT_STATUS__ERROR 0
  s.stage == 3 &&
    (if s.boot.fetching then !s.linkL0 s.bootPort || (s.host s.bootPort).holds
     else s.bootMode == 1 || s.bootMode == 2 || (s.bootMode == 3 && decide (0x10 ≤ e) && decide (e ≤ 0x12)))

/-- R505, R512: may stage 0x9 open the ledger: its keys are the same, and the root store is intact or the park record is the latest one?
A park record that verifies is the root store's new content. -/
def State.openLedger (s : State) (lost : Bool) : State × Bool :=
  let l := s.ledger
  let parked := match l.parkRecord with | some (c, _) => c + 1 == l.parks | none => false
  let ok := !lost && !s.rime.ledgerLost && (!l.rootLost || parked)
  let root := match l.rootLost, l.parkRecord with | true, some (_, r) => r | _, _ => l.root
  let s := (s.setLedger { l with root := root, rootLost := false }).setRime { s.rime with ledgerLost := false }
  (s.ledgerRecovery ok, ok)

/-- The error of a stage is recorded: the latest in ERROR, each in DEGRADED (R135). -/
def State.bootNote (s : State) (code : Nat) : State :=
  let s := s.bootError code false
  match bootDegraded code with | some b => s.degrade b | none => s

/-- R135, error 0x50: Run with no configuration: what the Firn dies hold of it stays, and every object is H0's (R175). -/
def State.dropConf (s : State) (item status : Nat) : State :=
  let c := s.cfg
  let s := { s with cfg := { points := c.points.map (fun (x : Nat × PointCfg) => (x.1, { x.2 with owner := .h0 })), chans := c.chans, pointEngines := c.pointEngines } }
  (s.bootNote 0x50).postBoth { code := 0x002, sev := 2, obj := item, data := status }

/-- What the work of a stage leaves when it ends (R115); `n` is the stage that ends. -/
def State.stageDone (s : State) (n : Nat) (codes : List Nat) (item status : Nat) (other : Bool) (img : List Byte) : State :=
  if n = 0 then
    -- R116: the straps are sampled; the D-die has sampled its own
    (s.put Fld.BOOT_STRAP__BOOT_MODE 0 (s.straps % 4)).put Fld.BOOT_STRAP__SNS_SEL_MODE 0 (s.get Fld.DRV_STATUS__SNS_SEL_MODE 0)
  else if n = 2 then
    let s := (((s.put Fld.CLK_STATUS__CORE_PLL_LOCK 0 1).put Fld.CLK_STATUS__MEM_PLL_LOCK 0 1).put Fld.CLK_STATUS__SERDES_PLL_LOCK 0 1).put Fld.CLK_STATUS__REFCLK_OK 0 1
    s.putB Fld.CLK_STATUS__AON_OSC_OK 0 (!s.power.oscFailed)
  else if n = 3 then s.put Fld.BOOT_IMG_LEN__GO 0 0
  else if n = 4 then
    let s := if s.boot.fetching then s.bootHost (padTo (s.get Fld.BOOT_IMG_LEN__LEN 0) img) else s.bootTrial other
    s.setBoot { s.boot with fetching := false }
  else if n = 5 then s.poolRefresh
  else if n = 7 then
    -- R113: device time comes back from its copy, at most 31 µs late
    if s.devTime = 0 then s
    else let (late, s) := s.drawBelow 32; { s with devTime := s.devTime - late }
  else if n = 8 then
    let s := if codes.contains 0x30 then s else s.trainLink .firn0
    let s := if codes.contains 0x31 then s else s.trainLink .firn1
    if codes.contains 0x32 then s else s.trainLink .driver
  else if n = 9 then
    let (s, ok) := s.rimeStart.openLedger (codes.contains 0x41)
    if ok then s else s.bootNote 0x41
  else if n = 0xA then
    let s := s.keyRestoration
    let s := if codes.contains 0x50 then s.dropConf item status
      else match s.configAtBoot with
        | (s, true) => s
        | (s, false) => s.dropConf 0 stImage
    s.bootNews
  else s

/-- STAGE 0xB is reached: firmware runs. BOOT_DONE, the retirements of the self-tests (R121), and what the Firn dies hold (R114). -/
def State.bootRun (s : State) : State :=
  let s : State := { s with gather := true, pins := { s.pins with hlc := true } }
  let d := s.get Fld.BOOT_STATUS__DEGRADED 0
  let s := s.postBoth { code := 0x001, sev := b2n (d != 0), data := d }
  let l := s.eng.unposted
  let s : State := { s with eng := { s.eng with unposted := [] } }
  let s := l.foldl (fun s n => s.postBoth { code := 0x901, sev := 2, obj := n, data := n % 256 * 256 + 6 }) s
  -- R753: what the other dies have held is ready together
  (((s.firnResend .f0).firnResend .f1).seracRelease.postWakePort).endGather

/-- BOOT_STAGE_ADVANCE (R115, R135): the work of the stage in progress ends; `codes`: the errors it met, in order. `item`, `status`: of a
configuration refused on load (0x50); `other`: at VERIFY, the slot marked active failed and the other one verified (R117); `img`: the
image that a host boot has read (R118). -/
def execBootStageAdvance (codes : List Nat) (item status : Nat) (other : Bool) (img : List Byte) (s : State) : Res :=
  let n := s.stage
  if s.boot.hot || !s.railsGood .cdie || s.flag Fld.BOOT_STATUS__FATAL 0 || 0xB ≤ n || s.isOff || s.waitsForImage then .next s
  else match codes.find? bootFatal with
    | some code =>
      let s := s.setBoot { s.boot with fetching := false }
      -- R116: under mode 0x3 the host may serve the image after the flash
      let s := if code = 2 then (s.put Fld.CLK_ERR__REFCLK_LOSS 0 1).put Fld.CLK_STATUS__REFCLK_OK 0 0 else s
      if 0x10 ≤ code && code ≤ 0x12 && s.bootMode = 3 then
        .next ((s.bootError code false).put Fld.BOOT_STATUS__STAGE 0 3)
      else .next (s.bootError code true)
    | none =>
      let s := (codes.filter fun c => c != 0x50 && c != 0x41).foldl (fun s c => s.bootNote c) s
      let s := (s.stageDone n codes item status other img).put Fld.BOOT_STATUS__STAGE 0 (n + 1)
      let s : State := if n + 1 = 9 then ({ s with pins := { s.pins with lpddr := true } } : State).put Fld.LEDGER_STATUS__STATE 0 2 else s
      .next (if n + 1 = 2 then s.startDie .cdie else if n + 1 = 0xB then s.bootRun else s)

/-- LINK_TRAINED (R114, R570, R750): a link leaves reset and trains. -/
def execLinkTrained (l : Link) (s : State) : Res := .next (s.trainLink l)

/-- INPUT_DEFINED (R125, R126, R128): an undetermined input takes a defined state; never an edge. A tamper input whose first
state is asserted records its tamper event. -/
def execInputDefined (i : Inp) (high : Bool) (s : State) : Res :=
  if s.input i ≠ .undet || !s.variant.hasInput i then .next s
  else match i with
    | .cover d => .next (s.tamperLevel d false high)
    | .magnet d => .next (s.tamperLevel d true high)
    | .seal d => .next (s.sealState d (if high then .high else .low))
    | .kyZc => .next ((s.setInput i (if high then .high else .low)).put Fld.KY_STATUS__ZC 0 (b2n high))
    | .lockFb n => .next ((s.setInput i (if high then .high else .low)).lockMirror n)
    | i => .next (s.setInput i (if high then .high else .low))

/-- R747: the OBJECT of INPUT_INDETERMINATE, for the inputs of the D-die that R127 names. -/
def indetObject : Inp → Option Nat
  | .aux n => some (0x4000 + n)
  | .lockFb n => some (0x5000 + n)
  | _ => none

/-- R127, R472, R483: the tamper event of an input that stays undetermined, with its source input. -/
def State.logIndeterminate (s : State) (d : Firn) (src : Nat) : State := s.tamper d 8 3 src []

/-- INPUT_INDETERMINATE (R127): an input undetermined for 10 ms is logged once per reset of its die. -/
def execInputIndeterminate (i : Inp) (s : State) : Res :=
  if s.input i ≠ .undet || s.boot.indet.contains i || !s.variant.hasInput i then .next s
  else
    let mark (s : State) : State := s.setBoot { s.boot with indet := i :: s.boot.indet }
    match i with
    | .cover d => .next ((mark s).logIndeterminate d 1)
    | .magnet d => .next ((mark s).logIndeterminate d 2)
    | .seal d => .next ((mark s).logIndeterminate d 3)
    | i => match indetObject i with
      | some o => .next (((mark s).logIndeterminate .f0 0xFF).postBoth { code := 0x007, sev := 1, obj := o })
      | none => .next s

end Sys2Proof.Machine
end

