-- ==== Sys2Proof/Machine/Activate.lean ====
section
/-!
DEFINITION. Machine/Activate.lean: activation by restart and the reverts of a trial (R720, R723, R724, R726).
-/
namespace Sys2Proof.Machine

/-- RESTART (R723): the staged image is tried after a C-die reset; the descriptor gets no completion (R111). -/
def execRestart (d : Desc) (s : State) : Res :=
  .next (s.activate d 2 fun t s =>
    match s.activateRefusal false (bitAt (DescF.par d 1 1) 0), s.slotWith roStaged with
    | none, some k =>
      let s := (s.setRole k roTrial).setRole (1 - k) roFallback
      (s.setUpd { s.upd with bootTrial := true, window := activateWindow d, oldMap := [], news := 0 }).cdieReset 4
    | some r, _ => s.fin t stCapacity r
    | none, none => s.fin t stCapacity 1)

/-- R726: a revert with its cause: a reverse handover while the old image is resident, otherwise by restart. -/
def State.revert (s : State) (cause : Nat) (t : Option Ticket) : State :=
  if s.upd.resident then (s.setUpd { s.upd with phase := 1, rev := true, cause := cause, actT := t }).updMirror
  else
    let s := s.revertSlots
    (s.setUpd { s.upd with news := cause, oldMap := [] }).cdieReset 4

/-- REVERT (R723, R726): the running trial ends with cause 0x5. -/
def execRevert (d : Desc) (s : State) : Res :=
  .next (s.activate d 4 fun t s =>
    if !s.onTrial then s.fin t stCapacity 6
    else if s.upd.phase ≠ 0 then s.fin t stDone
    else if s.activateBusy then s.fin t stCapacity 9
    else s.revert 5 (some t))

/-- R726: the window has ended without confirmation. -/
def State.windowOver (s : State) : State :=
  (s.setUpd { s.upd with trialOver := false }).revert (if !s.upd.resident && !s.upd.oldMap.isEmpty then 4 else 1) none

/-- TRIAL_WINDOW_EXPIRY (R724, R726): the window ends without confirmation; cause 0x4 where the old image has left its engines. A
configuration that is being applied comes first. -/
def execTrialWindowExpiry (s : State) : Res :=
  if !s.onTrial || s.upd.phase ≠ 0 then .next s
  else if s.upd.cfgDue.isEmpty then .next s.windowOver
  else .next (s.setUpd { s.upd with trialOver := true })

/-- CONFIG_TAKES_EFFECT (R736, R737): at a boundary the accepted configuration takes effect and CONFIG_LOAD completes; a window that has
ended meanwhile then reverts the trial. -/
def execConfigTakesEffect (s : State) : Res :=
  match s.upd.cfgDue with
  | [] => .next s
  | (t, c, id) :: r =>
    -- R79: at the first boundary at which the frequency that its FLOOR needs is in effect
    if s.inPause || !s.dieRuns .cdie || !s.pointMet (fselFloor c.tasks c.taskEngine) then .next s
    else
      let s := ((s.setUpd { s.upd with cfgDue := r }).applyConf c id).confDone t
      .next (if s.upd.trialOver && s.onTrial then s.windowOver else s)

end Sys2Proof.Machine
end

