-- ==== Sys2Proof/Machine/Repair.lean ====
section
/-!
DEFINITION. Machine/Repair.lean: retirement of engines, migration, return to service through probation (R257 to R279).
-/
namespace Sys2Proof.Machine

/-- An engine of this variant whose die runs. -/
def State.engLive (s : State) (n : Nat) : Bool :=
  decide (n < if s.variant.hasF1 then 256 else 192) && (match engDie n with | 0 => s.dieRuns .cdie | 1 => s.dieRuns .f0 | _ => s.dieRuns .f1)

def State.engState (s : State) (n : Nat) : Nat := s.engGet Fld.ENG_STATE__STATE n
def State.setEngState (s : State) (n v : Nat) : State := s.engPut Fld.ENG_STATE__STATE n v
/-- The domain of an engine under the configuration in force (R251). -/
def State.domOf (s : State) (n : Nat) : Nat := engDomain s.cfg.appClusters n

/-- R275: an ENGINE-class event: a Firn engine's comes through its die. -/
def State.postEng (s : State) (n : Nat) (e : Event) : State :=
  match engDie n with | 0 => s.postBoth e | 1 => s.firnPost .f0 none e | _ => s.firnPost .f1 none e

/-! ### Spares (R253, R265, R274) -/

def State.spares (s : State) (dom : Nat) : Nat := ((upTo 256).filter fun n => s.domOf n == dom && s.engState n == eSpare).length

/-- Is the spare reserve of a domain no longer there? -/
def State.spareShort (s : State) (dom : Nat) : Bool :=
  match dom with
  | 0 => decide (s.spares 0 < 2) || decide (s.spares 0 + s.spares 1 < 4)
  | 1 => !s.cfg.appClusters.isEmpty && decide (s.spares 1 < 1)
  | d => decide (s.spares d < 2)

/-- SPARES_LOW for each domain whose reserve `before` still had. -/
def State.sparesLow (before s : State) : State :=
  [0, 1, 2, 3].foldl (fun s dom =>
    if !before.spareShort dom && s.spareShort dom then
      s.postEng (if dom < 2 then 0 else 64 * dom) { code := 0x904, sev := 1, obj := dom, data := s.spares dom }
    else s) s

/-- R265: the lowest-numbered SPARE in the same cluster, else in the same domain. -/
def State.replacement (s : State) (n : Nat) : Option Nat :=
  let ok (m : Nat) : Bool := m != n && s.domOf m == s.domOf n && s.engState m == eSpare
  match (upTo 256).find? fun m => m / 8 == n / 8 && ok m with
  | some m => some m
  | none => (upTo 256).find? ok

/-- The utilisation of an engine at the highest operating point (R270). -/
def State.utilTop (s : State) (n : Nat) : Frac := utilAt s.cfg.tasks s.cfg.taskEngine 0 n

/-- R270: the ACTIVE engine of the domain with the lowest utilisation, if the moved densities bring it to no more than 0.95. -/
def State.crowded (s : State) (n : Nat) : Option Nat :=
  let on := (upTo 256).filter fun m => m != n && s.domOf m == s.domOf n && s.engState m == eActive && s.counted m
  let best := on.foldl (fun (b : Option Nat) m => match b with
    | none => some m
    | some k => if (s.utilTop k).le (s.utilTop m) then some k else some m) none
  best.filter fun m => ((s.utilTop m).add (s.utilTop n)).le (19, 20)

/-! ### Metering points (R262 to R268) -/

/-- R266: what a replacement resumes a point from: its newer valid checkpoint, never one older than the last commit. -/
def MpSt.newest (m : MpSt) : Option Ckpt :=
  (m.ck.toList ++ m.ckOld.toList ++ m.commit.toList).foldl (fun (b : Option Ckpt) k => match b with
    | none => some k
    | some x => if x.lastIdx < k.lastIdx then some k else some x) none

/-- The point goes back to what it resumes from; the answer is its LAST_INDEX and PEAK. What came later is applied again by
the commands of the replay, each index once. Registers that are final stay. -/
def State.resumePoint (s : State) (p : Nat) : State × Nat × List (Nat × Nat) :=
  let m := s.mp p
  let running := s.mpState p = mpMetering || ((s.mpState p = mpFrozen || s.mpState p = mpOos) && !m.final)
  match m.newest with
  | some k =>
    if running then
      let fl := { k.flow with par := m.flow.par, hash := m.flow.hash, trim := k.trim, outside := m.flow.outside, outsideRun := m.flow.outsideRun,
                              outsidePosted := m.flow.outsidePosted }
      ((s.setMp p { m with tot := k.tot, ses := if k.startIdx = m.startIdx then k.ses else [], dm := k.dm, peak := k.peak, ck := some k,
                           tail := m.tail.filter (fun x => decide (x.1 ≤ k.lastIdx)), flow := fl, cyc := k.cyc, vmask := k.rot.1, vgood := k.rot.2.1,
                           seqDir := k.rot.2.2.1, seqRun := k.rot.2.2.2 }).putB Fld.MP_STATE__FIXED p k.fixed, k.lastIdx, k.peak)
    else (s, k.lastIdx, k.peak)
  | none =>
    if running then (s.setMp p { m with tot := m.entry, ses := [], tail := [] }, m.meterIdx - 1, [])
    else (s, (s.firn (s.pcfg p).die).m, [])

def State.resumeAll (s : State) (ps : List Nat) : State × List (Nat × Nat) × List (Nat × List (Nat × Nat)) :=
  ps.foldl (fun (x : State × List (Nat × Nat) × List (Nat × List (Nat × Nat))) p =>
    let r := x.1.resumePoint p
    (r.1, x.2.1 ++ [(p, r.2.1)], x.2.2 ++ [(p, r.2.2)])) (s, [], [])

/-- An engine starts to make up the backlog of points; a migration that stood on it goes on. -/
def State.beginReplay (s : State) (n old : Nat) (ps : List Nat) : State :=
  let (s, l, pk) := s.resumeAll ps
  let g : Migr := (tabFind s.eng.migr n).getD { old := old }
  { s with eng := { s.eng with migr := tabSet s.eng.migr n { old := old, points := g.points.filter (fun x => !ps.contains x.1) ++ l,
                                                             peaks := g.peaks.filter (fun x => !ps.contains x.1) ++ pk } } }

/-- R267: a migrated point's replacement has caught up; what the ring no longer held when it read its first entry `first` is lost. -/
def State.replayed (s : State) (first : Nat) (peaks : List (Nat × List (Nat × Nat))) (x : Nat × Nat) : State :=
  let c := s.pcfg x.1
  -- R261: edge records that were lost
  let edges := (c.pulse.toList.flatMap fun i => [2 * i, 2 * i + 1]).foldl (fun a k => max a (tabGet 0 (s.firn c.die).edgeLost k)) 0
  let lost := max (first - 1280 - x.2) (edges - x.2)
  (s.loseSamples x.1 1 lost 16 (tabGet [] peaks x.1)).postPt x.1 { code := 0x902, sev := b2n (lost != 0), obj := x.1, data := min lost 0xFFFF }

/-- REPLAY_COMPLETE (R267 to R269): `first`: the current sample index when the replacement `n` read its first ring entry. -/
def execReplayComplete (n first : Nat) (s : State) : Res :=
  match tabFind s.eng.migr n with
  | none => .next s
  | some g =>
    if !s.engLive n then .next s
    else
      let s : State := { s with eng := { s.eng with migr := tabErase s.eng.migr n } }
      let s := if s.engState n = eLoading then s.setEngState n eActive else s
      .next (g.points.foldl (fun s x => s.replayed first g.peaks x) s).poolRefresh

/-! ### Retirement (R257, R258, R265 to R272) -/

/-- R270: a metering point that no engine has room for ends at its checkpoint and goes OUT_OF_SERVICE. -/
def State.unplacePoint (s : State) (p : Nat) : State :=
  let (s, c, _) := s.resumePoint p
  (s.pointOos p 4 (c + 1)).postPt p { code := 0x905, sev := 2, obj := p }

/-- R271: a C-die task moves: a released job is lost and counts as a deadline miss of the replacement. -/
def State.taskMoved (s : State) (r : Nat) (jobs : List (Nat × Nat)) (item : Nat) : State :=
  let lost := jobs.any (·.1 == item)
  let s := if lost then s.engBump Fld.ENG_DLMISS__MISS r else s
  s.postBoth { code := 0x903, sev := 0, obj := item % 65536, data := b2n lost }

/-- The work of a retired engine goes to another one: its tasks, its points, and its channel slots (R272). -/
def State.moveWork (s : State) (n r : Nat) (jobs : List (Nat × Nat)) : State :=
  let items := (s.cfg.taskEngine.filter (·.2 == n)).map (·.1)
  let moved (x : Nat) : Nat := if x = n then r else x
  let points := ((s.cfg.pointEngines.filter (·.1 == n)).map (·.2)).eraseDups
  let s : State := { s with
    cfg := { s.cfg with taskEngine := s.cfg.taskEngine.map (fun x => (x.1, moved x.2)), pointEngines := s.cfg.pointEngines.map (fun x => (moved x.1, x.2)) },
    eng := { s.eng with stand := tabSet (s.eng.stand.map fun x => (x.1, moved x.2)) n r } }
  let s := (s.engPut Fld.ENG_STATE__TASKS n 0).engPut Fld.ENG_STATE__TASKS r ((s.cfg.taskEngine.filter (·.2 == r)).length)
  if n < 128 then items.foldl (fun s i => s.taskMoved r jobs i) s
  else
    -- R274: what a failing replacement had not made up is resumed from the same checkpoint
    let g : Migr := (tabFind s.eng.migr n).getD { old := n }
    let s : State := { s with eng := { s.eng with migr := tabErase s.eng.migr n } }
    let s := s.beginReplay r n (points.filter fun p => !g.points.any (·.1 == p))
    let h : Migr := (tabFind s.eng.migr r).getD { old := n }
    let s := g.points.foldl (fun s x => (s.resumePoint x.1).1) s
    { s with eng := { s.eng with migr := tabSet s.eng.migr r { h with points := h.points ++ g.points, peaks := h.peaks ++ g.peaks } } }

/-- R270: no engine takes the work over. -/
def State.unplace (s : State) (n : Nat) : State :=
  let items := (s.cfg.taskEngine.filter (·.2 == n)).map (·.1)
  match s.domOf n with
  | 0 => if items.isEmpty then s else s.cdieReset 3
  | 1 =>
    let s : State := { s with eng := { s.eng with suspended := s.eng.suspended ++ items } }
    items.foldl (fun s i => s.postBoth { code := 0x905, sev := 2, obj := i % 65536, data := 1 }) s
  | _ =>
    let s : State := { s with eng := { s.eng with migr := tabErase s.eng.migr n } }
    (((s.cfg.pointEngines.filter (·.1 == n)).map (·.2)).eraseDups).foldl (fun s p => s.unplacePoint p) s

/-- What a retirement means for a handover or a trial (R274, R726, R732). -/
def State.retireUpdate (s : State) (n cause was : Nat) : State :=
  if 128 ≤ n || s.domOf n ≠ 0 then s
  else if s.upd.phase ≠ 0 then
    if s.upd.rev then ((s.setUpd { s.upd with resident := false }).revert s.upd.cause none) else s.abortHandover
  else if s.onTrial then
    if s.residents.contains n then (s.setUpd { s.upd with resident := false }).setResident (s.residents.filter (· != n))
    else if (was = eActive || was = eLoading) && (cause = 1 || cause = 3) then s.revert 2 none
    else s
  else s

/-- An engine is retired with a cause: it is fenced and its store buffer discarded; its work moves; the events follow. -/
def State.retire (s : State) (n cause : Nat) : State :=
  let was := s.engState n
  if was = eRetired then s
  else
    let before := s
    let busy := was = eActive || was = eLoading
    let held := (s.core n).job.toList ++ (s.core n).jobs
    let count := min 15 (s.engGet Fld.ENG_HEALTH__RETIRE_COUNT n + 1)
    let s := s.setCore n {}
    let s := ((s.setEngState n eRetired).engPut Fld.ENG_HEALTH__RETIRE_COUNT n count).engPut Fld.ENG_HEALTH__LAST_CAUSE n cause
    let s := (s.engPut Fld.ENG_HEALTH__PERMANENT n (b2n (decide (3 ≤ count) || cause == 6))).engPut Fld.ENG_HEALTH__PROGRESS n 0
    let aborts := decide (n < 128) && s.domOf n == 0 && s.upd.phase != 0 && !s.upd.rev
    let s := if aborts then s.abortHandover else s
    let carries := busy && (s.cfg.taskEngine.any (·.2 == n) || s.cfg.pointEngines.any (·.1 == n))
    let spare := if carries then s.replacement n else none
    let dest := if carries then spare.orElse (fun _ => s.crowded n) else none
    let s := if n < 128 && cause = 6 && s.stage ≠ 0xB then { s with eng := { s.eng with unposted := s.eng.unposted ++ [n] } }
      else s.postEng n { code := 0x901, sev := 2, obj := n, data := (dest.getD n) % 256 * 256 + cause % 256 }
    let s := (match dest with
      | some r =>
        let s := if spare.isSome then s.setEngState r (if r < 128 then eActive else eLoading) else s
        let s := s.moveWork n r held
        if spare.isNone && r < 128 then (s.put Fld.PWR_DVFS__FLOOR 0 0).raisePoint 0 else s
      | none => s)
    let s := if was = eProbation then s.postEng n { code := 0x908, sev := 1, obj := n, data := 3 } else s
    let s := if 3 ≤ count then s.postEng n { code := 0x908, sev := 1, obj := n, data := 4 } else s
    let s := (before.sparesLow s).poolRefresh
    let s := if carries && dest.isNone then s.unplace n else s
    s.retireUpdate n cause was

/-- HEARTBEAT_MISSED (R257): the heartbeat of an engine was not renewed at two consecutive boundaries. -/
def execHeartbeatMissed (n : Nat) (s : State) : Res :=
  .next (if s.engLive n && s.engState n ≠ eHalted then s.retire n 1 else s)

/-- ENGINE_MEMORY_ECC_ERROR (R257). -/
def execEngineMemoryEccError (n : Nat) (s : State) : Res :=
  .next (if s.engLive n && s.engState n ≠ eHalted then s.retire n 2 else s)

/-- ENGINE_UNEXPECTED_TRAP (R257). -/
def execEngineUnexpectedTrap (n : Nat) (s : State) : Res :=
  .next (if s.engLive n && s.engState n ≠ eHalted then s.retire n 3 else s)

/-- SCRATCHPAD_ECC_ERROR (R214, R259): in the scratchpad of cluster `k`. A single-bit error is corrected and counted; a double-bit error
in the access of engine `n` at `a` is a load access fault, and its work restarts in place from the last checkpoint. -/
def execScratchpadEccError (k : Nat) (double : Option (Nat × W32)) (s : State) : Res :=
  match double with
  | none => .next (if k < 16 then s.bump Fld.SPAD_ECC__CORRECTED k 1 else s.bump Fld.FSPAD_ECC__CORRECTED (k - 16) 1)
  | some (n, a) =>
    if !s.engLive n || s.engState n = eRetired || s.engState n = eHalted then .next s
    else
      let e := s.core n
      let s := s.trap n 5 a
      if n < 128 then
        let s := s.setCore n { s.core n with job := none, jobs := e.jobs }
        .next (match e.job with | some _ => (s.engBump Fld.ENG_DLMISS__MISS n).nextJob n | none => s)
      else
        let points := ((s.cfg.pointEngines.filter (·.1 == n)).map (·.2)).eraseDups
        .next (if points.isEmpty then s else s.beginReplay n n points)

/-- A probation engine's output differs from the live engine's (R277): it is RETIRED again. -/
def State.probationFailed (s : State) (n : Nat) : State :=
  let s : State := { s with eng := { s.eng with prob := tabErase s.eng.prob n } }
  let count := min 15 (s.engGet Fld.ENG_HEALTH__RETIRE_COUNT n + 1)
  let s := s.engPut Fld.ENG_HEALTH__PROGRESS n 0
  let s := ((s.setEngState n eRetired).engPut Fld.ENG_HEALTH__RETIRE_COUNT n count).engPut Fld.ENG_HEALTH__PERMANENT n (b2n (decide (3 ≤ count)))
  let s := (s.setCore n {}).poolRefresh.postEng n { code := 0x908, sev := 1, obj := n, data := 2 }
  if 3 ≤ count then s.postEng n { code := 0x908, sev := 1, obj := n, data := 4 } else s

/-- CHECKPOINT (R262, R263, R257, R277): at the index `idx`. `est`: the engine whose interval differs by more than 0.5 % from the supervisor's
estimate: it is retired, and the interval's checkpoint is not valid (log entry 192). `shadow`: an engine in probation whose checkpoint
differs from the live one. -/
def execCheckpoint (p idx : Nat) (est shadow : Option Nat) (s : State) : Res :=
  if (s.pcfg p).commodity = 0 || !s.firnLive (s.pcfg p).die then .next s
  else
    let s := match shadow with
      | some n => if s.engLive n && s.engState n = eProbation && engDie n = 1 + (s.pcfg p).die.num then s.probationFailed n else s
      | none => s
    match est with
    | some n => .next (if s.engLive n && s.cfg.pointEngines.contains (n, p) then s.retire n 4 else s.checkpoint p idx)
    | none => .next (s.checkpoint p idx)

/-! ### Self-tests and probation (R121, R276 to R278) -/

/-- The engine that one in probation shadows (R277): the lowest-numbered ACTIVE engine of a Firn die; on the C-die that of the
lowest-numbered task of its domain. -/
def State.shadowOf (s : State) (n : Nat) : Option Nat :=
  if 128 ≤ n then (upTo 256).find? fun m => engDie m == engDie n && s.engState m == eActive
  else
    let on := s.cfg.taskEngine.filter fun x => s.domOf x.2 == s.domOf n && s.engState x.2 == eActive
    (on.foldl (fun (b : Option (Nat × Nat)) x => match b with
      | none => some x
      | some y => if x.1 < y.1 then some x else some y) none).map (·.2)

/-- A self-test of a retired engine passes: PROBATION. Which engine PROBATION_START names where none is shadowed is open. -/
def State.probation (s : State) (n : Nat) : State :=
  let (m, s) : Nat × State := match s.shadowOf n with
    | some m => (m, s)
    | none => s.drawBelow 256
  let s := ((s.setEngState n eProbation).engPut Fld.ENG_HEALTH__SHADOW n m).engPut Fld.ENG_HEALTH__PROGRESS n 0
  let s : State := { s with eng := { s.eng with prob := tabSet s.eng.prob n s.time } }
  s.poolRefresh.postEng n { code := 0x906, sev := 0, obj := n, data := m }

/-- A retired engine's self-test ends: it never leads to SPARE or ACTIVE. -/
def State.retiredTest (s : State) (n : Nat) (pass : Bool) : State :=
  if s.engState n ≠ eRetired || s.engGet Fld.ENG_HEALTH__PERMANENT n ≠ 0 then s
  else if pass then s.probation n
  else s.postEng n { code := 0x908, sev := 1, obj := n, data := 1 }

/-- ENGINE_SELF_TEST_DONE (R121, R276): the test at the die's reset, or the one at retirement. -/
def execEngineSelfTestDone (n : Nat) (pass : Bool) (s : State) : Res :=
  if !s.engLive n then .next s
  else if s.engState n = eHalted && (if n < 128 then s.stage != 5 else (s.firn (if n < 192 then .f0 else .f1)).runs) then .next s
  else if s.engState n = eHalted then .next (if pass then (s.setEngState n eSpare).poolRefresh else s.retire n 6)
  else .next (s.retiredTest n pass)

/-- RETIRED_SELF_TEST (R276): every 60 min. -/
def execRetiredSelfTest (n : Nat) (pass : Bool) (s : State) : Res :=
  .next (if s.engLive n then s.retiredTest n pass else s)

/-- SPARE_SELF_TEST (R257): every 60 s. -/
def execSpareSelfTest (n : Nat) (pass : Bool) (s : State) : Res :=
  .next (if s.engLive n && s.engState n = eSpare && !pass then s.retire n 5 else s)

/-- PROBATION_COMPLETE (R277): the shadowing ends clean, or with an output that differs. -/
def execProbationComplete (n : Nat) (clean : Bool) (s : State) : Res :=
  if !s.engLive n || s.engState n ≠ eProbation then .next s
  else if !clean then .next (s.probationFailed n)
  else
    let s : State := { s with eng := { s.eng with prob := tabErase s.eng.prob n } }
    let s := s.engPut Fld.ENG_HEALTH__PROGRESS n 0
    .next ((s.setEngState n eSpare).poolRefresh.postEng n { code := 0x907, sev := 0, obj := n })

/-- The share of its probation an engine has behind it, in percent: 3.2 s on the C-die, 100,000 samples on a Firn die. -/
def State.probationTick (s : State) : State :=
  s.eng.prob.foldl (fun s x =>
    if s.engState x.1 = eProbation then
      s.engPut Fld.ENG_HEALTH__PROGRESS x.1 (min 100 ((s.time - x.2) * 100 / (if x.1 < 128 then 3200000 else 3146600)))
    else s) s

/-- R270: the tasks that one retired engine left suspended go to an engine of the partition that has become SPARE. -/
def State.resumeOn (s : State) (n : Nat) : State :=
  match s.eng.suspended with
  | [] => s
  | i :: _ =>
    let old := tabFind s.cfg.taskEngine i
    let mine := s.eng.suspended.filter fun j => tabFind s.cfg.taskEngine j == old
    let s : State := { s with
      cfg := { s.cfg with taskEngine := s.cfg.taskEngine.map fun x => if mine.contains x.1 then (x.1, n) else x },
      eng := { s.eng with suspended := s.eng.suspended.filter (fun j => !mine.contains j),
                          lastRelease := s.eng.lastRelease.filter fun x => !mine.contains x.1 } }
    ((s.setEngState n eActive).engPut Fld.ENG_STATE__TASKS n mine.length).poolRefresh

def State.resumeTasks (s : State) : State :=
  ((upTo 128).filter fun n => s.domOf n == 1 && s.engState n == eSpare).foldl (fun s n => s.resumeOn n) s

end Sys2Proof.Machine
end

