-- ==== Sys2Proof/Machine/Operands.lean ====
section
/-!
DEFINITION. Machine/Operands.lean: what an address operand names (R20, R141, R189, R362, R405, R455, R482): registers with their index, and the
slots of mailbox channels. The operands of descriptors are in Machine/Descriptor.lean.
-/
namespace Sys2Proof.Machine

/-! ### Addresses -/

/-- The die whose window holds an address, and the address as FIRN0's window has it (R455). -/
def firnWindow (a : Nat) : Option (Firn × Nat) :=
  if 0x300000 ≤ a && a < 0x340000 then some (.f0, a)
  else if 0x340000 ≤ a && a < 0x380000 then some (.f1, a - 0x40000) else none

/-- Registers of a die that stand in blocks of several registers: the index at an offset from the first, with `k` blocks of `size`
bytes and `w` words of each. -/
def blockIndex (off k size w : Nat) : Option Nat :=
  if off / size < k && off % size < 4 * w then some (off / size * w + off % size / 4) else none

/-- The index of a Firn register at an address of a die's window (as FIRN0's window has it). Point and pulse-input blocks stand
in the window of the die that owns them (R362, R405); the display's in FIRN0's. -/
def State.firnIndex (s : State) (d : Firn) (r : Reg) (a : Nat) : Option Nat :=
  let i := r.info
  if a < i.base then none
  else match r with
    | .PTO_QPP => (blockIndex (a - i.base) 8 0x10 2).map (· + 16 * d.num)
    | .TAMPER_FIRST | .TAMPER_LAST => (blockIndex (a - i.base) 9 0x20 2).map (· + 18 * d.num)
    | .FSPAD_CONF => (blockIndex (a - i.base) 8 0x40 9).map (· + 72 * d.num)
    | .TAMPER_STATE => if a < i.base + 0x40 then (i.indexOf a).map (· + 9 * d.num) else none
    | .DISP_STATUS | .DISP_CFG | .DISP_CRC => if d = .f0 then i.indexOf a else none
    | .PI_CFG | .PI_CORR | .PI_EDGES | .PI_MISS | .PI_SPUR =>
      (i.indexOf a).filter fun k => s.inputDie (if i.inner = 2 then k / 2 else k) == some d
    | _ =>
      if i.s1 = 0x100 then (i.indexOf a).filter fun k => s.ownsPoint d (k / i.inner)
      else (i.indexOf a).bind fun k => if k < i.inner then some (k + i.inner * d.num) else none

/-- The register at a word address, with its index. -/
def State.regAt (s : State) (w : Accessor) (a : Nat) : Option (Reg × Nat) :=
  match firnWindow a with
  | some (d, x) => Reg.all.findSome? fun r => if r.info.dom == .firn then (s.firnIndex d r x).map fun i => (r, i) else none
  | none => Reg.all.findSome? fun r =>
    if r.info.dom == .firn then none
    else if r = .MBX_ERR || r = .SPAD_APER then (if a = r.info.base then some (r, w.num) else none)
    else (r.info.indexOf a).map fun i => (r, i)

/-- The mailbox channel whose BAR0 slot holds an address, and the offset in the slot (R189). -/
def slotAt (a : Nat) : Option (Chan × Nat) :=
  let four (base : Nat) (c : Nat → Chan) : Option (Chan × Nat) :=
    if base ≤ a && a < base + 0x800 then some (c ((a - base) / 0x200), (a - base) % 0x200) else none
  let side (k : Nat) (f g : Port → Chan) : Chan := match k with | 0 => f .h0 | 1 => f .h1 | 2 => g .h0 | _ => g .h1
  if 0xC0000 ≤ a && a < 0x100000 then
    let n := (a - 0xC0000) / 0x800
    four (0xC0000 + 0x800 * n) fun k => side k (.hostEng · n) (.engHost · n)
  else
    ((four 0x81000 fun k => side k .hostFw .fwHost).or (four 0x330000 fun k => side k (.hostFirn · .f0) (.firnHost · .f0))).or
      ((four 0x370000 fun k => side k (.hostFirn · .f1) (.firnHost · .f1)).or (four 0x480000 fun k => side k .hostSerac .seracHost))

end Sys2Proof.Machine
end

