-- ==== Sys2Proof/Machine/Flags.lean ====
section
/-!
DEFINITION. Machine/Flags.lean: the flags that summarise sticky bits (R745): SYS_ERR_SUMMARY and SYS_MPU_MAP.
-/
namespace Sys2Proof.Machine

/-- R745: the summary as its reader sees it. -/
def State.errSummary (s : State) (w : Accessor) : W32 :=
  let any (r : Reg) (i mask : Nat) : Bool := ((s.reg r i).toNat &&& mask) != 0
  let mpu := (upTo 128).any fun n => any .ENG_MPU_FAULT n 3
  let own : Bool := match w with | .host p => s.reg .HOST_ERR p.num != 0 | .firmware => false
  let other : Bool := match w with
    | .host p => s.reg .HOST_ERR p.other.num != 0
    | .firmware => s.reg .HOST_ERR 0 != 0 || s.reg .HOST_ERR 1 != 0
  let bits : List Bool := [any .CLK_ERR 0 0x3E, any .PWR_DVFS_ERR 0 1, any .RST_CAUSE 0 0x1FFE, any .FAB_XERR 0 7, own, other,
    any .MBX_ERR w.num 7, any .SPAD_APER w.num 0x100, mpu, any .LEDGER_ERR 0 0x7F, any .DRV_ERR 0 0x1F, any .KY_ERR 0 0xF, any .KEY_ERR 0 0xF,
    any .KEY_TAMPER 0 0x1F, any .UPD_ERR 0 0x1F]
  BitVec.ofNat 32 ((bits.zipIdx.map fun b => b2n b.1 * 2 ^ b.2).sum)

def State.mpuMap (s : State) (m : Nat) : W32 :=
  BitVec.ofNat 32 (((upTo 32).map fun i => b2n (((s.reg .ENG_MPU_FAULT (32 * m + i)).toNat &&& 3) != 0) * 2 ^ i).sum)

end Sys2Proof.Machine
end

