-- ==== Sys2Proof/Machine/Access.lean ====
section
/-!
DEFINITION. Machine/Access.lean: accesses (R11, R20 to R26, R119, R129 to R131, R136, R137, R141, R142, R155): reads and writes of BAR0's
registers, of a port's kick page in BAR2 and of its configuration space, and the scratchpad aperture (R215). An address names BAR0 below
2²⁴, BAR2 from there on, configuration space from 2²⁵ on (log entry 163).
-/
namespace Sys2Proof.Machine

/-! ### What an access meets -/

/-- R11: does an address lie in an absent unit? The governor's registers are present on every variant. -/
def State.absentAt (s : State) (a : Nat) : Bool :=
  (!s.variant.hasF1 && decide (0x340000 ≤ a) && decide (a < 0x380000))
  || (!s.variant.hasDdie && decide (0x400000 ≤ a) && decide (a < 0x500000) && !(decide (0x420000 ≤ a) && decide (a < 0x422000)))
  || (!s.variant.hasKyoti && decide (0x500000 ≤ a) && decide (a < 0x580000))
  || (!s.variant.hasReader && decide (0x580000 ≤ a) && decide (a < 0x600000))

/-- The crossing that an access to an address passes (R134). -/
def xidAt (a : Nat) : Nat :=
  if 0x40000 ≤ a && a < 0x50000 then 1 else if 0x50000 ≤ a && a < 0x60000 then 2
  else if 0x18000 ≤ a && a < 0x20000 then 0xC else if a < 0x40000 then 7
  else if 0x200000 ≤ a && a < 0x300000 then 3
  else if 0x300000 ≤ a && a < 0x340000 then 4 else if 0x340000 ≤ a && a < 0x380000 then 5
  else if 0x400000 ≤ a && a < 0x480000 then 6 else if 0x480000 ≤ a && a < 0x500000 then 0xB
  else if 0x500000 ≤ a && a < 0x580000 then 9 else if 0x580000 ≤ a && a < 0x600000 then 0xA
  else if 0x600000 ≤ a && a < 0x680000 then 8 else 0

/-- R141: does some register, mailbox slot, MSI-X word or aperture stand at an address? -/
def State.definedAt (s : State) (w : Accessor) (a : Nat) : Bool :=
  (slotAt a).isSome || (s.regAt w a).isSome || (decide (0x1C0000 ≤ a) && decide (a < 0x200000))
  || ((decide (0x48000 ≤ a) && decide (a < 0x50000)) || (decide (0x58000 ≤ a) && decide (a < 0x60000)))

/-- R119, R129: an access to a domain that is off: any block but SYS, PWR and CLK, RST and BOOT for a host before stage 0xB, and the
D-die's own registers while the D-die or its link is down. An offset that R141 leaves undefined is no access to a domain. -/
def State.offAt (s : State) (w : Accessor) (a : Nat) : Bool :=
  ((w != .firmware && s.stage != 0xB && decide (0x40000 ≤ a))
  || (decide (0x400000 ≤ a) && decide (a < 0x410000) && !(s.dieRuns .ddie && s.linkUp .driver))) && s.definedAt w a

/-- Carry out an access at a word address where one is served: nothing runs while the C-die is stopped; an absent unit ignores it. -/
def State.served (s : State) (w : Accessor) (a : Nat) (k : State → State) : State :=
  if !s.dieRuns .cdie || s.absentAt a then s
  else if s.offAt w a then s.crossingFailed w.initCode (xidAt a) a true
  else k (s.touched (w != .firmware) a)

/-! ### Reading (R23, R25) -/

/-- R188, R322, R455, R482, R551, R581, R667, R688: does a control-cycle boundary refresh a register? What the quantity is now stands in
`regs`, what the register shows in `mirror` (log entry 27). -/
def mirrored (r : Reg) : Bool :=
  match r with
  | .REF_DEV => false
  | .ETH_STATUS | .ETH_OFFSET | .ETH_PATH | .ETH_RX_FRAMES | .ETH_RX_DROPPED | .ETH_TX_FRAMES | .ETH_PTP_RX => true
  | .GOV_BUDGET | .GOV_SITE_BUDGET => false
  | r =>
    let a := r.info.base
    r.info.dom == .firn || (decide (0x410000 ≤ a) && decide (a < 0x450000))
    || (decide (0x500010 ≤ a) && decide (a < 0x600000) && r.info.w1c == 0)

/-- The value that a register shows, and the registers as the present boundary leaves them. -/
def State.seenReg (s : State) (r : Reg) (i : Nat) : W32 :=
  if mirrored r then tabGet (BitVec.ofNat 32 r.info.reset) s.mirror ⟨r, i⟩ else s.reg r i
def State.refresh (s : State) : State := { s with mirror := s.regs.filter fun x => mirrored x.1.reg }

/-- R44, R287: the pulse inputs enter through the D-die: their registers read 0 without one (R11). -/
def piReg : Reg → Bool
  | .PI_CFG | .PI_CORR | .PI_EDGES | .PI_MISS | .PI_SPUR => true
  | _ => false

/-- What a register shows: its value, but for those that show a ring, the units present, or other registers. -/
def State.shown (s : State) (w : Accessor) (r : Reg) (i : Nat) : W32 :=
  let ring (p : Port) : Ring := s.ring p (s.selCq p) (s.selIdx p)
  let port : Port := if i = 0 then .h0 else .h1
  if piReg r && !s.variant.hasDdie then 0
  else match r with
  | .SYS_REV => BitVec.ofNat 32 s.stepping
  | .ETH_MAC_LO => BitVec.ofNat 32 (s.ethMac i)
  | .ETH_MAC_HI => BitVec.ofNat 32 (s.ethMac i / 2 ^ 32)
  | .SYS_UNIT_PRESENT => s.variant.unitPresent
  | .SYS_ERR_SUMMARY => s.errSummary w
  | .SYS_MPU_MAP => s.mpuMap i
  | .RING_BASE_LO => BitVec.ofNat 32 (ring port).base
  | .RING_BASE_HI => BitVec.ofNat 32 ((ring port).base / 2 ^ 32)
  | .RING_DB_LO => BitVec.ofNat 32 (ring port).record
  | .RING_DB_HI => BitVec.ofNat 32 ((ring port).record / 2 ^ 32)
  | .RING_CFG => BitVec.ofNat 32 (ring port).cfg
  | .RING_STATUS => BitVec.ofNat 32 ((ring port).idx % 65536 * 65536 + (ring port).err * 256 + (ring port).state)
  | .PI_CFG =>
    let lv (i : Inp) : Nat := match s.input i with | .low => 0 | .high => 1 | .undet => 2
    let v := putBits (putBits (s.seenReg r i).toNat 2 2 (lv (.pulseA i))) 4 2 (lv (.pulseB i))
    BitVec.ofNat 32 (putBits v 20 4 (match s.piPoint i with | some p => parByte (s.mp p).flow.par 4 | none => 0))
  | .FP_STATUS =>
    let b := (s.mp i).flow.par
    if pointFlow (s.pcfg i) then BitVec.ofNat 32 (putBits (putBits (s.seenReg r i).toNat 16 4 (parByte b 4)) 20 4 (parByte b 3)) else 0
  | _ => s.seenReg r i

/-- An MSI-X table word, or one of the pending-bit array (R171). -/
def State.msixWord (s : State) (p : Port) (off : Nat) : W32 :=
  let v : Vec := tabGet {} (s.host p).msix (off / 16)
  if off < 0x400 then (match off % 16 / 4 with
    | 0 => BitVec.ofNat 32 v.addr
    | 1 => BitVec.ofNat 32 (v.addr / 2 ^ 32)
    | 2 => BitVec.ofNat 32 v.data
    | _ => BitVec.ofNat 32 (b2n v.masked))
  else if 0x4000 ≤ off && off < 0x4008 then
    BitVec.ofNat 32 (((s.host p).pending.foldl (fun n k => n ||| 2 ^ k) 0) / 2 ^ (32 * ((off - 0x4000) / 4)))
  else 0

/-- The port whose host block holds an address, and the offset in the block. -/
def hostBlock (a : Nat) : Option (Port × Nat) :=
  if 0x40000 ≤ a && a < 0x50000 then some (.h0, a - 0x40000) else if 0x50000 ≤ a && a < 0x60000 then some (.h1, a - 0x50000) else none

/-- R190: may the accessor read the slot: it is one of its ends? -/
def State.mayRead (s : State) (w : Accessor) (c : Chan) : Bool := s.endIs w.mbxEnd c.sender || s.endIs w.mbxEnd c.receiver

/-- The word at an address as the accessor reads it; a stopped die's window reads 0 (R455). -/
def State.wordAt (s : State) (w : Accessor) (a : Nat) : W32 :=
  match slotAt a with
  | some (c, off) => if s.mayRead w c && !s.chanClosed c && !s.chanOff c then s.slotRead c (s.endIs w.mbxEnd c.sender) off else 0
  | none => match hostBlock a with
    | some (p, off) => if 0x8000 ≤ off then s.msixWord p (off - 0x8000) else (match s.regAt w a with | some (r, i) => s.shown w r i | none => 0)
    | none => match firnWindow a with
      | some (d, _) => if s.dieRuns d.die then (match s.regAt w a with | some (r, i) => s.shown w r i | none => 0) else 0
      | none => match s.regAt w a with | some (r, i) => s.shown w r i | none => 0

/-! ### The scratchpad aperture (R215) -/

/-- The place of an aperture word, while the aperture opens onto a cluster of the application partition. -/
def State.aperture (s : State) (p : Port) (off : Nat) : Option Nat :=
  let k := s.get Fld.SPAD_APER__CLUSTER p.num
  if s.flag Fld.SPAD_APER__EN p.num && s.cfg.appClusters.contains k && off < 0x40000 then some (0x20000000 + 0x40000 * k + off) else none

def State.aperRefused (s : State) (p : Port) : State := s.put Fld.SPAD_APER__APER_REFUSED p.num 1

/-- A write of bytes through the aperture: those enabled, in order. -/
def State.aperWrite (s : State) (p : Port) (off : Nat) (be : BitVec 4) (v : W32) (rivals : List Nat) : State :=
  match s.aperture p (off / 4 * 4) with
  | none => s.aperRefused p
  | some a => let s := s.bankGrant 256 a rivals; (upTo 4).foldl (fun s k => if be.getLsbD k then s.memStore 256 (a + k) [BitVec.ofNat 8 (bitsAt v.toNat (8 * k) 8)] else s) s

/-- A read of a word through the aperture. -/
def State.aperRead (s : State) (p : Port) (off : Nat) (rivals : List Nat) : State :=
  let a := 0x1C0000 + off % 0x40000
  if !s.dieRuns .cdie then s.emit (.readValue 0)
  else if s.offAt (.host p) a then (s.crossingFailed p.num 0 a true).emit (.readValue 0)
  else match s.aperture p (off % 0x40000 / 4 * 4) with
    | none => (s.aperRefused p).emit (.readValue 0)
    | some x => (s.bankGrant 256 x rivals).emit (.readValue (BitVec.ofNat 32 (leNat (memReadL s.mem x 4))))

/-- SPAD_APERTURE_ACCESS (R215): `w`: none for a read, the enabled bytes and the word of a write; `rivals`: who requests the bank in the same
cycle (R209). -/
def execSpadApertureAccess (p : Port) (off : Nat) (w : Option (BitVec 4 × W32)) (rivals : List Nat) (s : State) : Res :=
  match w with
  | some (be, v) => .next (s.served (.host p) (0x1C0000 + off % 0x40000) fun s => s.aperWrite p (off % 0x40000) be v rivals)
  | none => .next (s.aperRead p off rivals)

/-- R25: a read clears the RC fields of a register, but for what is recorded in the same cycle (`occ`). Of a counter that a boundary
refreshes, what has been shown is taken off. -/
def State.readClears (s : State) (r : Reg) (i : Nat) (occ : W32) : State :=
  let rc := BitVec.ofNat 32 r.info.rc
  if rc = 0 then s
  else if mirrored r then
    let v := s.seenReg r i &&& rc
    let s := s.setReg r i ((s.reg r i - v) + (occ &&& rc))
    { s with mirror := tabErase s.mirror ⟨r, i⟩ }
  else s.setReg r i (((s.reg r i) &&& ~~~rc) ||| (occ &&& rc))

/-- A read of the word at an address of BAR0: it is answered, its RC fields are cleared, and an occurrence recorded in the same
cycle stays (R25). -/
def State.readAt (s : State) (w : Accessor) (a : Nat) (occ : W32) : State :=
  let a := a / 4 * 4
  if !s.dieRuns .cdie || s.absentAt a then s.emit (.readValue 0)
  else if s.offAt w a then (s.crossingFailed w.initCode (xidAt a) a true).emit (.readValue 0)
  else
    let s := s.touched (w != .firmware) a
    let v := s.wordAt w a
    let s := match slotAt a with
      | some (c, _) =>
        if s.chanClosed c then s
        else if !s.mayRead w c then s.mbxErr w.mbxEnd Fld.MBX_ERR__FOREIGN
        else if s.chanOff c then s.crossingFailed w.initCode c.xid a true else s
      | none => match s.regAt w a with
        | some (r, i) => s.readClears r i occ
        | none => s
    s.emit (.readValue v)

/-! ### Configuration space and BAR2 (R136, R137, R155): a port's own -/

/-- R136: the words of a port's configuration space. The spec gives the identity, the BARs and the capabilities; PCI Express gives the
header's layout, and the model places the capabilities (log entry 164). -/
def State.cfgWord (s : State) (p : Port) (off : Nat) : W32 :=
  let h := s.host p
  let rev := 16 * (s.stepping / 256 - 0x41) + (s.stepping % 256 - 0x30)
  let n := match off with
    | 0x00 => 0x91921F92
    | 0x04 => 0x00100000 + b2n h.bme * 4
    | 0x08 => 0x11800000 + rev % 256
    | 0x10 => bitsAt h.bar0 24 8 * 2 ^ 24 + 4
    | 0x14 => h.bar0 / 2 ^ 32
    | 0x18 => bitsAt h.bar2 16 16 * 2 ^ 16 + 4
    | 0x1C => h.bar2 / 2 ^ 32
    | 0x2C => s.variant.code * 2 ^ 16 + 0x1F92
    | 0x34 => 0x40
    -- power management: D0 and D3hot
    | 0x40 => 0x00035001
    | 0x44 => if h.d3hot then 3 else 0
    -- MSI-X: 64 vectors, the table and the pending bits in BAR0
    | 0x50 => 0x003F6011 + b2n h.msixMask * 2 ^ 30 + b2n h.msixEn * 2 ^ 31
    | 0x54 => 0x48000 + 0x10000 * p.num
    | 0x58 => 0x4C000 + 0x10000 * p.num
    -- PCI Express endpoint: 256-byte payloads, function-level reset, Gen3 x4, ASPM L1
    | 0x60 => 0x00020010
    | 0x64 => 0x10008001
    | 0x68 => h.devCtl % 2 ^ 16
    | 0x6C => 0x00000843
    | 0x70 => (s.get Fld.HOST_STATUS__LINK_SPEED p.num + s.get Fld.HOST_STATUS__LINK_WIDTH p.num * 16) * 2 ^ 16
    -- AER
    | 0x100 => 0x00020001
    | _ => 0
  BitVec.ofNat 32 n

/-- R119: the endpoint answers configuration requests from stage 0x2 on, over its link. -/
def State.cfgAnswers (s : State) (p : Port) : Bool :=
  s.dieRuns .cdie && decide (2 ≤ s.stage) && (s.linkL0 p || s.get Fld.HOST_STATUS__LINK_STATE p.num == 2)

/-- A write of a word of configuration space: the BARs, Bus Master Enable and the power state (R139), MSI-X control (R171), and the
function-level reset (R138). -/
def State.cfgWrite (s : State) (p : Port) (off : Nat) (v : W32) : State :=
  let h := s.host p
  if !s.cfgAnswers p then s
  else match off with
    | 0x04 => s.setHolding p (bitAt v.toNat 2) h.d3hot
    | 0x10 => s.setHost p { h with bar0 := putBits h.bar0 24 8 (v.toNat / 2 ^ 24) }
    | 0x14 => s.setHost p { h with bar0 := putBits h.bar0 32 32 v.toNat }
    | 0x18 => s.setHost p { h with bar2 := putBits h.bar2 16 16 (v.toNat / 2 ^ 16) }
    | 0x1C => s.setHost p { h with bar2 := putBits h.bar2 32 32 v.toNat }
    | 0x44 => if bitsAt v.toNat 0 2 = 3 then s.setHolding p h.bme true else if bitsAt v.toNat 0 2 = 0 then s.setHolding p h.bme false else s
    | 0x50 => (s.setHost p { h with msixEn := bitAt v.toNat 31, msixMask := bitAt v.toNat 30 }).msixRelease p
    | 0x68 =>
      let s := s.setHost p { h with devCtl := v.toNat % 2 ^ 15 }
      if bitAt v.toNat 15 then s.flReset p else s
    | _ => s

/-- A word of BAR2 and of configuration space as a host reads it; BAR2 holds nothing but the kick registers, which read 0 (R155). -/
def State.ownRead (s : State) (p : Port) (a : Nat) : State :=
  s.emit (.readValue (if 0x2000000 ≤ a && s.cfgAnswers p then s.cfgWord p ((a - 0x2000000) / 4 * 4) else 0))

/-- A write to BAR2: at n × 0x800 the kick register of SQ n; the rest of each slot ignores it (R155). `rd`: the read of the SQ's record. -/
def State.kickWrite (s : State) (p : Port) (off : Nat) (rd : DmaRead) : State :=
  if !s.dieRuns .cdie || s.stage != 0xB || off % 0x800 != 0 || 0x10000 ≤ off then s
  else match execSqKick p (off / 0x800) rd s with | .next t => t | _ => s

/-- A write of a port beyond BAR0. -/
def State.ownWrite (s : State) (p : Port) (a : Nat) (v : W32) (rd : DmaRead) : State :=
  if 0x2000000 ≤ a then s.cfgWrite p (a - 0x2000000) v else s.kickWrite p (a - 0x1000000) rd

/-- READ_TO_CLEAR (R25): `occ`: what is recorded in the RC fields in the same cycle. -/
def execReadToClear (w : Accessor) (a : Nat) (occ : W32) (s : State) : Res :=
  match w with
  | .host p =>
    if 0x1000000 ≤ a then .next (s.ownRead p a)
    else if 0x1C0000 ≤ a && a < 0x200000 then .next (s.aperRead p (a - 0x1C0000) []) else .next (s.readAt w a occ)
  | .firmware => .next (s.readAt w a occ)

/-! ### Writing (R21 to R24) -/

/-- The state a meaning answers; here none stops. -/
def State.via (s : State) (r : Res) : State := match r with | .next t => t | _ => s

/-- A write of an MSI-X table word by its owner (R171): unmasking sends a pending message. -/
def State.msixWrite (s : State) (p : Port) (off : Nat) (v : W32) : State :=
  if 0x400 ≤ off then s
  else
    let n := off / 16
    let h := s.host p
    let x : Vec := tabGet {} h.msix n
    let set (x : Vec) : State := s.setHost p { h with msix := tabSet h.msix n x }
    match off % 16 / 4 with
    | 0 => set { x with addr := putBits x.addr 0 32 v.toNat }
    | 1 => set { x with addr := putBits x.addr 32 32 v.toNat }
    | 2 => set { x with data := v.toNat }
    | _ => if bitAt v.toNat 0 then set { x with masked := true } else if x.masked then s.via (execMsixUnmask p n s) else s

/-- R23: what a write leaves in a register's RW and W1C bits. -/
def writeValue (i : RegInfo) (old v : W32) : W32 :=
  let rw := BitVec.ofNat 32 i.rw
  let w1c := BitVec.ofNat 32 i.w1c
  ((old &&& ~~~rw) ||| (v &&& rw)) &&& ~~~(v &&& w1c)

/-- What goes with a sticky bit that is cleared: COUNT of PWR_DVFS_ERR goes with ERR (R76). -/
def State.clearedWith (s : State) (r : Reg) (bits : W32) : State :=
  if r = .PWR_DVFS_ERR && bitAt bits.toNat 0 then s.put Fld.PWR_DVFS_ERR__COUNT 0 0 else s

/-- A write of a register outside the host blocks: the effect of the register's own command where it has one, else its RW
and W1C bits. Firmware sets the engines' protection regions (R222). -/
def State.regWrite (s : State) (w : Accessor) (r : Reg) (i : Nat) (v : W32) : State :=
  let set : State := s.setReg r i (writeValue r.info (s.reg r i) v)
  match r with
  | .PWR_DVFS => s.via (execPwrDvfsWrite v s)
  | .PWR_REQ =>
    let q := bitsAt v.toNat 0 4
    if q = 0 then s else if q = 1 then s.via (execPwrReqDeepSleep s) else if q = 2 then s.via (execPwrReqOff false s) else s.badRequest
  | .PWR_WAKE_EN => s.via (execWakePolWrite v s)
  | .PWR_DVFS_ERR => set.clearedWith r v
  | .WP_CFG =>
    let ok := decide (8 ≤ bitsAt v.toNat 0 7) && decide (bitsAt v.toNat 0 7 ≤ 0x77)
    s.setReg r i (BitVec.ofNat 32 (putBits (writeValue r.info (s.reg r i) v).toNat 0 7 (if ok then bitsAt v.toNat 0 7 else s.get Fld.WP_CFG__ADDR 0)))
  | .WP_STATUS => if bitAt v.toNat 31 then s.via (execWakeBufferRelease s) else s
  | .RST_CTRL => s.via (execRstCtrlWrite v s)
  | .BOOT_IMG_LEN => if bitAt v.toNat 31 then s.via (execBootImgGo v s) else set
  | .ETH_MDIO => if s.flag Fld.ETH_MDIO__GO 0 then s else if bitAt v.toNat 31 then s.via (execMdioFrame v s) else set
  | .DRV_ISNS_SEL => s.via (execDrvIsnsSelWrite v s)
  | .GOV_BUDGET => s.via (execGovBudgetWrite i v s)
  | .GOV_SITE_BUDGET => s.via (execGovSiteBudgetWrite v s)
  | .ENG_MPU_BASE => if w = .firmware then s.setReg r i (v &&& 0xFFFFFFE0) else s
  | .ENG_MPU_LIMIT => if w = .firmware then s.setReg r i (v &&& 0xFFFFFFEF) else s
  | _ => if r.info.rw = 0 && r.info.w1c = 0 then s else set

/-- A write of a register of a port's own block by that port (R144, R147, R149, R774); `rd`: what a read of the selected
SQ's record answers. -/
def State.hostWrite (s : State) (p : Port) (r : Reg) (i : Nat) (v : W32) (rd : DmaRead) : State :=
  let set : State := s.setReg r i (writeValue r.info (s.reg r i) v)
  match r with
  | .HOST_CTRL =>
    let poll := BitVec.ofNat 8 (bitsAt v.toNat 16 8)
    let idle := BitVec.ofNat 16 (bitsAt v.toNat 0 16)
    s.via (if bitAt v.toNat 31 then execHostEnable p poll idle s else execHostDisable p poll idle s)
  | .HOST_WIN_LO => s.via (execWindowWrite p (i % 8) .lo v s)
  | .HOST_WIN_HI => s.via (execWindowWrite p (i % 8) .hi v s)
  | .HOST_WIN_SIZE => s.via (execWindowWrite p (i % 8) .size v s)
  | .RING_BASE_LO => s.via (execRingConfigWrite p .baseLo v s)
  | .RING_BASE_HI => s.via (execRingConfigWrite p .baseHi v s)
  | .RING_DB_LO => s.via (execRingConfigWrite p .dbLo v s)
  | .RING_DB_HI => s.via (execRingConfigWrite p .dbHi v s)
  | .RING_CFG => s.via (execRingConfigWrite p .cfg v s)
  | .RING_CTRL => (match bitsAt v.toNat 0 2 with
      | 1 => s.via (execRingEnable p rd s)
      | 2 => s.via (execRingDisable p s)
      | 3 => s.via (execRingClearError p s)
      | _ => s)
  | _ => if r.info.rw = 0 && r.info.w1c = 0 then s else set

/-- A write to a word address with all four bytes enabled. -/
def State.writeAt (s : State) (w : Accessor) (a : Nat) (v : W32) (rd : DmaRead) : State :=
  s.served w a fun s =>
    match slotAt a with
    | some (c, off) => s.slotWrite w.mbxEnd c off v
    | none => match hostBlock a with
      | some (p, off) =>
        (match w with
        | .firmware => s
        | .host q =>
          if q ≠ p then s.put Fld.HOST_ERR__FOREIGN_WRITE q.num 1
          else if 0x8000 ≤ off then s.msixWrite p (off - 0x8000) v
          else match s.regAt w a with | some (r, i) => s.hostWrite p r i v rd | none => s)
      | none =>
        if 0x1C0000 ≤ a && a < 0x200000 then (match w with | .host p => s.aperWrite p (a - 0x1C0000) 15 v [] | .firmware => s)
        else match s.regAt w a with | some (r, i) => s.regWrite w r i v | none => s

/-- REGISTER_WRITE (R21 to R23, R142): a write at byte address `a` with enabled bytes `be`; discarded unless it enables all four bytes of
one register. A register with a command of its own takes that command's effect. -/
def execRegisterWrite (w : Accessor) (a : Nat) (be : BitVec 4) (v : W32) (rd : DmaRead) (s : State) : Res :=
  if a % 4 ≠ 0 || be ≠ 15 then .next s
  else match w with
    | .host p => .next (if 0x1000000 ≤ a then s.ownWrite p a v rd else s.writeAt w a v rd)
    | .firmware => .next (s.writeAt w a v rd)

/-- STICKY_BIT_CLEAR (R24): the bits written as 1 are cleared, but for those that the module sets in the same cycle (`setNow`). -/
def execStickyBitClear (w : Accessor) (a : Nat) (v setNow : W32) (s : State) : Res :=
  .next (if a % 4 ≠ 0 then s
    else s.served w a fun s => match s.regAt w a with
      | none => s
      | some (r, i) =>
        let w1c := BitVec.ofNat 32 r.info.w1c
        let x := ((s.reg r i) &&& ~~~(v &&& w1c)) ||| (setNow &&& w1c)
        if w1c = 0 then s
        else match hostBlock a, w with
          | some (p, _), .host q =>
            if p ≠ q then s.put Fld.HOST_ERR__FOREIGN_WRITE q.num 1 else s.setReg r i x
          | some _, .firmware => s
          | none, _ => (s.setReg r i x).clearedWith r (v &&& ~~~setNow))

end Sys2Proof.Machine
end

