-- ==== Sys2Proof/Machine/Rv32.lean ====
section
/-!
DEFINITION. Machine/Rv32.lean: an engine runs the instruction at its pc (R223 to R227, R241, R242): fetch from its own instruction memory, RV32IMAFC
with Zicsr and Zifencei as the RISC-V architecture defines them (log entry 176), and Xbarlux, whose meanings are those of the commands.
-/
namespace Sys2Proof.Machine

/-! ### Control and status registers (R223, R242) -/

/-- mstatus as it reads: the F registers are always on (log entry 176). -/
def Engine.status (e : Engine) : W32 := (e.mstatus &&& 0x00001888) ||| 0x80006000

/-- The value of a CSR; none where the engine has none with this number. -/
def State.csrRead (s : State) (n : Nat) (csr : Nat) : Option W32 :=
  let e := s.core n
  match csr with
  | 0x001 => some (e.fcsr &&& 0x1F)
  | 0x002 => some (BitVec.ofNat 32 (bitsAt e.fcsr.toNat 5 3))
  | 0x003 => some (e.fcsr &&& 0xFF)
  | 0x300 => some e.status
  | 0x301 => some 0x40901125
  | 0x304 => some e.mie
  | 0x305 => some e.mtvec
  | 0x340 => some e.mscratch
  | 0x341 => some e.mepc
  | 0x342 => some e.mcause
  | 0x343 => some e.mtval
  | 0x344 => some e.mip
  | 0x800 => some e.xblstat
  | 0xCC0 => some (BitVec.ofNat 32 (s.fcount n))
  | 0xCC1 => some (BitVec.ofNat 32 (s.fcount n / 2 ^ 32))
  | 0xCC2 => some (BitVec.ofNat 32 (s.fcountBoundary n))
  | 0xCC3 => some (BitVec.ofNat 32 (s.fcountBoundary n / 2 ^ 32))
  | 0xCC4 => some (BitVec.ofNat 32 e.deadline)
  | 0xCC5 => some (BitVec.ofNat 32 (e.deadline / 2 ^ 32))
  | 0xF11 | 0xF12 => some 0
  | 0xF13 => some 0x00009192
  | 0xF14 => some (BitVec.ofNat 32 n)
  | _ => none

/-- A write of a CSR; bits that are read-only keep what they hold. -/
def Engine.csrWrite (e : Engine) (csr : Nat) (v : W32) : Engine :=
  match csr with
  | 0x001 => { e with fcsr := (e.fcsr &&& 0xE0) ||| (v &&& 0x1F) }
  | 0x002 => { e with fcsr := (e.fcsr &&& 0x1F) ||| ((v &&& 7) <<< 5) }
  | 0x003 => { e with fcsr := v &&& 0xFF }
  | 0x300 => { e with mstatus := (v &&& 0x88) ||| (if v &&& 0x1800 = 0x1800 then 0x1800 else 0) }
  | 0x304 => { e with mie := v &&& 0x00030008 }
  | 0x305 => { e with mtvec := v &&& 0xFFFFFFFD }
  | 0x340 => { e with mscratch := v }
  | 0x341 => { e with mepc := v &&& 0xFFFFFFFE }
  | 0x342 => { e with mcause := v }
  | 0x343 => { e with mtval := v }
  | 0x800 => { e with stat := e.stat &&& (v.toNat % 16) }
  | _ => e

/-- Zicsr: `f3` 1 to 3 write, set and clear from a register, 5 to 7 from the immediate. A number that no CSR bears, a machine CSR in user
mode and a write of a read-only one are illegal. -/
def State.csrOp (s : State) (n csr f3 rd r : Nat) : State :=
  let e := s.core n
  let writes := f3 % 4 = 1 || r ≠ 0
  if (bitsAt csr 8 2 = 3 && !e.mach) || (bitsAt csr 10 2 = 3 && writes) then s.illegal n
  else match s.csrRead n csr with
    | none => s.illegal n
    | some old =>
      let x : W32 := if 4 ≤ f3 then BitVec.ofNat 32 r else e.getX r
      let new := match f3 % 4 with | 1 => x | 2 => old ||| x | _ => old &&& ~~~x
      let e := if writes then e.csrWrite csr new else e
      s.setCore n (e.setX rd old).next

/-! ### Fetch (R226) -/

/-- A byte as the engine's fetch sees it. -/
def State.fetchByte (s : State) (n a : Nat) : Byte := (tabFind s.eng.imem (privAddr n a)).getD (memRead s.mem (privAddr n a))
def State.fetchHalf (s : State) (n a : Nat) : Nat := (s.fetchByte n a).toNat + 256 * (s.fetchByte n (a + 1)).toNat

/-- R220, R226: may the `len` bytes at `a` be fetched? A refusal is recorded and raises cause 1. -/
def State.fetchAt (s : State) (n a len : Nat) (k : State → State) : State :=
  if 0x10000 < a + len then s.trap n 1 (BitVec.ofNat 32 a)
  else match s.mpuRefusal n a len .fetch with
    | some (r, b) => (s.mpuRecord n a .fetch r b).trap n 1 (BitVec.ofNat 32 a)
    | none => k s

/-! ### Immediates and arithmetic -/

/-- The immediates of the RISC-V formats, of an instruction word. -/
def immI (w : Nat) : W32 := BitVec.ofInt 32 (signedOf 12 (bitsAt w 20 12))
def immS (w : Nat) : W32 := BitVec.ofInt 32 (signedOf 12 (bitsAt w 25 7 * 32 + bitsAt w 7 5))
def immB (w : Nat) : W32 := BitVec.ofInt 32 (signedOf 13 (bitsAt w 31 1 * 4096 + bitsAt w 7 1 * 2048 + bitsAt w 25 6 * 32 + bitsAt w 8 4 * 2))
def immU (w : Nat) : W32 := BitVec.ofNat 32 (bitsAt w 12 20 * 4096)
def immJ (w : Nat) : W32 :=
  BitVec.ofInt 32 (signedOf 21 (bitsAt w 31 1 * 2 ^ 20 + bitsAt w 12 8 * 4096 + bitsAt w 20 1 * 2048 + bitsAt w 21 10 * 2))

/-- The register-immediate and register-register operations of RV32I, by funct3; `alt` chooses SUB and SRA. -/
def aluOp (f3 : Nat) (alt : Bool) (x y : W32) : W32 :=
  let sh := y.toNat % 32
  match f3 with
  | 0 => if alt then x - y else x + y
  | 1 => x <<< sh
  | 2 => if x.toInt < y.toInt then 1 else 0
  | 3 => if x.toNat < y.toNat then 1 else 0
  | 4 => x ^^^ y
  | 5 => if alt then x.sshiftRight sh else x >>> sh
  | 6 => x ||| y
  | _ => x &&& y

/-- RV32M, by funct3: a division by zero gives all ones and the dividend, an overflow the dividend and 0. -/
def mulDiv (f3 : Nat) (x y : W32) : W32 :=
  match f3 with
  | 0 => x * y
  | 1 => BitVec.ofInt 32 (x.toInt * y.toInt / 2 ^ 32)
  | 2 => BitVec.ofInt 32 (x.toInt * (y.toNat : Int) / 2 ^ 32)
  | 3 => BitVec.ofNat 32 (x.toNat * y.toNat / 2 ^ 32)
  | 4 => if y = 0 then 0xFFFFFFFF else BitVec.ofInt 32 (Int.tdiv x.toInt y.toInt)
  | 5 => if y = 0 then 0xFFFFFFFF else BitVec.ofNat 32 (x.toNat / y.toNat)
  | 6 => if y = 0 then x else BitVec.ofInt 32 (Int.tmod x.toInt y.toInt)
  | _ => if y = 0 then x else BitVec.ofNat 32 (x.toNat % y.toNat)

/-- The conditions of the branches, by funct3; none where it names no branch. -/
def branchTaken (f3 : Nat) (x y : W32) : Option Bool :=
  match f3 with
  | 0 => some (x == y) | 1 => some (x != y)
  | 4 => some (decide (x.toInt < y.toInt)) | 5 => some (decide (y.toInt ≤ x.toInt))
  | 6 => some (decide (x.toNat < y.toNat)) | 7 => some (decide (y.toNat ≤ x.toNat))
  | _ => none

/-! ### Single precision (R225) -/

/-- The rounding mode an instruction names; none where it names none. -/
def Engine.rounding (e : Engine) (rm : Nat) : Option Nat :=
  let m := if rm = 7 then bitsAt e.fcsr.toNat 5 3 else rm
  if m ≤ 4 then some m else none

def Engine.orFlags (e : Engine) (fl : Nat) : Engine := { e with fcsr := e.fcsr ||| BitVec.ofNat 32 fl }
def Engine.putF (e : Engine) (rd : Nat) (r : W32 × Nat) : Engine := ((e.setF rd r.1).orFlags r.2).next
def Engine.putX (e : Engine) (rd : Nat) (r : W32 × Nat) : Engine := ((e.setX rd r.1).orFlags r.2).next

/-- The OP-FP instructions; none where the word is none of them. -/
def Engine.opFp (e : Engine) (f7 rm rd r1 r2 : Nat) : Option Engine :=
  let x := e.getF r1; let y := e.getF r2
  let rounded (f : Nat → W32 × Nat) : Option Engine := (e.rounding rm).map fun m => e.putF rd (f m)
  match f7 with
  | 0x00 => rounded fun m => F32.add m x y
  | 0x04 => rounded fun m => F32.add m x (F32.neg1 y)
  | 0x08 => rounded fun m => F32.mul m x y
  | 0x0C => rounded fun m => F32.div m x y
  | 0x2C => if r2 = 0 then rounded fun m => F32.sqrt m x else none
  | 0x10 =>
    let body := x &&& 0x7FFFFFFF
    (match rm with
    | 0 => some ((y &&& 0x80000000) ||| body)
    | 1 => some ((F32.neg1 y &&& 0x80000000) ||| body)
    | 2 => some (((x ^^^ y) &&& 0x80000000) ||| body)
    | _ => none).map fun v => (e.setF rd v).next
  | 0x14 => if 1 < rm then none else some (e.putF rd (F32.pick (rm == 1) x y))
  | 0x50 => (match rm with
    | 0 => some (F32.ltW true x y)
    | 1 => some (F32.ltW false x y)
    | 2 => some (F32.eqW x y)
    | _ => none).map fun r => e.putX rd r
  | 0x60 => if 1 < r2 then none else (e.rounding rm).map fun m => e.putX rd (F32.toWord m (r2 == 0) x)
  | 0x68 => if 1 < r2 then none
    else (e.rounding rm).map fun m => e.putF rd (F32.ofInt m (if r2 = 0 then (e.getX r1).toInt else (e.getX r1).toNat))
  | 0x70 => if r2 ≠ 0 then none else if rm = 0 then some (e.setX rd x).next else if rm = 1 then some (e.setX rd (F32.classify x)).next else none
  | 0x78 => if r2 = 0 && rm = 0 then some (e.setF rd (e.getX r1)).next else none
  | _ => none

/-- FMADD, FMSUB, FNMSUB and FNMADD: `op` 0 to 3. -/
def Engine.fused (e : Engine) (op rm rd r1 r2 r3 : Nat) : Option Engine :=
  (e.rounding rm).map fun m =>
    let x := if 2 ≤ op then F32.neg1 (e.getF r1) else e.getF r1
    let z := if op = 1 || op = 3 then F32.neg1 (e.getF r3) else e.getF r3
    e.putF rd (F32.fma m x (e.getF r2) z)

/-! ### Compressed instructions -/

/-- The words that compressed instructions stand for, built from their fields. -/
def rvI (op f3 rd r1 : Nat) (imm : Int) : Nat := op + rd * 2 ^ 7 + f3 * 2 ^ 12 + r1 * 2 ^ 15 + bitsOf 12 imm * 2 ^ 20
def rvR (op f3 f7 rd r1 r2 : Nat) : Nat := op + rd * 2 ^ 7 + f3 * 2 ^ 12 + r1 * 2 ^ 15 + r2 * 2 ^ 20 + f7 * 2 ^ 25
def rvS (op f3 r1 r2 imm : Nat) : Nat := op + imm % 32 * 2 ^ 7 + f3 * 2 ^ 12 + r1 * 2 ^ 15 + r2 * 2 ^ 20 + imm / 32 % 128 * 2 ^ 25
def rvB (f3 r1 r2 : Nat) (imm : Int) : Nat :=
  let i := bitsOf 13 imm
  0x63 + bitsAt i 11 1 * 2 ^ 7 + bitsAt i 1 4 * 2 ^ 8 + f3 * 2 ^ 12 + r1 * 2 ^ 15 + r2 * 2 ^ 20 + bitsAt i 5 6 * 2 ^ 25 + bitsAt i 12 1 * 2 ^ 31
def rvJ (rd : Nat) (imm : Int) : Nat :=
  let i := bitsOf 21 imm
  0x6F + rd * 2 ^ 7 + bitsAt i 12 8 * 2 ^ 12 + bitsAt i 11 1 * 2 ^ 20 + bitsAt i 1 10 * 2 ^ 21 + bitsAt i 20 1 * 2 ^ 31

/-- The first and third quadrants of RV32C, the memory forms and what stands with them. -/
def expandMem (h : Nat) : Option Nat :=
  let rs := 8 + bitsAt h 7 3; let rp := 8 + bitsAt h 2 3; let rd := bitsAt h 7 5; let r2 := bitsAt h 2 5
  let w := bitsAt h 6 1 * 4 + bitsAt h 10 3 * 8 + bitsAt h 5 1 * 64
  let lsp := bitsAt h 4 3 * 4 + bitsAt h 12 1 * 32 + bitsAt h 2 2 * 64
  let ssp := bitsAt h 9 4 * 4 + bitsAt h 7 2 * 64
  match h % 4, bitsAt h 13 3 with
  | 0, 0 =>
    let i := bitsAt h 6 1 * 4 + bitsAt h 5 1 * 8 + bitsAt h 11 2 * 16 + bitsAt h 7 4 * 64
    if i = 0 then none else some (rvI 0x13 0 rp 2 i)
  | 0, 2 => some (rvI 0x03 2 rp rs w)
  | 0, 3 => some (rvI 0x07 2 rp rs w)
  | 0, 6 => some (rvS 0x23 2 rs rp w)
  | 0, 7 => some (rvS 0x27 2 rs rp w)
  | 2, 0 => if bitAt h 12 then none else some (rvI 0x13 1 rd rd r2)
  | 2, 2 => if rd = 0 then none else some (rvI 0x03 2 rd 2 lsp)
  | 2, 3 => some (rvI 0x07 2 rd 2 lsp)
  | 2, 4 =>
    if !bitAt h 12 then
      (if r2 ≠ 0 then some (rvR 0x33 0 0 rd 0 r2) else if rd = 0 then none else some (rvI 0x67 0 0 rd 0))
    else if r2 ≠ 0 then some (rvR 0x33 0 0 rd rd r2)
    else if rd = 0 then some 0x00100073 else some (rvI 0x67 0 1 rd 0)
  | 2, 6 => some (rvS 0x23 2 2 r2 ssp)
  | 2, 7 => some (rvS 0x27 2 2 r2 ssp)
  | _, _ => none

/-- The second quadrant of RV32C: immediates, arithmetic, jumps and branches. -/
def expandAlu (h : Nat) : Option Nat :=
  let rd := bitsAt h 7 5; let rs := 8 + bitsAt h 7 3; let rp := 8 + bitsAt h 2 3
  let imm := signedOf 6 (bitsAt h 2 5 + bitsAt h 12 1 * 32)
  let j := signedOf 12 (bitsAt h 3 3 * 2 + bitsAt h 11 1 * 16 + bitsAt h 2 1 * 32 + bitsAt h 7 1 * 64 + bitsAt h 6 1 * 128
    + bitsAt h 9 2 * 256 + bitsAt h 8 1 * 1024 + bitsAt h 12 1 * 2048)
  let b := signedOf 9 (bitsAt h 3 2 * 2 + bitsAt h 10 2 * 8 + bitsAt h 2 1 * 32 + bitsAt h 5 2 * 64 + bitsAt h 12 1 * 256)
  match bitsAt h 13 3 with
  | 0 => some (rvI 0x13 0 rd rd imm)
  | 1 => some (rvJ 1 j)
  | 2 => some (rvI 0x13 0 rd 0 imm)
  | 3 =>
    if imm = 0 then none
    else if rd = 2 then
      let i := signedOf 10 (bitsAt h 6 1 * 16 + bitsAt h 2 1 * 32 + bitsAt h 5 1 * 64 + bitsAt h 3 2 * 128 + bitsAt h 12 1 * 512)
      (if i = 0 then none else some (rvI 0x13 0 2 2 i))
    else some (0x37 + rd * 2 ^ 7 + bitsOf 20 imm * 4096)
  | 4 =>
    (match bitsAt h 10 2 with
    | 0 => if bitAt h 12 then none else some (rvI 0x13 5 rs rs (bitsAt h 2 5))
    | 1 => if bitAt h 12 then none else some (rvI 0x13 5 rs rs (1024 + bitsAt h 2 5))
    | 2 => some (rvI 0x13 7 rs rs imm)
    | _ => if bitAt h 12 then none
      else some (match bitsAt h 5 2 with
        | 0 => rvR 0x33 0 0x20 rs rs rp
        | 1 => rvR 0x33 4 0 rs rs rp
        | 2 => rvR 0x33 6 0 rs rs rp
        | _ => rvR 0x33 7 0 rs rs rp))
  | 5 => some (rvJ 0 j)
  | 6 => some (rvB 0 rs 0 b)
  | _ => some (rvB 1 rs 0 b)

/-- The word that a compressed instruction stands for; none where it is reserved. -/
def expand (h : Nat) : Option Nat := if h % 4 = 1 then expandAlu h else expandMem h

/-! ### Running a word -/

/-- The state a meaning answers; no engine instruction stops. -/
def ranTo (s : State) (r : Res) : State := match r with | .next t => t | _ => s

/-- Xbarlux (R241), by opcode, funct3 and funct7: the meaning of the command that the word spells; any other combination is illegal. -/
def State.xbarlux (s : State) (n w : Nat) (rivals : List (List Nat)) : State :=
  let rd := bitsAt w 7 5; let r1 := bitsAt w 15 5; let r2 := bitsAt w 20 5
  let acc (a : Nat) (r : Res) : State := if a < 4 then ranTo s r else s.illegal n
  match bitsAt w 0 7, bitsAt w 12 3, bitsAt w 25 7 with
  | 0x0B, 0, 0 => acc rd (execMacs n rd r1 r2 s)
  | 0x0B, 0, 1 => acc rd (execMacu n rd r1 r2 s)
  | 0x0B, 0, 2 => acc rd (execMsus n rd r1 r2 s)
  | 0x0B, 0, 3 => acc rd (execMula n rd r1 r2 s)
  | 0x0B, 0, 4 => if r1 = 0 && r2 = 0 then acc rd (execAclr n rd s) else s.illegal n
  | 0x0B, 1, 0 => acc r1 (execArd n rd r1 r2 s)
  | 0x0B, 1, 1 => acc r1 (execArdx n rd r1 r2 s)
  | 0x0B, 1, 2 => acc r1 (execArdr n rd r1 r2 s)
  | 0x0B, 1, 3 => acc rd (execAwr n rd r1 r2 s)
  | 0x0B, 1, 4 => if r2 = 0 then acc rd (execAwrh n rd r1 s) else s.illegal n
  | 0x0B, 2, 0 => ranTo s (execPadd16 n rd r1 r2 s)
  | 0x0B, 2, 1 => ranTo s (execPsub16 n rd r1 r2 s)
  | 0x0B, 2, 2 => ranTo s (execPmulq15 n rd r1 r2 s)
  | 0x0B, 2, 3 => acc rd (execPmac16 n rd r1 r2 s)
  | 0x0B, 2, 4 => ranTo s (execPpack n rd r1 r2 s)
  | 0x0B, 2, 5 => ranTo s (execPsra16 n rd r1 r2 s)
  | 0x2B, 0, 0 => ranTo s (execFdstep n rd r1 r2 rivals s)
  | 0x2B, 1, 0x00 => if rd = 0 then ranTo s (execDlset n r1 r2 false s) else s.illegal n
  | 0x2B, 1, 0x40 => if rd = 0 then ranTo s (execDlset n r1 r2 true s) else s.illegal n
  | 0x2B, 1, 0x01 => if rd = 0 && r2 = 0 then ranTo s (execDlrel n r1 false s) else s.illegal n
  | 0x2B, 1, 0x41 => if rd = 0 && r2 = 0 then ranTo s (execDlrel n r1 true s) else s.illegal n
  | 0x2B, 1, 0x02 => if r1 = 0 && r2 = 0 then ranTo s (execDlwait n rd s) else s.illegal n
  | 0x2B, 1, 0x03 => if rd = 0 && r1 = 0 && r2 = 0 then ranTo s (execDlclr n s) else s.illegal n
  | _, _, _ => s.illegal n

/-- R231: LR, SC and the AMOs by funct5. -/
def State.atomicOp (s : State) (n w : Nat) (rivals : List (List Nat)) : State :=
  let rd := bitsAt w 7 5; let r1 := bitsAt w 15 5; let r2 := bitsAt w 20 5
  let amo (o : AmoOp) : State := ranTo s (execAmo n o rd r2 r1 rivals s)
  match bitsAt w 27 5 with
  | 0x02 => if r2 = 0 then ranTo s (execLr n rd r1 rivals s) else s.illegal n
  | 0x03 => ranTo s (execSc n rd r2 r1 rivals s)
  | 0x00 => amo .add | 0x01 => amo .swap | 0x04 => amo .xor | 0x08 => amo .or | 0x0C => amo .and
  | 0x10 => amo .min | 0x14 => amo .max | 0x18 => amo .minu | 0x1C => amo .maxu
  | _ => s.illegal n

/-- R245: ECALL: of an application job the service that a7 names, −1 for an undefined one; otherwise the exception of its mode. -/
def State.ecall (s : State) (n : Nat) : State :=
  let e := s.core n
  if e.mach || e.job.isNone then s.trap n (if e.mach then 11 else 8) 0
  else match (e.getX 17).toNat with
    | 0 => ranTo s (execEndJob n s)
    | 1 => ranTo s (execReadDeviceTime n s)
    | 2 => ranTo s (execReadReleaseFcount n s)
    | 3 => ranTo s (execReadSnapshot n s)
    | _ => s.setCore n ({ e.setX 10 0xFFFFFFFF with resv := none }).next

/-- MRET: back to the mode and the interrupt enable of before the trap. -/
def Engine.mret (e : Engine) : Engine :=
  let m := e.mstatus.toNat
  { e with pc := e.mepc, mach := bitsAt m 11 2 == 3, mstatus := BitVec.ofNat 32 (putBits (putBits (putBits m 3 1 (bitsAt m 7 1)) 7 1 1) 11 2 0) }

/-- The SYSTEM instructions. -/
def State.system (s : State) (n w : Nat) : State :=
  let e := s.core n
  let f3 := bitsAt w 12 3
  if f3 = 0 then
    (match w with
    | 0x00000073 => s.ecall n
    | 0x00100073 => s.trap n 3 e.pc
    | 0x10500073 => ranTo s (execWfi n s)
    | 0x30200073 => if e.mach then s.setCore n e.mret else s.illegal n
    | _ => s.illegal n)
  else if f3 = 4 then s.illegal n
  else s.csrOp n (bitsAt w 20 12) f3 (bitsAt w 7 5) (bitsAt w 15 5)

def loadOpOf : Nat → Option LoadOp
  | 0 => some .lb | 1 => some .lh | 2 => some .lw | 4 => some .lbu | 5 => some .lhu | _ => none
def storeOpOf : Nat → Option StoreOp
  | 0 => some .sb | 1 => some .sh | 2 => some .sw | _ => none

/-- The single-precision words. -/
def State.floatOp (s : State) (n w : Nat) : State :=
  let e := s.core n
  let rd := bitsAt w 7 5; let f3 := bitsAt w 12 3; let r1 := bitsAt w 15 5; let r2 := bitsAt w 20 5
  match bitsAt w 0 7 with
  | 0x53 => (match e.opFp (bitsAt w 25 7) f3 rd r1 r2 with | some e => s.setCore n e | none => s.illegal n)
  | op => if bitsAt w 25 2 ≠ 0 then s.illegal n
    else (match e.fused ((op - 0x43) / 4) f3 rd r1 r2 (bitsAt w 27 5) with | some e => s.setCore n e | none => s.illegal n)

/-- Run one instruction word of engine `n`, `len` bytes long where it stands; a word that is none raises the illegal-instruction exception. -/
def State.execWord (s : State) (n w : Nat) (len : W32) (rivals : List (List Nat)) : State :=
  let e := s.core n
  let rd := bitsAt w 7 5; let f3 := bitsAt w 12 3; let r1 := bitsAt w 15 5; let r2 := bitsAt w 20 5; let f7 := bitsAt w 25 7
  let x := e.getX r1; let y := e.getX r2
  let link := e.pc + len
  match bitsAt w 0 7 with
  | 0x37 => s.setCore n ((e.setX rd (immU w)).skip len)
  | 0x17 => s.setCore n ((e.setX rd (e.pc + immU w)).skip len)
  | 0x6F => s.setCore n { e.setX rd link with pc := e.pc + immJ w }
  | 0x67 => if f3 = 0 then s.setCore n { e.setX rd link with pc := (x + immI w) &&& 0xFFFFFFFE } else s.illegal n
  | 0x63 => (match branchTaken f3 x y with
    | some t => s.setCore n (if t then { e with pc := e.pc + immB w } else e.skip len)
    | none => s.illegal n)
  | 0x03 => (match loadOpOf f3 with | some o => s.loadInstr n o rd r1 (immI w) rivals len | none => s.illegal n)
  | 0x23 => (match storeOpOf f3 with | some o => s.storeInstr n o r2 r1 (immS w) rivals len | none => s.illegal n)
  | 0x07 => if f3 = 2 then s.loadInstr n .flw rd r1 (immI w) rivals len else s.illegal n
  | 0x27 => if f3 = 2 then s.storeInstr n .fsw r2 r1 (immS w) rivals len else s.illegal n
  | 0x13 =>
    if (f3 = 1 && f7 ≠ 0) || (f3 = 5 && f7 ≠ 0 && f7 ≠ 0x20) then s.illegal n
    else s.setCore n ((e.setX rd (aluOp f3 (f3 == 5 && f7 == 0x20) x (if f3 = 1 || f3 = 5 then BitVec.ofNat 32 r2 else immI w))).skip len)
  | 0x33 =>
    if f7 = 1 then s.setCore n ((e.setX rd (mulDiv f3 x y)).skip len)
    else if f7 = 0 || (f7 = 0x20 && (f3 = 0 || f3 = 5)) then s.setCore n ((e.setX rd (aluOp f3 (f7 == 0x20) x y)).skip len)
    else s.illegal n
  | 0x2F => if f3 = 2 then s.atomicOp n w rivals else s.illegal n
  | 0x0F => if f3 = 0 then ranTo s (execFence n (bitAt w 25) (bitAt w 24) s) else if f3 = 1 then ranTo s (execFenceI n s) else s.illegal n
  | 0x73 => s.system n w
  | 0x43 | 0x47 | 0x4B | 0x4F | 0x53 => s.floatOp n w
  | 0x0B | 0x2B => s.xbarlux n w rivals
  | _ => s.illegal n

/-- An engine runs the instruction at its pc: an interrupt that is due comes first (R227); a compressed instruction as the word it
stands for, two bytes long. -/
def State.engineStep (s : State) (n : Nat) (rivals : List (List Nat)) : State :=
  s.runs n fun e s =>
    let a := e.pc.toNat
    s.fetchAt n a 2 fun s =>
      let h := s.fetchHalf n a
      if h % 4 = 3 then s.fetchAt n a 4 fun s => s.execWord n (h + 65536 * s.fetchHalf n (a + 2)) 4 rivals
      else match expand h with
        | none => s.illegal n
        | some w => s.execWord n w 2 rivals

end Sys2Proof.Machine
end

