-- ==== Sys2Proof/Machine/Boundary.lean ====
section
/-!
DEFINITION. Machine/Boundary.lean: the control-cycle boundary (R47, R48): time moves on, the arbiter applies the cycle's orders, and
firmware does its per-cycle work.
-/
namespace Sys2Proof.Machine

/-- R47: the time from the latest boundary to this one: to the next whole millisecond of device time, or of the free-running count. -/
def State.cycleLength (s : State) : Nat := 1000 - (if s.devTime = 0 then s.time else s.devTime) % 1000

/-- Time moves to the boundary; FCOUNT of the C-die counts the cycle with its trim (R187, R237). -/
def State.timeOn (s : State) : State :=
  let l := s.cycleLength
  let s : State := { s with time := s.time + l, devTime := if s.devTime = 0 then 0 else s.devTime + l }
  if s.dieRuns .cdie then
    let trim : Int := signedOf 8 (s.get Fld.ETH_TIME_TRIM__TRIM 0)
    let s := s.cycleFcount 0 (((l : Int) - 1000) * 32544 / 100 + trim)
    s.put Fld.ETH_TIME_TRIM__TRIM 0 (bitsOf 8 s.eth.trimNext)
  else s

/-- R166, R187: this boundary is the first of a new time scale. -/
def State.newTime (s : State) : State :=
  let w := s.timeSets
  let s : State := { s with timeSets := [] }
  let s := w.foldl (fun s x => ({ s with devTime := x.2 } : State).fin x.1 stDone) s
  s.ptpStep

/-- Before arbitration: what the D-die and earlier cycles have left to do, settings that this boundary takes, and tariffs. -/
def State.boundaryOpen (s : State) : State :=
  let s := (s.newTime.watchdogOver.seracRelease).raiseAgain (!s.upd.cfgDue.isEmpty)
  let s := s.backOutGroups.switchConfigs.takeBudgets.tariffBoundary.readyStarts
  s.usedSlices.foldl (fun s i => s.sliceEnd i) s

/-- R282: the D-die's checks of the point slices. -/
def State.sliceChecks (s : State) (fails : List (Nat × Nat)) : State :=
  fails.foldl (fun s x =>
    if s.dieRuns .ddie && (s.scfg x.1).kind != 0 && s.get Fld.SLICE_STATUS__FAULT x.1 == 0 && decide (1 ≤ x.2) && decide (x.2 ≤ 5) then
      s.failSlice x.1 x.2 else s) s

/-- The slices' machines and locks, rising (R525 to R532). -/
def State.sliceWork (s : State) : State :=
  let s := s.usedSlices.foldl (fun s i => s.sliceStep i) s
  s.usedSlices.foldl (fun s i => (s.unlockStep i).lockGo i) s

/-- The governor's boundary (R574 to R578). -/
def State.govWork (s : State) : State :=
  let s := s.govTick.admitReady
  let s := s.govGrants s.inhibitInput s.degradedRefuses
  s.admitReady.deferWaiting.deferOver.orphanPoints.allocate

/-- Outputs and mirrors after arbitration. -/
def State.boundaryShow (s : State) (meas : List Meas) : State :=
  let s := s.usedSlices.foldl (fun s i => (s.sliceDrive i).pilotEvent i) s
  let s := meas.foldl (fun s m => s.takeMeas m) s.clearFell
  let s := (upTo 48).foldl (fun s n => s.clampMirror n) s
  let s := s.seracMirror
  s.usedSlices.foldl (fun s i => s.lockMirror i) s

/-- The engines' boundary: buffered stores have reached memory (R247), loads of applications, suspended tasks, probation. -/
def State.engineWork (s : State) : State :=
  let s := s.eng.core.foldl (fun s x => s.drainSb x.1) s
  s.appLoadBoundary.resumeTasks.probationTick

/-- R408: the TYPE values defined for a Firn die. -/
def firnTypes : List Nat :=
  [0x0101, 0x0102, 0x0103, 0x0104, 0x0105, 0x0106, 0x0110, 0x0111, 0x0112, 0x0201, 0x0202, 0x0203, 0x0204, 0x0205, 0x0206, 0x0207, 0x0208,
   0x0209, 0x020A]

/-- R408: a host's request of any other TYPE is answered with BAD_DESCRIPTOR, by the next boundary. -/
def State.unknownTypes (s : State) : State :=
  [Port.h0, .h1].foldl (fun s p => [Firn.f0, .f1].foldl (fun s d =>
    let c := Chan.hostFirn p d
    let typ := field (padTo 256 ((s.chan c).payload.take (s.chan c).len)) 2 2
    if firnTypes.contains typ then s else s.takeReq c typ fun _ _ seq s => s.replyReq c seq typ stBad []) s) s

/-- What a boundary does while firmware runs: the cycle's orders, the slices, the governor, the engines, and the mirrors last; its events
are gathered and written together (R753). -/
def State.cycleWork (s : State) (fails : List (Nat × Nat)) (meas : List Meas) : State :=
  let s : State := { s with gather := true }
  let s := (s.unknownTypes.boundaryOpen.arbitrate.groupStops.degradedDrop.inhibitStarts.sliceChecks fails).sliceWork
  (((((s.govWork.boundaryShow meas).engineWork.trialTick).beginPause).endGather).refresh).retryRequest.parkStep

/-- CONTROL_CYCLE_BOUNDARY (R47, R48). `fails`: slices that fail a check of R282, with its code; `meas`: the values that mirrors take; `ran`:
the engines that have run one instruction each in the cycle, in order, with their rivals at the banks (log entry 176). In Deep sleep and
Off there is no boundary (R91). In Sleep (R85), while the C-die does not run its firmware, and in the pause of a handover (R731), only
time moves on. -/
def execControlCycleBoundary (fails : List (Nat × Nat)) (meas : List Meas) (ran : List (Nat × List (List Nat))) (s : State) : Res :=
  if 3 ≤ s.pwr then .next s
  else
    let s := (ran.foldl (fun s x => s.engineStep x.1 x.2) s).timeOn
    if !s.dieRuns .cdie || s.inPause || s.stage ≠ 0xB || s.pwr = 2 then .next s
    else .next (s.cycleWork fails meas)

end Sys2Proof.Machine
end

