-- ==== Sys2Proof/Machine/Dispatch.lean ====
section
/-!
DEFINITION. Machine/Dispatch.lean: the meaning of every command, one arm for each constructor.
-/
namespace Sys2Proof.Machine

/-- The effect of a command on everything but the queue. -/
def exec (i : Instr) (s : State) : Host.Outcome State Fault Refusal :=
  match i with
  | .registerWrite w a be v rd => Sys2Proof.Machine.execRegisterWrite w a be v rd s
  | .stickyBitClear w a v setNow => Sys2Proof.Machine.execStickyBitClear w a v setNow s
  | .readToClear w a occ => Sys2Proof.Machine.execReadToClear w a occ s
  | .pwrDvfsWrite w => Sys2Proof.Machine.execPwrDvfsWrite w s
  | .vokSet => Sys2Proof.Machine.execVokSet s
  | .fselInEffect => Sys2Proof.Machine.execFselInEffect s
  | .clusterIdleEntry k => Sys2Proof.Machine.execClusterIdleEntry k s
  | .sleepEntry dma => Sys2Proof.Machine.execSleepEntry dma s
  | .wake src ticks => Sys2Proof.Machine.execWake src ticks s
  | .gatedBlockAccess => Sys2Proof.Machine.execGatedBlockAccess s
  | .pwrReqDeepSleep => Sys2Proof.Machine.execPwrReqDeepSleep s
  | .pwrReqOff parked => Sys2Proof.Machine.execPwrReqOff parked s
  | .frameBusyTimeout => Sys2Proof.Machine.execFrameBusyTimeout s
  | .wakePolWrite v => Sys2Proof.Machine.execWakePolWrite v s
  | .wakeBallAssert => Sys2Proof.Machine.execWakeBallAssert s
  | .aonAlarm => Sys2Proof.Machine.execAonAlarm s
  | .wakePortAddressMatch rd => Sys2Proof.Machine.execWakePortAddressMatch rd s
  | .wakePortDataByte b => Sys2Proof.Machine.execWakePortDataByte b s
  | .wakePortStop => Sys2Proof.Machine.execWakePortStop s
  | .wakePortStuck => Sys2Proof.Machine.execWakePortStuck s
  | .wakeBufferRelease => Sys2Proof.Machine.execWakeBufferRelease s
  | .refclkLoss => Sys2Proof.Machine.execRefclkLoss s
  | .corePllUnlock => Sys2Proof.Machine.execCorePllUnlock s
  | .corePllRelock => Sys2Proof.Machine.execCorePllRelock s
  | .memPllUnlock => Sys2Proof.Machine.execMemPllUnlock s
  | .memPllRelock ok => Sys2Proof.Machine.execMemPllRelock ok s
  | .serdesPllUnlock => Sys2Proof.Machine.execSerdesPllUnlock s
  | .aonOscFail => Sys2Proof.Machine.execAonOscFail s
  | .railPowerGood r => Sys2Proof.Machine.execRailPowerGood r s
  | .railFail r => Sys2Proof.Machine.execRailFail r s
  | .resetNAssert => Sys2Proof.Machine.execResetNAssert s
  | .sysctrlWatchdogExpiry => Sys2Proof.Machine.execSysctrlWatchdogExpiry s
  | .rstCtrlWrite v => Sys2Proof.Machine.execRstCtrlWrite v s
  | .cDieReset cause => Sys2Proof.Machine.execCDieReset cause s
  | .cDieOvertemp => Sys2Proof.Machine.execCDieOvertemp s
  | .firnDieReset d => Sys2Proof.Machine.execFirnDieReset d s
  | .dDieReset => Sys2Proof.Machine.execDDieReset s
  | .perst p => Sys2Proof.Machine.execPerst p s
  | .functionLevelReset p => Sys2Proof.Machine.execFunctionLevelReset p s
  | .bootStageAdvance codes item status other img => Sys2Proof.Machine.execBootStageAdvance codes item status other img s
  | .pllLockTimeout core mem serdes => Sys2Proof.Machine.execPllLockTimeout core mem serdes s
  | .bootImgGo v => Sys2Proof.Machine.execBootImgGo v s
  | .linkTrained l => Sys2Proof.Machine.execLinkTrained l s
  | .firnDieStart d ok0 ok1 check bad => Sys2Proof.Machine.execFirnDieStart d ok0 ok1 check bad s
  | .referencesSettled d cals idx => Sys2Proof.Machine.execReferencesSettled d cals idx s
  | .engineSelfTestDone n pass => Sys2Proof.Machine.execEngineSelfTestDone n pass s
  | .inputDefined ix high => Sys2Proof.Machine.execInputDefined ix high s
  | .inputIndeterminate ix => Sys2Proof.Machine.execInputIndeterminate ix s
  | .crossingTimeout init xid addr rd => Sys2Proof.Machine.execCrossingTimeout init xid addr rd s
  | .ringEnable p rec => Sys2Proof.Machine.execRingEnable p rec s
  | .ringDisable p => Sys2Proof.Machine.execRingDisable p s
  | .ringClearError p => Sys2Proof.Machine.execRingClearError p s
  | .ringConfigWrite p w v => Sys2Proof.Machine.execRingConfigWrite p w v s
  | .windowWrite p w x v => Sys2Proof.Machine.execWindowWrite p w x v s
  | .hostEnable p poll idle => Sys2Proof.Machine.execHostEnable p poll idle s
  | .hostDisable p poll idle => Sys2Proof.Machine.execHostDisable p poll idle s
  | .sqPoll p q tail head slots => Sys2Proof.Machine.execSqPoll p q tail head slots s
  | .sqIdleTimeout p q tail => Sys2Proof.Machine.execSqIdleTimeout p q tail s
  | .sqKick p q tail => Sys2Proof.Machine.execSqKick p q tail s
  | .sqDrained p q => Sys2Proof.Machine.execSqDrained p q s
  | .cqHeadPoll p c head => Sys2Proof.Machine.execCqHeadPoll p c head s
  | .interruptModerationTimeout p c => Sys2Proof.Machine.execInterruptModerationTimeout p c s
  | .msixUnmask p v => Sys2Proof.Machine.execMsixUnmask p v s
  | .busMasterEnable p => Sys2Proof.Machine.execBusMasterEnable p s
  | .eventFailover p => Sys2Proof.Machine.execEventFailover p s
  | .pcieLinkChange p up width speed => Sys2Proof.Machine.execPcieLinkChange p up width speed s
  | .nop d => Sys2Proof.Machine.execNop d s
  | .timeSet d => Sys2Proof.Machine.execTimeSet d s
  | .startDelivery d rd => Sys2Proof.Machine.execStartDelivery d rd s
  | .stopDelivery d => Sys2Proof.Machine.execStopDelivery d s
  | .stopFreezeTimeout p => Sys2Proof.Machine.execStopFreezeTimeout p s
  | .setLimit d => Sys2Proof.Machine.execSetLimit d s
  | .pointRead d => Sys2Proof.Machine.execPointRead d s
  | .switchSet d => Sys2Proof.Machine.execSwitchSet d s
  | .switchGroup d => Sys2Proof.Machine.execSwitchGroup d s
  | .switchUnlock d => Sys2Proof.Machine.execSwitchUnlock d s
  | .switchConfig d => Sys2Proof.Machine.execSwitchConfig d s
  | .switchReturn d => Sys2Proof.Machine.execSwitchReturn d s
  | .sliceReturn d => Sys2Proof.Machine.execSliceReturn d s
  | .returnSelfTestDone isSlice n code => Sys2Proof.Machine.execReturnSelfTestDone isSlice n code s
  | .connectorLock d => Sys2Proof.Machine.execConnectorLock d s
  | .pilotSet d => Sys2Proof.Machine.execPilotSet d s
  | .converterStatus d rd => Sys2Proof.Machine.execConverterStatus d rd s
  | .renegotiate d => Sys2Proof.Machine.execRenegotiate d s
  | .modemReset d => Sys2Proof.Machine.execModemReset d s
  | .ledgerRead d fs => Sys2Proof.Machine.execLedgerRead d fs s
  | .ledgerPost d rd fs => Sys2Proof.Machine.execLedgerPost d rd fs s
  | .ledgerRestore d rd full => Sys2Proof.Machine.execLedgerRestore d rd full s
  | .ledgerLookup d rd fs => Sys2Proof.Machine.execLedgerLookup d rd fs s
  | .tariffLoad d rd => Sys2Proof.Machine.execTariffLoad d rd s
  | .tariffActivate d => Sys2Proof.Machine.execTariffActivate d s
  | .firnMsg d rd => Sys2Proof.Machine.execFirnMsg d rd s
  | .seracMsg d rd => Sys2Proof.Machine.execSeracMsg d rd s
  | .appMsg d rd => Sys2Proof.Machine.execAppMsg d rd s
  | .mailboxReplyTimeout c seq => Sys2Proof.Machine.execMailboxReplyTimeout c seq s
  | .recordRead d => Sys2Proof.Machine.execRecordRead d s
  | .moraineRead d => Sys2Proof.Machine.execMoraineRead d s
  | .kyotiSend d rd => Sys2Proof.Machine.execKyotiSend d rd s
  | .sendStartTimeout p q cmdId => Sys2Proof.Machine.execSendStartTimeout p q cmdId s
  | .nodeRead d => Sys2Proof.Machine.execNodeRead d s
  | .receive d => Sys2Proof.Machine.execReceive d s
  | .remove d => Sys2Proof.Machine.execRemove d s
  | .joinWindow d => Sys2Proof.Machine.execJoinWindow d s
  | .ping d => Sys2Proof.Machine.execPing d s
  | .readLast d => Sys2Proof.Machine.execReadLast d s
  | .apdu d resp => Sys2Proof.Machine.execApdu d resp s
  | .release d => Sys2Proof.Machine.execRelease d s
  | .enable d => Sys2Proof.Machine.execEnable d s
  | .calibrate d pings => Sys2Proof.Machine.execCalibrate d pings s
  | .keyWrite d rd oldForm => Sys2Proof.Machine.execKeyWrite d rd oldForm s
  | .keyDerive d oldForm => Sys2Proof.Machine.execKeyDerive d oldForm s
  | .keyDestroy d => Sys2Proof.Machine.execKeyDestroy d s
  | .keyDestroyChildren d => Sys2Proof.Machine.execKeyDestroyChildren d s
  | .evict d => Sys2Proof.Machine.execEvict d s
  | .keyUnwrap d rd => Sys2Proof.Machine.execKeyUnwrap d rd s
  | .imageStage d rd sigOk hashOk flashOk => Sys2Proof.Machine.execImageStage d rd sigOk hashOk flashOk s
  | .hitless d => Sys2Proof.Machine.execHitless d s
  | .handoverPrepared => Sys2Proof.Machine.execHandoverPrepared s
  | .handoverDone us => Sys2Proof.Machine.execHandoverDone us s
  | .restart d => Sys2Proof.Machine.execRestart d s
  | .firnInstall d v ok0 ok1 => Sys2Proof.Machine.execFirnInstall d v ok0 ok1 s
  | .revert d => Sys2Proof.Machine.execRevert d s
  | .healthConfirm d => Sys2Proof.Machine.execHealthConfirm d s
  | .trialExpiring => Sys2Proof.Machine.execTrialExpiring s
  | .trialWindowExpiry => Sys2Proof.Machine.execTrialWindowExpiry s
  | .configLoad d rd raw sigOk oldForm => Sys2Proof.Machine.execConfigLoad d rd raw sigOk oldForm s
  | .configTakesEffect => Sys2Proof.Machine.execConfigTakesEffect s
  | .appLoad d rd imem dmem => Sys2Proof.Machine.execAppLoad d rd imem dmem s
  | .ethLink p phy => Sys2Proof.Machine.execEthLink p phy s
  | .ethFrameRx p f => Sys2Proof.Machine.execEthFrameRx p f s
  | .ptpSync p twoStep rx off trim => Sys2Proof.Machine.execPtpSync p twoStep rx off trim s
  | .ptpFollowUp p off trim => Sys2Proof.Machine.execPtpFollowUp p off trim s
  | .ptpAnnounce p st => Sys2Proof.Machine.execPtpAnnounce p st s
  | .ptpDelayReq p => Sys2Proof.Machine.execPtpDelayReq p s
  | .ptpDelayResp p delay => Sys2Proof.Machine.execPtpDelayResp p delay s
  | .ptpSyncTransmit p => Sys2Proof.Machine.execPtpSyncTransmit p s
  | .ptpAnnounceTransmit p => Sys2Proof.Machine.execPtpAnnounceTransmit p s
  | .ptpSyncTimeout p => Sys2Proof.Machine.execPtpSyncTimeout p s
  | .mdioFrame v => Sys2Proof.Machine.execMdioFrame v s
  | .mdioFrameDone data => Sys2Proof.Machine.execMdioFrameDone data s
  | .federationFrame b => Sys2Proof.Machine.execFederationFrame b s
  | .federationResultTimeout tag => Sys2Proof.Machine.execFederationResultTimeout tag s
  | .controlCycleBoundary fails meas ran => Sys2Proof.Machine.execControlCycleBoundary fails meas ran s
  | .heartbeatMissed n => Sys2Proof.Machine.execHeartbeatMissed n s
  | .mbxSend e c len payload clearNow => Sys2Proof.Machine.execMbxSend e c len payload clearNow s
  | .mbxDbSet e c v => Sys2Proof.Machine.execMbxDbSet e c v s
  | .mbxDbClear e c v setNow => Sys2Proof.Machine.execMbxDbClear e c v setNow s
  | .mbxDbMaskWrite e c v => Sys2Proof.Machine.execMbxDbMaskWrite e c v s
  | .spadApertureAccess p off w rivals => Sys2Proof.Machine.execSpadApertureAccess p off w rivals s
  | .scratchpadEccError k double => Sys2Proof.Machine.execScratchpadEccError k double s
  | .load n op rd rs1 imm rivals => Sys2Proof.Machine.execLoad n op rd rs1 imm rivals s
  | .store n op rs2 rs1 imm rivals => Sys2Proof.Machine.execStore n op rs2 rs1 imm rivals s
  | .lr n rd rs1 rivals => Sys2Proof.Machine.execLr n rd rs1 rivals s
  | .sc n rd rs2 rs1 rivals => Sys2Proof.Machine.execSc n rd rs2 rs1 rivals s
  | .amo n op rd rs2 rs1 rivals => Sys2Proof.Machine.execAmo n op rd rs2 rs1 rivals s
  | .reservationTimeout n => Sys2Proof.Machine.execReservationTimeout n s
  | .fence n predR predW => Sys2Proof.Machine.execFence n predR predW s
  | .fenceI n => Sys2Proof.Machine.execFenceI n s
  | .wfi n => Sys2Proof.Machine.execWfi n s
  | .xblstatWrite n v => Sys2Proof.Machine.execXblstatWrite n v s
  | .macs n acc rs1 rs2 => Sys2Proof.Machine.execMacs n acc rs1 rs2 s
  | .macu n acc rs1 rs2 => Sys2Proof.Machine.execMacu n acc rs1 rs2 s
  | .msus n acc rs1 rs2 => Sys2Proof.Machine.execMsus n acc rs1 rs2 s
  | .mula n acc rs1 rs2 => Sys2Proof.Machine.execMula n acc rs1 rs2 s
  | .aclr n acc => Sys2Proof.Machine.execAclr n acc s
  | .ard n rd acc imm => Sys2Proof.Machine.execArd n rd acc imm s
  | .ardx n rd acc imm => Sys2Proof.Machine.execArdx n rd acc imm s
  | .ardr n rd acc imm => Sys2Proof.Machine.execArdr n rd acc imm s
  | .awr n acc rs1 rs2 => Sys2Proof.Machine.execAwr n acc rs1 rs2 s
  | .awrh n acc rs1 => Sys2Proof.Machine.execAwrh n acc rs1 s
  | .padd16 n rd rs1 rs2 => Sys2Proof.Machine.execPadd16 n rd rs1 rs2 s
  | .psub16 n rd rs1 rs2 => Sys2Proof.Machine.execPsub16 n rd rs1 rs2 s
  | .pmulq15 n rd rs1 rs2 => Sys2Proof.Machine.execPmulq15 n rd rs1 rs2 s
  | .pmac16 n acc rs1 rs2 => Sys2Proof.Machine.execPmac16 n acc rs1 rs2 s
  | .ppack n rd rs1 rs2 => Sys2Proof.Machine.execPpack n rd rs1 rs2 s
  | .psra16 n rd rs1 imm => Sys2Proof.Machine.execPsra16 n rd rs1 imm s
  | .fdstep n rd rs1 rs2 rivals => Sys2Proof.Machine.execFdstep n rd rs1 rs2 rivals s
  | .dlset n rs1 rs2 dlie => Sys2Proof.Machine.execDlset n rs1 rs2 dlie s
  | .dlrel n rs1 dlie => Sys2Proof.Machine.execDlrel n rs1 dlie s
  | .dlwait n rd => Sys2Proof.Machine.execDlwait n rd s
  | .dlclr n => Sys2Proof.Machine.execDlclr n s
  | .deadlineExpiry n => Sys2Proof.Machine.execDeadlineExpiry n s
  | .endJob n => Sys2Proof.Machine.execEndJob n s
  | .readDeviceTime n => Sys2Proof.Machine.execReadDeviceTime n s
  | .readReleaseFcount n => Sys2Proof.Machine.execReadReleaseFcount n s
  | .readSnapshot n => Sys2Proof.Machine.execReadSnapshot n s
  | .jobRelease item fc => Sys2Proof.Machine.execJobRelease item fc s
  | .budgetOverrun n => Sys2Proof.Machine.execBudgetOverrun n s
  | .jobDeadlineMiss n => Sys2Proof.Machine.execJobDeadlineMiss n s
  | .engineMemoryEccError n => Sys2Proof.Machine.execEngineMemoryEccError n s
  | .engineUnexpectedTrap n => Sys2Proof.Machine.execEngineUnexpectedTrap n s
  | .replayComplete n first => Sys2Proof.Machine.execReplayComplete n first s
  | .checkpoint p idx est shadow => Sys2Proof.Machine.execCheckpoint p idx est shadow s
  | .spareSelfTest n pass => Sys2Proof.Machine.execSpareSelfTest n pass s
  | .retiredSelfTest n pass => Sys2Proof.Machine.execRetiredSelfTest n pass s
  | .probationComplete n clean => Sys2Proof.Machine.execProbationComplete n clean s
  | .adcStabilityTrip d a settled lost => Sys2Proof.Machine.execAdcStabilityTrip d a settled lost s
  | .laneStepStart d k => Sys2Proof.Machine.execLaneStepStart d k s
  | .seamDecision d k ys ya => Sys2Proof.Machine.execSeamDecision d k ys ya s
  | .adcCalibrationDone d a m => Sys2Proof.Machine.execAdcCalibrationDone d a m s
  | .refHaltLift d => Sys2Proof.Machine.execRefHaltLift d s
  | .reserveRecalibration d a => Sys2Proof.Machine.execReserveRecalibration d a s
  | .retiredAdcCalibration d a m => Sys2Proof.Machine.execRetiredAdcCalibration d a m s
  | .rtdReversal d src idx => Sys2Proof.Machine.execRtdReversal d src idx s
  | .channelFault ch code => Sys2Proof.Machine.execChannelFault ch code s
  | .channelFaultClear ch => Sys2Proof.Machine.execChannelFaultClear ch s
  | .calMeasure c => Sys2Proof.Machine.execCalMeasure c s
  | .calMeasureDone d raw first => Sys2Proof.Machine.execCalMeasureDone d raw first s
  | .calWrite c eff => Sys2Proof.Machine.execCalWrite c eff s
  | .refBaseline c => Sys2Proof.Machine.execRefBaseline c s
  | .calDelay c eff => Sys2Proof.Machine.execCalDelay c eff s
  | .cycleEnd p cross => Sys2Proof.Machine.execCycleEnd p cross s
  | .fixedBlockEntry p => Sys2Proof.Machine.execFixedBlockEntry p s
  | .dcBlockEnd p b => Sys2Proof.Machine.execDcBlockEnd p b s
  | .demandSubintervalEnd p t => Sys2Proof.Machine.execDemandSubintervalEnd p t s
  | .harmonicWindowEnd p => Sys2Proof.Machine.execHarmonicWindowEnd p s
  | .mdReset c => Sys2Proof.Machine.execMdReset c s
  | .energyMeasure c first => Sys2Proof.Machine.execEnergyMeasure c first s
  | .energyResult c => Sys2Proof.Machine.execEnergyResult c s
  | .controlCycleMark d dev m busy raw => Sys2Proof.Machine.execControlCycleMark d dev m busy raw s
  | .localMark d m busy raw => Sys2Proof.Machine.execLocalMark d m busy raw s
  | .restartMarkTimeout d => Sys2Proof.Machine.execRestartMarkTimeout d s
  | .freezeLineEdge p rising idx => Sys2Proof.Machine.execFreezeLineEdge p rising idx s
  | .readingRecordForm p => Sys2Proof.Machine.execReadingRecordForm p s
  | .recordAcknowledge d seq => Sys2Proof.Machine.execRecordAcknowledge d seq s
  | .flowBlockEnd p b => Sys2Proof.Machine.execFlowBlockEnd p b s
  | .pulseEdge ix isB rising t => Sys2Proof.Machine.execPulseEdge ix isB rising t s
  | .pulseHoldExpiry ix isB t => Sys2Proof.Machine.execPulseHoldExpiry ix isB t s
  | .inferredPulse ix => Sys2Proof.Machine.execInferredPulse ix s
  | .acquisitionRestart p => Sys2Proof.Machine.execAcquisitionRestart p s
  | .flowTailTimeout p idx => Sys2Proof.Machine.execFlowTailTimeout p idx s
  | .flowParam c eff => Sys2Proof.Machine.execFlowParam c eff s
  | .proveArm c => Sys2Proof.Machine.execProveArm c s
  | .proveResult c => Sys2Proof.Machine.execProveResult c s
  | .proveTimeout ix => Sys2Proof.Machine.execProveTimeout ix s
  | .sealChange d high => Sys2Proof.Machine.execSealChange d high s
  | .tamperInput d magnet high => Sys2Proof.Machine.execTamperInput d magnet high s
  | .firmwareCheckPeriodic d v => Sys2Proof.Machine.execFirmwareCheckPeriodic d v s
  | .firmwareCheck c v => Sys2Proof.Machine.execFirmwareCheck c v s
  | .legalFirmwareInstall d v ok => Sys2Proof.Machine.execLegalFirmwareInstall d v ok s
  | .legalTimeSet c eff => Sys2Proof.Machine.execLegalTimeSet c eff s
  | .rateSwitch d idx => Sys2Proof.Machine.execRateSwitch d idx s
  | .rateSchedule c mark => Sys2Proof.Machine.execRateSchedule c mark s
  | .scheduleActivation d k idx => Sys2Proof.Machine.execScheduleActivation d k idx s
  | .pfwFall d idx done => Sys2Proof.Machine.execPfwFall d idx done s
  | .pfwRise d => Sys2Proof.Machine.execPfwRise d s
  | .pfwHighTimeout d ok0 ok1 check bad => Sys2Proof.Machine.execPfwHighTimeout d ok0 ok1 check bad s
  | .pulseOut c => Sys2Proof.Machine.execPulseOut c s
  | .pulseTestOutputEdge d k => Sys2Proof.Machine.execPulseTestOutputEdge d k s
  | .pulseTestOutputEnd d k => Sys2Proof.Machine.execPulseTestOutputEnd d k s
  | .outageRead c => Sys2Proof.Machine.execOutageRead c s
  | .legalIdentity c => Sys2Proof.Machine.execLegalIdentity c s
  | .displayFrameEnd upset => Sys2Proof.Machine.execDisplayFrameEnd upset s
  | .displayFaultRewrite => Sys2Proof.Machine.execDisplayFaultRewrite s
  | .dispMap c => Sys2Proof.Machine.execDispMap c s
  | .dispScroll c => Sys2Proof.Machine.execDispScroll c s
  | .scrollDwellExpiry => Sys2Proof.Machine.execScrollDwellExpiry s
  | .dispStepPress => Sys2Proof.Machine.execDispStepPress s
  | .dispStepLongPress => Sys2Proof.Machine.execDispStepLongPress s
  | .scrollResume => Sys2Proof.Machine.execScrollResume s
  | .f1DisplayValues ok vals => Sys2Proof.Machine.execF1DisplayValues ok vals s
  | .f1ValuesStale => Sys2Proof.Machine.execF1ValuesStale s
  | .moraineRelease c => Sys2Proof.Machine.execMoraineRelease c s
  | .slotReplay n bad => Sys2Proof.Machine.execSlotReplay n bad s
  | .recordArrival d seq fs => Sys2Proof.Machine.execRecordArrival d seq fs s
  | .parkTimeout => Sys2Proof.Machine.execParkTimeout s
  | .pilotStateConfirmed ix high low => Sys2Proof.Machine.execPilotStateConfirmed ix high low s
  | .proximityConfirmed ix ohm => Sys2Proof.Machine.execProximityConfirmed ix ohm s
  | .offerBelowMinimumTimeout ix => Sys2Proof.Machine.execOfferBelowMinimumTimeout ix s
  | .overcurrent ix => Sys2Proof.Machine.execOvercurrent ix s
  | .offerTimeout ix => Sys2Proof.Machine.execOfferTimeout ix s
  | .tripStateFTimeout ix => Sys2Proof.Machine.execTripStateFTimeout ix s
  | .lockFeedbackChange ix locked => Sys2Proof.Machine.execLockFeedbackChange ix locked s
  | .lockConfirmTimeout ix => Sys2Proof.Machine.execLockConfirmTimeout ix s
  | .lockRetry ix => Sys2Proof.Machine.execLockRetry ix s
  | .lockHoldExpiry ix => Sys2Proof.Machine.execLockHoldExpiry ix s
  | .credentialExpiry ix => Sys2Proof.Machine.execCredentialExpiry ix s
  | .slacMatch ix atten sdp tls offers tls13 => Sys2Proof.Machine.execSlacMatch ix atten sdp tls offers tls13 s
  | .slacTimeout ix => Sys2Proof.Machine.execSlacTimeout ix s
  | .slacRetry ix => Sys2Proof.Machine.execSlacRetry ix s
  | .hlcAuthorization ix emaid nb na ok => Sys2Proof.Machine.execHlcAuthorization ix emaid nb na ok s
  | .hlcAuthorizationTimeout ix => Sys2Proof.Machine.execHlcAuthorizationTimeout ix s
  | .hlcPowerDelivery ix start => Sys2Proof.Machine.execHlcPowerDelivery ix start s
  | .hlcCurrentDemand ix u cur => Sys2Proof.Machine.execHlcCurrentDemand ix u cur s
  | .converterStale ix => Sys2Proof.Machine.execConverterStale ix s
  | .earthFaultTrip ix dc => Sys2Proof.Machine.execEarthFaultTrip ix dc s
  | .rdcSelfTestResult ix ok => Sys2Proof.Machine.execRdcSelfTestResult ix ok s
  | .insulationMeasurement ix r u umax long => Sys2Proof.Machine.execInsulationMeasurement ix r u umax long s
  | .cableCheckResult ix r u umax selfTest => Sys2Proof.Machine.execCableCheckResult ix r u umax selfTest s
  | .overloadTrip n => Sys2Proof.Machine.execOverloadTrip n s
  | .overloadRestartDelay n => Sys2Proof.Machine.execOverloadRestartDelay n s
  | .overtemperatureTrip n => Sys2Proof.Machine.execOvertemperatureTrip n s
  | .overtemperatureCooled n tj => Sys2Proof.Machine.execOvertemperatureCooled n tj s
  | .switchOpenLoad n => Sys2Proof.Machine.execSwitchOpenLoad n s
  | .switchFailure n code => Sys2Proof.Machine.execSwitchFailure n code s
  | .vswUndervoltage v => Sys2Proof.Machine.execVswUndervoltage v s
  | .vswRestored v => Sys2Proof.Machine.execVswRestored v s
  | .serialWatchdogExpiry => Sys2Proof.Machine.execSerialWatchdogExpiry s
  | .failsafeOnSequence => Sys2Proof.Machine.execFailsafeOnSequence s
  | .drvIsnsSelWrite v => Sys2Proof.Machine.execDrvIsnsSelWrite v s
  | .snsSelChange v => Sys2Proof.Machine.execSnsSelChange v s
  | .tokenReturn g => Sys2Proof.Machine.execTokenReturn g s
  | .deferMaxExpiry o => Sys2Proof.Machine.execDeferMaxExpiry o s
  | .rampStep p => Sys2Proof.Machine.execRampStep p s
  | .govBudgetWrite g v => Sys2Proof.Machine.execGovBudgetWrite g v s
  | .govSiteBudgetWrite v => Sys2Proof.Machine.execGovSiteBudgetWrite v s
  | .seracCycle samples passed => Sys2Proof.Machine.execSeracCycle samples passed s
  | .discrepancyTimeout f => Sys2Proof.Machine.execDiscrepancyTimeout f s
  | .seracCycleMonitorExpiry => Sys2Proof.Machine.execSeracCycleMonitorExpiry s
  | .seracDirectFault code => Sys2Proof.Machine.execSeracDirectFault code s
  | .seracOffPathFault code => Sys2Proof.Machine.execSeracOffPathFault code s
  | .degradedTimeStore => Sys2Proof.Machine.execDegradedTimeStore s
  | .seracDegradedReminder => Sys2Proof.Machine.execSeracDegradedReminder s
  | .seracDegradedExpiry => Sys2Proof.Machine.execSeracDegradedExpiry s
  | .testPulse k low high => Sys2Proof.Machine.execTestPulse k low high s
  | .thresholdSelfTest bad => Sys2Proof.Machine.execThresholdSelfTest bad s
  | .enableUntestedTimeout k => Sys2Proof.Machine.execEnableUntestedTimeout k s
  | .imageHashCheck ok => Sys2Proof.Machine.execImageHashCheck ok s
  | .seracStart hash verified => Sys2Proof.Machine.execSeracStart hash verified s
  | .seracStartTestsDone direct off => Sys2Proof.Machine.execSeracStartTestsDone direct off s
  | .login p => Sys2Proof.Machine.execLogin p s
  | .logout p => Sys2Proof.Machine.execLogout p s
  | .configRead p => Sys2Proof.Machine.execConfigRead p s
  | .configStage p => Sys2Proof.Machine.execConfigStage p s
  | .configCommit p => Sys2Proof.Machine.execConfigCommit p s
  | .passwordSet p => Sys2Proof.Machine.execPasswordSet p s
  | .logRead p => Sys2Proof.Machine.execLogRead p s
  | .logRelease p => Sys2Proof.Machine.execLogRelease p s
  | .seracRestart p => Sys2Proof.Machine.execSeracRestart p s
  | .seracSessionTimeout => Sys2Proof.Machine.execSeracSessionTimeout s
  | .lockoutExpiry => Sys2Proof.Machine.execLockoutExpiry s
  | .kyZeroCrossing t => Sys2Proof.Machine.execKyZeroCrossing t s
  | .zcLost => Sys2Proof.Machine.execZcLost s
  | .beaconTransmit => Sys2Proof.Machine.execBeaconTransmit s
  | .polledSlot => Sys2Proof.Machine.execPolledSlot s
  | .up rx => Sys2Proof.Machine.execUp rx s
  | .idle rx => Sys2Proof.Machine.execIdle rx s
  | .contention rx => Sys2Proof.Machine.execContention rx s
  | .hostData n => Sys2Proof.Machine.execHostData n s
  | .command n => Sys2Proof.Machine.execCommand n s
  | .routeReport n theta => Sys2Proof.Machine.execRouteReport n theta s
  | .joinRequest src => Sys2Proof.Machine.execJoinRequest src s
  | .leave n => Sys2Proof.Machine.execLeave n s
  | .alert n => Sys2Proof.Machine.execAlert n s
  | .transactionTimeout n => Sys2Proof.Machine.execTransactionTimeout n s
  | .lineFault why => Sys2Proof.Machine.execLineFault why s
  | .lineFaultRecovery => Sys2Proof.Machine.execLineFaultRecovery s
  | .lostAddressExpiry n => Sys2Proof.Machine.execLostAddressExpiry n s
  | .joinWindowExpiry => Sys2Proof.Machine.execJoinWindowExpiry s
  | .cellStart => Sys2Proof.Machine.execCellStart s
  | .detuningPing p a ph => Sys2Proof.Machine.execDetuningPing p a ph s
  | .confirmingPing p a ph => Sys2Proof.Machine.execConfirmingPing p a ph s
  | .baselineCapture p pings => Sys2Proof.Machine.execBaselineCapture p pings s
  | .guardExpiry n => Sys2Proof.Machine.execGuardExpiry n s
  | .cardFrameRx n f => Sys2Proof.Machine.execCardFrameRx n f s
  | .cardResponseTimeout n error => Sys2Proof.Machine.execCardResponseTimeout n error s
  | .presentationTimeout n => Sys2Proof.Machine.execPresentationTimeout n s
  | .signatureVerifyDone p ok => Sys2Proof.Machine.execSignatureVerifyDone p ok s
  | .keyRemask => Sys2Proof.Machine.execKeyRemask s
  | .drbgReseed ok => Sys2Proof.Machine.execDrbgReseed ok s
  | .tamperMonitorTrip k => Sys2Proof.Machine.execTamperMonitorTrip k s
  | .functionD3hot p enter => Sys2Proof.Machine.execFunctionD3hot p enter s
  | .overtempResetRelease => Sys2Proof.Machine.execOvertempResetRelease s
  | .firnPllRelock d => Sys2Proof.Machine.execFirnPllRelock d s
  | .announceReceiptTimeout p st => Sys2Proof.Machine.execAnnounceReceiptTimeout p st s
  | .ptpDelayReqTransmit p => Sys2Proof.Machine.execPtpDelayReqTransmit p s
  | .hlcSequenceTimeout ix => Sys2Proof.Machine.execHlcSequenceTimeout ix s
  | .preambleDetection => Sys2Proof.Machine.execPreambleDetection s
  | .kyotiFrameDiscarded rx sub => Sys2Proof.Machine.execKyotiFrameDiscarded rx sub s

end Sys2Proof.Machine
end

