-- ==== Sys2Proof/WellFormed.lean ====
section
/-!
DEFINITION. WellFormed.lean: which commands are well formed: each operand that numbers something lies in the range the spec gives it (R34,
R44, R171, R189, R208, R224, R232, R287, R301, R324, R385, R516, R553, R573, R600, R669). A command that is not well formed names nothing the
module has; its meaning is total all the same.
-/
namespace Sys2Proof

/-! ### The ranges -/

def wfEngine (n : Nat) : Bool := decide (n < 256)
/-- A register of an engine, x or f. -/
def wfReg (r : Nat) : Bool := decide (r < 32)
def wfAcc (a : Nat) : Bool := decide (a < 4)
/-- A 5-bit immediate of Xbarlux. -/
def wfImm (i : Nat) : Bool := decide (i < 32)
def wfPoint (p : Nat) : Bool := decide (p < 256)
def wfSlice (i : Nat) : Bool := decide (i < 64)
def wfSwitch (n : Nat) : Bool := decide (n < 48)
def wfGroup (g : Nat) : Bool := decide (g < 16)
def wfChannel (c : Nat) : Bool := decide (c < 192)
def wfAdc (a : Nat) : Bool := decide (a < 104)
def wfLane (k : Nat) : Bool := decide (k < 8)
def wfPulse (i : Nat) : Bool := decide (i < 64)
/-- A cluster of the C-die, and one of the three dies. -/
def wfCluster (k : Nat) : Bool := decide (k < 16)
def wfAnyCluster (k : Nat) : Bool := decide (k < 32)
/-- A safety function or an enable of Serac. -/
def wfFunc (f : Nat) : Bool := decide (f < 16)
/-- A front end and an antenna position of the reader. -/
def wfFront (n : Nat) : Bool := decide (n < 8)
def wfPos (p : Nat) : Bool := decide (p < 64)
/-- A ring, an MSI-X vector, a host memory window. -/
def wfRing (q : Nat) : Bool := decide (q < 32)
def wfVector (v : Nat) : Bool := decide (v < 64)
def wfWindow (w : Nat) : Bool := decide (w < 8)
def wfEth (p : Nat) : Bool := decide (p < 2)
/-- A pulse test output of a Firn die, and a schedule. -/
def wfPto (k : Nat) : Bool := decide (k < 8)
def wfSched (k : Nat) : Bool := decide (k < 4)
/-- The address of an access lies in BAR0, in BAR2 (from 2²⁴ on) or in configuration space (from 2²⁵ on): log entry 163. -/
def wfAddr (a : Nat) : Bool := decide (a < 0x1010000) || (decide (0x2000000 ≤ a) && decide (a < 0x2001000))
/-- The channel carries requests to a Firn die's supervisor (R195, R408). -/
def wfFirnChan (c : Chan) : Bool := match c with | .hostFirn _ _ | .fwFirn _ => true | _ => false
/-- A channel between an engine and another end names an engine of the C-die (R189). -/
def wfChan (c : Chan) : Bool :=
  match c with
  | .hostEng _ n | .engHost _ n | .fwEng n | .engFw n => decide (n < 128)
  | _ => true
def wfQObj (o : QObj) : Bool := match o with | .start p => wfPoint p | .on n => wfSwitch n | .restart n _ => wfSwitch n
/-- A descriptor of a submission ring (R145). -/
def wfDesc (d : Desc) : Bool := wfRing d.sq

/-- Is the command well formed? -/
def Instr.wellFormed : Instr → Bool
  | .registerWrite _ a _ _ _ => wfAddr a
  | .stickyBitClear _ a _ _ => wfAddr a
  | .readToClear _ a _ => wfAddr a
  | .pwrDvfsWrite _ => true
  | .vokSet => true
  | .fselInEffect => true
  | .clusterIdleEntry k => wfCluster k
  | .sleepEntry _ => true
  | .wake _ _ => true
  | .gatedBlockAccess => true
  | .pwrReqDeepSleep => true
  | .pwrReqOff _ => true
  | .frameBusyTimeout => true
  | .wakePolWrite _ => true
  | .wakeBallAssert => true
  | .aonAlarm => true
  | .wakePortAddressMatch _ => true
  | .wakePortDataByte _ => true
  | .wakePortStop => true
  | .wakePortStuck => true
  | .wakeBufferRelease => true
  | .refclkLoss => true
  | .corePllUnlock => true
  | .corePllRelock => true
  | .memPllUnlock => true
  | .memPllRelock _ => true
  | .serdesPllUnlock => true
  | .aonOscFail => true
  | .railPowerGood _ => true
  | .railFail _ => true
  | .resetNAssert => true
  | .sysctrlWatchdogExpiry => true
  | .rstCtrlWrite _ => true
  | .cDieReset _ => true
  | .cDieOvertemp => true
  | .firnDieReset _ => true
  | .dDieReset => true
  | .perst _ => true
  | .functionLevelReset _ => true
  | .bootStageAdvance _ _ _ _ _ => true
  | .pllLockTimeout _ _ _ => true
  | .bootImgGo _ => true
  | .linkTrained _ => true
  | .firnDieStart _ _ _ _ _ => true
  | .referencesSettled _ _ _ => true
  | .engineSelfTestDone n _ => wfEngine n
  | .inputDefined _ _ => true
  | .inputIndeterminate _ => true
  | .crossingTimeout _ _ _ _ => true
  | .ringEnable _ _ => true
  | .ringDisable _ => true
  | .ringClearError _ => true
  | .ringConfigWrite _ _ _ => true
  | .windowWrite _ w _ _ => wfWindow w
  | .hostEnable _ _ _ => true
  | .hostDisable _ _ _ => true
  | .sqPoll _ q _ _ _ => wfRing q
  | .sqIdleTimeout _ q _ => wfRing q
  | .sqKick _ q _ => wfRing q
  | .sqDrained _ q => wfRing q
  | .cqHeadPoll _ c _ => wfRing c
  | .interruptModerationTimeout _ c => wfRing c
  | .msixUnmask _ v => wfVector v
  | .busMasterEnable _ => true
  | .eventFailover _ => true
  | .pcieLinkChange _ _ _ _ => true
  | .nop d => wfDesc d
  | .timeSet d => wfDesc d
  | .startDelivery d _ => wfDesc d
  | .stopDelivery d => wfDesc d
  | .stopFreezeTimeout p => wfPoint p
  | .setLimit d => wfDesc d
  | .pointRead d => wfDesc d
  | .switchSet d => wfDesc d
  | .switchGroup d => wfDesc d
  | .switchUnlock d => wfDesc d
  | .switchConfig d => wfDesc d
  | .switchReturn d => wfDesc d
  | .sliceReturn d => wfDesc d
  | .returnSelfTestDone _ _ _ => true
  | .connectorLock d => wfDesc d
  | .pilotSet d => wfDesc d
  | .converterStatus d _ => wfDesc d
  | .renegotiate d => wfDesc d
  | .modemReset d => wfDesc d
  | .ledgerRead d _ => wfDesc d
  | .ledgerPost d _ _ => wfDesc d
  | .ledgerRestore d _ _ => wfDesc d
  | .ledgerLookup d _ _ => wfDesc d
  | .tariffLoad d _ => wfDesc d
  | .tariffActivate d => wfDesc d
  | .firnMsg d _ => wfDesc d
  | .seracMsg d _ => wfDesc d
  | .appMsg d _ => wfDesc d
  | .mailboxReplyTimeout c _ => wfChan c
  | .recordRead d => wfDesc d
  | .moraineRead d => wfDesc d
  | .kyotiSend d _ => wfDesc d
  | .sendStartTimeout _ _ _ => true
  | .nodeRead d => wfDesc d
  | .receive d => wfDesc d
  | .remove d => wfDesc d
  | .joinWindow d => wfDesc d
  | .ping d => wfDesc d
  | .readLast d => wfDesc d
  | .apdu d _ => wfDesc d
  | .release d => wfDesc d
  | .enable d => wfDesc d
  | .calibrate d l => wfDesc d && decide (l.length = 64)
  | .keyWrite d _ _ => wfDesc d
  | .keyDerive d _ => wfDesc d
  | .keyDestroy d => wfDesc d
  | .keyDestroyChildren d => wfDesc d
  | .evict d => wfDesc d
  | .keyUnwrap d _ => wfDesc d
  | .imageStage d _ _ _ _ => wfDesc d
  | .hitless d => wfDesc d
  | .handoverPrepared => true
  | .handoverDone _ => true
  | .restart d => wfDesc d
  | .firnInstall d _ _ _ => wfDesc d
  | .revert d => wfDesc d
  | .healthConfirm d => wfDesc d
  | .trialExpiring => true
  | .trialWindowExpiry => true
  | .configLoad d _ _ _ _ => wfDesc d
  | .configTakesEffect => true
  | .appLoad d _ _ _ => wfDesc d
  | .ethLink p _ => wfEth p
  | .ethFrameRx p _ => wfEth p
  | .ptpSync p _ _ _ _ => wfEth p
  | .ptpFollowUp p _ _ => wfEth p
  | .ptpAnnounce p _ => wfEth p
  | .ptpDelayReq p => wfEth p
  | .ptpDelayResp p _ => wfEth p
  | .ptpSyncTransmit p => wfEth p
  | .ptpAnnounceTransmit p => wfEth p
  | .ptpSyncTimeout p => wfEth p
  | .mdioFrame _ => true
  | .mdioFrameDone _ => true
  | .federationFrame _ => true
  | .federationResultTimeout _ => true
  | .controlCycleBoundary _ _ ran => ran.all fun x => wfEngine x.1
  | .heartbeatMissed n => wfEngine n
  | .mbxSend _ c _ _ _ => wfChan c
  | .mbxDbSet _ c _ => wfChan c
  | .mbxDbClear _ c _ _ => wfChan c
  | .mbxDbMaskWrite _ c _ => wfChan c
  | .spadApertureAccess _ _ _ _ => true
  | .scratchpadEccError k _ => wfAnyCluster k
  | .load n _ rd rs1 _ _ => wfEngine n && wfReg rd && wfReg rs1
  | .store n _ rs2 rs1 _ _ => wfEngine n && wfReg rs2 && wfReg rs1
  | .lr n rd rs1 _ => wfEngine n && wfReg rd && wfReg rs1
  | .sc n rd rs2 rs1 _ => wfEngine n && wfReg rd && wfReg rs2 && wfReg rs1
  | .amo n _ rd rs2 rs1 _ => wfEngine n && wfReg rd && wfReg rs2 && wfReg rs1
  | .reservationTimeout n => wfEngine n
  | .fence n _ _ => wfEngine n
  | .fenceI n => wfEngine n
  | .wfi n => wfEngine n
  | .xblstatWrite n _ => wfEngine n
  | .macs n acc rs1 rs2 => wfEngine n && wfAcc acc && wfReg rs1 && wfReg rs2
  | .macu n acc rs1 rs2 => wfEngine n && wfAcc acc && wfReg rs1 && wfReg rs2
  | .msus n acc rs1 rs2 => wfEngine n && wfAcc acc && wfReg rs1 && wfReg rs2
  | .mula n acc rs1 rs2 => wfEngine n && wfAcc acc && wfReg rs1 && wfReg rs2
  | .aclr n acc => wfEngine n && wfAcc acc
  | .ard n rd acc imm => wfEngine n && wfReg rd && wfAcc acc && wfImm imm
  | .ardx n rd acc imm => wfEngine n && wfReg rd && wfAcc acc && wfImm imm
  | .ardr n rd acc imm => wfEngine n && wfReg rd && wfAcc acc && wfImm imm
  | .awr n acc rs1 rs2 => wfEngine n && wfAcc acc && wfReg rs1 && wfReg rs2
  | .awrh n acc rs1 => wfEngine n && wfAcc acc && wfReg rs1
  | .padd16 n rd rs1 rs2 => wfEngine n && wfReg rd && wfReg rs1 && wfReg rs2
  | .psub16 n rd rs1 rs2 => wfEngine n && wfReg rd && wfReg rs1 && wfReg rs2
  | .pmulq15 n rd rs1 rs2 => wfEngine n && wfReg rd && wfReg rs1 && wfReg rs2
  | .pmac16 n acc rs1 rs2 => wfEngine n && wfAcc acc && wfReg rs1 && wfReg rs2
  | .ppack n rd rs1 rs2 => wfEngine n && wfReg rd && wfReg rs1 && wfReg rs2
  | .psra16 n rd rs1 imm => wfEngine n && wfReg rd && wfReg rs1 && wfImm imm
  | .fdstep n rd rs1 rs2 _ => wfEngine n && wfReg rd && wfReg rs1 && wfReg rs2
  | .dlset n rs1 rs2 _ => wfEngine n && wfReg rs1 && wfReg rs2
  | .dlrel n rs1 _ => wfEngine n && wfReg rs1
  | .dlwait n rd => wfEngine n && wfReg rd
  | .dlclr n => wfEngine n
  | .deadlineExpiry n => wfEngine n
  | .endJob n => wfEngine n
  | .readDeviceTime n => wfEngine n
  | .readReleaseFcount n => wfEngine n
  | .readSnapshot n => wfEngine n
  | .jobRelease _ _ => true
  | .budgetOverrun n => wfEngine n
  | .jobDeadlineMiss n => wfEngine n
  | .engineMemoryEccError n => wfEngine n
  | .engineUnexpectedTrap n => wfEngine n
  | .replayComplete n _ => wfEngine n
  | .checkpoint p _ _ _ => wfPoint p
  | .spareSelfTest n _ => wfEngine n
  | .retiredSelfTest n _ => wfEngine n
  | .probationComplete n _ => wfEngine n
  | .adcStabilityTrip _ a _ _ => wfAdc a
  | .laneStepStart _ k => wfLane k
  | .seamDecision _ k _ _ => wfLane k
  | .adcCalibrationDone _ a _ => wfAdc a
  | .refHaltLift _ => true
  | .reserveRecalibration _ a => wfAdc a
  | .retiredAdcCalibration _ a _ => wfAdc a
  | .rtdReversal _ _ _ => true
  | .channelFault ch _ => wfChannel ch
  | .channelFaultClear ch => wfChannel ch
  | .calMeasure c => wfFirnChan c
  | .calMeasureDone _ _ _ => true
  | .calWrite c _ => wfFirnChan c
  | .refBaseline c => wfFirnChan c
  | .calDelay c _ => wfFirnChan c
  | .cycleEnd p _ => wfPoint p
  | .fixedBlockEntry p => wfPoint p
  | .dcBlockEnd p _ => wfPoint p
  | .demandSubintervalEnd p _ => wfPoint p
  | .harmonicWindowEnd p => wfPoint p
  | .mdReset c => wfFirnChan c
  | .energyMeasure c _ => wfFirnChan c
  | .energyResult c => wfFirnChan c
  | .controlCycleMark _ _ _ _ _ => true
  | .localMark _ _ _ _ => true
  | .restartMarkTimeout _ => true
  | .freezeLineEdge p _ _ => wfPoint p
  | .readingRecordForm p => wfPoint p
  | .recordAcknowledge _ _ => true
  | .flowBlockEnd p _ => wfPoint p
  | .pulseEdge i _ _ _ => wfPulse i
  | .pulseHoldExpiry i _ _ => wfPulse i
  | .inferredPulse i => wfPulse i
  | .acquisitionRestart p => wfPoint p
  | .flowTailTimeout p _ => wfPoint p
  | .flowParam c _ => wfFirnChan c
  | .proveArm c => wfFirnChan c
  | .proveResult c => wfFirnChan c
  | .proveTimeout i => wfPulse i
  | .sealChange _ _ => true
  | .tamperInput _ _ _ => true
  | .firmwareCheckPeriodic _ _ => true
  | .firmwareCheck c _ => wfFirnChan c
  | .legalFirmwareInstall _ _ _ => true
  | .legalTimeSet c _ => wfFirnChan c
  | .rateSwitch _ _ => true
  | .rateSchedule c _ => wfFirnChan c
  | .scheduleActivation _ k _ => wfSched k
  | .pfwFall _ _ _ => true
  | .pfwRise _ => true
  | .pfwHighTimeout _ _ _ _ _ => true
  | .pulseOut c => wfFirnChan c
  | .pulseTestOutputEdge _ k => wfPto k
  | .pulseTestOutputEnd _ k => wfPto k
  | .outageRead c => wfFirnChan c
  | .legalIdentity c => wfFirnChan c
  | .displayFrameEnd _ => true
  | .displayFaultRewrite => true
  | .dispMap c => wfFirnChan c
  | .dispScroll c => wfFirnChan c
  | .scrollDwellExpiry => true
  | .dispStepPress => true
  | .dispStepLongPress => true
  | .scrollResume => true
  | .f1DisplayValues _ _ => true
  | .f1ValuesStale => true
  | .moraineRelease c => wfFirnChan c
  | .slotReplay _ _ => true
  | .recordArrival _ _ _ => true
  | .parkTimeout => true
  | .pilotStateConfirmed i _ _ => wfSlice i
  | .proximityConfirmed i _ => wfSlice i
  | .offerBelowMinimumTimeout i => wfSlice i
  | .overcurrent i => wfSlice i
  | .offerTimeout i => wfSlice i
  | .tripStateFTimeout i => wfSlice i
  | .lockFeedbackChange i _ => wfSlice i
  | .lockConfirmTimeout i => wfSlice i
  | .lockRetry i => wfSlice i
  | .lockHoldExpiry i => wfSlice i
  | .credentialExpiry i => wfSlice i
  | .slacMatch i _ _ _ _ _ => wfSlice i
  | .slacTimeout i => wfSlice i
  | .slacRetry i => wfSlice i
  | .hlcAuthorization i _ _ _ _ => wfSlice i
  | .hlcAuthorizationTimeout i => wfSlice i
  | .hlcPowerDelivery i _ => wfSlice i
  | .hlcCurrentDemand i _ _ => wfSlice i
  | .converterStale i => wfSlice i
  | .earthFaultTrip i _ => wfSlice i
  | .rdcSelfTestResult i _ => wfSlice i
  | .insulationMeasurement i _ _ _ _ => wfSlice i
  | .cableCheckResult i _ _ _ _ => wfSlice i
  | .overloadTrip n => wfSwitch n
  | .overloadRestartDelay n => wfSwitch n
  | .overtemperatureTrip n => wfSwitch n
  | .overtemperatureCooled n _ => wfSwitch n
  | .switchOpenLoad n => wfSwitch n
  | .switchFailure n _ => wfSwitch n
  | .vswUndervoltage _ => true
  | .vswRestored _ => true
  | .serialWatchdogExpiry => true
  | .failsafeOnSequence => true
  | .drvIsnsSelWrite _ => true
  | .snsSelChange _ => true
  | .tokenReturn g => wfGroup g
  | .deferMaxExpiry o => wfQObj o
  | .rampStep p => wfPoint p
  | .govBudgetWrite g _ => wfGroup g
  | .govSiteBudgetWrite _ => true
  | .seracCycle _ _ => true
  | .discrepancyTimeout f => wfFunc f
  | .seracCycleMonitorExpiry => true
  | .seracDirectFault _ => true
  | .seracOffPathFault _ => true
  | .degradedTimeStore => true
  | .seracDegradedReminder => true
  | .seracDegradedExpiry => true
  | .testPulse k _ _ => wfFunc k
  | .thresholdSelfTest _ => true
  | .enableUntestedTimeout k => wfFunc k
  | .imageHashCheck _ => true
  | .seracStart _ _ => true
  | .seracStartTestsDone _ _ => true
  | .login _ => true
  | .logout _ => true
  | .configRead _ => true
  | .configStage _ => true
  | .configCommit _ => true
  | .passwordSet _ => true
  | .logRead _ => true
  | .logRelease _ => true
  | .seracRestart _ => true
  | .seracSessionTimeout => true
  | .lockoutExpiry => true
  | .kyZeroCrossing _ => true
  | .zcLost => true
  | .beaconTransmit => true
  | .polledSlot => true
  | .up _ => true
  | .idle _ => true
  | .contention _ => true
  | .hostData _ => true
  | .command _ => true
  | .routeReport _ _ => true
  | .joinRequest _ => true
  | .leave _ => true
  | .alert _ => true
  | .transactionTimeout _ => true
  | .lineFault _ => true
  | .lineFaultRecovery => true
  | .lostAddressExpiry _ => true
  | .joinWindowExpiry => true
  | .cellStart => true
  | .detuningPing p _ _ => wfPos p
  | .confirmingPing p _ _ => wfPos p
  | .baselineCapture p l => wfPos p && decide (l.length = 16)
  | .guardExpiry n => wfFront n
  | .cardFrameRx n _ => wfFront n
  | .cardResponseTimeout n _ => wfFront n
  | .presentationTimeout n => wfFront n
  | .signatureVerifyDone p _ => wfPos p
  | .keyRemask => true
  | .drbgReseed _ => true
  | .tamperMonitorTrip _ => true
  | .functionD3hot _ _ => true
  | .overtempResetRelease => true
  | .firnPllRelock _ => true
  | .announceReceiptTimeout p _ => wfEth p
  | .ptpDelayReqTransmit p => wfEth p
  | .hlcSequenceTimeout i => wfSlice i
  | .preambleDetection => true
  | .kyotiFrameDiscarded _ _ => true

end Sys2Proof
end

