-- ==== Sys2Proof/Safety.lean ====
section
/-!
DEFINITION. Safety.lean: what the statements are about: the conditions that every step keeps, and the conditions under which a command runs.
-/
namespace Sys2Proof.Machine

/-- A step that answers a next state: no command of the module stops it (log entry 7). -/
def Completes (r : Host.Outcome State Fault Refusal) : Prop := ∃ t, r = .next t

/-- Memory is in its one form (R207): the invariant that every step keeps. -/
def State.memOk (s : State) : Prop := Memory.wf s.mem = true

/-- The state with a descriptor in flight that counts as fetched now (R159). -/
def State.taken (s : State) (d : Desc) : State := s.takeOff d.port d.sq

/-- A descriptor that SQ_POLL has not fetched before runs now: the module serves descriptors and may fetch from its SQ, nothing makes it
wait (R160, R163), and the checks 1 to 5 of R161 pass. -/
def State.accepts (s : State) (op : Nat) (d : Desc) : Bool :=
  s.serves && !(s.host d.port).fetched.any (fun f => f.op == op && f.d == d) && s.mayFetch d.port d.sq
  && !(s.taken d).descWaits op d ((s.taken d).ticket d).n && (s.taken d).checkDesc op d == none

/-- An engine takes the instruction that the command names: it runs, and no enabled interrupt is due first (R227). -/
def State.engReady (s : State) (n : Nat) : Bool := s.engRuns n && (s.core n).irqDue.isNone

/-- An access of `len` bytes that protection allows, to plain memory whole (R218, R228): the memory address of its first byte. -/
def State.plainAt (s : State) (n a len : Nat) (k : AccKind) : Option (Nat × Bool) :=
  match s.mpuRefusal n a len k, place n a, place n (a + len - 1) with
  | none, .mem x amo, .mem _ _ => some (x, amo)
  | _, _, _ => none

/-- The bytes of the message in a channel, filled to a whole request (R195, R316). -/
def State.reqBytes (s : State) (c : Chan) : List Byte := padTo 256 ((s.chan c).payload.take (s.chan c).len)

/-- The supervisor of a live Firn die finds a request of a TYPE in its channel (R195, R316). -/
def State.takes (s : State) (c : Chan) (typ : Nat) (d : Firn) : Bool :=
  Chan.firn c == some d && s.firnLive d && (s.chan c).posted && field (s.reqBytes c) 2 2 == typ

/-- Serac, when it is not OFF, finds a request of a TYPE in the channel of a port (R204, R612). -/
def State.seracTakes (s : State) (p : Port) (typ : Nat) : Bool :=
  s.serac.st != 0 && (s.chan (.hostSerac p)).posted && field (s.reqBytes (.hostSerac p)) 2 2 == typ

/-- The commands that can store to the memories of R207: an engine's stores, reserved and atomic accesses, the fences that empty its
store buffer, a snapshot, a write of an aperture or a register, the boundary (an image that is loaded), and a start from Off. -/
def mayStore : Instr → Bool
  | .store .. | .lr .. | .sc .. | .amo .. | .fence .. | .fenceI .. | .readSnapshot .. | .spadApertureAccess .. | .registerWrite ..
  | .controlCycleBoundary .. | .wakeBallAssert => true
  | _ => false

end Sys2Proof.Machine
end

