-- ==== Sys2Proof/Certificates/Slice0/Obligations.lean ====
section
/-!
DEFINITION. Certificates/Slice0/Obligations.lean: the statements for the provers.
-/
open Sys2Proof Sys2Proof.Machine

/-- A PWR_DVFS write is refused with its cause, or changes the operating point -/
def Obligations.DvfsWrites : Prop :=
  (∀ (s : State) (w : W32), (bitsAt w.toNat 0 2 = s.get Fld.PWR_DVFS__VSEL 0) → (bitsAt w.toNat 4 2 = s.get Fld.PWR_DVFS__FSEL 0) → exec (.pwrDvfsWrite w) s = .next s) ∧
  (∀ (s : State) (w : W32) (c : Nat), (¬(bitsAt w.toNat 0 2 = s.get Fld.PWR_DVFS__VSEL 0 ∧ bitsAt w.toNat 4 2 = s.get Fld.PWR_DVFS__FSEL 0)) → (dvfsCause (s.pwr ≤ 1) (s.flag Fld.PWR_DVFS__VOK 0) (s.get Fld.PWR_DVFS__FLOOR 0) (s.get Fld.PWR_DVFS__VSEL 0) (s.get Fld.PWR_DVFS__FSEL 0) (bitsAt w.toNat 0 2) (bitsAt w.toNat 4 2) = some c) → (c < 16) → ∃ t, exec (.pwrDvfsWrite w) s = .next t ∧ t.get Fld.PWR_DVFS_ERR__ERR 0 = 1 ∧ t.get Fld.PWR_DVFS_ERR__CAUSE 0 = c ∧ t.reg .PWR_DVFS 0 = s.reg .PWR_DVFS 0) ∧
  (∀ (s : State) (w : W32), (¬(bitsAt w.toNat 0 2 = s.get Fld.PWR_DVFS__VSEL 0 ∧ bitsAt w.toNat 4 2 = s.get Fld.PWR_DVFS__FSEL 0)) → (dvfsCause (s.pwr ≤ 1) (s.flag Fld.PWR_DVFS__VOK 0) (s.get Fld.PWR_DVFS__FLOOR 0) (s.get Fld.PWR_DVFS__VSEL 0) (s.get Fld.PWR_DVFS__FSEL 0) (bitsAt w.toNat 0 2) (bitsAt w.toNat 4 2) = none) → ∃ t, exec (.pwrDvfsWrite w) s = .next t ∧ t.get Fld.PWR_DVFS__VSEL 0 = bitsAt w.toNat 0 2 ∧ t.get Fld.PWR_DVFS__FSEL 0 = bitsAt w.toNat 4 2 ∧ (bitsAt w.toNat 0 2 ≠ s.get Fld.PWR_DVFS__VSEL 0 → t.get Fld.PWR_DVFS__VOK 0 = 0) ∧ t.reg .PWR_DVFS_ERR 0 = s.reg .PWR_DVFS_ERR 0) ∧
  (∀ (run vok : Bool) (floor v f w g : Nat), (dvfsCause run vok floor v f w g = none ↔ run = true ∧ w ≠ 3 ∧ g ≠ 3 ∧ (w = v ∨ g = f) ∧ (g < f → v ≤ g) ∧ (v < w → w ≤ f) ∧ (g < f → vok = true) ∧ (g ≠ f → g ≤ floor))) ∧
  (∀ (run vok : Bool) (floor v f w g : Nat), (dvfsCause run vok floor v f w g = none) → (v ≤ f) → w ≤ g)

/-- Wake configuration, the wake port and the preamble of Kyoti -/
def Obligations.WakePort : Prop :=
  (∀ (s : State) (v : W32), ∃ t, exec (.wakePolWrite v) s = .next t ∧ t.reg .PWR_WAKE_EN 0 = (v &&& 0x800007FF) ||| 0x3800 ∧ t.power.polLatch = bitAt v.toNat 31) ∧
  (∀ (s : State), (¬(s.reg .PWR_ALARM_LO 0 = 0 ∧ s.reg .PWR_ALARM_HI 0 = 0)) → (s.power.entered ≠ 5) → exec .aonAlarm s = .next (s.wakeSource 2)) ∧
  (∀ (s : State) (rd : Bool), (s.power.entered ≠ 5) → (s.flag Fld.WP_CFG__EN 0 = true) → ∃ t, exec (.wakePortAddressMatch rd) s = .next t ∧ t.power.wpFrame = true ∧ t.power.wpRead = (if rd then some 0 else none) ∧ (s.wpMatches = true → bitAt (t.get Fld.PWR_WAKE_SRC__SRC 0) 1 = true)) ∧
  (∀ (s : State) (b : Byte), (s.power.wpFrame = true) → (s.power.wpRead = none) → (s.wpMatches = true) → (s.power.wpOld = false) → (s.get Fld.WP_STATUS__COUNT 0 < 32) → ∃ t, exec (.wakePortDataByte b) s = .next t ∧ t.get Fld.WP_STATUS__COUNT 0 = s.get Fld.WP_STATUS__COUNT 0 + 1 ∧ t.get Fld.WP_STATUS__VALID 0 = 1) ∧
  (∀ (s : State) (b : Byte), (s.power.wpFrame = true) → (s.power.wpRead = none) → (s.wpMatches = false) → exec (.wakePortDataByte b) s = .next (s.setPower { s.power with wpFifo := s.power.wpFifo ++ [b] })) ∧
  (∀ (s : State) (b : Byte) (n : Nat), (s.power.wpFrame = true) → (s.power.wpRead = some n) → (s.wpMatches = true) → exec (.wakePortDataByte b) s = .next ((s.setPower { s.power with wpRead := some (n + 1) }).emit (.wakePort (if n = 0 then BitVec.ofNat 8 s.pwr else 255)))) ∧
  (∀ (s : State), ∃ t, exec .wakeBufferRelease s = .next t ∧ t.get Fld.WP_STATUS__COUNT 0 = 0 ∧ t.get Fld.WP_STATUS__VALID 0 = 0 ∧ t.power.wpOld = false) ∧
  (∀ (s : State), exec .preambleDetection s = .next (s.setPower { s.power with kyFrame := true }))

/-- Clock failures set their sticky bit and the consequence R73 gives -/
def Obligations.ClockFailures : Prop :=
  (∀ (s : State), ∃ t, exec .corePllUnlock s = .next t ∧ t.get Fld.CLK_ERR__CORE_UNLOCK 0 = 1 ∧ t.get Fld.CLK_STATUS__CORE_PLL_LOCK 0 = 0 ∧ t.dieRuns .cdie = false) ∧
  (∀ (s : State), ∃ t, exec .memPllUnlock s = .next t ∧ t.get Fld.CLK_ERR__MEM_UNLOCK 0 = 1 ∧ t.get Fld.CLK_STATUS__MEM_PLL_LOCK 0 = 0 ∧ t.power.memStall = true) ∧
  (∀ (s : State), ∃ t, exec .serdesPllUnlock s = .next t ∧ t.get Fld.CLK_ERR__SERDES_UNLOCK 0 = 1 ∧ t.get Fld.CLK_STATUS__SERDES_PLL_LOCK 0 = 0 ∧ t.get Fld.ETH_STATUS__LINK 0 = 0 ∧ t.get Fld.ETH_STATUS__LINK 1 = 0) ∧
  (∀ (s : State), ∃ t, exec .aonOscFail s = .next t ∧ t.get Fld.CLK_ERR__AON_OSC_FAIL 0 = 1 ∧ t.get Fld.CLK_STATUS__AON_OSC_OK 0 = 0) ∧
  (∀ (s : State) (init xid addr : Nat) (rd : Bool), (s.pwr ≠ 2) → ∃ t, exec (.crossingTimeout init xid addr rd) s = .next t ∧ t.get Fld.FAB_XERR__TIMEOUT 0 = 1 ∧ (rd = true ∧ init ≤ 1 → t.out.getLast? = some (.readValue 0xFFFFFFFF))) ∧
  (∀ (s : State), (s.ledger.parking = true) → ∃ t, exec (.memPllRelock true) s = .next t ∧ t.get Fld.CLK_STATUS__MEM_PLL_LOCK 0 = 1 ∧ t.power.memStall = false ∧ t.power.memOff = false)

/-- Entry to Idle, Sleep, Deep sleep and Off, and the refusals of PWR_REQ -/
def Obligations.PowerStateEntry : Prop :=
  (∀ (s : State) (k : Nat), (k < 16) → (s.clusterQuiet k = true) → (s.pwr ≤ 1) → (s.dieRuns .cdie = true) → ∃ t, exec (.clusterIdleEntry k) s = .next t ∧ bitAt (t.get Fld.PWR_STATE__CLUSTER_IDLE 0) k = true) ∧
  (∀ (s : State) (dma : Bool), (s.sleepReady dma = true) → (s.flag Fld.PWR_IDLE_CFG__SLEEP_FIRN 0 = true) → (s.flag Fld.PWR_IDLE_CFG__SLEEP_KYOTI 0 = true) → (s.flag Fld.PWR_IDLE_CFG__SLEEP_READER 0 = true) → exec (.sleepEntry dma) s = .next (((((s.passCommit 2).setPower { (s.passCommit 2).power with savedFsel := s.get Fld.PWR_DVFS__FSEL 0, savedVsel := s.get Fld.PWR_DVFS__VSEL 0, fselNow := 2 }).put Fld.PWR_DVFS__FSEL 0 2).put Fld.PWR_DVFS__VSEL 0 2).put Fld.PWR_DVFS__VOK 0 1 |>.sleepLink .h0 |>.sleepLink .h1)) ∧
  (∀ (s : State) (dma : Bool), (s.sleepReady dma = false) → exec (.sleepEntry dma) s = .next s) ∧
  (∀ (s : State) (k : Nat), (s.clusterQuiet k = false ∨ 1 < s.pwr) → exec (.clusterIdleEntry k) s = .next s) ∧
  (∀ (s : State) (c : Nat) (off : Bool), (s.pwr ≤ 1) → (s.dropRequest.reqRefusal off = some c) → exec (if off then .pwrReqOff true else .pwrReqDeepSleep) s = .next (s.dropRequest.reqStatus 3 c)) ∧
  (∀ (s : State) (off : Bool), (s.pwr ≤ 1) → (s.dropRequest.reqRefusal off = none) → (s.dropRequest.frameBusy = true) → exec (if off then .pwrReqOff true else .pwrReqDeepSleep) s = .next ((s.dropRequest.setPower { s.dropRequest.power with deferred := if off then 2 else 1 }).reqStatus 1 4)) ∧
  (∀ (s : State), (s.pwr ≤ 1) → (s.dropRequest.reqRefusal false = none) → (s.dropRequest.frameBusy = false) → exec .pwrReqDeepSleep s = .next (s.dropRequest.enterDeep false)) ∧
  (∀ (s : State), (s.pwr ≤ 1) → (s.dropRequest.reqRefusal true = none) → (s.dropRequest.frameBusy = false) → exec (.pwrReqOff true) s = .next (s.dropRequest.ledgerPark.enterDeep true)) ∧
  (∀ (s : State), (s.pwr ≤ 1) → (s.dropRequest.reqRefusal true = none) → (s.dropRequest.frameBusy = false) → exec (.pwrReqOff false) s = .next ((s.dropRequest.setLedger { s.dropRequest.ledger with parking := true }).reqStatus 1 7)) ∧
  (∀ (s : State) (parked : Bool), (1 < s.pwr) → exec .pwrReqDeepSleep s = .next s ∧ exec (.pwrReqOff parked) s = .next s) ∧
  (∀ (s : State) (r c : Nat), (r < 16) → (c < 16) → (s.reqStatus r c).get Fld.PWR_REQ_STATUS__RESULT 0 = r ∧ (s.reqStatus r c).get Fld.PWR_REQ_STATUS__CAUSE 0 = c ∧ (s.reqStatus r c).pwr = s.pwr) ∧
  (∀ (s : State), exec .parkTimeout s = .next (if s.ledger.parking = true then s.parkFailed.reqStatus 3 7 else s)) ∧
  (∀ (s : State), exec .frameBusyTimeout s = .next (if s.power.deferred ≠ 0 ∧ s.frameBusy = true then (s.setPower { s.power with deferred := 0 }).reqStatus 3 4 else s)) ∧
  (∀ (s : State), exec .gatedBlockAccess s = .next (if s.pwr = 2 then s.wakeSource 12 else s))

/-- The end of a wake-port frame, the WAKE ball, and wake from Sleep -/
def Obligations.WakeAndFrames : Prop :=
  (∀ (s : State), exec .wakePortStop s = .next ((s.setPower { s.power with wpFrame := false, wpMatcher := false, wpRead := none }).retryRequest)) ∧
  (∀ (s : State), (s.power.wpFrame = true) → exec .wakePortStuck s = .next (((s.bump Fld.WP_STATUS__NACKED 0 1).setPower { s.power with wpFrame := false, wpMatcher := false, wpRead := none }).retryRequest)) ∧
  (∀ (s : State), (s.input .wake ≠ .undet) → (s.power.entered ≠ 5) → exec .wakeBallAssert s = .next (s.wakeSource 0)) ∧
  (∀ (s : State), (s.input .wake ≠ .undet) → (s.power.entered = 5) → exec .wakeBallAssert s = .next (s.startFromOff.wakeSource 0)) ∧
  (∀ (s : State), (s.input .wake = .undet) → exec .wakeBallAssert s = .next s) ∧
  (∀ (s : State), (s.power.wpFrame = false) → exec .wakePortStuck s = .next s) ∧
  (∀ (s : State) (src ticks : Nat), ((s.wakeSource src).mayWake src = false) → exec (.wake src ticks) s = .next (s.wakeSource src)) ∧
  (∀ (s : State) (src ticks : Nat), (s.pwr = 2) → ((s.wakeSource src).mayWake src = true) → ∃ t, exec (.wake src ticks) s = .next t ∧ t.power.committed = false ∧ t.power.entered = 0 ∧ t.power.fselNow = s.power.savedFsel)

/-- REFCLK loss, the relock of the PLLs, and the end of an operating-point change -/
def Obligations.ClockRelock : Prop :=
  (∀ (s : State), (s.power.raiseTo = none) → exec .vokSet s = .next (s.put Fld.PWR_DVFS__VOK 0 1)) ∧
  (∀ (s : State), exec .vokSet s = .next (s.put Fld.PWR_DVFS__VOK 0 1).raiseStep) ∧
  (∀ (s : State), exec .fselInEffect s = .next (s.setPower { s.power with fselNow := s.get Fld.PWR_DVFS__FSEL 0 })) ∧
  (∀ (s : State), exec .refclkLoss s = .next (((((((s.setPower { s.power with refLost := true }).put Fld.CLK_STATUS__REFCLK_OK 0 0).put Fld.CLK_STATUS__CORE_PLL_LOCK 0 0).put Fld.CLK_STATUS__F0_PLL_LOCK 0 0).put Fld.CLK_STATUS__F1_PLL_LOCK 0 0).clockFault Fld.CLK_ERR__REFCLK_LOSS 3).stopDie .cdie |>.firnClockHalt .f0 |>.firnClockHalt .f1)) ∧
  (∀ (s : State), exec (.firnPllRelock .f0) s = .next ((s.put Fld.CLK_STATUS__F0_PLL_LOCK 0 1).haltLift .f0 1)) ∧
  (∀ (s : State), (s.variant.hasF1 = false) → exec (.firnPllRelock .f1) s = .next s) ∧
  (∀ (s : State), (s.variant.hasF1 = true) → exec (.firnPllRelock .f1) s = .next ((s.put Fld.CLK_STATUS__F1_PLL_LOCK 0 1).haltLift .f1 1)) ∧
  (∀ (s : State), (s.isDown = false) → exec .corePllRelock s = .next ((((s.setPower { s.power with refLost := false }).put Fld.CLK_STATUS__CORE_PLL_LOCK 0 1).put Fld.CLK_STATUS__REFCLK_OK 0 1).cdieReset 5)) ∧
  (∀ (s : State), (s.power.memFails < 2) → exec (.memPllRelock false) s = .next (s.setPower { s.power with memFails := s.power.memFails + 1 })) ∧
  (∀ (s : State), (2 ≤ s.power.memFails) → exec (.memPllRelock false) s = .next (s.setPower { s.power with memFails := s.power.memFails + 1, memOff := true }).memLost) ∧
  (∀ (s : State), exec (.memPllRelock true) s = .next (let u := (s.put Fld.CLK_STATUS__MEM_PLL_LOCK 0 1).setPower { s.power with memStall := false, memOff := false, memFails := 0 }; if s.ledger.parking = true then u else u.memBack))

/-- A rail that fails or returns, and every reset source, acts on the die R110 gives it -/
def Obligations.RailsAndResets : Prop :=
  (∀ (s : State) (r : Rail), (s.boot.badRails.contains r = true) → exec (.railFail r) s = .next s) ∧
  (∀ (s : State), (s.boot.badRails.contains Rail.vaon = false) → exec (.railFail .vaon) s = .next ((s.setBoot { s.boot with badRails := .vaon :: s.boot.badRails }).aonReset false)) ∧
  (∀ (s : State), (s.boot.badRails.contains Rail.vsw = false) → exec (.railFail .vsw) s = .next (s.setBoot { s.boot with badRails := .vsw :: s.boot.badRails })) ∧
  (∀ (s : State) (r : Rail), (s.boot.badRails.contains r = false) → (s.isOff = false) → (r = .vddSoc ∨ r = .vio18) → exec (.railFail r) s = .next ((s.setBoot { s.boot with badRails := r :: s.boot.badRails }).railReset 1)) ∧
  (∀ (s : State) (r : Rail), (s.boot.badRails.contains r = false) → (s.isOff = false) → (r = .vddC ∨ r = .vdd2 ∨ r = .vddq) → exec (.railFail r) s = .next ((s.setBoot { s.boot with badRails := r :: s.boot.badRails }).railReset 13)) ∧
  (∀ (s : State) (r : Rail), (s.boot.badRails.contains r = false) → (s.isOff = false) → (r = .vddF0 ∨ r = .vanaF0) → exec (.railFail r) s = .next ((s.setBoot { s.boot with badRails := r :: s.boot.badRails }).firnReset .f0)) ∧
  (∀ (s : State) (r : Rail), (s.boot.badRails.contains r = false) → (s.isOff = false) → (r = .vddF1 ∨ r = .vanaF1) → (s.variant.hasF1 = true) → exec (.railFail r) s = .next ((s.setBoot { s.boot with badRails := r :: s.boot.badRails }).firnReset .f1)) ∧
  (∀ (s : State), (s.boot.badRails.contains Rail.vddD = false) → (s.isOff = false) → (s.variant.hasDdie = true) → exec (.railFail .vddD) s = .next ((s.setBoot { s.boot with badRails := .vddD :: s.boot.badRails }).ddieReset true)) ∧
  (∀ (s : State) (r : Rail), ∃ t, exec (.railFail r) s = .next t) ∧
  (∀ (s : State) (r : Rail), ∃ t, exec (.railPowerGood r) s = .next t ∧ (railDie r ≠ some .ddie → t.boot.badRails = s.boot.badRails.filter (· != r)) ∧ (railDie r = none → t = s.setBoot { s.boot with badRails := s.boot.badRails.filter (· != r) })) ∧
  (∀ (s : State), (s.isOff = false) → exec .resetNAssert s = .next (s.cdieReset 2)) ∧
  (∀ (s : State), (s.isOff = false) → exec .sysctrlWatchdogExpiry s = .next (s.cdieReset 3)) ∧
  (∀ (s : State), (s.isOff = true) → exec .resetNAssert s = .next s ∧ exec .sysctrlWatchdogExpiry s = .next s) ∧
  (∀ (s : State) (v : W32), exec (.rstCtrlWrite v) s = .next (if bitsAt v.toNat 16 16 = 0x9192 ∧ bitAt v.toNat 0 = true then s.setBoot { s.boot with resetDue := true } else s)) ∧
  (∀ (s : State) (k : Nat), (s.isOff = false) → (1 ≤ k ∧ k ≤ 5) → (k = 4 → s.boot.resetDue = true) → exec (.cDieReset k) s = .next (s.cdieReset k)) ∧
  (∀ (s : State) (k j : Nat), (k < 16) → (j < 16) → bitAt ((s.rstCause k).get Fld.RST_CAUSE__CAUSE 0) j = (decide (j = k) || bitAt (s.get Fld.RST_CAUSE__CAUSE 0) j)) ∧
  (∀ (s : State), (s.isOff = false) → exec .cDieOvertemp s = .next (s.overtemp)) ∧
  (∀ (s : State), s.overtemp = (s.cdieReset 6).setBoot { (s.cdieReset 6).boot with hot := true }) ∧
  (∀ (s : State), exec .overtempResetRelease s = .next (s.setBoot { s.boot with hot := false })) ∧
  (∀ (s : State), (s.isOff = false) → exec (.firnDieReset .f0) s = .next (s.firnReset .f0)) ∧
  (∀ (s : State), (s.isOff = false) → (s.variant.hasF1 = true) → exec (.firnDieReset .f1) s = .next (s.firnReset .f1)) ∧
  (∀ (s : State), (s.variant.hasDdie = true) → (s.isDown = false) → ((s.ddieReset true).railsGood .ddie = true) → exec .dDieReset s = .next ((s.ddieReset true).ddieRelease))

/-- PERSTn, a function-level reset and the state of a PCIe link -/
def Obligations.PortResets : Prop :=
  (∀ (s : State) (p : Port), (s.isOff = false) → exec (.perst p) s = .next (((((s.portReset p).put Fld.HOST_STATUS__LINK_WIDTH p.num 0).put Fld.HOST_STATUS__LINK_SPEED p.num 0).put Fld.HOST_STATUS__LINK_STATE p.num 0).domainReset (10 + p.num))) ∧
  (∀ (s : State) (p : Port), (s.isOff = false) → exec (.functionLevelReset p) s = .next (((s.portReset p).domainReset (10 + p.num)).domainReturned (10 + p.num))) ∧
  (∀ (s : State) (p : Port) (w v : Nat), exec (.pcieLinkChange p false w v) s = .next ((((s.put Fld.HOST_STATUS__LINK_WIDTH p.num 0).put Fld.HOST_STATUS__LINK_SPEED p.num 0).put Fld.HOST_STATUS__LINK_STATE p.num 0).endSeracSession p)) ∧
  (∀ (s : State) (p : Port) (w v : Nat), (s.mayTrain = true) → (s.get Fld.HOST_STATUS__LINK_STATE p.num ≠ 2) → exec (.pcieLinkChange p true w v) s = .next (((((s.put Fld.HOST_STATUS__LINK_WIDTH p.num w).put Fld.HOST_STATUS__LINK_SPEED p.num v).put Fld.HOST_STATUS__LINK_STATE p.num 1).maybeEndFailover p).domainReturned (10 + p.num))) ∧
  (∀ (s : State) (p : Port) (w v : Nat), (s.mayTrain = true) → (s.get Fld.HOST_STATUS__LINK_STATE p.num = 2) → exec (.pcieLinkChange p true w v) s = .next ((((((s.wakeSource (3 + p.num)).put Fld.HOST_STATUS__LINK_WIDTH p.num w).put Fld.HOST_STATUS__LINK_SPEED p.num v).put Fld.HOST_STATUS__LINK_STATE p.num 1).maybeEndFailover p).domainReturned (10 + p.num))) ∧
  (∀ (s : State) (p : Port) (w v : Nat), (s.mayTrain = false) → exec (.pcieLinkChange p true w v) s = .next s)

/-- The boot chain: a stage that ends, a fatal error, a host image, a link that trains -/
def Obligations.BootChain : Prop :=
  (∀ (s : State) (item status : Nat) (other : Bool) (img : List Byte), (s.stage = 1) → (s.boot.hot = false) → (s.railsGood .cdie = true) → (s.flag Fld.BOOT_STATUS__FATAL 0 = false) → (s.isOff = false) → ∃ t, exec (.bootStageAdvance [] item status other img) s = .next t ∧ t.stage = 2 ∧ t.dieRuns .cdie = true) ∧
  (∀ (s : State) (item status : Nat) (other : Bool) (img : List Byte), (s.stage = 2) → (s.boot.hot = false) → (s.railsGood .cdie = true) → (s.flag Fld.BOOT_STATUS__FATAL 0 = false) → (s.isOff = false) → ∃ t, exec (.bootStageAdvance [0x03] item status other img) s = .next t ∧ t.get Fld.BOOT_STATUS__ERROR 0 = 3 ∧ t.get Fld.BOOT_STATUS__FATAL 0 = 1) ∧
  (∀ (s : State) (core mem serdes : Bool), (s.stage = 2) → exec (.pllLockTimeout core mem serdes) s = .next ((((s.putB Fld.CLK_STATUS__CORE_PLL_LOCK 0 core).putB Fld.CLK_STATUS__MEM_PLL_LOCK 0 mem).putB Fld.CLK_STATUS__SERDES_PLL_LOCK 0 serdes).bootError 3 true)) ∧
  (∀ (s : State) (core mem serdes : Bool), (s.stage ≠ 2) → exec (.pllLockTimeout core mem serdes) s = .next s) ∧
  (∀ (s : State) (v : W32), (s.flag Fld.BOOT_IMG_LEN__GO 0 = false) → (s.mayFetchImage = true) → ∃ t, exec (.bootImgGo v) s = .next t ∧ t.get Fld.BOOT_IMG_LEN__LEN 0 = bitsAt v.toNat 0 25 ∧ t.get Fld.BOOT_IMG_LEN__GO 0 = 1 ∧ t.boot.fetching = true ∧ (s.flag Fld.BOOT_STATUS__FATAL 0 = true → t.stage = 3 ∧ t.flag Fld.BOOT_STATUS__FATAL 0 = false)) ∧
  (∀ (s : State) (v : W32), (s.flag Fld.BOOT_IMG_LEN__GO 0 = true ∨ s.mayFetchImage = false) → exec (.bootImgGo v) s = .next s) ∧
  (∀ (s : State) (l : Link), exec (.linkTrained l) s = .next (s.trainLink l)) ∧
  (∀ (s : State) (i : Inp) (high : Bool), (s.input i = .undet) → (s.variant.hasInput i = true) → ∃ t, exec (.inputDefined i high) s = .next t ∧ t.input i = (if high then .high else .low)) ∧
  (∀ (s : State) (i : Inp) (high : Bool), (s.input i ≠ .undet ∨ s.variant.hasInput i = false) → exec (.inputDefined i high) s = .next s) ∧
  (∀ (s : State) (n : Nat), (s.input (.aux n) = .undet) → (s.boot.indet.contains (.aux n) = false) → (s.variant.hasInput (.aux n) = true) → exec (.inputIndeterminate (.aux n)) s = .next (((s.setBoot { s.boot with indet := .aux n :: s.boot.indet }).logIndeterminate .f0 0xFF).postBoth { code := 0x007, sev := 1, obj := 0x4000 + n }))

/-- Ring configuration, ENABLE, DISABLE, CLEAR_ERROR and the windows -/
def Obligations.RingControl : Prop :=
  (∀ (s : State) (p : Port) (rd : DmaRead) (c : Nat), (s.enableRefusal p (s.selCq p) (s.ring p (s.selCq p) (s.selIdx p)) = some c) → exec (.ringEnable p rd) s = .next (s.setRing p (s.selCq p) (s.selIdx p) { s.ring p (s.selCq p) (s.selIdx p) with err := c })) ∧
  (∀ (s : State) (p : Port) (rd : DmaRead) (tl : Nat), (s.selCq p = false) → (s.enableRefusal p false (s.sq p (s.selIdx p)) = none) → (tailOf (s.sq p (s.selIdx p)) rd = .inl tl) → exec (.ringEnable p rd) s = .next (s.setSq p (s.selIdx p) { s.sq p (s.selIdx p) with state := rActive, idx := tl, tail := tl, needKick := false })) ∧
  (∀ (s : State) (p : Port) (rd : DmaRead) (c : Nat), (s.selCq p = false) → (s.enableRefusal p false (s.sq p (s.selIdx p)) = none) → (tailOf (s.sq p (s.selIdx p)) rd = .inr c) → exec (.ringEnable p rd) s = .next ((s.setSq p (s.selIdx p) { s.sq p (s.selIdx p) with state := rActive }).sqError p (s.selIdx p) c)) ∧
  (∀ (s : State) (p : Port) (rd : DmaRead), (s.selCq p = true) → (s.enableRefusal p true (s.cq p (s.selIdx p)) = none) → (s.selIdx p ≠ 0) → exec (.ringEnable p rd) s = .next (s.setCq p (s.selIdx p) { s.cq p (s.selIdx p) with state := rActive, idx := 0, phase := true, head := 0, unsig := 0, headFault := false })) ∧
  (∀ (s : State) (p : Port) (rd : DmaRead), (s.selCq p = true) → (s.enableRefusal p true (s.cq p (s.selIdx p)) = none) → (s.selIdx p = 0) → exec (.ringEnable p rd) s = .next ((s.setCq p 0 { s.cq p 0 with state := rActive, idx := 0, phase := true, head := 0, unsig := 0, headFault := false }).reportLost p)) ∧
  (∀ (s : State) (p : Port), (s.selCq p = false) → exec (.ringDisable p) s = .next (s.setSq p (s.selIdx p) { s.sq p (s.selIdx p) with state := if (s.sq p (s.selIdx p)).owed = 0 then rDisabled else rDraining })) ∧
  (∀ (s : State) (p : Port), (s.selCq p = true) → ((s.host p).boundLive (s.selIdx p) = true) → exec (.ringDisable p) s = .next (s.setCq p (s.selIdx p) { s.cq p (s.selIdx p) with err := 8 })) ∧
  (∀ (s : State) (p : Port), (s.selCq p = true) → ((s.host p).boundLive (s.selIdx p) = false) → ((s.cq p (s.selIdx p)).state = rError) → exec (.ringDisable p) s = .next (s.setCq p (s.selIdx p) { s.cq p (s.selIdx p) with err := 0xA })) ∧
  (∀ (s : State) (p : Port), (s.selCq p = true) → ((s.host p).boundLive (s.selIdx p) = false) → ((s.cq p (s.selIdx p)).state ≠ rError) → exec (.ringDisable p) s = .next (s.setCq p (s.selIdx p) { s.cq p (s.selIdx p) with state := rDisabled })) ∧
  (∀ (s : State) (p : Port), (s.selCq p = false ∨ (s.host p).boundLive (s.selIdx p) = false) → ((s.ring p (s.selCq p) (s.selIdx p)).state = rError) → exec (.ringClearError p) s = .next (s.setRing p (s.selCq p) (s.selIdx p) { s.ring p (s.selCq p) (s.selIdx p) with state := rDisabled })) ∧
  (∀ (s : State) (p : Port), (s.selCq p = true) → ((s.host p).boundLive (s.selIdx p) = true) → ((s.cq p (s.selIdx p)).state = rError) → exec (.ringClearError p) s = .next (s.setCq p (s.selIdx p) { s.cq p (s.selIdx p) with err := 8 })) ∧
  (∀ (s : State) (p : Port), ((s.ring p (s.selCq p) (s.selIdx p)).state ≠ rError) → exec (.ringClearError p) s = .next (s.setRing p (s.selCq p) (s.selIdx p) { s.ring p (s.selCq p) (s.selIdx p) with err := 0xA })) ∧
  (∀ (s : State) (p : Port) (w : RingReg) (v : W32), ((s.ring p (s.selCq p) (s.selIdx p)).state = rDisabled) → exec (.ringConfigWrite p w v) s = .next (s.setRing p (s.selCq p) (s.selIdx p) ((s.ring p (s.selCq p) (s.selIdx p)).withReg w v))) ∧
  (∀ (s : State) (p : Port) (w : RingReg) (v : W32), ((s.ring p (s.selCq p) (s.selIdx p)).state ≠ rDisabled) → exec (.ringConfigWrite p w v) s = .next (s.setRing p (s.selCq p) (s.selIdx p) { s.ring p (s.selCq p) (s.selIdx p) with err := 1 })) ∧
  (∀ (s : State) (p : Port) (w : Nat) (v : W32), (s.flag Fld.HOST_CTRL__EN p.num = false) → exec (.windowWrite p w .lo v) s = .next (s.setReg .HOST_WIN_LO (p.num * 8 + w) (v &&& 0xFFFFF003)) ∧ exec (.windowWrite p w .hi v) s = .next (s.setReg .HOST_WIN_HI (p.num * 8 + w) v) ∧ exec (.windowWrite p w .size v) s = .next (s.setReg .HOST_WIN_SIZE (p.num * 8 + w) v)) ∧
  (∀ (s : State) (p : Port) (w : Nat) (x : WinReg) (v : W32), (s.flag Fld.HOST_CTRL__EN p.num = true) → exec (.windowWrite p w x v) s = .next (s.put Fld.HOST_ERR__WIN_LOCKED p.num 1)) ∧
  (∀ (s : State) (p : Port) (q : Nat), ((s.sq p q).state = rDraining) → ((s.sq p q).owed = 0) → exec (.sqDrained p q) s = .next (s.setSq p q { s.sq p q with state := rDisabled })) ∧
  (∀ (s : State) (p : Port) (q : Nat), ((s.sq p q).state ≠ rDraining ∨ (s.sq p q).owed ≠ 0) → exec (.sqDrained p q) s = .next s)

/-- Polling, idling and kicking submission rings, and the head of a completion ring -/
def Obligations.Doorbells : Prop :=
  (∀ (s : State) (p : Port) (poll : Byte) (idle : W16), (s.flag Fld.HOST_CTRL__EN p.num = false) → exec (.hostEnable p poll idle) s = .next (((((s.put Fld.HOST_CTRL__EN p.num 1).put Fld.HOST_CTRL__POLL_US p.num poll.toNat).put Fld.HOST_CTRL__IDLE_US p.num idle.toNat).drained p).recheckRings p)) ∧
  (∀ (s : State) (p : Port) (poll : Byte) (idle : W16), (s.flag Fld.HOST_CTRL__EN p.num = true) → exec (.hostEnable p poll idle) s = .next ((((s.put Fld.HOST_CTRL__EN p.num 1).put Fld.HOST_CTRL__POLL_US p.num poll.toNat).put Fld.HOST_CTRL__IDLE_US p.num idle.toNat).drained p)) ∧
  (∀ (s : State) (p : Port) (poll : Byte) (idle : W16), exec (.hostDisable p poll idle) s = .next ((((s.put Fld.HOST_CTRL__EN p.num 0).put Fld.HOST_CTRL__POLL_US p.num poll.toNat).put Fld.HOST_CTRL__IDLE_US p.num idle.toNat).drained p)) ∧
  (∀ (s : State) (p : Port) (q tl : Nat) (tail head : DmaRead) (l : List (Nat × Desc)), (s.flag Fld.HOST_CTRL__EN p.num = true) → ((s.host p).holds = false) → ((s.sq p q).state = rActive) → (s.serves = true) → (tailOf (s.sq p q) tail = .inl tl) → (((s.setSq p q { s.sq p q with tail := tl }).host p).turn = some q) → exec (.sqPoll p q tail head (some l)) s = .next (((s.setSq p q { s.sq p q with tail := tl }).setHost p { (s.setSq p q { s.sq p q with tail := tl }).host p with rr := q }).fetchSlots p q head (l.take 8))) ∧
  (∀ (s : State) (p : Port) (q tl : Nat) (tail head : DmaRead) (l : Option (List (Nat × Desc))), (s.flag Fld.HOST_CTRL__EN p.num = true) → ((s.host p).holds = false) → ((s.sq p q).state = rActive) → (s.serves = true) → (tailOf (s.sq p q) tail = .inl tl) → (((s.setSq p q { s.sq p q with tail := tl }).host p).turn ≠ some q) → exec (.sqPoll p q tail head l) s = .next (s.setSq p q { s.sq p q with tail := tl })) ∧
  (∀ (s : State) (p : Port) (q tl : Nat) (tail head : DmaRead), (s.flag Fld.HOST_CTRL__EN p.num = true) → ((s.host p).holds = false) → ((s.sq p q).state = rActive) → (s.serves = true) → (tailOf (s.sq p q) tail = .inl tl) → (((s.setSq p q { s.sq p q with tail := tl }).host p).turn = some q) → exec (.sqPoll p q tail head none) s = .next (((s.setSq p q { s.sq p q with tail := tl }).setHost p { (s.setSq p q { s.sq p q with tail := tl }).host p with rr := q }).sqError p q 6)) ∧
  (∀ (s : State) (p : Port) (q : Nat) (tail head : DmaRead) (l : Option (List (Nat × Desc))), (s.flag Fld.HOST_CTRL__EN p.num = false ∨ (s.host p).holds = true ∨ (s.sq p q).state ≠ rActive) → exec (.sqPoll p q tail head l) s = .next s) ∧
  (∀ (s : State) (p : Port) (q c : Nat) (tail head : DmaRead) (l : Option (List (Nat × Desc))), (s.flag Fld.HOST_CTRL__EN p.num = true) → ((s.host p).holds = false) → ((s.sq p q).state = rActive) → (s.serves = true) → (tailOf (s.sq p q) tail = .inr c) → exec (.sqPoll p q tail head l) s = .next (s.sqError p q c)) ∧
  (∀ (s : State) (p : Port) (q : Nat) (tail : DmaRead), ((s.sq p q).state = rActive) → ((s.sq p q).idx = (s.sq p q).tail) → ((s.host p).holds = false) → (s.serves = true) → (tailOf (s.sq p q) tail = .inl (s.sq p q).tail) → exec (.sqIdleTimeout p q tail) s = .next ((s.emit (.needKick p q true)).setSq p q { s.sq p q with needKick := true, state := rIdle })) ∧
  (∀ (s : State) (p : Port) (q tl : Nat) (tail : DmaRead), (((s.wakeSource (3 + p.num)).sq p q).state = rIdle) → (((s.wakeSource (3 + p.num)).host p).holds = false) → (tailOf { (s.wakeSource (3 + p.num)).sq p q with state := rActive, needKick := false } tail = .inl tl) → exec (.sqKick p q tail) s = .next (((s.wakeSource (3 + p.num)).emit (.needKick p q false)).setSq p q { (s.wakeSource (3 + p.num)).sq p q with state := rActive, needKick := false, tail := tl })) ∧
  (∀ (s : State) (p : Port) (q : Nat) (tail : DmaRead), (((s.wakeSource (3 + p.num)).sq p q).state = rIdle) → (((s.wakeSource (3 + p.num)).host p).holds = true) → exec (.sqKick p q tail) s = .next ((s.wakeSource (3 + p.num)).setSq p q { (s.wakeSource (3 + p.num)).sq p q with state := rActive })) ∧
  (∀ (s : State) (p : Port) (q : Nat) (tail : DmaRead), (((s.wakeSource (3 + p.num)).sq p q).state ≠ rIdle) → exec (.sqKick p q tail) s = .next (s.wakeSource (3 + p.num))) ∧
  (∀ (s : State) (p : Port) (c : Nat) (head : DmaRead), ((s.cq p c).state ≠ rActive ∨ (s.host p).holds = true ∨ s.needsHead p c = false) → exec (.cqHeadPoll p c head) s = .next s) ∧
  (∀ (s : State) (p : Port) (c : Nat) (head : DmaRead), ((s.cq p c).state = rActive) → ((s.host p).holds = false) → (s.needsHead p c = true) → exec (.cqHeadPoll p c head) s = .next ((s.readHead p c head).resumeSqs p c))

/-- Interrupts, Bus Master Enable, D3hot, failover, NOP and TIME_SET -/
def Obligations.HostEvents : Prop :=
  (∀ (s : State) (p : Port) (c : Nat), ((s.cq p c).unsig ≠ 0) → exec (.interruptModerationTimeout p c) s = .next ((s.setCq p c { s.cq p c with unsig := 0 }).signal p (s.cq p c).vector)) ∧
  (∀ (s : State) (p : Port) (c : Nat), ((s.cq p c).unsig = 0) → exec (.interruptModerationTimeout p c) s = .next s) ∧
  (∀ (s : State) (p : Port) (v : Nat), exec (.msixUnmask p v) s = .next ((s.setHost p { s.host p with msix := tabSet (s.host p).msix v { tabGet {} (s.host p).msix v with masked := false } }).msixRelease p)) ∧
  (∀ (s : State) (p : Port), exec (.busMasterEnable p) s = .next ((s.setHolding p true (s.host p).d3hot).maybeEndFailover p)) ∧
  (∀ (s : State) (p : Port) (b d : Bool), ((s.setHolding p b d).host p).bme = b ∧ ((s.setHolding p b d).host p).d3hot = d) ∧
  (∀ (s : State) (p : Port) (b : Bool), exec (.functionD3hot p b) s = .next (s.setHolding p (s.host p).bme b)) ∧
  (∀ (s : State) (p : Port), (s.get Fld.HOST_EVT_CFG__FAILOVER_MS p.num ≠ 0) → ((s.host p).failedOver = false) → (s.get Fld.HOST_STATUS__LINK_STATE p.num = 0 ∨ (s.host p).bme = false) → exec (.eventFailover p) s = .next (((s.setHost p { s.host p with failedOver := true }).put Fld.HOST_STATUS__EVT_FAILOVER p.other.num 1).eventTo p.other { code := 0xD03, sev := 1, obj := p.num })) ∧
  (∀ (s : State) (p : Port), (s.get Fld.HOST_EVT_CFG__FAILOVER_MS p.num = 0 ∨ (s.host p).failedOver = true ∨ (s.get Fld.HOST_STATUS__LINK_STATE p.num ≠ 0 ∧ (s.host p).bme = true)) → exec (.eventFailover p) s = .next s) ∧
  (∀ (s : State) (d : Desc), (s.accepts 0x00 d = true) → exec (.nop d) s = .next ((s.taken d).fin ((s.taken d).ticket d) stDone)) ∧
  (∀ (s : State) (d : Desc), (s.accepts 0x01 d = true) → ((s.taken d).ptpDisciplines = false) → exec (.timeSet d) s = .next ({ s.taken d with timeSets := (s.taken d).timeSets ++ [((s.taken d).ticket d, DescF.par d 0 8)] })) ∧
  (∀ (s : State) (d : Desc), (s.accepts 0x01 d = true) → ((s.taken d).ptpDisciplines = true) → exec (.timeSet d) s = .next ((s.taken d).complete { t := (s.taken d).ticket d, status := stConflict, winner := srcFirmware })) ∧
  (∀ (s : State) (d : Desc) (f : Fetched), (s.serves = true) → ((s.host d.port).fetched.find? (fun f => f.op == 0x00 && f.d == d) = some f) → (s.descWaits 0x00 d f.n = false) → (f.checked = true) → exec (.nop d) s = .next ((s.dropFetched d.port f).fin { (s.dropFetched d.port f).ticket d with epoch := f.epoch, n := f.n } stDone))

/-- Ethernet links, the receive filter, PTP frames and the management interface -/
def Obligations.EthernetPorts : Prop :=
  (∀ (s : State) (p : Nat) (phy : Option (Nat × Bool)), (s.flag Fld.ETH_STATUS__LINK p ≠ (phy == some (1000, true))) → (phy = some (1000, true) → s.dieRuns .cdie = true) → exec (.ethLink p phy) s = .next (if phy == some (1000, true) then ((s.putB Fld.ETH_STATUS__LINK p true).put Fld.CLK_STATUS__SERDES_PLL_LOCK 0 1).postBoth { code := 0x009, sev := 0, obj := p, data := 1 } else (s.putB Fld.ETH_STATUS__LINK p false).postBoth { code := 0x009, sev := 1, obj := p, data := 0 })) ∧
  (∀ (s : State) (p : Nat) (phy : Option (Nat × Bool)), (s.flag Fld.ETH_STATUS__LINK p = (phy == some (1000, true))) → exec (.ethLink p phy) s = .next s) ∧
  (∀ (s : State) (p : Nat) (f : EthFrame), (f.len ≤ 1522) → (f.vlanTags ≤ 1) → (s.ethFilter p f = true) → (f.etherType = 0x88F7) → (s.pwr ≠ 2) → exec (.ethFrameRx p f) s = .next (((s.bump Fld.ETH_RX_FRAMES__VALUE p 1).wakeSource 5).bump Fld.ETH_PTP_RX__VALUE p 1)) ∧
  (∀ (s : State) (p : Nat) (f : EthFrame), (f.len ≤ 1522) → (f.vlanTags ≤ 1) → (s.ethFilter p f = true) → (f.etherType = 0x88B5) → (s.cfg.fedSources.contains f.src = true) → exec (.ethFrameRx p f) s = .next ((s.bump Fld.ETH_RX_FRAMES__VALUE p 1).wakeSource 5)) ∧
  (∀ (s : State) (p : Nat) (f : EthFrame), (f.len ≤ 1522) → (f.vlanTags ≤ 1) → (s.ethFilter p f = true) → (f.etherType ≠ 0x88F7) → (f.etherType ≠ 0x88B5) → exec (.ethFrameRx p f) s = .next (((s.bump Fld.ETH_RX_FRAMES__VALUE p 1).wakeSource 5).bump Fld.ETH_RX_DROPPED__VALUE p 1)) ∧
  (∀ (s : State) (p : Nat) (f : EthFrame), (s.ethFilter p f = false ∨ 1522 < f.len ∨ 1 < f.vlanTags) → exec (.ethFrameRx p f) s = .next (s.bump Fld.ETH_RX_DROPPED__VALUE p 1)) ∧
  (∀ (s : State) (p : Nat) (rx off trim : Int), (s.ptpOn p = true) → (s.pwr ≠ 2) → exec (.ptpSync p false rx off trim) s = .next (s.servo p off trim)) ∧
  (∀ (s : State) (p : Nat) (rx off trim : Int), (s.ptpOn p = true) → (s.pwr ≠ 2) → exec (.ptpSync p true rx off trim) s = .next (s.setPtp p { s.ptp p with syncRx := some rx })) ∧
  (∀ (s : State) (p : Nat) (two : Bool) (rx off trim : Int), (s.ptpOn p = false) → exec (.ptpSync p two rx off trim) s = .next s) ∧
  (∀ (s : State) (p : Nat) (rx off trim : Int), ((s.ptp p).syncRx = some rx) → (s.ptpOn p = true) → (s.pwr ≤ 1) → exec (.ptpFollowUp p off trim) s = .next ((s.setPtp p { s.ptp p with syncRx := none }).servo p off trim)) ∧
  (∀ (s : State) (p st : Nat), (s.flag Fld.ETH_CFG__PTP_EN p = true) → (s.ptpOn p = true) → (s.pwr ≤ 1) → exec (.ptpAnnounce p st) s = .next ((s.setPtpState p st).ptpReport s)) ∧
  (∀ (s : State) (p st : Nat), (s.flag Fld.ETH_CFG__PTP_EN p = true) → (s.pwr ≤ 1) → exec (.announceReceiptTimeout p st) s = .next ((s.setPtpState p st).ptpReport s)) ∧
  (∀ (s : State) (p : Nat), (s.isMaster p = true) → (s.ptpOn p = true) → (s.pwr ≠ 2) → exec (.ptpDelayReq p) s = .next (s.ptpNow.2.ethSend p 9 s.ptpNow.1)) ∧
  (∀ (s : State) (p delay : Nat), (s.get Fld.ETH_STATUS__PTP_STATE p = 8 ∨ s.get Fld.ETH_STATUS__PTP_STATE p = 9) → (s.ptpOn p = true) → exec (.ptpDelayResp p delay) s = .next (s.setReg .ETH_PATH p (BitVec.ofNat 32 delay))) ∧
  (∀ (s : State) (p : Nat), (s.isMaster p = true) → exec (.ptpSyncTransmit p) s = .next ((s.ptpNow.2.ethSend p 0 []).ethSend p 8 s.ptpNow.1)) ∧
  (∀ (s : State) (p : Nat), (s.isMaster p = true) → exec (.ptpAnnounceTransmit p) s = .next (s.ethSend p 11 [s.get Fld.ETH_CFG__PRIORITY1 p, 248, 0xFE, 128, 0xA0, 0])) ∧
  (∀ (s : State) (p k : Nat) (b : List Nat), (s.ptpOn p = true) → (s.pwr ≠ 2) → s.ethSend p k b = (s.bump Fld.ETH_TX_FRAMES__VALUE p 1).emit (.ethTx p k b)) ∧
  (∀ (s : State) (p : Nat), (p < 2) → ∃ t, exec (.ptpSyncTimeout p) s = .next t ∧ t.get Fld.ETH_STATUS__LOCKED p = 0) ∧
  (∀ (s : State) (p : Nat), (s.get Fld.ETH_STATUS__PTP_STATE p = 8 ∨ s.get Fld.ETH_STATUS__PTP_STATE p = 9) → exec (.ptpDelayReqTransmit p) s = .next (s.ethSend p 1 [])) ∧
  (∀ (s : State) (v : W32), (s.flag Fld.ETH_MDIO__GO 0 = false) → exec (.mdioFrame v) s = .next ((s.setReg .ETH_MDIO 0 ((v &&& 0x7FF0FFFF) ||| 0x80000000)).emit (.mdio v))) ∧
  (∀ (s : State) (x : W16), (s.flag Fld.ETH_MDIO__GO 0 = true) → ((s.put Fld.ETH_MDIO__GO 0 0).flag Fld.ETH_MDIO__WRITE 0 = false) → exec (.mdioFrameDone x) s = .next ((s.put Fld.ETH_MDIO__GO 0 0).put Fld.ETH_MDIO__DATA 0 x.toNat))

/-- Mailbox channels: sending, doorbells, masks, descriptor requests and late replies -/
def Obligations.Mailboxes : Prop :=
  (∀ (s : State) (p : Port) (len : Nat), (s.dieRuns .cdie = true) → (s.stage = 0xB) → ((s.chan (.hostFw p)).posted = false) → (badLen len = false) → ((s.chan (.hostFw p)).seq < 65535) → ∃ t, exec (.mbxSend (.host p) (.hostFw p) len none false) s = .next t ∧ (t.chan (.hostFw p)).posted = true ∧ (t.chan (.hostFw p)).seq = (s.chan (.hostFw p)).seq + 1 ∧ (t.chan (.hostFw p)).len = len ∧ (t.chan (.hostFw p)).payload.take len = padTo len (s.chan (.hostFw p)).draft ∧ bitAt (t.chan (.hostFw p)).db.toNat 0 = true) ∧
  (∀ (s : State) (p : Port) (len : Nat), (s.dieRuns .cdie = true) → (s.stage = 0xB) → (s.pwr ≤ 1) → ((s.chan (.hostFw p)).posted = false) → (badLen len = true) → exec (.mbxSend (.host p) (.hostFw p) len none false) s = .next (s.mbxErr (.host p) Fld.MBX_ERR__BAD_LEN)) ∧
  (∀ (s : State) (p : Port) (len : Nat), (s.dieRuns .cdie = true) → (s.stage = 0xB) → (s.pwr ≤ 1) → ((s.chan (.hostFw p)).posted = true) → exec (.mbxSend (.host p) (.hostFw p) len none false) s = .next (s.mbxErr (.host p) Fld.MBX_ERR__BUSY)) ∧
  (∀ (s : State) (len : Nat), (s.dieRuns .cdie = true) → (s.stage = 0xB) → (s.pwr ≤ 1) → exec (.mbxSend (.host .h1) (.hostFw .h0) len none false) s = .next (s.put Fld.MBX_ERR__FOREIGN 1 1)) ∧
  (∀ (s : State) (p : Port) (v : W32), (s.dieRuns .cdie = true) → (s.stage = 0xB) → (s.pwr ≤ 1) → exec (.mbxDbSet (.host p) (.hostFw p) v) s = .next (s.ringDb (.hostFw p) (v &&& 0xFFFFFFFE))) ∧
  (∀ (s : State) (p : Port) (v : W32), (s.dieRuns .cdie = true) → (s.stage = 0xB) → (s.pwr ≤ 1) → exec (.mbxDbMaskWrite (.host p) (.fwHost p) v) s = .next (s.mbxMask (.fwHost p) v)) ∧
  (∀ (s : State) (p : Port) (v sn : W32), exec (.mbxDbClear .firmware (.hostFw p) v sn) s = .next (s.clearDb (.hostFw p) (v &&& ~~~sn))) ∧
  (∀ (s : State) (p : Port) (len : Nat), (s.dieRuns .cdie = true) → (s.stage ≠ 0xB) → exec (.mbxSend (.host p) (.hostFw p) len none false) s = .next (s.crossingFailed p.num (Chan.hostFw p).xid ((Chan.hostFw p).slot.getD 0 + 4) true)) ∧
  (∀ (s : State) (d : Desc) (rd : DmaRead), (s.accepts 0x40 d = true) → exec (.firnMsg d rd) s = .next ((s.taken d).sendRequest ((s.taken d).ticket d) d (.hostFirn d.port (if d.target.toNat = 0 then .f0 else .f1)) rd)) ∧
  (∀ (s : State) (d : Desc) (rd : DmaRead), (s.accepts 0x48 d = true) → exec (.seracMsg d rd) s = .next ((s.taken d).sendRequest ((s.taken d).ticket d) d (.hostSerac d.port) rd)) ∧
  (∀ (s : State) (d : Desc) (rd : DmaRead), (s.accepts 0x71 d = true) → exec (.appMsg d rd) s = .next ((s.taken d).sendRequest ((s.taken d).ticket d) d (.hostEng d.port d.target.toNat) rd)) ∧
  (∀ (s : State) (t : Ticket) (d : Desc) (c : Chan) (b : List Byte), (badLen (DescF.par d 0 2) = false) → (¬ DescF.bufLen d < DescF.par d 0 2) → ((s.chan c).posted = true) → ∃ w r, s.sendRequest t d c (.data b) = { s with msgQueue := s.msgQueue ++ [(w, r)] } ∧ w.chan = c ∧ w.t = t ∧ r.take 2 = [0, 0]) ∧
  (∀ (s : State) (c : Chan) (seq : Nat) (w : MsgWait), (s.waits.find? (fun w => w.chan == c && w.seq == seq) = some w) → ((s.chan c).posted = false ∨ (s.chan c).seq ≠ seq) → exec (.mailboxReplyTimeout c seq) s = .next (({ s with waits := s.waits.erase w, lateSeqs := s.lateSeqs ++ [(c.reverse, seq)] } : State).complete { t := w.t, status := stTimeout, result := c.xid })) ∧
  (∀ (s : State) (c : Chan) (seq : Nat), (s.waits.find? (fun w => w.chan == c && w.seq == seq) = none) → exec (.mailboxReplyTimeout c seq) s = .next s)

/-- Writes, clears and reads of registers, and the scratchpad aperture -/
def Obligations.RegisterAccess : Prop :=
  (∀ (s : State) (w : Accessor) (a : Nat) (be : BitVec 4) (v : W32) (rd : DmaRead), (be ≠ 15) → exec (.registerWrite w a be v rd) s = .next s) ∧
  (∀ (s : State) (a : Nat) (r : Reg) (i : Nat) (v : W32) (rd : DmaRead), (a % 4 = 0) → (s.dieRuns .cdie = true) → (s.absentAt a = false) → (s.offAt .firmware a = false) → (slotAt a = none) → (hostBlock a = none) → (¬ (0x1C0000 ≤ a ∧ a < 0x200000)) → (s.regAt .firmware a = some (r, i)) → exec (.registerWrite .firmware a 15 v rd) s = .next (s.regWrite .firmware r i v)) ∧
  (∀ (s : State) (p : Port) (a : Nat) (r : Reg) (i : Nat) (v : W32) (rd : DmaRead), (a % 4 = 0) → (a < 0x1C0000) → (s.pwr ≤ 1) → (s.dieRuns .cdie = true) → (s.absentAt a = false) → (s.offAt (.host p) a = false) → (slotAt a = none) → (hostBlock a = none) → (s.regAt (.host p) a = some (r, i)) → exec (.registerWrite (.host p) a 15 v rd) s = .next (s.regWrite (.host p) r i v)) ∧
  (∀ (s : State) (w : Accessor) (v : W32), (s.regWrite w .PWR_ALARM_LO 0 v).reg .PWR_ALARM_LO 0 = v) ∧
  (∀ (s : State) (a : Nat) (r : Reg) (i : Nat) (v sn : W32), (a % 4 = 0) → (s.dieRuns .cdie = true) → (s.absentAt a = false) → (s.offAt .firmware a = false) → (hostBlock a = none) → (s.regAt .firmware a = some (r, i)) → (BitVec.ofNat 32 r.info.w1c ≠ 0) → exec (.stickyBitClear .firmware a v sn) s = .next ((s.setReg r i (((s.reg r i) &&& ~~~(v &&& BitVec.ofNat 32 r.info.w1c)) ||| (sn &&& BitVec.ofNat 32 r.info.w1c))).clearedWith r (v &&& ~~~sn))) ∧
  (∀ (s : State) (a : Nat) (r : Reg) (i : Nat) (occ : W32), (a % 4 = 0) → (s.dieRuns .cdie = true) → (s.absentAt a = false) → (s.offAt .firmware a = false) → (slotAt a = none) → (s.regAt .firmware a = some (r, i)) → (BitVec.ofNat 32 r.info.rc ≠ 0) → (mirrored r = false) → exec (.readToClear .firmware a occ) s = .next ((s.setReg r i (((s.reg r i) &&& ~~~(BitVec.ofNat 32 r.info.rc)) ||| (occ &&& BitVec.ofNat 32 r.info.rc))).emit (.readValue (s.wordAt .firmware a)))) ∧
  (∀ (s : State) (a : Nat) (r : Reg) (i : Nat) (occ : W32), (a % 4 = 0) → (s.dieRuns .cdie = true) → (s.absentAt a = false) → (s.offAt .firmware a = false) → (slotAt a = none) → (s.regAt .firmware a = some (r, i)) → (BitVec.ofNat 32 r.info.rc = 0) → exec (.readToClear .firmware a occ) s = .next (s.emit (.readValue (s.wordAt .firmware a)))) ∧
  (∀ (s : State) (p : Port) (off a : Nat) (be : BitVec 4) (v : W32) (rv : List Nat), (off < 0x40000) → (s.pwr ≤ 1) → (s.dieRuns .cdie = true) → (s.absentAt (0x1C0000 + off) = false) → (s.offAt (.host p) (0x1C0000 + off) = false) → (s.aperture p (off / 4 * 4) = some a) → exec (.spadApertureAccess p off (some (be, v)) rv) s = .next ((upTo 4).foldl (fun s k => if be.getLsbD k then s.memStore 256 (a + k) [BitVec.ofNat 8 (bitsAt v.toNat (8 * k) 8)] else s) (s.bankGrant 256 a rv))) ∧
  (∀ (s : State) (p : Port) (off a : Nat) (rv : List Nat), (off < 0x40000) → (s.dieRuns .cdie = true) → (s.offAt (.host p) (0x1C0000 + off) = false) → (s.aperture p (off / 4 * 4) = some a) → exec (.spadApertureAccess p off none rv) s = .next ((s.bankGrant 256 a rv).emit (.readValue (BitVec.ofNat 32 (leNat (memReadL s.mem a 4)))))) ∧
  (∀ (s : State) (p : Port) (off : Nat) (rv : List Nat), (off < 0x40000) → (s.dieRuns .cdie = true) → (s.offAt (.host p) (0x1C0000 + off) = false) → (s.aperture p (off / 4 * 4) = none) → exec (.spadApertureAccess p off none rv) s = .next ((s.put Fld.SPAD_APER__APER_REFUSED p.num 1).emit (.readValue 0)))

/-- The control-cycle boundary: time, and the order of its work -/
def Obligations.ControlCycleBoundary : Prop :=
  (∀ (s : State), (s.devTime = 0) → s.timeOn.time % 1000 = 0 ∧ s.time < s.timeOn.time) ∧
  (∀ (s : State) (f : List (Nat × Nat)) (m : List Meas) (r : List (Nat × List (List Nat))), (3 ≤ s.pwr) → exec (.controlCycleBoundary f m r) s = .next s) ∧
  (∀ (s : State) (f : List (Nat × Nat)) (m : List Meas), (s.pwr < 3) → (s.timeOn.dieRuns .cdie = false ∨ s.timeOn.inPause = true ∨ s.timeOn.pwr = 2) → exec (.controlCycleBoundary f m []) s = .next s.timeOn) ∧
  (∀ (s : State) (f : List (Nat × Nat)) (m : List Meas) (r : List (Nat × List (List Nat))), (s.pwr < 3) → ((r.foldl (fun s x => s.engineStep x.1 x.2) s).timeOn.dieRuns .cdie = true) → ((r.foldl (fun s x => s.engineStep x.1 x.2) s).timeOn.inPause = false) → ((r.foldl (fun s x => s.engineStep x.1 x.2) s).timeOn.stage = 0xB) → ((r.foldl (fun s x => s.engineStep x.1 x.2) s).timeOn.pwr ≠ 2) → exec (.controlCycleBoundary f m r) s = .next ((r.foldl (fun s x => s.engineStep x.1 x.2) s).timeOn.cycleWork f m)) ∧
  (∀ (s : State) (f : List (Nat × Nat)) (m : List Meas), s.cycleWork f m = (((((((({ s with gather := true } : State).unknownTypes.boundaryOpen.arbitrate.groupStops.degradedDrop.inhibitStarts.sliceChecks f).sliceWork.govWork.boundaryShow m).engineWork.trialTick).beginPause).endGather).refresh).retryRequest).parkStep)

/-- A multiply-accumulate changes one accumulator of one engine, saturated at 72 bits, and its pc -/
def Obligations.EngineAccumulates : Prop :=
  (∀ (s : State) (n a r1 r2 : Nat), (s.engReady n = true) → ∃ t, exec (.macs n a r1 r2) s = .next t ∧ t = s.setCore n (t.core n) ∧ ((t.core n).getAcc a).toInt = clampS 72 (((s.core n).getAcc a).toInt + ((s.core n).getX r1).toInt * ((s.core n).getX r2).toInt) ∧ (t.core n).x = (s.core n).x ∧ (t.core n).pc = (s.core n).pc + 4) ∧
  (∀ (s : State) (n a r1 r2 : Nat), (s.engReady n = true) → ∃ t, exec (.macu n a r1 r2) s = .next t ∧ t = s.setCore n (t.core n) ∧ ((t.core n).getAcc a).toInt = clampS 72 (((s.core n).getAcc a).toInt + ((((s.core n).getX r1).toNat * ((s.core n).getX r2).toNat : Nat) : Int)) ∧ (t.core n).x = (s.core n).x ∧ (t.core n).pc = (s.core n).pc + 4) ∧
  (∀ (s : State) (n a r1 r2 : Nat), (s.engReady n = true) → ∃ t, exec (.msus n a r1 r2) s = .next t ∧ t = s.setCore n (t.core n) ∧ ((t.core n).getAcc a).toInt = clampS 72 (((s.core n).getAcc a).toInt + (-(((s.core n).getX r1).toInt * ((s.core n).getX r2).toInt))) ∧ (t.core n).x = (s.core n).x ∧ (t.core n).pc = (s.core n).pc + 4) ∧
  (∀ (s : State) (n a r1 r2 : Nat), (s.engReady n = true) → ∃ t, exec (.pmac16 n a r1 r2) s = .next t ∧ t = s.setCore n (t.core n) ∧ ((t.core n).getAcc a).toInt = clampS 72 (((s.core n).getAcc a).toInt + (loH ((s.core n).getX r1) * loH ((s.core n).getX r2) + hiH ((s.core n).getX r1) * hiH ((s.core n).getX r2))) ∧ (t.core n).x = (s.core n).x ∧ (t.core n).pc = (s.core n).pc + 4) ∧
  (∀ (s : State) (n a r1 r2 : Nat), (s.engReady n = true) → ∃ t, exec (.mula n a r1 r2) s = .next t ∧ t = s.setCore n (t.core n) ∧ ((t.core n).getAcc a).toInt = ((s.core n).getX r1).toInt * ((s.core n).getX r2).toInt ∧ (t.core n).x = (s.core n).x) ∧
  (∀ (s : State) (n a : Nat), (s.engReady n = true) → ∃ t, exec (.aclr n a) s = .next t ∧ t = s.setCore n (t.core n) ∧ (t.core n).getAcc a = 0)

/-- Xbarlux results: accumulator reads and writes, packed arithmetic and the fractional-delay step -/
def Obligations.EngineResults : Prop :=
  (∀ (s : State) (n a rd i : Nat), (s.engReady n = true) → exec (.ard n rd a i) s = .next (s.setCore n ((s.core n).accRead rd a (i % 32)).next)) ∧
  (∀ (s : State) (n a rd i : Nat), (s.engReady n = true) → exec (.ardx n rd a i) s = .next (s.setCore n ((s.core n).accRead rd a (32 + i % 32)).next)) ∧
  (∀ (s : State) (n a rd : Nat), (s.engReady n = true) → exec (.ardr n rd a 0) s = .next (s.setCore n ((s.core n).setX rd (BitVec.ofNat 32 ((s.core n).getAcc a).toNat)).next)) ∧
  (∀ (e : Engine) (rd a i : Nat), (rd ≠ 0) → ((e.accRead rd a i).getX rd).toInt = clampS 32 (accShift (e.getAcc a) i)) ∧
  (∀ (s : State) (n a r1 r2 : Nat), (s.engReady n = true) → exec (.awr n a r1 r2) s = .next (s.setCore n ((s.core n).setAcc a (BitVec.ofInt 72 (((s.core n).getX r2).toInt * 2 ^ 32 + (((s.core n).getX r1).toNat : Int)))).next)) ∧
  (∀ (s : State) (n a r1 : Nat), (s.engReady n = true) → exec (.awrh n a r1) s = .next (s.setCore n ((s.core n).setAcc a (BitVec.ofNat 72 (putBits ((s.core n).getAcc a).toNat 64 8 ((s.core n).getX r1).toNat))).next)) ∧
  (∀ (s : State) (n rd r1 r2 : Nat), (s.engReady n = true) → exec (.padd16 n rd r1 r2) s = .next (s.setCore n ((s.core n).packed rd (· + ·) ((s.core n).getX r1) ((s.core n).getX r2)).next)) ∧
  (∀ (s : State) (n rd r1 r2 : Nat), (s.engReady n = true) → exec (.psub16 n rd r1 r2) s = .next (s.setCore n ((s.core n).packed rd (· - ·) ((s.core n).getX r1) ((s.core n).getX r2)).next)) ∧
  (∀ (s : State) (n rd r1 r2 : Nat), (s.engReady n = true) → exec (.pmulq15 n rd r1 r2) s = .next (s.setCore n ((s.core n).packed rd (fun x y => (x * y + 2 ^ 14) / 2 ^ 15) ((s.core n).getX r1) ((s.core n).getX r2)).next)) ∧
  (∀ (s : State) (n rd r1 r2 : Nat), (s.engReady n = true) → exec (.ppack n rd r1 r2) s = .next (s.setCore n ((s.core n).setX rd (BitVec.ofNat 32 (bitsAt ((s.core n).getX r2).toNat 0 16 * 65536 + bitsAt ((s.core n).getX r1).toNat 0 16))).next)) ∧
  (∀ (s : State) (n rd r1 i : Nat), (s.engReady n = true) → (¬ 15 < i) → exec (.psra16 n rd r1 i) s = .next (s.setCore n ((s.core n).setX rd (pack (hiH ((s.core n).getX r1) / 2 ^ i) (loH ((s.core n).getX r1) / 2 ^ i))).next)) ∧
  (∀ (s : State) (n rd r1 i : Nat), (s.engReady n = true) → (15 < i) → exec (.psra16 n rd r1 i) s = .next (s.trap n 2 0)) ∧
  (∀ (s : State) (n a rd : Nat), (s.engReady n = true) → exec (.ardr n rd a 1) s = .next (s.setCore n ((s.core n).setX rd (BitVec.ofNat 32 (((s.core n).getAcc a).toNat / 2 ^ 32))).next)) ∧
  (∀ (s : State) (n a rd : Nat), (s.engReady n = true) → exec (.ardr n rd a 2) s = .next (s.setCore n ((s.core n).setX rd (BitVec.ofInt 32 (((s.core n).getAcc a).toInt / 2 ^ 64))).next)) ∧
  (∀ (s : State) (n a rd i : Nat), (s.engReady n = true) → (2 < i) → exec (.ardr n rd a i) s = .next (s.trap n 2 0)) ∧
  (∀ (s : State) (n rd r1 r2 x : Nat) (w : List (List Nat)) (b : Bool), (s.engReady n = true) → (((s.core n).getX r1 - 4).toNat % 4 = 0) → (s.plainAt n ((s.core n).getX r1 - 4).toNat 16 .load = some (x, b)) → ∃ t, exec (.fdstep n rd r1 r2 w) s = .next t ∧ t.mem = s.mem ∧ (t.core n).pc = (s.core n).pc + 4 ∧ (rd ≠ 0 → ((t.core n).getX rd).toInt = clampS 32 (lagrangeRound (signedOf 32 (leNat (s.loadBytes n x 4))) (signedOf 32 (leNat (s.loadBytes n (x + 4) 4))) (signedOf 32 (leNat (s.loadBytes n (x + 8) 4))) (signedOf 32 (leNat (s.loadBytes n (x + 12) 4))) ((((s.core n).getX r2).toNat % 65536 : Nat) : Int)))) ∧
  (∀ (s : State) (n rd r1 r2 : Nat) (w : List (List Nat)), (s.engReady n = true) → (((s.core n).getX r1 - 4).toNat % 4 ≠ 0) → exec (.fdstep n rd r1 r2 w) s = .next (s.trap n 4 ((s.core n).getX r1)))

/-- Loads, stores, reservations, atomics and fences of an engine -/
def Obligations.EngineMemory : Prop :=
  (∀ (s : State) (n rd r1 x : Nat) (w : List (List Nat)) (imm : W32) (op : LoadOp) (b : Bool), (s.engReady n = true) → (s.plainAt n ((s.core n).addr r1 imm) (loadLen op) .load = some (x, b)) → ∃ t, exec (.load n op rd r1 imm w) s = .next t ∧ t.mem = s.mem ∧ (if op = .flw then (t.core n).getF rd else (t.core n).getX rd) = (if op ≠ .flw ∧ rd = 0 then 0 else loadValue op (s.loadBytes n x (loadLen op))) ∧ (t.core n).sb = (s.core n).sb ∧ (t.core n).pc = (s.core n).pc + 4) ∧
  (∀ (s : State) (n rd r1 : Nat) (w : List (List Nat)) (imm : W32) (op : LoadOp) (r : Option Nat) (b : Bool), (s.engReady n = true) → (s.mpuRefusal n ((s.core n).addr r1 imm) (loadLen op) .load = some (r, b)) → exec (.load n op rd r1 imm w) s = .next ((s.mpuRecord n ((s.core n).addr r1 imm) .load r b).trap n 5 (BitVec.ofNat 32 ((s.core n).addr r1 imm)))) ∧
  (∀ (s : State) (n rd r1 : Nat) (w : List (List Nat)) (imm : W32) (op : StoreOp) (r : Option Nat) (b : Bool), (s.engReady n = true) → (s.mpuRefusal n ((s.core n).addr r1 imm) (storeLen op) .store = some (r, b)) → exec (.store n op rd r1 imm w) s = .next ((s.mpuRecord n ((s.core n).addr r1 imm) .store r b).trap n 7 (BitVec.ofNat 32 ((s.core n).addr r1 imm)))) ∧
  (∀ (s : State) (n r2 r1 x : Nat) (w : List (List Nat)) (imm : W32) (op : StoreOp) (b : Bool), (s.engReady n = true) → (s.plainAt n ((s.core n).addr r1 imm) (storeLen op) .store = some (x, b)) → ((s.core n).sb.length + (alignedParts x (storeLen op)).length ≤ 8) → ∃ t, exec (.store n op r2 r1 imm w) s = .next t ∧ t.mem = s.mem ∧ (t.core n).sb = (s.core n).sb ++ (alignedParts x (storeLen op)).map (fun y => (y.1, ((leBytes (storeLen op) (if op = .fsw then (s.core n).getF r2 else (s.core n).getX r2).toNat).drop (y.1 - x)).take y.2)) ∧ (t.core n).x = (s.core n).x ∧ (t.core n).pc = (s.core n).pc + 4) ∧
  (∀ (s : State) (n rd r1 x : Nat) (w : List (List Nat)), (s.engReady n = true) → (((s.core n).getX r1).toNat % 4 = 0) → (s.plainAt n ((s.core n).getX r1).toNat 4 .load = some (x, true)) → ∃ t, exec (.lr n rd r1 w) s = .next t ∧ (t.core n).resv = some (x / 32) ∧ t.mem = (s.drainSb n).mem ∧ (rd ≠ 0 → (t.core n).getX rd = BitVec.ofNat 32 (leNat (memReadL t.mem x 4)))) ∧
  (∀ (s : State) (n rd r2 r1 x : Nat) (w : List (List Nat)), (s.engReady n = true) → (((s.core n).getX r1).toNat % 4 = 0) → (s.plainAt n ((s.core n).getX r1).toNat 4 .atomic = some (x, true)) → (((s.drainSb n).core n).resv = some (x / 32)) → ∃ t, exec (.sc n rd r2 r1 w) s = .next t ∧ t.mem = memWriteL (s.drainSb n).mem x (leBytes 4 ((s.core n).getX r2).toNat) ∧ (t.core n).resv = none ∧ (t.core n).getX rd = 0) ∧
  (∀ (s : State) (n rd r2 r1 x : Nat) (w : List (List Nat)), (s.engReady n = true) → (((s.core n).getX r1).toNat % 4 = 0) → (s.plainAt n ((s.core n).getX r1).toNat 4 .atomic = some (x, true)) → (((s.drainSb n).core n).resv ≠ some (x / 32)) → ∃ t, exec (.sc n rd r2 r1 w) s = .next t ∧ t.mem = (s.drainSb n).mem ∧ (t.core n).resv = none ∧ (rd ≠ 0 → (t.core n).getX rd = 1)) ∧
  (∀ (s : State) (n rd r2 r1 x : Nat) (op : AmoOp) (w : List (List Nat)), (s.engReady n = true) → (((s.core n).getX r1).toNat % 4 = 0) → (s.plainAt n ((s.core n).getX r1).toNat 4 .atomic = some (x, true)) → ∃ t, exec (.amo n op rd r2 r1 w) s = .next t ∧ t.mem = memWriteL (s.drainSb n).mem x (leBytes 4 (amoVal op (BitVec.ofNat 32 (leNat (memReadL (s.drainSb n).mem x 4))) ((s.core n).getX r2)).toNat) ∧ (rd ≠ 0 → (t.core n).getX rd = BitVec.ofNat 32 (leNat (memReadL (s.drainSb n).mem x 4)))) ∧
  (∀ (s : State) (n rd r2 r1 : Nat) (op : AmoOp) (w : List (List Nat)), (s.engReady n = true) → (((s.core n).getX r1).toNat % 4 ≠ 0) → exec (.lr n rd r1 w) s = .next (s.trap n 4 (BitVec.ofNat 32 ((s.core n).getX r1).toNat)) ∧ exec (.sc n rd r2 r1 w) s = .next (s.trap n 6 (BitVec.ofNat 32 ((s.core n).getX r1).toNat)) ∧ exec (.amo n op rd r2 r1 w) s = .next (s.trap n 6 (BitVec.ofNat 32 ((s.core n).getX r1).toNat))) ∧
  (∀ (s : State) (n : Nat) (p : Bool), (s.engReady n = true) → exec (.fence n p false) s = .next (s.setCore n (s.core n).next)) ∧
  (∀ (s : State) (n : Nat) (p : Bool), (s.engReady n = true) → exec (.fence n p true) s = .next ((s.drainSb n).setCore n ((s.drainSb n).core n).next)) ∧
  (∀ (s : State) (n : Nat), (s.engReady n = true) → exec (.fenceI n) s = .next (((s.drainSb n).syncFetch n).setCore n (((s.drainSb n).syncFetch n).core n).next)) ∧
  (∀ (s : State) (n : Nat), exec (.reservationTimeout n) s = .next (s.setCore n { s.core n with resv := none }))

/-- WFI, xblstat and the deadline timer of an engine -/
def Obligations.EngineTiming : Prop :=
  (∀ (s : State) (n : Nat), (s.engReady n = true) → exec (.wfi n) s = .next (s.setCore n { (s.core n).next with wfi := ((s.core n).mip &&& (s.core n).mie) = 0 })) ∧
  (∀ (s : State) (n : Nat) (v : W32), (s.engReady n = true) → exec (.xblstatWrite n v) s = .next (s.setCore n { (s.core n).next with stat := (s.core n).stat &&& (v.toNat % 16) })) ∧
  (∀ (s : State) (n r1 r2 : Nat) (b : Bool), (s.engReady n = true) → exec (.dlset n r1 r2 b) s = .next (s.setCore n ((s.core n).arm (((s.core n).getX r2).toNat * 2 ^ 32 + ((s.core n).getX r1).toNat) b).next)) ∧
  (∀ (s : State) (n r1 : Nat) (b : Bool), (s.engReady n = true) → exec (.dlrel n r1 b) s = .next (s.setCore n ((s.core n).arm ((s.core n).deadline + ((s.core n).getX r1).toNat) b).next)) ∧
  (∀ (s : State) (n : Nat), (s.engReady n = true) → exec (.dlclr n) s = .next (s.setCore n { (s.core n).next with dlArm := false, dlie := false, mip := BitVec.ofNat 32 (putBits (s.core n).mip.toNat 16 1 0) })) ∧
  (∀ (s : State) (n rd : Nat), (s.engReady n = true) → ((s.core n).dlArm = false) → exec (.dlwait n rd) s = .next (s.setCore n ((s.core n).setX rd 0).next)) ∧
  (∀ (s : State) (n rd : Nat), (s.engReady n = true) → ((s.core n).dlArm = true) → ((s.core n).deadline < s.fcount n) → exec (.dlwait n rd) s = .next ((s.setCore n (((s.core n).setX rd (BitVec.ofNat 32 (min (s.fcount n - (s.core n).deadline) 0xFFFFFFFF))).orStat true 8).next).engBump Fld.ENG_DLMISS__MISS n)) ∧
  (∀ (s : State) (n rd : Nat), (s.engReady n = true) → ((s.core n).dlArm = true) → (s.fcount n < (s.core n).deadline) → exec (.dlwait n rd) s = .next (s.setCore n { (s.core n).next with dlWait := some rd })) ∧
  (∀ (s : State) (n rd : Nat), ((s.core n).dlArm = true) → ((s.core n).dlie = false) → ((s.core n).dlWait = some rd) → ((s.core n).deadline ≤ s.fcount n) → exec (.deadlineExpiry n) s = .next ((s.setCore n { (s.core n).setX rd 0 with dlWait := none }).endIdle n)) ∧
  (∀ (s : State) (n : Nat), ((s.core n).dlArm = true) → ((s.core n).dlie = true) → ((s.core n).dlWait = none) → ((s.core n).deadline ≤ s.fcount n) → exec (.deadlineExpiry n) s = .next (s.engIrq n 16)) ∧
  (∀ (s : State) (n : Nat), ((s.core n).dlArm = false) → exec (.deadlineExpiry n) s = .next s) ∧
  (∀ (s : State) (n r1 r2 a : Nat), (s.engRuns n = false) → exec (.macs n a r1 r2) s = .next s ∧ exec (.wfi n) s = .next s) ∧
  (∀ (s : State) (n c r1 r2 a : Nat), (s.engRuns n = true) → ((s.core n).irqDue = some c) → exec (.macs n a r1 r2) s = .next (s.trap n (2 ^ 31 + c) 0) ∧ exec (.wfi n) s = .next (s.trap n (2 ^ 31 + c) 0))

/-- Retirement causes, self-tests and probation of engines -/
def Obligations.EngineRetirement : Prop :=
  (∀ (s : State) (n : Nat), (s.engLive n = true) → (s.engState n ≠ eHalted) → exec (.heartbeatMissed n) s = .next (s.retire n 1)) ∧
  (∀ (s : State) (n : Nat), (s.engLive n = true) → (s.engState n ≠ eHalted) → exec (.engineMemoryEccError n) s = .next (s.retire n 2)) ∧
  (∀ (s : State) (n : Nat), (s.engLive n = true) → (s.engState n ≠ eHalted) → exec (.engineUnexpectedTrap n) s = .next (s.retire n 3)) ∧
  (∀ (s : State) (n : Nat), (s.engLive n = true) → (s.engState n = eSpare) → exec (.spareSelfTest n false) s = .next (s.retire n 5)) ∧
  (∀ (s : State) (n : Nat), (s.engLive n = true) → (s.engState n = eHalted) → (n < 128 → s.stage = 5) → (128 ≤ n → (s.firn (if n < 192 then .f0 else .f1)).runs = false) → exec (.engineSelfTestDone n true) s = .next ((s.setEngState n eSpare).poolRefresh) ∧ exec (.engineSelfTestDone n false) s = .next (s.retire n 6)) ∧
  (∀ (s : State) (n : Nat) (pass : Bool), (s.engLive n = true) → (s.engState n ≠ eHalted) → exec (.engineSelfTestDone n pass) s = .next (s.retiredTest n pass)) ∧
  (∀ (s : State) (n : Nat) (pass : Bool), (s.engState n ≠ eRetired ∨ s.engGet Fld.ENG_HEALTH__PERMANENT n ≠ 0) → s.retiredTest n pass = s) ∧
  (∀ (s : State) (n : Nat), exec (.spareSelfTest n true) s = .next s) ∧
  (∀ (s : State) (n : Nat), (s.engState n = eRetired) → exec (.heartbeatMissed n) s = .next s ∧ exec (.engineMemoryEccError n) s = .next s ∧ exec (.engineUnexpectedTrap n) s = .next s) ∧
  (∀ (s : State) (n : Nat), (s.engLive n = true) → (s.engState n = eRetired) → (s.engGet Fld.ENG_HEALTH__PERMANENT n = 0) → exec (.retiredSelfTest n true) s = .next (s.probation n)) ∧
  (∀ (s : State) (n : Nat), (s.engLive n = true) → (s.engState n = eRetired) → (s.engGet Fld.ENG_HEALTH__PERMANENT n = 0) → exec (.retiredSelfTest n false) s = .next (s.postEng n { code := 0x908, sev := 1, obj := n, data := 1 })) ∧
  (∀ (s : State) (n : Nat), (s.engLive n = true) → (s.engState n = eProbation) → exec (.probationComplete n true) s = .next ((((({ s with eng := { s.eng with prob := tabErase s.eng.prob n } } : State).engPut Fld.ENG_HEALTH__PROGRESS n 0).setEngState n eSpare).poolRefresh).postEng n { code := 0x907, sev := 0, obj := n })) ∧
  (∀ (s : State) (n : Nat), (s.engLive n = true) → (s.engState n = eProbation) → exec (.probationComplete n false) s = .next (s.probationFailed n)) ∧
  (∀ (s : State) (n : Nat), (128 ≤ n) → ∃ u : State, s.probationFailed n = (if 3 ≤ min 15 (s.engGet Fld.ENG_HEALTH__RETIRE_COUNT n + 1) then (u.postEng n { code := 0x908, sev := 1, obj := n, data := 2 }).postEng n { code := 0x908, sev := 1, obj := n, data := 4 } else u.postEng n { code := 0x908, sev := 1, obj := n, data := 2 })) ∧
  (∀ (s : State) (k : Nat), (k < 16) → exec (.scratchpadEccError k none) s = .next (s.bump Fld.SPAD_ECC__CORRECTED k 1)) ∧
  (∀ (s : State) (k : Nat), (16 ≤ k) → exec (.scratchpadEccError k none) s = .next (s.bump Fld.FSPAD_ECC__CORRECTED (k - 16) 1)) ∧
  (∀ (s : State) (k n : Nat) (a : W32), (s.engLive n = true) → (n < 128) → (s.engState n = eActive) → ((s.core n).job = none) → exec (.scratchpadEccError k (some (n, a))) s = .next ((s.trap n 5 a).setCore n { (s.trap n 5 a).core n with job := none, jobs := (s.core n).jobs })) ∧
  (∀ (s : State) (n first : Nat) (g : Migr), (tabFind s.eng.migr n = some g) → (s.engLive n = true) → (({ s with eng := { s.eng with migr := tabErase s.eng.migr n } } : State).engState n = eLoading) → exec (.replayComplete n first) s = .next ((g.points.foldl (fun s x => s.replayed first g.peaks x) (({ s with eng := { s.eng with migr := tabErase s.eng.migr n } } : State).setEngState n eActive)).poolRefresh))

/-- Job release, end, overrun and miss, the ECALL services, and APP_LOAD -/
def Obligations.EngineJobs : Prop :=
  (∀ (s : State) (n : Nat), (s.engReady n = true) → ((s.core n).mach = false) → ((s.core n).job.isNone = false) → exec (.endJob n) s = .next (s.dropJob n)) ∧
  (∀ (s : State) (n : Nat), (s.engReady n = true) → ((s.core n).mach = false) → ((s.core n).job.isNone = false) → exec (.readDeviceTime n) s = .next (s.setCore n ((s.core n).result s.devTime (s.devTime / 2 ^ 32)))) ∧
  (∀ (s : State) (n : Nat), (s.engReady n = true) → ((s.core n).mach = false) → ((s.core n).job.isNone = false) → exec (.readReleaseFcount n) s = .next (s.setCore n ((s.core n).result ((s.core n).job.getD (0, 0)).2 (((s.core n).job.getD (0, 0)).2 / 2 ^ 32)))) ∧
  (∀ (s : State) (n : Nat), (s.engReady n = true) → ((s.core n).mach = false) → ((s.core n).job.isNone = false) → (s.cfg.appPoints.contains ((s.core n).getX 10).toNat = false) → exec (.readSnapshot n) s = .next (s.setCore n ({ (s.core n).setX 10 0xFFFFFFFE with resv := none } : Engine).next)) ∧
  (∀ (s : State) (n : Nat) (b : List Byte), (s.engReady n = true) → ((s.core n).mach = false) → ((s.core n).job.isNone = false) → (s.cfg.appPoints.contains ((s.core n).getX 10).toNat = true) → ((s.section_ ((s.core n).getX 10).toNat 0).getD [] = b) → (0x10000 ≤ ((s.core n).getX 11).toNat) → (((s.core n).getX 11).toNat + b.length ≤ 0x20000) → exec (.readSnapshot n) s = .next ((s.memStore n (privAddr n ((s.core n).getX 11).toNat) b).setCore n ({ ((s.memStore n (privAddr n ((s.core n).getX 11).toNat) b).core n).setX 10 0 with resv := none } : Engine).next)) ∧
  (∀ (s : State) (n : Nat), (s.engReady n = true) → ((s.core n).mach = true) → exec (.endJob n) s = .next (s.trap n 11 0)) ∧
  (∀ (s : State) (item n fc : Nat) (t : TaskCfg), (tabFind s.cfg.tasks item = some t) → (tabFind s.cfg.taskEngine item = some n) → (s.taskHeld item n = false) → (s.engGet Fld.ENG_STATE__STATE n = eActive) → exec (.jobRelease item fc) s = .next (s.release item n (s.releaseAt t item n fc))) ∧
  (∀ (s : State) (n item rel : Nat), ((s.core n).job = some (item, rel)) → exec (.budgetOverrun n) s = .next (((s.engBump Fld.ENG_DLMISS__OVERRUN n).dropJob n).postBoth { code := 0x909, sev := 1, obj := item })) ∧
  (∀ (s : State) (n item rel : Nat), ((s.core n).job = some (item, rel)) → exec (.jobDeadlineMiss n) s = .next ((s.engBump Fld.ENG_DLMISS__MISS n).dropJob n)) ∧
  (∀ (s : State) (d : Desc) (b im dm : List Byte), (s.accepts 0x70 d = true) → ((s.taken d).cfg.appClusters.contains d.target.toNat = false) → exec (.appLoad d (.data b) im dm) s = .next ((s.taken d).fin ((s.taken d).ticket d) stProtection)) ∧
  (∀ (s : State) (d : Desc) (b im dm : List Byte), (s.accepts 0x70 d = true) → ((s.taken d).cfg.appClusters.contains d.target.toNat = true) → (tabFind (s.taken d).cfg.appHash d.target.toNat = some (Config.digest 1 (b.map (·.toNat)))) → (im.length ≤ 65536) → (dm.length ≤ 65536) → exec (.appLoad d (.data b) im dm) s = .next ({ s.taken d with eng := { (s.taken d).eng with appLoads := (s.taken d).eng.appLoads ++ [{ t := (s.taken d).ticket d, cluster := d.target.toNat, imem := im, dmem := dm }] } }))

/-- Control-cycle marks, power failure and the start of a Firn die -/
def Obligations.LegalMarks : Prop :=
  (∀ (s : State) (d : Firn) (dev m : Nat) (busy : Bool) (raw : List (Nat × List Nat)), (s.firnLive d = true) → (s.linkUp d.link = true) → exec (.controlCycleMark d dev m busy raw) s = .next ((((s.put Fld.FIRN_STATUS__LOCAL_MARKS d.num 0).markClock d (max m ((s.put Fld.FIRN_STATUS__LOCAL_MARKS d.num 0).firn d).m) dev).cycleFcount (1 + d.num) 0).markWork d busy ((s.put Fld.FIRN_STATUS__LOCAL_MARKS d.num 0).firn d).m raw)) ∧
  (∀ (s : State) (d : Firn) (dev m : Nat) (busy : Bool) (raw : List (Nat × List Nat)), (s.firnLive d = false ∨ s.linkUp d.link = false) → exec (.controlCycleMark d dev m busy raw) s = .next s) ∧
  (∀ (s : State) (d : Firn) (m : Nat) (busy : Bool) (raw : List (Nat × List Nat)), (s.firnLive d = true) → exec (.localMark d m busy raw) s = .next ((((s.put Fld.FIRN_STATUS__LOCAL_MARKS d.num 1).setFirn d { (s.put Fld.FIRN_STATUS__LOCAL_MARKS d.num 1).firn d with m := max m ((s.put Fld.FIRN_STATUS__LOCAL_MARKS d.num 1).firn d).m }).cycleFcount (1 + d.num) 0).markWork d busy ((s.put Fld.FIRN_STATUS__LOCAL_MARKS d.num 1).firn d).m raw)) ∧
  (∀ (s : State) (d : Firn), (s.firnLive d = true) → ((s.firn d).restart = true) → exec (.restartMarkTimeout d) s = .next ((s.resumeUnverified d 0).outageWrite d (s.firn d).m)) ∧
  (∀ (s : State) (d : Firn) (dev m : Nat), ((s.firn d).timeSet = none) → ((s.firn d).restart = true) → (dev = 0) → s.markClock d m dev = s.resumeUnverified d m) ∧
  (∀ (s : State) (d : Firn) (idx : Nat) (done : Bool), ((s.firn d).pfw = none) → ((s.firn d).runs = true) → ∃ t, exec (.pfwFall d idx done) s = .next t ∧ (t.firn d).pfw = some (idx, (s.firn d).legal idx) ∧ (t.firn d).pfwHigh = false ∧ ((s.firn d).outage = none → done = true → (t.firn d).finalOk = true ∧ (t.firn d).commitIdx = idx - 34)) ∧
  (∀ (s : State) (d : Firn) (idx : Nat) (done : Bool), ((s.firn d).pfw.isSome = true ∨ (s.firn d).runs = false) → exec (.pfwFall d idx done) s = .next (s.setFirn d { s.firn d with pfwHigh := false })) ∧
  (∀ (s : State) (p k : Nat), ((s.eng.migr.any fun x => x.2.points.any (·.1 == p)) = false) → (∃ u : State, ((s.finalPoint p k).mp p).fin = some (u.snapshot p k)) ) ∧
  (∀ (s : State) (d : Firn), exec (.pfwRise d) s = .next (s.setFirn d { s.firn d with pfwHigh := true })) ∧
  (∀ (s : State) (d : Firn) (ok0 ok1 : Bool) (v : W32) (bad : List Nat), ((s.firn d).pfw = none ∨ (s.firn d).pfwHigh = false) → exec (.pfwHighTimeout d ok0 ok1 v bad) s = .next s) ∧
  (∀ (s : State) (d : Firn) (ok0 ok1 : Bool) (v : W32) (bad : List Nat), ((s.firn d).pfw.isSome = true) → ((s.firn d).pfwHigh = true) → ((s.firn d).runs = true) → exec (.pfwHighTimeout d ok0 ok1 v bad) s = .next (s.dieStart d ok0 ok1 v bad true)) ∧
  (∀ (s : State) (d : Firn) (ok0 ok1 : Bool) (v : W32) (bad : List Nat), ((s.firn d).runs = false) → (d = .f1 → s.variant.hasF1 = true) → (s.railsGood d.die = true) → (s.isDown = false) → ((s.firn d).waking = false ∨ s.pwr ≠ 2) → exec (.firnDieStart d ok0 ok1 v bad) s = .next (s.dieStart d ok0 ok1 v bad false)) ∧
  (∀ (s : State) (d : Firn) (ok0 ok1 : Bool) (v : W32) (bad : List Nat), ((s.firn d).runs = true) → exec (.firnDieStart d ok0 ok1 v bad) s = .next s) ∧
  (∀ (s : State) (d : Firn), ((s.firn d).restart = false) → exec (.restartMarkTimeout d) s = .next s) ∧
  (∀ (s : State) (d : Firn) (cals : List (Nat × CalSums)) (idx : Nat), exec (.referencesSettled d cals idx) s = .next ((s.refsSettled d cals).outageWrite d idx))

/-- Legal requests: check, time set, pulse outputs, schedules, outage and identity -/
def Obligations.LegalRequests : Prop :=
  (∀ (s : State) (c : Chan) (d : Firn) (v : W32), (s.takes c 0x0105 d = true) → exec (.firmwareCheck c v) s = .next ((((s.clearDb c 1).checkValue d v).replyReq c (s.chan c).seq 0x0105 stDone ([0, 0] ++ leBytes 4 v.toNat ++ leBytes 4 (((s.clearDb c 1).checkValue d v).reg .FIRN_CHECK_REF d.num).toNat ++ leBytes 8 (((s.clearDb c 1).checkValue d v).legalNow d) ++ [BitVec.ofNat 8 (b2n (v != ((s.clearDb c 1).checkValue d v).reg .FIRN_CHECK_REF d.num))])))) ∧
  (∀ (s : State) (c : Chan) (d : Firn) (eff : Nat), (s.takes c 0x0103 d = true) → (zeroOutside (s.reqBytes c) [(0, 3), (8, 15)] = true) → ((s.clearDb c 1).sealed d = true) → exec (.legalTimeSet c eff) s = .next ((s.clearDb c 1).sealLocked d c (s.chan c).seq 0x0103)) ∧
  (∀ (s : State) (c : Chan) (d : Firn) (eff : Nat), (s.takes c 0x0103 d = true) → (zeroOutside (s.reqBytes c) [(0, 3), (8, 15)] = true) → ((s.clearDb c 1).sealed d = false) → ((s.clearDb c 1).calFull d = false) → exec (.legalTimeSet c eff) s = .next ((((s.clearDb c 1).setFirn d { (s.clearDb c 1).firn d with timeSet := some (field (s.reqBytes c) 8 8) }).calRecord d 0x0103 0 eff (leBytes 8 (((s.clearDb c 1).setFirn d { (s.clearDb c 1).firn d with timeSet := some (field (s.reqBytes c) 8 8) }).legalNow d) ++ leBytes 8 (field (s.reqBytes c) 8 8))) |> fun t => t.replyReq c (s.chan c).seq 0x0103 stDone ([0, 0] ++ leBytes 4 (t.get Fld.FIRN_CAL_COUNT__COUNT d.num) ++ leBytes 8 eff))) ∧
  (∀ (s : State) (c : Chan) (d : Firn), (s.takes c 0x0104 d = true) → (field (s.reqBytes c) 4 1 < 8) → (field (s.reqBytes c) 5 1 < 2) → ((s.clearDb c 1).ownsPoint d (field (s.reqBytes c) 6 2) = true) → (field (s.reqBytes c) 8 1 < 8) → (field (s.reqBytes c) 9 1 = 0) → (1 ≤ field (s.reqBytes c) 10 2) → (field (s.reqBytes c) 10 2 ≤ 80) → (1 ≤ field (s.reqBytes c) 12 8) → (field (s.reqBytes c) 12 8 ≤ 10 ^ 12) → exec (.pulseOut c) s = .next (((s.clearDb c 1).setPto d (field (s.reqBytes c) 4 1) { (s.clearDb c 1).pto d (field (s.reqBytes c) 4 1) with pend := some (field (s.reqBytes c) 5 1 == 1, field (s.reqBytes c) 6 2, field (s.reqBytes c) 8 1, field (s.reqBytes c) 10 2, field (s.reqBytes c) 12 8) }).replyReq c (s.chan c).seq 0x0104 stDone [])) ∧
  (∀ (s : State) (c : Chan) (d : Firn), (s.takes c 0x0104 d = true) → (field (s.reqBytes c) 10 2 < 1 ∨ 80 < field (s.reqBytes c) 10 2 ∨ 8 ≤ field (s.reqBytes c) 4 1) → exec (.pulseOut c) s = .next ((s.clearDb c 1).replyReq c (s.chan c).seq 0x0104 stBad [])) ∧
  (∀ (s : State) (c : Chan) (d : Firn) (mark : Nat), (s.takes c 0x0102 d = true) → (scheduleOk (s.reqBytes c) = true) → (((s.clearDb c 1).diePoints d).any (fun p => ((s.clearDb c 1).pcfg p).sched == field (s.reqBytes c) 4 1 && decide (((s.clearDb c 1).pcfg p).rates ≤ topRate (s.reqBytes c))) = true) → exec (.rateSchedule c mark) s = .next ((s.clearDb c 1).replyReq c (s.chan c).seq 0x0102 stCapacity [])) ∧
  (∀ (s : State) (c : Chan) (d : Firn) (mark : Nat), (s.takes c 0x0102 d = true) → (scheduleOk (s.reqBytes c) = false) → exec (.rateSchedule c mark) s = .next ((s.clearDb c 1).replyReq c (s.chan c).seq 0x0102 stBad [])) ∧
  (∀ (s : State) (c : Chan) (d : Firn) (mark : Nat), (s.takes c 0x0102 d = true) → (scheduleOk (s.reqBytes c) = true) → (((s.clearDb c 1).diePoints d).any (fun p => ((s.clearDb c 1).pcfg p).sched == field (s.reqBytes c) 4 1 && decide (((s.clearDb c 1).pcfg p).rates ≤ topRate (s.reqBytes c))) = false) → ((s.clearDb c 1).morRefuses d 12 = false) → ∃ t id a, exec (.rateSchedule c mark) s = .next ((t.setReg .FIRN_SCHED_PEND (4 * d.num + field (s.reqBytes c) 4 1) (BitVec.ofNat 32 id)).replyReq c (s.chan c).seq 0x0102 stDone ([0, 0] ++ leBytes 4 id ++ leBytes 8 a)) ∧ id = field (s.reqBytes c) 16 4 ∧ a = (if field (s.reqBytes c) 8 8 = 0 then mark else field (s.reqBytes c) 8 8) ∧ t = (s.clearDb c 1).setFirn d { (s.clearDb c 1).firn d with schedPend := tabSet ((s.clearDb c 1).firn d).schedPend (field (s.reqBytes c) 4 1) { id := id, activate := a, body := s.reqBytes c } }) ∧
  (∀ (s : State) (c : Chan) (d : Firn), (s.takes c 0x0106 d = true) → ((s.clearDb c 1).ownsPoint d (field (s.reqBytes c) 4 2) = false) → exec (.outageRead c) s = .next ((s.clearDb c 1).replyReq c (s.chan c).seq 0x0106 stAbsent [])) ∧
  (∀ (s : State) (c : Chan) (d : Firn), (s.takes c 0x0106 d = true) → ((s.clearDb c 1).ownsPoint d (field (s.reqBytes c) 4 2) = true) → exec (.outageRead c) s = .next ((s.clearDb c 1).replyReq c (s.chan c).seq 0x0106 stDone ([0, 0] ++ (upTo 8).flatMap (fun q => leBytes 16 (tabGet 0 ((s.clearDb c 1).mp (field (s.reqBytes c) 4 2)).unb q)) ++ leBytes 4 ((s.clearDb c 1).get Fld.MP_OUTAGES__VALUE (field (s.reqBytes c) 4 2)) ++ leBytes 8 ((s.clearDb c 1).mp (field (s.reqBytes c) 4 2)).outTime))) ∧
  (∀ (s : State) (c : Chan) (d : Firn), (s.takes c 0x0101 d = true) → exec (.legalIdentity c) s = .next ((s.clearDb c 1).replyReq c (s.chan c).seq 0x0101 stDone ([0, 0] ++ leBytes 8 ((s.clearDb c 1).firn d).serial ++ digestBytes 64 3 [d.num, ((s.clearDb c 1).firn d).serial] ++ digestBytes 64 4 [d.num, ((s.clearDb c 1).firn d).serial] ++ leBytes 4 ((s.clearDb c 1).reg .FIRN_CHECK d.num).toNat ++ [BitVec.ofNat 8 ((s.clearDb c 1).get Fld.FIRN_STATUS__SLOT d.num)])))

/-- Seal and tamper inputs, the check value, pulses, records and legal firmware -/
def Obligations.LegalRecords : Prop :=
  (∀ (s : State) (d : Firn) (high : Bool), (s.firnLive d = true) → (s.input (.seal d) = if high then Level.low else Level.high) → exec (.sealChange d high) s = .next ((s.sealState d (if high then Level.high else Level.low)).tamper d 2 3 3 [])) ∧
  (∀ (s : State) (d : Firn) (high : Bool), (s.input (.seal d) = if high then Level.high else Level.low) → exec (.sealChange d high) s = .next s) ∧
  (∀ (s : State) (d : Firn) (high : Bool), (s.input (.seal d) = .undet) → exec (.sealChange d high) s = .next (s.sealState d (if high then Level.high else Level.low))) ∧
  (∀ (s : State) (d : Firn) (magnet high : Bool), (s.input (if magnet then Inp.magnet d else .cover d) = if high then .high else .low) → exec (.tamperInput d magnet high) s = .next s) ∧
  (∀ (s : State) (d : Firn) (magnet high : Bool), (s.input (if magnet then Inp.magnet d else .cover d) ≠ if high then .high else .low) → exec (.tamperInput d magnet high) s = .next (s.tamperLevel d magnet high)) ∧
  (∀ (s : State) (d : Firn) (v : W32), (s.firnLive d = true) → exec (.firmwareCheckPeriodic d v) s = .next (s.checkValue d v)) ∧
  (∀ (s : State) (d : Firn) (v : W32), (v ≠ s.reg .FIRN_CHECK_REF d.num) → (s.flag Fld.FIRN_STATUS__HALT_FW d.num = true) → s.checkValue d v = (s.setReg .FIRN_CHECK d.num v).put Fld.FIRN_STATUS__CHECK_OK d.num 0) ∧
  (∀ (s : State) (d : Firn) (k : Nat), (s.firnLive d = true) → (s.flag Fld.PTO_CFG__EN (ptoIdx d k) = true) → (s.mpState (s.get Fld.PTO_CFG__POINT (ptoIdx d k)) = mpMetering) → (s.get Fld.PTO_COUNT__PULSES (ptoIdx d k) + (s.pto d k).queued < s.ptoDue d k) → ((s.pto d k).on = false) → exec (.pulseTestOutputEdge d k) s = .next (s.ptoStart d k)) ∧
  (∀ (s : State) (d : Firn) (k : Nat), (s.firnLive d = true) → (s.flag Fld.PTO_CFG__EN (ptoIdx d k) = true) → (s.mpState (s.get Fld.PTO_CFG__POINT (ptoIdx d k)) = mpMetering) → (s.get Fld.PTO_COUNT__PULSES (ptoIdx d k) + (s.pto d k).queued < s.ptoDue d k) → ((s.pto d k).on = true) → ((s.pto d k).queued < 65535) → exec (.pulseTestOutputEdge d k) s = .next (s.setPto d k { s.pto d k with queued := (s.pto d k).queued + 1 })) ∧
  (∀ (s : State) (d : Firn) (k : Nat), ((s.pto d k).on = true) → ((s.pto d k).queued ≠ 0) → exec (.pulseTestOutputEnd d k) s = .next ((s.setPto d k { s.pto d k with on := false, queued := (s.pto d k).queued - 1 }).ptoStart d k)) ∧
  (∀ (s : State) (d : Firn) (k : Nat), ((s.pto d k).on = true) → ((s.pto d k).queued = 0) → exec (.pulseTestOutputEnd d k) s = .next (s.setPto d k { s.pto d k with on := false })) ∧
  (∀ (s : State) (p : Nat), (s.firnLive (s.pcfg p).die = true) → ((s.mp p).final = true) → ((s.mp p).recFormed = false) → ((s.firn (s.pcfg p).die).outage = none) → (s.mpState p = mpFrozen) → ∃ t, exec (.readingRecordForm p) s = .next t ∧ t.reg .MP_REC_SEQ p = BitVec.ofNat 32 (s.get Fld.FIRN_REC_SEQ__SEQ (s.pcfg p).die.num + 1)) ∧
  (∀ (s : State) (p : Nat), ((s.mp p).final = false ∨ (s.mp p).recFormed = true) → exec (.readingRecordForm p) s = .next s) ∧
  (∀ (s : State) (d : Desc) (r : Rec), (s.accepts 0x41 d = true) → (((s.taken d).firn ((s.taken d).pcfg d.target.toNat).die).records.filter (fun r => r.point == d.target.toNat && (DescF.par d 0 4 == 0 || r.seq == DescF.par d 0 4)) |>.getLast? |> fun x => x = some r) → exec (.recordRead d) s = .next (((s.taken d).writeBuf d (signed ((s.taken d).pcfg d.target.toNat).die r.bytes)).fin ((s.taken d).ticket d) stDone ((signed ((s.taken d).pcfg d.target.toNat).die r.bytes).length % 65536))) ∧
  (∀ (s : State) (d : Desc), (s.accepts 0x41 d = true) → (((s.taken d).firn ((s.taken d).pcfg d.target.toNat).die).records = []) → exec (.recordRead d) s = .next ((s.taken d).fin ((s.taken d).ticket d) stCapacity 1)) ∧
  (∀ (s : State) (d : Firn) (v : W32) (ok : Bool), (s.firnLive d = true) → exec (.legalFirmwareInstall d v ok) s = .next ((s.installLegal d v ok).1)) ∧
  (∀ (s : State) (d : Firn) (v : W32) (ok : Bool), (s.sealed d = true) → s.installLegal d v ok = (s.tamper d 6 3 0 [], stSealLocked)) ∧
  (∀ (s : State) (d : Firn) (idx : Nat), (s.firnLive d = true) → exec (.rateSwitch d idx) s = .next (s.rateRefresh d idx)) ∧
  (∀ (s : State) (d : Firn) (k idx : Nat) (sc : Sched), (s.firnLive d = true) → (tabFind (s.firn d).schedPend k = some sc) → (sc.activate ≤ (s.firn d).legal idx) → (s.morRoom d 12 = true) → ∃ u, exec (.scheduleActivation d k idx) s = .next u ∧ ∃ (t : State) (l : List Byte), u = ((t.moraine d 0x03 0 l).postDie d 0x247 0 k).rateRefresh d idx ∧ t.reg .FIRN_SCHED_PEND (4 * d.num + k) = 0 ∧ t.reg .FIRN_SCHED (4 * d.num + k) = BitVec.ofNat 32 sc.id)

/-- Requests that measure and calibrate channels and the reference baseline -/
def Obligations.ChannelCalibration : Prop :=
  (∀ (s : State) (c : Chan) (d : Firn), (s.takes c 0x0201 d = true) → (zeroOutside (s.reqBytes c) [(0, 5), (8, 11)] = true) → (1024 ≤ field (s.reqBytes c) 8 4) → (field (s.reqBytes c) 8 4 ≤ 16384) → (chOn d (field (s.reqBytes c) 4 2) = true) → exec (.calMeasure c) s = .next ((s.clearDb c 1).setFirn d { (s.clearDb c 1).firn d with measure := ((s.clearDb c 1).firn d).measure ++ [{ chan := c, seq := (s.chan c).seq, ch := field (s.reqBytes c) 4 2, n := field (s.reqBytes c) 8 4 }] })) ∧
  (∀ (s : State) (c : Chan) (d : Firn), (s.takes c 0x0201 d = true) → (zeroOutside (s.reqBytes c) [(0, 5), (8, 11)] = false ∨ field (s.reqBytes c) 8 4 < 1024 ∨ 16384 < field (s.reqBytes c) 8 4) → exec (.calMeasure c) s = .next ((s.clearDb c 1).replyReq c (s.chan c).seq 0x0201 stBad [])) ∧
  (∀ (s : State) (c : Chan) (d : Firn), (s.takes c 0x0201 d = true) → (zeroOutside (s.reqBytes c) [(0, 5), (8, 11)] = true) → (1024 ≤ field (s.reqBytes c) 8 4) → (field (s.reqBytes c) 8 4 ≤ 16384) → (chOn d (field (s.reqBytes c) 4 2) = false) → exec (.calMeasure c) s = .next ((s.clearDb c 1).replyReq c (s.chan c).seq 0x0201 stAbsent [])) ∧
  (∀ (s : State) (d : Firn) (raw : List (Nat × Int)) (first : Nat) (m : CalMeas), ((s.firn d).measure.find? (·.n == raw.length) = some m) → exec (.calMeasureDone d raw first) s = .next ((s.setFirn d { s.firn d with measure := (s.firn d).measure.erase m }).replyReq m.chan m.seq 0x0201 stDone ([0, 0] ++ leInt 8 (calMean (raw.map fun x => s.adcY d x.1 x.2)) ++ leBytes 4 (calRms (raw.map fun x => s.adcY d x.1 x.2)) ++ leBytes 8 first))) ∧
  (∀ (a b : Int), calMean [a, b] = (a + b) * 32768 ∧ calMean [a] = a * 65536) ∧
  (∀ (s : State) (d : Firn) (raw : List (Nat × Int)) (first : Nat), ((s.firn d).measure.find? (·.n == raw.length) = none) → exec (.calMeasureDone d raw first) s = .next s) ∧
  (∀ (s : State) (c : Chan) (d : Firn) (eff : Nat), (s.takes c 0x0202 d = true) → (zeroOutside (s.reqBytes c) [(0, 5), (8, 19)] = true) → ((s.clearDb c 1).sealed d = true) → exec (.calWrite c eff) s = .next ((s.clearDb c 1).sealLocked d c (s.chan c).seq 0x0202)) ∧
  (∀ (s : State) (c : Chan) (d : Firn) (eff : Nat), (s.takes c 0x0202 d = true) → (zeroOutside (s.reqBytes c) [(0, 5), (8, 19)] = true) → ((s.clearDb c 1).sealed d = false) → (chOn d (field (s.reqBytes c) 4 2) = false) → exec (.calWrite c eff) s = .next ((s.clearDb c 1).replyReq c (s.chan c).seq 0x0202 stAbsent [])) ∧
  (∀ (s : State) (c : Chan) (d : Firn) (eff : Nat), (s.takes c 0x0204 d = true) → ((zeroOutside (s.reqBytes c) [(0, 5), (8, 15)] && !tauTooLong (signedOf 32 (field (s.reqBytes c) 8 4)) (signedOf 32 (field (s.reqBytes c) 12 4))) = true) → ((s.clearDb c 1).sealed d = false) → (chOn d (field (s.reqBytes c) 4 2) = false) → exec (.calDelay c eff) s = .next ((s.clearDb c 1).replyReq c (s.chan c).seq 0x0204 stAbsent [])) ∧
  (∀ (s : State) (c : Chan) (d : Firn) (eff : Nat), (s.takes c 0x0202 d = true) → (zeroOutside (s.reqBytes c) [(0, 5), (8, 19)] = true) → ((s.clearDb c 1).sealed d = false) → (chOn d (field (s.reqBytes c) 4 2) = true) → ((s.clearDb c 1).chBusy (field (s.reqBytes c) 4 2) = false) → ((s.clearDb c 1).calFull d = false) → ∃ (t : State) (l : List Byte), t = (s.clearDb c 1).setFirn d { (s.clearDb c 1).firn d with calPend := ((s.clearDb c 1).firn d).calPend ++ [{ ch := field (s.reqBytes c) 4 2, coef := some (BitVec.ofNat 32 (field (s.reqBytes c) 8 4), BitVec.ofNat 32 (field (s.reqBytes c) 12 4), BitVec.ofNat 32 (field (s.reqBytes c) 16 4)), eff := eff }] } ∧ exec (.calWrite c eff) s = .next ((t.calRecord d 0x0202 (field (s.reqBytes c) 4 2) eff l).replyReq c (s.chan c).seq 0x0202 stDone ([0, 0] ++ leBytes 4 ((t.calRecord d 0x0202 (field (s.reqBytes c) 4 2) eff l).get Fld.FIRN_CAL_COUNT__COUNT d.num) ++ leBytes 8 eff))) ∧
  (∀ (s : State) (c : Chan) (d : Firn) (eff : Nat), (s.takes c 0x0204 d = true) → ((zeroOutside (s.reqBytes c) [(0, 5), (8, 15)] && !tauTooLong (signedOf 32 (field (s.reqBytes c) 8 4)) (signedOf 32 (field (s.reqBytes c) 12 4))) = true) → ((s.clearDb c 1).sealed d = false) → (chOn d (field (s.reqBytes c) 4 2) = true) → ((s.clearDb c 1).chBusy (field (s.reqBytes c) 4 2) = false) → ((s.clearDb c 1).calFull d = false) → ∃ (t : State) (l : List Byte), t = (s.clearDb c 1).setFirn d { (s.clearDb c 1).firn d with calPend := ((s.clearDb c 1).firn d).calPend ++ [{ ch := field (s.reqBytes c) 4 2, align := some (BitVec.ofNat 32 (field (s.reqBytes c) 8 4), BitVec.ofNat 32 (field (s.reqBytes c) 12 4)), eff := eff }] } ∧ exec (.calDelay c eff) s = .next ((t.calRecord d 0x0204 (field (s.reqBytes c) 4 2) eff l).replyReq c (s.chan c).seq 0x0204 stDone ([0, 0] ++ leBytes 4 ((t.calRecord d 0x0204 (field (s.reqBytes c) 4 2) eff l).get Fld.FIRN_CAL_COUNT__COUNT d.num) ++ leBytes 8 eff))) ∧
  (∀ (s : State) (c : Chan) (d : Firn) (eff : Nat), (s.takes c 0x0204 d = true) → ((zeroOutside (s.reqBytes c) [(0, 5), (8, 15)] && !tauTooLong (signedOf 32 (field (s.reqBytes c) 8 4)) (signedOf 32 (field (s.reqBytes c) 12 4))) = true) → ((s.clearDb c 1).sealed d = true) → exec (.calDelay c eff) s = .next ((s.clearDb c 1).sealLocked d c (s.chan c).seq 0x0204)) ∧
  (∀ (s : State) (c : Chan) (d : Firn), (s.takes c 0x0203 d = true) → ((zeroOutside (s.reqBytes c) [(0, 4)] && decide (field (s.reqBytes c) 4 1 ≤ 1)) = true) → ((s.clearDb c 1).sealed d = true) → exec (.refBaseline c) s = .next ((s.clearDb c 1).sealLocked d c (s.chan c).seq 0x0203)) ∧
  (∀ (s : State) (c : Chan) (d : Firn), (s.takes c 0x0203 d = true) → ((zeroOutside (s.reqBytes c) [(0, 4)] && decide (field (s.reqBytes c) 4 1 ≤ 1)) = true) → ((s.clearDb c 1).sealed d = false) → ((s.clearDb c 1).calFull d = false) → ∃ (t : State) (l : List Byte), t = (((s.clearDb c 1).setFirn d { (s.clearDb c 1).firn d with qBase := if ((s.clearDb c 1).firn d).ratios.isEmpty then ((s.clearDb c 1).firn d).qBase else meanFrac ((s.clearDb c 1).firn d).ratios }).put Fld.REF_STATUS__WORKING d.num (field (s.reqBytes c) 4 1)).put Fld.REF_STATUS__DIVERGED d.num 0 ∧ exec (.refBaseline c) s = .next ((t.calRecord d 0x0203 0 0 l).replyReq c (s.chan c).seq 0x0203 stDone ([0, 0] ++ leBytes 4 ((t.calRecord d 0x0203 0 0 l).get Fld.FIRN_CAL_COUNT__COUNT d.num) ++ leInt 4 (baseDev (if ((s.clearDb c 1).firn d).ratios.isEmpty then ((s.clearDb c 1).firn d).qBase else meanFrac ((s.clearDb c 1).firn d).ratios)))))

/-- ADC calibrations, lane steps, seams, trips, channel faults and RTD halves -/
def Obligations.Regelation : Prop :=
  (∀ (s : State) (d : Firn) (a : Nat) (m : CalSums), (s.firnLive d = true) → (s.adcSt d a = aCalibrating) → (s.calVerdict d a (s.calGainOf d a) m ≠ 0) → ∃ t : State, t = (s.calCompare d m).setFirn d { (s.calCompare d m).firn d with suspect := tabErase ((s.calCompare d m).firn d).suspect a } ∧ exec (.adcCalibrationDone d a m) s = .next (((t.bump Fld.ADC_COUNT__FAILS (adcIdx d a) 1).retireAdc d a (s.calVerdict d a (s.calGainOf d a) m)).regelRefresh d)) ∧
  (∀ (s : State) (d : Firn) (a : Nat) (m : CalSums), (s.firnLive d = true) → (s.adcSt d a = aCalibrating) → (s.calVerdict d a (s.calGainOf d a) m = 0) → (tabFind ((s.calCompare d m).firn d).suspect a = none) → ∃ t : State, t = ((s.calCompare d m).setFirn d { (s.calCompare d m).firn d with suspect := tabErase ((s.calCompare d m).firn d).suspect a }).publish d a (s.calGainOf d a) m ∧ exec (.adcCalibrationDone d a m) s = .next ((t.put Fld.ADC_STATUS__STATE (adcIdx d a) (if t.adcLane d a < 8 then aSpare else aReserve)).regelRefresh d)) ∧
  (∀ (s : State) (d : Firn) (a j : Nat) (m : CalSums), (s.firnLive d = true) → (s.adcSt d a = aCalibrating) → (s.calVerdict d a (s.calGainOf d a) m = 0) → (tabFind ((s.calCompare d m).firn d).suspect a = some j) → ∃ t : State, t = ((s.calCompare d m).setFirn d { (s.calCompare d m).firn d with suspect := tabErase ((s.calCompare d m).firn d).suspect a }).publish d a (s.calGainOf d a) m ∧ exec (.adcCalibrationDone d a m) s = .next (((t.put Fld.ADC_STATUS__STATE (adcIdx d a) (if t.adcLane d a < 8 then aSpare else aReserve)).firnPost d none { code := 0x216, sev := 1, obj := chIdx d j, data := 3 }).regelRefresh d)) ∧
  (∀ (s : State) (d : Firn) (a : Nat) (m : CalSums), (s.adcSt d a ≠ aCalibrating) → exec (.adcCalibrationDone d a m) s = .next (if s.firnLive d = true ∧ s.adcSt d a = aStart then s.calCompare d m else s)) ∧
  (∀ (s : State) (d : Firn) (a : Nat), (s.adcSt d a = aReserve) → (s.firnLive d = true) → exec (.reserveRecalibration d a) s = .next (s.setAdc d a aCalibrating 15 255)) ∧
  (∀ (s : State) (d : Firn) (a : Nat), (s.adcSt d a ≠ aReserve) → exec (.reserveRecalibration d a) s = .next s) ∧
  (∀ (s : State) (d : Firn) (a : Nat) (m : CalSums), (s.adcSt d a = aRetired) → (s.firnLive d = true) → (s.calVerdict d a (s.get Fld.ADC_STATUS__GAIN (adcIdx d a)) m ≠ 0) → exec (.retiredAdcCalibration d a m) s = .next (((s.calCompare d m).bump Fld.ADC_COUNT__FAILS (adcIdx d a) 1).put Fld.ADC_STATUS__CLEAN (adcIdx d a) 0)) ∧
  (∀ (s : State) (d : Firn) (a : Nat) (m : CalSums), (s.adcSt d a = aRetired) → (s.firnLive d = true) → (s.calVerdict d a (s.get Fld.ADC_STATUS__GAIN (adcIdx d a)) m = 0) → ∃ t : State, t = (s.calCompare d m).publish d a (s.get Fld.ADC_STATUS__GAIN (adcIdx d a)) m ∧ exec (.retiredAdcCalibration d a m) s = .next (if t.get Fld.ADC_STATUS__CLEAN (adcIdx d a) + 1 < 2 then t.put Fld.ADC_STATUS__CLEAN (adcIdx d a) (t.get Fld.ADC_STATUS__CLEAN (adcIdx d a) + 1) else (((t.put Fld.ADC_STATUS__CLEAN (adcIdx d a) (t.get Fld.ADC_STATUS__CLEAN (adcIdx d a) + 1)).setAdc d a aReserve 15 255).firnPost d none { code := 0x211, sev := 0, obj := d.num * 256 + a, data := 0 }).regelRefresh d)) ∧
  (∀ (s : State) (d : Firn) (k a j : Nat), (s.laneAdc d k = some a) → (s.laneNext d k = some j) → (s.adcSt d a = aSpare) → (s.get Fld.CH_STATUS__STATE (chIdx d j) = 1) → (s.firnLive d = true) → exec (.laneStepStart d k) s = .next ((s.setAdc d a aIncoming k j).put Fld.CH_STATUS__INCOMING (chIdx d j) a)) ∧
  (∀ (s : State) (d : Firn) (k : Nat), (s.laneAdc d k = none ∨ s.laneNext d k = none) → exec (.laneStepStart d k) s = .next s) ∧
  (∀ (s : State) (d : Firn) (k a j : Nat), (s.laneAdc d k = some a) → (s.laneNext d k = some j) → (s.adcSt d a ≠ aSpare ∨ s.get Fld.CH_STATUS__STATE (chIdx d j) ≠ 1 ∨ s.firnLive d = false) → exec (.laneStepStart d k) s = .next s) ∧
  (∀ (s : State) (d : Firn) (k a j : Nat) (ys ya : List Int), (s.firnLive d = true) → (s.laneAdc d k = some a) → (s.adcSt d a = aIncoming) → (s.get Fld.ADC_STATUS__CHANNEL (adcIdx d a) = j) → (j < 96) → (seamPass (seamSums (ys.map (s.adcY d a)) (ya.map (s.adcY d (s.get Fld.CH_STATUS__SERVING (chIdx d j))))) = true) → ∃ t : State, t = (s.put Fld.CH_SEAM__DSTEP (chIdx d j) (seamD (seamSums (ys.map (s.adcY d a)) (ya.map (s.adcY d (s.get Fld.CH_STATUS__SERVING (chIdx d j))))))).put Fld.CH_SEAM__GSTEP (chIdx d j) (seamG (seamSums (ys.map (s.adcY d a)) (ya.map (s.adcY d (s.get Fld.CH_STATUS__SERVING (chIdx d j)))))) ∧ exec (.seamDecision d k ys ya) s = .next ((t.setFirn d { t.firn d with failedOnce := (t.firn d).failedOnce.filter (· != j) }).handover d k j a)) ∧
  (∀ (s : State) (d : Firn) (k a j : Nat) (ys ya : List Int), (s.firnLive d = true) → (s.laneAdc d k = some a) → (s.adcSt d a = aIncoming) → (s.get Fld.ADC_STATUS__CHANNEL (adcIdx d a) = j) → (j < 96) → (seamPass (seamSums (ys.map (s.adcY d a)) (ya.map (s.adcY d (s.get Fld.CH_STATUS__SERVING (chIdx d j))))) = false) → ((s.firn d).failedOnce.contains j = false) → ∃ t : State, t = (s.put Fld.CH_SEAM__DSTEP (chIdx d j) (seamD (seamSums (ys.map (s.adcY d a)) (ya.map (s.adcY d (s.get Fld.CH_STATUS__SERVING (chIdx d j))))))).put Fld.CH_SEAM__GSTEP (chIdx d j) (seamG (seamSums (ys.map (s.adcY d a)) (ya.map (s.adcY d (s.get Fld.CH_STATUS__SERVING (chIdx d j)))))) ∧ exec (.seamDecision d k ys ya) s = .next (t.stepFailed d k j a)) ∧
  (∀ (s : State) (d : Firn) (k a j : Nat) (ys ya : List Int), (s.firnLive d = true) → (s.laneAdc d k = some a) → (s.adcSt d a = aIncoming) → (s.get Fld.ADC_STATUS__CHANNEL (adcIdx d a) = j) → (j < 96) → (seamPass (seamSums (ys.map (s.adcY d a)) (ya.map (s.adcY d (s.get Fld.CH_STATUS__SERVING (chIdx d j))))) = false) → ((s.firn d).failedOnce.contains j = true) → ∃ (t : State) (out : Nat), out = ((s.put Fld.CH_SEAM__DSTEP (chIdx d j) (seamD (seamSums (ys.map (s.adcY d a)) (ya.map (s.adcY d (s.get Fld.CH_STATUS__SERVING (chIdx d j))))))).put Fld.CH_SEAM__GSTEP (chIdx d j) (seamG (seamSums (ys.map (s.adcY d a)) (ya.map (s.adcY d (s.get Fld.CH_STATUS__SERVING (chIdx d j))))))).get Fld.CH_STATUS__SERVING (chIdx d j) ∧ t = ((s.put Fld.CH_SEAM__DSTEP (chIdx d j) (seamD (seamSums (ys.map (s.adcY d a)) (ya.map (s.adcY d (s.get Fld.CH_STATUS__SERVING (chIdx d j))))))).put Fld.CH_SEAM__GSTEP (chIdx d j) (seamG (seamSums (ys.map (s.adcY d a)) (ya.map (s.adcY d (s.get Fld.CH_STATUS__SERVING (chIdx d j))))))).setFirn d { s.firn d with failedOnce := (s.firn d).failedOnce.filter (· != j), suspect := tabSet (s.firn d).suspect out j } ∧ exec (.seamDecision d k ys ya) s = .next (((t.bump Fld.REGEL_SEAM_FAIL__COUNT d.num 1).firnPost d none { code := 0x216, sev := 1, obj := chIdx d j, data := 2 }).handover d k j a)) ∧
  (∀ (s : State) (d : Firn) (a lost : Nat) (b : Bool), (s.adcSt d a ≠ aIncoming) → (s.adcSt d a ≠ aServing) → exec (.adcStabilityTrip d a b lost) s = .next s) ∧
  (∀ (s : State) (d : Firn) (a lost : Nat) (b : Bool), (s.firnLive d = true) → (s.adcSt d a = aIncoming) → exec (.adcStabilityTrip d a b lost) s = .next ((s.stepFailed d (s.adcLane d a) (s.get Fld.ADC_STATUS__CHANNEL (adcIdx d a)) a).regelRefresh d)) ∧
  (∀ (s : State) (d : Firn), (s.flag Fld.REF_STATUS__HALT d.num = true) → (s.refDev d < 1000) → exec (.refHaltLift d) s = .next ((s.put Fld.REF_STATUS__HALT d.num 0).haltLift d 2)) ∧
  (∀ (s : State) (d : Firn), (s.flag Fld.REF_STATUS__HALT d.num = false ∨ 1000 ≤ s.refDev d) → exec (.refHaltLift d) s = .next s) ∧
  (∀ (s : State) (d : Firn) (src idx j : Nat) (pos : Bool) (b : Int), (((s.usedCh d).find? fun j => s.get Fld.CH_CFG__TYPE (chIdx d j) == 6 && s.get Fld.CH_CFG__RTD_SRC (chIdx d j) == src) = some j) → (s.firnLive d = true) → (tabGet (true, none) (s.firn d).rtd src = (pos, some b)) → exec (.rtdReversal d src idx) s = .next (s.setFirn d { s.firn d with rtd := tabSet (s.firn d).rtd src (!pos, some (s.rtdSum d j idx)), rtdDiff := tabSet (s.firn d).rtdDiff src (if pos then s.rtdSum d j idx - b else b - s.rtdSum d j idx) })) ∧
  (∀ (s : State) (d : Firn) (src idx j : Nat) (pos : Bool), (((s.usedCh d).find? fun j => s.get Fld.CH_CFG__TYPE (chIdx d j) == 6 && s.get Fld.CH_CFG__RTD_SRC (chIdx d j) == src) = some j) → (s.firnLive d = true) → (tabGet (true, none) (s.firn d).rtd src = (pos, none)) → exec (.rtdReversal d src idx) s = .next (s.setFirn d { s.firn d with rtd := tabSet (s.firn d).rtd src (!pos, some (s.rtdSum d j idx)) })) ∧
  (∀ (s : State) (ch code : Nat), (faultSuits ((s.faultBlocks ch).get Fld.CH_CFG__TYPE ch) code = true) → ((s.faultBlocks ch).get Fld.CH_STATUS__STATE ch = 1) → ((s.faultBlocks ch).get Fld.CH_STATUS__FAULT ch ≠ code) → exec (.channelFault ch code) s = .next (((s.faultBlocks ch).put Fld.CH_STATUS__FAULT ch code).firnPost (chDie ch) none { code := 0x217, sev := 2, obj := ch, data := code })) ∧
  (∀ (s : State) (ch code : Nat), (faultSuits ((s.faultBlocks ch).get Fld.CH_CFG__TYPE ch) code = false ∨ (s.faultBlocks ch).get Fld.CH_STATUS__STATE ch ≠ 1 ∨ (s.faultBlocks ch).get Fld.CH_STATUS__FAULT ch = code) → exec (.channelFault ch code) s = .next (s.faultBlocks ch)) ∧
  (∀ (s : State) (ch : Nat), (s.get Fld.CH_STATUS__STATE ch = 2) → exec (.channelFaultClear ch) s = .next s) ∧
  (∀ (s : State) (ch : Nat), (s.get Fld.CH_STATUS__STATE ch ≠ 2) → exec (.channelFaultClear ch) s = .next (s.put Fld.CH_STATUS__FAULT ch 0))

/-- An addition to an accumulator changes that position alone, modulo 2^128; the unbilled register saturates -/
def Obligations.Accumulators : Prop :=
  (∀ (a : Accs) (i v : Nat), (accGet a i < 2 ^ 128) → accGet (accAdd a i v) i = (accGet a i + v) % 2 ^ 128) ∧
  (∀ (a : Accs) (i j v : Nat), (i ≠ j) → accGet (accAdd a i v) j = accGet a j) ∧
  (∀ (a : List (Nat × Nat)) (q v : Nat), (tabGet 0 a q < 2 ^ 128) → tabGet 0 (unbAdd a q v) q = min (tabGet 0 a q + v) (2 ^ 128 - 1)) ∧
  (∀ (a : List (Nat × Nat)) (q r v : Nat), (q ≠ r) → tabGet 0 (unbAdd a q v) r = tabGet 0 a r) ∧
  (∀ (x : CycleE), cycleAdds x true = (if x.e = 0 then [] else [(if 0 ≤ x.e then 0 else 1, x.e.natAbs)]) ∧ cycleAdds x false = cycleAdds x true ++ [(if 0 ≤ x.e then (if 0 ≤ x.q then 2 else 5) else (if 0 ≤ x.q then 3 else 4), x.q.natAbs), (if 0 ≤ x.e then 6 else 7, x.sApp)])

/-- Cycles, blocks, freeze lines, demand, harmonics, checkpoints and reading of electricity points -/
def Obligations.MeteringCommands : Prop :=
  (∀ (s : State) (p idx : Nat), (s.dieRuns .ddie = true) → (s.linkUp (match (s.pcfg p).die with | .f0 => .freeze0 | .f1 => .freeze1) = true) → (s.dieRuns (s.pcfg p).die.die = true) → (((s.contactor p false).setMp p { s.mp p with pathClosed := false }).mpState p = mpMetering) → ((pointFlow (((s.contactor p false).setMp p { s.mp p with pathClosed := false }).pcfg p) && (((s.contactor p false).setMp p { s.mp p with pathClosed := false }).pcfg p).flowRule) = false) → exec (.freezeLineEdge p true idx) s = .next (((s.contactor p false).setMp p { s.mp p with pathClosed := false }).freezePoint p idx 1)) ∧
  (∀ (s : State) (p idx : Nat), (s.dieRuns .ddie = true) → (s.linkUp (match (s.pcfg p).die with | .f0 => .freeze0 | .f1 => .freeze1) = true) → (s.dieRuns (s.pcfg p).die.die = true) → (((s.contactor p false).setMp p { s.mp p with pathClosed := false }).mpState p = mpMetering) → ((pointFlow (((s.contactor p false).setMp p { s.mp p with pathClosed := false }).pcfg p) && (((s.contactor p false).setMp p { s.mp p with pathClosed := false }).pcfg p).flowRule) = true) → exec (.freezeLineEdge p true idx) s = .next (((s.contactor p false).setMp p { s.mp p with pathClosed := false }).setMp p { ((s.contactor p false).setMp p { s.mp p with pathClosed := false }).mp p with flow := { (((s.contactor p false).setMp p { s.mp p with pathClosed := false }).mp p).flow with rose := some idx, low := 0 } })) ∧
  (∀ (s : State) (p idx : Nat), (s.dieRuns .ddie = true) → (s.linkUp (match (s.pcfg p).die with | .f0 => .freeze0 | .f1 => .freeze1) = true) → (s.dieRuns (s.pcfg p).die.die = true) → (((s.contactor p false).setMp p { s.mp p with pathClosed := false }).mpState p ≠ mpMetering) → (((s.contactor p false).setMp p { s.mp p with pathClosed := false }).mpState p ≠ mpOos ∨ (s.mp p).verified = none ∨ (s.mp p).frozeAt ≠ none) → exec (.freezeLineEdge p true idx) s = .next ((s.contactor p false).setMp p { s.mp p with pathClosed := false })) ∧
  (∀ (s : State) (p idx : Nat), (s.dieRuns .ddie = true) → (s.linkUp (match (s.pcfg p).die with | .f0 => .freeze0 | .f1 => .freeze1) = true) → (s.dieRuns (s.pcfg p).die.die = true) → (((s.contactor p false).setMp p { s.mp p with pathClosed := false }).mpState p = mpOos) → ((s.mp p).verified.isSome = true) → ((s.mp p).frozeAt = none) → exec (.freezeLineEdge p true idx) s = .next (((s.contactor p false).setMp p { s.mp p with pathClosed := false }).setMp p { ((s.contactor p false).setMp p { s.mp p with pathClosed := false }).mp p with frozeAt := some idx })) ∧
  (∀ (s : State) (p idx : Nat) (r : Bool), (s.dieRuns .ddie = false ∨ s.linkUp (match (s.pcfg p).die with | .f0 => .freeze0 | .f1 => .freeze1) = false ∨ s.dieRuns (s.pcfg p).die.die = false) → exec (.freezeLineEdge p r idx) s = .next s) ∧
  (∀ (s : State) (p idx : Nat), (s.dieRuns .ddie = true) → (s.linkUp (match (s.pcfg p).die with | .f0 => .freeze0 | .f1 => .freeze1) = true) → (s.dieRuns (s.pcfg p).die.die = true) → ((s.cfg.slices.all fun x => x.2.kind == 0 || x.2.point != some p || tabGet .undet s.boot.inputs (.aux x.1) != .undet) = true) → exec (.freezeLineEdge p false idx) s = .next ((s.contactor p true).setMp p { s.mp p with pathClosed := true })) ∧
  (∀ (s : State) (p idx : Nat), ((s.cfg.slices.all fun x => x.2.kind == 0 || x.2.point != some p || tabGet .undet s.boot.inputs (.aux x.1) != .undet) = false) → exec (.freezeLineEdge p false idx) s = .next s) ∧
  (∀ (s : State) (p t : Nat), ((s.pcfg p).commodity = cAc) → (s.firnLive (s.pcfg p).die = true) → exec (.cycleEnd p (some t)) s = .next (if s.flag Fld.MP_STATE__FIXED p = true then s.fixedCrossing p t else s.crossing p t)) ∧
  (∀ (s : State) (p : Nat), ((s.pcfg p).commodity = cAc) → (s.firnLive (s.pcfg p).die = true) → exec (.cycleEnd p none) s = .next (if s.flag Fld.MP_STATE__FIXED p = true then s.endBlock p ((s.mp p).cyc.b + (if (s.pcfg p).nom60 = true then 530 else 636)) else s)) ∧
  (∀ (s : State) (p t : Nat), ((s.mp p).cyc.on = false → s.crossing p t = s.setMp p { s.mp p with cyc := { (s.mp p).cyc with on := true, tk := t, b := ceilT t } }) ∧ ((s.mp p).cyc.on = true → t < (s.mp p).cyc.tk + 489 * 65536 → s.crossing p t = s.setMp p { s.mp p with cyc := { (s.mp p).cyc with ign := t - (s.mp p).cyc.tk } }) ∧ ((s.mp p).cyc.on = true → (s.mp p).cyc.tk + 489 * 65536 ≤ t → ceilT t ≤ (s.mp p).cyc.b + 707 → s.crossing p t = s.endCycle p (ceilT t) t)) ∧
  (∀ (s : State) (p : Nat) (c : Option Nat), ((s.pcfg p).commodity ≠ cAc ∨ s.firnLive (s.pcfg p).die = false) → exec (.cycleEnd p c) s = .next s) ∧
  (∀ (s : State) (p b : Nat), ((s.pcfg p).commodity = cDc) → (s.firnLive (s.pcfg p).die = true) → exec (.dcBlockEnd p b) s = .next (s.cycle p (s.formCycle p (b / 32 * 32) (b / 32 * 32 + 32) 0 0 true (some [])) true)) ∧
  (∀ (s : State) (p b : Nat), ((s.pcfg p).commodity ≠ cDc ∨ s.firnLive (s.pcfg p).die = false) → exec (.dcBlockEnd p b) s = .next s) ∧
  (∀ (s : State) (p : Nat), ((s.pcfg p).commodity = cAc) → (s.firnLive (s.pcfg p).die = true) → (s.flag Fld.MP_STATE__FIXED p = false) → exec (.fixedBlockEntry p) s = .next (s.leaveCrossing p)) ∧
  (∀ (s : State) (p : Nat), ((s.mp p).cyc.on = false) → s.leaveCrossing p = (((s.put Fld.MP_STATE__FIXED p 1).setReg .MP_FREQ p 0).setMp p { s.mp p with cyc := (s.mp p).cyc.fix (s.firn (s.pcfg p).die).m, harmCount := 0 }).postPt p { code := 0x222, sev := 1, obj := p, data := freqImplied (s.mp p).cyc.ign }) ∧
  (∀ (s : State) (p : Nat), ((s.mp p).cyc.on = true) → s.leaveCrossing p = ((((s.endCycle p ((s.mp p).cyc.b + 707) (((s.mp p).cyc.b + 707) * 65536)).put Fld.MP_STATE__FIXED p 1).setReg .MP_FREQ p 0).setMp p { (s.endCycle p ((s.mp p).cyc.b + 707) (((s.mp p).cyc.b + 707) * 65536)).mp p with cyc := ((s.endCycle p ((s.mp p).cyc.b + 707) (((s.mp p).cyc.b + 707) * 65536)).mp p).cyc.fix ((s.mp p).cyc.b + 707), harmCount := 0 }).postPt p { code := 0x222, sev := 1, obj := p, data := freqImplied (s.mp p).cyc.ign }) ∧
  (∀ (s : State) (p : Nat), ((s.pcfg p).commodity ≠ cAc ∨ s.firnLive (s.pcfg p).die = false ∨ s.flag Fld.MP_STATE__FIXED p = true) → exec (.fixedBlockEntry p) s = .next s) ∧
  (∀ (s : State) (p t r x : Nat), ((s.pcfg p).commodity = cAc ∨ (s.pcfg p).commodity = cDc) → (s.firnLive (s.pcfg p).die = true) → ((s.mp p).dm.lastEnd = 0 ∨ (s.mp p).dm.lastEnd < t) → (r = s.get Fld.MP_STATE__RATE p) → (x = demandMw ((((s.mp p).dm.cur :: (s.mp p).dm.subs).take (max 1 (s.pcfg p).sub)).sum) (s.pcfg p).di) → ∃ u, exec (.demandSubintervalEnd p t) s = .next u ∧ (u.mp p).dm.cur = 0 ∧ (u.mp p).dm.lastEnd = t ∧ (u.mp p).dm.subs = ((s.mp p).dm.cur :: (s.mp p).dm.subs).take (max 1 (s.pcfg p).sub) ∧ (tabGet {} (u.mp p).dm.rates r).latest = x ∧ (tabGet {} (u.mp p).dm.rates r).max = max (tabGet {} (s.mp p).dm.rates r).max x ∧ (tabGet {} (u.mp p).dm.rates r).time = (if (tabGet {} (s.mp p).dm.rates r).max < x then t else (tabGet {} (s.mp p).dm.rates r).time)) ∧
  (∀ (s : State) (p t : Nat), (((s.pcfg p).commodity ≠ cAc ∧ (s.pcfg p).commodity ≠ cDc) ∨ s.firnLive (s.pcfg p).die = false ∨ ((s.mp p).dm.lastEnd ≠ 0 ∧ t ≤ (s.mp p).dm.lastEnd)) → exec (.demandSubintervalEnd p t) s = .next s) ∧
  (∀ (s : State) (c : Chan) (d : Firn), (s.takes c 0x0207 d = true) → (zeroOutside (s.reqBytes c) [(0, 5)] = true) → ((s.clearDb c 1).ownsPoint d (field (s.reqBytes c) 4 2) = false) → exec (.mdReset c) s = .next ((s.clearDb c 1).replyReq c (s.chan c).seq 0x0207 stAbsent [])) ∧
  (∀ (s : State) (c : Chan) (d : Firn), (s.takes c 0x0207 d = true) → (zeroOutside (s.reqBytes c) [(0, 5)] = true) → ((s.clearDb c 1).ownsPoint d (field (s.reqBytes c) 4 2) = true) → ((s.clearDb c 1).morRefuses d 8 = false) → ∃ u v : State, exec (.mdReset c) s = .next (v.replyReq c (s.chan c).seq 0x0207 stDone []) ∧ v = (u.moraine d 0x03 (field (s.reqBytes c) 4 2) ([5, 0, 0, 0] ++ leBytes 4 (((s.clearDb c 1).reg .MP_MD_RESETS (field (s.reqBytes c) 4 2)).toNat + 1))).postPt (field (s.reqBytes c) 4 2) { code := 0x224, sev := 0, obj := field (s.reqBytes c) 4 2, data := (((s.clearDb c 1).reg .MP_MD_RESETS (field (s.reqBytes c) 4 2)).toNat + 1) % 65536 } ∧ (u.mp (field (s.reqBytes c) 4 2)).dm.rates = ((s.clearDb c 1).mp (field (s.reqBytes c) 4 2)).dm.rates.map fun x => (x.1, { x.2 with prev := x.2.max, max := 0, time := 0 })) ∧
  (∀ (s : State) (p : Nat), ((s.pcfg p).commodity ≠ cAc ∨ (s.pcfg p).harm = false ∨ (s.mp p).cyc.win ≠ harmCycles (s.pcfg p) ∨ s.firnLive (s.pcfg p).die = false) → exec (.harmonicWindowEnd p) s = .next s) ∧
  (∀ (s : State) (p : Nat), ((s.pcfg p).commodity = cAc) → ((s.pcfg p).harm = true) → ((s.mp p).cyc.win = harmCycles (s.pcfg p)) → (s.firnLive (s.pcfg p).die = true) → exec (.harmonicWindowEnd p) s = .next (s.setMp p { s.mp p with harmFirst := (s.mp p).cyc.winFirst, harmCount := harmCycles (s.pcfg p), harmMask := harmMaskOf (s.pcfg p), harm := (s.mp p).cyc.pts.zipIdx.map fun x => harmWords (harmCycles (s.pcfg p)) (s.reg .CH_SCALE (chIdx (s.pcfg p).die ((harmChans (s.pcfg p)).getD x.2 0))) (harmBins (harmCycles (s.pcfg p)) x.1), cyc := { (s.mp p).cyc with win := 0, pts := [] } })) ∧
  (∀ (s : State) (c : Chan) (d : Firn) (first : Nat), (s.takes c 0x0205 d = true) → (zeroOutside (s.reqBytes c) [(0, 5), (8, 11)] = true) → (10 ≤ field (s.reqBytes c) 8 4) → (field (s.reqBytes c) 8 4 ≤ 100000) → ((s.clearDb c 1).ownsPoint d (field (s.reqBytes c) 4 2) = true) → ((s.clearDb c 1).mpState (field (s.reqBytes c) 4 2) ≠ mpOos) → exec (.energyMeasure c first) s = .next (((s.clearDb c 1).setMp (field (s.reqBytes c) 4 2) { (s.clearDb c 1).mp (field (s.reqBytes c) 4 2) with meas := some { n := field (s.reqBytes c) 8 4, first := first } }).replyReq c (s.chan c).seq 0x0205 stDone ([0, 0] ++ leBytes 8 first))) ∧
  (∀ (s : State) (c : Chan) (d : Firn), (s.takes c 0x0206 d = true) → (zeroOutside (s.reqBytes c) [(0, 5)] = true) → ((s.clearDb c 1).ownsPoint d (field (s.reqBytes c) 4 2) = true) → ((s.clearDb c 1).mpState (field (s.reqBytes c) 4 2) = mpOos) → exec (.energyResult c) s = .next ((s.clearDb c 1).replyReq c (s.chan c).seq 0x0206 stCapacity [])) ∧
  (∀ (s : State) (c : Chan) (d : Firn) (x : EnMeas), (s.takes c 0x0206 d = true) → (zeroOutside (s.reqBytes c) [(0, 5)] = true) → ((s.clearDb c 1).ownsPoint d (field (s.reqBytes c) 4 2) = true) → ((s.clearDb c 1).mpState (field (s.reqBytes c) 4 2) ≠ mpOos) → (((s.clearDb c 1).mp (field (s.reqBytes c) 4 2)).meas = some x) → (x.sums = []) → exec (.energyResult c) s = .next ((s.clearDb c 1).replyReq c (s.chan c).seq 0x0206 stDone ([BitVec.ofNat 8 (b2n (decide (x.n ≤ x.done))), 0] ++ leBytes 4 x.done ++ leBytes 4 x.first ++ List.replicate 24 0 ++ List.replicate 24 0 ++ List.replicate 24 0))) ∧
  (∀ (s : State) (p idx : Nat), ((s.pcfg p).commodity ≠ 0) → (s.firnLive (s.pcfg p).die = true) → exec (.checkpoint p idx none none) s = .next (s.checkpoint p idx)) ∧
  (∀ (s : State) (p idx : Nat), s.checkpoint p idx = (s.setMp p { s.mp p with ckOld := (s.mp p).ck, ck := some (s.snapshot p idx), peak := [] }).billMirror p (s.snapshot p idx)) ∧
  (∀ (s : State) (p idx n : Nat), ((s.pcfg p).commodity ≠ 0) → (s.firnLive (s.pcfg p).die = true) → (s.engLive n = true) → (s.cfg.pointEngines.contains (n, p) = true) → exec (.checkpoint p idx (some n) none) s = .next (s.retire n 4)) ∧
  (∀ (s : State) (p idx n : Nat), ((s.pcfg p).commodity ≠ 0) → (s.firnLive (s.pcfg p).die = true) → (s.engLive n = false ∨ s.cfg.pointEngines.contains (n, p) = false) → exec (.checkpoint p idx (some n) none) s = .next (s.checkpoint p idx)) ∧
  (∀ (s : State) (p idx n : Nat), ((s.pcfg p).commodity ≠ 0) → (s.firnLive (s.pcfg p).die = true) → (s.engLive n = true) → (s.engState n = eProbation) → (engDie n = 1 + (s.pcfg p).die.num) → exec (.checkpoint p idx none (some n)) s = .next ((s.probationFailed n).checkpoint p idx)) ∧
  (∀ (s : State) (p idx : Nat) (e h : Option Nat), ((s.pcfg p).commodity = 0 ∨ s.firnLive (s.pcfg p).die = false) → exec (.checkpoint p idx e h) s = .next s) ∧
  (∀ (s : State) (d : Desc) (b : List Byte), (s.accepts 0x13 d = true) → ((s.taken d).section_ d.target.toNat (DescF.par d 0 1) = some b) → exec (.pointRead d) s = .next (((s.taken d).writeBuf d b).fin ((s.taken d).ticket d) stDone b.length)) ∧
  (∀ (s : State) (d : Desc), (s.accepts 0x13 d = true) → ((s.taken d).section_ d.target.toNat (DescF.par d 0 1) = none) → exec (.pointRead d) s = .next ((s.taken d).fin ((s.taken d).ticket d) stCapacity 1))

/-- Flow blocks, pulses, proving runs and parameter sets -/
def Obligations.FlowCommands : Prop :=
  (∀ (s : State) (p b : Nat), (pointFlow (s.pcfg p) = true) → (s.firnLive (s.pcfg p).die = true) → ∃ (f u t v w : State) (x y : BlockIn) (a : List (Nat × List (Nat × Nat))) (r : Nat), f = s.blkFill p b (blkStart (b + 1)) ∧ x = f.formBlock p b (blkStart (b + 1) - blkStart b) ∧ u = f.blockInputs p x ∧ y = u.blockHeld p x ∧ t = u.blockFlags p y ∧ a = t.blockAdds p y y.n y.root false ∧ r = hourly (addsFwd a + addsRev a) y.n ∧ v = ((((t.blockBill p y).blockShow p y a).blockStack p y).blockOutside p (addsFwd a + addsRev a) (decide (r < lfcOf (t.mp p).flow.par))).blockUnit p b ∧ w = ((v.blockCounts p y).blockTail p y (decide (r < lfcOf (t.mp p).flow.par))).blockSettle p (y.first + y.n) ∧ exec (.flowBlockEnd p b) s = .next ((if parByte (w.mp p).flow.par 4 = 0 then w.batchCheck p (hourly (addsFwd a) y.n) else w).blockLimit p (hourly (addsFwd a) y.n))) ∧
  (∀ (s : State) (p b : Nat), (pointFlow (s.pcfg p) = false ∨ s.firnLive (s.pcfg p).die = false) → exec (.flowBlockEnd p b) s = .next s) ∧
  (∀ (s : State) (p idx : Nat), (s.mpState p = mpMetering) → ((s.mp p).flow.rose.isSome = true) → (s.firnLive (s.pcfg p).die = true) → exec (.flowTailTimeout p idx) s = .next ((s.freezePoint p idx 8).postPt p { code := 0x235, sev := 1, obj := p })) ∧
  (∀ (s : State) (p idx : Nat), (s.mpState p ≠ mpMetering ∨ (s.mp p).flow.rose = none) → exec (.flowTailTimeout p idx) s = .next s) ∧
  (∀ (s : State) (i p t : Nat) (isB : Bool), (s.pulsesReach i isB (s.pulseDie i) = true) → (s.get Fld.PI_CFG__ROLE i ≠ 2) → (s.piPoint i = some p) → exec (.pulseEdge i isB true t) s = .next ((s.edgeRecord (s.pcfg p).die (trainIdx i isB) t true).setTrain p isB { (s.edgeRecord (s.pcfg p).die (trainIdx i isB) t true).train p isB with rise := some t })) ∧
  (∀ (s : State) (i t : Nat) (isB r : Bool), (s.pulsesReach i isB (s.pulseDie i) = true) → (s.get Fld.PI_CFG__ROLE i = 2) → exec (.pulseEdge i isB r t) s = .next (if (r && !isB) = true then s.detectorEdge i t else s)) ∧
  (∀ (s : State) (i t : Nat) (isB r : Bool), (s.pulsesReach i isB (s.pulseDie i) = false ∨ (s.get Fld.PI_CFG__ROLE i ≠ 2 ∧ s.piPoint i = none)) → exec (.pulseEdge i isB r t) s = .next s) ∧
  (∀ (s : State) (i p t r : Nat) (isB : Bool), (s.pulsesReach i isB (s.pulseDie i) = true) → (s.get Fld.PI_CFG__ROLE i ≠ 2) → (s.piPoint i = some p) → (((s.edgeRecord (s.pcfg p).die (trainIdx i isB) t false).train p isB).rise = some r) → ((t - r) * 1000 < field (((s.edgeRecord (s.pcfg p).die (trainIdx i isB) t false).setTrain p isB { (s.edgeRecord (s.pcfg p).die (trainIdx i isB) t false).train p isB with rise := none }).mp p).flow.par 148 4 * 8136) → exec (.pulseEdge i isB false t) s = .next (((s.edgeRecord (s.pcfg p).die (trainIdx i isB) t false).setTrain p isB { (s.edgeRecord (s.pcfg p).die (trainIdx i isB) t false).train p isB with rise := none }).bump Fld.PI_SPUR__VALUE (trainIdx i isB) 1)) ∧
  (∀ (s u : State) (i p t r : Nat) (isB : Bool), (s.pulsesReach i isB (s.pulseDie i) = true) → (s.get Fld.PI_CFG__ROLE i ≠ 2) → (s.piPoint i = some p) → (((s.edgeRecord (s.pcfg p).die (trainIdx i isB) t false).train p isB).rise = some r) → (u = (s.edgeRecord (s.pcfg p).die (trainIdx i isB) t false).setTrain p isB { (s.edgeRecord (s.pcfg p).die (trainIdx i isB) t false).train p isB with rise := none }) → (field (u.mp p).flow.par 148 4 * 8136 ≤ (t - r) * 1000) → exec (.pulseEdge i isB false t) s = .next (if parByte (u.mp p).flow.par 4 = 1 ∨ parByte (u.mp p).flow.par 4 = 2 then (u.bump Fld.PI_EDGES__VALUE (trainIdx i isB) 1).dualPulse p i isB r else if isB = true then (u.bump Fld.PI_EDGES__VALUE (trainIdx i isB) 1).setMp p { (u.bump Fld.PI_EDGES__VALUE (trainIdx i isB) 1).mp p with flow := { ((u.bump Fld.PI_EDGES__VALUE (trainIdx i isB) 1).mp p).flow with cmpB := ((u.bump Fld.PI_EDGES__VALUE (trainIdx i isB) 1).mp p).flow.cmpB + 1 } } else (u.bump Fld.PI_EDGES__VALUE (trainIdx i isB) 1).singlePulse p i r)) ∧
  (∀ (s : State) (i p t : Nat) (isB : Bool), (s.pulsesReach i isB (s.pulseDie i) = true) → (s.get Fld.PI_CFG__ROLE i ≠ 2) → (s.piPoint i = some p) → (((s.edgeRecord (s.pcfg p).die (trainIdx i isB) t false).train p isB).rise = none) → exec (.pulseEdge i isB false t) s = .next (s.edgeRecord (s.pcfg p).die (trainIdx i isB) t false)) ∧
  (∀ (s : State) (i p t : Nat) (isB : Bool), (s.piPoint i = some p) → ((s.train p isB).held.contains t = true) → (s.firnLive (s.pcfg p).die = true) → (∀ l, (s.train p isB).last = some l → 2 * (t - l) < (s.mp p).flow.p ∨ 3 * (s.mp p).flow.p < 2 * (t - l)) → exec (.pulseHoldExpiry i isB t) s = .next (((s.setTrain p isB { s.train p isB with held := (s.train p isB).held.erase t }).bump Fld.PI_SPUR__VALUE (trainIdx i isB) 1).discrepancy p false)) ∧
  (∀ (s : State) (i p t l a b : Nat) (isB : Bool), (s.piPoint i = some p) → ((s.train p isB).held.contains t = true) → (s.firnLive (s.pcfg p).die = true) → ((s.train p isB).last = some l) → ((s.mp p).flow.p ≤ 2 * (t - l)) → (2 * (t - l) ≤ 3 * (s.mp p).flow.p) → (a = if isB = true then (if (s.mp p).flow.reverse = true then t + phiP (s.mp p).flow.par (s.mp p).flow.p else t - phiP (s.mp p).flow.par (s.mp p).flow.p) else t) → (b = if isB = true then t else (if (s.mp p).flow.reverse = true then t - phiP (s.mp p).flow.par (s.mp p).flow.p else t + phiP (s.mp p).flow.par (s.mp p).flow.p)) → exec (.pulseHoldExpiry i isB t) s = .next (((((s.setTrain p isB { s.train p isB with held := (s.train p isB).held.erase t }).bump Fld.PI_MISS__VALUE (trainIdx i (!isB)) 1).dualCount p i a b (s.mp p).flow.reverse)).discrepancy p false)) ∧
  (∀ (s : State) (i p t : Nat) (isB : Bool), (s.piPoint i = some p) → ((s.train p isB).held.contains t = false ∨ s.firnLive (s.pcfg p).die = false) → exec (.pulseHoldExpiry i isB t) s = .next s) ∧
  (∀ (s : State) (i t : Nat) (isB : Bool), (s.piPoint i = none) → exec (.pulseHoldExpiry i isB t) s = .next s) ∧
  (∀ (s u : State) (i p a : Nat), (s.piPoint i = some p) → (3 ≤ parByte (s.mp p).flow.par 4) → ((s.mp p).flow.acquire = false) → ((s.mp p).flow.lastA = some a) → (s.firnLive (s.pcfg p).die = true) → (u = (s.setMp p { s.mp p with flow := { (s.mp p).flow with inferred := (s.mp p).flow.inferred + 1 } }).bump Fld.PI_MISS__VALUE (trainIdx i false) 1) → exec (.inferredPulse i) s = .next (u.batchCheck p (if (s.mp p).flow.p = 0 then 0 else (s.mp p).flow.inPos0 (countQty (s.mp p).flow.par (s.mp p).flow.p) * 3600 * 8136000 / (s.mp p).flow.p))) ∧
  (∀ (s : State) (i p : Nat), (s.piPoint i = some p) → (parByte (s.mp p).flow.par 4 < 3 ∨ (s.mp p).flow.acquire = true ∨ (s.mp p).flow.lastA = none ∨ s.firnLive (s.pcfg p).die = false) → exec (.inferredPulse i) s = .next s) ∧
  (∀ (s : State) (i : Nat), (s.piPoint i = none) → exec (.inferredPulse i) s = .next s) ∧
  (∀ (s : State) (p : Nat), (pointFlow (s.pcfg p) = true) → (parByte (s.mp p).flow.par 4 ≠ 0) → (s.firnLive (s.pcfg p).die = true) → exec (.acquisitionRestart p) s = .next ((s.setMp p { s.mp p with flow := (s.mp p).flow.acquisition }).put Fld.FP_STATUS__ACQUIRE p 1)) ∧
  (∀ (f : FlowSt), f.acquisition.acquire = true ∧ f.acquisition.p = 0 ∧ f.acquisition.lastA = none ∧ f.acquisition.ivals = [] ∧ f.acquisition.a.held = [] ∧ f.acquisition.b.held = []) ∧
  (∀ (s : State) (p : Nat), (pointFlow (s.pcfg p) = false ∨ parByte (s.mp p).flow.par 4 = 0 ∨ s.firnLive (s.pcfg p).die = false) → exec (.acquisitionRestart p) s = .next s) ∧
  (∀ (s : State) (c : Chan) (d : Firn) (eff : Nat), (s.takes c 0x020A d = true) → (parOk (((s.reqBytes c).drop 8).take 200) = false) → exec (.flowParam c eff) s = .next ((s.clearDb c 1).replyReq c (s.chan c).seq 0x020A stBad [])) ∧
  (∀ (s : State) (c : Chan) (d : Firn) (eff : Nat), (s.takes c 0x020A d = true) → (zeroOutside (s.reqBytes c) [(0, 5), (8, 207)] = true) → (parOk (((s.reqBytes c).drop 8).take 200) = true) → ((s.clearDb c 1).sealed d = false) → (field (s.reqBytes c) 4 2 < 256) → (tabFind (s.clearDb c 1).cfg.points (field (s.reqBytes c) 4 2) = none) → ((s.clearDb c 1).mpState (field (s.reqBytes c) 4 2) = mpIdle) → ((s.clearDb c 1).calFull d = false) → ∃ (u v : State), u = ((s.clearDb c 1).setMp (field (s.reqBytes c) 4 2) { (s.clearDb c 1).mp (field (s.reqBytes c) 4 2) with flow := { ((s.clearDb c 1).mp (field (s.reqBytes c) 4 2)).flow with par := ((s.reqBytes c).drop 8).take 200, hash := parHash (((s.reqBytes c).drop 8).take 200), trim := 0 } }).setReg .FP_TRIM (field (s.reqBytes c) 4 2) 0 ∧ v = (u.mirrorParams (field (s.reqBytes c) 4 2)).calRecord d 0x020A (field (s.reqBytes c) 4 2) eff (leBytes 4 ((s.clearDb c 1).mp (field (s.reqBytes c) 4 2)).flow.hash ++ leBytes 4 (parHash (((s.reqBytes c).drop 8).take 200))) ∧ exec (.flowParam c eff) s = .next (v.replyReq c (s.chan c).seq 0x020A stDone ([0, 0] ++ leBytes 4 (v.get Fld.FIRN_CAL_COUNT__COUNT d.num) ++ leBytes 8 eff ++ leBytes 4 (parHash (((s.reqBytes c).drop 8).take 200))))) ∧
  (∀ (s : State) (c : Chan) (d : Firn), (s.takes c 0x0208 d = true) → (zeroOutside (s.reqBytes c) [(0, 6), (8, 11)] = true) → (field (s.reqBytes c) 6 1 < 64) → ((s.clearDb c 1).variant.hasDdie = true) → ((s.clearDb c 1).ownsPoint d (field (s.reqBytes c) 4 2) = true) → ((s.clearDb c 1).get Fld.PI_CFG__ROLE (field (s.reqBytes c) 6 1) ≠ 1) → (parByte ((s.clearDb c 1).mp (field (s.reqBytes c) 4 2)).flow.par 4 ≠ 0) → ∃ u : State, exec (.proveArm c) s = .next ((u.put Fld.PI_CFG__ROLE (field (s.reqBytes c) 6 1) 2).replyReq c (s.chan c).seq 0x0208 stDone []) ∧ tabFind u.prove (field (s.reqBytes c) 6 1) = some { point := field (s.reqBytes c) 4 2, vol := BitVec.ofNat 32 (field (s.reqBytes c) 8 4) }) ∧
  (∀ (s : State) (c : Chan) (d : Firn), (s.takes c 0x0208 d = true) → (zeroOutside (s.reqBytes c) [(0, 6), (8, 11)] = true) → (field (s.reqBytes c) 6 1 < 64) → ((s.clearDb c 1).variant.hasDdie = false ∨ (s.clearDb c 1).ownsPoint d (field (s.reqBytes c) 4 2) = false) → exec (.proveArm c) s = .next ((s.clearDb c 1).replyReq c (s.chan c).seq 0x0208 stAbsent [])) ∧
  (∀ (s : State) (c : Chan) (d : Firn), (s.takes c 0x0208 d = true) → (zeroOutside (s.reqBytes c) [(0, 6), (8, 11)] = false ∨ 64 ≤ field (s.reqBytes c) 6 1) → exec (.proveArm c) s = .next ((s.clearDb c 1).replyReq c (s.chan c).seq 0x0208 stBad [])) ∧
  (∀ (s : State) (c : Chan) (d : Firn), (s.takes c 0x0209 d = true) → (zeroOutside (s.reqBytes c) [(0, 5)] = true) → ((s.clearDb c 1).ownsPoint d (field (s.reqBytes c) 4 2) = true) → ((s.clearDb c 1).prove = []) → exec (.proveResult c) s = .next ((s.clearDb c 1).replyReq c (s.chan c).seq 0x0209 stCapacity [])) ∧
  (∀ (s : State) (c : Chan) (d : Firn) (i : Nat) (v : ProveSt), (s.takes c 0x0209 d = true) → (zeroOutside (s.reqBytes c) [(0, 5)] = true) → ((s.clearDb c 1).ownsPoint d (field (s.reqBytes c) 4 2) = true) → ((s.clearDb c 1).prove = [(i, v)]) → (v.point = field (s.reqBytes c) 4 2) → (v.state ≠ 2) → exec (.proveResult c) s = .next ((s.clearDb c 1).replyReq c (s.chan c).seq 0x0209 stDone ([BitVec.ofNat 8 v.state, 0] ++ leBytes 4 v.n ++ leBytes 8 0 ++ leBytes 4 0 ++ leBytes 8 v.firstTime))) ∧
  (∀ (s : State) (i : Nat) (v : ProveSt), (tabFind s.prove i = some v) → (v.state ≤ 1) → (v.second = none) → exec (.proveTimeout i) s = .next ({ s with prove := tabSet s.prove i { v with state := 3 } })) ∧
  (∀ (s : State) (i : Nat), (tabFind s.prove i = none ∨ ∃ v, tabFind s.prove i = some v ∧ (2 ≤ v.state ∨ v.second ≠ none)) → exec (.proveTimeout i) s = .next s)

/-- The legal display: frames, faults, scrolling and the values of F1 -/
def Obligations.DisplayCommands : Prop :=
  (∀ (s t : State) (upset : List (Nat × Byte)) (f : List Byte), (s.firnLive .f0 = true) → (upset.foldl (fun b x => listSet b x.1 ((b.getD x.1 0) ^^^ x.2)) (padTo 96 s.disp.front) = f) → (t = (s.setDisp { s.disp with front := f }).setReg .DISP_CRC 0 (crc32 f)) → (crc32 f = s.disp.shadow ∨ (f = List.replicate 96 0 ∧ s.disp.shadow = 0)) → (s.flag Fld.DISP_STATUS__FAULT 0 = false) → exec (.displayFrameEnd upset) s = .next ((t.setDisp { t.disp with miss := 0, blank := false, clean := 0 }).dispMirror.swapFrame)) ∧
  (∀ (s t : State) (upset : List (Nat × Byte)) (f : List Byte), (s.firnLive .f0 = true) → (upset.foldl (fun b x => listSet b x.1 ((b.getD x.1 0) ^^^ x.2)) (padTo 96 s.disp.front) = f) → (t = (s.setDisp { s.disp with front := f }).setReg .DISP_CRC 0 (crc32 f)) → (crc32 f = s.disp.shadow ∨ (f = List.replicate 96 0 ∧ s.disp.shadow = 0)) → (s.flag Fld.DISP_STATUS__FAULT 0 = true) → (s.disp.clean < 9) → exec (.displayFrameEnd upset) s = .next ((t.setDisp { t.disp with miss := 0, blank := true, clean := s.disp.clean + 1 }).dispMirror.swapFrame)) ∧
  (∀ (s t u : State) (upset : List (Nat × Byte)) (f : List Byte), (s.firnLive .f0 = true) → (upset.foldl (fun b x => listSet b x.1 ((b.getD x.1 0) ^^^ x.2)) (padTo 96 s.disp.front) = f) → (t = (s.setDisp { s.disp with front := f }).setReg .DISP_CRC 0 (crc32 f)) → (crc32 f = s.disp.shadow ∨ (f = List.replicate 96 0 ∧ s.disp.shadow = 0)) → (s.flag Fld.DISP_STATUS__FAULT 0 = true) → (9 ≤ s.disp.clean) → (u = (t.setDisp { t.disp with miss := 0, blank := true, clean := s.disp.clean + 1 }).put Fld.DISP_STATUS__FAULT 0 0) → exec (.displayFrameEnd upset) s = .next ((((u.setDisp { u.disp with blank := false, clean := 0 }).dispRecord 2).postDie .f0 0x251 0 0).dispMirror.swapFrame)) ∧
  (∀ (s t u : State) (upset : List (Nat × Byte)) (f : List Byte), (s.firnLive .f0 = true) → (upset.foldl (fun b x => listSet b x.1 ((b.getD x.1 0) ^^^ x.2)) (padTo 96 s.disp.front) = f) → (t = (s.setDisp { s.disp with front := f }).setReg .DISP_CRC 0 (crc32 f)) → (crc32 f ≠ s.disp.shadow) → (f ≠ List.replicate 96 0 ∨ s.disp.shadow ≠ 0) → (u = (t.bump Fld.DISP_STATUS__MISMATCHES 0 1).setDisp { t.disp with miss := s.disp.miss + 1, blank := true, clean := 0 }) → exec (.displayFrameEnd upset) s = .next (if s.flag Fld.DISP_STATUS__FAULT 0 = true then u else if s.disp.miss < 2 then u.dispMirror.writeFrame else (((u.put Fld.DISP_STATUS__FAULT 0 1).dispRecord 1).postDie .f0 0x250 2 (((u.put Fld.DISP_STATUS__FAULT 0 1).dispRecord 1).get Fld.DISP_STATUS__MISMATCHES 0)).dispMirror.writeFrame)) ∧
  (∀ (s : State) (upset : List (Nat × Byte)), (s.firnLive .f0 = false) → exec (.displayFrameEnd upset) s = .next s) ∧
  (∀ (s : State), (s.firnLive .f0 = true) → (s.flag Fld.DISP_STATUS__FAULT 0 = true) → exec .displayFaultRewrite s = .next (s.writeFrame)) ∧
  (∀ (s : State), (s.firnLive .f0 = false ∨ s.flag Fld.DISP_STATUS__FAULT 0 = false) → exec .displayFaultRewrite s = .next s) ∧
  (∀ (s : State), (s.firnLive .f0 = true) → (s.flag Fld.DISP_STATUS__MANUAL 0 = false) → (s.disp.err < s.dispErrors.length) → exec .scrollDwellExpiry s = .next (s.setDisp { s.disp with err := s.disp.err + 1 })) ∧
  (∀ (s : State), (s.firnLive .f0 = true) → (s.flag Fld.DISP_STATUS__MANUAL 0 = false) → (s.dispErrors.length ≤ s.disp.err) → exec .scrollDwellExpiry s = .next (s.nextItem)) ∧
  (∀ (s : State), (s.firnLive .f0 = false ∨ s.flag Fld.DISP_STATUS__MANUAL 0 = true) → exec .scrollDwellExpiry s = .next s) ∧
  (∀ (s : State), (s.stepInput = true) → exec .dispStepPress s = .next (s.nextItem.put Fld.DISP_STATUS__MANUAL 0 1)) ∧
  (∀ (s : State), (s.stepInput = false) → exec .dispStepPress s = .next s) ∧
  (∀ (s : State), (s.stepInput = true) → exec .dispStepLongPress s = .next (((s.put Fld.DISP_STATUS__ITEM 0 0).setDisp { s.disp with err := 0 }).put Fld.DISP_STATUS__MANUAL 0 1)) ∧
  (∀ (s : State), (s.stepInput = false) → exec .dispStepLongPress s = .next s) ∧
  (∀ (s : State), s.nextItem = (s.put Fld.DISP_STATUS__ITEM 0 (if s.get Fld.DISP_STATUS__ITEM 0 + 1 < s.items.length then s.get Fld.DISP_STATUS__ITEM 0 + 1 else 0)).setDisp { s.disp with err := 0 }) ∧
  (∀ (s : State), (s.firnLive .f0 = true) → exec .scrollResume s = .next (s.put Fld.DISP_STATUS__MANUAL 0 0)) ∧
  (∀ (s : State), (s.firnLive .f0 = false) → exec .scrollResume s = .next s) ∧
  (∀ (s : State) (ok : Bool) (vals : List (Nat × Nat)), (s.firnLive .f0 = true) → (s.variant.hasF1 = true) → (s.dieRuns .cdie = true) → (s.linkUp Firn.f0.link = true) → (s.linkUp Firn.f1.link = true) → exec (.f1DisplayValues ok vals) s = .next ((s.setDisp { s.disp with vals := if ok then some vals else none }).dispMirror)) ∧
  (∀ (s : State) (ok : Bool) (vals : List (Nat × Nat)), (s.firnLive .f0 = false ∨ s.variant.hasF1 = false ∨ s.dieRuns .cdie = false ∨ s.linkUp Firn.f0.link = false ∨ s.linkUp Firn.f1.link = false) → exec (.f1DisplayValues ok vals) s = .next s) ∧
  (∀ (s : State), (s.firnLive .f0 = true) → exec .f1ValuesStale s = .next ((s.setDisp { s.disp with vals := none }).dispMirror)) ∧
  (∀ (s : State), (s.firnLive .f0 = false) → exec .f1ValuesStale s = .next s)

/-- Requests for the display and the Moraine log -/
def Obligations.DisplayRequests : Prop :=
  (∀ (s : State) (c : Chan) (d : Firn), (s.takes c 0x0110 d = true) → (d = .f1) → exec (.dispMap c) s = .next ((s.clearDb c 1).replyReq c (s.chan c).seq 0x0110 stBad [])) ∧
  (∀ (s : State) (c : Chan) (d : Firn), (s.takes c 0x0110 d = true) → (d = .f0) → ((s.clearDb c 1).flag Fld.DISP_STATUS__MAPPED 0 = true) → exec (.dispMap c) s = .next ((s.clearDb c 1).replyReq c (s.chan c).seq 0x0110 stCapacity [])) ∧
  (∀ (s : State) (c : Chan) (d : Firn), (s.takes c 0x0110 d = true) → (d = .f0) → ((s.clearDb c 1).flag Fld.DISP_STATUS__MAPPED 0 = false) → ((s.clearDb c 1).sealed .f0 = false) → (mapOk (s.reqBytes c) = true) → ∃ u : State, u = (((((((s.clearDb c 1).put Fld.DISP_CFG__COMS 0 (field (s.reqBytes c) 4 1)).put Fld.DISP_CFG__BIAS 0 (field (s.reqBytes c) 5 1)).put Fld.DISP_CFG__INVERSION 0 (field (s.reqBytes c) 6 1)).put Fld.DISP_CFG__FRAME 0 (field (s.reqBytes c) 7 1)).put Fld.DISP_CFG__VLCD 0 (field (s.reqBytes c) 8 1)).put Fld.DISP_CFG__VLCD_TC 0 (field (s.reqBytes c) 9 1)) ∧ exec (.dispMap c) s = .next ((((u.put Fld.DISP_STATUS__MAPPED 0 1).setDisp { u.disp with map := mapElements (s.reqBytes c) }).dispRecord 3).replyReq c (s.chan c).seq 0x0110 stDone [])) ∧
  (∀ (s : State) (c : Chan) (d : Firn), (s.takes c 0x0111 d = true) → (d = .f0) → (40 < field (s.reqBytes c) 7 1) → exec (.dispScroll c) s = .next (((s.clearDb c 1).setDisp { (s.clearDb c 1).disp with staged := [] }).replyReq c (s.chan c).seq 0x0111 stBad [])) ∧
  (∀ (s : State) (c : Chan) (d : Firn), (s.takes c 0x0111 d = true) → (d = .f0) → (1 ≤ field (s.reqBytes c) 4 1) → (field (s.reqBytes c) 4 1 ≤ 30) → (1 ≤ field (s.reqBytes c) 7 1) → (field (s.reqBytes c) 7 1 ≤ 40) → (field (s.reqBytes c) 6 1 = 0) → ((s.clearDb c 1).disp.staged = []) → (field (s.reqBytes c) 8 1 = 0) → (((upTo (field (s.reqBytes c) 7 1)).map fun k => ((s.reqBytes c).drop (16 + 6 * k)).take 6).all (s.clearDb c 1).itemOk = true) → exec (.dispScroll c) s = .next (((s.clearDb c 1).setDisp { (s.clearDb c 1).disp with staged := (upTo (field (s.reqBytes c) 7 1)).map fun k => ((s.reqBytes c).drop (16 + 6 * k)).take 6 }).replyReq c (s.chan c).seq 0x0111 stDone [])) ∧
  (∀ (s : State) (c : Chan) (d : Firn), (s.takes c 0x0112 d = true) → ((s.clearDb c 1).sealed d = false) → (((s.clearDb c 1).firn d).log.any (fun x => x.1 == field (s.reqBytes c) 8 4) = false) → exec (.moraineRelease c) s = .next ((s.clearDb c 1).replyReq c (s.chan c).seq 0x0112 stBad [])) ∧
  (∀ (s : State) (c : Chan) (d : Firn), (s.takes c 0x0110 d = true) → (d = .f0) → ((s.clearDb c 1).flag Fld.DISP_STATUS__MAPPED 0 = false) → ((s.clearDb c 1).sealed .f0 = true) → exec (.dispMap c) s = .next ((s.clearDb c 1).replyReq c (s.chan c).seq 0x0110 stSealLocked [])) ∧
  (∀ (s : State) (c : Chan) (d : Firn), (s.takes c 0x0112 d = true) → ((s.clearDb c 1).sealed d = true) → exec (.moraineRelease c) s = .next ((s.clearDb c 1).sealLocked d c (s.chan c).seq 0x0112)) ∧
  (∀ (s : State) (c : Chan) (d : Firn) (e : Nat × List Byte), (s.takes c 0x0112 d = true) → ((s.clearDb c 1).sealed d = false) → (((s.clearDb c 1).firn d).log.head? = some e) → (((s.clearDb c 1).firn d).log.any (fun x => x.1 == field (s.reqBytes c) 8 4) = true) → ∃ (t : State) (l : List Byte), exec (.moraineRelease c) s = .next ((t.moraine d 0x03 0 l).replyReq c (s.chan c).seq 0x0112 stDone []) ∧ (t.firn d).log = ((s.clearDb c 1).firn d).log.filter fun x => decide (field (s.reqBytes c) 8 4 < x.1)) ∧
  (∀ (s : State) (d : Desc), (s.accepts 0x42 d = true) → (DescF.bufLen d < 32) → exec (.moraineRead d) s = .next ((s.taken d).fin ((s.taken d).ticket d) stBad 16)) ∧
  (∀ (s : State) (d : Desc) (n : Nat) (dd : Firn) (l : List (Nat × List Byte)), (s.accepts 0x42 d = true) → (32 ≤ DescF.bufLen d) → (dd = if d.target.toNat = 0 then .f0 else .f1) → (n = if DescF.par d 4 4 = 0 then DescF.bufLen d / 32 else min (DescF.par d 4 4) (DescF.bufLen d / 32)) → (l = ((s.taken d).firn dd).log.filter (fun e => decide (DescF.par d 0 4 ≤ e.1))) → exec (.moraineRead d) s = .next (((s.taken d).writeBuf d ((l.take n).flatMap entryBytes)).fin ((s.taken d).ticket d) stDone ((l.take n).length + (match (l.drop n).head? with | some e => e.1 | none => 0) * 2 ^ 32)))

/-- The parties' amounts of a session sum to zero, and so do the amounts of a LEDGER_POST -/
def Obligations.MoneyConserved : Prop :=
  (∀ (tf r : List Byte) (n : Nat), (∀ c < 16, field tf (64 + 32 * c + 3) 1 < n ∧ field tf (64 + 32 * c + 4) 1 < n) → (tfComponents tf ≤ 16) → ((upTo n).map fun p => partyAmount tf r p).sum = 0) ∧
  (∀ (b : List Byte) (n : Nat) (l : List Part), (postParts b n = some l) → (l.foldl (fun t p => t + p.amount) 0 = 0 ∧ (l.map (·.slot)).Nodup ∧ ∀ p ∈ l, p.slot < 5242880))

/-- Tariffs, ledger descriptors, records and replay -/
def Obligations.LedgerCommands : Prop :=
  (∀ (s : State) (d : Desc) (b : List Byte), (s.accepts 0x38 d = true) → (tariffOk (b.take (DescF.bufLen d)) = false) → exec (.tariffLoad d (.data b)) s = .next ((s.taken d).fin ((s.taken d).ticket d) stBad 8)) ∧
  (∀ (s : State) (d : Desc) (b : List Byte), (s.accepts 0x38 d = true) → (tariffOk (b.take (DescF.bufLen d)) = true) → exec (.tariffLoad d (.data b)) s = .next ((((s.taken d).setLedger { (s.taken d).ledger with pend := tabSet (s.taken d).ledger.pend d.target.toNat ((b.take (DescF.bufLen d)).take (64 + 32 * tfComponents (b.take (DescF.bufLen d)))) }).tariffMirror d.target.toNat).fin ((s.taken d).ticket d) stDone)) ∧
  (∀ (s : State) (d : Desc), (s.accepts 0x39 d = true) → (tabFind (s.taken d).ledger.pend d.target.toNat = none) → exec (.tariffActivate d) s = .next ((s.taken d).fin ((s.taken d).ticket d) stCapacity 1)) ∧
  (∀ (s : State) (d : Desc) (b : List Byte), (s.accepts 0x39 d = true) → (tabFind (s.taken d).ledger.pend d.target.toNat = some b) → exec (.tariffActivate d) s = .next ((s.taken d).setLedger { (s.taken d).ledger with acts := (s.taken d).ledger.acts ++ [((s.taken d).ticket d, d.target.toNat)] })) ∧
  (∀ (s : State) (d : Desc) (fs : List TagFail), (s.accepts 0x30 d = true) → ((s.taken d).power.memStall = false) → ((s.taken d).ledger.parking = false) → exec (.ledgerRead d fs) s = .next ((s.taken d).ledgerRead ((s.taken d).ticket d) d fs)) ∧
  (∀ (s : State) (d : Desc) (fs : List TagFail), (s.accepts 0x30 d = true) → ((s.taken d).power.memStall = true ∨ (s.taken d).ledger.parking = true) → exec (.ledgerRead d fs) s = .next (((s.taken d).setLedger { (s.taken d).ledger with stalled := (s.taken d).ledger.stalled ++ [(0x30, (s.taken d).ticket d, d, [])] }).ledgerMirror)) ∧
  (∀ (s : State) (d : Desc) (b : List Byte) (fs : List TagFail), (s.accepts 0x31 d = true) → ((s.taken d).power.memStall = true ∨ (s.taken d).ledger.parking = true) → exec (.ledgerPost d (.data b) fs) s = .next (((s.taken d).setLedger { (s.taken d).ledger with stalled := (s.taken d).ledger.stalled ++ [(0x31, (s.taken d).ticket d, d, b)] }).ledgerMirror)) ∧
  (∀ (s : State) (d : Desc) (b : List Byte) (full : Bool), (s.accepts 0x32 d = true) → ((s.taken d).power.memStall = true ∨ (s.taken d).ledger.parking = true) → exec (.ledgerRestore d (.data b) full) s = .next (((s.taken d).setLedger { (s.taken d).ledger with stalled := (s.taken d).ledger.stalled ++ [(0x32, (s.taken d).ticket d, d, b)] }).ledgerMirror)) ∧
  (∀ (s : State) (d : Desc) (b : List Byte) (fs : List TagFail), (s.accepts 0x33 d = true) → ((s.taken d).power.memStall = true ∨ (s.taken d).ledger.parking = true) → exec (.ledgerLookup d (.data b) fs) s = .next (((s.taken d).setLedger { (s.taken d).ledger with stalled := (s.taken d).ledger.stalled ++ [(0x33, (s.taken d).ticket d, d, b)] }).ledgerMirror)) ∧
  (∀ (s : State) (t : Ticket) (d : Desc) (fs : List TagFail), (DescF.bufLen d < 256) → s.ledgerRead t d fs = s.fin t stBad 16) ∧
  (∀ (s u : State) (t : Ticket) (d : Desc) (fs : List TagFail) (o : Option (List Byte)), (256 ≤ DescF.bufLen d) → (s.readSlot fs d.target.toNat = (u, o)) → s.ledgerRead t d fs = (match o with | none => u.fin t stIntegrity d.target.toNat | some b => (u.writeBuf d b).fin t stDone (field b 40 8))) ∧
  (∀ (s : State) (d : Desc) (b : List Byte) (fs : List TagFail), (s.accepts 0x31 d = true) → ((s.taken d).power.memStall = false) → ((s.taken d).ledger.parking = false) → exec (.ledgerPost d (.data b) fs) s = .next ((s.taken d).ledgerPost ((s.taken d).ticket d) d b fs)) ∧
  (∀ (s : State) (t : Ticket) (d : Desc) (b : List Byte) (fs : List TagFail), (postParts b (DescF.bufLen d) = none) → s.ledgerPost t d b fs = s.fin t stBad 8) ∧
  (∀ (s : State) (d : Desc) (b : List Byte) (full : Bool), (s.accepts 0x32 d = true) → ((s.taken d).power.memStall = false) → ((s.taken d).ledger.parking = false) → exec (.ledgerRestore d (.data b) full) s = .next ((s.taken d).ledgerRestore ((s.taken d).ticket d) d b full)) ∧
  (∀ (s : State) (d : Desc) (b : List Byte) (fs : List TagFail), (s.accepts 0x33 d = true) → ((s.taken d).power.memStall = false) → ((s.taken d).ledger.parking = false) → exec (.ledgerLookup d (.data b) fs) s = .next ((s.taken d).ledgerLookup ((s.taken d).ticket d) d b fs)) ∧
  (∀ (s : State) (t : Ticket) (d : Desc) (b : List Byte) (fs : List TagFail), (256 ≤ DescF.bufLen d) → (fs.contains .index = false) → ((s.ledger.dead && s.ledger.revived.isEmpty) = false) → (s.ledger.index.find? (fun x => x.1 == field b 0 8) = none) → s.ledgerLookup t d b fs = s.fin t stCapacity 1) ∧
  (∀ (s : State) (d : Firn) (seq : Nat) (fs : List TagFail) (r : Rec) (x : Nat × JEntry), (s.dieRuns .cdie = true) → (s.linkUp d.link = true) → (s.get Fld.LEDGER_STATUS__STATE 0 = 1) → (∀ x ∈ (s.firn d).records, x.acked = false → x.seq < seq → (s.ledger.record d x.seq).isSome = true) → (s.power.memStall = false) → (s.ledger.parking = false) → ((s.firn d).records.find? (fun r => r.seq == seq && !r.acked) = some r) → (s.ledger.record d seq = some x) → exec (.recordArrival d seq fs) s = .next (s.setLedger { s.ledger with acks := (d, seq) :: s.ledger.acks.filter (· != (d, seq)) })) ∧
  (∀ (s : State) (d : Firn) (seq pos : Nat) (fs : List TagFail) (r : Rec), (s.dieRuns .cdie = true) → (s.linkUp d.link = true) → (s.get Fld.LEDGER_STATUS__STATE 0 = 1) → (∀ x ∈ (s.firn d).records, x.acked = false → x.seq < seq → (s.ledger.record d x.seq).isSome = true) → (s.power.memStall = false) → (s.ledger.parking = false) → ((s.firn d).records.find? (fun r => r.seq == seq && !r.acked) = some r) → (s.ledger.record d seq = none) → (unsettled s.ledger < 1024) → (freePos s.ledger s.ledger.jpos 16384 = some pos) → ∃ u e, e = { kind := 4, state := 7, bytes := signed d r.bytes, die := d, point := r.point } ∧ (u, some pos) = s.journalAdd e ∧ exec (.recordArrival d seq fs) s = .next (((u.setLedger { u.ledger with acks := (d, seq) :: u.ledger.acks.filter (· != (d, seq)) }).settleRecord fs pos e).ledgerMirror)) ∧
  (∀ (s : State) (d : Firn) (seq : Nat) (fs : List TagFail), (s.dieRuns .cdie = false ∨ s.linkUp d.link = false ∨ s.get Fld.LEDGER_STATUS__STATE 0 ≠ 1 ∨ s.power.memStall = true ∨ s.ledger.parking = true ∨ (s.firn d).records.find? (fun r => r.seq == seq && !r.acked) = none ∨ (∃ x ∈ (s.firn d).records, x.acked = false ∧ x.seq < seq ∧ s.ledger.record d x.seq = none)) → exec (.recordArrival d seq fs) s = .next s) ∧
  (∀ (s : State) (d : Firn) (seq : Nat) (fs : List TagFail), (s.ledger.record d seq = none) → (1024 ≤ unsettled s.ledger ∨ freePos s.ledger s.ledger.jpos 16384 = none) → exec (.recordArrival d seq fs) s = .next s) ∧
  (∀ (s : State) (d : Firn) (seq : Nat), (s.firnLive d = false ∨ s.linkUp d.link = false ∨ s.ledger.acks.contains (d, seq) = false) → exec (.recordAcknowledge d seq) s = .next s) ∧
  (∀ (s : State) (d : Firn) (seq : Nat), (s.firnLive d = true) → (s.linkUp d.link = true) → (s.ledger.acks.contains (d, seq) = true) → exec (.recordAcknowledge d seq) s = .next ((s.setLedger { s.ledger with acks := s.ledger.acks.filter (· != (d, seq)) }).acknowledge d seq)) ∧
  (∀ (s : State) (n : Nat) (bad : List Nat), (s.ledger.quar.contains n = false) → exec (.slotReplay n bad) s = .next s) ∧
  (∀ (s u v : State) (n : Nat) (bad : List Nat) (imgs : List (Nat × Option (Nat × List Byte))), (s.ledger.quar.contains n = true) → (imgs = ([0, 1, 2, 3].filter fun k => s.ledger.poison.contains (slotLine n k)).map (fun k => (k, replayImage s.ledger.newest (slotLine n k)))) → (u = (imgs.filterMap fun x => match x.2 with | some (p, _) => if bad.contains p then some p else none | none => none).foldl (fun s p => s.failOther (.journal p)) s) → (v = imgs.foldl (fun s x => match x.2 with | some (_, b) => s.writeLine [] n x.1 b | none => s) u) → exec (.slotReplay n bad) s = .next (if (imgs.all fun x => match x.2 with | some (p, _) => !bad.contains p | none => false) = true then (v.setLedger { v.ledger with quar := v.ledger.quar.filter (· != n), poison := v.ledger.poison.filter (fun x => x / 4 != n) }).ledgerMirror.slotEvent 0x802 0 n 0 else u.ledgerMirror.slotEvent 0x803 2 n 0)) ∧
  (∀ (s : State) (n : Nat), (s.ledger.quar.contains n = true) → ([0, 1, 2, 3].filter (fun k => s.ledger.poison.contains (slotLine n k)) = [0]) → (s.ledger.journal = []) → exec (.slotReplay n []) s = .next (s.ledgerMirror.slotEvent 0x803 2 n 0)) ∧
  (∀ (s : State) (n : Nat), (s.ledger.quar.contains n = true) → ([0, 1, 2, 3].filter (fun k => s.ledger.poison.contains (slotLine n k)) = []) → exec (.slotReplay n []) s = .next ((s.setLedger { s.ledger with quar := s.ledger.quar.filter (· != n), poison := s.ledger.poison.filter (fun x => x / 4 != n) }).ledgerMirror.slotEvent 0x802 0 n 0))

/-- The winner of a cycle has the highest rank, and no order of its rank is safer -/
def Obligations.Arbitration : Prop :=
  (∀ (w : Order) (l : List Order), (winner w l = w ∨ winner w l ∈ l)) ∧
  (∀ (w : Order) (l : List Order) (o : Order), (o = w ∨ o ∈ l) → (rankOf (winner w l).src ≤ rankOf o.src ∧ (rankOf o.src = rankOf (winner w l).src → o.act.safer (winner w l).act = false)))

/-- The arbitrated opcodes: what they accept and what they refuse at once -/
def Obligations.ArbitratedCommands : Prop :=
  (∀ (s : State) (d : Desc) (rd : DmaRead), (s.accepts 0x10 d = true) → (DescF.par d 2 2 ≠ 0) → exec (.startDelivery d rd) s = .next ((s.taken d).fin ((s.taken d).ticket d) stBad (if DescF.par d 2 1 ≠ 0 then 26 else 27))) ∧
  (∀ (s : State) (d : Desc) (rd : DmaRead), (s.accepts 0x10 d = true) → (DescF.par d 2 2 = 0) → (DescF.bufLen d = 0) → exec (.startDelivery d rd) s = .next ((s.taken d).acceptStart { t := some ((s.taken d).ticket d), port := d.port, src := d.port.source, point := d.target.toNat, tariff := DescF.par d 0 2, limit := DescF.par d 4 4, qLimit := (signedOf 64 (DescF.par d 8 8)).toNat, plan := ((s.taken d).pcfg d.target.toNat).plan } (decide (signedOf 64 (DescF.par d 8 8) < 0)))) ∧
  (∀ (s : State) (d : Desc) (b : List Byte), (s.accepts 0x10 d = true) → (DescF.par d 2 2 = 0) → (DescF.bufLen d ≠ 0) → exec (.startDelivery d (.data b)) s = .next ((s.taken d).acceptStart { t := some ((s.taken d).ticket d), port := d.port, src := d.port.source, point := d.target.toNat, tariff := DescF.par d 0 2, limit := DescF.par d 4 4, qLimit := (signedOf 64 (DescF.par d 8 8)).toNat, plan := b.take (DescF.bufLen d) } (decide (signedOf 64 (DescF.par d 8 8) < 0)))) ∧
  (∀ (s : State) (d : Desc), (s.accepts 0x11 d = true) → exec (.stopDelivery d) s = .next ((s.taken d).pushOrder { src := d.port.source, act := .stop d.target.toNat, t := some ((s.taken d).ticket d) })) ∧
  (∀ (s : State) (d : Desc), (s.accepts 0x12 d = true) → ((s.taken d).limitSuits d.target.toNat (DescF.par d 0 4) = true) → exec (.setLimit d) s = .next ((s.taken d).pushOrder { src := d.port.source, act := .limit d.target.toNat (DescF.par d 0 4) (DescF.par d 4 4), t := some ((s.taken d).ticket d) })) ∧
  (∀ (s : State) (d : Desc), (s.accepts 0x12 d = true) → ((s.taken d).limitSuits d.target.toNat (DescF.par d 0 4) = false) → exec (.setLimit d) s = .next ((s.taken d).fin ((s.taken d).ticket d) stBad 24)) ∧
  (∀ (s : State) (d : Desc), (s.accepts 0x20 d = true) → (DescF.par d 0 1 ≤ 1) → ((s.taken d).switchRefusal d.target.toNat (DescF.par d 0 1 == 1) = none) → exec (.switchSet d) s = .next ((s.taken d).pushSwitch d.port.source d.target.toNat (DescF.par d 0 1 == 1) (some ((s.taken d).ticket d)) none)) ∧
  (∀ (s : State) (d : Desc), (s.accepts 0x20 d = true) → (1 < DescF.par d 0 1) → exec (.switchSet d) s = .next ((s.taken d).fin ((s.taken d).ticket d) stBad 24)) ∧
  (∀ (s : State) (d : Desc) (st r : Nat), (s.accepts 0x20 d = true) → (DescF.par d 0 1 ≤ 1) → ((s.taken d).switchRefusal d.target.toNat (DescF.par d 0 1 == 1) = some (st, r)) → exec (.switchSet d) s = .next ((s.taken d).fin ((s.taken d).ticket d) st r)) ∧
  (∀ (s : State) (n : Nat), s.switchRefusal n true = (if (s.sw n).test.isSome = true then some (stCapacity, 1) else if s.swFailed n = true then some (stProtection, 0) else if s.sessionSw n = true then some (stCapacity, 1) else none) ∧ s.switchRefusal n false = (if (s.sw n).test.isSome = true then some (stCapacity, 1) else none)) ∧
  (∀ (s : State) (d : Desc), (s.accepts 0x21 d = true) → (DescF.par d 0 6 ≠ 0) → (DescF.par d 6 2 = 0) → (DescF.par d 8 1 ≤ 1) → (DescF.allOrNone d = false ∨ DescF.par d 8 1 = 1) → exec (.switchGroup d) s = .next ((maskList (DescF.par d 0 6)).foldl (fun u n => u.groupPart d.port (s.taken d).gov.seq n (DescF.par d 8 1 == 1)) ((s.taken d).setGov { (s.taken d).gov with groups := (s.taken d).gov.groups ++ [{ id := (s.taken d).gov.seq, t := (s.taken d).ticket d, mask := DescF.par d 0 6, on := DescF.par d 8 1 == 1, all := DescF.allOrNone d }], seq := (s.taken d).gov.seq + 1 }))) ∧
  (∀ (s : State) (d : Desc), (s.accepts 0x21 d = true) → (DescF.par d 0 6 ≠ 0) → (DescF.par d 6 2 ≠ 0) → exec (.switchGroup d) s = .next ((s.taken d).fin ((s.taken d).ticket d) stBad (if DescF.par d 6 1 ≠ 0 then 30 else 31))) ∧
  (∀ (s : State) (d : Desc), (s.accepts 0x21 d = true) → (DescF.par d 0 6 ≠ 0) → (DescF.par d 6 2 = 0) → (DescF.par d 8 1 = 0) → (DescF.allOrNone d = true) → exec (.switchGroup d) s = .next ((s.taken d).fin ((s.taken d).ticket d) stBad 1)) ∧
  (∀ (s : State) (d : Desc), (s.accepts 0x21 d = true) → (DescF.par d 0 6 = 0) → exec (.switchGroup d) s = .next ((s.taken d).fin ((s.taken d).ticket d) stBad 24)) ∧
  (∀ (s : State) (d : Desc), (s.accepts 0x21 d = true) → (DescF.par d 0 6 ≠ 0) → (DescF.par d 6 2 = 0) → (1 < DescF.par d 8 1) → exec (.switchGroup d) s = .next ((s.taken d).fin ((s.taken d).ticket d) stBad 32)) ∧
  (∀ (s : State) (d : Desc), (s.accepts 0x28 d = true) → (DescF.par d 0 1 = 1 ∨ DescF.par d 0 1 = 2) → (((s.taken d).scfg d.target.toNat).lock = true) → (((s.taken d).slice d.target.toNat).test.isSome = false) → exec (.connectorLock d) s = .next ((s.taken d).pushOrder { src := d.port.source, act := .lock d.target.toNat (DescF.par d 0 1 == 1), t := some ((s.taken d).ticket d) })) ∧
  (∀ (s : State) (d : Desc), (s.accepts 0x28 d = true) → (DescF.par d 0 1 = 0 ∨ 2 < DescF.par d 0 1) → exec (.connectorLock d) s = .next ((s.taken d).fin ((s.taken d).ticket d) stBad 24)) ∧
  (∀ (s : State) (d : Desc), (s.accepts 0x28 d = true) → (DescF.par d 0 1 = 1 ∨ DescF.par d 0 1 = 2) → (((s.taken d).scfg d.target.toNat).lock = false) → exec (.connectorLock d) s = .next ((s.taken d).fin ((s.taken d).ticket d) stCapacity 2)) ∧
  (∀ (s : State) (d : Desc), (s.accepts 0x28 d = true) → (DescF.par d 0 1 = 1 ∨ DescF.par d 0 1 = 2) → (((s.taken d).scfg d.target.toNat).lock = true) → (((s.taken d).slice d.target.toNat).test.isSome = true) → exec (.connectorLock d) s = .next ((s.taken d).fin ((s.taken d).ticket d) stCapacity 1)) ∧
  (∀ (s : State) (d : Desc), (s.accepts 0x29 d = true) → (1 ≤ DescF.par d 0 1) → (DescF.par d 0 1 ≤ 3) → (((s.taken d).slice d.target.toNat).test.isSome = false) → exec (.pilotSet d) s = .next ((s.taken d).pushOrder { src := d.port.source, act := .pilot d.target.toNat (DescF.par d 0 1) 0, t := some ((s.taken d).ticket d) })) ∧
  (∀ (s : State) (d : Desc), (s.accepts 0x29 d = true) → (DescF.par d 0 1 = 0 ∨ 3 < DescF.par d 0 1) → exec (.pilotSet d) s = .next ((s.taken d).fin ((s.taken d).ticket d) stBad 24)) ∧
  (∀ (s : State) (d : Desc), (s.accepts 0x29 d = true) → (1 ≤ DescF.par d 0 1) → (DescF.par d 0 1 ≤ 3) → (((s.taken d).slice d.target.toNat).test.isSome = true) → exec (.pilotSet d) s = .next ((s.taken d).fin ((s.taken d).ticket d) stCapacity 1)) ∧
  (∀ (s : State) (p : Nat), (s.mpState p ≠ mpMetering) → exec (.stopFreezeTimeout p) s = .next s) ∧
  (∀ (s t u : State) (p : Nat), (s.mpState p = mpMetering) → (t = (s.stops.filter (·.point == p)).foldl (fun s x => s.fin x.t stTimeout 6) { s with stops := s.stops.filter (·.point != p) }) → (u = (match t.swOf p with | none => t | some n => (t.gov.groups.filter fun x => !x.on && bitAt x.mask n && !x.failed.any (·.1 == n) && !bitAt x.applied n).foldl (fun s x => s.partDone x.id n stTimeout) t)) → exec (.stopFreezeTimeout p) s = .next u)

/-- An output that the refresh leaves on has every condition of R556 -/
def Obligations.SwitchOutput : Prop :=
  (∀ (s : State) (n : Nat), ((s.swRefresh n).swOn n = true) → (((s.swRefresh n).sw n).drive = true ∧ (s.swRefresh n).swLocked n = false ∧ (s.swRefresh n).vswGood = true ∧ (s.swRefresh n).swFailed n = false ∧ (s.swRefresh n).seriesOk n = true))

/-- Protection, under-voltage, the serial watchdog and ISNS -/
def Obligations.SwitchProtection : Prop :=
  (∀ (s : State) (n : Nat), (s.swOn n = true) → (s.flag Fld.SW_CFG__ILIM_TIME n = true) → exec (.overloadTrip n) s = .next (s.protectOff n 1)) ∧
  (∀ (s : State) (n : Nat), (s.swOn n = false ∨ s.flag Fld.SW_CFG__ILIM_TIME n = false) → exec (.overloadTrip n) s = .next s) ∧
  (∀ (s t u : State) (n cause r : Nat), (r = if (s.sw n).onSince + 10000000 ≤ s.time then 0 else s.get Fld.SW_STATUS__RETRIES n) → (t = (((s.put Fld.SW_STATUS__RETRIES n r).setWant n false).bump Fld.SW_COUNT__PROT_OFFS n 1).put (if cause = 1 then Fld.DRV_ERR__OVERLOAD else Fld.DRV_ERR__OVERTEMP) 0 1) → (u = (let v := t.postSwitch n { code := 0x501, sev := 1, obj := n, data := cause }; if v.sessionSw n = true then v.stopPoints n 5 else v)) → s.protectOff n cause = (if u.flag Fld.SW_CFG__OT_MODE n = true ∨ (8 ≤ r ∧ u.sessionSw n = false) then ((((u.setSw n { u.sw n with latch := if cause = 1 then 4 else 3 }).lockMirrorSw n).dropRestart n).postSwitch n { code := 0x502, sev := 2, obj := n, data := if cause = 1 then 4 else 3 }) else if u.sessionSw n = true ∨ u.swLocked n = true then u else u.setSw n { u.sw n with due := cause })) ∧
  (∀ (s : State) (n : Nat), ((s.sw n).due = 1) → (s.dieRuns .cdie = true) → exec (.overloadRestartDelay n) s = .next ((s.setSw n { s.sw n with due := 0 }).askRestart n 2)) ∧
  (∀ (s : State) (n : Nat), ((s.sw n).due ≠ 1 ∨ s.dieRuns .cdie = false) → exec (.overloadRestartDelay n) s = .next s) ∧
  (∀ (s : State) (n : Nat), ((s.put Fld.SW_STATUS__TJ n 220).swOn n = true) → exec (.overtemperatureTrip n) s = .next ((s.put Fld.SW_STATUS__TJ n 220).protectOff n 2)) ∧
  (∀ (s : State) (n : Nat), ((s.put Fld.SW_STATUS__TJ n 220).swOn n = false) → exec (.overtemperatureTrip n) s = .next (s.put Fld.SW_STATUS__TJ n 220)) ∧
  (∀ (s : State) (n tj : Nat), (tj < 200) → (((s.put Fld.SW_STATUS__TJ n tj).sw n).due = 2) → ((s.put Fld.SW_STATUS__TJ n tj).dieRuns .cdie = true) → exec (.overtemperatureCooled n tj) s = .next (((s.put Fld.SW_STATUS__TJ n tj).setSw n { (s.put Fld.SW_STATUS__TJ n tj).sw n with due := 0 }).askRestart n 2)) ∧
  (∀ (s : State) (n tj : Nat), (tj < 200) → (((s.put Fld.SW_STATUS__TJ n tj).sw n).due ≠ 2 ∨ (s.put Fld.SW_STATUS__TJ n tj).dieRuns .cdie = false) → exec (.overtemperatureCooled n tj) s = .next (s.put Fld.SW_STATUS__TJ n tj)) ∧
  (∀ (s : State) (n tj : Nat), (200 ≤ tj) → exec (.overtemperatureCooled n tj) s = .next s) ∧
  (∀ (s : State) (n : Nat), (s.swOn n = false ∨ s.flag Fld.SW_STATUS__OPEN_LOAD n = true) → exec (.switchOpenLoad n) s = .next s) ∧
  (∀ (s : State) (n code : Nat), (code = 0 ∨ 5 < code) → exec (.switchFailure n code) s = .next s) ∧
  (∀ (s : State) (n : Nat), (s.swOn n = true) → (s.flag Fld.SW_STATUS__OPEN_LOAD n = false) → exec (.switchOpenLoad n) s = .next ((s.put Fld.SW_STATUS__OPEN_LOAD n 1).postSwitch n { code := 0x504, sev := 1, obj := n })) ∧
  (∀ (s : State) (n code : Nat), (1 ≤ code) → (code ≤ 5) → ∃ u : State, u = ((((s.put Fld.SW_STATUS__FAIL n code).setWant n false).lockMirrorSw n).dropRestart n).postSwitch n { code := 0x5F0, sev := 2, obj := n, data := code } ∧ exec (.switchFailure n code) s = .next (if u.sessionSw n then u.stopPoints n 5 else u)) ∧
  (∀ (s t : State) (v : Nat), (v < 750) → (s.vswGood = true) → (s.dieRuns .ddie = true) → (t = ((s.put Fld.DRV_STATUS__VSW 0 v).put Fld.DRV_STATUS__VSW_STATE 0 1).put Fld.DRV_ERR__VSW_UV 0 1) → exec (.vswUndervoltage v) s = .next ((((upTo 48).filter s.swOn).foldl (fun s n => if (s.setWant n false).sessionSw n = true then (s.setWant n false).stopPoints n 5 else if (s.setWant n false).swLocked n = true then s.setWant n false else (s.setWant n false).put Fld.SW_STATUS__UV_WAIT n 1) t).postBoth { code := 0x110, sev := 2, data := ((upTo 48).filter s.swOn).length })) ∧
  (∀ (s : State) (v : Nat), (750 ≤ v ∨ s.vswGood = false ∨ s.dieRuns .ddie = false) → exec (.vswUndervoltage v) s = .next s) ∧
  (∀ (s t u : State) (v : Nat), (850 < v) → (s.vswGood = false) → (s.dieRuns .ddie = true) → (t = if s.dieRuns .cdie = true then s else (upTo 48).foldl (fun s n => s.put Fld.SW_STATUS__UV_WAIT n 0) s) → (u = (((t.put Fld.DRV_STATUS__VSW 0 v).put Fld.DRV_STATUS__VSW_STATE 0 (if ((upTo 48).filter fun n => t.flag Fld.SW_STATUS__UV_WAIT n) = [] then 0 else 2)).postBoth { code := 0x111, sev := 0, data := ((upTo 48).filter fun n => t.flag Fld.SW_STATUS__UV_WAIT n).length })) → exec (.vswRestored v) s = .next ((upTo 48).foldl (fun u n => u.swRefresh n) (((upTo 48).filter fun n => t.flag Fld.SW_STATUS__UV_WAIT n).foldl (fun s n => s.askRestart n 1) u))) ∧
  (∀ (s : State) (v : Nat), (v ≤ 850 ∨ s.vswGood = true ∨ s.dieRuns .ddie = false) → exec (.vswRestored v) s = .next s) ∧
  (∀ (s : State), (s.gov.wdt.isSome = true ∨ s.dieRuns .ddie = false ∨ (s.pwr = 2 ∧ s.linkUp .driver = true)) → exec .serialWatchdogExpiry s = .next s) ∧
  (∀ (s : State), (s.gov.wdt = none) → (s.dieRuns .ddie = true) → (s.pwr ≠ 2 ∨ s.linkUp .driver = false) → ∃ (u v : State), u = (s.bump Fld.DRV_WDT__EXPIRIES 0 1).put Fld.DRV_ERR__WDT_EXPIRED 0 1 ∧ v = (upTo 64).foldl (fun w i => w.drivePilot i 2 0) (((upTo 48).filter fun n => u.swOn n && u.get Fld.SW_CFG__FS n == 0).foldl (fun w n => (w.setSw n { w.sw n with drive := false }).swRefresh n) u) ∧ exec .serialWatchdogExpiry s = .next (v.setGov { v.gov with wdt := some ((upTo 48).filter fun n => u.swOn n && u.get Fld.SW_CFG__FS n == 0).length, fsOn := (upTo 48).filter fun n => !u.swOn n && u.get Fld.SW_CFG__FS n == 1 && !u.swLocked n && !u.swFailed n })) ∧
  (∀ (s u : State) (k n : Nat) (r : List Nat), (s.gov.wdt = some k) → (s.gov.fsOn = n :: r) → (u = s.setGov { s.gov with wdt := some (k + 1), fsOn := r }) → exec .failsafeOnSequence s = .next (if u.swLocked n = true ∨ u.swFailed n = true then u else ((u.setSw n { u.sw n with drive := true }).swRefresh n).postSwitch n { code := 0x503, sev := 0, obj := n, data := 3 })) ∧
  (∀ (s : State), (s.gov.wdt = none ∨ s.gov.fsOn = []) → exec .failsafeOnSequence s = .next s) ∧
  (∀ (s : State) (v : W32), (s.flag Fld.DRV_STATUS__SNS_SEL_MODE 0 = false) → exec (.drvIsnsSelWrite v) s = .next ((s.put Fld.DRV_ISNS_SEL__SEL 0 (bitsAt v.toNat 0 6)).emit (.isns (s.put Fld.DRV_ISNS_SEL__SEL 0 (bitsAt v.toNat 0 6)).isns))) ∧
  (∀ (s : State) (v : W32), (s.flag Fld.DRV_STATUS__SNS_SEL_MODE 0 = true) → exec (.drvIsnsSelWrite v) s = .next s) ∧
  (∀ (s : State) (v : Nat), (s.flag Fld.DRV_STATUS__SNS_SEL_MODE 0 = true) → exec (.snsSelChange v) s = .next ((s.put Fld.DRV_ISNS_SEL__SEL 0 v).emit (.isns (s.put Fld.DRV_ISNS_SEL__SEL 0 v).isns))) ∧
  (∀ (s : State) (v : Nat), (s.flag Fld.DRV_STATUS__SNS_SEL_MODE 0 = false) → exec (.snsSelChange v) s = .next s)

/-- SWITCH_UNLOCK, SWITCH_CONFIG and SWITCH_RETURN -/
def Obligations.SwitchDescriptors : Prop :=
  (∀ (s : State) (d : Desc), (s.accepts 0x22 d = true) → (((s.taken d).sw d.target.toNat).test.isSome = false) → ((s.taken d).swLocked d.target.toNat = false) → exec (.switchUnlock d) s = .next ((s.taken d).fin ((s.taken d).ticket d) stDone 0)) ∧
  (∀ (s : State) (d : Desc), (s.accepts 0x22 d = true) → (((s.taken d).sw d.target.toNat).test.isSome = false) → ((s.taken d).swLocked d.target.toNat = true) → (((s.taken d).sw d.target.toNat).clampLock ≠ 0) → ((s.taken d).get Fld.SW_CFG__CLAMP_BUDGET d.target.toNat * 500000 ≤ (s.taken d).clampSum d.target.toNat) → exec (.switchUnlock d) s = .next ((s.taken d).fin ((s.taken d).ticket d) stCapacity 3)) ∧
  (∀ (s : State) (d : Desc), (s.accepts 0x22 d = true) → (((s.taken d).sw d.target.toNat).test.isSome = false) → ((s.taken d).swLocked d.target.toNat = true) → (((s.taken d).sw d.target.toNat).clampLock = 0) → (((s.taken d).sw d.target.toNat).latch ≠ 0) → (200 ≤ (s.taken d).get Fld.SW_STATUS__TJ d.target.toNat) → exec (.switchUnlock d) s = .next ((s.taken d).fin ((s.taken d).ticket d) stCapacity 5)) ∧
  (∀ (s : State) (d : Desc), (s.accepts 0x22 d = true) → (((s.taken d).sw d.target.toNat).test.isSome = false) → ((s.taken d).swLocked d.target.toNat = true) → ((s.taken d).clampSum d.target.toNat < (s.taken d).get Fld.SW_CFG__CLAMP_BUDGET d.target.toNat * 500000) → ((s.taken d).get Fld.SW_STATUS__TJ d.target.toNat < 200) → exec (.switchUnlock d) s = .next (((((s.taken d).setSw d.target.toNat { (s.taken d).sw d.target.toNat with clampLock := 0, latch := 0, drive := false }).lockMirrorSw d.target.toNat).postSwitch d.target.toNat { code := 0x505, sev := 0, obj := d.target.toNat }).fin ((s.taken d).ticket d) stDone 1)) ∧
  (∀ (s : State) (d : Desc) (k : Nat), (s.accepts 0x23 d = true) → (switchConfigBad d.param = some k) → exec (.switchConfig d) s = .next ((s.taken d).fin ((s.taken d).ticket d) stBad k)) ∧
  (∀ (s : State) (d : Desc), (s.accepts 0x23 d = true) → (switchConfigBad d.param = none) → (field d.param 0 1 ≠ 0) → ((s.taken d).sessionSw d.target.toNat = true) → exec (.switchConfig d) s = .next ((s.taken d).fin ((s.taken d).ticket d) stCapacity 1)) ∧
  (∀ (s : State) (d : Desc), (s.accepts 0x23 d = true) → (switchConfigBad d.param = none) → (field d.param 0 1 = 0) → (((s.taken d).sw d.target.toNat).test.isSome = false) → exec (.switchConfig d) s = .next ((s.taken d).setSw d.target.toNat { (s.taken d).sw d.target.toNat with cfgPend := ((s.taken d).sw d.target.toNat).cfgPend ++ [((s.taken d).ticket d, d.param)] })) ∧
  (∀ (s : State) (d : Desc), (s.accepts 0x24 d = true) → (((s.taken d).sw d.target.toNat).test.isSome = false) → ((s.taken d).swFailed d.target.toNat = false) → exec (.switchReturn d) s = .next ((s.taken d).fin ((s.taken d).ticket d) stDone 0)) ∧
  (∀ (s : State) (d : Desc), (s.accepts 0x24 d = true) → (((s.taken d).sw d.target.toNat).test.isSome = false) → ((s.taken d).swFailed d.target.toNat = true) → (∀ p ∈ (s.taken d).pointsOfSw d.target.toNat, (s.taken d).mpState p = 0 ∨ 3 < (s.taken d).mpState p) → exec (.switchReturn d) s = .next ((s.taken d).setSw d.target.toNat { (s.taken d).sw d.target.toNat with test := some ((s.taken d).ticket d) })) ∧
  (∀ (s : State) (d : Desc), (s.accepts 0x22 d = true) → (((s.taken d).sw d.target.toNat).test.isSome = true) → exec (.switchUnlock d) s = .next ((s.taken d).fin ((s.taken d).ticket d) stCapacity 1)) ∧
  (∀ (s : State) (d : Desc), (s.accepts 0x23 d = true) → (switchConfigBad d.param = none) → (((s.taken d).sw d.target.toNat).test.isSome = true) → exec (.switchConfig d) s = .next ((s.taken d).fin ((s.taken d).ticket d) stCapacity 1)) ∧
  (∀ (s : State) (d : Desc), (s.accepts 0x24 d = true) → (((s.taken d).sw d.target.toNat).test.isSome = true) → exec (.switchReturn d) s = .next ((s.taken d).fin ((s.taken d).ticket d) stCapacity 1)) ∧
  (∀ (s : State) (d : Desc) (p : Nat), (s.accepts 0x24 d = true) → (((s.taken d).sw d.target.toNat).test.isSome = false) → ((s.taken d).swFailed d.target.toNat = true) → (p ∈ (s.taken d).pointsOfSw d.target.toNat) → (1 ≤ (s.taken d).mpState p) → ((s.taken d).mpState p ≤ 3) → exec (.switchReturn d) s = .next ((s.taken d).fin ((s.taken d).ticket d) stCapacity 1))

/-- The offered current exceeds no standing limit, no rating and no allocation -/
def Obligations.OfferedCurrent : Prop :=
  (∀ (s : State) (i p r v : Nat), (((p, 1, r), v) ∈ s.limits) → s.offered i p ≤ v) ∧
  (∀ (s : State) (i p : Nat), s.offered i p ≤ s.ratingOf i) ∧
  (∀ (s : State) (i p a : Nat), (tabFind s.gov.alloc p = some a) → s.offered i p ≤ s.toCurrent i p a) ∧
  (∀ (s : State) (i p : Nat), ((s.scfg i).kind ≠ 3) → ((s.scfg i).ppMode = 0) → (s.get Fld.SLICE_PP__PP_CODE i = 0 ∨ s.get Fld.SLICE_PP__PP_CODE i = 5) → s.offered i p = 0)

/-- Lock, pilot, proximity, timers and earth fault of a slice -/
def Obligations.SliceCommands : Prop :=
  (∀ (s : State) (i : Nat), (s.deEnergised i = true) → exec (.lockHoldExpiry i) s = .next (s.setSlice i { s.slice i with held := true })) ∧
  (∀ (s : State) (i : Nat), (s.deEnergised i = false) → exec (.lockHoldExpiry i) s = .next s) ∧
  (∀ (s : State) (i t : Nat) (dir : Bool), ((s.slice i).lockDir = some dir) → ((s.slice i).lockRun = some t) → ((s.slice i).lockAgain = false) → exec (.lockConfirmTimeout i) s = .next ((s.setSlice i { s.slice i with lockRun := none, lockAgain := true }).lockMirror i)) ∧
  (∀ (s t u : State) (i k : Nat) (dir : Bool), ((s.slice i).lockDir = some dir) → ((s.slice i).lockRun = some k) → ((s.slice i).lockAgain = true) → (t = ((s.setSlice i { s.slice i with lockDir := none, lockRun := none, lockAgain := false, lockFault := true, locked := false, unlockDue := false, lockWaits := [] }).lockMirror i).postSlice i { code := 0x407, sev := 2, obj := i, data := if dir = true then 1 else 2 }) → (u = (s.slice i).lockWaits.foldl (fun s w => s.fin w.1 stCapacity 3) t) → exec (.lockConfirmTimeout i) s = .next (match dir, (u.scfg i).point with | true, some p => (match u.starts.find? (fun x => x.point == p && x.phase != 3) with | some x => u.dropStart x stCapacity 0xD 0 | none => u) | _, _ => u)) ∧
  (∀ (s : State) (i : Nat), ((s.slice i).lockDir = none ∨ (s.slice i).lockRun = none) → exec (.lockConfirmTimeout i) s = .next s) ∧
  (∀ (s : State) (i : Nat) (dir : Bool), ((s.slice i).lockDir = some dir) → ((s.slice i).lockAgain = true) → ((s.slice i).lockRun = none) → exec (.lockRetry i) s = .next ((s.setSlice i { s.slice i with lockWant := (dir, (s.slice i).lockWaits) :: (s.slice i).lockWant, lockDir := none, lockWaits := [] }).lockGo i)) ∧
  (∀ (s : State) (i : Nat), ((s.slice i).lockDir = none ∨ (s.slice i).lockAgain = false ∨ (s.slice i).lockRun.isSome = true) → exec (.lockRetry i) s = .next s) ∧
  (∀ (s : State) (i t : Nat) (x : Bool), (s.dieRuns .ddie = true) → ((s.slice i).lockDir = some x) → ((s.slice i).lockRun = some t) → exec (.lockFeedbackChange i x) s = .next ((s.setBoot { s.boot with inputs := tabSet s.boot.inputs (.lockFb i) (if x then .high else .low) }).lockConfirmed i x)) ∧
  (∀ (s : State) (i : Nat), (s.dieRuns .ddie = true) → ((s.slice i).lockDir = none) → ((s.slice i).locked = true) → ∃ u : State, u = s.setBoot { s.boot with inputs := tabSet s.boot.inputs (.lockFb i) .low } ∧ exec (.lockFeedbackChange i false) s = .next ((((u.setSlice i { u.slice i with locked := false, lockFault := true }).lockMirror i).postSlice i { code := 0x407, sev := 2, obj := i, data := 3 }).reflex i 0xA 0)) ∧
  (∀ (s u : State) (i : Nat) (x : Bool), (s.dieRuns .ddie = true) → (u = s.setBoot { s.boot with inputs := tabSet s.boot.inputs (.lockFb i) (if x = true then .high else .low) }) → ((s.slice i).lockDir ≠ some x ∨ (s.slice i).lockRun = none) → (x = true ∨ (s.slice i).locked = false ∨ (s.slice i).lockDir ≠ none) → exec (.lockFeedbackChange i x) s = .next (u.lockMirror i)) ∧
  (∀ (s : State) (i : Nat) (x : Bool), (s.dieRuns .ddie = false) → exec (.lockFeedbackChange i x) s = .next s) ∧
  (∀ (s : State) (i : Nat) (h0 l : Int), (2 ≤ (s.slice i).out ∨ s.dieRuns .ddie = false) → exec (.pilotStateConfirmed i h0 l) s = .next s) ∧
  (∀ (s t u : State) (i k : Nat) (h l : Int), ((s.slice i).out < 2) → (s.dieRuns .ddie = true) → (k = pilotClass (s.pilot i) ((s.slice i).out == 1) h l) → (t = (s.put Fld.SLICE_PILOT__HIGH i (bitsOf 16 h)).put Fld.SLICE_PILOT__LOW i (if (s.slice i).out = 1 then bitsOf 16 l else 0x8000)) → (u = if t.pilot i = k then t else if t.pilot i = 7 then t.put Fld.SLICE_STATUS__PILOT i k else (t.put Fld.SLICE_STATUS__PILOT i k).wakeSource 6) → exec (.pilotStateConfirmed i h l) s = .next (if k = 0 then u.reflex i 2 0 else if k = 4 ∨ k = 6 then u.reflex i 3 0 else u)) ∧
  (∀ (h l : Int) (k : Nat), (k ≤ 7) → (10600 < h → pilotClass k false h l = 0) ∧ (7600 < h → h < 10400 → pilotClass k false h l = 1) ∧ (4600 < h → h < 7400 → pilotClass k false h l = 2) ∧ (1600 < h → h < 4400 → pilotClass k false h l = 3) ∧ (h < 1400 → pilotClass k false h l = 4) ∧ (4600 < h → h < 7400 → -10500 < l → pilotClass k true h l = 6)) ∧
  (∀ (s t : State) (i ohm k : Nat), (s.dieRuns .ddie = true) → (k = ppClass (s.scfg i).ppMode ohm) → (t = ((s.put Fld.SLICE_PP__R_PP i (if k = 0 then 65535 else min 65535 ohm)).put Fld.SLICE_PP__PP_CODE i k).put Fld.SLICE_PP__CABLE_A i (min 255 (cableOf (s.scfg i) k))) → exec (.proximityConfirmed i ohm) s = .next (if (s.scfg i).ppMode = 0 then (if k = 0 then t.reflex i 2 0 else if k = 5 then t.reflex i 3 0 else t) else if k = 2 then t.stopSlice i 8 2 else t)) ∧
  (∀ (ohm : Nat), (4500 < ohm → ppClass 0 ohm = 0) ∧ (1100 ≤ ohm → ohm ≤ 4500 → ppClass 0 ohm = 1) ∧ (450 ≤ ohm → ohm ≤ 1099 → ppClass 0 ohm = 2) ∧ (160 ≤ ohm → ohm ≤ 449 → ppClass 0 ohm = 3) ∧ (60 ≤ ohm → ohm ≤ 159 → ppClass 0 ohm = 4) ∧ (ohm < 60 → ppClass 0 ohm = 5)) ∧
  (∀ (s : State) (i ohm : Nat), (s.dieRuns .ddie = false) → exec (.proximityConfirmed i ohm) s = .next s) ∧
  (∀ (s : State) (i : Nat), ((s.slice i).low = true) → (s.contactorOn i = true) → (s.pilot i = 2 ∨ s.pilot i = 3) → exec (.offerBelowMinimumTimeout i) s = .next (s.stopSlice i srcFirmware 9)) ∧
  (∀ (s : State) (i : Nat), ((s.slice i).low = false ∨ s.contactorOn i = false ∨ (s.pilot i ≠ 2 ∧ s.pilot i ≠ 3)) → exec (.offerBelowMinimumTimeout i) s = .next s) ∧
  (∀ (s : State) (i : Nat) (hot : List (Nat × Nat)), (s.session i = ssEnergised) → (hot = (s.slice i).above.filter fun x => decide (x.2 + 5000000 ≤ s.time)) → (hot ≠ []) → exec (.overcurrent i) s = .next ((s.stopSlice i srcFirmware 8).postSlice i { code := 0x40A, sev := 1, obj := i, data := hot.foldl (fun m x => m + 2 ^ x.1) 0 })) ∧
  (∀ (s : State) (i : Nat), (s.session i ≠ ssEnergised ∨ ((s.slice i).above.filter fun x => decide (x.2 + 5000000 ≤ s.time)) = []) → exec (.overcurrent i) s = .next s) ∧
  (∀ (s : State) (i : Nat), (s.session i = ssOffered) → (s.pilot i ≠ 2) → exec (.offerTimeout i) s = .next (s.stopSlice i srcFirmware 0xB)) ∧
  (∀ (s : State) (i : Nat), (s.session i ≠ ssOffered ∨ s.pilot i = 2) → exec (.offerTimeout i) s = .next s) ∧
  (∀ (s : State) (i : Nat), ((s.slice i).tripF = false) → exec (.tripStateFTimeout i) s = .next s) ∧
  (∀ (s : State) (i : Nat), ((s.slice i).tripF = true) → ((s.setSlice i { s.slice i with tripF := false }).session i ≠ ssTripped) → exec (.tripStateFTimeout i) s = .next (s.setSlice i { s.slice i with tripF := false })) ∧
  (∀ (s : State) (i : Nat), ((s.slice i).tripF = true) → ((s.setSlice i { s.slice i with tripF := false }).session i = ssTripped) → exec (.tripStateFTimeout i) s = .next ((s.setSlice i { s.slice i with tripF := false }).drivePilot i 0 0)) ∧
  (∀ (s : State) (i : Nat), ((s.slice i).cred ≠ 0) → exec (.credentialExpiry i) s = .next (((s.setReg .SLICE_CRED_LO i 0).setReg .SLICE_CRED_HI i 0).setSlice i { s.slice i with cred := 0 })) ∧
  (∀ (s : State) (i : Nat), ((s.slice i).cred = 0) → exec (.credentialExpiry i) s = .next s) ∧
  (∀ (s : State) (i : Nat) (dc : Int), (s.dieRuns .ddie = true) → ((s.scfg i).efMode = 1) → ((s.scfg i).kind = 1 ∨ (s.scfg i).kind = 2) → (s.contactorOn i = true) → (300 ≤ dc.natAbs) → exec (.earthFaultTrip i dc) s = .next ((s.put Fld.SLICE_RDC__I_DC i (bitsOf 16 (clampS 16 dc))).reflex i 4 (min 0x7FFF (dc.natAbs / 100)))) ∧
  (∀ (s : State) (i : Nat) (dc : Int), ((s.scfg i).efMode ≠ 1 ∨ (s.scfg i).kind = 3 ∨ (s.scfg i).kind = 0 ∨ s.dieRuns .ddie = false ∨ s.contactorOn i = false ∨ dc.natAbs < 300) → exec (.earthFaultTrip i dc) s = .next s) ∧
  (∀ (s : State) (i : Nat) (ok : Bool), ((s.slice i).rdcWait = false) → exec (.rdcSelfTestResult i ok) s = .next s) ∧
  (∀ (s : State) (i : Nat), ((s.slice i).rdcWait = true) → exec (.rdcSelfTestResult i false) s = .next (s.failSlice i 4)) ∧
  (∀ (s : State) (i : Nat), ((s.slice i).rdcWait = true) → ((s.scfg i).switch = none) → exec (.rdcSelfTestResult i true) s = .next (s.setSlice i { s.slice i with rdcWait := false })) ∧
  (∀ (s : State) (i n : Nat), ((s.slice i).rdcWait = true) → ((s.scfg i).switch = some n) → exec (.rdcSelfTestResult i true) s = .next ((s.setSlice i { s.slice i with rdcWait := false }).swRefresh n)) ∧
  (∀ (s t : State) (i r u umax : Nat) (l : Bool), ((s.scfg i).efMode = 2) → ((s.scfg i).kind = 3) → (s.dieRuns .ddie = true) → (t = (let v := s.isoShow i r u; if (v.usesHlc i && v.session i = ssEnding && !v.contactorOn i) = true then v.emit (.hlc i 9 u) else v)) → exec (.insulationMeasurement i r u umax l) s = .next (if 500 * umax < r * 1000 then t else if 100 ≤ isoPerVolt r umax then t.postSlice i { code := 0x406, sev := 1, obj := i, data := min (isoPerVolt r umax) 65535 } else if (l && t.session i = ssEnergised) = true then t.reflex i 4 (0x8000 + isoPerVolt r umax) else t)) ∧
  (∀ (s : State) (i r u umax : Nat) (l : Bool), ((s.scfg i).efMode ≠ 2 ∨ (s.scfg i).kind ≠ 3 ∨ s.dieRuns .ddie = false) → exec (.insulationMeasurement i r u umax l) s = .next s) ∧
  (∀ (s : State) (i r u umax : Nat), ((s.scfg i).efMode = 2) → ((s.scfg i).kind = 3) → (s.inSession i = true) → exec (.cableCheckResult i r u umax false) s = .next (s.failSlice i 4)) ∧
  (∀ (s : State) (i r u umax : Nat), ((s.scfg i).efMode = 2) → ((s.scfg i).kind = 3) → (s.inSession i = true) → exec (.cableCheckResult i r u umax true) s = .next (if 500 * umax < r * 1000 then s.isoShow i r u else if 100 ≤ isoPerVolt r umax then (s.isoShow i r u).postSlice i { code := 0x406, sev := 1, obj := i, data := min (isoPerVolt r umax) 65535 } else (s.isoShow i r u).stopSlice i srcFirmware 4)) ∧
  (∀ (s : State) (i r u umax : Nat) (l : Bool), ((s.scfg i).efMode ≠ 2 ∨ (s.scfg i).kind ≠ 3 ∨ s.inSession i = false) → exec (.cableCheckResult i r u umax l) s = .next s) ∧
  (∀ (s : State) (d : Desc), (s.accepts 0x2C d = true) → (((s.taken d).slice d.target.toNat).test.isSome = false) → ((s.taken d).flag Fld.SLICE_STATUS__FAULT d.target.toNat = false) → exec (.sliceReturn d) s = .next ((s.taken d).fin ((s.taken d).ticket d) stDone 0)) ∧
  (∀ (s : State) (d : Desc), (s.accepts 0x2C d = true) → (((s.taken d).slice d.target.toNat).test.isSome = true) → exec (.sliceReturn d) s = .next ((s.taken d).fin ((s.taken d).ticket d) stCapacity 1)) ∧
  (∀ (s : State) (d : Desc) (ready : Bool), (s.accepts 0x2C d = true) → (((s.taken d).slice d.target.toNat).test.isSome = false) → ((s.taken d).flag Fld.SLICE_STATUS__FAULT d.target.toNat = true) → (ready = (match ((s.taken d).scfg d.target.toNat).point with | some p => ((s.taken d).mp p).oos == [1] && ((s.taken d).mp p).final && ((s.taken d).mp p).recFormed && !(s.taken d).starts.any (·.point == p) | none => true)) → exec (.sliceReturn d) s = .next (if ready = true then (s.taken d).setSlice d.target.toNat { (s.taken d).slice d.target.toNat with test := some ((s.taken d).ticket d) } else (s.taken d).fin ((s.taken d).ticket d) stCapacity 1)) ∧
  (∀ (s : State) (i : Nat), exec (.returnSelfTestDone true i 0) s = .next (s.sliceTested i 0)) ∧
  (∀ (s : State) (i : Nat) (code : Nat), exec (.returnSelfTestDone false i code) s = .next (s.switchTested i code))

/-- High-level communication with the vehicle, and HLC_CTRL -/
def Obligations.HighLevelCommunication : Prop :=
  (∀ (s : State) (i a k : Nat) (tls : Option Bool) (offers : List Nat) (t13 : Bool), (s.get Fld.SLICE_HLC__STAGE i = 1) → (s.inSession i = true) → (a ≤ 50) → (tls ≠ some false) → (protoOf (s.scfg i) offers tls.isSome t13 = k) → (k ≠ 0) → exec (.slacMatch i a true tls offers t13) s = .next ((((s.put Fld.SLICE_HLC__STAGE i 4).put Fld.SLICE_HLC__PROTO i k).emit (.hlc i 4 k)).postSlice i { code := 0x408, sev := 0, obj := i, data := k })) ∧
  (∀ (s : State) (i a : Nat) (tls : Option Bool) (offers : List Nat) (t13 : Bool), (s.get Fld.SLICE_HLC__STAGE i = 1) → (s.inSession i = true) → (a ≤ 50) → exec (.slacMatch i a false tls offers t13) s = .next (s.put Fld.SLICE_HLC__STAGE i 2)) ∧
  (∀ (s : State) (i a : Nat) (offers : List Nat) (t13 : Bool), (s.get Fld.SLICE_HLC__STAGE i = 1) → (s.inSession i = true) → (a ≤ 50) → exec (.slacMatch i a true (some false) offers t13) s = .next (s.hlcFail i 3)) ∧
  (∀ (s : State) (i a : Nat) (sdp : Bool) (tls : Option Bool) (offers : List Nat) (t13 : Bool), (s.get Fld.SLICE_HLC__STAGE i ≠ 1 ∨ s.inSession i = false) → exec (.slacMatch i a sdp tls offers t13) s = .next s) ∧
  (∀ (s : State) (i a : Nat) (sdp : Bool) (tls : Option Bool) (offers : List Nat) (t13 : Bool), (s.get Fld.SLICE_HLC__STAGE i = 1) → (s.inSession i = true) → (50 < a) → exec (.slacMatch i a sdp tls offers t13) s = .next (s.slacFail i)) ∧
  (∀ (s t : State) (i : Nat), (t = (s.put Fld.SLICE_HLC__FAILS i (min 255 (s.get Fld.SLICE_HLC__FAILS i + 1))).put Fld.SLICE_HLC__REASON i 1) → s.slacFail i = (if s.get Fld.SLICE_HLC__FAILS i < 2 then t.drivePilot i 3 0 else if (t.scfg i).fallback = true then ((t.setSlice i { t.slice i with basic := true }).put Fld.SLICE_HLC__STAGE i 6).postSlice i { code := 0x409, sev := 1, obj := i, data := 1 } else t.hlcFail i 1)) ∧
  (∀ (s : State) (i a : Nat) (tls : Option Bool) (offers : List Nat) (t13 : Bool), (s.get Fld.SLICE_HLC__STAGE i = 1) → (s.inSession i = true) → (a ≤ 50) → (tls ≠ some false) → (protoOf (s.scfg i) offers tls.isSome t13 = 0) → exec (.slacMatch i a true tls offers t13) s = .next (s.hlcFail i 4)) ∧
  (∀ (s : State) (i : Nat), (s.get Fld.SLICE_HLC__STAGE i = 1) → (s.inSession i = true) → ((s.slice i).out ≠ 3) → exec (.slacTimeout i) s = .next (s.slacFail i)) ∧
  (∀ (s : State) (i : Nat), (s.get Fld.SLICE_HLC__STAGE i ≠ 1 ∨ s.inSession i = false ∨ (s.slice i).out = 3) → exec (.slacTimeout i) s = .next s) ∧
  (∀ (s : State) (i : Nat), ((s.slice i).out ≠ 3 ∨ s.inSession i = false) → exec (.slacRetry i) s = .next s) ∧
  (∀ (s : State) (i : Nat), ((s.slice i).out = 3) → (s.inSession i = true) → exec (.slacRetry i) s = .next ((s.drivePilot i 1 50).emit (.hlc i 1 0))) ∧
  (∀ (s : State) (i nb na : Nat) (e : List Byte), ((s.scfg i).hlc = true) → (nb ≤ s.devTime) → (s.devTime ≤ na) → exec (.hlcAuthorization i e nb na true) s = .next (s.presentCred i 2 (emaidHash e))) ∧
  (∀ (s : State) (i nb na : Nat) (e : List Byte) (ok : Bool), ((s.scfg i).hlc = true) → (ok = false ∨ s.devTime < nb ∨ na < s.devTime) → exec (.hlcAuthorization i e nb na ok) s = .next ((s.put Fld.SLICE_HLC__REASON i 6).postSlice i { code := 0x403, sev := 1, obj := i, data := 5 })) ∧
  (∀ (s : State) (i nb na : Nat) (e : List Byte) (ok : Bool), ((s.scfg i).hlc = false) → exec (.hlcAuthorization i e nb na ok) s = .next s) ∧
  (∀ (s : State) (i : Nat), exec (.hlcAuthorizationTimeout i) s = .next (if s.get Fld.SLICE_HLC__STAGE i = 4 then s.hlcFail i 5 else s)) ∧
  (∀ (s : State) (i : Nat), exec (.hlcSequenceTimeout i) s = .next (if s.get Fld.SLICE_HLC__STAGE i = 2 then s.hlcFail i 2 else if s.get Fld.SLICE_HLC__STAGE i = 3 then s.hlcFail i 3 else if s.get Fld.SLICE_HLC__STAGE i = 4 then s.hlcFail i 5 else s)) ∧
  (∀ (s : State) (i : Nat), (s.inSession i = true) → (s.usesHlc i = true) → exec (.hlcPowerDelivery i true) s = .next (s.setSlice i { s.slice i with hlcGo := true })) ∧
  (∀ (s : State) (i : Nat), (s.inSession i = true) → (s.usesHlc i = true) → exec (.hlcPowerDelivery i false) s = .next (s.stopSlice i 8 7)) ∧
  (∀ (s : State) (i : Nat) (b : Bool), (s.inSession i = false ∨ s.usesHlc i = false) → exec (.hlcPowerDelivery i b) s = .next s) ∧
  (∀ (s : State) (i p u : Nat) (cur : Int), ((s.scfg i).point = some p) → (s.inSession i = true) → (s.usesHlc i = true) → ∃ t : State, t = (s.setSlice i { s.slice i with demand := some (u, cur) }).pushOrder { src := 8, act := .limit p (if cur < 0 then 4 else 1) (cur.natAbs * 100) } ∧ exec (.hlcCurrentDemand i u cur) s = .next (t.sendLimit i p 5 (t.offered i p))) ∧
  (∀ (s : State) (i u : Nat) (cur : Int), ((s.scfg i).point = none ∨ s.inSession i = false ∨ s.usesHlc i = false) → exec (.hlcCurrentDemand i u cur) s = .next s) ∧
  (∀ (s : State) (d : Desc) (b : List Byte) (t : State), (s.accepts 0x2A d = true) → (field d.param 0 1 = 1) → (DescF.parNonZero d 1 = none) → (DescF.bufLen d = 16) → (((s.taken d).scfg d.target.toNat).hlc = true) → (((s.taken d).scfg d.target.toNat).kind = 3) → (((s.taken d).slice d.target.toNat).test.isSome = false) → (t = (s.taken d).setSlice d.target.toNat { (s.taken d).slice d.target.toNat with conv := some (field b 0 1, field b 4 4, field b 8 4, field b 12 4) }) → exec (.converterStatus d (.data b)) s = .next ((if bitAt (field b 0 1) 1 = true then t.stopSlice d.target.toNat srcFirmware 7 else t).fin ((s.taken d).ticket d) stDone 0)) ∧
  (∀ (s : State) (d : Desc) (b : List Byte), (s.accepts 0x2A d = true) → (field d.param 0 1 = 1) → (DescF.parNonZero d 1 = none) → (DescF.bufLen d = 16) → (((s.taken d).scfg d.target.toNat).hlc = true) → (((s.taken d).scfg d.target.toNat).kind ≠ 3) → (((s.taken d).slice d.target.toNat).test.isSome = false) → exec (.converterStatus d (.data b)) s = .next (((s.taken d).setSlice d.target.toNat { (s.taken d).slice d.target.toNat with conv := some (field b 0 1, field b 4 4, field b 8 4, field b 12 4) }).fin ((s.taken d).ticket d) stDone 0)) ∧
  (∀ (s : State) (d : Desc), (s.accepts 0x2A d = true) → (field d.param 0 1 = 2) → (DescF.parNonZero d 1 = none) → (d.bufAddr = 0) → (DescF.bufLen d = 0) → (((s.taken d).scfg d.target.toNat).hlc = true) → (((s.taken d).slice d.target.toNat).test.isSome = false) → exec (.renegotiate d) s = .next (((s.taken d).emit (.hlc d.target.toNat 2 0)).fin ((s.taken d).ticket d) stDone 0)) ∧
  (∀ (s : State) (d : Desc), (s.accepts 0x2A d = true) → (field d.param 0 1 = 2) → (DescF.parNonZero d 1 = none) → (d.bufAddr = 0) → (DescF.bufLen d = 0) → (((s.taken d).scfg d.target.toNat).hlc = false) → exec (.renegotiate d) s = .next ((s.taken d).fin ((s.taken d).ticket d) stCapacity 2)) ∧
  (∀ (s : State) (d : Desc), (s.accepts 0x2A d = true) → (field d.param 0 1 = 3) → (DescF.parNonZero d 1 = none) → (d.bufAddr = 0) → (DescF.bufLen d = 0) → (((s.taken d).scfg d.target.toNat).hlc = true) → (((s.taken d).slice d.target.toNat).test.isSome = false) → ((s.taken d).session d.target.toNat = ssEnergised) → exec (.modemReset d) s = .next ((s.taken d).fin ((s.taken d).ticket d) stCapacity 1)) ∧
  (∀ (s t : State) (d : Desc), (s.accepts 0x2A d = true) → (field d.param 0 1 = 3) → (DescF.parNonZero d 1 = none) → (d.bufAddr = 0) → (DescF.bufLen d = 0) → (((s.taken d).scfg d.target.toNat).hlc = true) → (((s.taken d).slice d.target.toNat).test.isSome = false) → ((s.taken d).session d.target.toNat ≠ ssEnergised) → (t = ((s.taken d).emit (.hlc d.target.toNat 6 0)).put Fld.SLICE_HLC__STAGE d.target.toNat (if (s.taken d).session d.target.toNat = ssOffered then 1 else 0)) → exec (.modemReset d) s = .next (((t.setSlice d.target.toNat { t.slice d.target.toNat with basic := false }).put Fld.SLICE_HLC__PROTO d.target.toNat 0).fin ((s.taken d).ticket d) stDone 0)) ∧
  (∀ (s : State) (i : Nat), ((s.scfg i).kind = 3) → (s.inSession i = true) → (s.session i ≠ ssOffered ∨ (s.slice i).conv.any (fun c => bitAt c.1 0) = false) → exec (.converterStale i) s = .next ((s.postSlice i { code := 0x40C, sev := 1, obj := i, data := if s.session i = ssOffered then 1 else 2 }).stopSlice i srcFirmware 7)) ∧
  (∀ (s : State) (i : Nat), ((s.scfg i).kind ≠ 3 ∨ s.inSession i = false ∨ (s.session i = ssOffered ∧ (s.slice i).conv.any (fun c => bitAt c.1 0) = true)) → exec (.converterStale i) s = .next s)

/-- The level of an allocation is the largest that its supply allows -/
def Obligations.GovernorLevels : Prop :=
  (∀ (l : List Sess) (cap : Sess → Nat → Nat) (v w : Nat), (levelOf l cap (some v) = some w) → (takeAt l cap 0 ≤ v) → takeAt l cap w ≤ v) ∧
  (∀ (l : List Sess) (cap : Sess → Nat → Nat) (v w : Nat), (levelOf l cap (some v) = some w) → v < takeAt l cap (w + 1)) ∧
  (∀ (l : List Sess) (cap : Sess → Nat → Nat) (v : Nat), (levelOf l cap (some v) = none) → takeAt l cap (2 ^ 64) ≤ v)

/-- Tokens, budget writes, DEFER_MAX and ramps -/
def Obligations.GovernorCommands : Prop :=
  (∀ (s : State) (g : Nat), exec (.tokenReturn g) s = .next ((s.setGov { s.gov with out := dropFirst (fun x => x.1 == g && decide (x.2 + 1000000 ≤ s.time)) s.gov.out }).tokenMirror g)) ∧
  (∀ (s : State) (g : Nat) (v : W32), exec (.govBudgetWrite g v) s = .next (s.setGov { s.gov with budgets := s.gov.budgets ++ [(some g, v.toNat)] })) ∧
  (∀ (s : State) (v : W32), exec (.govSiteBudgetWrite v) s = .next (s.setGov { s.gov with budgets := s.gov.budgets ++ [(none, v.toNat)] })) ∧
  (∀ (s : State) (v : W32), (s.gov.budgets = [(none, v.toNat)]) → (s.takeBudgets.get Fld.GOV_SITE_BUDGET__BUDGET 0 = v.toNat ∧ s.takeBudgets.gov.budgets = [])) ∧
  (∀ (s : State) (o : QObj), exec (.deferMaxExpiry o) s = .next (s.setGov { s.gov with queue := s.gov.queue.map fun e => if e.obj == o then { e with overdue := true } else e })) ∧
  (∀ (s : State) (p : Nat) (e : QEntry) (x : StartSt), (s.gov.queue.filter (·.overdue) = [e]) → (e.obj = .start p) → (s.starts.find? (fun x => x.point == p && x.phase == 1) = some x) → s.deferOver = s.dropStart x stCapacity 0x10 0) ∧
  (∀ (s : State) (n : Nat) (e : QEntry), (s.gov.queue.filter (·.overdue) = [e]) → (e.obj = .on n) → s.deferOver = s.onOutcome n stCapacity 0x10 0) ∧
  (∀ (s : State) (n w : Nat) (e : QEntry), (s.gov.queue.filter (·.overdue) = [e]) → (e.obj = .restart n w) → s.deferOver = s.dropRestart n) ∧
  (∀ (s : State) (p i : Nat), (s.sliceOf p = some i) → (s.session i = ssEnergised) → (s.gov.shed.contains p = false) → (tabGet 0 s.gov.ramp p * 100 < s.get Fld.GOV_RAMP__RAMP_MS (s.groupOf p)) → exec (.rampStep p) s = .next (s.setGov { s.gov with ramp := tabSet s.gov.ramp p (tabGet 0 s.gov.ramp p + 1) })) ∧
  (∀ (s : State) (p i : Nat), (s.sliceOf p = some i) → (s.session i ≠ ssEnergised ∨ s.gov.shed.contains p = true ∨ s.get Fld.GOV_RAMP__RAMP_MS (s.groupOf p) ≤ tabGet 0 s.gov.ramp p * 100) → exec (.rampStep p) s = .next s) ∧
  (∀ (s : State) (p : Nat), (s.sliceOf p = none) → exec (.rampStep p) s = .next s)

/-- An enable is on exactly while Serac runs, maps it and no function that names it holds it off -/
def Obligations.SeriesEnables : Prop :=
  (∀ (s : State) (k : Nat), (k < 16) → bitAt s.writeEnables.serac.en k = ((s.serac.st == 2 || s.serac.st == 3) && serMapped s.serac.cfg k && (s.serac.holding k).isEmpty)) ∧
  (∀ (x : SeracSt) (k : Nat), ((x.holding k).isEmpty = true ↔ ∀ f ∈ usedFns x.cfg, bitAt (fnCfg x.cfg f).mask k = true → (x.fn f).st = 1))

/-- A safety function is CLEAR only while its inputs demand nothing -/
def Obligations.SafetyFunctions : Prop :=
  (∀ (c : FnCfg) (ha hb fault reset : Bool) (tick : Nat) (x : SFunc), ((twoChannel c ha hb fault reset tick x).st = 1) → (ha = true ∧ hb = true ∧ fault = false)) ∧
  (∀ (c : FnCfg) (ha hb fault reset : Bool) (tick : Nat) (x : SFunc), (x.st = 4) → ((twoChannel c ha hb fault reset tick x).st ≠ 4) → (ha = false ∧ hb = false ∧ fault = false)) ∧
  (∀ (c : FnCfg) (h1 h2 d1 d2 fault reset : Bool) (tick : Nat) (x : SFunc), ((twoHand c h1 h2 d1 d2 fault reset tick x).st = 1) → (h1 = true ∧ h2 = true ∧ fault = false)) ∧
  (∀ (c : FnCfg) (h1 h2 d1 d2 fault reset : Bool) (tick : Nat) (x : SFunc), (x.st ≠ 1) → ((twoHand c h1 h2 d1 d2 fault reset tick x).st = 1) → (x.armed = true ∧ max (x.t1.getD tick) (x.t2.getD tick) - min (x.t1.getD tick) (x.t2.getD tick) ≤ 1000))

/-- Serac: start, cycle, diagnostics, degraded mode and timers -/
def Obligations.SeracCommands : Prop :=
  (∀ (s : State) (h : Nat) (v : Bool), (s.serac.st ≠ 0) → exec (.seracStart h v) s = .next s) ∧
  (∀ (s : State) (h : Nat), (s.serac.st = 0) → (s.dieRuns .ddie = true) → (s.variant.hasDdie = true) → (s.serac.pend = none) → (field s.serac.cfg 8 32 = 0) → exec (.seracStart h true) s = .next ((s.setSerac { s.serac with st := 1, img := h }).seracInit)) ∧
  (∀ (s : State) (c : Nat), (1 ≤ c) → (c ≤ 6) → exec (.seracDirectFault c) s = .next (s.directFault c)) ∧
  (∀ (s : State), exec .seracCycleMonitorExpiry s = .next (s.directFault 2)) ∧
  (∀ (s : State), exec (.imageHashCheck false) s = .next (s.directFault 6)) ∧
  (∀ (s : State), exec (.imageHashCheck true) s = .next s) ∧
  (∀ (s u v : State) (c : Nat), (s.serac.st ≠ 0) → (s.serac.st ≠ 5) → (u = (s.setSerac { s.serac with st := 5, faultCode := c }).writeEnables) → (v = (((u.setSerac { u.serac with faults := u.faults24 ++ [u.time], stuck := u.serac.stuck || decide (3 ≤ u.faults24.length + 1) }).seracNote 0x0C 15 c (u.faults24.length + 1)).seracPost 0x607 3 c (u.faults24.length + 1)).domainReset 12) → s.directFault c = (v.setSerac { v.serac with session := none, staged := none }).seracChannels.seracInit) ∧
  (∀ (s : State) (c : Nat), (s.serac.st = 0 ∨ s.serac.st = 5) → s.directFault c = s) ∧
  (∀ (s : State) (c : Nat), (c = 0 ∨ 6 < c) → exec (.seracDirectFault c) s = .next s) ∧
  (∀ (s : State) (c : Nat), exec (.seracOffPathFault c) s = .next (s.offPath c)) ∧
  (∀ (s : State) (c : Nat), (s.serac.st = 2) → (0x11 ≤ c) → (c ≤ 0x15) → ∃ u : State, u = s.setSerac { s.serac with failing := putBits s.serac.failing (c - 0x11) 1 1, passes := tabErase s.serac.passes c } ∧ s.offPath c = u.enterDegraded c (field s.serac.cfg 2 2 * 120000)) ∧
  (∀ (s : State) (c : Nat), (s.serac.st = 3) → (0x11 ≤ c) → (c ≤ 0x15) → s.offPath c = s.setSerac { s.serac with failing := putBits s.serac.failing (c - 0x11) 1 1, passes := tabErase s.serac.passes c, store := some (s.serac.rem / 2000, putBits s.serac.failing (c - 0x11) 1 1) }) ∧
  (∀ (s : State) (c : Nat), (s.serac.st = 0 ∨ c < 0x11 ∨ 0x15 < c) → s.offPath c = s) ∧
  (∀ (s : State), (s.serac.st ≠ 3) → exec .degradedTimeStore s = .next s) ∧
  (∀ (s : State), (s.serac.st ≠ 3) → exec .seracDegradedReminder s = .next s) ∧
  (∀ (s : State), (s.serac.st ≠ 3) → exec .seracDegradedExpiry s = .next s) ∧
  (∀ (s : State), (s.serac.st = 3) → exec .degradedTimeStore s = .next (s.setSerac { s.serac with store := some (s.serac.rem / 2000, s.serac.failing) })) ∧
  (∀ (s : State), (s.serac.st = 3) → exec .seracDegradedReminder s = .next (s.seracPost 0x604 2 s.serac.degCode (cycMinutes s.serac.rem))) ∧
  (∀ (s : State), (s.serac.st = 3) → exec .seracDegradedExpiry s = .next (s.safeHold)) ∧
  (∀ (s : State) (k n : Nat), (s.enSwitch k = some n) → (s.serac.st ≠ 0) → (s.swOn n = true) → exec (.enableUntestedTimeout k) s = .next ((s.setSerac { s.serac with untested := putBits s.serac.untested k 1 1 }).offPath 0x13)) ∧
  (∀ (s : State) (k : Nat), (s.serac.st = 0 ∨ s.enSwitch k = none ∨ ∃ n, s.enSwitch k = some n ∧ s.swOn n = false) → exec (.enableUntestedTimeout k) s = .next s) ∧
  (∀ (s : State) (c : Nat) (l : List Nat), (s.serac.st ≠ 1) → exec (.seracStartTestsDone c l) s = .next s) ∧
  (∀ (s u : State) (l : List Nat), (s.serac.st = 1) → (s.serac.store = none) → (diagMask l ≠ 0) → (u = s.setSerac { s.serac with failing := diagMask l, untested := 0 }) → ∃ k : Nat, (upTo 5).find? (fun n => bitAt (diagMask l) n) = some k ∧ exec (.seracStartTestsDone 0 l) s = .next ((u.enterDegraded (0x11 + k) (field s.serac.cfg 2 2 * 120000)).domainReturned 12)) ∧
  (∀ (s : State) (c : Nat) (l : List Nat), (s.serac.st = 1) → (c ≠ 0) → exec (.seracStartTestsDone c l) s = .next (s.directFault c)) ∧
  (∀ (s : State), (s.serac.st = 1) → (s.serac.store = none) → ∃ u : State, u = s.setSerac { s.serac with failing := 0, untested := 0 } ∧ exec (.seracStartTestsDone 0 []) s = .next ((u.setSerac { u.serac with st := 2 }).domainReturned 12)) ∧
  (∀ (s : State) (k l h : Nat), (s.serac.st = 0 ∨ s.serac.tick % 16 ≠ k ∨ (upTo 32).any (fun i => serSource s.serac.cfg i == some k) = false) → exec (.testPulse k l h) s = .next s) ∧
  (∀ (s : State) (k l h : Nat), (s.serac.st ≠ 0) → (s.serac.tick % 16 = k) → ((upTo 32).any (fun i => serSource s.serac.cfg i == some k) = true) → exec (.testPulse k l h) s = .next ((upTo 32).foldl (fun u i => u.pulseTest k i (bitAt h i) (bitAt l i)) (s.emit (.testPulse k)))) ∧
  (∀ (s : State) (b : Nat), (s.serac.st = 0) → exec (.thresholdSelfTest b) s = .next s) ∧
  (∀ (s t : State) (b : Nat), (s.serac.st ≠ 0) → (t = (upTo 32).foldl (fun u i => if bitAt b i = true then (u.setInp i { u.serac.input i with thr := 0 }).inputFault i 3 else u.setInp i { u.serac.input i with thr := min 2 ((u.serac.input i).thr + 1), fault := if ((u.serac.input i).fault = 3 && 1 ≤ (u.serac.input i).thr) = true then 0 else (u.serac.input i).fault }) s) → exec (.thresholdSelfTest b) s = .next (if (upTo 32).any (fun i => bitAt b i && !(usedInputs t.serac.cfg).contains i) = true then t.offPath 0x15 else (t.diagPass 0x15).degradedCheck)) ∧
  (∀ (s : State) (l : List (Nat × List Level)) (p : List Nat), (s.serac.st = 0) → exec (.seracCycle l p) s = .next s) ∧
  (∀ (s u v : State) (l : List (Nat × List Level)) (p : List Nat) (g : List (Nat × (SInput × Bool))), (s.serac.st ≠ 0) → (g = ((upTo 32).map fun i => (i, (s.serac.input i).cycle (serF s.serac.cfg i) s.serac.tick (serSource s.serac.cfg i == some (s.serac.tick % 16)) (s.samplesOf l i)))) → (u = (let w := s.setBoot { s.boot with inputs := l.foldl (fun t x => match x.2.getLast? with | some v => tabSet t (.safety x.1) v | none => t) s.boot.inputs }; w.setSerac { w.serac with inputs := g.map fun x => (x.1, x.2.1) })) → (v = (p.foldl (fun w c => w.diagPass c) ((usedFns u.serac.cfg).foldl (fun w f => w.evalFn ((g.filter fun x => x.2.2).map (·.1)) f) u)).degradedCheck) → exec (.seracCycle l p) s = .next (v.setSerac { v.serac with tick := s.serac.tick + 1, rem := if v.serac.st = 3 then v.serac.rem - 1 else v.serac.rem }).writeEnables) ∧
  (∀ (s : State) (f : Nat), (s.serac.st = 0 ∨ ((s.serac.fn f).disc = none ∧ (s.serac.fn f).disc2 = none) ∨ (s.serac.fn f).st = 4) → exec (.discrepancyTimeout f) s = .next s) ∧
  (∀ (s u v : State) (f : Nat), (s.serac.st ≠ 0) → ((s.serac.fn f).disc.isSome = true ∨ (s.serac.fn f).disc2.isSome = true) → ((s.serac.fn f).st ≠ 4) → (u = s.setFn f { s.serac.fn f with st := 4, armed := false }) → (v = u.setSerac { u.serac with counts := tabSet u.serac.counts f ((tabGet (0, 0) s.serac.counts f).1, satTo 16 ((tabGet (0, 0) s.serac.counts f).2 + 1)) }) → exec (.discrepancyTimeout f) s = .next (if (s.serac.fn f).st = 1 then v.seracPost 0x601 2 f (s.serac.fn f).cause else v).writeEnables) ∧
  (∀ (s : State), (s.serac.session.isSome = true) → exec .seracSessionTimeout s = .next (s.closeSession)) ∧
  (∀ (s : State), (s.serac.session = none) → exec .seracSessionTimeout s = .next s) ∧
  (∀ (s : State), (s.serac.lockout = false) → exec .lockoutExpiry s = .next s) ∧
  (∀ (s : State), (s.serac.lockout = true) → exec .lockoutExpiry s = .next (s.setSerac { s.serac with lockout := false, fails := 0 }))

/-- Requests to Serac over a port: session, configuration, password, log, restart -/
def Obligations.SeracRequests : Prop :=
  (∀ (s : State) (p : Port), (s.seracTakes p 0x301 = true) → (field (s.reqBytes (.hostSerac p)) 4 1 ≤ 32) → (zeroOutside (s.reqBytes (.hostSerac p)) [(0, 4), (8, 39)] = true) → ((s.clearDb (.hostSerac p) 1).serac.lockout = false) → ((s.clearDb (.hostSerac p) 1).serac.session = some p.other) → exec (.login p) s = .next ((s.clearDb (.hostSerac p) 1).seracReply p (s.chan (.hostSerac p)).seq 0x301 stCapacity 1 [])) ∧
  (∀ (s : State) (p : Port), (s.seracTakes p 0x301 = true) → (field (s.reqBytes (.hostSerac p)) 4 1 ≤ 32) → (zeroOutside (s.reqBytes (.hostSerac p)) [(0, 4), (8, 39)] = true) → ((s.clearDb (.hostSerac p) 1).serac.lockout = true) → exec (.login p) s = .next ((s.clearDb (.hostSerac p) 1).seracReply p (s.chan (.hostSerac p)).seq 0x301 stCapacity 2 [])) ∧
  (∀ (s : State) (p : Port) (u : State), (s.seracTakes p 0x301 = true) → (zeroOutside (s.reqBytes (.hostSerac p)) [(0, 4), (8, 39)] = true) → (field (s.reqBytes (.hostSerac p)) 4 1 ≤ 32) → ((s.clearDb (.hostSerac p) 1).serac.lockout = false) → ((s.clearDb (.hostSerac p) 1).serac.session ≠ some p.other) → ((match (s.clearDb (.hostSerac p) 1).serac.pw with | none => field (s.reqBytes (.hostSerac p)) 4 1 == 0 | some x => Config.digest 1 ((x.1 ++ ((s.reqBytes (.hostSerac p)).drop 8).take (field (s.reqBytes (.hostSerac p)) 4 1)).map (·.toNat)) == x.2) = true) → (u = if (s.clearDb (.hostSerac p) 1).serac.session = some p then (s.clearDb (.hostSerac p) 1) else (s.clearDb (.hostSerac p) 1).setSerac { (s.clearDb (.hostSerac p) 1).serac with session := some p, staged := none }) → exec (.login p) s = .next ((((u.setSerac { u.serac with fails := 0 }).seracNote 0x01 p.num 0 0).seracReply p (s.chan (.hostSerac p)).seq 0x301 stDone 0 []))) ∧
  (∀ (s : State) (p : Port) (u : State) (f : Nat), (s.seracTakes p 0x301 = true) → (zeroOutside (s.reqBytes (.hostSerac p)) [(0, 4), (8, 39)] = true) → (field (s.reqBytes (.hostSerac p)) 4 1 ≤ 32) → ((s.clearDb (.hostSerac p) 1).serac.lockout = false) → ((s.clearDb (.hostSerac p) 1).serac.session ≠ some p.other) → ((match (s.clearDb (.hostSerac p) 1).serac.pw with | none => field (s.reqBytes (.hostSerac p)) 4 1 == 0 | some x => Config.digest 1 ((x.1 ++ ((s.reqBytes (.hostSerac p)).drop 8).take (field (s.reqBytes (.hostSerac p)) 4 1)).map (·.toNat)) == x.2) = false) → (f = (s.clearDb (.hostSerac p) 1).serac.fails + 1) → (u = (((s.clearDb (.hostSerac p) 1).setSerac { (s.clearDb (.hostSerac p) 1).serac with fails := f }).seracNote 0x02 p.num 0 f).seracPost 0x609 1 p.num f) → exec (.login p) s = .next ((if f < 5 then u else ((u.setSerac { u.serac with lockout := true }).seracNote 0x03 p.num 0 0).seracPost 0x609 1 p.num f).seracReply p (s.chan (.hostSerac p)).seq 0x301 stProtection 1 [])) ∧
  (∀ (s : State) (p : Port), (s.seracTakes p 0x302 = true) → (zeroOutside (s.reqBytes (.hostSerac p)) ([(0, 3)] ++ []) = true) → ((s.clearDb (.hostSerac p) 1).serac.session ≠ some p) → exec (.logout p) s = .next ((s.clearDb (.hostSerac p) 1).seracReply p (s.chan (.hostSerac p)).seq 0x302 stCapacity 3 [])) ∧
  (∀ (s : State) (p : Port), (s.seracTakes p 0x302 = true) → (zeroOutside (s.reqBytes (.hostSerac p)) ([(0, 3)] ++ []) = true) → ((s.clearDb (.hostSerac p) 1).serac.session = some p) → exec (.logout p) s = .next ((s.clearDb (.hostSerac p) 1).closeSession.seracReply p (s.chan (.hostSerac p)).seq 0x302 stDone 0 [])) ∧
  (∀ (s : State) (p : Port), (s.seracTakes p 0x304 = true) → ((spanBad (s.reqBytes (.hostSerac p)) || !zeroOutside (s.reqBytes (.hostSerac p)) ([(0, 3)] ++ [(4, 7), (16, 15 + field (s.reqBytes (.hostSerac p)) 6 2)])) = true) → exec (.configStage p) s = .next ((s.clearDb (.hostSerac p) 1).seracReply p (s.chan (.hostSerac p)).seq 0x304 stBad 0 [])) ∧
  (∀ (s : State) (p : Port), (s.seracTakes p 0x304 = true) → ((spanBad (s.reqBytes (.hostSerac p)) || !zeroOutside (s.reqBytes (.hostSerac p)) ([(0, 3)] ++ [(4, 7), (16, 15 + field (s.reqBytes (.hostSerac p)) 6 2)])) = false) → ((s.clearDb (.hostSerac p) 1).serac.session ≠ some p) → exec (.configStage p) s = .next ((s.clearDb (.hostSerac p) 1).seracReply p (s.chan (.hostSerac p)).seq 0x304 stCapacity 3 [])) ∧
  (∀ (s : State) (p : Port), (s.seracTakes p 0x305 = true) → ((false || !zeroOutside (s.reqBytes (.hostSerac p)) ([(0, 3)] ++ [])) = true) → exec (.configCommit p) s = .next ((s.clearDb (.hostSerac p) 1).seracReply p (s.chan (.hostSerac p)).seq 0x305 stBad 0 [])) ∧
  (∀ (s : State) (p : Port), (s.seracTakes p 0x305 = true) → ((false || !zeroOutside (s.reqBytes (.hostSerac p)) ([(0, 3)] ++ [])) = false) → ((s.clearDb (.hostSerac p) 1).serac.session ≠ some p) → exec (.configCommit p) s = .next ((s.clearDb (.hostSerac p) 1).seracReply p (s.chan (.hostSerac p)).seq 0x305 stCapacity 3 [])) ∧
  (∀ (s : State) (p : Port), (s.seracTakes p 0x308 = true) → ((false || !zeroOutside (s.reqBytes (.hostSerac p)) ([(0, 3)] ++ [(8, 11)])) = true) → exec (.logRelease p) s = .next ((s.clearDb (.hostSerac p) 1).seracReply p (s.chan (.hostSerac p)).seq 0x308 stBad 0 [])) ∧
  (∀ (s : State) (p : Port), (s.seracTakes p 0x308 = true) → ((false || !zeroOutside (s.reqBytes (.hostSerac p)) ([(0, 3)] ++ [(8, 11)])) = false) → ((s.clearDb (.hostSerac p) 1).serac.session ≠ some p) → exec (.logRelease p) s = .next ((s.clearDb (.hostSerac p) 1).seracReply p (s.chan (.hostSerac p)).seq 0x308 stCapacity 3 [])) ∧
  (∀ (s : State) (p : Port), (s.seracTakes p 0x309 = true) → ((false || !zeroOutside (s.reqBytes (.hostSerac p)) ([(0, 3)] ++ [])) = true) → exec (.seracRestart p) s = .next ((s.clearDb (.hostSerac p) 1).seracReply p (s.chan (.hostSerac p)).seq 0x309 stBad 0 [])) ∧
  (∀ (s : State) (p : Port), (s.seracTakes p 0x309 = true) → ((false || !zeroOutside (s.reqBytes (.hostSerac p)) ([(0, 3)] ++ [])) = false) → ((s.clearDb (.hostSerac p) 1).serac.session ≠ some p) → exec (.seracRestart p) s = .next ((s.clearDb (.hostSerac p) 1).seracReply p (s.chan (.hostSerac p)).seq 0x309 stCapacity 3 [])) ∧
  (∀ (s : State) (p : Port), (s.seracTakes p 0x303 = true) → (spanBad (s.reqBytes (.hostSerac p)) = false) → (zeroOutside (s.reqBytes (.hostSerac p)) [(0, 8)] = true) → (field (s.reqBytes (.hostSerac p)) 8 1 = 0) → exec (.configRead p) s = .next ((s.clearDb (.hostSerac p) 1).seracReply p (s.chan (.hostSerac p)).seq 0x303 stDone 0 (List.replicate 8 0 ++ ((s.clearDb (.hostSerac p) 1).serac.cfg.drop (field (s.reqBytes (.hostSerac p)) 4 2)).take (field (s.reqBytes (.hostSerac p)) 6 2)))) ∧
  (∀ (s : State) (p : Port), (s.seracTakes p 0x303 = true) → (spanBad (s.reqBytes (.hostSerac p)) = true) → exec (.configRead p) s = .next ((s.clearDb (.hostSerac p) 1).seracReply p (s.chan (.hostSerac p)).seq 0x303 stBad 0 [])) ∧
  (∀ (s : State) (p : Port), (s.seracTakes p 0x304 = true) → (spanBad (s.reqBytes (.hostSerac p)) = false) → (zeroOutside (s.reqBytes (.hostSerac p)) ([(0, 3)] ++ [(4, 7), (16, 15 + field (s.reqBytes (.hostSerac p)) 6 2)]) = true) → ((s.clearDb (.hostSerac p) 1).serac.session = some p) → ∃ l : List Byte, l = (s.clearDb (.hostSerac p) 1).serac.staged.getD (s.clearDb (.hostSerac p) 1).serac.cfg ∧ exec (.configStage p) s = .next (((s.clearDb (.hostSerac p) 1).setSerac { (s.clearDb (.hostSerac p) 1).serac with staged := some (l.take (field (s.reqBytes (.hostSerac p)) 4 2) ++ ((s.reqBytes (.hostSerac p)).drop 16).take (field (s.reqBytes (.hostSerac p)) 6 2) ++ l.drop (field (s.reqBytes (.hostSerac p)) 4 2 + field (s.reqBytes (.hostSerac p)) 6 2)) }).seracReply p (s.chan (.hostSerac p)).seq 0x304 stDone 0 [])) ∧
  (∀ (s : State) (p : Port), (s.seracTakes p 0x305 = true) → (zeroOutside (s.reqBytes (.hostSerac p)) ([(0, 3)] ++ []) = true) → ((s.clearDb (.hostSerac p) 1).serac.session = some p) → ((serSwitches (s.clearDb (.hostSerac p) 1).serac.cfg ++ serSwitches ((s.clearDb (.hostSerac p) 1).serac.staged.getD (s.clearDb (.hostSerac p) 1).serac.cfg)).any ((s.clearDb (.hostSerac p) 1).setSerac { (s.clearDb (.hostSerac p) 1).serac with staged := none }).swOn = true) → exec (.configCommit p) s = .next (((s.clearDb (.hostSerac p) 1).setSerac { (s.clearDb (.hostSerac p) 1).serac with staged := none }).seracReply p (s.chan (.hostSerac p)).seq 0x305 stCapacity 4 [])) ∧
  (∀ (s : State) (p : Port), (s.seracTakes p 0x305 = true) → (zeroOutside (s.reqBytes (.hostSerac p)) ([(0, 3)] ++ []) = true) → ((s.clearDb (.hostSerac p) 1).serac.session = some p) → ((serSwitches (s.clearDb (.hostSerac p) 1).serac.cfg ++ serSwitches ((s.clearDb (.hostSerac p) 1).serac.staged.getD (s.clearDb (.hostSerac p) 1).serac.cfg)).any ((s.clearDb (.hostSerac p) 1).setSerac { (s.clearDb (.hostSerac p) 1).serac with staged := none }).swOn = false) → ((s.clearDb (.hostSerac p) 1).serac.pw = none) → exec (.configCommit p) s = .next (((s.clearDb (.hostSerac p) 1).setSerac { (s.clearDb (.hostSerac p) 1).serac with staged := none }).seracReply p (s.chan (.hostSerac p)).seq 0x305 stCapacity 5 [])) ∧
  (∀ (s : State) (p : Port), (s.seracTakes p 0x305 = true) → (zeroOutside (s.reqBytes (.hostSerac p)) ([(0, 3)] ++ []) = true) → ((s.clearDb (.hostSerac p) 1).serac.session = some p) → ((serSwitches (s.clearDb (.hostSerac p) 1).serac.cfg ++ serSwitches ((s.clearDb (.hostSerac p) 1).serac.staged.getD (s.clearDb (.hostSerac p) 1).serac.cfg)).any ((s.clearDb (.hostSerac p) 1).setSerac { (s.clearDb (.hostSerac p) 1).serac with staged := none }).swOn = false) → ((s.clearDb (.hostSerac p) 1).serac.pw.isNone = false) → (((s.clearDb (.hostSerac p) 1).setSerac { (s.clearDb (.hostSerac p) 1).serac with staged := none }).logFull = true) → exec (.configCommit p) s = .next (((s.clearDb (.hostSerac p) 1).setSerac { (s.clearDb (.hostSerac p) 1).serac with staged := none }).seracReply p (s.chan (.hostSerac p)).seq 0x305 stCapacity 6 [])) ∧
  (∀ (s : State) (p : Port) (o : Nat), (s.seracTakes p 0x305 = true) → (zeroOutside (s.reqBytes (.hostSerac p)) ([(0, 3)] ++ []) = true) → ((s.clearDb (.hostSerac p) 1).serac.session = some p) → ((serSwitches (s.clearDb (.hostSerac p) 1).serac.cfg ++ serSwitches ((s.clearDb (.hostSerac p) 1).serac.staged.getD (s.clearDb (.hostSerac p) 1).serac.cfg)).any ((s.clearDb (.hostSerac p) 1).setSerac { (s.clearDb (.hostSerac p) 1).serac with staged := none }).swOn = false) → ((s.clearDb (.hostSerac p) 1).serac.pw.isNone = false) → (((s.clearDb (.hostSerac p) 1).setSerac { (s.clearDb (.hostSerac p) 1).serac with staged := none }).logFull = false) → (configBad ((s.clearDb (.hostSerac p) 1).serac.staged.getD (s.clearDb (.hostSerac p) 1).serac.cfg) = some o) → exec (.configCommit p) s = .next (((s.clearDb (.hostSerac p) 1).setSerac { (s.clearDb (.hostSerac p) 1).serac with staged := none }).seracReply p (s.chan (.hostSerac p)).seq 0x305 stImage 0 (leBytes 2 o))) ∧
  (∀ (s a b e : State) (p : Port) (c : List Byte), (s.seracTakes p 0x305 = true) → (zeroOutside (s.reqBytes (.hostSerac p)) ([(0, 3)] ++ []) = true) → ((s.clearDb (.hostSerac p) 1).serac.session = some p) → (c = (s.clearDb (.hostSerac p) 1).serac.staged.getD (s.clearDb (.hostSerac p) 1).serac.cfg) → ((serSwitches (s.clearDb (.hostSerac p) 1).serac.cfg ++ serSwitches c).any ((s.clearDb (.hostSerac p) 1).setSerac { (s.clearDb (.hostSerac p) 1).serac with staged := none }).swOn = false) → ((s.clearDb (.hostSerac p) 1).serac.pw.isNone = false) → (((s.clearDb (.hostSerac p) 1).setSerac { (s.clearDb (.hostSerac p) 1).serac with staged := none }).logFull = false) → (configBad c = none) → (a = ((s.clearDb (.hostSerac p) 1).setSerac { (s.clearDb (.hostSerac p) 1).serac with staged := none }).seracChange p 0x04 (b2n (decide (field c 8 32 ≠ (s.clearDb (.hostSerac p) 1).serac.img))) (s.clearDb (.hostSerac p) 1).serac.cfg c) → (b = if field c 8 32 ≠ (s.clearDb (.hostSerac p) 1).serac.img then a.setSerac { a.serac with pend := some c } else a.setSerac { a.serac with cfg := c }) → (e = ((b.seracReply p (s.chan (.hostSerac p)).seq 0x305 stDone 0 (leBytes 4 b.serac.lseq ++ leBytes 4 (configHash c) ++ [BitVec.ofNat 8 (b2n (decide (field c 8 32 ≠ (s.clearDb (.hostSerac p) 1).serac.img)))])).seracPost 0x608 1 0 (field c 4 4 % 65536)).closeSession) → exec (.configCommit p) s = .next (if field c 8 32 ≠ (s.clearDb (.hostSerac p) 1).serac.img then e else e.seracMismatch.seracOff)) ∧
  (∀ (s : State) (p : Port), (s.seracTakes p 0x306 = true) → (8 ≤ field (s.reqBytes (.hostSerac p)) 4 1) → (field (s.reqBytes (.hostSerac p)) 4 1 ≤ 32) → (zeroOutside (s.reqBytes (.hostSerac p)) ([(0, 3)] ++ [(4, 4), (8, 39)]) = true) → ((s.clearDb (.hostSerac p) 1).serac.session = some p) → ((s.clearDb (.hostSerac p) 1).logFull = true) → exec (.passwordSet p) s = .next ((s.clearDb (.hostSerac p) 1).seracReply p (s.chan (.hostSerac p)).seq 0x306 stCapacity 6 [])) ∧
  (∀ (s : State) (p : Port), (s.seracTakes p 0x306 = true) → (8 ≤ field (s.reqBytes (.hostSerac p)) 4 1) → (field (s.reqBytes (.hostSerac p)) 4 1 ≤ 32) → (zeroOutside (s.reqBytes (.hostSerac p)) ([(0, 3)] ++ [(4, 4), (8, 39)]) = true) → ((s.clearDb (.hostSerac p) 1).serac.session = some p) → ((s.clearDb (.hostSerac p) 1).logFull = false) → ∃ (w h : Nat) (u v : State), (w, u) = (s.clearDb (.hostSerac p) 1).drawBelow (2 ^ 128) ∧ h = Config.digest 1 ((leBytes 16 w ++ ((s.reqBytes (.hostSerac p)).drop 8).take (field (s.reqBytes (.hostSerac p)) 4 1)).map (·.toNat)) ∧ v = (u.setSerac { u.serac with pw := some (leBytes 16 w, h) }).seracChange p 0x06 0 u.serac.cfg u.serac.cfg ∧ exec (.passwordSet p) s = .next (v.seracReply p (s.chan (.hostSerac p)).seq 0x306 stDone 0 (leBytes 4 v.serac.lseq))) ∧
  (∀ (s : State) (p : Port) (l : List (List Byte)), (s.seracTakes p 0x307 = true) → (zeroOutside (s.reqBytes (.hostSerac p)) [(0, 3), (8, 11)] = true) → (l = (s.clearDb (.hostSerac p) 1).serac.log.filter fun e => decide (field (s.reqBytes (.hostSerac p)) 8 4 ≤ field e 0 4)) → exec (.logRead p) s = .next ((s.clearDb (.hostSerac p) 1).seracReply p (s.chan (.hostSerac p)).seq 0x307 stDone 0 ([BitVec.ofNat 8 (min 7 l.length), 0, 0, 0] ++ leBytes 4 (match l.drop 7 with | [] => 0 | e :: _ => field e 0 4) ++ (l.take 7).flatten))) ∧
  (∀ (s : State) (p : Port), (s.seracTakes p 0x308 = true) → (zeroOutside (s.reqBytes (.hostSerac p)) ([(0, 3)] ++ [(8, 11)]) = true) → ((s.clearDb (.hostSerac p) 1).serac.session = some p) → ((s.clearDb (.hostSerac p) 1).logFull = true) → exec (.logRelease p) s = .next ((s.clearDb (.hostSerac p) 1).seracReply p (s.chan (.hostSerac p)).seq 0x308 stCapacity 6 [])) ∧
  (∀ (s : State) (p : Port), (s.seracTakes p 0x308 = true) → (zeroOutside (s.reqBytes (.hostSerac p)) ([(0, 3)] ++ [(8, 11)]) = true) → ((s.clearDb (.hostSerac p) 1).serac.session = some p) → ((s.clearDb (.hostSerac p) 1).logFull = false) → ∃ u v : State, u = (s.clearDb (.hostSerac p) 1).setSerac { (s.clearDb (.hostSerac p) 1).serac with log := (s.clearDb (.hostSerac p) 1).serac.log.filter (fun e => decide (field (s.reqBytes (.hostSerac p)) 8 4 < field e 0 4)), fullPosted := false } ∧ v = u.seracChange p 0x07 (field (s.reqBytes (.hostSerac p)) 8 4) u.serac.cfg u.serac.cfg ∧ exec (.logRelease p) s = .next (v.seracReply p (s.chan (.hostSerac p)).seq 0x308 stDone 0 (leBytes 4 v.serac.lseq))) ∧
  (∀ (s : State) (p : Port), (s.seracTakes p 0x309 = true) → (zeroOutside (s.reqBytes (.hostSerac p)) ([(0, 3)] ++ []) = true) → ((s.clearDb (.hostSerac p) 1).serac.session = some p) → ((s.clearDb (.hostSerac p) 1).serac.st = 5) → ((s.clearDb (.hostSerac p) 1).serac.stuck = true) → exec (.seracRestart p) s = .next ((s.clearDb (.hostSerac p) 1).seracReply p (s.chan (.hostSerac p)).seq 0x309 stCapacity 7 [])) ∧
  (∀ (s : State) (p : Port), (s.seracTakes p 0x309 = true) → (zeroOutside (s.reqBytes (.hostSerac p)) ([(0, 3)] ++ []) = true) → ((s.clearDb (.hostSerac p) 1).serac.session = some p) → ((s.clearDb (.hostSerac p) 1).serac.st ≠ 5 ∨ (s.clearDb (.hostSerac p) 1).serac.stuck = false) → exec (.seracRestart p) s = .next ((((s.clearDb (.hostSerac p) 1).seracNote 0x08 p.num 0 (s.clearDb (.hostSerac p) 1).serac.st).seracReply p (s.chan (.hostSerac p)).seq 0x309 stDone 0 []).seracOff))

/-- The power line: crossings, superframes, slots, answers and faults -/
def Obligations.KyotiLine : Prop :=
  (∀ (s : State) (t : Nat), ((!s.variant.hasKyoti || !s.dieRuns .ddie) = true) → exec (.kyZeroCrossing t) s = .next s) ∧
  (∀ (s : State) (t : Nat), (s.variant.hasKyoti = true) → (s.dieRuns .ddie = true) → (s.ky.zc = none) → exec (.kyZeroCrossing t) s = .next ((s.put Fld.KY_STATUS__ZC 0 1).setKy { s.ky with zc := some t })) ∧
  (∀ (s : State) (t z : Nat), (s.variant.hasKyoti = true) → (s.dieRuns .ddie = true) → (s.ky.zc = some z) → ((t - z) * 10 < (s.put Fld.KY_STATUS__ZC 0 1).kyT * 8) → exec (.kyZeroCrossing t) s = .next (s.put Fld.KY_STATUS__ZC 0 1)) ∧
  (∀ (s u : State) (t z : Nat), (s.variant.hasKyoti = true) → (s.dieRuns .ddie = true) → (s.ky.zc = some z) → (u = s.put Fld.KY_STATUS__ZC 0 1) → (u.kyT * 8 ≤ (t - z) * 10) → (2 * (t - z) ≤ 3 * u.kyT) → (u.flag Fld.KY_STATUS__ZC_LOST 0 = false) → exec (.kyZeroCrossing t) s = .next (u.setKy { s.ky with zc := some t, ivals := ((t - z) :: s.ky.ivals).take 4 }).kyUnit) ∧
  (∀ (s u : State) (t z : Nat), (s.variant.hasKyoti = true) → (s.dieRuns .ddie = true) → (s.ky.zc = some z) → (u = s.put Fld.KY_STATUS__ZC 0 1) → (u.kyT * 8 ≤ (t - z) * 10) → (3 * u.kyT < 2 * (t - z)) → (u.flag Fld.KY_STATUS__ZC_LOST 0 = false) → exec (.kyZeroCrossing t) s = .next (u.setKy { s.ky with zc := some t }).kyUnit) ∧
  (∀ (s u : State) (t z : Nat), (s.variant.hasKyoti = true) → (s.dieRuns .ddie = true) → (s.ky.zc = some z) → (u = s.put Fld.KY_STATUS__ZC 0 1) → (u.kyT * 8 ≤ (t - z) * 10) → (2 * (t - z) ≤ 3 * u.kyT) → (u.flag Fld.KY_STATUS__ZC_LOST 0 = true) → exec (.kyZeroCrossing t) s = .next (if s.ky.regular + 1 < 3 then u.setKy { s.ky with zc := some t, ivals := ((t - z) :: s.ky.ivals).take 4, regular := s.ky.regular + 1 } else ((u.setKy { s.ky with zc := some t, ivals := ((t - z) :: s.ky.ivals).take 4, regular := s.ky.regular + 1 }).put Fld.KY_STATUS__ZC_LOST 0 0).kyUnit)) ∧
  (∀ (s : State), (s.variant.hasKyoti = false) → exec .zcLost s = .next (s)) ∧
  (∀ (s u : State), (s.variant.hasKyoti = true) → (s.flag Fld.KY_STATUS__ZC_LOST 0 = false) → (u = (s.put Fld.KY_STATUS__ZC_LOST 0 1).put Fld.KY_ERR__ZC_LOST 0 1) → exec .zcLost s = .next ((u.setKy { u.ky with regular := 0 }).postBoth { code := 0xA09, sev := 1 }).kyUnit) ∧
  (∀ (s : State), (s.variant.hasKyoti = true) → (s.flag Fld.KY_STATUS__ZC_LOST 0 = true) → exec .zcLost s = .next (s.kyUnit)) ∧
  (∀ (s u : State) (e : Nat), (s.kyState = 1) → (e = s.devTime / 1000000 % 256) → (u = ((s.put Fld.KY_STATUS__STATE 0 2).put Fld.KY_STATUS__EPOCH 0 (if e = 0 then 1 else e)).setReg .KY_SF 0 0) → exec .cellStart s = .next (u.setKy { s.ky with unit := 0, roundAt := 0, relayAt := [] })) ∧
  (∀ (s : State), (s.kyState ≠ 1) → exec .cellStart s = .next s) ∧
  (∀ (s : State), ((!s.kyRuns || s.ky.fault || decide (s.ky.unit ≠ 0) || !s.kyFitsNow ((s.ky.layout.takeWhile (· == 0)).length) 120) = true) → exec .beaconTransmit s = .next s) ∧
  (∀ (s : State), (s.kyRuns = true) → (s.ky.fault = false) → (s.ky.unit = 0) → (s.kyFitsNow ((s.ky.layout.takeWhile (· == 0)).length) 120 = true) → exec .beaconTransmit s = .next (s.kySendFrame 1 [s.ky.layoutId % 16, s.cfg.ky.device % 256, s.cfg.ky.device / 256 % 64 + 64 * b2n (s.flag Fld.KY_STATUS__JOIN_OPEN 0), s.kySf % 256, s.get Fld.KY_STATUS__EPOCH 0, 0, 0, 0])) ∧
  (∀ (s : State), ((!s.kyRuns || s.ky.fault || decide ((sfUnits s.ky.layout s.cfg.ky.cycle2 (s.kySf % 2 == 1)).getD s.ky.unit 5 ≠ 1)) = true) → exec .polledSlot s = .next s) ∧
  (∀ (s : State), (s.kyRuns = true) → (s.ky.fault = false) → ((sfUnits s.ky.layout s.cfg.ky.cycle2 (s.kySf % 2 == 1)).getD s.ky.unit 5 = 1) → (s.ky.hold ≠ 0) → exec .polledSlot s = .next (s.setKy { s.ky with hold := s.ky.hold - 1 })) ∧
  (∀ (s : State) (t : KyTx), (s.kyRuns = true) → (s.ky.fault = false) → ((sfUnits s.ky.layout s.cfg.ky.cycle2 (s.kySf % 2 == 1)).getD s.ky.unit 5 = 1) → (s.ky.hold = 0) → (s.ky.tx = some t) → exec .polledSlot s = .next (if t.due then s.kySendTx t else s.setKy { s.ky with tx := some { t with slots := t.slots - 1 } })) ∧
  (∀ (s : State) (q : Nat), (s.kyRuns = true) → (s.ky.fault = false) → ((sfUnits s.ky.layout s.cfg.ky.cycle2 (s.kySf % 2 == 1)).getD s.ky.unit 5 = 1) → (s.ky.hold = 0) → (s.ky.tx = none) → ((s.kyMembers.filter fun q => decide (0 < s.kyThrough q)).find? (fun q => decide (tabGet 0 s.ky.relayAt q + s.cfg.ky.relayInterval ≤ s.kySf)) = some q) → exec .polledSlot s = .next (s.setKy { s.ky with relayAt := tabSet s.ky.relayAt q s.kySf })) ∧
  (∀ (s : State), (s.kyRuns = true) → (s.ky.fault = false) → ((sfUnits s.ky.layout s.cfg.ky.cycle2 (s.kySf % 2 == 1)).getD s.ky.unit 5 = 1) → (s.ky.hold = 0) → (s.ky.tx = none) → ((s.kyMembers.filter fun q => decide (0 < s.kyThrough q)).find? (fun q => decide (tabGet 0 s.ky.relayAt q + s.cfg.ky.relayInterval ≤ s.kySf)) = none) → (s.ky.queue = []) → exec .polledSlot s = .next s.kyRoutine) ∧
  (∀ (s : State) (m : KyMsg) (r : List KyMsg), (s.kyRuns = true) → (s.ky.fault = false) → ((sfUnits s.ky.layout s.cfg.ky.cycle2 (s.kySf % 2 == 1)).getD s.ky.unit 5 = 1) → (s.ky.hold = 0) → (s.ky.tx = none) → ((s.kyMembers.filter fun q => decide (0 < s.kyThrough q)).find? (fun q => decide (tabGet 0 s.ky.relayAt q + s.cfg.ky.relayInterval ≤ s.kySf)) = none) → (s.ky.queue = m :: r) → (m.route.isEmpty = false) → exec .polledSlot s = .next (s.kyLeaveFrame m)) ∧
  (∀ (s : State) (m : KyMsg) (r : List KyMsg), (s.kyRuns = true) → (s.ky.fault = false) → ((sfUnits s.ky.layout s.cfg.ky.cycle2 (s.kySf % 2 == 1)).getD s.ky.unit 5 = 1) → (s.ky.hold = 0) → (s.ky.tx = none) → ((s.kyMembers.filter fun q => decide (0 < s.kyThrough q)).find? (fun q => decide (tabGet 0 s.ky.relayAt q + s.cfg.ky.relayInterval ≤ s.kySf)) = none) → (s.ky.queue = m :: r) → (m.route.isEmpty = true) → (m.dst ≠ kyBroadcast) → ((s.kyNode m.dst).st ≠ 1) → ((s.kyNode m.dst).st ≠ 2) → exec .polledSlot s = .next ((s.setKy { s.ky with queue := r }).kyOutcome m stCapacity (if (s.kyNode m.dst).st = 3 then 2 else 1))) ∧
  (∀ (s : State) (m : KyMsg) (r : List KyMsg), (s.kyRuns = true) → (s.ky.fault = false) → ((sfUnits s.ky.layout s.cfg.ky.cycle2 (s.kySf % 2 == 1)).getD s.ky.unit 5 = 1) → (s.ky.hold = 0) → (s.ky.tx = none) → ((s.kyMembers.filter fun q => decide (0 < s.kyThrough q)).find? (fun q => decide (tabGet 0 s.ky.relayAt q + s.cfg.ky.relayInterval ≤ s.kySf)) = none) → (s.ky.queue = m :: r) → (m.route.isEmpty = true) → (m.dst = kyBroadcast ∨ (s.kyNode m.dst).st = 1 ∨ (s.kyNode m.dst).st = 2) → exec .polledSlot s = .next (s.kyServe m)) ∧
  (∀ (s : State) (rx : List Byte), (s.kyRuns = false) → exec (.up rx) s = .next (s)) ∧
  (∀ (s : State) (rx : List Byte) (n : Nat), (s.kyRuns = true) → (kyRead s.cfg.ky.interleave rx = .failed n) → exec (.up rx) s = .next (s.kyDiscard n false)) ∧
  (∀ (s : State) (rx : List Byte) (e : Nat), (s.kyRuns = true) → (kyRead s.cfg.ky.interleave rx = .dropped e) → exec (.up rx) s = .next (s.kyDrop)) ∧
  (∀ (s : State) (rx : List Byte) (f : KyFrame) (e : Nat), (s.kyRuns = true) → (kyRead s.cfg.ky.interleave rx = .frame f e) → (f.ok s.cfg.ky.device 3 = false ∨ f.next ≠ 0) → exec (.up rx) s = .next (s.kyDrop)) ∧
  (∀ (s : State) (rx : List Byte), (s.kyRuns = false) → exec (.idle rx) s = .next (s)) ∧
  (∀ (s : State) (rx : List Byte) (n : Nat), (s.kyRuns = true) → (kyRead s.cfg.ky.interleave rx = .failed n) → exec (.idle rx) s = .next (s.kyDiscard n false)) ∧
  (∀ (s : State) (rx : List Byte) (e : Nat), (s.kyRuns = true) → (kyRead s.cfg.ky.interleave rx = .dropped e) → exec (.idle rx) s = .next (s.kyDrop)) ∧
  (∀ (s : State) (rx : List Byte) (f : KyFrame) (e : Nat), (s.kyRuns = true) → (kyRead s.cfg.ky.interleave rx = .frame f e) → (f.ok s.cfg.ky.device 4 = false ∨ f.next ≠ 0) → exec (.idle rx) s = .next (s.kyDrop)) ∧
  (∀ (s : State) (rx : List Byte), (s.kyRuns = false) → exec (.contention rx) s = .next (s)) ∧
  (∀ (s : State) (rx : List Byte) (n : Nat), (s.kyRuns = true) → (kyRead s.cfg.ky.interleave rx = .failed n) → exec (.contention rx) s = .next (s.kyDiscard n true)) ∧
  (∀ (s : State) (rx : List Byte) (e : Nat), (s.kyRuns = true) → (kyRead s.cfg.ky.interleave rx = .dropped e) → exec (.contention rx) s = .next (s.kyDrop)) ∧
  (∀ (s : State) (rx : List Byte) (f : KyFrame) (e : Nat), (s.kyRuns = true) → (kyRead s.cfg.ky.interleave rx = .frame f e) → (f.ok s.cfg.ky.device 5 = false ∨ f.next ≠ 0) → exec (.contention rx) s = .next (s.kyDrop)) ∧
  (∀ (s : State) (rx : List Byte) (f : KyFrame) (e : Nat) (t : KyTx) (u v : State), (s.kyRuns = true) → (kyRead s.cfg.ky.interleave rx = .frame f e) → (f.ok s.cfg.ky.device 3 = true) → (f.next = 0) → (u = s.kyReceived e) → (u.ky.tx = some t) → (u.kyAnswers f t = true) → (v = u.setNode f.src { u.kyNode f.src with part := (kyJoinSeg (u.kyNode f.src).part f).1 }) → exec (.up rx) s = .next ((v.kyAnswered t true).kyArrived f.src f.src (kyJoinSeg (u.kyNode f.src).part f).2)) ∧
  (∀ (s : State) (rx : List Byte) (f : KyFrame) (e : Nat) (u : State), (s.kyRuns = true) → (kyRead s.cfg.ky.interleave rx = .frame f e) → (f.ok s.cfg.ky.device 3 = true) → (f.next = 0) → (u = s.kyReceived e) → (∀ t, u.ky.tx = some t → u.kyAnswers f t = false) → exec (.up rx) s = .next u) ∧
  (∀ (s : State) (rx : List Byte) (f : KyFrame) (e : Nat) (t : KyTx) (u : State), (s.kyRuns = true) → (kyRead s.cfg.ky.interleave rx = .frame f e) → (f.ok s.cfg.ky.device 4 = true) → (f.next = 0) → (u = s.kyReceived e) → (u.ky.tx = some t) → (u.kyAnswers f t = true) → exec (.idle rx) s = .next (u.kyAnswered t false)) ∧
  (∀ (s : State) (rx : List Byte) (f : KyFrame) (e : Nat) (u : State), (s.kyRuns = true) → (kyRead s.cfg.ky.interleave rx = .frame f e) → (f.ok s.cfg.ky.device 4 = true) → (f.next = 0) → (u = s.kyReceived e) → (∀ t, u.ky.tx = some t → u.kyAnswers f t = false) → exec (.idle rx) s = .next u) ∧
  (∀ (s : State) (rx : List Byte) (f : KyFrame) (e : Nat) (u v w : State), (s.kyRuns = true) → (kyRead s.cfg.ky.interleave rx = .frame f e) → (f.ok s.cfg.ky.device 5 = true) → (f.next = 0) → (u = s.kyReceived e) → (v = u.setKy { u.ky with parts := match (kyJoinSeg (tabFind u.ky.parts (f.src, f.last)) f).1 with | some x => tabSet u.ky.parts (f.src, f.last) x | none => tabErase u.ky.parts (f.src, f.last) }) → (w = if (v.kyNode f.src).st = 2 then v.setNode f.src { v.kyNode f.src with ack := true } else v) → exec (.contention rx) s = .next (w.kyArrived f.src 0 (kyJoinSeg (tabFind u.ky.parts (f.src, f.last)) f).2)) ∧
  (∀ (s : State) (rx : List Byte) (b : Bool), (s.kyRuns = false) → exec (.kyotiFrameDiscarded rx b) s = .next (s)) ∧
  (∀ (s : State) (rx : List Byte) (b : Bool) (n : Nat), (s.kyRuns = true) → (kyRead s.cfg.ky.interleave rx = .failed n) → exec (.kyotiFrameDiscarded rx b) s = .next (s.kyDiscard n b)) ∧
  (∀ (s : State) (rx : List Byte) (b : Bool) (e : Nat), (s.kyRuns = true) → (kyRead s.cfg.ky.interleave rx = .dropped e) → exec (.kyotiFrameDiscarded rx b) s = .next (s.kyDrop)) ∧
  (∀ (s : State) (rx : List Byte) (f : KyFrame) (e : Nat) (b : Bool), (s.kyRuns = true) → (kyRead s.cfg.ky.interleave rx = .frame f e) → exec (.kyotiFrameDiscarded rx b) s = .next (if f.cell = s.cfg.ky.device then s else s.kyDrop)) ∧
  (∀ (s u : State) (n : Nat), (n ≠ 0) → (u = (s.bump Fld.KY_RS_FAILED__VALUE 0 n).setPower { s.power with kyFrame := false }) → (s.kyDiscard n true = u.bump Fld.KY_COLLISIONS__VALUE 0 1 ∧ s.kyDiscard n false = u)) ∧
  (∀ (s : State) (n : Nat) (t : KyTx), (s.ky.tx = some t) → (t.node = n) → (t.due = false) → exec (.transactionTimeout n) s = .next ((s.kyHeard (t.route.headD n) false).kyAgain t)) ∧
  (∀ (s : State) (n : Nat), (∀ t, s.ky.tx = some t → (t.node = n ∧ t.due = false) → False) → exec (.transactionTimeout n) s = .next s) ∧
  (∀ (s : State) (t : KyTx), (t.second = false) → (t.attempts ≤ s.cfg.ky.retries) → s.kyAgain t = s.setKy { s.ky with tx := some { t with attempts := t.attempts + 1, due := true, slots := 0 } }) ∧
  (∀ (s : State) (t : KyTx) (x : Nat) (r : List Nat), (t.second = false) → (s.cfg.ky.retries < t.attempts) → (s.kySecond t.node t.route = some (x, r)) → s.kyAgain t = s.setKy { s.ky with tx := some { t with attempts := t.attempts + 1, due := true, slots := 0, second := true, route := r } }) ∧
  (∀ (s : State) (t : KyTx), (t.second = true ∨ (s.cfg.ky.retries < t.attempts ∧ s.kySecond t.node t.route = none)) → s.kyAgain t = s.kyFailed t) ∧
  (∀ (s : State) (why : Nat), (s.variant.hasKyoti = false) → exec (.lineFault why) s = .next (s)) ∧
  (∀ (s u : State) (why : Nat), (s.variant.hasKyoti = true) → (u = ((s.put Fld.KY_ERR__LINE_FAULT 0 1).postBoth { code := 0xA0A, sev := 2, data := why }).setKy { s.ky with fault := true }) → exec (.lineFault why) s = .next (match s.ky.tx with | some t => if t.due then u else u.kyAgain t | none => u)) ∧
  (∀ (s : State), exec .lineFaultRecovery s = .next (s.setKy { s.ky with fault := false }))

/-- Messages of nodes, joining, leaving and federation -/
def Obligations.KyotiMessages : Prop :=
  (∀ (s : State) (n : Nat), (s.ky.inbox.find? (fun m => m.src == n && m.mtype == 0) = none) → exec (.hostData n) s = .next (s)) ∧
  (∀ (s u : State) (n : Nat) (m : KyIn), (s.ky.inbox.find? (fun m => m.src == n && m.mtype == 0) = some m) → (u = s.setKy { s.ky with inbox := s.ky.inbox.erase m }) → exec (.hostData n) s = .next (u.kyOpen m u.cfg.ky.secure fun b s => s.kyInbound s.cfg.ky.device n b)) ∧
  (∀ (s : State) (n : Nat), (s.ky.inbox.find? (fun m => m.src == n && m.mtype == 9) = none) → exec (.alert n) s = .next (s)) ∧
  (∀ (s u : State) (n : Nat) (m : KyIn), (s.ky.inbox.find? (fun m => m.src == n && m.mtype == 9) = some m) → (u = s.setKy { s.ky with inbox := s.ky.inbox.erase m }) → exec (.alert n) s = .next (u.kyOpen m u.cfg.ky.secure fun b s => s.kyInbound s.cfg.ky.device n b)) ∧
  (∀ (s : State) (n : Nat), (s.ky.inbox.find? (fun m => m.src == n && m.mtype == 1) = none) → exec (.command n) s = .next (s)) ∧
  (∀ (s u : State) (n : Nat) (m : KyIn), (s.ky.inbox.find? (fun m => m.src == n && m.mtype == 1) = some m) → (u = s.setKy { s.ky with inbox := s.ky.inbox.erase m }) → exec (.command n) s = .next (u.kyOpen m true fun b s => (s.wakeSource 9).kyCommand n b)) ∧
  (∀ (s : State) (n : Nat), (s.ky.inbox.find? (fun m => m.src == n && m.mtype == 6) = none) → exec (.leave n) s = .next (s)) ∧
  (∀ (s u : State) (n : Nat) (m : KyIn), (s.ky.inbox.find? (fun m => m.src == n && m.mtype == 6) = some m) → (u = s.setKy { s.ky with inbox := s.ky.inbox.erase m }) → exec (.leave n) s = .next (u.kyOpen m u.cfg.ky.secure fun _ s => if (s.kyNode n).st = 0 then s else (s.kyFree n).postBoth { code := 0xA02, sev := 0, obj := n })) ∧
  (∀ (s : State) (n : Nat) (theta : Option Nat), (s.ky.inbox.find? (fun m => m.src == n && m.mtype == 3) = none) → exec (.routeReport n theta) s = .next (s)) ∧
  (∀ (s : State) (m : KyIn) (must : Bool) (k : List Byte → State → State), (m.secured = true) → (s.cellKey s.cfg.ky.keySlot = false) → s.kyOpen m must k = (s.put Fld.KY_ERR__AUTH_FAIL 0 1).postBoth { code := 0xA08, sev := 1, obj := m.src }) ∧
  (∀ (s u : State) (m : KyIn) (must : Bool) (k : List Byte → State → State) (n : Nat), (m.secured = true) → (s.cellKey s.cfg.ky.keySlot = true) → ((s.kyNode m.src).fcIn = some n) → (field m.bytes 0 4 ≤ n) → (u = s.useNodeKey s.cfg.ky.keySlot (some (s.kyNode m.src).uid)) → s.kyOpen m must k = (u.put Fld.KY_ERR__AUTH_FAIL 0 1).postBoth { code := 0xA08, sev := 1, obj := m.src }) ∧
  (∀ (s u : State) (m : KyIn) (must : Bool) (k : List Byte → State → State), (m.secured = true) → (s.cellKey s.cfg.ky.keySlot = true) → ((s.kyNode m.src).fcIn = none ∨ ∃ n, (s.kyNode m.src).fcIn = some n ∧ n < field m.bytes 0 4) → (u = s.useNodeKey s.cfg.ky.keySlot (some (s.kyNode m.src).uid)) → (kyUnseal (u.kyKey (some (s.kyNode m.src).uid)) u.cfg.ky.device m.src 0 m.mtype m.bytes = none) → s.kyOpen m must k = (u.put Fld.KY_ERR__AUTH_FAIL 0 1).postBoth { code := 0xA08, sev := 1, obj := m.src }) ∧
  (∀ (s u : State) (m : KyIn) (must : Bool) (b : List Byte) (k : List Byte → State → State), (m.secured = true) → (s.cellKey s.cfg.ky.keySlot = true) → ((s.kyNode m.src).fcIn = none ∨ ∃ n, (s.kyNode m.src).fcIn = some n ∧ n < field m.bytes 0 4) → (u = s.useNodeKey s.cfg.ky.keySlot (some (s.kyNode m.src).uid)) → (kyUnseal (u.kyKey (some (s.kyNode m.src).uid)) u.cfg.ky.device m.src 0 m.mtype m.bytes = some b) → s.kyOpen m must k = k b (u.setNode m.src { s.kyNode m.src with fcIn := some (field m.bytes 0 4) })) ∧
  (∀ (s : State) (m : KyIn) (k : List Byte → State → State), (m.secured = false) → (s.kyOpen m true k = s.bump Fld.KY_RX_DROPPED__VALUE 0 1 ∧ s.kyOpen m false k = k m.bytes s)) ∧
  (∀ (s u v : State) (dev n : Nat) (b : List Byte), (u = s.wakeSource 9) → (u.ky.inq.length < 256) → (v = u.setKy { u.ky with inq := u.ky.inq ++ [(dev, n, u.devTime, b)] }) → s.kyInbound dev n b = v.postTo v.cfg.ky.host { code := 0xA06, sev := 0, data := v.ky.inq.length }) ∧
  (∀ (s u : State) (dev n : Nat) (b : List Byte), (u = s.wakeSource 9) → (256 ≤ u.ky.inq.length) → s.kyInbound dev n b = (u.bump Fld.KY_RX_DROPPED__VALUE 0 1).put Fld.KY_ERR__QUEUE_FULL 0 1) ∧
  (∀ (s : State) (n : Nat) (b : List Byte), (s.cfg.ky.perms.contains (n, field b 0 1, field b 2 2) = false) → s.kyCommand n b = s.kyAnswer n (s.kyOwner (field b 0 1) (field b 2 2)) stProtection 0) ∧
  (∀ (s : State) (n obj : Nat) (b : List Byte), (field b 0 1 = 3) → (field b 1 1 = 0) → (field b 2 2 = obj) → (s.cfg.ky.perms.contains (n, 3, obj) = true) → (obj < 256) → (s.firnOff (s.pcfg obj).die = none) → s.kyCommand n b = s.pushOrder { src := 7, act := .stop obj, t := some { port := s.kyOwner 3 obj, sq := 0, cmdId := 0, irqNow := false, epoch := 0, node := some n } }) ∧
  (∀ (s u v : State) (n : Nat) (m : KyIn) (th : Option Nat) (w : State), (s.ky.inbox.find? (fun m => m.src == n && m.mtype == 3) = some m) → (m.secured = false) → (s.cfg.ky.secure = false) → (u = s.setKy { s.ky with inbox := s.ky.inbox.erase m }) → (v = u.setKy { u.ky with ratio := (reportItems 16 m.bytes).foldl (fun t x => tabSet t (x.1, n) x.2) u.ky.ratio }) → (w = match th with | some t => v.kyTheta n t | none => v) → exec (.routeReport n th) s = .next ((if (v.kyNode n).phase = (w.kyNode n).phase then w else (w.kyRouteSets [n]).postBoth { code := 0xA04, sev := 1, obj := n, data := (v.kyNode n).phase + (w.kyNode n).phase * 16 }).kyReroute)) ∧
  (∀ (s : State) (n : Nat), (s.variant.hasKyoti = false) → exec (.joinRequest n) s = .next (s)) ∧
  (∀ (s : State) (n : Nat), (s.variant.hasKyoti = true) → (s.ky.inbox.find? (fun m => m.src == n && m.mtype == 4) = none) → exec (.joinRequest n) s = .next (s)) ∧
  (∀ (s u : State) (n : Nat) (m : KyIn), (s.variant.hasKyoti = true) → (s.ky.inbox.find? (fun m => m.src == n && m.mtype == 4) = some m) → (u = (s.setKy { s.ky with inbox := s.ky.inbox.erase m }).wakeSource 9) → (u.cellKey u.cfg.ky.keySlot = false ∨ (m.bytes.drop 18).take 8 ≠ u.joinMac m.bytes) → exec (.joinRequest n) s = .next (u.postBoth { code := 0xA0B, sev := 1, obj := field m.bytes 0 8 % 65536, data := 3 })) ∧
  (∀ (s u : State) (n : Nat) (m : KyIn), (s.variant.hasKyoti = true) → (s.ky.inbox.find? (fun m => m.src == n && m.mtype == 4) = some m) → (u = (s.setKy { s.ky with inbox := s.ky.inbox.erase m }).wakeSource 9) → (u.cellKey u.cfg.ky.keySlot = true) → ((m.bytes.drop 18).take 8 = u.joinMac m.bytes) → (u.cfg.ky.nodes.isEmpty = false) → (tabFind u.cfg.ky.nodes (field m.bytes 0 8) = none) → exec (.joinRequest n) s = .next (u.postBoth { code := 0xA0B, sev := 1, obj := field m.bytes 0 8 % 65536, data := 1 })) ∧
  (∀ (s u v : State) (n a : Nat) (m : KyIn) (r : List Nat) (x : KyNode) (b : List Byte), (s.variant.hasKyoti = true) → (s.ky.inbox.find? (fun m => m.src == n && m.mtype == 4) = some m) → (u = (s.setKy { s.ky with inbox := s.ky.inbox.erase m }).wakeSource 9) → (u.cellKey u.cfg.ky.keySlot = true) → (b = m.bytes) → ((b.drop 18).take 8 = u.joinMac b) → (u.cfg.ky.nodes.isEmpty = true ∨ (tabFind u.cfg.ky.nodes (field b 0 8)).isSome = true) → (u.kyAddress (field b 0 8) (field b 8 2) = some a) → (r = if m.via = 0 then [a] else (u.kyNode m.via).route ++ [a]) → (x = { uid := field b 0 8, st := 1, hops := r.length, routeCap := bitAt (field b 10 1) 0, cap := field b 10 1 / 16, route := r, cost := field b 12 2, fcIn := (u.kyNode a).fcIn, fcOut := (u.kyNode a).fcOut, okN := (u.kyNode a).okN, failN := (u.kyNode a).failN, seq := (u.kyNode a).seq, heard := (u.kyNode a).heard }) → (v = ((u.setNode a x).kyTheta a (field b 11 1)).kyCount) → exec (.joinRequest n) s = .next (v.setKy { v.ky with queue := v.ky.queue ++ [{ dst := a, mtype := 5, secured := true, bytes := leBytes 8 (field b 0 8) ++ leBytes 2 a ++ (b.drop 14).take 4 ++ [BitVec.ofNat 8 (v.kyNode a).phase, BitVec.ofNat 8 r.length] ++ leBytes 2 (routeParent r) ++ leBytes 4 ((x.fcIn.getD 0) + 1) ++ [BitVec.ofNat 8 v.ky.layoutId] ++ v.kyLayoutBytes }] })) ∧
  (∀ (s : State) (n : Nat), exec (.lostAddressExpiry n) s = .next (if (s.kyNode n).st = 3 then s.kyFree n else s)) ∧
  (∀ (s : State), exec .joinWindowExpiry s = .next (s.put Fld.KY_STATUS__JOIN_OPEN 0 0)) ∧
  (∀ (s : State) (b : List Byte), (s.variant.hasKyoti = false) → exec (.federationFrame b) s = .next (s)) ∧
  (∀ (s : State) (b : List Byte), (s.variant.hasKyoti = true) → (s.fedOk b = false) → exec (.federationFrame b) s = .next ((s.put Fld.KY_ERR__AUTH_FAIL 0 1).postBoth { code := 0xA08, sev := 1 })) ∧
  (∀ (s : State) (b : List Byte), (s.variant.hasKyoti = true) → (s.fedOk b = true) → ((fedFrame b).dst ≠ s.cfg.ky.device) → exec (.federationFrame b) s = .next (s)) ∧
  (∀ (s : State) (b : List Byte), (s.variant.hasKyoti = true) → (s.fedOk b = true) → ((fedFrame b).dst = s.cfg.ky.device) → ((fedFrame b).type ≠ 1) → ((fedFrame b).type ≠ 2) → exec (.federationFrame b) s = .next (s)) ∧
  (∀ (s : State) (b : List Byte) (f : FedFrame), (s.variant.hasKyoti = true) → (s.fedOk b = true) → (f = fedFrame b) → (f.dst = s.cfg.ky.device) → (f.type = 1) → exec (.federationFrame b) s = .next (if !s.kyRuns || (f.node ≠ 0 && (s.kyNode f.node).st ≠ 2) then s.kyFedResult f.src f.tag stCapacity else s.setKy { s.ky with queue := s.ky.queue ++ [{ dst := if f.node = 0 then kyBroadcast else f.node, mtype := 0, bytes := f.msg, secured := s.cfg.ky.secure, fed := some (f.src, f.tag) }] })) ∧
  (∀ (s : State) (b : List Byte) (f : FedFrame), (s.variant.hasKyoti = true) → (s.fedOk b = true) → (f = fedFrame b) → (f.dst = s.cfg.ky.device) → (f.type = 2) → exec (.federationFrame b) s = .next (match tabFind s.ky.fed f.tag with | none => s | some t => ((s.drawBelow (2 ^ 64)).2.setKy { s.ky with fed := tabErase s.ky.fed f.tag }).fin t f.status (s.drawBelow (2 ^ 64)).1)) ∧
  (∀ (s : State) (tag : Nat) (t : Ticket), (tabFind s.ky.fed tag = some t) → exec (.federationResultTimeout tag) s = .next ((s.setKy { s.ky with fed := tabErase s.ky.fed tag }).fin t stCapacity 4)) ∧
  (∀ (s : State) (tag : Nat), (tabFind s.ky.fed tag = none) → exec (.federationResultTimeout tag) s = .next (s))

/-- KYOTI_SEND and KYOTI_NODE_CMD -/
def Obligations.KyotiDescriptors : Prop :=
  (∀ (s : State) (d : Desc) (rd : DmaRead), (s.accepts 0x50 d = true) → (DescF.bufLen d = 0) → exec (.kyotiSend d rd) s = .next ((s.taken d).fin ((s.taken d).ticket d) stBad 16)) ∧
  (∀ (s : State) (d : Desc) (rd : DmaRead), (s.accepts 0x50 d = true) → (DescF.bufLen d ≠ 0) → (DescF.bufLen d ≤ (s.taken d).cfg.ky.msgMax) → (DescF.par d 0 2 = 0) → (DescF.par d 2 2 < 4096) → (DescF.par d 4 1 = 0) → (DescF.parNonZero d 5 = none) → (DescF.par d 2 2 ≠ 0) → (((s.taken d).kyNode (DescF.par d 2 2)).st = 2) → ((s.taken d).kyPending d.port < 64) → ((s.taken d).kyRuns = false) → exec (.kyotiSend d rd) s = .next ((s.taken d).fin ((s.taken d).ticket d) stCapacity 7)) ∧
  (∀ (s : State) (d : Desc) (b : List Byte), (s.accepts 0x50 d = true) → (DescF.bufLen d ≠ 0) → (DescF.bufLen d ≤ (s.taken d).cfg.ky.msgMax) → (DescF.par d 0 2 = 0) → (DescF.par d 2 2 < 4096) → (DescF.par d 4 1 = 0) → (DescF.parNonZero d 5 = none) → (DescF.par d 2 2 ≠ 0) → (((s.taken d).kyNode (DescF.par d 2 2)).st = 2) → ((s.taken d).kyPending d.port < 64) → ((s.taken d).kyRuns = true) → exec (.kyotiSend d (.data b)) s = .next ((s.taken d).setKy { (s.taken d).ky with queue := (s.taken d).ky.queue ++ [{ dst := DescF.par d 2 2, mtype := 0, bytes := b.take (DescF.bufLen d), secured := true, t := some ((s.taken d).ticket d) }] })) ∧
  (∀ (s : State) (p : Port) (q c : Nat) (m : KyMsg), (s.ky.queue.find? (fun m => m.mtype == 0 && m.segs.isNone && m.t.any fun t => t.port == p && t.sq == q && t.cmdId == c) = some m) → exec (.sendStartTimeout p q c) s = .next ((s.setKy { s.ky with queue := s.ky.queue.erase m }).kyOutcome m stCapacity 8)) ∧
  (∀ (s : State) (d : Desc), (s.accepts 0x51 d = true) → (DescF.par d 4 1 = 1) → (DescF.par d 0 2 = 0) → (DescF.parNonZero d 5 = none) → (DescF.par d 2 2 < 4096) → (32 ≤ DescF.bufLen d) → (((s.taken d).kyNode (DescF.par d 2 2)).st = 0) → exec (.nodeRead d) s = .next ((s.taken d).fin ((s.taken d).ticket d) stCapacity 2)) ∧
  (∀ (s : State) (d : Desc), (s.accepts 0x51 d = true) → (DescF.par d 4 1 = 1) → (DescF.par d 0 2 = 0) → (DescF.parNonZero d 5 = none) → (DescF.par d 2 2 < 4096) → (32 ≤ DescF.bufLen d) → (((s.taken d).kyNode (DescF.par d 2 2)).st = 2) → exec (.nodeRead d) s = .next (((s.taken d).writeBuf d (leBytes 8 ((s.taken d).kyNode (DescF.par d 2 2)).uid ++ [2, BitVec.ofNat 8 ((s.taken d).kyNode (DescF.par d 2 2)).phase, BitVec.ofNat 8 ((s.taken d).kyNode (DescF.par d 2 2)).hops, BitVec.ofNat 8 (b2n ((s.taken d).kyNode (DescF.par d 2 2)).routeCap)] ++ leBytes 2 (routeParent ((s.taken d).kyNode (DescF.par d 2 2)).route) ++ leBytes 2 (min 65535 ((s.taken d).kyNode (DescF.par d 2 2)).cost) ++ leBytes 4 ((s.taken d).kyNode (DescF.par d 2 2)).heard ++ leBytes 4 ((s.taken d).kyNode (DescF.par d 2 2)).okN ++ leBytes 4 ((s.taken d).kyNode (DescF.par d 2 2)).failN ++ leBytes 4 (((s.taken d).kyNode (DescF.par d 2 2)).fcIn.getD 0))).fin ((s.taken d).ticket d) stDone)) ∧
  (∀ (s : State) (d : Desc), (s.accepts 0x51 d = true) → (DescF.par d 4 1 = 2) → (DescF.par d 0 2 = 0) → (DescF.parNonZero d 5 = none) → (16 + (s.taken d).cfg.ky.msgMax ≤ DescF.bufLen d) → ((s.taken d).ky.inq = []) → (s.cfg.ky.msgMax = (s.taken d).cfg.ky.msgMax) → exec (.receive d) s = .next ((s.taken d).fin ((s.taken d).ticket d) stCapacity 1)) ∧
  (∀ (s : State) (d : Desc) (x : Nat × Nat × Nat × List Byte) (r : List (Nat × Nat × Nat × List Byte)), (s.accepts 0x51 d = true) → (DescF.par d 4 1 = 2) → (DescF.par d 0 2 = 0) → (DescF.parNonZero d 5 = none) → (16 + (s.taken d).cfg.ky.msgMax ≤ DescF.bufLen d) → ((s.taken d).ky.inq = x :: r) → (d.port = (s.taken d).cfg.ky.host) → (s.cfg.ky.msgMax = (s.taken d).cfg.ky.msgMax) → exec (.receive d) s = .next ((((s.taken d).setKy { (s.taken d).ky with inq := r }).writeBuf d (leBytes 2 x.1 ++ leBytes 2 x.2.1 ++ leBytes 2 x.2.2.2.length ++ [0, 0] ++ leBytes 8 x.2.2.1 ++ x.2.2.2)).fin ((s.taken d).ticket d) stDone x.2.2.2.length)) ∧
  (∀ (s : State) (d : Desc), (s.accepts 0x51 d = true) → (DescF.par d 4 1 = 4) → (DescF.par d 0 2 = 0) → (DescF.par d 5 3 = 0) → (DescF.parNonZero d 12 = none) → (DescF.bufLen d = 0) → (86400 < DescF.par d 8 4) → exec (.joinWindow d) s = .next ((s.taken d).fin ((s.taken d).ticket d) stBad 32)) ∧
  (∀ (s : State) (d : Desc), (s.accepts 0x51 d = true) → (DescF.par d 4 1 = 4) → (DescF.par d 0 2 = 0) → (DescF.par d 5 3 = 0) → (DescF.parNonZero d 12 = none) → (DescF.bufLen d = 0) → (DescF.par d 8 4 ≤ 86400) → exec (.joinWindow d) s = .next (((s.taken d).putB Fld.KY_STATUS__JOIN_OPEN 0 (DescF.par d 8 4 != 0)).fin ((s.taken d).ticket d) stDone 0)) ∧
  (∀ (s : State) (d : Desc), (s.accepts 0x51 d = true) → (DescF.par d 4 1 = 5) → (DescF.par d 0 2 = 0) → (DescF.parNonZero d 5 = none) → (DescF.par d 2 2 < 4096) → (DescF.bufLen d = 0) → (((s.taken d).kyNode (DescF.par d 2 2)).st = 2) → exec (.ping d) s = .next ((s.taken d).setKy { (s.taken d).ky with queue := (s.taken d).ky.queue ++ [{ dst := DescF.par d 2 2, mtype := kyPing, bytes := [], secured := false, t := some ((s.taken d).ticket d) }] })) ∧
  (∀ (s : State) (d : Desc) (x : KyNode) (b : List Byte) (u v w : State) (n : Nat), (s.accepts 0x51 d = true) → (DescF.par d 4 1 = 3) → (DescF.par d 0 2 = 0) → (DescF.parNonZero d 5 = none) → (n = DescF.par d 2 2) → (n < 4096) → (DescF.bufLen d = 0) → (x = (s.taken d).kyNode n) → (x.st = 2 ∨ x.st = 3) → (b = if (s.taken d).cellKey (s.taken d).cfg.ky.keySlot then kySecure ((s.taken d).kyKey (some x.uid)) (s.taken d).cfg.ky.device 0 n (x.fcOut + 1) 6 [] else [6]) → (u = if (s.taken d).cellKey (s.taken d).cfg.ky.keySlot then (s.taken d).useNodeKey (s.taken d).cfg.ky.keySlot (some x.uid) else s.taken d) → (v = match u.kyFixed x.uid with | some a => u.setKy { u.ky with unfixed := a :: u.ky.unfixed } | none => u) → (w = v.kyFree n) → exec (.remove d) s = .next (((w.setKy { w.ky with queue := w.ky.queue ++ [{ dst := n, mtype := 6, bytes := [], secured := (s.taken d).cellKey (s.taken d).cfg.ky.keySlot, segs := some [b], seg := x.seq + 1, route := x.route }] }).postBoth { code := 0xA02, sev := 0, obj := n }).fin ((s.taken d).ticket d) stDone 0)) ∧
  (∀ (s : State) (d : Desc) (n : Nat), (s.accepts 0x51 d = true) → (n = DescF.par d 2 2) → (n < 4096) → (DescF.par d 4 1 = 1 ∨ DescF.par d 4 1 = 3 ∨ DescF.par d 4 1 = 5) → (DescF.par d 0 2 = 0) → (DescF.parNonZero d 5 = none) → (if DescF.par d 4 1 = 1 then 32 ≤ DescF.bufLen d else DescF.bufLen d = 0) → (((s.taken d).kyNode n).st ≠ 2) → (((s.taken d).kyNode n).st ≠ 3) → (if DescF.par d 4 1 = 1 then exec (.nodeRead d) s else if DescF.par d 4 1 = 3 then exec (.remove d) s else exec (.ping d) s) = .next ((s.taken d).fin ((s.taken d).ticket d) stCapacity 2)) ∧
  (∀ (s : State) (d : Desc), (s.accepts 0x51 d = true) → (DescF.par d 4 1 = 2) → (DescF.par d 0 2 = 0) → (DescF.parNonZero d 5 = none) → (16 + s.cfg.ky.msgMax ≤ DescF.bufLen d) → (d.port ≠ (s.taken d).cfg.ky.host) → exec (.receive d) s = .next ((s.taken d).fin ((s.taken d).ticket d) stCapacity 1)) ∧
  (∀ (s : State) (d : Desc) (rd : DmaRead), (s.accepts 0x50 d = true) → (DescF.bufLen d ≠ 0) → (DescF.bufLen d ≤ (s.taken d).cfg.ky.msgMax) → (DescF.par d 0 2 = 0) → (DescF.par d 2 2 < 4096) → (DescF.par d 4 1 = 0) → (DescF.parNonZero d 5 = none) → (DescF.par d 2 2 ≠ 0) → (((s.taken d).kyNode (DescF.par d 2 2)).st ≠ 2) → (((s.taken d).kyNode (DescF.par d 2 2)).st ≠ 3) → exec (.kyotiSend d rd) s = .next ((s.taken d).fin ((s.taken d).ticket d) stCapacity 1)) ∧
  (∀ (s : State) (d : Desc) (rd : DmaRead), (s.accepts 0x50 d = true) → (DescF.bufLen d ≠ 0) → (DescF.bufLen d ≤ (s.taken d).cfg.ky.msgMax) → (DescF.par d 0 2 = 0) → (DescF.par d 2 2 < 4096) → (DescF.par d 4 1 = 0) → (DescF.parNonZero d 5 = none) → (DescF.par d 2 2 ≠ 0) → (((s.taken d).kyNode (DescF.par d 2 2)).st = 3) → exec (.kyotiSend d rd) s = .next ((s.taken d).fin ((s.taken d).ticket d) stCapacity 2)) ∧
  (∀ (s : State) (d : Desc) (rd : DmaRead), (s.accepts 0x50 d = true) → (DescF.bufLen d ≠ 0) → (DescF.bufLen d ≤ (s.taken d).cfg.ky.msgMax) → (DescF.par d 0 2 = 0) → (DescF.par d 2 2 < 4096) → (DescF.par d 4 1 = 0) → (DescF.parNonZero d 5 = none) → (DescF.par d 2 2 ≠ 0) → (((s.taken d).kyNode (DescF.par d 2 2)).st = 2) → (64 ≤ (s.taken d).kyPending d.port) → exec (.kyotiSend d rd) s = .next (((s.taken d).put Fld.KY_ERR__QUEUE_FULL 0 1).fin ((s.taken d).ticket d) stCapacity 3)) ∧
  (∀ (s : State) (d : Desc) (rd : DmaRead), (s.accepts 0x50 d = true) → (DescF.bufLen d ≠ 0) → (DescF.bufLen d ≤ (s.taken d).cfg.ky.msgMax) → (DescF.par d 0 2 = 0) → (DescF.par d 2 2 < 4096) → (DescF.par d 4 1 = 2) → (DescF.parNonZero d 5 = none) → (DescF.par d 2 2 ≠ 0) → (((s.taken d).kyNode (DescF.par d 2 2)).st = 2) → ((s.taken d).kyPending d.port < 64) → ((s.taken d).cfg.ky.secure = true) → exec (.kyotiSend d rd) s = .next ((s.taken d).fin ((s.taken d).ticket d) stCapacity 6)) ∧
  (∀ (s : State) (d : Desc) (rd : DmaRead), (s.accepts 0x50 d = true) → (DescF.bufLen d ≠ 0) → (DescF.bufLen d ≤ (s.taken d).cfg.ky.msgMax) → (DescF.par d 0 2 = 77) → (DescF.par d 2 2 < 4096) → (DescF.par d 4 1 = 0) → (DescF.parNonZero d 5 = none) → (DescF.par d 2 2 ≠ 0) → ((s.taken d).cfg.ky.device ≠ 77) → ((s.taken d).kyPending d.port < 64) → (tabFind (s.taken d).cfg.ky.fed 77 = none) → exec (.kyotiSend d rd) s = .next ((s.taken d).fin ((s.taken d).ticket d) stCapacity 5)) ∧
  (∀ (s : State) (d : Desc) (dev : Nat) (b : List Byte) (u : State), (s.accepts 0x50 d = true) → (DescF.bufLen d ≠ 0) → (DescF.bufLen d ≤ (s.taken d).cfg.ky.msgMax) → (DescF.par d 0 2 = dev) → (dev ≠ 0) → (dev < 16384) → (DescF.par d 2 2 < 4096) → (DescF.par d 4 1 = 0) → (DescF.parNonZero d 5 = none) → (DescF.par d 2 2 ≠ 0) → ((s.taken d).cfg.ky.device ≠ dev) → ((s.taken d).kyPending d.port < 64) → ((tabFind (s.taken d).cfg.ky.fed dev).isNone = false) → (u = (s.taken d).setKy { (s.taken d).ky with fed := (s.taken d).ky.fed ++ [((s.taken d).ky.tag, (s.taken d).ticket d)], tag := (s.taken d).ky.tag + 1 }) → exec (.kyotiSend d (.data b)) s = .next (if (s.taken d).keyUsable (s.taken d).cfg.ky.fedSlot [1, 2] 2 then u.kyFedSend dev ([1, 1] ++ leBytes 2 (s.taken d).cfg.ky.device ++ leBytes 2 dev ++ leBytes 2 (DescF.par d 2 2) ++ leBytes 4 (s.taken d).ky.tag ++ leBytes 2 (b.take (DescF.bufLen d)).length ++ leBytes 2 0 ++ b.take (DescF.bufLen d)) else (s.taken d).fin ((s.taken d).ticket d) stCapacity 4)) ∧
  (∀ (s : State) (p : Port) (q c : Nat), (s.ky.queue.find? (fun m => m.mtype == 0 && m.segs.isNone && m.t.any fun t => t.port == p && t.sq == q && t.cmdId == c) = none) → exec (.sendStartTimeout p q c) s = .next s)

/-- Pings, baselines and the exchange with a card -/
def Obligations.ReaderExchange : Prop :=
  (∀ (s : State) (p a : Nat) (ph : Int), ((!s.pinged p || (s.ant p).capt) = true) → exec (.detuningPing p a ph) s = .next (s)) ∧
  (∀ (s : State) (p a : Nat) (ph : Int), (s.pinged p = true) → ((s.ant p).capt = false) → (s.detects p a ph = true) → exec (.detuningPing p a ph) s = .next (if s.flag Fld.ANT_STATUS__HELD p then s.setAnt p { s.ant p with clear := 0 } else s.setAnt p { s.ant p with conf := true })) ∧
  (∀ (s u : State) (p a : Nat) (ph : Int), (s.pinged p = true) → ((s.ant p).capt = false) → (s.detects p a ph = false) → (u = s.setAnt p { s.ant p with conf := false }) → (u.flag Fld.ANT_STATUS__HELD p = false) → exec (.detuningPing p a ph) s = .next ((u.put Fld.ANT_STATUS__DETECT p 0).baseTrack p a ph)) ∧
  (∀ (s u : State) (p a : Nat) (ph : Int), (s.pinged p = true) → ((s.ant p).capt = false) → (s.detects p a ph = false) → (u = s.setAnt p { s.ant p with conf := false }) → (u.flag Fld.ANT_STATUS__HELD p = true) → exec (.detuningPing p a ph) s = .next ((if (s.ant p).clear + 1 < 2 then u.setAnt p { u.ant p with clear := (s.ant p).clear + 1 } else ((u.setAnt p { u.ant p with clear := 0 }).put Fld.ANT_STATUS__HELD p 0).put Fld.ANT_STATUS__DETECT p 0).baseTrack p a ph)) ∧
  (∀ (s : State) (p a : Nat) (ph : Int), (s.flag Fld.ANT_STATUS__DETECT p = false) → s.baseTrack p a ph = s.setBase p ((s.ant p).a + ((a : Int) * 65536 - (s.ant p).a) / 64) ((s.ant p).ph + (ph * 65536 - (s.ant p).ph) / 64)) ∧
  (∀ (s : State) (p a : Nat) (ph : Int), ((!(s.ant p).conf || !(s.setReader { s.reader with pres := [] }).pinged p) = true) → exec (.confirmingPing p a ph) s = .next (s)) ∧
  (∀ (s u v : State) (p a : Nat) (ph : Int), ((s.ant p).conf = true) → ((s.setReader { s.reader with pres := [] }).pinged p = true) → (u = s.setAnt p { s.ant p with conf := false }) → (u.detects p a ph = true) → (v = ((u.bump Fld.ANT_COUNT__DETECTIONS p 1).put Fld.ANT_STATUS__DETECT p 1).wakeSource 10) → exec (.confirmingPing p a ph) s = .next (if (v.presAt (p / 8)).isSome then v.setReader { v.reader with waits := v.reader.waits ++ [p] } else v.presBegin p)) ∧
  (∀ (s u : State) (p a : Nat) (ph : Int), ((s.ant p).conf = true) → ((s.setReader { s.reader with pres := [] }).pinged p = true) → (u = s.setAnt p { s.ant p with conf := false }) → (u.detects p a ph = false) → exec (.confirmingPing p a ph) s = .next (u.baseTrack p a ph)) ∧
  (∀ (s u : State) (p : Nat) (l : List (Nat × Int)), ((s.ant p).capt = true) → (s.pinged p = true) → (u = (s.setAnt p { s.ant p with capt := false }).setBase p ((l.map fun x => (x.1 : Int)).foldl (· + ·) 0 * 4096) ((l.map (·.2)).foldl (· + ·) 0 * 4096)) → exec (.baselineCapture p l) s = .next (if u.tagState = 1 then u.readerCaptures else u)) ∧
  (∀ (s : State) (p : Nat) (l : List (Nat × Int)), ((!(s.ant p).capt || !s.pinged p) = true) → exec (.baselineCapture p l) s = .next (s)) ∧
  (∀ (s : State) (n : Nat), (s.presAt n = none) → exec (.guardExpiry n) s = .next (s)) ∧
  (∀ (s : State) (n : Nat) (x : Pres), (s.presAt n = some x) → exec (.guardExpiry n) s = .next (if x.phase = 0 then s.presSend n { x with phase := 1, tries := 1 } [0x26] else s)) ∧
  (∀ (s : State) (n : Nat) (f : CardFrame), (s.presAt n = none) → exec (.cardFrameRx n f) s = .next s) ∧
  (∀ (s : State) (n : Nat) (x : Pres) (v : W16) (u : State), (s.presAt n = some x) → (x.phase = 1) → (u = (s.put Fld.RD_STATUS__CARD n 1).setAnt x.pos { s.ant x.pos with wakes := 0 }) → exec (.cardFrameRx n (.atqa v)) s = .next (u.presSend n { x with phase := 2, atqa := v.toNat } [0x93, 0x20])) ∧
  (∀ (s : State) (n : Nat) (x : Pres) (v : W16), (s.presAt n = some x) → (x.phase = 7) → exec (.cardFrameRx n (.atqa v)) s = .next ((s.presEnd n).postAnt x.pos { code := 0xB03, sev := 1, obj := x.pos, data := 2 })) ∧
  (∀ (s : State) (n : Nat) (x : Pres) (v : W16), (s.presAt n = some x) → (x.phase ≠ 1) → (x.phase ≠ 7) → exec (.cardFrameRx n (.atqa v)) s = .next (s)) ∧
  (∀ (s : State) (n : Nat) (x : Pres) (k m : Nat) (b : List Byte), (s.presAt n = some x) → (x.phase = 2) → (m = leNat b % 2 ^ k + 2 ^ k) → exec (.cardFrameRx n (.collision k b)) s = .next (s.presSend n { x with multi := true } ([selByte x.level, BitVec.ofNat 8 ((2 + (k + 1) / 8) * 16 + (k + 1) % 8)] ++ leBytes ((k + 8) / 8) m))) ∧
  (∀ (s : State) (n : Nat) (x : Pres) (k : Nat) (b : List Byte), (s.presAt n = some x) → (x.phase ≠ 2) → exec (.cardFrameRx n (.collision k b)) s = .next (s)) ∧
  (∀ (s : State) (n : Nat) (x : Pres) (b : List Byte), (s.presAt n = some x) → (x.phase = 2) → (bccOk b = true) → exec (.cardFrameRx n (.anticol b)) s = .next (s.presSend n { x with phase := 3, part := b.take 4 } ([selByte x.level, 0x70] ++ b))) ∧
  (∀ (s : State) (n : Nat) (x : Pres) (b : List Byte), (s.presAt n = some x) → ((decide (x.phase = 2) && bccOk b) = false) → exec (.cardFrameRx n (.anticol b)) s = .next (s)) ∧
  (∀ (s : State) (n : Nat) (x : Pres) (v : Byte), (s.presAt n = some x) → (x.phase = 3) → exec (.cardFrameRx n (.sak v)) s = .next (s.presSelected n x v.toNat)) ∧
  (∀ (s : State) (n : Nat) (x : Pres) (v : Byte), (s.presAt n = some x) → (x.phase ≠ 3) → exec (.cardFrameRx n (.sak v)) s = .next (s)) ∧
  (∀ (s : State) (n : Nat) (x : Pres) (b : List Byte) (y : Pres), (s.presAt n = some x) → (x.phase = 4) → (y = { x with l4 := true, rate := min (atsRate b) (s.get Fld.RD_CFG__MAX_RATE n), fsc := atsFsc b, fwt := atsFwt b }) → exec (.cardFrameRx n (.ats b)) s = .next (if y.rate = 0 then s.presAsk n y 8 else s.presSend n { y with phase := 5 } [0xD0, 0x11, BitVec.ofNat 8 (5 * y.rate)])) ∧
  (∀ (s : State) (n : Nat) (x : Pres) (b : List Byte), (s.presAt n = some x) → (x.phase ≠ 4) → exec (.cardFrameRx n (.ats b)) s = .next (s)) ∧
  (∀ (s : State) (n : Nat) (x : Pres), (s.presAt n = some x) → (x.phase = 5) → exec (.cardFrameRx n .pps) s = .next ((s.put Fld.RD_STATUS__RATE n x.rate).presAsk n x 8)) ∧
  (∀ (s : State) (n : Nat) (x : Pres), (s.presAt n = some x) → (x.phase ≠ 5) → exec (.cardFrameRx n .pps) s = .next (s)) ∧
  (∀ (s : State) (n : Nat) (x : Pres) (m : Nat), (s.presAt n = some x) → (x.phase = 6) → (x.l4 = true) → (x.wtx + m * x.fwt ≤ 5000000) → exec (.cardFrameRx n (.wtx m)) s = .next ((s.setPres n { x with wtx := x.wtx + m * x.fwt }).rfSend x.pos 2 [0xF2, BitVec.ofNat 8 (m % 64)])) ∧
  (∀ (s : State) (n : Nat) (x : Pres) (m : Nat), (s.presAt n = some x) → ((decide (x.phase = 6) && x.l4 && decide (x.wtx + m * x.fwt ≤ 5000000)) = false) → exec (.cardFrameRx n (.wtx m)) s = .next (s)) ∧
  (∀ (s : State) (n : Nat) (x : Pres) (b : List Byte), (s.presAt n = some x) → (x.phase = 6) → (x.l4 = true) → exec (.cardFrameRx n (.more b)) s = .next (s.presSend n { x with part4 := x.part4 ++ b, blk := x.blk + 1 } [BitVec.ofNat 8 (0xA2 + x.blk % 2)])) ∧
  (∀ (s : State) (n : Nat) (x : Pres) (b : List Byte), (s.presAt n = some x) → ((decide (x.phase = 6) && x.l4) = false) → exec (.cardFrameRx n (.more b)) s = .next (s)) ∧
  (∀ (s : State) (n : Nat) (x : Pres) (b : List Byte), (s.presAt n = some x) → (x.phase = 6) → exec (.cardFrameRx n (.resp b)) s = .next (s.presHalt n { x with issuer := some x.ask, verdict := if (x.part4 ++ b).length < ((x.issuers[x.ask]?).getD { slot := 0 }).off + 64 then some false else none })) ∧
  (∀ (s : State) (n : Nat) (x : Pres) (b : List Byte), (s.presAt n = some x) → (x.phase ≠ 6) → exec (.cardFrameRx n (.resp b)) s = .next (s)) ∧
  (∀ (s : State) (n : Nat) (e : Bool), (s.presAt n = none) → exec (.cardResponseTimeout n e) s = .next (s)) ∧
  (∀ (s : State) (n : Nat) (x : Pres) (e : Bool), (s.presAt n = some x) → ((decide (x.phase = 0) || decide (x.phase = 8)) = true) → exec (.cardResponseTimeout n e) s = .next (s)) ∧
  (∀ (s : State) (n : Nat) (e : Bool) (x : Pres), (s.presAt n = some x) → (x.phase = 1) → (x.tries < 3) → exec (.cardResponseTimeout n e) s = .next (s.presSend n { x with tries := x.tries + 1 } [0x26])) ∧
  (∀ (s u : State) (n w : Nat) (e : Bool) (x : Pres), (s.presAt n = some x) → (x.phase = 1) → (3 ≤ x.tries) → (w = (s.ant x.pos).wakes + 1) → (u = ((s.presEnd n).bump Fld.ANT_COUNT__FALSE_WAKES x.pos 1).put Fld.ANT_STATUS__DETECT x.pos 0) → exec (.cardResponseTimeout n e) s = .next (u.setAnt x.pos { u.ant x.pos with wakes := if w < 8 then w else 0, capt := (u.ant x.pos).capt || decide (8 ≤ w) })) ∧
  (∀ (s : State) (n : Nat) (x : Pres), (s.presAt n = some x) → (x.phase = 7) → exec (.cardResponseTimeout n false) s = .next (s.presJudge n { x with alone := true })) ∧
  (∀ (s : State) (n : Nat) (e : Bool) (x : Pres), (s.presAt n = some x) → (2 ≤ x.phase) → (x.phase ≤ 7) → (x.phase = 7 → e = true) → (x.retried = false) → exec (.cardResponseTimeout n e) s = .next ((s.setPres n { x with retried := true }).rfSend x.pos 2 (if x.phase = 6 && x.l4 then [BitVec.ofNat 8 (0xB2 + (x.blk + 1) % 2)] else x.sent))) ∧
  (∀ (s : State) (n : Nat) (x : Pres), (s.presAt n = some x) → (x.phase = 6) → (x.retried = true) → (x.l4 = false) → exec (.cardResponseTimeout n false) s = .next (s.presAsk n { x with ask := x.ask + 1 } 8)) ∧
  (∀ (s : State) (n : Nat) (e : Bool) (x : Pres), (s.presAt n = some x) → (2 ≤ x.phase) → (x.phase ≤ 7) → (x.phase = 7 → e = true) → (x.phase = 6 → (e = true ∨ x.l4 = true)) → (x.retried = true) → exec (.cardResponseTimeout n e) s = .next (s.presFail n x)) ∧
  (∀ (s u v : State) (p : Nat) (ok : Bool) (x : Pres) (i : Nat) (c : Issuer), ((s.ant p).pend = some x) → (x.issuer = some i) → (x.issuers[i]? = some c) → (u = s.useKey 3 c.slot) → (v = u.setAnt p { u.ant p with pend := none }) → exec (.signatureVerifyDone p ok) s = .next (v.credential { x with verdict := some (ok && s.keyUsable c.slot [5] 4) })) ∧
  (∀ (s u : State) (p : Nat) (ok : Bool) (x : Pres) (i : Nat) (c : Issuer), ((s.ant p).pend = none) → (s.presAt (p / 8) = some x) → (x.pos = p) → (x.verdict = none) → (x.issuer = some i) → (x.issuers[i]? = some c) → (u = s.useKey 3 c.slot) → exec (.signatureVerifyDone p ok) s = .next (u.presJudge (p / 8) { x with verdict := some (ok && s.keyUsable c.slot [5] 4) })) ∧
  (∀ (s : State) (p : Nat) (ok : Bool), ((s.ant p).pend = none) → (s.presAt (p / 8) = none) → exec (.signatureVerifyDone p ok) s = .next s) ∧
  (∀ (s : State) (n : Nat) (x : Pres), (s.presAt n = some x) → exec (.presentationTimeout n) s = .next (s.presFail n x)) ∧
  (∀ (s : State) (n : Nat), (s.presAt n = none) → exec (.presentationTimeout n) s = .next (s)) ∧
  (∀ (s : State) (n : Nat) (x : Pres), (x.multi = true) → s.presFail n x = (s.presEnd n).postAnt x.pos { code := 0xB03, sev := 1, obj := x.pos, data := 1 }) ∧
  (∀ (s : State) (x : Pres), (x.verdict ≠ some true) → (x.policy = 0) → s.credential x = s.postAnt x.pos { code := 0xB02, sev := 1, obj := x.pos, data := if x.issuer.isNone then 1 else 2 }) ∧
  (∀ (s u : State) (x : Pres) (r : List Byte), (x.verdict = some true) → (r = credRecord x true) → (u = (s.setAnt x.pos { s.ant x.pos with last := r, clear := 0 }).put Fld.ANT_STATUS__HELD x.pos 1) → ((upTo 64).find? (fun i => (u.scfg i).kind != 0 && (u.scfg i).antenna == some x.pos) = none) → s.credential x = u.postAnt x.pos { code := 0xB01, sev := 0, obj := x.pos, data := field r 17 1 }) ∧
  (∀ (s u : State) (x : Pres) (i : Nat), (x.verdict = some true) → (u = (s.setAnt x.pos { s.ant x.pos with last := credRecord x true, clear := 0 }).put Fld.ANT_STATUS__HELD x.pos 1) → ((upTo 64).find? (fun i => (u.scfg i).kind != 0 && (u.scfg i).antenna == some x.pos) = some i) → s.credential x = u.presentCred i 1 (hash64 x.uid))

/-- TAG_CMD: READ_LAST, APDU, RELEASE, ENABLE and CALIBRATE -/
def Obligations.ReaderDescriptors : Prop :=
  (∀ (s : State) (d : Desc), (s.accepts 0x58 d = true) → (DescF.par d 0 1 = 1) → ((DescF.parNonZero d 1).isSome = true) → exec (.readLast d) s = .next ((s.taken d).fin ((s.taken d).ticket d) stBad 24)) ∧
  (∀ (s : State) (d : Desc), (s.accepts 0x58 d = true) → (DescF.par d 0 1 = 1) → ((DescF.parNonZero d 1).isSome = false) → (DescF.bufLen d < 64) → exec (.readLast d) s = .next ((s.taken d).fin ((s.taken d).ticket d) stBad 16)) ∧
  (∀ (s : State) (d : Desc), (s.accepts 0x58 d = true) → (DescF.par d 0 1 = 1) → ((DescF.parNonZero d 1).isSome = false) → (64 ≤ DescF.bufLen d) → (((s.taken d).ant d.target.toNat).last.isEmpty = true) → exec (.readLast d) s = .next ((s.taken d).fin ((s.taken d).ticket d) stCapacity 1)) ∧
  (∀ (s : State) (d : Desc), (s.accepts 0x58 d = true) → (DescF.par d 0 1 = 1) → ((DescF.parNonZero d 1).isSome = false) → (64 ≤ DescF.bufLen d) → (((s.taken d).ant d.target.toNat).last.isEmpty = false) → exec (.readLast d) s = .next (((s.taken d).writeBuf d ((s.taken d).ant d.target.toNat).last).fin ((s.taken d).ticket d) stDone 64)) ∧
  (∀ (s : State) (d : Desc) (r : Option (List Byte)), (s.accepts 0x58 d = true) → (DescF.par d 0 1 = 2) → ((DescF.parNonZero d 40).isSome = false) → (258 ≤ DescF.bufLen d) → ((decide (DescF.par d 1 1 < 4) || decide (32 < DescF.par d 1 1) || !zeroOutside d.param [(0, 1), (8, 39)]) = true) → exec (.apdu d r) s = .next ((s.taken d).fin ((s.taken d).ticket d) stBad 24)) ∧
  (∀ (s : State) (d : Desc) (r : Option (List Byte)), (s.accepts 0x58 d = true) → (DescF.par d 0 1 = 2) → ((DescF.parNonZero d 40).isSome = false) → (258 ≤ DescF.bufLen d) → ((decide (DescF.par d 1 1 < 4) || decide (32 < DescF.par d 1 1) || !zeroOutside d.param [(0, 1), (8, 39)]) = false) → ((s.taken d).presAt (d.target.toNat / 8) = none) → exec (.apdu d r) s = .next ((s.taken d).fin ((s.taken d).ticket d) stCapacity 2)) ∧
  (∀ (s : State) (d : Desc) (r : Option (List Byte)) (x : Pres), (s.accepts 0x58 d = true) → (DescF.par d 0 1 = 2) → ((DescF.parNonZero d 40).isSome = false) → (258 ≤ DescF.bufLen d) → ((decide (DescF.par d 1 1 < 4) || decide (32 < DescF.par d 1 1) || !zeroOutside d.param [(0, 1), (8, 39)]) = false) → ((s.taken d).presAt (d.target.toNat / 8) = some x) → ((decide (x.pos ≠ d.target.toNat) || decide (x.phase ≠ 8) || !(s.taken d).flag Fld.ANT_STATUS__HELD d.target.toNat) = true) → exec (.apdu d r) s = .next ((s.taken d).fin ((s.taken d).ticket d) stCapacity 2)) ∧
  (∀ (s : State) (d : Desc) (b : List Byte) (x : Pres) (u : State), (s.accepts 0x58 d = true) → (DescF.par d 0 1 = 2) → ((DescF.parNonZero d 40).isSome = false) → (258 ≤ DescF.bufLen d) → ((decide (DescF.par d 1 1 < 4) || decide (32 < DescF.par d 1 1) || !zeroOutside d.param [(0, 1), (8, 39)]) = false) → ((s.taken d).presAt (d.target.toNat / 8) = some x) → (x.pos = d.target.toNat) → (x.phase = 8) → ((s.taken d).flag Fld.ANT_STATUS__HELD d.target.toNat = true) → (u = (s.taken d).presApdu (d.target.toNat / 8) x ((d.param.drop 8).take (DescF.par d 1 1))) → exec (.apdu d (some b)) s = .next ((u.writeBuf d b).fin ((s.taken d).ticket d) stDone b.length)) ∧
  (∀ (s : State) (d : Desc) (x : Pres) (u : State), (s.accepts 0x58 d = true) → (DescF.par d 0 1 = 2) → ((DescF.parNonZero d 40).isSome = false) → (258 ≤ DescF.bufLen d) → ((decide (DescF.par d 1 1 < 4) || decide (32 < DescF.par d 1 1) || !zeroOutside d.param [(0, 1), (8, 39)]) = false) → ((s.taken d).presAt (d.target.toNat / 8) = some x) → (x.pos = d.target.toNat) → (x.phase = 8) → ((s.taken d).flag Fld.ANT_STATUS__HELD d.target.toNat = true) → (u = (s.taken d).presApdu (d.target.toNat / 8) x ((d.param.drop 8).take (DescF.par d 1 1))) → exec (.apdu d none) s = .next ((u.presEnd (d.target.toNat / 8)).fin ((s.taken d).ticket d) stCapacity 2)) ∧
  (∀ (s : State) (d : Desc), (s.accepts 0x58 d = true) → (DescF.par d 0 1 = 3) → ((DescF.parNonZero d 1).isSome = false) → ((s.taken d).presAt (d.target.toNat / 8) = none) → exec (.release d) s = .next ((s.taken d).fin ((s.taken d).ticket d) stDone 0)) ∧
  (∀ (s : State) (d : Desc) (x : Pres), (s.accepts 0x58 d = true) → (DescF.par d 0 1 = 3) → ((DescF.parNonZero d 1).isSome = false) → ((s.taken d).presAt (d.target.toNat / 8) = some x) → exec (.release d) s = .next ((if x.pos = d.target.toNat then ((s.taken d).rfSend d.target.toNat 2 [0x50, 0]).presEnd (d.target.toNat / 8) else s.taken d).fin ((s.taken d).ticket d) stDone 0)) ∧
  (∀ (s : State) (d : Desc), (s.accepts 0x58 d = true) → (DescF.par d 0 1 = 4) → ((DescF.parNonZero d 2).isSome = false) → (1 < DescF.par d 1 1) → exec (.enable d) s = .next ((s.taken d).fin ((s.taken d).ticket d) stBad 24)) ∧
  (∀ (s : State) (d : Desc) (u : State), (s.accepts 0x58 d = true) → (DescF.par d 0 1 = 4) → ((DescF.parNonZero d 2).isSome = false) → (DescF.par d 1 1 ≤ 1) → (u = (s.taken d).putB Fld.ANT_CFG__EN d.target.toNat (DescF.par d 1 1 == 1)) → exec (.enable d) s = .next ((u.setAnt d.target.toNat { u.ant d.target.toNat with capt := DescF.par d 1 1 == 1, conf := false }).fin ((s.taken d).ticket d) stDone 0)) ∧
  (∀ (s : State) (d : Desc) (l : List Nat), (s.accepts 0x58 d = true) → (DescF.par d 0 1 = 5) → ((DescF.parNonZero d 1).isSome = false) → ((s.taken d).flag Fld.ANT_STATUS__DETECT d.target.toNat = true) → exec (.calibrate d l) s = .next ((s.taken d).fin ((s.taken d).ticket d) stCapacity 3)) ∧
  (∀ (s : State) (d : Desc) (l : List Nat) (u : State), (s.accepts 0x58 d = true) → (DescF.par d 0 1 = 5) → ((DescF.parNonZero d 1).isSome = false) → ((s.taken d).flag Fld.ANT_STATUS__DETECT d.target.toNat = false) → (u = ((s.taken d).put Fld.ANT_STATUS__A_REF d.target.toNat (min (l.foldl (· + ·) 0 / 64) 65535)).put Fld.ANT_STATUS__FAULT d.target.toNat 0) → exec (.calibrate d l) s = .next ((u.setAnt d.target.toNat { u.ant d.target.toNat with capt := u.flag Fld.ANT_CFG__EN d.target.toNat }).fin ((s.taken d).ticket d) stDone (min (l.foldl (· + ·) 0 / 64) 65535)))

/-- Shares: what is stored is read back, and re-masking changes no key -/
def Obligations.KeyShares : Prop :=
  (∀ (s : State) (n : Nat) (a : KeyAttr) (key : Nat), (s.storeKey n a key).keyOf n = key) ∧
  (∀ (s : State) (n m : Nat), (s.remaskSlot n).keyOf m = s.keyOf m) ∧
  (∀ (s u v : State), (s.pwr ≠ 3) → (s.dieRuns .cdie = true) → (u = if s.rime.lastMask + 1100000 < s.time then s.put Fld.KEY_ERR__REMASK_LATE 0 1 else s) → (u.rngReady = true) → (v = (u.setRime { u.rime with lastMask := u.time }).put Fld.KEY_REMASK__ROUNDS 0 ((u.reg .KEY_REMASK 0).toNat + 1)) → exec .keyRemask s = .next ((v.rime.slots.map (·.1)).foldl State.remaskSlot v)) ∧
  (∀ (s u : State), (s.pwr ≠ 3) → (s.dieRuns .cdie = true) → (u = if s.rime.lastMask + 1100000 < s.time then s.put Fld.KEY_ERR__REMASK_LATE 0 1 else s) → (u.rngReady = false) → exec .keyRemask s = .next u) ∧
  (∀ (s : State), (s.pwr = 3 ∨ s.dieRuns .cdie = false) → exec .keyRemask s = .next s) ∧
  (∀ (s : State), ∃ t : State, exec .keyRemask s = .next t ∧ ∀ n : Nat, t.keyOf n = s.keyOf n)

/-- Key descriptors, the generator, re-masking and tamper -/
def Obligations.KeyCommands : Prop :=
  (∀ (s : State) (d : Desc) (rd : DmaRead) (o : Bool), (s.accepts 0x60 d = true) → (DescF.bufLen d < 96) → exec (.keyWrite d rd o) s = .next ((s.taken d).fin ((s.taken d).ticket d) stBad 16)) ∧
  (∀ (s : State) (d : Desc) (rd : DmaRead) (o : Bool) (a : Nat), (s.accepts 0x60 d = true) → (96 ≤ DescF.bufLen d) → (DescF.par d 0 8 ≠ 0) → ((s.taken d).checkRange d.port (DescF.par d 0 8) 128 false true = .boundary a) → exec (.keyWrite d rd o) s = .next ((s.taken d).fin ((s.taken d).ticket d) stBoundary a)) ∧
  (∀ (s : State) (d : Desc) (rd : DmaRead) (o : Bool) (a : Nat), (s.accepts 0x60 d = true) → (96 ≤ DescF.bufLen d) → (DescF.par d 0 8 ≠ 0) → ((s.taken d).checkRange d.port (DescF.par d 0 8) 128 false true = .protection a) → exec (.keyWrite d rd o) s = .next ((s.taken d).fin ((s.taken d).ticket d) stProtection a)) ∧
  (∀ (s : State) (d : Desc) (b : List Byte) (o : Bool), (s.accepts 0x60 d = true) → (96 ≤ DescF.bufLen d) → (DescF.par d 0 8 = 0) → (keyWriteOk (b.take 96) = false) → exec (.keyWrite d (.data b) o) s = .next ((s.taken d).fin ((s.taken d).ticket d) stBad 8)) ∧
  (∀ (s : State) (d : Desc) (b : List Byte) (o : Bool), (s.accepts 0x60 d = true) → (96 ≤ DescF.bufLen d) → (DescF.par d 0 8 ≠ 0) → ((s.taken d).checkRange d.port (DescF.par d 0 8) 128 false true = .ok) → (keyWriteOk (b.take 96) = true) → (bitAt (field (b.take 96) 3 1) 1 = false) → exec (.keyWrite d (.data b) o) s = .next ((s.taken d).fin ((s.taken d).ticket d) stBad 24)) ∧
  (∀ (s : State) (d : Desc) (b : List Byte) (o : Bool), (s.accepts 0x60 d = true) → (96 ≤ DescF.bufLen d) → (DescF.par d 0 8 = 0) → (keyWriteOk (b.take 96) = true) → (bitAt (field (b.take 96) 3 1) 1 = false) → ((s.taken d).keySt d.target.toNat = 1) → exec (.keyWrite d (.data b) o) s = .next ((s.taken d).fin ((s.taken d).ticket d) stCapacity 1)) ∧
  (∀ (s : State) (d : Desc) (b : List Byte) (o : Bool), (s.accepts 0x60 d = true) → (96 ≤ DescF.bufLen d) → (DescF.par d 0 8 = 0) → (keyWriteOk (b.take 96) = true) → (bitAt (field (b.take 96) 3 1) 1 = false) → ((s.taken d).keySt d.target.toNat ≠ 1) → (bitAt (field (b.take 96) 3 1) 0 = true) → ((s.taken d).rime.root.isNone = true) → exec (.keyWrite d (.data b) o) s = .next ((s.taken d).fin ((s.taken d).ticket d) stCapacity 9)) ∧
  (∀ (s : State) (d : Desc) (b : List Byte) (o : Bool), (s.accepts 0x60 d = true) → (96 ≤ DescF.bufLen d) → (DescF.par d 0 8 = 0) → (keyWriteOk (b.take 96) = true) → (bitAt (field (b.take 96) 3 1) 1 = false) → ((s.taken d).keySt d.target.toNat ≠ 1) → (bitAt (field (b.take 96) 3 1) 0 = true) → ((s.taken d).rime.root.isNone = false) → ((s.taken d).rngReady = false) → exec (.keyWrite d (.data b) o) s = .next ((s.taken d).fin ((s.taken d).ticket d) stCapacity 0xB)) ∧
  (∀ (s : State) (d : Desc) (b : List Byte) (o : Bool), (s.accepts 0x60 d = true) → (96 ≤ DescF.bufLen d) → (DescF.par d 0 8 = 0) → (keyWriteOk (b.take 96) = true) → (bitAt (field (b.take 96) 3 1) 1 = false) → ((s.taken d).keySt d.target.toNat ≠ 1) → (bitAt (field (b.take 96) 3 1) 0 = true) → ((s.taken d).rime.root.isNone = false) → ((s.taken d).rngReady = true) → ((s.taken d).trialRefuses o = true) → exec (.keyWrite d (.data b) o) s = .next ((s.taken d).fin ((s.taken d).ticket d) stCapacity 0xD)) ∧
  (∀ (s : State) (d : Desc) (b : List Byte) (o : Bool) (k : Nat) (u : State), (s.accepts 0x60 d = true) → (96 ≤ DescF.bufLen d) → (DescF.par d 0 8 = 0) → (keyWriteOk (b.take 96) = true) → (bitAt (field (b.take 96) 3 1) 1 = false) → (bitAt (field (b.take 96) 3 1) 0 = false) → ((s.taken d).keySt d.target.toNat ≠ 1) → (k = leNat (((b.take 96).drop 16).take (keyLen (field (b.take 96) 2 1)))) → (u = (s.taken d).storeKey d.target.toNat { type := field (b.take 96) 2 1, usage := field (b.take 96) 4 2, persist := false, exported := false, id := field (b.take 96) 8 4 } k) → exec (.keyWrite d (.data b) o) s = .next (u.fin ((s.taken d).ticket d) stDone (u.keyGen d.target.toNat))) ∧
  (∀ (s : State) (d : Desc) (b : List Byte) (o : Bool) (k : Nat) (a : KeyAttr) (u v : State) (g : List Byte), (s.accepts 0x60 d = true) → (96 ≤ DescF.bufLen d) → (DescF.par d 0 8 = 0) → (keyWriteOk (b.take 96) = true) → (bitAt (field (b.take 96) 3 1) 1 = false) → (bitAt (field (b.take 96) 3 1) 0 = true) → ((s.taken d).keySt d.target.toNat ≠ 1) → ((s.taken d).rime.root.isNone = false) → ((s.taken d).rngReady = true) → ((s.taken d).trialRefuses o = false) → (k = leNat (((b.take 96).drop 16).take (keyLen (field (b.take 96) 2 1)))) → (a = { type := field (b.take 96) 2 1, usage := field (b.take 96) 4 2, persist := true, exported := false, id := field (b.take 96) 8 4 }) → (u = (s.taken d).storeKey d.target.toNat a k) → (v = (u.random 96).2.useKey 2 2) → (g = v.makeBlob d.target.toNat a k (u.random 96).1) → exec (.keyWrite d (.data b) o) s = .next ((v.keepKey d.target.toNat { rootId := (v.reg .KEY_ROOT_ID 0).toNat, type := a.type, usage := a.usage, id := a.id, exported := false, blob := g, gen := v.keyGen d.target.toNat }).fin ((s.taken d).ticket d) stDone ((v.keepKey d.target.toNat { rootId := (v.reg .KEY_ROOT_ID 0).toNat, type := a.type, usage := a.usage, id := a.id, exported := false, blob := g, gen := v.keyGen d.target.toNat }).keyGen d.target.toNat))) ∧
  (∀ (s : State) (d : Desc) (b : List Byte) (o : Bool) (k : Nat) (a : KeyAttr) (u v : State), (s.accepts 0x60 d = true) → (96 ≤ DescF.bufLen d) → (DescF.par d 0 8 ≠ 0) → ((s.taken d).checkRange d.port (DescF.par d 0 8) 128 false true = .ok) → (keyWriteOk (b.take 96) = true) → (bitAt (field (b.take 96) 3 1) 1 = true) → (bitAt (field (b.take 96) 3 1) 0 = false) → ((s.taken d).keySt d.target.toNat ≠ 1) → ((s.taken d).rime.root.isNone = false) → ((s.taken d).rngReady = true) → (k = leNat (((b.take 96).drop 16).take (keyLen (field (b.take 96) 2 1)))) → (a = { type := field (b.take 96) 2 1, usage := field (b.take 96) 4 2, persist := false, exported := true, id := field (b.take 96) 8 4 }) → (u = (s.taken d).storeKey d.target.toNat a k) → (v = (u.random 96).2.useKey 2 2) → exec (.keyWrite d (.data b) o) s = .next ((v.emit (.dma d.port (DescF.par d 0 8) (v.makeBlob d.target.toNat a k (u.random 96).1))).fin ((s.taken d).ticket d) stDone ((v.emit (.dma d.port (DescF.par d 0 8) (v.makeBlob d.target.toNat a k (u.random 96).1))).keyGen d.target.toNat))) ∧
  (∀ (s : State) (d : Desc) (rd : DmaRead), (s.accepts 0x63 d = true) → (DescF.bufLen d < 128) → exec (.keyUnwrap d rd) s = .next ((s.taken d).fin ((s.taken d).ticket d) stBad 16)) ∧
  (∀ (s : State) (d : Desc) (b : List Byte), (s.accepts 0x63 d = true) → (128 ≤ DescF.bufLen d) → ((decide (field (b.take 128) 0 2 ≠ 1) || decide (field (b.take 128) 3 1 ≠ 0) || decide (field (b.take 128) 100 12 ≠ 0)) = true) → exec (.keyUnwrap d (.data b)) s = .next ((s.taken d).fin ((s.taken d).ticket d) stBad 8)) ∧
  (∀ (s : State) (d : Desc) (b : List Byte), (s.accepts 0x63 d = true) → (128 ≤ DescF.bufLen d) → (field (b.take 128) 0 2 = 1) → (field (b.take 128) 3 1 = 0) → (field (b.take 128) 100 12 = 0) → ((s.taken d).keySt d.target.toNat = 1) → exec (.keyUnwrap d (.data b)) s = .next ((s.taken d).fin ((s.taken d).ticket d) stCapacity 1)) ∧
  (∀ (s : State) (d : Desc) (b : List Byte), (s.accepts 0x63 d = true) → (128 ≤ DescF.bufLen d) → (field (b.take 128) 0 2 = 1) → (field (b.take 128) 3 1 = 0) → (field (b.take 128) 100 12 = 0) → ((s.taken d).keySt d.target.toNat ≠ 1) → (field (b.take 128) 6 2 ≠ d.target.toNat) → exec (.keyUnwrap d (.data b)) s = .next ((s.taken d).fin ((s.taken d).ticket d) stCapacity 2)) ∧
  (∀ (s : State) (d : Desc) (b : List Byte), (s.accepts 0x63 d = true) → (128 ≤ DescF.bufLen d) → (field (b.take 128) 0 2 = 1) → (field (b.take 128) 3 1 = 0) → (field (b.take 128) 100 12 = 0) → ((s.taken d).keySt d.target.toNat ≠ 1) → (field (b.take 128) 6 2 = d.target.toNat) → ((s.taken d).rime.root.isNone = true) → exec (.keyUnwrap d (.data b)) s = .next ((s.taken d).fin ((s.taken d).ticket d) stCapacity 9)) ∧
  (∀ (s : State) (d : Desc) (b : List Byte) (u : State), (s.accepts 0x63 d = true) → (128 ≤ DescF.bufLen d) → (field (b.take 128) 0 2 = 1) → (field (b.take 128) 3 1 = 0) → (field (b.take 128) 100 12 = 0) → ((s.taken d).keySt d.target.toNat ≠ 1) → (field (b.take 128) 6 2 = d.target.toNat) → ((s.taken d).rime.root.isNone = false) → (u = (s.taken d).useKey 2 2) → exec (.keyUnwrap d (.data b)) s = .next (match u.openBlob (b.take 128) with | none => u.fin ((s.taken d).ticket d) stCapacity 3 | some key => (u.storeKey d.target.toNat { type := field (b.take 128) 2 1, usage := field (b.take 128) 4 2, exported := true, id := field (b.take 128) 8 4 } key).fin ((s.taken d).ticket d) stDone 0)) ∧
  (∀ (s : State) (d : Desc) (o : Bool) (k : Nat), (s.accepts 0x61 d = true) → (deriveBad d = some k) → exec (.keyDerive d o) s = .next ((s.taken d).fin ((s.taken d).ticket d) stBad k)) ∧
  (∀ (s : State) (d : Desc) (o : Bool), (s.accepts 0x61 d = true) → (deriveBad d = none) → ((s.taken d).keySt d.target.toNat = 1) → exec (.keyDerive d o) s = .next ((s.taken d).fin ((s.taken d).ticket d) stCapacity 1)) ∧
  (∀ (s : State) (d : Desc) (o : Bool), (s.accepts 0x61 d = true) → (deriveBad d = none) → ((s.taken d).keySt d.target.toNat ≠ 1) → (4 ≤ (s.taken d).get Fld.KEY_ATTR__LEVEL (DescF.par d 0 2)) → exec (.keyDerive d o) s = .next ((s.taken d).fin ((s.taken d).ticket d) stCapacity 4)) ∧
  (∀ (s : State) (d : Desc) (o : Bool), (s.accepts 0x61 d = true) → (deriveBad d = none) → ((s.taken d).keySt d.target.toNat ≠ 1) → ((s.taken d).get Fld.KEY_ATTR__LEVEL (DescF.par d 0 2) ≤ 3) → ((s.taken d).keyUsable (DescF.par d 0 2) [3] 5 = false) → exec (.keyDerive d o) s = .next ((s.taken d).fin ((s.taken d).ticket d) stCapacity 5)) ∧
  (∀ (s : State) (d : Desc) (o : Bool), (s.accepts 0x61 d = true) → (deriveBad d = none) → ((s.taken d).keySt d.target.toNat ≠ 1) → ((s.taken d).get Fld.KEY_ATTR__LEVEL (DescF.par d 0 2) ≤ 3) → ((s.taken d).keyUsable (DescF.par d 0 2) [3] 5 = true) → (bitAt (DescF.par d 3 1) 0 = true) → ((s.taken d).trialRefuses o = true) → exec (.keyDerive d o) s = .next ((s.taken d).fin ((s.taken d).ticket d) stCapacity 0xD)) ∧
  (∀ (s : State) (d : Desc) (o : Bool) (u : State) (p k : Nat), (s.accepts 0x61 d = true) → (deriveBad d = none) → ((s.taken d).keySt d.target.toNat ≠ 1) → ((s.taken d).get Fld.KEY_ATTR__LEVEL (DescF.par d 0 2) ≤ 3) → ((s.taken d).keyUsable (DescF.par d 0 2) [3] 5 = true) → (bitAt (DescF.par d 3 1) 0 = false) → (p = DescF.par d 0 2) → (u = (s.taken d).useKey 4 p) → (k = kdf (u.keyOf p) ((d.param.drop 8).take (DescF.par d 6 2)) ((d.param.drop 24).take 8) ((s.taken d).keyGen p) (DescF.par d 2 1)) → exec (.keyDerive d o) s = .next ((u.storeKey d.target.toNat { type := DescF.par d 2 1, usage := DescF.par d 4 2, level := (s.taken d).get Fld.KEY_ATTR__LEVEL p + 1, derived := true, parent := p, pgen := (s.taken d).keyGen p, id := DescF.par d 32 4 } k).fin ((s.taken d).ticket d) stDone 0)) ∧
  (∀ (s : State) (d : Desc) (o : Bool) (u v : State) (p k g l : Nat), (s.accepts 0x61 d = true) → (deriveBad d = none) → ((s.taken d).keySt d.target.toNat ≠ 1) → ((s.taken d).get Fld.KEY_ATTR__LEVEL (DescF.par d 0 2) ≤ 3) → ((s.taken d).keyUsable (DescF.par d 0 2) [3] 5 = true) → (bitAt (DescF.par d 3 1) 0 = true) → ((s.taken d).trialRefuses o = false) → (p = DescF.par d 0 2) → (g = (s.taken d).keyGen p) → (l = (s.taken d).get Fld.KEY_ATTR__LEVEL p + 1) → (u = (s.taken d).useKey 4 p) → (k = kdf (u.keyOf p) ((d.param.drop 8).take (DescF.par d 6 2)) ((d.param.drop 24).take 8) g (DescF.par d 2 1)) → (v = u.storeKey d.target.toNat { type := DescF.par d 2 1, usage := DescF.par d 4 2, level := l, derived := true, persist := true, parent := p, pgen := g, id := DescF.par d 32 4 } k) → exec (.keyDerive d o) s = .next ((v.keepKey d.target.toNat { rootId := (v.reg .KEY_ROOT_ID 0).toNat, type := DescF.par d 2 1, usage := DescF.par d 4 2, id := DescF.par d 32 4, derived := true, level := l, parent := p, pgen := g, label := (d.param.drop 8).take (DescF.par d 6 2), ctx := (d.param.drop 24).take 8 }).fin ((s.taken d).ticket d) stDone 0)) ∧
  (∀ (s : State) (d : Desc), (s.accepts 0x62 d = true) → (DescF.par d 0 1 ≠ 1) → (DescF.par d 0 1 ≠ 2) → (DescF.par d 0 1 ≠ 3) → (exec (.keyDestroy d) s = .next ((s.taken d).fin ((s.taken d).ticket d) stBad 24) ∧ exec (.keyDestroyChildren d) s = .next ((s.taken d).fin ((s.taken d).ticket d) stBad 24) ∧ exec (.evict d) s = .next ((s.taken d).fin ((s.taken d).ticket d) stBad 24))) ∧
  (∀ (s : State) (d : Desc), (s.accepts 0x62 d = true) → (DescF.par d 0 1 = 1) → ((s.taken d).keySt d.target.toNat ≠ 1) → exec (.keyDestroy d) s = .next ((s.taken d).fin ((s.taken d).ticket d) stDone 0)) ∧
  (∀ (s : State) (d : Desc) (g : Nat), (s.accepts 0x62 d = true) → (DescF.par d 0 1 = 1) → ((s.taken d).keySt d.target.toNat = 1) → ((if (s.taken d).flag Fld.KEY_ATTR__DERIVED d.target.toNat = true then (s.taken d).get Fld.KEY_PARENT__PARENT d.target.toNat else d.target.toNat) = g) → ((s.taken d).keyGen g = 0xFFFFFFFF) → exec (.keyDestroy d) s = .next ((s.taken d).fin ((s.taken d).ticket d) stCapacity 7)) ∧
  (∀ (s : State) (d : Desc) (g : Nat) (x : State × Nat), (s.accepts 0x62 d = true) → (DescF.par d 0 1 = 1) → ((s.taken d).keySt d.target.toNat = 1) → ((if (s.taken d).flag Fld.KEY_ATTR__DERIVED d.target.toNat = true then (s.taken d).get Fld.KEY_PARENT__PARENT d.target.toNat else d.target.toNat) = g) → ((s.taken d).keyGen g ≠ 0xFFFFFFFF) → (x = ((s.taken d).dropKey d.target.toNat 0).raiseGen g) → exec (.keyDestroy d) s = .next (x.1.fin ((s.taken d).ticket d) stDone (x.2 + 1))) ∧
  (∀ (s : State) (d : Desc), (s.accepts 0x62 d = true) → (DescF.par d 0 1 = 2) → ((decide (d.target.toNat < 4) || decide ((s.taken d).keySt d.target.toNat ≠ 1) || !(s.taken d).flag Fld.KEY_ATTR__DERIVED d.target.toNat) = true) → exec (.keyDestroyChildren d) s = .next ((s.taken d).fin ((s.taken d).ticket d) stCapacity 6)) ∧
  (∀ (s : State) (d : Desc), (s.accepts 0x62 d = true) → (DescF.par d 0 1 = 2) → ((decide (d.target.toNat < 4) || decide ((s.taken d).keySt d.target.toNat ≠ 1) || !(s.taken d).flag Fld.KEY_ATTR__DERIVED d.target.toNat) = false) → ((s.taken d).keyGen d.target.toNat = 0xFFFFFFFF) → exec (.keyDestroyChildren d) s = .next ((s.taken d).fin ((s.taken d).ticket d) stCapacity 7)) ∧
  (∀ (s : State) (d : Desc) (x : State × Nat), (s.accepts 0x62 d = true) → (DescF.par d 0 1 = 2) → ((decide (d.target.toNat < 4) || decide ((s.taken d).keySt d.target.toNat ≠ 1) || !(s.taken d).flag Fld.KEY_ATTR__DERIVED d.target.toNat) = false) → ((s.taken d).keyGen d.target.toNat ≠ 0xFFFFFFFF) → (x = (s.taken d).raiseGen d.target.toNat) → exec (.keyDestroyChildren d) s = .next (x.1.fin ((s.taken d).ticket d) stDone x.2)) ∧
  (∀ (s : State) (d : Desc), (s.accepts 0x62 d = true) → (DescF.par d 0 1 = 3) → ((s.taken d).keySt d.target.toNat ≠ 1) → exec (.evict d) s = .next ((s.taken d).fin ((s.taken d).ticket d) stDone 0)) ∧
  (∀ (s : State) (d : Desc), (s.accepts 0x62 d = true) → (DescF.par d 0 1 = 3) → ((s.taken d).keySt d.target.toNat = 1) → ((s.taken d).flag Fld.KEY_ATTR__DERIVED d.target.toNat = false) → ((s.taken d).flag Fld.KEY_ATTR__EXPORTED d.target.toNat = false) → exec (.evict d) s = .next ((s.taken d).fin ((s.taken d).ticket d) stCapacity 8)) ∧
  (∀ (s : State) (d : Desc), (s.accepts 0x62 d = true) → (DescF.par d 0 1 = 3) → ((s.taken d).keySt d.target.toNat = 1) → (((s.taken d).flag Fld.KEY_ATTR__DERIVED d.target.toNat || (s.taken d).flag Fld.KEY_ATTR__EXPORTED d.target.toNat) = true) → ((s.taken d).hasChildren d.target.toNat = true) → exec (.evict d) s = .next ((s.taken d).fin ((s.taken d).ticket d) stCapacity 0xC)) ∧
  (∀ (s : State) (d : Desc), (s.accepts 0x62 d = true) → (DescF.par d 0 1 = 3) → ((s.taken d).keySt d.target.toNat = 1) → (((s.taken d).flag Fld.KEY_ATTR__DERIVED d.target.toNat || (s.taken d).flag Fld.KEY_ATTR__EXPORTED d.target.toNat) = true) → ((s.taken d).hasChildren d.target.toNat = false) → exec (.evict d) s = .next ((((s.taken d).dropKey d.target.toNat 0).keyCounts).fin ((s.taken d).ticket d) stDone 1)) ∧
  (∀ (s : State) (n : Nat) (x : State × Nat), (x = (s.put Fld.KEY_GEN__GEN n (s.keyGen n + 1)).orphanTree 4) → s.raiseGen n = (x.1.keyCounts.postBoth { code := 0x0C2, sev := 1, obj := n, data := min x.2 65535 }, x.2)) ∧
  (∀ (s : State) (ok : Bool), (s.dieRuns .cdie = false) → exec (.drbgReseed ok) s = .next s) ∧
  (∀ (s : State), (s.dieRuns .cdie = true) → exec (.drbgReseed false) s = .next ((s.setRime { s.rime with drbg := 2 }).put Fld.KEY_ERR__DRBG 0 1)) ∧
  (∀ (s : State), (s.dieRuns .cdie = true) → exec (.drbgReseed true) s = .next (((s.setRime { s.rime with drbg := 1, reqs := 0 }).makeRoot).reopenLedger)) ∧
  (∀ (s : State) (k : Nat), ((decide (5 ≤ k) || !bitAt (s.get Fld.KEY_TAMPER__ARMED 0) k) = true) → exec (.tamperMonitorTrip k) s = .next s) ∧
  (∀ (s : State) (k : Nat), (s.tamperLatch k).rime.root = none ∧ (s.tamperLatch k).rime.zeroed = true) ∧
  (∀ (s u : State) (k : Nat), (k < 5) → (bitAt (s.get Fld.KEY_TAMPER__ARMED 0) k = true) → (u = s.tamperLatch k) → exec (.tamperMonitorTrip k) s = .next (if u.dieRuns .cdie && u.pwr ≠ 3 && !u.isOff then u.zeroiseSlots else u.setRime { u.rime with clearDue := true }))

/-- Staging, activation, handover, trial and configuration -/
def Obligations.UpdateCommands : Prop :=
  (∀ (s : State) (d : Desc) (rd : DmaRead) (x y z : Bool), (s.accepts 0x68 d = true) → (2 ≤ DescF.par d 8 1) → exec (.imageStage d rd x y z) s = .next ((s.taken d).fin ((s.taken d).ticket d) stBad 32)) ∧
  (∀ (s : State) (d : Desc) (rd : DmaRead) (x y z : Bool), (s.accepts 0x68 d = true) → (DescF.par d 8 1 < 2) → ((s.taken d).onTrial = true) → exec (.imageStage d rd x y z) s = .next ((s.taken d).fin ((s.taken d).ticket d) stCapacity 1)) ∧
  (∀ (s : State) (d : Desc) (rd : DmaRead) (x y z : Bool), (s.accepts 0x68 d = true) → (DescF.par d 8 1 < 2) → ((s.taken d).onTrial = false) → ((s.taken d).upd.phase ≠ 0) → exec (.imageStage d rd x y z) s = .next ((s.taken d).fin ((s.taken d).ticket d) stCapacity 2)) ∧
  (∀ (s : State) (d : Desc) (rd : DmaRead) (x y z : Bool), (s.accepts 0x68 d = true) → (DescF.par d 8 1 < 2) → ((s.taken d).onTrial = false) → ((s.taken d).upd.phase = 0) → (((s.taken d).upd.stage.any (·.1 != d.port)) = true) → exec (.imageStage d rd x y z) s = .next ((s.taken d).fin ((s.taken d).ticket d) stCapacity 3)) ∧
  (∀ (s : State) (d : Desc) (b : List Byte) (x y z : Bool) (c : List Byte), (s.accepts 0x68 d = true) → (DescF.par d 8 1 < 2) → ((s.taken d).onTrial = false) → ((s.taken d).upd.phase = 0) → (((s.taken d).upd.stage.any (·.1 != d.port)) = false) → (c = b.take (DescF.bufLen d)) → ((decide (DescF.par d 0 4 % 4096 ≠ 0) || (decide (DescF.par d 0 4 ≠ 0) && decide (DescF.par d 0 4 ≠ ((s.taken d).upd.stage.map (·.2)).getD 0)) || decide (DescF.par d 4 4 < DescF.par d 0 4 + c.length) || (bitAt (DescF.par d 8 1) 0 && decide (DescF.par d 4 4 ≠ DescF.par d 0 4 + c.length))) = true) → exec (.imageStage d (.data b) x y z) s = .next (((s.taken d).stageBreak.imgRefused stImage 6).fin ((s.taken d).ticket d) stImage 6)) ∧
  (∀ (s : State) (d : Desc) (b : List Byte) (x y z : Bool) (c : List Byte), (s.accepts 0x68 d = true) → (DescF.par d 8 1 < 2) → ((s.taken d).onTrial = false) → ((s.taken d).upd.phase = 0) → (((s.taken d).upd.stage.any (·.1 != d.port)) = false) → (c = b.take (DescF.bufLen d)) → ((decide (DescF.par d 0 4 % 4096 ≠ 0) || (decide (DescF.par d 0 4 ≠ 0) && decide (DescF.par d 0 4 ≠ ((s.taken d).upd.stage.map (·.2)).getD 0)) || decide (DescF.par d 4 4 < DescF.par d 0 4 + c.length) || (bitAt (DescF.par d 8 1) 0 && decide (DescF.par d 4 4 ≠ DescF.par d 0 4 + c.length))) = false) → (z = false) → exec (.imageStage d (.data b) x y z) s = .next (((s.taken d).stageEnd.put Fld.UPD_ERR__FLASH 0 1).fin ((s.taken d).ticket d) stCapacity 8)) ∧
  (∀ (s : State) (d : Desc) (b : List Byte) (x y z : Bool) (c : List Byte), (s.accepts 0x68 d = true) → (DescF.par d 8 1 < 2) → ((s.taken d).onTrial = false) → ((s.taken d).upd.phase = 0) → (((s.taken d).upd.stage.any (·.1 != d.port)) = false) → (c = b.take (DescF.bufLen d)) → ((decide (DescF.par d 0 4 % 4096 ≠ 0) || (decide (DescF.par d 0 4 ≠ 0) && decide (DescF.par d 0 4 ≠ ((s.taken d).upd.stage.map (·.2)).getD 0)) || decide (DescF.par d 4 4 < DescF.par d 0 4 + c.length) || (bitAt (DescF.par d 8 1) 0 && decide (DescF.par d 4 4 ≠ DescF.par d 0 4 + c.length))) = false) → (z = true) → (bitAt (DescF.par d 8 1) 0 = false) → exec (.imageStage d (.data b) x y z) s = .next (((s.taken d).stageChunk d c (DescF.par d 0 4) (DescF.par d 4 4)).fin ((s.taken d).ticket d) stDone (DescF.par d 0 4 + c.length))) ∧
  (∀ (s : State) (d : Desc) (b : List Byte) (x y z : Bool) (c : List Byte) (u : State), (s.accepts 0x68 d = true) → (DescF.par d 8 1 < 2) → ((s.taken d).onTrial = false) → ((s.taken d).upd.phase = 0) → (((s.taken d).upd.stage.any (·.1 != d.port)) = false) → (c = b.take (DescF.bufLen d)) → ((decide (DescF.par d 0 4 % 4096 ≠ 0) || (decide (DescF.par d 0 4 ≠ 0) && decide (DescF.par d 0 4 ≠ ((s.taken d).upd.stage.map (·.2)).getD 0)) || decide (DescF.par d 4 4 < DescF.par d 0 4 + c.length) || (bitAt (DescF.par d 8 1) 0 && decide (DescF.par d 4 4 ≠ DescF.par d 0 4 + c.length))) = false) → (z = true) → (bitAt (DescF.par d 8 1) 0 = true) → (u = (s.taken d).stageChunk d c (DescF.par d 0 4) (DescF.par d 4 4)) → exec (.imageStage d (.data b) x y z) s = .next (match u.imgFail (u.slotImg u.freeSlot) x y with | some (st, why) => (u.stageEnd.imgRefused st why).fin ((s.taken d).ticket d) st why | none => u.stageAccept ((s.taken d).ticket d) (DescF.par d 0 4 + c.length) (u.slotImg u.freeSlot))) ∧
  (∀ (s : State) (d : Desc) (k : Nat), (s.accepts 0x69 d = true) → (activateBad d 1 = some k) → exec (.hitless d) s = .next ((s.taken d).fin ((s.taken d).ticket d) stBad k)) ∧
  (∀ (s : State) (d : Desc) (k : Nat), (s.accepts 0x69 d = true) → (activateBad d 2 = some k) → exec (.restart d) s = .next ((s.taken d).fin ((s.taken d).ticket d) stBad k)) ∧
  (∀ (s : State) (d : Desc) (k : Nat), (s.accepts 0x69 d = true) → (activateBad d 4 = some k) → exec (.revert d) s = .next ((s.taken d).fin ((s.taken d).ticket d) stBad k)) ∧
  (∀ (s : State) (d : Desc) (k : Nat) (v : W32) (x y : Bool), (s.accepts 0x69 d = true) → (activateBad d 3 = some k) → exec (.firnInstall d v x y) s = .next ((s.taken d).fin ((s.taken d).ticket d) stBad k)) ∧
  (∀ (s : State) (d : Desc) (r : Nat), (s.accepts 0x69 d = true) → (activateBad d 1 = none) → ((s.taken d).activateRefusal true (bitAt (DescF.par d 1 1) 0) = some r) → exec (.hitless d) s = .next ((s.taken d).fin ((s.taken d).ticket d) stCapacity r)) ∧
  (∀ (s : State) (d : Desc) (m : Mapping) (b : List Byte), (s.accepts 0x69 d = true) → (activateBad d 1 = none) → ((s.taken d).activateRefusal true (bitAt (DescF.par d 1 1) 0) = none) → ((s.taken d).firmwareMap = some m) → ((s.taken d).stagedImg = some b) → exec (.hitless d) s = .next ((s.taken d).handoverBegin d ((s.taken d).ticket d) m b)) ∧
  (∀ (s : State), exec .handoverPrepared s = .next (if s.upd.phase = 1 then s.setUpd { s.upd with phase := 2 } else s)) ∧
  (∀ (s : State), s.beginPause = if s.upd.phase = 2 then s.setUpd { s.upd with phase := 3 } else s) ∧
  (∀ (s : State) (us : Nat), (s.upd.phase ≠ 3 ∨ 2000 < us) → exec (.handoverDone us) s = .next s) ∧
  (∀ (s : State) (us : Nat), (s.upd.phase = 3) → (us ≤ 2000) → exec (.handoverDone us) s = .next (if s.upd.rev then s.handBack us else s.handOver us)) ∧
  (∀ (s : State) (d : Desc) (r : Nat), (s.accepts 0x69 d = true) → (activateBad d 2 = none) → ((s.taken d).activateRefusal false (bitAt (DescF.par d 1 1) 0) = some r) → exec (.restart d) s = .next ((s.taken d).fin ((s.taken d).ticket d) stCapacity r)) ∧
  (∀ (s : State) (d : Desc) (k : Nat) (u : State), (s.accepts 0x69 d = true) → (activateBad d 2 = none) → ((s.taken d).activateRefusal false (bitAt (DescF.par d 1 1) 0) = none) → ((s.taken d).slotWith roStaged = some k) → (u = ((s.taken d).setRole k roTrial).setRole (1 - k) roFallback) → exec (.restart d) s = .next ((u.setUpd { u.upd with bootTrial := true, window := activateWindow d, oldMap := [], news := 0 }).cdieReset 4)) ∧
  (∀ (s : State) (d : Desc) (v : W32) (x y : Bool), (s.accepts 0x69 d = true) → (activateBad d 3 = none) → (((s.taken d).stagedImg.bind fun b => sectionHash b 5) = none) → exec (.firnInstall d v x y) s = .next ((s.taken d).fin ((s.taken d).ticket d) stCapacity 5)) ∧
  (∀ (s : State) (d : Desc) (v : W32) (x y : Bool) (k : Nat), (s.accepts 0x69 d = true) → (activateBad d 3 = none) → (((s.taken d).stagedImg.bind fun b => sectionHash b 5) = some k) → ((s.taken d).activateBusy = true) → exec (.firnInstall d v x y) s = .next ((s.taken d).fin ((s.taken d).ticket d) stCapacity 9)) ∧
  (∀ (s : State) (d : Desc) (v : W32) (x y : Bool) (k : Nat) (a b : State × Nat), (s.accepts 0x69 d = true) → (activateBad d 3 = none) → (((s.taken d).stagedImg.bind fun b => sectionHash b 5) = some k) → ((s.taken d).activateBusy = false) → (a = (if !bitAt (DescF.par d 2 1) 0 then ((s.taken d), 0xFFFF) else if ((s.taken d).firnOff .f0).isSome || !(s.taken d).firnLive .f0 then ((s.taken d), stDomainOff) else (s.taken d).installLegal .f0 v x)) → (b = (if !bitAt (DescF.par d 2 1) 1 then (a.1, 0xFFFF) else if !a.1.variant.hasF1 then (a.1, stAbsent) else if (a.1.firnOff .f1).isSome || !a.1.firnLive .f1 then (a.1, stDomainOff) else a.1.installLegal .f1 v y)) → exec (.firnInstall d v x y) s = .next (b.1.fin ((s.taken d).ticket d) stDone (a.2 + b.2 * 65536))) ∧
  (∀ (s : State) (d : Desc), (s.accepts 0x6A d = true) → ((s.taken d).slotWith roTrial = none ∨ (s.taken d).onTrial = false ∨ (s.taken d).upd.phase ≠ 0) → exec (.healthConfirm d) s = .next ((s.taken d).fin ((s.taken d).ticket d) stCapacity 1)) ∧
  (∀ (s : State) (d : Desc) (k : Nat), (s.accepts 0x6A d = true) → ((s.taken d).slotWith roTrial = some k) → ((s.taken d).onTrial = true) → ((s.taken d).upd.phase = 0) → exec (.healthConfirm d) s = .next ((((s.taken d).confirm k).fin ((s.taken d).ticket d) stDone).postBoth { code := 0xC05, sev := 0, data := imgSvn ((s.taken d).slotImg k) })) ∧
  (∀ (s : State), ((!s.onTrial || s.upd.warned) = true) → exec .trialExpiring s = .next (s)) ∧
  (∀ (s : State), (s.onTrial = true) → (s.upd.warned = false) → exec .trialExpiring s = .next ((s.setUpd { s.upd with warned := true }).postBoth { code := 0xC04, sev := 1, data := 5 })) ∧
  (∀ (s : State) (c : Nat) (t : Option Ticket), (s.upd.resident = true) → s.revert c t = (s.setUpd { s.upd with phase := 1, rev := true, cause := c, actT := t }).updMirror) ∧
  (∀ (s u : State) (c : Nat) (t : Option Ticket), (s.upd.resident = false) → (u = s.revertSlots) → s.revert c t = (u.setUpd { u.upd with news := c, oldMap := [] }).cdieReset 4) ∧
  (∀ (s : State) (d : Desc), (s.accepts 0x69 d = true) → (activateBad d 4 = none) → ((s.taken d).onTrial = false) → exec (.revert d) s = .next ((s.taken d).fin ((s.taken d).ticket d) stCapacity 6)) ∧
  (∀ (s : State) (d : Desc), (s.accepts 0x69 d = true) → (activateBad d 4 = none) → ((s.taken d).onTrial = true) → ((s.taken d).upd.phase ≠ 0) → exec (.revert d) s = .next ((s.taken d).fin ((s.taken d).ticket d) stDone)) ∧
  (∀ (s : State) (d : Desc), (s.accepts 0x69 d = true) → (activateBad d 4 = none) → ((s.taken d).onTrial = true) → ((s.taken d).upd.phase = 0) → ((s.taken d).activateBusy = true) → exec (.revert d) s = .next ((s.taken d).fin ((s.taken d).ticket d) stCapacity 9)) ∧
  (∀ (s : State) (d : Desc), (s.accepts 0x69 d = true) → (activateBad d 4 = none) → ((s.taken d).onTrial = true) → ((s.taken d).upd.phase = 0) → ((s.taken d).activateBusy = false) → exec (.revert d) s = .next ((s.taken d).revert 5 (some ((s.taken d).ticket d)))) ∧
  (∀ (s : State), ((!s.onTrial || decide (s.upd.phase ≠ 0)) = true) → exec .trialWindowExpiry s = .next (s)) ∧
  (∀ (s : State), (s.onTrial = true) → (s.upd.phase = 0) → (s.upd.cfgDue.isEmpty = true) → exec .trialWindowExpiry s = .next (s.windowOver)) ∧
  (∀ (s : State), (s.onTrial = true) → (s.upd.phase = 0) → (s.upd.cfgDue.isEmpty = false) → exec .trialWindowExpiry s = .next (s.setUpd { s.upd with trialOver := true })) ∧
  (∀ (s : State), s.windowOver = (s.setUpd { s.upd with trialOver := false }).revert (if !s.upd.resident && !s.upd.oldMap.isEmpty then 4 else 1) none) ∧
  (∀ (s : State) (d : Desc) (rd : DmaRead) (raw : List (Option ConfItem)) (x y : Bool), (s.upd.cfgDue.isEmpty = false) → exec (.configLoad d rd raw x y) s = .next (s)) ∧
  (∀ (s : State) (d : Desc) (b : List Byte) (raw : List (Option ConfItem)) (x y : Bool) (f : ConfFail), (s.accepts 0x6B d = true) → (s.upd.cfgDue.isEmpty = true) → ((s.taken d).headFail (b.take (DescF.bufLen d)) x = some f) → exec (.configLoad d (.data b) raw x y) s = .next ((s.taken d).confRefused ((s.taken d).ticket d) f)) ∧
  (∀ (s : State) (d : Desc) (b : List Byte) (raw : List (Option ConfItem)) (x y : Bool) (u : State) (f : ConfFail), (s.accepts 0x6B d = true) → (s.upd.cfgDue.isEmpty = true) → ((s.taken d).headFail (b.take (DescF.bufLen d)) x = none) → ((s.taken d).itemChecks (((s.taken d).confHeads (b.take (DescF.bufLen d))).getD []) raw y = (u, .inr f)) → exec (.configLoad d (.data b) raw x y) s = .next (u.confRefused ((s.taken d).ticket d) f)) ∧
  (∀ (s : State) (d : Desc) (b : List Byte) (raw : List (Option ConfItem)) (x y : Bool) (u : State) (c : Conf), (s.accepts 0x6B d = true) → (s.upd.cfgDue.isEmpty = true) → ((s.taken d).headFail (b.take (DescF.bufLen d)) x = none) → ((s.taken d).itemChecks (((s.taken d).confHeads (b.take (DescF.bufLen d))).getD []) raw y = (u, .inl c)) → exec (.configLoad d (.data b) raw x y) s = .next (u.confAccept ((s.taken d).ticket d) (b.take (DescF.bufLen d)) c)) ∧
  (∀ (s : State), (s.upd.cfgDue = []) → exec .configTakesEffect s = .next s) ∧
  (∀ (s : State) (t : Ticket) (c : Conf) (n : Nat) (r : List (Ticket × Conf × Nat)), (s.upd.cfgDue = (t, c, n) :: r) → ((s.inPause || !s.dieRuns .cdie || !s.pointMet (fselFloor c.tasks c.taskEngine)) = true) → exec .configTakesEffect s = .next s) ∧
  (∀ (s u : State) (t : Ticket) (c : Conf) (n : Nat) (r : List (Ticket × Conf × Nat)), (s.upd.cfgDue = (t, c, n) :: r) → (s.inPause = false) → (s.dieRuns .cdie = true) → (s.pointMet (fselFloor c.tasks c.taskEngine) = true) → (u = ((s.setUpd { s.upd with cfgDue := r }).applyConf c n).confDone t) → exec .configTakesEffect s = .next (if u.upd.trialOver && u.onTrial then u.windowOver else u))

/-- A step runs the command at the front of the queue on the state with the queue's rest; an empty queue idles -/
def Obligations.StepRunsFront : Prop :=
  (∀ (s : State) (c : Instr) (r : List Instr), (s.pending = c :: r) → step s = exec c { s with pending := r }) ∧
  (∀ (s : State), (s.pending = []) → step s = .next s) ∧
  (∀ (s : State) (n w : Nat), (decodeTableWord n w = none ∧ s.withFetchWord n w = s))

/-- Right after reset: every register at its reset value, RST_CAUSE.POR set, memory empty, no command waiting -/
def Obligations.ResetState : Prop :=
  (∀ (r : Reg) (i : Nat), (¬(r = .RST_CAUSE ∧ i = 0)) → State.reset.reg r i = BitVec.ofNat 32 r.info.reset) ∧
  (State.reset.reg .RST_CAUSE 0 = 1 ∧ State.reset.reg .SYS_ID 0 = 0x9192 ∧ State.reset.reg .PWR_DVFS 0 = 0x1200 ∧ State.reset.reg .HOST_CTRL 1 = 0x20064 ∧ State.reset.reg .PWR_IDLE_CFG 0 = 0xC0320040 ∧ State.reset.reg .DRV_ISNS_SEL 0 = 0x3F) ∧
  (State.reset.pending = [] ∧ State.reset.memOk ∧ ∀ a : Nat, memRead State.reset.mem a = 0)

/-- Every step keeps memory in its one form -/
def Obligations.MemoryForm : Prop :=
  (∀ (s t : State), (s.memOk) → (step s = .next t) → t.memOk)

/-- Every command completes, keeps the queue, variant and stepping, and only those that store to memory change it -/
def Obligations.CommandFrame : Prop :=
  (∀ (c : Instr) (s : State), ∃ t : State, exec c s = .next t ∧ t.pending = s.pending ∧ t.variant = s.variant ∧ t.stepping = s.stepping ∧ (mayStore c = false → ∀ a : Nat, memRead t.mem a = memRead s.mem a))
end

