-- ==== Sys2Proof/Laws/State.lean ====
section
/-!
SUPPORT. Laws/State.lean: what each named update of State does to each field: one lemma for each field and update, true by unfolding.
-/
namespace Sys2Proof.Machine

/-! ### setReg -/

@[simp] theorem State.setReg_pending (s : State) (r : Reg) (i : Nat) (v : W32) : (s.setReg r i v).pending = s.pending := rfl
@[simp] theorem State.setReg_variant (s : State) (r : Reg) (i : Nat) (v : W32) : (s.setReg r i v).variant = s.variant := rfl
@[simp] theorem State.setReg_stepping (s : State) (r : Reg) (i : Nat) (v : W32) : (s.setReg r i v).stepping = s.stepping := rfl
@[simp] theorem State.setReg_time (s : State) (r : Reg) (i : Nat) (v : W32) : (s.setReg r i v).time = s.time := rfl
@[simp] theorem State.setReg_devTime (s : State) (r : Reg) (i : Nat) (v : W32) : (s.setReg r i v).devTime = s.devTime := rfl
@[simp] theorem State.setReg_free (s : State) (r : Reg) (i : Nat) (v : W32) : (s.setReg r i v).free = s.free := rfl
@[simp] theorem State.setReg_regs_eq (s : State) (r : Reg) (i : Nat) (v : W32) : (s.setReg r i v).regs = tabSet s.regs ⟨r, i⟩ v := rfl
@[simp] theorem State.setReg_mem (s : State) (r : Reg) (i : Nat) (v : W32) : (s.setReg r i v).mem = s.mem := rfl
@[simp] theorem State.setReg_out (s : State) (r : Reg) (i : Nat) (v : W32) : (s.setReg r i v).out = s.out := rfl
@[simp] theorem State.setReg_gather (s : State) (r : Reg) (i : Nat) (v : W32) : (s.setReg r i v).gather = s.gather := rfl
@[simp] theorem State.setReg_ready (s : State) (r : Reg) (i : Nat) (v : W32) : (s.setReg r i v).ready = s.ready := rfl
@[simp] theorem State.setReg_h0 (s : State) (r : Reg) (i : Nat) (v : W32) : (s.setReg r i v).h0 = s.h0 := rfl
@[simp] theorem State.setReg_h1 (s : State) (r : Reg) (i : Nat) (v : W32) : (s.setReg r i v).h1 = s.h1 := rfl
@[simp] theorem State.setReg_mbx (s : State) (r : Reg) (i : Nat) (v : W32) : (s.setReg r i v).mbx = s.mbx := rfl
@[simp] theorem State.setReg_waits (s : State) (r : Reg) (i : Nat) (v : W32) : (s.setReg r i v).waits = s.waits := rfl
@[simp] theorem State.setReg_power (s : State) (r : Reg) (i : Nat) (v : W32) : (s.setReg r i v).power = s.power := rfl
@[simp] theorem State.setReg_boot (s : State) (r : Reg) (i : Nat) (v : W32) : (s.setReg r i v).boot = s.boot := rfl
@[simp] theorem State.setReg_pins (s : State) (r : Reg) (i : Nat) (v : W32) : (s.setReg r i v).pins = s.pins := rfl
@[simp] theorem State.setReg_straps (s : State) (r : Reg) (i : Nat) (v : W32) : (s.setReg r i v).straps = s.straps := rfl
@[simp] theorem State.setReg_mirror (s : State) (r : Reg) (i : Nat) (v : W32) : (s.setReg r i v).mirror = s.mirror := rfl
@[simp] theorem State.setReg_cfg (s : State) (r : Reg) (i : Nat) (v : W32) : (s.setReg r i v).cfg = s.cfg := rfl
@[simp] theorem State.setReg_timeSets (s : State) (r : Reg) (i : Nat) (v : W32) : (s.setReg r i v).timeSets = s.timeSets := rfl
@[simp] theorem State.setReg_eth (s : State) (r : Reg) (i : Nat) (v : W32) : (s.setReg r i v).eth = s.eth := rfl
@[simp] theorem State.setReg_eng (s : State) (r : Reg) (i : Nat) (v : W32) : (s.setReg r i v).eng = s.eng := rfl
@[simp] theorem State.setReg_msgQueue (s : State) (r : Reg) (i : Nat) (v : W32) : (s.setReg r i v).msgQueue = s.msgQueue := rfl
@[simp] theorem State.setReg_mbxQueue (s : State) (r : Reg) (i : Nat) (v : W32) : (s.setReg r i v).mbxQueue = s.mbxQueue := rfl
@[simp] theorem State.setReg_lateSeqs (s : State) (r : Reg) (i : Nat) (v : W32) : (s.setReg r i v).lateSeqs = s.lateSeqs := rfl
@[simp] theorem State.setReg_orders (s : State) (r : Reg) (i : Nat) (v : W32) : (s.setReg r i v).orders = s.orders := rfl
@[simp] theorem State.setReg_f0 (s : State) (r : Reg) (i : Nat) (v : W32) : (s.setReg r i v).f0 = s.f0 := rfl
@[simp] theorem State.setReg_f1 (s : State) (r : Reg) (i : Nat) (v : W32) : (s.setReg r i v).f1 = s.f1 := rfl
@[simp] theorem State.setReg_points (s : State) (r : Reg) (i : Nat) (v : W32) : (s.setReg r i v).points = s.points := rfl
@[simp] theorem State.setReg_prove (s : State) (r : Reg) (i : Nat) (v : W32) : (s.setReg r i v).prove = s.prove := rfl
@[simp] theorem State.setReg_limits (s : State) (r : Reg) (i : Nat) (v : W32) : (s.setReg r i v).limits = s.limits := rfl
@[simp] theorem State.setReg_disp (s : State) (r : Reg) (i : Nat) (v : W32) : (s.setReg r i v).disp = s.disp := rfl
@[simp] theorem State.setReg_ledger (s : State) (r : Reg) (i : Nat) (v : W32) : (s.setReg r i v).ledger = s.ledger := rfl
@[simp] theorem State.setReg_starts (s : State) (r : Reg) (i : Nat) (v : W32) : (s.setReg r i v).starts = s.starts := rfl
@[simp] theorem State.setReg_slices (s : State) (r : Reg) (i : Nat) (v : W32) : (s.setReg r i v).slices = s.slices := rfl
@[simp] theorem State.setReg_switches (s : State) (r : Reg) (i : Nat) (v : W32) : (s.setReg r i v).switches = s.switches := rfl
@[simp] theorem State.setReg_gov (s : State) (r : Reg) (i : Nat) (v : W32) : (s.setReg r i v).gov = s.gov := rfl
@[simp] theorem State.setReg_stops (s : State) (r : Reg) (i : Nat) (v : W32) : (s.setReg r i v).stops = s.stops := rfl
@[simp] theorem State.setReg_serac (s : State) (r : Reg) (i : Nat) (v : W32) : (s.setReg r i v).serac = s.serac := rfl
@[simp] theorem State.setReg_ky (s : State) (r : Reg) (i : Nat) (v : W32) : (s.setReg r i v).ky = s.ky := rfl
@[simp] theorem State.setReg_reader (s : State) (r : Reg) (i : Nat) (v : W32) : (s.setReg r i v).reader = s.reader := rfl
@[simp] theorem State.setReg_rime (s : State) (r : Reg) (i : Nat) (v : W32) : (s.setReg r i v).rime = s.rime := rfl
@[simp] theorem State.setReg_upd (s : State) (r : Reg) (i : Nat) (v : W32) : (s.setReg r i v).upd = s.upd := rfl

/-! ### put -/

@[simp] theorem State.put_pending (s : State) (f : Fld) (i v : Nat) : (s.put f i v).pending = s.pending := rfl
@[simp] theorem State.put_variant (s : State) (f : Fld) (i v : Nat) : (s.put f i v).variant = s.variant := rfl
@[simp] theorem State.put_stepping (s : State) (f : Fld) (i v : Nat) : (s.put f i v).stepping = s.stepping := rfl
@[simp] theorem State.put_time (s : State) (f : Fld) (i v : Nat) : (s.put f i v).time = s.time := rfl
@[simp] theorem State.put_devTime (s : State) (f : Fld) (i v : Nat) : (s.put f i v).devTime = s.devTime := rfl
@[simp] theorem State.put_free (s : State) (f : Fld) (i v : Nat) : (s.put f i v).free = s.free := rfl
@[simp] theorem State.put_mem (s : State) (f : Fld) (i v : Nat) : (s.put f i v).mem = s.mem := rfl
@[simp] theorem State.put_out (s : State) (f : Fld) (i v : Nat) : (s.put f i v).out = s.out := rfl
@[simp] theorem State.put_gather (s : State) (f : Fld) (i v : Nat) : (s.put f i v).gather = s.gather := rfl
@[simp] theorem State.put_ready (s : State) (f : Fld) (i v : Nat) : (s.put f i v).ready = s.ready := rfl
@[simp] theorem State.put_h0 (s : State) (f : Fld) (i v : Nat) : (s.put f i v).h0 = s.h0 := rfl
@[simp] theorem State.put_h1 (s : State) (f : Fld) (i v : Nat) : (s.put f i v).h1 = s.h1 := rfl
@[simp] theorem State.put_mbx (s : State) (f : Fld) (i v : Nat) : (s.put f i v).mbx = s.mbx := rfl
@[simp] theorem State.put_waits (s : State) (f : Fld) (i v : Nat) : (s.put f i v).waits = s.waits := rfl
@[simp] theorem State.put_power (s : State) (f : Fld) (i v : Nat) : (s.put f i v).power = s.power := rfl
@[simp] theorem State.put_boot (s : State) (f : Fld) (i v : Nat) : (s.put f i v).boot = s.boot := rfl
@[simp] theorem State.put_pins (s : State) (f : Fld) (i v : Nat) : (s.put f i v).pins = s.pins := rfl
@[simp] theorem State.put_straps (s : State) (f : Fld) (i v : Nat) : (s.put f i v).straps = s.straps := rfl
@[simp] theorem State.put_mirror (s : State) (f : Fld) (i v : Nat) : (s.put f i v).mirror = s.mirror := rfl
@[simp] theorem State.put_cfg (s : State) (f : Fld) (i v : Nat) : (s.put f i v).cfg = s.cfg := rfl
@[simp] theorem State.put_timeSets (s : State) (f : Fld) (i v : Nat) : (s.put f i v).timeSets = s.timeSets := rfl
@[simp] theorem State.put_eth (s : State) (f : Fld) (i v : Nat) : (s.put f i v).eth = s.eth := rfl
@[simp] theorem State.put_eng (s : State) (f : Fld) (i v : Nat) : (s.put f i v).eng = s.eng := rfl
@[simp] theorem State.put_msgQueue (s : State) (f : Fld) (i v : Nat) : (s.put f i v).msgQueue = s.msgQueue := rfl
@[simp] theorem State.put_mbxQueue (s : State) (f : Fld) (i v : Nat) : (s.put f i v).mbxQueue = s.mbxQueue := rfl
@[simp] theorem State.put_lateSeqs (s : State) (f : Fld) (i v : Nat) : (s.put f i v).lateSeqs = s.lateSeqs := rfl
@[simp] theorem State.put_orders (s : State) (f : Fld) (i v : Nat) : (s.put f i v).orders = s.orders := rfl
@[simp] theorem State.put_f0 (s : State) (f : Fld) (i v : Nat) : (s.put f i v).f0 = s.f0 := rfl
@[simp] theorem State.put_f1 (s : State) (f : Fld) (i v : Nat) : (s.put f i v).f1 = s.f1 := rfl
@[simp] theorem State.put_points (s : State) (f : Fld) (i v : Nat) : (s.put f i v).points = s.points := rfl
@[simp] theorem State.put_prove (s : State) (f : Fld) (i v : Nat) : (s.put f i v).prove = s.prove := rfl
@[simp] theorem State.put_limits (s : State) (f : Fld) (i v : Nat) : (s.put f i v).limits = s.limits := rfl
@[simp] theorem State.put_disp (s : State) (f : Fld) (i v : Nat) : (s.put f i v).disp = s.disp := rfl
@[simp] theorem State.put_ledger (s : State) (f : Fld) (i v : Nat) : (s.put f i v).ledger = s.ledger := rfl
@[simp] theorem State.put_starts (s : State) (f : Fld) (i v : Nat) : (s.put f i v).starts = s.starts := rfl
@[simp] theorem State.put_slices (s : State) (f : Fld) (i v : Nat) : (s.put f i v).slices = s.slices := rfl
@[simp] theorem State.put_switches (s : State) (f : Fld) (i v : Nat) : (s.put f i v).switches = s.switches := rfl
@[simp] theorem State.put_gov (s : State) (f : Fld) (i v : Nat) : (s.put f i v).gov = s.gov := rfl
@[simp] theorem State.put_stops (s : State) (f : Fld) (i v : Nat) : (s.put f i v).stops = s.stops := rfl
@[simp] theorem State.put_serac (s : State) (f : Fld) (i v : Nat) : (s.put f i v).serac = s.serac := rfl
@[simp] theorem State.put_ky (s : State) (f : Fld) (i v : Nat) : (s.put f i v).ky = s.ky := rfl
@[simp] theorem State.put_reader (s : State) (f : Fld) (i v : Nat) : (s.put f i v).reader = s.reader := rfl
@[simp] theorem State.put_rime (s : State) (f : Fld) (i v : Nat) : (s.put f i v).rime = s.rime := rfl
@[simp] theorem State.put_upd (s : State) (f : Fld) (i v : Nat) : (s.put f i v).upd = s.upd := rfl

/-! ### putB -/

@[simp] theorem State.putB_pending (s : State) (f : Fld) (i : Nat) (b : Bool) : (s.putB f i b).pending = s.pending := rfl
@[simp] theorem State.putB_variant (s : State) (f : Fld) (i : Nat) (b : Bool) : (s.putB f i b).variant = s.variant := rfl
@[simp] theorem State.putB_stepping (s : State) (f : Fld) (i : Nat) (b : Bool) : (s.putB f i b).stepping = s.stepping := rfl
@[simp] theorem State.putB_time (s : State) (f : Fld) (i : Nat) (b : Bool) : (s.putB f i b).time = s.time := rfl
@[simp] theorem State.putB_devTime (s : State) (f : Fld) (i : Nat) (b : Bool) : (s.putB f i b).devTime = s.devTime := rfl
@[simp] theorem State.putB_free (s : State) (f : Fld) (i : Nat) (b : Bool) : (s.putB f i b).free = s.free := rfl
@[simp] theorem State.putB_mem (s : State) (f : Fld) (i : Nat) (b : Bool) : (s.putB f i b).mem = s.mem := rfl
@[simp] theorem State.putB_out (s : State) (f : Fld) (i : Nat) (b : Bool) : (s.putB f i b).out = s.out := rfl
@[simp] theorem State.putB_gather (s : State) (f : Fld) (i : Nat) (b : Bool) : (s.putB f i b).gather = s.gather := rfl
@[simp] theorem State.putB_ready (s : State) (f : Fld) (i : Nat) (b : Bool) : (s.putB f i b).ready = s.ready := rfl
@[simp] theorem State.putB_h0 (s : State) (f : Fld) (i : Nat) (b : Bool) : (s.putB f i b).h0 = s.h0 := rfl
@[simp] theorem State.putB_h1 (s : State) (f : Fld) (i : Nat) (b : Bool) : (s.putB f i b).h1 = s.h1 := rfl
@[simp] theorem State.putB_mbx (s : State) (f : Fld) (i : Nat) (b : Bool) : (s.putB f i b).mbx = s.mbx := rfl
@[simp] theorem State.putB_waits (s : State) (f : Fld) (i : Nat) (b : Bool) : (s.putB f i b).waits = s.waits := rfl
@[simp] theorem State.putB_power (s : State) (f : Fld) (i : Nat) (b : Bool) : (s.putB f i b).power = s.power := rfl
@[simp] theorem State.putB_boot (s : State) (f : Fld) (i : Nat) (b : Bool) : (s.putB f i b).boot = s.boot := rfl
@[simp] theorem State.putB_pins (s : State) (f : Fld) (i : Nat) (b : Bool) : (s.putB f i b).pins = s.pins := rfl
@[simp] theorem State.putB_straps (s : State) (f : Fld) (i : Nat) (b : Bool) : (s.putB f i b).straps = s.straps := rfl
@[simp] theorem State.putB_mirror (s : State) (f : Fld) (i : Nat) (b : Bool) : (s.putB f i b).mirror = s.mirror := rfl
@[simp] theorem State.putB_cfg (s : State) (f : Fld) (i : Nat) (b : Bool) : (s.putB f i b).cfg = s.cfg := rfl
@[simp] theorem State.putB_timeSets (s : State) (f : Fld) (i : Nat) (b : Bool) : (s.putB f i b).timeSets = s.timeSets := rfl
@[simp] theorem State.putB_eth (s : State) (f : Fld) (i : Nat) (b : Bool) : (s.putB f i b).eth = s.eth := rfl
@[simp] theorem State.putB_eng (s : State) (f : Fld) (i : Nat) (b : Bool) : (s.putB f i b).eng = s.eng := rfl
@[simp] theorem State.putB_msgQueue (s : State) (f : Fld) (i : Nat) (b : Bool) : (s.putB f i b).msgQueue = s.msgQueue := rfl
@[simp] theorem State.putB_mbxQueue (s : State) (f : Fld) (i : Nat) (b : Bool) : (s.putB f i b).mbxQueue = s.mbxQueue := rfl
@[simp] theorem State.putB_lateSeqs (s : State) (f : Fld) (i : Nat) (b : Bool) : (s.putB f i b).lateSeqs = s.lateSeqs := rfl
@[simp] theorem State.putB_orders (s : State) (f : Fld) (i : Nat) (b : Bool) : (s.putB f i b).orders = s.orders := rfl
@[simp] theorem State.putB_f0 (s : State) (f : Fld) (i : Nat) (b : Bool) : (s.putB f i b).f0 = s.f0 := rfl
@[simp] theorem State.putB_f1 (s : State) (f : Fld) (i : Nat) (b : Bool) : (s.putB f i b).f1 = s.f1 := rfl
@[simp] theorem State.putB_points (s : State) (f : Fld) (i : Nat) (b : Bool) : (s.putB f i b).points = s.points := rfl
@[simp] theorem State.putB_prove (s : State) (f : Fld) (i : Nat) (b : Bool) : (s.putB f i b).prove = s.prove := rfl
@[simp] theorem State.putB_limits (s : State) (f : Fld) (i : Nat) (b : Bool) : (s.putB f i b).limits = s.limits := rfl
@[simp] theorem State.putB_disp (s : State) (f : Fld) (i : Nat) (b : Bool) : (s.putB f i b).disp = s.disp := rfl
@[simp] theorem State.putB_ledger (s : State) (f : Fld) (i : Nat) (b : Bool) : (s.putB f i b).ledger = s.ledger := rfl
@[simp] theorem State.putB_starts (s : State) (f : Fld) (i : Nat) (b : Bool) : (s.putB f i b).starts = s.starts := rfl
@[simp] theorem State.putB_slices (s : State) (f : Fld) (i : Nat) (b : Bool) : (s.putB f i b).slices = s.slices := rfl
@[simp] theorem State.putB_switches (s : State) (f : Fld) (i : Nat) (b : Bool) : (s.putB f i b).switches = s.switches := rfl
@[simp] theorem State.putB_gov (s : State) (f : Fld) (i : Nat) (b : Bool) : (s.putB f i b).gov = s.gov := rfl
@[simp] theorem State.putB_stops (s : State) (f : Fld) (i : Nat) (b : Bool) : (s.putB f i b).stops = s.stops := rfl
@[simp] theorem State.putB_serac (s : State) (f : Fld) (i : Nat) (b : Bool) : (s.putB f i b).serac = s.serac := rfl
@[simp] theorem State.putB_ky (s : State) (f : Fld) (i : Nat) (b : Bool) : (s.putB f i b).ky = s.ky := rfl
@[simp] theorem State.putB_reader (s : State) (f : Fld) (i : Nat) (b : Bool) : (s.putB f i b).reader = s.reader := rfl
@[simp] theorem State.putB_rime (s : State) (f : Fld) (i : Nat) (b : Bool) : (s.putB f i b).rime = s.rime := rfl
@[simp] theorem State.putB_upd (s : State) (f : Fld) (i : Nat) (b : Bool) : (s.putB f i b).upd = s.upd := rfl

/-! ### bump -/

@[simp] theorem State.bump_pending (s : State) (f : Fld) (i n : Nat) : (s.bump f i n).pending = s.pending := rfl
@[simp] theorem State.bump_variant (s : State) (f : Fld) (i n : Nat) : (s.bump f i n).variant = s.variant := rfl
@[simp] theorem State.bump_stepping (s : State) (f : Fld) (i n : Nat) : (s.bump f i n).stepping = s.stepping := rfl
@[simp] theorem State.bump_time (s : State) (f : Fld) (i n : Nat) : (s.bump f i n).time = s.time := rfl
@[simp] theorem State.bump_devTime (s : State) (f : Fld) (i n : Nat) : (s.bump f i n).devTime = s.devTime := rfl
@[simp] theorem State.bump_free (s : State) (f : Fld) (i n : Nat) : (s.bump f i n).free = s.free := rfl
@[simp] theorem State.bump_mem (s : State) (f : Fld) (i n : Nat) : (s.bump f i n).mem = s.mem := rfl
@[simp] theorem State.bump_out (s : State) (f : Fld) (i n : Nat) : (s.bump f i n).out = s.out := rfl
@[simp] theorem State.bump_gather (s : State) (f : Fld) (i n : Nat) : (s.bump f i n).gather = s.gather := rfl
@[simp] theorem State.bump_ready (s : State) (f : Fld) (i n : Nat) : (s.bump f i n).ready = s.ready := rfl
@[simp] theorem State.bump_h0 (s : State) (f : Fld) (i n : Nat) : (s.bump f i n).h0 = s.h0 := rfl
@[simp] theorem State.bump_h1 (s : State) (f : Fld) (i n : Nat) : (s.bump f i n).h1 = s.h1 := rfl
@[simp] theorem State.bump_mbx (s : State) (f : Fld) (i n : Nat) : (s.bump f i n).mbx = s.mbx := rfl
@[simp] theorem State.bump_waits (s : State) (f : Fld) (i n : Nat) : (s.bump f i n).waits = s.waits := rfl
@[simp] theorem State.bump_power (s : State) (f : Fld) (i n : Nat) : (s.bump f i n).power = s.power := rfl
@[simp] theorem State.bump_boot (s : State) (f : Fld) (i n : Nat) : (s.bump f i n).boot = s.boot := rfl
@[simp] theorem State.bump_pins (s : State) (f : Fld) (i n : Nat) : (s.bump f i n).pins = s.pins := rfl
@[simp] theorem State.bump_straps (s : State) (f : Fld) (i n : Nat) : (s.bump f i n).straps = s.straps := rfl
@[simp] theorem State.bump_mirror (s : State) (f : Fld) (i n : Nat) : (s.bump f i n).mirror = s.mirror := rfl
@[simp] theorem State.bump_cfg (s : State) (f : Fld) (i n : Nat) : (s.bump f i n).cfg = s.cfg := rfl
@[simp] theorem State.bump_timeSets (s : State) (f : Fld) (i n : Nat) : (s.bump f i n).timeSets = s.timeSets := rfl
@[simp] theorem State.bump_eth (s : State) (f : Fld) (i n : Nat) : (s.bump f i n).eth = s.eth := rfl
@[simp] theorem State.bump_eng (s : State) (f : Fld) (i n : Nat) : (s.bump f i n).eng = s.eng := rfl
@[simp] theorem State.bump_msgQueue (s : State) (f : Fld) (i n : Nat) : (s.bump f i n).msgQueue = s.msgQueue := rfl
@[simp] theorem State.bump_mbxQueue (s : State) (f : Fld) (i n : Nat) : (s.bump f i n).mbxQueue = s.mbxQueue := rfl
@[simp] theorem State.bump_lateSeqs (s : State) (f : Fld) (i n : Nat) : (s.bump f i n).lateSeqs = s.lateSeqs := rfl
@[simp] theorem State.bump_orders (s : State) (f : Fld) (i n : Nat) : (s.bump f i n).orders = s.orders := rfl
@[simp] theorem State.bump_f0 (s : State) (f : Fld) (i n : Nat) : (s.bump f i n).f0 = s.f0 := rfl
@[simp] theorem State.bump_f1 (s : State) (f : Fld) (i n : Nat) : (s.bump f i n).f1 = s.f1 := rfl
@[simp] theorem State.bump_points (s : State) (f : Fld) (i n : Nat) : (s.bump f i n).points = s.points := rfl
@[simp] theorem State.bump_prove (s : State) (f : Fld) (i n : Nat) : (s.bump f i n).prove = s.prove := rfl
@[simp] theorem State.bump_limits (s : State) (f : Fld) (i n : Nat) : (s.bump f i n).limits = s.limits := rfl
@[simp] theorem State.bump_disp (s : State) (f : Fld) (i n : Nat) : (s.bump f i n).disp = s.disp := rfl
@[simp] theorem State.bump_ledger (s : State) (f : Fld) (i n : Nat) : (s.bump f i n).ledger = s.ledger := rfl
@[simp] theorem State.bump_starts (s : State) (f : Fld) (i n : Nat) : (s.bump f i n).starts = s.starts := rfl
@[simp] theorem State.bump_slices (s : State) (f : Fld) (i n : Nat) : (s.bump f i n).slices = s.slices := rfl
@[simp] theorem State.bump_switches (s : State) (f : Fld) (i n : Nat) : (s.bump f i n).switches = s.switches := rfl
@[simp] theorem State.bump_gov (s : State) (f : Fld) (i n : Nat) : (s.bump f i n).gov = s.gov := rfl
@[simp] theorem State.bump_stops (s : State) (f : Fld) (i n : Nat) : (s.bump f i n).stops = s.stops := rfl
@[simp] theorem State.bump_serac (s : State) (f : Fld) (i n : Nat) : (s.bump f i n).serac = s.serac := rfl
@[simp] theorem State.bump_ky (s : State) (f : Fld) (i n : Nat) : (s.bump f i n).ky = s.ky := rfl
@[simp] theorem State.bump_reader (s : State) (f : Fld) (i n : Nat) : (s.bump f i n).reader = s.reader := rfl
@[simp] theorem State.bump_rime (s : State) (f : Fld) (i n : Nat) : (s.bump f i n).rime = s.rime := rfl
@[simp] theorem State.bump_upd (s : State) (f : Fld) (i n : Nat) : (s.bump f i n).upd = s.upd := rfl

/-! ### setMem -/

@[simp] theorem State.setMem_pending (s : State) (m : List Host.Cell) : (s.setMem m).pending = s.pending := rfl
@[simp] theorem State.setMem_variant (s : State) (m : List Host.Cell) : (s.setMem m).variant = s.variant := rfl
@[simp] theorem State.setMem_stepping (s : State) (m : List Host.Cell) : (s.setMem m).stepping = s.stepping := rfl
@[simp] theorem State.setMem_time (s : State) (m : List Host.Cell) : (s.setMem m).time = s.time := rfl
@[simp] theorem State.setMem_devTime (s : State) (m : List Host.Cell) : (s.setMem m).devTime = s.devTime := rfl
@[simp] theorem State.setMem_free (s : State) (m : List Host.Cell) : (s.setMem m).free = s.free := rfl
@[simp] theorem State.setMem_regs (s : State) (m : List Host.Cell) : (s.setMem m).regs = s.regs := rfl
@[simp] theorem State.setMem_mem (s : State) (m : List Host.Cell) : (s.setMem m).mem = m := rfl
@[simp] theorem State.setMem_out (s : State) (m : List Host.Cell) : (s.setMem m).out = s.out := rfl
@[simp] theorem State.setMem_gather (s : State) (m : List Host.Cell) : (s.setMem m).gather = s.gather := rfl
@[simp] theorem State.setMem_ready (s : State) (m : List Host.Cell) : (s.setMem m).ready = s.ready := rfl
@[simp] theorem State.setMem_h0 (s : State) (m : List Host.Cell) : (s.setMem m).h0 = s.h0 := rfl
@[simp] theorem State.setMem_h1 (s : State) (m : List Host.Cell) : (s.setMem m).h1 = s.h1 := rfl
@[simp] theorem State.setMem_mbx (s : State) (m : List Host.Cell) : (s.setMem m).mbx = s.mbx := rfl
@[simp] theorem State.setMem_waits (s : State) (m : List Host.Cell) : (s.setMem m).waits = s.waits := rfl
@[simp] theorem State.setMem_power (s : State) (m : List Host.Cell) : (s.setMem m).power = s.power := rfl
@[simp] theorem State.setMem_boot (s : State) (m : List Host.Cell) : (s.setMem m).boot = s.boot := rfl
@[simp] theorem State.setMem_pins (s : State) (m : List Host.Cell) : (s.setMem m).pins = s.pins := rfl
@[simp] theorem State.setMem_straps (s : State) (m : List Host.Cell) : (s.setMem m).straps = s.straps := rfl
@[simp] theorem State.setMem_mirror (s : State) (m : List Host.Cell) : (s.setMem m).mirror = s.mirror := rfl
@[simp] theorem State.setMem_cfg (s : State) (m : List Host.Cell) : (s.setMem m).cfg = s.cfg := rfl
@[simp] theorem State.setMem_timeSets (s : State) (m : List Host.Cell) : (s.setMem m).timeSets = s.timeSets := rfl
@[simp] theorem State.setMem_eth (s : State) (m : List Host.Cell) : (s.setMem m).eth = s.eth := rfl
@[simp] theorem State.setMem_eng (s : State) (m : List Host.Cell) : (s.setMem m).eng = s.eng := rfl
@[simp] theorem State.setMem_msgQueue (s : State) (m : List Host.Cell) : (s.setMem m).msgQueue = s.msgQueue := rfl
@[simp] theorem State.setMem_mbxQueue (s : State) (m : List Host.Cell) : (s.setMem m).mbxQueue = s.mbxQueue := rfl
@[simp] theorem State.setMem_lateSeqs (s : State) (m : List Host.Cell) : (s.setMem m).lateSeqs = s.lateSeqs := rfl
@[simp] theorem State.setMem_orders (s : State) (m : List Host.Cell) : (s.setMem m).orders = s.orders := rfl
@[simp] theorem State.setMem_f0 (s : State) (m : List Host.Cell) : (s.setMem m).f0 = s.f0 := rfl
@[simp] theorem State.setMem_f1 (s : State) (m : List Host.Cell) : (s.setMem m).f1 = s.f1 := rfl
@[simp] theorem State.setMem_points (s : State) (m : List Host.Cell) : (s.setMem m).points = s.points := rfl
@[simp] theorem State.setMem_prove (s : State) (m : List Host.Cell) : (s.setMem m).prove = s.prove := rfl
@[simp] theorem State.setMem_limits (s : State) (m : List Host.Cell) : (s.setMem m).limits = s.limits := rfl
@[simp] theorem State.setMem_disp (s : State) (m : List Host.Cell) : (s.setMem m).disp = s.disp := rfl
@[simp] theorem State.setMem_ledger (s : State) (m : List Host.Cell) : (s.setMem m).ledger = s.ledger := rfl
@[simp] theorem State.setMem_starts (s : State) (m : List Host.Cell) : (s.setMem m).starts = s.starts := rfl
@[simp] theorem State.setMem_slices (s : State) (m : List Host.Cell) : (s.setMem m).slices = s.slices := rfl
@[simp] theorem State.setMem_switches (s : State) (m : List Host.Cell) : (s.setMem m).switches = s.switches := rfl
@[simp] theorem State.setMem_gov (s : State) (m : List Host.Cell) : (s.setMem m).gov = s.gov := rfl
@[simp] theorem State.setMem_stops (s : State) (m : List Host.Cell) : (s.setMem m).stops = s.stops := rfl
@[simp] theorem State.setMem_serac (s : State) (m : List Host.Cell) : (s.setMem m).serac = s.serac := rfl
@[simp] theorem State.setMem_ky (s : State) (m : List Host.Cell) : (s.setMem m).ky = s.ky := rfl
@[simp] theorem State.setMem_reader (s : State) (m : List Host.Cell) : (s.setMem m).reader = s.reader := rfl
@[simp] theorem State.setMem_rime (s : State) (m : List Host.Cell) : (s.setMem m).rime = s.rime := rfl
@[simp] theorem State.setMem_upd (s : State) (m : List Host.Cell) : (s.setMem m).upd = s.upd := rfl

/-! ### emit -/

@[simp] theorem State.emit_pending (s : State) (o : Out) : (s.emit o).pending = s.pending := rfl
@[simp] theorem State.emit_variant (s : State) (o : Out) : (s.emit o).variant = s.variant := rfl
@[simp] theorem State.emit_stepping (s : State) (o : Out) : (s.emit o).stepping = s.stepping := rfl
@[simp] theorem State.emit_time (s : State) (o : Out) : (s.emit o).time = s.time := rfl
@[simp] theorem State.emit_devTime (s : State) (o : Out) : (s.emit o).devTime = s.devTime := rfl
@[simp] theorem State.emit_free (s : State) (o : Out) : (s.emit o).free = s.free := rfl
@[simp] theorem State.emit_regs (s : State) (o : Out) : (s.emit o).regs = s.regs := rfl
@[simp] theorem State.emit_mem (s : State) (o : Out) : (s.emit o).mem = s.mem := rfl
@[simp] theorem State.emit_gather (s : State) (o : Out) : (s.emit o).gather = s.gather := rfl
@[simp] theorem State.emit_ready (s : State) (o : Out) : (s.emit o).ready = s.ready := rfl
@[simp] theorem State.emit_h0 (s : State) (o : Out) : (s.emit o).h0 = s.h0 := rfl
@[simp] theorem State.emit_h1 (s : State) (o : Out) : (s.emit o).h1 = s.h1 := rfl
@[simp] theorem State.emit_mbx (s : State) (o : Out) : (s.emit o).mbx = s.mbx := rfl
@[simp] theorem State.emit_waits (s : State) (o : Out) : (s.emit o).waits = s.waits := rfl
@[simp] theorem State.emit_power (s : State) (o : Out) : (s.emit o).power = s.power := rfl
@[simp] theorem State.emit_boot (s : State) (o : Out) : (s.emit o).boot = s.boot := rfl
@[simp] theorem State.emit_pins (s : State) (o : Out) : (s.emit o).pins = s.pins := rfl
@[simp] theorem State.emit_straps (s : State) (o : Out) : (s.emit o).straps = s.straps := rfl
@[simp] theorem State.emit_mirror (s : State) (o : Out) : (s.emit o).mirror = s.mirror := rfl
@[simp] theorem State.emit_cfg (s : State) (o : Out) : (s.emit o).cfg = s.cfg := rfl
@[simp] theorem State.emit_timeSets (s : State) (o : Out) : (s.emit o).timeSets = s.timeSets := rfl
@[simp] theorem State.emit_eth (s : State) (o : Out) : (s.emit o).eth = s.eth := rfl
@[simp] theorem State.emit_eng (s : State) (o : Out) : (s.emit o).eng = s.eng := rfl
@[simp] theorem State.emit_msgQueue (s : State) (o : Out) : (s.emit o).msgQueue = s.msgQueue := rfl
@[simp] theorem State.emit_mbxQueue (s : State) (o : Out) : (s.emit o).mbxQueue = s.mbxQueue := rfl
@[simp] theorem State.emit_lateSeqs (s : State) (o : Out) : (s.emit o).lateSeqs = s.lateSeqs := rfl
@[simp] theorem State.emit_orders (s : State) (o : Out) : (s.emit o).orders = s.orders := rfl
@[simp] theorem State.emit_f0 (s : State) (o : Out) : (s.emit o).f0 = s.f0 := rfl
@[simp] theorem State.emit_f1 (s : State) (o : Out) : (s.emit o).f1 = s.f1 := rfl
@[simp] theorem State.emit_points (s : State) (o : Out) : (s.emit o).points = s.points := rfl
@[simp] theorem State.emit_prove (s : State) (o : Out) : (s.emit o).prove = s.prove := rfl
@[simp] theorem State.emit_limits (s : State) (o : Out) : (s.emit o).limits = s.limits := rfl
@[simp] theorem State.emit_disp (s : State) (o : Out) : (s.emit o).disp = s.disp := rfl
@[simp] theorem State.emit_ledger (s : State) (o : Out) : (s.emit o).ledger = s.ledger := rfl
@[simp] theorem State.emit_starts (s : State) (o : Out) : (s.emit o).starts = s.starts := rfl
@[simp] theorem State.emit_slices (s : State) (o : Out) : (s.emit o).slices = s.slices := rfl
@[simp] theorem State.emit_switches (s : State) (o : Out) : (s.emit o).switches = s.switches := rfl
@[simp] theorem State.emit_gov (s : State) (o : Out) : (s.emit o).gov = s.gov := rfl
@[simp] theorem State.emit_stops (s : State) (o : Out) : (s.emit o).stops = s.stops := rfl
@[simp] theorem State.emit_serac (s : State) (o : Out) : (s.emit o).serac = s.serac := rfl
@[simp] theorem State.emit_ky (s : State) (o : Out) : (s.emit o).ky = s.ky := rfl
@[simp] theorem State.emit_reader (s : State) (o : Out) : (s.emit o).reader = s.reader := rfl
@[simp] theorem State.emit_rime (s : State) (o : Out) : (s.emit o).rime = s.rime := rfl
@[simp] theorem State.emit_upd (s : State) (o : Out) : (s.emit o).upd = s.upd := rfl

/-! ### setPower -/

@[simp] theorem State.setPower_pending (s : State) (x : PowerSt) : (s.setPower x).pending = s.pending := rfl
@[simp] theorem State.setPower_variant (s : State) (x : PowerSt) : (s.setPower x).variant = s.variant := rfl
@[simp] theorem State.setPower_stepping (s : State) (x : PowerSt) : (s.setPower x).stepping = s.stepping := rfl
@[simp] theorem State.setPower_time (s : State) (x : PowerSt) : (s.setPower x).time = s.time := rfl
@[simp] theorem State.setPower_devTime (s : State) (x : PowerSt) : (s.setPower x).devTime = s.devTime := rfl
@[simp] theorem State.setPower_free (s : State) (x : PowerSt) : (s.setPower x).free = s.free := rfl
@[simp] theorem State.setPower_regs (s : State) (x : PowerSt) : (s.setPower x).regs = s.regs := rfl
@[simp] theorem State.setPower_mem (s : State) (x : PowerSt) : (s.setPower x).mem = s.mem := rfl
@[simp] theorem State.setPower_out (s : State) (x : PowerSt) : (s.setPower x).out = s.out := rfl
@[simp] theorem State.setPower_gather (s : State) (x : PowerSt) : (s.setPower x).gather = s.gather := rfl
@[simp] theorem State.setPower_ready (s : State) (x : PowerSt) : (s.setPower x).ready = s.ready := rfl
@[simp] theorem State.setPower_h0 (s : State) (x : PowerSt) : (s.setPower x).h0 = s.h0 := rfl
@[simp] theorem State.setPower_h1 (s : State) (x : PowerSt) : (s.setPower x).h1 = s.h1 := rfl
@[simp] theorem State.setPower_mbx (s : State) (x : PowerSt) : (s.setPower x).mbx = s.mbx := rfl
@[simp] theorem State.setPower_waits (s : State) (x : PowerSt) : (s.setPower x).waits = s.waits := rfl
@[simp] theorem State.setPower_power (s : State) (x : PowerSt) : (s.setPower x).power = x := rfl
@[simp] theorem State.setPower_boot (s : State) (x : PowerSt) : (s.setPower x).boot = s.boot := rfl
@[simp] theorem State.setPower_pins (s : State) (x : PowerSt) : (s.setPower x).pins = s.pins := rfl
@[simp] theorem State.setPower_straps (s : State) (x : PowerSt) : (s.setPower x).straps = s.straps := rfl
@[simp] theorem State.setPower_mirror (s : State) (x : PowerSt) : (s.setPower x).mirror = s.mirror := rfl
@[simp] theorem State.setPower_cfg (s : State) (x : PowerSt) : (s.setPower x).cfg = s.cfg := rfl
@[simp] theorem State.setPower_timeSets (s : State) (x : PowerSt) : (s.setPower x).timeSets = s.timeSets := rfl
@[simp] theorem State.setPower_eth (s : State) (x : PowerSt) : (s.setPower x).eth = s.eth := rfl
@[simp] theorem State.setPower_eng (s : State) (x : PowerSt) : (s.setPower x).eng = s.eng := rfl
@[simp] theorem State.setPower_msgQueue (s : State) (x : PowerSt) : (s.setPower x).msgQueue = s.msgQueue := rfl
@[simp] theorem State.setPower_mbxQueue (s : State) (x : PowerSt) : (s.setPower x).mbxQueue = s.mbxQueue := rfl
@[simp] theorem State.setPower_lateSeqs (s : State) (x : PowerSt) : (s.setPower x).lateSeqs = s.lateSeqs := rfl
@[simp] theorem State.setPower_orders (s : State) (x : PowerSt) : (s.setPower x).orders = s.orders := rfl
@[simp] theorem State.setPower_f0 (s : State) (x : PowerSt) : (s.setPower x).f0 = s.f0 := rfl
@[simp] theorem State.setPower_f1 (s : State) (x : PowerSt) : (s.setPower x).f1 = s.f1 := rfl
@[simp] theorem State.setPower_points (s : State) (x : PowerSt) : (s.setPower x).points = s.points := rfl
@[simp] theorem State.setPower_prove (s : State) (x : PowerSt) : (s.setPower x).prove = s.prove := rfl
@[simp] theorem State.setPower_limits (s : State) (x : PowerSt) : (s.setPower x).limits = s.limits := rfl
@[simp] theorem State.setPower_disp (s : State) (x : PowerSt) : (s.setPower x).disp = s.disp := rfl
@[simp] theorem State.setPower_ledger (s : State) (x : PowerSt) : (s.setPower x).ledger = s.ledger := rfl
@[simp] theorem State.setPower_starts (s : State) (x : PowerSt) : (s.setPower x).starts = s.starts := rfl
@[simp] theorem State.setPower_slices (s : State) (x : PowerSt) : (s.setPower x).slices = s.slices := rfl
@[simp] theorem State.setPower_switches (s : State) (x : PowerSt) : (s.setPower x).switches = s.switches := rfl
@[simp] theorem State.setPower_gov (s : State) (x : PowerSt) : (s.setPower x).gov = s.gov := rfl
@[simp] theorem State.setPower_stops (s : State) (x : PowerSt) : (s.setPower x).stops = s.stops := rfl
@[simp] theorem State.setPower_serac (s : State) (x : PowerSt) : (s.setPower x).serac = s.serac := rfl
@[simp] theorem State.setPower_ky (s : State) (x : PowerSt) : (s.setPower x).ky = s.ky := rfl
@[simp] theorem State.setPower_reader (s : State) (x : PowerSt) : (s.setPower x).reader = s.reader := rfl
@[simp] theorem State.setPower_rime (s : State) (x : PowerSt) : (s.setPower x).rime = s.rime := rfl
@[simp] theorem State.setPower_upd (s : State) (x : PowerSt) : (s.setPower x).upd = s.upd := rfl

/-! ### setBoot -/

@[simp] theorem State.setBoot_pending (s : State) (x : BootSt) : (s.setBoot x).pending = s.pending := rfl
@[simp] theorem State.setBoot_variant (s : State) (x : BootSt) : (s.setBoot x).variant = s.variant := rfl
@[simp] theorem State.setBoot_stepping (s : State) (x : BootSt) : (s.setBoot x).stepping = s.stepping := rfl
@[simp] theorem State.setBoot_time (s : State) (x : BootSt) : (s.setBoot x).time = s.time := rfl
@[simp] theorem State.setBoot_devTime (s : State) (x : BootSt) : (s.setBoot x).devTime = s.devTime := rfl
@[simp] theorem State.setBoot_free (s : State) (x : BootSt) : (s.setBoot x).free = s.free := rfl
@[simp] theorem State.setBoot_regs (s : State) (x : BootSt) : (s.setBoot x).regs = s.regs := rfl
@[simp] theorem State.setBoot_mem (s : State) (x : BootSt) : (s.setBoot x).mem = s.mem := rfl
@[simp] theorem State.setBoot_out (s : State) (x : BootSt) : (s.setBoot x).out = s.out := rfl
@[simp] theorem State.setBoot_gather (s : State) (x : BootSt) : (s.setBoot x).gather = s.gather := rfl
@[simp] theorem State.setBoot_ready (s : State) (x : BootSt) : (s.setBoot x).ready = s.ready := rfl
@[simp] theorem State.setBoot_h0 (s : State) (x : BootSt) : (s.setBoot x).h0 = s.h0 := rfl
@[simp] theorem State.setBoot_h1 (s : State) (x : BootSt) : (s.setBoot x).h1 = s.h1 := rfl
@[simp] theorem State.setBoot_mbx (s : State) (x : BootSt) : (s.setBoot x).mbx = s.mbx := rfl
@[simp] theorem State.setBoot_waits (s : State) (x : BootSt) : (s.setBoot x).waits = s.waits := rfl
@[simp] theorem State.setBoot_power (s : State) (x : BootSt) : (s.setBoot x).power = s.power := rfl
@[simp] theorem State.setBoot_boot (s : State) (x : BootSt) : (s.setBoot x).boot = x := rfl
@[simp] theorem State.setBoot_pins (s : State) (x : BootSt) : (s.setBoot x).pins = s.pins := rfl
@[simp] theorem State.setBoot_straps (s : State) (x : BootSt) : (s.setBoot x).straps = s.straps := rfl
@[simp] theorem State.setBoot_mirror (s : State) (x : BootSt) : (s.setBoot x).mirror = s.mirror := rfl
@[simp] theorem State.setBoot_cfg (s : State) (x : BootSt) : (s.setBoot x).cfg = s.cfg := rfl
@[simp] theorem State.setBoot_timeSets (s : State) (x : BootSt) : (s.setBoot x).timeSets = s.timeSets := rfl
@[simp] theorem State.setBoot_eth (s : State) (x : BootSt) : (s.setBoot x).eth = s.eth := rfl
@[simp] theorem State.setBoot_eng (s : State) (x : BootSt) : (s.setBoot x).eng = s.eng := rfl
@[simp] theorem State.setBoot_msgQueue (s : State) (x : BootSt) : (s.setBoot x).msgQueue = s.msgQueue := rfl
@[simp] theorem State.setBoot_mbxQueue (s : State) (x : BootSt) : (s.setBoot x).mbxQueue = s.mbxQueue := rfl
@[simp] theorem State.setBoot_lateSeqs (s : State) (x : BootSt) : (s.setBoot x).lateSeqs = s.lateSeqs := rfl
@[simp] theorem State.setBoot_orders (s : State) (x : BootSt) : (s.setBoot x).orders = s.orders := rfl
@[simp] theorem State.setBoot_f0 (s : State) (x : BootSt) : (s.setBoot x).f0 = s.f0 := rfl
@[simp] theorem State.setBoot_f1 (s : State) (x : BootSt) : (s.setBoot x).f1 = s.f1 := rfl
@[simp] theorem State.setBoot_points (s : State) (x : BootSt) : (s.setBoot x).points = s.points := rfl
@[simp] theorem State.setBoot_prove (s : State) (x : BootSt) : (s.setBoot x).prove = s.prove := rfl
@[simp] theorem State.setBoot_limits (s : State) (x : BootSt) : (s.setBoot x).limits = s.limits := rfl
@[simp] theorem State.setBoot_disp (s : State) (x : BootSt) : (s.setBoot x).disp = s.disp := rfl
@[simp] theorem State.setBoot_ledger (s : State) (x : BootSt) : (s.setBoot x).ledger = s.ledger := rfl
@[simp] theorem State.setBoot_starts (s : State) (x : BootSt) : (s.setBoot x).starts = s.starts := rfl
@[simp] theorem State.setBoot_slices (s : State) (x : BootSt) : (s.setBoot x).slices = s.slices := rfl
@[simp] theorem State.setBoot_switches (s : State) (x : BootSt) : (s.setBoot x).switches = s.switches := rfl
@[simp] theorem State.setBoot_gov (s : State) (x : BootSt) : (s.setBoot x).gov = s.gov := rfl
@[simp] theorem State.setBoot_stops (s : State) (x : BootSt) : (s.setBoot x).stops = s.stops := rfl
@[simp] theorem State.setBoot_serac (s : State) (x : BootSt) : (s.setBoot x).serac = s.serac := rfl
@[simp] theorem State.setBoot_ky (s : State) (x : BootSt) : (s.setBoot x).ky = s.ky := rfl
@[simp] theorem State.setBoot_reader (s : State) (x : BootSt) : (s.setBoot x).reader = s.reader := rfl
@[simp] theorem State.setBoot_rime (s : State) (x : BootSt) : (s.setBoot x).rime = s.rime := rfl
@[simp] theorem State.setBoot_upd (s : State) (x : BootSt) : (s.setBoot x).upd = s.upd := rfl

/-! ### setMp -/

@[simp] theorem State.setMp_pending (s : State) (p : Nat) (x : MpSt) : (s.setMp p x).pending = s.pending := rfl
@[simp] theorem State.setMp_variant (s : State) (p : Nat) (x : MpSt) : (s.setMp p x).variant = s.variant := rfl
@[simp] theorem State.setMp_stepping (s : State) (p : Nat) (x : MpSt) : (s.setMp p x).stepping = s.stepping := rfl
@[simp] theorem State.setMp_time (s : State) (p : Nat) (x : MpSt) : (s.setMp p x).time = s.time := rfl
@[simp] theorem State.setMp_devTime (s : State) (p : Nat) (x : MpSt) : (s.setMp p x).devTime = s.devTime := rfl
@[simp] theorem State.setMp_free (s : State) (p : Nat) (x : MpSt) : (s.setMp p x).free = s.free := rfl
@[simp] theorem State.setMp_regs (s : State) (p : Nat) (x : MpSt) : (s.setMp p x).regs = s.regs := rfl
@[simp] theorem State.setMp_mem (s : State) (p : Nat) (x : MpSt) : (s.setMp p x).mem = s.mem := rfl
@[simp] theorem State.setMp_out (s : State) (p : Nat) (x : MpSt) : (s.setMp p x).out = s.out := rfl
@[simp] theorem State.setMp_gather (s : State) (p : Nat) (x : MpSt) : (s.setMp p x).gather = s.gather := rfl
@[simp] theorem State.setMp_ready (s : State) (p : Nat) (x : MpSt) : (s.setMp p x).ready = s.ready := rfl
@[simp] theorem State.setMp_h0 (s : State) (p : Nat) (x : MpSt) : (s.setMp p x).h0 = s.h0 := rfl
@[simp] theorem State.setMp_h1 (s : State) (p : Nat) (x : MpSt) : (s.setMp p x).h1 = s.h1 := rfl
@[simp] theorem State.setMp_mbx (s : State) (p : Nat) (x : MpSt) : (s.setMp p x).mbx = s.mbx := rfl
@[simp] theorem State.setMp_waits (s : State) (p : Nat) (x : MpSt) : (s.setMp p x).waits = s.waits := rfl
@[simp] theorem State.setMp_power (s : State) (p : Nat) (x : MpSt) : (s.setMp p x).power = s.power := rfl
@[simp] theorem State.setMp_boot (s : State) (p : Nat) (x : MpSt) : (s.setMp p x).boot = s.boot := rfl
@[simp] theorem State.setMp_pins (s : State) (p : Nat) (x : MpSt) : (s.setMp p x).pins = s.pins := rfl
@[simp] theorem State.setMp_straps (s : State) (p : Nat) (x : MpSt) : (s.setMp p x).straps = s.straps := rfl
@[simp] theorem State.setMp_mirror (s : State) (p : Nat) (x : MpSt) : (s.setMp p x).mirror = s.mirror := rfl
@[simp] theorem State.setMp_cfg (s : State) (p : Nat) (x : MpSt) : (s.setMp p x).cfg = s.cfg := rfl
@[simp] theorem State.setMp_timeSets (s : State) (p : Nat) (x : MpSt) : (s.setMp p x).timeSets = s.timeSets := rfl
@[simp] theorem State.setMp_eth (s : State) (p : Nat) (x : MpSt) : (s.setMp p x).eth = s.eth := rfl
@[simp] theorem State.setMp_eng (s : State) (p : Nat) (x : MpSt) : (s.setMp p x).eng = s.eng := rfl
@[simp] theorem State.setMp_msgQueue (s : State) (p : Nat) (x : MpSt) : (s.setMp p x).msgQueue = s.msgQueue := rfl
@[simp] theorem State.setMp_mbxQueue (s : State) (p : Nat) (x : MpSt) : (s.setMp p x).mbxQueue = s.mbxQueue := rfl
@[simp] theorem State.setMp_lateSeqs (s : State) (p : Nat) (x : MpSt) : (s.setMp p x).lateSeqs = s.lateSeqs := rfl
@[simp] theorem State.setMp_orders (s : State) (p : Nat) (x : MpSt) : (s.setMp p x).orders = s.orders := rfl
@[simp] theorem State.setMp_f0 (s : State) (p : Nat) (x : MpSt) : (s.setMp p x).f0 = s.f0 := rfl
@[simp] theorem State.setMp_f1 (s : State) (p : Nat) (x : MpSt) : (s.setMp p x).f1 = s.f1 := rfl
@[simp] theorem State.setMp_prove (s : State) (p : Nat) (x : MpSt) : (s.setMp p x).prove = s.prove := rfl
@[simp] theorem State.setMp_limits (s : State) (p : Nat) (x : MpSt) : (s.setMp p x).limits = s.limits := rfl
@[simp] theorem State.setMp_disp (s : State) (p : Nat) (x : MpSt) : (s.setMp p x).disp = s.disp := rfl
@[simp] theorem State.setMp_ledger (s : State) (p : Nat) (x : MpSt) : (s.setMp p x).ledger = s.ledger := rfl
@[simp] theorem State.setMp_starts (s : State) (p : Nat) (x : MpSt) : (s.setMp p x).starts = s.starts := rfl
@[simp] theorem State.setMp_slices (s : State) (p : Nat) (x : MpSt) : (s.setMp p x).slices = s.slices := rfl
@[simp] theorem State.setMp_switches (s : State) (p : Nat) (x : MpSt) : (s.setMp p x).switches = s.switches := rfl
@[simp] theorem State.setMp_gov (s : State) (p : Nat) (x : MpSt) : (s.setMp p x).gov = s.gov := rfl
@[simp] theorem State.setMp_stops (s : State) (p : Nat) (x : MpSt) : (s.setMp p x).stops = s.stops := rfl
@[simp] theorem State.setMp_serac (s : State) (p : Nat) (x : MpSt) : (s.setMp p x).serac = s.serac := rfl
@[simp] theorem State.setMp_ky (s : State) (p : Nat) (x : MpSt) : (s.setMp p x).ky = s.ky := rfl
@[simp] theorem State.setMp_reader (s : State) (p : Nat) (x : MpSt) : (s.setMp p x).reader = s.reader := rfl
@[simp] theorem State.setMp_rime (s : State) (p : Nat) (x : MpSt) : (s.setMp p x).rime = s.rime := rfl
@[simp] theorem State.setMp_upd (s : State) (p : Nat) (x : MpSt) : (s.setMp p x).upd = s.upd := rfl

/-! ### setDisp -/

@[simp] theorem State.setDisp_pending (s : State) (x : DispSt) : (s.setDisp x).pending = s.pending := rfl
@[simp] theorem State.setDisp_variant (s : State) (x : DispSt) : (s.setDisp x).variant = s.variant := rfl
@[simp] theorem State.setDisp_stepping (s : State) (x : DispSt) : (s.setDisp x).stepping = s.stepping := rfl
@[simp] theorem State.setDisp_time (s : State) (x : DispSt) : (s.setDisp x).time = s.time := rfl
@[simp] theorem State.setDisp_devTime (s : State) (x : DispSt) : (s.setDisp x).devTime = s.devTime := rfl
@[simp] theorem State.setDisp_free (s : State) (x : DispSt) : (s.setDisp x).free = s.free := rfl
@[simp] theorem State.setDisp_regs (s : State) (x : DispSt) : (s.setDisp x).regs = s.regs := rfl
@[simp] theorem State.setDisp_mem (s : State) (x : DispSt) : (s.setDisp x).mem = s.mem := rfl
@[simp] theorem State.setDisp_out (s : State) (x : DispSt) : (s.setDisp x).out = s.out := rfl
@[simp] theorem State.setDisp_gather (s : State) (x : DispSt) : (s.setDisp x).gather = s.gather := rfl
@[simp] theorem State.setDisp_ready (s : State) (x : DispSt) : (s.setDisp x).ready = s.ready := rfl
@[simp] theorem State.setDisp_h0 (s : State) (x : DispSt) : (s.setDisp x).h0 = s.h0 := rfl
@[simp] theorem State.setDisp_h1 (s : State) (x : DispSt) : (s.setDisp x).h1 = s.h1 := rfl
@[simp] theorem State.setDisp_mbx (s : State) (x : DispSt) : (s.setDisp x).mbx = s.mbx := rfl
@[simp] theorem State.setDisp_waits (s : State) (x : DispSt) : (s.setDisp x).waits = s.waits := rfl
@[simp] theorem State.setDisp_power (s : State) (x : DispSt) : (s.setDisp x).power = s.power := rfl
@[simp] theorem State.setDisp_boot (s : State) (x : DispSt) : (s.setDisp x).boot = s.boot := rfl
@[simp] theorem State.setDisp_pins (s : State) (x : DispSt) : (s.setDisp x).pins = s.pins := rfl
@[simp] theorem State.setDisp_straps (s : State) (x : DispSt) : (s.setDisp x).straps = s.straps := rfl
@[simp] theorem State.setDisp_mirror (s : State) (x : DispSt) : (s.setDisp x).mirror = s.mirror := rfl
@[simp] theorem State.setDisp_cfg (s : State) (x : DispSt) : (s.setDisp x).cfg = s.cfg := rfl
@[simp] theorem State.setDisp_timeSets (s : State) (x : DispSt) : (s.setDisp x).timeSets = s.timeSets := rfl
@[simp] theorem State.setDisp_eth (s : State) (x : DispSt) : (s.setDisp x).eth = s.eth := rfl
@[simp] theorem State.setDisp_eng (s : State) (x : DispSt) : (s.setDisp x).eng = s.eng := rfl
@[simp] theorem State.setDisp_msgQueue (s : State) (x : DispSt) : (s.setDisp x).msgQueue = s.msgQueue := rfl
@[simp] theorem State.setDisp_mbxQueue (s : State) (x : DispSt) : (s.setDisp x).mbxQueue = s.mbxQueue := rfl
@[simp] theorem State.setDisp_lateSeqs (s : State) (x : DispSt) : (s.setDisp x).lateSeqs = s.lateSeqs := rfl
@[simp] theorem State.setDisp_orders (s : State) (x : DispSt) : (s.setDisp x).orders = s.orders := rfl
@[simp] theorem State.setDisp_f0 (s : State) (x : DispSt) : (s.setDisp x).f0 = s.f0 := rfl
@[simp] theorem State.setDisp_f1 (s : State) (x : DispSt) : (s.setDisp x).f1 = s.f1 := rfl
@[simp] theorem State.setDisp_points (s : State) (x : DispSt) : (s.setDisp x).points = s.points := rfl
@[simp] theorem State.setDisp_prove (s : State) (x : DispSt) : (s.setDisp x).prove = s.prove := rfl
@[simp] theorem State.setDisp_limits (s : State) (x : DispSt) : (s.setDisp x).limits = s.limits := rfl
@[simp] theorem State.setDisp_disp (s : State) (x : DispSt) : (s.setDisp x).disp = x := rfl
@[simp] theorem State.setDisp_ledger (s : State) (x : DispSt) : (s.setDisp x).ledger = s.ledger := rfl
@[simp] theorem State.setDisp_starts (s : State) (x : DispSt) : (s.setDisp x).starts = s.starts := rfl
@[simp] theorem State.setDisp_slices (s : State) (x : DispSt) : (s.setDisp x).slices = s.slices := rfl
@[simp] theorem State.setDisp_switches (s : State) (x : DispSt) : (s.setDisp x).switches = s.switches := rfl
@[simp] theorem State.setDisp_gov (s : State) (x : DispSt) : (s.setDisp x).gov = s.gov := rfl
@[simp] theorem State.setDisp_stops (s : State) (x : DispSt) : (s.setDisp x).stops = s.stops := rfl
@[simp] theorem State.setDisp_serac (s : State) (x : DispSt) : (s.setDisp x).serac = s.serac := rfl
@[simp] theorem State.setDisp_ky (s : State) (x : DispSt) : (s.setDisp x).ky = s.ky := rfl
@[simp] theorem State.setDisp_reader (s : State) (x : DispSt) : (s.setDisp x).reader = s.reader := rfl
@[simp] theorem State.setDisp_rime (s : State) (x : DispSt) : (s.setDisp x).rime = s.rime := rfl
@[simp] theorem State.setDisp_upd (s : State) (x : DispSt) : (s.setDisp x).upd = s.upd := rfl

/-! ### setLedger -/

@[simp] theorem State.setLedger_pending (s : State) (x : LedgerSt) : (s.setLedger x).pending = s.pending := rfl
@[simp] theorem State.setLedger_variant (s : State) (x : LedgerSt) : (s.setLedger x).variant = s.variant := rfl
@[simp] theorem State.setLedger_stepping (s : State) (x : LedgerSt) : (s.setLedger x).stepping = s.stepping := rfl
@[simp] theorem State.setLedger_time (s : State) (x : LedgerSt) : (s.setLedger x).time = s.time := rfl
@[simp] theorem State.setLedger_devTime (s : State) (x : LedgerSt) : (s.setLedger x).devTime = s.devTime := rfl
@[simp] theorem State.setLedger_free (s : State) (x : LedgerSt) : (s.setLedger x).free = s.free := rfl
@[simp] theorem State.setLedger_regs (s : State) (x : LedgerSt) : (s.setLedger x).regs = s.regs := rfl
@[simp] theorem State.setLedger_mem (s : State) (x : LedgerSt) : (s.setLedger x).mem = s.mem := rfl
@[simp] theorem State.setLedger_out (s : State) (x : LedgerSt) : (s.setLedger x).out = s.out := rfl
@[simp] theorem State.setLedger_gather (s : State) (x : LedgerSt) : (s.setLedger x).gather = s.gather := rfl
@[simp] theorem State.setLedger_ready (s : State) (x : LedgerSt) : (s.setLedger x).ready = s.ready := rfl
@[simp] theorem State.setLedger_h0 (s : State) (x : LedgerSt) : (s.setLedger x).h0 = s.h0 := rfl
@[simp] theorem State.setLedger_h1 (s : State) (x : LedgerSt) : (s.setLedger x).h1 = s.h1 := rfl
@[simp] theorem State.setLedger_mbx (s : State) (x : LedgerSt) : (s.setLedger x).mbx = s.mbx := rfl
@[simp] theorem State.setLedger_waits (s : State) (x : LedgerSt) : (s.setLedger x).waits = s.waits := rfl
@[simp] theorem State.setLedger_power (s : State) (x : LedgerSt) : (s.setLedger x).power = s.power := rfl
@[simp] theorem State.setLedger_boot (s : State) (x : LedgerSt) : (s.setLedger x).boot = s.boot := rfl
@[simp] theorem State.setLedger_pins (s : State) (x : LedgerSt) : (s.setLedger x).pins = s.pins := rfl
@[simp] theorem State.setLedger_straps (s : State) (x : LedgerSt) : (s.setLedger x).straps = s.straps := rfl
@[simp] theorem State.setLedger_mirror (s : State) (x : LedgerSt) : (s.setLedger x).mirror = s.mirror := rfl
@[simp] theorem State.setLedger_cfg (s : State) (x : LedgerSt) : (s.setLedger x).cfg = s.cfg := rfl
@[simp] theorem State.setLedger_timeSets (s : State) (x : LedgerSt) : (s.setLedger x).timeSets = s.timeSets := rfl
@[simp] theorem State.setLedger_eth (s : State) (x : LedgerSt) : (s.setLedger x).eth = s.eth := rfl
@[simp] theorem State.setLedger_eng (s : State) (x : LedgerSt) : (s.setLedger x).eng = s.eng := rfl
@[simp] theorem State.setLedger_msgQueue (s : State) (x : LedgerSt) : (s.setLedger x).msgQueue = s.msgQueue := rfl
@[simp] theorem State.setLedger_mbxQueue (s : State) (x : LedgerSt) : (s.setLedger x).mbxQueue = s.mbxQueue := rfl
@[simp] theorem State.setLedger_lateSeqs (s : State) (x : LedgerSt) : (s.setLedger x).lateSeqs = s.lateSeqs := rfl
@[simp] theorem State.setLedger_orders (s : State) (x : LedgerSt) : (s.setLedger x).orders = s.orders := rfl
@[simp] theorem State.setLedger_f0 (s : State) (x : LedgerSt) : (s.setLedger x).f0 = s.f0 := rfl
@[simp] theorem State.setLedger_f1 (s : State) (x : LedgerSt) : (s.setLedger x).f1 = s.f1 := rfl
@[simp] theorem State.setLedger_points (s : State) (x : LedgerSt) : (s.setLedger x).points = s.points := rfl
@[simp] theorem State.setLedger_prove (s : State) (x : LedgerSt) : (s.setLedger x).prove = s.prove := rfl
@[simp] theorem State.setLedger_limits (s : State) (x : LedgerSt) : (s.setLedger x).limits = s.limits := rfl
@[simp] theorem State.setLedger_disp (s : State) (x : LedgerSt) : (s.setLedger x).disp = s.disp := rfl
@[simp] theorem State.setLedger_ledger (s : State) (x : LedgerSt) : (s.setLedger x).ledger = x := rfl
@[simp] theorem State.setLedger_starts (s : State) (x : LedgerSt) : (s.setLedger x).starts = s.starts := rfl
@[simp] theorem State.setLedger_slices (s : State) (x : LedgerSt) : (s.setLedger x).slices = s.slices := rfl
@[simp] theorem State.setLedger_switches (s : State) (x : LedgerSt) : (s.setLedger x).switches = s.switches := rfl
@[simp] theorem State.setLedger_gov (s : State) (x : LedgerSt) : (s.setLedger x).gov = s.gov := rfl
@[simp] theorem State.setLedger_stops (s : State) (x : LedgerSt) : (s.setLedger x).stops = s.stops := rfl
@[simp] theorem State.setLedger_serac (s : State) (x : LedgerSt) : (s.setLedger x).serac = s.serac := rfl
@[simp] theorem State.setLedger_ky (s : State) (x : LedgerSt) : (s.setLedger x).ky = s.ky := rfl
@[simp] theorem State.setLedger_reader (s : State) (x : LedgerSt) : (s.setLedger x).reader = s.reader := rfl
@[simp] theorem State.setLedger_rime (s : State) (x : LedgerSt) : (s.setLedger x).rime = s.rime := rfl
@[simp] theorem State.setLedger_upd (s : State) (x : LedgerSt) : (s.setLedger x).upd = s.upd := rfl

/-! ### setSlice -/

@[simp] theorem State.setSlice_pending (s : State) (i : Nat) (x : SliceSt) : (s.setSlice i x).pending = s.pending := rfl
@[simp] theorem State.setSlice_variant (s : State) (i : Nat) (x : SliceSt) : (s.setSlice i x).variant = s.variant := rfl
@[simp] theorem State.setSlice_stepping (s : State) (i : Nat) (x : SliceSt) : (s.setSlice i x).stepping = s.stepping := rfl
@[simp] theorem State.setSlice_time (s : State) (i : Nat) (x : SliceSt) : (s.setSlice i x).time = s.time := rfl
@[simp] theorem State.setSlice_devTime (s : State) (i : Nat) (x : SliceSt) : (s.setSlice i x).devTime = s.devTime := rfl
@[simp] theorem State.setSlice_free (s : State) (i : Nat) (x : SliceSt) : (s.setSlice i x).free = s.free := rfl
@[simp] theorem State.setSlice_regs (s : State) (i : Nat) (x : SliceSt) : (s.setSlice i x).regs = s.regs := rfl
@[simp] theorem State.setSlice_mem (s : State) (i : Nat) (x : SliceSt) : (s.setSlice i x).mem = s.mem := rfl
@[simp] theorem State.setSlice_out (s : State) (i : Nat) (x : SliceSt) : (s.setSlice i x).out = s.out := rfl
@[simp] theorem State.setSlice_gather (s : State) (i : Nat) (x : SliceSt) : (s.setSlice i x).gather = s.gather := rfl
@[simp] theorem State.setSlice_ready (s : State) (i : Nat) (x : SliceSt) : (s.setSlice i x).ready = s.ready := rfl
@[simp] theorem State.setSlice_h0 (s : State) (i : Nat) (x : SliceSt) : (s.setSlice i x).h0 = s.h0 := rfl
@[simp] theorem State.setSlice_h1 (s : State) (i : Nat) (x : SliceSt) : (s.setSlice i x).h1 = s.h1 := rfl
@[simp] theorem State.setSlice_mbx (s : State) (i : Nat) (x : SliceSt) : (s.setSlice i x).mbx = s.mbx := rfl
@[simp] theorem State.setSlice_waits (s : State) (i : Nat) (x : SliceSt) : (s.setSlice i x).waits = s.waits := rfl
@[simp] theorem State.setSlice_power (s : State) (i : Nat) (x : SliceSt) : (s.setSlice i x).power = s.power := rfl
@[simp] theorem State.setSlice_boot (s : State) (i : Nat) (x : SliceSt) : (s.setSlice i x).boot = s.boot := rfl
@[simp] theorem State.setSlice_pins (s : State) (i : Nat) (x : SliceSt) : (s.setSlice i x).pins = s.pins := rfl
@[simp] theorem State.setSlice_straps (s : State) (i : Nat) (x : SliceSt) : (s.setSlice i x).straps = s.straps := rfl
@[simp] theorem State.setSlice_mirror (s : State) (i : Nat) (x : SliceSt) : (s.setSlice i x).mirror = s.mirror := rfl
@[simp] theorem State.setSlice_cfg (s : State) (i : Nat) (x : SliceSt) : (s.setSlice i x).cfg = s.cfg := rfl
@[simp] theorem State.setSlice_timeSets (s : State) (i : Nat) (x : SliceSt) : (s.setSlice i x).timeSets = s.timeSets := rfl
@[simp] theorem State.setSlice_eth (s : State) (i : Nat) (x : SliceSt) : (s.setSlice i x).eth = s.eth := rfl
@[simp] theorem State.setSlice_eng (s : State) (i : Nat) (x : SliceSt) : (s.setSlice i x).eng = s.eng := rfl
@[simp] theorem State.setSlice_msgQueue (s : State) (i : Nat) (x : SliceSt) : (s.setSlice i x).msgQueue = s.msgQueue := rfl
@[simp] theorem State.setSlice_mbxQueue (s : State) (i : Nat) (x : SliceSt) : (s.setSlice i x).mbxQueue = s.mbxQueue := rfl
@[simp] theorem State.setSlice_lateSeqs (s : State) (i : Nat) (x : SliceSt) : (s.setSlice i x).lateSeqs = s.lateSeqs := rfl
@[simp] theorem State.setSlice_orders (s : State) (i : Nat) (x : SliceSt) : (s.setSlice i x).orders = s.orders := rfl
@[simp] theorem State.setSlice_f0 (s : State) (i : Nat) (x : SliceSt) : (s.setSlice i x).f0 = s.f0 := rfl
@[simp] theorem State.setSlice_f1 (s : State) (i : Nat) (x : SliceSt) : (s.setSlice i x).f1 = s.f1 := rfl
@[simp] theorem State.setSlice_points (s : State) (i : Nat) (x : SliceSt) : (s.setSlice i x).points = s.points := rfl
@[simp] theorem State.setSlice_prove (s : State) (i : Nat) (x : SliceSt) : (s.setSlice i x).prove = s.prove := rfl
@[simp] theorem State.setSlice_limits (s : State) (i : Nat) (x : SliceSt) : (s.setSlice i x).limits = s.limits := rfl
@[simp] theorem State.setSlice_disp (s : State) (i : Nat) (x : SliceSt) : (s.setSlice i x).disp = s.disp := rfl
@[simp] theorem State.setSlice_ledger (s : State) (i : Nat) (x : SliceSt) : (s.setSlice i x).ledger = s.ledger := rfl
@[simp] theorem State.setSlice_starts (s : State) (i : Nat) (x : SliceSt) : (s.setSlice i x).starts = s.starts := rfl
@[simp] theorem State.setSlice_switches (s : State) (i : Nat) (x : SliceSt) : (s.setSlice i x).switches = s.switches := rfl
@[simp] theorem State.setSlice_gov (s : State) (i : Nat) (x : SliceSt) : (s.setSlice i x).gov = s.gov := rfl
@[simp] theorem State.setSlice_stops (s : State) (i : Nat) (x : SliceSt) : (s.setSlice i x).stops = s.stops := rfl
@[simp] theorem State.setSlice_serac (s : State) (i : Nat) (x : SliceSt) : (s.setSlice i x).serac = s.serac := rfl
@[simp] theorem State.setSlice_ky (s : State) (i : Nat) (x : SliceSt) : (s.setSlice i x).ky = s.ky := rfl
@[simp] theorem State.setSlice_reader (s : State) (i : Nat) (x : SliceSt) : (s.setSlice i x).reader = s.reader := rfl
@[simp] theorem State.setSlice_rime (s : State) (i : Nat) (x : SliceSt) : (s.setSlice i x).rime = s.rime := rfl
@[simp] theorem State.setSlice_upd (s : State) (i : Nat) (x : SliceSt) : (s.setSlice i x).upd = s.upd := rfl

/-! ### setSw -/

@[simp] theorem State.setSw_pending (s : State) (n : Nat) (x : SwSt) : (s.setSw n x).pending = s.pending := rfl
@[simp] theorem State.setSw_variant (s : State) (n : Nat) (x : SwSt) : (s.setSw n x).variant = s.variant := rfl
@[simp] theorem State.setSw_stepping (s : State) (n : Nat) (x : SwSt) : (s.setSw n x).stepping = s.stepping := rfl
@[simp] theorem State.setSw_time (s : State) (n : Nat) (x : SwSt) : (s.setSw n x).time = s.time := rfl
@[simp] theorem State.setSw_devTime (s : State) (n : Nat) (x : SwSt) : (s.setSw n x).devTime = s.devTime := rfl
@[simp] theorem State.setSw_free (s : State) (n : Nat) (x : SwSt) : (s.setSw n x).free = s.free := rfl
@[simp] theorem State.setSw_regs (s : State) (n : Nat) (x : SwSt) : (s.setSw n x).regs = s.regs := rfl
@[simp] theorem State.setSw_mem (s : State) (n : Nat) (x : SwSt) : (s.setSw n x).mem = s.mem := rfl
@[simp] theorem State.setSw_out (s : State) (n : Nat) (x : SwSt) : (s.setSw n x).out = s.out := rfl
@[simp] theorem State.setSw_gather (s : State) (n : Nat) (x : SwSt) : (s.setSw n x).gather = s.gather := rfl
@[simp] theorem State.setSw_ready (s : State) (n : Nat) (x : SwSt) : (s.setSw n x).ready = s.ready := rfl
@[simp] theorem State.setSw_h0 (s : State) (n : Nat) (x : SwSt) : (s.setSw n x).h0 = s.h0 := rfl
@[simp] theorem State.setSw_h1 (s : State) (n : Nat) (x : SwSt) : (s.setSw n x).h1 = s.h1 := rfl
@[simp] theorem State.setSw_mbx (s : State) (n : Nat) (x : SwSt) : (s.setSw n x).mbx = s.mbx := rfl
@[simp] theorem State.setSw_waits (s : State) (n : Nat) (x : SwSt) : (s.setSw n x).waits = s.waits := rfl
@[simp] theorem State.setSw_power (s : State) (n : Nat) (x : SwSt) : (s.setSw n x).power = s.power := rfl
@[simp] theorem State.setSw_boot (s : State) (n : Nat) (x : SwSt) : (s.setSw n x).boot = s.boot := rfl
@[simp] theorem State.setSw_pins (s : State) (n : Nat) (x : SwSt) : (s.setSw n x).pins = s.pins := rfl
@[simp] theorem State.setSw_straps (s : State) (n : Nat) (x : SwSt) : (s.setSw n x).straps = s.straps := rfl
@[simp] theorem State.setSw_mirror (s : State) (n : Nat) (x : SwSt) : (s.setSw n x).mirror = s.mirror := rfl
@[simp] theorem State.setSw_cfg (s : State) (n : Nat) (x : SwSt) : (s.setSw n x).cfg = s.cfg := rfl
@[simp] theorem State.setSw_timeSets (s : State) (n : Nat) (x : SwSt) : (s.setSw n x).timeSets = s.timeSets := rfl
@[simp] theorem State.setSw_eth (s : State) (n : Nat) (x : SwSt) : (s.setSw n x).eth = s.eth := rfl
@[simp] theorem State.setSw_eng (s : State) (n : Nat) (x : SwSt) : (s.setSw n x).eng = s.eng := rfl
@[simp] theorem State.setSw_msgQueue (s : State) (n : Nat) (x : SwSt) : (s.setSw n x).msgQueue = s.msgQueue := rfl
@[simp] theorem State.setSw_mbxQueue (s : State) (n : Nat) (x : SwSt) : (s.setSw n x).mbxQueue = s.mbxQueue := rfl
@[simp] theorem State.setSw_lateSeqs (s : State) (n : Nat) (x : SwSt) : (s.setSw n x).lateSeqs = s.lateSeqs := rfl
@[simp] theorem State.setSw_orders (s : State) (n : Nat) (x : SwSt) : (s.setSw n x).orders = s.orders := rfl
@[simp] theorem State.setSw_f0 (s : State) (n : Nat) (x : SwSt) : (s.setSw n x).f0 = s.f0 := rfl
@[simp] theorem State.setSw_f1 (s : State) (n : Nat) (x : SwSt) : (s.setSw n x).f1 = s.f1 := rfl
@[simp] theorem State.setSw_points (s : State) (n : Nat) (x : SwSt) : (s.setSw n x).points = s.points := rfl
@[simp] theorem State.setSw_prove (s : State) (n : Nat) (x : SwSt) : (s.setSw n x).prove = s.prove := rfl
@[simp] theorem State.setSw_limits (s : State) (n : Nat) (x : SwSt) : (s.setSw n x).limits = s.limits := rfl
@[simp] theorem State.setSw_disp (s : State) (n : Nat) (x : SwSt) : (s.setSw n x).disp = s.disp := rfl
@[simp] theorem State.setSw_ledger (s : State) (n : Nat) (x : SwSt) : (s.setSw n x).ledger = s.ledger := rfl
@[simp] theorem State.setSw_starts (s : State) (n : Nat) (x : SwSt) : (s.setSw n x).starts = s.starts := rfl
@[simp] theorem State.setSw_slices (s : State) (n : Nat) (x : SwSt) : (s.setSw n x).slices = s.slices := rfl
@[simp] theorem State.setSw_gov (s : State) (n : Nat) (x : SwSt) : (s.setSw n x).gov = s.gov := rfl
@[simp] theorem State.setSw_stops (s : State) (n : Nat) (x : SwSt) : (s.setSw n x).stops = s.stops := rfl
@[simp] theorem State.setSw_serac (s : State) (n : Nat) (x : SwSt) : (s.setSw n x).serac = s.serac := rfl
@[simp] theorem State.setSw_ky (s : State) (n : Nat) (x : SwSt) : (s.setSw n x).ky = s.ky := rfl
@[simp] theorem State.setSw_reader (s : State) (n : Nat) (x : SwSt) : (s.setSw n x).reader = s.reader := rfl
@[simp] theorem State.setSw_rime (s : State) (n : Nat) (x : SwSt) : (s.setSw n x).rime = s.rime := rfl
@[simp] theorem State.setSw_upd (s : State) (n : Nat) (x : SwSt) : (s.setSw n x).upd = s.upd := rfl

/-! ### setGov -/

@[simp] theorem State.setGov_pending (s : State) (x : GovSt) : (s.setGov x).pending = s.pending := rfl
@[simp] theorem State.setGov_variant (s : State) (x : GovSt) : (s.setGov x).variant = s.variant := rfl
@[simp] theorem State.setGov_stepping (s : State) (x : GovSt) : (s.setGov x).stepping = s.stepping := rfl
@[simp] theorem State.setGov_time (s : State) (x : GovSt) : (s.setGov x).time = s.time := rfl
@[simp] theorem State.setGov_devTime (s : State) (x : GovSt) : (s.setGov x).devTime = s.devTime := rfl
@[simp] theorem State.setGov_free (s : State) (x : GovSt) : (s.setGov x).free = s.free := rfl
@[simp] theorem State.setGov_regs (s : State) (x : GovSt) : (s.setGov x).regs = s.regs := rfl
@[simp] theorem State.setGov_mem (s : State) (x : GovSt) : (s.setGov x).mem = s.mem := rfl
@[simp] theorem State.setGov_out (s : State) (x : GovSt) : (s.setGov x).out = s.out := rfl
@[simp] theorem State.setGov_gather (s : State) (x : GovSt) : (s.setGov x).gather = s.gather := rfl
@[simp] theorem State.setGov_ready (s : State) (x : GovSt) : (s.setGov x).ready = s.ready := rfl
@[simp] theorem State.setGov_h0 (s : State) (x : GovSt) : (s.setGov x).h0 = s.h0 := rfl
@[simp] theorem State.setGov_h1 (s : State) (x : GovSt) : (s.setGov x).h1 = s.h1 := rfl
@[simp] theorem State.setGov_mbx (s : State) (x : GovSt) : (s.setGov x).mbx = s.mbx := rfl
@[simp] theorem State.setGov_waits (s : State) (x : GovSt) : (s.setGov x).waits = s.waits := rfl
@[simp] theorem State.setGov_power (s : State) (x : GovSt) : (s.setGov x).power = s.power := rfl
@[simp] theorem State.setGov_boot (s : State) (x : GovSt) : (s.setGov x).boot = s.boot := rfl
@[simp] theorem State.setGov_pins (s : State) (x : GovSt) : (s.setGov x).pins = s.pins := rfl
@[simp] theorem State.setGov_straps (s : State) (x : GovSt) : (s.setGov x).straps = s.straps := rfl
@[simp] theorem State.setGov_mirror (s : State) (x : GovSt) : (s.setGov x).mirror = s.mirror := rfl
@[simp] theorem State.setGov_cfg (s : State) (x : GovSt) : (s.setGov x).cfg = s.cfg := rfl
@[simp] theorem State.setGov_timeSets (s : State) (x : GovSt) : (s.setGov x).timeSets = s.timeSets := rfl
@[simp] theorem State.setGov_eth (s : State) (x : GovSt) : (s.setGov x).eth = s.eth := rfl
@[simp] theorem State.setGov_eng (s : State) (x : GovSt) : (s.setGov x).eng = s.eng := rfl
@[simp] theorem State.setGov_msgQueue (s : State) (x : GovSt) : (s.setGov x).msgQueue = s.msgQueue := rfl
@[simp] theorem State.setGov_mbxQueue (s : State) (x : GovSt) : (s.setGov x).mbxQueue = s.mbxQueue := rfl
@[simp] theorem State.setGov_lateSeqs (s : State) (x : GovSt) : (s.setGov x).lateSeqs = s.lateSeqs := rfl
@[simp] theorem State.setGov_orders (s : State) (x : GovSt) : (s.setGov x).orders = s.orders := rfl
@[simp] theorem State.setGov_f0 (s : State) (x : GovSt) : (s.setGov x).f0 = s.f0 := rfl
@[simp] theorem State.setGov_f1 (s : State) (x : GovSt) : (s.setGov x).f1 = s.f1 := rfl
@[simp] theorem State.setGov_points (s : State) (x : GovSt) : (s.setGov x).points = s.points := rfl
@[simp] theorem State.setGov_prove (s : State) (x : GovSt) : (s.setGov x).prove = s.prove := rfl
@[simp] theorem State.setGov_limits (s : State) (x : GovSt) : (s.setGov x).limits = s.limits := rfl
@[simp] theorem State.setGov_disp (s : State) (x : GovSt) : (s.setGov x).disp = s.disp := rfl
@[simp] theorem State.setGov_ledger (s : State) (x : GovSt) : (s.setGov x).ledger = s.ledger := rfl
@[simp] theorem State.setGov_starts (s : State) (x : GovSt) : (s.setGov x).starts = s.starts := rfl
@[simp] theorem State.setGov_slices (s : State) (x : GovSt) : (s.setGov x).slices = s.slices := rfl
@[simp] theorem State.setGov_switches (s : State) (x : GovSt) : (s.setGov x).switches = s.switches := rfl
@[simp] theorem State.setGov_gov (s : State) (x : GovSt) : (s.setGov x).gov = x := rfl
@[simp] theorem State.setGov_stops (s : State) (x : GovSt) : (s.setGov x).stops = s.stops := rfl
@[simp] theorem State.setGov_serac (s : State) (x : GovSt) : (s.setGov x).serac = s.serac := rfl
@[simp] theorem State.setGov_ky (s : State) (x : GovSt) : (s.setGov x).ky = s.ky := rfl
@[simp] theorem State.setGov_reader (s : State) (x : GovSt) : (s.setGov x).reader = s.reader := rfl
@[simp] theorem State.setGov_rime (s : State) (x : GovSt) : (s.setGov x).rime = s.rime := rfl
@[simp] theorem State.setGov_upd (s : State) (x : GovSt) : (s.setGov x).upd = s.upd := rfl

/-! ### setSerac -/

@[simp] theorem State.setSerac_pending (s : State) (x : SeracSt) : (s.setSerac x).pending = s.pending := rfl
@[simp] theorem State.setSerac_variant (s : State) (x : SeracSt) : (s.setSerac x).variant = s.variant := rfl
@[simp] theorem State.setSerac_stepping (s : State) (x : SeracSt) : (s.setSerac x).stepping = s.stepping := rfl
@[simp] theorem State.setSerac_time (s : State) (x : SeracSt) : (s.setSerac x).time = s.time := rfl
@[simp] theorem State.setSerac_devTime (s : State) (x : SeracSt) : (s.setSerac x).devTime = s.devTime := rfl
@[simp] theorem State.setSerac_free (s : State) (x : SeracSt) : (s.setSerac x).free = s.free := rfl
@[simp] theorem State.setSerac_regs (s : State) (x : SeracSt) : (s.setSerac x).regs = s.regs := rfl
@[simp] theorem State.setSerac_mem (s : State) (x : SeracSt) : (s.setSerac x).mem = s.mem := rfl
@[simp] theorem State.setSerac_out (s : State) (x : SeracSt) : (s.setSerac x).out = s.out := rfl
@[simp] theorem State.setSerac_gather (s : State) (x : SeracSt) : (s.setSerac x).gather = s.gather := rfl
@[simp] theorem State.setSerac_ready (s : State) (x : SeracSt) : (s.setSerac x).ready = s.ready := rfl
@[simp] theorem State.setSerac_h0 (s : State) (x : SeracSt) : (s.setSerac x).h0 = s.h0 := rfl
@[simp] theorem State.setSerac_h1 (s : State) (x : SeracSt) : (s.setSerac x).h1 = s.h1 := rfl
@[simp] theorem State.setSerac_mbx (s : State) (x : SeracSt) : (s.setSerac x).mbx = s.mbx := rfl
@[simp] theorem State.setSerac_waits (s : State) (x : SeracSt) : (s.setSerac x).waits = s.waits := rfl
@[simp] theorem State.setSerac_power (s : State) (x : SeracSt) : (s.setSerac x).power = s.power := rfl
@[simp] theorem State.setSerac_boot (s : State) (x : SeracSt) : (s.setSerac x).boot = s.boot := rfl
@[simp] theorem State.setSerac_pins (s : State) (x : SeracSt) : (s.setSerac x).pins = s.pins := rfl
@[simp] theorem State.setSerac_straps (s : State) (x : SeracSt) : (s.setSerac x).straps = s.straps := rfl
@[simp] theorem State.setSerac_mirror (s : State) (x : SeracSt) : (s.setSerac x).mirror = s.mirror := rfl
@[simp] theorem State.setSerac_cfg (s : State) (x : SeracSt) : (s.setSerac x).cfg = s.cfg := rfl
@[simp] theorem State.setSerac_timeSets (s : State) (x : SeracSt) : (s.setSerac x).timeSets = s.timeSets := rfl
@[simp] theorem State.setSerac_eth (s : State) (x : SeracSt) : (s.setSerac x).eth = s.eth := rfl
@[simp] theorem State.setSerac_eng (s : State) (x : SeracSt) : (s.setSerac x).eng = s.eng := rfl
@[simp] theorem State.setSerac_msgQueue (s : State) (x : SeracSt) : (s.setSerac x).msgQueue = s.msgQueue := rfl
@[simp] theorem State.setSerac_mbxQueue (s : State) (x : SeracSt) : (s.setSerac x).mbxQueue = s.mbxQueue := rfl
@[simp] theorem State.setSerac_lateSeqs (s : State) (x : SeracSt) : (s.setSerac x).lateSeqs = s.lateSeqs := rfl
@[simp] theorem State.setSerac_orders (s : State) (x : SeracSt) : (s.setSerac x).orders = s.orders := rfl
@[simp] theorem State.setSerac_f0 (s : State) (x : SeracSt) : (s.setSerac x).f0 = s.f0 := rfl
@[simp] theorem State.setSerac_f1 (s : State) (x : SeracSt) : (s.setSerac x).f1 = s.f1 := rfl
@[simp] theorem State.setSerac_points (s : State) (x : SeracSt) : (s.setSerac x).points = s.points := rfl
@[simp] theorem State.setSerac_prove (s : State) (x : SeracSt) : (s.setSerac x).prove = s.prove := rfl
@[simp] theorem State.setSerac_limits (s : State) (x : SeracSt) : (s.setSerac x).limits = s.limits := rfl
@[simp] theorem State.setSerac_disp (s : State) (x : SeracSt) : (s.setSerac x).disp = s.disp := rfl
@[simp] theorem State.setSerac_ledger (s : State) (x : SeracSt) : (s.setSerac x).ledger = s.ledger := rfl
@[simp] theorem State.setSerac_starts (s : State) (x : SeracSt) : (s.setSerac x).starts = s.starts := rfl
@[simp] theorem State.setSerac_slices (s : State) (x : SeracSt) : (s.setSerac x).slices = s.slices := rfl
@[simp] theorem State.setSerac_switches (s : State) (x : SeracSt) : (s.setSerac x).switches = s.switches := rfl
@[simp] theorem State.setSerac_gov (s : State) (x : SeracSt) : (s.setSerac x).gov = s.gov := rfl
@[simp] theorem State.setSerac_stops (s : State) (x : SeracSt) : (s.setSerac x).stops = s.stops := rfl
@[simp] theorem State.setSerac_serac (s : State) (x : SeracSt) : (s.setSerac x).serac = x := rfl
@[simp] theorem State.setSerac_ky (s : State) (x : SeracSt) : (s.setSerac x).ky = s.ky := rfl
@[simp] theorem State.setSerac_reader (s : State) (x : SeracSt) : (s.setSerac x).reader = s.reader := rfl
@[simp] theorem State.setSerac_rime (s : State) (x : SeracSt) : (s.setSerac x).rime = s.rime := rfl
@[simp] theorem State.setSerac_upd (s : State) (x : SeracSt) : (s.setSerac x).upd = s.upd := rfl

/-! ### setKy -/

@[simp] theorem State.setKy_pending (s : State) (x : KySt) : (s.setKy x).pending = s.pending := rfl
@[simp] theorem State.setKy_variant (s : State) (x : KySt) : (s.setKy x).variant = s.variant := rfl
@[simp] theorem State.setKy_stepping (s : State) (x : KySt) : (s.setKy x).stepping = s.stepping := rfl
@[simp] theorem State.setKy_time (s : State) (x : KySt) : (s.setKy x).time = s.time := rfl
@[simp] theorem State.setKy_devTime (s : State) (x : KySt) : (s.setKy x).devTime = s.devTime := rfl
@[simp] theorem State.setKy_free (s : State) (x : KySt) : (s.setKy x).free = s.free := rfl
@[simp] theorem State.setKy_regs (s : State) (x : KySt) : (s.setKy x).regs = s.regs := rfl
@[simp] theorem State.setKy_mem (s : State) (x : KySt) : (s.setKy x).mem = s.mem := rfl
@[simp] theorem State.setKy_out (s : State) (x : KySt) : (s.setKy x).out = s.out := rfl
@[simp] theorem State.setKy_gather (s : State) (x : KySt) : (s.setKy x).gather = s.gather := rfl
@[simp] theorem State.setKy_ready (s : State) (x : KySt) : (s.setKy x).ready = s.ready := rfl
@[simp] theorem State.setKy_h0 (s : State) (x : KySt) : (s.setKy x).h0 = s.h0 := rfl
@[simp] theorem State.setKy_h1 (s : State) (x : KySt) : (s.setKy x).h1 = s.h1 := rfl
@[simp] theorem State.setKy_mbx (s : State) (x : KySt) : (s.setKy x).mbx = s.mbx := rfl
@[simp] theorem State.setKy_waits (s : State) (x : KySt) : (s.setKy x).waits = s.waits := rfl
@[simp] theorem State.setKy_power (s : State) (x : KySt) : (s.setKy x).power = s.power := rfl
@[simp] theorem State.setKy_boot (s : State) (x : KySt) : (s.setKy x).boot = s.boot := rfl
@[simp] theorem State.setKy_pins (s : State) (x : KySt) : (s.setKy x).pins = s.pins := rfl
@[simp] theorem State.setKy_straps (s : State) (x : KySt) : (s.setKy x).straps = s.straps := rfl
@[simp] theorem State.setKy_mirror (s : State) (x : KySt) : (s.setKy x).mirror = s.mirror := rfl
@[simp] theorem State.setKy_cfg (s : State) (x : KySt) : (s.setKy x).cfg = s.cfg := rfl
@[simp] theorem State.setKy_timeSets (s : State) (x : KySt) : (s.setKy x).timeSets = s.timeSets := rfl
@[simp] theorem State.setKy_eth (s : State) (x : KySt) : (s.setKy x).eth = s.eth := rfl
@[simp] theorem State.setKy_eng (s : State) (x : KySt) : (s.setKy x).eng = s.eng := rfl
@[simp] theorem State.setKy_msgQueue (s : State) (x : KySt) : (s.setKy x).msgQueue = s.msgQueue := rfl
@[simp] theorem State.setKy_mbxQueue (s : State) (x : KySt) : (s.setKy x).mbxQueue = s.mbxQueue := rfl
@[simp] theorem State.setKy_lateSeqs (s : State) (x : KySt) : (s.setKy x).lateSeqs = s.lateSeqs := rfl
@[simp] theorem State.setKy_orders (s : State) (x : KySt) : (s.setKy x).orders = s.orders := rfl
@[simp] theorem State.setKy_f0 (s : State) (x : KySt) : (s.setKy x).f0 = s.f0 := rfl
@[simp] theorem State.setKy_f1 (s : State) (x : KySt) : (s.setKy x).f1 = s.f1 := rfl
@[simp] theorem State.setKy_points (s : State) (x : KySt) : (s.setKy x).points = s.points := rfl
@[simp] theorem State.setKy_prove (s : State) (x : KySt) : (s.setKy x).prove = s.prove := rfl
@[simp] theorem State.setKy_limits (s : State) (x : KySt) : (s.setKy x).limits = s.limits := rfl
@[simp] theorem State.setKy_disp (s : State) (x : KySt) : (s.setKy x).disp = s.disp := rfl
@[simp] theorem State.setKy_ledger (s : State) (x : KySt) : (s.setKy x).ledger = s.ledger := rfl
@[simp] theorem State.setKy_starts (s : State) (x : KySt) : (s.setKy x).starts = s.starts := rfl
@[simp] theorem State.setKy_slices (s : State) (x : KySt) : (s.setKy x).slices = s.slices := rfl
@[simp] theorem State.setKy_switches (s : State) (x : KySt) : (s.setKy x).switches = s.switches := rfl
@[simp] theorem State.setKy_gov (s : State) (x : KySt) : (s.setKy x).gov = s.gov := rfl
@[simp] theorem State.setKy_stops (s : State) (x : KySt) : (s.setKy x).stops = s.stops := rfl
@[simp] theorem State.setKy_serac (s : State) (x : KySt) : (s.setKy x).serac = s.serac := rfl
@[simp] theorem State.setKy_ky (s : State) (x : KySt) : (s.setKy x).ky = x := rfl
@[simp] theorem State.setKy_reader (s : State) (x : KySt) : (s.setKy x).reader = s.reader := rfl
@[simp] theorem State.setKy_rime (s : State) (x : KySt) : (s.setKy x).rime = s.rime := rfl
@[simp] theorem State.setKy_upd (s : State) (x : KySt) : (s.setKy x).upd = s.upd := rfl

/-! ### setReader -/

@[simp] theorem State.setReader_pending (s : State) (x : ReaderSt) : (s.setReader x).pending = s.pending := rfl
@[simp] theorem State.setReader_variant (s : State) (x : ReaderSt) : (s.setReader x).variant = s.variant := rfl
@[simp] theorem State.setReader_stepping (s : State) (x : ReaderSt) : (s.setReader x).stepping = s.stepping := rfl
@[simp] theorem State.setReader_time (s : State) (x : ReaderSt) : (s.setReader x).time = s.time := rfl
@[simp] theorem State.setReader_devTime (s : State) (x : ReaderSt) : (s.setReader x).devTime = s.devTime := rfl
@[simp] theorem State.setReader_free (s : State) (x : ReaderSt) : (s.setReader x).free = s.free := rfl
@[simp] theorem State.setReader_regs (s : State) (x : ReaderSt) : (s.setReader x).regs = s.regs := rfl
@[simp] theorem State.setReader_mem (s : State) (x : ReaderSt) : (s.setReader x).mem = s.mem := rfl
@[simp] theorem State.setReader_out (s : State) (x : ReaderSt) : (s.setReader x).out = s.out := rfl
@[simp] theorem State.setReader_gather (s : State) (x : ReaderSt) : (s.setReader x).gather = s.gather := rfl
@[simp] theorem State.setReader_ready (s : State) (x : ReaderSt) : (s.setReader x).ready = s.ready := rfl
@[simp] theorem State.setReader_h0 (s : State) (x : ReaderSt) : (s.setReader x).h0 = s.h0 := rfl
@[simp] theorem State.setReader_h1 (s : State) (x : ReaderSt) : (s.setReader x).h1 = s.h1 := rfl
@[simp] theorem State.setReader_mbx (s : State) (x : ReaderSt) : (s.setReader x).mbx = s.mbx := rfl
@[simp] theorem State.setReader_waits (s : State) (x : ReaderSt) : (s.setReader x).waits = s.waits := rfl
@[simp] theorem State.setReader_power (s : State) (x : ReaderSt) : (s.setReader x).power = s.power := rfl
@[simp] theorem State.setReader_boot (s : State) (x : ReaderSt) : (s.setReader x).boot = s.boot := rfl
@[simp] theorem State.setReader_pins (s : State) (x : ReaderSt) : (s.setReader x).pins = s.pins := rfl
@[simp] theorem State.setReader_straps (s : State) (x : ReaderSt) : (s.setReader x).straps = s.straps := rfl
@[simp] theorem State.setReader_mirror (s : State) (x : ReaderSt) : (s.setReader x).mirror = s.mirror := rfl
@[simp] theorem State.setReader_cfg (s : State) (x : ReaderSt) : (s.setReader x).cfg = s.cfg := rfl
@[simp] theorem State.setReader_timeSets (s : State) (x : ReaderSt) : (s.setReader x).timeSets = s.timeSets := rfl
@[simp] theorem State.setReader_eth (s : State) (x : ReaderSt) : (s.setReader x).eth = s.eth := rfl
@[simp] theorem State.setReader_eng (s : State) (x : ReaderSt) : (s.setReader x).eng = s.eng := rfl
@[simp] theorem State.setReader_msgQueue (s : State) (x : ReaderSt) : (s.setReader x).msgQueue = s.msgQueue := rfl
@[simp] theorem State.setReader_mbxQueue (s : State) (x : ReaderSt) : (s.setReader x).mbxQueue = s.mbxQueue := rfl
@[simp] theorem State.setReader_lateSeqs (s : State) (x : ReaderSt) : (s.setReader x).lateSeqs = s.lateSeqs := rfl
@[simp] theorem State.setReader_orders (s : State) (x : ReaderSt) : (s.setReader x).orders = s.orders := rfl
@[simp] theorem State.setReader_f0 (s : State) (x : ReaderSt) : (s.setReader x).f0 = s.f0 := rfl
@[simp] theorem State.setReader_f1 (s : State) (x : ReaderSt) : (s.setReader x).f1 = s.f1 := rfl
@[simp] theorem State.setReader_points (s : State) (x : ReaderSt) : (s.setReader x).points = s.points := rfl
@[simp] theorem State.setReader_prove (s : State) (x : ReaderSt) : (s.setReader x).prove = s.prove := rfl
@[simp] theorem State.setReader_limits (s : State) (x : ReaderSt) : (s.setReader x).limits = s.limits := rfl
@[simp] theorem State.setReader_disp (s : State) (x : ReaderSt) : (s.setReader x).disp = s.disp := rfl
@[simp] theorem State.setReader_ledger (s : State) (x : ReaderSt) : (s.setReader x).ledger = s.ledger := rfl
@[simp] theorem State.setReader_starts (s : State) (x : ReaderSt) : (s.setReader x).starts = s.starts := rfl
@[simp] theorem State.setReader_slices (s : State) (x : ReaderSt) : (s.setReader x).slices = s.slices := rfl
@[simp] theorem State.setReader_switches (s : State) (x : ReaderSt) : (s.setReader x).switches = s.switches := rfl
@[simp] theorem State.setReader_gov (s : State) (x : ReaderSt) : (s.setReader x).gov = s.gov := rfl
@[simp] theorem State.setReader_stops (s : State) (x : ReaderSt) : (s.setReader x).stops = s.stops := rfl
@[simp] theorem State.setReader_serac (s : State) (x : ReaderSt) : (s.setReader x).serac = s.serac := rfl
@[simp] theorem State.setReader_ky (s : State) (x : ReaderSt) : (s.setReader x).ky = s.ky := rfl
@[simp] theorem State.setReader_reader (s : State) (x : ReaderSt) : (s.setReader x).reader = x := rfl
@[simp] theorem State.setReader_rime (s : State) (x : ReaderSt) : (s.setReader x).rime = s.rime := rfl
@[simp] theorem State.setReader_upd (s : State) (x : ReaderSt) : (s.setReader x).upd = s.upd := rfl

/-! ### setRime -/

@[simp] theorem State.setRime_pending (s : State) (x : RimeSt) : (s.setRime x).pending = s.pending := rfl
@[simp] theorem State.setRime_variant (s : State) (x : RimeSt) : (s.setRime x).variant = s.variant := rfl
@[simp] theorem State.setRime_stepping (s : State) (x : RimeSt) : (s.setRime x).stepping = s.stepping := rfl
@[simp] theorem State.setRime_time (s : State) (x : RimeSt) : (s.setRime x).time = s.time := rfl
@[simp] theorem State.setRime_devTime (s : State) (x : RimeSt) : (s.setRime x).devTime = s.devTime := rfl
@[simp] theorem State.setRime_free (s : State) (x : RimeSt) : (s.setRime x).free = s.free := rfl
@[simp] theorem State.setRime_regs (s : State) (x : RimeSt) : (s.setRime x).regs = s.regs := rfl
@[simp] theorem State.setRime_mem (s : State) (x : RimeSt) : (s.setRime x).mem = s.mem := rfl
@[simp] theorem State.setRime_out (s : State) (x : RimeSt) : (s.setRime x).out = s.out := rfl
@[simp] theorem State.setRime_gather (s : State) (x : RimeSt) : (s.setRime x).gather = s.gather := rfl
@[simp] theorem State.setRime_ready (s : State) (x : RimeSt) : (s.setRime x).ready = s.ready := rfl
@[simp] theorem State.setRime_h0 (s : State) (x : RimeSt) : (s.setRime x).h0 = s.h0 := rfl
@[simp] theorem State.setRime_h1 (s : State) (x : RimeSt) : (s.setRime x).h1 = s.h1 := rfl
@[simp] theorem State.setRime_mbx (s : State) (x : RimeSt) : (s.setRime x).mbx = s.mbx := rfl
@[simp] theorem State.setRime_waits (s : State) (x : RimeSt) : (s.setRime x).waits = s.waits := rfl
@[simp] theorem State.setRime_power (s : State) (x : RimeSt) : (s.setRime x).power = s.power := rfl
@[simp] theorem State.setRime_boot (s : State) (x : RimeSt) : (s.setRime x).boot = s.boot := rfl
@[simp] theorem State.setRime_pins (s : State) (x : RimeSt) : (s.setRime x).pins = s.pins := rfl
@[simp] theorem State.setRime_straps (s : State) (x : RimeSt) : (s.setRime x).straps = s.straps := rfl
@[simp] theorem State.setRime_mirror (s : State) (x : RimeSt) : (s.setRime x).mirror = s.mirror := rfl
@[simp] theorem State.setRime_cfg (s : State) (x : RimeSt) : (s.setRime x).cfg = s.cfg := rfl
@[simp] theorem State.setRime_timeSets (s : State) (x : RimeSt) : (s.setRime x).timeSets = s.timeSets := rfl
@[simp] theorem State.setRime_eth (s : State) (x : RimeSt) : (s.setRime x).eth = s.eth := rfl
@[simp] theorem State.setRime_eng (s : State) (x : RimeSt) : (s.setRime x).eng = s.eng := rfl
@[simp] theorem State.setRime_msgQueue (s : State) (x : RimeSt) : (s.setRime x).msgQueue = s.msgQueue := rfl
@[simp] theorem State.setRime_mbxQueue (s : State) (x : RimeSt) : (s.setRime x).mbxQueue = s.mbxQueue := rfl
@[simp] theorem State.setRime_lateSeqs (s : State) (x : RimeSt) : (s.setRime x).lateSeqs = s.lateSeqs := rfl
@[simp] theorem State.setRime_orders (s : State) (x : RimeSt) : (s.setRime x).orders = s.orders := rfl
@[simp] theorem State.setRime_f0 (s : State) (x : RimeSt) : (s.setRime x).f0 = s.f0 := rfl
@[simp] theorem State.setRime_f1 (s : State) (x : RimeSt) : (s.setRime x).f1 = s.f1 := rfl
@[simp] theorem State.setRime_points (s : State) (x : RimeSt) : (s.setRime x).points = s.points := rfl
@[simp] theorem State.setRime_prove (s : State) (x : RimeSt) : (s.setRime x).prove = s.prove := rfl
@[simp] theorem State.setRime_limits (s : State) (x : RimeSt) : (s.setRime x).limits = s.limits := rfl
@[simp] theorem State.setRime_disp (s : State) (x : RimeSt) : (s.setRime x).disp = s.disp := rfl
@[simp] theorem State.setRime_ledger (s : State) (x : RimeSt) : (s.setRime x).ledger = s.ledger := rfl
@[simp] theorem State.setRime_starts (s : State) (x : RimeSt) : (s.setRime x).starts = s.starts := rfl
@[simp] theorem State.setRime_slices (s : State) (x : RimeSt) : (s.setRime x).slices = s.slices := rfl
@[simp] theorem State.setRime_switches (s : State) (x : RimeSt) : (s.setRime x).switches = s.switches := rfl
@[simp] theorem State.setRime_gov (s : State) (x : RimeSt) : (s.setRime x).gov = s.gov := rfl
@[simp] theorem State.setRime_stops (s : State) (x : RimeSt) : (s.setRime x).stops = s.stops := rfl
@[simp] theorem State.setRime_serac (s : State) (x : RimeSt) : (s.setRime x).serac = s.serac := rfl
@[simp] theorem State.setRime_ky (s : State) (x : RimeSt) : (s.setRime x).ky = s.ky := rfl
@[simp] theorem State.setRime_reader (s : State) (x : RimeSt) : (s.setRime x).reader = s.reader := rfl
@[simp] theorem State.setRime_rime (s : State) (x : RimeSt) : (s.setRime x).rime = x := rfl
@[simp] theorem State.setRime_upd (s : State) (x : RimeSt) : (s.setRime x).upd = s.upd := rfl

/-! ### setUpd -/

@[simp] theorem State.setUpd_pending (s : State) (x : UpdSt) : (s.setUpd x).pending = s.pending := rfl
@[simp] theorem State.setUpd_variant (s : State) (x : UpdSt) : (s.setUpd x).variant = s.variant := rfl
@[simp] theorem State.setUpd_stepping (s : State) (x : UpdSt) : (s.setUpd x).stepping = s.stepping := rfl
@[simp] theorem State.setUpd_time (s : State) (x : UpdSt) : (s.setUpd x).time = s.time := rfl
@[simp] theorem State.setUpd_devTime (s : State) (x : UpdSt) : (s.setUpd x).devTime = s.devTime := rfl
@[simp] theorem State.setUpd_free (s : State) (x : UpdSt) : (s.setUpd x).free = s.free := rfl
@[simp] theorem State.setUpd_regs (s : State) (x : UpdSt) : (s.setUpd x).regs = s.regs := rfl
@[simp] theorem State.setUpd_mem (s : State) (x : UpdSt) : (s.setUpd x).mem = s.mem := rfl
@[simp] theorem State.setUpd_out (s : State) (x : UpdSt) : (s.setUpd x).out = s.out := rfl
@[simp] theorem State.setUpd_gather (s : State) (x : UpdSt) : (s.setUpd x).gather = s.gather := rfl
@[simp] theorem State.setUpd_ready (s : State) (x : UpdSt) : (s.setUpd x).ready = s.ready := rfl
@[simp] theorem State.setUpd_h0 (s : State) (x : UpdSt) : (s.setUpd x).h0 = s.h0 := rfl
@[simp] theorem State.setUpd_h1 (s : State) (x : UpdSt) : (s.setUpd x).h1 = s.h1 := rfl
@[simp] theorem State.setUpd_mbx (s : State) (x : UpdSt) : (s.setUpd x).mbx = s.mbx := rfl
@[simp] theorem State.setUpd_waits (s : State) (x : UpdSt) : (s.setUpd x).waits = s.waits := rfl
@[simp] theorem State.setUpd_power (s : State) (x : UpdSt) : (s.setUpd x).power = s.power := rfl
@[simp] theorem State.setUpd_boot (s : State) (x : UpdSt) : (s.setUpd x).boot = s.boot := rfl
@[simp] theorem State.setUpd_pins (s : State) (x : UpdSt) : (s.setUpd x).pins = s.pins := rfl
@[simp] theorem State.setUpd_straps (s : State) (x : UpdSt) : (s.setUpd x).straps = s.straps := rfl
@[simp] theorem State.setUpd_mirror (s : State) (x : UpdSt) : (s.setUpd x).mirror = s.mirror := rfl
@[simp] theorem State.setUpd_cfg (s : State) (x : UpdSt) : (s.setUpd x).cfg = s.cfg := rfl
@[simp] theorem State.setUpd_timeSets (s : State) (x : UpdSt) : (s.setUpd x).timeSets = s.timeSets := rfl
@[simp] theorem State.setUpd_eth (s : State) (x : UpdSt) : (s.setUpd x).eth = s.eth := rfl
@[simp] theorem State.setUpd_eng (s : State) (x : UpdSt) : (s.setUpd x).eng = s.eng := rfl
@[simp] theorem State.setUpd_msgQueue (s : State) (x : UpdSt) : (s.setUpd x).msgQueue = s.msgQueue := rfl
@[simp] theorem State.setUpd_mbxQueue (s : State) (x : UpdSt) : (s.setUpd x).mbxQueue = s.mbxQueue := rfl
@[simp] theorem State.setUpd_lateSeqs (s : State) (x : UpdSt) : (s.setUpd x).lateSeqs = s.lateSeqs := rfl
@[simp] theorem State.setUpd_orders (s : State) (x : UpdSt) : (s.setUpd x).orders = s.orders := rfl
@[simp] theorem State.setUpd_f0 (s : State) (x : UpdSt) : (s.setUpd x).f0 = s.f0 := rfl
@[simp] theorem State.setUpd_f1 (s : State) (x : UpdSt) : (s.setUpd x).f1 = s.f1 := rfl
@[simp] theorem State.setUpd_points (s : State) (x : UpdSt) : (s.setUpd x).points = s.points := rfl
@[simp] theorem State.setUpd_prove (s : State) (x : UpdSt) : (s.setUpd x).prove = s.prove := rfl
@[simp] theorem State.setUpd_limits (s : State) (x : UpdSt) : (s.setUpd x).limits = s.limits := rfl
@[simp] theorem State.setUpd_disp (s : State) (x : UpdSt) : (s.setUpd x).disp = s.disp := rfl
@[simp] theorem State.setUpd_ledger (s : State) (x : UpdSt) : (s.setUpd x).ledger = s.ledger := rfl
@[simp] theorem State.setUpd_starts (s : State) (x : UpdSt) : (s.setUpd x).starts = s.starts := rfl
@[simp] theorem State.setUpd_slices (s : State) (x : UpdSt) : (s.setUpd x).slices = s.slices := rfl
@[simp] theorem State.setUpd_switches (s : State) (x : UpdSt) : (s.setUpd x).switches = s.switches := rfl
@[simp] theorem State.setUpd_gov (s : State) (x : UpdSt) : (s.setUpd x).gov = s.gov := rfl
@[simp] theorem State.setUpd_stops (s : State) (x : UpdSt) : (s.setUpd x).stops = s.stops := rfl
@[simp] theorem State.setUpd_serac (s : State) (x : UpdSt) : (s.setUpd x).serac = s.serac := rfl
@[simp] theorem State.setUpd_ky (s : State) (x : UpdSt) : (s.setUpd x).ky = s.ky := rfl
@[simp] theorem State.setUpd_reader (s : State) (x : UpdSt) : (s.setUpd x).reader = s.reader := rfl
@[simp] theorem State.setUpd_rime (s : State) (x : UpdSt) : (s.setUpd x).rime = s.rime := rfl
@[simp] theorem State.setUpd_upd (s : State) (x : UpdSt) : (s.setUpd x).upd = x := rfl

/-! ### setCore -/

@[simp] theorem State.setCore_pending (s : State) (n : Nat) (x : Engine) : (s.setCore n x).pending = s.pending := rfl
@[simp] theorem State.setCore_variant (s : State) (n : Nat) (x : Engine) : (s.setCore n x).variant = s.variant := rfl
@[simp] theorem State.setCore_stepping (s : State) (n : Nat) (x : Engine) : (s.setCore n x).stepping = s.stepping := rfl
@[simp] theorem State.setCore_time (s : State) (n : Nat) (x : Engine) : (s.setCore n x).time = s.time := rfl
@[simp] theorem State.setCore_devTime (s : State) (n : Nat) (x : Engine) : (s.setCore n x).devTime = s.devTime := rfl
@[simp] theorem State.setCore_free (s : State) (n : Nat) (x : Engine) : (s.setCore n x).free = s.free := rfl
@[simp] theorem State.setCore_regs (s : State) (n : Nat) (x : Engine) : (s.setCore n x).regs = s.regs := rfl
@[simp] theorem State.setCore_mem (s : State) (n : Nat) (x : Engine) : (s.setCore n x).mem = s.mem := rfl
@[simp] theorem State.setCore_out (s : State) (n : Nat) (x : Engine) : (s.setCore n x).out = s.out := rfl
@[simp] theorem State.setCore_gather (s : State) (n : Nat) (x : Engine) : (s.setCore n x).gather = s.gather := rfl
@[simp] theorem State.setCore_ready (s : State) (n : Nat) (x : Engine) : (s.setCore n x).ready = s.ready := rfl
@[simp] theorem State.setCore_h0 (s : State) (n : Nat) (x : Engine) : (s.setCore n x).h0 = s.h0 := rfl
@[simp] theorem State.setCore_h1 (s : State) (n : Nat) (x : Engine) : (s.setCore n x).h1 = s.h1 := rfl
@[simp] theorem State.setCore_mbx (s : State) (n : Nat) (x : Engine) : (s.setCore n x).mbx = s.mbx := rfl
@[simp] theorem State.setCore_waits (s : State) (n : Nat) (x : Engine) : (s.setCore n x).waits = s.waits := rfl
@[simp] theorem State.setCore_power (s : State) (n : Nat) (x : Engine) : (s.setCore n x).power = s.power := rfl
@[simp] theorem State.setCore_boot (s : State) (n : Nat) (x : Engine) : (s.setCore n x).boot = s.boot := rfl
@[simp] theorem State.setCore_pins (s : State) (n : Nat) (x : Engine) : (s.setCore n x).pins = s.pins := rfl
@[simp] theorem State.setCore_straps (s : State) (n : Nat) (x : Engine) : (s.setCore n x).straps = s.straps := rfl
@[simp] theorem State.setCore_mirror (s : State) (n : Nat) (x : Engine) : (s.setCore n x).mirror = s.mirror := rfl
@[simp] theorem State.setCore_cfg (s : State) (n : Nat) (x : Engine) : (s.setCore n x).cfg = s.cfg := rfl
@[simp] theorem State.setCore_timeSets (s : State) (n : Nat) (x : Engine) : (s.setCore n x).timeSets = s.timeSets := rfl
@[simp] theorem State.setCore_eth (s : State) (n : Nat) (x : Engine) : (s.setCore n x).eth = s.eth := rfl
@[simp] theorem State.setCore_msgQueue (s : State) (n : Nat) (x : Engine) : (s.setCore n x).msgQueue = s.msgQueue := rfl
@[simp] theorem State.setCore_mbxQueue (s : State) (n : Nat) (x : Engine) : (s.setCore n x).mbxQueue = s.mbxQueue := rfl
@[simp] theorem State.setCore_lateSeqs (s : State) (n : Nat) (x : Engine) : (s.setCore n x).lateSeqs = s.lateSeqs := rfl
@[simp] theorem State.setCore_orders (s : State) (n : Nat) (x : Engine) : (s.setCore n x).orders = s.orders := rfl
@[simp] theorem State.setCore_f0 (s : State) (n : Nat) (x : Engine) : (s.setCore n x).f0 = s.f0 := rfl
@[simp] theorem State.setCore_f1 (s : State) (n : Nat) (x : Engine) : (s.setCore n x).f1 = s.f1 := rfl
@[simp] theorem State.setCore_points (s : State) (n : Nat) (x : Engine) : (s.setCore n x).points = s.points := rfl
@[simp] theorem State.setCore_prove (s : State) (n : Nat) (x : Engine) : (s.setCore n x).prove = s.prove := rfl
@[simp] theorem State.setCore_limits (s : State) (n : Nat) (x : Engine) : (s.setCore n x).limits = s.limits := rfl
@[simp] theorem State.setCore_disp (s : State) (n : Nat) (x : Engine) : (s.setCore n x).disp = s.disp := rfl
@[simp] theorem State.setCore_ledger (s : State) (n : Nat) (x : Engine) : (s.setCore n x).ledger = s.ledger := rfl
@[simp] theorem State.setCore_starts (s : State) (n : Nat) (x : Engine) : (s.setCore n x).starts = s.starts := rfl
@[simp] theorem State.setCore_slices (s : State) (n : Nat) (x : Engine) : (s.setCore n x).slices = s.slices := rfl
@[simp] theorem State.setCore_switches (s : State) (n : Nat) (x : Engine) : (s.setCore n x).switches = s.switches := rfl
@[simp] theorem State.setCore_gov (s : State) (n : Nat) (x : Engine) : (s.setCore n x).gov = s.gov := rfl
@[simp] theorem State.setCore_stops (s : State) (n : Nat) (x : Engine) : (s.setCore n x).stops = s.stops := rfl
@[simp] theorem State.setCore_serac (s : State) (n : Nat) (x : Engine) : (s.setCore n x).serac = s.serac := rfl
@[simp] theorem State.setCore_ky (s : State) (n : Nat) (x : Engine) : (s.setCore n x).ky = s.ky := rfl
@[simp] theorem State.setCore_reader (s : State) (n : Nat) (x : Engine) : (s.setCore n x).reader = s.reader := rfl
@[simp] theorem State.setCore_rime (s : State) (n : Nat) (x : Engine) : (s.setCore n x).rime = s.rime := rfl
@[simp] theorem State.setCore_upd (s : State) (n : Nat) (x : Engine) : (s.setCore n x).upd = s.upd := rfl

/-! ### setChan -/

@[simp] theorem State.setChan_pending (s : State) (c : Chan) (x : Mbx) : (s.setChan c x).pending = s.pending := rfl
@[simp] theorem State.setChan_variant (s : State) (c : Chan) (x : Mbx) : (s.setChan c x).variant = s.variant := rfl
@[simp] theorem State.setChan_stepping (s : State) (c : Chan) (x : Mbx) : (s.setChan c x).stepping = s.stepping := rfl
@[simp] theorem State.setChan_time (s : State) (c : Chan) (x : Mbx) : (s.setChan c x).time = s.time := rfl
@[simp] theorem State.setChan_devTime (s : State) (c : Chan) (x : Mbx) : (s.setChan c x).devTime = s.devTime := rfl
@[simp] theorem State.setChan_free (s : State) (c : Chan) (x : Mbx) : (s.setChan c x).free = s.free := rfl
@[simp] theorem State.setChan_regs (s : State) (c : Chan) (x : Mbx) : (s.setChan c x).regs = s.regs := rfl
@[simp] theorem State.setChan_mem (s : State) (c : Chan) (x : Mbx) : (s.setChan c x).mem = s.mem := rfl
@[simp] theorem State.setChan_out (s : State) (c : Chan) (x : Mbx) : (s.setChan c x).out = s.out := rfl
@[simp] theorem State.setChan_gather (s : State) (c : Chan) (x : Mbx) : (s.setChan c x).gather = s.gather := rfl
@[simp] theorem State.setChan_ready (s : State) (c : Chan) (x : Mbx) : (s.setChan c x).ready = s.ready := rfl
@[simp] theorem State.setChan_h0 (s : State) (c : Chan) (x : Mbx) : (s.setChan c x).h0 = s.h0 := rfl
@[simp] theorem State.setChan_h1 (s : State) (c : Chan) (x : Mbx) : (s.setChan c x).h1 = s.h1 := rfl
@[simp] theorem State.setChan_waits (s : State) (c : Chan) (x : Mbx) : (s.setChan c x).waits = s.waits := rfl
@[simp] theorem State.setChan_power (s : State) (c : Chan) (x : Mbx) : (s.setChan c x).power = s.power := rfl
@[simp] theorem State.setChan_boot (s : State) (c : Chan) (x : Mbx) : (s.setChan c x).boot = s.boot := rfl
@[simp] theorem State.setChan_pins (s : State) (c : Chan) (x : Mbx) : (s.setChan c x).pins = s.pins := rfl
@[simp] theorem State.setChan_straps (s : State) (c : Chan) (x : Mbx) : (s.setChan c x).straps = s.straps := rfl
@[simp] theorem State.setChan_mirror (s : State) (c : Chan) (x : Mbx) : (s.setChan c x).mirror = s.mirror := rfl
@[simp] theorem State.setChan_cfg (s : State) (c : Chan) (x : Mbx) : (s.setChan c x).cfg = s.cfg := rfl
@[simp] theorem State.setChan_timeSets (s : State) (c : Chan) (x : Mbx) : (s.setChan c x).timeSets = s.timeSets := rfl
@[simp] theorem State.setChan_eth (s : State) (c : Chan) (x : Mbx) : (s.setChan c x).eth = s.eth := rfl
@[simp] theorem State.setChan_eng (s : State) (c : Chan) (x : Mbx) : (s.setChan c x).eng = s.eng := rfl
@[simp] theorem State.setChan_msgQueue (s : State) (c : Chan) (x : Mbx) : (s.setChan c x).msgQueue = s.msgQueue := rfl
@[simp] theorem State.setChan_mbxQueue (s : State) (c : Chan) (x : Mbx) : (s.setChan c x).mbxQueue = s.mbxQueue := rfl
@[simp] theorem State.setChan_lateSeqs (s : State) (c : Chan) (x : Mbx) : (s.setChan c x).lateSeqs = s.lateSeqs := rfl
@[simp] theorem State.setChan_orders (s : State) (c : Chan) (x : Mbx) : (s.setChan c x).orders = s.orders := rfl
@[simp] theorem State.setChan_f0 (s : State) (c : Chan) (x : Mbx) : (s.setChan c x).f0 = s.f0 := rfl
@[simp] theorem State.setChan_f1 (s : State) (c : Chan) (x : Mbx) : (s.setChan c x).f1 = s.f1 := rfl
@[simp] theorem State.setChan_points (s : State) (c : Chan) (x : Mbx) : (s.setChan c x).points = s.points := rfl
@[simp] theorem State.setChan_prove (s : State) (c : Chan) (x : Mbx) : (s.setChan c x).prove = s.prove := rfl
@[simp] theorem State.setChan_limits (s : State) (c : Chan) (x : Mbx) : (s.setChan c x).limits = s.limits := rfl
@[simp] theorem State.setChan_disp (s : State) (c : Chan) (x : Mbx) : (s.setChan c x).disp = s.disp := rfl
@[simp] theorem State.setChan_ledger (s : State) (c : Chan) (x : Mbx) : (s.setChan c x).ledger = s.ledger := rfl
@[simp] theorem State.setChan_starts (s : State) (c : Chan) (x : Mbx) : (s.setChan c x).starts = s.starts := rfl
@[simp] theorem State.setChan_slices (s : State) (c : Chan) (x : Mbx) : (s.setChan c x).slices = s.slices := rfl
@[simp] theorem State.setChan_switches (s : State) (c : Chan) (x : Mbx) : (s.setChan c x).switches = s.switches := rfl
@[simp] theorem State.setChan_gov (s : State) (c : Chan) (x : Mbx) : (s.setChan c x).gov = s.gov := rfl
@[simp] theorem State.setChan_stops (s : State) (c : Chan) (x : Mbx) : (s.setChan c x).stops = s.stops := rfl
@[simp] theorem State.setChan_serac (s : State) (c : Chan) (x : Mbx) : (s.setChan c x).serac = s.serac := rfl
@[simp] theorem State.setChan_ky (s : State) (c : Chan) (x : Mbx) : (s.setChan c x).ky = s.ky := rfl
@[simp] theorem State.setChan_reader (s : State) (c : Chan) (x : Mbx) : (s.setChan c x).reader = s.reader := rfl
@[simp] theorem State.setChan_rime (s : State) (c : Chan) (x : Mbx) : (s.setChan c x).rime = s.rime := rfl
@[simp] theorem State.setChan_upd (s : State) (c : Chan) (x : Mbx) : (s.setChan c x).upd = s.upd := rfl

/-! ### setHost -/

@[simp] theorem State.setHost_pending (s : State) (p : Port) (x : HostSt) : (s.setHost p x).pending = s.pending := by cases p <;> rfl
@[simp] theorem State.setHost_variant (s : State) (p : Port) (x : HostSt) : (s.setHost p x).variant = s.variant := by cases p <;> rfl
@[simp] theorem State.setHost_stepping (s : State) (p : Port) (x : HostSt) : (s.setHost p x).stepping = s.stepping := by cases p <;> rfl
@[simp] theorem State.setHost_time (s : State) (p : Port) (x : HostSt) : (s.setHost p x).time = s.time := by cases p <;> rfl
@[simp] theorem State.setHost_devTime (s : State) (p : Port) (x : HostSt) : (s.setHost p x).devTime = s.devTime := by cases p <;> rfl
@[simp] theorem State.setHost_free (s : State) (p : Port) (x : HostSt) : (s.setHost p x).free = s.free := by cases p <;> rfl
@[simp] theorem State.setHost_regs (s : State) (p : Port) (x : HostSt) : (s.setHost p x).regs = s.regs := by cases p <;> rfl
@[simp] theorem State.setHost_mem (s : State) (p : Port) (x : HostSt) : (s.setHost p x).mem = s.mem := by cases p <;> rfl
@[simp] theorem State.setHost_out (s : State) (p : Port) (x : HostSt) : (s.setHost p x).out = s.out := by cases p <;> rfl
@[simp] theorem State.setHost_gather (s : State) (p : Port) (x : HostSt) : (s.setHost p x).gather = s.gather := by cases p <;> rfl
@[simp] theorem State.setHost_ready (s : State) (p : Port) (x : HostSt) : (s.setHost p x).ready = s.ready := by cases p <;> rfl
@[simp] theorem State.setHost_mbx (s : State) (p : Port) (x : HostSt) : (s.setHost p x).mbx = s.mbx := by cases p <;> rfl
@[simp] theorem State.setHost_waits (s : State) (p : Port) (x : HostSt) : (s.setHost p x).waits = s.waits := by cases p <;> rfl
@[simp] theorem State.setHost_power (s : State) (p : Port) (x : HostSt) : (s.setHost p x).power = s.power := by cases p <;> rfl
@[simp] theorem State.setHost_boot (s : State) (p : Port) (x : HostSt) : (s.setHost p x).boot = s.boot := by cases p <;> rfl
@[simp] theorem State.setHost_pins (s : State) (p : Port) (x : HostSt) : (s.setHost p x).pins = s.pins := by cases p <;> rfl
@[simp] theorem State.setHost_straps (s : State) (p : Port) (x : HostSt) : (s.setHost p x).straps = s.straps := by cases p <;> rfl
@[simp] theorem State.setHost_mirror (s : State) (p : Port) (x : HostSt) : (s.setHost p x).mirror = s.mirror := by cases p <;> rfl
@[simp] theorem State.setHost_cfg (s : State) (p : Port) (x : HostSt) : (s.setHost p x).cfg = s.cfg := by cases p <;> rfl
@[simp] theorem State.setHost_timeSets (s : State) (p : Port) (x : HostSt) : (s.setHost p x).timeSets = s.timeSets := by cases p <;> rfl
@[simp] theorem State.setHost_eth (s : State) (p : Port) (x : HostSt) : (s.setHost p x).eth = s.eth := by cases p <;> rfl
@[simp] theorem State.setHost_eng (s : State) (p : Port) (x : HostSt) : (s.setHost p x).eng = s.eng := by cases p <;> rfl
@[simp] theorem State.setHost_msgQueue (s : State) (p : Port) (x : HostSt) : (s.setHost p x).msgQueue = s.msgQueue := by cases p <;> rfl
@[simp] theorem State.setHost_mbxQueue (s : State) (p : Port) (x : HostSt) : (s.setHost p x).mbxQueue = s.mbxQueue := by cases p <;> rfl
@[simp] theorem State.setHost_lateSeqs (s : State) (p : Port) (x : HostSt) : (s.setHost p x).lateSeqs = s.lateSeqs := by cases p <;> rfl
@[simp] theorem State.setHost_orders (s : State) (p : Port) (x : HostSt) : (s.setHost p x).orders = s.orders := by cases p <;> rfl
@[simp] theorem State.setHost_f0 (s : State) (p : Port) (x : HostSt) : (s.setHost p x).f0 = s.f0 := by cases p <;> rfl
@[simp] theorem State.setHost_f1 (s : State) (p : Port) (x : HostSt) : (s.setHost p x).f1 = s.f1 := by cases p <;> rfl
@[simp] theorem State.setHost_points (s : State) (p : Port) (x : HostSt) : (s.setHost p x).points = s.points := by cases p <;> rfl
@[simp] theorem State.setHost_prove (s : State) (p : Port) (x : HostSt) : (s.setHost p x).prove = s.prove := by cases p <;> rfl
@[simp] theorem State.setHost_limits (s : State) (p : Port) (x : HostSt) : (s.setHost p x).limits = s.limits := by cases p <;> rfl
@[simp] theorem State.setHost_disp (s : State) (p : Port) (x : HostSt) : (s.setHost p x).disp = s.disp := by cases p <;> rfl
@[simp] theorem State.setHost_ledger (s : State) (p : Port) (x : HostSt) : (s.setHost p x).ledger = s.ledger := by cases p <;> rfl
@[simp] theorem State.setHost_starts (s : State) (p : Port) (x : HostSt) : (s.setHost p x).starts = s.starts := by cases p <;> rfl
@[simp] theorem State.setHost_slices (s : State) (p : Port) (x : HostSt) : (s.setHost p x).slices = s.slices := by cases p <;> rfl
@[simp] theorem State.setHost_switches (s : State) (p : Port) (x : HostSt) : (s.setHost p x).switches = s.switches := by cases p <;> rfl
@[simp] theorem State.setHost_gov (s : State) (p : Port) (x : HostSt) : (s.setHost p x).gov = s.gov := by cases p <;> rfl
@[simp] theorem State.setHost_stops (s : State) (p : Port) (x : HostSt) : (s.setHost p x).stops = s.stops := by cases p <;> rfl
@[simp] theorem State.setHost_serac (s : State) (p : Port) (x : HostSt) : (s.setHost p x).serac = s.serac := by cases p <;> rfl
@[simp] theorem State.setHost_ky (s : State) (p : Port) (x : HostSt) : (s.setHost p x).ky = s.ky := by cases p <;> rfl
@[simp] theorem State.setHost_reader (s : State) (p : Port) (x : HostSt) : (s.setHost p x).reader = s.reader := by cases p <;> rfl
@[simp] theorem State.setHost_rime (s : State) (p : Port) (x : HostSt) : (s.setHost p x).rime = s.rime := by cases p <;> rfl
@[simp] theorem State.setHost_upd (s : State) (p : Port) (x : HostSt) : (s.setHost p x).upd = s.upd := by cases p <;> rfl

/-! ### setFirn -/

@[simp] theorem State.setFirn_pending (s : State) (d : Firn) (x : FirnSt) : (s.setFirn d x).pending = s.pending := by cases d <;> rfl
@[simp] theorem State.setFirn_variant (s : State) (d : Firn) (x : FirnSt) : (s.setFirn d x).variant = s.variant := by cases d <;> rfl
@[simp] theorem State.setFirn_stepping (s : State) (d : Firn) (x : FirnSt) : (s.setFirn d x).stepping = s.stepping := by cases d <;> rfl
@[simp] theorem State.setFirn_time (s : State) (d : Firn) (x : FirnSt) : (s.setFirn d x).time = s.time := by cases d <;> rfl
@[simp] theorem State.setFirn_devTime (s : State) (d : Firn) (x : FirnSt) : (s.setFirn d x).devTime = s.devTime := by cases d <;> rfl
@[simp] theorem State.setFirn_free (s : State) (d : Firn) (x : FirnSt) : (s.setFirn d x).free = s.free := by cases d <;> rfl
@[simp] theorem State.setFirn_regs (s : State) (d : Firn) (x : FirnSt) : (s.setFirn d x).regs = s.regs := by cases d <;> rfl
@[simp] theorem State.setFirn_mem (s : State) (d : Firn) (x : FirnSt) : (s.setFirn d x).mem = s.mem := by cases d <;> rfl
@[simp] theorem State.setFirn_out (s : State) (d : Firn) (x : FirnSt) : (s.setFirn d x).out = s.out := by cases d <;> rfl
@[simp] theorem State.setFirn_gather (s : State) (d : Firn) (x : FirnSt) : (s.setFirn d x).gather = s.gather := by cases d <;> rfl
@[simp] theorem State.setFirn_ready (s : State) (d : Firn) (x : FirnSt) : (s.setFirn d x).ready = s.ready := by cases d <;> rfl
@[simp] theorem State.setFirn_h0 (s : State) (d : Firn) (x : FirnSt) : (s.setFirn d x).h0 = s.h0 := by cases d <;> rfl
@[simp] theorem State.setFirn_h1 (s : State) (d : Firn) (x : FirnSt) : (s.setFirn d x).h1 = s.h1 := by cases d <;> rfl
@[simp] theorem State.setFirn_mbx (s : State) (d : Firn) (x : FirnSt) : (s.setFirn d x).mbx = s.mbx := by cases d <;> rfl
@[simp] theorem State.setFirn_waits (s : State) (d : Firn) (x : FirnSt) : (s.setFirn d x).waits = s.waits := by cases d <;> rfl
@[simp] theorem State.setFirn_power (s : State) (d : Firn) (x : FirnSt) : (s.setFirn d x).power = s.power := by cases d <;> rfl
@[simp] theorem State.setFirn_boot (s : State) (d : Firn) (x : FirnSt) : (s.setFirn d x).boot = s.boot := by cases d <;> rfl
@[simp] theorem State.setFirn_pins (s : State) (d : Firn) (x : FirnSt) : (s.setFirn d x).pins = s.pins := by cases d <;> rfl
@[simp] theorem State.setFirn_straps (s : State) (d : Firn) (x : FirnSt) : (s.setFirn d x).straps = s.straps := by cases d <;> rfl
@[simp] theorem State.setFirn_mirror (s : State) (d : Firn) (x : FirnSt) : (s.setFirn d x).mirror = s.mirror := by cases d <;> rfl
@[simp] theorem State.setFirn_cfg (s : State) (d : Firn) (x : FirnSt) : (s.setFirn d x).cfg = s.cfg := by cases d <;> rfl
@[simp] theorem State.setFirn_timeSets (s : State) (d : Firn) (x : FirnSt) : (s.setFirn d x).timeSets = s.timeSets := by cases d <;> rfl
@[simp] theorem State.setFirn_eth (s : State) (d : Firn) (x : FirnSt) : (s.setFirn d x).eth = s.eth := by cases d <;> rfl
@[simp] theorem State.setFirn_eng (s : State) (d : Firn) (x : FirnSt) : (s.setFirn d x).eng = s.eng := by cases d <;> rfl
@[simp] theorem State.setFirn_msgQueue (s : State) (d : Firn) (x : FirnSt) : (s.setFirn d x).msgQueue = s.msgQueue := by cases d <;> rfl
@[simp] theorem State.setFirn_mbxQueue (s : State) (d : Firn) (x : FirnSt) : (s.setFirn d x).mbxQueue = s.mbxQueue := by cases d <;> rfl
@[simp] theorem State.setFirn_lateSeqs (s : State) (d : Firn) (x : FirnSt) : (s.setFirn d x).lateSeqs = s.lateSeqs := by cases d <;> rfl
@[simp] theorem State.setFirn_orders (s : State) (d : Firn) (x : FirnSt) : (s.setFirn d x).orders = s.orders := by cases d <;> rfl
@[simp] theorem State.setFirn_points (s : State) (d : Firn) (x : FirnSt) : (s.setFirn d x).points = s.points := by cases d <;> rfl
@[simp] theorem State.setFirn_prove (s : State) (d : Firn) (x : FirnSt) : (s.setFirn d x).prove = s.prove := by cases d <;> rfl
@[simp] theorem State.setFirn_limits (s : State) (d : Firn) (x : FirnSt) : (s.setFirn d x).limits = s.limits := by cases d <;> rfl
@[simp] theorem State.setFirn_disp (s : State) (d : Firn) (x : FirnSt) : (s.setFirn d x).disp = s.disp := by cases d <;> rfl
@[simp] theorem State.setFirn_ledger (s : State) (d : Firn) (x : FirnSt) : (s.setFirn d x).ledger = s.ledger := by cases d <;> rfl
@[simp] theorem State.setFirn_starts (s : State) (d : Firn) (x : FirnSt) : (s.setFirn d x).starts = s.starts := by cases d <;> rfl
@[simp] theorem State.setFirn_slices (s : State) (d : Firn) (x : FirnSt) : (s.setFirn d x).slices = s.slices := by cases d <;> rfl
@[simp] theorem State.setFirn_switches (s : State) (d : Firn) (x : FirnSt) : (s.setFirn d x).switches = s.switches := by cases d <;> rfl
@[simp] theorem State.setFirn_gov (s : State) (d : Firn) (x : FirnSt) : (s.setFirn d x).gov = s.gov := by cases d <;> rfl
@[simp] theorem State.setFirn_stops (s : State) (d : Firn) (x : FirnSt) : (s.setFirn d x).stops = s.stops := by cases d <;> rfl
@[simp] theorem State.setFirn_serac (s : State) (d : Firn) (x : FirnSt) : (s.setFirn d x).serac = s.serac := by cases d <;> rfl
@[simp] theorem State.setFirn_ky (s : State) (d : Firn) (x : FirnSt) : (s.setFirn d x).ky = s.ky := by cases d <;> rfl
@[simp] theorem State.setFirn_reader (s : State) (d : Firn) (x : FirnSt) : (s.setFirn d x).reader = s.reader := by cases d <;> rfl
@[simp] theorem State.setFirn_rime (s : State) (d : Firn) (x : FirnSt) : (s.setFirn d x).rime = s.rime := by cases d <;> rfl
@[simp] theorem State.setFirn_upd (s : State) (d : Firn) (x : FirnSt) : (s.setFirn d x).upd = s.upd := by cases d <;> rfl

end Sys2Proof.Machine
end

