-- ==== Sys2Proof/Laws/Tab.lean ====
section
/-!
SUPPORT. Laws/Tab.lean: what a table answers after a write, and what a bit field of a number answers after a field was replaced.
-/
namespace Sys2Proof

variable {κ α : Type} [DecidableEq κ]

@[simp] theorem tabFind_tabErase_same (t : List (κ × α)) (k : κ) : tabFind (tabErase t k) k = none := by
  induction t with
  | nil => rfl
  | cons p r ih => obtain ⟨a, v⟩ := p; by_cases h : a = k <;> simp [tabErase, tabFind, h, ih]

@[simp] theorem tabErase_tabErase (t : List (κ × α)) (k : κ) : tabErase (tabErase t k) k = tabErase t k := by
  induction t with
  | nil => rfl
  | cons x r ih => obtain ⟨a, v⟩ := x; by_cases h : a = k <;> simp [tabErase, h, ih]

theorem tabFind_tabErase_other (t : List (κ × α)) {k j : κ} (h : j ≠ k) : tabFind (tabErase t k) j = tabFind t j := by
  induction t with
  | nil => rfl
  | cons p r ih =>
    obtain ⟨a, v⟩ := p
    by_cases e : a = k
    · subst e; simp [tabErase, tabFind, ih, h.symm]
    · simp [tabErase, tabFind, e, ih]

@[simp] theorem tabFind_tabSet_same (t : List (κ × α)) (k : κ) (v : α) : tabFind (tabSet t k v) k = some v := by
  simp [tabSet, tabFind]

theorem tabFind_tabSet_other (t : List (κ × α)) {k j : κ} (v : α) (h : j ≠ k) : tabFind (tabSet t k v) j = tabFind t j := by
  simp [tabSet, tabFind, h.symm, tabFind_tabErase_other t h]

/-- A table read after a write to the same key gives the value written. -/
@[simp] theorem tabGet_tabSet_same (d : α) (t : List (κ × α)) (k : κ) (v : α) : tabGet d (tabSet t k v) k = v := by
  simp [tabGet]

/-- A write leaves every other key alone. -/
theorem tabGet_tabSet_other (d : α) (t : List (κ × α)) {k j : κ} (v : α) (h : j ≠ k) :
    tabGet d (tabSet t k v) j = tabGet d t j := by
  simp [tabGet, tabFind_tabSet_other t v h]

/-- A write seen from any key. -/
theorem tabGet_tabSet (d : α) (t : List (κ × α)) (k j : κ) (v : α) :
    tabGet d (tabSet t k v) j = if j = k then v else tabGet d t j := by
  by_cases h : j = k
  · subst h; simp
  · simp [h, tabGet_tabSet_other]

/-- Replacing a field splits the number into what is above, the field and what is below. -/
theorem putBits_eq (n lo width v : Nat) :
    putBits n lo width v = n / 2 ^ (lo + width) * 2 ^ (lo + width) + v % 2 ^ width * 2 ^ lo + n % 2 ^ lo := by
  unfold putBits bitsAt
  have h1 := Nat.div_add_mod n (2 ^ lo)
  have h2 := Nat.div_add_mod (n / 2 ^ lo) (2 ^ width)
  rw [Nat.div_div_eq_div_mul, ← pow_add] at h2
  have h3 : n = n / 2 ^ (lo + width) * 2 ^ (lo + width) + n / 2 ^ lo % 2 ^ width * 2 ^ lo + n % 2 ^ lo := by
    calc n = 2 ^ lo * (n / 2 ^ lo) + n % 2 ^ lo := h1.symm
      _ = 2 ^ lo * (2 ^ width * (n / 2 ^ (lo + width)) + n / 2 ^ lo % 2 ^ width) + n % 2 ^ lo := by rw [h2]
      _ = _ := by rw [pow_add]; ring
  generalize n / 2 ^ (lo + width) * 2 ^ (lo + width) = a at *
  generalize n / 2 ^ lo % 2 ^ width * 2 ^ lo = b at *
  generalize v % 2 ^ width * 2 ^ lo = c at *
  omega

theorem bitsAt_lt (n lo width : Nat) : bitsAt n lo width < 2 ^ width := Nat.mod_lt _ (by positivity)

/-- A field replaced reads as the value cut to the field. -/
@[simp] theorem bitsAt_putBits_same (n lo width v : Nat) : bitsAt (putBits n lo width v) lo width = v % 2 ^ width := by
  have hm := Nat.mod_lt n (show 0 < 2 ^ lo by positivity)
  have hv := Nat.mod_lt v (show 0 < 2 ^ width by positivity)
  rw [putBits_eq, bitsAt]
  have e : n / 2 ^ (lo + width) * 2 ^ (lo + width) + v % 2 ^ width * 2 ^ lo + n % 2 ^ lo
      = n % 2 ^ lo + 2 ^ lo * (v % 2 ^ width + 2 ^ width * (n / 2 ^ (lo + width))) := by rw [pow_add]; ring
  rw [e, Nat.add_mul_div_left _ _ (by positivity), Nat.div_eq_of_lt hm, Nat.zero_add, Nat.add_mul_mod_self_left,
    Nat.mod_eq_of_lt hv]

/-- A field below the one replaced keeps its value. -/
theorem bitsAt_putBits_below (n v : Nat) {lo width l w : Nat} (h : l + w ≤ lo) :
    bitsAt (putBits n lo width v) l w = bitsAt n l w := by
  obtain ⟨k, rfl⟩ := Nat.exists_eq_add_of_le h
  have e : putBits n (l + w + k) width v = n % 2 ^ (l + w + k)
      + 2 ^ (l + w) * (2 ^ k * (v % 2 ^ width + 2 ^ width * (n / 2 ^ (l + w + k + width)))) := by
    rw [putBits_eq, pow_add 2 (l + w + k) width, pow_add 2 (l + w) k]; ring
  have key : ∀ x y : Nat, (x % 2 ^ (l + w)) = (y % 2 ^ (l + w)) → bitsAt x l w = bitsAt y l w := by
    intro x y hxy
    unfold bitsAt
    rw [← Nat.mod_mul_right_div_self, ← Nat.mod_mul_right_div_self, ← pow_add, hxy]
  apply key
  rw [e, Nat.add_mul_mod_self_left, Nat.mod_mod_of_dvd _ (pow_dvd_pow 2 (Nat.le_add_right _ _))]

/-- A field above the one replaced keeps its value. -/
theorem bitsAt_putBits_above (n v : Nat) {lo width l w : Nat} (h : lo + width ≤ l) :
    bitsAt (putBits n lo width v) l w = bitsAt n l w := by
  obtain ⟨k, rfl⟩ := Nat.exists_eq_add_of_le h
  have hm := Nat.mod_lt n (show 0 < 2 ^ lo by positivity)
  have hv := Nat.mod_lt v (show 0 < 2 ^ width by positivity)
  have hlt : v % 2 ^ width * 2 ^ lo + n % 2 ^ lo < 2 ^ (lo + width) := by
    rw [pow_add, Nat.mul_comm (2 ^ lo)]
    calc v % 2 ^ width * 2 ^ lo + n % 2 ^ lo < v % 2 ^ width * 2 ^ lo + 2 ^ lo := by omega
      _ = (v % 2 ^ width + 1) * 2 ^ lo := by ring
      _ ≤ 2 ^ width * 2 ^ lo := Nat.mul_le_mul_right _ hv
  have e : putBits n lo width v / 2 ^ (lo + width) = n / 2 ^ (lo + width) := by
    rw [putBits_eq, Nat.add_assoc, Nat.add_comm, Nat.add_mul_div_right _ _ (by positivity), Nat.div_eq_of_lt hlt, Nat.zero_add]
  unfold bitsAt
  rw [pow_add 2 (lo + width) k, ← Nat.div_div_eq_div_mul, ← Nat.div_div_eq_div_mul, e]

/-- A field replaced in a 32-bit number leaves a 32-bit number. -/
theorem putBits_lt (n lo width v : Nat) (h : lo + width ≤ 32) (hn : n < 2 ^ 32) : putBits n lo width v < 2 ^ 32 := by
  have hm := Nat.mod_lt n (show 0 < 2 ^ lo by positivity)
  have hv := Nat.mod_lt v (show 0 < 2 ^ width by positivity)
  obtain ⟨k, hk⟩ := Nat.exists_eq_add_of_le h
  have hq : n / 2 ^ (lo + width) < 2 ^ k := by
    rw [Nat.div_lt_iff_lt_mul (by positivity), ← pow_add, Nat.add_comm k, ← hk]; exact hn
  rw [putBits_eq, hk]
  have h1 : v % 2 ^ width * 2 ^ lo + n % 2 ^ lo < 2 ^ (lo + width) := by
    rw [pow_add, Nat.mul_comm (2 ^ lo)]
    calc v % 2 ^ width * 2 ^ lo + n % 2 ^ lo < v % 2 ^ width * 2 ^ lo + 2 ^ lo := by omega
      _ = (v % 2 ^ width + 1) * 2 ^ lo := by ring
      _ ≤ 2 ^ width * 2 ^ lo := Nat.mul_le_mul_right _ hv
  calc _ < n / 2 ^ (lo + width) * 2 ^ (lo + width) + 2 ^ (lo + width) := by omega
    _ = (n / 2 ^ (lo + width) + 1) * 2 ^ (lo + width) := by ring
    _ ≤ 2 ^ k * 2 ^ (lo + width) := Nat.mul_le_mul_right _ hq
    _ = 2 ^ (lo + width + k) := by rw [← pow_add, Nat.add_comm]

end Sys2Proof
end

