-- ==== Sys2Proof/Laws/Regs.lean ====
section
/-!
SUPPORT. Laws/Regs.lean: registers and their fields after a write. A field keeps its value when another register, another index
or other bits are written; the side conditions that name no state are closed facts, for `simp (disch := decide)`.
-/
namespace Sys2Proof.Machine

theorem State.reg_setReg (s : State) (r q : Reg) (i j : Nat) (v : W32) :
    (s.setReg r i v).reg q j = if q = r ∧ j = i then v else s.reg q j := by
  by_cases h : (⟨q, j⟩ : RegKey) = ⟨r, i⟩
  · obtain ⟨rfl, rfl⟩ : q = r ∧ j = i := by simpa using h
    simp [State.reg]
  · have h' : ¬(q = r ∧ j = i) := by simpa using h
    simp only [State.reg, State.setReg_regs_eq, h', if_false, tabGet_tabSet_other _ _ _ h]

@[simp] theorem State.reg_setReg_same (s : State) (r : Reg) (i : Nat) (v : W32) : (s.setReg r i v).reg r i = v := by
  simp [State.reg_setReg]

theorem State.reg_setReg_ne (s : State) {r q : Reg} (i j : Nat) (v : W32) (h : r ≠ q) : (s.setReg r i v).reg q j = s.reg q j := by
  simp [State.reg_setReg, h.symm]

theorem State.reg_setReg_idx (s : State) {r q : Reg} {i j : Nat} (v : W32) (h : i ≠ j) : (s.setReg r i v).reg q j = s.reg q j := by
  simp [State.reg_setReg, h.symm]

theorem State.reg_put_ne (s : State) {f : Fld} {q : Reg} (i j v : Nat) (h : f.reg ≠ q) : (s.put f i v).reg q j = s.reg q j :=
  s.reg_setReg_ne _ _ _ h

theorem State.reg_put_idx (s : State) {f : Fld} {q : Reg} {i j : Nat} (v : Nat) (h : i ≠ j) : (s.put f i v).reg q j = s.reg q j :=
  s.reg_setReg_idx _ h

theorem State.get_setReg_ne (s : State) {r : Reg} {f : Fld} (i j : Nat) (v : W32) (h : r ≠ f.reg) :
    (s.setReg r i v).get f j = s.get f j := by simp [State.get, s.reg_setReg_ne i j v h]

@[simp] theorem State.get_setReg_same (s : State) (f : Fld) (i : Nat) (v : W32) :
    (s.setReg f.reg i v).get f i = bitsAt v.toNat f.lo f.width := by simp [State.get]

/-- A field written reads as the value cut to the field. -/
theorem State.get_put_same (s : State) {f : Fld} (i v : Nat) (h : f.lo + f.width ≤ 32) : (s.put f i v).get f i = v % 2 ^ f.width := by
  have hl := putBits_lt (s.reg f.reg i).toNat f.lo f.width v h (s.reg f.reg i).isLt
  rw [State.get, State.put, State.reg_setReg_same, BitVec.toNat_ofNat, Nat.mod_eq_of_lt hl, bitsAt_putBits_same]

/-- Other bits, or another register, keep their value. -/
theorem State.get_put_apart (s : State) {f g : Fld} (i j v : Nat) (hw : f.lo + f.width ≤ 32)
    (h : f.reg ≠ g.reg ∨ f.lo + f.width ≤ g.lo ∨ g.lo + g.width ≤ f.lo) : (s.put f i v).get g j = s.get g j := by
  by_cases hr : f.reg = g.reg
  · by_cases hi : i = j
    · subst hi
      have hl := putBits_lt (s.reg f.reg i).toNat f.lo f.width v hw (s.reg f.reg i).isLt
      rw [State.get, State.put, ← hr, State.reg_setReg_same, BitVec.toNat_ofNat, Nat.mod_eq_of_lt hl, State.get, ← hr]
      rcases h with h | h | h
      · exact absurd hr h
      · exact bitsAt_putBits_above _ _ h
      · exact bitsAt_putBits_below _ _ h
    · simp [State.get, s.reg_put_idx v hi]
  · simp [State.get, s.reg_put_ne i j v hr]

theorem State.get_put_idx (s : State) {f g : Fld} {i j : Nat} (v : Nat) (h : i ≠ j) : (s.put f i v).get g j = s.get g j := by
  simp [State.get, s.reg_put_idx v h]

theorem State.get_congr {s t : State} (f : Fld) (i : Nat) (h : t.regs = s.regs) : t.get f i = s.get f i := by
  simp [State.get, State.reg, h]

theorem State.reg_congr {s t : State} (r : Reg) (i : Nat) (h : t.regs = s.regs) : t.reg r i = s.reg r i := by simp [State.reg, h]

theorem State.get_lt (s : State) (f : Fld) (i : Nat) : s.get f i < 2 ^ f.width := bitsAt_lt _ _ _

/-- A one-bit field set to 1 reads as set. -/
theorem State.flag_put_same (s : State) {f : Fld} (i v : Nat) (h : f.lo + f.width ≤ 32) :
    (s.put f i v).flag f i = (v % 2 ^ f.width != 0) := by simp [State.flag, s.get_put_same i v h]

end Sys2Proof.Machine
end

