-- ==== Sys2Proof/Laws/Post.lean ====
section
/-!
SUPPORT. Laws/Post.lean: what writing entries, events and completions can change: registers of the host ports, the ports
themselves and the record of outputs; everything else keeps its value.
-/
namespace Sys2Proof.Machine

/-- The state without its registers, its host ports, the events that are ready and its record of outputs. -/
def State.rest (s : State) : State := { s with regs := [], h0 := {}, h1 := {}, ready := [], out := [] }

theorem State.foldl_rest {α : Type} (g : State → α → State) (h : ∀ s a, (g s a).rest = s.rest) :
    ∀ (l : List α) (s : State), (l.foldl g s).rest = s.rest
  | [], _ => rfl
  | a :: r, s => by rw [List.foldl_cons, State.foldl_rest g h r, h]


@[simp] theorem State.rest_setReg (s : State) (r : Reg) (i : Nat) (v : W32) : (s.setReg r i v).rest = s.rest := rfl
@[simp] theorem State.rest_put (s : State) (f : Fld) (i v : Nat) : (s.put f i v).rest = s.rest := rfl
@[simp] theorem State.rest_putB (s : State) (f : Fld) (i : Nat) (b : Bool) : (s.putB f i b).rest = s.rest := rfl
@[simp] theorem State.rest_bump (s : State) (f : Fld) (i n : Nat) : (s.bump f i n).rest = s.rest := rfl
@[simp] theorem State.rest_emit (s : State) (o : Out) : (s.emit o).rest = s.rest := rfl
@[simp] theorem State.rest_setHost (s : State) (p : Port) (h : HostSt) : (s.setHost p h).rest = s.rest := by cases p <;> rfl
@[simp] theorem State.rest_setSq (s : State) (p : Port) (q : Nat) (r : Ring) : (s.setSq p q r).rest = s.rest := by
  simp [State.setSq]
@[simp] theorem State.rest_setCq (s : State) (p : Port) (q : Nat) (r : Ring) : (s.setCq p q r).rest = s.rest := by
  simp [State.setCq]
@[simp] theorem State.sendMsix_rest (s : State) (p : Port) (v : Nat) : (s.sendMsix p v).rest = s.rest := by
  simp only [State.sendMsix]; split <;> simp
@[simp] theorem State.msixRelease_rest (s : State) (p : Port) : (s.msixRelease p).rest = s.rest := by
  simp only [State.msixRelease]
  rw [State.foldl_rest _ (by intros; simp)]
  simp
@[simp] theorem State.signal_rest (s : State) (p : Port) (v : Nat) : (s.signal p v).rest = s.rest := by simp [State.signal]
@[simp] theorem State.writeEntry_rest (s : State) (p : Port) (c : Nat) (e : Entry) (b : Bool) :
    (s.writeEntry p c e b).rest = s.rest := by simp only [State.writeEntry]; split <;> simp
@[simp] theorem State.loseEvent_rest (s : State) (p : Port) : (s.loseEvent p).rest = s.rest := by simp [State.loseEvent]
@[simp] theorem State.reportLost_rest (s : State) (p : Port) : (s.reportLost p).rest = s.rest := by
  simp only [State.reportLost]; split <;> simp
@[simp] theorem State.rest_ready (s : State) (l : List (Nat × (Port × (Nat × Entry)))) : State.rest { s with ready := l } = s.rest := rfl
@[simp] theorem State.entryNow_rest (s : State) (p : Port) (x : Nat × Entry) : (s.entryNow p x).rest = s.rest := by
  simp only [State.entryNow]
  split
  · rfl
  · split
    · simp
    · split
      · simp
      · split <;> simp
@[simp] theorem State.flushReady_rest (s : State) : s.flushReady.rest = s.rest := by
  simp only [State.flushReady]
  rw [State.foldl_rest _ (by intros; simp)]
  simp
@[simp] theorem State.entryFrom_rest (s : State) (k : Nat) (p : Port) (x : Nat × Entry) : (s.entryFrom k p x).rest = s.rest := by
  simp only [State.entryFrom]
  split
  · simp
  · split <;> simp
@[simp] theorem State.entryTo_rest (s : State) (p : Port) (x : Nat × Entry) : (s.entryTo p x).rest = s.rest := by simp [State.entryTo]
@[simp] theorem State.entryRoute_rest (s : State) (k : Nat) (p : Option Port) (x : Nat × Entry) : (s.entryRoute k p x).rest = s.rest := by
  unfold State.entryRoute
  split
  · simp
  · simp only []; split <;> simp
@[simp] theorem State.eventTo_rest (s : State) (p : Port) (e : Event) : (s.eventTo p e).rest = s.rest := by simp [State.eventTo]
@[simp] theorem State.wakeSource_rest (s : State) (n : Nat) : (s.wakeSource n).rest = s.rest := by simp [State.wakeSource]
@[simp] theorem State.postBoth_rest (s : State) (e : Event) : (s.postBoth e).rest = s.rest := by simp [State.postBoth]
@[simp] theorem State.postTo_rest (s : State) (p : Port) (e : Event) : (s.postTo p e).rest = s.rest := by
  simp only [State.postTo]; split <;> simp
@[simp] theorem State.postPoint_rest (s : State) (p : Nat) (e : Event) : (s.postPoint p e).rest = s.rest := by simp [State.postPoint]
@[simp] theorem State.postSlice_rest (s : State) (p : Nat) (e : Event) : (s.postSlice p e).rest = s.rest := by simp [State.postSlice]
@[simp] theorem State.postSwitch_rest (s : State) (p : Nat) (e : Event) : (s.postSwitch p e).rest = s.rest := by simp [State.postSwitch]
@[simp] theorem State.postAnt_rest (s : State) (p : Nat) (e : Event) : (s.postAnt p e).rest = s.rest := by simp [State.postAnt]
@[simp] theorem State.stickyOf_rest (s : State) (p : Port) (n : Nat) : (s.stickyOf p n).rest = s.rest := by
  simp only [State.stickyOf]; split_ifs <;> simp
@[simp] theorem State.drained_rest (s : State) (p : Port) : (s.drained p).rest = s.rest := by simp [State.drained]
@[simp] theorem State.landed_rest (s : State) (t : Ticket) : (s.landed t).rest = s.rest := by
  simp only [State.landed, State.drained_rest, State.rest_put]; split <;> simp
@[simp] theorem State.writeCpl_rest (s : State) (c : Cpl) : (s.writeCpl c).rest = s.rest := by
  simp only [State.writeCpl]; split <;> simp
@[simp] theorem State.crossingFailed_rest (s : State) (a b c : Nat) (o : Bool) : (s.crossingFailed a b c o).rest = s.rest := by
  simp only [State.crossingFailed]; split <;> split <;> simp

@[simp] theorem State.releaseHeld_rest (s : State) (p : Port) : (s.releaseHeld p).rest = s.rest := by
  simp only [State.releaseHeld, State.msixRelease_rest]
  rw [State.foldl_rest _ (by intros; split <;> simp), State.foldl_rest _ (by intros; simp)]
  simp

/-- The same without what Kyoti holds. -/
def State.rest2 (s : State) : State := { s.rest with ky := {} }

theorem State.rest2_of_rest {s t : State} (h : t.rest = s.rest) : t.rest2 = s.rest2 := by
  have := congrArg (fun x : State => { x with ky := {} }) h; exact this

/-- A completion changes, beyond the port's registers, entries and outputs, at most what Kyoti owes a node. -/
theorem State.complete_rest2 (s : State) (c : Cpl) : (s.complete c).rest2 = s.rest2 := by
  unfold State.complete
  split
  · split
    · rfl
    · simp only [State.kyAnswer]
      exact (State.rest2_of_rest (State.postTo_rest _ _ _)).trans rfl
  · simp only []
    apply State.rest2_of_rest
    split_ifs <;> simp

theorem State.pending_of_rest {s t : State} (h : t.rest = s.rest) : t.pending = s.pending := by have := congrArg State.pending h; exact this
theorem State.pending_of_rest2 {s t : State} (h : t.rest2 = s.rest2) : t.pending = s.pending := by have := congrArg State.pending h; exact this
theorem State.variant_of_rest {s t : State} (h : t.rest = s.rest) : t.variant = s.variant := by have := congrArg State.variant h; exact this
theorem State.variant_of_rest2 {s t : State} (h : t.rest2 = s.rest2) : t.variant = s.variant := by have := congrArg State.variant h; exact this
theorem State.stepping_of_rest {s t : State} (h : t.rest = s.rest) : t.stepping = s.stepping := by have := congrArg State.stepping h; exact this
theorem State.stepping_of_rest2 {s t : State} (h : t.rest2 = s.rest2) : t.stepping = s.stepping := by have := congrArg State.stepping h; exact this
theorem State.time_of_rest {s t : State} (h : t.rest = s.rest) : t.time = s.time := by have := congrArg State.time h; exact this
theorem State.time_of_rest2 {s t : State} (h : t.rest2 = s.rest2) : t.time = s.time := by have := congrArg State.time h; exact this
theorem State.devTime_of_rest {s t : State} (h : t.rest = s.rest) : t.devTime = s.devTime := by have := congrArg State.devTime h; exact this
theorem State.devTime_of_rest2 {s t : State} (h : t.rest2 = s.rest2) : t.devTime = s.devTime := by have := congrArg State.devTime h; exact this
theorem State.free_of_rest {s t : State} (h : t.rest = s.rest) : t.free = s.free := by have := congrArg State.free h; exact this
theorem State.free_of_rest2 {s t : State} (h : t.rest2 = s.rest2) : t.free = s.free := by have := congrArg State.free h; exact this
theorem State.mem_of_rest {s t : State} (h : t.rest = s.rest) : t.mem = s.mem := by have := congrArg State.mem h; exact this
theorem State.mem_of_rest2 {s t : State} (h : t.rest2 = s.rest2) : t.mem = s.mem := by have := congrArg State.mem h; exact this
theorem State.gather_of_rest {s t : State} (h : t.rest = s.rest) : t.gather = s.gather := by have := congrArg State.gather h; exact this
theorem State.gather_of_rest2 {s t : State} (h : t.rest2 = s.rest2) : t.gather = s.gather := by have := congrArg State.gather h; exact this
theorem State.mbx_of_rest {s t : State} (h : t.rest = s.rest) : t.mbx = s.mbx := by have := congrArg State.mbx h; exact this
theorem State.mbx_of_rest2 {s t : State} (h : t.rest2 = s.rest2) : t.mbx = s.mbx := by have := congrArg State.mbx h; exact this
theorem State.waits_of_rest {s t : State} (h : t.rest = s.rest) : t.waits = s.waits := by have := congrArg State.waits h; exact this
theorem State.waits_of_rest2 {s t : State} (h : t.rest2 = s.rest2) : t.waits = s.waits := by have := congrArg State.waits h; exact this
theorem State.power_of_rest {s t : State} (h : t.rest = s.rest) : t.power = s.power := by have := congrArg State.power h; exact this
theorem State.power_of_rest2 {s t : State} (h : t.rest2 = s.rest2) : t.power = s.power := by have := congrArg State.power h; exact this
theorem State.boot_of_rest {s t : State} (h : t.rest = s.rest) : t.boot = s.boot := by have := congrArg State.boot h; exact this
theorem State.boot_of_rest2 {s t : State} (h : t.rest2 = s.rest2) : t.boot = s.boot := by have := congrArg State.boot h; exact this
theorem State.pins_of_rest {s t : State} (h : t.rest = s.rest) : t.pins = s.pins := by have := congrArg State.pins h; exact this
theorem State.pins_of_rest2 {s t : State} (h : t.rest2 = s.rest2) : t.pins = s.pins := by have := congrArg State.pins h; exact this
theorem State.straps_of_rest {s t : State} (h : t.rest = s.rest) : t.straps = s.straps := by have := congrArg State.straps h; exact this
theorem State.straps_of_rest2 {s t : State} (h : t.rest2 = s.rest2) : t.straps = s.straps := by have := congrArg State.straps h; exact this
theorem State.mirror_of_rest {s t : State} (h : t.rest = s.rest) : t.mirror = s.mirror := by have := congrArg State.mirror h; exact this
theorem State.mirror_of_rest2 {s t : State} (h : t.rest2 = s.rest2) : t.mirror = s.mirror := by have := congrArg State.mirror h; exact this
theorem State.cfg_of_rest {s t : State} (h : t.rest = s.rest) : t.cfg = s.cfg := by have := congrArg State.cfg h; exact this
theorem State.cfg_of_rest2 {s t : State} (h : t.rest2 = s.rest2) : t.cfg = s.cfg := by have := congrArg State.cfg h; exact this
theorem State.timeSets_of_rest {s t : State} (h : t.rest = s.rest) : t.timeSets = s.timeSets := by have := congrArg State.timeSets h; exact this
theorem State.timeSets_of_rest2 {s t : State} (h : t.rest2 = s.rest2) : t.timeSets = s.timeSets := by have := congrArg State.timeSets h; exact this
theorem State.eth_of_rest {s t : State} (h : t.rest = s.rest) : t.eth = s.eth := by have := congrArg State.eth h; exact this
theorem State.eth_of_rest2 {s t : State} (h : t.rest2 = s.rest2) : t.eth = s.eth := by have := congrArg State.eth h; exact this
theorem State.eng_of_rest {s t : State} (h : t.rest = s.rest) : t.eng = s.eng := by have := congrArg State.eng h; exact this
theorem State.eng_of_rest2 {s t : State} (h : t.rest2 = s.rest2) : t.eng = s.eng := by have := congrArg State.eng h; exact this
theorem State.msgQueue_of_rest {s t : State} (h : t.rest = s.rest) : t.msgQueue = s.msgQueue := by have := congrArg State.msgQueue h; exact this
theorem State.msgQueue_of_rest2 {s t : State} (h : t.rest2 = s.rest2) : t.msgQueue = s.msgQueue := by have := congrArg State.msgQueue h; exact this
theorem State.mbxQueue_of_rest {s t : State} (h : t.rest = s.rest) : t.mbxQueue = s.mbxQueue := by have := congrArg State.mbxQueue h; exact this
theorem State.mbxQueue_of_rest2 {s t : State} (h : t.rest2 = s.rest2) : t.mbxQueue = s.mbxQueue := by have := congrArg State.mbxQueue h; exact this
theorem State.lateSeqs_of_rest {s t : State} (h : t.rest = s.rest) : t.lateSeqs = s.lateSeqs := by have := congrArg State.lateSeqs h; exact this
theorem State.lateSeqs_of_rest2 {s t : State} (h : t.rest2 = s.rest2) : t.lateSeqs = s.lateSeqs := by have := congrArg State.lateSeqs h; exact this
theorem State.orders_of_rest {s t : State} (h : t.rest = s.rest) : t.orders = s.orders := by have := congrArg State.orders h; exact this
theorem State.orders_of_rest2 {s t : State} (h : t.rest2 = s.rest2) : t.orders = s.orders := by have := congrArg State.orders h; exact this
theorem State.f0_of_rest {s t : State} (h : t.rest = s.rest) : t.f0 = s.f0 := by have := congrArg State.f0 h; exact this
theorem State.f0_of_rest2 {s t : State} (h : t.rest2 = s.rest2) : t.f0 = s.f0 := by have := congrArg State.f0 h; exact this
theorem State.f1_of_rest {s t : State} (h : t.rest = s.rest) : t.f1 = s.f1 := by have := congrArg State.f1 h; exact this
theorem State.f1_of_rest2 {s t : State} (h : t.rest2 = s.rest2) : t.f1 = s.f1 := by have := congrArg State.f1 h; exact this
theorem State.points_of_rest {s t : State} (h : t.rest = s.rest) : t.points = s.points := by have := congrArg State.points h; exact this
theorem State.points_of_rest2 {s t : State} (h : t.rest2 = s.rest2) : t.points = s.points := by have := congrArg State.points h; exact this
theorem State.prove_of_rest {s t : State} (h : t.rest = s.rest) : t.prove = s.prove := by have := congrArg State.prove h; exact this
theorem State.prove_of_rest2 {s t : State} (h : t.rest2 = s.rest2) : t.prove = s.prove := by have := congrArg State.prove h; exact this
theorem State.limits_of_rest {s t : State} (h : t.rest = s.rest) : t.limits = s.limits := by have := congrArg State.limits h; exact this
theorem State.limits_of_rest2 {s t : State} (h : t.rest2 = s.rest2) : t.limits = s.limits := by have := congrArg State.limits h; exact this
theorem State.disp_of_rest {s t : State} (h : t.rest = s.rest) : t.disp = s.disp := by have := congrArg State.disp h; exact this
theorem State.disp_of_rest2 {s t : State} (h : t.rest2 = s.rest2) : t.disp = s.disp := by have := congrArg State.disp h; exact this
theorem State.ledger_of_rest {s t : State} (h : t.rest = s.rest) : t.ledger = s.ledger := by have := congrArg State.ledger h; exact this
theorem State.ledger_of_rest2 {s t : State} (h : t.rest2 = s.rest2) : t.ledger = s.ledger := by have := congrArg State.ledger h; exact this
theorem State.starts_of_rest {s t : State} (h : t.rest = s.rest) : t.starts = s.starts := by have := congrArg State.starts h; exact this
theorem State.starts_of_rest2 {s t : State} (h : t.rest2 = s.rest2) : t.starts = s.starts := by have := congrArg State.starts h; exact this
theorem State.slices_of_rest {s t : State} (h : t.rest = s.rest) : t.slices = s.slices := by have := congrArg State.slices h; exact this
theorem State.slices_of_rest2 {s t : State} (h : t.rest2 = s.rest2) : t.slices = s.slices := by have := congrArg State.slices h; exact this
theorem State.switches_of_rest {s t : State} (h : t.rest = s.rest) : t.switches = s.switches := by have := congrArg State.switches h; exact this
theorem State.switches_of_rest2 {s t : State} (h : t.rest2 = s.rest2) : t.switches = s.switches := by have := congrArg State.switches h; exact this
theorem State.gov_of_rest {s t : State} (h : t.rest = s.rest) : t.gov = s.gov := by have := congrArg State.gov h; exact this
theorem State.gov_of_rest2 {s t : State} (h : t.rest2 = s.rest2) : t.gov = s.gov := by have := congrArg State.gov h; exact this
theorem State.stops_of_rest {s t : State} (h : t.rest = s.rest) : t.stops = s.stops := by have := congrArg State.stops h; exact this
theorem State.stops_of_rest2 {s t : State} (h : t.rest2 = s.rest2) : t.stops = s.stops := by have := congrArg State.stops h; exact this
theorem State.serac_of_rest {s t : State} (h : t.rest = s.rest) : t.serac = s.serac := by have := congrArg State.serac h; exact this
theorem State.serac_of_rest2 {s t : State} (h : t.rest2 = s.rest2) : t.serac = s.serac := by have := congrArg State.serac h; exact this
theorem State.ky_of_rest {s t : State} (h : t.rest = s.rest) : t.ky = s.ky := by have := congrArg State.ky h; exact this
theorem State.reader_of_rest {s t : State} (h : t.rest = s.rest) : t.reader = s.reader := by have := congrArg State.reader h; exact this
theorem State.reader_of_rest2 {s t : State} (h : t.rest2 = s.rest2) : t.reader = s.reader := by have := congrArg State.reader h; exact this
theorem State.rime_of_rest {s t : State} (h : t.rest = s.rest) : t.rime = s.rime := by have := congrArg State.rime h; exact this
theorem State.rime_of_rest2 {s t : State} (h : t.rest2 = s.rest2) : t.rime = s.rime := by have := congrArg State.rime h; exact this
theorem State.upd_of_rest {s t : State} (h : t.rest = s.rest) : t.upd = s.upd := by have := congrArg State.upd h; exact this
theorem State.upd_of_rest2 {s t : State} (h : t.rest2 = s.rest2) : t.upd = s.upd := by have := congrArg State.upd h; exact this

@[simp] theorem State.sendMsix_pending (s : State) (p : Port) (v : Nat) : (s.sendMsix p v).pending = s.pending := State.pending_of_rest (s.sendMsix_rest p v)
@[simp] theorem State.sendMsix_variant (s : State) (p : Port) (v : Nat) : (s.sendMsix p v).variant = s.variant := State.variant_of_rest (s.sendMsix_rest p v)
@[simp] theorem State.sendMsix_stepping (s : State) (p : Port) (v : Nat) : (s.sendMsix p v).stepping = s.stepping := State.stepping_of_rest (s.sendMsix_rest p v)
@[simp] theorem State.sendMsix_time (s : State) (p : Port) (v : Nat) : (s.sendMsix p v).time = s.time := State.time_of_rest (s.sendMsix_rest p v)
@[simp] theorem State.sendMsix_devTime (s : State) (p : Port) (v : Nat) : (s.sendMsix p v).devTime = s.devTime := State.devTime_of_rest (s.sendMsix_rest p v)
@[simp] theorem State.sendMsix_free (s : State) (p : Port) (v : Nat) : (s.sendMsix p v).free = s.free := State.free_of_rest (s.sendMsix_rest p v)
@[simp] theorem State.sendMsix_mem (s : State) (p : Port) (v : Nat) : (s.sendMsix p v).mem = s.mem := State.mem_of_rest (s.sendMsix_rest p v)
@[simp] theorem State.sendMsix_gather (s : State) (p : Port) (v : Nat) : (s.sendMsix p v).gather = s.gather := State.gather_of_rest (s.sendMsix_rest p v)
@[simp] theorem State.sendMsix_mbx (s : State) (p : Port) (v : Nat) : (s.sendMsix p v).mbx = s.mbx := State.mbx_of_rest (s.sendMsix_rest p v)
@[simp] theorem State.sendMsix_waits (s : State) (p : Port) (v : Nat) : (s.sendMsix p v).waits = s.waits := State.waits_of_rest (s.sendMsix_rest p v)
@[simp] theorem State.sendMsix_power (s : State) (p : Port) (v : Nat) : (s.sendMsix p v).power = s.power := State.power_of_rest (s.sendMsix_rest p v)
@[simp] theorem State.sendMsix_boot (s : State) (p : Port) (v : Nat) : (s.sendMsix p v).boot = s.boot := State.boot_of_rest (s.sendMsix_rest p v)
@[simp] theorem State.sendMsix_pins (s : State) (p : Port) (v : Nat) : (s.sendMsix p v).pins = s.pins := State.pins_of_rest (s.sendMsix_rest p v)
@[simp] theorem State.sendMsix_straps (s : State) (p : Port) (v : Nat) : (s.sendMsix p v).straps = s.straps := State.straps_of_rest (s.sendMsix_rest p v)
@[simp] theorem State.sendMsix_mirror (s : State) (p : Port) (v : Nat) : (s.sendMsix p v).mirror = s.mirror := State.mirror_of_rest (s.sendMsix_rest p v)
@[simp] theorem State.sendMsix_cfg (s : State) (p : Port) (v : Nat) : (s.sendMsix p v).cfg = s.cfg := State.cfg_of_rest (s.sendMsix_rest p v)
@[simp] theorem State.sendMsix_timeSets (s : State) (p : Port) (v : Nat) : (s.sendMsix p v).timeSets = s.timeSets := State.timeSets_of_rest (s.sendMsix_rest p v)
@[simp] theorem State.sendMsix_eth (s : State) (p : Port) (v : Nat) : (s.sendMsix p v).eth = s.eth := State.eth_of_rest (s.sendMsix_rest p v)
@[simp] theorem State.sendMsix_eng (s : State) (p : Port) (v : Nat) : (s.sendMsix p v).eng = s.eng := State.eng_of_rest (s.sendMsix_rest p v)
@[simp] theorem State.sendMsix_msgQueue (s : State) (p : Port) (v : Nat) : (s.sendMsix p v).msgQueue = s.msgQueue := State.msgQueue_of_rest (s.sendMsix_rest p v)
@[simp] theorem State.sendMsix_mbxQueue (s : State) (p : Port) (v : Nat) : (s.sendMsix p v).mbxQueue = s.mbxQueue := State.mbxQueue_of_rest (s.sendMsix_rest p v)
@[simp] theorem State.sendMsix_lateSeqs (s : State) (p : Port) (v : Nat) : (s.sendMsix p v).lateSeqs = s.lateSeqs := State.lateSeqs_of_rest (s.sendMsix_rest p v)
@[simp] theorem State.sendMsix_orders (s : State) (p : Port) (v : Nat) : (s.sendMsix p v).orders = s.orders := State.orders_of_rest (s.sendMsix_rest p v)
@[simp] theorem State.sendMsix_f0 (s : State) (p : Port) (v : Nat) : (s.sendMsix p v).f0 = s.f0 := State.f0_of_rest (s.sendMsix_rest p v)
@[simp] theorem State.sendMsix_f1 (s : State) (p : Port) (v : Nat) : (s.sendMsix p v).f1 = s.f1 := State.f1_of_rest (s.sendMsix_rest p v)
@[simp] theorem State.sendMsix_points (s : State) (p : Port) (v : Nat) : (s.sendMsix p v).points = s.points := State.points_of_rest (s.sendMsix_rest p v)
@[simp] theorem State.sendMsix_prove (s : State) (p : Port) (v : Nat) : (s.sendMsix p v).prove = s.prove := State.prove_of_rest (s.sendMsix_rest p v)
@[simp] theorem State.sendMsix_limits (s : State) (p : Port) (v : Nat) : (s.sendMsix p v).limits = s.limits := State.limits_of_rest (s.sendMsix_rest p v)
@[simp] theorem State.sendMsix_disp (s : State) (p : Port) (v : Nat) : (s.sendMsix p v).disp = s.disp := State.disp_of_rest (s.sendMsix_rest p v)
@[simp] theorem State.sendMsix_ledger (s : State) (p : Port) (v : Nat) : (s.sendMsix p v).ledger = s.ledger := State.ledger_of_rest (s.sendMsix_rest p v)
@[simp] theorem State.sendMsix_starts (s : State) (p : Port) (v : Nat) : (s.sendMsix p v).starts = s.starts := State.starts_of_rest (s.sendMsix_rest p v)
@[simp] theorem State.sendMsix_slices (s : State) (p : Port) (v : Nat) : (s.sendMsix p v).slices = s.slices := State.slices_of_rest (s.sendMsix_rest p v)
@[simp] theorem State.sendMsix_switches (s : State) (p : Port) (v : Nat) : (s.sendMsix p v).switches = s.switches := State.switches_of_rest (s.sendMsix_rest p v)
@[simp] theorem State.sendMsix_gov (s : State) (p : Port) (v : Nat) : (s.sendMsix p v).gov = s.gov := State.gov_of_rest (s.sendMsix_rest p v)
@[simp] theorem State.sendMsix_stops (s : State) (p : Port) (v : Nat) : (s.sendMsix p v).stops = s.stops := State.stops_of_rest (s.sendMsix_rest p v)
@[simp] theorem State.sendMsix_serac (s : State) (p : Port) (v : Nat) : (s.sendMsix p v).serac = s.serac := State.serac_of_rest (s.sendMsix_rest p v)
@[simp] theorem State.sendMsix_ky (s : State) (p : Port) (v : Nat) : (s.sendMsix p v).ky = s.ky := State.ky_of_rest (s.sendMsix_rest p v)
@[simp] theorem State.sendMsix_reader (s : State) (p : Port) (v : Nat) : (s.sendMsix p v).reader = s.reader := State.reader_of_rest (s.sendMsix_rest p v)
@[simp] theorem State.sendMsix_rime (s : State) (p : Port) (v : Nat) : (s.sendMsix p v).rime = s.rime := State.rime_of_rest (s.sendMsix_rest p v)
@[simp] theorem State.sendMsix_upd (s : State) (p : Port) (v : Nat) : (s.sendMsix p v).upd = s.upd := State.upd_of_rest (s.sendMsix_rest p v)

@[simp] theorem State.writeEntry_pending (s : State) (p : Port) (c : Nat) (e : Entry) (b : Bool) : (s.writeEntry p c e b).pending = s.pending := State.pending_of_rest (s.writeEntry_rest p c e b)
@[simp] theorem State.writeEntry_variant (s : State) (p : Port) (c : Nat) (e : Entry) (b : Bool) : (s.writeEntry p c e b).variant = s.variant := State.variant_of_rest (s.writeEntry_rest p c e b)
@[simp] theorem State.writeEntry_stepping (s : State) (p : Port) (c : Nat) (e : Entry) (b : Bool) : (s.writeEntry p c e b).stepping = s.stepping := State.stepping_of_rest (s.writeEntry_rest p c e b)
@[simp] theorem State.writeEntry_time (s : State) (p : Port) (c : Nat) (e : Entry) (b : Bool) : (s.writeEntry p c e b).time = s.time := State.time_of_rest (s.writeEntry_rest p c e b)
@[simp] theorem State.writeEntry_devTime (s : State) (p : Port) (c : Nat) (e : Entry) (b : Bool) : (s.writeEntry p c e b).devTime = s.devTime := State.devTime_of_rest (s.writeEntry_rest p c e b)
@[simp] theorem State.writeEntry_free (s : State) (p : Port) (c : Nat) (e : Entry) (b : Bool) : (s.writeEntry p c e b).free = s.free := State.free_of_rest (s.writeEntry_rest p c e b)
@[simp] theorem State.writeEntry_mem (s : State) (p : Port) (c : Nat) (e : Entry) (b : Bool) : (s.writeEntry p c e b).mem = s.mem := State.mem_of_rest (s.writeEntry_rest p c e b)
@[simp] theorem State.writeEntry_gather (s : State) (p : Port) (c : Nat) (e : Entry) (b : Bool) : (s.writeEntry p c e b).gather = s.gather := State.gather_of_rest (s.writeEntry_rest p c e b)
@[simp] theorem State.writeEntry_mbx (s : State) (p : Port) (c : Nat) (e : Entry) (b : Bool) : (s.writeEntry p c e b).mbx = s.mbx := State.mbx_of_rest (s.writeEntry_rest p c e b)
@[simp] theorem State.writeEntry_waits (s : State) (p : Port) (c : Nat) (e : Entry) (b : Bool) : (s.writeEntry p c e b).waits = s.waits := State.waits_of_rest (s.writeEntry_rest p c e b)
@[simp] theorem State.writeEntry_power (s : State) (p : Port) (c : Nat) (e : Entry) (b : Bool) : (s.writeEntry p c e b).power = s.power := State.power_of_rest (s.writeEntry_rest p c e b)
@[simp] theorem State.writeEntry_boot (s : State) (p : Port) (c : Nat) (e : Entry) (b : Bool) : (s.writeEntry p c e b).boot = s.boot := State.boot_of_rest (s.writeEntry_rest p c e b)
@[simp] theorem State.writeEntry_pins (s : State) (p : Port) (c : Nat) (e : Entry) (b : Bool) : (s.writeEntry p c e b).pins = s.pins := State.pins_of_rest (s.writeEntry_rest p c e b)
@[simp] theorem State.writeEntry_straps (s : State) (p : Port) (c : Nat) (e : Entry) (b : Bool) : (s.writeEntry p c e b).straps = s.straps := State.straps_of_rest (s.writeEntry_rest p c e b)
@[simp] theorem State.writeEntry_mirror (s : State) (p : Port) (c : Nat) (e : Entry) (b : Bool) : (s.writeEntry p c e b).mirror = s.mirror := State.mirror_of_rest (s.writeEntry_rest p c e b)
@[simp] theorem State.writeEntry_cfg (s : State) (p : Port) (c : Nat) (e : Entry) (b : Bool) : (s.writeEntry p c e b).cfg = s.cfg := State.cfg_of_rest (s.writeEntry_rest p c e b)
@[simp] theorem State.writeEntry_timeSets (s : State) (p : Port) (c : Nat) (e : Entry) (b : Bool) : (s.writeEntry p c e b).timeSets = s.timeSets := State.timeSets_of_rest (s.writeEntry_rest p c e b)
@[simp] theorem State.writeEntry_eth (s : State) (p : Port) (c : Nat) (e : Entry) (b : Bool) : (s.writeEntry p c e b).eth = s.eth := State.eth_of_rest (s.writeEntry_rest p c e b)
@[simp] theorem State.writeEntry_eng (s : State) (p : Port) (c : Nat) (e : Entry) (b : Bool) : (s.writeEntry p c e b).eng = s.eng := State.eng_of_rest (s.writeEntry_rest p c e b)
@[simp] theorem State.writeEntry_msgQueue (s : State) (p : Port) (c : Nat) (e : Entry) (b : Bool) : (s.writeEntry p c e b).msgQueue = s.msgQueue := State.msgQueue_of_rest (s.writeEntry_rest p c e b)
@[simp] theorem State.writeEntry_mbxQueue (s : State) (p : Port) (c : Nat) (e : Entry) (b : Bool) : (s.writeEntry p c e b).mbxQueue = s.mbxQueue := State.mbxQueue_of_rest (s.writeEntry_rest p c e b)
@[simp] theorem State.writeEntry_lateSeqs (s : State) (p : Port) (c : Nat) (e : Entry) (b : Bool) : (s.writeEntry p c e b).lateSeqs = s.lateSeqs := State.lateSeqs_of_rest (s.writeEntry_rest p c e b)
@[simp] theorem State.writeEntry_orders (s : State) (p : Port) (c : Nat) (e : Entry) (b : Bool) : (s.writeEntry p c e b).orders = s.orders := State.orders_of_rest (s.writeEntry_rest p c e b)
@[simp] theorem State.writeEntry_f0 (s : State) (p : Port) (c : Nat) (e : Entry) (b : Bool) : (s.writeEntry p c e b).f0 = s.f0 := State.f0_of_rest (s.writeEntry_rest p c e b)
@[simp] theorem State.writeEntry_f1 (s : State) (p : Port) (c : Nat) (e : Entry) (b : Bool) : (s.writeEntry p c e b).f1 = s.f1 := State.f1_of_rest (s.writeEntry_rest p c e b)
@[simp] theorem State.writeEntry_points (s : State) (p : Port) (c : Nat) (e : Entry) (b : Bool) : (s.writeEntry p c e b).points = s.points := State.points_of_rest (s.writeEntry_rest p c e b)
@[simp] theorem State.writeEntry_prove (s : State) (p : Port) (c : Nat) (e : Entry) (b : Bool) : (s.writeEntry p c e b).prove = s.prove := State.prove_of_rest (s.writeEntry_rest p c e b)
@[simp] theorem State.writeEntry_limits (s : State) (p : Port) (c : Nat) (e : Entry) (b : Bool) : (s.writeEntry p c e b).limits = s.limits := State.limits_of_rest (s.writeEntry_rest p c e b)
@[simp] theorem State.writeEntry_disp (s : State) (p : Port) (c : Nat) (e : Entry) (b : Bool) : (s.writeEntry p c e b).disp = s.disp := State.disp_of_rest (s.writeEntry_rest p c e b)
@[simp] theorem State.writeEntry_ledger (s : State) (p : Port) (c : Nat) (e : Entry) (b : Bool) : (s.writeEntry p c e b).ledger = s.ledger := State.ledger_of_rest (s.writeEntry_rest p c e b)
@[simp] theorem State.writeEntry_starts (s : State) (p : Port) (c : Nat) (e : Entry) (b : Bool) : (s.writeEntry p c e b).starts = s.starts := State.starts_of_rest (s.writeEntry_rest p c e b)
@[simp] theorem State.writeEntry_slices (s : State) (p : Port) (c : Nat) (e : Entry) (b : Bool) : (s.writeEntry p c e b).slices = s.slices := State.slices_of_rest (s.writeEntry_rest p c e b)
@[simp] theorem State.writeEntry_switches (s : State) (p : Port) (c : Nat) (e : Entry) (b : Bool) : (s.writeEntry p c e b).switches = s.switches := State.switches_of_rest (s.writeEntry_rest p c e b)
@[simp] theorem State.writeEntry_gov (s : State) (p : Port) (c : Nat) (e : Entry) (b : Bool) : (s.writeEntry p c e b).gov = s.gov := State.gov_of_rest (s.writeEntry_rest p c e b)
@[simp] theorem State.writeEntry_stops (s : State) (p : Port) (c : Nat) (e : Entry) (b : Bool) : (s.writeEntry p c e b).stops = s.stops := State.stops_of_rest (s.writeEntry_rest p c e b)
@[simp] theorem State.writeEntry_serac (s : State) (p : Port) (c : Nat) (e : Entry) (b : Bool) : (s.writeEntry p c e b).serac = s.serac := State.serac_of_rest (s.writeEntry_rest p c e b)
@[simp] theorem State.writeEntry_ky (s : State) (p : Port) (c : Nat) (e : Entry) (b : Bool) : (s.writeEntry p c e b).ky = s.ky := State.ky_of_rest (s.writeEntry_rest p c e b)
@[simp] theorem State.writeEntry_reader (s : State) (p : Port) (c : Nat) (e : Entry) (b : Bool) : (s.writeEntry p c e b).reader = s.reader := State.reader_of_rest (s.writeEntry_rest p c e b)
@[simp] theorem State.writeEntry_rime (s : State) (p : Port) (c : Nat) (e : Entry) (b : Bool) : (s.writeEntry p c e b).rime = s.rime := State.rime_of_rest (s.writeEntry_rest p c e b)
@[simp] theorem State.writeEntry_upd (s : State) (p : Port) (c : Nat) (e : Entry) (b : Bool) : (s.writeEntry p c e b).upd = s.upd := State.upd_of_rest (s.writeEntry_rest p c e b)

@[simp] theorem State.entryTo_pending (s : State) (p : Port) (x : Nat × Entry) : (s.entryTo p x).pending = s.pending := State.pending_of_rest (s.entryTo_rest p x)
@[simp] theorem State.entryTo_variant (s : State) (p : Port) (x : Nat × Entry) : (s.entryTo p x).variant = s.variant := State.variant_of_rest (s.entryTo_rest p x)
@[simp] theorem State.entryTo_stepping (s : State) (p : Port) (x : Nat × Entry) : (s.entryTo p x).stepping = s.stepping := State.stepping_of_rest (s.entryTo_rest p x)
@[simp] theorem State.entryTo_time (s : State) (p : Port) (x : Nat × Entry) : (s.entryTo p x).time = s.time := State.time_of_rest (s.entryTo_rest p x)
@[simp] theorem State.entryTo_devTime (s : State) (p : Port) (x : Nat × Entry) : (s.entryTo p x).devTime = s.devTime := State.devTime_of_rest (s.entryTo_rest p x)
@[simp] theorem State.entryTo_free (s : State) (p : Port) (x : Nat × Entry) : (s.entryTo p x).free = s.free := State.free_of_rest (s.entryTo_rest p x)
@[simp] theorem State.entryTo_mem (s : State) (p : Port) (x : Nat × Entry) : (s.entryTo p x).mem = s.mem := State.mem_of_rest (s.entryTo_rest p x)
@[simp] theorem State.entryTo_gather (s : State) (p : Port) (x : Nat × Entry) : (s.entryTo p x).gather = s.gather := State.gather_of_rest (s.entryTo_rest p x)
@[simp] theorem State.entryTo_mbx (s : State) (p : Port) (x : Nat × Entry) : (s.entryTo p x).mbx = s.mbx := State.mbx_of_rest (s.entryTo_rest p x)
@[simp] theorem State.entryTo_waits (s : State) (p : Port) (x : Nat × Entry) : (s.entryTo p x).waits = s.waits := State.waits_of_rest (s.entryTo_rest p x)
@[simp] theorem State.entryTo_power (s : State) (p : Port) (x : Nat × Entry) : (s.entryTo p x).power = s.power := State.power_of_rest (s.entryTo_rest p x)
@[simp] theorem State.entryTo_boot (s : State) (p : Port) (x : Nat × Entry) : (s.entryTo p x).boot = s.boot := State.boot_of_rest (s.entryTo_rest p x)
@[simp] theorem State.entryTo_pins (s : State) (p : Port) (x : Nat × Entry) : (s.entryTo p x).pins = s.pins := State.pins_of_rest (s.entryTo_rest p x)
@[simp] theorem State.entryTo_straps (s : State) (p : Port) (x : Nat × Entry) : (s.entryTo p x).straps = s.straps := State.straps_of_rest (s.entryTo_rest p x)
@[simp] theorem State.entryTo_mirror (s : State) (p : Port) (x : Nat × Entry) : (s.entryTo p x).mirror = s.mirror := State.mirror_of_rest (s.entryTo_rest p x)
@[simp] theorem State.entryTo_cfg (s : State) (p : Port) (x : Nat × Entry) : (s.entryTo p x).cfg = s.cfg := State.cfg_of_rest (s.entryTo_rest p x)
@[simp] theorem State.entryTo_timeSets (s : State) (p : Port) (x : Nat × Entry) : (s.entryTo p x).timeSets = s.timeSets := State.timeSets_of_rest (s.entryTo_rest p x)
@[simp] theorem State.entryTo_eth (s : State) (p : Port) (x : Nat × Entry) : (s.entryTo p x).eth = s.eth := State.eth_of_rest (s.entryTo_rest p x)
@[simp] theorem State.entryTo_eng (s : State) (p : Port) (x : Nat × Entry) : (s.entryTo p x).eng = s.eng := State.eng_of_rest (s.entryTo_rest p x)
@[simp] theorem State.entryTo_msgQueue (s : State) (p : Port) (x : Nat × Entry) : (s.entryTo p x).msgQueue = s.msgQueue := State.msgQueue_of_rest (s.entryTo_rest p x)
@[simp] theorem State.entryTo_mbxQueue (s : State) (p : Port) (x : Nat × Entry) : (s.entryTo p x).mbxQueue = s.mbxQueue := State.mbxQueue_of_rest (s.entryTo_rest p x)
@[simp] theorem State.entryTo_lateSeqs (s : State) (p : Port) (x : Nat × Entry) : (s.entryTo p x).lateSeqs = s.lateSeqs := State.lateSeqs_of_rest (s.entryTo_rest p x)
@[simp] theorem State.entryTo_orders (s : State) (p : Port) (x : Nat × Entry) : (s.entryTo p x).orders = s.orders := State.orders_of_rest (s.entryTo_rest p x)
@[simp] theorem State.entryTo_f0 (s : State) (p : Port) (x : Nat × Entry) : (s.entryTo p x).f0 = s.f0 := State.f0_of_rest (s.entryTo_rest p x)
@[simp] theorem State.entryTo_f1 (s : State) (p : Port) (x : Nat × Entry) : (s.entryTo p x).f1 = s.f1 := State.f1_of_rest (s.entryTo_rest p x)
@[simp] theorem State.entryTo_points (s : State) (p : Port) (x : Nat × Entry) : (s.entryTo p x).points = s.points := State.points_of_rest (s.entryTo_rest p x)
@[simp] theorem State.entryTo_prove (s : State) (p : Port) (x : Nat × Entry) : (s.entryTo p x).prove = s.prove := State.prove_of_rest (s.entryTo_rest p x)
@[simp] theorem State.entryTo_limits (s : State) (p : Port) (x : Nat × Entry) : (s.entryTo p x).limits = s.limits := State.limits_of_rest (s.entryTo_rest p x)
@[simp] theorem State.entryTo_disp (s : State) (p : Port) (x : Nat × Entry) : (s.entryTo p x).disp = s.disp := State.disp_of_rest (s.entryTo_rest p x)
@[simp] theorem State.entryTo_ledger (s : State) (p : Port) (x : Nat × Entry) : (s.entryTo p x).ledger = s.ledger := State.ledger_of_rest (s.entryTo_rest p x)
@[simp] theorem State.entryTo_starts (s : State) (p : Port) (x : Nat × Entry) : (s.entryTo p x).starts = s.starts := State.starts_of_rest (s.entryTo_rest p x)
@[simp] theorem State.entryTo_slices (s : State) (p : Port) (x : Nat × Entry) : (s.entryTo p x).slices = s.slices := State.slices_of_rest (s.entryTo_rest p x)
@[simp] theorem State.entryTo_switches (s : State) (p : Port) (x : Nat × Entry) : (s.entryTo p x).switches = s.switches := State.switches_of_rest (s.entryTo_rest p x)
@[simp] theorem State.entryTo_gov (s : State) (p : Port) (x : Nat × Entry) : (s.entryTo p x).gov = s.gov := State.gov_of_rest (s.entryTo_rest p x)
@[simp] theorem State.entryTo_stops (s : State) (p : Port) (x : Nat × Entry) : (s.entryTo p x).stops = s.stops := State.stops_of_rest (s.entryTo_rest p x)
@[simp] theorem State.entryTo_serac (s : State) (p : Port) (x : Nat × Entry) : (s.entryTo p x).serac = s.serac := State.serac_of_rest (s.entryTo_rest p x)
@[simp] theorem State.entryTo_ky (s : State) (p : Port) (x : Nat × Entry) : (s.entryTo p x).ky = s.ky := State.ky_of_rest (s.entryTo_rest p x)
@[simp] theorem State.entryTo_reader (s : State) (p : Port) (x : Nat × Entry) : (s.entryTo p x).reader = s.reader := State.reader_of_rest (s.entryTo_rest p x)
@[simp] theorem State.entryTo_rime (s : State) (p : Port) (x : Nat × Entry) : (s.entryTo p x).rime = s.rime := State.rime_of_rest (s.entryTo_rest p x)
@[simp] theorem State.entryTo_upd (s : State) (p : Port) (x : Nat × Entry) : (s.entryTo p x).upd = s.upd := State.upd_of_rest (s.entryTo_rest p x)

@[simp] theorem State.eventTo_pending (s : State) (p : Port) (e : Event) : (s.eventTo p e).pending = s.pending := State.pending_of_rest (s.eventTo_rest p e)
@[simp] theorem State.eventTo_variant (s : State) (p : Port) (e : Event) : (s.eventTo p e).variant = s.variant := State.variant_of_rest (s.eventTo_rest p e)
@[simp] theorem State.eventTo_stepping (s : State) (p : Port) (e : Event) : (s.eventTo p e).stepping = s.stepping := State.stepping_of_rest (s.eventTo_rest p e)
@[simp] theorem State.eventTo_time (s : State) (p : Port) (e : Event) : (s.eventTo p e).time = s.time := State.time_of_rest (s.eventTo_rest p e)
@[simp] theorem State.eventTo_devTime (s : State) (p : Port) (e : Event) : (s.eventTo p e).devTime = s.devTime := State.devTime_of_rest (s.eventTo_rest p e)
@[simp] theorem State.eventTo_free (s : State) (p : Port) (e : Event) : (s.eventTo p e).free = s.free := State.free_of_rest (s.eventTo_rest p e)
@[simp] theorem State.eventTo_mem (s : State) (p : Port) (e : Event) : (s.eventTo p e).mem = s.mem := State.mem_of_rest (s.eventTo_rest p e)
@[simp] theorem State.eventTo_gather (s : State) (p : Port) (e : Event) : (s.eventTo p e).gather = s.gather := State.gather_of_rest (s.eventTo_rest p e)
@[simp] theorem State.eventTo_mbx (s : State) (p : Port) (e : Event) : (s.eventTo p e).mbx = s.mbx := State.mbx_of_rest (s.eventTo_rest p e)
@[simp] theorem State.eventTo_waits (s : State) (p : Port) (e : Event) : (s.eventTo p e).waits = s.waits := State.waits_of_rest (s.eventTo_rest p e)
@[simp] theorem State.eventTo_power (s : State) (p : Port) (e : Event) : (s.eventTo p e).power = s.power := State.power_of_rest (s.eventTo_rest p e)
@[simp] theorem State.eventTo_boot (s : State) (p : Port) (e : Event) : (s.eventTo p e).boot = s.boot := State.boot_of_rest (s.eventTo_rest p e)
@[simp] theorem State.eventTo_pins (s : State) (p : Port) (e : Event) : (s.eventTo p e).pins = s.pins := State.pins_of_rest (s.eventTo_rest p e)
@[simp] theorem State.eventTo_straps (s : State) (p : Port) (e : Event) : (s.eventTo p e).straps = s.straps := State.straps_of_rest (s.eventTo_rest p e)
@[simp] theorem State.eventTo_mirror (s : State) (p : Port) (e : Event) : (s.eventTo p e).mirror = s.mirror := State.mirror_of_rest (s.eventTo_rest p e)
@[simp] theorem State.eventTo_cfg (s : State) (p : Port) (e : Event) : (s.eventTo p e).cfg = s.cfg := State.cfg_of_rest (s.eventTo_rest p e)
@[simp] theorem State.eventTo_timeSets (s : State) (p : Port) (e : Event) : (s.eventTo p e).timeSets = s.timeSets := State.timeSets_of_rest (s.eventTo_rest p e)
@[simp] theorem State.eventTo_eth (s : State) (p : Port) (e : Event) : (s.eventTo p e).eth = s.eth := State.eth_of_rest (s.eventTo_rest p e)
@[simp] theorem State.eventTo_eng (s : State) (p : Port) (e : Event) : (s.eventTo p e).eng = s.eng := State.eng_of_rest (s.eventTo_rest p e)
@[simp] theorem State.eventTo_msgQueue (s : State) (p : Port) (e : Event) : (s.eventTo p e).msgQueue = s.msgQueue := State.msgQueue_of_rest (s.eventTo_rest p e)
@[simp] theorem State.eventTo_mbxQueue (s : State) (p : Port) (e : Event) : (s.eventTo p e).mbxQueue = s.mbxQueue := State.mbxQueue_of_rest (s.eventTo_rest p e)
@[simp] theorem State.eventTo_lateSeqs (s : State) (p : Port) (e : Event) : (s.eventTo p e).lateSeqs = s.lateSeqs := State.lateSeqs_of_rest (s.eventTo_rest p e)
@[simp] theorem State.eventTo_orders (s : State) (p : Port) (e : Event) : (s.eventTo p e).orders = s.orders := State.orders_of_rest (s.eventTo_rest p e)
@[simp] theorem State.eventTo_f0 (s : State) (p : Port) (e : Event) : (s.eventTo p e).f0 = s.f0 := State.f0_of_rest (s.eventTo_rest p e)
@[simp] theorem State.eventTo_f1 (s : State) (p : Port) (e : Event) : (s.eventTo p e).f1 = s.f1 := State.f1_of_rest (s.eventTo_rest p e)
@[simp] theorem State.eventTo_points (s : State) (p : Port) (e : Event) : (s.eventTo p e).points = s.points := State.points_of_rest (s.eventTo_rest p e)
@[simp] theorem State.eventTo_prove (s : State) (p : Port) (e : Event) : (s.eventTo p e).prove = s.prove := State.prove_of_rest (s.eventTo_rest p e)
@[simp] theorem State.eventTo_limits (s : State) (p : Port) (e : Event) : (s.eventTo p e).limits = s.limits := State.limits_of_rest (s.eventTo_rest p e)
@[simp] theorem State.eventTo_disp (s : State) (p : Port) (e : Event) : (s.eventTo p e).disp = s.disp := State.disp_of_rest (s.eventTo_rest p e)
@[simp] theorem State.eventTo_ledger (s : State) (p : Port) (e : Event) : (s.eventTo p e).ledger = s.ledger := State.ledger_of_rest (s.eventTo_rest p e)
@[simp] theorem State.eventTo_starts (s : State) (p : Port) (e : Event) : (s.eventTo p e).starts = s.starts := State.starts_of_rest (s.eventTo_rest p e)
@[simp] theorem State.eventTo_slices (s : State) (p : Port) (e : Event) : (s.eventTo p e).slices = s.slices := State.slices_of_rest (s.eventTo_rest p e)
@[simp] theorem State.eventTo_switches (s : State) (p : Port) (e : Event) : (s.eventTo p e).switches = s.switches := State.switches_of_rest (s.eventTo_rest p e)
@[simp] theorem State.eventTo_gov (s : State) (p : Port) (e : Event) : (s.eventTo p e).gov = s.gov := State.gov_of_rest (s.eventTo_rest p e)
@[simp] theorem State.eventTo_stops (s : State) (p : Port) (e : Event) : (s.eventTo p e).stops = s.stops := State.stops_of_rest (s.eventTo_rest p e)
@[simp] theorem State.eventTo_serac (s : State) (p : Port) (e : Event) : (s.eventTo p e).serac = s.serac := State.serac_of_rest (s.eventTo_rest p e)
@[simp] theorem State.eventTo_ky (s : State) (p : Port) (e : Event) : (s.eventTo p e).ky = s.ky := State.ky_of_rest (s.eventTo_rest p e)
@[simp] theorem State.eventTo_reader (s : State) (p : Port) (e : Event) : (s.eventTo p e).reader = s.reader := State.reader_of_rest (s.eventTo_rest p e)
@[simp] theorem State.eventTo_rime (s : State) (p : Port) (e : Event) : (s.eventTo p e).rime = s.rime := State.rime_of_rest (s.eventTo_rest p e)
@[simp] theorem State.eventTo_upd (s : State) (p : Port) (e : Event) : (s.eventTo p e).upd = s.upd := State.upd_of_rest (s.eventTo_rest p e)

@[simp] theorem State.wakeSource_pending (s : State) (n : Nat) : (s.wakeSource n).pending = s.pending := State.pending_of_rest (s.wakeSource_rest n)
@[simp] theorem State.wakeSource_variant (s : State) (n : Nat) : (s.wakeSource n).variant = s.variant := State.variant_of_rest (s.wakeSource_rest n)
@[simp] theorem State.wakeSource_stepping (s : State) (n : Nat) : (s.wakeSource n).stepping = s.stepping := State.stepping_of_rest (s.wakeSource_rest n)
@[simp] theorem State.wakeSource_time (s : State) (n : Nat) : (s.wakeSource n).time = s.time := State.time_of_rest (s.wakeSource_rest n)
@[simp] theorem State.wakeSource_devTime (s : State) (n : Nat) : (s.wakeSource n).devTime = s.devTime := State.devTime_of_rest (s.wakeSource_rest n)
@[simp] theorem State.wakeSource_free (s : State) (n : Nat) : (s.wakeSource n).free = s.free := State.free_of_rest (s.wakeSource_rest n)
@[simp] theorem State.wakeSource_mem (s : State) (n : Nat) : (s.wakeSource n).mem = s.mem := State.mem_of_rest (s.wakeSource_rest n)
@[simp] theorem State.wakeSource_gather (s : State) (n : Nat) : (s.wakeSource n).gather = s.gather := State.gather_of_rest (s.wakeSource_rest n)
@[simp] theorem State.wakeSource_mbx (s : State) (n : Nat) : (s.wakeSource n).mbx = s.mbx := State.mbx_of_rest (s.wakeSource_rest n)
@[simp] theorem State.wakeSource_waits (s : State) (n : Nat) : (s.wakeSource n).waits = s.waits := State.waits_of_rest (s.wakeSource_rest n)
@[simp] theorem State.wakeSource_power (s : State) (n : Nat) : (s.wakeSource n).power = s.power := State.power_of_rest (s.wakeSource_rest n)
@[simp] theorem State.wakeSource_boot (s : State) (n : Nat) : (s.wakeSource n).boot = s.boot := State.boot_of_rest (s.wakeSource_rest n)
@[simp] theorem State.wakeSource_pins (s : State) (n : Nat) : (s.wakeSource n).pins = s.pins := State.pins_of_rest (s.wakeSource_rest n)
@[simp] theorem State.wakeSource_straps (s : State) (n : Nat) : (s.wakeSource n).straps = s.straps := State.straps_of_rest (s.wakeSource_rest n)
@[simp] theorem State.wakeSource_mirror (s : State) (n : Nat) : (s.wakeSource n).mirror = s.mirror := State.mirror_of_rest (s.wakeSource_rest n)
@[simp] theorem State.wakeSource_cfg (s : State) (n : Nat) : (s.wakeSource n).cfg = s.cfg := State.cfg_of_rest (s.wakeSource_rest n)
@[simp] theorem State.wakeSource_timeSets (s : State) (n : Nat) : (s.wakeSource n).timeSets = s.timeSets := State.timeSets_of_rest (s.wakeSource_rest n)
@[simp] theorem State.wakeSource_eth (s : State) (n : Nat) : (s.wakeSource n).eth = s.eth := State.eth_of_rest (s.wakeSource_rest n)
@[simp] theorem State.wakeSource_eng (s : State) (n : Nat) : (s.wakeSource n).eng = s.eng := State.eng_of_rest (s.wakeSource_rest n)
@[simp] theorem State.wakeSource_msgQueue (s : State) (n : Nat) : (s.wakeSource n).msgQueue = s.msgQueue := State.msgQueue_of_rest (s.wakeSource_rest n)
@[simp] theorem State.wakeSource_mbxQueue (s : State) (n : Nat) : (s.wakeSource n).mbxQueue = s.mbxQueue := State.mbxQueue_of_rest (s.wakeSource_rest n)
@[simp] theorem State.wakeSource_lateSeqs (s : State) (n : Nat) : (s.wakeSource n).lateSeqs = s.lateSeqs := State.lateSeqs_of_rest (s.wakeSource_rest n)
@[simp] theorem State.wakeSource_orders (s : State) (n : Nat) : (s.wakeSource n).orders = s.orders := State.orders_of_rest (s.wakeSource_rest n)
@[simp] theorem State.wakeSource_f0 (s : State) (n : Nat) : (s.wakeSource n).f0 = s.f0 := State.f0_of_rest (s.wakeSource_rest n)
@[simp] theorem State.wakeSource_f1 (s : State) (n : Nat) : (s.wakeSource n).f1 = s.f1 := State.f1_of_rest (s.wakeSource_rest n)
@[simp] theorem State.wakeSource_points (s : State) (n : Nat) : (s.wakeSource n).points = s.points := State.points_of_rest (s.wakeSource_rest n)
@[simp] theorem State.wakeSource_prove (s : State) (n : Nat) : (s.wakeSource n).prove = s.prove := State.prove_of_rest (s.wakeSource_rest n)
@[simp] theorem State.wakeSource_limits (s : State) (n : Nat) : (s.wakeSource n).limits = s.limits := State.limits_of_rest (s.wakeSource_rest n)
@[simp] theorem State.wakeSource_disp (s : State) (n : Nat) : (s.wakeSource n).disp = s.disp := State.disp_of_rest (s.wakeSource_rest n)
@[simp] theorem State.wakeSource_ledger (s : State) (n : Nat) : (s.wakeSource n).ledger = s.ledger := State.ledger_of_rest (s.wakeSource_rest n)
@[simp] theorem State.wakeSource_starts (s : State) (n : Nat) : (s.wakeSource n).starts = s.starts := State.starts_of_rest (s.wakeSource_rest n)
@[simp] theorem State.wakeSource_slices (s : State) (n : Nat) : (s.wakeSource n).slices = s.slices := State.slices_of_rest (s.wakeSource_rest n)
@[simp] theorem State.wakeSource_switches (s : State) (n : Nat) : (s.wakeSource n).switches = s.switches := State.switches_of_rest (s.wakeSource_rest n)
@[simp] theorem State.wakeSource_gov (s : State) (n : Nat) : (s.wakeSource n).gov = s.gov := State.gov_of_rest (s.wakeSource_rest n)
@[simp] theorem State.wakeSource_stops (s : State) (n : Nat) : (s.wakeSource n).stops = s.stops := State.stops_of_rest (s.wakeSource_rest n)
@[simp] theorem State.wakeSource_serac (s : State) (n : Nat) : (s.wakeSource n).serac = s.serac := State.serac_of_rest (s.wakeSource_rest n)
@[simp] theorem State.wakeSource_ky (s : State) (n : Nat) : (s.wakeSource n).ky = s.ky := State.ky_of_rest (s.wakeSource_rest n)
@[simp] theorem State.wakeSource_reader (s : State) (n : Nat) : (s.wakeSource n).reader = s.reader := State.reader_of_rest (s.wakeSource_rest n)
@[simp] theorem State.wakeSource_rime (s : State) (n : Nat) : (s.wakeSource n).rime = s.rime := State.rime_of_rest (s.wakeSource_rest n)
@[simp] theorem State.wakeSource_upd (s : State) (n : Nat) : (s.wakeSource n).upd = s.upd := State.upd_of_rest (s.wakeSource_rest n)

@[simp] theorem State.postBoth_pending (s : State) (e : Event) : (s.postBoth e).pending = s.pending := State.pending_of_rest (s.postBoth_rest e)
@[simp] theorem State.postBoth_variant (s : State) (e : Event) : (s.postBoth e).variant = s.variant := State.variant_of_rest (s.postBoth_rest e)
@[simp] theorem State.postBoth_stepping (s : State) (e : Event) : (s.postBoth e).stepping = s.stepping := State.stepping_of_rest (s.postBoth_rest e)
@[simp] theorem State.postBoth_time (s : State) (e : Event) : (s.postBoth e).time = s.time := State.time_of_rest (s.postBoth_rest e)
@[simp] theorem State.postBoth_devTime (s : State) (e : Event) : (s.postBoth e).devTime = s.devTime := State.devTime_of_rest (s.postBoth_rest e)
@[simp] theorem State.postBoth_free (s : State) (e : Event) : (s.postBoth e).free = s.free := State.free_of_rest (s.postBoth_rest e)
@[simp] theorem State.postBoth_mem (s : State) (e : Event) : (s.postBoth e).mem = s.mem := State.mem_of_rest (s.postBoth_rest e)
@[simp] theorem State.postBoth_gather (s : State) (e : Event) : (s.postBoth e).gather = s.gather := State.gather_of_rest (s.postBoth_rest e)
@[simp] theorem State.postBoth_mbx (s : State) (e : Event) : (s.postBoth e).mbx = s.mbx := State.mbx_of_rest (s.postBoth_rest e)
@[simp] theorem State.postBoth_waits (s : State) (e : Event) : (s.postBoth e).waits = s.waits := State.waits_of_rest (s.postBoth_rest e)
@[simp] theorem State.postBoth_power (s : State) (e : Event) : (s.postBoth e).power = s.power := State.power_of_rest (s.postBoth_rest e)
@[simp] theorem State.postBoth_boot (s : State) (e : Event) : (s.postBoth e).boot = s.boot := State.boot_of_rest (s.postBoth_rest e)
@[simp] theorem State.postBoth_pins (s : State) (e : Event) : (s.postBoth e).pins = s.pins := State.pins_of_rest (s.postBoth_rest e)
@[simp] theorem State.postBoth_straps (s : State) (e : Event) : (s.postBoth e).straps = s.straps := State.straps_of_rest (s.postBoth_rest e)
@[simp] theorem State.postBoth_mirror (s : State) (e : Event) : (s.postBoth e).mirror = s.mirror := State.mirror_of_rest (s.postBoth_rest e)
@[simp] theorem State.postBoth_cfg (s : State) (e : Event) : (s.postBoth e).cfg = s.cfg := State.cfg_of_rest (s.postBoth_rest e)
@[simp] theorem State.postBoth_timeSets (s : State) (e : Event) : (s.postBoth e).timeSets = s.timeSets := State.timeSets_of_rest (s.postBoth_rest e)
@[simp] theorem State.postBoth_eth (s : State) (e : Event) : (s.postBoth e).eth = s.eth := State.eth_of_rest (s.postBoth_rest e)
@[simp] theorem State.postBoth_eng (s : State) (e : Event) : (s.postBoth e).eng = s.eng := State.eng_of_rest (s.postBoth_rest e)
@[simp] theorem State.postBoth_msgQueue (s : State) (e : Event) : (s.postBoth e).msgQueue = s.msgQueue := State.msgQueue_of_rest (s.postBoth_rest e)
@[simp] theorem State.postBoth_mbxQueue (s : State) (e : Event) : (s.postBoth e).mbxQueue = s.mbxQueue := State.mbxQueue_of_rest (s.postBoth_rest e)
@[simp] theorem State.postBoth_lateSeqs (s : State) (e : Event) : (s.postBoth e).lateSeqs = s.lateSeqs := State.lateSeqs_of_rest (s.postBoth_rest e)
@[simp] theorem State.postBoth_orders (s : State) (e : Event) : (s.postBoth e).orders = s.orders := State.orders_of_rest (s.postBoth_rest e)
@[simp] theorem State.postBoth_f0 (s : State) (e : Event) : (s.postBoth e).f0 = s.f0 := State.f0_of_rest (s.postBoth_rest e)
@[simp] theorem State.postBoth_f1 (s : State) (e : Event) : (s.postBoth e).f1 = s.f1 := State.f1_of_rest (s.postBoth_rest e)
@[simp] theorem State.postBoth_points (s : State) (e : Event) : (s.postBoth e).points = s.points := State.points_of_rest (s.postBoth_rest e)
@[simp] theorem State.postBoth_prove (s : State) (e : Event) : (s.postBoth e).prove = s.prove := State.prove_of_rest (s.postBoth_rest e)
@[simp] theorem State.postBoth_limits (s : State) (e : Event) : (s.postBoth e).limits = s.limits := State.limits_of_rest (s.postBoth_rest e)
@[simp] theorem State.postBoth_disp (s : State) (e : Event) : (s.postBoth e).disp = s.disp := State.disp_of_rest (s.postBoth_rest e)
@[simp] theorem State.postBoth_ledger (s : State) (e : Event) : (s.postBoth e).ledger = s.ledger := State.ledger_of_rest (s.postBoth_rest e)
@[simp] theorem State.postBoth_starts (s : State) (e : Event) : (s.postBoth e).starts = s.starts := State.starts_of_rest (s.postBoth_rest e)
@[simp] theorem State.postBoth_slices (s : State) (e : Event) : (s.postBoth e).slices = s.slices := State.slices_of_rest (s.postBoth_rest e)
@[simp] theorem State.postBoth_switches (s : State) (e : Event) : (s.postBoth e).switches = s.switches := State.switches_of_rest (s.postBoth_rest e)
@[simp] theorem State.postBoth_gov (s : State) (e : Event) : (s.postBoth e).gov = s.gov := State.gov_of_rest (s.postBoth_rest e)
@[simp] theorem State.postBoth_stops (s : State) (e : Event) : (s.postBoth e).stops = s.stops := State.stops_of_rest (s.postBoth_rest e)
@[simp] theorem State.postBoth_serac (s : State) (e : Event) : (s.postBoth e).serac = s.serac := State.serac_of_rest (s.postBoth_rest e)
@[simp] theorem State.postBoth_ky (s : State) (e : Event) : (s.postBoth e).ky = s.ky := State.ky_of_rest (s.postBoth_rest e)
@[simp] theorem State.postBoth_reader (s : State) (e : Event) : (s.postBoth e).reader = s.reader := State.reader_of_rest (s.postBoth_rest e)
@[simp] theorem State.postBoth_rime (s : State) (e : Event) : (s.postBoth e).rime = s.rime := State.rime_of_rest (s.postBoth_rest e)
@[simp] theorem State.postBoth_upd (s : State) (e : Event) : (s.postBoth e).upd = s.upd := State.upd_of_rest (s.postBoth_rest e)

@[simp] theorem State.postTo_pending (s : State) (p : Port) (e : Event) : (s.postTo p e).pending = s.pending := State.pending_of_rest (s.postTo_rest p e)
@[simp] theorem State.postTo_variant (s : State) (p : Port) (e : Event) : (s.postTo p e).variant = s.variant := State.variant_of_rest (s.postTo_rest p e)
@[simp] theorem State.postTo_stepping (s : State) (p : Port) (e : Event) : (s.postTo p e).stepping = s.stepping := State.stepping_of_rest (s.postTo_rest p e)
@[simp] theorem State.postTo_time (s : State) (p : Port) (e : Event) : (s.postTo p e).time = s.time := State.time_of_rest (s.postTo_rest p e)
@[simp] theorem State.postTo_devTime (s : State) (p : Port) (e : Event) : (s.postTo p e).devTime = s.devTime := State.devTime_of_rest (s.postTo_rest p e)
@[simp] theorem State.postTo_free (s : State) (p : Port) (e : Event) : (s.postTo p e).free = s.free := State.free_of_rest (s.postTo_rest p e)
@[simp] theorem State.postTo_mem (s : State) (p : Port) (e : Event) : (s.postTo p e).mem = s.mem := State.mem_of_rest (s.postTo_rest p e)
@[simp] theorem State.postTo_gather (s : State) (p : Port) (e : Event) : (s.postTo p e).gather = s.gather := State.gather_of_rest (s.postTo_rest p e)
@[simp] theorem State.postTo_mbx (s : State) (p : Port) (e : Event) : (s.postTo p e).mbx = s.mbx := State.mbx_of_rest (s.postTo_rest p e)
@[simp] theorem State.postTo_waits (s : State) (p : Port) (e : Event) : (s.postTo p e).waits = s.waits := State.waits_of_rest (s.postTo_rest p e)
@[simp] theorem State.postTo_power (s : State) (p : Port) (e : Event) : (s.postTo p e).power = s.power := State.power_of_rest (s.postTo_rest p e)
@[simp] theorem State.postTo_boot (s : State) (p : Port) (e : Event) : (s.postTo p e).boot = s.boot := State.boot_of_rest (s.postTo_rest p e)
@[simp] theorem State.postTo_pins (s : State) (p : Port) (e : Event) : (s.postTo p e).pins = s.pins := State.pins_of_rest (s.postTo_rest p e)
@[simp] theorem State.postTo_straps (s : State) (p : Port) (e : Event) : (s.postTo p e).straps = s.straps := State.straps_of_rest (s.postTo_rest p e)
@[simp] theorem State.postTo_mirror (s : State) (p : Port) (e : Event) : (s.postTo p e).mirror = s.mirror := State.mirror_of_rest (s.postTo_rest p e)
@[simp] theorem State.postTo_cfg (s : State) (p : Port) (e : Event) : (s.postTo p e).cfg = s.cfg := State.cfg_of_rest (s.postTo_rest p e)
@[simp] theorem State.postTo_timeSets (s : State) (p : Port) (e : Event) : (s.postTo p e).timeSets = s.timeSets := State.timeSets_of_rest (s.postTo_rest p e)
@[simp] theorem State.postTo_eth (s : State) (p : Port) (e : Event) : (s.postTo p e).eth = s.eth := State.eth_of_rest (s.postTo_rest p e)
@[simp] theorem State.postTo_eng (s : State) (p : Port) (e : Event) : (s.postTo p e).eng = s.eng := State.eng_of_rest (s.postTo_rest p e)
@[simp] theorem State.postTo_msgQueue (s : State) (p : Port) (e : Event) : (s.postTo p e).msgQueue = s.msgQueue := State.msgQueue_of_rest (s.postTo_rest p e)
@[simp] theorem State.postTo_mbxQueue (s : State) (p : Port) (e : Event) : (s.postTo p e).mbxQueue = s.mbxQueue := State.mbxQueue_of_rest (s.postTo_rest p e)
@[simp] theorem State.postTo_lateSeqs (s : State) (p : Port) (e : Event) : (s.postTo p e).lateSeqs = s.lateSeqs := State.lateSeqs_of_rest (s.postTo_rest p e)
@[simp] theorem State.postTo_orders (s : State) (p : Port) (e : Event) : (s.postTo p e).orders = s.orders := State.orders_of_rest (s.postTo_rest p e)
@[simp] theorem State.postTo_f0 (s : State) (p : Port) (e : Event) : (s.postTo p e).f0 = s.f0 := State.f0_of_rest (s.postTo_rest p e)
@[simp] theorem State.postTo_f1 (s : State) (p : Port) (e : Event) : (s.postTo p e).f1 = s.f1 := State.f1_of_rest (s.postTo_rest p e)
@[simp] theorem State.postTo_points (s : State) (p : Port) (e : Event) : (s.postTo p e).points = s.points := State.points_of_rest (s.postTo_rest p e)
@[simp] theorem State.postTo_prove (s : State) (p : Port) (e : Event) : (s.postTo p e).prove = s.prove := State.prove_of_rest (s.postTo_rest p e)
@[simp] theorem State.postTo_limits (s : State) (p : Port) (e : Event) : (s.postTo p e).limits = s.limits := State.limits_of_rest (s.postTo_rest p e)
@[simp] theorem State.postTo_disp (s : State) (p : Port) (e : Event) : (s.postTo p e).disp = s.disp := State.disp_of_rest (s.postTo_rest p e)
@[simp] theorem State.postTo_ledger (s : State) (p : Port) (e : Event) : (s.postTo p e).ledger = s.ledger := State.ledger_of_rest (s.postTo_rest p e)
@[simp] theorem State.postTo_starts (s : State) (p : Port) (e : Event) : (s.postTo p e).starts = s.starts := State.starts_of_rest (s.postTo_rest p e)
@[simp] theorem State.postTo_slices (s : State) (p : Port) (e : Event) : (s.postTo p e).slices = s.slices := State.slices_of_rest (s.postTo_rest p e)
@[simp] theorem State.postTo_switches (s : State) (p : Port) (e : Event) : (s.postTo p e).switches = s.switches := State.switches_of_rest (s.postTo_rest p e)
@[simp] theorem State.postTo_gov (s : State) (p : Port) (e : Event) : (s.postTo p e).gov = s.gov := State.gov_of_rest (s.postTo_rest p e)
@[simp] theorem State.postTo_stops (s : State) (p : Port) (e : Event) : (s.postTo p e).stops = s.stops := State.stops_of_rest (s.postTo_rest p e)
@[simp] theorem State.postTo_serac (s : State) (p : Port) (e : Event) : (s.postTo p e).serac = s.serac := State.serac_of_rest (s.postTo_rest p e)
@[simp] theorem State.postTo_ky (s : State) (p : Port) (e : Event) : (s.postTo p e).ky = s.ky := State.ky_of_rest (s.postTo_rest p e)
@[simp] theorem State.postTo_reader (s : State) (p : Port) (e : Event) : (s.postTo p e).reader = s.reader := State.reader_of_rest (s.postTo_rest p e)
@[simp] theorem State.postTo_rime (s : State) (p : Port) (e : Event) : (s.postTo p e).rime = s.rime := State.rime_of_rest (s.postTo_rest p e)
@[simp] theorem State.postTo_upd (s : State) (p : Port) (e : Event) : (s.postTo p e).upd = s.upd := State.upd_of_rest (s.postTo_rest p e)

@[simp] theorem State.postPoint_pending (s : State) (p : Nat) (e : Event) : (s.postPoint p e).pending = s.pending := State.pending_of_rest (s.postPoint_rest p e)
@[simp] theorem State.postPoint_variant (s : State) (p : Nat) (e : Event) : (s.postPoint p e).variant = s.variant := State.variant_of_rest (s.postPoint_rest p e)
@[simp] theorem State.postPoint_stepping (s : State) (p : Nat) (e : Event) : (s.postPoint p e).stepping = s.stepping := State.stepping_of_rest (s.postPoint_rest p e)
@[simp] theorem State.postPoint_time (s : State) (p : Nat) (e : Event) : (s.postPoint p e).time = s.time := State.time_of_rest (s.postPoint_rest p e)
@[simp] theorem State.postPoint_devTime (s : State) (p : Nat) (e : Event) : (s.postPoint p e).devTime = s.devTime := State.devTime_of_rest (s.postPoint_rest p e)
@[simp] theorem State.postPoint_free (s : State) (p : Nat) (e : Event) : (s.postPoint p e).free = s.free := State.free_of_rest (s.postPoint_rest p e)
@[simp] theorem State.postPoint_mem (s : State) (p : Nat) (e : Event) : (s.postPoint p e).mem = s.mem := State.mem_of_rest (s.postPoint_rest p e)
@[simp] theorem State.postPoint_gather (s : State) (p : Nat) (e : Event) : (s.postPoint p e).gather = s.gather := State.gather_of_rest (s.postPoint_rest p e)
@[simp] theorem State.postPoint_mbx (s : State) (p : Nat) (e : Event) : (s.postPoint p e).mbx = s.mbx := State.mbx_of_rest (s.postPoint_rest p e)
@[simp] theorem State.postPoint_waits (s : State) (p : Nat) (e : Event) : (s.postPoint p e).waits = s.waits := State.waits_of_rest (s.postPoint_rest p e)
@[simp] theorem State.postPoint_power (s : State) (p : Nat) (e : Event) : (s.postPoint p e).power = s.power := State.power_of_rest (s.postPoint_rest p e)
@[simp] theorem State.postPoint_boot (s : State) (p : Nat) (e : Event) : (s.postPoint p e).boot = s.boot := State.boot_of_rest (s.postPoint_rest p e)
@[simp] theorem State.postPoint_pins (s : State) (p : Nat) (e : Event) : (s.postPoint p e).pins = s.pins := State.pins_of_rest (s.postPoint_rest p e)
@[simp] theorem State.postPoint_straps (s : State) (p : Nat) (e : Event) : (s.postPoint p e).straps = s.straps := State.straps_of_rest (s.postPoint_rest p e)
@[simp] theorem State.postPoint_mirror (s : State) (p : Nat) (e : Event) : (s.postPoint p e).mirror = s.mirror := State.mirror_of_rest (s.postPoint_rest p e)
@[simp] theorem State.postPoint_cfg (s : State) (p : Nat) (e : Event) : (s.postPoint p e).cfg = s.cfg := State.cfg_of_rest (s.postPoint_rest p e)
@[simp] theorem State.postPoint_timeSets (s : State) (p : Nat) (e : Event) : (s.postPoint p e).timeSets = s.timeSets := State.timeSets_of_rest (s.postPoint_rest p e)
@[simp] theorem State.postPoint_eth (s : State) (p : Nat) (e : Event) : (s.postPoint p e).eth = s.eth := State.eth_of_rest (s.postPoint_rest p e)
@[simp] theorem State.postPoint_eng (s : State) (p : Nat) (e : Event) : (s.postPoint p e).eng = s.eng := State.eng_of_rest (s.postPoint_rest p e)
@[simp] theorem State.postPoint_msgQueue (s : State) (p : Nat) (e : Event) : (s.postPoint p e).msgQueue = s.msgQueue := State.msgQueue_of_rest (s.postPoint_rest p e)
@[simp] theorem State.postPoint_mbxQueue (s : State) (p : Nat) (e : Event) : (s.postPoint p e).mbxQueue = s.mbxQueue := State.mbxQueue_of_rest (s.postPoint_rest p e)
@[simp] theorem State.postPoint_lateSeqs (s : State) (p : Nat) (e : Event) : (s.postPoint p e).lateSeqs = s.lateSeqs := State.lateSeqs_of_rest (s.postPoint_rest p e)
@[simp] theorem State.postPoint_orders (s : State) (p : Nat) (e : Event) : (s.postPoint p e).orders = s.orders := State.orders_of_rest (s.postPoint_rest p e)
@[simp] theorem State.postPoint_f0 (s : State) (p : Nat) (e : Event) : (s.postPoint p e).f0 = s.f0 := State.f0_of_rest (s.postPoint_rest p e)
@[simp] theorem State.postPoint_f1 (s : State) (p : Nat) (e : Event) : (s.postPoint p e).f1 = s.f1 := State.f1_of_rest (s.postPoint_rest p e)
@[simp] theorem State.postPoint_points (s : State) (p : Nat) (e : Event) : (s.postPoint p e).points = s.points := State.points_of_rest (s.postPoint_rest p e)
@[simp] theorem State.postPoint_prove (s : State) (p : Nat) (e : Event) : (s.postPoint p e).prove = s.prove := State.prove_of_rest (s.postPoint_rest p e)
@[simp] theorem State.postPoint_limits (s : State) (p : Nat) (e : Event) : (s.postPoint p e).limits = s.limits := State.limits_of_rest (s.postPoint_rest p e)
@[simp] theorem State.postPoint_disp (s : State) (p : Nat) (e : Event) : (s.postPoint p e).disp = s.disp := State.disp_of_rest (s.postPoint_rest p e)
@[simp] theorem State.postPoint_ledger (s : State) (p : Nat) (e : Event) : (s.postPoint p e).ledger = s.ledger := State.ledger_of_rest (s.postPoint_rest p e)
@[simp] theorem State.postPoint_starts (s : State) (p : Nat) (e : Event) : (s.postPoint p e).starts = s.starts := State.starts_of_rest (s.postPoint_rest p e)
@[simp] theorem State.postPoint_slices (s : State) (p : Nat) (e : Event) : (s.postPoint p e).slices = s.slices := State.slices_of_rest (s.postPoint_rest p e)
@[simp] theorem State.postPoint_switches (s : State) (p : Nat) (e : Event) : (s.postPoint p e).switches = s.switches := State.switches_of_rest (s.postPoint_rest p e)
@[simp] theorem State.postPoint_gov (s : State) (p : Nat) (e : Event) : (s.postPoint p e).gov = s.gov := State.gov_of_rest (s.postPoint_rest p e)
@[simp] theorem State.postPoint_stops (s : State) (p : Nat) (e : Event) : (s.postPoint p e).stops = s.stops := State.stops_of_rest (s.postPoint_rest p e)
@[simp] theorem State.postPoint_serac (s : State) (p : Nat) (e : Event) : (s.postPoint p e).serac = s.serac := State.serac_of_rest (s.postPoint_rest p e)
@[simp] theorem State.postPoint_ky (s : State) (p : Nat) (e : Event) : (s.postPoint p e).ky = s.ky := State.ky_of_rest (s.postPoint_rest p e)
@[simp] theorem State.postPoint_reader (s : State) (p : Nat) (e : Event) : (s.postPoint p e).reader = s.reader := State.reader_of_rest (s.postPoint_rest p e)
@[simp] theorem State.postPoint_rime (s : State) (p : Nat) (e : Event) : (s.postPoint p e).rime = s.rime := State.rime_of_rest (s.postPoint_rest p e)
@[simp] theorem State.postPoint_upd (s : State) (p : Nat) (e : Event) : (s.postPoint p e).upd = s.upd := State.upd_of_rest (s.postPoint_rest p e)

@[simp] theorem State.postSlice_pending (s : State) (p : Nat) (e : Event) : (s.postSlice p e).pending = s.pending := State.pending_of_rest (s.postSlice_rest p e)
@[simp] theorem State.postSlice_variant (s : State) (p : Nat) (e : Event) : (s.postSlice p e).variant = s.variant := State.variant_of_rest (s.postSlice_rest p e)
@[simp] theorem State.postSlice_stepping (s : State) (p : Nat) (e : Event) : (s.postSlice p e).stepping = s.stepping := State.stepping_of_rest (s.postSlice_rest p e)
@[simp] theorem State.postSlice_time (s : State) (p : Nat) (e : Event) : (s.postSlice p e).time = s.time := State.time_of_rest (s.postSlice_rest p e)
@[simp] theorem State.postSlice_devTime (s : State) (p : Nat) (e : Event) : (s.postSlice p e).devTime = s.devTime := State.devTime_of_rest (s.postSlice_rest p e)
@[simp] theorem State.postSlice_free (s : State) (p : Nat) (e : Event) : (s.postSlice p e).free = s.free := State.free_of_rest (s.postSlice_rest p e)
@[simp] theorem State.postSlice_mem (s : State) (p : Nat) (e : Event) : (s.postSlice p e).mem = s.mem := State.mem_of_rest (s.postSlice_rest p e)
@[simp] theorem State.postSlice_gather (s : State) (p : Nat) (e : Event) : (s.postSlice p e).gather = s.gather := State.gather_of_rest (s.postSlice_rest p e)
@[simp] theorem State.postSlice_mbx (s : State) (p : Nat) (e : Event) : (s.postSlice p e).mbx = s.mbx := State.mbx_of_rest (s.postSlice_rest p e)
@[simp] theorem State.postSlice_waits (s : State) (p : Nat) (e : Event) : (s.postSlice p e).waits = s.waits := State.waits_of_rest (s.postSlice_rest p e)
@[simp] theorem State.postSlice_power (s : State) (p : Nat) (e : Event) : (s.postSlice p e).power = s.power := State.power_of_rest (s.postSlice_rest p e)
@[simp] theorem State.postSlice_boot (s : State) (p : Nat) (e : Event) : (s.postSlice p e).boot = s.boot := State.boot_of_rest (s.postSlice_rest p e)
@[simp] theorem State.postSlice_pins (s : State) (p : Nat) (e : Event) : (s.postSlice p e).pins = s.pins := State.pins_of_rest (s.postSlice_rest p e)
@[simp] theorem State.postSlice_straps (s : State) (p : Nat) (e : Event) : (s.postSlice p e).straps = s.straps := State.straps_of_rest (s.postSlice_rest p e)
@[simp] theorem State.postSlice_mirror (s : State) (p : Nat) (e : Event) : (s.postSlice p e).mirror = s.mirror := State.mirror_of_rest (s.postSlice_rest p e)
@[simp] theorem State.postSlice_cfg (s : State) (p : Nat) (e : Event) : (s.postSlice p e).cfg = s.cfg := State.cfg_of_rest (s.postSlice_rest p e)
@[simp] theorem State.postSlice_timeSets (s : State) (p : Nat) (e : Event) : (s.postSlice p e).timeSets = s.timeSets := State.timeSets_of_rest (s.postSlice_rest p e)
@[simp] theorem State.postSlice_eth (s : State) (p : Nat) (e : Event) : (s.postSlice p e).eth = s.eth := State.eth_of_rest (s.postSlice_rest p e)
@[simp] theorem State.postSlice_eng (s : State) (p : Nat) (e : Event) : (s.postSlice p e).eng = s.eng := State.eng_of_rest (s.postSlice_rest p e)
@[simp] theorem State.postSlice_msgQueue (s : State) (p : Nat) (e : Event) : (s.postSlice p e).msgQueue = s.msgQueue := State.msgQueue_of_rest (s.postSlice_rest p e)
@[simp] theorem State.postSlice_mbxQueue (s : State) (p : Nat) (e : Event) : (s.postSlice p e).mbxQueue = s.mbxQueue := State.mbxQueue_of_rest (s.postSlice_rest p e)
@[simp] theorem State.postSlice_lateSeqs (s : State) (p : Nat) (e : Event) : (s.postSlice p e).lateSeqs = s.lateSeqs := State.lateSeqs_of_rest (s.postSlice_rest p e)
@[simp] theorem State.postSlice_orders (s : State) (p : Nat) (e : Event) : (s.postSlice p e).orders = s.orders := State.orders_of_rest (s.postSlice_rest p e)
@[simp] theorem State.postSlice_f0 (s : State) (p : Nat) (e : Event) : (s.postSlice p e).f0 = s.f0 := State.f0_of_rest (s.postSlice_rest p e)
@[simp] theorem State.postSlice_f1 (s : State) (p : Nat) (e : Event) : (s.postSlice p e).f1 = s.f1 := State.f1_of_rest (s.postSlice_rest p e)
@[simp] theorem State.postSlice_points (s : State) (p : Nat) (e : Event) : (s.postSlice p e).points = s.points := State.points_of_rest (s.postSlice_rest p e)
@[simp] theorem State.postSlice_prove (s : State) (p : Nat) (e : Event) : (s.postSlice p e).prove = s.prove := State.prove_of_rest (s.postSlice_rest p e)
@[simp] theorem State.postSlice_limits (s : State) (p : Nat) (e : Event) : (s.postSlice p e).limits = s.limits := State.limits_of_rest (s.postSlice_rest p e)
@[simp] theorem State.postSlice_disp (s : State) (p : Nat) (e : Event) : (s.postSlice p e).disp = s.disp := State.disp_of_rest (s.postSlice_rest p e)
@[simp] theorem State.postSlice_ledger (s : State) (p : Nat) (e : Event) : (s.postSlice p e).ledger = s.ledger := State.ledger_of_rest (s.postSlice_rest p e)
@[simp] theorem State.postSlice_starts (s : State) (p : Nat) (e : Event) : (s.postSlice p e).starts = s.starts := State.starts_of_rest (s.postSlice_rest p e)
@[simp] theorem State.postSlice_slices (s : State) (p : Nat) (e : Event) : (s.postSlice p e).slices = s.slices := State.slices_of_rest (s.postSlice_rest p e)
@[simp] theorem State.postSlice_switches (s : State) (p : Nat) (e : Event) : (s.postSlice p e).switches = s.switches := State.switches_of_rest (s.postSlice_rest p e)
@[simp] theorem State.postSlice_gov (s : State) (p : Nat) (e : Event) : (s.postSlice p e).gov = s.gov := State.gov_of_rest (s.postSlice_rest p e)
@[simp] theorem State.postSlice_stops (s : State) (p : Nat) (e : Event) : (s.postSlice p e).stops = s.stops := State.stops_of_rest (s.postSlice_rest p e)
@[simp] theorem State.postSlice_serac (s : State) (p : Nat) (e : Event) : (s.postSlice p e).serac = s.serac := State.serac_of_rest (s.postSlice_rest p e)
@[simp] theorem State.postSlice_ky (s : State) (p : Nat) (e : Event) : (s.postSlice p e).ky = s.ky := State.ky_of_rest (s.postSlice_rest p e)
@[simp] theorem State.postSlice_reader (s : State) (p : Nat) (e : Event) : (s.postSlice p e).reader = s.reader := State.reader_of_rest (s.postSlice_rest p e)
@[simp] theorem State.postSlice_rime (s : State) (p : Nat) (e : Event) : (s.postSlice p e).rime = s.rime := State.rime_of_rest (s.postSlice_rest p e)
@[simp] theorem State.postSlice_upd (s : State) (p : Nat) (e : Event) : (s.postSlice p e).upd = s.upd := State.upd_of_rest (s.postSlice_rest p e)

@[simp] theorem State.postSwitch_pending (s : State) (p : Nat) (e : Event) : (s.postSwitch p e).pending = s.pending := State.pending_of_rest (s.postSwitch_rest p e)
@[simp] theorem State.postSwitch_variant (s : State) (p : Nat) (e : Event) : (s.postSwitch p e).variant = s.variant := State.variant_of_rest (s.postSwitch_rest p e)
@[simp] theorem State.postSwitch_stepping (s : State) (p : Nat) (e : Event) : (s.postSwitch p e).stepping = s.stepping := State.stepping_of_rest (s.postSwitch_rest p e)
@[simp] theorem State.postSwitch_time (s : State) (p : Nat) (e : Event) : (s.postSwitch p e).time = s.time := State.time_of_rest (s.postSwitch_rest p e)
@[simp] theorem State.postSwitch_devTime (s : State) (p : Nat) (e : Event) : (s.postSwitch p e).devTime = s.devTime := State.devTime_of_rest (s.postSwitch_rest p e)
@[simp] theorem State.postSwitch_free (s : State) (p : Nat) (e : Event) : (s.postSwitch p e).free = s.free := State.free_of_rest (s.postSwitch_rest p e)
@[simp] theorem State.postSwitch_mem (s : State) (p : Nat) (e : Event) : (s.postSwitch p e).mem = s.mem := State.mem_of_rest (s.postSwitch_rest p e)
@[simp] theorem State.postSwitch_gather (s : State) (p : Nat) (e : Event) : (s.postSwitch p e).gather = s.gather := State.gather_of_rest (s.postSwitch_rest p e)
@[simp] theorem State.postSwitch_mbx (s : State) (p : Nat) (e : Event) : (s.postSwitch p e).mbx = s.mbx := State.mbx_of_rest (s.postSwitch_rest p e)
@[simp] theorem State.postSwitch_waits (s : State) (p : Nat) (e : Event) : (s.postSwitch p e).waits = s.waits := State.waits_of_rest (s.postSwitch_rest p e)
@[simp] theorem State.postSwitch_power (s : State) (p : Nat) (e : Event) : (s.postSwitch p e).power = s.power := State.power_of_rest (s.postSwitch_rest p e)
@[simp] theorem State.postSwitch_boot (s : State) (p : Nat) (e : Event) : (s.postSwitch p e).boot = s.boot := State.boot_of_rest (s.postSwitch_rest p e)
@[simp] theorem State.postSwitch_pins (s : State) (p : Nat) (e : Event) : (s.postSwitch p e).pins = s.pins := State.pins_of_rest (s.postSwitch_rest p e)
@[simp] theorem State.postSwitch_straps (s : State) (p : Nat) (e : Event) : (s.postSwitch p e).straps = s.straps := State.straps_of_rest (s.postSwitch_rest p e)
@[simp] theorem State.postSwitch_mirror (s : State) (p : Nat) (e : Event) : (s.postSwitch p e).mirror = s.mirror := State.mirror_of_rest (s.postSwitch_rest p e)
@[simp] theorem State.postSwitch_cfg (s : State) (p : Nat) (e : Event) : (s.postSwitch p e).cfg = s.cfg := State.cfg_of_rest (s.postSwitch_rest p e)
@[simp] theorem State.postSwitch_timeSets (s : State) (p : Nat) (e : Event) : (s.postSwitch p e).timeSets = s.timeSets := State.timeSets_of_rest (s.postSwitch_rest p e)
@[simp] theorem State.postSwitch_eth (s : State) (p : Nat) (e : Event) : (s.postSwitch p e).eth = s.eth := State.eth_of_rest (s.postSwitch_rest p e)
@[simp] theorem State.postSwitch_eng (s : State) (p : Nat) (e : Event) : (s.postSwitch p e).eng = s.eng := State.eng_of_rest (s.postSwitch_rest p e)
@[simp] theorem State.postSwitch_msgQueue (s : State) (p : Nat) (e : Event) : (s.postSwitch p e).msgQueue = s.msgQueue := State.msgQueue_of_rest (s.postSwitch_rest p e)
@[simp] theorem State.postSwitch_mbxQueue (s : State) (p : Nat) (e : Event) : (s.postSwitch p e).mbxQueue = s.mbxQueue := State.mbxQueue_of_rest (s.postSwitch_rest p e)
@[simp] theorem State.postSwitch_lateSeqs (s : State) (p : Nat) (e : Event) : (s.postSwitch p e).lateSeqs = s.lateSeqs := State.lateSeqs_of_rest (s.postSwitch_rest p e)
@[simp] theorem State.postSwitch_orders (s : State) (p : Nat) (e : Event) : (s.postSwitch p e).orders = s.orders := State.orders_of_rest (s.postSwitch_rest p e)
@[simp] theorem State.postSwitch_f0 (s : State) (p : Nat) (e : Event) : (s.postSwitch p e).f0 = s.f0 := State.f0_of_rest (s.postSwitch_rest p e)
@[simp] theorem State.postSwitch_f1 (s : State) (p : Nat) (e : Event) : (s.postSwitch p e).f1 = s.f1 := State.f1_of_rest (s.postSwitch_rest p e)
@[simp] theorem State.postSwitch_points (s : State) (p : Nat) (e : Event) : (s.postSwitch p e).points = s.points := State.points_of_rest (s.postSwitch_rest p e)
@[simp] theorem State.postSwitch_prove (s : State) (p : Nat) (e : Event) : (s.postSwitch p e).prove = s.prove := State.prove_of_rest (s.postSwitch_rest p e)
@[simp] theorem State.postSwitch_limits (s : State) (p : Nat) (e : Event) : (s.postSwitch p e).limits = s.limits := State.limits_of_rest (s.postSwitch_rest p e)
@[simp] theorem State.postSwitch_disp (s : State) (p : Nat) (e : Event) : (s.postSwitch p e).disp = s.disp := State.disp_of_rest (s.postSwitch_rest p e)
@[simp] theorem State.postSwitch_ledger (s : State) (p : Nat) (e : Event) : (s.postSwitch p e).ledger = s.ledger := State.ledger_of_rest (s.postSwitch_rest p e)
@[simp] theorem State.postSwitch_starts (s : State) (p : Nat) (e : Event) : (s.postSwitch p e).starts = s.starts := State.starts_of_rest (s.postSwitch_rest p e)
@[simp] theorem State.postSwitch_slices (s : State) (p : Nat) (e : Event) : (s.postSwitch p e).slices = s.slices := State.slices_of_rest (s.postSwitch_rest p e)
@[simp] theorem State.postSwitch_switches (s : State) (p : Nat) (e : Event) : (s.postSwitch p e).switches = s.switches := State.switches_of_rest (s.postSwitch_rest p e)
@[simp] theorem State.postSwitch_gov (s : State) (p : Nat) (e : Event) : (s.postSwitch p e).gov = s.gov := State.gov_of_rest (s.postSwitch_rest p e)
@[simp] theorem State.postSwitch_stops (s : State) (p : Nat) (e : Event) : (s.postSwitch p e).stops = s.stops := State.stops_of_rest (s.postSwitch_rest p e)
@[simp] theorem State.postSwitch_serac (s : State) (p : Nat) (e : Event) : (s.postSwitch p e).serac = s.serac := State.serac_of_rest (s.postSwitch_rest p e)
@[simp] theorem State.postSwitch_ky (s : State) (p : Nat) (e : Event) : (s.postSwitch p e).ky = s.ky := State.ky_of_rest (s.postSwitch_rest p e)
@[simp] theorem State.postSwitch_reader (s : State) (p : Nat) (e : Event) : (s.postSwitch p e).reader = s.reader := State.reader_of_rest (s.postSwitch_rest p e)
@[simp] theorem State.postSwitch_rime (s : State) (p : Nat) (e : Event) : (s.postSwitch p e).rime = s.rime := State.rime_of_rest (s.postSwitch_rest p e)
@[simp] theorem State.postSwitch_upd (s : State) (p : Nat) (e : Event) : (s.postSwitch p e).upd = s.upd := State.upd_of_rest (s.postSwitch_rest p e)

@[simp] theorem State.postAnt_pending (s : State) (p : Nat) (e : Event) : (s.postAnt p e).pending = s.pending := State.pending_of_rest (s.postAnt_rest p e)
@[simp] theorem State.postAnt_variant (s : State) (p : Nat) (e : Event) : (s.postAnt p e).variant = s.variant := State.variant_of_rest (s.postAnt_rest p e)
@[simp] theorem State.postAnt_stepping (s : State) (p : Nat) (e : Event) : (s.postAnt p e).stepping = s.stepping := State.stepping_of_rest (s.postAnt_rest p e)
@[simp] theorem State.postAnt_time (s : State) (p : Nat) (e : Event) : (s.postAnt p e).time = s.time := State.time_of_rest (s.postAnt_rest p e)
@[simp] theorem State.postAnt_devTime (s : State) (p : Nat) (e : Event) : (s.postAnt p e).devTime = s.devTime := State.devTime_of_rest (s.postAnt_rest p e)
@[simp] theorem State.postAnt_free (s : State) (p : Nat) (e : Event) : (s.postAnt p e).free = s.free := State.free_of_rest (s.postAnt_rest p e)
@[simp] theorem State.postAnt_mem (s : State) (p : Nat) (e : Event) : (s.postAnt p e).mem = s.mem := State.mem_of_rest (s.postAnt_rest p e)
@[simp] theorem State.postAnt_gather (s : State) (p : Nat) (e : Event) : (s.postAnt p e).gather = s.gather := State.gather_of_rest (s.postAnt_rest p e)
@[simp] theorem State.postAnt_mbx (s : State) (p : Nat) (e : Event) : (s.postAnt p e).mbx = s.mbx := State.mbx_of_rest (s.postAnt_rest p e)
@[simp] theorem State.postAnt_waits (s : State) (p : Nat) (e : Event) : (s.postAnt p e).waits = s.waits := State.waits_of_rest (s.postAnt_rest p e)
@[simp] theorem State.postAnt_power (s : State) (p : Nat) (e : Event) : (s.postAnt p e).power = s.power := State.power_of_rest (s.postAnt_rest p e)
@[simp] theorem State.postAnt_boot (s : State) (p : Nat) (e : Event) : (s.postAnt p e).boot = s.boot := State.boot_of_rest (s.postAnt_rest p e)
@[simp] theorem State.postAnt_pins (s : State) (p : Nat) (e : Event) : (s.postAnt p e).pins = s.pins := State.pins_of_rest (s.postAnt_rest p e)
@[simp] theorem State.postAnt_straps (s : State) (p : Nat) (e : Event) : (s.postAnt p e).straps = s.straps := State.straps_of_rest (s.postAnt_rest p e)
@[simp] theorem State.postAnt_mirror (s : State) (p : Nat) (e : Event) : (s.postAnt p e).mirror = s.mirror := State.mirror_of_rest (s.postAnt_rest p e)
@[simp] theorem State.postAnt_cfg (s : State) (p : Nat) (e : Event) : (s.postAnt p e).cfg = s.cfg := State.cfg_of_rest (s.postAnt_rest p e)
@[simp] theorem State.postAnt_timeSets (s : State) (p : Nat) (e : Event) : (s.postAnt p e).timeSets = s.timeSets := State.timeSets_of_rest (s.postAnt_rest p e)
@[simp] theorem State.postAnt_eth (s : State) (p : Nat) (e : Event) : (s.postAnt p e).eth = s.eth := State.eth_of_rest (s.postAnt_rest p e)
@[simp] theorem State.postAnt_eng (s : State) (p : Nat) (e : Event) : (s.postAnt p e).eng = s.eng := State.eng_of_rest (s.postAnt_rest p e)
@[simp] theorem State.postAnt_msgQueue (s : State) (p : Nat) (e : Event) : (s.postAnt p e).msgQueue = s.msgQueue := State.msgQueue_of_rest (s.postAnt_rest p e)
@[simp] theorem State.postAnt_mbxQueue (s : State) (p : Nat) (e : Event) : (s.postAnt p e).mbxQueue = s.mbxQueue := State.mbxQueue_of_rest (s.postAnt_rest p e)
@[simp] theorem State.postAnt_lateSeqs (s : State) (p : Nat) (e : Event) : (s.postAnt p e).lateSeqs = s.lateSeqs := State.lateSeqs_of_rest (s.postAnt_rest p e)
@[simp] theorem State.postAnt_orders (s : State) (p : Nat) (e : Event) : (s.postAnt p e).orders = s.orders := State.orders_of_rest (s.postAnt_rest p e)
@[simp] theorem State.postAnt_f0 (s : State) (p : Nat) (e : Event) : (s.postAnt p e).f0 = s.f0 := State.f0_of_rest (s.postAnt_rest p e)
@[simp] theorem State.postAnt_f1 (s : State) (p : Nat) (e : Event) : (s.postAnt p e).f1 = s.f1 := State.f1_of_rest (s.postAnt_rest p e)
@[simp] theorem State.postAnt_points (s : State) (p : Nat) (e : Event) : (s.postAnt p e).points = s.points := State.points_of_rest (s.postAnt_rest p e)
@[simp] theorem State.postAnt_prove (s : State) (p : Nat) (e : Event) : (s.postAnt p e).prove = s.prove := State.prove_of_rest (s.postAnt_rest p e)
@[simp] theorem State.postAnt_limits (s : State) (p : Nat) (e : Event) : (s.postAnt p e).limits = s.limits := State.limits_of_rest (s.postAnt_rest p e)
@[simp] theorem State.postAnt_disp (s : State) (p : Nat) (e : Event) : (s.postAnt p e).disp = s.disp := State.disp_of_rest (s.postAnt_rest p e)
@[simp] theorem State.postAnt_ledger (s : State) (p : Nat) (e : Event) : (s.postAnt p e).ledger = s.ledger := State.ledger_of_rest (s.postAnt_rest p e)
@[simp] theorem State.postAnt_starts (s : State) (p : Nat) (e : Event) : (s.postAnt p e).starts = s.starts := State.starts_of_rest (s.postAnt_rest p e)
@[simp] theorem State.postAnt_slices (s : State) (p : Nat) (e : Event) : (s.postAnt p e).slices = s.slices := State.slices_of_rest (s.postAnt_rest p e)
@[simp] theorem State.postAnt_switches (s : State) (p : Nat) (e : Event) : (s.postAnt p e).switches = s.switches := State.switches_of_rest (s.postAnt_rest p e)
@[simp] theorem State.postAnt_gov (s : State) (p : Nat) (e : Event) : (s.postAnt p e).gov = s.gov := State.gov_of_rest (s.postAnt_rest p e)
@[simp] theorem State.postAnt_stops (s : State) (p : Nat) (e : Event) : (s.postAnt p e).stops = s.stops := State.stops_of_rest (s.postAnt_rest p e)
@[simp] theorem State.postAnt_serac (s : State) (p : Nat) (e : Event) : (s.postAnt p e).serac = s.serac := State.serac_of_rest (s.postAnt_rest p e)
@[simp] theorem State.postAnt_ky (s : State) (p : Nat) (e : Event) : (s.postAnt p e).ky = s.ky := State.ky_of_rest (s.postAnt_rest p e)
@[simp] theorem State.postAnt_reader (s : State) (p : Nat) (e : Event) : (s.postAnt p e).reader = s.reader := State.reader_of_rest (s.postAnt_rest p e)
@[simp] theorem State.postAnt_rime (s : State) (p : Nat) (e : Event) : (s.postAnt p e).rime = s.rime := State.rime_of_rest (s.postAnt_rest p e)
@[simp] theorem State.postAnt_upd (s : State) (p : Nat) (e : Event) : (s.postAnt p e).upd = s.upd := State.upd_of_rest (s.postAnt_rest p e)

@[simp] theorem State.landed_pending (s : State) (t : Ticket) : (s.landed t).pending = s.pending := State.pending_of_rest (s.landed_rest t)
@[simp] theorem State.landed_variant (s : State) (t : Ticket) : (s.landed t).variant = s.variant := State.variant_of_rest (s.landed_rest t)
@[simp] theorem State.landed_stepping (s : State) (t : Ticket) : (s.landed t).stepping = s.stepping := State.stepping_of_rest (s.landed_rest t)
@[simp] theorem State.landed_time (s : State) (t : Ticket) : (s.landed t).time = s.time := State.time_of_rest (s.landed_rest t)
@[simp] theorem State.landed_devTime (s : State) (t : Ticket) : (s.landed t).devTime = s.devTime := State.devTime_of_rest (s.landed_rest t)
@[simp] theorem State.landed_free (s : State) (t : Ticket) : (s.landed t).free = s.free := State.free_of_rest (s.landed_rest t)
@[simp] theorem State.landed_mem (s : State) (t : Ticket) : (s.landed t).mem = s.mem := State.mem_of_rest (s.landed_rest t)
@[simp] theorem State.landed_gather (s : State) (t : Ticket) : (s.landed t).gather = s.gather := State.gather_of_rest (s.landed_rest t)
@[simp] theorem State.landed_mbx (s : State) (t : Ticket) : (s.landed t).mbx = s.mbx := State.mbx_of_rest (s.landed_rest t)
@[simp] theorem State.landed_waits (s : State) (t : Ticket) : (s.landed t).waits = s.waits := State.waits_of_rest (s.landed_rest t)
@[simp] theorem State.landed_power (s : State) (t : Ticket) : (s.landed t).power = s.power := State.power_of_rest (s.landed_rest t)
@[simp] theorem State.landed_boot (s : State) (t : Ticket) : (s.landed t).boot = s.boot := State.boot_of_rest (s.landed_rest t)
@[simp] theorem State.landed_pins (s : State) (t : Ticket) : (s.landed t).pins = s.pins := State.pins_of_rest (s.landed_rest t)
@[simp] theorem State.landed_straps (s : State) (t : Ticket) : (s.landed t).straps = s.straps := State.straps_of_rest (s.landed_rest t)
@[simp] theorem State.landed_mirror (s : State) (t : Ticket) : (s.landed t).mirror = s.mirror := State.mirror_of_rest (s.landed_rest t)
@[simp] theorem State.landed_cfg (s : State) (t : Ticket) : (s.landed t).cfg = s.cfg := State.cfg_of_rest (s.landed_rest t)
@[simp] theorem State.landed_timeSets (s : State) (t : Ticket) : (s.landed t).timeSets = s.timeSets := State.timeSets_of_rest (s.landed_rest t)
@[simp] theorem State.landed_eth (s : State) (t : Ticket) : (s.landed t).eth = s.eth := State.eth_of_rest (s.landed_rest t)
@[simp] theorem State.landed_eng (s : State) (t : Ticket) : (s.landed t).eng = s.eng := State.eng_of_rest (s.landed_rest t)
@[simp] theorem State.landed_msgQueue (s : State) (t : Ticket) : (s.landed t).msgQueue = s.msgQueue := State.msgQueue_of_rest (s.landed_rest t)
@[simp] theorem State.landed_mbxQueue (s : State) (t : Ticket) : (s.landed t).mbxQueue = s.mbxQueue := State.mbxQueue_of_rest (s.landed_rest t)
@[simp] theorem State.landed_lateSeqs (s : State) (t : Ticket) : (s.landed t).lateSeqs = s.lateSeqs := State.lateSeqs_of_rest (s.landed_rest t)
@[simp] theorem State.landed_orders (s : State) (t : Ticket) : (s.landed t).orders = s.orders := State.orders_of_rest (s.landed_rest t)
@[simp] theorem State.landed_f0 (s : State) (t : Ticket) : (s.landed t).f0 = s.f0 := State.f0_of_rest (s.landed_rest t)
@[simp] theorem State.landed_f1 (s : State) (t : Ticket) : (s.landed t).f1 = s.f1 := State.f1_of_rest (s.landed_rest t)
@[simp] theorem State.landed_points (s : State) (t : Ticket) : (s.landed t).points = s.points := State.points_of_rest (s.landed_rest t)
@[simp] theorem State.landed_prove (s : State) (t : Ticket) : (s.landed t).prove = s.prove := State.prove_of_rest (s.landed_rest t)
@[simp] theorem State.landed_limits (s : State) (t : Ticket) : (s.landed t).limits = s.limits := State.limits_of_rest (s.landed_rest t)
@[simp] theorem State.landed_disp (s : State) (t : Ticket) : (s.landed t).disp = s.disp := State.disp_of_rest (s.landed_rest t)
@[simp] theorem State.landed_ledger (s : State) (t : Ticket) : (s.landed t).ledger = s.ledger := State.ledger_of_rest (s.landed_rest t)
@[simp] theorem State.landed_starts (s : State) (t : Ticket) : (s.landed t).starts = s.starts := State.starts_of_rest (s.landed_rest t)
@[simp] theorem State.landed_slices (s : State) (t : Ticket) : (s.landed t).slices = s.slices := State.slices_of_rest (s.landed_rest t)
@[simp] theorem State.landed_switches (s : State) (t : Ticket) : (s.landed t).switches = s.switches := State.switches_of_rest (s.landed_rest t)
@[simp] theorem State.landed_gov (s : State) (t : Ticket) : (s.landed t).gov = s.gov := State.gov_of_rest (s.landed_rest t)
@[simp] theorem State.landed_stops (s : State) (t : Ticket) : (s.landed t).stops = s.stops := State.stops_of_rest (s.landed_rest t)
@[simp] theorem State.landed_serac (s : State) (t : Ticket) : (s.landed t).serac = s.serac := State.serac_of_rest (s.landed_rest t)
@[simp] theorem State.landed_ky (s : State) (t : Ticket) : (s.landed t).ky = s.ky := State.ky_of_rest (s.landed_rest t)
@[simp] theorem State.landed_reader (s : State) (t : Ticket) : (s.landed t).reader = s.reader := State.reader_of_rest (s.landed_rest t)
@[simp] theorem State.landed_rime (s : State) (t : Ticket) : (s.landed t).rime = s.rime := State.rime_of_rest (s.landed_rest t)
@[simp] theorem State.landed_upd (s : State) (t : Ticket) : (s.landed t).upd = s.upd := State.upd_of_rest (s.landed_rest t)

@[simp] theorem State.writeCpl_pending (s : State) (c : Cpl) : (s.writeCpl c).pending = s.pending := State.pending_of_rest (s.writeCpl_rest c)
@[simp] theorem State.writeCpl_variant (s : State) (c : Cpl) : (s.writeCpl c).variant = s.variant := State.variant_of_rest (s.writeCpl_rest c)
@[simp] theorem State.writeCpl_stepping (s : State) (c : Cpl) : (s.writeCpl c).stepping = s.stepping := State.stepping_of_rest (s.writeCpl_rest c)
@[simp] theorem State.writeCpl_time (s : State) (c : Cpl) : (s.writeCpl c).time = s.time := State.time_of_rest (s.writeCpl_rest c)
@[simp] theorem State.writeCpl_devTime (s : State) (c : Cpl) : (s.writeCpl c).devTime = s.devTime := State.devTime_of_rest (s.writeCpl_rest c)
@[simp] theorem State.writeCpl_free (s : State) (c : Cpl) : (s.writeCpl c).free = s.free := State.free_of_rest (s.writeCpl_rest c)
@[simp] theorem State.writeCpl_mem (s : State) (c : Cpl) : (s.writeCpl c).mem = s.mem := State.mem_of_rest (s.writeCpl_rest c)
@[simp] theorem State.writeCpl_gather (s : State) (c : Cpl) : (s.writeCpl c).gather = s.gather := State.gather_of_rest (s.writeCpl_rest c)
@[simp] theorem State.writeCpl_mbx (s : State) (c : Cpl) : (s.writeCpl c).mbx = s.mbx := State.mbx_of_rest (s.writeCpl_rest c)
@[simp] theorem State.writeCpl_waits (s : State) (c : Cpl) : (s.writeCpl c).waits = s.waits := State.waits_of_rest (s.writeCpl_rest c)
@[simp] theorem State.writeCpl_power (s : State) (c : Cpl) : (s.writeCpl c).power = s.power := State.power_of_rest (s.writeCpl_rest c)
@[simp] theorem State.writeCpl_boot (s : State) (c : Cpl) : (s.writeCpl c).boot = s.boot := State.boot_of_rest (s.writeCpl_rest c)
@[simp] theorem State.writeCpl_pins (s : State) (c : Cpl) : (s.writeCpl c).pins = s.pins := State.pins_of_rest (s.writeCpl_rest c)
@[simp] theorem State.writeCpl_straps (s : State) (c : Cpl) : (s.writeCpl c).straps = s.straps := State.straps_of_rest (s.writeCpl_rest c)
@[simp] theorem State.writeCpl_mirror (s : State) (c : Cpl) : (s.writeCpl c).mirror = s.mirror := State.mirror_of_rest (s.writeCpl_rest c)
@[simp] theorem State.writeCpl_cfg (s : State) (c : Cpl) : (s.writeCpl c).cfg = s.cfg := State.cfg_of_rest (s.writeCpl_rest c)
@[simp] theorem State.writeCpl_timeSets (s : State) (c : Cpl) : (s.writeCpl c).timeSets = s.timeSets := State.timeSets_of_rest (s.writeCpl_rest c)
@[simp] theorem State.writeCpl_eth (s : State) (c : Cpl) : (s.writeCpl c).eth = s.eth := State.eth_of_rest (s.writeCpl_rest c)
@[simp] theorem State.writeCpl_eng (s : State) (c : Cpl) : (s.writeCpl c).eng = s.eng := State.eng_of_rest (s.writeCpl_rest c)
@[simp] theorem State.writeCpl_msgQueue (s : State) (c : Cpl) : (s.writeCpl c).msgQueue = s.msgQueue := State.msgQueue_of_rest (s.writeCpl_rest c)
@[simp] theorem State.writeCpl_mbxQueue (s : State) (c : Cpl) : (s.writeCpl c).mbxQueue = s.mbxQueue := State.mbxQueue_of_rest (s.writeCpl_rest c)
@[simp] theorem State.writeCpl_lateSeqs (s : State) (c : Cpl) : (s.writeCpl c).lateSeqs = s.lateSeqs := State.lateSeqs_of_rest (s.writeCpl_rest c)
@[simp] theorem State.writeCpl_orders (s : State) (c : Cpl) : (s.writeCpl c).orders = s.orders := State.orders_of_rest (s.writeCpl_rest c)
@[simp] theorem State.writeCpl_f0 (s : State) (c : Cpl) : (s.writeCpl c).f0 = s.f0 := State.f0_of_rest (s.writeCpl_rest c)
@[simp] theorem State.writeCpl_f1 (s : State) (c : Cpl) : (s.writeCpl c).f1 = s.f1 := State.f1_of_rest (s.writeCpl_rest c)
@[simp] theorem State.writeCpl_points (s : State) (c : Cpl) : (s.writeCpl c).points = s.points := State.points_of_rest (s.writeCpl_rest c)
@[simp] theorem State.writeCpl_prove (s : State) (c : Cpl) : (s.writeCpl c).prove = s.prove := State.prove_of_rest (s.writeCpl_rest c)
@[simp] theorem State.writeCpl_limits (s : State) (c : Cpl) : (s.writeCpl c).limits = s.limits := State.limits_of_rest (s.writeCpl_rest c)
@[simp] theorem State.writeCpl_disp (s : State) (c : Cpl) : (s.writeCpl c).disp = s.disp := State.disp_of_rest (s.writeCpl_rest c)
@[simp] theorem State.writeCpl_ledger (s : State) (c : Cpl) : (s.writeCpl c).ledger = s.ledger := State.ledger_of_rest (s.writeCpl_rest c)
@[simp] theorem State.writeCpl_starts (s : State) (c : Cpl) : (s.writeCpl c).starts = s.starts := State.starts_of_rest (s.writeCpl_rest c)
@[simp] theorem State.writeCpl_slices (s : State) (c : Cpl) : (s.writeCpl c).slices = s.slices := State.slices_of_rest (s.writeCpl_rest c)
@[simp] theorem State.writeCpl_switches (s : State) (c : Cpl) : (s.writeCpl c).switches = s.switches := State.switches_of_rest (s.writeCpl_rest c)
@[simp] theorem State.writeCpl_gov (s : State) (c : Cpl) : (s.writeCpl c).gov = s.gov := State.gov_of_rest (s.writeCpl_rest c)
@[simp] theorem State.writeCpl_stops (s : State) (c : Cpl) : (s.writeCpl c).stops = s.stops := State.stops_of_rest (s.writeCpl_rest c)
@[simp] theorem State.writeCpl_serac (s : State) (c : Cpl) : (s.writeCpl c).serac = s.serac := State.serac_of_rest (s.writeCpl_rest c)
@[simp] theorem State.writeCpl_ky (s : State) (c : Cpl) : (s.writeCpl c).ky = s.ky := State.ky_of_rest (s.writeCpl_rest c)
@[simp] theorem State.writeCpl_reader (s : State) (c : Cpl) : (s.writeCpl c).reader = s.reader := State.reader_of_rest (s.writeCpl_rest c)
@[simp] theorem State.writeCpl_rime (s : State) (c : Cpl) : (s.writeCpl c).rime = s.rime := State.rime_of_rest (s.writeCpl_rest c)
@[simp] theorem State.writeCpl_upd (s : State) (c : Cpl) : (s.writeCpl c).upd = s.upd := State.upd_of_rest (s.writeCpl_rest c)

@[simp] theorem State.releaseHeld_pending (s : State) (p : Port) : (s.releaseHeld p).pending = s.pending := State.pending_of_rest (s.releaseHeld_rest p)
@[simp] theorem State.releaseHeld_variant (s : State) (p : Port) : (s.releaseHeld p).variant = s.variant := State.variant_of_rest (s.releaseHeld_rest p)
@[simp] theorem State.releaseHeld_stepping (s : State) (p : Port) : (s.releaseHeld p).stepping = s.stepping := State.stepping_of_rest (s.releaseHeld_rest p)
@[simp] theorem State.releaseHeld_time (s : State) (p : Port) : (s.releaseHeld p).time = s.time := State.time_of_rest (s.releaseHeld_rest p)
@[simp] theorem State.releaseHeld_devTime (s : State) (p : Port) : (s.releaseHeld p).devTime = s.devTime := State.devTime_of_rest (s.releaseHeld_rest p)
@[simp] theorem State.releaseHeld_free (s : State) (p : Port) : (s.releaseHeld p).free = s.free := State.free_of_rest (s.releaseHeld_rest p)
@[simp] theorem State.releaseHeld_mem (s : State) (p : Port) : (s.releaseHeld p).mem = s.mem := State.mem_of_rest (s.releaseHeld_rest p)
@[simp] theorem State.releaseHeld_gather (s : State) (p : Port) : (s.releaseHeld p).gather = s.gather := State.gather_of_rest (s.releaseHeld_rest p)
@[simp] theorem State.releaseHeld_mbx (s : State) (p : Port) : (s.releaseHeld p).mbx = s.mbx := State.mbx_of_rest (s.releaseHeld_rest p)
@[simp] theorem State.releaseHeld_waits (s : State) (p : Port) : (s.releaseHeld p).waits = s.waits := State.waits_of_rest (s.releaseHeld_rest p)
@[simp] theorem State.releaseHeld_power (s : State) (p : Port) : (s.releaseHeld p).power = s.power := State.power_of_rest (s.releaseHeld_rest p)
@[simp] theorem State.releaseHeld_boot (s : State) (p : Port) : (s.releaseHeld p).boot = s.boot := State.boot_of_rest (s.releaseHeld_rest p)
@[simp] theorem State.releaseHeld_pins (s : State) (p : Port) : (s.releaseHeld p).pins = s.pins := State.pins_of_rest (s.releaseHeld_rest p)
@[simp] theorem State.releaseHeld_straps (s : State) (p : Port) : (s.releaseHeld p).straps = s.straps := State.straps_of_rest (s.releaseHeld_rest p)
@[simp] theorem State.releaseHeld_mirror (s : State) (p : Port) : (s.releaseHeld p).mirror = s.mirror := State.mirror_of_rest (s.releaseHeld_rest p)
@[simp] theorem State.releaseHeld_cfg (s : State) (p : Port) : (s.releaseHeld p).cfg = s.cfg := State.cfg_of_rest (s.releaseHeld_rest p)
@[simp] theorem State.releaseHeld_timeSets (s : State) (p : Port) : (s.releaseHeld p).timeSets = s.timeSets := State.timeSets_of_rest (s.releaseHeld_rest p)
@[simp] theorem State.releaseHeld_eth (s : State) (p : Port) : (s.releaseHeld p).eth = s.eth := State.eth_of_rest (s.releaseHeld_rest p)
@[simp] theorem State.releaseHeld_eng (s : State) (p : Port) : (s.releaseHeld p).eng = s.eng := State.eng_of_rest (s.releaseHeld_rest p)
@[simp] theorem State.releaseHeld_msgQueue (s : State) (p : Port) : (s.releaseHeld p).msgQueue = s.msgQueue := State.msgQueue_of_rest (s.releaseHeld_rest p)
@[simp] theorem State.releaseHeld_mbxQueue (s : State) (p : Port) : (s.releaseHeld p).mbxQueue = s.mbxQueue := State.mbxQueue_of_rest (s.releaseHeld_rest p)
@[simp] theorem State.releaseHeld_lateSeqs (s : State) (p : Port) : (s.releaseHeld p).lateSeqs = s.lateSeqs := State.lateSeqs_of_rest (s.releaseHeld_rest p)
@[simp] theorem State.releaseHeld_orders (s : State) (p : Port) : (s.releaseHeld p).orders = s.orders := State.orders_of_rest (s.releaseHeld_rest p)
@[simp] theorem State.releaseHeld_f0 (s : State) (p : Port) : (s.releaseHeld p).f0 = s.f0 := State.f0_of_rest (s.releaseHeld_rest p)
@[simp] theorem State.releaseHeld_f1 (s : State) (p : Port) : (s.releaseHeld p).f1 = s.f1 := State.f1_of_rest (s.releaseHeld_rest p)
@[simp] theorem State.releaseHeld_points (s : State) (p : Port) : (s.releaseHeld p).points = s.points := State.points_of_rest (s.releaseHeld_rest p)
@[simp] theorem State.releaseHeld_prove (s : State) (p : Port) : (s.releaseHeld p).prove = s.prove := State.prove_of_rest (s.releaseHeld_rest p)
@[simp] theorem State.releaseHeld_limits (s : State) (p : Port) : (s.releaseHeld p).limits = s.limits := State.limits_of_rest (s.releaseHeld_rest p)
@[simp] theorem State.releaseHeld_disp (s : State) (p : Port) : (s.releaseHeld p).disp = s.disp := State.disp_of_rest (s.releaseHeld_rest p)
@[simp] theorem State.releaseHeld_ledger (s : State) (p : Port) : (s.releaseHeld p).ledger = s.ledger := State.ledger_of_rest (s.releaseHeld_rest p)
@[simp] theorem State.releaseHeld_starts (s : State) (p : Port) : (s.releaseHeld p).starts = s.starts := State.starts_of_rest (s.releaseHeld_rest p)
@[simp] theorem State.releaseHeld_slices (s : State) (p : Port) : (s.releaseHeld p).slices = s.slices := State.slices_of_rest (s.releaseHeld_rest p)
@[simp] theorem State.releaseHeld_switches (s : State) (p : Port) : (s.releaseHeld p).switches = s.switches := State.switches_of_rest (s.releaseHeld_rest p)
@[simp] theorem State.releaseHeld_gov (s : State) (p : Port) : (s.releaseHeld p).gov = s.gov := State.gov_of_rest (s.releaseHeld_rest p)
@[simp] theorem State.releaseHeld_stops (s : State) (p : Port) : (s.releaseHeld p).stops = s.stops := State.stops_of_rest (s.releaseHeld_rest p)
@[simp] theorem State.releaseHeld_serac (s : State) (p : Port) : (s.releaseHeld p).serac = s.serac := State.serac_of_rest (s.releaseHeld_rest p)
@[simp] theorem State.releaseHeld_ky (s : State) (p : Port) : (s.releaseHeld p).ky = s.ky := State.ky_of_rest (s.releaseHeld_rest p)
@[simp] theorem State.releaseHeld_reader (s : State) (p : Port) : (s.releaseHeld p).reader = s.reader := State.reader_of_rest (s.releaseHeld_rest p)
@[simp] theorem State.releaseHeld_rime (s : State) (p : Port) : (s.releaseHeld p).rime = s.rime := State.rime_of_rest (s.releaseHeld_rest p)
@[simp] theorem State.releaseHeld_upd (s : State) (p : Port) : (s.releaseHeld p).upd = s.upd := State.upd_of_rest (s.releaseHeld_rest p)

@[simp] theorem State.crossingFailed_pending (s : State) (a b c : Nat) (o : Bool) : (s.crossingFailed a b c o).pending = s.pending := State.pending_of_rest (s.crossingFailed_rest a b c o)
@[simp] theorem State.crossingFailed_variant (s : State) (a b c : Nat) (o : Bool) : (s.crossingFailed a b c o).variant = s.variant := State.variant_of_rest (s.crossingFailed_rest a b c o)
@[simp] theorem State.crossingFailed_stepping (s : State) (a b c : Nat) (o : Bool) : (s.crossingFailed a b c o).stepping = s.stepping := State.stepping_of_rest (s.crossingFailed_rest a b c o)
@[simp] theorem State.crossingFailed_time (s : State) (a b c : Nat) (o : Bool) : (s.crossingFailed a b c o).time = s.time := State.time_of_rest (s.crossingFailed_rest a b c o)
@[simp] theorem State.crossingFailed_devTime (s : State) (a b c : Nat) (o : Bool) : (s.crossingFailed a b c o).devTime = s.devTime := State.devTime_of_rest (s.crossingFailed_rest a b c o)
@[simp] theorem State.crossingFailed_free (s : State) (a b c : Nat) (o : Bool) : (s.crossingFailed a b c o).free = s.free := State.free_of_rest (s.crossingFailed_rest a b c o)
@[simp] theorem State.crossingFailed_mem (s : State) (a b c : Nat) (o : Bool) : (s.crossingFailed a b c o).mem = s.mem := State.mem_of_rest (s.crossingFailed_rest a b c o)
@[simp] theorem State.crossingFailed_gather (s : State) (a b c : Nat) (o : Bool) : (s.crossingFailed a b c o).gather = s.gather := State.gather_of_rest (s.crossingFailed_rest a b c o)
@[simp] theorem State.crossingFailed_mbx (s : State) (a b c : Nat) (o : Bool) : (s.crossingFailed a b c o).mbx = s.mbx := State.mbx_of_rest (s.crossingFailed_rest a b c o)
@[simp] theorem State.crossingFailed_waits (s : State) (a b c : Nat) (o : Bool) : (s.crossingFailed a b c o).waits = s.waits := State.waits_of_rest (s.crossingFailed_rest a b c o)
@[simp] theorem State.crossingFailed_power (s : State) (a b c : Nat) (o : Bool) : (s.crossingFailed a b c o).power = s.power := State.power_of_rest (s.crossingFailed_rest a b c o)
@[simp] theorem State.crossingFailed_boot (s : State) (a b c : Nat) (o : Bool) : (s.crossingFailed a b c o).boot = s.boot := State.boot_of_rest (s.crossingFailed_rest a b c o)
@[simp] theorem State.crossingFailed_pins (s : State) (a b c : Nat) (o : Bool) : (s.crossingFailed a b c o).pins = s.pins := State.pins_of_rest (s.crossingFailed_rest a b c o)
@[simp] theorem State.crossingFailed_straps (s : State) (a b c : Nat) (o : Bool) : (s.crossingFailed a b c o).straps = s.straps := State.straps_of_rest (s.crossingFailed_rest a b c o)
@[simp] theorem State.crossingFailed_mirror (s : State) (a b c : Nat) (o : Bool) : (s.crossingFailed a b c o).mirror = s.mirror := State.mirror_of_rest (s.crossingFailed_rest a b c o)
@[simp] theorem State.crossingFailed_cfg (s : State) (a b c : Nat) (o : Bool) : (s.crossingFailed a b c o).cfg = s.cfg := State.cfg_of_rest (s.crossingFailed_rest a b c o)
@[simp] theorem State.crossingFailed_timeSets (s : State) (a b c : Nat) (o : Bool) : (s.crossingFailed a b c o).timeSets = s.timeSets := State.timeSets_of_rest (s.crossingFailed_rest a b c o)
@[simp] theorem State.crossingFailed_eth (s : State) (a b c : Nat) (o : Bool) : (s.crossingFailed a b c o).eth = s.eth := State.eth_of_rest (s.crossingFailed_rest a b c o)
@[simp] theorem State.crossingFailed_eng (s : State) (a b c : Nat) (o : Bool) : (s.crossingFailed a b c o).eng = s.eng := State.eng_of_rest (s.crossingFailed_rest a b c o)
@[simp] theorem State.crossingFailed_msgQueue (s : State) (a b c : Nat) (o : Bool) : (s.crossingFailed a b c o).msgQueue = s.msgQueue := State.msgQueue_of_rest (s.crossingFailed_rest a b c o)
@[simp] theorem State.crossingFailed_mbxQueue (s : State) (a b c : Nat) (o : Bool) : (s.crossingFailed a b c o).mbxQueue = s.mbxQueue := State.mbxQueue_of_rest (s.crossingFailed_rest a b c o)
@[simp] theorem State.crossingFailed_lateSeqs (s : State) (a b c : Nat) (o : Bool) : (s.crossingFailed a b c o).lateSeqs = s.lateSeqs := State.lateSeqs_of_rest (s.crossingFailed_rest a b c o)
@[simp] theorem State.crossingFailed_orders (s : State) (a b c : Nat) (o : Bool) : (s.crossingFailed a b c o).orders = s.orders := State.orders_of_rest (s.crossingFailed_rest a b c o)
@[simp] theorem State.crossingFailed_f0 (s : State) (a b c : Nat) (o : Bool) : (s.crossingFailed a b c o).f0 = s.f0 := State.f0_of_rest (s.crossingFailed_rest a b c o)
@[simp] theorem State.crossingFailed_f1 (s : State) (a b c : Nat) (o : Bool) : (s.crossingFailed a b c o).f1 = s.f1 := State.f1_of_rest (s.crossingFailed_rest a b c o)
@[simp] theorem State.crossingFailed_points (s : State) (a b c : Nat) (o : Bool) : (s.crossingFailed a b c o).points = s.points := State.points_of_rest (s.crossingFailed_rest a b c o)
@[simp] theorem State.crossingFailed_prove (s : State) (a b c : Nat) (o : Bool) : (s.crossingFailed a b c o).prove = s.prove := State.prove_of_rest (s.crossingFailed_rest a b c o)
@[simp] theorem State.crossingFailed_limits (s : State) (a b c : Nat) (o : Bool) : (s.crossingFailed a b c o).limits = s.limits := State.limits_of_rest (s.crossingFailed_rest a b c o)
@[simp] theorem State.crossingFailed_disp (s : State) (a b c : Nat) (o : Bool) : (s.crossingFailed a b c o).disp = s.disp := State.disp_of_rest (s.crossingFailed_rest a b c o)
@[simp] theorem State.crossingFailed_ledger (s : State) (a b c : Nat) (o : Bool) : (s.crossingFailed a b c o).ledger = s.ledger := State.ledger_of_rest (s.crossingFailed_rest a b c o)
@[simp] theorem State.crossingFailed_starts (s : State) (a b c : Nat) (o : Bool) : (s.crossingFailed a b c o).starts = s.starts := State.starts_of_rest (s.crossingFailed_rest a b c o)
@[simp] theorem State.crossingFailed_slices (s : State) (a b c : Nat) (o : Bool) : (s.crossingFailed a b c o).slices = s.slices := State.slices_of_rest (s.crossingFailed_rest a b c o)
@[simp] theorem State.crossingFailed_switches (s : State) (a b c : Nat) (o : Bool) : (s.crossingFailed a b c o).switches = s.switches := State.switches_of_rest (s.crossingFailed_rest a b c o)
@[simp] theorem State.crossingFailed_gov (s : State) (a b c : Nat) (o : Bool) : (s.crossingFailed a b c o).gov = s.gov := State.gov_of_rest (s.crossingFailed_rest a b c o)
@[simp] theorem State.crossingFailed_stops (s : State) (a b c : Nat) (o : Bool) : (s.crossingFailed a b c o).stops = s.stops := State.stops_of_rest (s.crossingFailed_rest a b c o)
@[simp] theorem State.crossingFailed_serac (s : State) (a b c : Nat) (o : Bool) : (s.crossingFailed a b c o).serac = s.serac := State.serac_of_rest (s.crossingFailed_rest a b c o)
@[simp] theorem State.crossingFailed_ky (s : State) (a b c : Nat) (o : Bool) : (s.crossingFailed a b c o).ky = s.ky := State.ky_of_rest (s.crossingFailed_rest a b c o)
@[simp] theorem State.crossingFailed_reader (s : State) (a b c : Nat) (o : Bool) : (s.crossingFailed a b c o).reader = s.reader := State.reader_of_rest (s.crossingFailed_rest a b c o)
@[simp] theorem State.crossingFailed_rime (s : State) (a b c : Nat) (o : Bool) : (s.crossingFailed a b c o).rime = s.rime := State.rime_of_rest (s.crossingFailed_rest a b c o)
@[simp] theorem State.crossingFailed_upd (s : State) (a b c : Nat) (o : Bool) : (s.crossingFailed a b c o).upd = s.upd := State.upd_of_rest (s.crossingFailed_rest a b c o)

@[simp] theorem State.complete_pending (s : State) (c : Cpl) : (s.complete c).pending = s.pending := State.pending_of_rest2 (s.complete_rest2 c)
@[simp] theorem State.complete_variant (s : State) (c : Cpl) : (s.complete c).variant = s.variant := State.variant_of_rest2 (s.complete_rest2 c)
@[simp] theorem State.complete_stepping (s : State) (c : Cpl) : (s.complete c).stepping = s.stepping := State.stepping_of_rest2 (s.complete_rest2 c)
@[simp] theorem State.complete_time (s : State) (c : Cpl) : (s.complete c).time = s.time := State.time_of_rest2 (s.complete_rest2 c)
@[simp] theorem State.complete_devTime (s : State) (c : Cpl) : (s.complete c).devTime = s.devTime := State.devTime_of_rest2 (s.complete_rest2 c)
@[simp] theorem State.complete_free (s : State) (c : Cpl) : (s.complete c).free = s.free := State.free_of_rest2 (s.complete_rest2 c)
@[simp] theorem State.complete_mem (s : State) (c : Cpl) : (s.complete c).mem = s.mem := State.mem_of_rest2 (s.complete_rest2 c)
@[simp] theorem State.complete_gather (s : State) (c : Cpl) : (s.complete c).gather = s.gather := State.gather_of_rest2 (s.complete_rest2 c)
@[simp] theorem State.complete_mbx (s : State) (c : Cpl) : (s.complete c).mbx = s.mbx := State.mbx_of_rest2 (s.complete_rest2 c)
@[simp] theorem State.complete_waits (s : State) (c : Cpl) : (s.complete c).waits = s.waits := State.waits_of_rest2 (s.complete_rest2 c)
@[simp] theorem State.complete_power (s : State) (c : Cpl) : (s.complete c).power = s.power := State.power_of_rest2 (s.complete_rest2 c)
@[simp] theorem State.complete_boot (s : State) (c : Cpl) : (s.complete c).boot = s.boot := State.boot_of_rest2 (s.complete_rest2 c)
@[simp] theorem State.complete_pins (s : State) (c : Cpl) : (s.complete c).pins = s.pins := State.pins_of_rest2 (s.complete_rest2 c)
@[simp] theorem State.complete_straps (s : State) (c : Cpl) : (s.complete c).straps = s.straps := State.straps_of_rest2 (s.complete_rest2 c)
@[simp] theorem State.complete_mirror (s : State) (c : Cpl) : (s.complete c).mirror = s.mirror := State.mirror_of_rest2 (s.complete_rest2 c)
@[simp] theorem State.complete_cfg (s : State) (c : Cpl) : (s.complete c).cfg = s.cfg := State.cfg_of_rest2 (s.complete_rest2 c)
@[simp] theorem State.complete_timeSets (s : State) (c : Cpl) : (s.complete c).timeSets = s.timeSets := State.timeSets_of_rest2 (s.complete_rest2 c)
@[simp] theorem State.complete_eth (s : State) (c : Cpl) : (s.complete c).eth = s.eth := State.eth_of_rest2 (s.complete_rest2 c)
@[simp] theorem State.complete_eng (s : State) (c : Cpl) : (s.complete c).eng = s.eng := State.eng_of_rest2 (s.complete_rest2 c)
@[simp] theorem State.complete_msgQueue (s : State) (c : Cpl) : (s.complete c).msgQueue = s.msgQueue := State.msgQueue_of_rest2 (s.complete_rest2 c)
@[simp] theorem State.complete_mbxQueue (s : State) (c : Cpl) : (s.complete c).mbxQueue = s.mbxQueue := State.mbxQueue_of_rest2 (s.complete_rest2 c)
@[simp] theorem State.complete_lateSeqs (s : State) (c : Cpl) : (s.complete c).lateSeqs = s.lateSeqs := State.lateSeqs_of_rest2 (s.complete_rest2 c)
@[simp] theorem State.complete_orders (s : State) (c : Cpl) : (s.complete c).orders = s.orders := State.orders_of_rest2 (s.complete_rest2 c)
@[simp] theorem State.complete_f0 (s : State) (c : Cpl) : (s.complete c).f0 = s.f0 := State.f0_of_rest2 (s.complete_rest2 c)
@[simp] theorem State.complete_f1 (s : State) (c : Cpl) : (s.complete c).f1 = s.f1 := State.f1_of_rest2 (s.complete_rest2 c)
@[simp] theorem State.complete_points (s : State) (c : Cpl) : (s.complete c).points = s.points := State.points_of_rest2 (s.complete_rest2 c)
@[simp] theorem State.complete_prove (s : State) (c : Cpl) : (s.complete c).prove = s.prove := State.prove_of_rest2 (s.complete_rest2 c)
@[simp] theorem State.complete_limits (s : State) (c : Cpl) : (s.complete c).limits = s.limits := State.limits_of_rest2 (s.complete_rest2 c)
@[simp] theorem State.complete_disp (s : State) (c : Cpl) : (s.complete c).disp = s.disp := State.disp_of_rest2 (s.complete_rest2 c)
@[simp] theorem State.complete_ledger (s : State) (c : Cpl) : (s.complete c).ledger = s.ledger := State.ledger_of_rest2 (s.complete_rest2 c)
@[simp] theorem State.complete_starts (s : State) (c : Cpl) : (s.complete c).starts = s.starts := State.starts_of_rest2 (s.complete_rest2 c)
@[simp] theorem State.complete_slices (s : State) (c : Cpl) : (s.complete c).slices = s.slices := State.slices_of_rest2 (s.complete_rest2 c)
@[simp] theorem State.complete_switches (s : State) (c : Cpl) : (s.complete c).switches = s.switches := State.switches_of_rest2 (s.complete_rest2 c)
@[simp] theorem State.complete_gov (s : State) (c : Cpl) : (s.complete c).gov = s.gov := State.gov_of_rest2 (s.complete_rest2 c)
@[simp] theorem State.complete_stops (s : State) (c : Cpl) : (s.complete c).stops = s.stops := State.stops_of_rest2 (s.complete_rest2 c)
@[simp] theorem State.complete_serac (s : State) (c : Cpl) : (s.complete c).serac = s.serac := State.serac_of_rest2 (s.complete_rest2 c)
@[simp] theorem State.complete_reader (s : State) (c : Cpl) : (s.complete c).reader = s.reader := State.reader_of_rest2 (s.complete_rest2 c)
@[simp] theorem State.complete_rime (s : State) (c : Cpl) : (s.complete c).rime = s.rime := State.rime_of_rest2 (s.complete_rest2 c)
@[simp] theorem State.complete_upd (s : State) (c : Cpl) : (s.complete c).upd = s.upd := State.upd_of_rest2 (s.complete_rest2 c)

end Sys2Proof.Machine
end

