-- ==== Sys2Proof/Laws/PostRegs.lean ====
section
/-!
SUPPORT. Laws/PostRegs.lean: entries, events and completions write no registers but the host ports' own and PWR_WAKE_SRC.
-/
namespace Sys2Proof.Machine

/-- A register that no entry, event or completion writes. -/
def plainReg (r : Reg) : Bool :=
  decide (r ≠ .HOST_EVT_LOST) && decide (r ≠ .HOST_ERR) && decide (r ≠ .HOST_STATUS) && decide (r ≠ .PWR_WAKE_SRC)

/-- Two states agree on every plain register. -/
def State.sameRegs (s t : State) : Prop := ∀ r i, plainReg r = true → t.reg r i = s.reg r i

theorem State.sameRegs_rfl (s : State) : s.sameRegs s := fun _ _ _ => rfl

theorem State.sameRegs_trans {s t u : State} (h : s.sameRegs t) (k : t.sameRegs u) : s.sameRegs u :=
  fun r i hr => (k r i hr).trans (h r i hr)

theorem State.sameRegs_of_regs {s t : State} (h : t.regs = s.regs) : s.sameRegs t := fun r i _ => by simp [State.reg, h]

theorem State.sameRegs_setReg (s : State) {q : Reg} (i : Nat) (v : W32) (h : plainReg q = false) : s.sameRegs (s.setReg q i v) := by
  intro r j hr
  apply State.reg_setReg_ne
  intro e; subst e; simp [h] at hr

theorem State.sameRegs_put (s : State) {f : Fld} (i v : Nat) (h : plainReg f.reg = false) : s.sameRegs (s.put f i v) :=
  s.sameRegs_setReg i _ h

theorem State.sameRegs_setHost (s : State) (p : Port) (h : HostSt) : s.sameRegs (s.setHost p h) :=
  State.sameRegs_of_regs (by cases p <;> rfl)

theorem State.sendMsix_same (s : State) (p : Port) (v : Nat) : s.sameRegs (s.sendMsix p v) := by
  apply State.sameRegs_of_regs
  simp only [State.sendMsix]; split
  · rfl
  · cases p <;> rfl

theorem State.signal_same (s : State) (p : Port) (v : Nat) : s.sameRegs (s.signal p v) :=
  State.sameRegs_trans (State.sameRegs_setHost _ _ _) (State.sendMsix_same _ _ _)

theorem State.writeEntry_same (s : State) (p : Port) (c : Nat) (e : Entry) (b : Bool) : s.sameRegs (s.writeEntry p c e b) := by
  have h : ∀ r o, s.sameRegs ((s.setCq p c r).emit o) := fun r o => State.sameRegs_of_regs (by cases p <;> rfl)
  simp only [State.writeEntry]; split
  · exact State.sameRegs_trans (h _ _) (State.signal_same _ _ _)
  · exact h _ _

theorem State.loseEvent_same (s : State) (p : Port) : s.sameRegs (s.loseEvent p) :=
  State.sameRegs_trans (State.sameRegs_put s _ _ (by decide))
    (State.sameRegs_trans (State.sameRegs_put _ _ _ (by decide)) (State.sameRegs_setHost _ _ _))

theorem State.reportLost_same (s : State) (p : Port) : s.sameRegs (s.reportLost p) := by
  simp only [State.reportLost]; split
  · exact State.sameRegs_rfl _
  · exact State.sameRegs_trans (State.sameRegs_setHost _ _ _) (State.writeEntry_same _ _ _ _ _)

theorem State.sameRegs_foldl {α : Type} (g : State → α → State) (h : ∀ (s : State) (a : α), s.sameRegs (g s a)) :
    ∀ (l : List α) (s : State), s.sameRegs (l.foldl g s)
  | [], s => State.sameRegs_rfl s
  | a :: r, s => State.sameRegs_trans (h s a) (State.sameRegs_foldl g h r (g s a))

theorem State.entryNow_same (s : State) (p : Port) (x : Nat × Entry) : s.sameRegs (s.entryNow p x) := by
  simp only [State.entryNow]
  split
  · exact State.sameRegs_rfl _
  · refine State.sameRegs_trans (State.reportLost_same s p) ?_
    split
    · exact State.sameRegs_setHost _ _ _
    · split
      · exact State.loseEvent_same _ _
      · split
        · exact State.sameRegs_setHost _ _ _
        · exact State.writeEntry_same _ _ _ _ _

theorem State.flushReady_same (s : State) : s.sameRegs s.flushReady := by
  have h : s.sameRegs { s with ready := [] } := State.sameRegs_of_regs rfl
  simp only [State.flushReady]
  exact State.sameRegs_trans h (State.sameRegs_foldl (fun s (x : Nat × (Port × (Nat × Entry))) => s.entryNow x.2.1 x.2.2)
    (fun s x => State.entryNow_same s x.2.1 x.2.2) _ _)

theorem State.entryFrom_same (s : State) (k : Nat) (p : Port) (x : Nat × Entry) : s.sameRegs (s.entryFrom k p x) := by
  simp only [State.entryFrom]
  split
  · exact State.entryNow_same _ _ _
  · split <;> exact State.sameRegs_of_regs rfl

theorem State.entryTo_same (s : State) (p : Port) (x : Nat × Entry) : s.sameRegs (s.entryTo p x) := State.entryFrom_same _ _ _ _

theorem State.entryRoute_same (s : State) (k : Nat) (p : Option Port) (x : Nat × Entry) : s.sameRegs (s.entryRoute k p x) := by
  unfold State.entryRoute
  split
  · exact State.sameRegs_trans (State.entryFrom_same _ _ _ _) (State.entryFrom_same _ _ _ _)
  · simp only []; split
    · exact State.sameRegs_trans (State.entryFrom_same _ _ _ _) (State.entryFrom_same _ _ _ _)
    · exact State.entryFrom_same _ _ _ _

theorem State.eventTo_same (s : State) (p : Port) (e : Event) : s.sameRegs (s.eventTo p e) := State.entryTo_same _ _ _

theorem State.wakeSource_same (s : State) (n : Nat) : s.sameRegs (s.wakeSource n) := State.sameRegs_put _ _ _ (by decide)

theorem State.postBoth_same (s : State) (e : Event) : s.sameRegs (s.postBoth e) :=
  State.sameRegs_trans (State.eventTo_same _ _ _) (State.eventTo_same _ _ _)

theorem State.postTo_same (s : State) (p : Port) (e : Event) : s.sameRegs (s.postTo p e) := by
  simp only [State.postTo]; split
  · exact State.sameRegs_trans (State.eventTo_same _ _ _) (State.eventTo_same _ _ _)
  · exact State.eventTo_same _ _ _

theorem State.postPoint_same (s : State) (p : Nat) (e : Event) : s.sameRegs (s.postPoint p e) := State.postTo_same _ _ _
theorem State.postAnt_same (s : State) (p : Nat) (e : Event) : s.sameRegs (s.postAnt p e) := State.postTo_same _ _ _
theorem State.postSlice_same (s : State) (p : Nat) (e : Event) : s.sameRegs (s.postSlice p e) :=
  State.sameRegs_trans (State.wakeSource_same _ _) (State.postTo_same _ _ _)
theorem State.postSwitch_same (s : State) (p : Nat) (e : Event) : s.sameRegs (s.postSwitch p e) :=
  State.sameRegs_trans (State.wakeSource_same _ _) (State.postTo_same _ _ _)

theorem State.drained_same (s : State) (p : Port) : s.sameRegs (s.drained p) := State.sameRegs_put _ _ _ (by decide)

theorem State.landed_same (s : State) (t : Ticket) : s.sameRegs (s.landed t) := by
  simp only [State.landed]
  refine State.sameRegs_trans ?_ (State.drained_same _ _)
  split
  · exact State.sameRegs_trans (State.sameRegs_setHost _ _ _) (State.sameRegs_put _ _ _ (by decide))
  · exact State.sameRegs_put _ _ _ (by decide)

theorem State.writeCpl_same (s : State) (c : Cpl) : s.sameRegs (s.writeCpl c) := by
  simp only [State.writeCpl]; split
  · exact State.writeEntry_same _ _ _ _ _
  · exact State.sameRegs_rfl _

theorem State.stickyOf_same (s : State) (p : Port) (n : Nat) : s.sameRegs (s.stickyOf p n) := by
  simp only [State.stickyOf]
  split_ifs
  · exact State.sameRegs_put _ _ _ (by decide)
  · exact State.sameRegs_put _ _ _ (by decide)
  · exact State.sameRegs_put _ _ _ (by decide)
  · exact State.sameRegs_rfl _

theorem State.complete_same (s : State) (c : Cpl) : s.sameRegs (s.complete c) := by
  have h1 : ∀ u : State, u.sameRegs (if c.more = true then u else u.landed c.t) := by
    intro u; split
    · exact State.sameRegs_rfl _
    · exact State.landed_same _ _
  have h2 : ∀ u : State, u.sameRegs (if u.ready.isEmpty = true then u else u.flushReady) := by
    intro u; split
    · exact State.sameRegs_rfl _
    · exact State.flushReady_same _
  have h3 : ∀ u : State, u.sameRegs (if c.t.epoch ≠ (u.host c.t.port).epoch then u
      else if (u.host c.t.port).holds = true then u.setHost c.t.port { u.host c.t.port with held := (u.host c.t.port).held ++ [c] }
      else u.writeCpl c) := by
    intro u; split
    · exact State.sameRegs_rfl _
    · split
      · exact State.sameRegs_setHost _ _ _
      · exact State.writeCpl_same _ _
  unfold State.complete
  split
  · split
    · exact State.sameRegs_rfl _
    · exact State.sameRegs_trans (State.sameRegs_of_regs rfl) (State.postTo_same _ _ _)
  · exact State.sameRegs_trans (h2 s) (State.sameRegs_trans (State.stickyOf_same _ _ _) (State.sameRegs_trans (h3 _) (h1 _)))

theorem State.get_of_same {s t : State} (h : s.sameRegs t) (f : Fld) (i : Nat) (hr : plainReg f.reg = true) : t.get f i = s.get f i := by
  simp [State.get, h _ _ hr]

theorem State.postBoth_get (s : State) (e : Event) {f : Fld} (i : Nat) (h : plainReg f.reg = true) :
    (s.postBoth e).get f i = s.get f i := State.get_of_same (State.postBoth_same _ _) f i h
theorem State.postTo_get (s : State) (p : Port) (e : Event) {f : Fld} (i : Nat) (h : plainReg f.reg = true) :
    (s.postTo p e).get f i = s.get f i := State.get_of_same (State.postTo_same _ _ _) f i h
theorem State.postPoint_get (s : State) (p : Nat) (e : Event) {f : Fld} (i : Nat) (h : plainReg f.reg = true) :
    (s.postPoint p e).get f i = s.get f i := State.get_of_same (State.postPoint_same _ _ _) f i h
theorem State.postSlice_get (s : State) (p : Nat) (e : Event) {f : Fld} (i : Nat) (h : plainReg f.reg = true) :
    (s.postSlice p e).get f i = s.get f i := State.get_of_same (State.postSlice_same _ _ _) f i h
theorem State.postSwitch_get (s : State) (p : Nat) (e : Event) {f : Fld} (i : Nat) (h : plainReg f.reg = true) :
    (s.postSwitch p e).get f i = s.get f i := State.get_of_same (State.postSwitch_same _ _ _) f i h
theorem State.postAnt_get (s : State) (p : Nat) (e : Event) {f : Fld} (i : Nat) (h : plainReg f.reg = true) :
    (s.postAnt p e).get f i = s.get f i := State.get_of_same (State.postAnt_same _ _ _) f i h
theorem State.wakeSource_get (s : State) (n : Nat) {f : Fld} (i : Nat) (h : plainReg f.reg = true) :
    (s.wakeSource n).get f i = s.get f i := State.get_of_same (State.wakeSource_same _ _) f i h
theorem State.complete_get (s : State) (c : Cpl) {f : Fld} (i : Nat) (h : plainReg f.reg = true) :
    (s.complete c).get f i = s.get f i := State.get_of_same (State.complete_same _ _) f i h

end Sys2Proof.Machine
end

