-- ==== Sys2Proof/Laws/Units.lean ====
section
/-!
SUPPORT. Laws/Units.lean: an update of a structure of State leaves every register and field as it is.
-/
namespace Sys2Proof.Machine

@[simp] theorem State.setMem_reg (s : State) (m : List Host.Cell) (q : Reg) (j : Nat) : (s.setMem m).reg q j = s.reg q j := State.reg_congr _ _ rfl
@[simp] theorem State.setMem_get (s : State) (m : List Host.Cell) (g : Fld) (j : Nat) : (s.setMem m).get g j = s.get g j := State.get_congr _ _ rfl
@[simp] theorem State.setMem_flag (s : State) (m : List Host.Cell) (g : Fld) (j : Nat) : (s.setMem m).flag g j = s.flag g j := by simp [State.flag]
@[simp] theorem State.emit_reg (s : State) (o : Out) (q : Reg) (j : Nat) : (s.emit o).reg q j = s.reg q j := State.reg_congr _ _ rfl
@[simp] theorem State.emit_get (s : State) (o : Out) (g : Fld) (j : Nat) : (s.emit o).get g j = s.get g j := State.get_congr _ _ rfl
@[simp] theorem State.emit_flag (s : State) (o : Out) (g : Fld) (j : Nat) : (s.emit o).flag g j = s.flag g j := by simp [State.flag]
@[simp] theorem State.setPower_reg (s : State) (x : PowerSt) (q : Reg) (j : Nat) : (s.setPower x).reg q j = s.reg q j := State.reg_congr _ _ rfl
@[simp] theorem State.setPower_get (s : State) (x : PowerSt) (g : Fld) (j : Nat) : (s.setPower x).get g j = s.get g j := State.get_congr _ _ rfl
@[simp] theorem State.setPower_flag (s : State) (x : PowerSt) (g : Fld) (j : Nat) : (s.setPower x).flag g j = s.flag g j := by simp [State.flag]
@[simp] theorem State.setBoot_reg (s : State) (x : BootSt) (q : Reg) (j : Nat) : (s.setBoot x).reg q j = s.reg q j := State.reg_congr _ _ rfl
@[simp] theorem State.setBoot_get (s : State) (x : BootSt) (g : Fld) (j : Nat) : (s.setBoot x).get g j = s.get g j := State.get_congr _ _ rfl
@[simp] theorem State.setBoot_flag (s : State) (x : BootSt) (g : Fld) (j : Nat) : (s.setBoot x).flag g j = s.flag g j := by simp [State.flag]
@[simp] theorem State.setMp_reg (s : State) (p : Nat) (x : MpSt) (q : Reg) (j : Nat) : (s.setMp p x).reg q j = s.reg q j := State.reg_congr _ _ rfl
@[simp] theorem State.setMp_get (s : State) (p : Nat) (x : MpSt) (g : Fld) (j : Nat) : (s.setMp p x).get g j = s.get g j := State.get_congr _ _ rfl
@[simp] theorem State.setMp_flag (s : State) (p : Nat) (x : MpSt) (g : Fld) (j : Nat) : (s.setMp p x).flag g j = s.flag g j := by simp [State.flag]
@[simp] theorem State.setDisp_reg (s : State) (x : DispSt) (q : Reg) (j : Nat) : (s.setDisp x).reg q j = s.reg q j := State.reg_congr _ _ rfl
@[simp] theorem State.setDisp_get (s : State) (x : DispSt) (g : Fld) (j : Nat) : (s.setDisp x).get g j = s.get g j := State.get_congr _ _ rfl
@[simp] theorem State.setDisp_flag (s : State) (x : DispSt) (g : Fld) (j : Nat) : (s.setDisp x).flag g j = s.flag g j := by simp [State.flag]
@[simp] theorem State.setLedger_reg (s : State) (x : LedgerSt) (q : Reg) (j : Nat) : (s.setLedger x).reg q j = s.reg q j := State.reg_congr _ _ rfl
@[simp] theorem State.setLedger_get (s : State) (x : LedgerSt) (g : Fld) (j : Nat) : (s.setLedger x).get g j = s.get g j := State.get_congr _ _ rfl
@[simp] theorem State.setLedger_flag (s : State) (x : LedgerSt) (g : Fld) (j : Nat) : (s.setLedger x).flag g j = s.flag g j := by simp [State.flag]
@[simp] theorem State.setSlice_reg (s : State) (i : Nat) (x : SliceSt) (q : Reg) (j : Nat) : (s.setSlice i x).reg q j = s.reg q j := State.reg_congr _ _ rfl
@[simp] theorem State.setSlice_get (s : State) (i : Nat) (x : SliceSt) (g : Fld) (j : Nat) : (s.setSlice i x).get g j = s.get g j := State.get_congr _ _ rfl
@[simp] theorem State.setSlice_flag (s : State) (i : Nat) (x : SliceSt) (g : Fld) (j : Nat) : (s.setSlice i x).flag g j = s.flag g j := by simp [State.flag]
@[simp] theorem State.setSw_reg (s : State) (n : Nat) (x : SwSt) (q : Reg) (j : Nat) : (s.setSw n x).reg q j = s.reg q j := State.reg_congr _ _ rfl
@[simp] theorem State.setSw_get (s : State) (n : Nat) (x : SwSt) (g : Fld) (j : Nat) : (s.setSw n x).get g j = s.get g j := State.get_congr _ _ rfl
@[simp] theorem State.setSw_flag (s : State) (n : Nat) (x : SwSt) (g : Fld) (j : Nat) : (s.setSw n x).flag g j = s.flag g j := by simp [State.flag]
@[simp] theorem State.setGov_reg (s : State) (x : GovSt) (q : Reg) (j : Nat) : (s.setGov x).reg q j = s.reg q j := State.reg_congr _ _ rfl
@[simp] theorem State.setGov_get (s : State) (x : GovSt) (g : Fld) (j : Nat) : (s.setGov x).get g j = s.get g j := State.get_congr _ _ rfl
@[simp] theorem State.setGov_flag (s : State) (x : GovSt) (g : Fld) (j : Nat) : (s.setGov x).flag g j = s.flag g j := by simp [State.flag]
@[simp] theorem State.setSerac_reg (s : State) (x : SeracSt) (q : Reg) (j : Nat) : (s.setSerac x).reg q j = s.reg q j := State.reg_congr _ _ rfl
@[simp] theorem State.setSerac_get (s : State) (x : SeracSt) (g : Fld) (j : Nat) : (s.setSerac x).get g j = s.get g j := State.get_congr _ _ rfl
@[simp] theorem State.setSerac_flag (s : State) (x : SeracSt) (g : Fld) (j : Nat) : (s.setSerac x).flag g j = s.flag g j := by simp [State.flag]
@[simp] theorem State.setKy_reg (s : State) (x : KySt) (q : Reg) (j : Nat) : (s.setKy x).reg q j = s.reg q j := State.reg_congr _ _ rfl
@[simp] theorem State.setKy_get (s : State) (x : KySt) (g : Fld) (j : Nat) : (s.setKy x).get g j = s.get g j := State.get_congr _ _ rfl
@[simp] theorem State.setKy_flag (s : State) (x : KySt) (g : Fld) (j : Nat) : (s.setKy x).flag g j = s.flag g j := by simp [State.flag]
@[simp] theorem State.setReader_reg (s : State) (x : ReaderSt) (q : Reg) (j : Nat) : (s.setReader x).reg q j = s.reg q j := State.reg_congr _ _ rfl
@[simp] theorem State.setReader_get (s : State) (x : ReaderSt) (g : Fld) (j : Nat) : (s.setReader x).get g j = s.get g j := State.get_congr _ _ rfl
@[simp] theorem State.setReader_flag (s : State) (x : ReaderSt) (g : Fld) (j : Nat) : (s.setReader x).flag g j = s.flag g j := by simp [State.flag]
@[simp] theorem State.setRime_reg (s : State) (x : RimeSt) (q : Reg) (j : Nat) : (s.setRime x).reg q j = s.reg q j := State.reg_congr _ _ rfl
@[simp] theorem State.setRime_get (s : State) (x : RimeSt) (g : Fld) (j : Nat) : (s.setRime x).get g j = s.get g j := State.get_congr _ _ rfl
@[simp] theorem State.setRime_flag (s : State) (x : RimeSt) (g : Fld) (j : Nat) : (s.setRime x).flag g j = s.flag g j := by simp [State.flag]
@[simp] theorem State.setUpd_reg (s : State) (x : UpdSt) (q : Reg) (j : Nat) : (s.setUpd x).reg q j = s.reg q j := State.reg_congr _ _ rfl
@[simp] theorem State.setUpd_get (s : State) (x : UpdSt) (g : Fld) (j : Nat) : (s.setUpd x).get g j = s.get g j := State.get_congr _ _ rfl
@[simp] theorem State.setUpd_flag (s : State) (x : UpdSt) (g : Fld) (j : Nat) : (s.setUpd x).flag g j = s.flag g j := by simp [State.flag]
@[simp] theorem State.setCore_reg (s : State) (n : Nat) (x : Engine) (q : Reg) (j : Nat) : (s.setCore n x).reg q j = s.reg q j := State.reg_congr _ _ rfl
@[simp] theorem State.setCore_get (s : State) (n : Nat) (x : Engine) (g : Fld) (j : Nat) : (s.setCore n x).get g j = s.get g j := State.get_congr _ _ rfl
@[simp] theorem State.setCore_flag (s : State) (n : Nat) (x : Engine) (g : Fld) (j : Nat) : (s.setCore n x).flag g j = s.flag g j := by simp [State.flag]
@[simp] theorem State.setChan_reg (s : State) (c : Chan) (x : Mbx) (q : Reg) (j : Nat) : (s.setChan c x).reg q j = s.reg q j := State.reg_congr _ _ rfl
@[simp] theorem State.setChan_get (s : State) (c : Chan) (x : Mbx) (g : Fld) (j : Nat) : (s.setChan c x).get g j = s.get g j := State.get_congr _ _ rfl
@[simp] theorem State.setChan_flag (s : State) (c : Chan) (x : Mbx) (g : Fld) (j : Nat) : (s.setChan c x).flag g j = s.flag g j := by simp [State.flag]
@[simp] theorem State.setHost_reg (s : State) (p : Port) (x : HostSt) (q : Reg) (j : Nat) : (s.setHost p x).reg q j = s.reg q j := State.reg_congr _ _ (by cases p <;> rfl)
@[simp] theorem State.setHost_get (s : State) (p : Port) (x : HostSt) (g : Fld) (j : Nat) : (s.setHost p x).get g j = s.get g j := State.get_congr _ _ (by cases p <;> rfl)
@[simp] theorem State.setHost_flag (s : State) (p : Port) (x : HostSt) (g : Fld) (j : Nat) : (s.setHost p x).flag g j = s.flag g j := by simp [State.flag]
@[simp] theorem State.setFirn_reg (s : State) (d : Firn) (x : FirnSt) (q : Reg) (j : Nat) : (s.setFirn d x).reg q j = s.reg q j := State.reg_congr _ _ (by cases d <;> rfl)
@[simp] theorem State.setFirn_get (s : State) (d : Firn) (x : FirnSt) (g : Fld) (j : Nat) : (s.setFirn d x).get g j = s.get g j := State.get_congr _ _ (by cases d <;> rfl)
@[simp] theorem State.setFirn_flag (s : State) (d : Firn) (x : FirnSt) (g : Fld) (j : Nat) : (s.setFirn d x).flag g j = s.flag g j := by simp [State.flag]

end Sys2Proof.Machine
end

