-- ==== Sys2Proof/Laws/Desc.lean ====
section
/-!
SUPPORT. Laws/Desc.lean: what running a descriptor comes to: an accepted one runs its own meaning on the state that counts it in flight.
-/
namespace Sys2Proof.Machine

/-- An accepted descriptor runs its own meaning. -/
theorem State.withDesc_taken {s : State} {op : Nat} {d : Desc} (k : Ticket → State → State) (h : s.accepts op d = true) :
    s.withDesc op d k = k ((s.taken d).ticket d) (s.taken d) := by
  simp only [State.accepts, Bool.and_eq_true, Bool.not_eq_true', beq_iff_eq] at h
  obtain ⟨⟨⟨⟨h1, h3⟩, h2⟩, h4⟩, h5⟩ := h
  have h6 : (s.host d.port).fetched.find? (fun f => f.op == op && f.d == d) = none := by
    rw [List.find?_eq_none]; intro f hf; rw [List.any_eq_false] at h3; exact h3 f hf
  have h4' : (s.takeOff d.port d.sq).descWaits op d ((s.takeOff d.port d.sq).ticket d).n = false := h4
  have h5' : (s.takeOff d.port d.sq).checkDesc op d = none := h5
  simp only [State.withDesc, State.runTaken, h1, h2, h6, h4', h5', Bool.not_true, Bool.false_eq_true, if_false, if_true]
  rfl

/-- Data that were read are handed on. -/
theorem State.withRead_data (s : State) (t : Ticket) (d : Desc) (b : List Byte) (k : List Byte → State → State) :
    s.withRead t d (.data b) k = k b s := rfl

/-- A request that waits in the channel of a live die is taken: the channel becomes free and the request runs its own meaning. -/
theorem State.takeReq_takes {s : State} {c : Chan} {typ : Nat} {d : Firn} (k : Firn → List Byte → Nat → State → State)
    (h : s.takes c typ d = true) : s.takeReq c typ k = k d (s.reqBytes c) (s.chan c).seq (s.clearDb c 1) := by
  simp only [State.takes, Bool.and_eq_true, beq_iff_eq] at h
  obtain ⟨⟨⟨h1, h2⟩, h3⟩, h4⟩ := h
  have h4' : field (padTo 256 ((s.chan c).payload.take (s.chan c).len)) 2 2 = typ := h4
  simp only [State.takeReq, h1, h2, h3, h4', Bool.not_true, Bool.or_self, ne_eq, not_true, decide_false, Bool.false_eq_true, if_false]
  rfl

@[simp] theorem State.takeOff_rest (s : State) (p : Port) (q : Nat) : (s.takeOff p q).rest = s.rest := by
  simp [State.takeOff]

@[simp] theorem State.taken_rest (s : State) (d : Desc) : (s.taken d).rest = s.rest := State.takeOff_rest _ _ _

theorem State.takeOff_same (s : State) (p : Port) (q : Nat) : s.sameRegs (s.takeOff p q) :=
  State.sameRegs_trans (State.sameRegs_setHost _ _ _) (State.sameRegs_trans (State.sameRegs_put _ _ _ (by decide)) (State.drained_same _ _))

theorem State.taken_same (s : State) (d : Desc) : s.sameRegs (s.taken d) := State.takeOff_same _ _ _

/-- Taking a descriptor writes no plain register. -/
theorem State.taken_get (s : State) (d : Desc) {f : Fld} (i : Nat) (h : plainReg f.reg = true) : (s.taken d).get f i = s.get f i :=
  State.get_of_same (State.taken_same _ _) f i h

/-- What Serac does with a request that it finds. -/
theorem State.seracReq_takes {s : State} {p : Port} {typ : Nat} (k : Nat → List Byte → State → State)
    (h : s.seracTakes p typ = true) :
    s.seracReq p typ k = k (s.chan (.hostSerac p)).seq (s.reqBytes (.hostSerac p)) (s.clearDb (.hostSerac p) 1) := by
  unfold State.seracTakes State.reqBytes at h
  unfold State.seracReq State.reqBytes
  simp only [Bool.and_eq_true, bne_iff_ne, beq_iff_eq] at h
  obtain ⟨⟨h1, h2⟩, h3⟩ := h
  simp only [h1, h2, h3, decide_false, Bool.not_true, Bool.or_self, Bool.false_eq_true, if_false, ne_eq, not_true]

/-- A request that needs its port's session, while it holds it. -/
theorem State.sessionReq_takes {s : State} {p : Port} {typ : Nat} {ranges : List Byte → List (Nat × Nat)} {bad : List Byte → Bool}
    (k : Nat → List Byte → State → State) (h : s.seracTakes p typ = true) (hb : bad (s.reqBytes (.hostSerac p)) = false)
    (hz : zeroOutside (s.reqBytes (.hostSerac p)) ([(0, 3)] ++ ranges (s.reqBytes (.hostSerac p))) = true)
    (hs : (s.clearDb (.hostSerac p) 1).serac.session = some p) :
    s.sessionReq p typ ranges bad k = k (s.chan (.hostSerac p)).seq (s.reqBytes (.hostSerac p)) (s.clearDb (.hostSerac p) 1) := by
  unfold State.sessionReq
  rw [State.seracReq_takes _ h]
  simp only [hb, hz, hs, Bool.not_true, Bool.or_self, Bool.false_eq_true, if_false, ne_eq, not_true]

end Sys2Proof.Machine
end

