-- ==== Sys2Proof/Laws/Memory.lean ====
section
/-!
SUPPORT. Laws/Memory.lean: a byte read after a write, and that every write keeps memory in its one form.
-/
namespace Sys2Proof.Machine

theorem memWfFrom_mono {lo lo' : Nat} (h : lo' ≤ lo) : ∀ {m : List Host.Cell}, memWfFrom lo m = true → memWfFrom lo' m = true
  | [], _ => rfl
  | (a, b) :: r, w => by
    simp only [memWfFrom, Bool.and_eq_true, decide_eq_true_eq] at w ⊢
    exact ⟨⟨le_trans h w.1.1, w.1.2⟩, w.2⟩

/-- A write keeps the form, from any least address not above the one written. -/
theorem memWfFrom_memWrite : ∀ (m : List Host.Cell) (lo k : Nat) (v : Byte), lo ≤ k → memWfFrom lo m = true →
    memWfFrom lo (memWrite m k v) = true
  | [], lo, k, v, hk, _ => by
    by_cases hv : v = 0#8 <;> simp [memWrite, memWfFrom, hv, hk]
  | (a, b) :: r, lo, k, v, hk, hw => by
    simp only [memWfFrom, Bool.and_eq_true, decide_eq_true_eq] at hw
    obtain ⟨⟨h1, h2⟩, h3⟩ := hw
    replace h2 : ¬b = 0#8 := h2
    by_cases hlt : k < a
    · by_cases hv : v = 0#8
      · simp [memWrite, hlt, hv, memWfFrom, h1, h2, h3]
      · have : k + 1 ≤ a := hlt
        simp [memWrite, hlt, hv, memWfFrom, h2, h3, hk, this]
    · by_cases he : k = a
      · subst he
        by_cases hv : v = 0#8
        · simp only [memWrite, hlt, if_false, if_true, hv]
          exact memWfFrom_mono (by omega) h3
        · simp [memWrite, hv, memWfFrom, h1, h3]
      · have hg : a + 1 ≤ k := by omega
        simp [memWrite, hlt, he, memWfFrom, h1, h2, memWfFrom_memWrite r (a + 1) k v hg h3]

theorem memWrite_wf {m : List Host.Cell} (k : Nat) (v : Byte) (h : Memory.wf m = true) : Memory.wf (memWrite m k v) = true :=
  memWfFrom_memWrite m 0 k v (Nat.zero_le _) h

/-- Every write of bytes keeps memory in its one form. -/
theorem memWriteL_wf : ∀ (bs : List Byte) {m : List Host.Cell} (k : Nat), Memory.wf m = true → Memory.wf (memWriteL m k bs) = true
  | [], _, _, h => h
  | _ :: r, _, k, h => memWriteL_wf r (k + 1) (memWrite_wf k _ h)

/-- Below its least address memory reads 0. -/
theorem memRead_below : ∀ {m : List Host.Cell} {lo k : Nat}, memWfFrom lo m = true → k < lo → memRead m k = 0
  | [], _, _, _, _ => rfl
  | (a, b) :: r, lo, k, h, hk => by
    simp only [memWfFrom, Bool.and_eq_true, decide_eq_true_eq] at h
    have h1 : a ≠ k := by omega
    simp only [memRead, h1, if_false]
    exact memRead_below h.2 (by omega)

/-- A byte read after a write: the value written at its address, the old byte elsewhere. -/
theorem memRead_memWrite : ∀ {m : List Host.Cell} {lo : Nat} (k j : Nat) (v : Byte), memWfFrom lo m = true →
    memRead (memWrite m k v) j = if j = k then v else memRead m j
  | [], _, k, j, v, _ => by
    by_cases hv : v = 0#8
    · subst hv; by_cases h : j = k <;> simp [memWrite, memRead, h]
    · by_cases h : j = k
      · subst h; simp [memWrite, memRead, hv]
      · have : ¬k = j := fun e => h e.symm
        simp [memWrite, memRead, hv, h, this]
  | (a, b) :: r, lo, k, j, v, hw => by
    simp only [memWfFrom, Bool.and_eq_true, decide_eq_true_eq] at hw
    obtain ⟨⟨h1, h2⟩, h3⟩ := hw
    replace h2 : ¬b = 0#8 := h2
    have hr : ∀ i, i < a + 1 → memRead r i = 0 := fun i hi => memRead_below h3 hi
    by_cases hlt : k < a
    · have hka : a ≠ k := by omega
      by_cases hv : v = 0#8
      · subst hv
        by_cases h : j = k
        · subst h; simp [memWrite, hlt, memRead, hka, hr j (by omega)]
        · simp [memWrite, hlt, h]
      · by_cases h : j = k
        · subst h; simp [memWrite, hlt, hv, memRead]
        · have : ¬k = j := fun e => h e.symm
          simp [memWrite, hlt, hv, memRead, h, this]
    · by_cases he : k = a
      · subst he
        by_cases hv : v = 0#8
        · subst hv
          by_cases h : j = k
          · subst h; simp [memWrite, hr j (by omega)]
          · have : ¬k = j := fun e => h e.symm
            simp [memWrite, memRead, h, this]
        · by_cases h : j = k
          · subst h; simp [memWrite, hv, memRead]
          · have : ¬k = j := fun e => h e.symm
            simp [memWrite, hv, memRead, h, this]
      · by_cases hj : a = j
        · subst hj
          have : ¬a = k := fun e => he e.symm
          simp [memWrite, hlt, he, memRead, this]
        · simp [memWrite, hlt, he, memRead, hj, memRead_memWrite k j v h3]

theorem memRead_write_same {m : List Host.Cell} (k : Nat) (v : Byte) (h : Memory.wf m = true) : memRead (memWrite m k v) k = v := by
  simp [memRead_memWrite k k v h]

/-- A byte outside the bytes written keeps its value. -/
theorem memRead_memWriteL_outside : ∀ (bs : List Byte) {m : List Host.Cell} (k j : Nat), Memory.wf m = true →
    (j < k ∨ k + bs.length ≤ j) → memRead (memWriteL m k bs) j = memRead m j
  | [], _, _, _, _, _ => rfl
  | v :: r, m, k, j, h, hj => by
    simp only [List.length_cons] at hj
    have hne : j ≠ k := by omega
    rw [memWriteL, memRead_memWriteL_outside r (k + 1) j (memWrite_wf k v h) (by omega), memRead_memWrite k j v h, if_neg hne]

/-- Reading the bytes just written gives them back. -/
theorem memReadL_memWriteL : ∀ (bs : List Byte) {m : List Host.Cell} (k : Nat), Memory.wf m = true →
    memReadL (memWriteL m k bs) k bs.length = bs
  | [], _, _, _ => rfl
  | v :: r, m, k, h => by
    have h' := memWrite_wf k v h
    simp only [memWriteL, List.length_cons, memReadL]
    rw [memRead_memWriteL_outside r (k + 1) k h' (by omega), memRead_write_same k v h, memReadL_memWriteL r (k + 1) h']

end Sys2Proof.Machine
end

