-- ==== Sys2Proof/Laws/Engine.lean ====
section
/-!
SUPPORT. Laws/Engine.lean: what running one instruction of an engine comes to, and its registers after a write.
-/
namespace Sys2Proof.Machine

/-- A ready engine runs the instruction. -/
theorem State.runs_ready {s : State} {n : Nat} (k : Engine → State → State) (h : s.engReady n = true) : s.runs n k = k (s.core n) s := by
  simp only [State.engReady, Bool.and_eq_true, Option.isNone_iff_eq_none] at h
  simp only [State.runs, h.1, h.2, Bool.not_true, Bool.false_eq_true, if_false]

/-- An allowed access to plain memory goes on with its place. -/
theorem State.checked_plain {s : State} {n a len x : Nat} {k : AccKind} {amo : Bool} (c : Nat) (go : Place → State → State)
    (h : s.plainAt n a len k = some (x, amo)) : s.checked n a len k c go = go (.mem x amo) s := by
  simp only [State.plainAt] at h
  split at h
  · rename_i h1 h2 h3
    simp only [Option.some.injEq, Prod.mk.injEq] at h
    obtain ⟨rfl, rfl⟩ := h
    simp only [State.checked, h1, h2, h3]
  · cases h

@[simp] theorem State.core_setCore (s : State) (n : Nat) (e : Engine) : (s.setCore n e).core n = e := by
  simp [State.core, State.setCore]

theorem State.core_setCore_other (s : State) {n m : Nat} (e : Engine) (h : m ≠ n) : (s.setCore n e).core m = s.core m := by
  simp [State.core, State.setCore, tabGet_tabSet_other _ _ _ h]

@[simp] theorem Engine.getX_zero (e : Engine) : e.getX 0 = 0 := rfl

theorem Engine.getX_setX (e : Engine) (r q : Nat) (v : W32) :
    (e.setX r v).getX q = if q = 0 then 0 else if q = r then v else e.getX q := by
  by_cases hr : r = 0
  · subst hr; by_cases hq : q = 0 <;> simp [Engine.setX, Engine.getX, hq]
  · by_cases hq : q = 0
    · simp [Engine.getX, hq]
    · simp [Engine.setX, Engine.getX, hr, hq, tabGet_tabSet]

theorem Engine.getAcc_setAcc (e : Engine) (a b : Nat) (v : W72) : (e.setAcc a v).getAcc b = if b = a then v else e.getAcc b := by
  simp [Engine.setAcc, Engine.getAcc, tabGet_tabSet]

@[simp] theorem Engine.orStat_acc (e : Engine) (b : Bool) (k : Nat) : (e.orStat b k).acc = e.acc := by cases b <;> rfl
@[simp] theorem Engine.orStat_x (e : Engine) (b : Bool) (k : Nat) : (e.orStat b k).x = e.x := by cases b <;> rfl
@[simp] theorem Engine.orStat_pc (e : Engine) (b : Bool) (k : Nat) : (e.orStat b k).pc = e.pc := by cases b <;> rfl
@[simp] theorem Engine.orStat_getAcc (e : Engine) (b : Bool) (k a : Nat) : (e.orStat b k).getAcc a = e.getAcc a := by cases b <;> rfl
@[simp] theorem Engine.orStat_getX (e : Engine) (b : Bool) (k a : Nat) : (e.orStat b k).getX a = e.getX a := by cases b <;> rfl
@[simp] theorem Engine.next_getX (e : Engine) (a : Nat) : e.next.getX a = e.getX a := rfl
@[simp] theorem Engine.next_getAcc (e : Engine) (a : Nat) : e.next.getAcc a = e.getAcc a := rfl
@[simp] theorem Engine.next_pc (e : Engine) : e.next.pc = e.pc + 4 := rfl
@[simp] theorem Engine.next_x (e : Engine) : e.next.x = e.x := rfl
@[simp] theorem Engine.setAcc_x (e : Engine) (a : Nat) (v : W72) : (e.setAcc a v).x = e.x := rfl
@[simp] theorem Engine.setAcc_pc (e : Engine) (a : Nat) (v : W72) : (e.setAcc a v).pc = e.pc := rfl
@[simp] theorem Engine.setX_pc (e : Engine) (a : Nat) (v : W32) : (e.setX a v).pc = e.pc := by simp only [Engine.setX]; split <;> rfl
@[simp] theorem Engine.setX_acc (e : Engine) (a : Nat) (v : W32) : (e.setX a v).acc = e.acc := by simp only [Engine.setX]; split <;> rfl

theorem clampS_bounds (w : Nat) (z : Int) : -(2 ^ (w - 1) : Int) ≤ clampS w z ∧ clampS w z ≤ 2 ^ (w - 1) - 1 := by
  have h : (0 : Int) < 2 ^ (w - 1) := by positivity
  unfold clampS; omega

/-- A clamped number keeps its value in a word of its width. -/
theorem toInt_ofInt_clamp72 (z : Int) : (BitVec.ofInt 72 (clampS 72 z)).toInt = clampS 72 z := by
  have h := clampS_bounds 72 z
  rw [BitVec.toInt_ofInt, Int.bmod_eq_of_le] <;> norm_num at h ⊢ <;> omega

theorem toInt_ofInt_clamp32 (z : Int) : (BitVec.ofInt 32 (clampS 32 z)).toInt = clampS 32 z := by
  have h := clampS_bounds 32 z
  rw [BitVec.toInt_ofInt, Int.bmod_eq_of_le] <;> norm_num at h ⊢ <;> omega

/-- Adding to an accumulator saturates at 72 bits. -/
theorem Engine.accAdd_toInt (e : Engine) (a : Nat) (z : Int) : ((e.accAdd a z).getAcc a).toInt = clampS 72 ((e.getAcc a).toInt + z) := by
  simp only [Engine.accAdd, Engine.orStat_getAcc, Engine.getAcc_setAcc, if_true, toInt_ofInt_clamp72]

/-- What each step of a fold keeps, the fold keeps. -/
theorem foldl_keeps {α β γ : Type} (f : α → β → α) (g : α → γ) (h : ∀ a b, g (f a b) = g a) (l : List β) (a : α) : g (l.foldl f a) = g a := by
  induction l generalizing a with
  | nil => rfl
  | cons b l ih => rw [List.foldl_cons, ih, h]

/-- A bank's grant changes the conflict counters and the bank's pointer alone: no memory and no engine. -/
@[simp] theorem State.bankWait_mem (s : State) (k m n : Nat) : (s.bankWait k m n).mem = s.mem := by
  simp only [State.bankWait]; split_ifs <;> rfl
@[simp] theorem State.bankWait_eng (s : State) (k m n : Nat) : (s.bankWait k m n).eng = s.eng := by
  simp only [State.bankWait]; split_ifs <;> rfl
@[simp] theorem State.bankGrant_mem (s : State) (n a : Nat) (q : List Nat) : (s.bankGrant n a q).mem = s.mem := by
  simp only [State.bankGrant]
  split
  · rfl
  · refine (foldl_keeps _ State.mem (fun u r => u.bankWait_mem _ _ _) _ _).trans ?_
    rw [State.bankWait_mem]
    exact foldl_keeps _ State.mem (fun u r => u.bankWait_mem _ _ _) _ _
@[simp] theorem State.bankGrant_core (s : State) (n a : Nat) (q : List Nat) (m : Nat) : (s.bankGrant n a q).core m = s.core m := by
  simp only [State.bankGrant]
  split
  · rfl
  · simp only [State.core]
    rw [foldl_keeps _ State.eng (fun u r => u.bankWait_eng _ _ _), State.bankWait_eng, foldl_keeps _ State.eng (fun u r => u.bankWait_eng _ _ _)]
@[simp] theorem State.bankAll_mem (s : State) (n : Nat) (l : List (Nat × Nat)) (q : List (List Nat)) : (s.bankAll n l q).mem = s.mem :=
  foldl_keeps _ State.mem (fun u _ => u.bankGrant_mem _ _ _) _ _
@[simp] theorem State.bankAll_core (s : State) (n : Nat) (l : List (Nat × Nat)) (q : List (List Nat)) (m : Nat) : (s.bankAll n l q).core m = s.core m :=
  foldl_keeps _ (fun u => State.core u m) (fun u _ => u.bankGrant_core _ _ _ _) _ _

@[simp] theorem Engine.skip_getX (e : Engine) (v : W32) (a : Nat) : (e.skip v).getX a = e.getX a := rfl
@[simp] theorem Engine.skip_pc (e : Engine) (v : W32) : (e.skip v).pc = e.pc + v := rfl
@[simp] theorem Engine.skip_sb (e : Engine) (v : W32) : (e.skip v).sb = e.sb := rfl
@[simp] theorem Engine.skip_x (e : Engine) (v : W32) : (e.skip v).x = e.x := rfl
@[simp] theorem Engine.getF_setF (e : Engine) (r : Nat) (v : W32) : (e.setF r v).getF r = v := by simp [Engine.setF, Engine.getF]
@[simp] theorem Engine.setF_pc (e : Engine) (r : Nat) (v : W32) : (e.setF r v).pc = e.pc := rfl
@[simp] theorem Engine.skip_getF (e : Engine) (v : W32) (a : Nat) : (e.skip v).getF a = e.getF a := rfl

@[simp] theorem State.setCore_setCore (s : State) (n : Nat) (e f : Engine) : (s.setCore n e).setCore n f = s.setCore n f := by
  simp [State.setCore, tabSet, tabErase]

/-- Parts that enter a store buffer with room for all of them stand behind it, in order, and change nothing else. -/
theorem State.bufferStore_all {α : Type} (s : State) (n : Nat) (f : α → Nat × List Byte) (l : List α) (h : (s.core n).sb.length + l.length ≤ 8) :
    l.foldl (fun s x => s.bufferStore n (f x).1 (f x).2) s = s.setCore n { s.core n with sb := (s.core n).sb ++ l.map f } ∨ l = [] := by
  induction l generalizing s with
  | nil => exact .inr rfl
  | cons x l ih =>
    left
    have h1 : ¬ 8 ≤ (s.core n).sb.length := by simp only [List.length_cons] at h; omega
    have e : s.bufferStore n (f x).1 (f x).2 = s.setCore n { s.core n with sb := (s.core n).sb ++ [f x] } := by
      simp only [State.bufferStore, h1, if_false]
    rw [List.foldl_cons, e]
    rcases ih (s.setCore n { s.core n with sb := (s.core n).sb ++ [f x] }) (by rw [State.core_setCore]; simp only [List.length_append, List.length_cons] at h ⊢; simpa using by omega) with h2 | h2
    · rw [h2, State.core_setCore, State.setCore_setCore]; simp
    · subst h2; rfl

end Sys2Proof.Machine
end

