-- ==== Sys2Proof/Machine/Package.lean ====
section
/-!
DEFINITION. Machine/Package.lean: supplies and levels at the balls (R755 to R762), the outputs that carry VSEL (R757), power figures
(R760), the ball map (R770 to R772) and junction temperatures (R773). Voltages are in mV, currents in mA, powers in mW unless stated.
-/
namespace Sys2Proof.Machine

/-! ### Ratings and supplies (R755 to R759) -/

/-- R755: the absolute limits of a rail in mV. -/
def railRating : Rail → Int × Int
  | .vbat => (-300, 3600)
  | .vaon | .vio18 => (-300, 2000)
  | .vddSoc | .vddC | .vddF0 | .vddF1 => (-300, 950)
  | .vdd2 => (-300, 1300)
  | .vddq => (-300, 750)
  | .vanaF0 | .vanaF1 => (-300, 5500)
  | .vddD => (-300, 3600)
  | .vpilP => (-300, 14000)
  | .vpilN => (-14000, 300)
  | .vsw => (-300, 60000)

/-- R755: a switch output and a ball of the pilots or the Kyoti line stay within limits that follow their supplies. -/
def switchRated (vsw v : Int) : Bool := decide (vsw - 66000 ≤ v) && decide (v ≤ vsw + 300)
def lineRated (vpilP vpilN v : Int) : Bool := decide (vpilN - 300 ≤ v) && decide (v ≤ vpilP + 300)

/-- R757: the two VID outputs carry VSEL; they read 0b00 while VIO18 is not good and during a C-die reset. -/
def State.vddcVid (s : State) : Nat :=
  if s.boot.badRails.contains .vio18 || !s.dieRuns .cdie then 0 else s.get Fld.PWR_DVFS__VSEL 0
/-- R757: the voltage that the regulator of VDD_C sets. -/
def vddcNominal (vid : Nat) : Int := if vid = 0 then 800 else if vid = 1 then 700 else 600

/-- R756: a rail's least and greatest voltage in operation; VDD_C within 2 % of what VID names. -/
def railLimits (vid : Nat) : Rail → Int × Int
  | .vbat => (2200, 3600)
  | .vaon | .vio18 => (1710, 1890)
  | .vddSoc | .vddF0 | .vddF1 => (776, 824)
  | .vddC => (vddcNominal vid * 98 / 100, vddcNominal vid * 102 / 100)
  | .vdd2 => (1060, 1170)
  | .vddq => (570, 650)
  | .vanaF0 | .vanaF1 => (4950, 5050)
  | .vddD => (3200, 3400)
  | .vpilP => (11800, 12500)
  | .vpilN => (-12500, -11800)
  | .vsw => (8500, 48000)
/-- R756: the balls of a supply net, and its greatest current in µA (VDD2, VDDQ and VIO18 without the memory device's). -/
def railBalls : Rail → Nat
  | .vbat => 1 | .vaon => 2 | .vddSoc => 12 | .vddC => 24 | .vio18 => 8 | .vdd2 => 8 | .vddq => 6
  | .vddF0 | .vddF1 | .vanaF0 | .vanaF1 | .vddD => 4
  | .vpilP | .vpilN => 3
  | .vsw => 24
def railCurrent : Rail → Nat
  | .vbat => 3 | .vaon => 2000 | .vddSoc => 3500000 | .vddC => 18000000 | .vio18 | .vdd2 => 600000 | .vddq => 400000
  | .vddF0 | .vddF1 => 500000 | .vanaF0 | .vanaF1 => 360000 | .vddD => 350000 | .vpilP => 3600000 | .vpilN => 1200000 | .vsw => 28000000

/-- Is a rail at `v` within its operating limits (R756)? -/
def railOperating (vid : Nat) (r : Rail) (v : Int) : Bool := decide ((railLimits vid r).1 ≤ v) && decide (v ≤ (railLimits vid r).2)

/-- R756: the gain error in ppm that VANA adds at most outside its range; none where no accuracy figure applies. -/
def vanaGainPpm (mv : Nat) : Option Nat :=
  if mv < 4900 || 5100 < mv then none else if 4950 ≤ mv && mv ≤ 5050 then some 0 else some (((if mv < 5000 then 5000 - mv else mv - 5000) + 49) / 50)

/-- R759: the load currents (mA) and on-resistances (mΩ) of the switches that are on stay within the sum and the loss allowed. -/
def switchLoadOk (l : List (Nat × Nat)) : Bool :=
  decide ((l.map (·.1)).foldl (· + ·) 0 ≤ 28000) && decide ((l.map fun x => x.1 * x.1 * x.2).foldl (· + ·) 0 ≤ 5000000000)

/-! ### Input levels (R761, R762) -/

/-- What a comparator input is sure to read at a voltage: low at or below its least low threshold, high at or above its greatest high
threshold, neither between (R125). -/
def levelAt (low high : Int) (mv : Int) : Level := if mv < low then .low else if high < mv then .high else .undet
/-- The thresholds of each input; the C-die's 1.8 V inputs follow their own supply. -/
def inputThresholds : Inp → Int × Int
  | .pulseA _ | .pulseB _ | .safety _ | .aux _ | .lockFb _ => (4000, 8000)
  | .cover _ | .magnet _ | .seal _ | .dispStep => (800, 2000)
  | .kyZc => (1550, 1750)
  | .wake => (900, 900)
def inputLevel (i : Inp) (mv : Int) : Level := levelAt (inputThresholds i).1 (inputThresholds i).2 mv
def logicLevel (supply mv : Int) : Level := levelAt (supply * 35 / 100) (supply * 65 / 100) mv
/-- R762, R436: PFW falls at 1.200 V ± 1 % and rises at 1.245 V at most. -/
def pfwLevel (mv10 : Int) : Level := levelAt 11850 12450 mv10

/-! ### Power (R760) and junctions (R773) -/

/-- The rows of R760. -/
inductive PowerRow where | run | run325 | run162 | sleepOn | sleepOff | deep | off
deriving DecidableEq, Repr

/-- Typical power in µW, and the greatest where the row gives one. -/
def powerFigure (v : Variant) (r : PowerRow) : Nat × Option Nat :=
  let pick (a b c d : Nat) : Nat := match v with | .bx9192 => a | .bx9096 => b | .bx9192L => c | .bx9192M => d
  match r with
  | .run => (pick 16000000 14400000 15600000 14850000, some (pick 24000000 21800000 23400000 22150000))
  | .run325 => (pick 9700000 8100000 9300000 8550000, some (pick 15000000 12800000 14400000 13150000))
  | .run162 => (pick 7200000 5600000 6800000 6050000, some (pick 11200000 9000000 10600000 9350000))
  | .sleepOn => (pick 1900000 1030000 1900000 1840000, none)
  | .sleepOff => (pick 160000 160000 160000 95000, none)
  | .deep => (pick 2100 2100 2100 1600, none)
  | .off => (0, none)
/-- Off, from VAON, in nA: typical at 25 °C and greatest at 85 °C. -/
def offCurrent : Nat × Nat := (95, 200)

/-- R773: thermal resistance from junction to lid top and to the board in mK/W, and the operating limit of the junction in °C. -/
def thermal : Die → Nat × Nat × Nat
  | .cdie => (150, 3500, 110)
  | .f0 | .f1 => (1200, 6000, 110)
  | _ => (800, 4000, 110)
/-- A junction in m°C, all power through the lid: ambient in m°C, `ts` in mK/W from lid to air, the module's and the die's power in mW. -/
def junction (d : Die) (ambient ts total own : Nat) : Nat := ambient + total * ts / 1000 + own * (thermal d).1 / 1000
/-- R773: a switch channel stands above the D-die's logic junction by 15 K/W of its own loss (mA, mΩ); its limit is 150 °C. -/
def switchJunction (logic ma mohm : Nat) : Nat := logic + 15 * (ma * ma * mohm / 1000000)

/-! ### The ball map (R770 to R772) -/

/-- The signals of the module, by ball name. `die`: a Firn die; `n`, `p`, `k`: the number in the name; `neg`: the ball _N of a pair. -/
inductive Ball where
  | ch (die : Firn) (j : Nat) (neg : Bool)
  | iexc (die : Firn) (k : Nat) | pto (die : Firn) (k : Nat)
  /-- VCM, REFA_DEC, REFB_DEC, SEAL, PFW, COVER, MAGNET, DISP_STEP, in this order -/
  | firnPin (die : Firn) (k : Nat)
  | com (die : Firn) (k : Nat) | seg (die : Firn) (k : Nat)
  | pcieTx (p : Port) (k : Nat) (neg : Bool) | pcieRx (p : Port) (k : Nat) (neg : Bool) | pcieClk (p : Port) (neg : Bool) | perst (p : Port)
  /-- TX_P, TX_N, RX_P, RX_N of a port; for port 0 also ETH_MDC and ETH_MDIO -/
  | eth (port k : Nat)
  /-- SCK, MOSI, MISO, CS0 to CS3, DRDY, MRST of an HLC port -/
  | hlc (p k : Nat)
  /-- QSPI_SCLK, QSPI_CS_N, QSPI_IO0 to IO3, WP_SCL, WP_SDA, WAKE, RESET_N -/
  | serial (k : Nat)
  /-- REFCLK_XI, REFCLK_XO, AON_XI, AON_XO, BOOT_MODE0, BOOT_MODE1, TMESH_OUT, TMESH_IN, TAMPER_N -/
  | clock (k : Nat)
  | vid (k : Nat)
  | sw (n : Nat) | swAux (n : Nat)
  /-- KY_TX_P, KY_TX_N, KY_RX_P, KY_RX_N, KY_ZC, ISNS, SNS_SEL_MODE -/
  | line (k : Nat)
  | piA (n : Nat) | piB (n : Nat) | snsSel (k : Nat)
  | cp (n : Nat) | pp (n : Nat) | lock (n : Nat) | lkfb (n : Nat) | ef (n : Nat)
  | ant (p : Nat) | tp (k : Nat) | lockCom (g : Nat) | si (k : Nat)
deriving DecidableEq, Repr

/-- R771: the first column of a Firn die's block. -/
def firnCol (d : Firn) : Nat := match d with | .f0 => 1 | .f1 => 35

/-- R771: row and column of a signal's ball. -/
def ballAt : Ball → Nat × Nat
  | .ch d j n => (1 + 2 * (j / 8) + b2n n, firnCol d + j % 8)
  | .iexc d k => (26, firnCol d + k)
  | .pto d k => (27, firnCol d + k)
  | .firnPin d k => (28, firnCol d + k)
  | .com d k => (30, firnCol d + k)
  | .seg d k => (31 + k / 8, firnCol d + k % 8)
  | .pcieTx p k n => (1 + p.num, 9 + 2 * k + b2n n)
  | .pcieRx p k n => (1 + p.num, 17 + 2 * k + b2n n)
  | .pcieClk p n => (1 + p.num, 25 + b2n n)
  | .perst p => (1 + p.num, 27)
  | .eth port k => (1 + port, 28 + k)
  | .hlc p k => (3 + k, 9 + p)
  | .serial k => (3, 25 + k)
  | .clock k => (4, 25 + k)
  | .vid k => (5, 25 + k)
  | .sw n => if n < 24 then (13, 9 + n) else (14, 9 + n - 24)
  | .swAux n => if n < 24 then (15, 9 + n) else (16, 9 + n - 24)
  | .line k => (17, 9 + k)
  | .piA n => (18 + n / 8, 9 + n % 8)
  | .piB n => (18 + n / 8, 26 + n % 8)
  | .snsSel k => (18 + k, 17)
  | .cp n => (26 + n / 8, 9 + n % 8)
  | .pp n => (26 + n / 8, 17 + n % 8)
  | .lock n => (26 + n / 8, 25 + n % 8)
  | .lkfb n => (34 + n / 8, 9 + n % 8)
  | .ef n => (34 + n / 8, 17 + n % 8)
  | .ant p => (34 + p / 8, 25 + p % 8)
  | .tp k => (26 + k / 2, 33 + k % 2)
  | .lockCom g => (34 + g / 2, 33 + g % 2)
  | .si k => if k < 8 then (38 + k / 2, 33 + k % 2) else (42, 9 + k - 8)

/-- R768: is there a ball at a position? -/
def ballPresent (r c : Nat) : Bool :=
  decide (1 ≤ r) && decide (r ≤ 42) && decide (1 ≤ c) && decide (c ≤ 42) && !(decide (18 ≤ r) && decide (r ≤ 25) && decide (18 ≤ c) && decide (c ≤ 25))
/-- R770: the group of a position: 0 F0's block, 1 F1's, 2 the C-die's, 3 the D-die's. -/
def ballGroup (r c : Nat) : Nat := if c ≤ 8 then 0 else if 35 ≤ c then 1 else if r ≤ 11 then 2 else 3

/-- R772: has a signal's ball no internal connection on a variant? -/
def ballOpen (v : Variant) (b : Ball) : Bool :=
  let p := ballAt b
  match v with
  | .bx9192 => false
  | .bx9096 => ballGroup p.1 p.2 == 1
  | .bx9192L => (p.1 == 17 && decide (p.2 ≤ 13)) || (match b with | .ant _ => true | _ => false)
  | .bx9192M => ballGroup p.1 p.2 == 3

/-- R764: the common ball of a lock's group. -/
def lockComOf (n : Nat) : Nat := n / 8

end Sys2Proof.Machine
end

