-- ==== Sys2Proof/Tests/Slice0.lean ====
section
/-!
SUPPORT. Tests/Slice0.lean: small states, the refusals of WellFormed, single steps with numbers of the manual's worked examples, and for each
statement with hypotheses a witness that they can be met.
-/
namespace Sys2Proof.Machine
set_option Elab.async false

/-- A host port in use: enabled as a bus master, SQ 1 of 16 slots bound to CQ 1 of 16. -/
def wPort : HostSt := { bme := true, sq := [(1, { cfg := 36, state := 1 })], cq := [(1, { cfg := 4, state := 1 })] }
/-- A running module: stage 0xB, every die and link up, both ports in use with a window over the first 4 GiB of host memory. -/
def wRun : State := { State.reset with
  boot := { stopped := [], downLinks := [] }, h0 := wPort, h1 := wPort,
  regs := [(⟨.BOOT_STATUS, 0⟩, 0xB), (⟨.HOST_CTRL, 0⟩, 0x80020064), (⟨.HOST_CTRL, 1⟩, 0x80020064), (⟨.HOST_WIN_LO, 0⟩, 3), (⟨.HOST_WIN_SIZE, 0⟩, 0x100000), (⟨.HOST_WIN_LO, 8⟩, 3), (⟨.HOST_WIN_SIZE, 8⟩, 0x100000)] }
/-- The same with some registers set. -/
def wRegs (l : List (RegKey × W32)) : State := { wRun with regs := l ++ wRun.regs }
/-- The descriptor with every field 0, and one with a target, a buffer and PARAM bytes. -/
def wDesc : Desc := { port := .h0, sq := 1, flags := 0, cmdId := 7, target := 0, rsv7 := 0, bufAddr := 0, bufLenW := 0, rsv20 := 0, param := List.replicate 40 0 }
def wDescT (t len : Nat) (par : List Byte) : Desc :=
  { wDesc with target := BitVec.ofNat 24 t, bufAddr := if len = 0 then 0 else 0x1000, bufLenW := BitVec.ofNat 32 len, param := (par ++ List.replicate 40 0).take 40 }
/-- The running module with both Firn dies live. -/
def wFirn : State := { wRun with f0 := { runs := true, started := true }, f1 := { runs := true, started := true } }
def wFregs (l : List (RegKey × W32)) : State := { wFirn with regs := l ++ wRun.regs }
/-- A request of a TYPE with the bytes from 4 on waits in firmware's channel to F0. -/
def wReq (typ : Nat) (body : List Byte) : State :=
  { wFirn with mbx := [(.fwFirn .f0, { posted := true, seq := 1, len := 256, payload := [0, 0] ++ leBytes 2 typ ++ body })] }
/-- Serac in RUN with the session of H0, and a request of a TYPE with the bytes from 4 on in H0's channel to it. -/
def wSer (typ : Nat) (body : List Byte) : State :=
  { wRun with serac := { st := 2, session := some .h0 }, mbx := [(.hostSerac .h0, { posted := true, seq := 1, len := 256, payload := [0, 0] ++ leBytes 2 typ ++ body })] }
/-- The running module with spare engines in every domain. -/
def wEng (l : List (RegKey × W32)) : State :=
  wRegs (l ++ [(⟨.ENG_STATE, 0⟩, 2), (⟨.ENG_STATE, 1⟩, 2), (⟨.ENG_STATE, 2⟩, 2), (⟨.ENG_STATE, 3⟩, 2), (⟨.FENG_STATE, 0⟩, 2), (⟨.FENG_STATE, 1⟩, 2),
    (⟨.FENG_STATE, 64⟩, 2), (⟨.FENG_STATE, 65⟩, 2)])
/-- A configuration image without items, for the variant with the owner's first key. -/
def wConf : List Byte := [0x42, 0x58, 0x43, 0x46, 0, 0, 0, 0, 1, 0, 0, 0, 0, 0, 0, 0, 0x92, 0x91, 0xFF, 2] ++ List.replicate 236 0
/-- The running module with some inputs defined. -/
def wIn (l : List (Inp × Level)) : State := { wRun with boot := { stopped := [], downLinks := [], inputs := l } }
/-- A frame of a type from the node 7 of cell 5 to the coordinator, with a SEQ and no payload, as received. -/
def wKyRx (ft seq : Nat) : List Byte := (kyCode 1 0 (kyData [0x40 + ft * 4, 0, 5, 0, 0, 0, 0, 0, 0x70, 0, seq, 0, 8] [])).map (BitVec.ofNat 8)
theorem leBytes_len8 (x : Nat) : (leBytes 8 x).length = 8 := rfl
/-- A message sealed over nothing opens. -/
theorem kyUnseal_sealed (k c s m : Nat) : kyUnseal k c s 0 m ([0, 0, 0, 0] ++ ccmMic k [c, s, 0, 0, m] []) = some [] := by
  have e : List.drop 4 ([0, 0, 0, 0] ++ ccmMic k [c, s, 0, 0, m] []) = ccmMic k [c, s, 0, 0, m] [] := rfl
  have f : (!(ccmMic k [c, s, 0, 0, m] [] == ccmMic k [c, s, 0, 0, m] [])) = false := by simp
  have g : kyUnseal k c s 0 m ([0, 0, 0, 0] ++ ccmMic k [c, s, 0, 0, m] [])
      = if (false || !(ccmMic k [c, s, 0, 0, m] [] == ccmMic k [c, s, 0, 0, m] [])) then none else some [] := rfl
  rw [g, f]; rfl
/-- The sealed message of node 7 to the coordinator of device 5. -/
def wSealed : KyIn := { src := 7, via := 7, mtype := 0, secured := true, bytes := [0, 0, 0, 0] ++ ccmMic (wRun.kyKey (some 0)) [5, 7, 0, 0, 0] [] }
/-- A join request heard by the coordinator itself. -/
def wJoin : KyIn := { src := 7, via := 0, mtype := 4, secured := false, bytes := List.replicate 18 0 ++ wRun.joinMac (List.replicate 18 0) }
/-- A federation frame's bytes before its CMAC, and the frame, for device 5. -/
def wFedHead (ty node : Nat) : List Byte := [1, BitVec.ofNat 8 ty, 3, 0, 5, 0, BitVec.ofNat 8 node, 0, 1, 0, 0, 0, 0, 0, 0, 0]
def wFed (ty node : Nat) : List Byte := wFedHead ty node ++ leBytes 8 (Config.digest 12 (wRun.keyOf 0 :: (wFedHead ty node).map (·.toNat)))
/-- The running module with a cell of device 5 and a key of an attribute word in slot 0. -/
def wCell (attr : W32) : State :=
  { wRegs [(⟨.KY_STATUS, 0⟩, 0x20000000), (⟨.KEY_ATTR, 0⟩, attr)] with cfg := { ky := { on := true, device := 5 } } }
theorem wFed_ok (ty node : Nat) : (wCell 0x11000004).fedOk (wFed ty node) = true := by
  have g : (wCell 0x11000004).fedOk (wFed ty node) = ((true && (leBytes 8 (Config.digest 12 (wRun.keyOf 0 :: (wFedHead ty node).map (·.toNat)))
      == leBytes 8 (Config.digest 12 (wRun.keyOf 0 :: (wFedHead ty node).map (·.toNat))))) && (wCell 0x11000004).keyUsable 0 [1, 2] 2) := rfl
  have h : (wCell 0x11000004).keyUsable 0 [1, 2] 2 = true := by decide +kernel
  rw [g, h]; simp
/-- The state that a command leaves. -/
def after (c : Instr) (s : State) : State := match exec c s with | .next t => t | _ => s

/-! ### Each check of WellFormed refuses -/

theorem test_wellFormed_refuses_engine : Instr.wellFormed (.aclr 256 0) = false := by decide
theorem test_wellFormed_refuses_reg : Instr.wellFormed (.ard 0 32 0 0) = false := by decide
theorem test_wellFormed_refuses_acc : Instr.wellFormed (.aclr 0 4) = false := by decide
theorem test_wellFormed_refuses_addr : Instr.wellFormed (.registerWrite .firmware 0x1010000 0xF 0 (.abort 0)) = false := by decide
theorem test_wellFormed_refuses_point : Instr.wellFormed (.stopFreezeTimeout 256) = false := by decide
theorem test_wellFormed_refuses_slice : Instr.wellFormed (.lockRetry 64) = false := by decide
theorem test_wellFormed_refuses_switch : Instr.wellFormed (.overloadTrip 48) = false := by decide
theorem test_wellFormed_refuses_group : Instr.wellFormed (.tokenReturn 16) = false := by decide
theorem test_wellFormed_refuses_cluster : Instr.wellFormed (.clusterIdleEntry 16) = false := by decide
theorem test_wellFormed_refuses_function : Instr.wellFormed (.discrepancyTimeout 16) = false := by decide
theorem test_wellFormed_refuses_position : Instr.wellFormed (.confirmingPing 64 0 0) = false := by decide
theorem test_wellFormed_refuses_frontEnd : Instr.wellFormed (.guardExpiry 8) = false := by decide
theorem test_wellFormed_refuses_ring : Instr.wellFormed (.sqDrained .h0 32) = false := by decide
theorem test_wellFormed_refuses_vector : Instr.wellFormed (.msixUnmask .h0 64) = false := by decide
theorem test_wellFormed_refuses_window : Instr.wellFormed (.windowWrite .h0 8 .lo 0) = false := by decide
theorem test_wellFormed_refuses_eth : Instr.wellFormed (.ptpDelayReqTransmit 2) = false := by decide
theorem test_wellFormed_refuses_desc : Instr.wellFormed (.nop { wDesc with sq := 32 }) = false := by decide
theorem test_wellFormed_refuses_pings : Instr.wellFormed (.baselineCapture 9 []) = false := by decide
theorem test_wellFormed_refuses_calibration : Instr.wellFormed (.calibrate wDesc []) = false := by decide
theorem test_wellFormed_refuses_qobj : Instr.wellFormed (.deferMaxExpiry (.on 48)) = false := by decide

/-! ### Numbers of the manual -/

/-- R76, the worked example of the operating point, step 1: VSEL 2 and FSEL 0 from the lowest point is refused with CAUSE 1. -/
theorem test_dvfs_step1 : ((after (.pwrDvfsWrite 2) (wRegs [(⟨.PWR_DVFS, 0⟩, 0x1222)])).reg .PWR_DVFS_ERR 0) = 0x111 := by decide +kernel
/-- Step 2: VSEL 0 is accepted and VOK falls. -/
theorem test_dvfs_step2 : ((after (.pwrDvfsWrite 0x20) (wRegs [(⟨.PWR_DVFS, 0⟩, 0x1222)])).reg .PWR_DVFS 0) = 0x220 := by decide +kernel
/-- Step 3: FSEL 0 while VOK is 0 is refused with CAUSE 4 and COUNT 2. -/
theorem test_dvfs_step3 : ((after (.pwrDvfsWrite 0) (wRegs [(⟨.PWR_DVFS, 0⟩, 0x220), (⟨.PWR_DVFS_ERR, 0⟩, 0x111)])).reg .PWR_DVFS_ERR 0) = 0x241 := by decide +kernel
/-- Step 5: the clearing of ERR clears COUNT. -/
theorem test_dvfs_step5 : ((after (.registerWrite (.host .h0) 0x10014 0xF 1 (.abort 0)) (wRegs [(⟨.PWR_DVFS_ERR, 0⟩, 0x241)])).get Fld.PWR_DVFS_ERR__COUNT 0) = 0 := by decide +kernel
/-- The worked example of the billing register: 1,234.5 Wh and 1,234.5000004 Wh. -/
theorem test_billing : billing 0x4D28000000000000000 = 1234500000 := by decide +kernel
theorem test_billing_fraction : billing (0x4D28000000000000000 + 4 * 2 ^ 64 / 10 ^ 7) = 1234500000 := by decide +kernel
/-- R521: 32 A, 16 A and 63 A in tenths of a percent. -/
theorem test_duty : (dutyOf 32000, dutyOf 16000, dutyOf 63000) = (533, 266, 892) := by decide +kernel
/-- R496, the worked example of rounding: 16.5, 17.5 and −16.5. -/
theorem test_round_even : (divHalfEven (500000 * 330000000) (10 ^ 13), divHalfEven (500000 * 350000000) (10 ^ 13), divHalfEven (500000 * -330000000) (10 ^ 13)) = (16, 18, -16) := by decide +kernel
/-- A step runs the command at the front, and leaves the rest of the queue. -/
theorem test_step_front : (match step { wRun with pending := [.sysctrlWatchdogExpiry, .vokSet] } with | .next t => some t.pending | _ => none) = some [.vokSet] := by decide +kernel
theorem test_step_idle : (match step State.reset with | .next t => decide (t = State.reset) | _ => false) = true := by decide +kernel
/-- R207: a byte written is read, and a 0 written takes its entry away. -/
theorem test_mem_write : memRead (memWrite (memWrite [] 9 7) 3 5) 9 = 7 := by decide
theorem test_mem_form : memWrite (memWrite [] 9 7) 9 0 = [] := by decide
/-- R630: a codeword corrects 8 byte errors, and not 9. -/
theorem test_rs_corrects : rsDecode ((rsEncode (upTo 16)).mapIdx fun i b => if i < 8 then Nat.xor b 0x55 else b) = some (upTo 16 ++ rsParity (upTo 16), 8) := by decide +kernel
theorem test_rs_fails : rsDecode ((rsEncode (upTo 16)).mapIdx fun i b => if i < 9 then Nat.xor b 0x55 else b) = none := by decide +kernel
/-- R630: the generator's roots are the powers 0 to 15 of the primitive element. -/
theorem test_rs_roots : (upTo 16).map (fun i => gfEval (rsGen.reverse ++ [1]) (gfAlpha i)) = List.replicate 16 0 := by decide +kernel
/-- R630: whitening starts with the ones of its seed, and undoes itself. -/
theorem test_whiten : whiten [0] = [0xFF] ∧ whiten (whiten [1, 2, 3]) = [1, 2, 3] := by decide +kernel
/-- R225, IEEE 754: 1 + 1, 1 / 3 (inexact), the root of 4 and of −1 (invalid), and half of the least normal number. -/
theorem test_float_add : F32.add 0 0x3F800000 0x3F800000 = (0x40000000, 0) := by decide +kernel
theorem test_float_div : F32.div 0 0x3F800000 0x40400000 = (0x3EAAAAAB, 1) := by decide +kernel
theorem test_float_sqrt : F32.sqrt 0 0x40800000 = (0x40000000, 0) ∧ F32.sqrt 0 0xBF800000 = (0x7FC00000, 16) := by decide +kernel
theorem test_float_subnormal : F32.mul 0 0x00800000 0x3F000000 = (0x00400000, 0) := by decide +kernel
/-- R223: C.ADDI x1, 1 stands for ADDI x1, x1, 1. -/
theorem test_compressed : expand 0x0085 = some 0x00108093 := by decide +kernel
/-- R771, the worked example of the ball map. -/
theorem test_balls_firn : ballAt (.ch .f1 55 false) = (13, 42) ∧ ballAt (.ch .f1 55 true) = (14, 42) := by decide +kernel
theorem test_balls_slice : [ballAt (.cp 17), ballAt (.pp 17), ballAt (.lock 17), ballAt (.lkfb 17), ballAt (.ef 17), ballAt (.lockCom 2)]
    = [(28, 10), (28, 18), (28, 26), (36, 10), (36, 18), (35, 33)] := by decide +kernel
theorem test_balls_rest : [ballAt (.piA 12), ballAt (.piB 12), ballAt (.sw 17), ballAt (.swAux 17), ballAt (.ant 17), ballAt (.si 4), ballAt (.si 5), ballAt (.si 10)]
    = [(19, 13), (19, 30), (13, 26), (15, 26), (36, 26), (40, 33), (40, 34), (42, 11)] := by decide +kernel
/-- The opcode table gives no row any bits. -/
theorem test_no_word : decodeTableWord 0 0 = none := by decide

/-! ### Witnesses -/

set_option maxRecDepth 20000 in
/-- States and operands that meet the hypotheses of each clause of DvfsWrites. -/
theorem witness_DvfsWrites :
    (∃ (s : State) (w : W32), (bitsAt w.toNat 0 2 = s.get Fld.PWR_DVFS__VSEL 0) ∧ (bitsAt w.toNat 4 2 = s.get Fld.PWR_DVFS__FSEL 0)) ∧
    (∃ (s : State) (w : W32) (c : Nat), (¬(bitsAt w.toNat 0 2 = s.get Fld.PWR_DVFS__VSEL 0 ∧ bitsAt w.toNat 4 2 = s.get Fld.PWR_DVFS__FSEL 0)) ∧ (dvfsCause (s.pwr ≤ 1) (s.flag Fld.PWR_DVFS__VOK 0) (s.get Fld.PWR_DVFS__FLOOR 0) (s.get Fld.PWR_DVFS__VSEL 0) (s.get Fld.PWR_DVFS__FSEL 0) (bitsAt w.toNat 0 2) (bitsAt w.toNat 4 2) = some c) ∧ (c < 16)) ∧
    (∃ (s : State) (w : W32), (¬(bitsAt w.toNat 0 2 = s.get Fld.PWR_DVFS__VSEL 0 ∧ bitsAt w.toNat 4 2 = s.get Fld.PWR_DVFS__FSEL 0)) ∧ (dvfsCause (s.pwr ≤ 1) (s.flag Fld.PWR_DVFS__VOK 0) (s.get Fld.PWR_DVFS__FLOOR 0) (s.get Fld.PWR_DVFS__VSEL 0) (s.get Fld.PWR_DVFS__FSEL 0) (bitsAt w.toNat 0 2) (bitsAt w.toNat 4 2) = none)) ∧
    (∃ (run : Bool) (vok : Bool) (floor : Nat) (v : Nat) (f : Nat) (w : Nat) (g : Nat), (dvfsCause run vok floor v f w g = none) ∧ (v ≤ f)) :=
  ⟨⟨wRun, 0, by decide +kernel⟩,
    ⟨wRun, 1, 2, by decide +kernel⟩,
    ⟨wRun, 0x20, by decide +kernel⟩,
    ⟨true, true, 2, 0, 0, 0, 1, by decide +kernel⟩⟩

set_option maxRecDepth 20000 in
/-- States and operands that meet the hypotheses of each clause of WakePort. -/
theorem witness_WakePort :
    (∃ (s : State), (¬(s.reg .PWR_ALARM_LO 0 = 0 ∧ s.reg .PWR_ALARM_HI 0 = 0)) ∧ (s.power.entered ≠ 5)) ∧
    (∃ (s : State), (s.power.entered ≠ 5) ∧ (s.flag Fld.WP_CFG__EN 0 = true)) ∧
    (∃ (s : State), (s.power.wpFrame = true) ∧ (s.power.wpRead = none) ∧ (s.wpMatches = true) ∧ (s.power.wpOld = false) ∧ (s.get Fld.WP_STATUS__COUNT 0 < 32)) ∧
    (∃ (s : State), (s.power.wpFrame = true) ∧ (s.power.wpRead = none) ∧ (s.wpMatches = false)) ∧
    (∃ (s : State) (n : Nat), (s.power.wpFrame = true) ∧ (s.power.wpRead = some n) ∧ (s.wpMatches = true)) :=
  ⟨⟨{ wRun with regs := [(⟨.PWR_ALARM_LO, 0⟩, 1)] }, by decide +kernel⟩,
    ⟨wRun, by decide +kernel⟩,
    ⟨{ wRun with power := { wpFrame := true, committed := true } }, by decide +kernel⟩,
    ⟨{ wRun with power := { wpFrame := true } }, by decide +kernel⟩,
    ⟨{ wRun with power := { wpFrame := true, wpRead := some 0, committed := true } }, 0, by decide +kernel⟩⟩

set_option maxRecDepth 20000 in
/-- States and operands that meet the hypotheses of each clause of ClockFailures. -/
theorem witness_ClockFailures :
    (∃ (s : State), (s.pwr ≠ 2)) ∧
    (∃ (s : State), (s.ledger.parking = true)) :=
  ⟨⟨wRun, by decide +kernel⟩,
    ⟨{ wRun with ledger := { parking := true } }, by decide +kernel⟩⟩

set_option maxRecDepth 20000 in
/-- States and operands that meet the hypotheses of each clause of PowerStateEntry. -/
theorem witness_PowerStateEntry :
    (∃ (s : State) (k : Nat), (k < 16) ∧ (s.clusterQuiet k = true) ∧ (s.pwr ≤ 1) ∧ (s.dieRuns .cdie = true)) ∧
    (∃ (s : State) (dma : Bool), (s.sleepReady dma = true) ∧ (s.flag Fld.PWR_IDLE_CFG__SLEEP_FIRN 0 = true) ∧ (s.flag Fld.PWR_IDLE_CFG__SLEEP_KYOTI 0 = true) ∧ (s.flag Fld.PWR_IDLE_CFG__SLEEP_READER 0 = true)) ∧
    (∃ (s : State) (dma : Bool), (s.sleepReady dma = false)) ∧
    (∃ (s : State) (k : Nat), (s.clusterQuiet k = false ∨ 1 < s.pwr)) ∧
    (∃ (s : State) (c : Nat) (off : Bool), (s.pwr ≤ 1) ∧ (s.dropRequest.reqRefusal off = some c)) ∧
    (∃ (s : State) (off : Bool), (s.pwr ≤ 1) ∧ (s.dropRequest.reqRefusal off = none) ∧ (s.dropRequest.frameBusy = true)) ∧
    (∃ (s : State), (s.pwr ≤ 1) ∧ (s.dropRequest.reqRefusal false = none) ∧ (s.dropRequest.frameBusy = false)) ∧
    (∃ (s : State), (s.pwr ≤ 1) ∧ (s.dropRequest.reqRefusal true = none) ∧ (s.dropRequest.frameBusy = false)) ∧
    (∃ (s : State), (s.pwr ≤ 1) ∧ (s.dropRequest.reqRefusal true = none) ∧ (s.dropRequest.frameBusy = false)) ∧
    (∃ (s : State), (1 < s.pwr)) ∧
    (∃ (r : Nat) (c : Nat), (r < 16) ∧ (c < 16)) :=
  ⟨⟨wRun, 3, by decide +kernel⟩,
    ⟨{ State.reset with regs := [(⟨.PWR_STATE, 0⟩, 0xFFFF), (⟨.PWR_IDLE_CFG, 0⟩, 0xF0320040)] }, false, by decide +kernel⟩,
    ⟨wRun, false, by decide +kernel⟩,
    ⟨{ wRun with regs := [(⟨.PWR_STATE, 0⟩, 0x20000)] }, 3, by decide +kernel⟩,
    ⟨wRegs [(⟨.PWR_WAKE_SRC, 0⟩, 1)], 5, false, by decide +kernel⟩,
    ⟨{ wRun with power := { wpFrame := true } }, true, by decide +kernel⟩,
    ⟨wRun, by decide +kernel⟩,
    ⟨wRun, by decide +kernel⟩,
    ⟨wRun, by decide +kernel⟩,
    ⟨{ wRun with regs := [(⟨.PWR_STATE, 0⟩, 0x20000)] }, by decide +kernel⟩,
    ⟨3, 5, by decide +kernel⟩⟩

set_option maxRecDepth 20000 in
/-- States and operands that meet the hypotheses of each clause of WakeAndFrames. -/
theorem witness_WakeAndFrames :
    (∃ (s : State), (s.power.wpFrame = true)) ∧
    (∃ (s : State), (s.input .wake ≠ .undet) ∧ (s.power.entered ≠ 5)) ∧
    (∃ (s : State), (s.input .wake ≠ .undet) ∧ (s.power.entered = 5)) ∧
    (∃ (s : State), (s.input .wake = .undet)) ∧
    (∃ (s : State), (s.power.wpFrame = false)) ∧
    (∃ (s : State) (src : Nat), ((s.wakeSource src).mayWake src = false)) ∧
    (∃ (s : State) (src : Nat), (s.pwr = 2) ∧ ((s.wakeSource src).mayWake src = true)) :=
  ⟨⟨{ wRun with power := { wpFrame := true } }, by decide +kernel⟩,
    ⟨wIn [(.wake, .low)], by decide +kernel⟩,
    ⟨{ wIn [(.wake, .low)] with power := { entered := 5 } }, by decide +kernel⟩,
    ⟨wRun, by decide +kernel⟩,
    ⟨wRun, by decide +kernel⟩,
    ⟨wRun, 1, by decide +kernel⟩,
    ⟨wRegs [(⟨.PWR_STATE, 0⟩, 0x20000), (⟨.PWR_WAKE_EN, 0⟩, 0x3FFF)], 1, by decide +kernel⟩⟩

set_option maxRecDepth 20000 in
/-- States and operands that meet the hypotheses of each clause of ClockRelock. -/
theorem witness_ClockRelock :
    (∃ (s : State), (s.power.raiseTo = none)) ∧
    (∃ (s : State), (s.variant.hasF1 = false)) ∧
    (∃ (s : State), (s.variant.hasF1 = true)) ∧
    (∃ (s : State), (s.isDown = false)) ∧
    (∃ (s : State), (s.power.memFails < 2)) ∧
    (∃ (s : State), (2 ≤ s.power.memFails)) :=
  ⟨⟨wRun, by decide +kernel⟩,
    ⟨{ wRun with variant := .bx9096 }, by decide +kernel⟩,
    ⟨wRun, by decide +kernel⟩,
    ⟨wRun, by decide +kernel⟩,
    ⟨wRun, by decide +kernel⟩,
    ⟨{ wRun with power := { memFails := 2 } }, by decide +kernel⟩⟩

set_option maxRecDepth 20000 in
/-- States and operands that meet the hypotheses of each clause of RailsAndResets. -/
theorem witness_RailsAndResets :
    (∃ (s : State) (r : Rail), (s.boot.badRails.contains r = true)) ∧
    (∃ (s : State), (s.boot.badRails.contains Rail.vaon = false)) ∧
    (∃ (s : State), (s.boot.badRails.contains Rail.vsw = false)) ∧
    (∃ (s : State) (r : Rail), (s.boot.badRails.contains r = false) ∧ (s.isOff = false) ∧ (r = .vddSoc ∨ r = .vio18)) ∧
    (∃ (s : State) (r : Rail), (s.boot.badRails.contains r = false) ∧ (s.isOff = false) ∧ (r = .vddC ∨ r = .vdd2 ∨ r = .vddq)) ∧
    (∃ (s : State) (r : Rail), (s.boot.badRails.contains r = false) ∧ (s.isOff = false) ∧ (r = .vddF0 ∨ r = .vanaF0)) ∧
    (∃ (s : State) (r : Rail), (s.boot.badRails.contains r = false) ∧ (s.isOff = false) ∧ (r = .vddF1 ∨ r = .vanaF1) ∧ (s.variant.hasF1 = true)) ∧
    (∃ (s : State), (s.boot.badRails.contains Rail.vddD = false) ∧ (s.isOff = false) ∧ (s.variant.hasDdie = true)) ∧
    (∃ (s : State), (s.isOff = false)) ∧
    (∃ (s : State), (s.isOff = false)) ∧
    (∃ (s : State), (s.isOff = true)) ∧
    (∃ (s : State) (k : Nat), (s.isOff = false) ∧ (1 ≤ k ∧ k ≤ 5) ∧ (k = 4 → s.boot.resetDue = true)) ∧
    (∃ (k : Nat) (j : Nat), (k < 16) ∧ (j < 16)) ∧
    (∃ (s : State), (s.isOff = false)) ∧
    (∃ (s : State), (s.isOff = false)) ∧
    (∃ (s : State), (s.isOff = false) ∧ (s.variant.hasF1 = true)) ∧
    (∃ (s : State), (s.variant.hasDdie = true) ∧ (s.isDown = false) ∧ ((s.ddieReset true).railsGood .ddie = true)) :=
  ⟨⟨{ wRun with boot := { stopped := [], downLinks := [], badRails := [.vddD] } }, .vddD, by decide +kernel⟩,
    ⟨wRun, by decide +kernel⟩,
    ⟨wRun, by decide +kernel⟩,
    ⟨wRun, .vddSoc, by decide +kernel⟩,
    ⟨wRun, .vdd2, by decide +kernel⟩,
    ⟨wRun, .vanaF0, by decide +kernel⟩,
    ⟨wRun, .vddF1, by decide +kernel⟩,
    ⟨wRun, by decide +kernel⟩,
    ⟨wRun, by decide +kernel⟩,
    ⟨wRun, by decide +kernel⟩,
    ⟨{ wRun with power := { entered := 5 } }, by decide +kernel⟩,
    ⟨wRun, 2, by decide +kernel⟩,
    ⟨2, 1, by decide +kernel⟩,
    ⟨wRun, by decide +kernel⟩,
    ⟨wRun, by decide +kernel⟩,
    ⟨wRun, by decide +kernel⟩,
    ⟨wRun, by decide +kernel⟩⟩

set_option maxRecDepth 20000 in
/-- States and operands that meet the hypotheses of each clause of PortResets. -/
theorem witness_PortResets :
    (∃ (s : State), (s.isOff = false)) ∧
    (∃ (s : State), (s.isOff = false)) ∧
    (∃ (s : State) (p : Port), (s.mayTrain = true) ∧ (s.get Fld.HOST_STATUS__LINK_STATE p.num ≠ 2)) ∧
    (∃ (s : State) (p : Port), (s.mayTrain = true) ∧ (s.get Fld.HOST_STATUS__LINK_STATE p.num = 2)) ∧
    (∃ (s : State), (s.mayTrain = false)) :=
  ⟨⟨wRun, by decide +kernel⟩,
    ⟨wRun, by decide +kernel⟩,
    ⟨wRun, .h0, by decide +kernel⟩,
    ⟨wRegs [(⟨.HOST_STATUS, 0⟩, 0x200)], .h0, by decide +kernel⟩,
    ⟨State.reset, by decide +kernel⟩⟩

set_option maxRecDepth 20000 in
/-- States and operands that meet the hypotheses of each clause of BootChain. -/
theorem witness_BootChain :
    (∃ (s : State), (s.stage = 1) ∧ (s.boot.hot = false) ∧ (s.railsGood .cdie = true) ∧ (s.flag Fld.BOOT_STATUS__FATAL 0 = false) ∧ (s.isOff = false)) ∧
    (∃ (s : State), (s.stage = 2) ∧ (s.boot.hot = false) ∧ (s.railsGood .cdie = true) ∧ (s.flag Fld.BOOT_STATUS__FATAL 0 = false) ∧ (s.isOff = false)) ∧
    (∃ (s : State), (s.stage = 2)) ∧
    (∃ (s : State), (s.stage ≠ 2)) ∧
    (∃ (s : State), (s.flag Fld.BOOT_IMG_LEN__GO 0 = false) ∧ (s.mayFetchImage = true)) ∧
    (∃ (s : State), (s.flag Fld.BOOT_IMG_LEN__GO 0 = true ∨ s.mayFetchImage = false)) ∧
    (∃ (s : State) (i : Inp), (s.input i = .undet) ∧ (s.variant.hasInput i = true)) ∧
    (∃ (s : State) (i : Inp), (s.input i ≠ .undet ∨ s.variant.hasInput i = false)) ∧
    (∃ (s : State) (n : Nat), (s.input (.aux n) = .undet) ∧ (s.boot.indet.contains (.aux n) = false) ∧ (s.variant.hasInput (.aux n) = true)) :=
  ⟨⟨{ State.reset with regs := [(⟨.BOOT_STATUS, 0⟩, 1)] }, by decide +kernel⟩,
    ⟨{ State.reset with regs := [(⟨.BOOT_STATUS, 0⟩, 2)] }, by decide +kernel⟩,
    ⟨{ State.reset with regs := [(⟨.BOOT_STATUS, 0⟩, 2)] }, by decide +kernel⟩,
    ⟨wRun, by decide +kernel⟩,
    ⟨{ State.reset with regs := [(⟨.BOOT_STATUS, 0⟩, 3), (⟨.BOOT_STRAP, 0⟩, 1)] }, by decide +kernel⟩,
    ⟨wRun, by decide +kernel⟩,
    ⟨wRun, .aux 3, by decide +kernel⟩,
    ⟨wIn [(.aux 3, .low)], .aux 3, by decide +kernel⟩,
    ⟨wRun, 3, by decide +kernel⟩⟩

set_option maxRecDepth 20000 in
/-- States and operands that meet the hypotheses of each clause of RingControl. -/
theorem witness_RingControl :
    (∃ (s : State) (p : Port) (c : Nat), (s.enableRefusal p (s.selCq p) (s.ring p (s.selCq p) (s.selIdx p)) = some c)) ∧
    (∃ (s : State) (p : Port) (rd : DmaRead) (tl : Nat), (s.selCq p = false) ∧ (s.enableRefusal p false (s.sq p (s.selIdx p)) = none) ∧ (tailOf (s.sq p (s.selIdx p)) rd = .inl tl)) ∧
    (∃ (s : State) (p : Port) (rd : DmaRead) (c : Nat), (s.selCq p = false) ∧ (s.enableRefusal p false (s.sq p (s.selIdx p)) = none) ∧ (tailOf (s.sq p (s.selIdx p)) rd = .inr c)) ∧
    (∃ (s : State) (p : Port), (s.selCq p = true) ∧ (s.enableRefusal p true (s.cq p (s.selIdx p)) = none) ∧ (s.selIdx p ≠ 0)) ∧
    (∃ (s : State) (p : Port), (s.selCq p = true) ∧ (s.enableRefusal p true (s.cq p (s.selIdx p)) = none) ∧ (s.selIdx p = 0)) ∧
    (∃ (s : State) (p : Port), (s.selCq p = false)) ∧
    (∃ (s : State) (p : Port), (s.selCq p = true) ∧ ((s.host p).boundLive (s.selIdx p) = true)) ∧
    (∃ (s : State) (p : Port), (s.selCq p = true) ∧ ((s.host p).boundLive (s.selIdx p) = false) ∧ ((s.cq p (s.selIdx p)).state = rError)) ∧
    (∃ (s : State) (p : Port), (s.selCq p = true) ∧ ((s.host p).boundLive (s.selIdx p) = false) ∧ ((s.cq p (s.selIdx p)).state ≠ rError)) ∧
    (∃ (s : State) (p : Port), (s.selCq p = false ∨ (s.host p).boundLive (s.selIdx p) = false) ∧ ((s.ring p (s.selCq p) (s.selIdx p)).state = rError)) ∧
    (∃ (s : State) (p : Port), (s.selCq p = true) ∧ ((s.host p).boundLive (s.selIdx p) = true) ∧ ((s.cq p (s.selIdx p)).state = rError)) ∧
    (∃ (s : State) (p : Port), ((s.ring p (s.selCq p) (s.selIdx p)).state ≠ rError)) ∧
    (∃ (s : State) (p : Port), ((s.ring p (s.selCq p) (s.selIdx p)).state = rDisabled)) ∧
    (∃ (s : State) (p : Port), ((s.ring p (s.selCq p) (s.selIdx p)).state ≠ rDisabled)) ∧
    (∃ (s : State) (p : Port), (s.flag Fld.HOST_CTRL__EN p.num = false)) ∧
    (∃ (s : State) (p : Port), (s.flag Fld.HOST_CTRL__EN p.num = true)) ∧
    (∃ (s : State) (p : Port) (q : Nat), ((s.sq p q).state = rDraining) ∧ ((s.sq p q).owed = 0)) ∧
    (∃ (s : State) (p : Port) (q : Nat), ((s.sq p q).state ≠ rDraining ∨ (s.sq p q).owed ≠ 0)) :=
  ⟨⟨{ wRun with h0 := { sq := [(0, { state := 1 })] } }, .h0, 0xA, by decide +kernel⟩,
    ⟨{ wRegs [(⟨.HOST_CTRL, 0⟩, 0x80020064), (⟨.RING_SEL, 0⟩, 1)] with h0 := { bme := true, sq := [(1, { base := 0x1000, record := 0x800, cfg := 0x00000024 })], cq := [(1, { base := 0x8000, record := 0x900, cfg := 0x4, state := 1 })] } }, .h0, .data [3, 0, 0, 0], 3, by decide +kernel⟩,
    ⟨{ wRegs [(⟨.HOST_CTRL, 0⟩, 0x80020064), (⟨.RING_SEL, 0⟩, 1)] with h0 := { bme := true, sq := [(1, { base := 0x1000, record := 0x800, cfg := 0x00000024 })], cq := [(1, { base := 0x8000, record := 0x900, cfg := 0x4, state := 1 })] } }, .h0, .abort 0, 6, by decide +kernel⟩,
    ⟨{ wRegs [(⟨.HOST_CTRL, 0⟩, 0x80020064), (⟨.RING_SEL, 0⟩, 0x21)] with h0 := { bme := true, cq := [(1, { base := 0x8000, record := 0x900, cfg := 0x4 })] } }, .h0, by decide +kernel⟩,
    ⟨{ wRegs [(⟨.HOST_CTRL, 0⟩, 0x80020064), (⟨.RING_SEL, 0⟩, 0x20)] with h0 := { bme := true, cq := [(0, { base := 0x8000, record := 0x900, cfg := 0x4 })] } }, .h0, by decide +kernel⟩,
    ⟨wRun, .h0, by decide +kernel⟩,
    ⟨{ wRegs [(⟨.HOST_CTRL, 0⟩, 0x80020064), (⟨.RING_SEL, 0⟩, 0x21)] with h0 := { bme := true, sq := [(1, { base := 0x1000, record := 0x800, cfg := 0x00000024, state := 1 })], cq := [(1, { base := 0x8000, record := 0x900, cfg := 0x4, state := 1 })] } }, .h0, by decide +kernel⟩,
    ⟨{ wRegs [(⟨.HOST_CTRL, 0⟩, 0x80020064), (⟨.RING_SEL, 0⟩, 0x21)] with h0 := { bme := true, cq := [(1, { base := 0x8000, record := 0x900, cfg := 0x4, state := 5 })] } }, .h0, by decide +kernel⟩,
    ⟨{ wRegs [(⟨.HOST_CTRL, 0⟩, 0x80020064), (⟨.RING_SEL, 0⟩, 0x21)] with h0 := { bme := true, cq := [(1, { base := 0x8000, record := 0x900, cfg := 0x4, state := 1 })] } }, .h0, by decide +kernel⟩,
    ⟨{ wRun with h0 := { sq := [(0, { state := 5 })] } }, .h0, by decide +kernel⟩,
    ⟨{ wRegs [(⟨.HOST_CTRL, 0⟩, 0x80020064), (⟨.RING_SEL, 0⟩, 0x21)] with h0 := { bme := true, sq := [(1, { base := 0x1000, record := 0x800, cfg := 0x00000024, state := 1 })], cq := [(1, { base := 0x8000, record := 0x900, cfg := 0x4, state := 5 })] } }, .h0, by decide +kernel⟩,
    ⟨wRun, .h0, by decide +kernel⟩,
    ⟨wRun, .h0, by decide +kernel⟩,
    ⟨{ wRun with h0 := { sq := [(0, { state := 1 })] } }, .h0, by decide +kernel⟩,
    ⟨State.reset, .h0, by decide +kernel⟩,
    ⟨wRun, .h0, by decide +kernel⟩,
    ⟨{ wRegs [(⟨.HOST_CTRL, 0⟩, 0x80020064)] with h0 := { bme := true, sq := [(1, { base := 0x1000, record := 0x800, cfg := 0x00000024, state := 3 })], cq := [(1, { base := 0x8000, record := 0x900, cfg := 0x4, state := 1 })] } }, .h0, 1, by decide +kernel⟩,
    ⟨{ wRegs [(⟨.HOST_CTRL, 0⟩, 0x80020064)] with h0 := { bme := true, sq := [(1, { base := 0x1000, record := 0x800, cfg := 0x00000024, state := 1 })], cq := [(1, { base := 0x8000, record := 0x900, cfg := 0x4, state := 1 })] } }, .h0, 1, by decide +kernel⟩⟩

set_option maxRecDepth 20000 in
/-- States and operands that meet the hypotheses of each clause of Doorbells. -/
theorem witness_Doorbells :
    (∃ (s : State) (p : Port), (s.flag Fld.HOST_CTRL__EN p.num = false)) ∧
    (∃ (s : State) (p : Port), (s.flag Fld.HOST_CTRL__EN p.num = true)) ∧
    (∃ (s : State) (p : Port) (q : Nat) (tl : Nat) (tail : DmaRead), (s.flag Fld.HOST_CTRL__EN p.num = true) ∧ ((s.host p).holds = false) ∧ ((s.sq p q).state = rActive) ∧ (s.serves = true) ∧ (tailOf (s.sq p q) tail = .inl tl) ∧ (((s.setSq p q { s.sq p q with tail := tl }).host p).turn = some q)) ∧
    (∃ (s : State) (p : Port) (q : Nat) (tl : Nat) (tail : DmaRead), (s.flag Fld.HOST_CTRL__EN p.num = true) ∧ ((s.host p).holds = false) ∧ ((s.sq p q).state = rActive) ∧ (s.serves = true) ∧ (tailOf (s.sq p q) tail = .inl tl) ∧ (((s.setSq p q { s.sq p q with tail := tl }).host p).turn ≠ some q)) ∧
    (∃ (s : State) (p : Port) (q : Nat) (tl : Nat) (tail : DmaRead), (s.flag Fld.HOST_CTRL__EN p.num = true) ∧ ((s.host p).holds = false) ∧ ((s.sq p q).state = rActive) ∧ (s.serves = true) ∧ (tailOf (s.sq p q) tail = .inl tl) ∧ (((s.setSq p q { s.sq p q with tail := tl }).host p).turn = some q)) ∧
    (∃ (s : State) (p : Port) (q : Nat), (s.flag Fld.HOST_CTRL__EN p.num = false ∨ (s.host p).holds = true ∨ (s.sq p q).state ≠ rActive)) ∧
    (∃ (s : State) (p : Port) (q : Nat) (c : Nat) (tail : DmaRead), (s.flag Fld.HOST_CTRL__EN p.num = true) ∧ ((s.host p).holds = false) ∧ ((s.sq p q).state = rActive) ∧ (s.serves = true) ∧ (tailOf (s.sq p q) tail = .inr c)) ∧
    (∃ (s : State) (p : Port) (q : Nat) (tail : DmaRead), ((s.sq p q).state = rActive) ∧ ((s.sq p q).idx = (s.sq p q).tail) ∧ ((s.host p).holds = false) ∧ (s.serves = true) ∧ (tailOf (s.sq p q) tail = .inl (s.sq p q).tail)) ∧
    (∃ (s : State) (p : Port) (q : Nat) (tl : Nat) (tail : DmaRead), (((s.wakeSource (3 + p.num)).sq p q).state = rIdle) ∧ (((s.wakeSource (3 + p.num)).host p).holds = false) ∧ (tailOf { (s.wakeSource (3 + p.num)).sq p q with state := rActive, needKick := false } tail = .inl tl)) ∧
    (∃ (s : State) (p : Port) (q : Nat), (((s.wakeSource (3 + p.num)).sq p q).state = rIdle) ∧ (((s.wakeSource (3 + p.num)).host p).holds = true)) ∧
    (∃ (s : State) (p : Port) (q : Nat), (((s.wakeSource (3 + p.num)).sq p q).state ≠ rIdle)) ∧
    (∃ (s : State) (p : Port) (c : Nat), ((s.cq p c).state ≠ rActive ∨ (s.host p).holds = true ∨ s.needsHead p c = false)) ∧
    (∃ (s : State) (p : Port) (c : Nat), ((s.cq p c).state = rActive) ∧ ((s.host p).holds = false) ∧ (s.needsHead p c = true)) :=
  ⟨⟨State.reset, .h0, by decide +kernel⟩,
    ⟨wRun, .h0, by decide +kernel⟩,
    ⟨{ wRegs [(⟨.HOST_CTRL, 0⟩, 0x80020064)] with h0 := { bme := true, sq := [(1, { base := 0x1000, record := 0x800, cfg := 0x00000024, state := 1 })], cq := [(1, { base := 0x8000, record := 0x900, cfg := 0x4, state := 1 })] } }, .h0, 1, 2, .data [2, 0, 0, 0], by decide +kernel⟩,
    ⟨{ wRegs [(⟨.HOST_CTRL, 0⟩, 0x80020064)] with h0 := { bme := true, sq := [(1, { base := 0x1000, record := 0x800, cfg := 0x00000024, state := 1 })], cq := [(1, { base := 0x8000, record := 0x900, cfg := 0x4, state := 1 })] } }, .h0, 1, 0, .data [0, 0, 0, 0], by decide +kernel⟩,
    ⟨{ wRegs [(⟨.HOST_CTRL, 0⟩, 0x80020064)] with h0 := { bme := true, sq := [(1, { base := 0x1000, record := 0x800, cfg := 0x00000024, state := 1 })], cq := [(1, { base := 0x8000, record := 0x900, cfg := 0x4, state := 1 })] } }, .h0, 1, 2, .data [2, 0, 0, 0], by decide +kernel⟩,
    ⟨wRun, .h0, 5, by decide +kernel⟩,
    ⟨{ wRegs [(⟨.HOST_CTRL, 0⟩, 0x80020064)] with h0 := { bme := true, sq := [(1, { base := 0x1000, record := 0x800, cfg := 0x00000024, state := 1 })], cq := [(1, { base := 0x8000, record := 0x900, cfg := 0x4, state := 1 })] } }, .h0, 1, 6, .abort 0, by decide +kernel⟩,
    ⟨{ wRegs [(⟨.HOST_CTRL, 0⟩, 0x80020064)] with h0 := { bme := true, sq := [(1, { base := 0x1000, record := 0x800, cfg := 0x00000024, state := 1 })], cq := [(1, { base := 0x8000, record := 0x900, cfg := 0x4, state := 1 })] } }, .h0, 1, .data [0, 0, 0, 0], by decide +kernel⟩,
    ⟨{ wRegs [(⟨.HOST_CTRL, 0⟩, 0x80020064)] with h0 := { bme := true, sq := [(1, { base := 0x1000, record := 0x800, cfg := 0x00000024, state := 2 })], cq := [(1, { base := 0x8000, record := 0x900, cfg := 0x4, state := 1 })] } }, .h0, 1, 2, .data [2, 0, 0, 0], by decide +kernel⟩,
    ⟨{ wRun with h0 := { sq := [(1, { cfg := 36, state := 2 })] } }, .h0, 1, by decide +kernel⟩,
    ⟨{ wRegs [(⟨.HOST_CTRL, 0⟩, 0x80020064)] with h0 := { bme := true, sq := [(1, { base := 0x1000, record := 0x800, cfg := 0x00000024, state := 1 })], cq := [(1, { base := 0x8000, record := 0x900, cfg := 0x4, state := 1 })] } }, .h0, 1, by decide +kernel⟩,
    ⟨{ wRegs [(⟨.HOST_CTRL, 0⟩, 0x80020064)] with h0 := { bme := true, sq := [(1, { base := 0x1000, record := 0x800, cfg := 0x00000024, state := 1 })], cq := [(1, { base := 0x8000, record := 0x900, cfg := 0x4, state := 1 })] } }, .h0, 1, by decide +kernel⟩,
    ⟨{ wRegs [(⟨.HOST_CTRL, 0⟩, 0x80020064)] with h0 := { bme := true, sq := [(1, { base := 0x1000, record := 0x800, cfg := 0x00000024, state := 4 })], cq := [(1, { base := 0x8000, record := 0x900, cfg := 0x4, state := 1 })] } }, .h0, 1, by decide +kernel⟩⟩

set_option maxRecDepth 20000 in
/-- States and operands that meet the hypotheses of each clause of HostEvents. -/
theorem witness_HostEvents :
    (∃ (s : State) (p : Port) (c : Nat), ((s.cq p c).unsig ≠ 0)) ∧
    (∃ (s : State) (p : Port) (c : Nat), ((s.cq p c).unsig = 0)) ∧
    (∃ (s : State) (p : Port), (s.get Fld.HOST_EVT_CFG__FAILOVER_MS p.num ≠ 0) ∧ ((s.host p).failedOver = false) ∧ (s.get Fld.HOST_STATUS__LINK_STATE p.num = 0 ∨ (s.host p).bme = false)) ∧
    (∃ (s : State) (p : Port), (s.get Fld.HOST_EVT_CFG__FAILOVER_MS p.num = 0 ∨ (s.host p).failedOver = true ∨ (s.get Fld.HOST_STATUS__LINK_STATE p.num ≠ 0 ∧ (s.host p).bme = true))) ∧
    (∃ (s : State) (d : Desc), (s.accepts 0x00 d = true)) ∧
    (∃ (s : State) (d : Desc), (s.accepts 0x01 d = true) ∧ ((s.taken d).ptpDisciplines = false)) ∧
    (∃ (s : State) (d : Desc), (s.accepts 0x01 d = true) ∧ ((s.taken d).ptpDisciplines = true)) ∧
    (∃ (s : State) (d : Desc) (f : Fetched), (s.serves = true) ∧ ((s.host d.port).fetched.find? (fun f => f.op == 0x00 && f.d == d) = some f) ∧ (s.descWaits 0x00 d f.n = false) ∧ (f.checked = true)) :=
  ⟨⟨{ wRun with h0 := { cq := [(1, { state := 1, unsig := 2 })] } }, .h0, 1, by decide +kernel⟩,
    ⟨wRun, .h0, 1, by decide +kernel⟩,
    ⟨wRun, .h0, by decide +kernel⟩,
    ⟨wRegs [(⟨.HOST_STATUS, 0⟩, 0x100)], .h0, by decide +kernel⟩,
    ⟨wRun, wDesc, by decide +kernel⟩,
    ⟨wRun, wDescT 0 0 [5], by decide +kernel⟩,
    ⟨wRegs [(⟨.ETH_STATUS, 0⟩, 0x10000)], wDescT 0 0 [5], by decide +kernel⟩,
    ⟨{ wRun with h0 := { fetched := [{ op := 0, d := wDesc, epoch := 0, checked := true }] } }, wDesc, { op := 0, d := wDesc, epoch := 0, checked := true }, by decide +kernel⟩⟩

set_option maxRecDepth 20000 in
/-- States and operands that meet the hypotheses of each clause of EthernetPorts. -/
theorem witness_EthernetPorts :
    (∃ (s : State) (p : Nat) (phy : Option (Nat × Bool)), (s.flag Fld.ETH_STATUS__LINK p ≠ (phy == some (1000, true))) ∧ (phy = some (1000, true) → s.dieRuns .cdie = true)) ∧
    (∃ (s : State) (p : Nat) (phy : Option (Nat × Bool)), (s.flag Fld.ETH_STATUS__LINK p = (phy == some (1000, true)))) ∧
    (∃ (s : State) (p : Nat) (f : EthFrame), (f.len ≤ 1522) ∧ (f.vlanTags ≤ 1) ∧ (s.ethFilter p f = true) ∧ (f.etherType = 0x88F7) ∧ (s.pwr ≠ 2)) ∧
    (∃ (s : State) (p : Nat) (f : EthFrame), (f.len ≤ 1522) ∧ (f.vlanTags ≤ 1) ∧ (s.ethFilter p f = true) ∧ (f.etherType = 0x88B5) ∧ (s.cfg.fedSources.contains f.src = true)) ∧
    (∃ (s : State) (p : Nat) (f : EthFrame), (f.len ≤ 1522) ∧ (f.vlanTags ≤ 1) ∧ (s.ethFilter p f = true) ∧ (f.etherType ≠ 0x88F7) ∧ (f.etherType ≠ 0x88B5)) ∧
    (∃ (s : State) (p : Nat) (f : EthFrame), (s.ethFilter p f = false ∨ 1522 < f.len ∨ 1 < f.vlanTags)) ∧
    (∃ (s : State) (p : Nat), (s.ptpOn p = true) ∧ (s.pwr ≠ 2)) ∧
    (∃ (s : State) (p : Nat), (s.ptpOn p = true) ∧ (s.pwr ≠ 2)) ∧
    (∃ (s : State) (p : Nat), (s.ptpOn p = false)) ∧
    (∃ (s : State) (p : Nat) (rx : Int), ((s.ptp p).syncRx = some rx) ∧ (s.ptpOn p = true) ∧ (s.pwr ≤ 1)) ∧
    (∃ (s : State) (p : Nat), (s.flag Fld.ETH_CFG__PTP_EN p = true) ∧ (s.ptpOn p = true) ∧ (s.pwr ≤ 1)) ∧
    (∃ (s : State) (p : Nat), (s.flag Fld.ETH_CFG__PTP_EN p = true) ∧ (s.pwr ≤ 1)) ∧
    (∃ (s : State) (p : Nat), (s.isMaster p = true) ∧ (s.ptpOn p = true) ∧ (s.pwr ≠ 2)) ∧
    (∃ (s : State) (p : Nat), (s.get Fld.ETH_STATUS__PTP_STATE p = 8 ∨ s.get Fld.ETH_STATUS__PTP_STATE p = 9) ∧ (s.ptpOn p = true)) ∧
    (∃ (s : State) (p : Nat), (s.isMaster p = true)) ∧
    (∃ (s : State) (p : Nat), (s.isMaster p = true)) ∧
    (∃ (s : State) (p : Nat), (s.ptpOn p = true) ∧ (s.pwr ≠ 2)) ∧
    (∃ (p : Nat), (p < 2)) ∧
    (∃ (s : State) (p : Nat), (s.get Fld.ETH_STATUS__PTP_STATE p = 8 ∨ s.get Fld.ETH_STATUS__PTP_STATE p = 9)) ∧
    (∃ (s : State), (s.flag Fld.ETH_MDIO__GO 0 = false)) ∧
    (∃ (s : State), (s.flag Fld.ETH_MDIO__GO 0 = true) ∧ ((s.put Fld.ETH_MDIO__GO 0 0).flag Fld.ETH_MDIO__WRITE 0 = false)) :=
  ⟨⟨wRun, 0, some (1000, true), by decide +kernel⟩,
    ⟨wRun, 0, some (100, true), by decide +kernel⟩,
    ⟨wRun, 0, { dst := 0xFFFFFFFFFFFF, src := 0, etherType := 0x88F7, len := 64, vlanTags := 0 }, by decide +kernel⟩,
    ⟨{ wRun with cfg := { fedSources := [9] } }, 0, { dst := 0xFFFFFFFFFFFF, src := 9, etherType := 0x88B5, len := 64, vlanTags := 0 }, by decide +kernel⟩,
    ⟨wRun, 0, { dst := 0xFFFFFFFFFFFF, src := 0, etherType := 0x800, len := 64, vlanTags := 0 }, by decide +kernel⟩,
    ⟨wRun, 0, { dst := 5, src := 0, etherType := 0x800, len := 64, vlanTags := 0 }, by decide +kernel⟩,
    ⟨wRegs [(⟨.ETH_STATUS, 0⟩, 0x88000000)], 0, by decide +kernel⟩,
    ⟨wRegs [(⟨.ETH_STATUS, 0⟩, 0x88000000)], 0, by decide +kernel⟩,
    ⟨wRun, 0, by decide +kernel⟩,
    ⟨{ wRegs [(⟨.ETH_STATUS, 0⟩, 0x88000000)] with eth := { p0 := { syncRx := some 5 } } }, 0, 5, by decide +kernel⟩,
    ⟨wRegs [(⟨.ETH_CFG, 0⟩, 0xC0000000), (⟨.ETH_STATUS, 0⟩, 0x80000000)], 0, by decide +kernel⟩,
    ⟨wRegs [(⟨.ETH_CFG, 0⟩, 0xC0000000)], 0, by decide +kernel⟩,
    ⟨wRegs [(⟨.ETH_STATUS, 0⟩, 0x86000000)], 0, by decide +kernel⟩,
    ⟨wRegs [(⟨.ETH_STATUS, 0⟩, 0x89000000)], 0, by decide +kernel⟩,
    ⟨wRegs [(⟨.ETH_STATUS, 0⟩, 0x86000000)], 0, by decide +kernel⟩,
    ⟨wRegs [(⟨.ETH_STATUS, 0⟩, 0x86000000)], 0, by decide +kernel⟩,
    ⟨wRegs [(⟨.ETH_STATUS, 0⟩, 0x80000000)], 0, by decide +kernel⟩,
    ⟨1, by decide +kernel⟩,
    ⟨wRegs [(⟨.ETH_STATUS, 0⟩, 0x09000000)], 0, by decide +kernel⟩,
    ⟨wRun, by decide +kernel⟩,
    ⟨wRegs [(⟨.ETH_MDIO, 0⟩, 0x80000000)], by decide +kernel⟩⟩

set_option maxRecDepth 20000 in
/-- States and operands that meet the hypotheses of each clause of Mailboxes. -/
theorem witness_Mailboxes :
    (∃ (s : State) (p : Port) (len : Nat), (s.dieRuns .cdie = true) ∧ (s.stage = 0xB) ∧ ((s.chan (.hostFw p)).posted = false) ∧ (badLen len = false) ∧ ((s.chan (.hostFw p)).seq < 65535)) ∧
    (∃ (s : State) (p : Port) (len : Nat), (s.dieRuns .cdie = true) ∧ (s.stage = 0xB) ∧ (s.pwr ≤ 1) ∧ ((s.chan (.hostFw p)).posted = false) ∧ (badLen len = true)) ∧
    (∃ (s : State) (p : Port), (s.dieRuns .cdie = true) ∧ (s.stage = 0xB) ∧ (s.pwr ≤ 1) ∧ ((s.chan (.hostFw p)).posted = true)) ∧
    (∃ (s : State), (s.dieRuns .cdie = true) ∧ (s.stage = 0xB) ∧ (s.pwr ≤ 1)) ∧
    (∃ (s : State), (s.dieRuns .cdie = true) ∧ (s.stage = 0xB) ∧ (s.pwr ≤ 1)) ∧
    (∃ (s : State), (s.dieRuns .cdie = true) ∧ (s.stage = 0xB) ∧ (s.pwr ≤ 1)) ∧
    (∃ (s : State), (s.dieRuns .cdie = true) ∧ (s.stage ≠ 0xB)) ∧
    (∃ (s : State) (d : Desc), (s.accepts 0x40 d = true)) ∧
    (∃ (s : State) (d : Desc), (s.accepts 0x48 d = true)) ∧
    (∃ (s : State) (d : Desc), (s.accepts 0x71 d = true)) ∧
    (∃ (s : State) (d : Desc) (c : Chan), (badLen (DescF.par d 0 2) = false) ∧ (¬ DescF.bufLen d < DescF.par d 0 2) ∧ ((s.chan c).posted = true)) ∧
    (∃ (s : State) (c : Chan) (seq : Nat) (w : MsgWait), (s.waits.find? (fun w => w.chan == c && w.seq == seq) = some w) ∧ ((s.chan c).posted = false ∨ (s.chan c).seq ≠ seq)) ∧
    (∃ (s : State) (c : Chan) (seq : Nat), (s.waits.find? (fun w => w.chan == c && w.seq == seq) = none)) :=
  ⟨⟨wRun, .h0, 8, by decide +kernel⟩,
    ⟨wRun, .h0, 7, by decide +kernel⟩,
    ⟨{ wRun with mbx := [(.hostFw .h0, { posted := true })] }, .h0, by decide +kernel⟩,
    ⟨wRun, by decide +kernel⟩,
    ⟨wRun, by decide +kernel⟩,
    ⟨wRun, by decide +kernel⟩,
    ⟨{ State.reset with boot := { stopped := [] } }, by decide +kernel⟩,
    ⟨wRun, wDescT 0 8 [8], by decide +kernel⟩,
    ⟨wRun, wDescT 0 8 [8], by decide +kernel⟩,
    ⟨{ wRun with cfg := { appClusters := [3] } }, wDescT 24 8 [8], by decide +kernel⟩,
    ⟨{ wRun with mbx := [(.hostFw .h0, { posted := true })] }, wDescT 0 8 [8], .hostFw .h0, by decide +kernel⟩,
    ⟨{ wRun with waits := [{ t := { port := .h0, sq := 1, cmdId := 0, irqNow := false, epoch := 0 }, chan := .hostFw .h0, seq := 3, taken := true, bufAddr := 0, bufLen := 8, kind := 0 }] }, .hostFw .h0, 3, { t := { port := .h0, sq := 1, cmdId := 0, irqNow := false, epoch := 0 }, chan := .hostFw .h0, seq := 3, taken := true, bufAddr := 0, bufLen := 8, kind := 0 }, by decide +kernel⟩,
    ⟨wRun, .hostFw .h0, 3, by decide +kernel⟩⟩

set_option maxRecDepth 20000 in
/-- States and operands that meet the hypotheses of each clause of RegisterAccess. -/
theorem witness_RegisterAccess :
    (∃ (be : BitVec 4), (be ≠ 15)) ∧
    (∃ (s : State) (a : Nat) (r : Reg) (i : Nat), (a % 4 = 0) ∧ (s.dieRuns .cdie = true) ∧ (s.absentAt a = false) ∧ (s.offAt .firmware a = false) ∧ (slotAt a = none) ∧ (hostBlock a = none) ∧ (¬ (0x1C0000 ≤ a ∧ a < 0x200000)) ∧ (s.regAt .firmware a = some (r, i))) ∧
    (∃ (s : State) (p : Port) (a : Nat) (r : Reg) (i : Nat), (a % 4 = 0) ∧ (a < 0x1C0000) ∧ (s.pwr ≤ 1) ∧ (s.dieRuns .cdie = true) ∧ (s.absentAt a = false) ∧ (s.offAt (.host p) a = false) ∧ (slotAt a = none) ∧ (hostBlock a = none) ∧ (s.regAt (.host p) a = some (r, i))) ∧
    (∃ (s : State) (a : Nat) (r : Reg) (i : Nat), (a % 4 = 0) ∧ (s.dieRuns .cdie = true) ∧ (s.absentAt a = false) ∧ (s.offAt .firmware a = false) ∧ (hostBlock a = none) ∧ (s.regAt .firmware a = some (r, i)) ∧ (BitVec.ofNat 32 r.info.w1c ≠ 0)) ∧
    (∃ (s : State) (a : Nat) (r : Reg) (i : Nat), (a % 4 = 0) ∧ (s.dieRuns .cdie = true) ∧ (s.absentAt a = false) ∧ (s.offAt .firmware a = false) ∧ (slotAt a = none) ∧ (s.regAt .firmware a = some (r, i)) ∧ (BitVec.ofNat 32 r.info.rc ≠ 0) ∧ (mirrored r = false)) ∧
    (∃ (s : State) (a : Nat) (r : Reg) (i : Nat), (a % 4 = 0) ∧ (s.dieRuns .cdie = true) ∧ (s.absentAt a = false) ∧ (s.offAt .firmware a = false) ∧ (slotAt a = none) ∧ (s.regAt .firmware a = some (r, i)) ∧ (BitVec.ofNat 32 r.info.rc = 0)) ∧
    (∃ (s : State) (p : Port) (off : Nat) (a : Nat), (off < 0x40000) ∧ (s.pwr ≤ 1) ∧ (s.dieRuns .cdie = true) ∧ (s.absentAt (0x1C0000 + off) = false) ∧ (s.offAt (.host p) (0x1C0000 + off) = false) ∧ (s.aperture p (off / 4 * 4) = some a)) ∧
    (∃ (s : State) (p : Port) (off : Nat) (a : Nat), (off < 0x40000) ∧ (s.dieRuns .cdie = true) ∧ (s.offAt (.host p) (0x1C0000 + off) = false) ∧ (s.aperture p (off / 4 * 4) = some a)) ∧
    (∃ (s : State) (p : Port) (off : Nat), (off < 0x40000) ∧ (s.dieRuns .cdie = true) ∧ (s.offAt (.host p) (0x1C0000 + off) = false) ∧ (s.aperture p (off / 4 * 4) = none)) :=
  ⟨⟨3, by decide +kernel⟩,
    ⟨wRun, 0x10040, .PWR_ALARM_LO, 0, by decide +kernel⟩,
    ⟨wRun, .h1, 0x10040, .PWR_ALARM_LO, 0, by decide +kernel⟩,
    ⟨wRun, 0x10004, .CLK_ERR, 0, by decide +kernel⟩,
    ⟨wRun, 0x10054, .WP_STATUS, 0, by decide +kernel⟩,
    ⟨wRun, 0x10040, .PWR_ALARM_LO, 0, by decide +kernel⟩,
    ⟨{ wRegs [(⟨.SPAD_APER, 0⟩, 0x80000003)] with cfg := { appClusters := [3] } }, .h0, 0x10, 0x200C0010, by decide +kernel⟩,
    ⟨{ wRegs [(⟨.SPAD_APER, 0⟩, 0x80000003)] with cfg := { appClusters := [3] } }, .h0, 0x10, 0x200C0010, by decide +kernel⟩,
    ⟨wRun, .h0, 0x10, by decide +kernel⟩⟩

set_option maxRecDepth 20000 in
/-- States and operands that meet the hypotheses of each clause of ControlCycleBoundary. -/
theorem witness_ControlCycleBoundary :
    (∃ (s : State), (s.devTime = 0)) ∧
    (∃ (s : State), (3 ≤ s.pwr)) ∧
    (∃ (s : State), (s.pwr < 3) ∧ (s.timeOn.dieRuns .cdie = false ∨ s.timeOn.inPause = true ∨ s.timeOn.pwr = 2)) ∧
    (∃ (s : State) (r : List (Nat × List (List Nat))), (s.pwr < 3) ∧ ((r.foldl (fun s x => s.engineStep x.1 x.2) s).timeOn.dieRuns .cdie = true) ∧ ((r.foldl (fun s x => s.engineStep x.1 x.2) s).timeOn.inPause = false) ∧ ((r.foldl (fun s x => s.engineStep x.1 x.2) s).timeOn.stage = 0xB) ∧ ((r.foldl (fun s x => s.engineStep x.1 x.2) s).timeOn.pwr ≠ 2)) :=
  ⟨⟨wRun, by decide +kernel⟩,
    ⟨wRegs [(⟨.PWR_STATE, 0⟩, 0x30000)], by decide +kernel⟩,
    ⟨State.reset, by decide +kernel⟩,
    ⟨wRun, [], by decide +kernel⟩⟩

set_option maxRecDepth 20000 in
/-- States and operands that meet the hypotheses of each clause of EngineAccumulates. -/
theorem witness_EngineAccumulates :
    (∃ (s : State) (n : Nat), (s.engReady n = true)) ∧
    (∃ (s : State) (n : Nat), (s.engReady n = true)) ∧
    (∃ (s : State) (n : Nat), (s.engReady n = true)) ∧
    (∃ (s : State) (n : Nat), (s.engReady n = true)) ∧
    (∃ (s : State) (n : Nat), (s.engReady n = true)) ∧
    (∃ (s : State) (n : Nat), (s.engReady n = true)) :=
  ⟨⟨{ wRun with eng := { core := [(3, {})] } }, 3, by decide +kernel⟩,
    ⟨{ wRun with eng := { core := [(3, {})] } }, 3, by decide +kernel⟩,
    ⟨{ wRun with eng := { core := [(3, {})] } }, 3, by decide +kernel⟩,
    ⟨{ wRun with eng := { core := [(3, {})] } }, 3, by decide +kernel⟩,
    ⟨{ wRun with eng := { core := [(3, {})] } }, 3, by decide +kernel⟩,
    ⟨{ wRun with eng := { core := [(3, {})] } }, 3, by decide +kernel⟩⟩

set_option maxRecDepth 20000 in
/-- States and operands that meet the hypotheses of each clause of EngineResults. -/
theorem witness_EngineResults :
    (∃ (s : State) (n : Nat), (s.engReady n = true)) ∧
    (∃ (s : State) (n : Nat), (s.engReady n = true)) ∧
    (∃ (s : State) (n : Nat), (s.engReady n = true)) ∧
    (∃ (rd : Nat), (rd ≠ 0)) ∧
    (∃ (s : State) (n : Nat), (s.engReady n = true)) ∧
    (∃ (s : State) (n : Nat), (s.engReady n = true)) ∧
    (∃ (s : State) (n : Nat), (s.engReady n = true)) ∧
    (∃ (s : State) (n : Nat), (s.engReady n = true)) ∧
    (∃ (s : State) (n : Nat), (s.engReady n = true)) ∧
    (∃ (s : State) (n : Nat), (s.engReady n = true)) ∧
    (∃ (s : State) (n : Nat) (i : Nat), (s.engReady n = true) ∧ (¬ 15 < i)) ∧
    (∃ (s : State) (n : Nat) (i : Nat), (s.engReady n = true) ∧ (15 < i)) ∧
    (∃ (s : State) (n : Nat), (s.engReady n = true)) ∧
    (∃ (s : State) (n : Nat), (s.engReady n = true)) ∧
    (∃ (s : State) (n : Nat) (i : Nat), (s.engReady n = true) ∧ (2 < i)) ∧
    (∃ (s : State) (n : Nat) (r1 : Nat) (x : Nat) (b : Bool), (s.engReady n = true) ∧ (((s.core n).getX r1 - 4).toNat % 4 = 0) ∧ (s.plainAt n ((s.core n).getX r1 - 4).toNat 16 .load = some (x, b))) ∧
    (∃ (s : State) (n : Nat) (r1 : Nat), (s.engReady n = true) ∧ (((s.core n).getX r1 - 4).toNat % 4 ≠ 0)) :=
  ⟨⟨{ wRun with eng := { core := [(3, {})] } }, 3, by decide +kernel⟩,
    ⟨{ wRun with eng := { core := [(3, {})] } }, 3, by decide +kernel⟩,
    ⟨{ wRun with eng := { core := [(3, {})] } }, 3, by decide +kernel⟩,
    ⟨5, by decide +kernel⟩,
    ⟨{ wRun with eng := { core := [(3, {})] } }, 3, by decide +kernel⟩,
    ⟨{ wRun with eng := { core := [(3, {})] } }, 3, by decide +kernel⟩,
    ⟨{ wRun with eng := { core := [(3, {})] } }, 3, by decide +kernel⟩,
    ⟨{ wRun with eng := { core := [(3, {})] } }, 3, by decide +kernel⟩,
    ⟨{ wRun with eng := { core := [(3, {})] } }, 3, by decide +kernel⟩,
    ⟨{ wRun with eng := { core := [(3, {})] } }, 3, by decide +kernel⟩,
    ⟨{ wRun with eng := { core := [(3, {})] } }, 3, 6, by decide +kernel⟩,
    ⟨{ wRun with eng := { core := [(3, {})] } }, 3, 16, by decide +kernel⟩,
    ⟨{ wRun with eng := { core := [(3, {})] } }, 3, by decide +kernel⟩,
    ⟨{ wRun with eng := { core := [(3, {})] } }, 3, by decide +kernel⟩,
    ⟨{ wRun with eng := { core := [(3, {})] } }, 3, 3, by decide +kernel⟩,
    ⟨{ wRegs [(⟨.ENG_MPU_LIMIT, 48⟩, 0x1FFFF), (⟨.ENG_MPU_BASE, 48⟩, 0)] with eng := { core := [(3, { x := [(5, 0x10004)] })] } }, 3, 5, privAddr 3 0x10000, true, by decide +kernel⟩,
    ⟨{ wRun with eng := { core := [(3, { x := [(5, 0x10002)] })] } }, 3, 5, by decide +kernel⟩⟩

set_option maxRecDepth 20000 in
/-- States and operands that meet the hypotheses of each clause of EngineMemory. -/
theorem witness_EngineMemory :
    (∃ (s : State) (n : Nat) (r1 : Nat) (x : Nat) (imm : W32) (op : LoadOp) (b : Bool), (s.engReady n = true) ∧ (s.plainAt n ((s.core n).addr r1 imm) (loadLen op) .load = some (x, b))) ∧
    (∃ (s : State) (n : Nat) (r1 : Nat) (imm : W32) (op : LoadOp) (r : Option Nat) (b : Bool), (s.engReady n = true) ∧ (s.mpuRefusal n ((s.core n).addr r1 imm) (loadLen op) .load = some (r, b))) ∧
    (∃ (s : State) (n : Nat) (r1 : Nat) (imm : W32) (op : StoreOp) (r : Option Nat) (b : Bool), (s.engReady n = true) ∧ (s.mpuRefusal n ((s.core n).addr r1 imm) (storeLen op) .store = some (r, b))) ∧
    (∃ (s : State) (n : Nat) (r1 : Nat) (x : Nat) (imm : W32) (op : StoreOp) (b : Bool), (s.engReady n = true) ∧ (s.plainAt n ((s.core n).addr r1 imm) (storeLen op) .store = some (x, b)) ∧ ((s.core n).sb.length + (alignedParts x (storeLen op)).length ≤ 8)) ∧
    (∃ (s : State) (n : Nat) (r1 : Nat) (x : Nat), (s.engReady n = true) ∧ (((s.core n).getX r1).toNat % 4 = 0) ∧ (s.plainAt n ((s.core n).getX r1).toNat 4 .load = some (x, true))) ∧
    (∃ (s : State) (n : Nat) (r1 : Nat) (x : Nat), (s.engReady n = true) ∧ (((s.core n).getX r1).toNat % 4 = 0) ∧ (s.plainAt n ((s.core n).getX r1).toNat 4 .atomic = some (x, true)) ∧ (((s.drainSb n).core n).resv = some (x / 32))) ∧
    (∃ (s : State) (n : Nat) (r1 : Nat) (x : Nat), (s.engReady n = true) ∧ (((s.core n).getX r1).toNat % 4 = 0) ∧ (s.plainAt n ((s.core n).getX r1).toNat 4 .atomic = some (x, true)) ∧ (((s.drainSb n).core n).resv ≠ some (x / 32))) ∧
    (∃ (s : State) (n : Nat) (r1 : Nat) (x : Nat), (s.engReady n = true) ∧ (((s.core n).getX r1).toNat % 4 = 0) ∧ (s.plainAt n ((s.core n).getX r1).toNat 4 .atomic = some (x, true))) ∧
    (∃ (s : State) (n : Nat) (r1 : Nat), (s.engReady n = true) ∧ (((s.core n).getX r1).toNat % 4 ≠ 0)) ∧
    (∃ (s : State) (n : Nat), (s.engReady n = true)) ∧
    (∃ (s : State) (n : Nat), (s.engReady n = true)) ∧
    (∃ (s : State) (n : Nat), (s.engReady n = true)) :=
  ⟨⟨{ wRegs [(⟨.ENG_MPU_LIMIT, 48⟩, 0x1FFFF), (⟨.ENG_MPU_BASE, 48⟩, 0)] with eng := { core := [(3, { x := [(5, 0x10000)] })] } }, 3, 5, privAddr 3 0x10004, 4, .lw, true, by decide +kernel⟩,
    ⟨{ wRun with eng := { core := [(3, {})] } }, 3, 5, 4, .lw, none, true, by decide +kernel⟩,
    ⟨{ wRun with eng := { core := [(3, {})] } }, 3, 5, 4, .sw, none, true, by decide +kernel⟩,
    ⟨{ wRegs [(⟨.ENG_MPU_LIMIT, 48⟩, 0x1FFF7), (⟨.ENG_MPU_BASE, 48⟩, 0)] with eng := { core := [(3, { x := [(5, 0x10000)] })] } }, 3, 5, privAddr 3 0x10004, 4, .sw, true, by decide +kernel⟩,
    ⟨{ wRegs [(⟨.ENG_MPU_LIMIT, 48⟩, 0x1FFF7), (⟨.ENG_MPU_BASE, 48⟩, 0)] with eng := { core := [(3, { x := [(5, 0x10000)] })] } }, 3, 5, privAddr 3 0x10000, by decide +kernel⟩,
    ⟨{ wRegs [(⟨.ENG_MPU_LIMIT, 48⟩, 0x1FFF7), (⟨.ENG_MPU_BASE, 48⟩, 0)] with eng := { core := [(3, { x := [(5, 0x10000)], resv := some (privAddr 3 0x10000 / 32) })] } }, 3, 5, privAddr 3 0x10000, by decide +kernel⟩,
    ⟨{ wRegs [(⟨.ENG_MPU_LIMIT, 48⟩, 0x1FFF7), (⟨.ENG_MPU_BASE, 48⟩, 0)] with eng := { core := [(3, { x := [(5, 0x10000)] })] } }, 3, 5, privAddr 3 0x10000, by decide +kernel⟩,
    ⟨{ wRegs [(⟨.ENG_MPU_LIMIT, 48⟩, 0x1FFF7), (⟨.ENG_MPU_BASE, 48⟩, 0)] with eng := { core := [(3, { x := [(5, 0x10000)] })] } }, 3, 5, privAddr 3 0x10000, by decide +kernel⟩,
    ⟨{ wRun with eng := { core := [(3, { x := [(5, 0x10002)] })] } }, 3, 5, by decide +kernel⟩,
    ⟨{ wRun with eng := { core := [(3, {})] } }, 3, by decide +kernel⟩,
    ⟨{ wRun with eng := { core := [(3, {})] } }, 3, by decide +kernel⟩,
    ⟨{ wRun with eng := { core := [(3, {})] } }, 3, by decide +kernel⟩⟩

set_option maxRecDepth 20000 in
/-- States and operands that meet the hypotheses of each clause of EngineTiming. -/
theorem witness_EngineTiming :
    (∃ (s : State) (n : Nat), (s.engReady n = true)) ∧
    (∃ (s : State) (n : Nat), (s.engReady n = true)) ∧
    (∃ (s : State) (n : Nat), (s.engReady n = true)) ∧
    (∃ (s : State) (n : Nat), (s.engReady n = true)) ∧
    (∃ (s : State) (n : Nat), (s.engReady n = true)) ∧
    (∃ (s : State) (n : Nat), (s.engReady n = true) ∧ ((s.core n).dlArm = false)) ∧
    (∃ (s : State) (n : Nat), (s.engReady n = true) ∧ ((s.core n).dlArm = true) ∧ ((s.core n).deadline < s.fcount n)) ∧
    (∃ (s : State) (n : Nat), (s.engReady n = true) ∧ ((s.core n).dlArm = true) ∧ (s.fcount n < (s.core n).deadline)) ∧
    (∃ (s : State) (n : Nat) (rd : Nat), ((s.core n).dlArm = true) ∧ ((s.core n).dlie = false) ∧ ((s.core n).dlWait = some rd) ∧ ((s.core n).deadline ≤ s.fcount n)) ∧
    (∃ (s : State) (n : Nat), ((s.core n).dlArm = true) ∧ ((s.core n).dlie = true) ∧ ((s.core n).dlWait = none) ∧ ((s.core n).deadline ≤ s.fcount n)) ∧
    (∃ (s : State) (n : Nat), ((s.core n).dlArm = false)) ∧
    (∃ (s : State) (n : Nat), (s.engRuns n = false)) ∧
    (∃ (s : State) (n : Nat) (c : Nat), (s.engRuns n = true) ∧ ((s.core n).irqDue = some c)) :=
  ⟨⟨{ wRun with eng := { core := [(3, {})] } }, 3, by decide +kernel⟩,
    ⟨{ wRun with eng := { core := [(3, {})] } }, 3, by decide +kernel⟩,
    ⟨{ wRun with eng := { core := [(3, {})] } }, 3, by decide +kernel⟩,
    ⟨{ wRun with eng := { core := [(3, {})] } }, 3, by decide +kernel⟩,
    ⟨{ wRun with eng := { core := [(3, {})] } }, 3, by decide +kernel⟩,
    ⟨{ wRun with eng := { core := [(3, {})] } }, 3, by decide +kernel⟩,
    ⟨{ wRun with eng := { core := [(3, { dlArm := true })], fc := [(0, 5)] } }, 3, by decide +kernel⟩,
    ⟨{ wRun with eng := { core := [(3, { dlArm := true, deadline := 9 })], fc := [(0, 5)] } }, 3, by decide +kernel⟩,
    ⟨{ wRun with eng := { core := [(3, { dlArm := true, dlWait := some 4 })], fc := [(0, 5)] } }, 3, 4, by decide +kernel⟩,
    ⟨{ wRun with eng := { core := [(3, { dlArm := true, dlie := true })], fc := [(0, 5)] } }, 3, by decide +kernel⟩,
    ⟨{ wRun with eng := { core := [(3, {})] } }, 3, by decide +kernel⟩,
    ⟨{ wRun with eng := { core := [(3, { wfi := true })] } }, 3, by decide +kernel⟩,
    ⟨{ wRun with eng := { core := [(3, { mstatus := 8, mip := 0x10000, mie := 0x10000 })] } }, 3, 16, by decide +kernel⟩⟩

set_option maxRecDepth 20000 in
/-- States and operands that meet the hypotheses of each clause of EngineRetirement. -/
theorem witness_EngineRetirement :
    (∃ (s : State) (n : Nat), (s.engLive n = true) ∧ (s.engState n ≠ eHalted)) ∧
    (∃ (s : State) (n : Nat), (s.engLive n = true) ∧ (s.engState n ≠ eHalted)) ∧
    (∃ (s : State) (n : Nat), (s.engLive n = true) ∧ (s.engState n ≠ eHalted)) ∧
    (∃ (s : State) (n : Nat), (s.engLive n = true) ∧ (s.engState n = eSpare)) ∧
    (∃ (s : State) (n : Nat), (s.engLive n = true) ∧ (s.engState n = eHalted) ∧ (n < 128 → s.stage = 5) ∧ (128 ≤ n → (s.firn (if n < 192 then .f0 else .f1)).runs = false)) ∧
    (∃ (s : State) (n : Nat), (s.engLive n = true) ∧ (s.engState n ≠ eHalted)) ∧
    (∃ (s : State) (n : Nat), (s.engState n ≠ eRetired ∨ s.engGet Fld.ENG_HEALTH__PERMANENT n ≠ 0)) ∧
    (∃ (s : State) (n : Nat), (s.engState n = eRetired)) ∧
    (∃ (s : State) (n : Nat), (s.engLive n = true) ∧ (s.engState n = eRetired) ∧ (s.engGet Fld.ENG_HEALTH__PERMANENT n = 0)) ∧
    (∃ (s : State) (n : Nat), (s.engLive n = true) ∧ (s.engState n = eRetired) ∧ (s.engGet Fld.ENG_HEALTH__PERMANENT n = 0)) ∧
    (∃ (s : State) (n : Nat), (s.engLive n = true) ∧ (s.engState n = eProbation)) ∧
    (∃ (s : State) (n : Nat), (s.engLive n = true) ∧ (s.engState n = eProbation)) ∧
    (∃ (n : Nat), (128 ≤ n)) ∧
    (∃ (k : Nat), (k < 16)) ∧
    (∃ (k : Nat), (16 ≤ k)) ∧
    (∃ (s : State) (n : Nat), (s.engLive n = true) ∧ (n < 128) ∧ (s.engState n = eActive) ∧ ((s.core n).job = none)) ∧
    (∃ (s : State) (n : Nat) (g : Migr), (tabFind s.eng.migr n = some g) ∧ (s.engLive n = true) ∧ (({ s with eng := { s.eng with migr := tabErase s.eng.migr n } } : State).engState n = eLoading)) :=
  ⟨⟨(wRegs [(⟨.ENG_STATE, 3⟩, 1)]), 3, by decide +kernel⟩,
    ⟨(wRegs [(⟨.ENG_STATE, 3⟩, 1)]), 3, by decide +kernel⟩,
    ⟨(wRegs [(⟨.ENG_STATE, 3⟩, 1)]), 3, by decide +kernel⟩,
    ⟨(wRegs [(⟨.ENG_STATE, 3⟩, 2)]), 3, by decide +kernel⟩,
    ⟨{ State.reset with regs := [(⟨.BOOT_STATUS, 0⟩, 5)], boot := { stopped := [], downLinks := [] } }, 3, by decide +kernel⟩,
    ⟨(wRegs [(⟨.ENG_STATE, 3⟩, 4)]), 3, by decide +kernel⟩,
    ⟨(wRegs [(⟨.ENG_STATE, 3⟩, 1)]), 3, by decide +kernel⟩,
    ⟨(wRegs [(⟨.ENG_STATE, 3⟩, 4)]), 3, by decide +kernel⟩,
    ⟨(wRegs [(⟨.ENG_STATE, 3⟩, 4)]), 3, by decide +kernel⟩,
    ⟨(wRegs [(⟨.ENG_STATE, 3⟩, 4)]), 3, by decide +kernel⟩,
    ⟨(wRegs [(⟨.ENG_STATE, 3⟩, 3)]), 3, by decide +kernel⟩,
    ⟨(wRegs [(⟨.ENG_STATE, 3⟩, 3)]), 3, by decide +kernel⟩,
    ⟨130, by decide +kernel⟩,
    ⟨3, by decide +kernel⟩,
    ⟨19, by decide +kernel⟩,
    ⟨(wRegs [(⟨.ENG_STATE, 3⟩, 1)]), 3, by decide +kernel⟩,
    ⟨{ wFregs [(⟨.FENG_STATE, 5⟩, 5)] with eng := { migr := [(133, { old := 130, points := [(2, 90)] })] } }, 133, { old := 130, points := [(2, 90)] }, by decide +kernel⟩⟩

set_option maxRecDepth 20000 in
/-- States and operands that meet the hypotheses of each clause of EngineJobs. -/
theorem witness_EngineJobs :
    (∃ (s : State) (n : Nat), (s.engReady n = true) ∧ ((s.core n).mach = false) ∧ ((s.core n).job.isNone = false)) ∧
    (∃ (s : State) (n : Nat), (s.engReady n = true) ∧ ((s.core n).mach = false) ∧ ((s.core n).job.isNone = false)) ∧
    (∃ (s : State) (n : Nat), (s.engReady n = true) ∧ ((s.core n).mach = false) ∧ ((s.core n).job.isNone = false)) ∧
    (∃ (s : State) (n : Nat), (s.engReady n = true) ∧ ((s.core n).mach = false) ∧ ((s.core n).job.isNone = false) ∧ (s.cfg.appPoints.contains ((s.core n).getX 10).toNat = false)) ∧
    (∃ (s : State) (n : Nat) (b : List Byte), (s.engReady n = true) ∧ ((s.core n).mach = false) ∧ ((s.core n).job.isNone = false) ∧ (s.cfg.appPoints.contains ((s.core n).getX 10).toNat = true) ∧ ((s.section_ ((s.core n).getX 10).toNat 0).getD [] = b) ∧ (0x10000 ≤ ((s.core n).getX 11).toNat) ∧ (((s.core n).getX 11).toNat + b.length ≤ 0x20000)) ∧
    (∃ (s : State) (n : Nat), (s.engReady n = true) ∧ ((s.core n).mach = true)) ∧
    (∃ (s : State) (item : Nat) (n : Nat) (t : TaskCfg), (tabFind s.cfg.tasks item = some t) ∧ (tabFind s.cfg.taskEngine item = some n) ∧ (s.taskHeld item n = false) ∧ (s.engGet Fld.ENG_STATE__STATE n = eActive)) ∧
    (∃ (s : State) (n : Nat) (item : Nat) (rel : Nat), ((s.core n).job = some (item, rel))) ∧
    (∃ (s : State) (n : Nat) (item : Nat) (rel : Nat), ((s.core n).job = some (item, rel))) ∧
    (∃ (s : State) (d : Desc), (s.accepts 0x70 d = true) ∧ ((s.taken d).cfg.appClusters.contains d.target.toNat = false)) ∧
    (∃ (s : State) (d : Desc) (b : List Byte) (im : List Byte) (dm : List Byte), (s.accepts 0x70 d = true) ∧ ((s.taken d).cfg.appClusters.contains d.target.toNat = true) ∧ (tabFind (s.taken d).cfg.appHash d.target.toNat = some (Config.digest 1 (b.map (·.toNat)))) ∧ (im.length ≤ 65536) ∧ (dm.length ≤ 65536)) :=
  ⟨⟨{ wRegs [(⟨.ENG_STATE, 3⟩, 1)] with eng := { core := [(3, { mach := false, job := some (7, 90) })] }, cfg := { tasks := [(7, { entry := 0x100 })], taskEngine := [(7, 3)] } }, 3, by decide +kernel⟩,
    ⟨{ wRegs [(⟨.ENG_STATE, 3⟩, 1)] with eng := { core := [(3, { mach := false, job := some (7, 90) })] }, cfg := { tasks := [(7, { entry := 0x100 })], taskEngine := [(7, 3)] } }, 3, by decide +kernel⟩,
    ⟨{ wRegs [(⟨.ENG_STATE, 3⟩, 1)] with eng := { core := [(3, { mach := false, job := some (7, 90) })] }, cfg := { tasks := [(7, { entry := 0x100 })], taskEngine := [(7, 3)] } }, 3, by decide +kernel⟩,
    ⟨{ wRegs [(⟨.ENG_STATE, 3⟩, 1)] with eng := { core := [(3, { mach := false, job := some (7, 90) })] }, cfg := { tasks := [(7, { entry := 0x100 })], taskEngine := [(7, 3)] } }, 3, by decide +kernel⟩,
    ⟨{ wRegs [(⟨.ENG_STATE, 3⟩, 1)] with eng := { core := [(3, { mach := false, job := some (7, 90), x := [(10, 4), (11, 0x10000)] })] }, cfg := { appPoints := [4] } }, 3, [], by decide +kernel⟩,
    ⟨{ wRegs [(⟨.ENG_STATE, 3⟩, 1)] with eng := { core := [(3, { mach := true })] }, cfg := { tasks := [(7, { entry := 0x100 })], taskEngine := [(7, 3)] } }, 3, by decide +kernel⟩,
    ⟨{ wRegs [(⟨.ENG_STATE, 3⟩, 1)] with eng := { core := [(3, {})] }, cfg := { tasks := [(7, { entry := 0x100 })], taskEngine := [(7, 3)] } }, 7, 3, { entry := 0x100 }, by decide +kernel⟩,
    ⟨{ wRegs [(⟨.ENG_STATE, 3⟩, 1)] with eng := { core := [(3, { job := some (7, 90) })] }, cfg := { tasks := [(7, { entry := 0x100 })], taskEngine := [(7, 3)] } }, 3, 7, 90, by decide +kernel⟩,
    ⟨{ wRegs [(⟨.ENG_STATE, 3⟩, 1)] with eng := { core := [(3, { job := some (7, 90) })] }, cfg := { tasks := [(7, { entry := 0x100 })], taskEngine := [(7, 3)] } }, 3, 7, 90, by decide +kernel⟩,
    ⟨wRun, wDescT 9 16 [], by decide +kernel⟩,
    ⟨{ wRun with cfg := { appClusters := [3], appHash := [(3, Config.digest 1 [])] } }, wDescT 3 16 [], [], [], [], by decide +kernel, by decide +kernel, rfl, by decide, by decide⟩⟩

set_option maxRecDepth 20000 in
/-- States and operands that meet the hypotheses of each clause of LegalMarks. -/
theorem witness_LegalMarks :
    (∃ (s : State) (d : Firn), (s.firnLive d = true) ∧ (s.linkUp d.link = true)) ∧
    (∃ (s : State) (d : Firn), (s.firnLive d = false ∨ s.linkUp d.link = false)) ∧
    (∃ (s : State) (d : Firn), (s.firnLive d = true)) ∧
    (∃ (s : State) (d : Firn), (s.firnLive d = true) ∧ ((s.firn d).restart = true)) ∧
    (∃ (s : State) (d : Firn) (dev : Nat), ((s.firn d).timeSet = none) ∧ ((s.firn d).restart = true) ∧ (dev = 0)) ∧
    (∃ (s : State) (d : Firn), ((s.firn d).pfw = none) ∧ ((s.firn d).runs = true)) ∧
    (∃ (s : State) (d : Firn), ((s.firn d).pfw.isSome = true ∨ (s.firn d).runs = false)) ∧
    (∃ (s : State) (p : Nat), ((s.eng.migr.any fun x => x.2.points.any (·.1 == p)) = false)) ∧
    (∃ (s : State) (d : Firn), ((s.firn d).pfw = none ∨ (s.firn d).pfwHigh = false)) ∧
    (∃ (s : State) (d : Firn), ((s.firn d).pfw.isSome = true) ∧ ((s.firn d).pfwHigh = true) ∧ ((s.firn d).runs = true)) ∧
    (∃ (s : State) (d : Firn), ((s.firn d).runs = false) ∧ (d = .f1 → s.variant.hasF1 = true) ∧ (s.railsGood d.die = true) ∧ (s.isDown = false) ∧ ((s.firn d).waking = false ∨ s.pwr ≠ 2)) ∧
    (∃ (s : State) (d : Firn), ((s.firn d).runs = true)) ∧
    (∃ (s : State) (d : Firn), ((s.firn d).restart = false)) :=
  ⟨⟨wFirn, .f0, by decide +kernel⟩,
    ⟨State.reset, .f0, by decide +kernel⟩,
    ⟨wFirn, .f1, by decide +kernel⟩,
    ⟨{ wFirn with f0 := { runs := true, started := true, restart := true } }, .f0, by decide +kernel⟩,
    ⟨{ wFirn with f0 := { runs := true, started := true, restart := true } }, .f0, 0, by decide +kernel⟩,
    ⟨wFirn, .f0, by decide +kernel⟩,
    ⟨{ wRun with f0 := { runs := false } }, .f0, by decide +kernel⟩,
    ⟨wFirn, 3, by decide +kernel⟩,
    ⟨wFirn, .f0, by decide +kernel⟩,
    ⟨{ wFirn with f0 := { runs := true, started := true, pfw := some (5000, 7) } }, .f0, by decide +kernel⟩,
    ⟨wRun, .f1, by decide +kernel⟩,
    ⟨wFirn, .f0, by decide +kernel⟩,
    ⟨wFirn, .f0, by decide +kernel⟩⟩

set_option maxRecDepth 20000 in
/-- States and operands that meet the hypotheses of each clause of LegalRequests. -/
theorem witness_LegalRequests :
    (∃ (s : State) (c : Chan) (d : Firn), (s.takes c 0x0105 d = true)) ∧
    (∃ (s : State) (c : Chan) (d : Firn), (s.takes c 0x0103 d = true) ∧ (zeroOutside (s.reqBytes c) [(0, 3), (8, 15)] = true) ∧ ((s.clearDb c 1).sealed d = true)) ∧
    (∃ (s : State) (c : Chan) (d : Firn), (s.takes c 0x0103 d = true) ∧ (zeroOutside (s.reqBytes c) [(0, 3), (8, 15)] = true) ∧ ((s.clearDb c 1).sealed d = false) ∧ ((s.clearDb c 1).calFull d = false)) ∧
    (∃ (s : State) (c : Chan) (d : Firn), (s.takes c 0x0104 d = true) ∧ (field (s.reqBytes c) 4 1 < 8) ∧ (field (s.reqBytes c) 5 1 < 2) ∧ ((s.clearDb c 1).ownsPoint d (field (s.reqBytes c) 6 2) = true) ∧ (field (s.reqBytes c) 8 1 < 8) ∧ (field (s.reqBytes c) 9 1 = 0) ∧ (1 ≤ field (s.reqBytes c) 10 2) ∧ (field (s.reqBytes c) 10 2 ≤ 80) ∧ (1 ≤ field (s.reqBytes c) 12 8) ∧ (field (s.reqBytes c) 12 8 ≤ 10 ^ 12)) ∧
    (∃ (s : State) (c : Chan) (d : Firn), (s.takes c 0x0104 d = true) ∧ (field (s.reqBytes c) 10 2 < 1 ∨ 80 < field (s.reqBytes c) 10 2 ∨ 8 ≤ field (s.reqBytes c) 4 1)) ∧
    (∃ (s : State) (c : Chan) (d : Firn), (s.takes c 0x0102 d = true) ∧ (scheduleOk (s.reqBytes c) = true) ∧ (((s.clearDb c 1).diePoints d).any (fun p => ((s.clearDb c 1).pcfg p).sched == field (s.reqBytes c) 4 1 && decide (((s.clearDb c 1).pcfg p).rates ≤ topRate (s.reqBytes c))) = true)) ∧
    (∃ (s : State) (c : Chan) (d : Firn), (s.takes c 0x0102 d = true) ∧ (scheduleOk (s.reqBytes c) = false)) ∧
    (∃ (s : State) (c : Chan) (d : Firn), (s.takes c 0x0102 d = true) ∧ (scheduleOk (s.reqBytes c) = true) ∧ (((s.clearDb c 1).diePoints d).any (fun p => ((s.clearDb c 1).pcfg p).sched == field (s.reqBytes c) 4 1 && decide (((s.clearDb c 1).pcfg p).rates ≤ topRate (s.reqBytes c))) = false) ∧ ((s.clearDb c 1).morRefuses d 12 = false)) ∧
    (∃ (s : State) (c : Chan) (d : Firn), (s.takes c 0x0106 d = true) ∧ ((s.clearDb c 1).ownsPoint d (field (s.reqBytes c) 4 2) = false)) ∧
    (∃ (s : State) (c : Chan) (d : Firn), (s.takes c 0x0106 d = true) ∧ ((s.clearDb c 1).ownsPoint d (field (s.reqBytes c) 4 2) = true)) ∧
    (∃ (s : State) (c : Chan) (d : Firn), (s.takes c 0x0101 d = true)) :=
  ⟨⟨wReq 0x0105 [], .fwFirn .f0, .f0, by decide +kernel⟩,
    ⟨wReq 0x0103 [0, 0, 0, 0, 5], .fwFirn .f0, .f0, by decide +kernel⟩,
    ⟨{ wReq 0x0103 [0, 0, 0, 0, 5] with boot := { stopped := [], downLinks := [], inputs := [(.seal .f0, .high)] }, regs := (⟨.FIRN_STATUS, 0⟩, 0) :: wRun.regs }, .fwFirn .f0, .f0, by decide +kernel⟩,
    ⟨{ wReq 0x0104 [2, 1, 4, 0, 0, 0, 20, 0, 100] with cfg := { points := [(4, { commodity := 1 })] } }, .fwFirn .f0, .f0, by decide +kernel⟩,
    ⟨wReq 0x0104 [9], .fwFirn .f0, .f0, by decide +kernel⟩,
    ⟨{ wReq 0x0102 ([1, 1, 0, 0] ++ List.replicate 8 0 ++ [5, 0, 0, 0, 1] ++ List.replicate 127 0 ++ [1, 1]) with cfg := { points := [(4, { commodity := 1, rates := 0, sched := 1 })] } }, .fwFirn .f0, .f0, by decide +kernel⟩,
    ⟨wReq 0x0102 [9], .fwFirn .f0, .f0, by decide +kernel⟩,
    ⟨wReq 0x0102 ([1, 1, 0, 0] ++ List.replicate 8 0 ++ [5, 0, 0, 0, 1] ++ List.replicate 127 0 ++ [1, 1]), .fwFirn .f0, .f0, by decide +kernel⟩,
    ⟨wReq 0x0106 [], .fwFirn .f0, .f0, by decide +kernel⟩,
    ⟨{ wReq 0x0106 [4] with cfg := { points := [(4, { commodity := 1 })] } }, .fwFirn .f0, .f0, by decide +kernel⟩,
    ⟨wReq 0x0101 [], .fwFirn .f0, .f0, by decide +kernel⟩⟩

set_option maxRecDepth 20000 in
/-- States and operands that meet the hypotheses of each clause of LegalRecords. -/
theorem witness_LegalRecords :
    (∃ (s : State) (d : Firn) (high : Bool), (s.firnLive d = true) ∧ (s.input (.seal d) = if high then Level.low else Level.high)) ∧
    (∃ (s : State) (d : Firn) (high : Bool), (s.input (.seal d) = if high then Level.high else Level.low)) ∧
    (∃ (s : State) (d : Firn), (s.input (.seal d) = .undet)) ∧
    (∃ (s : State) (d : Firn) (magnet : Bool) (high : Bool), (s.input (if magnet then Inp.magnet d else .cover d) = if high then .high else .low)) ∧
    (∃ (s : State) (d : Firn) (magnet : Bool) (high : Bool), (s.input (if magnet then Inp.magnet d else .cover d) ≠ if high then .high else .low)) ∧
    (∃ (s : State) (d : Firn), (s.firnLive d = true)) ∧
    (∃ (s : State) (d : Firn) (v : W32), (v ≠ s.reg .FIRN_CHECK_REF d.num) ∧ (s.flag Fld.FIRN_STATUS__HALT_FW d.num = true)) ∧
    (∃ (s : State) (d : Firn) (k : Nat), (s.firnLive d = true) ∧ (s.flag Fld.PTO_CFG__EN (ptoIdx d k) = true) ∧ (s.mpState (s.get Fld.PTO_CFG__POINT (ptoIdx d k)) = mpMetering) ∧ (s.get Fld.PTO_COUNT__PULSES (ptoIdx d k) + (s.pto d k).queued < s.ptoDue d k) ∧ ((s.pto d k).on = false)) ∧
    (∃ (s : State) (d : Firn) (k : Nat), (s.firnLive d = true) ∧ (s.flag Fld.PTO_CFG__EN (ptoIdx d k) = true) ∧ (s.mpState (s.get Fld.PTO_CFG__POINT (ptoIdx d k)) = mpMetering) ∧ (s.get Fld.PTO_COUNT__PULSES (ptoIdx d k) + (s.pto d k).queued < s.ptoDue d k) ∧ ((s.pto d k).on = true) ∧ ((s.pto d k).queued < 65535)) ∧
    (∃ (s : State) (d : Firn) (k : Nat), ((s.pto d k).on = true) ∧ ((s.pto d k).queued ≠ 0)) ∧
    (∃ (s : State) (d : Firn) (k : Nat), ((s.pto d k).on = true) ∧ ((s.pto d k).queued = 0)) ∧
    (∃ (s : State) (p : Nat), (s.firnLive (s.pcfg p).die = true) ∧ ((s.mp p).final = true) ∧ ((s.mp p).recFormed = false) ∧ ((s.firn (s.pcfg p).die).outage = none) ∧ (s.mpState p = mpFrozen)) ∧
    (∃ (s : State) (p : Nat), ((s.mp p).final = false ∨ (s.mp p).recFormed = true)) ∧
    (∃ (s : State) (d : Desc) (r : Rec), (s.accepts 0x41 d = true) ∧ (((s.taken d).firn ((s.taken d).pcfg d.target.toNat).die).records.filter (fun r => r.point == d.target.toNat && (DescF.par d 0 4 == 0 || r.seq == DescF.par d 0 4)) |>.getLast? |> fun x => x = some r)) ∧
    (∃ (s : State) (d : Desc), (s.accepts 0x41 d = true) ∧ (((s.taken d).firn ((s.taken d).pcfg d.target.toNat).die).records = [])) ∧
    (∃ (s : State) (d : Firn), (s.firnLive d = true)) ∧
    (∃ (s : State) (d : Firn), (s.sealed d = true)) ∧
    (∃ (s : State) (d : Firn), (s.firnLive d = true)) ∧
    (∃ (s : State) (d : Firn) (k : Nat) (idx : Nat) (sc : Sched), (s.firnLive d = true) ∧ (tabFind (s.firn d).schedPend k = some sc) ∧ (sc.activate ≤ (s.firn d).legal idx) ∧ (s.morRoom d 12 = true)) :=
  ⟨⟨{ wFirn with boot := { stopped := [], downLinks := [], inputs := [(.seal .f0, .low)] } }, .f0, true, by decide +kernel⟩,
    ⟨wIn [(.seal .f0, .low)], .f0, false, by decide +kernel⟩,
    ⟨wFirn, .f0, by decide +kernel⟩,
    ⟨{ wFirn with boot := { stopped := [], downLinks := [], inputs := [(.cover .f0, .high)] } }, .f0, false, true, by decide +kernel⟩,
    ⟨{ wFirn with boot := { stopped := [], downLinks := [], inputs := [(.cover .f0, .low)] } }, .f0, false, true, by decide +kernel⟩,
    ⟨wFirn, .f0, by decide +kernel⟩,
    ⟨wFregs [(⟨.FIRN_STATUS, 0⟩, 0xFFFFFFFF)], .f0, 5, by decide +kernel⟩,
    ⟨{ wFregs [(⟨.PTO_CFG, 0⟩, 0xFFFFFFFF &&& 0x80000000), (⟨.MP_STATE, 0⟩, 0xFFFFFFFF &&& 0x2)] with f0 := { runs := true, started := true, pto := [(0, { qpp := 1 })] }, points := [(0, { tot := [(0, 2 ^ 100)] })] }, .f0, 0, by decide +kernel⟩,
    ⟨{ wFregs [(⟨.PTO_CFG, 0⟩, 0xFFFFFFFF &&& 0x80000000), (⟨.MP_STATE, 0⟩, 0xFFFFFFFF &&& 0x2)] with f0 := { runs := true, started := true, pto := [(0, { qpp := 1, on := true })] }, points := [(0, { tot := [(0, 2 ^ 100)] })] }, .f0, 0, by decide +kernel⟩,
    ⟨{ wFirn with f0 := { runs := true, started := true, pto := [(0, { on := true, queued := 2 })] } }, .f0, 0, by decide +kernel⟩,
    ⟨{ wFirn with f0 := { runs := true, started := true, pto := [(0, { on := true })] } }, .f0, 0, by decide +kernel⟩,
    ⟨{ wFregs [(⟨.MP_STATE, 0⟩, 3)] with points := [(0, { recFormed := false })] }, 0, by decide +kernel⟩,
    ⟨wFirn, 0, by decide +kernel⟩,
    ⟨{ wFirn with cfg := { points := [(4, { commodity := 1 })] }, f0 := { runs := true, started := true, records := [{ seq := 9, point := 4, bytes := [] }] } }, wDescT 4 1024 [], { seq := 9, point := 4, bytes := [] }, by decide +kernel⟩,
    ⟨{ wRun with cfg := { points := [(4, { commodity := 1 })] } }, wDescT 4 1024 [], by decide +kernel⟩,
    ⟨wFirn, .f0, by decide +kernel⟩,
    ⟨wFirn, .f0, by decide +kernel⟩,
    ⟨wFirn, .f0, by decide +kernel⟩,
    ⟨{ wFirn with f0 := { runs := true, started := true, schedPend := [(1, { id := 5, activate := 0, body := [] })] } }, .f0, 1, 1017, { id := 5, activate := 0, body := [] }, by decide +kernel⟩⟩

set_option maxRecDepth 20000 in
/-- States and operands that meet the hypotheses of each clause of ChannelCalibration. -/
theorem witness_ChannelCalibration :
    (∃ (s : State) (c : Chan) (d : Firn), (s.takes c 0x0201 d = true) ∧ (zeroOutside (s.reqBytes c) [(0, 5), (8, 11)] = true) ∧ (1024 ≤ field (s.reqBytes c) 8 4) ∧ (field (s.reqBytes c) 8 4 ≤ 16384) ∧ (chOn d (field (s.reqBytes c) 4 2) = true)) ∧
    (∃ (s : State) (c : Chan) (d : Firn), (s.takes c 0x0201 d = true) ∧ (zeroOutside (s.reqBytes c) [(0, 5), (8, 11)] = false ∨ field (s.reqBytes c) 8 4 < 1024 ∨ 16384 < field (s.reqBytes c) 8 4)) ∧
    (∃ (s : State) (c : Chan) (d : Firn), (s.takes c 0x0201 d = true) ∧ (zeroOutside (s.reqBytes c) [(0, 5), (8, 11)] = true) ∧ (1024 ≤ field (s.reqBytes c) 8 4) ∧ (field (s.reqBytes c) 8 4 ≤ 16384) ∧ (chOn d (field (s.reqBytes c) 4 2) = false)) ∧
    (∃ (s : State) (d : Firn) (raw : List (Nat × Int)) (m : CalMeas), ((s.firn d).measure.find? (·.n == raw.length) = some m)) ∧
    (∃ (s : State) (d : Firn) (raw : List (Nat × Int)), ((s.firn d).measure.find? (·.n == raw.length) = none)) ∧
    (∃ (s : State) (c : Chan) (d : Firn), (s.takes c 0x0202 d = true) ∧ (zeroOutside (s.reqBytes c) [(0, 5), (8, 19)] = true) ∧ ((s.clearDb c 1).sealed d = true)) ∧
    (∃ (s : State) (c : Chan) (d : Firn), (s.takes c 0x0202 d = true) ∧ (zeroOutside (s.reqBytes c) [(0, 5), (8, 19)] = true) ∧ ((s.clearDb c 1).sealed d = false) ∧ (chOn d (field (s.reqBytes c) 4 2) = false)) ∧
    (∃ (s : State) (c : Chan) (d : Firn), (s.takes c 0x0204 d = true) ∧ ((zeroOutside (s.reqBytes c) [(0, 5), (8, 15)] && !tauTooLong (signedOf 32 (field (s.reqBytes c) 8 4)) (signedOf 32 (field (s.reqBytes c) 12 4))) = true) ∧ ((s.clearDb c 1).sealed d = false) ∧ (chOn d (field (s.reqBytes c) 4 2) = false)) ∧
    (∃ (s : State) (c : Chan) (d : Firn), (s.takes c 0x0202 d = true) ∧ (zeroOutside (s.reqBytes c) [(0, 5), (8, 19)] = true) ∧ ((s.clearDb c 1).sealed d = false) ∧ (chOn d (field (s.reqBytes c) 4 2) = true) ∧ ((s.clearDb c 1).chBusy (field (s.reqBytes c) 4 2) = false) ∧ ((s.clearDb c 1).calFull d = false)) ∧
    (∃ (s : State) (c : Chan) (d : Firn), (s.takes c 0x0204 d = true) ∧ ((zeroOutside (s.reqBytes c) [(0, 5), (8, 15)] && !tauTooLong (signedOf 32 (field (s.reqBytes c) 8 4)) (signedOf 32 (field (s.reqBytes c) 12 4))) = true) ∧ ((s.clearDb c 1).sealed d = false) ∧ (chOn d (field (s.reqBytes c) 4 2) = true) ∧ ((s.clearDb c 1).chBusy (field (s.reqBytes c) 4 2) = false) ∧ ((s.clearDb c 1).calFull d = false)) ∧
    (∃ (s : State) (c : Chan) (d : Firn), (s.takes c 0x0204 d = true) ∧ ((zeroOutside (s.reqBytes c) [(0, 5), (8, 15)] && !tauTooLong (signedOf 32 (field (s.reqBytes c) 8 4)) (signedOf 32 (field (s.reqBytes c) 12 4))) = true) ∧ ((s.clearDb c 1).sealed d = true)) ∧
    (∃ (s : State) (c : Chan) (d : Firn), (s.takes c 0x0203 d = true) ∧ ((zeroOutside (s.reqBytes c) [(0, 4)] && decide (field (s.reqBytes c) 4 1 ≤ 1)) = true) ∧ ((s.clearDb c 1).sealed d = true)) ∧
    (∃ (s : State) (c : Chan) (d : Firn), (s.takes c 0x0203 d = true) ∧ ((zeroOutside (s.reqBytes c) [(0, 4)] && decide (field (s.reqBytes c) 4 1 ≤ 1)) = true) ∧ ((s.clearDb c 1).sealed d = false) ∧ ((s.clearDb c 1).calFull d = false)) :=
  ⟨⟨wReq 0x0201 [5, 0, 0, 0, 0, 8], .fwFirn .f0, .f0, by decide +kernel⟩,
    ⟨wReq 0x0201 [5, 0, 0, 0, 0, 0, 8], .fwFirn .f0, .f0, by decide +kernel⟩,
    ⟨wReq 0x0201 [200, 0, 0, 0, 0, 8], .fwFirn .f0, .f0, by decide +kernel⟩,
    ⟨{ wFirn with f0 := { runs := true, measure := [{ chan := .fwFirn .f0, seq := 1, ch := 0, n := 2 }] } }, .f0, [(0, 1), (0, 3)], { chan := .fwFirn .f0, seq := 1, ch := 0, n := 2 }, by decide +kernel⟩,
    ⟨wFirn, .f0, [], by decide +kernel⟩,
    ⟨wReq 0x0202 [], .fwFirn .f0, .f0, by decide +kernel⟩,
    ⟨{ wReq 0x0202 [200] with regs := (⟨.FIRN_STATUS, 0⟩, 0) :: wRun.regs }, .fwFirn .f0, .f0, by decide +kernel⟩,
    ⟨{ wReq 0x0204 [200] with regs := (⟨.FIRN_STATUS, 0⟩, 0) :: wRun.regs }, .fwFirn .f0, .f0, by decide +kernel⟩,
    ⟨{ wReq 0x0202 [] with regs := (⟨.FIRN_STATUS, 0⟩, 0) :: wRun.regs }, .fwFirn .f0, .f0, by decide +kernel⟩,
    ⟨{ wReq 0x0204 [] with regs := (⟨.FIRN_STATUS, 0⟩, 0) :: wRun.regs }, .fwFirn .f0, .f0, by decide +kernel⟩,
    ⟨wReq 0x0204 [], .fwFirn .f0, .f0, by decide +kernel⟩,
    ⟨wReq 0x0203 [1], .fwFirn .f0, .f0, by decide +kernel⟩,
    ⟨{ wReq 0x0203 [1] with regs := (⟨.FIRN_STATUS, 0⟩, 0) :: wRun.regs }, .fwFirn .f0, .f0, by decide +kernel⟩⟩

set_option maxRecDepth 20000 in
/-- States and operands that meet the hypotheses of each clause of Regelation. -/
theorem witness_Regelation :
    (∃ (s : State) (d : Firn) (a : Nat) (m : CalSums), (s.firnLive d = true) ∧ (s.adcSt d a = aCalibrating) ∧ (s.calVerdict d a (s.calGainOf d a) m ≠ 0)) ∧
    (∃ (s : State) (d : Firn) (a : Nat) (m : CalSums), (s.firnLive d = true) ∧ (s.adcSt d a = aCalibrating) ∧ (s.calVerdict d a (s.calGainOf d a) m = 0) ∧ (tabFind ((s.calCompare d m).firn d).suspect a = none)) ∧
    (∃ (s : State) (d : Firn) (a : Nat) (j : Nat) (m : CalSums), (s.firnLive d = true) ∧ (s.adcSt d a = aCalibrating) ∧ (s.calVerdict d a (s.calGainOf d a) m = 0) ∧ (tabFind ((s.calCompare d m).firn d).suspect a = some j)) ∧
    (∃ (s : State) (d : Firn) (a : Nat), (s.adcSt d a ≠ aCalibrating)) ∧
    (∃ (s : State) (d : Firn) (a : Nat), (s.adcSt d a = aReserve) ∧ (s.firnLive d = true)) ∧
    (∃ (s : State) (d : Firn) (a : Nat), (s.adcSt d a ≠ aReserve)) ∧
    (∃ (s : State) (d : Firn) (a : Nat) (m : CalSums), (s.adcSt d a = aRetired) ∧ (s.firnLive d = true) ∧ (s.calVerdict d a (s.get Fld.ADC_STATUS__GAIN (adcIdx d a)) m ≠ 0)) ∧
    (∃ (s : State) (d : Firn) (a : Nat) (m : CalSums), (s.adcSt d a = aRetired) ∧ (s.firnLive d = true) ∧ (s.calVerdict d a (s.get Fld.ADC_STATUS__GAIN (adcIdx d a)) m = 0)) ∧
    (∃ (s : State) (d : Firn) (k : Nat) (a : Nat) (j : Nat), (s.laneAdc d k = some a) ∧ (s.laneNext d k = some j) ∧ (s.adcSt d a = aSpare) ∧ (s.get Fld.CH_STATUS__STATE (chIdx d j) = 1) ∧ (s.firnLive d = true)) ∧
    (∃ (s : State) (d : Firn) (k : Nat), (s.laneAdc d k = none ∨ s.laneNext d k = none)) ∧
    (∃ (s : State) (d : Firn) (k : Nat) (a : Nat) (j : Nat), (s.laneAdc d k = some a) ∧ (s.laneNext d k = some j) ∧ (s.adcSt d a ≠ aSpare ∨ s.get Fld.CH_STATUS__STATE (chIdx d j) ≠ 1 ∨ s.firnLive d = false)) ∧
    (∃ (s : State) (d : Firn) (k : Nat) (a : Nat) (j : Nat) (ys : List Int) (ya : List Int), (s.firnLive d = true) ∧ (s.laneAdc d k = some a) ∧ (s.adcSt d a = aIncoming) ∧ (s.get Fld.ADC_STATUS__CHANNEL (adcIdx d a) = j) ∧ (j < 96) ∧ (seamPass (seamSums (ys.map (s.adcY d a)) (ya.map (s.adcY d (s.get Fld.CH_STATUS__SERVING (chIdx d j))))) = true)) ∧
    (∃ (s : State) (d : Firn) (k : Nat) (a : Nat) (j : Nat) (ys : List Int) (ya : List Int), (s.firnLive d = true) ∧ (s.laneAdc d k = some a) ∧ (s.adcSt d a = aIncoming) ∧ (s.get Fld.ADC_STATUS__CHANNEL (adcIdx d a) = j) ∧ (j < 96) ∧ (seamPass (seamSums (ys.map (s.adcY d a)) (ya.map (s.adcY d (s.get Fld.CH_STATUS__SERVING (chIdx d j))))) = false) ∧ ((s.firn d).failedOnce.contains j = false)) ∧
    (∃ (s : State) (d : Firn) (k : Nat) (a : Nat) (j : Nat) (ys : List Int) (ya : List Int), (s.firnLive d = true) ∧ (s.laneAdc d k = some a) ∧ (s.adcSt d a = aIncoming) ∧ (s.get Fld.ADC_STATUS__CHANNEL (adcIdx d a) = j) ∧ (j < 96) ∧ (seamPass (seamSums (ys.map (s.adcY d a)) (ya.map (s.adcY d (s.get Fld.CH_STATUS__SERVING (chIdx d j))))) = false) ∧ ((s.firn d).failedOnce.contains j = true)) ∧
    (∃ (s : State) (d : Firn) (a : Nat), (s.adcSt d a ≠ aIncoming) ∧ (s.adcSt d a ≠ aServing)) ∧
    (∃ (s : State) (d : Firn) (a : Nat), (s.firnLive d = true) ∧ (s.adcSt d a = aIncoming)) ∧
    (∃ (s : State) (d : Firn), (s.flag Fld.REF_STATUS__HALT d.num = true) ∧ (s.refDev d < 1000)) ∧
    (∃ (s : State) (d : Firn), (s.flag Fld.REF_STATUS__HALT d.num = false ∨ 1000 ≤ s.refDev d)) ∧
    (∃ (s : State) (d : Firn) (src : Nat) (j : Nat) (pos : Bool) (b : Int), (((s.usedCh d).find? fun j => s.get Fld.CH_CFG__TYPE (chIdx d j) == 6 && s.get Fld.CH_CFG__RTD_SRC (chIdx d j) == src) = some j) ∧ (s.firnLive d = true) ∧ (tabGet (true, none) (s.firn d).rtd src = (pos, some b))) ∧
    (∃ (s : State) (d : Firn) (src : Nat) (j : Nat) (pos : Bool), (((s.usedCh d).find? fun j => s.get Fld.CH_CFG__TYPE (chIdx d j) == 6 && s.get Fld.CH_CFG__RTD_SRC (chIdx d j) == src) = some j) ∧ (s.firnLive d = true) ∧ (tabGet (true, none) (s.firn d).rtd src = (pos, none))) ∧
    (∃ (s : State) (ch : Nat) (code : Nat), (faultSuits ((s.faultBlocks ch).get Fld.CH_CFG__TYPE ch) code = true) ∧ ((s.faultBlocks ch).get Fld.CH_STATUS__STATE ch = 1) ∧ ((s.faultBlocks ch).get Fld.CH_STATUS__FAULT ch ≠ code)) ∧
    (∃ (s : State) (ch : Nat) (code : Nat), (faultSuits ((s.faultBlocks ch).get Fld.CH_CFG__TYPE ch) code = false ∨ (s.faultBlocks ch).get Fld.CH_STATUS__STATE ch ≠ 1 ∨ (s.faultBlocks ch).get Fld.CH_STATUS__FAULT ch = code)) ∧
    (∃ (s : State) (ch : Nat), (s.get Fld.CH_STATUS__STATE ch = 2)) ∧
    (∃ (s : State) (ch : Nat), (s.get Fld.CH_STATUS__STATE ch ≠ 2)) :=
  ⟨⟨wFregs [(⟨.ADC_STATUS, 0⟩, 0xFF03F000)], .f0, 0, { z := 0, zSq := 0, p := 0, n := 0, po := 0, no := 0, trip := false }, by decide +kernel⟩,
    ⟨wFregs [(⟨.ADC_STATUS, 0⟩, 0xFF03F000)], .f0, 0, { z := 0, zSq := 0, p := 1319413952409, n := -1319413952409, po := 0, no := 0, trip := false }, by decide +kernel⟩,
    ⟨{ wFregs [(⟨.ADC_STATUS, 0⟩, 0xFF03F000)] with f0 := { runs := true, suspect := [(0, 3)] } }, .f0, 0, 3, { z := 0, zSq := 0, p := 1319413952409, n := -1319413952409, po := 0, no := 0, trip := false }, by decide +kernel⟩,
    ⟨wFirn, .f0, 0, by decide +kernel⟩,
    ⟨wFregs [(⟨.ADC_STATUS, 0⟩, 0xFF02F000)], .f0, 0, by decide +kernel⟩,
    ⟨wFirn, .f0, 0, by decide +kernel⟩,
    ⟨wFregs [(⟨.ADC_STATUS, 0⟩, 0xFF05F000)], .f0, 0, { z := 0, zSq := 0, p := 0, n := 0, po := 0, no := 0, trip := false }, by decide +kernel⟩,
    ⟨wFregs [(⟨.ADC_STATUS, 0⟩, 0xFF05F000)], .f0, 0, { z := 0, zSq := 0, p := 1319413952409, n := -1319413952409, po := 0, no := 0, trip := false }, by decide +kernel⟩,
    ⟨wFregs [(⟨.ADC_STATUS, 1⟩, 0xFF010000), (⟨.CH_CFG, 0⟩, 1), (⟨.CH_STATUS, 0⟩, 1)], .f0, 0, 1, 0, by decide +kernel⟩,
    ⟨wFirn, .f0, 0, by decide +kernel⟩,
    ⟨wFregs [(⟨.ADC_STATUS, 1⟩, 0xFF020000), (⟨.CH_CFG, 0⟩, 1), (⟨.CH_STATUS, 0⟩, 1)], .f0, 0, 1, 0, by decide +kernel⟩,
    ⟨wFregs [(⟨.ADC_STATUS, 1⟩, 0x00040000), (⟨.CH_CFG, 0⟩, 1), (⟨.CH_STATUS, 0⟩, 1)], .f0, 0, 1, 0, [5], [5], by decide +kernel⟩,
    ⟨wFregs [(⟨.ADC_STATUS, 1⟩, 0x00040000), (⟨.CH_CFG, 0⟩, 1), (⟨.CH_STATUS, 0⟩, 1)], .f0, 0, 1, 0, [1073741824], [5], by decide +kernel⟩,
    ⟨{ wFregs [(⟨.ADC_STATUS, 1⟩, 0x00040000), (⟨.CH_CFG, 0⟩, 1), (⟨.CH_STATUS, 0⟩, 1)] with f0 := { runs := true, failedOnce := [0] } }, .f0, 0, 1, 0, [1073741824], [5], by decide +kernel⟩,
    ⟨wFirn, .f0, 1, by decide +kernel⟩,
    ⟨wFregs [(⟨.ADC_STATUS, 1⟩, 0x00040000), (⟨.CH_CFG, 0⟩, 1), (⟨.CH_STATUS, 0⟩, 1)], .f0, 1, by decide +kernel⟩,
    ⟨wFregs [(⟨.REF_STATUS, 0⟩, 0xFFFFFFFF)], .f0, by decide +kernel⟩,
    ⟨wFirn, .f0, by decide +kernel⟩,
    ⟨{ wFregs [(⟨.CH_CFG, 0⟩, 0x00800306)] with f0 := { runs := true, rtd := [(3, (true, some 9))] } }, .f0, 3, 0, true, 9, by decide +kernel⟩,
    ⟨wFregs [(⟨.CH_CFG, 0⟩, 0x00800306)], .f0, 3, 0, true, by decide +kernel⟩,
    ⟨wFregs [(⟨.CH_STATUS, 3⟩, 1), (⟨.CH_CFG, 3⟩, 0x800004)], 3, 1, by decide +kernel⟩,
    ⟨wFirn, 3, 1, by decide +kernel⟩,
    ⟨wFregs [(⟨.CH_STATUS, 3⟩, 2)], 3, by decide +kernel⟩,
    ⟨wFirn, 3, by decide +kernel⟩⟩

set_option maxRecDepth 20000 in
/-- States and operands that meet the hypotheses of each clause of Accumulators. -/
theorem witness_Accumulators :
    (∃ (a : Accs) (i : Nat), (accGet a i < 2 ^ 128)) ∧
    (∃ (i : Nat) (j : Nat), (i ≠ j)) ∧
    (∃ (a : List (Nat × Nat)) (q : Nat), (tabGet 0 a q < 2 ^ 128)) ∧
    (∃ (q : Nat) (r : Nat), (q ≠ r)) :=
  ⟨⟨[], 0, by decide +kernel⟩,
    ⟨0, 1, by decide +kernel⟩,
    ⟨[], 0, by decide +kernel⟩,
    ⟨0, 1, by decide +kernel⟩⟩

set_option maxRecDepth 20000 in
/-- States and operands that meet the hypotheses of each clause of MeteringCommands. -/
theorem witness_MeteringCommands :
    (∃ (s : State) (p : Nat), (s.dieRuns .ddie = true) ∧ (s.linkUp (match (s.pcfg p).die with | .f0 => .freeze0 | .f1 => .freeze1) = true) ∧ (s.dieRuns (s.pcfg p).die.die = true) ∧ (((s.contactor p false).setMp p { s.mp p with pathClosed := false }).mpState p = mpMetering) ∧ ((pointFlow (((s.contactor p false).setMp p { s.mp p with pathClosed := false }).pcfg p) && (((s.contactor p false).setMp p { s.mp p with pathClosed := false }).pcfg p).flowRule) = false)) ∧
    (∃ (s : State) (p : Nat), (s.dieRuns .ddie = true) ∧ (s.linkUp (match (s.pcfg p).die with | .f0 => .freeze0 | .f1 => .freeze1) = true) ∧ (s.dieRuns (s.pcfg p).die.die = true) ∧ (((s.contactor p false).setMp p { s.mp p with pathClosed := false }).mpState p = mpMetering) ∧ ((pointFlow (((s.contactor p false).setMp p { s.mp p with pathClosed := false }).pcfg p) && (((s.contactor p false).setMp p { s.mp p with pathClosed := false }).pcfg p).flowRule) = true)) ∧
    (∃ (s : State) (p : Nat), (s.dieRuns .ddie = true) ∧ (s.linkUp (match (s.pcfg p).die with | .f0 => .freeze0 | .f1 => .freeze1) = true) ∧ (s.dieRuns (s.pcfg p).die.die = true) ∧ (((s.contactor p false).setMp p { s.mp p with pathClosed := false }).mpState p ≠ mpMetering) ∧ (((s.contactor p false).setMp p { s.mp p with pathClosed := false }).mpState p ≠ mpOos ∨ (s.mp p).verified = none ∨ (s.mp p).frozeAt ≠ none)) ∧
    (∃ (s : State) (p : Nat), (s.dieRuns .ddie = true) ∧ (s.linkUp (match (s.pcfg p).die with | .f0 => .freeze0 | .f1 => .freeze1) = true) ∧ (s.dieRuns (s.pcfg p).die.die = true) ∧ (((s.contactor p false).setMp p { s.mp p with pathClosed := false }).mpState p = mpOos) ∧ ((s.mp p).verified.isSome = true) ∧ ((s.mp p).frozeAt = none)) ∧
    (∃ (s : State) (p : Nat), (s.dieRuns .ddie = false ∨ s.linkUp (match (s.pcfg p).die with | .f0 => .freeze0 | .f1 => .freeze1) = false ∨ s.dieRuns (s.pcfg p).die.die = false)) ∧
    (∃ (s : State) (p : Nat), (s.dieRuns .ddie = true) ∧ (s.linkUp (match (s.pcfg p).die with | .f0 => .freeze0 | .f1 => .freeze1) = true) ∧ (s.dieRuns (s.pcfg p).die.die = true) ∧ ((s.cfg.slices.all fun x => x.2.kind == 0 || x.2.point != some p || tabGet .undet s.boot.inputs (.aux x.1) != .undet) = true)) ∧
    (∃ (s : State) (p : Nat), ((s.cfg.slices.all fun x => x.2.kind == 0 || x.2.point != some p || tabGet .undet s.boot.inputs (.aux x.1) != .undet) = false)) ∧
    (∃ (s : State) (p : Nat), ((s.pcfg p).commodity = cAc) ∧ (s.firnLive (s.pcfg p).die = true)) ∧
    (∃ (s : State) (p : Nat), ((s.pcfg p).commodity = cAc) ∧ (s.firnLive (s.pcfg p).die = true)) ∧
    (∃ (s : State) (p : Nat), ((s.pcfg p).commodity ≠ cAc ∨ s.firnLive (s.pcfg p).die = false)) ∧
    (∃ (s : State) (p : Nat), ((s.pcfg p).commodity = cDc) ∧ (s.firnLive (s.pcfg p).die = true)) ∧
    (∃ (s : State) (p : Nat), ((s.pcfg p).commodity ≠ cDc ∨ s.firnLive (s.pcfg p).die = false)) ∧
    (∃ (s : State) (p : Nat), ((s.pcfg p).commodity = cAc) ∧ (s.firnLive (s.pcfg p).die = true) ∧ (s.flag Fld.MP_STATE__FIXED p = false)) ∧
    (∃ (s : State) (p : Nat), ((s.mp p).cyc.on = false)) ∧
    (∃ (s : State) (p : Nat), ((s.mp p).cyc.on = true)) ∧
    (∃ (s : State) (p : Nat), ((s.pcfg p).commodity ≠ cAc ∨ s.firnLive (s.pcfg p).die = false ∨ s.flag Fld.MP_STATE__FIXED p = true)) ∧
    (∃ (s : State) (p : Nat) (t : Nat) (r : Nat) (x : Nat), ((s.pcfg p).commodity = cAc ∨ (s.pcfg p).commodity = cDc) ∧ (s.firnLive (s.pcfg p).die = true) ∧ ((s.mp p).dm.lastEnd = 0 ∨ (s.mp p).dm.lastEnd < t) ∧ (r = s.get Fld.MP_STATE__RATE p) ∧ (x = demandMw ((((s.mp p).dm.cur :: (s.mp p).dm.subs).take (max 1 (s.pcfg p).sub)).sum) (s.pcfg p).di)) ∧
    (∃ (s : State) (p : Nat) (t : Nat), (((s.pcfg p).commodity ≠ cAc ∧ (s.pcfg p).commodity ≠ cDc) ∨ s.firnLive (s.pcfg p).die = false ∨ ((s.mp p).dm.lastEnd ≠ 0 ∧ t ≤ (s.mp p).dm.lastEnd))) ∧
    (∃ (s : State) (c : Chan) (d : Firn), (s.takes c 0x0207 d = true) ∧ (zeroOutside (s.reqBytes c) [(0, 5)] = true) ∧ ((s.clearDb c 1).ownsPoint d (field (s.reqBytes c) 4 2) = false)) ∧
    (∃ (s : State) (c : Chan) (d : Firn), (s.takes c 0x0207 d = true) ∧ (zeroOutside (s.reqBytes c) [(0, 5)] = true) ∧ ((s.clearDb c 1).ownsPoint d (field (s.reqBytes c) 4 2) = true) ∧ ((s.clearDb c 1).morRefuses d 8 = false)) ∧
    (∃ (s : State) (p : Nat), ((s.pcfg p).commodity ≠ cAc ∨ (s.pcfg p).harm = false ∨ (s.mp p).cyc.win ≠ harmCycles (s.pcfg p) ∨ s.firnLive (s.pcfg p).die = false)) ∧
    (∃ (s : State) (p : Nat), ((s.pcfg p).commodity = cAc) ∧ ((s.pcfg p).harm = true) ∧ ((s.mp p).cyc.win = harmCycles (s.pcfg p)) ∧ (s.firnLive (s.pcfg p).die = true)) ∧
    (∃ (s : State) (c : Chan) (d : Firn), (s.takes c 0x0205 d = true) ∧ (zeroOutside (s.reqBytes c) [(0, 5), (8, 11)] = true) ∧ (10 ≤ field (s.reqBytes c) 8 4) ∧ (field (s.reqBytes c) 8 4 ≤ 100000) ∧ ((s.clearDb c 1).ownsPoint d (field (s.reqBytes c) 4 2) = true) ∧ ((s.clearDb c 1).mpState (field (s.reqBytes c) 4 2) ≠ mpOos)) ∧
    (∃ (s : State) (c : Chan) (d : Firn), (s.takes c 0x0206 d = true) ∧ (zeroOutside (s.reqBytes c) [(0, 5)] = true) ∧ ((s.clearDb c 1).ownsPoint d (field (s.reqBytes c) 4 2) = true) ∧ ((s.clearDb c 1).mpState (field (s.reqBytes c) 4 2) = mpOos)) ∧
    (∃ (s : State) (c : Chan) (d : Firn) (x : EnMeas), (s.takes c 0x0206 d = true) ∧ (zeroOutside (s.reqBytes c) [(0, 5)] = true) ∧ ((s.clearDb c 1).ownsPoint d (field (s.reqBytes c) 4 2) = true) ∧ ((s.clearDb c 1).mpState (field (s.reqBytes c) 4 2) ≠ mpOos) ∧ (((s.clearDb c 1).mp (field (s.reqBytes c) 4 2)).meas = some x) ∧ (x.sums = [])) ∧
    (∃ (s : State) (p : Nat), ((s.pcfg p).commodity ≠ 0) ∧ (s.firnLive (s.pcfg p).die = true)) ∧
    (∃ (s : State) (p : Nat) (n : Nat), ((s.pcfg p).commodity ≠ 0) ∧ (s.firnLive (s.pcfg p).die = true) ∧ (s.engLive n = true) ∧ (s.cfg.pointEngines.contains (n, p) = true)) ∧
    (∃ (s : State) (p : Nat) (n : Nat), ((s.pcfg p).commodity ≠ 0) ∧ (s.firnLive (s.pcfg p).die = true) ∧ (s.engLive n = false ∨ s.cfg.pointEngines.contains (n, p) = false)) ∧
    (∃ (s : State) (p : Nat) (n : Nat), ((s.pcfg p).commodity ≠ 0) ∧ (s.firnLive (s.pcfg p).die = true) ∧ (s.engLive n = true) ∧ (s.engState n = eProbation) ∧ (engDie n = 1 + (s.pcfg p).die.num)) ∧
    (∃ (s : State) (p : Nat), ((s.pcfg p).commodity = 0 ∨ s.firnLive (s.pcfg p).die = false)) ∧
    (∃ (s : State) (d : Desc) (b : List Byte), (s.accepts 0x13 d = true) ∧ ((s.taken d).section_ d.target.toNat (DescF.par d 0 1) = some b)) ∧
    (∃ (s : State) (d : Desc), (s.accepts 0x13 d = true) ∧ ((s.taken d).section_ d.target.toNat (DescF.par d 0 1) = none)) :=
  ⟨⟨{ wFregs [(⟨.MP_STATE, 4⟩, 2)] with cfg := { points := [(4, { commodity := 1 })] } }, 4, by decide +kernel⟩,
    ⟨{ wFregs [(⟨.MP_STATE, 4⟩, 2)] with cfg := { points := [(4, { commodity := 3, flowRule := true })] } }, 4, by decide +kernel⟩,
    ⟨{ wFirn with cfg := { points := [(4, { commodity := 1 })] } }, 4, by decide +kernel⟩,
    ⟨{ wFregs [(⟨.MP_STATE, 4⟩, 4)] with cfg := { points := [(4, { commodity := 1 })] }, points := [(4, { verified := some 9 })] }, 4, by decide +kernel⟩,
    ⟨{ wFirn with boot := { stopped := [.ddie], downLinks := [] } }, 4, by decide +kernel⟩,
    ⟨{ wFirn with cfg := { points := [(4, { commodity := 1 })] } }, 4, by decide +kernel⟩,
    ⟨{ wFirn with cfg := { slices := [(2, { kind := 1, point := some 4 })] } }, 4, by decide +kernel⟩,
    ⟨{ wFirn with cfg := { points := [(4, { commodity := 1 })] } }, 4, by decide +kernel⟩,
    ⟨{ wFirn with cfg := { points := [(4, { commodity := 1 })] } }, 4, by decide +kernel⟩,
    ⟨wFirn, 4, by decide +kernel⟩,
    ⟨{ wFirn with cfg := { points := [(4, { commodity := 2 })] } }, 4, by decide +kernel⟩,
    ⟨wFirn, 4, by decide +kernel⟩,
    ⟨{ wFirn with cfg := { points := [(4, { commodity := 1 })] } }, 4, by decide +kernel⟩,
    ⟨{ wFirn with cfg := { points := [(4, { commodity := 1 })] } }, 4, by decide +kernel⟩,
    ⟨{ wFirn with cfg := { points := [(4, { commodity := 1 })] }, points := [(4, { cyc := { on := true } })] }, 4, by decide +kernel⟩,
    ⟨wFirn, 4, by decide +kernel⟩,
    ⟨{ wFirn with cfg := { points := [(4, { commodity := 1 })] } }, 4, 900000000, 0, 0, by decide +kernel⟩,
    ⟨wFirn, 4, 64, by decide +kernel⟩,
    ⟨wReq 0x0207 [], .fwFirn .f0, .f0, by decide +kernel⟩,
    ⟨{ wReq 0x0207 [4] with cfg := { points := [(4, { commodity := 1 })] } }, .fwFirn .f0, .f0, by decide +kernel⟩,
    ⟨wFirn, 4, by decide +kernel⟩,
    ⟨{ wFirn with cfg := { points := [(4, { commodity := 1, harm := true })] }, points := [(4, { cyc := { win := 10 } })] }, 4, by decide +kernel⟩,
    ⟨{ wReq 0x0205 [4, 0, 0, 0, 20] with cfg := { points := [(4, { commodity := 1 })] } }, .fwFirn .f0, .f0, by decide +kernel⟩,
    ⟨{ wReq 0x0206 [4] with cfg := { points := [(4, { commodity := 1 })] }, regs := (⟨.MP_STATE, 4⟩, 4) :: wRun.regs }, .fwFirn .f0, .f0, by decide +kernel⟩,
    ⟨{ wReq 0x0206 [4] with cfg := { points := [(4, { commodity := 1 })] }, points := [(4, { meas := some { n := 20, first := 3 } })] }, .fwFirn .f0, .f0, { n := 20, first := 3 }, by decide +kernel⟩,
    ⟨{ wFirn with cfg := { points := [(4, { commodity := 1 })] } }, 4, by decide +kernel⟩,
    ⟨{ wFirn with cfg := { points := [(4, { commodity := 1 })], pointEngines := [(5, 4)] } }, 4, 5, by decide +kernel⟩,
    ⟨{ wFirn with cfg := { points := [(4, { commodity := 1 })] } }, 4, 5, by decide +kernel⟩,
    ⟨{ wFregs [(⟨.FENG_STATE, 0⟩, 3)] with cfg := { points := [(4, { commodity := 1 })] } }, 4, 128, by decide +kernel⟩,
    ⟨wFirn, 4, by decide +kernel⟩,
    ⟨{ wRun with cfg := { points := [(4, { commodity := 1, rates := 1 })] } }, wDescT 4 1024 [], List.replicate 144 0, by decide +kernel⟩,
    ⟨{ wRun with cfg := { points := [(4, { commodity := 1 })] } }, wDescT 4 1024 [2], by decide +kernel⟩⟩

set_option maxRecDepth 20000 in
/-- States and operands that meet the hypotheses of each clause of FlowCommands. -/
theorem witness_FlowCommands :
    (∃ (s : State) (p : Nat), (pointFlow (s.pcfg p) = true) ∧ (s.firnLive (s.pcfg p).die = true)) ∧
    (∃ (s : State) (p : Nat), (pointFlow (s.pcfg p) = false ∨ s.firnLive (s.pcfg p).die = false)) ∧
    (∃ (s : State) (p : Nat), (s.mpState p = mpMetering) ∧ ((s.mp p).flow.rose.isSome = true) ∧ (s.firnLive (s.pcfg p).die = true)) ∧
    (∃ (s : State) (p : Nat), (s.mpState p ≠ mpMetering ∨ (s.mp p).flow.rose = none)) ∧
    (∃ (s : State) (i : Nat) (p : Nat) (isB : Bool), (s.pulsesReach i isB (s.pulseDie i) = true) ∧ (s.get Fld.PI_CFG__ROLE i ≠ 2) ∧ (s.piPoint i = some p)) ∧
    (∃ (s : State) (i : Nat) (isB : Bool), (s.pulsesReach i isB (s.pulseDie i) = true) ∧ (s.get Fld.PI_CFG__ROLE i = 2)) ∧
    (∃ (s : State) (i : Nat) (isB : Bool), (s.pulsesReach i isB (s.pulseDie i) = false ∨ (s.get Fld.PI_CFG__ROLE i ≠ 2 ∧ s.piPoint i = none))) ∧
    (∃ (s : State) (i : Nat) (p : Nat) (t : Nat) (r : Nat) (isB : Bool), (s.pulsesReach i isB (s.pulseDie i) = true) ∧ (s.get Fld.PI_CFG__ROLE i ≠ 2) ∧ (s.piPoint i = some p) ∧ (((s.edgeRecord (s.pcfg p).die (trainIdx i isB) t false).train p isB).rise = some r) ∧ ((t - r) * 1000 < field (((s.edgeRecord (s.pcfg p).die (trainIdx i isB) t false).setTrain p isB { (s.edgeRecord (s.pcfg p).die (trainIdx i isB) t false).train p isB with rise := none }).mp p).flow.par 148 4 * 8136)) ∧
    (∃ (s : State) (u : State) (i : Nat) (p : Nat) (t : Nat) (r : Nat) (isB : Bool), (s.pulsesReach i isB (s.pulseDie i) = true) ∧ (s.get Fld.PI_CFG__ROLE i ≠ 2) ∧ (s.piPoint i = some p) ∧ (((s.edgeRecord (s.pcfg p).die (trainIdx i isB) t false).train p isB).rise = some r) ∧ (u = (s.edgeRecord (s.pcfg p).die (trainIdx i isB) t false).setTrain p isB { (s.edgeRecord (s.pcfg p).die (trainIdx i isB) t false).train p isB with rise := none }) ∧ (field (u.mp p).flow.par 148 4 * 8136 ≤ (t - r) * 1000)) ∧
    (∃ (s : State) (i : Nat) (p : Nat) (t : Nat) (isB : Bool), (s.pulsesReach i isB (s.pulseDie i) = true) ∧ (s.get Fld.PI_CFG__ROLE i ≠ 2) ∧ (s.piPoint i = some p) ∧ (((s.edgeRecord (s.pcfg p).die (trainIdx i isB) t false).train p isB).rise = none)) ∧
    (∃ (s : State) (i : Nat) (p : Nat) (t : Nat) (isB : Bool), (s.piPoint i = some p) ∧ ((s.train p isB).held.contains t = true) ∧ (s.firnLive (s.pcfg p).die = true) ∧ (∀ l, (s.train p isB).last = some l → 2 * (t - l) < (s.mp p).flow.p ∨ 3 * (s.mp p).flow.p < 2 * (t - l))) ∧
    (∃ (s : State) (i : Nat) (p : Nat) (t : Nat) (l : Nat) (a : Nat) (b : Nat) (isB : Bool), (s.piPoint i = some p) ∧ ((s.train p isB).held.contains t = true) ∧ (s.firnLive (s.pcfg p).die = true) ∧ ((s.train p isB).last = some l) ∧ ((s.mp p).flow.p ≤ 2 * (t - l)) ∧ (2 * (t - l) ≤ 3 * (s.mp p).flow.p) ∧ (a = if isB = true then (if (s.mp p).flow.reverse = true then t + phiP (s.mp p).flow.par (s.mp p).flow.p else t - phiP (s.mp p).flow.par (s.mp p).flow.p) else t) ∧ (b = if isB = true then t else (if (s.mp p).flow.reverse = true then t - phiP (s.mp p).flow.par (s.mp p).flow.p else t + phiP (s.mp p).flow.par (s.mp p).flow.p))) ∧
    (∃ (s : State) (i : Nat) (p : Nat) (t : Nat) (isB : Bool), (s.piPoint i = some p) ∧ ((s.train p isB).held.contains t = false ∨ s.firnLive (s.pcfg p).die = false)) ∧
    (∃ (s : State) (i : Nat), (s.piPoint i = none)) ∧
    (∃ (s : State) (u : State) (i : Nat) (p : Nat) (a : Nat), (s.piPoint i = some p) ∧ (3 ≤ parByte (s.mp p).flow.par 4) ∧ ((s.mp p).flow.acquire = false) ∧ ((s.mp p).flow.lastA = some a) ∧ (s.firnLive (s.pcfg p).die = true) ∧ (u = (s.setMp p { s.mp p with flow := { (s.mp p).flow with inferred := (s.mp p).flow.inferred + 1 } }).bump Fld.PI_MISS__VALUE (trainIdx i false) 1)) ∧
    (∃ (s : State) (i : Nat) (p : Nat), (s.piPoint i = some p) ∧ (parByte (s.mp p).flow.par 4 < 3 ∨ (s.mp p).flow.acquire = true ∨ (s.mp p).flow.lastA = none ∨ s.firnLive (s.pcfg p).die = false)) ∧
    (∃ (s : State) (i : Nat), (s.piPoint i = none)) ∧
    (∃ (s : State) (p : Nat), (pointFlow (s.pcfg p) = true) ∧ (parByte (s.mp p).flow.par 4 ≠ 0) ∧ (s.firnLive (s.pcfg p).die = true)) ∧
    (∃ (s : State) (p : Nat), (pointFlow (s.pcfg p) = false ∨ parByte (s.mp p).flow.par 4 = 0 ∨ s.firnLive (s.pcfg p).die = false)) ∧
    (∃ (s : State) (c : Chan) (d : Firn), (s.takes c 0x020A d = true) ∧ (parOk (((s.reqBytes c).drop 8).take 200) = false)) ∧
    (∃ (s : State) (c : Chan) (d : Firn), (s.takes c 0x020A d = true) ∧ (zeroOutside (s.reqBytes c) [(0, 5), (8, 207)] = true) ∧ (parOk (((s.reqBytes c).drop 8).take 200) = true) ∧ ((s.clearDb c 1).sealed d = false) ∧ (field (s.reqBytes c) 4 2 < 256) ∧ (tabFind (s.clearDb c 1).cfg.points (field (s.reqBytes c) 4 2) = none) ∧ ((s.clearDb c 1).mpState (field (s.reqBytes c) 4 2) = mpIdle) ∧ ((s.clearDb c 1).calFull d = false)) ∧
    (∃ (s : State) (c : Chan) (d : Firn), (s.takes c 0x0208 d = true) ∧ (zeroOutside (s.reqBytes c) [(0, 6), (8, 11)] = true) ∧ (field (s.reqBytes c) 6 1 < 64) ∧ ((s.clearDb c 1).variant.hasDdie = true) ∧ ((s.clearDb c 1).ownsPoint d (field (s.reqBytes c) 4 2) = true) ∧ ((s.clearDb c 1).get Fld.PI_CFG__ROLE (field (s.reqBytes c) 6 1) ≠ 1) ∧ (parByte ((s.clearDb c 1).mp (field (s.reqBytes c) 4 2)).flow.par 4 ≠ 0)) ∧
    (∃ (s : State) (c : Chan) (d : Firn), (s.takes c 0x0208 d = true) ∧ (zeroOutside (s.reqBytes c) [(0, 6), (8, 11)] = true) ∧ (field (s.reqBytes c) 6 1 < 64) ∧ ((s.clearDb c 1).variant.hasDdie = false ∨ (s.clearDb c 1).ownsPoint d (field (s.reqBytes c) 4 2) = false)) ∧
    (∃ (s : State) (c : Chan) (d : Firn), (s.takes c 0x0208 d = true) ∧ (zeroOutside (s.reqBytes c) [(0, 6), (8, 11)] = false ∨ 64 ≤ field (s.reqBytes c) 6 1)) ∧
    (∃ (s : State) (c : Chan) (d : Firn), (s.takes c 0x0209 d = true) ∧ (zeroOutside (s.reqBytes c) [(0, 5)] = true) ∧ ((s.clearDb c 1).ownsPoint d (field (s.reqBytes c) 4 2) = true) ∧ ((s.clearDb c 1).prove = [])) ∧
    (∃ (s : State) (c : Chan) (d : Firn) (i : Nat) (v : ProveSt), (s.takes c 0x0209 d = true) ∧ (zeroOutside (s.reqBytes c) [(0, 5)] = true) ∧ ((s.clearDb c 1).ownsPoint d (field (s.reqBytes c) 4 2) = true) ∧ ((s.clearDb c 1).prove = [(i, v)]) ∧ (v.point = field (s.reqBytes c) 4 2) ∧ (v.state ≠ 2)) ∧
    (∃ (s : State) (i : Nat) (v : ProveSt), (tabFind s.prove i = some v) ∧ (v.state ≤ 1) ∧ (v.second = none)) ∧
    (∃ (s : State) (i : Nat), (tabFind s.prove i = none ∨ ∃ v, tabFind s.prove i = some v ∧ (2 ≤ v.state ∨ v.second ≠ none))) :=
  ⟨⟨{ wFirn with cfg := { points := [(4, { commodity := 3 })] } }, 4, by decide +kernel⟩,
    ⟨wFirn, 4, by decide +kernel⟩,
    ⟨{ wFregs [(⟨.MP_STATE, 4⟩, 2)] with points := [(4, { flow := { rose := some 5 } })] }, 4, by decide +kernel⟩,
    ⟨wFirn, 4, by decide +kernel⟩,
    ⟨{ wFregs [(⟨.PI_CFG, 3⟩, 0x04040000)] with boot := { stopped := [], downLinks := [], inputs := [(.pulseA 3, .low)] } }, 3, 4, false, by decide +kernel⟩,
    ⟨{ wFregs [(⟨.PI_CFG, 3⟩, 0x04080000)] with boot := { stopped := [], downLinks := [], inputs := [(.pulseA 3, .low)] } }, 3, false, by decide +kernel⟩,
    ⟨wFirn, 3, false, by decide +kernel⟩,
    ⟨{ wFregs [(⟨.PI_CFG, 3⟩, 0x04040000)] with points := [(4, { flow := { a := { rise := some 100 }, par := List.replicate 148 0 ++ [9] } })], boot := { stopped := [], downLinks := [], inputs := [(.pulseA 3, .low)] } }, 3, 4, 101, 100, false, by decide +kernel⟩,
    ⟨{ wFregs [(⟨.PI_CFG, 3⟩, 0x04040000)] with points := [(4, { flow := { a := { rise := some 100 } } })], boot := { stopped := [], downLinks := [], inputs := [(.pulseA 3, .low)] } }, _, 3, 4, 101, 100, false, by decide +kernel, by decide +kernel, by decide +kernel, by decide +kernel, rfl, by decide +kernel⟩,
    ⟨{ wFregs [(⟨.PI_CFG, 3⟩, 0x04040000)] with boot := { stopped := [], downLinks := [], inputs := [(.pulseA 3, .low)] } }, 3, 4, 100, false, by decide +kernel⟩,
    ⟨{ wFregs [(⟨.PI_CFG, 3⟩, 0x04040000)] with points := [(4, { flow := { a := { held := [100] } } })] }, 3, 4, 100, false, by decide +kernel, by decide +kernel, by decide +kernel, (by intro l h; cases h)⟩,
    ⟨{ wFregs [(⟨.PI_CFG, 3⟩, 0x04040000)] with points := [(4, { flow := { p := 10, a := { held := [110], last := some 100 } } })] }, 3, 4, 110, 100, _, _, false, by decide +kernel, by decide +kernel, by decide +kernel, by decide +kernel, by decide +kernel, by decide +kernel, rfl, rfl⟩,
    ⟨wFregs [(⟨.PI_CFG, 3⟩, 0x04040000)], 3, 4, 100, false, by decide +kernel⟩,
    ⟨wFirn, 3, by decide +kernel⟩,
    ⟨{ wFregs [(⟨.PI_CFG, 3⟩, 0x04040000)] with points := [(4, { flow := { acquire := false, lastA := some 100, par := [1, 0, 0, 4, 3] } })] }, _, 3, 4, 100, by decide +kernel, by decide +kernel, by decide +kernel, by decide +kernel, by decide +kernel, rfl⟩,
    ⟨wFregs [(⟨.PI_CFG, 3⟩, 0x04040000)], 3, 4, by decide +kernel⟩,
    ⟨wFirn, 3, by decide +kernel⟩,
    ⟨{ wFirn with cfg := { points := [(4, { commodity := 3 })] }, points := [(4, { flow := { par := [1, 0, 0, 4, 3] } })] }, 4, by decide +kernel⟩,
    ⟨wFirn, 4, by decide +kernel⟩,
    ⟨wReq 0x020A [4], .fwFirn .f0, .f0, by decide +kernel⟩,
    ⟨{ wReq 0x020A ([4, 0, 0, 0] ++ [1, 0, 0, 1, 0, 0, 90, 10] ++ List.replicate 20 0 ++ [0, 0, 0x80, 0x3F] ++ List.replicate 108 0 ++ [0, 0, 0x40, 0x3F, 0, 0, 0, 0x3F, 1]) with regs := (⟨.FIRN_STATUS, 0⟩, 0) :: wRun.regs }, .fwFirn .f0, .f0, by decide +kernel⟩,
    ⟨{ wReq 0x0208 [4, 0, 5] with cfg := { points := [(4, { commodity := 3 })] }, points := [(4, { flow := { par := [1, 0, 0, 4, 3] } })] }, .fwFirn .f0, .f0, by decide +kernel⟩,
    ⟨wReq 0x0208 [4], .fwFirn .f0, .f0, by decide +kernel⟩,
    ⟨wReq 0x0208 [4, 0, 70], .fwFirn .f0, .f0, by decide +kernel⟩,
    ⟨{ wReq 0x0209 [4] with cfg := { points := [(4, { commodity := 3 })] } }, .fwFirn .f0, .f0, by decide +kernel⟩,
    ⟨{ wReq 0x0209 [4] with cfg := { points := [(4, { commodity := 3 })] }, prove := [(5, { point := 4, vol := 0, state := 1 })] }, .fwFirn .f0, .f0, 5, { point := 4, vol := 0, state := 1 }, by decide +kernel⟩,
    ⟨{ wFirn with prove := [(5, { point := 4, vol := 0, state := 1 })] }, 5, { point := 4, vol := 0, state := 1 }, by decide +kernel⟩,
    ⟨wFirn, 5, .inl (by decide +kernel)⟩⟩

set_option maxRecDepth 20000 in
/-- States and operands that meet the hypotheses of each clause of DisplayCommands. -/
theorem witness_DisplayCommands :
    (∃ (s : State) (t : State) (upset : List (Nat × Byte)) (f : List Byte), (s.firnLive .f0 = true) ∧ (upset.foldl (fun b x => listSet b x.1 ((b.getD x.1 0) ^^^ x.2)) (padTo 96 s.disp.front) = f) ∧ (t = (s.setDisp { s.disp with front := f }).setReg .DISP_CRC 0 (crc32 f)) ∧ (crc32 f = s.disp.shadow ∨ (f = List.replicate 96 0 ∧ s.disp.shadow = 0)) ∧ (s.flag Fld.DISP_STATUS__FAULT 0 = false)) ∧
    (∃ (s : State) (t : State) (upset : List (Nat × Byte)) (f : List Byte), (s.firnLive .f0 = true) ∧ (upset.foldl (fun b x => listSet b x.1 ((b.getD x.1 0) ^^^ x.2)) (padTo 96 s.disp.front) = f) ∧ (t = (s.setDisp { s.disp with front := f }).setReg .DISP_CRC 0 (crc32 f)) ∧ (crc32 f = s.disp.shadow ∨ (f = List.replicate 96 0 ∧ s.disp.shadow = 0)) ∧ (s.flag Fld.DISP_STATUS__FAULT 0 = true) ∧ (s.disp.clean < 9)) ∧
    (∃ (s : State) (t : State) (u : State) (upset : List (Nat × Byte)) (f : List Byte), (s.firnLive .f0 = true) ∧ (upset.foldl (fun b x => listSet b x.1 ((b.getD x.1 0) ^^^ x.2)) (padTo 96 s.disp.front) = f) ∧ (t = (s.setDisp { s.disp with front := f }).setReg .DISP_CRC 0 (crc32 f)) ∧ (crc32 f = s.disp.shadow ∨ (f = List.replicate 96 0 ∧ s.disp.shadow = 0)) ∧ (s.flag Fld.DISP_STATUS__FAULT 0 = true) ∧ (9 ≤ s.disp.clean) ∧ (u = (t.setDisp { t.disp with miss := 0, blank := true, clean := s.disp.clean + 1 }).put Fld.DISP_STATUS__FAULT 0 0)) ∧
    (∃ (s : State) (t : State) (u : State) (upset : List (Nat × Byte)) (f : List Byte), (s.firnLive .f0 = true) ∧ (upset.foldl (fun b x => listSet b x.1 ((b.getD x.1 0) ^^^ x.2)) (padTo 96 s.disp.front) = f) ∧ (t = (s.setDisp { s.disp with front := f }).setReg .DISP_CRC 0 (crc32 f)) ∧ (crc32 f ≠ s.disp.shadow) ∧ (f ≠ List.replicate 96 0 ∨ s.disp.shadow ≠ 0) ∧ (u = (t.bump Fld.DISP_STATUS__MISMATCHES 0 1).setDisp { t.disp with miss := s.disp.miss + 1, blank := true, clean := 0 })) ∧
    (∃ (s : State), (s.firnLive .f0 = false)) ∧
    (∃ (s : State), (s.firnLive .f0 = true) ∧ (s.flag Fld.DISP_STATUS__FAULT 0 = true)) ∧
    (∃ (s : State), (s.firnLive .f0 = false ∨ s.flag Fld.DISP_STATUS__FAULT 0 = false)) ∧
    (∃ (s : State), (s.firnLive .f0 = true) ∧ (s.flag Fld.DISP_STATUS__MANUAL 0 = false) ∧ (s.disp.err < s.dispErrors.length)) ∧
    (∃ (s : State), (s.firnLive .f0 = true) ∧ (s.flag Fld.DISP_STATUS__MANUAL 0 = false) ∧ (s.dispErrors.length ≤ s.disp.err)) ∧
    (∃ (s : State), (s.firnLive .f0 = false ∨ s.flag Fld.DISP_STATUS__MANUAL 0 = true)) ∧
    (∃ (s : State), (s.stepInput = true)) ∧
    (∃ (s : State), (s.stepInput = false)) ∧
    (∃ (s : State), (s.stepInput = true)) ∧
    (∃ (s : State), (s.stepInput = false)) ∧
    (∃ (s : State), (s.firnLive .f0 = true)) ∧
    (∃ (s : State), (s.firnLive .f0 = false)) ∧
    (∃ (s : State), (s.firnLive .f0 = true) ∧ (s.variant.hasF1 = true) ∧ (s.dieRuns .cdie = true) ∧ (s.linkUp Firn.f0.link = true) ∧ (s.linkUp Firn.f1.link = true)) ∧
    (∃ (s : State), (s.firnLive .f0 = false ∨ s.variant.hasF1 = false ∨ s.dieRuns .cdie = false ∨ s.linkUp Firn.f0.link = false ∨ s.linkUp Firn.f1.link = false)) ∧
    (∃ (s : State), (s.firnLive .f0 = true)) ∧
    (∃ (s : State), (s.firnLive .f0 = false)) :=
  ⟨⟨{ wFirn with disp := { shadow := crc32 (List.replicate 96 0) } }, _, [], List.replicate 96 0, by decide +kernel, by decide +kernel, rfl, by decide +kernel, by decide +kernel⟩,
    ⟨{ wFregs [(⟨.DISP_STATUS, 0⟩, 0xFFFFFFFF)] with disp := { shadow := crc32 (List.replicate 96 0) } }, _, [], List.replicate 96 0, by decide +kernel, by decide +kernel, rfl, by decide +kernel, by decide +kernel, by decide +kernel⟩,
    ⟨{ wFregs [(⟨.DISP_STATUS, 0⟩, 0xFFFFFFFF)] with disp := { shadow := crc32 (List.replicate 96 0), clean := 9 } }, _, _, [], List.replicate 96 0, by decide +kernel, by decide +kernel, rfl, by decide +kernel, by decide +kernel, by decide +kernel, rfl⟩,
    ⟨wFirn, _, _, [(3, 1)], listSet (List.replicate 96 0) 3 1, by decide +kernel, by decide +kernel, rfl, by decide +kernel, by decide +kernel, rfl⟩,
    ⟨State.reset, by decide +kernel⟩,
    ⟨wFregs [(⟨.DISP_STATUS, 0⟩, 0xFFFFFFFF)], by decide +kernel⟩,
    ⟨wFirn, by decide +kernel⟩,
    ⟨wFirn, by decide +kernel⟩,
    ⟨{ wFirn with disp := { err := 99 } }, by decide +kernel⟩,
    ⟨wFregs [(⟨.DISP_STATUS, 0⟩, 0xFFFFFFFF)], by decide +kernel⟩,
    ⟨{ wFirn with boot := { stopped := [], downLinks := [], inputs := [(.dispStep, .high)] } }, by decide +kernel⟩,
    ⟨wFirn, by decide +kernel⟩,
    ⟨{ wFirn with boot := { stopped := [], downLinks := [], inputs := [(.dispStep, .high)] } }, by decide +kernel⟩,
    ⟨wFirn, by decide +kernel⟩,
    ⟨wFirn, by decide +kernel⟩,
    ⟨State.reset, by decide +kernel⟩,
    ⟨wFirn, by decide +kernel⟩,
    ⟨State.reset, by decide +kernel⟩,
    ⟨wFirn, by decide +kernel⟩,
    ⟨State.reset, by decide +kernel⟩⟩

set_option maxRecDepth 20000 in
/-- States and operands that meet the hypotheses of each clause of DisplayRequests. -/
theorem witness_DisplayRequests :
    (∃ (s : State) (c : Chan) (d : Firn), (s.takes c 0x0110 d = true) ∧ (d = .f1)) ∧
    (∃ (s : State) (c : Chan) (d : Firn), (s.takes c 0x0110 d = true) ∧ (d = .f0) ∧ ((s.clearDb c 1).flag Fld.DISP_STATUS__MAPPED 0 = true)) ∧
    (∃ (s : State) (c : Chan) (d : Firn), (s.takes c 0x0110 d = true) ∧ (d = .f0) ∧ ((s.clearDb c 1).flag Fld.DISP_STATUS__MAPPED 0 = false) ∧ ((s.clearDb c 1).sealed .f0 = false) ∧ (mapOk (s.reqBytes c) = true)) ∧
    (∃ (s : State) (c : Chan) (d : Firn), (s.takes c 0x0111 d = true) ∧ (d = .f0) ∧ (40 < field (s.reqBytes c) 7 1)) ∧
    (∃ (s : State) (c : Chan) (d : Firn), (s.takes c 0x0111 d = true) ∧ (d = .f0) ∧ (1 ≤ field (s.reqBytes c) 4 1) ∧ (field (s.reqBytes c) 4 1 ≤ 30) ∧ (1 ≤ field (s.reqBytes c) 7 1) ∧ (field (s.reqBytes c) 7 1 ≤ 40) ∧ (field (s.reqBytes c) 6 1 = 0) ∧ ((s.clearDb c 1).disp.staged = []) ∧ (field (s.reqBytes c) 8 1 = 0) ∧ (((upTo (field (s.reqBytes c) 7 1)).map fun k => ((s.reqBytes c).drop (16 + 6 * k)).take 6).all (s.clearDb c 1).itemOk = true)) ∧
    (∃ (s : State) (c : Chan) (d : Firn), (s.takes c 0x0112 d = true) ∧ ((s.clearDb c 1).sealed d = false) ∧ (((s.clearDb c 1).firn d).log.any (fun x => x.1 == field (s.reqBytes c) 8 4) = false)) ∧
    (∃ (s : State) (c : Chan) (d : Firn), (s.takes c 0x0110 d = true) ∧ (d = .f0) ∧ ((s.clearDb c 1).flag Fld.DISP_STATUS__MAPPED 0 = false) ∧ ((s.clearDb c 1).sealed .f0 = true)) ∧
    (∃ (s : State) (c : Chan) (d : Firn), (s.takes c 0x0112 d = true) ∧ ((s.clearDb c 1).sealed d = true)) ∧
    (∃ (s : State) (c : Chan) (d : Firn) (e : Nat × List Byte), (s.takes c 0x0112 d = true) ∧ ((s.clearDb c 1).sealed d = false) ∧ (((s.clearDb c 1).firn d).log.head? = some e) ∧ (((s.clearDb c 1).firn d).log.any (fun x => x.1 == field (s.reqBytes c) 8 4) = true)) ∧
    (∃ (s : State) (d : Desc), (s.accepts 0x42 d = true) ∧ (DescF.bufLen d < 32)) ∧
    (∃ (s : State) (d : Desc) (n : Nat) (dd : Firn) (l : List (Nat × List Byte)), (s.accepts 0x42 d = true) ∧ (32 ≤ DescF.bufLen d) ∧ (dd = if d.target.toNat = 0 then .f0 else .f1) ∧ (n = if DescF.par d 4 4 = 0 then DescF.bufLen d / 32 else min (DescF.par d 4 4) (DescF.bufLen d / 32)) ∧ (l = ((s.taken d).firn dd).log.filter (fun e => decide (DescF.par d 0 4 ≤ e.1)))) :=
  ⟨⟨{ wFirn with mbx := [(.fwFirn .f1, { posted := true, seq := 1, len := 4, payload := [0, 0, 0x10, 0x01] })] }, .fwFirn .f1, .f1, by decide +kernel⟩,
    ⟨{ wReq 0x0110 [] with regs := (⟨.DISP_STATUS, 0⟩, 0xFFFFFFFF) :: wRun.regs }, .fwFirn .f0, .f0, by decide +kernel⟩,
    ⟨{ wReq 0x0110 ([8, 1, 0, 0, 0, 0] ++ List.replicate 6 0 ++ (upTo 120).flatMap (fun e => leBytes 2 (e / 15 * 256 + e % 15))) with regs := (⟨.FIRN_STATUS, 0⟩, 0) :: wRun.regs }, .fwFirn .f0, .f0, by decide +kernel⟩,
    ⟨wReq 0x0111 [5, 0, 0, 41], .fwFirn .f0, .f0, by decide +kernel⟩,
    ⟨wReq 0x0111 ([5, 0, 0, 1, 0] ++ List.replicate 7 0 ++ [0x0C]), .fwFirn .f0, .f0, by decide +kernel⟩,
    ⟨{ wReq 0x0112 [] with regs := (⟨.FIRN_STATUS, 0⟩, 0) :: wRun.regs }, .fwFirn .f0, .f0, by decide +kernel⟩,
    ⟨wReq 0x0110 [], .fwFirn .f0, .f0, by decide +kernel⟩,
    ⟨wReq 0x0112 [], .fwFirn .f0, .f0, by decide +kernel⟩,
    ⟨{ wReq 0x0112 [0, 0, 0, 0, 7] with regs := (⟨.FIRN_STATUS, 0⟩, 0) :: wRun.regs, f0 := { runs := true, log := [(7, []), (8, [])] } }, .fwFirn .f0, .f0, (7, []), by decide +kernel⟩,
    ⟨wRun, wDescT 0 16 [], by decide +kernel⟩,
    ⟨{ wRun with f0 := { runs := true, log := [(7, [])] } }, wDescT 0 1024 [], _, _, _, by decide +kernel, by decide +kernel, rfl, rfl, rfl⟩⟩

set_option maxRecDepth 20000 in
/-- States and operands that meet the hypotheses of each clause of MoneyConserved. -/
theorem witness_MoneyConserved :
    (∃ (tf : List Byte) (n : Nat), (∀ c < 16, field tf (64 + 32 * c + 3) 1 < n ∧ field tf (64 + 32 * c + 4) 1 < n) ∧ (tfComponents tf ≤ 16)) ∧
    (∃ (b : List Byte) (n : Nat) (l : List Part), (postParts b n = some l)) :=
  ⟨⟨[], 1, by decide +kernel⟩,
    ⟨[1, 0, 1, 0], 96, [{ slot := 0, force := false, amount := 0, hold := 0 }], by decide +kernel⟩⟩

set_option maxRecDepth 20000 in
/-- States and operands that meet the hypotheses of each clause of LedgerCommands. -/
theorem witness_LedgerCommands :
    (∃ (s : State) (d : Desc) (b : List Byte), (s.accepts 0x38 d = true) ∧ (tariffOk (b.take (DescF.bufLen d)) = false)) ∧
    (∃ (s : State) (d : Desc) (b : List Byte), (s.accepts 0x38 d = true) ∧ (tariffOk (b.take (DescF.bufLen d)) = true)) ∧
    (∃ (s : State) (d : Desc), (s.accepts 0x39 d = true) ∧ (tabFind (s.taken d).ledger.pend d.target.toNat = none)) ∧
    (∃ (s : State) (d : Desc) (b : List Byte), (s.accepts 0x39 d = true) ∧ (tabFind (s.taken d).ledger.pend d.target.toNat = some b)) ∧
    (∃ (s : State) (d : Desc), (s.accepts 0x30 d = true) ∧ ((s.taken d).power.memStall = false) ∧ ((s.taken d).ledger.parking = false)) ∧
    (∃ (s : State) (d : Desc), (s.accepts 0x30 d = true) ∧ ((s.taken d).power.memStall = true ∨ (s.taken d).ledger.parking = true)) ∧
    (∃ (s : State) (d : Desc), (s.accepts 0x31 d = true) ∧ ((s.taken d).power.memStall = true ∨ (s.taken d).ledger.parking = true)) ∧
    (∃ (s : State) (d : Desc), (s.accepts 0x32 d = true) ∧ ((s.taken d).power.memStall = true ∨ (s.taken d).ledger.parking = true)) ∧
    (∃ (s : State) (d : Desc), (s.accepts 0x33 d = true) ∧ ((s.taken d).power.memStall = true ∨ (s.taken d).ledger.parking = true)) ∧
    (∃ (d : Desc), (DescF.bufLen d < 256)) ∧
    (∃ (s : State) (u : State) (d : Desc) (fs : List TagFail) (o : Option (List Byte)), (256 ≤ DescF.bufLen d) ∧ (s.readSlot fs d.target.toNat = (u, o))) ∧
    (∃ (s : State) (d : Desc), (s.accepts 0x31 d = true) ∧ ((s.taken d).power.memStall = false) ∧ ((s.taken d).ledger.parking = false)) ∧
    (∃ (d : Desc) (b : List Byte), (postParts b (DescF.bufLen d) = none)) ∧
    (∃ (s : State) (d : Desc), (s.accepts 0x32 d = true) ∧ ((s.taken d).power.memStall = false) ∧ ((s.taken d).ledger.parking = false)) ∧
    (∃ (s : State) (d : Desc), (s.accepts 0x33 d = true) ∧ ((s.taken d).power.memStall = false) ∧ ((s.taken d).ledger.parking = false)) ∧
    (∃ (s : State) (d : Desc) (b : List Byte) (fs : List TagFail), (256 ≤ DescF.bufLen d) ∧ (fs.contains .index = false) ∧ ((s.ledger.dead && s.ledger.revived.isEmpty) = false) ∧ (s.ledger.index.find? (fun x => x.1 == field b 0 8) = none)) ∧
    (∃ (s : State) (d : Firn) (seq : Nat) (r : Rec) (x : Nat × JEntry), (s.dieRuns .cdie = true) ∧ (s.linkUp d.link = true) ∧ (s.get Fld.LEDGER_STATUS__STATE 0 = 1) ∧ (∀ x ∈ (s.firn d).records, x.acked = false → x.seq < seq → (s.ledger.record d x.seq).isSome = true) ∧ (s.power.memStall = false) ∧ (s.ledger.parking = false) ∧ ((s.firn d).records.find? (fun r => r.seq == seq && !r.acked) = some r) ∧ (s.ledger.record d seq = some x)) ∧
    (∃ (s : State) (d : Firn) (seq : Nat) (pos : Nat) (r : Rec), (s.dieRuns .cdie = true) ∧ (s.linkUp d.link = true) ∧ (s.get Fld.LEDGER_STATUS__STATE 0 = 1) ∧ (∀ x ∈ (s.firn d).records, x.acked = false → x.seq < seq → (s.ledger.record d x.seq).isSome = true) ∧ (s.power.memStall = false) ∧ (s.ledger.parking = false) ∧ ((s.firn d).records.find? (fun r => r.seq == seq && !r.acked) = some r) ∧ (s.ledger.record d seq = none) ∧ (unsettled s.ledger < 1024) ∧ (freePos s.ledger s.ledger.jpos 16384 = some pos)) ∧
    (∃ (s : State) (d : Firn) (seq : Nat), (s.dieRuns .cdie = false ∨ s.linkUp d.link = false ∨ s.get Fld.LEDGER_STATUS__STATE 0 ≠ 1 ∨ s.power.memStall = true ∨ s.ledger.parking = true ∨ (s.firn d).records.find? (fun r => r.seq == seq && !r.acked) = none ∨ (∃ x ∈ (s.firn d).records, x.acked = false ∧ x.seq < seq ∧ s.ledger.record d x.seq = none))) ∧
    (∃ (s : State) (d : Firn) (seq : Nat), (s.ledger.record d seq = none) ∧ (1024 ≤ unsettled s.ledger ∨ freePos s.ledger s.ledger.jpos 16384 = none)) ∧
    (∃ (s : State) (d : Firn) (seq : Nat), (s.firnLive d = false ∨ s.linkUp d.link = false ∨ s.ledger.acks.contains (d, seq) = false)) ∧
    (∃ (s : State) (d : Firn) (seq : Nat), (s.firnLive d = true) ∧ (s.linkUp d.link = true) ∧ (s.ledger.acks.contains (d, seq) = true)) ∧
    (∃ (s : State) (n : Nat), (s.ledger.quar.contains n = false)) ∧
    (∃ (s : State) (u : State) (v : State) (n : Nat) (bad : List Nat) (imgs : List (Nat × Option (Nat × List Byte))), (s.ledger.quar.contains n = true) ∧ (imgs = ([0, 1, 2, 3].filter fun k => s.ledger.poison.contains (slotLine n k)).map (fun k => (k, replayImage s.ledger.newest (slotLine n k)))) ∧ (u = (imgs.filterMap fun x => match x.2 with | some (p, _) => if bad.contains p then some p else none | none => none).foldl (fun s p => s.failOther (.journal p)) s) ∧ (v = imgs.foldl (fun s x => match x.2 with | some (_, b) => s.writeLine [] n x.1 b | none => s) u)) ∧
    (∃ (s : State) (n : Nat), (s.ledger.quar.contains n = true) ∧ ([0, 1, 2, 3].filter (fun k => s.ledger.poison.contains (slotLine n k)) = [0]) ∧ (s.ledger.journal = [])) ∧
    (∃ (s : State) (n : Nat), (s.ledger.quar.contains n = true) ∧ ([0, 1, 2, 3].filter (fun k => s.ledger.poison.contains (slotLine n k)) = [])) :=
  ⟨⟨wRun, wDescT 3 1024 [], [], by decide +kernel⟩,
    ⟨wRun, wDescT 3 1024 [], [1, 0, 0, 0, 1, 1, 0, 0, 5] ++ List.replicate 55 0 ++ [3, 0, 0, 0, 1] ++ List.replicate 27 0, by decide +kernel⟩,
    ⟨wRun, wDescT 3 0 [], by decide +kernel⟩,
    ⟨{ wRun with ledger := { pend := [(3, [])] } }, wDescT 3 0 [], [], by decide +kernel⟩,
    ⟨wRun, wDescT 3 1024 [], by decide +kernel⟩,
    ⟨{ wRun with power := { memStall := true } }, wDescT 3 1024 [], by decide +kernel⟩,
    ⟨{ wRun with power := { memStall := true } }, wDescT 0 1024 [], by decide +kernel⟩,
    ⟨{ wRun with power := { memStall := true } }, wDescT 3 1024 [], by decide +kernel⟩,
    ⟨{ wRun with power := { memStall := true } }, wDescT 0 1024 [], by decide +kernel⟩,
    ⟨wDescT 0 16 [], by decide +kernel⟩,
    ⟨wRun, _, wDescT 0 1024 [], [], _, by decide +kernel, rfl⟩,
    ⟨wRun, wDescT 0 1024 [], by decide +kernel⟩,
    ⟨wDescT 0 1024 [], [], by decide +kernel⟩,
    ⟨wRun, wDescT 3 1024 [], by decide +kernel⟩,
    ⟨wRun, wDescT 0 1024 [], by decide +kernel⟩,
    ⟨wRun, wDescT 0 1024 [], [], [], by decide +kernel⟩,
    ⟨{ wFregs [(⟨.LEDGER_STATUS, 0⟩, 0x40000000)] with f0 := { runs := true, records := [{ seq := 0, point := 4, bytes := [] }] }, ledger := { journal := [(0, { kind := 4, state := 8, bytes := [], die := .f0, point := 4 })] } }, .f0, 0, { seq := 0, point := 4, bytes := [] }, (0, { kind := 4, state := 8, bytes := [], die := .f0, point := 4 }), by decide +kernel⟩,
    ⟨{ wFregs [(⟨.LEDGER_STATUS, 0⟩, 0x40000000)] with f0 := { runs := true, records := [{ seq := 0, point := 4, bytes := [] }] } }, .f0, 0, 0, { seq := 0, point := 4, bytes := [] }, by decide +kernel⟩,
    ⟨wRun, .f0, 3, .inr (.inr (.inl (by decide +kernel)))⟩,
    ⟨{ wRun with ledger := { journal := (List.range 1024).map fun k => (k, { kind := 4, state := 7, bytes := [] }) } }, .f0, 3, by decide +kernel⟩,
    ⟨wFirn, .f0, 3, by decide +kernel⟩,
    ⟨{ wFirn with ledger := { acks := [(.f0, 3)] } }, .f0, 3, by decide +kernel⟩,
    ⟨wRun, 3, by decide +kernel⟩,
    ⟨{ wRun with ledger := { quar := [3] } }, _, _, 3, [], _, by decide +kernel, rfl, rfl, rfl⟩,
    ⟨{ wRun with ledger := { quar := [3], poison := [12] } }, 3, by decide +kernel⟩,
    ⟨{ wRun with ledger := { quar := [3] } }, 3, by decide +kernel⟩⟩

set_option maxRecDepth 20000 in
/-- States and operands that meet the hypotheses of each clause of Arbitration. -/
theorem witness_Arbitration :
    (∃ (w : Order) (l : List Order) (o : Order), (o = w ∨ o ∈ l)) :=
  ⟨{ src := 4, act := .stop 4 }, [], { src := 4, act := .stop 4 }, by decide +kernel⟩

set_option maxRecDepth 20000 in
/-- States and operands that meet the hypotheses of each clause of ArbitratedCommands. -/
theorem witness_ArbitratedCommands :
    (∃ (s : State) (d : Desc), (s.accepts 0x10 d = true) ∧ (DescF.par d 2 2 ≠ 0)) ∧
    (∃ (s : State) (d : Desc), (s.accepts 0x10 d = true) ∧ (DescF.par d 2 2 = 0) ∧ (DescF.bufLen d = 0)) ∧
    (∃ (s : State) (d : Desc), (s.accepts 0x10 d = true) ∧ (DescF.par d 2 2 = 0) ∧ (DescF.bufLen d ≠ 0)) ∧
    (∃ (s : State) (d : Desc), (s.accepts 0x11 d = true)) ∧
    (∃ (s : State) (d : Desc), (s.accepts 0x12 d = true) ∧ ((s.taken d).limitSuits d.target.toNat (DescF.par d 0 4) = true)) ∧
    (∃ (s : State) (d : Desc), (s.accepts 0x12 d = true) ∧ ((s.taken d).limitSuits d.target.toNat (DescF.par d 0 4) = false)) ∧
    (∃ (s : State) (d : Desc), (s.accepts 0x20 d = true) ∧ (DescF.par d 0 1 ≤ 1) ∧ ((s.taken d).switchRefusal d.target.toNat (DescF.par d 0 1 == 1) = none)) ∧
    (∃ (s : State) (d : Desc), (s.accepts 0x20 d = true) ∧ (1 < DescF.par d 0 1)) ∧
    (∃ (s : State) (d : Desc) (st : Nat) (r : Nat), (s.accepts 0x20 d = true) ∧ (DescF.par d 0 1 ≤ 1) ∧ ((s.taken d).switchRefusal d.target.toNat (DescF.par d 0 1 == 1) = some (st, r))) ∧
    (∃ (s : State) (d : Desc), (s.accepts 0x21 d = true) ∧ (DescF.par d 0 6 ≠ 0) ∧ (DescF.par d 6 2 = 0) ∧ (DescF.par d 8 1 ≤ 1) ∧ (DescF.allOrNone d = false ∨ DescF.par d 8 1 = 1)) ∧
    (∃ (s : State) (d : Desc), (s.accepts 0x21 d = true) ∧ (DescF.par d 0 6 ≠ 0) ∧ (DescF.par d 6 2 ≠ 0)) ∧
    (∃ (s : State) (d : Desc), (s.accepts 0x21 d = true) ∧ (DescF.par d 0 6 ≠ 0) ∧ (DescF.par d 6 2 = 0) ∧ (DescF.par d 8 1 = 0) ∧ (DescF.allOrNone d = true)) ∧
    (∃ (s : State) (d : Desc), (s.accepts 0x21 d = true) ∧ (DescF.par d 0 6 = 0)) ∧
    (∃ (s : State) (d : Desc), (s.accepts 0x21 d = true) ∧ (DescF.par d 0 6 ≠ 0) ∧ (DescF.par d 6 2 = 0) ∧ (1 < DescF.par d 8 1)) ∧
    (∃ (s : State) (d : Desc), (s.accepts 0x28 d = true) ∧ (DescF.par d 0 1 = 1 ∨ DescF.par d 0 1 = 2) ∧ (((s.taken d).scfg d.target.toNat).lock = true) ∧ (((s.taken d).slice d.target.toNat).test.isSome = false)) ∧
    (∃ (s : State) (d : Desc), (s.accepts 0x28 d = true) ∧ (DescF.par d 0 1 = 0 ∨ 2 < DescF.par d 0 1)) ∧
    (∃ (s : State) (d : Desc), (s.accepts 0x28 d = true) ∧ (DescF.par d 0 1 = 1 ∨ DescF.par d 0 1 = 2) ∧ (((s.taken d).scfg d.target.toNat).lock = false)) ∧
    (∃ (s : State) (d : Desc), (s.accepts 0x28 d = true) ∧ (DescF.par d 0 1 = 1 ∨ DescF.par d 0 1 = 2) ∧ (((s.taken d).scfg d.target.toNat).lock = true) ∧ (((s.taken d).slice d.target.toNat).test.isSome = true)) ∧
    (∃ (s : State) (d : Desc), (s.accepts 0x29 d = true) ∧ (1 ≤ DescF.par d 0 1) ∧ (DescF.par d 0 1 ≤ 3) ∧ (((s.taken d).slice d.target.toNat).test.isSome = false)) ∧
    (∃ (s : State) (d : Desc), (s.accepts 0x29 d = true) ∧ (DescF.par d 0 1 = 0 ∨ 3 < DescF.par d 0 1)) ∧
    (∃ (s : State) (d : Desc), (s.accepts 0x29 d = true) ∧ (1 ≤ DescF.par d 0 1) ∧ (DescF.par d 0 1 ≤ 3) ∧ (((s.taken d).slice d.target.toNat).test.isSome = true)) ∧
    (∃ (s : State) (p : Nat), (s.mpState p ≠ mpMetering)) ∧
    (∃ (s : State) (t : State) (u : State) (p : Nat), (s.mpState p = mpMetering) ∧ (t = (s.stops.filter (·.point == p)).foldl (fun s x => s.fin x.t stTimeout 6) { s with stops := s.stops.filter (·.point != p) }) ∧ (u = (match t.swOf p with | none => t | some n => (t.gov.groups.filter fun x => !x.on && bitAt x.mask n && !x.failed.any (·.1 == n) && !bitAt x.applied n).foldl (fun s x => s.partDone x.id n stTimeout) t))) :=
  ⟨⟨{ wRun with cfg := { points := [(4, { commodity := 1 })] } }, wDescT 4 0 [0, 0, 1], by decide +kernel⟩,
    ⟨{ wRun with cfg := { points := [(4, { commodity := 1 })] } }, wDescT 4 0 [], by decide +kernel⟩,
    ⟨{ wRun with cfg := { points := [(4, { commodity := 1 })] } }, wDescT 4 256 [], by decide +kernel⟩,
    ⟨{ wRun with cfg := { points := [(4, { commodity := 1 })] } }, wDescT 4 0 [], by decide +kernel⟩,
    ⟨{ wRun with cfg := { points := [(4, { commodity := 1 })] } }, wDescT 4 0 [1], by decide +kernel⟩,
    ⟨{ wRun with cfg := { points := [(4, { commodity := 1 })] } }, wDescT 4 0 [3], by decide +kernel⟩,
    ⟨wRun, wDescT 4 0 [1], by decide +kernel⟩,
    ⟨wRun, wDescT 4 0 [2], by decide +kernel⟩,
    ⟨wRegs [(⟨.SW_STATUS, 9⟩, 0x10000000)], wDescT 9 0 [1], stCapacity, 1, by decide +kernel⟩,
    ⟨wRun, wDescT 0 0 [3, 0, 0, 0, 0, 0, 0, 0, 1], by decide +kernel⟩,
    ⟨wRun, wDescT 0 0 [3, 0, 0, 0, 0, 0, 1, 0, 1], by decide +kernel⟩,
    ⟨wRun, { wDescT 0 0 [3, 0, 0, 0, 0, 0, 0, 0, 0] with flags := 4 }, by decide +kernel⟩,
    ⟨wRun, wDescT 0 0 [0, 0, 0, 0, 0, 0, 0, 0, 1], by decide +kernel⟩,
    ⟨wRun, wDescT 0 0 [3, 0, 0, 0, 0, 0, 0, 0, 2], by decide +kernel⟩,
    ⟨{ wRun with cfg := { slices := [(2, { kind := 1, point := some 4, lock := true })], points := [(4, { commodity := 1 })] } }, wDescT 2 0 [1], by decide +kernel⟩,
    ⟨{ wRun with cfg := { slices := [(2, { kind := 1, point := some 4, lock := true })], points := [(4, { commodity := 1 })] } }, wDescT 2 0 [3], by decide +kernel⟩,
    ⟨{ wRun with cfg := { slices := [(2, { kind := 1, point := some 4 })], points := [(4, { commodity := 1 })] } }, wDescT 2 0 [1], by decide +kernel⟩,
    ⟨{ wRun with cfg := { slices := [(2, { kind := 1, point := some 4, lock := true })], points := [(4, { commodity := 1 })] }, slices := [(2, { test := some (wRun.ticket wDesc) })] }, wDescT 2 0 [1], by decide +kernel⟩,
    ⟨{ wRun with cfg := { slices := [(2, { kind := 1, point := some 4 })], points := [(4, { commodity := 1 })] } }, wDescT 2 0 [2], by decide +kernel⟩,
    ⟨{ wRun with cfg := { slices := [(2, { kind := 1, point := some 4 })], points := [(4, { commodity := 1 })] } }, wDescT 2 0 [4], by decide +kernel⟩,
    ⟨{ wRun with cfg := { slices := [(2, { kind := 1, point := some 4 })], points := [(4, { commodity := 1 })] }, slices := [(2, { test := some (wRun.ticket wDesc) })] }, wDescT 2 0 [2], by decide +kernel⟩,
    ⟨wRun, 4, by decide +kernel⟩,
    ⟨{ wFregs [(⟨.MP_STATE, 4⟩, 2)] with stops := [{ point := 4, t := wRun.ticket wDesc }] }, _, _, 4, by decide +kernel, rfl, rfl⟩⟩

set_option maxRecDepth 20000 in
/-- States and operands that meet the hypotheses of each clause of SwitchOutput. -/
theorem witness_SwitchOutput :
    (∃ (s : State) (n : Nat), ((s.swRefresh n).swOn n = true)) :=
  ⟨wRegs [(⟨.DRV_STATUS, 0⟩, 0)] |>.setSw 9 { drive := true }, 9, by decide +kernel⟩

set_option maxRecDepth 20000 in
/-- States and operands that meet the hypotheses of each clause of SwitchProtection. -/
theorem witness_SwitchProtection :
    (∃ (s : State) (n : Nat), (s.swOn n = true) ∧ (s.flag Fld.SW_CFG__ILIM_TIME n = true)) ∧
    (∃ (s : State) (n : Nat), (s.swOn n = false ∨ s.flag Fld.SW_CFG__ILIM_TIME n = false)) ∧
    (∃ (s : State) (t : State) (u : State) (n : Nat) (cause : Nat) (r : Nat), (r = if (s.sw n).onSince + 10000000 ≤ s.time then 0 else s.get Fld.SW_STATUS__RETRIES n) ∧ (t = (((s.put Fld.SW_STATUS__RETRIES n r).setWant n false).bump Fld.SW_COUNT__PROT_OFFS n 1).put (if cause = 1 then Fld.DRV_ERR__OVERLOAD else Fld.DRV_ERR__OVERTEMP) 0 1) ∧ (u = (let v := t.postSwitch n { code := 0x501, sev := 1, obj := n, data := cause }; if v.sessionSw n = true then v.stopPoints n 5 else v))) ∧
    (∃ (s : State) (n : Nat), ((s.sw n).due = 1) ∧ (s.dieRuns .cdie = true)) ∧
    (∃ (s : State) (n : Nat), ((s.sw n).due ≠ 1 ∨ s.dieRuns .cdie = false)) ∧
    (∃ (s : State) (n : Nat), ((s.put Fld.SW_STATUS__TJ n 220).swOn n = true)) ∧
    (∃ (s : State) (n : Nat), ((s.put Fld.SW_STATUS__TJ n 220).swOn n = false)) ∧
    (∃ (s : State) (n : Nat) (tj : Nat), (tj < 200) ∧ (((s.put Fld.SW_STATUS__TJ n tj).sw n).due = 2) ∧ ((s.put Fld.SW_STATUS__TJ n tj).dieRuns .cdie = true)) ∧
    (∃ (s : State) (n : Nat) (tj : Nat), (tj < 200) ∧ (((s.put Fld.SW_STATUS__TJ n tj).sw n).due ≠ 2 ∨ (s.put Fld.SW_STATUS__TJ n tj).dieRuns .cdie = false)) ∧
    (∃ (tj : Nat), (200 ≤ tj)) ∧
    (∃ (s : State) (n : Nat), (s.swOn n = false ∨ s.flag Fld.SW_STATUS__OPEN_LOAD n = true)) ∧
    (∃ (code : Nat), (code = 0 ∨ 5 < code)) ∧
    (∃ (s : State) (n : Nat), (s.swOn n = true) ∧ (s.flag Fld.SW_STATUS__OPEN_LOAD n = false)) ∧
    (∃ (code : Nat), (1 ≤ code) ∧ (code ≤ 5)) ∧
    (∃ (s : State) (t : State) (v : Nat), (v < 750) ∧ (s.vswGood = true) ∧ (s.dieRuns .ddie = true) ∧ (t = ((s.put Fld.DRV_STATUS__VSW 0 v).put Fld.DRV_STATUS__VSW_STATE 0 1).put Fld.DRV_ERR__VSW_UV 0 1)) ∧
    (∃ (s : State) (v : Nat), (750 ≤ v ∨ s.vswGood = false ∨ s.dieRuns .ddie = false)) ∧
    (∃ (s : State) (t : State) (u : State) (v : Nat), (850 < v) ∧ (s.vswGood = false) ∧ (s.dieRuns .ddie = true) ∧ (t = if s.dieRuns .cdie = true then s else (upTo 48).foldl (fun s n => s.put Fld.SW_STATUS__UV_WAIT n 0) s) ∧ (u = (((t.put Fld.DRV_STATUS__VSW 0 v).put Fld.DRV_STATUS__VSW_STATE 0 (if ((upTo 48).filter fun n => t.flag Fld.SW_STATUS__UV_WAIT n) = [] then 0 else 2)).postBoth { code := 0x111, sev := 0, data := ((upTo 48).filter fun n => t.flag Fld.SW_STATUS__UV_WAIT n).length }))) ∧
    (∃ (s : State) (v : Nat), (v ≤ 850 ∨ s.vswGood = true ∨ s.dieRuns .ddie = false)) ∧
    (∃ (s : State), (s.gov.wdt.isSome = true ∨ s.dieRuns .ddie = false ∨ (s.pwr = 2 ∧ s.linkUp .driver = true))) ∧
    (∃ (s : State), (s.gov.wdt = none) ∧ (s.dieRuns .ddie = true) ∧ (s.pwr ≠ 2 ∨ s.linkUp .driver = false)) ∧
    (∃ (s : State) (u : State) (k : Nat) (n : Nat) (r : List Nat), (s.gov.wdt = some k) ∧ (s.gov.fsOn = n :: r) ∧ (u = s.setGov { s.gov with wdt := some (k + 1), fsOn := r })) ∧
    (∃ (s : State), (s.gov.wdt = none ∨ s.gov.fsOn = [])) ∧
    (∃ (s : State), (s.flag Fld.DRV_STATUS__SNS_SEL_MODE 0 = false)) ∧
    (∃ (s : State), (s.flag Fld.DRV_STATUS__SNS_SEL_MODE 0 = true)) ∧
    (∃ (s : State), (s.flag Fld.DRV_STATUS__SNS_SEL_MODE 0 = true)) ∧
    (∃ (s : State), (s.flag Fld.DRV_STATUS__SNS_SEL_MODE 0 = false)) :=
  ⟨⟨wRegs [(⟨.SW_STATUS, 9⟩, 0x80000000), (⟨.SW_CFG, 9⟩, 0xFFFFFFFF)], 9, by decide +kernel⟩,
    ⟨wRun, 9, by decide +kernel⟩,
    ⟨wRun, _, _, 9, 1, _, rfl, rfl, rfl⟩,
    ⟨wRun.setSw 9 { due := 1 }, 9, by decide +kernel⟩,
    ⟨wRun, 9, by decide +kernel⟩,
    ⟨wRegs [(⟨.SW_STATUS, 9⟩, 0x80000000)], 9, by decide +kernel⟩,
    ⟨wRun, 9, by decide +kernel⟩,
    ⟨wRun.setSw 9 { due := 2 }, 9, 199, by decide +kernel⟩,
    ⟨wRun, 9, 199, by decide +kernel⟩,
    ⟨200, by decide +kernel⟩,
    ⟨wRun, 9, by decide +kernel⟩,
    ⟨0, by decide +kernel⟩,
    ⟨wRegs [(⟨.SW_STATUS, 9⟩, 0x80000000)], 9, by decide +kernel⟩,
    ⟨1, by decide +kernel⟩,
    ⟨wRegs [(⟨.DRV_STATUS, 0⟩, 0)], _, 700, by decide +kernel, by decide +kernel, by decide +kernel, rfl⟩,
    ⟨wRun, 750, by decide +kernel⟩,
    ⟨wRun, _, _, 851, by decide +kernel, by decide +kernel, by decide +kernel, rfl, rfl⟩,
    ⟨wRun, 750, by decide +kernel⟩,
    ⟨{ wRun with gov := { wdt := some 0 } }, by decide +kernel⟩,
    ⟨wRun, by decide +kernel⟩,
    ⟨{ wRun with gov := { wdt := some 0, fsOn := [9] } }, _, 0, 9, [], by decide +kernel, by decide +kernel, rfl⟩,
    ⟨wRun, by decide +kernel⟩,
    ⟨wRun, by decide +kernel⟩,
    ⟨wRegs [(⟨.DRV_STATUS, 0⟩, 0xFFFFFFFF)], by decide +kernel⟩,
    ⟨wRegs [(⟨.DRV_STATUS, 0⟩, 0xFFFFFFFF)], by decide +kernel⟩,
    ⟨wRun, by decide +kernel⟩⟩

set_option maxRecDepth 20000 in
/-- States and operands that meet the hypotheses of each clause of SwitchDescriptors. -/
theorem witness_SwitchDescriptors :
    (∃ (s : State) (d : Desc), (s.accepts 0x22 d = true) ∧ (((s.taken d).sw d.target.toNat).test.isSome = false) ∧ ((s.taken d).swLocked d.target.toNat = false)) ∧
    (∃ (s : State) (d : Desc), (s.accepts 0x22 d = true) ∧ (((s.taken d).sw d.target.toNat).test.isSome = false) ∧ ((s.taken d).swLocked d.target.toNat = true) ∧ (((s.taken d).sw d.target.toNat).clampLock ≠ 0) ∧ ((s.taken d).get Fld.SW_CFG__CLAMP_BUDGET d.target.toNat * 500000 ≤ (s.taken d).clampSum d.target.toNat)) ∧
    (∃ (s : State) (d : Desc), (s.accepts 0x22 d = true) ∧ (((s.taken d).sw d.target.toNat).test.isSome = false) ∧ ((s.taken d).swLocked d.target.toNat = true) ∧ (((s.taken d).sw d.target.toNat).clampLock = 0) ∧ (((s.taken d).sw d.target.toNat).latch ≠ 0) ∧ (200 ≤ (s.taken d).get Fld.SW_STATUS__TJ d.target.toNat)) ∧
    (∃ (s : State) (d : Desc), (s.accepts 0x22 d = true) ∧ (((s.taken d).sw d.target.toNat).test.isSome = false) ∧ ((s.taken d).swLocked d.target.toNat = true) ∧ ((s.taken d).clampSum d.target.toNat < (s.taken d).get Fld.SW_CFG__CLAMP_BUDGET d.target.toNat * 500000) ∧ ((s.taken d).get Fld.SW_STATUS__TJ d.target.toNat < 200)) ∧
    (∃ (s : State) (d : Desc) (k : Nat), (s.accepts 0x23 d = true) ∧ (switchConfigBad d.param = some k)) ∧
    (∃ (s : State) (d : Desc), (s.accepts 0x23 d = true) ∧ (switchConfigBad d.param = none) ∧ (field d.param 0 1 ≠ 0) ∧ ((s.taken d).sessionSw d.target.toNat = true)) ∧
    (∃ (s : State) (d : Desc), (s.accepts 0x23 d = true) ∧ (switchConfigBad d.param = none) ∧ (field d.param 0 1 = 0) ∧ (((s.taken d).sw d.target.toNat).test.isSome = false)) ∧
    (∃ (s : State) (d : Desc), (s.accepts 0x24 d = true) ∧ (((s.taken d).sw d.target.toNat).test.isSome = false) ∧ ((s.taken d).swFailed d.target.toNat = false)) ∧
    (∃ (s : State) (d : Desc), (s.accepts 0x24 d = true) ∧ (((s.taken d).sw d.target.toNat).test.isSome = false) ∧ ((s.taken d).swFailed d.target.toNat = true) ∧ (∀ p ∈ (s.taken d).pointsOfSw d.target.toNat, (s.taken d).mpState p = 0 ∨ 3 < (s.taken d).mpState p)) ∧
    (∃ (s : State) (d : Desc), (s.accepts 0x22 d = true) ∧ (((s.taken d).sw d.target.toNat).test.isSome = true)) ∧
    (∃ (s : State) (d : Desc), (s.accepts 0x23 d = true) ∧ (switchConfigBad d.param = none) ∧ (((s.taken d).sw d.target.toNat).test.isSome = true)) ∧
    (∃ (s : State) (d : Desc), (s.accepts 0x24 d = true) ∧ (((s.taken d).sw d.target.toNat).test.isSome = true)) ∧
    (∃ (s : State) (d : Desc) (p : Nat), (s.accepts 0x24 d = true) ∧ (((s.taken d).sw d.target.toNat).test.isSome = false) ∧ ((s.taken d).swFailed d.target.toNat = true) ∧ (p ∈ (s.taken d).pointsOfSw d.target.toNat) ∧ (1 ≤ (s.taken d).mpState p) ∧ ((s.taken d).mpState p ≤ 3)) :=
  ⟨⟨wRun, wDescT 4 0 [], by decide +kernel⟩,
    ⟨wRun.setSw 4 { clampLock := 1, sum := 1000000000 }, wDescT 4 0 [], by decide +kernel⟩,
    ⟨wRegs [(⟨.SW_STATUS, 4⟩, 0xFF)] |>.setSw 4 { latch := 3 }, wDescT 4 0 [], by decide +kernel⟩,
    ⟨wRegs [(⟨.SW_CFG, 4⟩, 0xFFFFFFFF)] |>.setSw 4 { latch := 3 }, wDescT 4 0 [], by decide +kernel⟩,
    ⟨wRun, wDescT 4 0 [3], 24, by decide +kernel⟩,
    ⟨wRegs [(⟨.SW_STATUS, 4⟩, 0x10000000)], wDescT 4 0 [1, 0, 0, 0, 50], by decide +kernel⟩,
    ⟨wRun, wDescT 4 0 [0, 0, 0, 0, 50], by decide +kernel⟩,
    ⟨wRun, wDescT 4 0 [], by decide +kernel⟩,
    ⟨wRegs [(⟨.SW_STATUS, 4⟩, 0x100)], wDescT 4 0 [], by decide +kernel⟩,
    ⟨wRegs [(⟨.SW_STATUS, 4⟩, 0x100)] |>.setSw 4 { test := some (wRun.ticket wDesc) }, wDescT 4 0 [], by decide +kernel⟩,
    ⟨wRegs [(⟨.SW_STATUS, 4⟩, 0x100)] |>.setSw 4 { test := some (wRun.ticket wDesc) }, wDescT 4 0 [0, 0, 0, 0, 50], by decide +kernel⟩,
    ⟨wRegs [(⟨.SW_STATUS, 4⟩, 0x100)] |>.setSw 4 { test := some (wRun.ticket wDesc) }, wDescT 4 0 [], by decide +kernel⟩,
    ⟨{ wRegs [(⟨.SW_STATUS, 4⟩, 0x100), (⟨.MP_STATE, 4⟩, 2)] with cfg := { points := [(4, { commodity := 3, switch := some 4 })] } }, wDescT 4 0 [], 4, by decide +kernel⟩⟩

set_option maxRecDepth 20000 in
/-- States and operands that meet the hypotheses of each clause of OfferedCurrent. -/
theorem witness_OfferedCurrent :
    (∃ (s : State) (p : Nat) (r : Nat) (v : Nat), (((p, 1, r), v) ∈ s.limits)) ∧
    (∃ (s : State) (p : Nat) (a : Nat), (tabFind s.gov.alloc p = some a)) ∧
    (∃ (s : State) (i : Nat), ((s.scfg i).kind ≠ 3) ∧ ((s.scfg i).ppMode = 0) ∧ (s.get Fld.SLICE_PP__PP_CODE i = 0 ∨ s.get Fld.SLICE_PP__PP_CODE i = 5)) :=
  ⟨⟨{ wRun with limits := [((4, 1, 3), 9000)] }, 4, 3, 9000, by decide +kernel⟩,
    ⟨{ wRun with gov := { alloc := [(4, 0)] } }, 4, 0, by decide +kernel⟩,
    ⟨wRun, 2, by decide +kernel⟩⟩

set_option maxRecDepth 20000 in
/-- States and operands that meet the hypotheses of each clause of SliceCommands. -/
theorem witness_SliceCommands :
    (∃ (s : State) (i : Nat), (s.deEnergised i = true)) ∧
    (∃ (s : State) (i : Nat), (s.deEnergised i = false)) ∧
    (∃ (s : State) (i : Nat) (t : Nat) (dir : Bool), ((s.slice i).lockDir = some dir) ∧ ((s.slice i).lockRun = some t) ∧ ((s.slice i).lockAgain = false)) ∧
    (∃ (s : State) (t : State) (u : State) (i : Nat) (k : Nat) (dir : Bool), ((s.slice i).lockDir = some dir) ∧ ((s.slice i).lockRun = some k) ∧ ((s.slice i).lockAgain = true) ∧ (t = ((s.setSlice i { s.slice i with lockDir := none, lockRun := none, lockAgain := false, lockFault := true, locked := false, unlockDue := false, lockWaits := [] }).lockMirror i).postSlice i { code := 0x407, sev := 2, obj := i, data := if dir = true then 1 else 2 }) ∧ (u = (s.slice i).lockWaits.foldl (fun s w => s.fin w.1 stCapacity 3) t)) ∧
    (∃ (s : State) (i : Nat), ((s.slice i).lockDir = none ∨ (s.slice i).lockRun = none)) ∧
    (∃ (s : State) (i : Nat) (dir : Bool), ((s.slice i).lockDir = some dir) ∧ ((s.slice i).lockAgain = true) ∧ ((s.slice i).lockRun = none)) ∧
    (∃ (s : State) (i : Nat), ((s.slice i).lockDir = none ∨ (s.slice i).lockAgain = false ∨ (s.slice i).lockRun.isSome = true)) ∧
    (∃ (s : State) (i : Nat) (t : Nat) (x : Bool), (s.dieRuns .ddie = true) ∧ ((s.slice i).lockDir = some x) ∧ ((s.slice i).lockRun = some t)) ∧
    (∃ (s : State) (i : Nat), (s.dieRuns .ddie = true) ∧ ((s.slice i).lockDir = none) ∧ ((s.slice i).locked = true)) ∧
    (∃ (s : State) (u : State) (i : Nat) (x : Bool), (s.dieRuns .ddie = true) ∧ (u = s.setBoot { s.boot with inputs := tabSet s.boot.inputs (.lockFb i) (if x = true then .high else .low) }) ∧ ((s.slice i).lockDir ≠ some x ∨ (s.slice i).lockRun = none) ∧ (x = true ∨ (s.slice i).locked = false ∨ (s.slice i).lockDir ≠ none)) ∧
    (∃ (s : State), (s.dieRuns .ddie = false)) ∧
    (∃ (s : State) (i : Nat), (2 ≤ (s.slice i).out ∨ s.dieRuns .ddie = false)) ∧
    (∃ (s : State) (t : State) (u : State) (i : Nat) (k : Nat) (h : Int) (l : Int), ((s.slice i).out < 2) ∧ (s.dieRuns .ddie = true) ∧ (k = pilotClass (s.pilot i) ((s.slice i).out == 1) h l) ∧ (t = (s.put Fld.SLICE_PILOT__HIGH i (bitsOf 16 h)).put Fld.SLICE_PILOT__LOW i (if (s.slice i).out = 1 then bitsOf 16 l else 0x8000)) ∧ (u = if t.pilot i = k then t else if t.pilot i = 7 then t.put Fld.SLICE_STATUS__PILOT i k else (t.put Fld.SLICE_STATUS__PILOT i k).wakeSource 6)) ∧
    (∃ (k : Nat), (k ≤ 7)) ∧
    (∃ (s : State) (t : State) (i : Nat) (ohm : Nat) (k : Nat), (s.dieRuns .ddie = true) ∧ (k = ppClass (s.scfg i).ppMode ohm) ∧ (t = ((s.put Fld.SLICE_PP__R_PP i (if k = 0 then 65535 else min 65535 ohm)).put Fld.SLICE_PP__PP_CODE i k).put Fld.SLICE_PP__CABLE_A i (min 255 (cableOf (s.scfg i) k)))) ∧
    (∃ (s : State), (s.dieRuns .ddie = false)) ∧
    (∃ (s : State) (i : Nat), ((s.slice i).low = true) ∧ (s.contactorOn i = true) ∧ (s.pilot i = 2 ∨ s.pilot i = 3)) ∧
    (∃ (s : State) (i : Nat), ((s.slice i).low = false ∨ s.contactorOn i = false ∨ (s.pilot i ≠ 2 ∧ s.pilot i ≠ 3))) ∧
    (∃ (s : State) (i : Nat) (hot : List (Nat × Nat)), (s.session i = ssEnergised) ∧ (hot = (s.slice i).above.filter fun x => decide (x.2 + 5000000 ≤ s.time)) ∧ (hot ≠ [])) ∧
    (∃ (s : State) (i : Nat), (s.session i ≠ ssEnergised ∨ ((s.slice i).above.filter fun x => decide (x.2 + 5000000 ≤ s.time)) = [])) ∧
    (∃ (s : State) (i : Nat), (s.session i = ssOffered) ∧ (s.pilot i ≠ 2)) ∧
    (∃ (s : State) (i : Nat), (s.session i ≠ ssOffered ∨ s.pilot i = 2)) ∧
    (∃ (s : State) (i : Nat), ((s.slice i).tripF = false)) ∧
    (∃ (s : State) (i : Nat), ((s.slice i).tripF = true) ∧ ((s.setSlice i { s.slice i with tripF := false }).session i ≠ ssTripped)) ∧
    (∃ (s : State) (i : Nat), ((s.slice i).tripF = true) ∧ ((s.setSlice i { s.slice i with tripF := false }).session i = ssTripped)) ∧
    (∃ (s : State) (i : Nat), ((s.slice i).cred ≠ 0)) ∧
    (∃ (s : State) (i : Nat), ((s.slice i).cred = 0)) ∧
    (∃ (s : State) (i : Nat) (dc : Int), (s.dieRuns .ddie = true) ∧ ((s.scfg i).efMode = 1) ∧ ((s.scfg i).kind = 1 ∨ (s.scfg i).kind = 2) ∧ (s.contactorOn i = true) ∧ (300 ≤ dc.natAbs)) ∧
    (∃ (s : State) (i : Nat) (dc : Int), ((s.scfg i).efMode ≠ 1 ∨ (s.scfg i).kind = 3 ∨ (s.scfg i).kind = 0 ∨ s.dieRuns .ddie = false ∨ s.contactorOn i = false ∨ dc.natAbs < 300)) ∧
    (∃ (s : State) (i : Nat), ((s.slice i).rdcWait = false)) ∧
    (∃ (s : State) (i : Nat), ((s.slice i).rdcWait = true)) ∧
    (∃ (s : State) (i : Nat), ((s.slice i).rdcWait = true) ∧ ((s.scfg i).switch = none)) ∧
    (∃ (s : State) (i : Nat) (n : Nat), ((s.slice i).rdcWait = true) ∧ ((s.scfg i).switch = some n)) ∧
    (∃ (s : State) (t : State) (i : Nat) (r : Nat) (u : Nat), ((s.scfg i).efMode = 2) ∧ ((s.scfg i).kind = 3) ∧ (s.dieRuns .ddie = true) ∧ (t = (let v := s.isoShow i r u; if (v.usesHlc i && v.session i = ssEnding && !v.contactorOn i) = true then v.emit (.hlc i 9 u) else v))) ∧
    (∃ (s : State) (i : Nat), ((s.scfg i).efMode ≠ 2 ∨ (s.scfg i).kind ≠ 3 ∨ s.dieRuns .ddie = false)) ∧
    (∃ (s : State) (i : Nat), ((s.scfg i).efMode = 2) ∧ ((s.scfg i).kind = 3) ∧ (s.inSession i = true)) ∧
    (∃ (s : State) (i : Nat), ((s.scfg i).efMode = 2) ∧ ((s.scfg i).kind = 3) ∧ (s.inSession i = true)) ∧
    (∃ (s : State) (i : Nat), ((s.scfg i).efMode ≠ 2 ∨ (s.scfg i).kind ≠ 3 ∨ s.inSession i = false)) ∧
    (∃ (s : State) (d : Desc), (s.accepts 0x2C d = true) ∧ (((s.taken d).slice d.target.toNat).test.isSome = false) ∧ ((s.taken d).flag Fld.SLICE_STATUS__FAULT d.target.toNat = false)) ∧
    (∃ (s : State) (d : Desc), (s.accepts 0x2C d = true) ∧ (((s.taken d).slice d.target.toNat).test.isSome = true)) ∧
    (∃ (s : State) (d : Desc) (ready : Bool), (s.accepts 0x2C d = true) ∧ (((s.taken d).slice d.target.toNat).test.isSome = false) ∧ ((s.taken d).flag Fld.SLICE_STATUS__FAULT d.target.toNat = true) ∧ (ready = (match ((s.taken d).scfg d.target.toNat).point with | some p => ((s.taken d).mp p).oos == [1] && ((s.taken d).mp p).final && ((s.taken d).mp p).recFormed && !(s.taken d).starts.any (·.point == p) | none => true))) :=
  ⟨⟨wRun, 2, by decide +kernel⟩,
    ⟨{ wRegs [(⟨.SLICE_STATUS, 2⟩, 0x40080000)] with cfg := { slices := [(2, { kind := 1, point := some 4, switch := some 9 })], points := [(4, { commodity := 1 })] } }, 2, by decide +kernel⟩,
    ⟨wRun.setSlice 2 { lockDir := some true, lockRun := some 0 }, 2, 0, true, by decide +kernel⟩,
    ⟨wRun.setSlice 2 { lockDir := some false, lockRun := some 0, lockAgain := true }, _, _, 2, 0, false, by decide +kernel, by decide +kernel, by decide +kernel, rfl, rfl⟩,
    ⟨wRun, 2, by decide +kernel⟩,
    ⟨wRun.setSlice 2 { lockDir := some true, lockAgain := true }, 2, true, by decide +kernel⟩,
    ⟨wRun, 2, by decide +kernel⟩,
    ⟨wRun.setSlice 2 { lockDir := some true, lockRun := some 0 }, 2, 0, true, by decide +kernel⟩,
    ⟨wRun.setSlice 2 { locked := true }, 2, by decide +kernel⟩,
    ⟨wRun, _, 2, true, by decide +kernel, rfl, by decide +kernel, by decide +kernel⟩,
    ⟨{ wRun with boot := { stopped := [.ddie], downLinks := [] } }, by decide +kernel⟩,
    ⟨wRun.setSlice 2 { out := 2 }, 2, by decide +kernel⟩,
    ⟨wRegs [(⟨.SLICE_STATUS, 2⟩, 0x1000000)], _, _, 2, _, 9000, 0, by decide +kernel, by decide +kernel, rfl, rfl, rfl⟩,
    ⟨2, by decide +kernel⟩,
    ⟨wRun, _, 2, 200, _, by decide +kernel, rfl, rfl⟩,
    ⟨{ wRun with boot := { stopped := [.ddie], downLinks := [] } }, by decide +kernel⟩,
    ⟨wRegs [(⟨.SLICE_STATUS, 2⟩, 0x02080000)] |>.setSlice 2 { low := true }, 2, by decide +kernel⟩,
    ⟨wRun, 2, by decide +kernel⟩,
    ⟨{ wRegs [(⟨.SLICE_STATUS, 2⟩, 0x40000000)] with cfg := { slices := [(2, { kind := 1, point := some 4, switch := some 9 })], points := [(4, { commodity := 1 })] }, time := 6000000, slices := [(2, { above := [(1, 5)] })] }, 2, _, by decide +kernel, rfl, by decide +kernel⟩,
    ⟨wRun, 2, by decide +kernel⟩,
    ⟨{ wRegs [(⟨.SLICE_STATUS, 2⟩, 0x31000000)] with cfg := { slices := [(2, { kind := 1, point := some 4, switch := some 9 })], points := [(4, { commodity := 1 })] } }, 2, by decide +kernel⟩,
    ⟨wRun, 2, by decide +kernel⟩,
    ⟨wRun, 2, by decide +kernel⟩,
    ⟨{ wRun with slices := [(2, { tripF := true })] }, 2, by decide +kernel⟩,
    ⟨{ wRegs [(⟨.SLICE_STATUS, 2⟩, 0x80000000)] with cfg := { slices := [(2, { kind := 1, point := some 4, switch := some 9 })], points := [(4, { commodity := 1 })] }, slices := [(2, { tripF := true })] }, 2, by decide +kernel⟩,
    ⟨wRun.setSlice 2 { cred := 1 }, 2, by decide +kernel⟩,
    ⟨wRun, 2, by decide +kernel⟩,
    ⟨{ wRegs [(⟨.SLICE_STATUS, 2⟩, 0x80000)] with cfg := { slices := [(2, { kind := 1, point := some 4, switch := some 9, efMode := 1 })], points := [(4, { commodity := 1 })] } }, 2, 600, by decide +kernel⟩,
    ⟨wRun, 2, 500, by decide +kernel⟩,
    ⟨wRun, 2, by decide +kernel⟩,
    ⟨wRun.setSlice 2 { rdcWait := true }, 2, by decide +kernel⟩,
    ⟨{ wRun with slices := [(2, { rdcWait := true })] }, 2, by decide +kernel⟩,
    ⟨{ wRun with cfg := { slices := [(2, { kind := 1, point := some 4, switch := some 9 })], points := [(4, { commodity := 1 })] }, slices := [(2, { rdcWait := true })] }, 2, 9, by decide +kernel⟩,
    ⟨{ wRun with cfg := { slices := [(2, { kind := 3, efMode := 2 })] } }, _, 2, 501, 0, by decide +kernel, by decide +kernel, by decide +kernel, rfl⟩,
    ⟨wRun, 2, by decide +kernel⟩,
    ⟨{ wRegs [(⟨.SLICE_STATUS, 2⟩, 0x40000000)] with cfg := { slices := [(2, { kind := 3, efMode := 2 })] } }, 2, by decide +kernel⟩,
    ⟨{ wRegs [(⟨.SLICE_STATUS, 2⟩, 0x40000000)] with cfg := { slices := [(2, { kind := 3, efMode := 2 })] } }, 2, by decide +kernel⟩,
    ⟨wRun, 2, by decide +kernel⟩,
    ⟨{ wRun with cfg := { slices := [(2, { kind := 1, point := some 4, switch := some 9 })], points := [(4, { commodity := 1 })] } }, wDescT 2 0 [], by decide +kernel⟩,
    ⟨{ wRun with cfg := { slices := [(2, { kind := 1, point := some 4, switch := some 9 })], points := [(4, { commodity := 1 })] }, slices := [(2, { test := some (wRun.ticket wDesc) })] }, wDescT 2 0 [], by decide +kernel⟩,
    ⟨{ wRegs [(⟨.SLICE_STATUS, 2⟩, 0x1)] with cfg := { slices := [(2, { kind := 1, point := some 4 })], points := [(4, { commodity := 1 })] } }, wDescT 2 0 [], _, by decide +kernel, by decide +kernel, by decide +kernel, rfl⟩⟩

set_option maxRecDepth 20000 in
/-- States and operands that meet the hypotheses of each clause of HighLevelCommunication. -/
theorem witness_HighLevelCommunication :
    (∃ (s : State) (i : Nat) (a : Nat) (k : Nat) (tls : Option Bool) (offers : List Nat) (t13 : Bool), (s.get Fld.SLICE_HLC__STAGE i = 1) ∧ (s.inSession i = true) ∧ (a ≤ 50) ∧ (tls ≠ some false) ∧ (protoOf (s.scfg i) offers tls.isSome t13 = k) ∧ (k ≠ 0)) ∧
    (∃ (s : State) (i : Nat) (a : Nat), (s.get Fld.SLICE_HLC__STAGE i = 1) ∧ (s.inSession i = true) ∧ (a ≤ 50)) ∧
    (∃ (s : State) (i : Nat) (a : Nat), (s.get Fld.SLICE_HLC__STAGE i = 1) ∧ (s.inSession i = true) ∧ (a ≤ 50)) ∧
    (∃ (s : State) (i : Nat), (s.get Fld.SLICE_HLC__STAGE i ≠ 1 ∨ s.inSession i = false)) ∧
    (∃ (s : State) (i : Nat) (a : Nat), (s.get Fld.SLICE_HLC__STAGE i = 1) ∧ (s.inSession i = true) ∧ (50 < a)) ∧
    (∃ (s : State) (t : State) (i : Nat), (t = (s.put Fld.SLICE_HLC__FAILS i (min 255 (s.get Fld.SLICE_HLC__FAILS i + 1))).put Fld.SLICE_HLC__REASON i 1)) ∧
    (∃ (s : State) (i : Nat) (a : Nat) (tls : Option Bool) (offers : List Nat) (t13 : Bool), (s.get Fld.SLICE_HLC__STAGE i = 1) ∧ (s.inSession i = true) ∧ (a ≤ 50) ∧ (tls ≠ some false) ∧ (protoOf (s.scfg i) offers tls.isSome t13 = 0)) ∧
    (∃ (s : State) (i : Nat), (s.get Fld.SLICE_HLC__STAGE i = 1) ∧ (s.inSession i = true) ∧ ((s.slice i).out ≠ 3)) ∧
    (∃ (s : State) (i : Nat), (s.get Fld.SLICE_HLC__STAGE i ≠ 1 ∨ s.inSession i = false ∨ (s.slice i).out = 3)) ∧
    (∃ (s : State) (i : Nat), ((s.slice i).out ≠ 3 ∨ s.inSession i = false)) ∧
    (∃ (s : State) (i : Nat), ((s.slice i).out = 3) ∧ (s.inSession i = true)) ∧
    (∃ (s : State) (i : Nat) (nb : Nat) (na : Nat), ((s.scfg i).hlc = true) ∧ (nb ≤ s.devTime) ∧ (s.devTime ≤ na)) ∧
    (∃ (s : State) (i : Nat) (nb : Nat) (na : Nat) (ok : Bool), ((s.scfg i).hlc = true) ∧ (ok = false ∨ s.devTime < nb ∨ na < s.devTime)) ∧
    (∃ (s : State) (i : Nat), ((s.scfg i).hlc = false)) ∧
    (∃ (s : State) (i : Nat), (s.inSession i = true) ∧ (s.usesHlc i = true)) ∧
    (∃ (s : State) (i : Nat), (s.inSession i = true) ∧ (s.usesHlc i = true)) ∧
    (∃ (s : State) (i : Nat), (s.inSession i = false ∨ s.usesHlc i = false)) ∧
    (∃ (s : State) (i : Nat) (p : Nat), ((s.scfg i).point = some p) ∧ (s.inSession i = true) ∧ (s.usesHlc i = true)) ∧
    (∃ (s : State) (i : Nat), ((s.scfg i).point = none ∨ s.inSession i = false ∨ s.usesHlc i = false)) ∧
    (∃ (s : State) (d : Desc) (b : List Byte) (t : State), (s.accepts 0x2A d = true) ∧ (field d.param 0 1 = 1) ∧ (DescF.parNonZero d 1 = none) ∧ (DescF.bufLen d = 16) ∧ (((s.taken d).scfg d.target.toNat).hlc = true) ∧ (((s.taken d).scfg d.target.toNat).kind = 3) ∧ (((s.taken d).slice d.target.toNat).test.isSome = false) ∧ (t = (s.taken d).setSlice d.target.toNat { (s.taken d).slice d.target.toNat with conv := some (field b 0 1, field b 4 4, field b 8 4, field b 12 4) })) ∧
    (∃ (s : State) (d : Desc), (s.accepts 0x2A d = true) ∧ (field d.param 0 1 = 1) ∧ (DescF.parNonZero d 1 = none) ∧ (DescF.bufLen d = 16) ∧ (((s.taken d).scfg d.target.toNat).hlc = true) ∧ (((s.taken d).scfg d.target.toNat).kind ≠ 3) ∧ (((s.taken d).slice d.target.toNat).test.isSome = false)) ∧
    (∃ (s : State) (d : Desc), (s.accepts 0x2A d = true) ∧ (field d.param 0 1 = 2) ∧ (DescF.parNonZero d 1 = none) ∧ (d.bufAddr = 0) ∧ (DescF.bufLen d = 0) ∧ (((s.taken d).scfg d.target.toNat).hlc = true) ∧ (((s.taken d).slice d.target.toNat).test.isSome = false)) ∧
    (∃ (s : State) (d : Desc), (s.accepts 0x2A d = true) ∧ (field d.param 0 1 = 2) ∧ (DescF.parNonZero d 1 = none) ∧ (d.bufAddr = 0) ∧ (DescF.bufLen d = 0) ∧ (((s.taken d).scfg d.target.toNat).hlc = false)) ∧
    (∃ (s : State) (d : Desc), (s.accepts 0x2A d = true) ∧ (field d.param 0 1 = 3) ∧ (DescF.parNonZero d 1 = none) ∧ (d.bufAddr = 0) ∧ (DescF.bufLen d = 0) ∧ (((s.taken d).scfg d.target.toNat).hlc = true) ∧ (((s.taken d).slice d.target.toNat).test.isSome = false) ∧ ((s.taken d).session d.target.toNat = ssEnergised)) ∧
    (∃ (s : State) (t : State) (d : Desc), (s.accepts 0x2A d = true) ∧ (field d.param 0 1 = 3) ∧ (DescF.parNonZero d 1 = none) ∧ (d.bufAddr = 0) ∧ (DescF.bufLen d = 0) ∧ (((s.taken d).scfg d.target.toNat).hlc = true) ∧ (((s.taken d).slice d.target.toNat).test.isSome = false) ∧ ((s.taken d).session d.target.toNat ≠ ssEnergised) ∧ (t = ((s.taken d).emit (.hlc d.target.toNat 6 0)).put Fld.SLICE_HLC__STAGE d.target.toNat (if (s.taken d).session d.target.toNat = ssOffered then 1 else 0))) ∧
    (∃ (s : State) (i : Nat), ((s.scfg i).kind = 3) ∧ (s.inSession i = true) ∧ (s.session i ≠ ssOffered ∨ (s.slice i).conv.any (fun c => bitAt c.1 0) = false)) ∧
    (∃ (s : State) (i : Nat), ((s.scfg i).kind ≠ 3 ∨ s.inSession i = false ∨ (s.session i = ssOffered ∧ (s.slice i).conv.any (fun c => bitAt c.1 0) = true))) :=
  ⟨⟨{ wRegs [(⟨.SLICE_STATUS, 2⟩, 0x30000000), (⟨.SLICE_HLC, 2⟩, 0x01000000)] with cfg := { slices := [(2, { kind := 1, point := some 4, switch := some 9, hlc := true })], points := [(4, { commodity := 1 })] } }, 2, 50, 2, none, [2], false, by decide +kernel⟩,
    ⟨{ wRegs [(⟨.SLICE_STATUS, 2⟩, 0x30000000), (⟨.SLICE_HLC, 2⟩, 0x01000000)] with cfg := { slices := [(2, { kind := 1, point := some 4, switch := some 9 })], points := [(4, { commodity := 1 })] } }, 2, 50, by decide +kernel⟩,
    ⟨{ wRegs [(⟨.SLICE_STATUS, 2⟩, 0x30000000), (⟨.SLICE_HLC, 2⟩, 0x01000000)] with cfg := { slices := [(2, { kind := 1, point := some 4, switch := some 9 })], points := [(4, { commodity := 1 })] } }, 2, 50, by decide +kernel⟩,
    ⟨wRun, 2, by decide +kernel⟩,
    ⟨{ wRegs [(⟨.SLICE_STATUS, 2⟩, 0x30000000), (⟨.SLICE_HLC, 2⟩, 0x01000000)] with cfg := { slices := [(2, { kind := 1, point := some 4, switch := some 9 })], points := [(4, { commodity := 1 })] } }, 2, 51, by decide +kernel⟩,
    ⟨wRun, _, 2, rfl⟩,
    ⟨{ wRegs [(⟨.SLICE_STATUS, 2⟩, 0x30000000), (⟨.SLICE_HLC, 2⟩, 0x01000000)] with cfg := { slices := [(2, { kind := 1, point := some 4, switch := some 9 })], points := [(4, { commodity := 1 })] } }, 2, 50, none, [], false, by decide +kernel⟩,
    ⟨{ wRegs [(⟨.SLICE_STATUS, 2⟩, 0x30000000), (⟨.SLICE_HLC, 2⟩, 0x01000000)] with cfg := { slices := [(2, { kind := 1, point := some 4, switch := some 9 })], points := [(4, { commodity := 1 })] } }, 2, by decide +kernel⟩,
    ⟨wRun, 2, by decide +kernel⟩,
    ⟨wRun, 2, by decide +kernel⟩,
    ⟨{ wRegs [(⟨.SLICE_STATUS, 2⟩, 0x30000000)] with cfg := { slices := [(2, { kind := 1, point := some 4, switch := some 9 })], points := [(4, { commodity := 1 })] }, slices := [(2, { out := 3 })] }, 2, by decide +kernel⟩,
    ⟨{ wRegs [(⟨.SLICE_STATUS, 2⟩, 0x0)] with cfg := { slices := [(2, { kind := 1, point := some 4, switch := some 9, hlc := true })], points := [(4, { commodity := 1 })] } }, 2, 0, 9, by decide +kernel⟩,
    ⟨{ wRegs [(⟨.SLICE_STATUS, 2⟩, 0x0)] with cfg := { slices := [(2, { kind := 1, point := some 4, switch := some 9, hlc := true })], points := [(4, { commodity := 1 })] } }, 2, 0, 9, false, by decide +kernel⟩,
    ⟨wRun, 2, by decide +kernel⟩,
    ⟨{ wRegs [(⟨.SLICE_STATUS, 2⟩, 0x30000000)] with cfg := { slices := [(2, { kind := 1, point := some 4, switch := some 9, hlc := true })], points := [(4, { commodity := 1 })] } }, 2, by decide +kernel⟩,
    ⟨{ wRegs [(⟨.SLICE_STATUS, 2⟩, 0x30000000)] with cfg := { slices := [(2, { kind := 1, point := some 4, switch := some 9, hlc := true })], points := [(4, { commodity := 1 })] } }, 2, by decide +kernel⟩,
    ⟨wRun, 2, by decide +kernel⟩,
    ⟨{ wRegs [(⟨.SLICE_STATUS, 2⟩, 0x30000000)] with cfg := { slices := [(2, { kind := 1, point := some 4, switch := some 9, hlc := true })], points := [(4, { commodity := 1 })] } }, 2, 4, by decide +kernel⟩,
    ⟨wRun, 2, by decide +kernel⟩,
    ⟨{ wRun with cfg := { slices := [(2, { kind := 3, hlc := true })] } }, wDescT 2 16 [1], [1], _, by decide +kernel, by decide +kernel, by decide +kernel, by decide +kernel, by decide +kernel, by decide +kernel, by decide +kernel, rfl⟩,
    ⟨{ wRun with cfg := { slices := [(2, { kind := 1, point := some 4, switch := some 9, hlc := true })], points := [(4, { commodity := 1 })] } }, wDescT 2 16 [1], by decide +kernel⟩,
    ⟨{ wRun with cfg := { slices := [(2, { kind := 1, point := some 4, switch := some 9, hlc := true })], points := [(4, { commodity := 1 })] } }, wDescT 2 0 [2], by decide +kernel⟩,
    ⟨{ wRun with cfg := { slices := [(2, { kind := 1, point := some 4, switch := some 9 })], points := [(4, { commodity := 1 })] } }, wDescT 2 0 [2], by decide +kernel⟩,
    ⟨{ wRegs [(⟨.SLICE_STATUS, 2⟩, 0x40000000)] with cfg := { slices := [(2, { kind := 1, point := some 4, switch := some 9, hlc := true })], points := [(4, { commodity := 1 })] } }, wDescT 2 0 [3], by decide +kernel⟩,
    ⟨{ wRegs [(⟨.SLICE_STATUS, 2⟩, 0x30000000)] with cfg := { slices := [(2, { kind := 1, point := some 4, switch := some 9, hlc := true })], points := [(4, { commodity := 1 })] } }, _, wDescT 2 0 [3], by decide +kernel, by decide +kernel, by decide +kernel, by decide +kernel, by decide +kernel, by decide +kernel, by decide +kernel, by decide +kernel, rfl⟩,
    ⟨{ wRegs [(⟨.SLICE_STATUS, 2⟩, 0x40000000)] with cfg := { slices := [(2, { kind := 3, point := some 4 })] } }, 2, by decide +kernel⟩,
    ⟨wRun, 2, by decide +kernel⟩⟩

set_option maxRecDepth 20000 in
/-- States and operands that meet the hypotheses of each clause of GovernorLevels. -/
theorem witness_GovernorLevels :
    (∃ (l : List Sess) (cap : Sess → Nat → Nat) (v : Nat) (w : Nat), (levelOf l cap (some v) = some w) ∧ (takeAt l cap 0 ≤ v)) ∧
    (∃ (l : List Sess) (cap : Sess → Nat → Nat) (v : Nat) (w : Nat), (levelOf l cap (some v) = some w)) ∧
    (∃ (l : List Sess) (cap : Sess → Nat → Nat) (v : Nat), (levelOf l cap (some v) = none)) :=
  ⟨⟨[{ p := 4, g := 0, f := 0, t := 9 }], fun x w => min x.t w, 5, 5, by decide +kernel⟩,
    ⟨[{ p := 4, g := 0, f := 0, t := 9 }], fun x w => min x.t w, 5, 5, by decide +kernel⟩,
    ⟨[], fun x w => min x.t w, 5, by decide +kernel⟩⟩

set_option maxRecDepth 20000 in
/-- States and operands that meet the hypotheses of each clause of GovernorCommands. -/
theorem witness_GovernorCommands :
    (∃ (s : State) (v : W32), (s.gov.budgets = [(none, v.toNat)])) ∧
    (∃ (s : State) (p : Nat) (e : QEntry) (x : StartSt), (s.gov.queue.filter (·.overdue) = [e]) ∧ (e.obj = .start p) ∧ (s.starts.find? (fun x => x.point == p && x.phase == 1) = some x)) ∧
    (∃ (s : State) (n : Nat) (e : QEntry), (s.gov.queue.filter (·.overdue) = [e]) ∧ (e.obj = .on n)) ∧
    (∃ (s : State) (n : Nat) (w : Nat) (e : QEntry), (s.gov.queue.filter (·.overdue) = [e]) ∧ (e.obj = .restart n w)) ∧
    (∃ (s : State) (p : Nat) (i : Nat), (s.sliceOf p = some i) ∧ (s.session i = ssEnergised) ∧ (s.gov.shed.contains p = false) ∧ (tabGet 0 s.gov.ramp p * 100 < s.get Fld.GOV_RAMP__RAMP_MS (s.groupOf p))) ∧
    (∃ (s : State) (p : Nat) (i : Nat), (s.sliceOf p = some i) ∧ (s.session i ≠ ssEnergised ∨ s.gov.shed.contains p = true ∨ s.get Fld.GOV_RAMP__RAMP_MS (s.groupOf p) ≤ tabGet 0 s.gov.ramp p * 100)) ∧
    (∃ (s : State) (p : Nat), (s.sliceOf p = none)) :=
  ⟨⟨{ wRun with gov := { budgets := [(none, 5)] } }, 5, by decide +kernel⟩,
    ⟨{ wRun with starts := [{ t := none, port := .h0, src := 4, point := 4, tariff := 0, limit := 0, qLimit := 0, plan := [], phase := 1 }], gov := { queue := [{ obj := .start 4, group := 0, since := 0, overdue := true }] } }, 4, { obj := .start 4, group := 0, since := 0, overdue := true }, { t := none, port := .h0, src := 4, point := 4, tariff := 0, limit := 0, qLimit := 0, plan := [], phase := 1 }, by decide +kernel⟩,
    ⟨{ wRun with gov := { queue := [{ obj := .on 4, group := 0, since := 0, overdue := true }] } }, 4, { obj := .on 4, group := 0, since := 0, overdue := true }, by decide +kernel⟩,
    ⟨{ wRun with gov := { queue := [{ obj := .restart 4 1, group := 0, since := 0, overdue := true }] } }, 4, 1, { obj := .restart 4 1, group := 0, since := 0, overdue := true }, by decide +kernel⟩,
    ⟨{ wRegs [(⟨.SLICE_STATUS, 2⟩, 0x40000000)] with cfg := { slices := [(2, { kind := 1, point := some 4, switch := some 9 })], points := [(4, { commodity := 1 })] } }, 4, 2, by decide +kernel⟩,
    ⟨{ wRun with cfg := { slices := [(2, { kind := 1, point := some 4, switch := some 9 })], points := [(4, { commodity := 1 })] } }, 4, 2, by decide +kernel⟩,
    ⟨wRun, 4, by decide +kernel⟩⟩

set_option maxRecDepth 20000 in
/-- States and operands that meet the hypotheses of each clause of SeriesEnables. -/
theorem witness_SeriesEnables :
    (∃ (k : Nat), (k < 16)) :=
  ⟨0, by decide +kernel⟩

set_option maxRecDepth 20000 in
/-- States and operands that meet the hypotheses of each clause of SafetyFunctions. -/
theorem witness_SafetyFunctions :
    (∃ (c : FnCfg) (ha : Bool) (hb : Bool) (fault : Bool) (reset : Bool) (tick : Nat) (x : SFunc), ((twoChannel c ha hb fault reset tick x).st = 1)) ∧
    (∃ (c : FnCfg) (ha : Bool) (hb : Bool) (fault : Bool) (reset : Bool) (tick : Nat) (x : SFunc), (x.st = 4) ∧ ((twoChannel c ha hb fault reset tick x).st ≠ 4)) ∧
    (∃ (c : FnCfg) (h1 : Bool) (h2 : Bool) (d1 : Bool) (d2 : Bool) (fault : Bool) (reset : Bool) (tick : Nat) (x : SFunc), ((twoHand c h1 h2 d1 d2 fault reset tick x).st = 1)) ∧
    (∃ (c : FnCfg) (h1 : Bool) (h2 : Bool) (d1 : Bool) (d2 : Bool) (fault : Bool) (reset : Bool) (tick : Nat) (x : SFunc), (x.st ≠ 1) ∧ ((twoHand c h1 h2 d1 d2 fault reset tick x).st = 1)) :=
  ⟨⟨{ type := 1, inp := [0, 1], reset := 255, mode := 0, pol := 0, mask := 1, disc := 100, tpw := 0, startReset := 0 }, true, true, false, false, 0, { st := 1 }, by decide +kernel⟩,
    ⟨{ type := 1, inp := [0, 1], reset := 255, mode := 0, pol := 0, mask := 1, disc := 100, tpw := 0, startReset := 0 }, false, false, false, false, 0, { st := 4 }, by decide +kernel⟩,
    ⟨{ type := 3, inp := [0, 1], reset := 255, mode := 0, pol := 0, mask := 1, disc := 100, tpw := 0, startReset := 0 }, true, true, false, false, false, false, 0, { st := 1 }, by decide +kernel⟩,
    ⟨{ type := 3, inp := [0, 1], reset := 255, mode := 0, pol := 0, mask := 1, disc := 100, tpw := 0, startReset := 0 }, true, true, false, false, false, false, 0, { st := 2, armed := true }, by decide +kernel⟩⟩

set_option maxRecDepth 20000 in
/-- States and operands that meet the hypotheses of each clause of SeracCommands. -/
theorem witness_SeracCommands :
    (∃ (s : State), (s.serac.st ≠ 0)) ∧
    (∃ (s : State), (s.serac.st = 0) ∧ (s.dieRuns .ddie = true) ∧ (s.variant.hasDdie = true) ∧ (s.serac.pend = none) ∧ (field s.serac.cfg 8 32 = 0)) ∧
    (∃ (c : Nat), (1 ≤ c) ∧ (c ≤ 6)) ∧
    (∃ (s : State) (u : State) (v : State) (c : Nat), (s.serac.st ≠ 0) ∧ (s.serac.st ≠ 5) ∧ (u = (s.setSerac { s.serac with st := 5, faultCode := c }).writeEnables) ∧ (v = (((u.setSerac { u.serac with faults := u.faults24 ++ [u.time], stuck := u.serac.stuck || decide (3 ≤ u.faults24.length + 1) }).seracNote 0x0C 15 c (u.faults24.length + 1)).seracPost 0x607 3 c (u.faults24.length + 1)).domainReset 12)) ∧
    (∃ (s : State), (s.serac.st = 0 ∨ s.serac.st = 5)) ∧
    (∃ (c : Nat), (c = 0 ∨ 6 < c)) ∧
    (∃ (s : State) (c : Nat), (s.serac.st = 2) ∧ (0x11 ≤ c) ∧ (c ≤ 0x15)) ∧
    (∃ (s : State) (c : Nat), (s.serac.st = 3) ∧ (0x11 ≤ c) ∧ (c ≤ 0x15)) ∧
    (∃ (s : State) (c : Nat), (s.serac.st = 0 ∨ c < 0x11 ∨ 0x15 < c)) ∧
    (∃ (s : State), (s.serac.st ≠ 3)) ∧
    (∃ (s : State), (s.serac.st ≠ 3)) ∧
    (∃ (s : State), (s.serac.st ≠ 3)) ∧
    (∃ (s : State), (s.serac.st = 3)) ∧
    (∃ (s : State), (s.serac.st = 3)) ∧
    (∃ (s : State), (s.serac.st = 3)) ∧
    (∃ (s : State) (k : Nat) (n : Nat), (s.enSwitch k = some n) ∧ (s.serac.st ≠ 0) ∧ (s.swOn n = true)) ∧
    (∃ (s : State) (k : Nat), (s.serac.st = 0 ∨ s.enSwitch k = none ∨ ∃ n, s.enSwitch k = some n ∧ s.swOn n = false)) ∧
    (∃ (s : State), (s.serac.st ≠ 1)) ∧
    (∃ (s : State) (u : State) (l : List Nat), (s.serac.st = 1) ∧ (s.serac.store = none) ∧ (diagMask l ≠ 0) ∧ (u = s.setSerac { s.serac with failing := diagMask l, untested := 0 })) ∧
    (∃ (s : State) (c : Nat), (s.serac.st = 1) ∧ (c ≠ 0)) ∧
    (∃ (s : State), (s.serac.st = 1) ∧ (s.serac.store = none)) ∧
    (∃ (s : State) (k : Nat), (s.serac.st = 0 ∨ s.serac.tick % 16 ≠ k ∨ (upTo 32).any (fun i => serSource s.serac.cfg i == some k) = false)) ∧
    (∃ (s : State) (k : Nat), (s.serac.st ≠ 0) ∧ (s.serac.tick % 16 = k) ∧ ((upTo 32).any (fun i => serSource s.serac.cfg i == some k) = true)) ∧
    (∃ (s : State), (s.serac.st = 0)) ∧
    (∃ (s : State) (t : State) (b : Nat), (s.serac.st ≠ 0) ∧ (t = (upTo 32).foldl (fun u i => if bitAt b i = true then (u.setInp i { u.serac.input i with thr := 0 }).inputFault i 3 else u.setInp i { u.serac.input i with thr := min 2 ((u.serac.input i).thr + 1), fault := if ((u.serac.input i).fault = 3 && 1 ≤ (u.serac.input i).thr) = true then 0 else (u.serac.input i).fault }) s)) ∧
    (∃ (s : State), (s.serac.st = 0)) ∧
    (∃ (s : State) (u : State) (v : State) (l : List (Nat × List Level)) (p : List Nat) (g : List (Nat × (SInput × Bool))), (s.serac.st ≠ 0) ∧ (g = ((upTo 32).map fun i => (i, (s.serac.input i).cycle (serF s.serac.cfg i) s.serac.tick (serSource s.serac.cfg i == some (s.serac.tick % 16)) (s.samplesOf l i)))) ∧ (u = (let w := s.setBoot { s.boot with inputs := l.foldl (fun t x => match x.2.getLast? with | some v => tabSet t (.safety x.1) v | none => t) s.boot.inputs }; w.setSerac { w.serac with inputs := g.map fun x => (x.1, x.2.1) })) ∧ (v = (p.foldl (fun w c => w.diagPass c) ((usedFns u.serac.cfg).foldl (fun w f => w.evalFn ((g.filter fun x => x.2.2).map (·.1)) f) u)).degradedCheck)) ∧
    (∃ (s : State) (f : Nat), (s.serac.st = 0 ∨ ((s.serac.fn f).disc = none ∧ (s.serac.fn f).disc2 = none) ∨ (s.serac.fn f).st = 4)) ∧
    (∃ (s : State) (u : State) (v : State) (f : Nat), (s.serac.st ≠ 0) ∧ ((s.serac.fn f).disc.isSome = true ∨ (s.serac.fn f).disc2.isSome = true) ∧ ((s.serac.fn f).st ≠ 4) ∧ (u = s.setFn f { s.serac.fn f with st := 4, armed := false }) ∧ (v = u.setSerac { u.serac with counts := tabSet u.serac.counts f ((tabGet (0, 0) s.serac.counts f).1, satTo 16 ((tabGet (0, 0) s.serac.counts f).2 + 1)) })) ∧
    (∃ (s : State), (s.serac.session.isSome = true)) ∧
    (∃ (s : State), (s.serac.session = none)) ∧
    (∃ (s : State), (s.serac.lockout = false)) ∧
    (∃ (s : State), (s.serac.lockout = true)) :=
  ⟨⟨{ wRun with serac := { st := 2 } }, by decide +kernel⟩,
    ⟨wRun, by decide +kernel⟩,
    ⟨1, by decide +kernel⟩,
    ⟨{ wRun with serac := { st := 2 } }, _, _, 1, by decide +kernel, by decide +kernel, rfl, rfl⟩,
    ⟨wRun, by decide +kernel⟩,
    ⟨0, by decide +kernel⟩,
    ⟨{ wRun with serac := { st := 2 } }, 0x12, by decide +kernel⟩,
    ⟨{ wRun with serac := { st := 3 } }, 0x12, by decide +kernel⟩,
    ⟨wRun, 0x12, by decide +kernel⟩,
    ⟨wRun, by decide +kernel⟩,
    ⟨wRun, by decide +kernel⟩,
    ⟨wRun, by decide +kernel⟩,
    ⟨{ wRun with serac := { st := 3 } }, by decide +kernel⟩,
    ⟨{ wRun with serac := { st := 3 } }, by decide +kernel⟩,
    ⟨{ wRun with serac := { st := 3 } }, by decide +kernel⟩,
    ⟨{ wRegs [(⟨.SW_STATUS, 0⟩, 0x80000000)] with serac := { st := 2, cfg := List.replicate 384 0 } }, 0, 0, by decide +kernel⟩,
    ⟨wRun, 0, .inl (by decide +kernel)⟩,
    ⟨wRun, by decide +kernel⟩,
    ⟨{ wRun with serac := { st := 1 } }, _, [0x12], by decide +kernel, by decide +kernel, by decide +kernel, rfl⟩,
    ⟨{ wRun with serac := { st := 1 } }, 3, by decide +kernel⟩,
    ⟨{ wRun with serac := { st := 1 } }, by decide +kernel⟩,
    ⟨{ wRun with serac := { st := 2 } }, 3, by decide +kernel⟩,
    ⟨{ wRun with serac := { st := 2, cfg := List.replicate 64 0 ++ List.replicate 64 0 ++ [1, 0, 1, 2, 3] } }, 0, by decide +kernel⟩,
    ⟨wRun, by decide +kernel⟩,
    ⟨{ wRun with serac := { st := 2 } }, _, 0, by decide +kernel, rfl⟩,
    ⟨wRun, by decide +kernel⟩,
    ⟨{ wRun with serac := { st := 2 } }, _, _, [], [], _, by decide +kernel, rfl, rfl, rfl⟩,
    ⟨wRun, 0, by decide +kernel⟩,
    ⟨{ wRun with serac := { st := 2, fns := [(0, { st := 2, disc := some 0 })] } }, _, _, 0, by decide +kernel, by decide +kernel, by decide +kernel, rfl, rfl⟩,
    ⟨{ wRun with serac := { session := some .h0 } }, by decide +kernel⟩,
    ⟨wRun, by decide +kernel⟩,
    ⟨wRun, by decide +kernel⟩,
    ⟨{ wRun with serac := { lockout := true } }, by decide +kernel⟩⟩

set_option maxRecDepth 20000 in
/-- States and operands that meet the hypotheses of each clause of SeracRequests. -/
theorem witness_SeracRequests :
    (∃ (s : State) (p : Port), (s.seracTakes p 0x301 = true) ∧ (field (s.reqBytes (.hostSerac p)) 4 1 ≤ 32) ∧ (zeroOutside (s.reqBytes (.hostSerac p)) [(0, 4), (8, 39)] = true) ∧ ((s.clearDb (.hostSerac p) 1).serac.lockout = false) ∧ ((s.clearDb (.hostSerac p) 1).serac.session = some p.other)) ∧
    (∃ (s : State) (p : Port), (s.seracTakes p 0x301 = true) ∧ (field (s.reqBytes (.hostSerac p)) 4 1 ≤ 32) ∧ (zeroOutside (s.reqBytes (.hostSerac p)) [(0, 4), (8, 39)] = true) ∧ ((s.clearDb (.hostSerac p) 1).serac.lockout = true)) ∧
    (∃ (s : State) (p : Port) (u : State), (s.seracTakes p 0x301 = true) ∧ (zeroOutside (s.reqBytes (.hostSerac p)) [(0, 4), (8, 39)] = true) ∧ (field (s.reqBytes (.hostSerac p)) 4 1 ≤ 32) ∧ ((s.clearDb (.hostSerac p) 1).serac.lockout = false) ∧ ((s.clearDb (.hostSerac p) 1).serac.session ≠ some p.other) ∧ ((match (s.clearDb (.hostSerac p) 1).serac.pw with | none => field (s.reqBytes (.hostSerac p)) 4 1 == 0 | some x => Config.digest 1 ((x.1 ++ ((s.reqBytes (.hostSerac p)).drop 8).take (field (s.reqBytes (.hostSerac p)) 4 1)).map (·.toNat)) == x.2) = true) ∧ (u = if (s.clearDb (.hostSerac p) 1).serac.session = some p then (s.clearDb (.hostSerac p) 1) else (s.clearDb (.hostSerac p) 1).setSerac { (s.clearDb (.hostSerac p) 1).serac with session := some p, staged := none })) ∧
    (∃ (s : State) (p : Port) (u : State) (f : Nat), (s.seracTakes p 0x301 = true) ∧ (zeroOutside (s.reqBytes (.hostSerac p)) [(0, 4), (8, 39)] = true) ∧ (field (s.reqBytes (.hostSerac p)) 4 1 ≤ 32) ∧ ((s.clearDb (.hostSerac p) 1).serac.lockout = false) ∧ ((s.clearDb (.hostSerac p) 1).serac.session ≠ some p.other) ∧ ((match (s.clearDb (.hostSerac p) 1).serac.pw with | none => field (s.reqBytes (.hostSerac p)) 4 1 == 0 | some x => Config.digest 1 ((x.1 ++ ((s.reqBytes (.hostSerac p)).drop 8).take (field (s.reqBytes (.hostSerac p)) 4 1)).map (·.toNat)) == x.2) = false) ∧ (f = (s.clearDb (.hostSerac p) 1).serac.fails + 1) ∧ (u = (((s.clearDb (.hostSerac p) 1).setSerac { (s.clearDb (.hostSerac p) 1).serac with fails := f }).seracNote 0x02 p.num 0 f).seracPost 0x609 1 p.num f)) ∧
    (∃ (s : State) (p : Port), (s.seracTakes p 0x302 = true) ∧ (zeroOutside (s.reqBytes (.hostSerac p)) ([(0, 3)] ++ []) = true) ∧ ((s.clearDb (.hostSerac p) 1).serac.session ≠ some p)) ∧
    (∃ (s : State) (p : Port), (s.seracTakes p 0x302 = true) ∧ (zeroOutside (s.reqBytes (.hostSerac p)) ([(0, 3)] ++ []) = true) ∧ ((s.clearDb (.hostSerac p) 1).serac.session = some p)) ∧
    (∃ (s : State) (p : Port), (s.seracTakes p 0x304 = true) ∧ ((spanBad (s.reqBytes (.hostSerac p)) || !zeroOutside (s.reqBytes (.hostSerac p)) ([(0, 3)] ++ [(4, 7), (16, 15 + field (s.reqBytes (.hostSerac p)) 6 2)])) = true)) ∧
    (∃ (s : State) (p : Port), (s.seracTakes p 0x304 = true) ∧ ((spanBad (s.reqBytes (.hostSerac p)) || !zeroOutside (s.reqBytes (.hostSerac p)) ([(0, 3)] ++ [(4, 7), (16, 15 + field (s.reqBytes (.hostSerac p)) 6 2)])) = false) ∧ ((s.clearDb (.hostSerac p) 1).serac.session ≠ some p)) ∧
    (∃ (s : State) (p : Port), (s.seracTakes p 0x305 = true) ∧ ((false || !zeroOutside (s.reqBytes (.hostSerac p)) ([(0, 3)] ++ [])) = true)) ∧
    (∃ (s : State) (p : Port), (s.seracTakes p 0x305 = true) ∧ ((false || !zeroOutside (s.reqBytes (.hostSerac p)) ([(0, 3)] ++ [])) = false) ∧ ((s.clearDb (.hostSerac p) 1).serac.session ≠ some p)) ∧
    (∃ (s : State) (p : Port), (s.seracTakes p 0x308 = true) ∧ ((false || !zeroOutside (s.reqBytes (.hostSerac p)) ([(0, 3)] ++ [(8, 11)])) = true)) ∧
    (∃ (s : State) (p : Port), (s.seracTakes p 0x308 = true) ∧ ((false || !zeroOutside (s.reqBytes (.hostSerac p)) ([(0, 3)] ++ [(8, 11)])) = false) ∧ ((s.clearDb (.hostSerac p) 1).serac.session ≠ some p)) ∧
    (∃ (s : State) (p : Port), (s.seracTakes p 0x309 = true) ∧ ((false || !zeroOutside (s.reqBytes (.hostSerac p)) ([(0, 3)] ++ [])) = true)) ∧
    (∃ (s : State) (p : Port), (s.seracTakes p 0x309 = true) ∧ ((false || !zeroOutside (s.reqBytes (.hostSerac p)) ([(0, 3)] ++ [])) = false) ∧ ((s.clearDb (.hostSerac p) 1).serac.session ≠ some p)) ∧
    (∃ (s : State) (p : Port), (s.seracTakes p 0x303 = true) ∧ (spanBad (s.reqBytes (.hostSerac p)) = false) ∧ (zeroOutside (s.reqBytes (.hostSerac p)) [(0, 8)] = true) ∧ (field (s.reqBytes (.hostSerac p)) 8 1 = 0)) ∧
    (∃ (s : State) (p : Port), (s.seracTakes p 0x303 = true) ∧ (spanBad (s.reqBytes (.hostSerac p)) = true)) ∧
    (∃ (s : State) (p : Port), (s.seracTakes p 0x304 = true) ∧ (spanBad (s.reqBytes (.hostSerac p)) = false) ∧ (zeroOutside (s.reqBytes (.hostSerac p)) ([(0, 3)] ++ [(4, 7), (16, 15 + field (s.reqBytes (.hostSerac p)) 6 2)]) = true) ∧ ((s.clearDb (.hostSerac p) 1).serac.session = some p)) ∧
    (∃ (s : State) (p : Port), (s.seracTakes p 0x305 = true) ∧ (zeroOutside (s.reqBytes (.hostSerac p)) ([(0, 3)] ++ []) = true) ∧ ((s.clearDb (.hostSerac p) 1).serac.session = some p) ∧ ((serSwitches (s.clearDb (.hostSerac p) 1).serac.cfg ++ serSwitches ((s.clearDb (.hostSerac p) 1).serac.staged.getD (s.clearDb (.hostSerac p) 1).serac.cfg)).any ((s.clearDb (.hostSerac p) 1).setSerac { (s.clearDb (.hostSerac p) 1).serac with staged := none }).swOn = true)) ∧
    (∃ (s : State) (p : Port), (s.seracTakes p 0x305 = true) ∧ (zeroOutside (s.reqBytes (.hostSerac p)) ([(0, 3)] ++ []) = true) ∧ ((s.clearDb (.hostSerac p) 1).serac.session = some p) ∧ ((serSwitches (s.clearDb (.hostSerac p) 1).serac.cfg ++ serSwitches ((s.clearDb (.hostSerac p) 1).serac.staged.getD (s.clearDb (.hostSerac p) 1).serac.cfg)).any ((s.clearDb (.hostSerac p) 1).setSerac { (s.clearDb (.hostSerac p) 1).serac with staged := none }).swOn = false) ∧ ((s.clearDb (.hostSerac p) 1).serac.pw = none)) ∧
    (∃ (s : State) (p : Port), (s.seracTakes p 0x305 = true) ∧ (zeroOutside (s.reqBytes (.hostSerac p)) ([(0, 3)] ++ []) = true) ∧ ((s.clearDb (.hostSerac p) 1).serac.session = some p) ∧ ((serSwitches (s.clearDb (.hostSerac p) 1).serac.cfg ++ serSwitches ((s.clearDb (.hostSerac p) 1).serac.staged.getD (s.clearDb (.hostSerac p) 1).serac.cfg)).any ((s.clearDb (.hostSerac p) 1).setSerac { (s.clearDb (.hostSerac p) 1).serac with staged := none }).swOn = false) ∧ ((s.clearDb (.hostSerac p) 1).serac.pw.isNone = false) ∧ (((s.clearDb (.hostSerac p) 1).setSerac { (s.clearDb (.hostSerac p) 1).serac with staged := none }).logFull = true)) ∧
    (∃ (s : State) (p : Port) (o : Nat), (s.seracTakes p 0x305 = true) ∧ (zeroOutside (s.reqBytes (.hostSerac p)) ([(0, 3)] ++ []) = true) ∧ ((s.clearDb (.hostSerac p) 1).serac.session = some p) ∧ ((serSwitches (s.clearDb (.hostSerac p) 1).serac.cfg ++ serSwitches ((s.clearDb (.hostSerac p) 1).serac.staged.getD (s.clearDb (.hostSerac p) 1).serac.cfg)).any ((s.clearDb (.hostSerac p) 1).setSerac { (s.clearDb (.hostSerac p) 1).serac with staged := none }).swOn = false) ∧ ((s.clearDb (.hostSerac p) 1).serac.pw.isNone = false) ∧ (((s.clearDb (.hostSerac p) 1).setSerac { (s.clearDb (.hostSerac p) 1).serac with staged := none }).logFull = false) ∧ (configBad ((s.clearDb (.hostSerac p) 1).serac.staged.getD (s.clearDb (.hostSerac p) 1).serac.cfg) = some o)) ∧
    (∃ (s : State) (a : State) (b : State) (e : State) (p : Port) (c : List Byte), (s.seracTakes p 0x305 = true) ∧ (zeroOutside (s.reqBytes (.hostSerac p)) ([(0, 3)] ++ []) = true) ∧ ((s.clearDb (.hostSerac p) 1).serac.session = some p) ∧ (c = (s.clearDb (.hostSerac p) 1).serac.staged.getD (s.clearDb (.hostSerac p) 1).serac.cfg) ∧ ((serSwitches (s.clearDb (.hostSerac p) 1).serac.cfg ++ serSwitches c).any ((s.clearDb (.hostSerac p) 1).setSerac { (s.clearDb (.hostSerac p) 1).serac with staged := none }).swOn = false) ∧ ((s.clearDb (.hostSerac p) 1).serac.pw.isNone = false) ∧ (((s.clearDb (.hostSerac p) 1).setSerac { (s.clearDb (.hostSerac p) 1).serac with staged := none }).logFull = false) ∧ (configBad c = none) ∧ (a = ((s.clearDb (.hostSerac p) 1).setSerac { (s.clearDb (.hostSerac p) 1).serac with staged := none }).seracChange p 0x04 (b2n (decide (field c 8 32 ≠ (s.clearDb (.hostSerac p) 1).serac.img))) (s.clearDb (.hostSerac p) 1).serac.cfg c) ∧ (b = if field c 8 32 ≠ (s.clearDb (.hostSerac p) 1).serac.img then a.setSerac { a.serac with pend := some c } else a.setSerac { a.serac with cfg := c }) ∧ (e = ((b.seracReply p (s.chan (.hostSerac p)).seq 0x305 stDone 0 (leBytes 4 b.serac.lseq ++ leBytes 4 (configHash c) ++ [BitVec.ofNat 8 (b2n (decide (field c 8 32 ≠ (s.clearDb (.hostSerac p) 1).serac.img)))])).seracPost 0x608 1 0 (field c 4 4 % 65536)).closeSession)) ∧
    (∃ (s : State) (p : Port), (s.seracTakes p 0x306 = true) ∧ (8 ≤ field (s.reqBytes (.hostSerac p)) 4 1) ∧ (field (s.reqBytes (.hostSerac p)) 4 1 ≤ 32) ∧ (zeroOutside (s.reqBytes (.hostSerac p)) ([(0, 3)] ++ [(4, 4), (8, 39)]) = true) ∧ ((s.clearDb (.hostSerac p) 1).serac.session = some p) ∧ ((s.clearDb (.hostSerac p) 1).logFull = true)) ∧
    (∃ (s : State) (p : Port), (s.seracTakes p 0x306 = true) ∧ (8 ≤ field (s.reqBytes (.hostSerac p)) 4 1) ∧ (field (s.reqBytes (.hostSerac p)) 4 1 ≤ 32) ∧ (zeroOutside (s.reqBytes (.hostSerac p)) ([(0, 3)] ++ [(4, 4), (8, 39)]) = true) ∧ ((s.clearDb (.hostSerac p) 1).serac.session = some p) ∧ ((s.clearDb (.hostSerac p) 1).logFull = false)) ∧
    (∃ (s : State) (p : Port) (l : List (List Byte)), (s.seracTakes p 0x307 = true) ∧ (zeroOutside (s.reqBytes (.hostSerac p)) [(0, 3), (8, 11)] = true) ∧ (l = (s.clearDb (.hostSerac p) 1).serac.log.filter fun e => decide (field (s.reqBytes (.hostSerac p)) 8 4 ≤ field e 0 4))) ∧
    (∃ (s : State) (p : Port), (s.seracTakes p 0x308 = true) ∧ (zeroOutside (s.reqBytes (.hostSerac p)) ([(0, 3)] ++ [(8, 11)]) = true) ∧ ((s.clearDb (.hostSerac p) 1).serac.session = some p) ∧ ((s.clearDb (.hostSerac p) 1).logFull = true)) ∧
    (∃ (s : State) (p : Port), (s.seracTakes p 0x308 = true) ∧ (zeroOutside (s.reqBytes (.hostSerac p)) ([(0, 3)] ++ [(8, 11)]) = true) ∧ ((s.clearDb (.hostSerac p) 1).serac.session = some p) ∧ ((s.clearDb (.hostSerac p) 1).logFull = false)) ∧
    (∃ (s : State) (p : Port), (s.seracTakes p 0x309 = true) ∧ (zeroOutside (s.reqBytes (.hostSerac p)) ([(0, 3)] ++ []) = true) ∧ ((s.clearDb (.hostSerac p) 1).serac.session = some p) ∧ ((s.clearDb (.hostSerac p) 1).serac.st = 5) ∧ ((s.clearDb (.hostSerac p) 1).serac.stuck = true)) ∧
    (∃ (s : State) (p : Port), (s.seracTakes p 0x309 = true) ∧ (zeroOutside (s.reqBytes (.hostSerac p)) ([(0, 3)] ++ []) = true) ∧ ((s.clearDb (.hostSerac p) 1).serac.session = some p) ∧ ((s.clearDb (.hostSerac p) 1).serac.st ≠ 5 ∨ (s.clearDb (.hostSerac p) 1).serac.stuck = false)) :=
  ⟨⟨{ wSer 0x301 [0] with serac := { st := 2, session := some .h1 } }, .h0, by decide +kernel⟩,
    ⟨{ wSer 0x301 [0] with serac := { st := 2, lockout := true } }, .h0, by decide +kernel⟩,
    ⟨{ wSer 0x301 [0] with serac := { st := 2 } }, .h0, _, by decide +kernel, by decide +kernel, by decide +kernel, by decide +kernel, by decide +kernel, by decide +kernel, rfl⟩,
    ⟨{ wSer 0x301 [1] with serac := { st := 2 } }, .h0, _, _, by decide +kernel, by decide +kernel, by decide +kernel, by decide +kernel, by decide +kernel, by decide +kernel, rfl, rfl⟩,
    ⟨{ wSer 0x302 [] with serac := { st := 2 } }, .h0, by decide +kernel⟩,
    ⟨wSer 0x302 [], .h0, by decide +kernel⟩,
    ⟨wSer 0x304 [], .h0, by decide +kernel⟩,
    ⟨{ wSer 0x304 [2, 0, 2, 0, 0, 0, 0, 0, 0, 0, 0, 0, 5, 6] with serac := { st := 2 } }, .h0, by decide +kernel⟩,
    ⟨wSer 0x305 [1], .h0, by decide +kernel⟩,
    ⟨{ wSer 0x305 [] with serac := { st := 2 } }, .h0, by decide +kernel⟩,
    ⟨wSer 0x308 [1], .h0, by decide +kernel⟩,
    ⟨{ wSer 0x308 [] with serac := { st := 2 } }, .h0, by decide +kernel⟩,
    ⟨wSer 0x309 [1], .h0, by decide +kernel⟩,
    ⟨{ wSer 0x309 [] with serac := { st := 2 } }, .h0, by decide +kernel⟩,
    ⟨wSer 0x303 [0, 0, 8, 0], .h0, by decide +kernel⟩,
    ⟨wSer 0x303 [0, 0, 0, 0], .h0, by decide +kernel⟩,
    ⟨wSer 0x304 [2, 0, 2, 0, 0, 0, 0, 0, 0, 0, 0, 0, 5, 6], .h0, by decide +kernel⟩,
    ⟨{ wSer 0x305 [] with serac := { st := 2, session := some .h0, cfg := List.replicate 384 0 }, regs := (⟨.SW_STATUS, 0⟩, 0x80000000) :: wRun.regs }, .h0, by decide +kernel⟩,
    ⟨wSer 0x305 [], .h0, by decide +kernel⟩,
    ⟨{ wSer 0x305 [] with serac := { st := 2, session := some .h0, pw := some ([], 0), log := List.replicate 1008 [] } }, .h0, by decide +kernel⟩,
    ⟨{ wSer 0x305 [] with serac := { st := 2, session := some .h0, pw := some ([], 0), cfg := [2] } }, .h0, 0, by decide +kernel⟩,
    ⟨{ wSer 0x305 [] with serac := { st := 2, session := some .h0, pw := some ([], 0), staged := some ([1, 0, 1, 0, 1, 0, 0, 0, 1] ++ List.replicate 31 0 ++ List.replicate 16 255 ++ List.replicate 8 0 ++ (List.replicate 32 [0, 4]).flatten ++ List.replicate 256 0) } }, _, _, _, .h0, _, by decide +kernel, by decide +kernel, by decide +kernel, rfl, by decide +kernel, by decide +kernel, by decide +kernel, by decide +kernel, rfl, rfl, rfl⟩,
    ⟨{ wSer 0x306 [8] with serac := { st := 2, session := some .h0, log := List.replicate 1008 [] } }, .h0, by decide +kernel⟩,
    ⟨wSer 0x306 [8], .h0, by decide +kernel⟩,
    ⟨wSer 0x307 [], .h0, _, by decide +kernel, by decide +kernel, rfl⟩,
    ⟨{ wSer 0x308 [] with serac := { st := 2, session := some .h0, log := List.replicate 1008 [] } }, .h0, by decide +kernel⟩,
    ⟨wSer 0x308 [], .h0, by decide +kernel⟩,
    ⟨{ wSer 0x309 [] with serac := { st := 5, session := some .h0, stuck := true } }, .h0, by decide +kernel⟩,
    ⟨wSer 0x309 [], .h0, by decide +kernel⟩⟩

set_option maxRecDepth 20000 in
/-- States and operands that meet the hypotheses of each clause of KyotiLine. -/
theorem witness_KyotiLine :
    (∃ (s : State), ((!s.variant.hasKyoti || !s.dieRuns .ddie) = true)) ∧
    (∃ (s : State), (s.variant.hasKyoti = true) ∧ (s.dieRuns .ddie = true) ∧ (s.ky.zc = none)) ∧
    (∃ (s : State) (t : Nat) (z : Nat), (s.variant.hasKyoti = true) ∧ (s.dieRuns .ddie = true) ∧ (s.ky.zc = some z) ∧ ((t - z) * 10 < (s.put Fld.KY_STATUS__ZC 0 1).kyT * 8)) ∧
    (∃ (s : State) (u : State) (t : Nat) (z : Nat), (s.variant.hasKyoti = true) ∧ (s.dieRuns .ddie = true) ∧ (s.ky.zc = some z) ∧ (u = s.put Fld.KY_STATUS__ZC 0 1) ∧ (u.kyT * 8 ≤ (t - z) * 10) ∧ (2 * (t - z) ≤ 3 * u.kyT) ∧ (u.flag Fld.KY_STATUS__ZC_LOST 0 = false)) ∧
    (∃ (s : State) (u : State) (t : Nat) (z : Nat), (s.variant.hasKyoti = true) ∧ (s.dieRuns .ddie = true) ∧ (s.ky.zc = some z) ∧ (u = s.put Fld.KY_STATUS__ZC 0 1) ∧ (u.kyT * 8 ≤ (t - z) * 10) ∧ (3 * u.kyT < 2 * (t - z)) ∧ (u.flag Fld.KY_STATUS__ZC_LOST 0 = false)) ∧
    (∃ (s : State) (u : State) (t : Nat) (z : Nat), (s.variant.hasKyoti = true) ∧ (s.dieRuns .ddie = true) ∧ (s.ky.zc = some z) ∧ (u = s.put Fld.KY_STATUS__ZC 0 1) ∧ (u.kyT * 8 ≤ (t - z) * 10) ∧ (2 * (t - z) ≤ 3 * u.kyT) ∧ (u.flag Fld.KY_STATUS__ZC_LOST 0 = true)) ∧
    (∃ (s : State), (s.variant.hasKyoti = false)) ∧
    (∃ (s : State) (u : State), (s.variant.hasKyoti = true) ∧ (s.flag Fld.KY_STATUS__ZC_LOST 0 = false) ∧ (u = (s.put Fld.KY_STATUS__ZC_LOST 0 1).put Fld.KY_ERR__ZC_LOST 0 1)) ∧
    (∃ (s : State), (s.variant.hasKyoti = true) ∧ (s.flag Fld.KY_STATUS__ZC_LOST 0 = true)) ∧
    (∃ (s : State) (u : State) (e : Nat), (s.kyState = 1) ∧ (e = s.devTime / 1000000 % 256) ∧ (u = ((s.put Fld.KY_STATUS__STATE 0 2).put Fld.KY_STATUS__EPOCH 0 (if e = 0 then 1 else e)).setReg .KY_SF 0 0)) ∧
    (∃ (s : State), (s.kyState ≠ 1)) ∧
    (∃ (s : State), ((!s.kyRuns || s.ky.fault || decide (s.ky.unit ≠ 0) || !s.kyFitsNow ((s.ky.layout.takeWhile (· == 0)).length) 120) = true)) ∧
    (∃ (s : State), (s.kyRuns = true) ∧ (s.ky.fault = false) ∧ (s.ky.unit = 0) ∧ (s.kyFitsNow ((s.ky.layout.takeWhile (· == 0)).length) 120 = true)) ∧
    (∃ (s : State), ((!s.kyRuns || s.ky.fault || decide ((sfUnits s.ky.layout s.cfg.ky.cycle2 (s.kySf % 2 == 1)).getD s.ky.unit 5 ≠ 1)) = true)) ∧
    (∃ (s : State), (s.kyRuns = true) ∧ (s.ky.fault = false) ∧ ((sfUnits s.ky.layout s.cfg.ky.cycle2 (s.kySf % 2 == 1)).getD s.ky.unit 5 = 1) ∧ (s.ky.hold ≠ 0)) ∧
    (∃ (s : State) (t : KyTx), (s.kyRuns = true) ∧ (s.ky.fault = false) ∧ ((sfUnits s.ky.layout s.cfg.ky.cycle2 (s.kySf % 2 == 1)).getD s.ky.unit 5 = 1) ∧ (s.ky.hold = 0) ∧ (s.ky.tx = some t)) ∧
    (∃ (s : State) (q : Nat), (s.kyRuns = true) ∧ (s.ky.fault = false) ∧ ((sfUnits s.ky.layout s.cfg.ky.cycle2 (s.kySf % 2 == 1)).getD s.ky.unit 5 = 1) ∧ (s.ky.hold = 0) ∧ (s.ky.tx = none) ∧ ((s.kyMembers.filter fun q => decide (0 < s.kyThrough q)).find? (fun q => decide (tabGet 0 s.ky.relayAt q + s.cfg.ky.relayInterval ≤ s.kySf)) = some q)) ∧
    (∃ (s : State), (s.kyRuns = true) ∧ (s.ky.fault = false) ∧ ((sfUnits s.ky.layout s.cfg.ky.cycle2 (s.kySf % 2 == 1)).getD s.ky.unit 5 = 1) ∧ (s.ky.hold = 0) ∧ (s.ky.tx = none) ∧ ((s.kyMembers.filter fun q => decide (0 < s.kyThrough q)).find? (fun q => decide (tabGet 0 s.ky.relayAt q + s.cfg.ky.relayInterval ≤ s.kySf)) = none) ∧ (s.ky.queue = [])) ∧
    (∃ (s : State) (m : KyMsg) (r : List KyMsg), (s.kyRuns = true) ∧ (s.ky.fault = false) ∧ ((sfUnits s.ky.layout s.cfg.ky.cycle2 (s.kySf % 2 == 1)).getD s.ky.unit 5 = 1) ∧ (s.ky.hold = 0) ∧ (s.ky.tx = none) ∧ ((s.kyMembers.filter fun q => decide (0 < s.kyThrough q)).find? (fun q => decide (tabGet 0 s.ky.relayAt q + s.cfg.ky.relayInterval ≤ s.kySf)) = none) ∧ (s.ky.queue = m :: r) ∧ (m.route.isEmpty = false)) ∧
    (∃ (s : State) (m : KyMsg) (r : List KyMsg), (s.kyRuns = true) ∧ (s.ky.fault = false) ∧ ((sfUnits s.ky.layout s.cfg.ky.cycle2 (s.kySf % 2 == 1)).getD s.ky.unit 5 = 1) ∧ (s.ky.hold = 0) ∧ (s.ky.tx = none) ∧ ((s.kyMembers.filter fun q => decide (0 < s.kyThrough q)).find? (fun q => decide (tabGet 0 s.ky.relayAt q + s.cfg.ky.relayInterval ≤ s.kySf)) = none) ∧ (s.ky.queue = m :: r) ∧ (m.route.isEmpty = true) ∧ (m.dst ≠ kyBroadcast) ∧ ((s.kyNode m.dst).st ≠ 1) ∧ ((s.kyNode m.dst).st ≠ 2)) ∧
    (∃ (s : State) (m : KyMsg) (r : List KyMsg), (s.kyRuns = true) ∧ (s.ky.fault = false) ∧ ((sfUnits s.ky.layout s.cfg.ky.cycle2 (s.kySf % 2 == 1)).getD s.ky.unit 5 = 1) ∧ (s.ky.hold = 0) ∧ (s.ky.tx = none) ∧ ((s.kyMembers.filter fun q => decide (0 < s.kyThrough q)).find? (fun q => decide (tabGet 0 s.ky.relayAt q + s.cfg.ky.relayInterval ≤ s.kySf)) = none) ∧ (s.ky.queue = m :: r) ∧ (m.route.isEmpty = true) ∧ (m.dst = kyBroadcast ∨ (s.kyNode m.dst).st = 1 ∨ (s.kyNode m.dst).st = 2)) ∧
    (∃ (s : State), (s.kyRuns = false)) ∧
    (∃ (s : State) (rx : List Byte) (n : Nat), (s.kyRuns = true) ∧ (kyRead s.cfg.ky.interleave rx = .failed n)) ∧
    (∃ (s : State) (rx : List Byte) (e : Nat), (s.kyRuns = true) ∧ (kyRead s.cfg.ky.interleave rx = .dropped e)) ∧
    (∃ (s : State) (rx : List Byte) (f : KyFrame) (e : Nat), (s.kyRuns = true) ∧ (kyRead s.cfg.ky.interleave rx = .frame f e) ∧ (f.ok s.cfg.ky.device 3 = false ∨ f.next ≠ 0)) ∧
    (∃ (s : State), (s.kyRuns = false)) ∧
    (∃ (s : State) (rx : List Byte) (n : Nat), (s.kyRuns = true) ∧ (kyRead s.cfg.ky.interleave rx = .failed n)) ∧
    (∃ (s : State) (rx : List Byte) (e : Nat), (s.kyRuns = true) ∧ (kyRead s.cfg.ky.interleave rx = .dropped e)) ∧
    (∃ (s : State) (rx : List Byte) (f : KyFrame) (e : Nat), (s.kyRuns = true) ∧ (kyRead s.cfg.ky.interleave rx = .frame f e) ∧ (f.ok s.cfg.ky.device 4 = false ∨ f.next ≠ 0)) ∧
    (∃ (s : State), (s.kyRuns = false)) ∧
    (∃ (s : State) (rx : List Byte) (n : Nat), (s.kyRuns = true) ∧ (kyRead s.cfg.ky.interleave rx = .failed n)) ∧
    (∃ (s : State) (rx : List Byte) (e : Nat), (s.kyRuns = true) ∧ (kyRead s.cfg.ky.interleave rx = .dropped e)) ∧
    (∃ (s : State) (rx : List Byte) (f : KyFrame) (e : Nat), (s.kyRuns = true) ∧ (kyRead s.cfg.ky.interleave rx = .frame f e) ∧ (f.ok s.cfg.ky.device 5 = false ∨ f.next ≠ 0)) ∧
    (∃ (s : State) (rx : List Byte) (f : KyFrame) (e : Nat) (t : KyTx) (u : State) (v : State), (s.kyRuns = true) ∧ (kyRead s.cfg.ky.interleave rx = .frame f e) ∧ (f.ok s.cfg.ky.device 3 = true) ∧ (f.next = 0) ∧ (u = s.kyReceived e) ∧ (u.ky.tx = some t) ∧ (u.kyAnswers f t = true) ∧ (v = u.setNode f.src { u.kyNode f.src with part := (kyJoinSeg (u.kyNode f.src).part f).1 })) ∧
    (∃ (s : State) (rx : List Byte) (f : KyFrame) (e : Nat) (u : State), (s.kyRuns = true) ∧ (kyRead s.cfg.ky.interleave rx = .frame f e) ∧ (f.ok s.cfg.ky.device 3 = true) ∧ (f.next = 0) ∧ (u = s.kyReceived e) ∧ (∀ t, u.ky.tx = some t → u.kyAnswers f t = false)) ∧
    (∃ (s : State) (rx : List Byte) (f : KyFrame) (e : Nat) (t : KyTx) (u : State), (s.kyRuns = true) ∧ (kyRead s.cfg.ky.interleave rx = .frame f e) ∧ (f.ok s.cfg.ky.device 4 = true) ∧ (f.next = 0) ∧ (u = s.kyReceived e) ∧ (u.ky.tx = some t) ∧ (u.kyAnswers f t = true)) ∧
    (∃ (s : State) (rx : List Byte) (f : KyFrame) (e : Nat) (u : State), (s.kyRuns = true) ∧ (kyRead s.cfg.ky.interleave rx = .frame f e) ∧ (f.ok s.cfg.ky.device 4 = true) ∧ (f.next = 0) ∧ (u = s.kyReceived e) ∧ (∀ t, u.ky.tx = some t → u.kyAnswers f t = false)) ∧
    (∃ (s : State) (rx : List Byte) (f : KyFrame) (e : Nat) (u : State) (v : State) (w : State), (s.kyRuns = true) ∧ (kyRead s.cfg.ky.interleave rx = .frame f e) ∧ (f.ok s.cfg.ky.device 5 = true) ∧ (f.next = 0) ∧ (u = s.kyReceived e) ∧ (v = u.setKy { u.ky with parts := match (kyJoinSeg (tabFind u.ky.parts (f.src, f.last)) f).1 with | some x => tabSet u.ky.parts (f.src, f.last) x | none => tabErase u.ky.parts (f.src, f.last) }) ∧ (w = if (v.kyNode f.src).st = 2 then v.setNode f.src { v.kyNode f.src with ack := true } else v)) ∧
    (∃ (s : State), (s.kyRuns = false)) ∧
    (∃ (s : State) (rx : List Byte) (n : Nat), (s.kyRuns = true) ∧ (kyRead s.cfg.ky.interleave rx = .failed n)) ∧
    (∃ (s : State) (rx : List Byte) (e : Nat), (s.kyRuns = true) ∧ (kyRead s.cfg.ky.interleave rx = .dropped e)) ∧
    (∃ (s : State) (rx : List Byte) (f : KyFrame) (e : Nat), (s.kyRuns = true) ∧ (kyRead s.cfg.ky.interleave rx = .frame f e)) ∧
    (∃ (s : State) (u : State) (n : Nat), (n ≠ 0) ∧ (u = (s.bump Fld.KY_RS_FAILED__VALUE 0 n).setPower { s.power with kyFrame := false })) ∧
    (∃ (s : State) (n : Nat) (t : KyTx), (s.ky.tx = some t) ∧ (t.node = n) ∧ (t.due = false)) ∧
    (∃ (s : State) (n : Nat), (∀ t, s.ky.tx = some t → (t.node = n ∧ t.due = false) → False)) ∧
    (∃ (s : State) (t : KyTx), (t.second = false) ∧ (t.attempts ≤ s.cfg.ky.retries)) ∧
    (∃ (s : State) (t : KyTx) (x : Nat) (r : List Nat), (t.second = false) ∧ (s.cfg.ky.retries < t.attempts) ∧ (s.kySecond t.node t.route = some (x, r))) ∧
    (∃ (s : State) (t : KyTx), (t.second = true ∨ (s.cfg.ky.retries < t.attempts ∧ s.kySecond t.node t.route = none))) ∧
    (∃ (s : State), (s.variant.hasKyoti = false)) ∧
    (∃ (s : State) (u : State) (why : Nat), (s.variant.hasKyoti = true) ∧ (u = ((s.put Fld.KY_ERR__LINE_FAULT 0 1).postBoth { code := 0xA0A, sev := 2, data := why }).setKy { s.ky with fault := true })) :=
  ⟨⟨{ wRun with variant := .bx9192M }, by decide +kernel⟩,
    ⟨wRun, by decide +kernel⟩,
    ⟨{ wRegs [(⟨.KY_STATUS, 0⟩, 0x20000000)] with cfg := { ky := { on := true, device := 5 } }, ky := { zc := some 0 } }, 5, 0, by decide +kernel⟩,
    ⟨{ wRegs [(⟨.KY_STATUS, 0⟩, 0x20000000)] with cfg := { ky := { on := true, device := 5 } }, ky := { zc := some 0 } }, _, 20000, 0, by decide +kernel, by decide +kernel, by decide +kernel, rfl, by decide +kernel⟩,
    ⟨{ wRegs [(⟨.KY_STATUS, 0⟩, 0x20000000)] with cfg := { ky := { on := true, device := 5 } }, ky := { zc := some 0 } }, _, 40000, 0, by decide +kernel, by decide +kernel, by decide +kernel, rfl, by decide +kernel⟩,
    ⟨{ wRegs [(⟨.KY_STATUS, 0⟩, 0x22000000)] with cfg := { ky := { on := true, device := 5 } }, ky := { zc := some 0 } }, _, 20000, 0, by decide +kernel, by decide +kernel, by decide +kernel, rfl, by decide +kernel⟩,
    ⟨{ wRun with variant := .bx9192M }, by decide +kernel⟩,
    ⟨wRun, _, by decide +kernel, by decide +kernel, rfl⟩,
    ⟨wRegs [(⟨.KY_STATUS, 0⟩, 0x02000000)], by decide +kernel⟩,
    ⟨{ wRegs [(⟨.KY_STATUS, 0⟩, 0x10000000)] with devTime := 5000000 }, _, _, by decide +kernel, rfl, rfl⟩,
    ⟨wRun, by decide +kernel⟩,
    ⟨wRun, by decide +kernel⟩,
    ⟨{ wRegs [(⟨.KY_STATUS, 0⟩, 0x20000000)] with cfg := { ky := { on := true, device := 5 } }, ky := { layout := [0, 0, 0, 0, 0, 0, 1] } }, by decide +kernel⟩,
    ⟨wRun, by decide +kernel⟩,
    ⟨{ wRegs [(⟨.KY_STATUS, 0⟩, 0x20000000)] with cfg := { ky := { on := true, device := 5 } }, ky := { layout := [1], hold := 2 } }, by decide +kernel⟩,
    ⟨{ wRegs [(⟨.KY_STATUS, 0⟩, 0x20000000)] with cfg := { ky := { on := true, device := 5 } }, ky := { layout := [1], tx := some { node := 7, route := [7] } } }, { node := 7, route := [7] }, by decide +kernel⟩,
    ⟨{ wRegs [(⟨.KY_STATUS, 0⟩, 0x20000000)] with cfg := { ky := { on := true, device := 5, relayInterval := 0 } }, ky := { layout := [1], nodes := [(7, { st := 2, route := [7] }), (8, { st := 2, route := [7, 8] })] } }, 7, by decide +kernel⟩,
    ⟨{ wRegs [(⟨.KY_STATUS, 0⟩, 0x20000000)] with cfg := { ky := { on := true, device := 5 } }, ky := { layout := [1] } }, by decide +kernel⟩,
    ⟨{ wRegs [(⟨.KY_STATUS, 0⟩, 0x20000000)] with cfg := { ky := { on := true, device := 5 } }, ky := { layout := [1], queue := [{ dst := 7, mtype := 6, bytes := [], secured := true, route := [7] }] } }, { dst := 7, mtype := 6, bytes := [], secured := true, route := [7] }, [], by decide +kernel⟩,
    ⟨{ wRegs [(⟨.KY_STATUS, 0⟩, 0x20000000)] with cfg := { ky := { on := true, device := 5 } }, ky := { layout := [1], queue := [{ dst := 7, mtype := 0, bytes := [], secured := true }] } }, { dst := 7, mtype := 0, bytes := [], secured := true }, [], by decide +kernel⟩,
    ⟨{ wRegs [(⟨.KY_STATUS, 0⟩, 0x20000000)] with cfg := { ky := { on := true, device := 5 } }, ky := { layout := [1], queue := [{ dst := 7, mtype := 0, bytes := [], secured := true }], nodes := [(7, { st := 2 })] } }, { dst := 7, mtype := 0, bytes := [], secured := true }, [], by decide +kernel⟩,
    ⟨wRun, by decide +kernel⟩,
    ⟨{ wRegs [(⟨.KY_STATUS, 0⟩, 0x20000000)] with cfg := { ky := { on := true, device := 5 } }, ky := {  } }, (upTo 32).map (BitVec.ofNat 8), 1, by decide +kernel⟩,
    ⟨{ wRegs [(⟨.KY_STATUS, 0⟩, 0x20000000)] with cfg := { ky := { on := true, device := 5 } }, ky := {  } }, List.replicate 32 0, 0, by decide +kernel, by decide +kernel⟩,
    ⟨{ wRegs [(⟨.KY_STATUS, 0⟩, 0x20000000)] with cfg := { ky := { on := true, device := 5 } }, ky := {  } }, wKyRx 4 4, { ftype := 4, cell := 5, last := 0, src := 7, seq := 4, hopsLeft := 8 }, 0, by decide +kernel⟩,
    ⟨wRun, by decide +kernel⟩,
    ⟨{ wRegs [(⟨.KY_STATUS, 0⟩, 0x20000000)] with cfg := { ky := { on := true, device := 5 } }, ky := {  } }, (upTo 32).map (BitVec.ofNat 8), 1, by decide +kernel⟩,
    ⟨{ wRegs [(⟨.KY_STATUS, 0⟩, 0x20000000)] with cfg := { ky := { on := true, device := 5 } }, ky := {  } }, List.replicate 32 0, 0, by decide +kernel, by decide +kernel⟩,
    ⟨{ wRegs [(⟨.KY_STATUS, 0⟩, 0x20000000)] with cfg := { ky := { on := true, device := 5 } }, ky := {  } }, wKyRx 3 4, { ftype := 3, cell := 5, last := 0, src := 7, seq := 4, hopsLeft := 8 }, 0, by decide +kernel⟩,
    ⟨wRun, by decide +kernel⟩,
    ⟨{ wRegs [(⟨.KY_STATUS, 0⟩, 0x20000000)] with cfg := { ky := { on := true, device := 5 } }, ky := {  } }, (upTo 32).map (BitVec.ofNat 8), 1, by decide +kernel⟩,
    ⟨{ wRegs [(⟨.KY_STATUS, 0⟩, 0x20000000)] with cfg := { ky := { on := true, device := 5 } }, ky := {  } }, List.replicate 32 0, 0, by decide +kernel, by decide +kernel⟩,
    ⟨{ wRegs [(⟨.KY_STATUS, 0⟩, 0x20000000)] with cfg := { ky := { on := true, device := 5 } }, ky := {  } }, wKyRx 3 4, { ftype := 3, cell := 5, last := 0, src := 7, seq := 4, hopsLeft := 8 }, 0, by decide +kernel⟩,
    ⟨{ wRegs [(⟨.KY_STATUS, 0⟩, 0x20000000)] with cfg := { ky := { on := true, device := 5 } }, ky := { tx := some { node := 7, route := [7], due := false }, nodes := [(7, { st := 2, seq := 4 })] } }, wKyRx 3 4, { ftype := 3, cell := 5, last := 0, src := 7, seq := 4, hopsLeft := 8 }, 0, { node := 7, route := [7], due := false }, _, _, by decide +kernel, by decide +kernel, by decide +kernel, by decide +kernel, rfl, by decide +kernel, by decide +kernel, rfl⟩,
    ⟨{ wRegs [(⟨.KY_STATUS, 0⟩, 0x20000000)] with cfg := { ky := { on := true, device := 5 } }, ky := {  } }, wKyRx 3 4, { ftype := 3, cell := 5, last := 0, src := 7, seq := 4, hopsLeft := 8 }, 0, _, by decide +kernel, by decide +kernel, by decide +kernel, by decide +kernel, rfl, by intro t h; have g : (none : Option KyTx) = some t := h; cases g⟩,
    ⟨{ wRegs [(⟨.KY_STATUS, 0⟩, 0x20000000)] with cfg := { ky := { on := true, device := 5 } }, ky := { tx := some { node := 7, route := [7], due := false }, nodes := [(7, { st := 2, seq := 4 })] } }, wKyRx 4 4, { ftype := 4, cell := 5, last := 0, src := 7, seq := 4, hopsLeft := 8 }, 0, { node := 7, route := [7], due := false }, _, by decide +kernel, by decide +kernel, by decide +kernel, by decide +kernel, rfl, by decide +kernel, by decide +kernel⟩,
    ⟨{ wRegs [(⟨.KY_STATUS, 0⟩, 0x20000000)] with cfg := { ky := { on := true, device := 5 } }, ky := {  } }, wKyRx 4 4, { ftype := 4, cell := 5, last := 0, src := 7, seq := 4, hopsLeft := 8 }, 0, _, by decide +kernel, by decide +kernel, by decide +kernel, by decide +kernel, rfl, by intro t h; have g : (none : Option KyTx) = some t := h; cases g⟩,
    ⟨{ wRegs [(⟨.KY_STATUS, 0⟩, 0x20000000)] with cfg := { ky := { on := true, device := 5 } }, ky := {  } }, wKyRx 5 4, { ftype := 5, cell := 5, last := 0, src := 7, seq := 4, hopsLeft := 8 }, 0, _, _, _, by decide +kernel, by decide +kernel, by decide +kernel, by decide +kernel, rfl, rfl, rfl⟩,
    ⟨wRun, by decide +kernel⟩,
    ⟨{ wRegs [(⟨.KY_STATUS, 0⟩, 0x20000000)] with cfg := { ky := { on := true, device := 5 } }, ky := {  } }, (upTo 32).map (BitVec.ofNat 8), 1, by decide +kernel⟩,
    ⟨{ wRegs [(⟨.KY_STATUS, 0⟩, 0x20000000)] with cfg := { ky := { on := true, device := 5 } }, ky := {  } }, List.replicate 32 0, 0, by decide +kernel⟩,
    ⟨{ wRegs [(⟨.KY_STATUS, 0⟩, 0x20000000)] with cfg := { ky := { on := true, device := 5 } }, ky := {  } }, wKyRx 3 4, { ftype := 3, cell := 5, last := 0, src := 7, seq := 4, hopsLeft := 8 }, 0, by decide +kernel⟩,
    ⟨wRun, _, 1, by decide, rfl⟩,
    ⟨{ wRegs [(⟨.KY_STATUS, 0⟩, 0x20000000)] with cfg := { ky := { on := true, device := 5 } }, ky := { tx := some { node := 7, route := [7], due := false } } }, 7, { node := 7, route := [7], due := false }, by decide +kernel⟩,
    ⟨wRun, 7, by intro t h; have g : (none : Option KyTx) = some t := h; cases g⟩,
    ⟨{ wRegs [(⟨.KY_STATUS, 0⟩, 0x20000000)] with cfg := { ky := { on := true, device := 5 } }, ky := {  } }, { node := 7, route := [7] }, by decide +kernel⟩,
    ⟨{ wRegs [(⟨.KY_STATUS, 0⟩, 0x20000000)] with cfg := { ky := { on := true, device := 5 } }, ky := { nodes := [(7, { st := 2, route := [7] }), (8, { st := 2, route := [8], routeCap := true, cap := 1 })], own := [(7, List.replicate 8 true), (8, List.replicate 8 true)], ratio := [((0, 7), 255), ((0, 8), 255), ((8, 7), 255), ((7, 8), 255)] } }, { node := 7, route := [7], attempts := 4 }, 32, [8, 7], by decide +kernel⟩,
    ⟨{ wRegs [(⟨.KY_STATUS, 0⟩, 0x20000000)] with cfg := { ky := { on := true, device := 5 } }, ky := {  } }, { node := 7, route := [7], second := true }, by decide +kernel⟩,
    ⟨{ wRun with variant := .bx9192M }, by decide +kernel⟩,
    ⟨wRun, _, 1, by decide +kernel, rfl⟩⟩

set_option maxRecDepth 20000 in
/-- States and operands that meet the hypotheses of each clause of KyotiMessages. -/
theorem witness_KyotiMessages :
    (∃ (s : State) (n : Nat), (s.ky.inbox.find? (fun m => m.src == n && m.mtype == 0) = none)) ∧
    (∃ (s : State) (u : State) (n : Nat) (m : KyIn), (s.ky.inbox.find? (fun m => m.src == n && m.mtype == 0) = some m) ∧ (u = s.setKy { s.ky with inbox := s.ky.inbox.erase m })) ∧
    (∃ (s : State) (n : Nat), (s.ky.inbox.find? (fun m => m.src == n && m.mtype == 9) = none)) ∧
    (∃ (s : State) (u : State) (n : Nat) (m : KyIn), (s.ky.inbox.find? (fun m => m.src == n && m.mtype == 9) = some m) ∧ (u = s.setKy { s.ky with inbox := s.ky.inbox.erase m })) ∧
    (∃ (s : State) (n : Nat), (s.ky.inbox.find? (fun m => m.src == n && m.mtype == 1) = none)) ∧
    (∃ (s : State) (u : State) (n : Nat) (m : KyIn), (s.ky.inbox.find? (fun m => m.src == n && m.mtype == 1) = some m) ∧ (u = s.setKy { s.ky with inbox := s.ky.inbox.erase m })) ∧
    (∃ (s : State) (n : Nat), (s.ky.inbox.find? (fun m => m.src == n && m.mtype == 6) = none)) ∧
    (∃ (s : State) (u : State) (n : Nat) (m : KyIn), (s.ky.inbox.find? (fun m => m.src == n && m.mtype == 6) = some m) ∧ (u = s.setKy { s.ky with inbox := s.ky.inbox.erase m })) ∧
    (∃ (s : State) (n : Nat), (s.ky.inbox.find? (fun m => m.src == n && m.mtype == 3) = none)) ∧
    (∃ (s : State) (m : KyIn), (m.secured = true) ∧ (s.cellKey s.cfg.ky.keySlot = false)) ∧
    (∃ (s : State) (u : State) (m : KyIn) (n : Nat), (m.secured = true) ∧ (s.cellKey s.cfg.ky.keySlot = true) ∧ ((s.kyNode m.src).fcIn = some n) ∧ (field m.bytes 0 4 ≤ n) ∧ (u = s.useNodeKey s.cfg.ky.keySlot (some (s.kyNode m.src).uid))) ∧
    (∃ (s : State) (u : State) (m : KyIn), (m.secured = true) ∧ (s.cellKey s.cfg.ky.keySlot = true) ∧ ((s.kyNode m.src).fcIn = none ∨ ∃ n, (s.kyNode m.src).fcIn = some n ∧ n < field m.bytes 0 4) ∧ (u = s.useNodeKey s.cfg.ky.keySlot (some (s.kyNode m.src).uid)) ∧ (kyUnseal (u.kyKey (some (s.kyNode m.src).uid)) u.cfg.ky.device m.src 0 m.mtype m.bytes = none)) ∧
    (∃ (s : State) (u : State) (m : KyIn) (b : List Byte), (m.secured = true) ∧ (s.cellKey s.cfg.ky.keySlot = true) ∧ ((s.kyNode m.src).fcIn = none ∨ ∃ n, (s.kyNode m.src).fcIn = some n ∧ n < field m.bytes 0 4) ∧ (u = s.useNodeKey s.cfg.ky.keySlot (some (s.kyNode m.src).uid)) ∧ (kyUnseal (u.kyKey (some (s.kyNode m.src).uid)) u.cfg.ky.device m.src 0 m.mtype m.bytes = some b)) ∧
    (∃ (m : KyIn), (m.secured = false)) ∧
    (∃ (s : State) (u : State) (v : State) (dev : Nat) (n : Nat) (b : List Byte), (u = s.wakeSource 9) ∧ (u.ky.inq.length < 256) ∧ (v = u.setKy { u.ky with inq := u.ky.inq ++ [(dev, n, u.devTime, b)] })) ∧
    (∃ (s : State) (u : State), (u = s.wakeSource 9) ∧ (256 ≤ u.ky.inq.length)) ∧
    (∃ (s : State) (n : Nat) (b : List Byte), (s.cfg.ky.perms.contains (n, field b 0 1, field b 2 2) = false)) ∧
    (∃ (s : State) (n : Nat) (obj : Nat) (b : List Byte), (field b 0 1 = 3) ∧ (field b 1 1 = 0) ∧ (field b 2 2 = obj) ∧ (s.cfg.ky.perms.contains (n, 3, obj) = true) ∧ (obj < 256) ∧ (s.firnOff (s.pcfg obj).die = none)) ∧
    (∃ (s : State) (u : State) (v : State) (n : Nat) (m : KyIn) (th : Option Nat) (w : State), (s.ky.inbox.find? (fun m => m.src == n && m.mtype == 3) = some m) ∧ (m.secured = false) ∧ (s.cfg.ky.secure = false) ∧ (u = s.setKy { s.ky with inbox := s.ky.inbox.erase m }) ∧ (v = u.setKy { u.ky with ratio := (reportItems 16 m.bytes).foldl (fun t x => tabSet t (x.1, n) x.2) u.ky.ratio }) ∧ (w = match th with | some t => v.kyTheta n t | none => v)) ∧
    (∃ (s : State), (s.variant.hasKyoti = false)) ∧
    (∃ (s : State) (n : Nat), (s.variant.hasKyoti = true) ∧ (s.ky.inbox.find? (fun m => m.src == n && m.mtype == 4) = none)) ∧
    (∃ (s : State) (u : State) (n : Nat) (m : KyIn), (s.variant.hasKyoti = true) ∧ (s.ky.inbox.find? (fun m => m.src == n && m.mtype == 4) = some m) ∧ (u = (s.setKy { s.ky with inbox := s.ky.inbox.erase m }).wakeSource 9) ∧ (u.cellKey u.cfg.ky.keySlot = false ∨ (m.bytes.drop 18).take 8 ≠ u.joinMac m.bytes)) ∧
    (∃ (s : State) (u : State) (n : Nat) (m : KyIn), (s.variant.hasKyoti = true) ∧ (s.ky.inbox.find? (fun m => m.src == n && m.mtype == 4) = some m) ∧ (u = (s.setKy { s.ky with inbox := s.ky.inbox.erase m }).wakeSource 9) ∧ (u.cellKey u.cfg.ky.keySlot = true) ∧ ((m.bytes.drop 18).take 8 = u.joinMac m.bytes) ∧ (u.cfg.ky.nodes.isEmpty = false) ∧ (tabFind u.cfg.ky.nodes (field m.bytes 0 8) = none)) ∧
    (∃ (s : State) (u : State) (v : State) (n : Nat) (a : Nat) (m : KyIn) (r : List Nat) (x : KyNode) (b : List Byte), (s.variant.hasKyoti = true) ∧ (s.ky.inbox.find? (fun m => m.src == n && m.mtype == 4) = some m) ∧ (u = (s.setKy { s.ky with inbox := s.ky.inbox.erase m }).wakeSource 9) ∧ (u.cellKey u.cfg.ky.keySlot = true) ∧ (b = m.bytes) ∧ ((b.drop 18).take 8 = u.joinMac b) ∧ (u.cfg.ky.nodes.isEmpty = true ∨ (tabFind u.cfg.ky.nodes (field b 0 8)).isSome = true) ∧ (u.kyAddress (field b 0 8) (field b 8 2) = some a) ∧ (r = if m.via = 0 then [a] else (u.kyNode m.via).route ++ [a]) ∧ (x = { uid := field b 0 8, st := 1, hops := r.length, routeCap := bitAt (field b 10 1) 0, cap := field b 10 1 / 16, route := r, cost := field b 12 2, fcIn := (u.kyNode a).fcIn, fcOut := (u.kyNode a).fcOut, okN := (u.kyNode a).okN, failN := (u.kyNode a).failN, seq := (u.kyNode a).seq, heard := (u.kyNode a).heard }) ∧ (v = ((u.setNode a x).kyTheta a (field b 11 1)).kyCount)) ∧
    (∃ (s : State), (s.variant.hasKyoti = false)) ∧
    (∃ (s : State) (b : List Byte), (s.variant.hasKyoti = true) ∧ (s.fedOk b = false)) ∧
    (∃ (s : State) (b : List Byte), (s.variant.hasKyoti = true) ∧ (s.fedOk b = true) ∧ ((fedFrame b).dst ≠ s.cfg.ky.device)) ∧
    (∃ (s : State) (b : List Byte), (s.variant.hasKyoti = true) ∧ (s.fedOk b = true) ∧ ((fedFrame b).dst = s.cfg.ky.device) ∧ ((fedFrame b).type ≠ 1) ∧ ((fedFrame b).type ≠ 2)) ∧
    (∃ (s : State) (b : List Byte) (f : FedFrame), (s.variant.hasKyoti = true) ∧ (s.fedOk b = true) ∧ (f = fedFrame b) ∧ (f.dst = s.cfg.ky.device) ∧ (f.type = 1)) ∧
    (∃ (s : State) (b : List Byte) (f : FedFrame), (s.variant.hasKyoti = true) ∧ (s.fedOk b = true) ∧ (f = fedFrame b) ∧ (f.dst = s.cfg.ky.device) ∧ (f.type = 2)) ∧
    (∃ (s : State) (tag : Nat) (t : Ticket), (tabFind s.ky.fed tag = some t)) ∧
    (∃ (s : State) (tag : Nat), (tabFind s.ky.fed tag = none)) :=
  ⟨⟨wRun, 7, by decide +kernel⟩,
    ⟨{ wRegs [(⟨.KY_STATUS, 0⟩, 0x20000000)] with cfg := { ky := { on := true, device := 5 } }, ky := { inbox := [{ src := 7, via := 7, mtype := 0, secured := false, bytes := [] }] } }, _, 7, { src := 7, via := 7, mtype := 0, secured := false, bytes := [] }, by decide +kernel, rfl⟩,
    ⟨wRun, 7, by decide +kernel⟩,
    ⟨{ wRegs [(⟨.KY_STATUS, 0⟩, 0x20000000)] with cfg := { ky := { on := true, device := 5 } }, ky := { inbox := [{ src := 7, via := 7, mtype := 9, secured := false, bytes := [] }] } }, _, 7, { src := 7, via := 7, mtype := 9, secured := false, bytes := [] }, by decide +kernel, rfl⟩,
    ⟨wRun, 7, by decide +kernel⟩,
    ⟨{ wRegs [(⟨.KY_STATUS, 0⟩, 0x20000000)] with cfg := { ky := { on := true, device := 5 } }, ky := { inbox := [{ src := 7, via := 7, mtype := 1, secured := false, bytes := [] }] } }, _, 7, { src := 7, via := 7, mtype := 1, secured := false, bytes := [] }, by decide +kernel, rfl⟩,
    ⟨wRun, 7, by decide +kernel⟩,
    ⟨{ wRegs [(⟨.KY_STATUS, 0⟩, 0x20000000)] with cfg := { ky := { on := true, device := 5 } }, ky := { inbox := [{ src := 7, via := 7, mtype := 6, secured := false, bytes := [] }] } }, _, 7, { src := 7, via := 7, mtype := 6, secured := false, bytes := [] }, by decide +kernel, rfl⟩,
    ⟨wRun, 7, by decide +kernel⟩,
    ⟨wRun, { src := 7, via := 7, mtype := 0, secured := true, bytes := [] }, by decide +kernel⟩,
    ⟨{ wRegs [(⟨.KEY_ATTR, 0⟩, 0x13000020)] with cfg := { ky := { on := true, device := 5 } }, ky := { nodes := [(7, { fcIn := some 9 })] } }, _, { src := 7, via := 7, mtype := 0, secured := true, bytes := [9] }, 9, by decide +kernel, by decide +kernel, by decide +kernel, by decide +kernel, rfl⟩,
    ⟨{ wRegs [(⟨.KEY_ATTR, 0⟩, 0x13000020)] with cfg := { ky := { on := true, device := 5 } }, ky := {  } }, _, { src := 7, via := 7, mtype := 0, secured := true, bytes := [9] }, by decide +kernel, by decide +kernel, Or.inl (by decide +kernel), rfl, rfl⟩,
    ⟨{ wRegs [(⟨.KEY_ATTR, 0⟩, 0x13000020)] with cfg := { ky := { on := true, device := 5 } }, ky := {  } }, _, wSealed, [], by decide +kernel, by decide +kernel, Or.inl (by decide +kernel), rfl, kyUnseal_sealed (wRun.kyKey (some 0)) 5 7 0⟩,
    ⟨{ src := 7, via := 7, mtype := 0, secured := false, bytes := [] }, by decide +kernel⟩,
    ⟨wRun, _, _, 5, 7, [], rfl, by decide +kernel, rfl⟩,
    ⟨{ wRegs [(⟨.KY_STATUS, 0⟩, 0x20000000)] with cfg := { ky := { on := true, device := 5 } }, ky := { inq := List.replicate 256 (5, 7, 0, []) } }, _, rfl, by decide +kernel⟩,
    ⟨wRun, 7, [], by decide +kernel⟩,
    ⟨{ wFirn with cfg := { ky := { on := true, device := 5, perms := [(7, 3, 9)] } } }, 7, 9, [3, 0, 9, 0], by decide +kernel⟩,
    ⟨{ wRegs [(⟨.KY_STATUS, 0⟩, 0x20000000)] with cfg := { ky := { on := true, device := 5, secure := false } }, ky := { inbox := [{ src := 7, via := 7, mtype := 3, secured := false, bytes := [] }] } }, _, _, 7, { src := 7, via := 7, mtype := 3, secured := false, bytes := [] }, none, _, by decide +kernel, by decide +kernel, by decide +kernel, rfl, rfl, rfl⟩,
    ⟨{ wRun with variant := .bx9192M }, by decide +kernel⟩,
    ⟨wRun, 7, by decide +kernel⟩,
    ⟨{ wRegs [(⟨.KY_STATUS, 0⟩, 0x20000000)] with cfg := { ky := { on := true, device := 5 } }, ky := { inbox := [{ src := 7, via := 7, mtype := 4, secured := false, bytes := [] }] } }, _, 7, { src := 7, via := 7, mtype := 4, secured := false, bytes := [] }, by decide +kernel, by decide +kernel, rfl, Or.inl (by decide +kernel)⟩,
    ⟨{ wRegs [(⟨.KEY_ATTR, 0⟩, 0x13000020)] with cfg := { ky := { on := true, device := 5, nodes := [(3, none)] } }, ky := { inbox := [wJoin] } }, _, 7, wJoin, by decide +kernel, rfl, rfl, by decide +kernel, rfl, by decide +kernel, by decide +kernel⟩,
    ⟨{ wRegs [(⟨.KEY_ATTR, 0⟩, 0x13000020)] with cfg := { ky := { on := true, device := 5 } }, ky := { inbox := [wJoin] } }, _, _, 7, 1, wJoin, _, _, _, by decide +kernel, rfl, rfl, by decide +kernel, rfl, rfl, Or.inl (by decide +kernel), by decide +kernel, rfl, rfl, rfl⟩,
    ⟨{ wRun with variant := .bx9192M }, by decide +kernel⟩,
    ⟨wRun, [], by decide +kernel⟩,
    ⟨{ wCell 0x11000004 with cfg := { ky := { on := true, device := 6 } } }, wFed 3 0, by decide +kernel, wFed_ok _ _, by decide +kernel⟩,
    ⟨wCell 0x11000004, wFed 3 0, by decide +kernel, wFed_ok _ _, by decide +kernel, by decide +kernel, by decide +kernel⟩,
    ⟨wCell 0x11000004, wFed 1 0, _, by decide +kernel, wFed_ok _ _, rfl, by decide +kernel, by decide +kernel⟩,
    ⟨wCell 0x11000004, wFed 2 0, _, by decide +kernel, wFed_ok _ _, rfl, by decide +kernel, by decide +kernel⟩,
    ⟨{ wRegs [(⟨.KY_STATUS, 0⟩, 0x20000000)] with cfg := { ky := { on := true, device := 5 } }, ky := { fed := [(1, wRun.ticket wDesc)] } }, 1, wRun.ticket wDesc, by decide +kernel⟩,
    ⟨wRun, 1, by decide +kernel⟩⟩

set_option maxRecDepth 20000 in
/-- States and operands that meet the hypotheses of each clause of KyotiDescriptors. -/
theorem witness_KyotiDescriptors :
    (∃ (s : State) (d : Desc), (s.accepts 0x50 d = true) ∧ (DescF.bufLen d = 0)) ∧
    (∃ (s : State) (d : Desc), (s.accepts 0x50 d = true) ∧ (DescF.bufLen d ≠ 0) ∧ (DescF.bufLen d ≤ (s.taken d).cfg.ky.msgMax) ∧ (DescF.par d 0 2 = 0) ∧ (DescF.par d 2 2 < 4096) ∧ (DescF.par d 4 1 = 0) ∧ (DescF.parNonZero d 5 = none) ∧ (DescF.par d 2 2 ≠ 0) ∧ (((s.taken d).kyNode (DescF.par d 2 2)).st = 2) ∧ ((s.taken d).kyPending d.port < 64) ∧ ((s.taken d).kyRuns = false)) ∧
    (∃ (s : State) (d : Desc), (s.accepts 0x50 d = true) ∧ (DescF.bufLen d ≠ 0) ∧ (DescF.bufLen d ≤ (s.taken d).cfg.ky.msgMax) ∧ (DescF.par d 0 2 = 0) ∧ (DescF.par d 2 2 < 4096) ∧ (DescF.par d 4 1 = 0) ∧ (DescF.parNonZero d 5 = none) ∧ (DescF.par d 2 2 ≠ 0) ∧ (((s.taken d).kyNode (DescF.par d 2 2)).st = 2) ∧ ((s.taken d).kyPending d.port < 64) ∧ ((s.taken d).kyRuns = true)) ∧
    (∃ (s : State) (p : Port) (q : Nat) (c : Nat) (m : KyMsg), (s.ky.queue.find? (fun m => m.mtype == 0 && m.segs.isNone && m.t.any fun t => t.port == p && t.sq == q && t.cmdId == c) = some m)) ∧
    (∃ (s : State) (d : Desc), (s.accepts 0x51 d = true) ∧ (DescF.par d 4 1 = 1) ∧ (DescF.par d 0 2 = 0) ∧ (DescF.parNonZero d 5 = none) ∧ (DescF.par d 2 2 < 4096) ∧ (32 ≤ DescF.bufLen d) ∧ (((s.taken d).kyNode (DescF.par d 2 2)).st = 0)) ∧
    (∃ (s : State) (d : Desc), (s.accepts 0x51 d = true) ∧ (DescF.par d 4 1 = 1) ∧ (DescF.par d 0 2 = 0) ∧ (DescF.parNonZero d 5 = none) ∧ (DescF.par d 2 2 < 4096) ∧ (32 ≤ DescF.bufLen d) ∧ (((s.taken d).kyNode (DescF.par d 2 2)).st = 2)) ∧
    (∃ (s : State) (d : Desc), (s.accepts 0x51 d = true) ∧ (DescF.par d 4 1 = 2) ∧ (DescF.par d 0 2 = 0) ∧ (DescF.parNonZero d 5 = none) ∧ (16 + (s.taken d).cfg.ky.msgMax ≤ DescF.bufLen d) ∧ ((s.taken d).ky.inq = []) ∧ (s.cfg.ky.msgMax = (s.taken d).cfg.ky.msgMax)) ∧
    (∃ (s : State) (d : Desc) (x : Nat × Nat × Nat × List Byte) (r : List (Nat × Nat × Nat × List Byte)), (s.accepts 0x51 d = true) ∧ (DescF.par d 4 1 = 2) ∧ (DescF.par d 0 2 = 0) ∧ (DescF.parNonZero d 5 = none) ∧ (16 + (s.taken d).cfg.ky.msgMax ≤ DescF.bufLen d) ∧ ((s.taken d).ky.inq = x :: r) ∧ (d.port = (s.taken d).cfg.ky.host) ∧ (s.cfg.ky.msgMax = (s.taken d).cfg.ky.msgMax)) ∧
    (∃ (s : State) (d : Desc), (s.accepts 0x51 d = true) ∧ (DescF.par d 4 1 = 4) ∧ (DescF.par d 0 2 = 0) ∧ (DescF.par d 5 3 = 0) ∧ (DescF.parNonZero d 12 = none) ∧ (DescF.bufLen d = 0) ∧ (86400 < DescF.par d 8 4)) ∧
    (∃ (s : State) (d : Desc), (s.accepts 0x51 d = true) ∧ (DescF.par d 4 1 = 4) ∧ (DescF.par d 0 2 = 0) ∧ (DescF.par d 5 3 = 0) ∧ (DescF.parNonZero d 12 = none) ∧ (DescF.bufLen d = 0) ∧ (DescF.par d 8 4 ≤ 86400)) ∧
    (∃ (s : State) (d : Desc), (s.accepts 0x51 d = true) ∧ (DescF.par d 4 1 = 5) ∧ (DescF.par d 0 2 = 0) ∧ (DescF.parNonZero d 5 = none) ∧ (DescF.par d 2 2 < 4096) ∧ (DescF.bufLen d = 0) ∧ (((s.taken d).kyNode (DescF.par d 2 2)).st = 2)) ∧
    (∃ (s : State) (d : Desc) (x : KyNode) (b : List Byte) (u : State) (v : State) (w : State) (n : Nat), (s.accepts 0x51 d = true) ∧ (DescF.par d 4 1 = 3) ∧ (DescF.par d 0 2 = 0) ∧ (DescF.parNonZero d 5 = none) ∧ (n = DescF.par d 2 2) ∧ (n < 4096) ∧ (DescF.bufLen d = 0) ∧ (x = (s.taken d).kyNode n) ∧ (x.st = 2 ∨ x.st = 3) ∧ (b = if (s.taken d).cellKey (s.taken d).cfg.ky.keySlot then kySecure ((s.taken d).kyKey (some x.uid)) (s.taken d).cfg.ky.device 0 n (x.fcOut + 1) 6 [] else [6]) ∧ (u = if (s.taken d).cellKey (s.taken d).cfg.ky.keySlot then (s.taken d).useNodeKey (s.taken d).cfg.ky.keySlot (some x.uid) else s.taken d) ∧ (v = match u.kyFixed x.uid with | some a => u.setKy { u.ky with unfixed := a :: u.ky.unfixed } | none => u) ∧ (w = v.kyFree n)) ∧
    (∃ (s : State) (d : Desc) (n : Nat), (s.accepts 0x51 d = true) ∧ (n = DescF.par d 2 2) ∧ (n < 4096) ∧ (DescF.par d 4 1 = 1 ∨ DescF.par d 4 1 = 3 ∨ DescF.par d 4 1 = 5) ∧ (DescF.par d 0 2 = 0) ∧ (DescF.parNonZero d 5 = none) ∧ (if DescF.par d 4 1 = 1 then 32 ≤ DescF.bufLen d else DescF.bufLen d = 0) ∧ (((s.taken d).kyNode n).st ≠ 2) ∧ (((s.taken d).kyNode n).st ≠ 3)) ∧
    (∃ (s : State) (d : Desc), (s.accepts 0x51 d = true) ∧ (DescF.par d 4 1 = 2) ∧ (DescF.par d 0 2 = 0) ∧ (DescF.parNonZero d 5 = none) ∧ (16 + s.cfg.ky.msgMax ≤ DescF.bufLen d) ∧ (d.port ≠ (s.taken d).cfg.ky.host)) ∧
    (∃ (s : State) (d : Desc), (s.accepts 0x50 d = true) ∧ (DescF.bufLen d ≠ 0) ∧ (DescF.bufLen d ≤ (s.taken d).cfg.ky.msgMax) ∧ (DescF.par d 0 2 = 0) ∧ (DescF.par d 2 2 < 4096) ∧ (DescF.par d 4 1 = 0) ∧ (DescF.parNonZero d 5 = none) ∧ (DescF.par d 2 2 ≠ 0) ∧ (((s.taken d).kyNode (DescF.par d 2 2)).st ≠ 2) ∧ (((s.taken d).kyNode (DescF.par d 2 2)).st ≠ 3)) ∧
    (∃ (s : State) (d : Desc), (s.accepts 0x50 d = true) ∧ (DescF.bufLen d ≠ 0) ∧ (DescF.bufLen d ≤ (s.taken d).cfg.ky.msgMax) ∧ (DescF.par d 0 2 = 0) ∧ (DescF.par d 2 2 < 4096) ∧ (DescF.par d 4 1 = 0) ∧ (DescF.parNonZero d 5 = none) ∧ (DescF.par d 2 2 ≠ 0) ∧ (((s.taken d).kyNode (DescF.par d 2 2)).st = 3)) ∧
    (∃ (s : State) (d : Desc), (s.accepts 0x50 d = true) ∧ (DescF.bufLen d ≠ 0) ∧ (DescF.bufLen d ≤ (s.taken d).cfg.ky.msgMax) ∧ (DescF.par d 0 2 = 0) ∧ (DescF.par d 2 2 < 4096) ∧ (DescF.par d 4 1 = 0) ∧ (DescF.parNonZero d 5 = none) ∧ (DescF.par d 2 2 ≠ 0) ∧ (((s.taken d).kyNode (DescF.par d 2 2)).st = 2) ∧ (64 ≤ (s.taken d).kyPending d.port)) ∧
    (∃ (s : State) (d : Desc), (s.accepts 0x50 d = true) ∧ (DescF.bufLen d ≠ 0) ∧ (DescF.bufLen d ≤ (s.taken d).cfg.ky.msgMax) ∧ (DescF.par d 0 2 = 0) ∧ (DescF.par d 2 2 < 4096) ∧ (DescF.par d 4 1 = 2) ∧ (DescF.parNonZero d 5 = none) ∧ (DescF.par d 2 2 ≠ 0) ∧ (((s.taken d).kyNode (DescF.par d 2 2)).st = 2) ∧ ((s.taken d).kyPending d.port < 64) ∧ ((s.taken d).cfg.ky.secure = true)) ∧
    (∃ (s : State) (d : Desc), (s.accepts 0x50 d = true) ∧ (DescF.bufLen d ≠ 0) ∧ (DescF.bufLen d ≤ (s.taken d).cfg.ky.msgMax) ∧ (DescF.par d 0 2 = 77) ∧ (DescF.par d 2 2 < 4096) ∧ (DescF.par d 4 1 = 0) ∧ (DescF.parNonZero d 5 = none) ∧ (DescF.par d 2 2 ≠ 0) ∧ ((s.taken d).cfg.ky.device ≠ 77) ∧ ((s.taken d).kyPending d.port < 64) ∧ (tabFind (s.taken d).cfg.ky.fed 77 = none)) ∧
    (∃ (s : State) (d : Desc) (dev : Nat) (u : State), (s.accepts 0x50 d = true) ∧ (DescF.bufLen d ≠ 0) ∧ (DescF.bufLen d ≤ (s.taken d).cfg.ky.msgMax) ∧ (DescF.par d 0 2 = dev) ∧ (dev ≠ 0) ∧ (dev < 16384) ∧ (DescF.par d 2 2 < 4096) ∧ (DescF.par d 4 1 = 0) ∧ (DescF.parNonZero d 5 = none) ∧ (DescF.par d 2 2 ≠ 0) ∧ ((s.taken d).cfg.ky.device ≠ dev) ∧ ((s.taken d).kyPending d.port < 64) ∧ ((tabFind (s.taken d).cfg.ky.fed dev).isNone = false) ∧ (u = (s.taken d).setKy { (s.taken d).ky with fed := (s.taken d).ky.fed ++ [((s.taken d).ky.tag, (s.taken d).ticket d)], tag := (s.taken d).ky.tag + 1 })) ∧
    (∃ (s : State) (p : Port) (q : Nat) (c : Nat), (s.ky.queue.find? (fun m => m.mtype == 0 && m.segs.isNone && m.t.any fun t => t.port == p && t.sq == q && t.cmdId == c) = none)) :=
  ⟨⟨{ wRegs [(⟨.KY_STATUS, 0⟩, 0x20000000)] with cfg := { ky := { on := true, device := 5 } }, ky := {  } }, wDescT 0 0 [0, 0, 7], by decide +kernel⟩,
    ⟨{ wRun with cfg := { ky := { on := true, device := 5, layout := [0, 1, 2, 2, 2, 2, 2, 2, 2, 2, 2, 2, 2, 2, 2, 2] } }, ky := { nodes := [(7, { st := 2 })] } }, wDescT 0 1 [0, 0, 7], by decide +kernel⟩,
    ⟨{ wRegs [(⟨.KY_STATUS, 0⟩, 0x20000000)] with cfg := { ky := { on := true, device := 5, layout := [0, 1, 2, 2, 2, 2, 2, 2, 2, 2, 2, 2, 2, 2, 2, 2] } }, ky := { nodes := [(7, { st := 2 })] } }, wDescT 0 1 [0, 0, 7], by decide +kernel⟩,
    ⟨{ wRegs [(⟨.KY_STATUS, 0⟩, 0x20000000)] with cfg := { ky := { on := true, device := 5 } }, ky := { queue := [{ dst := 7, mtype := 0, bytes := [], secured := true, t := some (wRun.ticket wDesc) }] } }, .h0, 1, 7, { dst := 7, mtype := 0, bytes := [], secured := true, t := some (wRun.ticket wDesc) }, by decide +kernel⟩,
    ⟨{ wRegs [(⟨.KY_STATUS, 0⟩, 0x20000000)] with cfg := { ky := { on := true, device := 5 } }, ky := {  } }, wDescT 0 32 [0, 0, 7, 0, 1], by decide +kernel⟩,
    ⟨{ wRegs [(⟨.KY_STATUS, 0⟩, 0x20000000)] with cfg := { ky := { on := true, device := 5 } }, ky := { nodes := [(7, { st := 2, uid := 9 })] } }, wDescT 0 32 [0, 0, 7, 0, 1], by decide +kernel⟩,
    ⟨{ wRegs [(⟨.KY_STATUS, 0⟩, 0x20000000)] with cfg := { ky := { on := true, device := 5 } }, ky := {  } }, wDescT 0 2048 [0, 0, 0, 0, 2], by decide +kernel⟩,
    ⟨{ wRegs [(⟨.KY_STATUS, 0⟩, 0x20000000)] with cfg := { ky := { on := true, device := 5 } }, ky := { inq := [(5, 7, 0, [1])] } }, wDescT 0 2048 [0, 0, 0, 0, 2], (5, 7, 0, [1]), [], by decide +kernel⟩,
    ⟨{ wRegs [(⟨.KY_STATUS, 0⟩, 0x20000000)] with cfg := { ky := { on := true, device := 5 } }, ky := {  } }, wDescT 0 0 [0, 0, 0, 0, 4, 0, 0, 0, 0, 0, 0, 1], by decide +kernel⟩,
    ⟨{ wRegs [(⟨.KY_STATUS, 0⟩, 0x20000000)] with cfg := { ky := { on := true, device := 5 } }, ky := {  } }, wDescT 0 0 [0, 0, 0, 0, 4, 0, 0, 0, 10], by decide +kernel⟩,
    ⟨{ wRegs [(⟨.KY_STATUS, 0⟩, 0x20000000)] with cfg := { ky := { on := true, device := 5 } }, ky := { nodes := [(7, { st := 2, uid := 9 })] } }, wDescT 0 0 [0, 0, 7, 0, 5], by decide +kernel⟩,
    ⟨{ wRegs [(⟨.KY_STATUS, 0⟩, 0x20000000)] with cfg := { ky := { on := true, device := 5 } }, ky := { nodes := [(7, { st := 2, uid := 9 })] } }, wDescT 0 0 [0, 0, 7, 0, 3], _, _, _, _, _, 7, by decide +kernel, by decide +kernel, by decide +kernel, by decide +kernel, by decide +kernel, by decide +kernel, by decide +kernel, rfl, by decide +kernel, rfl, rfl, rfl, rfl⟩,
    ⟨{ wRegs [(⟨.KY_STATUS, 0⟩, 0x20000000)] with cfg := { ky := { on := true, device := 5 } }, ky := {  } }, wDescT 0 0 [0, 0, 7, 0, 3], 7, by decide +kernel⟩,
    ⟨{ wRun with cfg := { ky := { on := true, device := 5, host := .h1 } } }, wDescT 0 2048 [0, 0, 0, 0, 2], by decide +kernel⟩,
    ⟨{ wRegs [(⟨.KY_STATUS, 0⟩, 0x20000000)] with cfg := { ky := { on := true, device := 5, layout := [0, 1, 2, 2, 2, 2, 2, 2, 2, 2, 2, 2, 2, 2, 2, 2] } }, ky := {  } }, wDescT 0 1 [0, 0, 7, 0, 0], by decide +kernel⟩,
    ⟨{ wRegs [(⟨.KY_STATUS, 0⟩, 0x20000000)] with cfg := { ky := { on := true, device := 5, layout := [0, 1, 2, 2, 2, 2, 2, 2, 2, 2, 2, 2, 2, 2, 2, 2] } }, ky := { nodes := [(7, { st := 3 })] } }, wDescT 0 1 [0, 0, 7, 0, 0], by decide +kernel⟩,
    ⟨{ wRegs [(⟨.KY_STATUS, 0⟩, 0x20000000)] with cfg := { ky := { on := true, device := 5, layout := [0, 1, 2, 2, 2, 2, 2, 2, 2, 2, 2, 2, 2, 2, 2, 2] } }, ky := { nodes := [(7, { st := 2 })], fed := List.replicate 64 (1, wRun.ticket wDesc) } }, wDescT 0 1 [0, 0, 7, 0, 0], by decide +kernel⟩,
    ⟨{ wRegs [(⟨.KY_STATUS, 0⟩, 0x20000000)] with cfg := { ky := { on := true, device := 5, layout := [0, 1, 2, 2, 2, 2, 2, 2, 2, 2, 2, 2, 2, 2, 2, 2] } }, ky := { nodes := [(7, { st := 2 })] } }, wDescT 0 1 [0, 0, 7, 0, 2], by decide +kernel⟩,
    ⟨{ wRegs [(⟨.KY_STATUS, 0⟩, 0x20000000)] with cfg := { ky := { on := true, device := 5, layout := [0, 1, 2, 2, 2, 2, 2, 2, 2, 2, 2, 2, 2, 2, 2, 2] } }, ky := {  } }, wDescT 0 1 [77, 0, 7, 0, 0], by decide +kernel⟩,
    ⟨{ wRegs [(⟨.KY_STATUS, 0⟩, 0x20000000)] with cfg := { ky := { on := true, device := 5, layout := [0, 1, 2, 2, 2, 2, 2, 2, 2, 2, 2, 2, 2, 2, 2, 2], fed := [(77, 5)] } }, ky := {  } }, wDescT 0 1 [77, 0, 7, 0, 0], 77, _, by decide +kernel, by decide +kernel, by decide +kernel, by decide +kernel, by decide +kernel, by decide +kernel, by decide +kernel, by decide +kernel, by decide +kernel, by decide +kernel, by decide +kernel, by decide +kernel, by decide +kernel, rfl⟩,
    ⟨wRun, .h0, 1, 7, by decide +kernel⟩⟩

set_option maxRecDepth 20000 in
/-- States and operands that meet the hypotheses of each clause of ReaderExchange. -/
theorem witness_ReaderExchange :
    (∃ (s : State) (p : Nat), ((!s.pinged p || (s.ant p).capt) = true)) ∧
    (∃ (s : State) (p : Nat) (a : Nat) (ph : Int), (s.pinged p = true) ∧ ((s.ant p).capt = false) ∧ (s.detects p a ph = true)) ∧
    (∃ (s : State) (u : State) (p : Nat) (a : Nat) (ph : Int), (s.pinged p = true) ∧ ((s.ant p).capt = false) ∧ (s.detects p a ph = false) ∧ (u = s.setAnt p { s.ant p with conf := false }) ∧ (u.flag Fld.ANT_STATUS__HELD p = false)) ∧
    (∃ (s : State) (u : State) (p : Nat) (a : Nat) (ph : Int), (s.pinged p = true) ∧ ((s.ant p).capt = false) ∧ (s.detects p a ph = false) ∧ (u = s.setAnt p { s.ant p with conf := false }) ∧ (u.flag Fld.ANT_STATUS__HELD p = true)) ∧
    (∃ (s : State) (p : Nat), (s.flag Fld.ANT_STATUS__DETECT p = false)) ∧
    (∃ (s : State) (p : Nat), ((!(s.ant p).conf || !(s.setReader { s.reader with pres := [] }).pinged p) = true)) ∧
    (∃ (s : State) (u : State) (v : State) (p : Nat) (a : Nat) (ph : Int), ((s.ant p).conf = true) ∧ ((s.setReader { s.reader with pres := [] }).pinged p = true) ∧ (u = s.setAnt p { s.ant p with conf := false }) ∧ (u.detects p a ph = true) ∧ (v = ((u.bump Fld.ANT_COUNT__DETECTIONS p 1).put Fld.ANT_STATUS__DETECT p 1).wakeSource 10)) ∧
    (∃ (s : State) (u : State) (p : Nat) (a : Nat) (ph : Int), ((s.ant p).conf = true) ∧ ((s.setReader { s.reader with pres := [] }).pinged p = true) ∧ (u = s.setAnt p { s.ant p with conf := false }) ∧ (u.detects p a ph = false)) ∧
    (∃ (s : State) (u : State) (p : Nat) (l : List (Nat × Int)), ((s.ant p).capt = true) ∧ (s.pinged p = true) ∧ (u = (s.setAnt p { s.ant p with capt := false }).setBase p ((l.map fun x => (x.1 : Int)).foldl (· + ·) 0 * 4096) ((l.map (·.2)).foldl (· + ·) 0 * 4096))) ∧
    (∃ (s : State) (p : Nat), ((!(s.ant p).capt || !s.pinged p) = true)) ∧
    (∃ (s : State) (n : Nat), (s.presAt n = none)) ∧
    (∃ (s : State) (n : Nat) (x : Pres), (s.presAt n = some x)) ∧
    (∃ (s : State) (n : Nat), (s.presAt n = none)) ∧
    (∃ (s : State) (n : Nat) (x : Pres) (u : State), (s.presAt n = some x) ∧ (x.phase = 1) ∧ (u = (s.put Fld.RD_STATUS__CARD n 1).setAnt x.pos { s.ant x.pos with wakes := 0 })) ∧
    (∃ (s : State) (n : Nat) (x : Pres), (s.presAt n = some x) ∧ (x.phase = 7)) ∧
    (∃ (s : State) (n : Nat) (x : Pres), (s.presAt n = some x) ∧ (x.phase ≠ 1) ∧ (x.phase ≠ 7)) ∧
    (∃ (s : State) (n : Nat) (x : Pres) (k : Nat) (m : Nat) (b : List Byte), (s.presAt n = some x) ∧ (x.phase = 2) ∧ (m = leNat b % 2 ^ k + 2 ^ k)) ∧
    (∃ (s : State) (n : Nat) (x : Pres), (s.presAt n = some x) ∧ (x.phase ≠ 2)) ∧
    (∃ (s : State) (n : Nat) (x : Pres) (b : List Byte), (s.presAt n = some x) ∧ (x.phase = 2) ∧ (bccOk b = true)) ∧
    (∃ (s : State) (n : Nat) (x : Pres) (b : List Byte), (s.presAt n = some x) ∧ ((decide (x.phase = 2) && bccOk b) = false)) ∧
    (∃ (s : State) (n : Nat) (x : Pres), (s.presAt n = some x) ∧ (x.phase = 3)) ∧
    (∃ (s : State) (n : Nat) (x : Pres), (s.presAt n = some x) ∧ (x.phase ≠ 3)) ∧
    (∃ (s : State) (n : Nat) (x : Pres) (b : List Byte) (y : Pres), (s.presAt n = some x) ∧ (x.phase = 4) ∧ (y = { x with l4 := true, rate := min (atsRate b) (s.get Fld.RD_CFG__MAX_RATE n), fsc := atsFsc b, fwt := atsFwt b })) ∧
    (∃ (s : State) (n : Nat) (x : Pres), (s.presAt n = some x) ∧ (x.phase ≠ 4)) ∧
    (∃ (s : State) (n : Nat) (x : Pres), (s.presAt n = some x) ∧ (x.phase = 5)) ∧
    (∃ (s : State) (n : Nat) (x : Pres), (s.presAt n = some x) ∧ (x.phase ≠ 5)) ∧
    (∃ (s : State) (n : Nat) (x : Pres) (m : Nat), (s.presAt n = some x) ∧ (x.phase = 6) ∧ (x.l4 = true) ∧ (x.wtx + m * x.fwt ≤ 5000000)) ∧
    (∃ (s : State) (n : Nat) (x : Pres) (m : Nat), (s.presAt n = some x) ∧ ((decide (x.phase = 6) && x.l4 && decide (x.wtx + m * x.fwt ≤ 5000000)) = false)) ∧
    (∃ (s : State) (n : Nat) (x : Pres), (s.presAt n = some x) ∧ (x.phase = 6) ∧ (x.l4 = true)) ∧
    (∃ (s : State) (n : Nat) (x : Pres), (s.presAt n = some x) ∧ ((decide (x.phase = 6) && x.l4) = false)) ∧
    (∃ (s : State) (n : Nat) (x : Pres), (s.presAt n = some x) ∧ (x.phase = 6)) ∧
    (∃ (s : State) (n : Nat) (x : Pres), (s.presAt n = some x) ∧ (x.phase ≠ 6)) ∧
    (∃ (s : State) (n : Nat), (s.presAt n = none)) ∧
    (∃ (s : State) (n : Nat) (x : Pres), (s.presAt n = some x) ∧ ((decide (x.phase = 0) || decide (x.phase = 8)) = true)) ∧
    (∃ (s : State) (n : Nat) (x : Pres), (s.presAt n = some x) ∧ (x.phase = 1) ∧ (x.tries < 3)) ∧
    (∃ (s : State) (u : State) (n : Nat) (w : Nat) (x : Pres), (s.presAt n = some x) ∧ (x.phase = 1) ∧ (3 ≤ x.tries) ∧ (w = (s.ant x.pos).wakes + 1) ∧ (u = ((s.presEnd n).bump Fld.ANT_COUNT__FALSE_WAKES x.pos 1).put Fld.ANT_STATUS__DETECT x.pos 0)) ∧
    (∃ (s : State) (n : Nat) (x : Pres), (s.presAt n = some x) ∧ (x.phase = 7)) ∧
    (∃ (s : State) (n : Nat) (e : Bool) (x : Pres), (s.presAt n = some x) ∧ (2 ≤ x.phase) ∧ (x.phase ≤ 7) ∧ (x.phase = 7 → e = true) ∧ (x.retried = false)) ∧
    (∃ (s : State) (n : Nat) (x : Pres), (s.presAt n = some x) ∧ (x.phase = 6) ∧ (x.retried = true) ∧ (x.l4 = false)) ∧
    (∃ (s : State) (n : Nat) (e : Bool) (x : Pres), (s.presAt n = some x) ∧ (2 ≤ x.phase) ∧ (x.phase ≤ 7) ∧ (x.phase = 7 → e = true) ∧ (x.phase = 6 → (e = true ∨ x.l4 = true)) ∧ (x.retried = true)) ∧
    (∃ (s : State) (u : State) (v : State) (p : Nat) (x : Pres) (i : Nat) (c : Issuer), ((s.ant p).pend = some x) ∧ (x.issuer = some i) ∧ (x.issuers[i]? = some c) ∧ (u = s.useKey 3 c.slot) ∧ (v = u.setAnt p { u.ant p with pend := none })) ∧
    (∃ (s : State) (u : State) (p : Nat) (x : Pres) (i : Nat) (c : Issuer), ((s.ant p).pend = none) ∧ (s.presAt (p / 8) = some x) ∧ (x.pos = p) ∧ (x.verdict = none) ∧ (x.issuer = some i) ∧ (x.issuers[i]? = some c) ∧ (u = s.useKey 3 c.slot)) ∧
    (∃ (s : State) (p : Nat), ((s.ant p).pend = none) ∧ (s.presAt (p / 8) = none)) ∧
    (∃ (s : State) (n : Nat) (x : Pres), (s.presAt n = some x)) ∧
    (∃ (s : State) (n : Nat), (s.presAt n = none)) ∧
    (∃ (x : Pres), (x.multi = true)) ∧
    (∃ (x : Pres), (x.verdict ≠ some true) ∧ (x.policy = 0)) ∧
    (∃ (s : State) (u : State) (x : Pres) (r : List Byte), (x.verdict = some true) ∧ (r = credRecord x true) ∧ (u = (s.setAnt x.pos { s.ant x.pos with last := r, clear := 0 }).put Fld.ANT_STATUS__HELD x.pos 1) ∧ ((upTo 64).find? (fun i => (u.scfg i).kind != 0 && (u.scfg i).antenna == some x.pos) = none)) ∧
    (∃ (s : State) (u : State) (x : Pres) (i : Nat), (x.verdict = some true) ∧ (u = (s.setAnt x.pos { s.ant x.pos with last := credRecord x true, clear := 0 }).put Fld.ANT_STATUS__HELD x.pos 1) ∧ ((upTo 64).find? (fun i => (u.scfg i).kind != 0 && (u.scfg i).antenna == some x.pos) = some i)) :=
  ⟨⟨wRun, 9, by decide +kernel⟩,
    ⟨{ wRegs [(⟨.TAG_STATUS, 0⟩, 0x20000000), (⟨.ANT_CFG, 9⟩, 0x80001414), (⟨.ANT_STATUS, 9⟩, 0)] with reader := { ants := [(9, { a := 65536000 })] } }, 9, 0, 0, by decide +kernel⟩,
    ⟨{ wRegs [(⟨.TAG_STATUS, 0⟩, 0x20000000), (⟨.ANT_CFG, 9⟩, 0x80001414), (⟨.ANT_STATUS, 9⟩, 0)] with reader := {  } }, _, 9, 0, 0, by decide +kernel, by decide +kernel, by decide +kernel, rfl, by decide +kernel⟩,
    ⟨{ wRegs [(⟨.TAG_STATUS, 0⟩, 0x20000000), (⟨.ANT_CFG, 9⟩, 0x80001414), (⟨.ANT_STATUS, 9⟩, 4)] with reader := {  } }, _, 9, 0, 0, by decide +kernel, by decide +kernel, by decide +kernel, rfl, by decide +kernel⟩,
    ⟨wRun, 9, by decide +kernel⟩,
    ⟨wRun, 9, by decide +kernel⟩,
    ⟨{ wRegs [(⟨.TAG_STATUS, 0⟩, 0x20000000), (⟨.ANT_CFG, 9⟩, 0x80001414), (⟨.ANT_STATUS, 9⟩, 0)] with reader := { ants := [(9, { a := 65536000, conf := true })] } }, _, _, 9, 0, 0, by decide +kernel, by decide +kernel, rfl, by decide +kernel, rfl⟩,
    ⟨{ wRegs [(⟨.TAG_STATUS, 0⟩, 0x20000000), (⟨.ANT_CFG, 9⟩, 0x80001414), (⟨.ANT_STATUS, 9⟩, 0)] with reader := { ants := [(9, { conf := true })] } }, _, 9, 0, 0, by decide +kernel, by decide +kernel, rfl, by decide +kernel⟩,
    ⟨{ wRegs [(⟨.TAG_STATUS, 0⟩, 0x20000000), (⟨.ANT_CFG, 9⟩, 0x80001414), (⟨.ANT_STATUS, 9⟩, 0)] with reader := { ants := [(9, { capt := true })] } }, _, 9, List.replicate 16 (1000, 0), by decide +kernel, by decide +kernel, rfl⟩,
    ⟨wRun, 9, by decide +kernel⟩,
    ⟨wRun, 1, by decide +kernel⟩,
    ⟨{ wRegs [(⟨.TAG_STATUS, 0⟩, 0x20000000), (⟨.ANT_CFG, 9⟩, 0x80001414)] with reader := { pres := [(1, { pos := 9 })] } }, 1, { pos := 9 }, by decide +kernel⟩,
    ⟨wRun, 1, by decide +kernel⟩,
    ⟨{ wRegs [(⟨.TAG_STATUS, 0⟩, 0x20000000), (⟨.ANT_CFG, 9⟩, 0x80001414)] with reader := { pres := [(1, { pos := 9, phase := 1 })] } }, 1, { pos := 9, phase := 1 }, _, by decide +kernel, by decide +kernel, rfl⟩,
    ⟨{ wRegs [(⟨.TAG_STATUS, 0⟩, 0x20000000), (⟨.ANT_CFG, 9⟩, 0x80001414)] with reader := { pres := [(1, { pos := 9, phase := 7 })] } }, 1, { pos := 9, phase := 7 }, by decide +kernel⟩,
    ⟨{ wRegs [(⟨.TAG_STATUS, 0⟩, 0x20000000), (⟨.ANT_CFG, 9⟩, 0x80001414)] with reader := { pres := [(1, { pos := 9 })] } }, 1, { pos := 9 }, by decide +kernel⟩,
    ⟨{ wRegs [(⟨.TAG_STATUS, 0⟩, 0x20000000), (⟨.ANT_CFG, 9⟩, 0x80001414)] with reader := { pres := [(1, { pos := 9, phase := 2 })] } }, 1, { pos := 9, phase := 2 }, 3, _, [5], by decide +kernel, by decide +kernel, rfl⟩,
    ⟨{ wRegs [(⟨.TAG_STATUS, 0⟩, 0x20000000), (⟨.ANT_CFG, 9⟩, 0x80001414)] with reader := { pres := [(1, { pos := 9 })] } }, 1, { pos := 9 }, by decide +kernel⟩,
    ⟨{ wRegs [(⟨.TAG_STATUS, 0⟩, 0x20000000), (⟨.ANT_CFG, 9⟩, 0x80001414)] with reader := { pres := [(1, { pos := 9, phase := 2 })] } }, 1, { pos := 9, phase := 2 }, [1, 2, 3, 4, 4], by decide +kernel⟩,
    ⟨{ wRegs [(⟨.TAG_STATUS, 0⟩, 0x20000000), (⟨.ANT_CFG, 9⟩, 0x80001414)] with reader := { pres := [(1, { pos := 9, phase := 2 })] } }, 1, { pos := 9, phase := 2 }, [], by decide +kernel⟩,
    ⟨{ wRegs [(⟨.TAG_STATUS, 0⟩, 0x20000000), (⟨.ANT_CFG, 9⟩, 0x80001414)] with reader := { pres := [(1, { pos := 9, phase := 3 })] } }, 1, { pos := 9, phase := 3 }, by decide +kernel⟩,
    ⟨{ wRegs [(⟨.TAG_STATUS, 0⟩, 0x20000000), (⟨.ANT_CFG, 9⟩, 0x80001414)] with reader := { pres := [(1, { pos := 9 })] } }, 1, { pos := 9 }, by decide +kernel⟩,
    ⟨{ wRegs [(⟨.TAG_STATUS, 0⟩, 0x20000000), (⟨.ANT_CFG, 9⟩, 0x80001414)] with reader := { pres := [(1, { pos := 9, phase := 4 })] } }, 1, { pos := 9, phase := 4 }, [1], _, by decide +kernel, by decide +kernel, rfl⟩,
    ⟨{ wRegs [(⟨.TAG_STATUS, 0⟩, 0x20000000), (⟨.ANT_CFG, 9⟩, 0x80001414)] with reader := { pres := [(1, { pos := 9 })] } }, 1, { pos := 9 }, by decide +kernel⟩,
    ⟨{ wRegs [(⟨.TAG_STATUS, 0⟩, 0x20000000), (⟨.ANT_CFG, 9⟩, 0x80001414)] with reader := { pres := [(1, { pos := 9, phase := 5 })] } }, 1, { pos := 9, phase := 5 }, by decide +kernel⟩,
    ⟨{ wRegs [(⟨.TAG_STATUS, 0⟩, 0x20000000), (⟨.ANT_CFG, 9⟩, 0x80001414)] with reader := { pres := [(1, { pos := 9 })] } }, 1, { pos := 9 }, by decide +kernel⟩,
    ⟨{ wRegs [(⟨.TAG_STATUS, 0⟩, 0x20000000), (⟨.ANT_CFG, 9⟩, 0x80001414)] with reader := { pres := [(1, { pos := 9, phase := 6, l4 := true })] } }, 1, { pos := 9, phase := 6, l4 := true }, 2, by decide +kernel⟩,
    ⟨{ wRegs [(⟨.TAG_STATUS, 0⟩, 0x20000000), (⟨.ANT_CFG, 9⟩, 0x80001414)] with reader := { pres := [(1, { pos := 9 })] } }, 1, { pos := 9 }, 2, by decide +kernel⟩,
    ⟨{ wRegs [(⟨.TAG_STATUS, 0⟩, 0x20000000), (⟨.ANT_CFG, 9⟩, 0x80001414)] with reader := { pres := [(1, { pos := 9, phase := 6, l4 := true })] } }, 1, { pos := 9, phase := 6, l4 := true }, by decide +kernel⟩,
    ⟨{ wRegs [(⟨.TAG_STATUS, 0⟩, 0x20000000), (⟨.ANT_CFG, 9⟩, 0x80001414)] with reader := { pres := [(1, { pos := 9 })] } }, 1, { pos := 9 }, by decide +kernel⟩,
    ⟨{ wRegs [(⟨.TAG_STATUS, 0⟩, 0x20000000), (⟨.ANT_CFG, 9⟩, 0x80001414)] with reader := { pres := [(1, { pos := 9, phase := 6 })] } }, 1, { pos := 9, phase := 6 }, by decide +kernel⟩,
    ⟨{ wRegs [(⟨.TAG_STATUS, 0⟩, 0x20000000), (⟨.ANT_CFG, 9⟩, 0x80001414)] with reader := { pres := [(1, { pos := 9 })] } }, 1, { pos := 9 }, by decide +kernel⟩,
    ⟨wRun, 1, by decide +kernel⟩,
    ⟨{ wRegs [(⟨.TAG_STATUS, 0⟩, 0x20000000), (⟨.ANT_CFG, 9⟩, 0x80001414)] with reader := { pres := [(1, { pos := 9 })] } }, 1, { pos := 9 }, by decide +kernel⟩,
    ⟨{ wRegs [(⟨.TAG_STATUS, 0⟩, 0x20000000), (⟨.ANT_CFG, 9⟩, 0x80001414)] with reader := { pres := [(1, { pos := 9, phase := 1, tries := 1 })] } }, 1, { pos := 9, phase := 1, tries := 1 }, by decide +kernel⟩,
    ⟨{ wRegs [(⟨.TAG_STATUS, 0⟩, 0x20000000), (⟨.ANT_CFG, 9⟩, 0x80001414)] with reader := { pres := [(1, { pos := 9, phase := 1, tries := 3 })] } }, _, 1, _, { pos := 9, phase := 1, tries := 3 }, by decide +kernel, by decide +kernel, by decide +kernel, rfl, rfl⟩,
    ⟨{ wRegs [(⟨.TAG_STATUS, 0⟩, 0x20000000), (⟨.ANT_CFG, 9⟩, 0x80001414)] with reader := { pres := [(1, { pos := 9, phase := 7 })] } }, 1, { pos := 9, phase := 7 }, by decide +kernel⟩,
    ⟨{ wRegs [(⟨.TAG_STATUS, 0⟩, 0x20000000), (⟨.ANT_CFG, 9⟩, 0x80001414)] with reader := { pres := [(1, { pos := 9, phase := 2 })] } }, 1, false, { pos := 9, phase := 2 }, by decide +kernel⟩,
    ⟨{ wRegs [(⟨.TAG_STATUS, 0⟩, 0x20000000), (⟨.ANT_CFG, 9⟩, 0x80001414)] with reader := { pres := [(1, { pos := 9, phase := 6, retried := true })] } }, 1, { pos := 9, phase := 6, retried := true }, by decide +kernel⟩,
    ⟨{ wRegs [(⟨.TAG_STATUS, 0⟩, 0x20000000), (⟨.ANT_CFG, 9⟩, 0x80001414)] with reader := { pres := [(1, { pos := 9, phase := 2, retried := true })] } }, 1, false, { pos := 9, phase := 2, retried := true }, by decide +kernel⟩,
    ⟨{ wRegs [(⟨.TAG_STATUS, 0⟩, 0x20000000), (⟨.ANT_CFG, 9⟩, 0x80001414), (⟨.ANT_STATUS, 9⟩, 0)] with reader := { ants := [(9, { pend := some { pos := 9, issuer := some 0, issuers := [{ slot := 0 }] } })] } }, _, _, 9, { pos := 9, issuer := some 0, issuers := [{ slot := 0 }] }, 0, { slot := 0 }, by decide +kernel, by decide +kernel, by decide +kernel, rfl, rfl⟩,
    ⟨{ wRegs [(⟨.TAG_STATUS, 0⟩, 0x20000000), (⟨.ANT_CFG, 9⟩, 0x80001414)] with reader := { pres := [(1, { pos := 9, issuer := some 0, issuers := [{ slot := 0 }] })] } }, _, 9, { pos := 9, issuer := some 0, issuers := [{ slot := 0 }] }, 0, { slot := 0 }, by decide +kernel, by decide +kernel, by decide +kernel, by decide +kernel, by decide +kernel, by decide +kernel, rfl⟩,
    ⟨wRun, 9, by decide +kernel⟩,
    ⟨{ wRegs [(⟨.TAG_STATUS, 0⟩, 0x20000000), (⟨.ANT_CFG, 9⟩, 0x80001414)] with reader := { pres := [(1, { pos := 9 })] } }, 1, { pos := 9 }, by decide +kernel⟩,
    ⟨wRun, 1, by decide +kernel⟩,
    ⟨{ pos := 9, multi := true }, by decide +kernel⟩,
    ⟨{ pos := 9 }, by decide +kernel⟩,
    ⟨wRun, _, { pos := 9, verdict := some true }, _, by decide +kernel, rfl, rfl, by decide +kernel⟩,
    ⟨{ wRun with cfg := { slices := [(3, { kind := 1, antenna := some 9 })] } }, _, { pos := 9, verdict := some true }, 3, by decide +kernel, rfl, by decide +kernel⟩⟩

set_option maxRecDepth 20000 in
/-- States and operands that meet the hypotheses of each clause of ReaderDescriptors. -/
theorem witness_ReaderDescriptors :
    (∃ (s : State) (d : Desc), (s.accepts 0x58 d = true) ∧ (DescF.par d 0 1 = 1) ∧ ((DescF.parNonZero d 1).isSome = true)) ∧
    (∃ (s : State) (d : Desc), (s.accepts 0x58 d = true) ∧ (DescF.par d 0 1 = 1) ∧ ((DescF.parNonZero d 1).isSome = false) ∧ (DescF.bufLen d < 64)) ∧
    (∃ (s : State) (d : Desc), (s.accepts 0x58 d = true) ∧ (DescF.par d 0 1 = 1) ∧ ((DescF.parNonZero d 1).isSome = false) ∧ (64 ≤ DescF.bufLen d) ∧ (((s.taken d).ant d.target.toNat).last.isEmpty = true)) ∧
    (∃ (s : State) (d : Desc), (s.accepts 0x58 d = true) ∧ (DescF.par d 0 1 = 1) ∧ ((DescF.parNonZero d 1).isSome = false) ∧ (64 ≤ DescF.bufLen d) ∧ (((s.taken d).ant d.target.toNat).last.isEmpty = false)) ∧
    (∃ (s : State) (d : Desc), (s.accepts 0x58 d = true) ∧ (DescF.par d 0 1 = 2) ∧ ((DescF.parNonZero d 40).isSome = false) ∧ (258 ≤ DescF.bufLen d) ∧ ((decide (DescF.par d 1 1 < 4) || decide (32 < DescF.par d 1 1) || !zeroOutside d.param [(0, 1), (8, 39)]) = true)) ∧
    (∃ (s : State) (d : Desc), (s.accepts 0x58 d = true) ∧ (DescF.par d 0 1 = 2) ∧ ((DescF.parNonZero d 40).isSome = false) ∧ (258 ≤ DescF.bufLen d) ∧ ((decide (DescF.par d 1 1 < 4) || decide (32 < DescF.par d 1 1) || !zeroOutside d.param [(0, 1), (8, 39)]) = false) ∧ ((s.taken d).presAt (d.target.toNat / 8) = none)) ∧
    (∃ (s : State) (d : Desc) (x : Pres), (s.accepts 0x58 d = true) ∧ (DescF.par d 0 1 = 2) ∧ ((DescF.parNonZero d 40).isSome = false) ∧ (258 ≤ DescF.bufLen d) ∧ ((decide (DescF.par d 1 1 < 4) || decide (32 < DescF.par d 1 1) || !zeroOutside d.param [(0, 1), (8, 39)]) = false) ∧ ((s.taken d).presAt (d.target.toNat / 8) = some x) ∧ ((decide (x.pos ≠ d.target.toNat) || decide (x.phase ≠ 8) || !(s.taken d).flag Fld.ANT_STATUS__HELD d.target.toNat) = true)) ∧
    (∃ (s : State) (d : Desc) (x : Pres) (u : State), (s.accepts 0x58 d = true) ∧ (DescF.par d 0 1 = 2) ∧ ((DescF.parNonZero d 40).isSome = false) ∧ (258 ≤ DescF.bufLen d) ∧ ((decide (DescF.par d 1 1 < 4) || decide (32 < DescF.par d 1 1) || !zeroOutside d.param [(0, 1), (8, 39)]) = false) ∧ ((s.taken d).presAt (d.target.toNat / 8) = some x) ∧ (x.pos = d.target.toNat) ∧ (x.phase = 8) ∧ ((s.taken d).flag Fld.ANT_STATUS__HELD d.target.toNat = true) ∧ (u = (s.taken d).presApdu (d.target.toNat / 8) x ((d.param.drop 8).take (DescF.par d 1 1)))) ∧
    (∃ (s : State) (d : Desc) (x : Pres) (u : State), (s.accepts 0x58 d = true) ∧ (DescF.par d 0 1 = 2) ∧ ((DescF.parNonZero d 40).isSome = false) ∧ (258 ≤ DescF.bufLen d) ∧ ((decide (DescF.par d 1 1 < 4) || decide (32 < DescF.par d 1 1) || !zeroOutside d.param [(0, 1), (8, 39)]) = false) ∧ ((s.taken d).presAt (d.target.toNat / 8) = some x) ∧ (x.pos = d.target.toNat) ∧ (x.phase = 8) ∧ ((s.taken d).flag Fld.ANT_STATUS__HELD d.target.toNat = true) ∧ (u = (s.taken d).presApdu (d.target.toNat / 8) x ((d.param.drop 8).take (DescF.par d 1 1)))) ∧
    (∃ (s : State) (d : Desc), (s.accepts 0x58 d = true) ∧ (DescF.par d 0 1 = 3) ∧ ((DescF.parNonZero d 1).isSome = false) ∧ ((s.taken d).presAt (d.target.toNat / 8) = none)) ∧
    (∃ (s : State) (d : Desc) (x : Pres), (s.accepts 0x58 d = true) ∧ (DescF.par d 0 1 = 3) ∧ ((DescF.parNonZero d 1).isSome = false) ∧ ((s.taken d).presAt (d.target.toNat / 8) = some x)) ∧
    (∃ (s : State) (d : Desc), (s.accepts 0x58 d = true) ∧ (DescF.par d 0 1 = 4) ∧ ((DescF.parNonZero d 2).isSome = false) ∧ (1 < DescF.par d 1 1)) ∧
    (∃ (s : State) (d : Desc) (u : State), (s.accepts 0x58 d = true) ∧ (DescF.par d 0 1 = 4) ∧ ((DescF.parNonZero d 2).isSome = false) ∧ (DescF.par d 1 1 ≤ 1) ∧ (u = (s.taken d).putB Fld.ANT_CFG__EN d.target.toNat (DescF.par d 1 1 == 1))) ∧
    (∃ (s : State) (d : Desc), (s.accepts 0x58 d = true) ∧ (DescF.par d 0 1 = 5) ∧ ((DescF.parNonZero d 1).isSome = false) ∧ ((s.taken d).flag Fld.ANT_STATUS__DETECT d.target.toNat = true)) ∧
    (∃ (s : State) (d : Desc) (l : List Nat) (u : State), (s.accepts 0x58 d = true) ∧ (DescF.par d 0 1 = 5) ∧ ((DescF.parNonZero d 1).isSome = false) ∧ ((s.taken d).flag Fld.ANT_STATUS__DETECT d.target.toNat = false) ∧ (u = ((s.taken d).put Fld.ANT_STATUS__A_REF d.target.toNat (min (l.foldl (· + ·) 0 / 64) 65535)).put Fld.ANT_STATUS__FAULT d.target.toNat 0)) :=
  ⟨⟨wRun, wDescT 9 64 [1, 1], by decide +kernel⟩,
    ⟨wRun, wDescT 9 0 [1], by decide +kernel⟩,
    ⟨wRun, wDescT 9 64 [1], by decide +kernel⟩,
    ⟨{ wRegs [(⟨.TAG_STATUS, 0⟩, 0x20000000), (⟨.ANT_CFG, 9⟩, 0x80001414), (⟨.ANT_STATUS, 9⟩, 0)] with reader := { ants := [(9, { last := [1] })] } }, wDescT 9 64 [1], by decide +kernel⟩,
    ⟨wRun, wDescT 9 258 [2, 3], by decide +kernel⟩,
    ⟨wRun, wDescT 9 258 [2, 4], by decide +kernel⟩,
    ⟨{ wRegs [(⟨.TAG_STATUS, 0⟩, 0x20000000), (⟨.ANT_CFG, 9⟩, 0x80001414), (⟨.ANT_STATUS, 9⟩, 0)] with reader := { pres := [(1, { pos := 9 })] } }, wDescT 9 258 [2, 4], { pos := 9 }, by decide +kernel⟩,
    ⟨{ wRegs [(⟨.ANT_STATUS, 9⟩, 4)] with reader := { pres := [(1, { pos := 9, phase := 8 })] } }, wDescT 9 258 [2, 4], { pos := 9, phase := 8 }, _, by decide +kernel, by decide +kernel, by decide +kernel, by decide +kernel, by decide +kernel, by decide +kernel, by decide +kernel, by decide +kernel, by decide +kernel, rfl⟩,
    ⟨{ wRegs [(⟨.ANT_STATUS, 9⟩, 4)] with reader := { pres := [(1, { pos := 9, phase := 8 })] } }, wDescT 9 258 [2, 4], { pos := 9, phase := 8 }, _, by decide +kernel, by decide +kernel, by decide +kernel, by decide +kernel, by decide +kernel, by decide +kernel, by decide +kernel, by decide +kernel, by decide +kernel, rfl⟩,
    ⟨wRun, wDescT 9 0 [3], by decide +kernel⟩,
    ⟨{ wRegs [(⟨.TAG_STATUS, 0⟩, 0x20000000), (⟨.ANT_CFG, 9⟩, 0x80001414), (⟨.ANT_STATUS, 9⟩, 0)] with reader := { pres := [(1, { pos := 9 })] } }, wDescT 9 0 [3], { pos := 9 }, by decide +kernel⟩,
    ⟨wRun, wDescT 9 0 [4, 2], by decide +kernel⟩,
    ⟨wRun, wDescT 9 0 [4, 1], _, by decide +kernel, by decide +kernel, by decide +kernel, by decide +kernel, rfl⟩,
    ⟨{ wRegs [(⟨.ANT_STATUS, 9⟩, 2)] with reader := {  } }, wDescT 9 0 [5], by decide +kernel⟩,
    ⟨wRun, wDescT 9 0 [5], List.replicate 64 1000, _, by decide +kernel, by decide +kernel, by decide +kernel, by decide +kernel, rfl⟩⟩

set_option maxRecDepth 20000 in
/-- States and operands that meet the hypotheses of each clause of KeyShares. -/
theorem witness_KeyShares :
    (∃ (s : State) (u : State) (v : State), (s.pwr ≠ 3) ∧ (s.dieRuns .cdie = true) ∧ (u = if s.rime.lastMask + 1100000 < s.time then s.put Fld.KEY_ERR__REMASK_LATE 0 1 else s) ∧ (u.rngReady = true) ∧ (v = (u.setRime { u.rime with lastMask := u.time }).put Fld.KEY_REMASK__ROUNDS 0 ((u.reg .KEY_REMASK 0).toNat + 1))) ∧
    (∃ (s : State) (u : State), (s.pwr ≠ 3) ∧ (s.dieRuns .cdie = true) ∧ (u = if s.rime.lastMask + 1100000 < s.time then s.put Fld.KEY_ERR__REMASK_LATE 0 1 else s) ∧ (u.rngReady = false)) ∧
    (∃ (s : State), (s.pwr = 3 ∨ s.dieRuns .cdie = false)) :=
  ⟨⟨{ wRun with rime := { drbg := 1 } }, _, _, by decide +kernel, by decide +kernel, rfl, by decide +kernel, rfl⟩,
    ⟨{ wRun with time := 1100001 }, _, by decide +kernel, by decide +kernel, rfl, by decide +kernel⟩,
    ⟨State.reset, by decide +kernel⟩⟩

set_option maxRecDepth 20000 in
/-- States and operands that meet the hypotheses of each clause of KeyCommands. -/
theorem witness_KeyCommands :
    (∃ (s : State) (d : Desc), (s.accepts 0x60 d = true) ∧ (DescF.bufLen d < 96)) ∧
    (∃ (s : State) (d : Desc) (a : Nat), (s.accepts 0x60 d = true) ∧ (96 ≤ DescF.bufLen d) ∧ (DescF.par d 0 8 ≠ 0) ∧ ((s.taken d).checkRange d.port (DescF.par d 0 8) 128 false true = .boundary a)) ∧
    (∃ (s : State) (d : Desc) (a : Nat), (s.accepts 0x60 d = true) ∧ (96 ≤ DescF.bufLen d) ∧ (DescF.par d 0 8 ≠ 0) ∧ ((s.taken d).checkRange d.port (DescF.par d 0 8) 128 false true = .protection a)) ∧
    (∃ (s : State) (d : Desc) (b : List Byte), (s.accepts 0x60 d = true) ∧ (96 ≤ DescF.bufLen d) ∧ (DescF.par d 0 8 = 0) ∧ (keyWriteOk (b.take 96) = false)) ∧
    (∃ (s : State) (d : Desc) (b : List Byte), (s.accepts 0x60 d = true) ∧ (96 ≤ DescF.bufLen d) ∧ (DescF.par d 0 8 ≠ 0) ∧ ((s.taken d).checkRange d.port (DescF.par d 0 8) 128 false true = .ok) ∧ (keyWriteOk (b.take 96) = true) ∧ (bitAt (field (b.take 96) 3 1) 1 = false)) ∧
    (∃ (s : State) (d : Desc) (b : List Byte), (s.accepts 0x60 d = true) ∧ (96 ≤ DescF.bufLen d) ∧ (DescF.par d 0 8 = 0) ∧ (keyWriteOk (b.take 96) = true) ∧ (bitAt (field (b.take 96) 3 1) 1 = false) ∧ ((s.taken d).keySt d.target.toNat = 1)) ∧
    (∃ (s : State) (d : Desc) (b : List Byte), (s.accepts 0x60 d = true) ∧ (96 ≤ DescF.bufLen d) ∧ (DescF.par d 0 8 = 0) ∧ (keyWriteOk (b.take 96) = true) ∧ (bitAt (field (b.take 96) 3 1) 1 = false) ∧ ((s.taken d).keySt d.target.toNat ≠ 1) ∧ (bitAt (field (b.take 96) 3 1) 0 = true) ∧ ((s.taken d).rime.root.isNone = true)) ∧
    (∃ (s : State) (d : Desc) (b : List Byte), (s.accepts 0x60 d = true) ∧ (96 ≤ DescF.bufLen d) ∧ (DescF.par d 0 8 = 0) ∧ (keyWriteOk (b.take 96) = true) ∧ (bitAt (field (b.take 96) 3 1) 1 = false) ∧ ((s.taken d).keySt d.target.toNat ≠ 1) ∧ (bitAt (field (b.take 96) 3 1) 0 = true) ∧ ((s.taken d).rime.root.isNone = false) ∧ ((s.taken d).rngReady = false)) ∧
    (∃ (s : State) (d : Desc) (b : List Byte) (o : Bool), (s.accepts 0x60 d = true) ∧ (96 ≤ DescF.bufLen d) ∧ (DescF.par d 0 8 = 0) ∧ (keyWriteOk (b.take 96) = true) ∧ (bitAt (field (b.take 96) 3 1) 1 = false) ∧ ((s.taken d).keySt d.target.toNat ≠ 1) ∧ (bitAt (field (b.take 96) 3 1) 0 = true) ∧ ((s.taken d).rime.root.isNone = false) ∧ ((s.taken d).rngReady = true) ∧ ((s.taken d).trialRefuses o = true)) ∧
    (∃ (s : State) (d : Desc) (b : List Byte) (k : Nat) (u : State), (s.accepts 0x60 d = true) ∧ (96 ≤ DescF.bufLen d) ∧ (DescF.par d 0 8 = 0) ∧ (keyWriteOk (b.take 96) = true) ∧ (bitAt (field (b.take 96) 3 1) 1 = false) ∧ (bitAt (field (b.take 96) 3 1) 0 = false) ∧ ((s.taken d).keySt d.target.toNat ≠ 1) ∧ (k = leNat (((b.take 96).drop 16).take (keyLen (field (b.take 96) 2 1)))) ∧ (u = (s.taken d).storeKey d.target.toNat { type := field (b.take 96) 2 1, usage := field (b.take 96) 4 2, persist := false, exported := false, id := field (b.take 96) 8 4 } k)) ∧
    (∃ (s : State) (d : Desc) (b : List Byte) (o : Bool) (k : Nat) (a : KeyAttr) (u : State) (v : State) (g : List Byte), (s.accepts 0x60 d = true) ∧ (96 ≤ DescF.bufLen d) ∧ (DescF.par d 0 8 = 0) ∧ (keyWriteOk (b.take 96) = true) ∧ (bitAt (field (b.take 96) 3 1) 1 = false) ∧ (bitAt (field (b.take 96) 3 1) 0 = true) ∧ ((s.taken d).keySt d.target.toNat ≠ 1) ∧ ((s.taken d).rime.root.isNone = false) ∧ ((s.taken d).rngReady = true) ∧ ((s.taken d).trialRefuses o = false) ∧ (k = leNat (((b.take 96).drop 16).take (keyLen (field (b.take 96) 2 1)))) ∧ (a = { type := field (b.take 96) 2 1, usage := field (b.take 96) 4 2, persist := true, exported := false, id := field (b.take 96) 8 4 }) ∧ (u = (s.taken d).storeKey d.target.toNat a k) ∧ (v = (u.random 96).2.useKey 2 2) ∧ (g = v.makeBlob d.target.toNat a k (u.random 96).1)) ∧
    (∃ (s : State) (d : Desc) (b : List Byte) (k : Nat) (a : KeyAttr) (u : State) (v : State), (s.accepts 0x60 d = true) ∧ (96 ≤ DescF.bufLen d) ∧ (DescF.par d 0 8 ≠ 0) ∧ ((s.taken d).checkRange d.port (DescF.par d 0 8) 128 false true = .ok) ∧ (keyWriteOk (b.take 96) = true) ∧ (bitAt (field (b.take 96) 3 1) 1 = true) ∧ (bitAt (field (b.take 96) 3 1) 0 = false) ∧ ((s.taken d).keySt d.target.toNat ≠ 1) ∧ ((s.taken d).rime.root.isNone = false) ∧ ((s.taken d).rngReady = true) ∧ (k = leNat (((b.take 96).drop 16).take (keyLen (field (b.take 96) 2 1)))) ∧ (a = { type := field (b.take 96) 2 1, usage := field (b.take 96) 4 2, persist := false, exported := true, id := field (b.take 96) 8 4 }) ∧ (u = (s.taken d).storeKey d.target.toNat a k) ∧ (v = (u.random 96).2.useKey 2 2)) ∧
    (∃ (s : State) (d : Desc), (s.accepts 0x63 d = true) ∧ (DescF.bufLen d < 128)) ∧
    (∃ (s : State) (d : Desc) (b : List Byte), (s.accepts 0x63 d = true) ∧ (128 ≤ DescF.bufLen d) ∧ ((decide (field (b.take 128) 0 2 ≠ 1) || decide (field (b.take 128) 3 1 ≠ 0) || decide (field (b.take 128) 100 12 ≠ 0)) = true)) ∧
    (∃ (s : State) (d : Desc) (b : List Byte), (s.accepts 0x63 d = true) ∧ (128 ≤ DescF.bufLen d) ∧ (field (b.take 128) 0 2 = 1) ∧ (field (b.take 128) 3 1 = 0) ∧ (field (b.take 128) 100 12 = 0) ∧ ((s.taken d).keySt d.target.toNat = 1)) ∧
    (∃ (s : State) (d : Desc) (b : List Byte), (s.accepts 0x63 d = true) ∧ (128 ≤ DescF.bufLen d) ∧ (field (b.take 128) 0 2 = 1) ∧ (field (b.take 128) 3 1 = 0) ∧ (field (b.take 128) 100 12 = 0) ∧ ((s.taken d).keySt d.target.toNat ≠ 1) ∧ (field (b.take 128) 6 2 ≠ d.target.toNat)) ∧
    (∃ (s : State) (d : Desc) (b : List Byte), (s.accepts 0x63 d = true) ∧ (128 ≤ DescF.bufLen d) ∧ (field (b.take 128) 0 2 = 1) ∧ (field (b.take 128) 3 1 = 0) ∧ (field (b.take 128) 100 12 = 0) ∧ ((s.taken d).keySt d.target.toNat ≠ 1) ∧ (field (b.take 128) 6 2 = d.target.toNat) ∧ ((s.taken d).rime.root.isNone = true)) ∧
    (∃ (s : State) (d : Desc) (b : List Byte) (u : State), (s.accepts 0x63 d = true) ∧ (128 ≤ DescF.bufLen d) ∧ (field (b.take 128) 0 2 = 1) ∧ (field (b.take 128) 3 1 = 0) ∧ (field (b.take 128) 100 12 = 0) ∧ ((s.taken d).keySt d.target.toNat ≠ 1) ∧ (field (b.take 128) 6 2 = d.target.toNat) ∧ ((s.taken d).rime.root.isNone = false) ∧ (u = (s.taken d).useKey 2 2)) ∧
    (∃ (s : State) (d : Desc) (k : Nat), (s.accepts 0x61 d = true) ∧ (deriveBad d = some k)) ∧
    (∃ (s : State) (d : Desc), (s.accepts 0x61 d = true) ∧ (deriveBad d = none) ∧ ((s.taken d).keySt d.target.toNat = 1)) ∧
    (∃ (s : State) (d : Desc), (s.accepts 0x61 d = true) ∧ (deriveBad d = none) ∧ ((s.taken d).keySt d.target.toNat ≠ 1) ∧ (4 ≤ (s.taken d).get Fld.KEY_ATTR__LEVEL (DescF.par d 0 2))) ∧
    (∃ (s : State) (d : Desc), (s.accepts 0x61 d = true) ∧ (deriveBad d = none) ∧ ((s.taken d).keySt d.target.toNat ≠ 1) ∧ ((s.taken d).get Fld.KEY_ATTR__LEVEL (DescF.par d 0 2) ≤ 3) ∧ ((s.taken d).keyUsable (DescF.par d 0 2) [3] 5 = false)) ∧
    (∃ (s : State) (d : Desc) (o : Bool), (s.accepts 0x61 d = true) ∧ (deriveBad d = none) ∧ ((s.taken d).keySt d.target.toNat ≠ 1) ∧ ((s.taken d).get Fld.KEY_ATTR__LEVEL (DescF.par d 0 2) ≤ 3) ∧ ((s.taken d).keyUsable (DescF.par d 0 2) [3] 5 = true) ∧ (bitAt (DescF.par d 3 1) 0 = true) ∧ ((s.taken d).trialRefuses o = true)) ∧
    (∃ (s : State) (d : Desc) (u : State) (p : Nat) (k : Nat), (s.accepts 0x61 d = true) ∧ (deriveBad d = none) ∧ ((s.taken d).keySt d.target.toNat ≠ 1) ∧ ((s.taken d).get Fld.KEY_ATTR__LEVEL (DescF.par d 0 2) ≤ 3) ∧ ((s.taken d).keyUsable (DescF.par d 0 2) [3] 5 = true) ∧ (bitAt (DescF.par d 3 1) 0 = false) ∧ (p = DescF.par d 0 2) ∧ (u = (s.taken d).useKey 4 p) ∧ (k = kdf (u.keyOf p) ((d.param.drop 8).take (DescF.par d 6 2)) ((d.param.drop 24).take 8) ((s.taken d).keyGen p) (DescF.par d 2 1))) ∧
    (∃ (s : State) (d : Desc) (o : Bool) (u : State) (v : State) (p : Nat) (k : Nat) (g : Nat) (l : Nat), (s.accepts 0x61 d = true) ∧ (deriveBad d = none) ∧ ((s.taken d).keySt d.target.toNat ≠ 1) ∧ ((s.taken d).get Fld.KEY_ATTR__LEVEL (DescF.par d 0 2) ≤ 3) ∧ ((s.taken d).keyUsable (DescF.par d 0 2) [3] 5 = true) ∧ (bitAt (DescF.par d 3 1) 0 = true) ∧ ((s.taken d).trialRefuses o = false) ∧ (p = DescF.par d 0 2) ∧ (g = (s.taken d).keyGen p) ∧ (l = (s.taken d).get Fld.KEY_ATTR__LEVEL p + 1) ∧ (u = (s.taken d).useKey 4 p) ∧ (k = kdf (u.keyOf p) ((d.param.drop 8).take (DescF.par d 6 2)) ((d.param.drop 24).take 8) g (DescF.par d 2 1)) ∧ (v = u.storeKey d.target.toNat { type := DescF.par d 2 1, usage := DescF.par d 4 2, level := l, derived := true, persist := true, parent := p, pgen := g, id := DescF.par d 32 4 } k)) ∧
    (∃ (s : State) (d : Desc), (s.accepts 0x62 d = true) ∧ (DescF.par d 0 1 ≠ 1) ∧ (DescF.par d 0 1 ≠ 2) ∧ (DescF.par d 0 1 ≠ 3)) ∧
    (∃ (s : State) (d : Desc), (s.accepts 0x62 d = true) ∧ (DescF.par d 0 1 = 1) ∧ ((s.taken d).keySt d.target.toNat ≠ 1)) ∧
    (∃ (s : State) (d : Desc) (g : Nat), (s.accepts 0x62 d = true) ∧ (DescF.par d 0 1 = 1) ∧ ((s.taken d).keySt d.target.toNat = 1) ∧ ((if (s.taken d).flag Fld.KEY_ATTR__DERIVED d.target.toNat = true then (s.taken d).get Fld.KEY_PARENT__PARENT d.target.toNat else d.target.toNat) = g) ∧ ((s.taken d).keyGen g = 0xFFFFFFFF)) ∧
    (∃ (s : State) (d : Desc) (g : Nat) (x : State × Nat), (s.accepts 0x62 d = true) ∧ (DescF.par d 0 1 = 1) ∧ ((s.taken d).keySt d.target.toNat = 1) ∧ ((if (s.taken d).flag Fld.KEY_ATTR__DERIVED d.target.toNat = true then (s.taken d).get Fld.KEY_PARENT__PARENT d.target.toNat else d.target.toNat) = g) ∧ ((s.taken d).keyGen g ≠ 0xFFFFFFFF) ∧ (x = ((s.taken d).dropKey d.target.toNat 0).raiseGen g)) ∧
    (∃ (s : State) (d : Desc), (s.accepts 0x62 d = true) ∧ (DescF.par d 0 1 = 2) ∧ ((decide (d.target.toNat < 4) || decide ((s.taken d).keySt d.target.toNat ≠ 1) || !(s.taken d).flag Fld.KEY_ATTR__DERIVED d.target.toNat) = true)) ∧
    (∃ (s : State) (d : Desc), (s.accepts 0x62 d = true) ∧ (DescF.par d 0 1 = 2) ∧ ((decide (d.target.toNat < 4) || decide ((s.taken d).keySt d.target.toNat ≠ 1) || !(s.taken d).flag Fld.KEY_ATTR__DERIVED d.target.toNat) = false) ∧ ((s.taken d).keyGen d.target.toNat = 0xFFFFFFFF)) ∧
    (∃ (s : State) (d : Desc) (x : State × Nat), (s.accepts 0x62 d = true) ∧ (DescF.par d 0 1 = 2) ∧ ((decide (d.target.toNat < 4) || decide ((s.taken d).keySt d.target.toNat ≠ 1) || !(s.taken d).flag Fld.KEY_ATTR__DERIVED d.target.toNat) = false) ∧ ((s.taken d).keyGen d.target.toNat ≠ 0xFFFFFFFF) ∧ (x = (s.taken d).raiseGen d.target.toNat)) ∧
    (∃ (s : State) (d : Desc), (s.accepts 0x62 d = true) ∧ (DescF.par d 0 1 = 3) ∧ ((s.taken d).keySt d.target.toNat ≠ 1)) ∧
    (∃ (s : State) (d : Desc), (s.accepts 0x62 d = true) ∧ (DescF.par d 0 1 = 3) ∧ ((s.taken d).keySt d.target.toNat = 1) ∧ ((s.taken d).flag Fld.KEY_ATTR__DERIVED d.target.toNat = false) ∧ ((s.taken d).flag Fld.KEY_ATTR__EXPORTED d.target.toNat = false)) ∧
    (∃ (s : State) (d : Desc), (s.accepts 0x62 d = true) ∧ (DescF.par d 0 1 = 3) ∧ ((s.taken d).keySt d.target.toNat = 1) ∧ (((s.taken d).flag Fld.KEY_ATTR__DERIVED d.target.toNat || (s.taken d).flag Fld.KEY_ATTR__EXPORTED d.target.toNat) = true) ∧ ((s.taken d).hasChildren d.target.toNat = true)) ∧
    (∃ (s : State) (d : Desc), (s.accepts 0x62 d = true) ∧ (DescF.par d 0 1 = 3) ∧ ((s.taken d).keySt d.target.toNat = 1) ∧ (((s.taken d).flag Fld.KEY_ATTR__DERIVED d.target.toNat || (s.taken d).flag Fld.KEY_ATTR__EXPORTED d.target.toNat) = true) ∧ ((s.taken d).hasChildren d.target.toNat = false)) ∧
    (∃ (s : State) (n : Nat) (x : State × Nat), (x = (s.put Fld.KEY_GEN__GEN n (s.keyGen n + 1)).orphanTree 4)) ∧
    (∃ (s : State), (s.dieRuns .cdie = false)) ∧
    (∃ (s : State), (s.dieRuns .cdie = true)) ∧
    (∃ (s : State), (s.dieRuns .cdie = true)) ∧
    (∃ (s : State) (k : Nat), ((decide (5 ≤ k) || !bitAt (s.get Fld.KEY_TAMPER__ARMED 0) k) = true)) ∧
    (∃ (s : State) (u : State) (k : Nat), (k < 5) ∧ (bitAt (s.get Fld.KEY_TAMPER__ARMED 0) k = true) ∧ (u = s.tamperLatch k)) :=
  ⟨⟨wRegs [(⟨.KEY_RIGHTS, 0⟩, 0x77)], wDescT 20 95 [], by decide +kernel⟩,
    ⟨wRegs [(⟨.KEY_RIGHTS, 0⟩, 0x77)], wDescT 20 96 [0, 0, 0, 0, 0, 0, 0, 1], 0x100000000000000, by decide +kernel⟩,
    ⟨wRegs [(⟨.HOST_WIN_LO, 1⟩, 1), (⟨.HOST_WIN_HI, 1⟩, 1), (⟨.HOST_WIN_SIZE, 1⟩, 16), (⟨.KEY_RIGHTS, 0⟩, 0x77)], wDescT 20 96 [0, 0, 0, 0, 1], 0x100000000, by decide +kernel⟩,
    ⟨wRegs [(⟨.KEY_RIGHTS, 0⟩, 0x77)], wDescT 20 96 [], [], by decide +kernel⟩,
    ⟨wRegs [(⟨.KEY_RIGHTS, 0⟩, 0x77)], wDescT 20 96 [0, 16], [1, 0, 1] ++ List.replicate 93 0, by decide +kernel⟩,
    ⟨wRegs [(⟨.KEY_RIGHTS, 0⟩, 0x77), (⟨.KEY_ATTR, 20⟩, 0x10000000)], wDescT 20 96 [], [1, 0, 1] ++ List.replicate 93 0, by decide +kernel⟩,
    ⟨wRegs [(⟨.KEY_RIGHTS, 0⟩, 0x77)], wDescT 20 96 [], [1, 0, 1, 1] ++ List.replicate 92 0, by decide +kernel⟩,
    ⟨{ wRegs [(⟨.KEY_RIGHTS, 0⟩, 0x77)] with rime := { root := some 1 } }, wDescT 20 96 [], [1, 0, 1, 1] ++ List.replicate 92 0, by decide +kernel⟩,
    ⟨{ wRegs [(⟨.KEY_RIGHTS, 0⟩, 0x77), (⟨.UPD_STATUS, 0⟩, 0xFFFFFFFF)] with rime := { root := some 1, drbg := 1 } }, wDescT 20 96 [], [1, 0, 1, 1] ++ List.replicate 92 0, false, by decide +kernel⟩,
    ⟨wRegs [(⟨.KEY_RIGHTS, 0⟩, 0x77)], wDescT 20 96 [], [1, 0, 1] ++ List.replicate 93 0, _, _, by decide +kernel, by decide +kernel, by decide +kernel, by decide +kernel, by decide +kernel, by decide +kernel, by decide +kernel, rfl, rfl⟩,
    ⟨{ wRegs [(⟨.KEY_RIGHTS, 0⟩, 0x77)] with rime := { root := some 1, drbg := 1 } }, wDescT 20 96 [], [1, 0, 1, 1] ++ List.replicate 92 0, false, _, _, _, _, _, by decide +kernel, by decide +kernel, by decide +kernel, by decide +kernel, by decide +kernel, by decide +kernel, by decide +kernel, by decide +kernel, by decide +kernel, by decide +kernel, rfl, rfl, rfl, rfl, rfl⟩,
    ⟨{ wRegs [(⟨.KEY_RIGHTS, 0⟩, 0x77)] with rime := { root := some 1, drbg := 1 } }, wDescT 20 96 [0, 16], [1, 0, 1, 2, 0x40] ++ List.replicate 91 0, _, _, _, _, by decide +kernel, by decide +kernel, by decide +kernel, by decide +kernel, by decide +kernel, by decide +kernel, by decide +kernel, by decide +kernel, by decide +kernel, by decide +kernel, rfl, rfl, rfl, rfl⟩,
    ⟨wRegs [(⟨.KEY_RIGHTS, 0⟩, 0x77)], wDescT 20 96 [], by decide +kernel⟩,
    ⟨wRegs [(⟨.KEY_RIGHTS, 0⟩, 0x77)], wDescT 20 128 [], [], by decide +kernel⟩,
    ⟨wRegs [(⟨.KEY_RIGHTS, 0⟩, 0x77), (⟨.KEY_ATTR, 20⟩, 0x10000000)], wDescT 20 128 [], [1], by decide +kernel⟩,
    ⟨wRegs [(⟨.KEY_RIGHTS, 0⟩, 0x77)], wDescT 20 128 [], [1], by decide +kernel⟩,
    ⟨wRegs [(⟨.KEY_RIGHTS, 0⟩, 0x77)], wDescT 20 128 [], [1, 0, 0, 0, 0, 0, 20], by decide +kernel⟩,
    ⟨{ wRegs [(⟨.KEY_RIGHTS, 0⟩, 0x77)] with rime := { root := some 0 } }, wDescT 20 128 [], [1, 0, 0, 0, 0, 0, 20], _, by decide +kernel, by decide +kernel, by decide +kernel, by decide +kernel, by decide +kernel, by decide +kernel, by decide +kernel, by decide +kernel, rfl⟩,
    ⟨wRegs [(⟨.KEY_RIGHTS, 0⟩, 0x77)], wDescT 20 0 [], 26, by decide +kernel⟩,
    ⟨wRegs [(⟨.KEY_RIGHTS, 0⟩, 0x77), (⟨.KEY_ATTR, 20⟩, 0x10000000)], wDescT 20 0 [9, 0, 1, 0, 0, 0, 1], by decide +kernel⟩,
    ⟨wRegs [(⟨.KEY_RIGHTS, 0⟩, 0x77), (⟨.KEY_ATTR, 9⟩, 0xFFFFFFFF)], wDescT 20 0 [9, 0, 1, 0, 0, 0, 1], by decide +kernel⟩,
    ⟨wRegs [(⟨.KEY_RIGHTS, 0⟩, 0x77)], wDescT 20 0 [9, 0, 1, 0, 0, 0, 1], by decide +kernel⟩,
    ⟨wRegs [(⟨.KEY_RIGHTS, 0⟩, 0x77), (⟨.KEY_ATTR, 9⟩, 0x13200020), (⟨.UPD_STATUS, 0⟩, 0xFFFFFFFF)], wDescT 20 0 [9, 0, 1, 1, 0, 0, 1], false, by decide +kernel⟩,
    ⟨wRegs [(⟨.KEY_RIGHTS, 0⟩, 0x77), (⟨.KEY_ATTR, 9⟩, 0x13200020)], wDescT 20 0 [9, 0, 1, 0, 0, 0, 1], _, _, _, by decide +kernel, by decide +kernel, by decide +kernel, by decide +kernel, by decide +kernel, by decide +kernel, rfl, rfl, rfl⟩,
    ⟨wRegs [(⟨.KEY_RIGHTS, 0⟩, 0x77), (⟨.KEY_ATTR, 9⟩, 0x13200020)], wDescT 20 0 [9, 0, 1, 1, 0, 0, 1], false, _, _, _, _, _, _, by decide +kernel, by decide +kernel, by decide +kernel, by decide +kernel, by decide +kernel, by decide +kernel, by decide +kernel, rfl, rfl, rfl, rfl, rfl, rfl⟩,
    ⟨wRegs [(⟨.KEY_RIGHTS, 0⟩, 0x77)], wDescT 20 0 [4], by decide +kernel⟩,
    ⟨wRegs [(⟨.KEY_RIGHTS, 0⟩, 0x77)], wDescT 20 0 [1], by decide +kernel⟩,
    ⟨wRegs [(⟨.KEY_RIGHTS, 0⟩, 0x77), (⟨.KEY_ATTR, 20⟩, 0x11000000), (⟨.KEY_GEN, 20⟩, 0xFFFFFFFF)], wDescT 20 0 [1], 20, by decide +kernel⟩,
    ⟨wRegs [(⟨.KEY_RIGHTS, 0⟩, 0x77), (⟨.KEY_ATTR, 20⟩, 0x11000000)], wDescT 20 0 [1], 20, _, by decide +kernel, by decide +kernel, by decide +kernel, by decide +kernel, by decide +kernel, rfl⟩,
    ⟨wRegs [(⟨.KEY_RIGHTS, 0⟩, 0x77)], wDescT 20 0 [2], by decide +kernel⟩,
    ⟨wRegs [(⟨.KEY_RIGHTS, 0⟩, 0x77), (⟨.KEY_ATTR, 20⟩, 0x13100000), (⟨.KEY_GEN, 20⟩, 0xFFFFFFFF)], wDescT 20 0 [2], by decide +kernel⟩,
    ⟨wRegs [(⟨.KEY_RIGHTS, 0⟩, 0x77), (⟨.KEY_ATTR, 20⟩, 0x13100000)], wDescT 20 0 [2], _, by decide +kernel, by decide +kernel, by decide +kernel, by decide +kernel, rfl⟩,
    ⟨wRegs [(⟨.KEY_RIGHTS, 0⟩, 0x77)], wDescT 20 0 [3], by decide +kernel⟩,
    ⟨wRegs [(⟨.KEY_RIGHTS, 0⟩, 0x77), (⟨.KEY_ATTR, 20⟩, 0x11000000)], wDescT 20 0 [3], by decide +kernel⟩,
    ⟨wRegs [(⟨.KEY_RIGHTS, 0⟩, 0x77), (⟨.KEY_ATTR, 20⟩, 0x11040000), (⟨.KEY_ATTR, 21⟩, 0x13100000), (⟨.KEY_PARENT, 21⟩, 20)], wDescT 20 0 [3], by decide +kernel⟩,
    ⟨wRegs [(⟨.KEY_RIGHTS, 0⟩, 0x77), (⟨.KEY_ATTR, 20⟩, 0x11040000)], wDescT 20 0 [3], by decide +kernel⟩,
    ⟨wRun, 20, _, rfl⟩,
    ⟨State.reset, by decide +kernel⟩,
    ⟨wRun, by decide +kernel⟩,
    ⟨wRun, by decide +kernel⟩,
    ⟨wRun, 2, by decide +kernel⟩,
    ⟨wRegs [(⟨.KEY_TAMPER, 0⟩, 0x400)], _, 2, by decide +kernel, by decide +kernel, rfl⟩⟩

set_option maxRecDepth 20000 in
/-- States and operands that meet the hypotheses of each clause of UpdateCommands. -/
theorem witness_UpdateCommands :
    (∃ (s : State) (d : Desc), (s.accepts 0x68 d = true) ∧ (2 ≤ DescF.par d 8 1)) ∧
    (∃ (s : State) (d : Desc), (s.accepts 0x68 d = true) ∧ (DescF.par d 8 1 < 2) ∧ ((s.taken d).onTrial = true)) ∧
    (∃ (s : State) (d : Desc), (s.accepts 0x68 d = true) ∧ (DescF.par d 8 1 < 2) ∧ ((s.taken d).onTrial = false) ∧ ((s.taken d).upd.phase ≠ 0)) ∧
    (∃ (s : State) (d : Desc), (s.accepts 0x68 d = true) ∧ (DescF.par d 8 1 < 2) ∧ ((s.taken d).onTrial = false) ∧ ((s.taken d).upd.phase = 0) ∧ (((s.taken d).upd.stage.any (·.1 != d.port)) = true)) ∧
    (∃ (s : State) (d : Desc) (b : List Byte) (c : List Byte), (s.accepts 0x68 d = true) ∧ (DescF.par d 8 1 < 2) ∧ ((s.taken d).onTrial = false) ∧ ((s.taken d).upd.phase = 0) ∧ (((s.taken d).upd.stage.any (·.1 != d.port)) = false) ∧ (c = b.take (DescF.bufLen d)) ∧ ((decide (DescF.par d 0 4 % 4096 ≠ 0) || (decide (DescF.par d 0 4 ≠ 0) && decide (DescF.par d 0 4 ≠ ((s.taken d).upd.stage.map (·.2)).getD 0)) || decide (DescF.par d 4 4 < DescF.par d 0 4 + c.length) || (bitAt (DescF.par d 8 1) 0 && decide (DescF.par d 4 4 ≠ DescF.par d 0 4 + c.length))) = true)) ∧
    (∃ (s : State) (d : Desc) (b : List Byte) (z : Bool) (c : List Byte), (s.accepts 0x68 d = true) ∧ (DescF.par d 8 1 < 2) ∧ ((s.taken d).onTrial = false) ∧ ((s.taken d).upd.phase = 0) ∧ (((s.taken d).upd.stage.any (·.1 != d.port)) = false) ∧ (c = b.take (DescF.bufLen d)) ∧ ((decide (DescF.par d 0 4 % 4096 ≠ 0) || (decide (DescF.par d 0 4 ≠ 0) && decide (DescF.par d 0 4 ≠ ((s.taken d).upd.stage.map (·.2)).getD 0)) || decide (DescF.par d 4 4 < DescF.par d 0 4 + c.length) || (bitAt (DescF.par d 8 1) 0 && decide (DescF.par d 4 4 ≠ DescF.par d 0 4 + c.length))) = false) ∧ (z = false)) ∧
    (∃ (s : State) (d : Desc) (b : List Byte) (z : Bool) (c : List Byte), (s.accepts 0x68 d = true) ∧ (DescF.par d 8 1 < 2) ∧ ((s.taken d).onTrial = false) ∧ ((s.taken d).upd.phase = 0) ∧ (((s.taken d).upd.stage.any (·.1 != d.port)) = false) ∧ (c = b.take (DescF.bufLen d)) ∧ ((decide (DescF.par d 0 4 % 4096 ≠ 0) || (decide (DescF.par d 0 4 ≠ 0) && decide (DescF.par d 0 4 ≠ ((s.taken d).upd.stage.map (·.2)).getD 0)) || decide (DescF.par d 4 4 < DescF.par d 0 4 + c.length) || (bitAt (DescF.par d 8 1) 0 && decide (DescF.par d 4 4 ≠ DescF.par d 0 4 + c.length))) = false) ∧ (z = true) ∧ (bitAt (DescF.par d 8 1) 0 = false)) ∧
    (∃ (s : State) (d : Desc) (b : List Byte) (z : Bool) (c : List Byte) (u : State), (s.accepts 0x68 d = true) ∧ (DescF.par d 8 1 < 2) ∧ ((s.taken d).onTrial = false) ∧ ((s.taken d).upd.phase = 0) ∧ (((s.taken d).upd.stage.any (·.1 != d.port)) = false) ∧ (c = b.take (DescF.bufLen d)) ∧ ((decide (DescF.par d 0 4 % 4096 ≠ 0) || (decide (DescF.par d 0 4 ≠ 0) && decide (DescF.par d 0 4 ≠ ((s.taken d).upd.stage.map (·.2)).getD 0)) || decide (DescF.par d 4 4 < DescF.par d 0 4 + c.length) || (bitAt (DescF.par d 8 1) 0 && decide (DescF.par d 4 4 ≠ DescF.par d 0 4 + c.length))) = false) ∧ (z = true) ∧ (bitAt (DescF.par d 8 1) 0 = true) ∧ (u = (s.taken d).stageChunk d c (DescF.par d 0 4) (DescF.par d 4 4))) ∧
    (∃ (s : State) (d : Desc) (k : Nat), (s.accepts 0x69 d = true) ∧ (activateBad d 1 = some k)) ∧
    (∃ (s : State) (d : Desc) (k : Nat), (s.accepts 0x69 d = true) ∧ (activateBad d 2 = some k)) ∧
    (∃ (s : State) (d : Desc) (k : Nat), (s.accepts 0x69 d = true) ∧ (activateBad d 4 = some k)) ∧
    (∃ (s : State) (d : Desc) (k : Nat), (s.accepts 0x69 d = true) ∧ (activateBad d 3 = some k)) ∧
    (∃ (s : State) (d : Desc) (r : Nat), (s.accepts 0x69 d = true) ∧ (activateBad d 1 = none) ∧ ((s.taken d).activateRefusal true (bitAt (DescF.par d 1 1) 0) = some r)) ∧
    (∃ (s : State) (d : Desc) (m : Mapping) (b : List Byte), (s.accepts 0x69 d = true) ∧ (activateBad d 1 = none) ∧ ((s.taken d).activateRefusal true (bitAt (DescF.par d 1 1) 0) = none) ∧ ((s.taken d).firmwareMap = some m) ∧ ((s.taken d).stagedImg = some b)) ∧
    (∃ (s : State) (us : Nat), (s.upd.phase ≠ 3 ∨ 2000 < us)) ∧
    (∃ (s : State) (us : Nat), (s.upd.phase = 3) ∧ (us ≤ 2000)) ∧
    (∃ (s : State) (d : Desc) (r : Nat), (s.accepts 0x69 d = true) ∧ (activateBad d 2 = none) ∧ ((s.taken d).activateRefusal false (bitAt (DescF.par d 1 1) 0) = some r)) ∧
    (∃ (s : State) (d : Desc) (k : Nat) (u : State), (s.accepts 0x69 d = true) ∧ (activateBad d 2 = none) ∧ ((s.taken d).activateRefusal false (bitAt (DescF.par d 1 1) 0) = none) ∧ ((s.taken d).slotWith roStaged = some k) ∧ (u = ((s.taken d).setRole k roTrial).setRole (1 - k) roFallback)) ∧
    (∃ (s : State) (d : Desc), (s.accepts 0x69 d = true) ∧ (activateBad d 3 = none) ∧ (((s.taken d).stagedImg.bind fun b => sectionHash b 5) = none)) ∧
    (∃ (s : State) (d : Desc) (k : Nat), (s.accepts 0x69 d = true) ∧ (activateBad d 3 = none) ∧ (((s.taken d).stagedImg.bind fun b => sectionHash b 5) = some k) ∧ ((s.taken d).activateBusy = true)) ∧
    (∃ (s : State) (d : Desc) (v : W32) (x : Bool) (y : Bool) (k : Nat) (a : State × Nat) (b : State × Nat), (s.accepts 0x69 d = true) ∧ (activateBad d 3 = none) ∧ (((s.taken d).stagedImg.bind fun b => sectionHash b 5) = some k) ∧ ((s.taken d).activateBusy = false) ∧ (a = (if !bitAt (DescF.par d 2 1) 0 then ((s.taken d), 0xFFFF) else if ((s.taken d).firnOff .f0).isSome || !(s.taken d).firnLive .f0 then ((s.taken d), stDomainOff) else (s.taken d).installLegal .f0 v x)) ∧ (b = (if !bitAt (DescF.par d 2 1) 1 then (a.1, 0xFFFF) else if !a.1.variant.hasF1 then (a.1, stAbsent) else if (a.1.firnOff .f1).isSome || !a.1.firnLive .f1 then (a.1, stDomainOff) else a.1.installLegal .f1 v y))) ∧
    (∃ (s : State) (d : Desc), (s.accepts 0x6A d = true) ∧ ((s.taken d).slotWith roTrial = none ∨ (s.taken d).onTrial = false ∨ (s.taken d).upd.phase ≠ 0)) ∧
    (∃ (s : State) (d : Desc) (k : Nat), (s.accepts 0x6A d = true) ∧ ((s.taken d).slotWith roTrial = some k) ∧ ((s.taken d).onTrial = true) ∧ ((s.taken d).upd.phase = 0)) ∧
    (∃ (s : State), ((!s.onTrial || s.upd.warned) = true)) ∧
    (∃ (s : State), (s.onTrial = true) ∧ (s.upd.warned = false)) ∧
    (∃ (s : State), (s.upd.resident = true)) ∧
    (∃ (s : State) (u : State), (s.upd.resident = false) ∧ (u = s.revertSlots)) ∧
    (∃ (s : State) (d : Desc), (s.accepts 0x69 d = true) ∧ (activateBad d 4 = none) ∧ ((s.taken d).onTrial = false)) ∧
    (∃ (s : State) (d : Desc), (s.accepts 0x69 d = true) ∧ (activateBad d 4 = none) ∧ ((s.taken d).onTrial = true) ∧ ((s.taken d).upd.phase ≠ 0)) ∧
    (∃ (s : State) (d : Desc), (s.accepts 0x69 d = true) ∧ (activateBad d 4 = none) ∧ ((s.taken d).onTrial = true) ∧ ((s.taken d).upd.phase = 0) ∧ ((s.taken d).activateBusy = true)) ∧
    (∃ (s : State) (d : Desc), (s.accepts 0x69 d = true) ∧ (activateBad d 4 = none) ∧ ((s.taken d).onTrial = true) ∧ ((s.taken d).upd.phase = 0) ∧ ((s.taken d).activateBusy = false)) ∧
    (∃ (s : State), ((!s.onTrial || decide (s.upd.phase ≠ 0)) = true)) ∧
    (∃ (s : State), (s.onTrial = true) ∧ (s.upd.phase = 0) ∧ (s.upd.cfgDue.isEmpty = true)) ∧
    (∃ (s : State), (s.onTrial = true) ∧ (s.upd.phase = 0) ∧ (s.upd.cfgDue.isEmpty = false)) ∧
    (∃ (s : State), (s.upd.cfgDue.isEmpty = false)) ∧
    (∃ (s : State) (d : Desc) (b : List Byte) (x : Bool) (f : ConfFail), (s.accepts 0x6B d = true) ∧ (s.upd.cfgDue.isEmpty = true) ∧ ((s.taken d).headFail (b.take (DescF.bufLen d)) x = some f)) ∧
    (∃ (s : State) (d : Desc) (b : List Byte) (raw : List (Option ConfItem)) (x : Bool) (y : Bool) (u : State) (f : ConfFail), (s.accepts 0x6B d = true) ∧ (s.upd.cfgDue.isEmpty = true) ∧ ((s.taken d).headFail (b.take (DescF.bufLen d)) x = none) ∧ ((s.taken d).itemChecks (((s.taken d).confHeads (b.take (DescF.bufLen d))).getD []) raw y = (u, .inr f))) ∧
    (∃ (s : State) (d : Desc) (b : List Byte) (raw : List (Option ConfItem)) (x : Bool) (y : Bool) (u : State) (c : Conf), (s.accepts 0x6B d = true) ∧ (s.upd.cfgDue.isEmpty = true) ∧ ((s.taken d).headFail (b.take (DescF.bufLen d)) x = none) ∧ ((s.taken d).itemChecks (((s.taken d).confHeads (b.take (DescF.bufLen d))).getD []) raw y = (u, .inl c))) ∧
    (∃ (s : State), (s.upd.cfgDue = [])) ∧
    (∃ (s : State) (t : Ticket) (c : Conf) (n : Nat) (r : List (Ticket × Conf × Nat)), (s.upd.cfgDue = (t, c, n) :: r) ∧ ((s.inPause || !s.dieRuns .cdie || !s.pointMet (fselFloor c.tasks c.taskEngine)) = true)) ∧
    (∃ (s : State) (u : State) (t : Ticket) (c : Conf) (n : Nat) (r : List (Ticket × Conf × Nat)), (s.upd.cfgDue = (t, c, n) :: r) ∧ (s.inPause = false) ∧ (s.dieRuns .cdie = true) ∧ (s.pointMet (fselFloor c.tasks c.taskEngine) = true) ∧ (u = ((s.setUpd { s.upd with cfgDue := r }).applyConf c n).confDone t)) :=
  ⟨⟨wRun, wDescT 0 0 [0, 0, 0, 0, 0, 0, 0, 0, 2], by decide +kernel⟩,
    ⟨wRegs [(⟨.UPD_STATUS, 0⟩, 0x400000)], wDescT 0 0 [], by decide +kernel⟩,
    ⟨{ wRegs [] with upd := { phase := 1 } }, wDescT 0 0 [], by decide +kernel⟩,
    ⟨{ wRegs [] with upd := { stage := some (.h1, 64) } }, wDescT 0 0 [], by decide +kernel⟩,
    ⟨wRun, wDescT 0 64 [1], [], _, by decide +kernel, by decide +kernel, by decide +kernel, by decide +kernel, by decide +kernel, rfl, by decide +kernel⟩,
    ⟨wRun, wDescT 0 64 [], [], false, _, by decide +kernel, by decide +kernel, by decide +kernel, by decide +kernel, by decide +kernel, rfl, by decide +kernel, by decide +kernel⟩,
    ⟨wRun, wDescT 0 64 [0, 0, 0, 0, 64], List.replicate 64 1, true, _, by decide +kernel, by decide +kernel, by decide +kernel, by decide +kernel, by decide +kernel, rfl, by decide +kernel, by decide +kernel, by decide +kernel⟩,
    ⟨wRun, wDescT 0 64 [0, 0, 0, 0, 64, 0, 0, 0, 1], List.replicate 64 1, true, _, _, by decide +kernel, by decide +kernel, by decide +kernel, by decide +kernel, by decide +kernel, rfl, by decide +kernel, by decide +kernel, by decide +kernel, rfl⟩,
    ⟨wRun, wDescT 0 0 [1, 2], 25, by decide +kernel⟩,
    ⟨wRun, wDescT 0 0 [2, 2], 25, by decide +kernel⟩,
    ⟨wRun, wDescT 0 0 [4, 2], 25, by decide +kernel⟩,
    ⟨wRun, wDescT 0 0 [3, 2], 25, by decide +kernel⟩,
    ⟨wRun, wDescT 0 0 [1], 1, by decide +kernel⟩,
    ⟨{ wRegs [(⟨.ENG_STATE, 1⟩, 2), (⟨.DRV_WDT, 0⟩, 4)] with upd := { roleB := 1, imgB := List.replicate 13 0 ++ [2] } }, wDescT 0 0 [1], {}, List.replicate 13 0 ++ [2], by decide +kernel⟩,
    ⟨wRun, 0, by decide +kernel⟩,
    ⟨{ wRegs [] with upd := { phase := 3 } }, 900, by decide +kernel⟩,
    ⟨wRun, wDescT 0 0 [2], 1, by decide +kernel⟩,
    ⟨{ wRegs [] with upd := { roleB := 1 } }, wDescT 0 0 [2], 1, _, by decide +kernel, by decide +kernel, by decide +kernel, by decide +kernel, rfl⟩,
    ⟨wRun, wDescT 0 0 [3, 0, 1], by decide +kernel⟩,
    ⟨{ wFirn with upd := { roleB := 1, imgB := [0, 0, 0, 0, 0, 0, 1] ++ List.replicate 57 0 ++ [5], cfgDue := [(wRun.ticket wDesc, {}, 1)] } }, wDescT 0 0 [3, 0, 1], 0, by decide +kernel⟩,
    ⟨{ wFirn with upd := { roleB := 1, imgB := [0, 0, 0, 0, 0, 0, 1] ++ List.replicate 57 0 ++ [5] } }, wDescT 0 0 [3, 0, 1], 0, true, true, 0, _, _, by decide +kernel, by decide +kernel, by decide +kernel, by decide +kernel, rfl, rfl⟩,
    ⟨wRun, wDescT 0 0 [], by decide +kernel⟩,
    ⟨{ wRegs [(⟨.UPD_STATUS, 0⟩, 0x400000)] with upd := { roleA := 4 } }, wDescT 0 0 [], 0, by decide +kernel⟩,
    ⟨wRun, by decide +kernel⟩,
    ⟨{ wRegs [(⟨.UPD_STATUS, 0⟩, 0x400000)] with upd := {  } }, by decide +kernel⟩,
    ⟨{ wRegs [] with upd := { resident := true } }, by decide +kernel⟩,
    ⟨wRun, _, by decide +kernel, rfl⟩,
    ⟨wRun, wDescT 0 0 [4], by decide +kernel⟩,
    ⟨{ wRegs [(⟨.UPD_STATUS, 0⟩, 0x400000)] with upd := { phase := 1 } }, wDescT 0 0 [4], by decide +kernel⟩,
    ⟨{ wRegs [(⟨.UPD_STATUS, 0⟩, 0x400000)] with upd := { cfgDue := [(wRun.ticket wDesc, {}, 1)] } }, wDescT 0 0 [4], by decide +kernel⟩,
    ⟨{ wRegs [(⟨.UPD_STATUS, 0⟩, 0x400000)] with upd := { resident := true } }, wDescT 0 0 [4], by decide +kernel⟩,
    ⟨wRun, by decide +kernel⟩,
    ⟨{ wRegs [(⟨.UPD_STATUS, 0⟩, 0x400000)] with upd := {  } }, by decide +kernel⟩,
    ⟨{ wRegs [(⟨.UPD_STATUS, 0⟩, 0x400000)] with upd := { cfgDue := [(wRun.ticket wDesc, {}, 1)] } }, by decide +kernel⟩,
    ⟨{ wRegs [] with upd := { cfgDue := [(wRun.ticket wDesc, {}, 1)] } }, by decide +kernel⟩,
    ⟨wRun, wDescT 0 256 [], [], true, ⟨stImage, 1, some 0xFFFFFFFF⟩, by decide +kernel⟩,
    ⟨wEng [(⟨.UPD_STATUS, 0⟩, 0x400000)], wDescT 0 256 [], wConf, [], true, false, _, ⟨stCapacity, 2, none⟩, by decide +kernel, by decide +kernel, by decide +kernel, rfl⟩,
    ⟨wEng [], wDescT 0 256 [], wConf, [], true, true, _, _, by decide +kernel, by decide +kernel, by decide +kernel, rfl⟩,
    ⟨wRun, by decide +kernel⟩,
    ⟨{ State.reset with upd := { cfgDue := [(wRun.ticket wDesc, {}, 1)] } }, wRun.ticket wDesc, {}, 1, [], by decide +kernel⟩,
    ⟨{ wRegs [] with upd := { cfgDue := [(wRun.ticket wDesc, {}, 1)] } }, _, wRun.ticket wDesc, {}, 1, [], by decide +kernel, by decide +kernel, by decide +kernel, by decide +kernel, rfl⟩⟩

set_option maxRecDepth 20000 in
/-- States and operands that meet the hypotheses of each clause of StepRunsFront. -/
theorem witness_StepRunsFront :
    (∃ (s : State) (c : Instr) (r : List Instr), (s.pending = c :: r)) ∧
    (∃ (s : State), (s.pending = [])) :=
  ⟨⟨{ wRun with pending := [.vokSet] }, .vokSet, [], by decide +kernel⟩,
    ⟨wRun, by decide +kernel⟩⟩

set_option maxRecDepth 20000 in
/-- States and operands that meet the hypotheses of each clause of ResetState. -/
theorem witness_ResetState :
    (∃ (r : Reg) (i : Nat), (¬(r = .RST_CAUSE ∧ i = 0))) :=
  ⟨.SYS_ID, 0, by decide +kernel⟩

set_option maxRecDepth 20000 in
/-- States and operands that meet the hypotheses of each clause of MemoryForm. -/
theorem witness_MemoryForm :
    (∃ (s : State) (t : State), (s.memOk) ∧ (step s = .next t)) :=
  ⟨State.reset, State.reset, ⟨rfl, rfl⟩⟩

end Sys2Proof.Machine
end

section
/-!
PROOFS. Accumulators and reset: what an addition leaves in a table of counters, and what every register holds right after reset.
-/
namespace Sys2Proof.Machine

/-! ### Accumulators (R30, R345, R348, R349, R440) -/

theorem accGet_accAdd_same (a : Accs) (i v : Nat) (h : accGet a i < 2 ^ 128) :
    accGet (accAdd a i v) i = (accGet a i + v) % 2 ^ 128 := by
  unfold accAdd
  split
  next hv => rw [hv, Nat.add_zero, Nat.mod_eq_of_lt h]
  next => exact tabGet_tabSet_same _ _ _ _

theorem accGet_accAdd_other (a : Accs) {i j : Nat} (v : Nat) (h : i ≠ j) : accGet (accAdd a i v) j = accGet a j := by
  unfold accAdd
  split
  next => rfl
  next => exact tabGet_tabSet_other _ _ _ h.symm

theorem tabGet_unbAdd_same (a : List (Nat × Nat)) (q v : Nat) (h : tabGet 0 a q < 2 ^ 128) :
    tabGet 0 (unbAdd a q v) q = min (tabGet 0 a q + v) (2 ^ 128 - 1) := by
  unfold unbAdd
  split
  next hv => rw [hv, Nat.add_zero, Nat.min_eq_left (Nat.le_sub_one_of_lt h)]
  next => exact tabGet_tabSet_same _ _ _ _

theorem tabGet_unbAdd_other (a : List (Nat × Nat)) {q r : Nat} (v : Nat) (h : q ≠ r) :
    tabGet 0 (unbAdd a q v) r = tabGet 0 a r := by
  unfold unbAdd
  split
  next => rfl
  next => exact tabGet_tabSet_other _ _ _ h.symm

/-- What a block of direct current adds: active energy alone, to the position that its sign names (R348). -/
theorem cycleAdds_dc (x : CycleE) :
    cycleAdds x true = if x.e = 0 then [] else [(if 0 ≤ x.e then 0 else 1, x.e.natAbs)] := by
  by_cases h : 0 ≤ x.e <;> simp [cycleAdds, b2n, h]

/-- A cycle of alternating current adds, beyond what a block adds, to a quadrant and to apparent energy (R345). -/
theorem cycleAdds_ac (x : CycleE) :
    cycleAdds x false = cycleAdds x true ++
      [(if 0 ≤ x.e then (if 0 ≤ x.q then 2 else 5) else (if 0 ≤ x.q then 3 else 4), x.q.natAbs),
        (if 0 ≤ x.e then 6 else 7, x.sApp)] := by
  simp [cycleAdds]

/-- Settles O28: an addition is the identity for 0 and a table write else; the positions of a cycle follow the two signs. -/
theorem accumulators : Obligations.Accumulators :=
  ⟨accGet_accAdd_same, fun a _ _ v => accGet_accAdd_other a v, tabGet_unbAdd_same, fun a _ _ v => tabGet_unbAdd_other a v,
    fun x => ⟨cycleAdds_dc x, cycleAdds_ac x⟩⟩

/-! ### Right after reset (R5, R78, R110, R207) -/

theorem State.reset_regs : State.reset.regs = [(⟨.RST_CAUSE, 0⟩, 1)] := rfl

/-- Nothing but RST_CAUSE is listed after reset, so every other register stands at its reset value. -/
theorem State.reset_reg (r : Reg) (i : Nat) (h : ¬(r = .RST_CAUSE ∧ i = 0)) :
    State.reset.reg r i = BitVec.ofNat 32 r.info.reset := by
  have hk : (⟨.RST_CAUSE, 0⟩ : RegKey) ≠ ⟨r, i⟩ := by
    intro e
    obtain ⟨hr, hi⟩ := RegKey.mk.inj e
    exact h ⟨hr.symm, hi.symm⟩
  simp [State.reg, State.reset_regs, tabGet, tabFind, hk]

/-- RST_CAUSE.POR alone is set (R78). -/
theorem State.reset_rstCause : State.reset.reg .RST_CAUSE 0 = 1 := rfl

/-- Settles O58: the state after reset lists one register and nothing in memory or in the queue. -/
theorem resetState : Obligations.ResetState :=
  ⟨State.reset_reg, ⟨State.reset_rstCause, rfl, rfl, rfl, rfl, rfl⟩, rfl, rfl, fun _ => rfl⟩

end Sys2Proof.Machine
end

section
/-!
PROOFS. Accesses: who reaches a register or the scratchpad aperture, and what the access leaves (R21 to R25, R215).
-/
namespace Sys2Proof.Machine

/-! ### Reaching an address -/

/-- An access to a present unit of a domain that is on is carried out (R11, R119). -/
theorem State.served_reaches {s : State} {w : Accessor} {a : Nat} (k : State → State) (hrun : s.dieRuns .cdie = true)
    (hpresent : s.absentAt a = false) (hon : s.offAt w a = false) : s.served w a k = k (s.touched (w != .firmware) a) := by
  simp [State.served, hrun, hpresent, hon]

/-- Firmware's access is no wake source (R87). -/
@[simp] theorem State.touched_inner (s : State) (a : Nat) : s.touched false a = s := rfl

/-- Outside Sleep no access is a wake source (R87). -/
theorem State.touched_awake {s : State} (b : Bool) (a : Nat) (h : s.pwr ≤ 1) : s.touched b a = s := by
  have hp : (s.pwr == 2) = false := by simp; omega
  simp [State.touched, hp]

theorem State.served_firmware {s : State} {a : Nat} (k : State → State) (hrun : s.dieRuns .cdie = true)
    (hpresent : s.absentAt a = false) (hon : s.offAt .firmware a = false) : s.served .firmware a k = k s :=
  s.served_reaches k hrun hpresent hon

theorem State.served_awake {s : State} {w : Accessor} {a : Nat} (k : State → State) (hawake : s.pwr ≤ 1)
    (hrun : s.dieRuns .cdie = true) (hpresent : s.absentAt a = false) (hon : s.offAt w a = false) : s.served w a k = k s := by
  rw [s.served_reaches k hrun hpresent hon, s.touched_awake _ _ hawake]

/-- At an address of a register outside slots, host blocks and the aperture, a served write reaches that register (R22). -/
theorem State.writeAt_reg {s : State} {w : Accessor} {a : Nat} {r : Reg} {i : Nat} (v : W32) (rd : DmaRead)
    (hserved : ∀ k, s.served w a k = k s) (hslot : slotAt a = none) (hblock : hostBlock a = none)
    (haper : ¬(0x1C0000 ≤ a ∧ a < 0x200000)) (hreg : s.regAt w a = some (r, i)) : s.writeAt w a v rd = s.regWrite w r i v := by
  have hb : (decide (0x1C0000 ≤ a) && decide (a < 0x200000)) = false := by simpa using haper
  simp [State.writeAt, hserved, hslot, hblock, hb, hreg]

/-- Firmware's read of a register answers its word and clears what a read clears (R25). -/
theorem State.readAt_reg {s : State} {a : Nat} {r : Reg} {i : Nat} (occ : W32) (halign : a % 4 = 0) (hrun : s.dieRuns .cdie = true)
    (hpresent : s.absentAt a = false) (hon : s.offAt .firmware a = false) (hslot : slotAt a = none)
    (hreg : s.regAt .firmware a = some (r, i)) :
    s.readAt .firmware a occ = (s.readClears r i occ).emit (.readValue (s.wordAt .firmware a)) := by
  have ha : a / 4 * 4 = a := by omega
  simp [State.readAt, ha, hrun, hpresent, hon, hslot, hreg]

theorem State.readClears_none {s : State} {r : Reg} (i : Nat) (occ : W32) (h : BitVec.ofNat 32 r.info.rc = 0) :
    s.readClears r i occ = s := by simp [State.readClears, h]

theorem State.readClears_plain {s : State} {r : Reg} (i : Nat) (occ : W32) (hrc : BitVec.ofNat 32 r.info.rc ≠ 0)
    (hm : mirrored r = false) : s.readClears r i occ =
      s.setReg r i (((s.reg r i) &&& ~~~(BitVec.ofNat 32 r.info.rc)) ||| (occ &&& BitVec.ofNat 32 r.info.rc)) := by
  have h0 : BitVec.ofNat 32 r.info.rc ≠ 0#32 := hrc
  simp [State.readClears, h0, hm]

/-! ### Writes -/

/-- A write that does not enable all four bytes is discarded (R21). -/
theorem execRegisterWrite_discards {be : BitVec 4} (w : Accessor) (a : Nat) (v : W32) (rd : DmaRead) (s : State) (h : be ≠ 15) :
    execRegisterWrite w a be v rd s = .next s := by
  have hb : decide (be ≠ 15) = true := decide_eq_true h
  simp only [execRegisterWrite, hb, Bool.or_true, if_true]

theorem execRegisterWrite_firmware {a : Nat} (v : W32) (rd : DmaRead) (s : State) (h : a % 4 = 0) :
    execRegisterWrite .firmware a 15 v rd s = .next (s.writeAt .firmware a v rd) := by
  simp [execRegisterWrite, h]

theorem execRegisterWrite_host {a : Nat} (p : Port) (v : W32) (rd : DmaRead) (s : State) (h : a % 4 = 0) (hb : a < 0x1000000) :
    execRegisterWrite (.host p) a 15 v rd s = .next (s.writeAt (.host p) a v rd) := by
  simp [execRegisterWrite, h, Nat.not_le_of_lt hb]

/-- PWR_ALARM_LO is writable in every bit (R23). -/
theorem State.regWrite_pwrAlarmLo (s : State) (w : Accessor) (v : W32) : (s.regWrite w .PWR_ALARM_LO 0 v).reg .PWR_ALARM_LO 0 = v := by
  have hrw : BitVec.ofNat 32 (Reg.info .PWR_ALARM_LO).rw = BitVec.allOnes 32 := rfl
  have hw1c : BitVec.ofNat 32 (Reg.info .PWR_ALARM_LO).w1c = 0#32 := rfl
  have hkeep : s.regWrite w .PWR_ALARM_LO 0 v
      = s.setReg .PWR_ALARM_LO 0 (writeValue (Reg.info .PWR_ALARM_LO) (s.reg .PWR_ALARM_LO 0) v) := rfl
  simp only [hkeep, State.reg_setReg_same, writeValue, hrw, hw1c, BitVec.and_allOnes, BitVec.not_allOnes, BitVec.and_zero,
    BitVec.zero_or, BitVec.not_zero]

/-- Firmware clears, of the sticky bits written 1, those that the module does not set in the same cycle (R24). -/
theorem execStickyBitClear_firmware {s : State} {a : Nat} {r : Reg} {i : Nat} (v sn : W32) (halign : a % 4 = 0)
    (hrun : s.dieRuns .cdie = true) (hpresent : s.absentAt a = false) (hon : s.offAt .firmware a = false)
    (hblock : hostBlock a = none) (hreg : s.regAt .firmware a = some (r, i)) (hw1c : BitVec.ofNat 32 r.info.w1c ≠ 0) :
    execStickyBitClear .firmware a v sn s = .next ((s.setReg r i (((s.reg r i) &&& ~~~(v &&& BitVec.ofNat 32 r.info.w1c))
      ||| (sn &&& BitVec.ofNat 32 r.info.w1c))).clearedWith r (v &&& ~~~sn)) := by
  have h0 : BitVec.ofNat 32 r.info.w1c ≠ 0#32 := hw1c
  simp [execStickyBitClear, halign, s.served_firmware _ hrun hpresent hon, hreg, h0, hblock]

/-! ### The scratchpad aperture (R215) -/

/-- A served write through an open aperture stores the enabled bytes. -/
theorem execSpadApertureAccess_write {s : State} {p : Port} {off a : Nat} (be : BitVec 4) (v : W32) (rv : List Nat)
    (hoff : off < 0x40000) (hserved : ∀ k, s.served (.host p) (0x1C0000 + off) k = k s)
    (hopen : s.aperture p (off / 4 * 4) = some a) : execSpadApertureAccess p off (some (be, v)) rv s =
      .next ((upTo 4).foldl (fun s k => if be.getLsbD k then s.memStore 256 (a + k) [BitVec.ofNat 8 (bitsAt v.toNat (8 * k) 8)] else s)
        (s.bankGrant 256 a rv)) := by
  simp [execSpadApertureAccess, Nat.mod_eq_of_lt hoff, hserved, State.aperWrite, hopen]

/-- A read through an open aperture answers the word. -/
theorem execSpadApertureAccess_read {s : State} {p : Port} {off a : Nat} (rv : List Nat) (hoff : off < 0x40000)
    (hrun : s.dieRuns .cdie = true) (hon : s.offAt (.host p) (0x1C0000 + off) = false)
    (hopen : s.aperture p (off / 4 * 4) = some a) : execSpadApertureAccess p off none rv s =
      .next ((s.bankGrant 256 a rv).emit (.readValue (BitVec.ofNat 32 (leNat (memReadL s.mem a 4))))) := by
  simp [execSpadApertureAccess, State.aperRead, Nat.mod_eq_of_lt hoff, hrun, hon, hopen]

/-- A read where the aperture opens onto no application cluster is refused, and answers 0. -/
theorem execSpadApertureAccess_refused {s : State} {p : Port} {off : Nat} (rv : List Nat) (hoff : off < 0x40000)
    (hrun : s.dieRuns .cdie = true) (hon : s.offAt (.host p) (0x1C0000 + off) = false)
    (hshut : s.aperture p (off / 4 * 4) = none) : execSpadApertureAccess p off none rv s =
      .next ((s.put Fld.SPAD_APER__APER_REFUSED p.num 1).emit (.readValue 0)) := by
  simp [execSpadApertureAccess, State.aperRead, Nat.mod_eq_of_lt hoff, hrun, hon, hshut, State.aperRefused]

/-- Settles O15: each clause is the rule above for its access. -/
theorem registerAccess : Obligations.RegisterAccess := by
  unfold Obligations.RegisterAccess
  refine ⟨?discards, ?firmwareWrites, ?hostWrites, State.regWrite_pwrAlarmLo, ?clears, ?readClears, ?readKeeps, ?aperWrites,
    ?aperReads, ?aperRefuses⟩
  case discards => exact fun s w a be v rd h => execRegisterWrite_discards w a v rd s h
  case firmwareWrites =>
    intro s a r i v rd halign hrun hpresent hon hslot hblock haper hreg
    exact (execRegisterWrite_firmware v rd s halign).trans
      (congrArg _ (s.writeAt_reg v rd (fun k => s.served_firmware k hrun hpresent hon) hslot hblock haper hreg))
  case hostWrites =>
    intro s p a r i v rd halign hbelow hawake hrun hpresent hon hslot hblock hreg
    exact (execRegisterWrite_host p v rd s halign (by omega)).trans
      (congrArg _ (s.writeAt_reg v rd (fun k => s.served_awake k hawake hrun hpresent hon) hslot hblock (by omega) hreg))
  case clears =>
    intro s a r i v sn halign hrun hpresent hon hblock hreg hw1c
    exact execStickyBitClear_firmware v sn halign hrun hpresent hon hblock hreg hw1c
  case readClears =>
    intro s a r i occ halign hrun hpresent hon hslot hreg hrc hm
    change Host.Outcome.next (s.readAt .firmware a occ) = _
    rw [s.readAt_reg occ halign hrun hpresent hon hslot hreg, s.readClears_plain i occ hrc hm]
  case readKeeps =>
    intro s a r i occ halign hrun hpresent hon hslot hreg hrc
    change Host.Outcome.next (s.readAt .firmware a occ) = _
    rw [s.readAt_reg occ halign hrun hpresent hon hslot hreg, s.readClears_none i occ hrc]
  case aperWrites =>
    intro s p off a be v rv hoff hawake hrun hpresent hon hopen
    exact execSpadApertureAccess_write be v rv hoff (fun k => s.served_awake k hawake hrun hpresent hon) hopen
  case aperReads => exact fun s p off a rv hoff hrun hon hopen => execSpadApertureAccess_read rv hoff hrun hon hopen
  case aperRefuses => exact fun s p off rv hoff hrun hon hshut => execSpadApertureAccess_refused rv hoff hrun hon hshut

end Sys2Proof.Machine
end

section
/-!
PROOFS. The frame of an operation: what it leaves of the queue, of what is fixed at manufacture (R9) and of the addressed memory (R207).
-/
namespace Sys2Proof.Machine

/-- What every command leaves as it was (the queue, the variant and the stepping), with the addressed memory, which only those that
store change. -/
def State.frame (s : State) : (List Instr × Variant × Nat) × List Host.Cell := ((s.pending, s.variant, s.stepping), s.mem)

/-- A state written out field by field, as an update of one or more fields writes it. -/
@[simp] theorem State.frame_mk {p v st a1 a2 a3 a4 m b1 b2 b3 b4 b5 b6 b7 b8 b9 b10 b11 b12 b13 b14 b15 b16 b17 b18 b19 b20 b21 b22 b23
    b24 b25 b26 b27 b28 b29 b30 b31 b32 b33 b34 b35 b36 b37} :
    State.frame ⟨p, v, st, a1, a2, a3, a4, m, b1, b2, b3, b4, b5, b6, b7, b8, b9, b10, b11, b12, b13, b14, b15, b16, b17, b18, b19, b20,
      b21, b22, b23, b24, b25, b26, b27, b28, b29, b30, b31, b32, b33, b34, b35, b36, b37⟩ = ((p, v, st), m) := by rw [State.frame]

@[simp] theorem State.frame_fold (s : State) : ((s.pending, s.variant, s.stepping), s.mem) = s.frame := by rw [State.frame]

theorem State.frame_fst (s : State) : (s.pending, s.variant, s.stepping) = s.frame.1 := by rw [State.frame]

theorem State.pending_of_frame {s t : State} (h : t.frame.1 = s.frame.1) : t.pending = s.pending := congrArg (·.1) h
theorem State.variant_of_frame {s t : State} (h : t.frame.1 = s.frame.1) : t.variant = s.variant := congrArg (·.2.1) h
theorem State.stepping_of_frame {s t : State} (h : t.frame.1 = s.frame.1) : t.stepping = s.stepping := congrArg (·.2.2) h
theorem State.mem_of_frame {s t : State} (h : t.frame = s.frame) : t.mem = s.mem := congrArg Prod.snd h
theorem State.frame_of_rest {s t : State} (h : t.rest = s.rest) : t.frame = s.frame := by
  change t.rest.frame = s.rest.frame
  rw [h]

/-- The state that a pair holds, where the pair's first component is known to keep the frame. -/
theorem State.frame_of_fst {α : Type} {s t : State} {p : State × α} {a : α} (hp : p.1.frame = s.frame) (h : p = (t, a)) :
    t.frame = s.frame := by subst h; exact hp

@[simp] theorem State.frame_ite (c : Prop) [Decidable c] (s t : State) : (if c then s else t).frame = if c then s.frame else t.frame :=
  apply_ite State.frame c s t

@[simp] theorem State.foldl_frame {α : Type} (g : State → α → State) (h : ∀ s a, (g s a).frame = s.frame) (l : List α) (s : State) :
    (l.foldl g s).frame = s.frame := foldl_keeps g State.frame h l s

@[simp] theorem State.foldl_frame_fst {α : Type} (g : State → α → State) (h : ∀ s a, (g s a).frame.1 = s.frame.1) (l : List α)
    (s : State) : (l.foldl g s).frame.1 = s.frame.1 := foldl_keeps g (fun s => s.frame.1) h l s

/-- A choice between two states of one frame. -/
theorem State.frame_of_ite {c : Prop} [Decidable c] {s t u : State} (ht : t.frame = s.frame) (hu : u.frame = s.frame) :
    (if c then t else u).frame = s.frame := by split <;> assumption

/-- A command answers a next state with the frame of the state it ran on. -/
def Keeps (s : State) (r : Res) : Prop := ∃ t, r = .next t ∧ t.frame = s.frame

@[simp] theorem keeps_next (s t : State) : Keeps s (.next t) ↔ t.frame = s.frame := by simp [Keeps]
@[simp] theorem keeps_ite (s : State) (c : Prop) [Decidable c] (q r : Res) :
    Keeps s (if c then q else r) ↔ if c then Keeps s q else Keeps s r := by split <;> rfl

/-- A command answers a next state with the queue, variant and stepping of the state it ran on. -/
def KeepsFixed (s : State) (r : Res) : Prop := ∃ t, r = .next t ∧ t.frame.1 = s.frame.1

@[simp] theorem keepsFixed_next (s t : State) : KeepsFixed s (.next t) ↔ t.frame.1 = s.frame.1 := by simp [KeepsFixed]
@[simp] theorem keepsFixed_ite (s : State) (c : Prop) [Decidable c] (q r : Res) :
    KeepsFixed s (if c then q else r) ↔ if c then KeepsFixed s q else KeepsFixed s r := by split <;> rfl


end Sys2Proof.Machine
end

section
/-!
PROOFS. What each operation of the model and each command keeps of the frame, one lemma for each, in the order of the definitions:
`foo_frame` of an operation and `execFoo_keeps` of a command that change neither the fixed part nor memory, `foo_frame_fst` and
`execFoo_keepsFixed` of those that store.
-/
namespace Sys2Proof.Machine

/-! ### Machine/Ops.lean -/

@[simp] theorem State.setReg_frame (s : State) (r : Reg) (i : Nat) (v : W32) : (s.setReg r i v).frame = s.frame :=
  State.frame_of_rest (State.rest_setReg _ _ _ _)
@[simp] theorem State.put_frame (s : State) (f : Fld) (i : Nat) (v : Nat) : (s.put f i v).frame = s.frame :=
  State.frame_of_rest (State.rest_put _ _ _ _)
@[simp] theorem State.putB_frame (s : State) (f : Fld) (i : Nat) (b : Bool) : (s.putB f i b).frame = s.frame :=
  State.frame_of_rest (State.rest_putB _ _ _ _)
@[simp] theorem State.bump_frame (s : State) (f : Fld) (i : Nat) (n : Nat) : (s.bump f i n).frame = s.frame :=
  State.frame_of_rest (State.rest_bump _ _ _ _)
@[simp] theorem State.resetRegs_frame (s : State) (p : RegKey → Bool) : (s.resetRegs p).frame = s.frame := by simp [State.resetRegs]
@[simp] theorem State.drawWord_frame (s : State) : s.drawWord.2.frame = s.frame := by simp [State.drawWord]
@[simp] theorem State.drawBelow_frame (s : State) (n : Nat) : (s.drawBelow n).2.frame = s.frame := by simp [State.drawBelow]
/-- A store changes the memory alone. -/
@[simp] theorem State.setMem_frame (s : State) (m : List Host.Cell) : (s.setMem m).frame = (s.frame.1, m) := rfl
@[simp] theorem State.emit_frame (s : State) (o : Out) : (s.emit o).frame = s.frame := State.frame_of_rest (State.rest_emit _ _)
@[simp] theorem State.setHost_frame (s : State) (p : Port) (h : HostSt) : (s.setHost p h).frame = s.frame :=
  State.frame_of_rest (State.rest_setHost _ _ _)
@[simp] theorem State.setSq_frame (s : State) (p : Port) (q : Nat) (r : Ring) : (s.setSq p q r).frame = s.frame :=
  State.frame_of_rest (State.rest_setSq _ _ _ _)
@[simp] theorem State.setCq_frame (s : State) (p : Port) (q : Nat) (r : Ring) : (s.setCq p q r).frame = s.frame :=
  State.frame_of_rest (State.rest_setCq _ _ _ _)
@[simp] theorem State.sendMsix_frame (s : State) (p : Port) (v : Nat) : (s.sendMsix p v).frame = s.frame :=
  State.frame_of_rest (State.sendMsix_rest _ _ _)
@[simp] theorem State.msixRelease_frame (s : State) (p : Port) : (s.msixRelease p).frame = s.frame :=
  State.frame_of_rest (State.msixRelease_rest _ _)
@[simp] theorem State.signal_frame (s : State) (p : Port) (v : Nat) : (s.signal p v).frame = s.frame :=
  State.frame_of_rest (State.signal_rest _ _ _)
@[simp] theorem State.writeEntry_frame (s : State) (p : Port) (c : Nat) (e : Entry) (now : Bool) :
    (s.writeEntry p c e now).frame = s.frame :=
  State.frame_of_rest (State.writeEntry_rest _ _ _ _ _)
@[simp] theorem State.loseEvent_frame (s : State) (p : Port) : (s.loseEvent p).frame = s.frame :=
  State.frame_of_rest (State.loseEvent_rest _ _)
@[simp] theorem State.reportLost_frame (s : State) (p : Port) : (s.reportLost p).frame = s.frame :=
  State.frame_of_rest (State.reportLost_rest _ _)
@[simp] theorem State.entryNow_frame (s : State) (p : Port) (x : Nat × Entry) : (s.entryNow p x).frame = s.frame :=
  State.frame_of_rest (State.entryNow_rest _ _ _)
@[simp] theorem State.flushReady_frame (s : State) : s.flushReady.frame = s.frame := State.frame_of_rest (State.flushReady_rest _)
@[simp] theorem State.entryFrom_frame (s : State) (src : Nat) (p : Port) (x : Nat × Entry) : (s.entryFrom src p x).frame = s.frame :=
  State.frame_of_rest (State.entryFrom_rest _ _ _ _)
@[simp] theorem State.entryTo_frame (s : State) (p : Port) (x : Nat × Entry) : (s.entryTo p x).frame = s.frame :=
  State.frame_of_rest (State.entryTo_rest _ _ _)
@[simp] theorem State.entryRoute_frame (s : State) (src : Nat) (p : Option Port) (x : Nat × Entry) :
    (s.entryRoute src p x).frame = s.frame :=
  State.frame_of_rest (State.entryRoute_rest _ _ _ _)
@[simp] theorem State.eventTo_frame (s : State) (p : Port) (e : Event) : (s.eventTo p e).frame = s.frame :=
  State.frame_of_rest (State.eventTo_rest _ _ _)
@[simp] theorem State.wakeSource_frame (s : State) (n : Nat) : (s.wakeSource n).frame = s.frame :=
  State.frame_of_rest (State.wakeSource_rest _ _)
@[simp] theorem State.postBoth_frame (s : State) (e : Event) : (s.postBoth e).frame = s.frame :=
  State.frame_of_rest (State.postBoth_rest _ _)
@[simp] theorem State.postTo_frame (s : State) (p : Port) (e : Event) : (s.postTo p e).frame = s.frame :=
  State.frame_of_rest (State.postTo_rest _ _ _)
@[simp] theorem State.postSlice_frame (s : State) (p : Nat) (e : Event) : (s.postSlice p e).frame = s.frame :=
  State.frame_of_rest (State.postSlice_rest _ _ _)
@[simp] theorem State.postSwitch_frame (s : State) (n : Nat) (e : Event) : (s.postSwitch n e).frame = s.frame :=
  State.frame_of_rest (State.postSwitch_rest _ _ _)
@[simp] theorem State.postAnt_frame (s : State) (n : Nat) (e : Event) : (s.postAnt n e).frame = s.frame :=
  State.frame_of_rest (State.postAnt_rest _ _ _)
@[simp] theorem State.stickyOf_frame (s : State) (p : Port) (status : Nat) : (s.stickyOf p status).frame = s.frame :=
  State.frame_of_rest (State.stickyOf_rest _ _ _)
@[simp] theorem State.drained_frame (s : State) (p : Port) : (s.drained p).frame = s.frame := State.frame_of_rest (State.drained_rest _ _)
@[simp] theorem State.landed_frame (s : State) (t : Ticket) : (s.landed t).frame = s.frame := State.frame_of_rest (State.landed_rest _ _)
@[simp] theorem State.writeCpl_frame (s : State) (c : Cpl) : (s.writeCpl c).frame = s.frame :=
  State.frame_of_rest (State.writeCpl_rest _ _)
@[simp] theorem State.kyAnswer_frame (s : State) (n : Nat) (owner : Port) (status result : Nat) :
    (s.kyAnswer n owner status result).frame = s.frame := by
  simp [State.kyAnswer]
@[simp] theorem State.complete_frame (s : State) (c : Cpl) : (s.complete c).frame = s.frame := by
  simp only [State.complete]
  split <;> simp
@[simp] theorem State.releaseHeld_frame (s : State) (p : Port) : (s.releaseHeld p).frame = s.frame :=
  State.frame_of_rest (State.releaseHeld_rest _ _)
@[simp] theorem State.crossingFailed_frame (s : State) (init xid addr : Nat) (off : Bool) :
    (s.crossingFailed init xid addr off).frame = s.frame :=
  State.frame_of_rest (State.crossingFailed_rest _ _ _ _ _)
@[simp] theorem State.setPower_frame (s : State) (p : PowerSt) : (s.setPower p).frame = s.frame := by simp [State.setPower]
@[simp] theorem State.setBoot_frame (s : State) (b : BootSt) : (s.setBoot b).frame = s.frame := by simp [State.setBoot]

/-! ### Machine/Descriptor.lean -/

@[simp] theorem State.takeOff_frame (s : State) (p : Port) (q : Nat) : (s.takeOff p q).frame = s.frame :=
  State.frame_of_rest (State.takeOff_rest _ _ _)
@[simp] theorem State.dropFetched_frame (s : State) (p : Port) (f : Fetched) : (s.dropFetched p f).frame = s.frame := by
  simp [State.dropFetched]
@[simp] theorem State.runTaken_frame (s : State) (op : Nat) (d : Desc) (k : Ticket → State → State)
    (h : ∀ a s, (k a s).frame = s.frame) : (s.runTaken op d k).frame = s.frame := by
  simp only [State.runTaken]
  split
  · simp
  · split <;> simp [h]
@[simp] theorem State.withDesc_frame (s : State) (op : Nat) (d : Desc) (k : Ticket → State → State)
    (h : ∀ a s, (k a s).frame = s.frame) : (s.withDesc op d k).frame = s.frame := by
  simp only [State.withDesc]
  repeat' split
  all_goals simp [h]
@[simp] theorem State.withRead_frame (s : State) (t : Ticket) (d : Desc) (rd : DmaRead) (k : List Byte → State → State)
    (h : ∀ a s, (k a s).frame = s.frame) : (s.withRead t d rd k).frame = s.frame := by
  simp only [State.withRead]
  split <;> simp [h]
@[simp] theorem State.fin_frame (s : State) (t : Ticket) (status : Nat) (result : Nat) : (s.fin t status result).frame = s.frame := by
  simp [State.fin]
@[simp] theorem State.writeBuf_frame (s : State) (d : Desc) (bytes : List Byte) : (s.writeBuf d bytes).frame = s.frame := by
  simp [State.writeBuf]

/-! ### Machine/HostPort.lean -/

@[simp] theorem State.setRing_frame (s : State) (p : Port) (isCq : Bool) (q : Nat) (r : Ring) :
    (s.setRing p isCq q r).frame = s.frame := by
  simp [State.setRing]
@[simp] theorem State.sqError_frame (s : State) (p : Port) (q cause : Nat) : (s.sqError p q cause).frame = s.frame := by
  simp [State.sqError]
@[simp] theorem execRingEnable_keeps (p : Port) (rec : DmaRead) (s : State) : Keeps s (execRingEnable p rec s) := by
  simp only [execRingEnable]
  split
  · simp
  · split
    · simp
    · split <;> simp
@[simp] theorem execRingDisable_keeps (p : Port) (s : State) : Keeps s (execRingDisable p s) := by simp [execRingDisable]
@[simp] theorem execRingClearError_keeps (p : Port) (s : State) : Keeps s (execRingClearError p s) := by simp [execRingClearError]
@[simp] theorem execRingConfigWrite_keeps (p : Port) (w : RingReg) (v : W32) (s : State) : Keeps s (execRingConfigWrite p w v s) := by
  simp [execRingConfigWrite]
@[simp] theorem execWindowWrite_keeps (p : Port) (w : Nat) (x : WinReg) (v : W32) (s : State) : Keeps s (execWindowWrite p w x v s) := by
  simp only [execWindowWrite]
  split
  · simp
  · split <;> simp
@[simp] theorem State.cqError_frame (s : State) (p : Port) (c : Nat) : (s.cqError p c).frame = s.frame := by simp [State.cqError]
@[simp] theorem State.recheckRings_frame (s : State) (p : Port) : (s.recheckRings p).frame = s.frame := by simp [State.recheckRings]
@[simp] theorem execHostEnable_keeps (p : Port) (poll : Byte) (idle : W16) (s : State) : Keeps s (execHostEnable p poll idle s) := by
  simp [execHostEnable]
@[simp] theorem execHostDisable_keeps (p : Port) (poll : Byte) (idle : W16) (s : State) : Keeps s (execHostDisable p poll idle s) := by
  simp [execHostDisable]
@[simp] theorem State.readHead_frame (s : State) (p : Port) (c : Nat) (x : DmaRead) : (s.readHead p c x).frame = s.frame := by
  simp only [State.readHead]
  split <;> simp
@[simp] theorem State.takeSlot_frame (s : State) (p : Port) (q : Nat) (op : Nat) (d : Desc) : (s.takeSlot p q op d).frame = s.frame := by
  simp only [State.takeSlot]
  split
  · simp
  · split <;> simp
@[simp] theorem State.fetchSlots_frame (s : State) (p : Port) (q : Nat) (head : DmaRead) (x : List (Nat × Desc)) :
    (s.fetchSlots p q head x).frame = s.frame := by
  induction x generalizing s with
  | nil => rfl
  | cons x r ih => simp [State.fetchSlots, ih]
@[simp] theorem execSqPoll_keeps (p : Port) (q : Nat) (tail head : DmaRead) (slots : Option (List (Nat × Desc))) (s : State) :
    Keeps s (execSqPoll p q tail head slots s) := by
  simp only [execSqPoll]
  repeat' split
  all_goals simp
@[simp] theorem execSqIdleTimeout_keeps (p : Port) (q : Nat) (tail : DmaRead) (s : State) : Keeps s (execSqIdleTimeout p q tail s) := by
  simp only [execSqIdleTimeout]
  split
  · simp
  · split <;> simp
@[simp] theorem execSqKick_keeps (p : Port) (q : Nat) (tail : DmaRead) (s : State) : Keeps s (execSqKick p q tail s) := by
  simp only [execSqKick]
  split
  · simp
  · split
    · simp
    · split <;> simp
@[simp] theorem State.kicksDone_frame (s : State) (p : Port) : (s.kicksDone p).frame = s.frame := by simp [State.kicksDone]
@[simp] theorem execSqDrained_keeps (p : Port) (q : Nat) (s : State) : Keeps s (execSqDrained p q s) := by simp [execSqDrained]
@[simp] theorem State.resumeSqs_frame (s : State) (p : Port) (c : Nat) : (s.resumeSqs p c).frame = s.frame := by simp [State.resumeSqs]
@[simp] theorem execCqHeadPoll_keeps (p : Port) (c : Nat) (head : DmaRead) (s : State) : Keeps s (execCqHeadPoll p c head s) := by
  simp [execCqHeadPoll]
@[simp] theorem execInterruptModerationTimeout_keeps (p : Port) (c : Nat) (s : State) :
    Keeps s (execInterruptModerationTimeout p c s) := by
  simp [execInterruptModerationTimeout]
@[simp] theorem execMsixUnmask_keeps (p : Port) (v : Nat) (s : State) : Keeps s (execMsixUnmask p v s) := by simp [execMsixUnmask]
@[simp] theorem State.endFailover_frame (s : State) (p : Port) : (s.endFailover p).frame = s.frame := by simp [State.endFailover]
@[simp] theorem State.maybeEndFailover_frame (s : State) (p : Port) : (s.maybeEndFailover p).frame = s.frame := by
  simp [State.maybeEndFailover]
@[simp] theorem State.setHolding_frame (s : State) (p : Port) (bme d3 : Bool) : (s.setHolding p bme d3).frame = s.frame := by
  simp [State.setHolding]
@[simp] theorem execBusMasterEnable_keeps (p : Port) (s : State) : Keeps s (execBusMasterEnable p s) := by simp [execBusMasterEnable]
@[simp] theorem execFunctionD3hot_keeps (p : Port) (enter : Bool) (s : State) : Keeps s (execFunctionD3hot p enter s) := by
  simp [execFunctionD3hot]
@[simp] theorem execEventFailover_keeps (p : Port) (s : State) : Keeps s (execEventFailover p s) := by simp [execEventFailover]
@[simp] theorem execNop_keeps (d : Desc) (s : State) : Keeps s (execNop d s) := by simp [execNop]
@[simp] theorem execTimeSet_keeps (d : Desc) (s : State) : Keeps s (execTimeSet d s) := by simp [execTimeSet]

/-! ### Machine/Power.lean -/

@[simp] theorem execPwrDvfsWrite_keeps (w : W32) (s : State) : Keeps s (execPwrDvfsWrite w s) := by
  simp only [execPwrDvfsWrite]
  split
  · simp
  · split <;> simp
@[simp] theorem State.raiseStep_frame (s : State) : s.raiseStep.frame = s.frame := by
  simp only [State.raiseStep]
  split <;> simp
@[simp] theorem execVokSet_keeps (s : State) : Keeps s (execVokSet s) := by simp [execVokSet]
@[simp] theorem execFselInEffect_keeps (s : State) : Keeps s (execFselInEffect s) := by simp [execFselInEffect]
@[simp] theorem State.raisePoint_frame (s : State) (floor : Nat) : (s.raisePoint floor).frame = s.frame := by simp [State.raisePoint]
@[simp] theorem State.raiseAgain_frame (s : State) (due : Bool) : (s.raiseAgain due).frame = s.frame := by
  simp only [State.raiseAgain]
  split <;> simp
@[simp] theorem execWakePolWrite_keeps (v : W32) (s : State) : Keeps s (execWakePolWrite v s) := by simp [execWakePolWrite]
@[simp] theorem execAonAlarm_keeps (s : State) : Keeps s (execAonAlarm s) := by simp [execAonAlarm]
@[simp] theorem execWakePortAddressMatch_keeps (read : Bool) (s : State) : Keeps s (execWakePortAddressMatch read s) := by
  simp [execWakePortAddressMatch]
@[simp] theorem State.wakeAnswer_frame (s : State) (n : Nat) : (s.wakeAnswer n).frame = s.frame := by simp [State.wakeAnswer]
@[simp] theorem execWakePortDataByte_keeps (b : Byte) (s : State) : Keeps s (execWakePortDataByte b s) := by
  simp only [execWakePortDataByte]
  split
  · simp
  · split <;> simp
@[simp] theorem execWakeBufferRelease_keeps (s : State) : Keeps s (execWakeBufferRelease s) := by simp [execWakeBufferRelease]
@[simp] theorem execPreambleDetection_keeps (s : State) : Keeps s (execPreambleDetection s) := by simp [execPreambleDetection]
@[simp] theorem State.clockFault_frame (s : State) (f : Fld) (sev : Nat) : (s.clockFault f sev).frame = s.frame := by
  simp [State.clockFault]
@[simp] theorem State.stopDie_frame (s : State) (d : Die) : (s.stopDie d).frame = s.frame := by simp [State.stopDie]
@[simp] theorem State.startDie_frame (s : State) (d : Die) : (s.startDie d).frame = s.frame := by simp [State.startDie]
@[simp] theorem State.dropLink_frame (s : State) (l : Link) : (s.dropLink l).frame = s.frame := by simp [State.dropLink]
@[simp] theorem State.raiseLink_frame (s : State) (l : Link) : (s.raiseLink l).frame = s.frame := by simp [State.raiseLink]
@[simp] theorem State.rstCause_frame (s : State) (bit : Nat) : (s.rstCause bit).frame = s.frame := by simp [State.rstCause]
@[simp] theorem State.domainReset_frame (s : State) (bit : Nat) : (s.domainReset bit).frame = s.frame := by simp [State.domainReset]
@[simp] theorem State.domainReturned_frame (s : State) (bit : Nat) : (s.domainReturned bit).frame = s.frame := by
  simp [State.domainReturned]
@[simp] theorem execCorePllUnlock_keeps (s : State) : Keeps s (execCorePllUnlock s) := by simp [execCorePllUnlock]
@[simp] theorem execMemPllUnlock_keeps (s : State) : Keeps s (execMemPllUnlock s) := by simp [execMemPllUnlock]
@[simp] theorem execSerdesPllUnlock_keeps (s : State) : Keeps s (execSerdesPllUnlock s) := by simp [execSerdesPllUnlock]
@[simp] theorem execAonOscFail_keeps (s : State) : Keeps s (execAonOscFail s) := by simp [execAonOscFail]
@[simp] theorem execCrossingTimeout_keeps (init xid addr : Nat) (rd : Bool) (s : State) :
    Keeps s (execCrossingTimeout init xid addr rd s) := by
  simp [execCrossingTimeout]

/-! ### Machine/Keys.lean -/

@[simp] theorem State.setRime_frame (s : State) (r : RimeSt) : (s.setRime r).frame = s.frame := by simp [State.setRime]
@[simp] theorem State.loadCe_frame (s : State) (e src key : Nat) : (s.loadCe e src key).frame = s.frame := by simp [State.loadCe]
@[simp] theorem State.useKey_frame (s : State) (e n : Nat) : (s.useKey e n).frame = s.frame := by simp [State.useKey]
@[simp] theorem State.clearCe_frame (s : State) (n : Nat) : (s.clearCe n).frame = s.frame := by simp [State.clearCe]
@[simp] theorem State.keyCounts_frame (s : State) : s.keyCounts.frame = s.frame := by simp [State.keyCounts]
@[simp] theorem State.storeKey_frame (s : State) (n : Nat) (a : KeyAttr) (key : Nat) : (s.storeKey n a key).frame = s.frame := by
  simp [State.storeKey]
@[simp] theorem State.dropKey_frame (s : State) (n st : Nat) : (s.dropKey n st).frame = s.frame := by simp [State.dropKey]
@[simp] theorem State.orphanRound_frame (s : State) : s.orphanRound.1.frame = s.frame := by simp [State.orphanRound]
@[simp] theorem State.orphanTree_frame (k : Nat) (s : State) : (State.orphanTree k s).1.frame = s.frame := by
  induction k generalizing s with
  | zero => rfl
  | succ k ih => simp [State.orphanTree, ih]
@[simp] theorem State.raiseGen_frame (s : State) (n : Nat) : (s.raiseGen n).1.frame = s.frame := by simp [State.raiseGen]
@[simp] theorem State.useNodeKey_frame (s : State) (slot : Nat) (uid : Option Nat) : (s.useNodeKey slot uid).frame = s.frame := by
  simp [State.useNodeKey]

/-! ### Machine/Mailbox.lean -/

@[simp] theorem State.setCore_frame (s : State) (n : Nat) (e : Engine) : (s.setCore n e).frame = s.frame := by simp [State.setCore]
@[simp] theorem State.endIdle_frame (s : State) (n : Nat) : (s.endIdle n).frame = s.frame := by simp [State.endIdle]
@[simp] theorem State.engIrq_frame (s : State) (n code : Nat) : (s.engIrq n code).frame = s.frame := by simp [State.engIrq]
@[simp] theorem State.setChan_frame (s : State) (c : Chan) (m : Mbx) : (s.setChan c m).frame = s.frame := by simp [State.setChan]
@[simp] theorem State.notifyEnd_frame (s : State) (c : Chan) : (s.notifyEnd c).frame = s.frame := by
  simp only [State.notifyEnd]
  split <;> simp
@[simp] theorem State.ringDb_frame (s : State) (c : Chan) (bits : W32) : (s.ringDb c bits).frame = s.frame := by simp [State.ringDb]
@[simp] theorem State.mbxErr_frame (s : State) (e : MbxEnd) (f : Fld) : (s.mbxErr e f).frame = s.frame := by
  simp only [State.mbxErr]
  split <;> simp
@[simp] theorem State.postMsg_frame (s : State) (c : Chan) (bytes : List Byte) : (s.postMsg c bytes).frame = s.frame := by
  simp [State.postMsg]
@[simp] theorem State.arrive_frame (s : State) (c : Chan) (bytes : List Byte) : (s.arrive c bytes).frame = s.frame := by
  simp only [State.arrive]
  repeat' split
  all_goals simp
@[simp] theorem State.chanFree_frame (s : State) (c : Chan) : (s.chanFree c).frame = s.frame := by
  simp only [State.chanFree]
  split <;> simp
@[simp] theorem State.calmIrq_frame (s : State) (c : Chan) : (s.calmIrq c).frame = s.frame := by
  simp only [State.calmIrq]
  split <;> simp
@[simp] theorem State.clearDb_frame (s : State) (c : Chan) (bits : W32) : (s.clearDb c bits).frame = s.frame := by simp [State.clearDb]
@[simp] theorem State.mbxSend_frame (s : State) (e : MbxEnd) (c : Chan) (len : Nat) (payload : Option (List Byte)) :
    (s.mbxSend e c len payload).frame = s.frame := by
  simp only [State.mbxSend]
  split
  · simp
  · split
    · simp
    · split <;> simp
@[simp] theorem State.mbxAccess_frame (s : State) (e owner : MbxEnd) (c : Chan) (off : Nat) (k : State → State)
    (h : ∀ s, (k s).frame = s.frame) : (s.mbxAccess e owner c off k).frame = s.frame := by
  simp only [State.mbxAccess]
  repeat' split
  all_goals simp [h]
@[simp] theorem State.touched_frame (s : State) (host : Bool) (a : Nat) : (s.touched host a).frame = s.frame := by simp [State.touched]
@[simp] theorem State.mbxReach_frame (s : State) (e : MbxEnd) (c : Chan) (off : Nat) (k : State → State)
    (h : ∀ s, (k s).frame = s.frame) : (s.mbxReach e c off k).frame = s.frame := by
  simp only [State.mbxReach]
  repeat' split
  all_goals simp [h]
@[simp] theorem State.mbxMask_frame (s : State) (c : Chan) (v : W32) : (s.mbxMask c v).frame = s.frame := by simp [State.mbxMask]
@[simp] theorem execMbxSend_keeps (e : MbxEnd) (c : Chan) (len : Nat) (payload : Option (List Byte)) (clearNow : Bool)
    (s : State) : Keeps s (execMbxSend e c len payload clearNow s) := by
  simp [execMbxSend]
@[simp] theorem execMbxDbSet_keeps (e : MbxEnd) (c : Chan) (v : W32) (s : State) : Keeps s (execMbxDbSet e c v s) := by
  simp [execMbxDbSet]
@[simp] theorem execMbxDbClear_keeps (e : MbxEnd) (c : Chan) (v setNow : W32) (s : State) :
    Keeps s (execMbxDbClear e c v setNow s) := by
  simp [execMbxDbClear]
@[simp] theorem execMbxDbMaskWrite_keeps (e : MbxEnd) (c : Chan) (v : W32) (s : State) : Keeps s (execMbxDbMaskWrite e c v s) := by
  simp [execMbxDbMaskWrite]
@[simp] theorem State.slotWrite_frame (s : State) (e : MbxEnd) (c : Chan) (off : Nat) (v : W32) :
    (s.slotWrite e c off v).frame = s.frame := by
  simp only [State.slotWrite]
  repeat' split
  all_goals simp
@[simp] theorem State.sendRequest_frame (s : State) (t : Ticket) (d : Desc) (c : Chan) (rd : DmaRead) :
    (s.sendRequest t d c rd).frame = s.frame := by
  unfold State.sendRequest
  dsimp only
  split
  · simp
  · refine State.withRead_frame _ _ _ _ _ fun b s => ?_
    generalize [0, 0] ++ ((b ++ List.replicate 256 0).take (DescF.par d 0 2)).drop 2 = req
    split <;> simp
@[simp] theorem execFirnMsg_keeps (d : Desc) (rd : DmaRead) (s : State) : Keeps s (execFirnMsg d rd s) := by simp [execFirnMsg]
@[simp] theorem execSeracMsg_keeps (d : Desc) (rd : DmaRead) (s : State) : Keeps s (execSeracMsg d rd s) := by simp [execSeracMsg]
@[simp] theorem execAppMsg_keeps (d : Desc) (rd : DmaRead) (s : State) : Keeps s (execAppMsg d rd s) := by simp [execAppMsg]
@[simp] theorem execMailboxReplyTimeout_keeps (c : Chan) (seq : Nat) (s : State) : Keeps s (execMailboxReplyTimeout c seq s) := by
  simp only [execMailboxReplyTimeout]
  split <;> simp
@[simp] theorem State.linkLost_frame (s : State) (p : Chan → Bool) : (s.linkLost p).frame = s.frame := by simp [State.linkLost]
@[simp] theorem State.resetChans_frame (s : State) (p : Chan → Bool) : (s.resetChans p).frame = s.frame := by simp [State.resetChans]
@[simp] theorem State.resetFirnChans_frame (s : State) (d : Firn) : (s.resetFirnChans d).frame = s.frame := by simp [State.resetFirnChans]

/-! ### Machine/Engine.lean -/

@[simp] theorem State.engPut_frame (s : State) (f : Fld) (n v : Nat) : (s.engPut f n v).frame = s.frame := by simp [State.engPut]
@[simp] theorem State.engBump_frame (s : State) (f : Fld) (n : Nat) : (s.engBump f n).frame = s.frame := by simp [State.engBump]
@[simp] theorem State.setFcount_frame (s : State) (die v : Nat) : (s.setFcount die v).frame = s.frame := by simp [State.setFcount]
@[simp] theorem State.cycleFcount_frame (s : State) (die : Nat) (adj : Int) : (s.cycleFcount die adj).frame = s.frame := by
  simp [State.cycleFcount]
@[simp] theorem State.trap_frame (s : State) (n : Nat) (cause : Nat) (tval : W32) : (s.trap n cause tval).frame = s.frame := by
  simp [State.trap]
@[simp] theorem State.runs_frame {s : State} {n : Nat} {k : Engine → State → State} (h : ∀ e s, (k e s).frame = s.frame) :
    (s.runs n k).frame = s.frame := by
  unfold State.runs
  split
  · rfl
  · split <;> simp [h]

@[simp] theorem State.runs_frame_fst {s : State} {n : Nat} {k : Engine → State → State} (h : ∀ e s, (k e s).frame.1 = s.frame.1) :
    (s.runs n k).frame.1 = s.frame.1 := by
  unfold State.runs
  split
  · rfl
  · split <;> simp [h]
@[simp] theorem State.mpuRecord_frame (s : State) (n a : Nat) (k : AccKind) (reg : Option Nat) (boundary : Bool) :
    (s.mpuRecord n a k reg boundary).frame = s.frame := by
  simp [State.mpuRecord]
@[simp] theorem State.ioWrite_frame (s : State) (n off : Nat) (v : W32) : (s.ioWrite n off v).frame = s.frame := by
  simp only [State.ioWrite]
  split <;> simp
@[simp] theorem State.keepFetch_frame (s : State) (a len : Nat) : (s.keepFetch a len).frame = s.frame := by simp [State.keepFetch]
@[simp] theorem State.memStore_frame_fst (s : State) (n a : Nat) (bytes : List Byte) : (s.memStore n a bytes).frame.1 = s.frame.1 := by
  simp [State.memStore, State.frame_fst]
@[simp] theorem State.drainOne_frame_fst (s : State) (n : Nat) : (s.drainOne n).frame.1 = s.frame.1 := by
  unfold State.drainOne
  split <;> simp
@[simp] theorem State.drainSb_frame_fst (s : State) (n : Nat) : (s.drainSb n).frame.1 = s.frame.1 := by
  simp [State.drainSb]
@[simp] theorem State.bankWait_frame (s : State) (k m n : Nat) : (s.bankWait k m n).frame = s.frame := by simp [State.bankWait]
@[simp] theorem State.bankGrant_frame (s : State) (n a : Nat) (rivals : List Nat) : (s.bankGrant n a rivals).frame = s.frame := by
  simp only [State.bankGrant]
  split <;> simp
@[simp] theorem State.bankAll_frame (s : State) (n : Nat) (parts : List (Nat × Nat)) (rivals : List (List Nat)) :
    (s.bankAll n parts rivals).frame = s.frame := by
  simp [State.bankAll]
@[simp] theorem State.checked_frame {s : State} {n a len cause : Nat} {k : AccKind} {go : Place → State → State}
    (h : ∀ p s, (go p s).frame = s.frame) : (s.checked n a len k cause go).frame = s.frame := by
  simp only [State.checked]
  split
  · simp
  · repeat' split
    all_goals simp [h]

@[simp] theorem State.checked_frame_fst {s : State} {n a len cause : Nat} {k : AccKind} {go : Place → State → State}
    (h : ∀ p s, (go p s).frame.1 = s.frame.1) : (s.checked n a len k cause go).frame.1 = s.frame.1 := by
  simp only [State.checked]
  split
  · simp
  · repeat' split
    all_goals simp [h]
@[simp] theorem State.loadInstr_frame (s : State) (n : Nat) (op : LoadOp) (rd rs1 : Nat) (imm : W32) (rivals : List (List Nat)) (len : W32) :
    (s.loadInstr n op rd rs1 imm rivals len).frame = s.frame :=
  State.runs_frame fun e s => State.checked_frame fun p s => by cases p <;> simp
@[simp] theorem execLoad_keeps (n : Nat) (op : LoadOp) (rd rs1 : Nat) (imm : W32) (rivals : List (List Nat)) (s : State) :
    Keeps s (execLoad n op rd rs1 imm rivals s) := by
  simp [execLoad]
@[simp] theorem State.bufferStore_frame_fst (s : State) (n a : Nat) (bytes : List Byte) :
    (s.bufferStore n a bytes).frame.1 = s.frame.1 := by
  simp only [State.bufferStore]; split <;> simp
@[simp] theorem State.storeInstr_frame_fst (s : State) (n : Nat) (op : StoreOp) (rs2 rs1 : Nat) (imm : W32) (rivals : List (List Nat))
    (len : W32) : (s.storeInstr n op rs2 rs1 imm rivals len).frame.1 = s.frame.1 :=
  State.runs_frame_fst fun e s => State.checked_frame_fst fun p s => by cases p <;> simp [apply_ite]
@[simp] theorem execStore_keepsFixed (n : Nat) (op : StoreOp) (rs2 rs1 : Nat) (imm : W32) (rivals : List (List Nat)) (s : State) :
    KeepsFixed s (execStore n op rs2 rs1 imm rivals s) := by
  simp [execStore]
@[simp] theorem State.atomicAt_frame_fst {s : State} {n a : Nat} {lr : Bool} {go : Nat → State → State}
    (h : ∀ p s, (go p s).frame.1 = s.frame.1) : (s.atomicAt n a lr go).frame.1 = s.frame.1 := by
  unfold State.atomicAt
  split
  · simp
  · exact State.checked_frame_fst fun p s => by split <;> simp [h]
@[simp] theorem execLr_keepsFixed (n rd rs1 : Nat) (rivals : List (List Nat)) (s : State) : KeepsFixed s (execLr n rd rs1 rivals s) := by
  simp [execLr]
@[simp] theorem execSc_keepsFixed (n rd rs2 rs1 : Nat) (rivals : List (List Nat)) (s : State) :
    KeepsFixed s (execSc n rd rs2 rs1 rivals s) :=
  (keepsFixed_next _ _).2 (State.runs_frame_fst fun e s => State.atomicAt_frame_fst fun a s => by dsimp only; split <;> simp)
@[simp] theorem execAmo_keepsFixed (n : Nat) (op : AmoOp) (rd rs2 rs1 : Nat) (rivals : List (List Nat)) (s : State) :
    KeepsFixed s (execAmo n op rd rs2 rs1 rivals s) := by simp [execAmo]
@[simp] theorem execReservationTimeout_keeps (n : Nat) (s : State) : Keeps s (execReservationTimeout n s) := by
  simp [execReservationTimeout]
@[simp] theorem execFence_keepsFixed (n : Nat) (predR predW : Bool) (s : State) : KeepsFixed s (execFence n predR predW s) := by
  cases predW <;> simp [execFence]
@[simp] theorem State.syncFetch_frame (s : State) (n : Nat) : (s.syncFetch n).frame = s.frame := by simp [State.syncFetch]
@[simp] theorem execFenceI_keepsFixed (n : Nat) (s : State) : KeepsFixed s (execFenceI n s) := by simp [execFenceI]
@[simp] theorem execWfi_keeps (n : Nat) (s : State) : Keeps s (execWfi n s) := by simp [execWfi]
@[simp] theorem execXblstatWrite_keeps (n : Nat) (v : W32) (s : State) : Keeps s (execXblstatWrite n v s) := by simp [execXblstatWrite]
@[simp] theorem execMacs_keeps (n acc rs1 rs2 : Nat) (s : State) : Keeps s (execMacs n acc rs1 rs2 s) := by simp [execMacs]
@[simp] theorem execMacu_keeps (n acc rs1 rs2 : Nat) (s : State) : Keeps s (execMacu n acc rs1 rs2 s) := by simp [execMacu]
@[simp] theorem execMsus_keeps (n acc rs1 rs2 : Nat) (s : State) : Keeps s (execMsus n acc rs1 rs2 s) := by simp [execMsus]
@[simp] theorem execMula_keeps (n acc rs1 rs2 : Nat) (s : State) : Keeps s (execMula n acc rs1 rs2 s) := by simp [execMula]
@[simp] theorem execAclr_keeps (n acc : Nat) (s : State) : Keeps s (execAclr n acc s) := by simp [execAclr]
@[simp] theorem execArd_keeps (n rd acc imm : Nat) (s : State) : Keeps s (execArd n rd acc imm s) := by simp [execArd]
@[simp] theorem execArdx_keeps (n rd acc imm : Nat) (s : State) : Keeps s (execArdx n rd acc imm s) := by simp [execArdx]
@[simp] theorem State.illegal_frame (s : State) (n : Nat) : (s.illegal n).frame = s.frame := by simp [State.illegal]
@[simp] theorem execArdr_keeps (n rd acc imm : Nat) (s : State) : Keeps s (execArdr n rd acc imm s) := by
  simp only [execArdr]
  split <;> simp
@[simp] theorem execAwr_keeps (n acc rs1 rs2 : Nat) (s : State) : Keeps s (execAwr n acc rs1 rs2 s) := by simp [execAwr]
@[simp] theorem execAwrh_keeps (n acc rs1 : Nat) (s : State) : Keeps s (execAwrh n acc rs1 s) := by simp [execAwrh]
@[simp] theorem execPadd16_keeps (n rd rs1 rs2 : Nat) (s : State) : Keeps s (execPadd16 n rd rs1 rs2 s) := by simp [execPadd16]
@[simp] theorem execPsub16_keeps (n rd rs1 rs2 : Nat) (s : State) : Keeps s (execPsub16 n rd rs1 rs2 s) := by simp [execPsub16]
@[simp] theorem execPmulq15_keeps (n rd rs1 rs2 : Nat) (s : State) : Keeps s (execPmulq15 n rd rs1 rs2 s) := by simp [execPmulq15]
@[simp] theorem execPmac16_keeps (n acc rs1 rs2 : Nat) (s : State) : Keeps s (execPmac16 n acc rs1 rs2 s) := by simp [execPmac16]
@[simp] theorem execPpack_keeps (n rd rs1 rs2 : Nat) (s : State) : Keeps s (execPpack n rd rs1 rs2 s) := by simp [execPpack]
@[simp] theorem execPsra16_keeps (n rd rs1 imm : Nat) (s : State) : Keeps s (execPsra16 n rd rs1 imm s) := by simp [execPsra16]
@[simp] theorem execFdstep_keeps (n rd rs1 rs2 : Nat) (rivals : List (List Nat)) (s : State) :
    Keeps s (execFdstep n rd rs1 rs2 rivals s) := by
  refine (keeps_next _ _).2 (State.runs_frame fun e s => ?_)
  dsimp only
  split
  · simp
  · exact State.checked_frame fun p s => by cases p <;> simp
@[simp] theorem execDlset_keeps (n rs1 rs2 : Nat) (dlie : Bool) (s : State) : Keeps s (execDlset n rs1 rs2 dlie s) := by simp [execDlset]
@[simp] theorem execDlrel_keeps (n rs1 : Nat) (dlie : Bool) (s : State) : Keeps s (execDlrel n rs1 dlie s) := by simp [execDlrel]
@[simp] theorem execDlclr_keeps (n : Nat) (s : State) : Keeps s (execDlclr n s) := by simp [execDlclr]
@[simp] theorem execDlwait_keeps (n rd : Nat) (s : State) : Keeps s (execDlwait n rd s) := by simp [execDlwait]
@[simp] theorem execDeadlineExpiry_keeps (n : Nat) (s : State) : Keeps s (execDeadlineExpiry n s) := by
  simp only [execDeadlineExpiry]
  repeat' split
  all_goals simp

/-! ### Machine/Firn.lean -/

@[simp] theorem State.setFirn_frame (s : State) (d : Firn) (f : FirnSt) : (s.setFirn d f).frame = s.frame := by
  simp only [State.setFirn]
  split <;> simp
@[simp] theorem State.setMp_frame (s : State) (p : Nat) (m : MpSt) : (s.setMp p m).frame = s.frame := by simp [State.setMp]
@[simp] theorem State.firnPost_frame (s : State) (d : Firn) (p : Option Port) (e : Event) : (s.firnPost d p e).frame = s.frame := by
  simp [State.firnPost]
@[simp] theorem State.postPt_frame (s : State) (p : Nat) (e : Event) : (s.postPt p e).frame = s.frame := by simp [State.postPt]
@[simp] theorem State.firnResend_frame (s : State) (d : Firn) : (s.firnResend d).frame = s.frame := by simp [State.firnResend]
@[simp] theorem State.setMpState_frame (s : State) (p v : Nat) : (s.setMpState p v).frame = s.frame := by simp [State.setMpState]
@[simp] theorem State.postDie_frame (s : State) (d : Firn) (code sev data : Nat) : (s.postDie d code sev data).frame = s.frame := by
  simp [State.postDie]
@[simp] theorem State.morMirror_frame (s : State) (d : Firn) : (s.morMirror d).frame = s.frame := by simp [State.morMirror]
@[simp] theorem State.morAppend_frame (s : State) (d : Firn) (es : List (List Byte)) : (s.morAppend d es).frame = s.frame := by
  simp [State.morAppend]
@[simp] theorem State.morRefused_frame (s : State) (d : Firn) : (s.morRefused d).frame = s.frame := by simp [State.morRefused]
@[simp] theorem State.moraineAt_frame (s : State) (d : Firn) (typ obj time : Nat) (data : List Byte) :
    (s.moraineAt d typ obj time data).frame = s.frame := by
  simp [State.moraineAt]
@[simp] theorem State.moraine_frame (s : State) (d : Firn) (typ obj : Nat) (data : List Byte) :
    (s.moraine d typ obj data).frame = s.frame := by
  simp [State.moraine]
@[simp] theorem State.tamperRecord_frame (s : State) (d : Firn) (c kind : Nat) (extra : List Byte) :
    (s.tamperRecord d c kind extra).frame = s.frame := by
  simp [State.tamperRecord]
@[simp] theorem State.tamper_frame (s : State) (d : Firn) (c kind src : Nat) (extra : List Byte) :
    (s.tamper d c kind src extra).frame = s.frame := by
  simp [State.tamper]
@[simp] theorem State.addUnbilled_frame (s : State) (p : Nat) (qs : List (Nat × Nat)) : (s.addUnbilled p qs).frame = s.frame := by
  simp [State.addUnbilled]
@[simp] theorem State.unbilledRecord_frame (s : State) (d : Firn) (p cause lost : Nat) (qs : List (Nat × Nat)) :
    (s.unbilledRecord d p cause lost qs).frame = s.frame := by
  simp [State.unbilledRecord]
@[simp] theorem State.loseSamples_frame (s : State) (p cause n flag : Nat) (peak : List (Nat × Nat)) :
    (s.loseSamples p cause n flag peak).frame = s.frame := by
  simp [State.loseSamples]
@[simp] theorem State.markHalted_frame (s : State) (d : Firn) (h : Bool) : (s.markHalted d h).frame = s.frame := by
  simp [State.markHalted]
@[simp] theorem State.haltBegin_frame (s : State) (d : Firn) (why : Nat) : (s.haltBegin d why).frame = s.frame := by
  simp [State.haltBegin]
@[simp] theorem State.haltBound_frame (s : State) (d : Firn) (p n : Nat) : (s.haltBound d p n).frame = s.frame := by
  simp [State.haltBound]
@[simp] theorem State.haltLift_frame (s : State) (d : Firn) (why : Nat) : (s.haltLift d why).frame = s.frame := by simp [State.haltLift]
@[simp] theorem State.takeReq_frame (s : State) (c : Chan) (typ : Nat) (k : Firn → List Byte → Nat → State → State)
    (h : ∀ a b c s, (k a b c s).frame = s.frame) : (s.takeReq c typ k).frame = s.frame := by
  simp only [State.takeReq]
  split <;> simp [h]
@[simp] theorem State.replyReq_frame (s : State) (c : Chan) (seq typ status : Nat) (body : List Byte) :
    (s.replyReq c seq typ status body).frame = s.frame := by
  simp [State.replyReq]
@[simp] theorem State.sealLocked_frame (s : State) (d : Firn) (c : Chan) (seq typ : Nat) :
    (s.sealLocked d c seq typ).frame = s.frame := by
  simp [State.sealLocked]
@[simp] theorem State.calRecord_frame (s : State) (d : Firn) (typ obj eff : Nat) (values : List Byte) :
    (s.calRecord d typ obj eff values).frame = s.frame := by
  simp [State.calRecord]
@[simp] theorem State.firnOrder_frame (s : State) (d : Firn) (a : Act) : (s.firnOrder d a).frame = s.frame := by simp [State.firnOrder]

/-! ### Machine/Samples.lean -/

@[simp] theorem State.ringPush_frame (s : State) (d : Firn) (j from_ : Nat) (es : List W32) :
    (s.ringPush d j from_ es).frame = s.frame := by
  simp [State.ringPush]

/-! ### Machine/FrontEnd.lean -/

@[simp] theorem State.endSession_frame (s : State) (p idx cause : Nat) : (s.endSession p idx cause).frame = s.frame := by
  simp [State.endSession]
@[simp] theorem State.pointOos_frame (s : State) (p why idx : Nat) : (s.pointOos p why idx).frame = s.frame := by simp [State.pointOos]
@[simp] theorem State.setAdc_frame (s : State) (d : Firn) (a st lane ch : Nat) : (s.setAdc d a st lane ch).frame = s.frame := by
  simp [State.setAdc]
@[simp] theorem State.fillLane_frame (s : State) (d : Firn) (k : Nat) : (s.fillLane d k).frame = s.frame := by
  simp only [State.fillLane]
  split
  · simp
  · split <;> simp
@[simp] theorem State.regelRefresh_frame (s : State) (d : Firn) : (s.regelRefresh d).frame = s.frame := by simp [State.regelRefresh]
@[simp] theorem State.retireAdc_frame (s : State) (d : Firn) (a cause : Nat) : (s.retireAdc d a cause).frame = s.frame := by
  simp [State.retireAdc]
@[simp] theorem State.compareRefs_frame (s : State) (d : Firn) (q : Int × Int) : (s.compareRefs d q).frame = s.frame := by
  simp only [State.compareRefs]
  split
  · split <;> simp
  · simp
@[simp] theorem execRefHaltLift_keeps (d : Firn) (s : State) : Keeps s (execRefHaltLift d s) := by simp [execRefHaltLift]
@[simp] theorem State.calCompare_frame (s : State) (d : Firn) (m : CalSums) : (s.calCompare d m).frame = s.frame := by
  simp [State.calCompare]
@[simp] theorem State.publish_frame (s : State) (d : Firn) (a gain : Nat) (m : CalSums) : (s.publish d a gain m).frame = s.frame := by
  simp [State.publish]
@[simp] theorem execAdcCalibrationDone_keeps (d : Firn) (a : Nat) (m : CalSums) (s : State) :
    Keeps s (execAdcCalibrationDone d a m s) := by
  simp only [execAdcCalibrationDone]
  repeat' split
  all_goals simp
@[simp] theorem execReserveRecalibration_keeps (d : Firn) (a : Nat) (s : State) : Keeps s (execReserveRecalibration d a s) := by
  simp [execReserveRecalibration]
@[simp] theorem execRetiredAdcCalibration_keeps (d : Firn) (a : Nat) (m : CalSums) (s : State) :
    Keeps s (execRetiredAdcCalibration d a m s) := by
  simp [execRetiredAdcCalibration]
@[simp] theorem execLaneStepStart_keeps (d : Firn) (k : Nat) (s : State) : Keeps s (execLaneStepStart d k s) := by
  unfold execLaneStepStart
  split
  · split <;> simp
  · simp
@[simp] theorem State.laneAdvance_frame (s : State) (d : Firn) (k : Nat) : (s.laneAdvance d k).frame = s.frame := by
  simp [State.laneAdvance]
@[simp] theorem State.handover_frame (s : State) (d : Firn) (k j a : Nat) : (s.handover d k j a).frame = s.frame := by
  simp [State.handover]
@[simp] theorem State.stepFailed_frame (s : State) (d : Firn) (k j a : Nat) : (s.stepFailed d k j a).frame = s.frame := by
  simp [State.stepFailed]
@[simp] theorem execSeamDecision_keeps (d : Firn) (k : Nat) (ys ya : List Int) (s : State) : Keeps s (execSeamDecision d k ys ya s) := by
  unfold execSeamDecision
  split <;> simp
@[simp] theorem State.chLose_frame (s : State) (d : Firn) (j n : Nat) : (s.chLose d j n).frame = s.frame := by simp [State.chLose]
@[simp] theorem execAdcStabilityTrip_keeps (d : Firn) (a : Nat) (settled : Bool) (lost : Nat) (s : State) :
    Keeps s (execAdcStabilityTrip d a settled lost s) := by
  simp only [execAdcStabilityTrip]
  repeat' split
  all_goals simp
@[simp] theorem State.assignAdcs_frame (s : State) (d : Firn) : (s.assignAdcs d).frame = s.frame := by simp [State.assignAdcs]
@[simp] theorem State.refsSettled_frame (s : State) (d : Firn) (cals : List (Nat × CalSums)) :
    (s.refsSettled d cals).frame = s.frame := by
  simp [State.refsSettled]
@[simp] theorem execRtdReversal_keeps (d : Firn) (src idx : Nat) (s : State) : Keeps s (execRtdReversal d src idx s) := by
  unfold execRtdReversal
  split <;> simp
@[simp] theorem State.faultBlocks_frame (s : State) (ch : Nat) : (s.faultBlocks ch).frame = s.frame :=
  State.foldl_frame _ (fun s p => by dsimp only; split <;> simp) _ _
@[simp] theorem execChannelFault_keeps (ch code : Nat) (s : State) : Keeps s (execChannelFault ch code s) := by simp [execChannelFault]
@[simp] theorem execChannelFaultClear_keeps (ch : Nat) (s : State) : Keeps s (execChannelFaultClear ch s) := by
  simp [execChannelFaultClear]
@[simp] theorem execCalMeasure_keeps (c : Chan) (s : State) : Keeps s (execCalMeasure c s) := by simp [execCalMeasure]
@[simp] theorem execCalMeasureDone_keeps (d : Firn) (raw : List (Nat × Int)) (first : Nat) (s : State) :
    Keeps s (execCalMeasureDone d raw first s) := by
  simp only [execCalMeasureDone]
  split <;> simp
@[simp] theorem State.sealedReq_frame (s : State) (c : Chan) (typ : Nat) (ok : List Byte → Bool)
    (chan : List Byte → Option Nat) (k : Firn → List Byte → Nat → State → State) (h : ∀ a b c s, (k a b c s).frame = s.frame) :
    (s.sealedReq c typ ok chan k).frame = s.frame := by
  simp [State.sealedReq, h]
@[simp] theorem execCalWrite_keeps (c : Chan) (eff : Nat) (s : State) : Keeps s (execCalWrite c eff s) := by simp [execCalWrite]
@[simp] theorem execCalDelay_keeps (c : Chan) (eff : Nat) (s : State) : Keeps s (execCalDelay c eff s) := by simp [execCalDelay]
@[simp] theorem execRefBaseline_keeps (c : Chan) (s : State) : Keeps s (execRefBaseline c s) := by simp [execRefBaseline]
@[simp] theorem State.applyCal_frame (s : State) (d : Firn) : (s.applyCal d).frame = s.frame := by
  refine (State.foldl_frame _ (fun s c => ?_) _ _).trans (by simp)
  dsimp only
  split <;> split <;> simp
@[simp] theorem State.chanSamples_frame (s : State) (d : Firn) (old m : Nat) (words : List Nat) (j : Nat) :
    (s.chanSamples d old m words j).frame = s.frame := by
  simp [State.chanSamples]
@[simp] theorem State.chanMark_frame (s : State) (d : Firn) (old m : Nat) (raw : List (Nat × List Nat)) :
    (s.chanMark d old m raw).frame = s.frame := by
  simp [State.chanMark]
@[simp] theorem State.regelStop_frame (s : State) (d : Firn) : (s.regelStop d).frame = s.frame := by simp [State.regelStop]

/-! ### Machine/Metering.lean -/

@[simp] theorem State.armPoint_frame (s : State) (p tariff qLimit : Nat) : (s.armPoint p tariff qLimit).frame = s.frame := by
  simp [State.armPoint]
@[simp] theorem State.meterPoint_frame (s : State) (p n : Nat) : (s.meterPoint p n).frame = s.frame := by simp [State.meterPoint]
@[simp] theorem State.finishStops_frame (s : State) (p : Nat) : (s.finishStops p).frame = s.frame := by simp [State.finishStops]
@[simp] theorem State.freezePoint_frame (s : State) (p idx cause : Nat) : (s.freezePoint p idx cause).frame = s.frame := by
  simp [State.freezePoint]
@[simp] theorem State.contactor_frame (s : State) (p : Nat) (closed : Bool) : (s.contactor p closed).frame = s.frame := by
  simp [State.contactor]
@[simp] theorem execFreezeLineEdge_keeps (p : Nat) (rising : Bool) (idx : Nat) (s : State) :
    Keeps s (execFreezeLineEdge p rising idx s) := by
  simp [execFreezeLineEdge]
@[simp] theorem State.addQuantities_frame (s : State) (p rate b n : Nat) (adds : List (Nat × Nat)) :
    (s.addQuantities p rate b n adds).frame = s.frame := by
  simp [State.addQuantities]
@[simp] theorem State.settle_frame (s : State) (p until_ : Nat) : (s.settle p until_).frame = s.frame := by simp [State.settle]
@[simp] theorem State.qLimitCheck_frame (s : State) (p : Nat) : (s.qLimitCheck p).frame = s.frame := by simp [State.qLimitCheck]
@[simp] theorem State.measureCycle_frame (s : State) (p : Nat) (c : CycleIn) (n : Nat) : (s.measureCycle p c n).frame = s.frame := by
  simp only [State.measureCycle]
  split <;> simp
@[simp] theorem State.voltageCheck_frame (s : State) (p : Nat) (mask : Nat) : (s.voltageCheck p mask).frame = s.frame := by
  simp [State.voltageCheck]
@[simp] theorem State.rotationCheck_frame (s : State) (p rot : Nat) : (s.rotationCheck p rot).frame = s.frame := by
  simp [State.rotationCheck]
@[simp] theorem State.cycleMirrors_frame (s : State) (p : Nat) (c : CycleIn) (x : CycleE) (n : Nat) :
    (s.cycleMirrors p c x n).frame = s.frame := by
  simp [State.cycleMirrors]
@[simp] theorem State.afterVerified_frame (s : State) (p : Nat) (c : CycleIn) (n : Nat) (tri dc : Bool) :
    (s.afterVerified p c n tri dc).frame = s.frame := by
  simp only [State.afterVerified]
  split <;> simp
@[simp] theorem State.takeBack_frame (s : State) (p v : Nat) : (s.takeBack p v).frame = s.frame := by
  simp only [State.takeBack]
  split <;> simp
@[simp] theorem State.failPoint_frame (s : State) (p v : Nat) : (s.failPoint p v).frame = s.frame := by simp [State.failPoint]
@[simp] theorem State.cycle_frame (s : State) (p : Nat) (c : CycleIn) (dc : Bool) : (s.cycle p c dc).frame = s.frame := by
  simp only [State.cycle]
  repeat' split
  all_goals simp
@[simp] theorem State.harmCycle_frame (s : State) (p t len : Nat) : (s.harmCycle p t len).frame = s.frame := by simp [State.harmCycle]
@[simp] theorem State.endCycle_frame (s : State) (p e t : Nat) : (s.endCycle p e t).frame = s.frame := by simp [State.endCycle]
@[simp] theorem State.endBlock_frame (s : State) (p e : Nat) : (s.endBlock p e).frame = s.frame := by simp [State.endBlock]
@[simp] theorem State.leaveCrossing_frame (s : State) (p : Nat) : (s.leaveCrossing p).frame = s.frame := by simp [State.leaveCrossing]
@[simp] theorem State.fixedCrossing_frame (s : State) (p t : Nat) : (s.fixedCrossing p t).frame = s.frame := by
  simp only [State.fixedCrossing]
  split <;> simp
@[simp] theorem State.crossing_frame (s : State) (p t : Nat) : (s.crossing p t).frame = s.frame := by simp [State.crossing]
@[simp] theorem execCycleEnd_keeps (p : Nat) (cross : Option Nat) (s : State) : Keeps s (execCycleEnd p cross s) := by
  simp only [execCycleEnd]
  split
  · simp
  · split <;> simp
@[simp] theorem execFixedBlockEntry_keeps (p : Nat) (s : State) : Keeps s (execFixedBlockEntry p s) := by simp [execFixedBlockEntry]
@[simp] theorem execDcBlockEnd_keeps (p b : Nat) (s : State) : Keeps s (execDcBlockEnd p b s) := by simp [execDcBlockEnd]
@[simp] theorem execDemandSubintervalEnd_keeps (p t : Nat) (s : State) : Keeps s (execDemandSubintervalEnd p t s) := by
  simp [execDemandSubintervalEnd]
@[simp] theorem execMdReset_keeps (c : Chan) (s : State) : Keeps s (execMdReset c s) := by simp [execMdReset]
@[simp] theorem execHarmonicWindowEnd_keeps (p : Nat) (s : State) : Keeps s (execHarmonicWindowEnd p s) := by simp [execHarmonicWindowEnd]
@[simp] theorem execEnergyMeasure_keeps (c : Chan) (first : Nat) (s : State) : Keeps s (execEnergyMeasure c first s) := by
  simp [execEnergyMeasure]
@[simp] theorem execEnergyResult_keeps (c : Chan) (s : State) : Keeps s (execEnergyResult c s) := by simp [execEnergyResult]
@[simp] theorem State.billMirror_frame (s : State) (p : Nat) (k : Ckpt) : (s.billMirror p k).frame = s.frame := by simp [State.billMirror]
@[simp] theorem State.checkpoint_frame (s : State) (p idx : Nat) : (s.checkpoint p idx).frame = s.frame := by simp [State.checkpoint]
@[simp] theorem execPointRead_keeps (d : Desc) (s : State) : Keeps s (execPointRead d s) :=
  (keeps_next _ _).2 (State.withDesc_frame _ _ _ _ fun t s => by split <;> simp)

/-! ### Machine/Flow.lean -/

@[simp] theorem State.mirrorParams_frame (s : State) (p : Nat) : (s.mirrorParams p).frame = s.frame := by
  simp only [State.mirrorParams]
  split
  · simp
  · split <;> simp
@[simp] theorem execFlowParam_keeps (c : Chan) (eff : Nat) (s : State) : Keeps s (execFlowParam c eff s) := by simp [execFlowParam]
@[simp] theorem State.batchCheck_frame (s : State) (p rate : Nat) : (s.batchCheck p rate).frame = s.frame := by simp [State.batchCheck]
@[simp] theorem State.trimUpdate_frame (s : State) (p : Nat) : (s.trimUpdate p).frame = s.frame := by simp [State.trimUpdate]
@[simp] theorem State.blkFill_frame (s : State) (p b upto : Nat) : (s.blkFill p b upto).frame = s.frame := by simp [State.blkFill]
@[simp] theorem State.blkMark_frame (s : State) (p m : Nat) : (s.blkMark p m).frame = s.frame := by
  simp only [State.blkMark]
  split <;> simp
@[simp] theorem State.discrepancy_frame (s : State) (p : Nat) (force : Bool) : (s.discrepancy p force).frame = s.frame := by
  simp [State.discrepancy]
@[simp] theorem State.blockInputs_frame (s : State) (p : Nat) (b : BlockIn) : (s.blockInputs p b).frame = s.frame := by
  simp [State.blockInputs]
@[simp] theorem State.blockFlags_frame (s : State) (p : Nat) (b : BlockIn) : (s.blockFlags p b).frame = s.frame := by
  simp [State.blockFlags]
@[simp] theorem State.blockBill_frame (s : State) (p : Nat) (b : BlockIn) : (s.blockBill p b).frame = s.frame := by
  simp only [State.blockBill]
  split <;> simp
@[simp] theorem State.blockCounts_frame (s : State) (p : Nat) (b : BlockIn) : (s.blockCounts p b).frame = s.frame := by
  simp [State.blockCounts]
@[simp] theorem State.blockStack_frame (s : State) (p : Nat) (b : BlockIn) : (s.blockStack p b).frame = s.frame := by
  simp [State.blockStack]
@[simp] theorem State.blockShow_frame (s : State) (p : Nat) (b : BlockIn) (adds : List (Nat × List (Nat × Nat))) :
    (s.blockShow p b adds).frame = s.frame := by
  simp [State.blockShow]
@[simp] theorem State.blockOutside_frame (s : State) (p q : Nat) (low : Bool) : (s.blockOutside p q low).frame = s.frame := by
  simp [State.blockOutside]
@[simp] theorem State.blockTail_frame (s : State) (p : Nat) (b : BlockIn) (low : Bool) : (s.blockTail p b low).frame = s.frame := by
  simp [State.blockTail]
@[simp] theorem State.blockSettle_frame (s : State) (p until_ : Nat) : (s.blockSettle p until_).frame = s.frame := by
  simp [State.blockSettle]
@[simp] theorem State.blockLimit_frame (s : State) (p fwd : Nat) : (s.blockLimit p fwd).frame = s.frame := by simp [State.blockLimit]
@[simp] theorem State.blockUnit_frame (s : State) (p b : Nat) : (s.blockUnit p b).frame = s.frame := by simp [State.blockUnit]
@[simp] theorem execFlowBlockEnd_keeps (p b : Nat) (s : State) : Keeps s (execFlowBlockEnd p b s) := by simp [execFlowBlockEnd]
@[simp] theorem execFlowTailTimeout_keeps (p idx : Nat) (s : State) : Keeps s (execFlowTailTimeout p idx s) := by
  simp [execFlowTailTimeout]
@[simp] theorem State.proveCount_frame (s : State) (p a : Nat) : (s.proveCount p a).frame = s.frame := by simp [State.proveCount]
@[simp] theorem State.flowCount_frame (s : State) (p i a : Nat) (rev : Bool) : (s.flowCount p i a rev).frame = s.frame := by
  simp [State.flowCount]
@[simp] theorem State.setTrain_frame (s : State) (p : Nat) (b : Bool) (t : TrainSt) : (s.setTrain p b t).frame = s.frame := by
  simp [State.setTrain]
@[simp] theorem State.dualCount_frame (s : State) (p i a b : Nat) (rev : Bool) : (s.dualCount p i a b rev).frame = s.frame := by
  simp [State.dualCount]
@[simp] theorem State.dualPulse_frame (s : State) (p i : Nat) (isB : Bool) (t : Nat) : (s.dualPulse p i isB t).frame = s.frame := by
  simp only [State.dualPulse]
  split <;> split <;> simp
@[simp] theorem State.singlePulse_frame (s : State) (p i t : Nat) : (s.singlePulse p i t).frame = s.frame := by
  simp only [State.singlePulse]
  split <;> simp
@[simp] theorem State.detectorEdge_frame (s : State) (i t : Nat) : (s.detectorEdge i t).frame = s.frame := by
  simp only [State.detectorEdge]
  split <;> simp
@[simp] theorem State.edgeRecord_frame (s : State) (d : Firn) (k t : Nat) (rising : Bool) :
    (s.edgeRecord d k t rising).frame = s.frame := by
  simp [State.edgeRecord]
@[simp] theorem execPulseEdge_keeps (i : Nat) (isB rising : Bool) (t : Nat) (s : State) : Keeps s (execPulseEdge i isB rising t s) := by
  simp only [execPulseEdge]
  repeat' split
  all_goals simp
@[simp] theorem execPulseHoldExpiry_keeps (i : Nat) (isB : Bool) (t : Nat) (s : State) : Keeps s (execPulseHoldExpiry i isB t s) := by
  simp only [execPulseHoldExpiry]
  split <;> simp
@[simp] theorem execInferredPulse_keeps (i : Nat) (s : State) : Keeps s (execInferredPulse i s) := by
  simp only [execInferredPulse]
  split <;> simp
@[simp] theorem execAcquisitionRestart_keeps (p : Nat) (s : State) : Keeps s (execAcquisitionRestart p s) := by
  simp [execAcquisitionRestart]
@[simp] theorem execProveArm_keeps (c : Chan) (s : State) : Keeps s (execProveArm c s) := by simp [execProveArm]
@[simp] theorem execProveResult_keeps (c : Chan) (s : State) : Keeps s (execProveResult c s) := by
  refine (keeps_next _ _).2 (State.takeReq_frame _ _ _ _ fun d b seq s => ?_)
  dsimp only
  split
  · simp
  · split
    · simp
    · split <;> simp
@[simp] theorem execProveTimeout_keeps (i : Nat) (s : State) : Keeps s (execProveTimeout i s) := by
  simp only [execProveTimeout]
  split <;> simp

/-! ### Machine/Jobs.lean -/

@[simp] theorem State.nextJob_frame (s : State) (n : Nat) : (s.nextJob n).frame = s.frame := by
  simp only [State.nextJob]
  split
  · simp
  · split <;> simp
@[simp] theorem State.dropJob_frame (s : State) (n : Nat) : (s.dropJob n).frame = s.frame := by simp [State.dropJob]
@[simp] theorem State.service_frame {s : State} {n : Nat} {k : Engine → State → State} (h : ∀ e s, (k e s).frame = s.frame) :
    (s.service n k).frame = s.frame := State.runs_frame fun e s => by split <;> simp [h]

@[simp] theorem State.service_frame_fst {s : State} {n : Nat} {k : Engine → State → State} (h : ∀ e s, (k e s).frame.1 = s.frame.1) :
    (s.service n k).frame.1 = s.frame.1 := State.runs_frame_fst fun e s => by split <;> simp [h]
@[simp] theorem execEndJob_keeps (n : Nat) (s : State) : Keeps s (execEndJob n s) := by simp [execEndJob]
@[simp] theorem execReadDeviceTime_keeps (n : Nat) (s : State) : Keeps s (execReadDeviceTime n s) := by simp [execReadDeviceTime]
@[simp] theorem execReadReleaseFcount_keeps (n : Nat) (s : State) : Keeps s (execReadReleaseFcount n s) := by simp [execReadReleaseFcount]
@[simp] theorem execReadSnapshot_keepsFixed (n : Nat) (s : State) : KeepsFixed s (execReadSnapshot n s) := by
  refine (keepsFixed_next _ _).2 (State.service_frame_fst fun e s => ?_)
  dsimp only
  split
  · simp
  · split <;> simp
@[simp] theorem State.release_frame (s : State) (item n rel : Nat) : (s.release item n rel).frame = s.frame := by simp [State.release]
@[simp] theorem execJobRelease_keeps (item fc : Nat) (s : State) : Keeps s (execJobRelease item fc s) := by
  simp only [execJobRelease]
  split <;> simp
@[simp] theorem execBudgetOverrun_keeps (n : Nat) (s : State) : Keeps s (execBudgetOverrun n s) := by
  simp only [execBudgetOverrun]
  split <;> simp
@[simp] theorem execJobDeadlineMiss_keeps (n : Nat) (s : State) : Keeps s (execJobDeadlineMiss n s) := by
  simp only [execJobDeadlineMiss]
  split <;> simp
@[simp] theorem execAppLoad_keeps (d : Desc) (rd : DmaRead) (imem dmem : List Byte) (s : State) :
    Keeps s (execAppLoad d rd imem dmem s) := by
  simp [execAppLoad]
@[simp] theorem State.writeImages_frame_fst (s : State) (l : AppLoad) (n : Nat) : (s.writeImages l n).frame.1 = s.frame.1 := by
  simp [State.writeImages]
@[simp] theorem State.appLoadBoundary_frame_fst (s : State) : s.appLoadBoundary.frame.1 = s.frame.1 := by
  unfold State.appLoadBoundary
  refine (State.foldl_frame_fst _ (fun s l => ?_) _ _).trans (by simp)
  refine State.foldl_frame_fst _ (fun s n => ?_) _ _
  extract_lets st
  split <;> simp

/-! ### Machine/Display.lean -/

@[simp] theorem State.setDisp_frame (s : State) (d : DispSt) : (s.setDisp d).frame = s.frame := by simp [State.setDisp]
@[simp] theorem State.dispMirror_frame (s : State) : s.dispMirror.frame = s.frame := by simp [State.dispMirror]
@[simp] theorem State.writeFrame_frame (s : State) : s.writeFrame.frame = s.frame := by simp [State.writeFrame]
@[simp] theorem State.swapFrame_frame (s : State) : s.swapFrame.frame = s.frame := by simp [State.swapFrame]
@[simp] theorem State.dispRecord_frame (s : State) (kind : Nat) : (s.dispRecord kind).frame = s.frame := by simp [State.dispRecord]
@[simp] theorem execDisplayFrameEnd_keeps (upset : List (Nat × Byte)) (s : State) : Keeps s (execDisplayFrameEnd upset s) := by
  simp [execDisplayFrameEnd]
@[simp] theorem execDisplayFaultRewrite_keeps (s : State) : Keeps s (execDisplayFaultRewrite s) := by simp [execDisplayFaultRewrite]
@[simp] theorem execDispMap_keeps (c : Chan) (s : State) : Keeps s (execDispMap c s) := by simp [execDispMap]
@[simp] theorem execDispScroll_keeps (c : Chan) (s : State) : Keeps s (execDispScroll c s) := by simp [execDispScroll]
@[simp] theorem State.displayMark_frame (s : State) : s.displayMark.frame = s.frame := by
  simp only [State.displayMark]
  split <;> simp
@[simp] theorem State.nextItem_frame (s : State) : s.nextItem.frame = s.frame := by simp [State.nextItem]
@[simp] theorem execScrollDwellExpiry_keeps (s : State) : Keeps s (execScrollDwellExpiry s) := by simp [execScrollDwellExpiry]
@[simp] theorem execDispStepPress_keeps (s : State) : Keeps s (execDispStepPress s) := by simp [execDispStepPress]
@[simp] theorem execDispStepLongPress_keeps (s : State) : Keeps s (execDispStepLongPress s) := by simp [execDispStepLongPress]
@[simp] theorem execScrollResume_keeps (s : State) : Keeps s (execScrollResume s) := by simp [execScrollResume]
@[simp] theorem execF1DisplayValues_keeps (ok : Bool) (vals : List (Nat × Nat)) (s : State) :
    Keeps s (execF1DisplayValues ok vals s) := by
  simp [execF1DisplayValues]
@[simp] theorem execF1ValuesStale_keeps (s : State) : Keeps s (execF1ValuesStale s) := by simp [execF1ValuesStale]
@[simp] theorem execMoraineRelease_keeps (c : Chan) (s : State) : Keeps s (execMoraineRelease c s) := by
  refine (keeps_next _ _).2 (State.takeReq_frame _ _ _ _ fun d b seq s => ?_)
  dsimp only
  split
  · simp
  · split <;> simp
@[simp] theorem execMoraineRead_keeps (d : Desc) (s : State) : Keeps s (execMoraineRead d s) := by simp [execMoraineRead]

/-! ### Machine/Legal.lean -/

@[simp] theorem State.flagSessions_frame (s : State) (d : Firn) (bits : Nat) : (s.flagSessions d bits).frame = s.frame := by
  simp [State.flagSessions]
@[simp] theorem State.setInput_frame (s : State) (i : Inp) (l : Level) : (s.setInput i l).frame = s.frame := by simp [State.setInput]
@[simp] theorem State.sealState_frame (s : State) (d : Firn) (l : Level) : (s.sealState d l).frame = s.frame := by simp [State.sealState]
@[simp] theorem execSealChange_keeps (d : Firn) (high : Bool) (s : State) : Keeps s (execSealChange d high s) := by simp [execSealChange]
@[simp] theorem State.tamperLevel_frame (s : State) (d : Firn) (magnet high : Bool) : (s.tamperLevel d magnet high).frame = s.frame := by
  simp only [State.tamperLevel]
  repeat' split
  all_goals simp
@[simp] theorem execTamperInput_keeps (d : Firn) (magnet high : Bool) (s : State) : Keeps s (execTamperInput d magnet high s) := by
  simp [execTamperInput]
@[simp] theorem State.checkValue_frame (s : State) (d : Firn) (v : W32) : (s.checkValue d v).frame = s.frame := by simp [State.checkValue]
@[simp] theorem execFirmwareCheckPeriodic_keeps (d : Firn) (v : W32) (s : State) : Keeps s (execFirmwareCheckPeriodic d v s) := by
  simp [execFirmwareCheckPeriodic]
@[simp] theorem execFirmwareCheck_keeps (c : Chan) (v : W32) (s : State) : Keeps s (execFirmwareCheck c v s) := by
  simp [execFirmwareCheck]
@[simp] theorem State.stepClock_frame (s : State) (d : Firn) (e new : Nat) (kind sub : Nat) (delta : Int) :
    (s.stepClock d e new kind sub delta).frame = s.frame := by
  simp [State.stepClock]
@[simp] theorem State.rateRefresh_frame (s : State) (d : Firn) (idx : Nat) : (s.rateRefresh d idx).frame = s.frame := by
  simp [State.rateRefresh]
@[simp] theorem State.resumeUnverified_frame (s : State) (d : Firn) (m : Nat) : (s.resumeUnverified d m).frame = s.frame := by
  simp [State.resumeUnverified]
@[simp] theorem State.dailyStep_frame (s : State) (d : Firn) (m : Nat) (delta : Int) (hour : Bool) :
    (s.dailyStep d m delta hour).frame = s.frame := by
  simp [State.dailyStep]
@[simp] theorem State.markDelta_frame (s : State) (d : Firn) (m dev : Nat) (hour : Bool) :
    (s.markDelta d m dev hour).frame = s.frame := by
  simp [State.markDelta]
@[simp] theorem State.markClock_frame (s : State) (d : Firn) (m dev : Nat) : (s.markClock d m dev).frame = s.frame := by
  simp only [State.markClock]
  split <;> simp
@[simp] theorem State.commitPoint_frame (s : State) (p : Nat) : (s.commitPoint p).frame = s.frame := by
  simp only [State.commitPoint]
  split
  · simp
  · split <;> simp
@[simp] theorem State.periodicCommit_frame (s : State) (d : Firn) (m : Nat) (busy : Bool) :
    (s.periodicCommit d m busy).frame = s.frame := by
  simp [State.periodicCommit]
@[simp] theorem State.storeAll_frame (s : State) (d : Firn) : (s.storeAll d).frame = s.frame := by simp [State.storeAll]
@[simp] theorem State.setPto_frame (s : State) (d : Firn) (k : Nat) (x : PtoSt) : (s.setPto d k x).frame = s.frame := by
  simp [State.setPto]
@[simp] theorem State.ptoMark_frame (s : State) (d : Firn) : (s.ptoMark d).frame = s.frame :=
  State.foldl_frame _ (fun s k => by dsimp only; split <;> simp) _ _
@[simp] theorem execPulseOut_keeps (c : Chan) (s : State) : Keeps s (execPulseOut c s) := by simp [execPulseOut]
@[simp] theorem State.ptoStart_frame (s : State) (d : Firn) (k : Nat) : (s.ptoStart d k).frame = s.frame := by simp [State.ptoStart]
@[simp] theorem execPulseTestOutputEdge_keeps (d : Firn) (k : Nat) (s : State) : Keeps s (execPulseTestOutputEdge d k s) := by
  simp [execPulseTestOutputEdge]
@[simp] theorem execPulseTestOutputEnd_keeps (d : Firn) (k : Nat) (s : State) : Keeps s (execPulseTestOutputEnd d k s) := by
  simp [execPulseTestOutputEnd]
@[simp] theorem State.outageWrite_frame (s : State) (d : Firn) (idx : Nat) : (s.outageWrite d idx).frame = s.frame := by
  simp only [State.outageWrite]
  split <;> simp
@[simp] theorem execReferencesSettled_keeps (d : Firn) (cals : List (Nat × CalSums)) (idx : Nat) (s : State) :
    Keeps s (execReferencesSettled d cals idx s) := by
  simp [execReferencesSettled]
@[simp] theorem State.oosReturn_frame (s : State) (p : Nat) : (s.oosReturn p).frame = s.frame := by simp [State.oosReturn]
@[simp] theorem State.markWork_frame (s : State) (d : Firn) (busy : Bool) (old : Nat) (raw : List (Nat × List Nat)) :
    (s.markWork d busy old raw).frame = s.frame := by
  simp [State.markWork]
@[simp] theorem execControlCycleMark_keeps (d : Firn) (dev m : Nat) (busy : Bool) (raw : List (Nat × List Nat)) (s : State) :
    Keeps s (execControlCycleMark d dev m busy raw s) := by
  simp [execControlCycleMark]
@[simp] theorem execLocalMark_keeps (d : Firn) (m : Nat) (busy : Bool) (raw : List (Nat × List Nat)) (s : State) :
    Keeps s (execLocalMark d m busy raw s) := by
  simp [execLocalMark]
@[simp] theorem execRestartMarkTimeout_keeps (d : Firn) (s : State) : Keeps s (execRestartMarkTimeout d s) := by
  simp [execRestartMarkTimeout]
@[simp] theorem State.firnClear_frame (s : State) (d : Firn) : (s.firnClear d).frame = s.frame := by simp [State.firnClear]
@[simp] theorem State.restorePoint_frame (s : State) (useFinal : Bool) (bad : List Nat) (p : Nat) :
    (s.restorePoint useFinal bad p).1.frame = s.frame := by
  simp only [State.restorePoint]
  split
  · simp
  · split <;> simp
@[simp] theorem State.firnEngines_frame (s : State) (d : Firn) : (s.firnEngines d).frame = s.frame := by simp [State.firnEngines]
@[simp] theorem State.dieStart_frame (s : State) (d : Firn) (ok0 ok1 : Bool) (check : W32) (bad : List Nat) (clockKept : Bool) :
    (s.dieStart d ok0 ok1 check bad clockKept).frame = s.frame := by
  unfold State.dieStart
  extract_lets +onlyGivenNames n u active ok slot
  have hu : u.frame = s.frame := State.firnClear_frame _ _
  clear_value u slot
  split
  · exact (State.setBoot_frame _ _).trans hu
  next k =>
    extract_lets +onlyGivenNames src v w f useFinal first set x y
    have hw : w.frame = u.frame := by simp [w, v]
    clear_value f w v
    have hy : y.frame = w.frame := by simp [y, x]
    clear_value y
    have hfold := foldl_keeps (fun (x : State × List (Nat × Nat)) p => ((x.1.restorePoint useFinal bad p).1,
      x.2 ++ (x.1.restorePoint useFinal bad p).2.toList)) (·.1.frame) (fun x p => by simp) (y.diePoints d) (y, [])
    split
    next z cuts hp =>
      have hz : z.frame = y.frame := State.frame_of_fst hfold hp
      clear hp hfold
      extract_lets +onlyGivenNames a b c d e
      have he : e.frame = z.frame := by simp [e, d, c, b, a]
      clear_value e
      simp [he, hz, hy, hw, hu]
@[simp] theorem execFirnDieStart_keeps (d : Firn) (ok0 ok1 : Bool) (check : W32) (bad : List Nat) (s : State) :
    Keeps s (execFirnDieStart d ok0 ok1 check bad s) := by
  simp [execFirnDieStart]
@[simp] theorem State.lastCycle_frame (s : State) (p e : Nat) : (s.lastCycle p e).frame = s.frame := by simp [State.lastCycle]
@[simp] theorem State.lastBlock_frame (s : State) (p e : Nat) : (s.lastBlock p e).frame = s.frame := by
  simp only [State.lastBlock]
  split <;> simp
@[simp] theorem State.finalPoint_frame (s : State) (p k : Nat) : (s.finalPoint p k).frame = s.frame := by simp [State.finalPoint]
@[simp] theorem execPfwFall_keeps (d : Firn) (idx : Nat) (done : Bool) (s : State) : Keeps s (execPfwFall d idx done s) := by
  simp only [execPfwFall]
  repeat' split
  all_goals simp
@[simp] theorem execPfwRise_keeps (d : Firn) (s : State) : Keeps s (execPfwRise d s) := by simp [execPfwRise]
@[simp] theorem execPfwHighTimeout_keeps (d : Firn) (ok0 ok1 : Bool) (check : W32) (bad : List Nat) (s : State) :
    Keeps s (execPfwHighTimeout d ok0 ok1 check bad s) := by
  simp [execPfwHighTimeout]
@[simp] theorem State.queueMirror_frame (s : State) (d : Firn) : (s.queueMirror d).frame = s.frame := by simp [State.queueMirror]
@[simp] theorem execReadingRecordForm_keeps (p : Nat) (s : State) : Keeps s (execReadingRecordForm p s) := by simp [execReadingRecordForm]
@[simp] theorem State.acknowledge_frame (s : State) (d : Firn) (seq : Nat) : (s.acknowledge d seq).frame = s.frame := by
  simp only [State.acknowledge]
  split <;> simp
@[simp] theorem execRecordRead_keeps (d : Desc) (s : State) : Keeps s (execRecordRead d s) :=
  (keeps_next _ _).2 (State.withDesc_frame _ _ _ _ fun t s => by dsimp only; split <;> simp)
@[simp] theorem execLegalTimeSet_keeps (c : Chan) (eff : Nat) (s : State) : Keeps s (execLegalTimeSet c eff s) := by
  simp [execLegalTimeSet]
@[simp] theorem State.installLegal_frame (s : State) (d : Firn) (v : W32) (ok : Bool) : (s.installLegal d v ok).1.frame = s.frame := by
  simp only [State.installLegal]
  split
  · simp
  · split <;> simp
@[simp] theorem execLegalFirmwareInstall_keeps (d : Firn) (v : W32) (ok : Bool) (s : State) :
    Keeps s (execLegalFirmwareInstall d v ok s) := by
  simp [execLegalFirmwareInstall]
@[simp] theorem execRateSwitch_keeps (d : Firn) (idx : Nat) (s : State) : Keeps s (execRateSwitch d idx s) := by simp [execRateSwitch]
@[simp] theorem execRateSchedule_keeps (c : Chan) (mark : Nat) (s : State) : Keeps s (execRateSchedule c mark s) := by
  simp [execRateSchedule]
@[simp] theorem execScheduleActivation_keeps (d : Firn) (k idx : Nat) (s : State) : Keeps s (execScheduleActivation d k idx s) := by
  simp only [execScheduleActivation]
  split <;> simp
@[simp] theorem execOutageRead_keeps (c : Chan) (s : State) : Keeps s (execOutageRead c s) := by simp [execOutageRead]
@[simp] theorem execLegalIdentity_keeps (c : Chan) (s : State) : Keeps s (execLegalIdentity c s) := by simp [execLegalIdentity]

/-! ### Machine/Ledger.lean -/

@[simp] theorem State.setLedger_frame (s : State) (l : LedgerSt) : (s.setLedger l).frame = s.frame := by simp [State.setLedger]
@[simp] theorem State.finishStart_frame (s : State) (x : StartSt) (status result : Nat) (winner : Nat) :
    (s.finishStart x status result winner).frame = s.frame := by
  simp only [State.finishStart]
  split
  · simp
  · split <;> simp
@[simp] theorem State.deferStart_frame (s : State) (x : StartSt) (result : Nat) : (s.deferStart x result).frame = s.frame := by
  simp only [State.deferStart]
  split
  · simp
  · split <;> simp
@[simp] theorem State.ledgerMirror_frame (s : State) : s.ledgerMirror.frame = s.frame := by simp [State.ledgerMirror]
@[simp] theorem State.slotEvent_frame (s : State) (code sev slot more : Nat) : (s.slotEvent code sev slot more).frame = s.frame := by
  simp [State.slotEvent]
@[simp] theorem State.captureFail_frame (s : State) (f : Fld) (off : Nat) : (s.captureFail f off).frame = s.frame := by
  simp [State.captureFail]
@[simp] theorem State.quarantine_frame (s : State) (slot : Nat) : (s.quarantine slot).frame = s.frame := by simp [State.quarantine]
@[simp] theorem State.failLine_frame (s : State) (line : Nat) : (s.failLine line).frame = s.frame := by simp [State.failLine]
@[simp] theorem State.failOther_frame (s : State) (f : TagFail) : (s.failOther f).frame = s.frame := by
  simp only [State.failOther]
  split <;> simp
@[simp] theorem State.failOthers_frame (s : State) (fs : List TagFail) : (s.failOthers fs).frame = s.frame := by simp [State.failOthers]
@[simp] theorem State.journalAdd_frame (s : State) (e : JEntry) : (s.journalAdd e).1.frame = s.frame := by
  simp only [State.journalAdd]
  split <;> simp
@[simp] theorem State.journalSet_frame (s : State) (p st : Nat) : (s.journalSet p st).frame = s.frame := by
  simp only [State.journalSet]
  split <;> simp
@[simp] theorem State.nextPostSeq_frame (s : State) : s.nextPostSeq.1.frame = s.frame := by simp [State.nextPostSeq]
@[simp] theorem State.rewriteNode_frame (s : State) (fs : List TagFail) (line : Nat) : (s.rewriteNode fs line).frame = s.frame := by
  simp [State.rewriteNode]
@[simp] theorem State.writeLine_frame (s : State) (fs : List TagFail) (slot k : Nat) (bytes : List Byte) :
    (s.writeLine fs slot k bytes).frame = s.frame := by
  simp [State.writeLine]
@[simp] theorem State.backOut_frame (s : State) (fs : List TagFail) (x : List (Nat × Nat × List Byte)) :
    (s.backOut fs x).1.frame = s.frame := by
  induction x generalizing s with
  | nil => rfl
  | cons x r ih =>
    obtain ⟨slot, k, before⟩ := x
    unfold State.backOut
    split <;> simp [ih]
@[simp] theorem State.applyLines_frame (s : State) (fs : List TagFail) (x : List (Nat × Nat × Nat × List Byte))
    (y : List (Nat × Nat × List Byte)) : (s.applyLines fs x y).1.frame = s.frame := by
  induction x generalizing s y with
  | nil => rfl
  | cons x r ih =>
    obtain ⟨part, slot, k, after⟩ := x
    unfold State.applyLines
    split <;> simp [ih]
@[simp] theorem State.checkParts_frame (s : State) (quar : List Nat) (fs : List TagFail) (currency : Nat) (ps : List Part) (k : Nat) :
    (s.checkParts quar fs currency ps k).1.frame = s.frame := by
  induction ps generalizing s k with
  | nil => rfl
  | cons p r ih =>
    unfold State.checkParts
    dsimp only
    split
    · rfl
    · split
      · simp
      · split
        · rfl
        · split
          · rfl
          · split
            next hp => exact State.frame_of_fst (ih _ _) hp
            · exact ih _ _

@[simp] theorem State.post_frame (s : State) (fs : List TagFail) (parts : List Part) (currency ref : Nat) :
    (s.post fs parts currency ref).1.frame = s.frame := by
  unfold State.post
  dsimp only
  have hcheck := (s.failOthers fs).checkParts_frame ((parts.map (·.slot)).filter s.ledger.isQuar) fs currency parts 0
  split
  next hp => simp [State.frame_of_fst hcheck hp]
  next hp => simp [State.frame_of_fst hcheck hp]
  next hp =>
    split
    next ha => simp [State.frame_of_fst (State.applyLines_frame _ _ _ _) ha, State.frame_of_fst hcheck hp]
    next ha => simp [State.frame_of_fst (State.applyLines_frame _ _ _ _) ha, State.frame_of_fst hcheck hp]
@[simp] theorem State.tariffMirror_frame (s : State) (t : Nat) : (s.tariffMirror t).frame = s.frame := by simp [State.tariffMirror]
@[simp] theorem execTariffLoad_keeps (d : Desc) (rd : DmaRead) (s : State) : Keeps s (execTariffLoad d rd s) := by simp [execTariffLoad]
@[simp] theorem execTariffActivate_keeps (d : Desc) (s : State) : Keeps s (execTariffActivate d s) := by simp [execTariffActivate]
@[simp] theorem State.tariffBoundary_frame (s : State) : s.tariffBoundary.frame = s.frame :=
  (State.foldl_frame _ (fun s x => by dsimp only; split <;> simp) _ _).trans (by simp)
@[simp] theorem State.openSession_frame (s : State) (x : StartSt) : (s.openSession x).1.frame = s.frame := by
  unfold State.openSession
  dsimp only
  split
  · rfl
  · split
    · rfl
    · split
      · rfl
      · split
        · rfl
        · split
          · rfl
          · split
            next hp => exact State.frame_of_fst (State.post_frame _ _ _ _ _) hp
            next hp => simp [State.frame_of_fst (State.post_frame _ _ _ _ _) hp]
@[simp] theorem State.sessionOutcome_frame (s : State) (port : Port) (r : List Byte) (res : PostRes) :
    (s.sessionOutcome port r res).frame = s.frame := by
  unfold State.sessionOutcome
  extract_lets p die
  split
  · split <;> apply State.finishStart_frame
  · apply State.postTo_frame
@[simp] theorem State.settleRecord_frame (s : State) (fs : List TagFail) (pos : Nat) (e : JEntry) :
    (s.settleRecord fs pos e).frame = s.frame := by
  simp only [State.settleRecord]
  split
  · simp
  · split
    · simp
    · split
      all_goals next hp => simp [State.frame_of_fst (State.post_frame _ _ _ _ _) hp]
@[simp] theorem execRecordArrival_keeps (d : Firn) (seq : Nat) (fs : List TagFail) (s : State) :
    Keeps s (execRecordArrival d seq fs s) := by
  simp only [execRecordArrival]
  split
  · simp
  · split
    · simp
    · split
      · simp
      · split
        · simp
        · split
          next hp => simp [State.frame_of_fst (State.journalAdd_frame _ _) hp]
          next hp => simp [State.frame_of_fst (State.journalAdd_frame _ _) hp]
@[simp] theorem execRecordAcknowledge_keeps (d : Firn) (seq : Nat) (s : State) : Keeps s (execRecordAcknowledge d seq s) := by
  simp [execRecordAcknowledge]
@[simp] theorem State.ledgerPost_frame (s : State) (t : Ticket) (d : Desc) (b : List Byte) (fs : List TagFail) :
    (s.ledgerPost t d b fs).frame = s.frame := by
  unfold State.ledgerPost
  split
  · simp
  next parts _ =>
    have hpost := s.post_frame fs parts (field b 4 2) (field b 8 8)
    generalize s.post fs parts (field b 4 2) (field b 8 8) = done at hpost
    obtain ⟨u, r⟩ := done
    extract_lets +onlyGivenNames settle die found held
    clear_value found held settle
    split
    · simp
    · split
      · simp
      · cases r with
        | aborted k st why => simp [hpost]
        | done seq =>
          refine (State.fin_frame _ _ _ _).trans (.trans ?_ hpost)
          split
          · dsimp only
            split <;> simp
          · rfl
@[simp] theorem State.ledgerRestore_frame (s : State) (t : Ticket) (d : Desc) (b : List Byte) (full : Bool) :
    (s.ledgerRestore t d b full).frame = s.frame := by
  simp [State.ledgerRestore]
@[simp] theorem State.readSlot_frame (s : State) (fs : List TagFail) (n : Nat) : (s.readSlot fs n).1.frame = s.frame := by
  simp only [State.readSlot]
  split
  · simp
  · split <;> simp
@[simp] theorem State.ledgerRead_frame (s : State) (t : Ticket) (d : Desc) (fs : List TagFail) :
    (s.ledgerRead t d fs).frame = s.frame := by
  simp only [State.ledgerRead]
  split
  · simp
  · split
    all_goals next hp => simp [State.frame_of_fst (State.readSlot_frame _ _ _) hp]
@[simp] theorem State.ledgerLookup_frame (s : State) (t : Ticket) (d : Desc) (b : List Byte) (fs : List TagFail) :
    (s.ledgerLookup t d b fs).frame = s.frame := by
  simp only [State.ledgerLookup]
  split
  · simp
  · split
    · simp
    · split
      · simp
      · split
        · simp
        · split
          all_goals next hp => simp [State.frame_of_fst (State.readSlot_frame _ _ _) hp]
@[simp] theorem State.ledgerDesc_frame (s : State) (op : Nat) (t : Ticket) (d : Desc) (b : List Byte) (k : State → State)
    (h : ∀ s, (k s).frame = s.frame) : (s.ledgerDesc op t d b k).frame = s.frame := by
  simp [State.ledgerDesc, h]
@[simp] theorem execLedgerRead_keeps (d : Desc) (fs : List TagFail) (s : State) : Keeps s (execLedgerRead d fs s) := by
  simp [execLedgerRead]
@[simp] theorem execLedgerPost_keeps (d : Desc) (rd : DmaRead) (fs : List TagFail) (s : State) : Keeps s (execLedgerPost d rd fs s) :=
  (keeps_next _ _).2 (State.withDesc_frame _ _ _ _ fun t s => State.withRead_frame _ _ _ _ _ fun b s => by simp)
@[simp] theorem execLedgerRestore_keeps (d : Desc) (rd : DmaRead) (full : Bool) (s : State) : Keeps s (execLedgerRestore d rd full s) :=
  (keeps_next _ _).2 (State.withDesc_frame _ _ _ _ fun t s => State.withRead_frame _ _ _ _ _ fun b s => by simp)
@[simp] theorem execLedgerLookup_keeps (d : Desc) (rd : DmaRead) (fs : List TagFail) (s : State) : Keeps s (execLedgerLookup d rd fs s) :=
  (keeps_next _ _).2 (State.withDesc_frame _ _ _ _ fun t s => State.withRead_frame _ _ _ _ _ fun b s => by simp)
@[simp] theorem State.memBack_frame (s : State) : s.memBack.frame = s.frame := by simp [State.memBack]
@[simp] theorem State.memLost_frame (s : State) : s.memLost.frame = s.frame := by simp [State.memLost]
@[simp] theorem execSlotReplay_keeps (n : Nat) (bad : List Nat) (s : State) : Keeps s (execSlotReplay n bad s) := by
  unfold execSlotReplay
  dsimp only
  split
  · simp
  · split
    · simp only [keeps_next, State.slotEvent_frame, State.ledgerMirror_frame, State.setLedger_frame]
      refine (State.foldl_frame _ (fun s x => ?_) _ _).trans (State.foldl_frame _ (fun s p => State.failOther_frame _ _) _ _)
      split <;> simp
    · simp only [keeps_next, State.slotEvent_frame, State.ledgerMirror_frame]
      exact State.foldl_frame _ (fun s p => State.failOther_frame _ _) _ _
@[simp] theorem State.rollForward_frame (s : State) (p : Nat) (e : JEntry) : (s.rollForward p e).frame = s.frame := by
  simp [State.rollForward]
@[simp] theorem State.ledgerRecovery_frame (s : State) (ok : Bool) : (s.ledgerRecovery ok).frame = s.frame := by
  simp only [State.ledgerRecovery]
  split
  · simp
  · split <;> simp
@[simp] theorem State.ledgerPark_frame (s : State) : s.ledgerPark.frame = s.frame := by simp [State.ledgerPark]
@[simp] theorem State.parkFailed_frame (s : State) : s.parkFailed.frame = s.frame := by simp [State.parkFailed]

/-! ### Machine/Switches.lean -/

@[simp] theorem State.setSlice_frame (s : State) (i : Nat) (c : SliceSt) : (s.setSlice i c).frame = s.frame := by simp [State.setSlice]
@[simp] theorem State.setSw_frame (s : State) (n : Nat) (x : SwSt) : (s.setSw n x).frame = s.frame := by simp [State.setSw]
@[simp] theorem State.setGov_frame (s : State) (g : GovSt) : (s.setGov g).frame = s.frame := by simp [State.setGov]
@[simp] theorem State.pushOrder_frame (s : State) (o : Order) : (s.pushOrder o).frame = s.frame := by simp [State.pushOrder]
@[simp] theorem State.qMirror_frame (s : State) (g : Nat) (n : Option Nat) : (s.qMirror g n).frame = s.frame := by
  simp only [State.qMirror]
  split <;> simp
@[simp] theorem State.qAdd_frame (s : State) (e : QEntry) : (s.qAdd e).frame = s.frame := by simp [State.qAdd]
@[simp] theorem State.qDrop_frame (s : State) (o : QObj) : (s.qDrop o).frame = s.frame := by
  simp only [State.qDrop]
  split <;> simp
@[simp] theorem State.dropRestart_frame (s : State) (n : Nat) : (s.dropRestart n).frame = s.frame := by simp [State.dropRestart]
@[simp] theorem State.askRestart_frame (s : State) (n why : Nat) : (s.askRestart n why).frame = s.frame := by simp [State.askRestart]
@[simp] theorem State.lockMirrorSw_frame (s : State) (n : Nat) : (s.lockMirrorSw n).frame = s.frame := by simp [State.lockMirrorSw]
@[simp] theorem State.clampMirror_frame (s : State) (n : Nat) : (s.clampMirror n).frame = s.frame := by simp [State.clampMirror]
@[simp] theorem State.clampEvent_frame (s : State) (n : Nat) : (s.clampEvent n).frame = s.frame := by simp [State.clampEvent]
@[simp] theorem State.setSerac_frame (s : State) (x : SeracSt) : (s.setSerac x).frame = s.frame := by simp [State.setSerac]
@[simp] theorem State.testedOff_frame (s : State) (n : Nat) : (s.testedOff n).frame = s.frame := by simp [State.testedOff]
@[simp] theorem State.swRefresh_frame (s : State) (n : Nat) : (s.swRefresh n).frame = s.frame := by simp [State.swRefresh]
@[simp] theorem State.setWant_frame (s : State) (n : Nat) (on : Bool) : (s.setWant n on).frame = s.frame := by simp [State.setWant]
@[simp] theorem State.stopPoints_frame (s : State) (n endc : Nat) : (s.stopPoints n endc).frame = s.frame := by simp [State.stopPoints]
@[simp] theorem State.protectOff_frame (s : State) (n cause : Nat) : (s.protectOff n cause).frame = s.frame := by simp [State.protectOff]
@[simp] theorem execOverloadTrip_keeps (n : Nat) (s : State) : Keeps s (execOverloadTrip n s) := by simp [execOverloadTrip]
@[simp] theorem execOverloadRestartDelay_keeps (n : Nat) (s : State) : Keeps s (execOverloadRestartDelay n s) := by
  simp [execOverloadRestartDelay]
@[simp] theorem execOvertemperatureTrip_keeps (n : Nat) (s : State) : Keeps s (execOvertemperatureTrip n s) := by
  simp [execOvertemperatureTrip]
@[simp] theorem execOvertemperatureCooled_keeps (n tj : Nat) (s : State) : Keeps s (execOvertemperatureCooled n tj s) := by
  simp [execOvertemperatureCooled]
@[simp] theorem execSwitchOpenLoad_keeps (n : Nat) (s : State) : Keeps s (execSwitchOpenLoad n s) := by simp [execSwitchOpenLoad]
@[simp] theorem execSwitchFailure_keeps (n code : Nat) (s : State) : Keeps s (execSwitchFailure n code s) := by simp [execSwitchFailure]
@[simp] theorem execSwitchUnlock_keeps (d : Desc) (s : State) : Keeps s (execSwitchUnlock d s) := by simp [execSwitchUnlock]
@[simp] theorem State.takeSwitchConfig_frame (s : State) (n : Nat) (b : List Byte) : (s.takeSwitchConfig n b).frame = s.frame := by
  simp [State.takeSwitchConfig]
@[simp] theorem execSwitchConfig_keeps (d : Desc) (s : State) : Keeps s (execSwitchConfig d s) := by
  simp only [execSwitchConfig]
  split <;> simp
@[simp] theorem State.switchConfigs_frame (s : State) : s.switchConfigs.frame = s.frame := by simp [State.switchConfigs]
@[simp] theorem execSwitchReturn_keeps (d : Desc) (s : State) : Keeps s (execSwitchReturn d s) := by simp [execSwitchReturn]
@[simp] theorem State.switchTested_frame (s : State) (n code : Nat) : (s.switchTested n code).frame = s.frame := by
  simp only [State.switchTested]
  split <;> simp
@[simp] theorem execVswUndervoltage_keeps (v : Nat) (s : State) : Keeps s (execVswUndervoltage v s) := by simp [execVswUndervoltage]
@[simp] theorem execVswRestored_keeps (v : Nat) (s : State) : Keeps s (execVswRestored v s) := by simp [execVswRestored]
@[simp] theorem State.drivePilot_frame (s : State) (i out duty : Nat) : (s.drivePilot i out duty).frame = s.frame := by
  simp [State.drivePilot]
@[simp] theorem execSerialWatchdogExpiry_keeps (s : State) : Keeps s (execSerialWatchdogExpiry s) := by simp [execSerialWatchdogExpiry]
@[simp] theorem execFailsafeOnSequence_keeps (s : State) : Keeps s (execFailsafeOnSequence s) := by
  simp only [execFailsafeOnSequence]
  split <;> simp
@[simp] theorem State.watchdogOver_frame (s : State) : s.watchdogOver.frame = s.frame := by
  simp only [State.watchdogOver]
  split <;> simp
@[simp] theorem State.selectIsns_frame (s : State) (v : Nat) : (s.selectIsns v).frame = s.frame := by simp [State.selectIsns]
@[simp] theorem execDrvIsnsSelWrite_keeps (v : W32) (s : State) : Keeps s (execDrvIsnsSelWrite v s) := by simp [execDrvIsnsSelWrite]
@[simp] theorem execSnsSelChange_keeps (v : Nat) (s : State) : Keeps s (execSnsSelChange v s) := by simp [execSnsSelChange]

/-! ### Machine/Slices.lean -/

@[simp] theorem State.setSession_frame (s : State) (i v : Nat) : (s.setSession i v).frame = s.frame := by simp [State.setSession]
@[simp] theorem State.driveOffer_frame (s : State) (i p : Nat) : (s.driveOffer i p).frame = s.frame := by simp [State.driveOffer]
@[simp] theorem State.lockMirror_frame (s : State) (i : Nat) : (s.lockMirror i).frame = s.frame := by simp [State.lockMirror]
@[simp] theorem State.lockConfirmed_frame (s : State) (i : Nat) (dir : Bool) : (s.lockConfirmed i dir).frame = s.frame := by
  simp [State.lockConfirmed]
@[simp] theorem State.lockGo_frame (s : State) (i : Nat) : (s.lockGo i).frame = s.frame := by
  simp only [State.lockGo]
  split <;> simp
@[simp] theorem State.lockOrder_frame (s : State) (i : Nat) (dir : Bool) (w : List (Ticket × Nat)) :
    (s.lockOrder i dir w).frame = s.frame := by
  simp only [State.lockOrder]
  split <;> simp
@[simp] theorem execLockHoldExpiry_keeps (i : Nat) (s : State) : Keeps s (execLockHoldExpiry i s) := by simp [execLockHoldExpiry]
@[simp] theorem State.unlockStep_frame (s : State) (i : Nat) : (s.unlockStep i).frame = s.frame := by simp [State.unlockStep]
@[simp] theorem State.endSlice_frame (s : State) (i code : Nat) : (s.endSlice i code).frame = s.frame := by
  simp only [State.endSlice]
  repeat' split
  all_goals simp
@[simp] theorem State.reflex_frame (s : State) (i code data : Nat) : (s.reflex i code data).frame = s.frame := by
  simp only [State.reflex]
  split <;> simp
@[simp] theorem State.recordReflex_frame (s : State) (i : Nat) : (s.recordReflex i).frame = s.frame := by
  simp only [State.recordReflex]
  split <;> simp
@[simp] theorem State.endOf_frame (s : State) (o : Order) : (s.endOf o).2.frame = s.frame := by
  simp only [State.endOf]
  split
  · simp
  · split
    · simp
    · split <;> simp
@[simp] theorem State.failSlice_frame (s : State) (i code : Nat) : (s.failSlice i code).frame = s.frame := by
  simp only [State.failSlice]
  split <;> split <;> simp
@[simp] theorem execSliceReturn_keeps (d : Desc) (s : State) : Keeps s (execSliceReturn d s) := by simp [execSliceReturn]
@[simp] theorem State.sliceTested_frame (s : State) (i code : Nat) : (s.sliceTested i code).frame = s.frame := by
  simp only [State.sliceTested]
  split
  · simp
  · split
    · simp
    · split <;> simp
@[simp] theorem execReturnSelfTestDone_keeps (isSlice : Bool) (n code : Nat) (s : State) :
    Keeps s (execReturnSelfTestDone isSlice n code s) := by
  simp [execReturnSelfTestDone]
@[simp] theorem State.acceptStart_frame (s : State) (x : StartSt) (qNeg : Bool) : (s.acceptStart x qNeg).frame = s.frame := by
  simp only [State.acceptStart]
  repeat' split
  all_goals simp
@[simp] theorem State.setStart_frame (s : State) (p : Nat) (f : StartSt → StartSt) : (s.setStart p f).frame = s.frame := by
  simp [State.setStart]
@[simp] theorem State.admitStart_frame (s : State) (x : StartSt) : (s.admitStart x).frame = s.frame := by
  simp only [State.admitStart]
  split
  · simp
  · split
    all_goals next hp =>
      have hs := State.frame_of_fst (State.openSession_frame _ _) hp
      split
      · split <;> simp [hs]
      · simp [hs]
@[simp] theorem State.admitReady_frame (s : State) : s.admitReady.frame = s.frame := by simp [State.admitReady]
@[simp] theorem State.dropStart_frame (s : State) (x : StartSt) (status result winner : Nat) :
    (s.dropStart x status result winner).frame = s.frame := by
  simp [State.dropStart]
@[simp] theorem execLockConfirmTimeout_keeps (i : Nat) (s : State) : Keeps s (execLockConfirmTimeout i s) := by
  simp only [execLockConfirmTimeout]
  repeat' split
  all_goals simp
@[simp] theorem execLockRetry_keeps (i : Nat) (s : State) : Keeps s (execLockRetry i s) := by
  simp only [execLockRetry]
  split <;> simp
@[simp] theorem execLockFeedbackChange_keeps (i : Nat) (locked : Bool) (s : State) : Keeps s (execLockFeedbackChange i locked s) := by
  simp [execLockFeedbackChange]
@[simp] theorem execPilotStateConfirmed_keeps (i : Nat) (high low : Int) (s : State) :
    Keeps s (execPilotStateConfirmed i high low s) := by
  simp [execPilotStateConfirmed]
@[simp] theorem State.stopSlice_frame (s : State) (i src code : Nat) : (s.stopSlice i src code).frame = s.frame := by
  simp only [State.stopSlice]
  split <;> simp
@[simp] theorem execProximityConfirmed_keeps (i ohm : Nat) (s : State) : Keeps s (execProximityConfirmed i ohm s) := by
  simp [execProximityConfirmed]
@[simp] theorem execOfferBelowMinimumTimeout_keeps (i : Nat) (s : State) : Keeps s (execOfferBelowMinimumTimeout i s) := by
  simp [execOfferBelowMinimumTimeout]
@[simp] theorem State.overStep_frame (s : State) (i p : Nat) : (s.overStep i p).frame = s.frame := by simp [State.overStep]
@[simp] theorem execOvercurrent_keeps (i : Nat) (s : State) : Keeps s (execOvercurrent i s) := by simp [execOvercurrent]
@[simp] theorem execOfferTimeout_keeps (i : Nat) (s : State) : Keeps s (execOfferTimeout i s) := by simp [execOfferTimeout]
@[simp] theorem execTripStateFTimeout_keeps (i : Nat) (s : State) : Keeps s (execTripStateFTimeout i s) := by simp [execTripStateFTimeout]
@[simp] theorem State.useCred_frame (s : State) (i kind hash : Nat) : (s.useCred i kind hash).frame = s.frame := by
  simp only [State.useCred]
  split
  · simp
  · split
    · simp
    · split <;> simp
@[simp] theorem State.presentCred_frame (s : State) (i kind hash : Nat) : (s.presentCred i kind hash).frame = s.frame := by
  simp [State.presentCred]
@[simp] theorem execCredentialExpiry_keeps (i : Nat) (s : State) : Keeps s (execCredentialExpiry i s) := by simp [execCredentialExpiry]
@[simp] theorem State.offerLess_frame (s : State) (i old new : Nat) : (s.offerLess i old new).frame = s.frame := by simp [State.offerLess]
@[simp] theorem State.sendLimit_frame (s : State) (i p op ma : Nat) : (s.sendLimit i p op ma).frame = s.frame := by
  simp only [State.sendLimit]
  split <;> simp
@[simp] theorem State.hlcFail_frame (s : State) (i reason : Nat) : (s.hlcFail i reason).frame = s.frame := by simp [State.hlcFail]
@[simp] theorem State.slacFail_frame (s : State) (i : Nat) : (s.slacFail i).frame = s.frame := by simp [State.slacFail]
@[simp] theorem execSlacMatch_keeps (i atten : Nat) (sdp : Bool) (tls : Option Bool) (offers : List Nat) (tls13 : Bool)
    (s : State) : Keeps s (execSlacMatch i atten sdp tls offers tls13 s) := by
  simp only [execSlacMatch]
  repeat' split
  all_goals simp
@[simp] theorem execSlacTimeout_keeps (i : Nat) (s : State) : Keeps s (execSlacTimeout i s) := by simp [execSlacTimeout]
@[simp] theorem execSlacRetry_keeps (i : Nat) (s : State) : Keeps s (execSlacRetry i s) := by simp [execSlacRetry]
@[simp] theorem execHlcAuthorization_keeps (i : Nat) (emaid : List Byte) (nb na : Nat) (ok : Bool) (s : State) :
    Keeps s (execHlcAuthorization i emaid nb na ok s) := by
  simp [execHlcAuthorization]
@[simp] theorem execHlcAuthorizationTimeout_keeps (i : Nat) (s : State) : Keeps s (execHlcAuthorizationTimeout i s) := by
  simp [execHlcAuthorizationTimeout]
@[simp] theorem execHlcSequenceTimeout_keeps (i : Nat) (s : State) : Keeps s (execHlcSequenceTimeout i s) := by
  simp [execHlcSequenceTimeout]
@[simp] theorem execHlcPowerDelivery_keeps (i : Nat) (start : Bool) (s : State) : Keeps s (execHlcPowerDelivery i start s) := by
  simp [execHlcPowerDelivery]
@[simp] theorem execHlcCurrentDemand_keeps (i u : Nat) (cur : Int) (s : State) : Keeps s (execHlcCurrentDemand i u cur s) := by
  simp only [execHlcCurrentDemand]
  split <;> simp
@[simp] theorem State.hlcCtrl_frame (s : State) (d : Desc) (subop : Nat) (buf : Bool) (k : Ticket → Nat → State → State)
    (h : ∀ a b s, (k a b s).frame = s.frame) : (s.hlcCtrl d subop buf k).frame = s.frame := by
  simp only [State.hlcCtrl]
  split
  · simp
  · split <;> simp [h]
@[simp] theorem execConverterStatus_keeps (d : Desc) (rd : DmaRead) (s : State) : Keeps s (execConverterStatus d rd s) := by
  simp [execConverterStatus]
@[simp] theorem execRenegotiate_keeps (d : Desc) (s : State) : Keeps s (execRenegotiate d s) := by simp [execRenegotiate]
@[simp] theorem execModemReset_keeps (d : Desc) (s : State) : Keeps s (execModemReset d s) := by simp [execModemReset]
@[simp] theorem execConverterStale_keeps (i : Nat) (s : State) : Keeps s (execConverterStale i s) := by simp [execConverterStale]
@[simp] theorem execEarthFaultTrip_keeps (i : Nat) (dc : Int) (s : State) : Keeps s (execEarthFaultTrip i dc s) := by
  simp [execEarthFaultTrip]
@[simp] theorem execRdcSelfTestResult_keeps (i : Nat) (ok : Bool) (s : State) : Keeps s (execRdcSelfTestResult i ok s) := by
  simp only [execRdcSelfTestResult]
  split
  · simp
  · split
    · simp
    · split <;> simp
@[simp] theorem State.isoShow_frame (s : State) (i r u : Nat) : (s.isoShow i r u).frame = s.frame := by simp [State.isoShow]
@[simp] theorem execInsulationMeasurement_keeps (i r u umax : Nat) (long : Bool) (s : State) :
    Keeps s (execInsulationMeasurement i r u umax long s) := by
  simp [execInsulationMeasurement]
@[simp] theorem execCableCheckResult_keeps (i r u umax : Nat) (selfTest : Bool) (s : State) :
    Keeps s (execCableCheckResult i r u umax selfTest s) := by
  simp [execCableCheckResult]
@[simp] theorem State.reportEnd_frame (s : State) (i p : Nat) : (s.reportEnd i p).frame = s.frame := by simp [State.reportEnd]
@[simp] theorem State.sliceEnd_frame (s : State) (i : Nat) : (s.sliceEnd i).frame = s.frame := by simp [State.sliceEnd]
@[simp] theorem State.plugIn_frame (s : State) (i : Nat) : (s.plugIn i).frame = s.frame := by simp [State.plugIn]
@[simp] theorem State.closeContactor_frame (s : State) (i n : Nat) : (s.closeContactor i n).frame = s.frame := by
  simp [State.closeContactor]
@[simp] theorem State.sliceStep_frame (s : State) (i : Nat) : (s.sliceStep i).frame = s.frame := by
  unfold State.sliceStep
  extract_lets +onlyGivenNames c p n u inh src v f st pil was away unblocked w
  have hv : v.frame = s.frame := (State.setSlice_frame _ _ _).trans (State.recordReflex_frame _ _)
  have haway (s : State) (x : Nat) : (away s x).frame = s.frame := (State.setSlice_frame _ _ _).trans (State.setSession_frame _ _ _)
  have hunblocked : unblocked.frame = v.frame := by simp only [unblocked]; split <;> simp
  clear_value v f st pil was away unblocked
  suffices hw : w.frame = v.frame from (State.overStep_frame _ _ _).trans ((State.reportEnd_frame _ _ _).trans (hw.trans hv))
  refine State.frame_of_ite rfl (State.frame_of_ite (by simp) (State.frame_of_ite (by simp) (State.frame_of_ite ?_
    (State.frame_of_ite (by simp) (State.frame_of_ite (by simp) (State.frame_of_ite (by simp) (State.frame_of_ite ?_ rfl)))))))
  · cases v.starts.find? (·.point == p) with
    | none => simp
    | some x => simp [haway]
  · refine State.frame_of_ite rfl (State.frame_of_ite (by simp) ?_)
    cases byPilot pil with
    | none => exact hunblocked
    | some x => simp [hunblocked]
@[simp] theorem State.sliceDrive_frame (s : State) (i : Nat) : (s.sliceDrive i).frame = s.frame := by
  simp only [State.sliceDrive]
  repeat' split
  all_goals simp
@[simp] theorem State.pilotEvent_frame (s : State) (i : Nat) : (s.pilotEvent i).frame = s.frame := by simp [State.pilotEvent]

/-! ### Machine/Governor.lean -/

@[simp] theorem State.tokenMirror_frame (s : State) (g : Nat) : (s.tokenMirror g).frame = s.frame := by simp [State.tokenMirror]
@[simp] theorem execTokenReturn_keeps (g : Nat) (s : State) : Keeps s (execTokenReturn g s) := by simp [execTokenReturn]
@[simp] theorem State.takeToken_frame (s : State) (g : Nat) : (s.takeToken g).frame = s.frame := by simp [State.takeToken]
@[simp] theorem execGovBudgetWrite_keeps (g : Nat) (v : W32) (s : State) : Keeps s (execGovBudgetWrite g v s) := by
  simp [execGovBudgetWrite]
@[simp] theorem execGovSiteBudgetWrite_keeps (v : W32) (s : State) : Keeps s (execGovSiteBudgetWrite v s) := by
  simp [execGovSiteBudgetWrite]
@[simp] theorem State.takeBudgets_frame (s : State) : s.takeBudgets.frame = s.frame :=
  (State.foldl_frame _ (fun s x => by split <;> simp) _ _).trans (State.setGov_frame _ _)
@[simp] theorem State.setGroup_frame (s : State) (x : GroupOp) : (s.setGroup x).frame = s.frame := by simp [State.setGroup]
@[simp] theorem State.groupCheck_frame (s : State) (id : Nat) : (s.groupCheck id).frame = s.frame := by
  simp only [State.groupCheck]
  split <;> simp
@[simp] theorem State.leaveQueues_frame (s : State) (id : Nat) : (s.leaveQueues id).frame = s.frame := by simp [State.leaveQueues]
@[simp] theorem State.partDone_frame (s : State) (id n status : Nat) : (s.partDone id n status).frame = s.frame := by
  simp only [State.partDone]
  split <;> simp
@[simp] theorem State.backOutGroups_frame (s : State) : s.backOutGroups.frame = s.frame := by
  refine State.foldl_frame _ (fun s x => ?_) _ _
  simp only [State.fin_frame, State.setGov_frame]
  exact State.foldl_frame _ (fun s n => State.setWant_frame _ _ _) _ _
@[simp] theorem State.onOutcome_frame (s : State) (n status result winner : Nat) :
    (s.onOutcome n status result winner).frame = s.frame := by
  simp only [State.onOutcome]
  split <;> simp
@[simp] theorem execDeferMaxExpiry_keeps (o : QObj) (s : State) : Keeps s (execDeferMaxExpiry o s) := by simp [execDeferMaxExpiry]
@[simp] theorem State.deferOver_frame (s : State) : s.deferOver.frame = s.frame := by
  refine State.foldl_frame _ (fun s e => ?_) _ _
  split
  · split <;> simp
  · simp
  · simp
@[simp] theorem State.grant_frame (s : State) (e : QEntry) : (s.grant e).frame = s.frame := by
  simp only [State.grant]
  split <;> simp

@[simp] theorem Pass.entry_frame (inh : Nat → Nat) (degraded : Nat → Bool) (a : Pass) (e : QEntry) :
    (Pass.entry inh degraded a e).s.frame = a.s.frame := by
  simp only [Pass.entry]
  split
  · rfl
  · split
    · split
      · split <;> simp
      · simp
      · rfl
    · repeat' split
      all_goals simp

@[simp] theorem State.govGrants_frame (s : State) (inh : Nat → Nat) (degraded : Nat → Bool) :
    (s.govGrants inh degraded).frame = s.frame :=
  foldl_keeps (Pass.entry inh degraded) (·.s.frame) (Pass.entry_frame inh degraded) _ _
@[simp] theorem State.deferEntry_frame (s : State) (ahead : List QEntry) (e : QEntry) : (s.deferEntry ahead e).frame = s.frame := by
  unfold State.deferEntry
  dsimp only
  split
  · split <;> simp
  · refine (State.foldl_frame _ (fun s id => ?_) _ _).trans (by simp)
    split <;> simp
  · rfl
@[simp] theorem State.deferWaiting_frame (s : State) : s.deferWaiting.frame = s.frame := by simp [State.deferWaiting]
@[simp] theorem State.allocate_frame (s : State) : s.allocate.frame = s.frame := by simp [State.allocate]
@[simp] theorem execRampStep_keeps (p : Nat) (s : State) : Keeps s (execRampStep p s) := by
  simp only [execRampStep]
  split <;> simp
@[simp] theorem State.govTick_frame (s : State) : s.govTick.frame = s.frame := by simp [State.govTick]

/-! ### Machine/Serac.lean -/

@[simp] theorem State.seracPost_frame (s : State) (code sev obj data : Nat) : (s.seracPost code sev obj data).frame = s.frame := by
  simp [State.seracPost]
@[simp] theorem State.seracRelease_frame (s : State) : s.seracRelease.frame = s.frame := by simp [State.seracRelease]
@[simp] theorem State.seracLog_frame (s : State) (kind port obj : Nat) (before after : List Byte) (data : Nat) :
    (s.seracLog kind port obj before after data).frame = s.frame := by
  simp [State.seracLog]
@[simp] theorem State.seracNote_frame (s : State) (kind port obj data : Nat) : (s.seracNote kind port obj data).frame = s.frame := by
  simp [State.seracNote]
@[simp] theorem State.setInp_frame (s : State) (i : Nat) (v : SInput) : (s.setInp i v).frame = s.frame := by simp [State.setInp]
@[simp] theorem State.setFn_frame (s : State) (f : Nat) (v : SFunc) : (s.setFn f v).frame = s.frame := by simp [State.setFn]
@[simp] theorem State.seracMirror_frame (s : State) : s.seracMirror.frame = s.frame := by simp [State.seracMirror]
@[simp] theorem State.setEnable_frame (s : State) (k : Nat) (on : Bool) : (s.setEnable k on).frame = s.frame := by
  simp only [State.setEnable]
  split
  · simp
  · split <;> simp
@[simp] theorem State.writeEnables_frame (s : State) : s.writeEnables.frame = s.frame := by simp [State.writeEnables]
@[simp] theorem State.seracOff_frame (s : State) : s.seracOff.frame = s.frame := by simp [State.seracOff]
@[simp] theorem State.seracChannels_frame (s : State) : s.seracChannels.frame = s.frame := by simp [State.seracChannels]
@[simp] theorem State.seracInit_frame (s : State) : s.seracInit.frame = s.frame := by simp [State.seracInit]
@[simp] theorem State.directFault_frame (s : State) (code : Nat) : (s.directFault code).frame = s.frame := by simp [State.directFault]
@[simp] theorem execSeracDirectFault_keeps (code : Nat) (s : State) : Keeps s (execSeracDirectFault code s) := by
  simp [execSeracDirectFault]
@[simp] theorem execSeracCycleMonitorExpiry_keeps (s : State) : Keeps s (execSeracCycleMonitorExpiry s) := by
  simp [execSeracCycleMonitorExpiry]
@[simp] theorem execImageHashCheck_keeps (ok : Bool) (s : State) : Keeps s (execImageHashCheck ok s) := by simp [execImageHashCheck]
@[simp] theorem State.seracMismatch_frame (s : State) : s.seracMismatch.frame = s.frame := by simp [State.seracMismatch]
@[simp] theorem execSeracStart_keeps (hash : Nat) (verified : Bool) (s : State) : Keeps s (execSeracStart hash verified s) := by
  simp only [execSeracStart]
  split
  · simp
  · split <;> simp
@[simp] theorem State.enterDegraded_frame (s : State) (code rem : Nat) : (s.enterDegraded code rem).frame = s.frame := by
  simp [State.enterDegraded]
@[simp] theorem State.safeHold_frame (s : State) : s.safeHold.frame = s.frame := by simp [State.safeHold]
@[simp] theorem State.offPath_frame (s : State) (code : Nat) : (s.offPath code).frame = s.frame := by
  simp only [State.offPath]
  split
  · simp
  · split
    · simp
    · split <;> simp
@[simp] theorem State.diagPass_frame (s : State) (code : Nat) : (s.diagPass code).frame = s.frame := by simp [State.diagPass]
@[simp] theorem State.degradedCheck_frame (s : State) : s.degradedCheck.frame = s.frame := by simp [State.degradedCheck]
@[simp] theorem execSeracOffPathFault_keeps (code : Nat) (s : State) : Keeps s (execSeracOffPathFault code s) := by
  simp [execSeracOffPathFault]
@[simp] theorem execDegradedTimeStore_keeps (s : State) : Keeps s (execDegradedTimeStore s) := by simp [execDegradedTimeStore]
@[simp] theorem execSeracDegradedReminder_keeps (s : State) : Keeps s (execSeracDegradedReminder s) := by simp [execSeracDegradedReminder]
@[simp] theorem execSeracDegradedExpiry_keeps (s : State) : Keeps s (execSeracDegradedExpiry s) := by simp [execSeracDegradedExpiry]
@[simp] theorem execEnableUntestedTimeout_keeps (k : Nat) (s : State) : Keeps s (execEnableUntestedTimeout k s) := by
  simp only [execEnableUntestedTimeout]
  split <;> simp
@[simp] theorem execSeracStartTestsDone_keeps (direct : Nat) (off : List Nat) (s : State) :
    Keeps s (execSeracStartTestsDone direct off s) := by
  simp only [execSeracStartTestsDone]
  split
  · simp
  · split
    · simp
    · split <;> simp
@[simp] theorem State.inputFault_frame (s : State) (i code : Nat) : (s.inputFault i code).frame = s.frame := by simp [State.inputFault]
@[simp] theorem State.pulseTest_frame (s : State) (k i : Nat) (high low : Bool) : (s.pulseTest k i high low).frame = s.frame := by
  simp only [State.pulseTest]
  split <;> simp
@[simp] theorem execTestPulse_keeps (k low high : Nat) (s : State) : Keeps s (execTestPulse k low high s) := by simp [execTestPulse]
@[simp] theorem execThresholdSelfTest_keeps (bad : Nat) (s : State) : Keeps s (execThresholdSelfTest bad s) := by
  simp [execThresholdSelfTest]
@[simp] theorem State.evalFn_frame (s : State) (resets : List Nat) (f : Nat) : (s.evalFn resets f).frame = s.frame := by
  simp [State.evalFn]
@[simp] theorem execSeracCycle_keeps (samples : List (Nat × List Level)) (passed : List Nat) (s : State) :
    Keeps s (execSeracCycle samples passed s) := by
  simp [execSeracCycle]
@[simp] theorem execDiscrepancyTimeout_keeps (f : Nat) (s : State) : Keeps s (execDiscrepancyTimeout f s) := by
  simp [execDiscrepancyTimeout]
@[simp] theorem State.seracReq_frame (s : State) (p : Port) (typ : Nat) (k : Nat → List Byte → State → State)
    (h : ∀ a b s, (k a b s).frame = s.frame) : (s.seracReq p typ k).frame = s.frame := by
  simp [State.seracReq, h]
@[simp] theorem State.seracReply_frame (s : State) (p : Port) (seq typ status reason : Nat) (body : List Byte) :
    (s.seracReply p seq typ status reason body).frame = s.frame := by
  simp [State.seracReply]
@[simp] theorem State.closeSession_frame (s : State) : s.closeSession.frame = s.frame := by simp [State.closeSession]
@[simp] theorem State.endSeracSession_frame (s : State) (p : Port) : (s.endSeracSession p).frame = s.frame := by
  simp [State.endSeracSession]
@[simp] theorem State.sessionReq_frame (s : State) (p : Port) (typ : Nat) (ranges : List Byte → List (Nat × Nat))
    (bad : List Byte → Bool) (k : Nat → List Byte → State → State) (h : ∀ a b s, (k a b s).frame = s.frame) :
    (s.sessionReq p typ ranges bad k).frame = s.frame := by
  simp [State.sessionReq, h]
@[simp] theorem execLogin_keeps (p : Port) (s : State) : Keeps s (execLogin p s) := by simp [execLogin]
@[simp] theorem execLogout_keeps (p : Port) (s : State) : Keeps s (execLogout p s) := by simp [execLogout]
@[simp] theorem execConfigRead_keeps (p : Port) (s : State) : Keeps s (execConfigRead p s) := by
  refine (keeps_next _ _).2 (State.seracReq_frame _ _ _ _ fun seq b s => ?_)
  dsimp only
  split
  · simp
  · split
    · simp
    · split <;> simp
@[simp] theorem execConfigStage_keeps (p : Port) (s : State) : Keeps s (execConfigStage p s) := by simp [execConfigStage]
@[simp] theorem State.seracChange_frame (s : State) (p : Port) (kind data : Nat) (before after : List Byte) :
    (s.seracChange p kind data before after).frame = s.frame := by
  simp [State.seracChange]
@[simp] theorem execConfigCommit_keeps (p : Port) (s : State) : Keeps s (execConfigCommit p s) := by
  refine (keeps_next _ _).2 (State.sessionReq_frame _ _ _ _ _ _ fun seq b s => ?_)
  dsimp only
  split
  · simp
  · split
    · simp
    · split
      · simp
      · split <;> simp
@[simp] theorem execPasswordSet_keeps (p : Port) (s : State) : Keeps s (execPasswordSet p s) := by simp [execPasswordSet]
@[simp] theorem execLogRead_keeps (p : Port) (s : State) : Keeps s (execLogRead p s) := by simp [execLogRead]
@[simp] theorem execLogRelease_keeps (p : Port) (s : State) : Keeps s (execLogRelease p s) := by simp [execLogRelease]
@[simp] theorem execSeracRestart_keeps (p : Port) (s : State) : Keeps s (execSeracRestart p s) := by simp [execSeracRestart]
@[simp] theorem execSeracSessionTimeout_keeps (s : State) : Keeps s (execSeracSessionTimeout s) := by simp [execSeracSessionTimeout]
@[simp] theorem execLockoutExpiry_keeps (s : State) : Keeps s (execLockoutExpiry s) := by simp [execLockoutExpiry]

/-! ### Machine/Arbiter.lean -/

@[simp] theorem execStartDelivery_keeps (d : Desc) (rd : DmaRead) (s : State) : Keeps s (execStartDelivery d rd s) := by
  simp [execStartDelivery]
@[simp] theorem execStopDelivery_keeps (d : Desc) (s : State) : Keeps s (execStopDelivery d s) := by simp [execStopDelivery]
@[simp] theorem execSetLimit_keeps (d : Desc) (s : State) : Keeps s (execSetLimit d s) := by simp [execSetLimit]
@[simp] theorem State.pushSwitch_frame (s : State) (src n : Nat) (on : Bool) (t : Option Ticket) (group : Option Nat) :
    (s.pushSwitch src n on t group).frame = s.frame := by
  simp only [State.pushSwitch]
  split <;> simp
@[simp] theorem execSwitchSet_keeps (d : Desc) (s : State) : Keeps s (execSwitchSet d s) := by
  refine (keeps_next _ _).2 (State.withDesc_frame _ _ _ _ fun t s => ?_)
  dsimp only
  split
  · simp
  · split <;> simp
@[simp] theorem State.groupPart_frame (s : State) (port : Port) (id n : Nat) (on : Bool) :
    (s.groupPart port id n on).frame = s.frame := by
  simp only [State.groupPart]
  split
  · simp
  · split <;> simp
@[simp] theorem execSwitchGroup_keeps (d : Desc) (s : State) : Keeps s (execSwitchGroup d s) := by simp [execSwitchGroup]
@[simp] theorem execConnectorLock_keeps (d : Desc) (s : State) : Keeps s (execConnectorLock d s) := by simp [execConnectorLock]
@[simp] theorem execPilotSet_keeps (d : Desc) (s : State) : Keeps s (execPilotSet d s) := by simp [execPilotSet]
@[simp] theorem State.inhibitStarts_frame (s : State) : s.inhibitStarts.frame = s.frame :=
  State.foldl_frame _ (fun s x => by split <;> simp) _ _
@[simp] theorem State.orderOutcome_frame (s : State) (o : Order) (status result winner : Nat) :
    (s.orderOutcome o status result winner).frame = s.frame := by
  simp only [State.orderOutcome]
  repeat' split
  all_goals simp
@[simp] theorem State.finishAll_frame (s : State) (ws : List Order) (conf : Option Nat) (status result : Nat) :
    (s.finishAll ws conf status result).frame = s.frame := by
  refine State.foldl_frame _ (fun s o => ?_) _ _
  cases conf with
  | none => simp
  | some w =>
    dsimp only
    split
    · split <;> split <;> simp
    · simp
@[simp] theorem State.applyStart_frame (s : State) (o : Order) (conf : Option Nat) (p : Nat) :
    (s.applyStart o conf p).frame = s.frame := by
  simp only [State.applyStart]
  split
  · simp
  · split <;> simp
@[simp] theorem State.readyStarts_frame (s : State) : s.readyStarts.frame = s.frame := by simp [State.readyStarts]
@[simp] theorem State.applyStop_frame (s : State) (o : Order) (ws : List Order) (conf : Option Nat) (p : Nat) :
    (s.applyStop o ws conf p).frame = s.frame := by
  simp only [State.applyStop]
  repeat' split
  all_goals simp
@[simp] theorem State.applySwitch_frame (s : State) (o : Order) (ws : List Order) (conf : Option Nat) (n : Nat) (on : Bool) :
    (s.applySwitch o ws conf n on).frame = s.frame := by
  simp [State.applySwitch]
@[simp] theorem State.applyLock_frame (s : State) (ws : List Order) (conf : Option Nat) (i : Nat) (lock : Bool) :
    (s.applyLock ws conf i lock).frame = s.frame := by
  simp [State.applyLock]
@[simp] theorem State.applyPilot_frame (s : State) (ws : List Order) (conf : Option Nat) (i mode : Nat) :
    (s.applyPilot ws conf i mode).frame = s.frame := by
  simp only [State.applyPilot]
  repeat' split
  all_goals simp
@[simp] theorem State.applyWinner_frame (s : State) (o : Order) (ws : List Order) (conf : Option Nat) :
    (s.applyWinner o ws conf).frame = s.frame := by
  simp only [State.applyWinner]
  split <;> simp
@[simp] theorem State.resolveKey_frame (s : State) (os : List Order) (k : Nat × Nat × Nat × Nat) :
    (s.resolveKey os k).frame = s.frame := by
  simp only [State.resolveKey]
  split <;> simp
@[simp] theorem State.arbitrate_frame (s : State) : s.arbitrate.frame = s.frame := by
  refine (State.foldl_frame _ (fun s k => by simp) _ _).trans ?_
  exact (State.foldl_frame _ (fun s o => by split <;> simp) _ _).trans (by simp)
@[simp] theorem State.groupStops_frame (s : State) : s.groupStops.frame = s.frame := by simp [State.groupStops]
@[simp] theorem execStopFreezeTimeout_keeps (p : Nat) (s : State) : Keeps s (execStopFreezeTimeout p s) := by
  simp only [execStopFreezeTimeout]
  split
  · simp
  · split <;> simp
@[simp] theorem State.orphanPoints_frame (s : State) : s.orphanPoints.frame = s.frame := by
  refine State.foldl_frame _ (fun s p => ?_) _ _
  simp only [State.frame_ite, State.setGov_frame]
  cases s.swOf p <;> simp
@[simp] theorem State.clearFell_frame (s : State) : s.clearFell.frame = s.frame := by simp [State.clearFell]
@[simp] theorem State.degradedDrop_frame (s : State) : s.degradedDrop.frame = s.frame := by simp [State.degradedDrop]
@[simp] theorem State.takeMeas_frame (s : State) (x : Meas) : (s.takeMeas x).frame = s.frame := by
  simp only [State.takeMeas]
  split <;> simp

/-! ### Machine/Ethernet.lean -/

@[simp] theorem State.setPtp_frame (s : State) (p : Nat) (x : PtpSt) : (s.setPtp p x).frame = s.frame := by simp [State.setPtp]
@[simp] theorem State.setDisc_frame (s : State) : s.setDisc.frame = s.frame := by simp [State.setDisc]
@[simp] theorem State.ptpChanged_frame (s old : State) (p : Nat) (stepped : Bool) : (s.ptpChanged old p stepped).frame = s.frame := by
  simp [State.ptpChanged]
@[simp] theorem State.ptpReport_frame (s old : State) : (s.ptpReport old).frame = s.frame := by simp [State.ptpReport]
@[simp] theorem State.setPtpState_frame (s : State) (p st : Nat) : (s.setPtpState p st).frame = s.frame := by simp [State.setPtpState]
@[simp] theorem execEthLink_keeps (p : Nat) (phy : Option (Nat × Bool)) (s : State) : Keeps s (execEthLink p phy s) := by
  simp [execEthLink]
@[simp] theorem execEthFrameRx_keeps (p : Nat) (f : EthFrame) (s : State) : Keeps s (execEthFrameRx p f s) := by simp [execEthFrameRx]
@[simp] theorem State.servo_frame (s : State) (p : Nat) (off trim : Int) : (s.servo p off trim).frame = s.frame := by simp [State.servo]
@[simp] theorem State.orHold_frame (s : State) (p : Nat) (m : PtpHeld) (k : State → State) (h : ∀ s, (k s).frame = s.frame) :
    (s.orHold p m k).frame = s.frame := by
  simp [State.orHold, h]
@[simp] theorem State.takeSync_frame (s : State) (p : Nat) (twoStep : Bool) (rx off trim : Int) :
    (s.takeSync p twoStep rx off trim).frame = s.frame := by
  simp [State.takeSync]
@[simp] theorem execPtpSync_keeps (p : Nat) (twoStep : Bool) (rx : Int) (off trim : Int) (s : State) :
    Keeps s (execPtpSync p twoStep rx off trim s) := by
  simp [execPtpSync]
@[simp] theorem execPtpFollowUp_keeps (p : Nat) (off trim : Int) (s : State) : Keeps s (execPtpFollowUp p off trim s) := by
  simp only [execPtpFollowUp]
  split <;> simp
@[simp] theorem execPtpAnnounce_keeps (p st : Nat) (s : State) : Keeps s (execPtpAnnounce p st s) := by simp [execPtpAnnounce]
@[simp] theorem execAnnounceReceiptTimeout_keeps (p st : Nat) (s : State) : Keeps s (execAnnounceReceiptTimeout p st s) := by
  simp [execAnnounceReceiptTimeout]
@[simp] theorem State.ethSend_frame (s : State) (p kind : Nat) (body : List Nat) : (s.ethSend p kind body).frame = s.frame := by
  simp [State.ethSend]
@[simp] theorem State.ptpNow_frame (s : State) : s.ptpNow.2.frame = s.frame := by simp [State.ptpNow]
@[simp] theorem State.answerDelay_frame (s : State) (p : Nat) : (s.answerDelay p).frame = s.frame := by simp [State.answerDelay]
@[simp] theorem execPtpDelayReq_keeps (p : Nat) (s : State) : Keeps s (execPtpDelayReq p s) := by simp [execPtpDelayReq]
@[simp] theorem State.ethHeld_frame (s : State) : s.ethHeld.frame = s.frame :=
  (State.foldl_frame _ (fun s x => by split <;> simp) _ _).trans (by simp)
@[simp] theorem execPtpDelayResp_keeps (p delay : Nat) (s : State) : Keeps s (execPtpDelayResp p delay s) := by simp [execPtpDelayResp]
@[simp] theorem execPtpSyncTransmit_keeps (p : Nat) (s : State) : Keeps s (execPtpSyncTransmit p s) := by simp [execPtpSyncTransmit]
@[simp] theorem execPtpAnnounceTransmit_keeps (p : Nat) (s : State) : Keeps s (execPtpAnnounceTransmit p s) := by
  simp [execPtpAnnounceTransmit]
@[simp] theorem execPtpSyncTimeout_keeps (p : Nat) (s : State) : Keeps s (execPtpSyncTimeout p s) := by simp [execPtpSyncTimeout]
@[simp] theorem execPtpDelayReqTransmit_keeps (p : Nat) (s : State) : Keeps s (execPtpDelayReqTransmit p s) := by
  simp [execPtpDelayReqTransmit]
@[simp] theorem State.ptpStep_frame (s : State) : s.ptpStep.frame = s.frame := by
  simp only [State.ptpStep]
  split <;> simp
@[simp] theorem execMdioFrame_keeps (v : W32) (s : State) : Keeps s (execMdioFrame v s) := by simp [execMdioFrame]
@[simp] theorem execMdioFrameDone_keeps (data : W16) (s : State) : Keeps s (execMdioFrameDone data s) := by simp [execMdioFrameDone]

/-! ### Machine/Kyoti.lean -/

@[simp] theorem State.setKy_frame (s : State) (k : KySt) : (s.setKy k).frame = s.frame := by simp [State.setKy]
@[simp] theorem State.setNode_frame (s : State) (n : Nat) (x : KyNode) : (s.setNode n x).frame = s.frame := by simp [State.setNode]
@[simp] theorem State.kySendFrame_frame (s : State) (kind : Nat) (bytes : List Nat) : (s.kySendFrame kind bytes).frame = s.frame := by
  simp [State.kySendFrame]
@[simp] theorem State.kyUnit_frame (s : State) : s.kyUnit.frame = s.frame := by
  simp only [State.kyUnit]
  split
  · simp
  · split
    · simp
    · split <;> simp
@[simp] theorem execKyZeroCrossing_keeps (t : Nat) (s : State) : Keeps s (execKyZeroCrossing t s) := by
  simp only [execKyZeroCrossing]
  split
  · simp
  · split <;> simp
@[simp] theorem execZcLost_keeps (s : State) : Keeps s (execZcLost s) := by simp [execZcLost]
@[simp] theorem execCellStart_keeps (s : State) : Keeps s (execCellStart s) := by simp [execCellStart]
@[simp] theorem execBeaconTransmit_keeps (s : State) : Keeps s (execBeaconTransmit s) := by simp [execBeaconTransmit]
@[simp] theorem State.kyCount_frame (s : State) : s.kyCount.frame = s.frame := by simp [State.kyCount]
@[simp] theorem State.kyRouteSets_frame (s : State) (relays : List Nat) : (s.kyRouteSets relays).frame = s.frame := by
  simp [State.kyRouteSets]
@[simp] theorem State.kyFedSend_frame (s : State) (dev : Nat) (body : List Byte) : (s.kyFedSend dev body).frame = s.frame := by
  simp [State.kyFedSend]
@[simp] theorem State.kyFedResult_frame (s : State) (dev tag status : Nat) : (s.kyFedResult dev tag status).frame = s.frame := by
  simp [State.kyFedResult]
@[simp] theorem State.kyOutcome_frame (s : State) (m : KyMsg) (status result : Nat) : (s.kyOutcome m status result).frame = s.frame := by
  simp only [State.kyOutcome]
  split <;> split <;> simp
@[simp] theorem State.kyLose_frame (s : State) (n : Nat) : (s.kyLose n).frame = s.frame := by simp [State.kyLose]
@[simp] theorem State.kyReroute1_frame (s : State) (n : Nat) : (s.kyReroute1 n).frame = s.frame := by
  simp only [State.kyReroute1]
  split
  · simp
  · split <;> simp
@[simp] theorem State.kyReroute_frame (s : State) : s.kyReroute.frame = s.frame := by simp [State.kyReroute]
@[simp] theorem State.kyHeard_frame (s : State) (q : Nat) (got : Bool) : (s.kyHeard q got).frame = s.frame := by simp [State.kyHeard]
@[simp] theorem State.kyTheta_frame (s : State) (n theta : Nat) : (s.kyTheta n theta).frame = s.frame := by simp [State.kyTheta]
@[simp] theorem State.kyForm_frame (s : State) (m : KyMsg) : (s.kyForm m).2.frame = s.frame := by
  simp only [State.kyForm]
  split <;> simp
@[simp] theorem State.kySendTx_frame (s : State) (t : KyTx) : (s.kySendTx t).frame = s.frame := by
  simp only [State.kySendTx]
  split <;> simp
@[simp] theorem State.kyServe_frame (s : State) (m : KyMsg) : (s.kyServe m).frame = s.frame := by simp [State.kyServe]
@[simp] theorem State.kyRoutine_frame (s : State) : s.kyRoutine.frame = s.frame := by
  simp only [State.kyRoutine]
  split
  · simp
  · split <;> simp
@[simp] theorem State.kyLeaveFrame_frame (s : State) (m : KyMsg) : (s.kyLeaveFrame m).frame = s.frame := by simp [State.kyLeaveFrame]
@[simp] theorem execPolledSlot_keeps (s : State) : Keeps s (execPolledSlot s) := by
  simp only [execPolledSlot]
  repeat' split
  all_goals simp
@[simp] theorem State.kyAnswered_frame (s : State) (t : KyTx) (up : Bool) : (s.kyAnswered t up).frame = s.frame := by
  simp only [State.kyAnswered]
  repeat' split
  all_goals simp
@[simp] theorem State.kyDrop_frame (s : State) : s.kyDrop.frame = s.frame := by simp [State.kyDrop]
@[simp] theorem State.kyReceived_frame (s : State) (corrected : Nat) : (s.kyReceived corrected).frame = s.frame := by
  simp [State.kyReceived]
@[simp] theorem State.kyArrived_frame (s : State) (src via : Nat) (m : Option (Bool × List Byte)) :
    (s.kyArrived src via m).frame = s.frame := by
  simp only [State.kyArrived]
  split <;> simp
@[simp] theorem State.kyDiscard_frame (s : State) (failed : Nat) (sub : Bool) : (s.kyDiscard failed sub).frame = s.frame := by
  simp [State.kyDiscard]
@[simp] theorem State.kyTakeFrame_frame (s : State) (rx : List Byte) (ftype : Nat) (k : KyFrame → State → State)
    (h : ∀ a s, (k a s).frame = s.frame) : (s.kyTakeFrame rx ftype k).frame = s.frame := by
  simp only [State.kyTakeFrame]
  split
  · simp
  · split <;> simp [h]
@[simp] theorem execUp_keeps (rx : List Byte) (s : State) : Keeps s (execUp rx s) :=
  (keeps_next _ _).2 (State.kyTakeFrame_frame _ _ _ _ fun f s => by split <;> simp)
@[simp] theorem execIdle_keeps (rx : List Byte) (s : State) : Keeps s (execIdle rx s) :=
  (keeps_next _ _).2 (State.kyTakeFrame_frame _ _ _ _ fun f s => by split <;> simp)
@[simp] theorem execContention_keeps (rx : List Byte) (s : State) : Keeps s (execContention rx s) := by simp [execContention]
@[simp] theorem State.kyFailed_frame (s : State) (t : KyTx) : (s.kyFailed t).frame = s.frame := by
  simp only [State.kyFailed]
  repeat' split
  all_goals simp
@[simp] theorem State.kyAgain_frame (s : State) (t : KyTx) : (s.kyAgain t).frame = s.frame := by
  simp only [State.kyAgain]
  split
  · simp
  · split
    · simp
    · split <;> simp
@[simp] theorem execTransactionTimeout_keeps (n : Nat) (s : State) : Keeps s (execTransactionTimeout n s) := by
  simp only [execTransactionTimeout]
  split <;> simp
@[simp] theorem execKyotiFrameDiscarded_keeps (rx : List Byte) (sub : Bool) (s : State) : Keeps s (execKyotiFrameDiscarded rx sub s) := by
  simp only [execKyotiFrameDiscarded]
  split
  · simp
  · split <;> simp
@[simp] theorem execLineFault_keeps (why : Nat) (s : State) : Keeps s (execLineFault why s) := by
  simp only [execLineFault]
  split
  · simp
  · split <;> simp
@[simp] theorem execLineFaultRecovery_keeps (s : State) : Keeps s (execLineFaultRecovery s) := by simp [execLineFaultRecovery]
@[simp] theorem State.kyTake_frame (s : State) (src mtype : Nat) (k : KyIn → State → State)
    (h : ∀ a s, (k a s).frame = s.frame) : (s.kyTake src mtype k).frame = s.frame := by
  simp only [State.kyTake]
  split <;> simp [h]
@[simp] theorem State.kyOpen_frame (s : State) (m : KyIn) (must : Bool) (k : List Byte → State → State)
    (h : ∀ a s, (k a s).frame = s.frame) : (s.kyOpen m must k).frame = s.frame := by
  simp only [State.kyOpen]
  split
  · simp [h]
  · split <;> simp [h]
@[simp] theorem State.kyInbound_frame (s : State) (dev node : Nat) (b : List Byte) : (s.kyInbound dev node b).frame = s.frame := by
  simp [State.kyInbound]
@[simp] theorem execHostData_keeps (n : Nat) (s : State) : Keeps s (execHostData n s) := by simp [execHostData]
@[simp] theorem execAlert_keeps (n : Nat) (s : State) : Keeps s (execAlert n s) := by simp [execAlert]
@[simp] theorem State.kyCommand_frame (s : State) (n : Nat) (b : List Byte) : (s.kyCommand n b).frame = s.frame := by
  simp only [State.kyCommand]
  repeat' split
  all_goals simp
@[simp] theorem execCommand_keeps (n : Nat) (s : State) : Keeps s (execCommand n s) := by simp [execCommand]
@[simp] theorem execRouteReport_keeps (n : Nat) (theta : Option Nat) (s : State) : Keeps s (execRouteReport n theta s) := by
  simp only [execRouteReport]
  split <;> simp
@[simp] theorem execJoinRequest_keeps (src : Nat) (s : State) : Keeps s (execJoinRequest src s) := by
  unfold execJoinRequest
  split
  · simp
  · refine (keeps_next _ _).2 (State.kyTake_frame _ _ _ _ fun m s => ?_)
    dsimp only
    split
    · simp
    · split
      · simp
      · split <;> simp
@[simp] theorem State.kyFree_frame (s : State) (n : Nat) : (s.kyFree n).frame = s.frame := by simp [State.kyFree]
@[simp] theorem execLeave_keeps (n : Nat) (s : State) : Keeps s (execLeave n s) := by simp [execLeave]
@[simp] theorem execLostAddressExpiry_keeps (n : Nat) (s : State) : Keeps s (execLostAddressExpiry n s) := by simp [execLostAddressExpiry]
@[simp] theorem execJoinWindowExpiry_keeps (s : State) : Keeps s (execJoinWindowExpiry s) := by simp [execJoinWindowExpiry]
@[simp] theorem execKyotiSend_keeps (d : Desc) (rd : DmaRead) (s : State) : Keeps s (execKyotiSend d rd s) := by
  refine (keeps_next _ _).2 (State.withDesc_frame _ _ _ _ fun t s => ?_)
  extract_lets c dev node fl bc plain far
  clear_value c dev node fl bc plain far
  refine State.frame_of_ite (State.fin_frame _ _ _ _) (State.frame_of_ite (State.fin_frame _ _ _ _)
    (State.frame_of_ite (State.fin_frame _ _ _ _) (State.frame_of_ite (State.fin_frame _ _ _ _)
      (State.frame_of_ite (State.fin_frame _ _ _ _) ?_))))
  cases DescF.parNonZero d 5 with
  | some k => exact State.fin_frame _ _ _ _
  | none =>
    refine State.frame_of_ite (State.fin_frame _ _ _ _) (State.frame_of_ite (State.fin_frame _ _ _ _)
      (State.frame_of_ite (by simp) (State.frame_of_ite (State.fin_frame _ _ _ _)
        (State.frame_of_ite (State.fin_frame _ _ _ _) (State.frame_of_ite (State.fin_frame _ _ _ _)
          (State.withRead_frame _ _ _ _ _ fun b s => ?_))))))
    refine State.frame_of_ite (State.setKy_frame _ _) (State.frame_of_ite (State.fin_frame _ _ _ _) ?_)
    exact (State.kyFedSend_frame _ _ _).trans (State.setKy_frame _ _)
@[simp] theorem execSendStartTimeout_keeps (p : Port) (q cmdId : Nat) (s : State) : Keeps s (execSendStartTimeout p q cmdId s) := by
  simp only [execSendStartTimeout]
  split <;> simp
@[simp] theorem State.nodeCmd_frame (s : State) (d : Desc) (subop used minBuf : Nat) (needNode : Bool)
    (k : Ticket → Nat → State → State) (h : ∀ a b s, (k a b s).frame = s.frame) :
    (s.nodeCmd d subop used minBuf needNode k).frame = s.frame := by
  simp only [State.nodeCmd]
  repeat' split
  all_goals simp [h]
@[simp] theorem execNodeRead_keeps (d : Desc) (s : State) : Keeps s (execNodeRead d s) := by simp [execNodeRead]
@[simp] theorem execReceive_keeps (d : Desc) (s : State) : Keeps s (execReceive d s) :=
  (keeps_next _ _).2 (State.nodeCmd_frame _ _ _ _ _ _ _ fun t n s => by split <;> simp)
@[simp] theorem execRemove_keeps (d : Desc) (s : State) : Keeps s (execRemove d s) :=
  (keeps_next _ _).2 (State.nodeCmd_frame _ _ _ _ _ _ _ fun t n s => by dsimp only; split <;> simp)
@[simp] theorem execJoinWindow_keeps (d : Desc) (s : State) : Keeps s (execJoinWindow d s) := by simp [execJoinWindow]
@[simp] theorem execPing_keeps (d : Desc) (s : State) : Keeps s (execPing d s) := by simp [execPing]
@[simp] theorem execFederationFrame_keeps (b : List Byte) (s : State) : Keeps s (execFederationFrame b s) := by
  simp only [execFederationFrame]
  repeat' split
  all_goals simp
@[simp] theorem execFederationResultTimeout_keeps (tag : Nat) (s : State) : Keeps s (execFederationResultTimeout tag s) := by
  simp only [execFederationResultTimeout]
  split <;> simp
@[simp] theorem State.kyConfigure_frame (s : State) (old : KyCfg) : (s.kyConfigure old).frame = s.frame := by
  simp only [State.kyConfigure]
  repeat' split
  all_goals simp
@[simp] theorem State.kySilent_frame (s : State) : s.kySilent.frame = s.frame := by simp [State.kySilent]
@[simp] theorem State.kyWake_frame (s : State) : s.kyWake.frame = s.frame := by simp [State.kyWake]
@[simp] theorem State.kyReset_frame (s : State) : s.kyReset.frame = s.frame := by simp [State.kyReset]

/-! ### Machine/Reader.lean -/

@[simp] theorem State.setReader_frame (s : State) (r : ReaderSt) : (s.setReader r).frame = s.frame := by simp [State.setReader]
@[simp] theorem State.setAnt_frame (s : State) (p : Nat) (a : AntSt) : (s.setAnt p a).frame = s.frame := by simp [State.setAnt]
@[simp] theorem State.setPres_frame (s : State) (n : Nat) (x : Pres) : (s.setPres n x).frame = s.frame := by simp [State.setPres]
@[simp] theorem State.rfSend_frame (s : State) (p kind : Nat) (b : List Byte) : (s.rfSend p kind b).frame = s.frame := by
  simp [State.rfSend]
@[simp] theorem State.readerApply_frame (s : State) (n : Nat) : (s.readerApply n).frame = s.frame := by simp [State.readerApply]
@[simp] theorem State.readerCaptures_frame (s : State) : s.readerCaptures.frame = s.frame := by simp [State.readerCaptures]
@[simp] theorem State.readerConfigure_frame (s : State) : s.readerConfigure.frame = s.frame := by simp [State.readerConfigure]
@[simp] theorem State.presBegin_frame (s : State) (p : Nat) : (s.presBegin p).frame = s.frame := by simp [State.presBegin]
@[simp] theorem State.presEnd_frame (s : State) (n : Nat) : (s.presEnd n).frame = s.frame := by
  simp only [State.presEnd]
  split
  · simp
  · split <;> simp
@[simp] theorem State.antCheck_frame (s : State) (p : Nat) : (s.antCheck p).frame = s.frame := by simp [State.antCheck]
@[simp] theorem State.setBase_frame (s : State) (p : Nat) (a ph : Int) : (s.setBase p a ph).frame = s.frame := by simp [State.setBase]
@[simp] theorem State.baseTrack_frame (s : State) (p a : Nat) (ph : Int) : (s.baseTrack p a ph).frame = s.frame := by
  simp [State.baseTrack]
@[simp] theorem execDetuningPing_keeps (p a : Nat) (ph : Int) (s : State) : Keeps s (execDetuningPing p a ph s) := by
  simp [execDetuningPing]
@[simp] theorem execConfirmingPing_keeps (p a : Nat) (ph : Int) (s : State) : Keeps s (execConfirmingPing p a ph s) := by
  simp [execConfirmingPing]
@[simp] theorem execBaselineCapture_keeps (p : Nat) (pings : List (Nat × Int)) (s : State) :
    Keeps s (execBaselineCapture p pings s) := by
  simp [execBaselineCapture]
@[simp] theorem State.credential_frame (s : State) (x : Pres) : (s.credential x).frame = s.frame := by
  simp only [State.credential]
  split
  · simp
  · split <;> simp
@[simp] theorem State.presJudge_frame (s : State) (n : Nat) (x : Pres) : (s.presJudge n x).frame = s.frame := by simp [State.presJudge]
@[simp] theorem State.presSend_frame (s : State) (n : Nat) (x : Pres) (b : List Byte) : (s.presSend n x b).frame = s.frame := by
  simp [State.presSend]
@[simp] theorem State.presMultiple_frame (s : State) (n : Nat) (x : Pres) (why : Nat) : (s.presMultiple n x why).frame = s.frame := by
  simp [State.presMultiple]
@[simp] theorem State.presFail_frame (s : State) (n : Nat) (x : Pres) : (s.presFail n x).frame = s.frame := by simp [State.presFail]
@[simp] theorem State.presHalt_frame (s : State) (n : Nat) (x : Pres) : (s.presHalt n x).frame = s.frame := by simp [State.presHalt]
@[simp] theorem State.presApdu_frame (s : State) (n : Nat) (x : Pres) (b : List Byte) : (s.presApdu n x b).frame = s.frame := by
  simp [State.presApdu]
@[simp] theorem State.presAsk_frame (s : State) (n : Nat) (x : Pres) (k : Nat) : (s.presAsk n x k).frame = s.frame := by
  induction k generalizing x with
  | zero => simp [State.presAsk]
  | succ k ih =>
    unfold State.presAsk
    split <;> simp [ih]
@[simp] theorem State.presSelected_frame (s : State) (n : Nat) (x : Pres) (sak : Nat) : (s.presSelected n x sak).frame = s.frame := by
  simp [State.presSelected]
@[simp] theorem execCardFrameRx_keeps (n : Nat) (f : CardFrame) (s : State) : Keeps s (execCardFrameRx n f s) := by
  unfold execCardFrameRx
  split
  · simp
  · cases f <;> simp
@[simp] theorem execGuardExpiry_keeps (n : Nat) (s : State) : Keeps s (execGuardExpiry n s) := by
  simp only [execGuardExpiry]
  split <;> simp
@[simp] theorem execCardResponseTimeout_keeps (n : Nat) (error : Bool) (s : State) : Keeps s (execCardResponseTimeout n error s) := by
  unfold execCardResponseTimeout
  split <;> simp
@[simp] theorem execSignatureVerifyDone_keeps (p : Nat) (ok : Bool) (s : State) : Keeps s (execSignatureVerifyDone p ok s) := by
  simp only [execSignatureVerifyDone]
  repeat' split
  all_goals simp
@[simp] theorem execPresentationTimeout_keeps (n : Nat) (s : State) : Keeps s (execPresentationTimeout n s) := by
  simp only [execPresentationTimeout]
  split <;> simp
@[simp] theorem State.tagCmd_frame (s : State) (d : Desc) (subop used minBuf : Nat) (k : Ticket → Nat → State → State)
    (h : ∀ a b s, (k a b s).frame = s.frame) : (s.tagCmd d subop used minBuf k).frame = s.frame := by
  simp [State.tagCmd, h]
@[simp] theorem execReadLast_keeps (d : Desc) (s : State) : Keeps s (execReadLast d s) := by simp [execReadLast]
@[simp] theorem execApdu_keeps (d : Desc) (resp : Option (List Byte)) (s : State) : Keeps s (execApdu d resp s) := by
  refine (keeps_next _ _).2 (State.tagCmd_frame _ _ _ _ _ _ fun t p s => ?_)
  dsimp only
  split
  · simp
  · split
    · simp
    · cases resp <;> simp
@[simp] theorem execRelease_keeps (d : Desc) (s : State) : Keeps s (execRelease d s) :=
  (keeps_next _ _).2 (State.tagCmd_frame _ _ _ _ _ _ fun t p s => by dsimp only; split <;> simp)
@[simp] theorem execEnable_keeps (d : Desc) (s : State) : Keeps s (execEnable d s) := by simp [execEnable]
@[simp] theorem execCalibrate_keeps (d : Desc) (pings : List Nat) (s : State) : Keeps s (execCalibrate d pings s) := by
  simp [execCalibrate]
@[simp] theorem State.readerEnds_frame (s : State) : s.readerEnds.frame = s.frame := by simp [State.readerEnds]
@[simp] theorem State.readerSilent_frame (s : State) : s.readerSilent.frame = s.frame := by simp [State.readerSilent]
@[simp] theorem State.readerWake_frame (s : State) : s.readerWake.frame = s.frame := by simp [State.readerWake]
@[simp] theorem State.readerReset_frame (s : State) : s.readerReset.frame = s.frame := by simp [State.readerReset]

/-! ### Machine/Rime.lean -/

@[simp] theorem State.random_frame (s : State) (bits : Nat) : (s.random bits).2.frame = s.frame := by simp [State.random]
@[simp] theorem State.deriveSystem_frame (s : State) : s.deriveSystem.frame = s.frame := by
  simp only [State.deriveSystem]
  split <;> simp
@[simp] theorem State.makeRoot_frame (s : State) : s.makeRoot.frame = s.frame := by simp [State.makeRoot]
@[simp] theorem State.reopenLedger_frame (s : State) : s.reopenLedger.frame = s.frame := by simp [State.reopenLedger]
@[simp] theorem State.clearSlots_frame (s : State) : s.clearSlots.frame = s.frame := by simp [State.clearSlots]
@[simp] theorem State.rimeReset_frame (s : State) : s.rimeReset.frame = s.frame := by simp [State.rimeReset]
@[simp] theorem State.rimeStart_frame (s : State) : s.rimeStart.frame = s.frame := by simp [State.rimeStart]
@[simp] theorem State.rimeVbatLoss_frame (s : State) : s.rimeVbatLoss.frame = s.frame := by simp [State.rimeVbatLoss]
@[simp] theorem execDrbgReseed_keeps (ok : Bool) (s : State) : Keeps s (execDrbgReseed ok s) := by simp [execDrbgReseed]
@[simp] theorem State.remaskSlot_frame (s : State) (n : Nat) : (s.remaskSlot n).frame = s.frame := by simp [State.remaskSlot]
@[simp] theorem execKeyRemask_keeps (s : State) : Keeps s (execKeyRemask s) := by
  simp only [execKeyRemask]
  split
  · simp
  · split <;> simp
@[simp] theorem State.keepKey_frame (s : State) (n : Nat) (p : Persisted) : (s.keepKey n p).frame = s.frame := by simp [State.keepKey]
@[simp] theorem execKeyWrite_keeps (d : Desc) (rd : DmaRead) (oldForm : Bool) (s : State) : Keeps s (execKeyWrite d rd oldForm s) := by
  refine (keeps_next _ _).2 (State.withDesc_frame _ _ _ _ fun t s => ?_)
  extract_lets +onlyGivenNames n refused
  have hrefused (s u : State) (a : Access) (h : u.frame = s.frame) : (refused s a u).frame = s.frame := by cases a <;> simp [refused, h]
  clear_value refused
  split
  · simp
  · refine hrefused _ _ _ (State.withRead_frame _ _ _ _ _ fun b s => ?_)
    extract_lets +onlyGivenNames b type persist blobOut addr
    clear_value b persist blobOut addr
    split
    · simp
    · split
      · simp
      · refine hrefused _ _ _ ?_
        split
        · simp
        · split
          · simp
          · split
            · simp
            · split
              · simp
              · extract_lets +onlyGivenNames a key u v
                have hu : u.frame = s.frame := by simp [u]
                clear_value u
                have hv : v.frame = u.frame := by
                  simp only [v]
                  split <;> simp
                simp [hu, hv]
@[simp] theorem execKeyUnwrap_keeps (d : Desc) (rd : DmaRead) (s : State) : Keeps s (execKeyUnwrap d rd s) := by
  refine (keeps_next _ _).2 (State.withDesc_frame _ _ _ _ fun t s => ?_)
  dsimp only
  split
  · simp
  · refine State.withRead_frame _ _ _ _ _ fun b s => ?_
    split
    · simp
    · split
      · simp
      · split
        · simp
        · split
          · simp
          · split <;> simp
@[simp] theorem execKeyDerive_keeps (d : Desc) (oldForm : Bool) (s : State) : Keeps s (execKeyDerive d oldForm s) := by
  simp only [execKeyDerive]
  split <;> simp
@[simp] theorem State.keyDestroy_frame (s : State) (d : Desc) (mode : Nat) (k : Ticket → Nat → State → State)
    (h : ∀ a b s, (k a b s).frame = s.frame) : (s.keyDestroy d mode k).frame = s.frame := by
  simp [State.keyDestroy, h]
@[simp] theorem execKeyDestroy_keeps (d : Desc) (s : State) : Keeps s (execKeyDestroy d s) := by simp [execKeyDestroy]
@[simp] theorem execKeyDestroyChildren_keeps (d : Desc) (s : State) : Keeps s (execKeyDestroyChildren d s) := by
  simp [execKeyDestroyChildren]
@[simp] theorem execEvict_keeps (d : Desc) (s : State) : Keeps s (execEvict d s) := by simp [execEvict]
@[simp] theorem State.zeroiseSlots_frame (s : State) : s.zeroiseSlots.frame = s.frame := by simp [State.zeroiseSlots]
@[simp] theorem State.tamperLatch_frame (s : State) (k : Nat) : (s.tamperLatch k).frame = s.frame := by simp [State.tamperLatch]
@[simp] theorem execTamperMonitorTrip_keeps (k : Nat) (s : State) : Keeps s (execTamperMonitorTrip k s) := by simp [execTamperMonitorTrip]
@[simp] theorem State.rimeWake_frame (s : State) : s.rimeWake.frame = s.frame := by
  simp only [State.rimeWake]
  split <;> simp
@[simp] theorem State.restoreKey_frame (s : State) (n : Nat) (p : Persisted) : (s.restoreKey n p).frame = s.frame := by
  simp only [State.restoreKey]
  split
  · split <;> simp
  · simp
@[simp] theorem State.keyRestoration_frame (s : State) : s.keyRestoration.frame = s.frame := by simp [State.keyRestoration]
@[simp] theorem State.armTamper_frame (s : State) (arm : Nat) : (s.armTamper arm).frame = s.frame := by simp [State.armTamper]

/-! ### Machine/Admission.lean -/

@[simp] theorem State.admitRegs_frame (s : State) (items : List ConfItem) (r : Mapping ⊕ AdmitFail) :
    (s.admitRegs items r).frame = s.frame := by
  simp only [State.admitRegs]
  split <;> simp
@[simp] theorem State.poolRefresh_frame (s : State) : s.poolRefresh.frame = s.frame := by simp [State.poolRefresh]

/-! ### Machine/ConfigLoad.lean -/

@[simp] theorem State.setUpd_frame (s : State) (u : UpdSt) : (s.setUpd u).frame = s.frame := by simp [State.setUpd]
@[simp] theorem State.itemChecks_frame (s : State) (heads : List (Nat × Nat)) (raw : List (Option ConfItem)) (oldForm : Bool) :
    (s.itemChecks heads raw oldForm).1.frame = s.frame := by
  simp only [State.itemChecks]
  repeat' split
  all_goals simp
@[simp] theorem State.confRefused_frame (s : State) (t : Ticket) (f : ConfFail) : (s.confRefused t f).frame = s.frame := by
  simp only [State.confRefused]
  repeat' split
  all_goals simp
@[simp] theorem State.programOwner_frame (s : State) (hash : Nat) : (s.programOwner hash).frame = s.frame := by simp [State.programOwner]
@[simp] theorem State.storeConf_frame (s : State) (c : Conf) (id : Nat) : (s.storeConf c id).frame = s.frame := by simp [State.storeConf]
@[simp] theorem State.confAccept_frame (s : State) (t : Ticket) (b : List Byte) (c : Conf) : (s.confAccept t b c).frame = s.frame := by
  simp [State.confAccept]
@[simp] theorem execConfigLoad_keeps (d : Desc) (rd : DmaRead) (raw : List (Option ConfItem)) (sigOk oldForm : Bool) (s : State) :
    Keeps s (execConfigLoad d rd raw sigOk oldForm s) := by
  unfold execConfigLoad
  split
  · simp
  · refine (keeps_next _ _).2 (State.withDesc_frame _ _ _ _ fun t s => State.withRead_frame _ _ _ _ _ fun b s => ?_)
    dsimp only
    split
    · simp
    · split
      all_goals next hp => simp [State.frame_of_fst (State.itemChecks_frame _ _ _ _) hp]

/-! ### Machine/ConfigEffect.lean -/

@[simp] theorem State.mpuSetup_frame (s : State) : s.mpuSetup.frame = s.frame := by simp [State.mpuSetup]
@[simp] theorem State.mapEngine_frame (s : State) (floor n : Nat) : (s.mapEngine floor n).frame = s.frame := by simp [State.mapEngine]
@[simp] theorem State.mapEngines_frame (s : State) : s.mapEngines.frame = s.frame := by
  unfold State.mapEngines
  extract_lets +onlyGivenNames floor u v src w
  have hu : u.frame = s.frame := State.foldl_frame _ (fun s n => State.mapEngine_frame _ _ _) _ _ |>.trans (by simp)
  have hv : v.frame = u.frame := State.put_frame _ _ _ _
  have hw : w.frame = v.frame := State.frame_mk
  clear_value w v u
  exact (State.poolRefresh_frame _).trans ((State.foldl_frame _ (fun s n => State.setCore_frame _ _ _) _ _).trans
    (hw.trans (hv.trans hu)))
@[simp] theorem State.mirrorChan_frame (s : State) (ch : Nat) : (s.mirrorChan ch).frame = s.frame := by simp [State.mirrorChan]
@[simp] theorem State.serveChan_frame (s : State) (d : Firn) (j : Nat) : (s.serveChan d j).frame = s.frame := by
  simp only [State.serveChan]
  repeat' split
  all_goals simp
@[simp] theorem State.clearMirrors_frame (s : State) (p : Nat) (l : List (Reg × Nat)) : (s.clearMirrors p l).frame = s.frame := by
  simp [State.clearMirrors]
@[simp] theorem State.mirrorPoint_frame (s : State) (p : Nat) : (s.mirrorPoint p).frame = s.frame := by simp [State.mirrorPoint]
@[simp] theorem State.mirrorPulse_frame (s : State) (i : Nat) : (s.mirrorPulse i).frame = s.frame := by
  simp only [State.mirrorPulse]
  split <;> simp
@[simp] theorem State.redefine_frame (s : State) (old : Conf) (p : Nat) : (s.redefine old p).frame = s.frame := by simp [State.redefine]
@[simp] theorem State.setInterval_frame (s : State) (d : Firn) (v : Nat) : (s.setInterval d v).frame = s.frame := by
  simp [State.setInterval]
@[simp] theorem State.mirrorSlice_frame (s : State) (n : Nat) : (s.mirrorSlice n).frame = s.frame := by simp [State.mirrorSlice]
@[simp] theorem State.mirrorSwitch_frame (s : State) (n : Nat) : (s.mirrorSwitch n).frame = s.frame := by simp [State.mirrorSwitch]
@[simp] theorem State.mirrorGroup_frame (s : State) (g : Nat) : (s.mirrorGroup g).frame = s.frame := by simp [State.mirrorGroup]
@[simp] theorem State.mirrorEth_frame (s : State) (p : Nat) (c : EthCfg) : (s.mirrorEth p c).frame = s.frame := by
  simp only [State.mirrorEth]
  split <;> split <;> simp
@[simp] theorem State.applyConf_frame (s : State) (c : Conf) (id : Nat) : (s.applyConf c id).frame = s.frame := by simp [State.applyConf]
@[simp] theorem State.confDone_frame (s : State) (t : Ticket) : (s.confDone t).frame = s.frame := by simp [State.confDone]
@[simp] theorem State.configAtBoot_frame (s : State) : s.configAtBoot.1.frame = s.frame := by
  simp only [State.configAtBoot]
  split <;> simp

/-! ### Machine/Update.lean -/

@[simp] theorem State.setSlotImg_frame (s : State) (k : Nat) (b : List Byte) : (s.setSlotImg k b).frame = s.frame := by
  simp [State.setSlotImg]
@[simp] theorem State.setRole_frame (s : State) (k r : Nat) : (s.setRole k r).frame = s.frame := by simp [State.setRole]
@[simp] theorem State.updMirror_frame (s : State) : s.updMirror.frame = s.frame := by simp [State.updMirror]
@[simp] theorem State.imgRefused_frame (s : State) (status reason : Nat) : (s.imgRefused status reason).frame = s.frame := by
  simp [State.imgRefused]
@[simp] theorem State.stageEnd_frame (s : State) : s.stageEnd.frame = s.frame := by simp [State.stageEnd]
@[simp] theorem State.stageChunk_frame (s : State) (d : Desc) (b : List Byte) (off total : Nat) :
    (s.stageChunk d b off total).frame = s.frame := by
  simp [State.stageChunk]
@[simp] theorem State.stageAccept_frame (s : State) (t : Ticket) (len : Nat) (img : List Byte) :
    (s.stageAccept t len img).frame = s.frame := by
  simp [State.stageAccept]
@[simp] theorem State.stageBreak_frame (s : State) : s.stageBreak.frame = s.frame := by simp [State.stageBreak]
@[simp] theorem execImageStage_keeps (d : Desc) (rd : DmaRead) (sigOk hashOk flashOk : Bool) (s : State) :
    Keeps s (execImageStage d rd sigOk hashOk flashOk s) := by
  refine (keeps_next _ _).2 (State.withDesc_frame _ _ _ _ fun t s => ?_)
  simp only [State.frame_ite, State.fin_frame]
  rw [State.withRead_frame]
  · simp
  intro b s
  split
  · simp
  · split
    · simp
    · split
      · simp
      · split <;> simp
@[simp] theorem State.activate_frame (s : State) (d : Desc) (mode : Nat) (k : Ticket → State → State)
    (h : ∀ a s, (k a s).frame = s.frame) : (s.activate d mode k).frame = s.frame := by
  simp only [State.activate]
  split <;> simp [h]
@[simp] theorem State.handoverBegin_frame (s : State) (d : Desc) (t : Ticket) (m : Mapping) (b : List Byte) :
    (s.handoverBegin d t m b).frame = s.frame := by
  simp [State.handoverBegin]
@[simp] theorem execHitless_keeps (d : Desc) (s : State) : Keeps s (execHitless d s) :=
  (keeps_next _ _).2 (State.activate_frame _ _ _ _ fun t s => by split <;> simp)
@[simp] theorem execHandoverPrepared_keeps (s : State) : Keeps s (execHandoverPrepared s) := by simp [execHandoverPrepared]
@[simp] theorem State.beginPause_frame (s : State) : s.beginPause.frame = s.frame := by simp [State.beginPause]
@[simp] theorem State.beginTrial_frame (s : State) : s.beginTrial.frame = s.frame := by simp [State.beginTrial]
@[simp] theorem State.trialTick_frame (s : State) : s.trialTick.frame = s.frame := by simp [State.trialTick]
@[simp] theorem State.pendingSections_frame (s : State) : s.pendingSections.frame = s.frame := by simp [State.pendingSections]
@[simp] theorem State.moveTasks_frame (s : State) (m : List (Nat × Nat)) : (s.moveTasks m).frame = s.frame := by simp [State.moveTasks]
@[simp] theorem State.setResident_frame (s : State) (l : List Nat) : (s.setResident l).frame = s.frame := by simp [State.setResident]
@[simp] theorem State.endPause_frame (s : State) (us : Nat) : (s.endPause us).frame = s.frame := by
  simp only [State.endPause]
  split <;> simp
@[simp] theorem State.revertSlots_frame (s : State) : s.revertSlots.frame = s.frame := by
  simp only [State.revertSlots]
  split <;> simp
@[simp] theorem State.postReverted_frame (s : State) (cause : Nat) : (s.postReverted cause).frame = s.frame := by
  simp [State.postReverted]
@[simp] theorem State.handBack_frame (s : State) (us : Nat) : (s.handBack us).frame = s.frame := by simp [State.handBack]
@[simp] theorem State.handOver_frame (s : State) (us : Nat) : (s.handOver us).frame = s.frame := by simp [State.handOver]
@[simp] theorem execHandoverDone_keeps (us : Nat) (s : State) : Keeps s (execHandoverDone us s) := by simp [execHandoverDone]
@[simp] theorem execFirnInstall_keeps (d : Desc) (v : W32) (ok0 ok1 : Bool) (s : State) : Keeps s (execFirnInstall d v ok0 ok1 s) := by
  refine (keeps_next _ _).2 (State.activate_frame _ _ _ _ fun t s => ?_)
  split
  · simp
  · split
    · simp
    · simp only [State.fin_frame]
      repeat' split
      all_goals simp
@[simp] theorem State.confirm_frame (s : State) (k : Nat) : (s.confirm k).frame = s.frame := by simp [State.confirm]
@[simp] theorem execHealthConfirm_keeps (d : Desc) (s : State) : Keeps s (execHealthConfirm d s) :=
  (keeps_next _ _).2 (State.withDesc_frame _ _ _ _ fun t s => by split <;> simp)
@[simp] theorem execTrialExpiring_keeps (s : State) : Keeps s (execTrialExpiring s) := by simp [execTrialExpiring]
@[simp] theorem State.abortHandover_frame (s : State) : s.abortHandover.frame = s.frame := by
  simp only [State.abortHandover]
  split
  · simp
  · split <;> simp
@[simp] theorem State.bootTrial_frame (s : State) (other : Bool) : (s.bootTrial other).frame = s.frame := by
  simp only [State.bootTrial]
  split
  · split <;> simp
  · simp
@[simp] theorem State.bootHost_frame (s : State) (img : List Byte) : (s.bootHost img).frame = s.frame := by simp [State.bootHost]
@[simp] theorem State.bootNews_frame (s : State) : s.bootNews.frame = s.frame := by simp [State.bootNews]
@[simp] theorem State.updReset_frame (s : State) : s.updReset.frame = s.frame := by simp [State.updReset]

/-! ### Machine/Domains.lean -/

@[simp] theorem State.firnLinkDown_frame (s : State) (d : Firn) : (s.firnLinkDown d).frame = s.frame := by simp [State.firnLinkDown]
@[simp] theorem State.driverDown_frame (s : State) : s.driverDown.frame = s.frame := by simp [State.driverDown]
@[simp] theorem State.driverMirrors_frame (s : State) : s.driverMirrors.frame = s.frame := by simp [State.driverMirrors]
@[simp] theorem State.trainLink_frame (s : State) (l : Link) : (s.trainLink l).frame = s.frame := by
  simp only [State.trainLink]
  split <;> simp
@[simp] theorem State.dropInputs_frame (s : State) (p : Inp → Bool) : (s.dropInputs p).frame = s.frame := by simp [State.dropInputs]
@[simp] theorem State.dropCores_frame (s : State) (p : Nat → Bool) : (s.dropCores p).frame = s.frame := by simp [State.dropCores]
@[simp] theorem State.firnLock_frame (s : State) (d : Firn) (v : Bool) : (s.firnLock d v).frame = s.frame := by
  simp only [State.firnLock]
  split <;> simp
@[simp] theorem State.firnDown_frame (s : State) (d : Firn) : (s.firnDown d).frame = s.frame := by simp [State.firnDown]
@[simp] theorem State.firnReset_frame (s : State) (d : Firn) : (s.firnReset d).frame = s.frame := by simp [State.firnReset]
@[simp] theorem State.firnSleep_frame (s : State) (d : Firn) : (s.firnSleep d).frame = s.frame := by simp [State.firnSleep]
@[simp] theorem State.firnClockHalt_frame (s : State) (d : Firn) : (s.firnClockHalt d).frame = s.frame := by simp [State.firnClockHalt]
@[simp] theorem State.ddieLost_frame (s : State) : s.ddieLost.frame = s.frame := by simp [State.ddieLost]
@[simp] theorem State.ddieDown_frame (s : State) : s.ddieDown.frame = s.frame := by simp [State.ddieDown]
@[simp] theorem State.ddieClear_frame (s : State) : s.ddieClear.frame = s.frame :=
  (State.foldl_frame _ (fun s i => by dsimp only; split <;> simp) _ _).trans (by simp)
@[simp] theorem State.ddieRelease_frame (s : State) : s.ddieRelease.frame = s.frame := by simp [State.ddieRelease]
@[simp] theorem State.ddieReset_frame (s : State) (cause : Bool) : (s.ddieReset cause).frame = s.frame := by simp [State.ddieReset]
@[simp] theorem State.ddieStandby_frame (s : State) : s.ddieStandby.frame = s.frame := by simp [State.ddieStandby]
@[simp] theorem State.ddieLeaveStandby_frame (s : State) : s.ddieLeaveStandby.frame = s.frame := by simp [State.ddieLeaveStandby]
@[simp] theorem State.pllsDown_frame (s : State) : s.pllsDown.frame = s.frame := by simp [State.pllsDown]
@[simp] theorem State.cdieReset_frame (s : State) (cause : Nat) : (s.cdieReset cause).frame = s.frame := by
  unfold State.cdieReset
  extract_lets deep a b c d e f g h i j k l m n o p q r v w x y
  have hc : c.frame = s.frame := by simp [c, b, a]
  clear_value c
  have he : e.frame = c.frame := by simp [e, d]
  clear_value e
  have hk : k.frame = e.frame := by simp [k, j, i, h, g, f]
  clear_value k
  have hm : m.frame = k.frame := by simp [m, l]
  clear_value m
  have hq : q.frame = m.frame := by simp [q, o]
  clear_value q
  have hy : y.frame = q.frame := by simp [y, w, r]
  clear_value y
  simp [hy, hq, hm, hk, he, hc]
@[simp] theorem State.aonReset_frame (s : State) (latch : Bool) : (s.aonReset latch).frame = s.frame := by simp [State.aonReset]
@[simp] theorem State.startFromOff_frame_fst (s : State) : s.startFromOff.frame.1 = s.frame.1 := by
  simp only [State.startFromOff]
  split <;> simp
@[simp] theorem State.vbatLoss_frame (s : State) : s.vbatLoss.frame = s.frame := by simp [State.vbatLoss]

/-! ### Machine/PowerState.lean -/

@[simp] theorem State.sleepLink_frame (s : State) (p : Port) : (s.sleepLink p).frame = s.frame := by simp [State.sleepLink]
@[simp] theorem State.wakeLink_frame (s : State) (p : Port) : (s.wakeLink p).frame = s.frame := by simp [State.wakeLink]
@[simp] theorem State.downPcie_frame (s : State) (p : Port) : (s.downPcie p).frame = s.frame := by simp [State.downPcie]
@[simp] theorem execClusterIdleEntry_keeps (k : Nat) (s : State) : Keeps s (execClusterIdleEntry k s) := by simp [execClusterIdleEntry]
@[simp] theorem State.passCommit_frame (s : State) (st : Nat) : (s.passCommit st).frame = s.frame := by simp [State.passCommit]
@[simp] theorem execSleepEntry_keeps (dma : Bool) (s : State) : Keeps s (execSleepEntry dma s) := by simp [execSleepEntry]
@[simp] theorem State.reqStatus_frame (s : State) (result cause : Nat) : (s.reqStatus result cause).frame = s.frame := by
  simp [State.reqStatus]
@[simp] theorem State.saveCores_frame (s : State) : s.saveCores.frame = s.frame := by simp [State.saveCores]
@[simp] theorem State.restoreCores_frame (s : State) : s.restoreCores.frame = s.frame := by simp [State.restoreCores]
@[simp] theorem State.enterDeep_frame (s : State) (off : Bool) : (s.enterDeep off).frame = s.frame := by simp [State.enterDeep]
@[simp] theorem State.dropRequest_frame (s : State) : s.dropRequest.frame = s.frame := by
  simp only [State.dropRequest]
  split
  · split <;> simp
  · simp
@[simp] theorem State.grantRequest_frame (s : State) (off : Bool) : (s.grantRequest off).frame = s.frame := by simp [State.grantRequest]
@[simp] theorem State.powerRequest_frame (s : State) (off parked : Bool) : (s.powerRequest off parked).frame = s.frame := by
  simp only [State.powerRequest]
  split
  · simp
  · split <;> simp
@[simp] theorem State.badRequest_frame (s : State) : s.badRequest.frame = s.frame := by simp [State.badRequest]
@[simp] theorem State.parkStep_frame (s : State) : s.parkStep.frame = s.frame := by
  simp only [State.parkStep]
  split
  · simp
  · split <;> simp
@[simp] theorem execPwrReqDeepSleep_keeps (s : State) : Keeps s (execPwrReqDeepSleep s) := by simp [execPwrReqDeepSleep]
@[simp] theorem execPwrReqOff_keeps (parked : Bool) (s : State) : Keeps s (execPwrReqOff parked s) := by simp [execPwrReqOff]
@[simp] theorem execParkTimeout_keeps (s : State) : Keeps s (execParkTimeout s) := by simp [execParkTimeout]
@[simp] theorem State.retryRequest_frame (s : State) : s.retryRequest.frame = s.frame := by simp [State.retryRequest]
@[simp] theorem execFrameBusyTimeout_keeps (s : State) : Keeps s (execFrameBusyTimeout s) := by simp [execFrameBusyTimeout]
@[simp] theorem execWakePortStop_keeps (s : State) : Keeps s (execWakePortStop s) := by simp [execWakePortStop]
@[simp] theorem execWakePortStuck_keeps (s : State) : Keeps s (execWakePortStuck s) := by simp [execWakePortStuck]
@[simp] theorem State.postWakePort_frame (s : State) : s.postWakePort.frame = s.frame := by simp [State.postWakePort]
@[simp] theorem State.endGather_frame (s : State) : s.endGather.frame = s.frame := by simp [State.endGather]
@[simp] theorem execWake_keeps (src ticks : Nat) (s : State) : Keeps s (execWake src ticks s) := by simp [execWake]
@[simp] theorem execGatedBlockAccess_keeps (s : State) : Keeps s (execGatedBlockAccess s) := by simp [execGatedBlockAccess]
@[simp] theorem execWakeBallAssert_keepsFixed (s : State) : KeepsFixed s (execWakeBallAssert s) := by simp [execWakeBallAssert]
@[simp] theorem execRefclkLoss_keeps (s : State) : Keeps s (execRefclkLoss s) := by simp [execRefclkLoss]
@[simp] theorem execFirnPllRelock_keeps (d : Firn) (s : State) : Keeps s (execFirnPllRelock d s) := by
  simp only [execFirnPllRelock]
  split
  · simp
  · split <;> simp
@[simp] theorem execCorePllRelock_keeps (s : State) : Keeps s (execCorePllRelock s) := by simp [execCorePllRelock]
@[simp] theorem execMemPllRelock_keeps (ok : Bool) (s : State) : Keeps s (execMemPllRelock ok s) := by
  simp only [execMemPllRelock]
  split
  · split <;> simp
  · simp

/-! ### Machine/Reset.lean -/

@[simp] theorem execRailPowerGood_keeps (r : Rail) (s : State) : Keeps s (execRailPowerGood r s) := by
  simp only [execRailPowerGood]
  split
  · simp
  · split
    · simp
    · split <;> simp
@[simp] theorem State.railReset_frame (s : State) (cause : Nat) : (s.railReset cause).frame = s.frame := by simp [State.railReset]
@[simp] theorem execRailFail_keeps (r : Rail) (s : State) : Keeps s (execRailFail r s) := by
  simp only [execRailFail]
  repeat' split
  all_goals simp
@[simp] theorem execResetNAssert_keeps (s : State) : Keeps s (execResetNAssert s) := by simp [execResetNAssert]
@[simp] theorem execSysctrlWatchdogExpiry_keeps (s : State) : Keeps s (execSysctrlWatchdogExpiry s) := by simp [execSysctrlWatchdogExpiry]
@[simp] theorem execRstCtrlWrite_keeps (v : W32) (s : State) : Keeps s (execRstCtrlWrite v s) := by simp [execRstCtrlWrite]
@[simp] theorem State.overtemp_frame (s : State) : s.overtemp.frame = s.frame := by simp [State.overtemp]
@[simp] theorem execCDieReset_keeps (cause : Nat) (s : State) : Keeps s (execCDieReset cause s) := by simp [execCDieReset]
@[simp] theorem execCDieOvertemp_keeps (s : State) : Keeps s (execCDieOvertemp s) := by simp [execCDieOvertemp]
@[simp] theorem execOvertempResetRelease_keeps (s : State) : Keeps s (execOvertempResetRelease s) := by simp [execOvertempResetRelease]
@[simp] theorem execFirnDieReset_keeps (d : Firn) (s : State) : Keeps s (execFirnDieReset d s) := by simp [execFirnDieReset]
@[simp] theorem execDDieReset_keeps (s : State) : Keeps s (execDDieReset s) := by simp [execDDieReset]
@[simp] theorem State.portReset_frame (s : State) (p : Port) : (s.portReset p).frame = s.frame := by simp [State.portReset]
@[simp] theorem execPerst_keeps (p : Port) (s : State) : Keeps s (execPerst p s) := by simp [execPerst]
@[simp] theorem State.flReset_frame (s : State) (p : Port) : (s.flReset p).frame = s.frame := by simp [State.flReset]
@[simp] theorem execFunctionLevelReset_keeps (p : Port) (s : State) : Keeps s (execFunctionLevelReset p s) := by
  simp [execFunctionLevelReset]
@[simp] theorem execPcieLinkChange_keeps (p : Port) (up : Bool) (width speed : Nat) (s : State) :
    Keeps s (execPcieLinkChange p up width speed s) := by
  simp [execPcieLinkChange]
@[simp] theorem State.bootError_frame (s : State) (code : Nat) (fatal : Bool) : (s.bootError code fatal).frame = s.frame := by
  simp [State.bootError]
@[simp] theorem State.degrade_frame (s : State) (bit : Nat) : (s.degrade bit).frame = s.frame := by simp [State.degrade]
@[simp] theorem execPllLockTimeout_keeps (core mem serdes : Bool) (s : State) : Keeps s (execPllLockTimeout core mem serdes s) := by
  simp [execPllLockTimeout]
@[simp] theorem execBootImgGo_keeps (v : W32) (s : State) : Keeps s (execBootImgGo v s) := by simp [execBootImgGo]
@[simp] theorem State.openLedger_frame (s : State) (lost : Bool) : (s.openLedger lost).1.frame = s.frame := by simp [State.openLedger]
@[simp] theorem State.bootNote_frame (s : State) (code : Nat) : (s.bootNote code).frame = s.frame := by
  simp only [State.bootNote]
  split <;> simp
@[simp] theorem State.dropConf_frame (s : State) (item status : Nat) : (s.dropConf item status).frame = s.frame := by
  simp [State.dropConf]
@[simp] theorem State.stageDone_frame (s : State) (n : Nat) (codes : List Nat) (item status : Nat) (other : Bool) (img : List Byte) :
    (s.stageDone n codes item status other img).frame = s.frame := by
  unfold State.stageDone
  split
  · simp
  · split
    · simp
    · split
      · simp
      · split
        · split <;> simp
        · split
          · simp
          · split
            · split
              · rfl
              · simp
            · split
              · simp
              · split
                · split
                  next hp =>
                    have ho := State.frame_of_fst (State.openLedger_frame _ _) hp
                    split <;> simp [ho]
                · split
                  · split
                    · simp
                    · refine (State.bootNews_frame _).trans ?_
                      split
                      next hp => simp [State.frame_of_fst (State.configAtBoot_frame _) hp]
                      next hp => simp [State.frame_of_fst (State.configAtBoot_frame _) hp]
                  · rfl
@[simp] theorem State.bootRun_frame (s : State) : s.bootRun.frame = s.frame := by simp [State.bootRun]
@[simp] theorem execBootStageAdvance_keeps (codes : List Nat) (item status : Nat) (other : Bool) (img : List Byte) (s : State) :
    Keeps s (execBootStageAdvance codes item status other img s) := by
  simp only [execBootStageAdvance]
  split
  · simp
  · split <;> simp
@[simp] theorem execLinkTrained_keeps (l : Link) (s : State) : Keeps s (execLinkTrained l s) := by simp [execLinkTrained]
@[simp] theorem execInputDefined_keeps (i : Inp) (high : Bool) (s : State) : Keeps s (execInputDefined i high s) := by
  simp only [execInputDefined]
  split
  · simp
  · split <;> simp
@[simp] theorem State.logIndeterminate_frame (s : State) (d : Firn) (src : Nat) : (s.logIndeterminate d src).frame = s.frame := by
  simp [State.logIndeterminate]
@[simp] theorem execInputIndeterminate_keeps (i : Inp) (s : State) : Keeps s (execInputIndeterminate i s) := by
  simp only [execInputIndeterminate]
  repeat' split
  all_goals simp

/-! ### Machine/Activate.lean -/

@[simp] theorem execRestart_keeps (d : Desc) (s : State) : Keeps s (execRestart d s) :=
  (keeps_next _ _).2 (State.activate_frame _ _ _ _ fun t s => by split <;> simp)
@[simp] theorem State.revert_frame (s : State) (cause : Nat) (t : Option Ticket) : (s.revert cause t).frame = s.frame := by
  simp [State.revert]
@[simp] theorem execRevert_keeps (d : Desc) (s : State) : Keeps s (execRevert d s) := by simp [execRevert]
@[simp] theorem State.windowOver_frame (s : State) : s.windowOver.frame = s.frame := by simp [State.windowOver]
@[simp] theorem execTrialWindowExpiry_keeps (s : State) : Keeps s (execTrialWindowExpiry s) := by simp [execTrialWindowExpiry]
@[simp] theorem execConfigTakesEffect_keeps (s : State) : Keeps s (execConfigTakesEffect s) := by
  simp only [execConfigTakesEffect]
  split <;> simp

/-! ### Machine/Repair.lean -/

@[simp] theorem State.setEngState_frame (s : State) (n v : Nat) : (s.setEngState n v).frame = s.frame := by simp [State.setEngState]
@[simp] theorem State.postEng_frame (s : State) (n : Nat) (e : Event) : (s.postEng n e).frame = s.frame := by
  simp only [State.postEng]
  split <;> simp
@[simp] theorem State.sparesLow_frame (before s : State) : (before.sparesLow s).frame = s.frame := by simp [State.sparesLow]
@[simp] theorem State.resumePoint_frame (s : State) (p : Nat) : (s.resumePoint p).1.frame = s.frame := by
  simp only [State.resumePoint]
  split <;> split <;> simp
@[simp] theorem State.resumeAll_frame (s : State) (ps : List Nat) : (s.resumeAll ps).1.frame = s.frame := by
  unfold State.resumeAll
  exact foldl_keeps _ (fun x : State × List (Nat × Nat) × List (Nat × List (Nat × Nat)) => x.1.frame)
    (fun x p => State.resumePoint_frame _ _) ps _
@[simp] theorem State.beginReplay_frame (s : State) (n old : Nat) (ps : List Nat) : (s.beginReplay n old ps).frame = s.frame := by
  simp [State.beginReplay]
@[simp] theorem State.replayed_frame (s : State) (first : Nat) (peaks : List (Nat × List (Nat × Nat))) (x : Nat × Nat) :
    (s.replayed first peaks x).frame = s.frame := by
  simp [State.replayed]
@[simp] theorem execReplayComplete_keeps (n first : Nat) (s : State) : Keeps s (execReplayComplete n first s) := by
  simp only [execReplayComplete]
  split <;> simp
@[simp] theorem State.unplacePoint_frame (s : State) (p : Nat) : (s.unplacePoint p).frame = s.frame := by simp [State.unplacePoint]
@[simp] theorem State.taskMoved_frame (s : State) (r : Nat) (jobs : List (Nat × Nat)) (item : Nat) :
    (s.taskMoved r jobs item).frame = s.frame := by
  simp [State.taskMoved]
@[simp] theorem State.moveWork_frame (s : State) (n r : Nat) (jobs : List (Nat × Nat)) : (s.moveWork n r jobs).frame = s.frame := by
  simp [State.moveWork]
@[simp] theorem State.unplace_frame (s : State) (n : Nat) : (s.unplace n).frame = s.frame := by
  simp only [State.unplace]
  split <;> simp
@[simp] theorem State.retireUpdate_frame (s : State) (n cause was : Nat) : (s.retireUpdate n cause was).frame = s.frame := by
  simp [State.retireUpdate]
@[simp] theorem State.retire_frame (s : State) (n cause : Nat) : (s.retire n cause).frame = s.frame := by
  unfold State.retire
  extract_lets +onlyGivenNames was
  split
  · rfl
  · extract_lets +onlyGivenNames before busy held count a b c aborts e carries spare dest src f g h i j k
    have hc : c.frame = s.frame := by simp [c, b, a]
    have he : e.frame = c.frame := by simp [e]
    clear_value e c
    have hf : f.frame = e.frame := by simp [f]
    clear_value f dest
    have hg : g.frame = f.frame := by
      simp only [g]
      split <;> simp
    clear_value g
    simp [k, j, i, h, hg, hf, he, hc]
@[simp] theorem execHeartbeatMissed_keeps (n : Nat) (s : State) : Keeps s (execHeartbeatMissed n s) := by simp [execHeartbeatMissed]
@[simp] theorem execEngineMemoryEccError_keeps (n : Nat) (s : State) : Keeps s (execEngineMemoryEccError n s) := by
  simp [execEngineMemoryEccError]
@[simp] theorem execEngineUnexpectedTrap_keeps (n : Nat) (s : State) : Keeps s (execEngineUnexpectedTrap n s) := by
  simp [execEngineUnexpectedTrap]
@[simp] theorem execScratchpadEccError_keeps (k : Nat) (double : Option (Nat × W32)) (s : State) :
    Keeps s (execScratchpadEccError k double s) := by
  simp only [execScratchpadEccError]
  repeat' split
  all_goals simp
@[simp] theorem State.probationFailed_frame (s : State) (n : Nat) : (s.probationFailed n).frame = s.frame := by
  simp [State.probationFailed]
@[simp] theorem execCheckpoint_keeps (p idx : Nat) (est shadow : Option Nat) (s : State) :
    Keeps s (execCheckpoint p idx est shadow s) := by
  simp only [execCheckpoint]
  repeat' split
  all_goals simp
@[simp] theorem State.probation_frame (s : State) (n : Nat) : (s.probation n).frame = s.frame := by
  simp only [State.probation]
  split <;> simp
@[simp] theorem State.retiredTest_frame (s : State) (n : Nat) (pass : Bool) : (s.retiredTest n pass).frame = s.frame := by
  simp [State.retiredTest]
@[simp] theorem execEngineSelfTestDone_keeps (n : Nat) (pass : Bool) (s : State) : Keeps s (execEngineSelfTestDone n pass s) := by
  simp [execEngineSelfTestDone]
@[simp] theorem execRetiredSelfTest_keeps (n : Nat) (pass : Bool) (s : State) : Keeps s (execRetiredSelfTest n pass s) := by
  simp [execRetiredSelfTest]
@[simp] theorem execSpareSelfTest_keeps (n : Nat) (pass : Bool) (s : State) : Keeps s (execSpareSelfTest n pass s) := by
  simp [execSpareSelfTest]
@[simp] theorem execProbationComplete_keeps (n : Nat) (clean : Bool) (s : State) : Keeps s (execProbationComplete n clean s) := by
  simp [execProbationComplete]
@[simp] theorem State.probationTick_frame (s : State) : s.probationTick.frame = s.frame := by simp [State.probationTick]
@[simp] theorem State.resumeOn_frame (s : State) (n : Nat) : (s.resumeOn n).frame = s.frame := by
  simp only [State.resumeOn]
  split <;> simp
@[simp] theorem State.resumeTasks_frame (s : State) : s.resumeTasks.frame = s.frame := by simp [State.resumeTasks]

/-! ### Machine/Access.lean -/

@[simp] theorem State.served_frame {s : State} {w : Accessor} {a : Nat} {k : State → State} (h : ∀ s, (k s).frame = s.frame) :
    (s.served w a k).frame = s.frame := by simp [State.served, h]

@[simp] theorem State.served_frame_fst {s : State} {w : Accessor} {a : Nat} {k : State → State}
    (h : ∀ s, (k s).frame.1 = s.frame.1) : (s.served w a k).frame.1 = s.frame.1 := by
  simp only [State.served]
  repeat' split
  all_goals simp [h]
@[simp] theorem State.refresh_frame (s : State) : s.refresh.frame = s.frame := by simp [State.refresh]
@[simp] theorem State.aperRefused_frame (s : State) (p : Port) : (s.aperRefused p).frame = s.frame := by simp [State.aperRefused]
@[simp] theorem State.aperWrite_frame_fst (s : State) (p : Port) (off : Nat) (be : BitVec 4) (v : W32) (rivals : List Nat) :
    (s.aperWrite p off be v rivals).frame.1 = s.frame.1 := by
  unfold State.aperWrite
  split
  · simp
  · exact (State.foldl_frame_fst _ (fun s k => by split <;> simp) _ _).trans (by simp)
@[simp] theorem State.aperRead_frame (s : State) (p : Port) (off : Nat) (rivals : List Nat) :
    (s.aperRead p off rivals).frame = s.frame := by
  simp only [State.aperRead]
  split
  · simp
  · split
    · simp
    · split <;> simp
@[simp] theorem execSpadApertureAccess_keepsFixed (p : Port) (off : Nat) (w : Option (BitVec 4 × W32)) (rivals : List Nat) (s : State) :
    KeepsFixed s (execSpadApertureAccess p off w rivals s) := by
  cases w <;> simp [execSpadApertureAccess]
@[simp] theorem State.readClears_frame (s : State) (r : Reg) (i : Nat) (occ : W32) : (s.readClears r i occ).frame = s.frame := by
  simp [State.readClears]
@[simp] theorem State.readAt_frame (s : State) (w : Accessor) (a : Nat) (occ : W32) : (s.readAt w a occ).frame = s.frame := by
  simp only [State.readAt]
  repeat' split
  all_goals simp
@[simp] theorem State.cfgWrite_frame (s : State) (p : Port) (off : Nat) (v : W32) : (s.cfgWrite p off v).frame = s.frame := by
  simp only [State.cfgWrite]
  split
  · simp
  · split <;> simp
@[simp] theorem State.ownRead_frame (s : State) (p : Port) (a : Nat) : (s.ownRead p a).frame = s.frame := by simp [State.ownRead]
@[simp] theorem State.kickWrite_frame (s : State) (p : Port) (off : Nat) (rd : DmaRead) : (s.kickWrite p off rd).frame = s.frame := by
  unfold State.kickWrite
  split
  · rfl
  · obtain ⟨t, he, ht⟩ := execSqKick_keeps p (off / 0x800) rd s
    simp [he, ht]
@[simp] theorem State.ownWrite_frame (s : State) (p : Port) (a : Nat) (v : W32) (rd : DmaRead) :
    (s.ownWrite p a v rd).frame = s.frame := by
  simp [State.ownWrite]
@[simp] theorem execReadToClear_keeps (w : Accessor) (a : Nat) (occ : W32) (s : State) : Keeps s (execReadToClear w a occ s) := by
  simp only [execReadToClear]
  split <;> simp
@[simp] theorem State.via_frame {s : State} {r : Res} (h : Keeps s r) : (s.via r).frame = s.frame := by
  obtain ⟨t, rfl, ht⟩ := h; exact ht
@[simp] theorem State.msixWrite_frame (s : State) (p : Port) (off : Nat) (v : W32) : (s.msixWrite p off v).frame = s.frame := by
  simp only [State.msixWrite]
  split
  · simp
  · split <;> simp
@[simp] theorem State.clearedWith_frame (s : State) (r : Reg) (bits : W32) : (s.clearedWith r bits).frame = s.frame := by
  simp [State.clearedWith]
@[simp] theorem State.regWrite_frame (s : State) (w : Accessor) (r : Reg) (i : Nat) (v : W32) :
    (s.regWrite w r i v).frame = s.frame := by
  simp only [State.regWrite]
  split <;> simp
@[simp] theorem State.hostWrite_frame (s : State) (p : Port) (r : Reg) (i : Nat) (v : W32) (rd : DmaRead) :
    (s.hostWrite p r i v rd).frame = s.frame := by
  simp only [State.hostWrite]
  repeat' split
  all_goals simp
@[simp] theorem State.writeAt_frame_fst (s : State) (w : Accessor) (a : Nat) (v : W32) (rd : DmaRead) :
    (s.writeAt w a v rd).frame.1 = s.frame.1 := by
  refine State.served_frame_fst fun s => ?_
  split
  · simp
  · split
    · cases w with
      | firmware => rfl
      | host q =>
        dsimp only
        split
        · simp
        · split
          · simp
          · split <;> simp
    · split
      · cases w <;> simp
      · split <;> simp
@[simp] theorem execRegisterWrite_keepsFixed (w : Accessor) (a : Nat) (be : BitVec 4) (v : W32) (rd : DmaRead) (s : State) :
    KeepsFixed s (execRegisterWrite w a be v rd s) := by
  simp only [execRegisterWrite]
  repeat' split
  all_goals simp
@[simp] theorem execStickyBitClear_keeps (w : Accessor) (a : Nat) (v setNow : W32) (s : State) :
    Keeps s (execStickyBitClear w a v setNow s) := by
  simp only [execStickyBitClear, keeps_next]
  split
  · rfl
  · refine State.served_frame fun s => ?_
    split
    · rfl
    · split
      · rfl
      · split
        · split <;> simp
        · rfl
        · simp

/-! ### Machine/Rv32.lean -/

@[simp] theorem State.csrOp_frame (s : State) (n csr f3 rd r : Nat) : (s.csrOp n csr f3 rd r).frame = s.frame := by
  simp only [State.csrOp]
  split
  · simp
  · split <;> simp
@[simp] theorem State.fetchAt_frame_fst {s : State} {n a len : Nat} {k : State → State} (h : ∀ s, (k s).frame.1 = s.frame.1) :
    (s.fetchAt n a len k).frame.1 = s.frame.1 := by
  unfold State.fetchAt
  split
  · simp
  · split <;> simp [h]
@[simp] theorem ranTo_frame {s : State} {r : Res} (h : Keeps s r) : (ranTo s r).frame = s.frame := by
  obtain ⟨t, rfl, ht⟩ := h; exact ht

@[simp] theorem ranTo_frame_fst {s : State} {r : Res} (h : KeepsFixed s r) : (ranTo s r).frame.1 = s.frame.1 := by
  obtain ⟨t, rfl, ht⟩ := h; exact ht
@[simp] theorem State.xbarlux_frame (s : State) (n w : Nat) (rivals : List (List Nat)) : (s.xbarlux n w rivals).frame = s.frame := by
  simp only [State.xbarlux]
  split <;> simp
@[simp] theorem State.atomicOp_frame_fst (s : State) (n w : Nat) (rivals : List (List Nat)) :
    (s.atomicOp n w rivals).frame.1 = s.frame.1 := by
  unfold State.atomicOp
  extract_lets rd r1 r2 amo
  split
  · split <;> simp
  all_goals simp [amo]
@[simp] theorem State.ecall_frame_fst (s : State) (n : Nat) : (s.ecall n).frame.1 = s.frame.1 := by
  simp only [State.ecall]
  split
  · simp
  · split <;> simp
@[simp] theorem State.system_frame_fst (s : State) (n w : Nat) : (s.system n w).frame.1 = s.frame.1 := by
  simp only [State.system]
  split
  · split <;> simp
  · simp
@[simp] theorem State.floatOp_frame (s : State) (n w : Nat) : (s.floatOp n w).frame = s.frame := by
  simp only [State.floatOp]
  repeat' split
  all_goals simp
@[simp] theorem State.execWord_frame_fst (s : State) (n w : Nat) (len : W32) (rivals : List (List Nat)) :
    (s.execWord n w len rivals).frame.1 = s.frame.1 := by
  simp only [State.execWord]
  repeat' split
  all_goals simp
@[simp] theorem State.engineStep_frame_fst (s : State) (n : Nat) (rivals : List (List Nat)) :
    (s.engineStep n rivals).frame.1 = s.frame.1 := by
  refine State.runs_frame_fst fun e s => State.fetchAt_frame_fst fun s => ?_
  dsimp only
  split
  · exact State.fetchAt_frame_fst fun s => by simp
  · split <;> simp

/-! ### Machine/Boundary.lean -/

@[simp] theorem State.timeOn_frame (s : State) : s.timeOn.frame = s.frame := by simp [State.timeOn]
@[simp] theorem State.newTime_frame (s : State) : s.newTime.frame = s.frame := by simp [State.newTime]
@[simp] theorem State.boundaryOpen_frame (s : State) : s.boundaryOpen.frame = s.frame := by simp [State.boundaryOpen]
@[simp] theorem State.sliceChecks_frame (s : State) (fails : List (Nat × Nat)) : (s.sliceChecks fails).frame = s.frame := by
  simp [State.sliceChecks]
@[simp] theorem State.sliceWork_frame (s : State) : s.sliceWork.frame = s.frame := by simp [State.sliceWork]
@[simp] theorem State.govWork_frame (s : State) : s.govWork.frame = s.frame := by simp [State.govWork]
@[simp] theorem State.boundaryShow_frame (s : State) (meas : List Meas) : (s.boundaryShow meas).frame = s.frame := by
  simp [State.boundaryShow]
@[simp] theorem State.engineWork_frame_fst (s : State) : s.engineWork.frame.1 = s.frame.1 := by simp [State.engineWork]
@[simp] theorem State.unknownTypes_frame (s : State) : s.unknownTypes.frame = s.frame := by simp [State.unknownTypes]
@[simp] theorem State.cycleWork_frame_fst (s : State) (fails : List (Nat × Nat)) (meas : List Meas) :
    (s.cycleWork fails meas).frame.1 = s.frame.1 := by
  simp [State.cycleWork]
@[simp] theorem execControlCycleBoundary_keepsFixed (fails : List (Nat × Nat)) (meas : List Meas) (ran : List (Nat × List (List Nat)))
    (s : State) : KeepsFixed s (execControlCycleBoundary fails meas ran s) := by
  simp [execControlCycleBoundary]

end Sys2Proof.Machine
end

section
/-!
PROOFS. O60: the frame of every command, from the lemma of its arm.
-/
namespace Sys2Proof.Machine

/-- A command that stores to no memory keeps the whole frame. -/
theorem exec_keeps (c : Instr) (s : State) (h : mayStore c = false) : Keeps s (exec c s) := by
  cases c with
  | store | lr | sc | amo | fence | fenceI | readSnapshot | spadApertureAccess | registerWrite | controlCycleBoundary | wakeBallAssert =>
    cases h
  | _ => simp [exec]

/-- Every command, one that stores to memory too, keeps the queue and what is fixed at manufacture. -/
theorem exec_keepsFixed (c : Instr) (s : State) : KeepsFixed s (exec c s) := by
  cases hc : mayStore c with
  | false =>
    obtain ⟨t, h, ht⟩ := exec_keeps c s hc
    exact ⟨t, h, congrArg Prod.fst ht⟩
  | true =>
    cases c with
    | store | lr | sc | amo | fence | fenceI | readSnapshot | spadApertureAccess | registerWrite | controlCycleBoundary | wakeBallAssert =>
      simp [exec]
    | _ => cases hc

/-- Settles O60: every command answers a next state of the same queue, variant and stepping, and of the same memory unless it stores. -/
theorem commandFrame : Obligations.CommandFrame := by
  intro c s
  obtain ⟨t, h, ht⟩ := exec_keepsFixed c s
  refine ⟨t, h, State.pending_of_frame ht, State.variant_of_frame ht, State.stepping_of_frame ht, fun hc a => ?_⟩
  obtain ⟨u, hu, hm⟩ := exec_keeps c s hc
  have htu : t = u := by simpa [h] using hu
  rw [htu, State.mem_of_frame hm]

end Sys2Proof.Machine
end

section
/-!
PROOFS. The front of the queue: a step runs it, and no word spells a command.
-/
namespace Sys2Proof.Machine

theorem step_cons {s : State} {c : Instr} {r : List Instr} (h : s.pending = c :: r) : step s = exec c { s with pending := r } := by
  unfold step
  rw [h]

theorem step_nil {s : State} (h : s.pending = []) : step s = .next s := by
  unfold step
  rw [h]

/-- Settles O57: the two cases of the queue, and a decoder that answers no command. -/
theorem stepRunsFront : Obligations.StepRunsFront :=
  ⟨fun _ _ _ h => step_cons h, fun _ h => step_nil h, fun _ _ _ => ⟨rfl, rfl⟩⟩

end Sys2Proof.Machine
end

section
/-!
PROOFS. Arbitration (R49, R51): an order beats another by its rank or, within a rank, by the safer side. That relation is a strict order, so
what one pass over the orders keeps is unbeaten.
-/
namespace Sys2Proof.Machine

theorem Act.safer_irrefl (a : Act) : a.safer a = false := by
  cases a with
  | start | stop => rfl
  | switch _ on => cases on <;> rfl
  | lock _ on => cases on <;> rfl
  | pilot => simp [Act.safer]
  | limit => simp [Act.safer]

/-- Only limits have a safer side of a safer side: every other class has one safe value. -/
theorem Act.safer_trans {a b c : Act} (hab : a.safer b = true) (hbc : b.safer c = true) : a.safer c = true := by
  unfold Act.safer at hab
  split at hab
  case h_1 | h_2 | h_3 | h_4 => simp [Act.safer] at hbc
  case h_5 =>
    cases c with
    | limit =>
      simp only [Act.safer, Bool.and_eq_true, Bool.or_eq_true, bne_iff_ne, beq_iff_eq, decide_eq_true_eq] at hab hbc ⊢
      omega
    | _ => simp [Act.safer] at hbc
  case h_6 => cases hab

/-- R49, R51: the order `o` prevails over `w`: by a higher rank, or within the rank by the safer side. -/
def Order.beats (o w : Order) : Prop :=
  rankOf o.src < rankOf w.src ∨ (rankOf o.src = rankOf w.src ∧ o.act.safer w.act = true)

theorem Order.beats_irrefl (o : Order) : ¬ o.beats o := by
  simp [Order.beats, Act.safer_irrefl]

theorem Order.beats.trans {o w x : Order} (how : o.beats w) (hwx : w.beats x) : o.beats x := by
  rcases how with how | ⟨how, hsafe⟩ <;> rcases hwx with hwx | ⟨hwx, hsafe'⟩
  · exact .inl (how.trans hwx)
  · exact .inl (hwx ▸ how)
  · exact .inl (how ▸ hwx)
  · exact .inr ⟨how.trans hwx, Act.safer_trans hsafe hsafe'⟩

theorem winner_cons_of_beats {w o : Order} (r : List Order) (h : o.beats w) : winner w (o :: r) = winner o r := by
  have hc : (decide (rankOf o.src < rankOf w.src) || (decide (rankOf o.src = rankOf w.src) && o.act.safer w.act)) = true := by
    simpa [Order.beats] using h
  rw [winner, if_pos hc]

theorem winner_cons_of_not_beats {w o : Order} (r : List Order) (h : ¬ o.beats w) : winner w (o :: r) = winner w r := by
  have hc : ¬ (decide (rankOf o.src < rankOf w.src) || (decide (rankOf o.src = rankOf w.src) && o.act.safer w.act)) = true := by
    simpa [Order.beats] using h
  rw [winner, if_neg hc]

theorem winner_mem (w : Order) (l : List Order) : winner w l = w ∨ winner w l ∈ l := by
  induction l generalizing w with
  | nil => exact .inl rfl
  | cons o r ih =>
    by_cases h : o.beats w
    · rw [winner_cons_of_beats r h]
      exact .inr (List.mem_cons.2 (ih o))
    · rw [winner_cons_of_not_beats r h]
      exact (ih w).imp_right (List.mem_cons_of_mem o)

/-- A pass over more orders leaves the first as it is, or finds one that beats it. -/
theorem winner_eq_or_beats (w : Order) (l : List Order) : winner w l = w ∨ (winner w l).beats w := by
  induction l generalizing w with
  | nil => exact .inl rfl
  | cons o r ih =>
    by_cases h : o.beats w
    · rw [winner_cons_of_beats r h]
      rcases ih o with e | hb
      · exact .inr (e.symm ▸ h)
      · exact .inr (hb.trans h)
    · rw [winner_cons_of_not_beats r h]
      exact ih w

/-- What does not beat the first order does not beat the winner. -/
theorem not_beats_winner {o w : Order} (l : List Order) (h : ¬ o.beats w) : ¬ o.beats (winner w l) := by
  intro hb
  rcases winner_eq_or_beats w l with e | hw
  · exact h (e ▸ hb)
  · exact h (hb.trans hw)

theorem winner_unbeaten {w o : Order} {l : List Order} (h : o = w ∨ o ∈ l) : ¬ o.beats (winner w l) := by
  induction l generalizing w with
  | nil =>
    obtain rfl : o = w := by simpa using h
    exact o.beats_irrefl
  | cons x r ih =>
    by_cases hx : x.beats w
    · rw [winner_cons_of_beats r hx]
      rcases h with rfl | hm
      · exact not_beats_winner r fun hox => o.beats_irrefl (hox.trans hx)
      · exact ih (List.mem_cons.1 hm)
    · rw [winner_cons_of_not_beats r hx]
      rcases h with rfl | hm
      · exact ih (.inl rfl)
      · rcases List.mem_cons.1 hm with rfl | hr
        · exact not_beats_winner r hx
        · exact ih (.inr hr)

/-- Settles O35: the winner is one of the orders, and none of them beats it. -/
theorem arbitration : Obligations.Arbitration := by
  refine ⟨winner_mem, fun w l o h => ?_⟩
  have hn : ¬ o.beats (winner w l) := winner_unbeaten h
  simp only [Order.beats, not_or, not_lt, not_and, Bool.not_eq_true] at hn
  exact hn

end Sys2Proof.Machine
end

section
/-!
PROOFS. The offered current (R55, R522, R525): a minimum, so at most each of what it is the minimum of.
-/
namespace Sys2Proof.Machine

/-- What one entry of the table of limits leaves of the lowest limit of a point and kind found so far. -/
def lowerLimit (p kind : Nat) (a : Option Nat) (x : (Nat × Nat × Nat) × Nat) : Option Nat :=
  if x.1.1 = p ∧ x.1.2.1 = kind then some (a.elim x.2 fun v => min v x.2) else a

theorem State.effLimit_eq (s : State) (p kind : Nat) : s.effLimit p kind = s.limits.foldl (lowerLimit p kind) none := by
  unfold State.effLimit
  congr 1
  funext a x
  cases a <;> simp [lowerLimit]

theorem lowerLimit_some_le (p kind v : Nat) (x : (Nat × Nat × Nat) × Nat) : ∃ u, lowerLimit p kind (some v) x = some u ∧ u ≤ v := by
  unfold lowerLimit
  split
  · exact ⟨min v x.2, rfl, min_le_left _ _⟩
  · exact ⟨v, rfl, le_rfl⟩

theorem lowerLimit_of_key (p kind r v : Nat) (a : Option Nat) : ∃ u, lowerLimit p kind a ((p, kind, r), v) = some u ∧ u ≤ v := by
  cases a with
  | none => exact ⟨v, by simp [lowerLimit], le_rfl⟩
  | some w => exact ⟨min w v, by simp [lowerLimit], min_le_right _ _⟩

/-- More entries only lower a limit found. -/
theorem foldl_lowerLimit_some_le (p kind : Nat) (l : List ((Nat × Nat × Nat) × Nat)) (v : Nat) :
    ∃ u, l.foldl (lowerLimit p kind) (some v) = some u ∧ u ≤ v := by
  induction l generalizing v with
  | nil => exact ⟨v, rfl, le_rfl⟩
  | cons x l ih =>
    obtain ⟨w, hw, hwv⟩ := lowerLimit_some_le p kind v x
    obtain ⟨u, hu, huw⟩ := ih w
    exact ⟨u, by rw [List.foldl_cons, hw, hu], huw.trans hwv⟩

theorem foldl_lowerLimit_le_of_mem {p kind r v : Nat} {l : List ((Nat × Nat × Nat) × Nat)} (h : ((p, kind, r), v) ∈ l)
    (a : Option Nat) : ∃ u, l.foldl (lowerLimit p kind) a = some u ∧ u ≤ v := by
  obtain ⟨l₁, l₂, rfl⟩ := List.append_of_mem h
  obtain ⟨w, hw, hwv⟩ := lowerLimit_of_key p kind r v (l₁.foldl (lowerLimit p kind) a)
  obtain ⟨u, hu, huw⟩ := foldl_lowerLimit_some_le p kind l₂ w
  exact ⟨u, by rw [List.foldl_append, List.foldl_cons, hw, hu], huw.trans hwv⟩

/-- R55: the limit that governs is at most each limit that stands, whatever its rank. -/
theorem State.effLimit_le {s : State} {p kind r v : Nat} (h : ((p, kind, r), v) ∈ s.limits) :
    ∃ u, s.effLimit p kind = some u ∧ u ≤ v := by
  rw [s.effLimit_eq]
  exact foldl_lowerLimit_le_of_mem h none

/-- A limit of the current bounds what the standing limits leave, with or without a limit of the power. -/
theorem State.standing_le {s : State} {p v : Nat} (i : Nat) (h : s.effLimit p 1 = some v) : ∃ u, s.standing i p = some u ∧ u ≤ v := by
  unfold State.standing
  cases hb : (s.effLimit p 2).map fun w => s.toCurrent i p (wattUnits w) with
  | none => exact ⟨v, by simp only [h], le_rfl⟩
  | some y => exact ⟨min v y, by simp only [h], min_le_left _ _⟩

/-- What the standing limits and the rating leave of the current, before the governor. -/
def State.ceiling (s : State) (i p : Nat) : Nat := (s.standing i p).elim (s.ratingOf i) fun x => min x (s.ratingOf i)

theorem State.offered_eq (s : State) (i p : Nat) : s.offered i p = (tabFind s.gov.alloc p).elim
    (if (s.scfg i).kind = 3 then s.ceiling i p else min (s.ceiling i p) 6000) fun a => min (s.ceiling i p) (s.toCurrent i p a) := by
  unfold State.offered State.ceiling
  cases s.standing i p <;> cases tabFind s.gov.alloc p <;> rfl

theorem State.offered_le_ceiling (s : State) (i p : Nat) : s.offered i p ≤ s.ceiling i p := by
  rw [s.offered_eq]
  cases tabFind s.gov.alloc p with
  | some a => exact min_le_left _ _
  | none =>
    simp only [Option.elim_none]
    split
    · exact le_rfl
    · exact min_le_left _ _

theorem State.ceiling_le_rating (s : State) (i p : Nat) : s.ceiling i p ≤ s.ratingOf i := by
  unfold State.ceiling
  cases s.standing i p with
  | none => exact le_rfl
  | some x => exact min_le_right _ _

theorem State.ceiling_le_limit {s : State} {i p r v : Nat} (h : ((p, 1, r), v) ∈ s.limits) : s.ceiling i p ≤ v := by
  obtain ⟨w, hw, hwv⟩ := s.effLimit_le h
  obtain ⟨u, hu, huw⟩ := s.standing_le i hw
  unfold State.ceiling
  rw [hu]
  exact (min_le_left _ _).trans (huw.trans hwv)

theorem State.offered_le_rating (s : State) (i p : Nat) : s.offered i p ≤ s.ratingOf i :=
  (s.offered_le_ceiling i p).trans (s.ceiling_le_rating i p)

theorem State.offered_le_allocation {s : State} {p a : Nat} (i : Nat) (h : tabFind s.gov.alloc p = some a) :
    s.offered i p ≤ s.toCurrent i p a := by
  rw [s.offered_eq, h]
  exact min_le_right _ _

/-- R525: an open or a faulty proximity rates the cable at nothing. -/
theorem State.ratingOf_no_cable {s : State} {i : Nat} (hkind : (s.scfg i).kind ≠ 3) (hmode : (s.scfg i).ppMode = 0)
    (hcode : s.get Fld.SLICE_PP__PP_CODE i = 0 ∨ s.get Fld.SLICE_PP__PP_CODE i = 5) : s.ratingOf i = 0 := by
  rcases hcode with hcode | hcode <;> simp [State.ratingOf, cableOf, hkind, hmode, hcode]

/-- Settles O40: the standing limits and the rating bound the ceiling, and the allocation bounds what is offered of it. -/
theorem offeredCurrent : Obligations.OfferedCurrent := by
  refine ⟨fun s i p r v h => ?limit, State.offered_le_rating, fun s i p a h => State.offered_le_allocation i h,
    fun s i p hkind hmode hcode => ?noCable⟩
  case limit => exact (s.offered_le_ceiling i p).trans (State.ceiling_le_limit h)
  case noCable => exact Nat.le_zero.1 ((s.offered_le_rating i p).trans_eq (State.ratingOf_no_cable hkind hmode hcode))

end Sys2Proof.Machine
end

section
/-!
PROOFS. The control-cycle boundary (R47, R48, R85, R91, R731): where it lies, when it does nothing but move time, and its work.
-/
namespace Sys2Proof.Machine

/-- FCOUNT and the trim of device time are all that timeOn writes beside time, so the count moves on by the cycle's length. -/
theorem State.timeOn_time_eq (s : State) : s.timeOn.time = s.time + s.cycleLength := by
  unfold State.timeOn
  exact (apply_ite State.time _ _ _).trans (ite_self _)

/-- R47: while device time is not set, a boundary comes at the next whole millisecond of the free-running count. -/
theorem State.timeOn_time {s : State} (h : s.devTime = 0) : s.timeOn.time = s.time + (1000 - s.time % 1000) := by
  rw [s.timeOn_time_eq, State.cycleLength, if_pos h]

theorem execControlCycleBoundary_off {s : State} (f : List (Nat × Nat)) (m : List Meas) (r : List (Nat × List (List Nat)))
    (h : 3 ≤ s.pwr) : execControlCycleBoundary f m r s = .next s := if_pos h

/-- R85, R731: no firmware runs, so only time moves. -/
theorem execControlCycleBoundary_still {s u : State} (f : List (Nat × Nat)) (m : List Meas) (r : List (Nat × List (List Nat)))
    (hpwr : s.pwr < 3) (hu : (r.foldl (fun s x => s.engineStep x.1 x.2) s).timeOn = u)
    (h : u.dieRuns .cdie = false ∨ u.inPause = true ∨ u.pwr = 2) : execControlCycleBoundary f m r s = .next u := by
  subst hu
  refine (if_neg (Nat.not_le.2 hpwr)).trans (if_pos ?_)
  rcases h with h | h | h <;> simp [h]

theorem execControlCycleBoundary_works {s u : State} (f : List (Nat × Nat)) (m : List Meas) (r : List (Nat × List (List Nat)))
    (hpwr : s.pwr < 3) (hu : (r.foldl (fun s x => s.engineStep x.1 x.2) s).timeOn = u) (hrun : u.dieRuns .cdie = true)
    (hpause : u.inPause = false) (hstage : u.stage = 0xB) (hawake : u.pwr ≠ 2) :
    execControlCycleBoundary f m r s = .next (u.cycleWork f m) := by
  subst hu
  refine (if_neg (Nat.not_le.2 hpwr)).trans (if_neg ?_)
  simp [hrun, hpause, hstage, hawake]

/-- Settles O16: the instant of the boundary, its three cases, and the order of its work as the model composes it. -/
theorem controlCycleBoundary : Obligations.ControlCycleBoundary := by
  refine ⟨fun s h => ?instant, fun s f m r h => execControlCycleBoundary_off f m r h,
    fun s f m hpwr h => execControlCycleBoundary_still f m [] hpwr rfl h,
    fun s f m r hpwr hrun hpause hstage hawake => execControlCycleBoundary_works f m r hpwr rfl hrun hpause hstage hawake,
    fun s f m => rfl⟩
  case instant =>
    rw [State.timeOn_time h]
    omega

end Sys2Proof.Machine
end

section
/-!
PROOFS. The arbitrated opcodes (R329 to R331, R546, R548, R558 to R560) and the stops that time out (R61): which branch of its meaning an
accepted descriptor takes.
-/
namespace Sys2Proof.Machine

/-- A command that runs a descriptor answers, once the descriptor is accepted, what its own meaning answers on the state that counts it
in flight. -/
theorem State.accepted_runs {s u : State} {op : Nat} {d : Desc} {k : Ticket → State → State} {c : Instr}
    (hexec : exec c s = .next (s.withDesc op d k)) (h : s.accepts op d = true)
    (hk : k ((s.taken d).ticket d) (s.taken d) = u) : exec c s = .next u := by
  rw [hexec, s.withDesc_taken k h, hk]

/-! ### START_DELIVERY, STOP_DELIVERY, SET_LIMIT -/

section
variable {s : State} {d : Desc}

theorem exec_startDelivery_reserved (rd : DmaRead) (h : s.accepts 0x10 d = true) (hpar : DescF.par d 2 2 ≠ 0) :
    exec (.startDelivery d rd) s =
      .next ((s.taken d).fin ((s.taken d).ticket d) stBad (if DescF.par d 2 1 ≠ 0 then 26 else 27)) :=
  State.accepted_runs rfl h (if_pos hpar)

/-- What START_DELIVERY asks for, with its plan. -/
def startOf (s : State) (d : Desc) (plan : List Byte) : StartSt :=
  { t := some (s.ticket d), port := d.port, src := d.port.source, point := d.target.toNat, tariff := DescF.par d 0 2,
    limit := DescF.par d 4 4, qLimit := (signedOf 64 (DescF.par d 8 8)).toNat, plan := plan }

theorem exec_startDelivery_defaultPlan (rd : DmaRead) (h : s.accepts 0x10 d = true) (hpar : DescF.par d 2 2 = 0)
    (hbuf : DescF.bufLen d = 0) :
    exec (.startDelivery d rd) s = .next ((s.taken d).acceptStart (startOf (s.taken d) d ((s.taken d).pcfg d.target.toNat).plan)
      (decide (signedOf 64 (DescF.par d 8 8) < 0))) :=
  State.accepted_runs rfl h ((if_neg (not_not.2 hpar)).trans (if_pos hbuf))

theorem exec_startDelivery_ownPlan (b : List Byte) (h : s.accepts 0x10 d = true) (hpar : DescF.par d 2 2 = 0)
    (hbuf : DescF.bufLen d ≠ 0) :
    exec (.startDelivery d (.data b)) s = .next ((s.taken d).acceptStart (startOf (s.taken d) d (b.take (DescF.bufLen d)))
      (decide (signedOf 64 (DescF.par d 8 8) < 0))) :=
  State.accepted_runs rfl h ((if_neg (not_not.2 hpar)).trans (if_neg hbuf))

theorem exec_stopDelivery (h : s.accepts 0x11 d = true) : exec (.stopDelivery d) s =
    .next ((s.taken d).pushOrder { src := d.port.source, act := .stop d.target.toNat, t := some ((s.taken d).ticket d) }) :=
  State.accepted_runs rfl h rfl

theorem exec_setLimit_suits (h : s.accepts 0x12 d = true) (hsuits : (s.taken d).limitSuits d.target.toNat (DescF.par d 0 4) = true) :
    exec (.setLimit d) s = .next ((s.taken d).pushOrder
      { src := d.port.source, act := .limit d.target.toNat (DescF.par d 0 4) (DescF.par d 4 4), t := some ((s.taken d).ticket d) }) :=
  State.accepted_runs rfl h (if_neg (by simp [hsuits]))

theorem exec_setLimit_unsuited (h : s.accepts 0x12 d = true)
    (hsuits : (s.taken d).limitSuits d.target.toNat (DescF.par d 0 4) = false) :
    exec (.setLimit d) s = .next ((s.taken d).fin ((s.taken d).ticket d) stBad 24) :=
  State.accepted_runs rfl h (if_pos (by simp [hsuits]))

/-! ### SWITCH_SET -/

theorem exec_switchSet_badValue (h : s.accepts 0x20 d = true) (hv : 1 < DescF.par d 0 1) :
    exec (.switchSet d) s = .next ((s.taken d).fin ((s.taken d).ticket d) stBad 24) :=
  State.accepted_runs rfl h (if_pos hv)

theorem exec_switchSet_refused {st r : Nat} (h : s.accepts 0x20 d = true) (hv : DescF.par d 0 1 ≤ 1)
    (href : (s.taken d).switchRefusal d.target.toNat (DescF.par d 0 1 == 1) = some (st, r)) :
    exec (.switchSet d) s = .next ((s.taken d).fin ((s.taken d).ticket d) st r) :=
  State.accepted_runs rfl h ((if_neg (Nat.not_lt.2 hv)).trans (by rw [href]))

theorem exec_switchSet_orders (h : s.accepts 0x20 d = true) (hv : DescF.par d 0 1 ≤ 1)
    (href : (s.taken d).switchRefusal d.target.toNat (DescF.par d 0 1 == 1) = none) :
    exec (.switchSet d) s = .next ((s.taken d).pushSwitch d.port.source d.target.toNat (DescF.par d 0 1 == 1)
      (some ((s.taken d).ticket d)) none) :=
  State.accepted_runs rfl h ((if_neg (Nat.not_lt.2 hv)).trans (by rw [href]))

/-- R284, R286, R558: an on order is refused by a test, a failure or a session, in this order. -/
theorem State.switchRefusal_on (s : State) (n : Nat) : s.switchRefusal n true =
    (if (s.sw n).test.isSome = true then some (stCapacity, 1) else if s.swFailed n = true then some (stProtection, 0)
      else if s.sessionSw n = true then some (stCapacity, 1) else none) := by
  simp only [State.switchRefusal, Bool.true_and]

/-- R286: an off order is refused by a test alone. -/
theorem State.switchRefusal_off (s : State) (n : Nat) :
    s.switchRefusal n false = (if (s.sw n).test.isSome = true then some (stCapacity, 1) else none) := by
  simp only [State.switchRefusal, Bool.false_and, Bool.false_eq_true, if_false]

/-! ### SWITCH_GROUP -/

/-- The operation that SWITCH_GROUP begins. -/
def groupOf (s : State) (d : Desc) : GroupOp :=
  { id := s.gov.seq, t := s.ticket d, mask := DescF.par d 0 6, on := DescF.par d 8 1 == 1, all := DescF.allOrNone d }

theorem exec_switchGroup_noMask (h : s.accepts 0x21 d = true) (hmask : DescF.par d 0 6 = 0) :
    exec (.switchGroup d) s = .next ((s.taken d).fin ((s.taken d).ticket d) stBad 24) :=
  State.accepted_runs rfl h (if_pos hmask)

theorem exec_switchGroup_reserved (h : s.accepts 0x21 d = true) (hmask : DescF.par d 0 6 ≠ 0) (hpar : DescF.par d 6 2 ≠ 0) :
    exec (.switchGroup d) s =
      .next ((s.taken d).fin ((s.taken d).ticket d) stBad (if DescF.par d 6 1 ≠ 0 then 30 else 31)) :=
  State.accepted_runs rfl h ((if_neg hmask).trans (if_pos hpar))

theorem exec_switchGroup_badValue (h : s.accepts 0x21 d = true) (hmask : DescF.par d 0 6 ≠ 0) (hpar : DescF.par d 6 2 = 0)
    (hv : 1 < DescF.par d 8 1) : exec (.switchGroup d) s = .next ((s.taken d).fin ((s.taken d).ticket d) stBad 32) :=
  State.accepted_runs rfl h ((if_neg hmask).trans ((if_neg (not_not.2 hpar)).trans (if_pos hv)))

theorem exec_switchGroup_allOff (h : s.accepts 0x21 d = true) (hmask : DescF.par d 0 6 ≠ 0) (hpar : DescF.par d 6 2 = 0)
    (hv : DescF.par d 8 1 = 0) (hall : DescF.allOrNone d = true) :
    exec (.switchGroup d) s = .next ((s.taken d).fin ((s.taken d).ticket d) stBad 1) :=
  State.accepted_runs rfl h ((if_neg hmask).trans ((if_neg (not_not.2 hpar)).trans
    ((if_neg (by omega)).trans (if_pos (by simp [hv, hall])))))

theorem exec_switchGroup_parts (h : s.accepts 0x21 d = true) (hmask : DescF.par d 0 6 ≠ 0) (hpar : DescF.par d 6 2 = 0)
    (hv : DescF.par d 8 1 ≤ 1) (hall : DescF.allOrNone d = false ∨ DescF.par d 8 1 = 1) :
    exec (.switchGroup d) s = .next ((maskList (DescF.par d 0 6)).foldl
      (fun u n => u.groupPart d.port (s.taken d).gov.seq n (DescF.par d 8 1 == 1))
      ((s.taken d).setGov { (s.taken d).gov with
        groups := (s.taken d).gov.groups ++ [groupOf (s.taken d) d],
        seq := (s.taken d).gov.seq + 1 })) := by
  have hno : ¬ ((DescF.allOrNone d && decide (DescF.par d 8 1 = 0)) = true) := by
    rcases hall with hall | hall <;> simp [hall]
  exact State.accepted_runs rfl h ((if_neg hmask).trans ((if_neg (not_not.2 hpar)).trans
    ((if_neg (Nat.not_lt.2 hv)).trans (if_neg hno))))

/-! ### CONNECTOR_LOCK and PILOT_SET -/

theorem exec_connectorLock_badValue (h : s.accepts 0x28 d = true) (hv : DescF.par d 0 1 = 0 ∨ 2 < DescF.par d 0 1) :
    exec (.connectorLock d) s = .next ((s.taken d).fin ((s.taken d).ticket d) stBad 24) :=
  State.accepted_runs rfl h (if_pos (by simpa using hv))

theorem exec_connectorLock_notFitted (h : s.accepts 0x28 d = true) (hv : DescF.par d 0 1 = 1 ∨ DescF.par d 0 1 = 2)
    (hlock : ((s.taken d).scfg d.target.toNat).lock = false) :
    exec (.connectorLock d) s = .next ((s.taken d).fin ((s.taken d).ticket d) stCapacity 2) :=
  State.accepted_runs rfl h ((if_neg (by simp; omega)).trans (if_pos (by simp [hlock])))

theorem exec_connectorLock_tested (h : s.accepts 0x28 d = true) (hv : DescF.par d 0 1 = 1 ∨ DescF.par d 0 1 = 2)
    (hlock : ((s.taken d).scfg d.target.toNat).lock = true) (htest : ((s.taken d).slice d.target.toNat).test.isSome = true) :
    exec (.connectorLock d) s = .next ((s.taken d).fin ((s.taken d).ticket d) stCapacity 1) :=
  State.accepted_runs rfl h ((if_neg (by simp; omega)).trans ((if_neg (by simp [hlock])).trans (if_pos htest)))

theorem exec_connectorLock_orders (h : s.accepts 0x28 d = true) (hv : DescF.par d 0 1 = 1 ∨ DescF.par d 0 1 = 2)
    (hlock : ((s.taken d).scfg d.target.toNat).lock = true) (htest : ((s.taken d).slice d.target.toNat).test.isSome = false) :
    exec (.connectorLock d) s = .next ((s.taken d).pushOrder
      { src := d.port.source, act := .lock d.target.toNat (DescF.par d 0 1 == 1), t := some ((s.taken d).ticket d) }) :=
  State.accepted_runs rfl h ((if_neg (by simp; omega)).trans ((if_neg (by simp [hlock])).trans (if_neg (by simp [htest]))))

theorem exec_pilotSet_badValue (h : s.accepts 0x29 d = true) (hv : DescF.par d 0 1 = 0 ∨ 3 < DescF.par d 0 1) :
    exec (.pilotSet d) s = .next ((s.taken d).fin ((s.taken d).ticket d) stBad 24) :=
  State.accepted_runs rfl h (if_pos (by simpa using hv))

theorem exec_pilotSet_tested (h : s.accepts 0x29 d = true) (hpos : 1 ≤ DescF.par d 0 1) (hle : DescF.par d 0 1 ≤ 3)
    (htest : ((s.taken d).slice d.target.toNat).test.isSome = true) :
    exec (.pilotSet d) s = .next ((s.taken d).fin ((s.taken d).ticket d) stCapacity 1) :=
  State.accepted_runs rfl h ((if_neg (by simp; omega)).trans (if_pos htest))

theorem exec_pilotSet_orders (h : s.accepts 0x29 d = true) (hpos : 1 ≤ DescF.par d 0 1) (hle : DescF.par d 0 1 ≤ 3)
    (htest : ((s.taken d).slice d.target.toNat).test.isSome = false) :
    exec (.pilotSet d) s = .next ((s.taken d).pushOrder
      { src := d.port.source, act := .pilot d.target.toNat (DescF.par d 0 1) 0, t := some ((s.taken d).ticket d) }) :=
  State.accepted_runs rfl h ((if_neg (by simp; omega)).trans (if_neg (by simp [htest])))

end

/-- Settles O36: each clause is the branch that its descriptor takes; a stop times out at a METERING point only. -/
theorem arbitratedCommands : Obligations.ArbitratedCommands := by
  refine ⟨fun s d rd => exec_startDelivery_reserved rd, fun s d rd => exec_startDelivery_defaultPlan rd,
    fun s d b => exec_startDelivery_ownPlan b, fun s d => exec_stopDelivery, fun s d => exec_setLimit_suits,
    fun s d => exec_setLimit_unsuited, fun s d => exec_switchSet_orders, fun s d => exec_switchSet_badValue,
    fun s d st r => exec_switchSet_refused, fun s n => ⟨s.switchRefusal_on n, s.switchRefusal_off n⟩,
    fun s d => exec_switchGroup_parts, fun s d => exec_switchGroup_reserved, fun s d => exec_switchGroup_allOff,
    fun s d => exec_switchGroup_noMask, fun s d => exec_switchGroup_badValue, fun s d => exec_connectorLock_orders,
    fun s d => exec_connectorLock_badValue, fun s d => exec_connectorLock_notFitted, fun s d => exec_connectorLock_tested,
    fun s d => exec_pilotSet_orders, fun s d => exec_pilotSet_badValue, fun s d => exec_pilotSet_tested,
    fun s p h => ?elsewhere, fun s t u p h ht hu => ?metering⟩
  case elsewhere => exact if_pos h
  case metering =>
    subst hu ht
    exact if_neg (not_not.2 h)

end Sys2Proof.Machine
end

section
/-!
PROOFS. Metering: freeze lines (R45, R46, R62, R126), cycles and blocks (R336, R337, R348), demand and harmonics (R352 to R354), checkpoints
(R262, R263, R277), and the requests and descriptors that read points (R353, R361, R364).
-/
namespace Sys2Proof.Machine

@[simp] theorem State.mp_setMp (s : State) (p : Nat) (m : MpSt) : (s.setMp p m).mp p = m := tabGet_tabSet_same _ _ _ _
@[simp] theorem State.mp_setReg (s : State) (r : Reg) (i : Nat) (v : W32) (p : Nat) : (s.setReg r i v).mp p = s.mp p := rfl

/-! ### Freeze lines -/

/-- The freeze line from the D-die to a Firn die. -/
def freezeLinkOf : Firn → Link
  | .f0 => .freeze0
  | .f1 => .freeze1

/-- No slice of the point has an undetermined auxiliary sense (R126). -/
def State.auxKnown (s : State) (p : Nat) : Bool :=
  s.cfg.slices.all fun x => x.2.kind == 0 || x.2.point != some p || tabGet .undet s.boot.inputs (.aux x.1) != .undet

/-- An edge of the line of a point is not seen: a die or the line is down (R46), or it falls for an undetermined sense. -/
def State.edgeUnseen (s : State) (p : Nat) (rising : Bool) : Bool :=
  !s.dieRuns .ddie || !s.linkUp (freezeLinkOf (s.pcfg p).die) || !s.dieRuns (s.pcfg p).die.die || (!rising && !s.auxKnown p)

/-- The point of a line that has risen: its path is open. -/
def State.lineRisen (s : State) (p : Nat) : State := (s.contactor p false).setMp p { s.mp p with pathClosed := false }

section
variable {s : State} {p : Nat}

theorem State.edgeUnseen_of_down (rising : Bool)
    (h : s.dieRuns .ddie = false ∨ s.linkUp (freezeLinkOf (s.pcfg p).die) = false ∨ s.dieRuns (s.pcfg p).die.die = false) :
    s.edgeUnseen p rising = true := by
  rcases h with h | h | h <;> simp [State.edgeUnseen, h]

theorem State.edgeUnseen_of_undetermined (h : s.auxKnown p = false) : s.edgeUnseen p false = true := by simp [State.edgeUnseen, h]

theorem State.edgeSeen {rising : Bool} (hd : s.dieRuns .ddie = true) (hl : s.linkUp (freezeLinkOf (s.pcfg p).die) = true)
    (hf : s.dieRuns (s.pcfg p).die.die = true) (haux : rising = true ∨ s.auxKnown p = true) : ¬ s.edgeUnseen p rising = true := by
  rcases haux with h | h <;> simp [State.edgeUnseen, hd, hl, hf, h]

theorem exec_freezeLineEdge_unseen {rising : Bool} (idx : Nat) (h : s.edgeUnseen p rising = true) :
    exec (.freezeLineEdge p rising idx) s = .next s := if_pos h

theorem exec_freezeLineEdge_falls (idx : Nat) (h : ¬ s.edgeUnseen p false = true) :
    exec (.freezeLineEdge p false idx) s = .next ((s.contactor p true).setMp p { s.mp p with pathClosed := true }) :=
  (if_neg h).trans (if_pos rfl)

/-- A line that rises under a verification of a point out of service marks where the point would freeze. -/
theorem exec_freezeLineEdge_verifies (idx : Nat) (h : ¬ s.edgeUnseen p true = true) (hstate : (s.lineRisen p).mpState p = mpOos)
    (hver : (s.mp p).verified.isSome = true) (hfrz : (s.mp p).frozeAt = none) :
    exec (.freezeLineEdge p true idx) s = .next ((s.lineRisen p).setMp p { (s.lineRisen p).mp p with frozeAt := some idx }) := by
  have hc : (decide ((s.lineRisen p).mpState p = mpOos) && (s.mp p).verified.isSome && (s.mp p).frozeAt.isNone) = true := by
    simp [hstate, hver, hfrz]
  exact (if_neg h).trans ((if_neg Bool.false_ne_true).trans (if_pos hc))

/-- Without such a verification, what a risen line does depends on whether the point meters and on its flow rule. -/
theorem exec_freezeLineEdge_rises (idx : Nat) (h : ¬ s.edgeUnseen p true = true)
    (hno : (s.lineRisen p).mpState p ≠ mpOos ∨ (s.mp p).verified = none ∨ (s.mp p).frozeAt ≠ none) :
    exec (.freezeLineEdge p true idx) s = if (s.lineRisen p).mpState p ≠ mpMetering then .next (s.lineRisen p)
      else if (pointFlow ((s.lineRisen p).pcfg p) && ((s.lineRisen p).pcfg p).flowRule) = true then
        .next ((s.lineRisen p).setMp p { (s.lineRisen p).mp p with
          flow := { ((s.lineRisen p).mp p).flow with rose := some idx, low := 0 } })
      else .next ((s.lineRisen p).freezePoint p idx 1) := by
  have hc : ¬ (decide ((s.lineRisen p).mpState p = mpOos) && (s.mp p).verified.isSome && (s.mp p).frozeAt.isNone) = true := by
    rcases hno with hno | hno | hno
    · simp [hno]
    · simp [hno]
    · simpa using fun _ _ => hno
  exact (if_neg h).trans ((if_neg Bool.false_ne_true).trans (if_neg hc))

theorem State.ne_oos_of_metering (h : s.mpState p = mpMetering) : s.mpState p ≠ mpOos := by
  rw [h]
  decide

end

/-! ### Cycles and blocks -/

section
variable {s : State} {p : Nat}

theorem exec_cycleEnd_idle (x : Option Nat) (h : (s.pcfg p).commodity ≠ cAc ∨ s.firnLive (s.pcfg p).die = false) :
    exec (.cycleEnd p x) s = .next s := if_pos (by simpa using h)

theorem exec_cycleEnd_crossing (t : Nat) (hac : (s.pcfg p).commodity = cAc) (hlive : s.firnLive (s.pcfg p).die = true) :
    exec (.cycleEnd p (some t)) s = .next (if s.flag Fld.MP_STATE__FIXED p = true then s.fixedCrossing p t else s.crossing p t) :=
  if_neg (by simp [hac, hlive])

theorem exec_cycleEnd_block (hac : (s.pcfg p).commodity = cAc) (hlive : s.firnLive (s.pcfg p).die = true) :
    exec (.cycleEnd p none) s = .next (if s.flag Fld.MP_STATE__FIXED p = true then
      s.endBlock p ((s.mp p).cyc.b + (if (s.pcfg p).nom60 = true then 530 else 636)) else s) :=
  if_neg (by simp [hac, hlive])

/-- R336: the first crossing begins the first cycle. -/
theorem State.crossing_first (t : Nat) (h : (s.mp p).cyc.on = false) :
    s.crossing p t = s.setMp p { s.mp p with cyc := { (s.mp p).cyc with on := true, tk := t, b := ceilT t } } :=
  if_pos (by simp [h])

/-- R336: a crossing within 489 samples of the latest is ignored. -/
theorem State.crossing_early {t : Nat} (h : (s.mp p).cyc.on = true) (ht : t < (s.mp p).cyc.tk + 489 * 65536) :
    s.crossing p t = s.setMp p { s.mp p with cyc := { (s.mp p).cyc with ign := t - (s.mp p).cyc.tk } } :=
  (if_neg (by simp [h])).trans (if_pos ht)

/-- R336: another crossing ends the cycle. -/
theorem State.crossing_ends {t : Nat} (h : (s.mp p).cyc.on = true) (ht : (s.mp p).cyc.tk + 489 * 65536 ≤ t)
    (hb : ceilT t ≤ (s.mp p).cyc.b + 707) : s.crossing p t = s.endCycle p (ceilT t) t :=
  (if_neg (by simp [h])).trans ((if_neg (Nat.not_lt.2 ht)).trans (if_neg (Nat.not_lt.2 hb)))

theorem exec_dcBlockEnd_idle (b : Nat) (h : (s.pcfg p).commodity ≠ cDc ∨ s.firnLive (s.pcfg p).die = false) :
    exec (.dcBlockEnd p b) s = .next s := if_pos (by simpa using h)

theorem exec_dcBlockEnd_accumulates (b : Nat) (hdc : (s.pcfg p).commodity = cDc) (hlive : s.firnLive (s.pcfg p).die = true) :
    exec (.dcBlockEnd p b) s = .next (s.cycle p (s.formCycle p (b / 32 * 32) (b / 32 * 32 + 32) 0 0 true (some [])) true) :=
  if_neg (by simp [hdc, hlive])

theorem exec_fixedBlockEntry_idle
    (h : (s.pcfg p).commodity ≠ cAc ∨ s.firnLive (s.pcfg p).die = false ∨ s.flag Fld.MP_STATE__FIXED p = true) :
    exec (.fixedBlockEntry p) s = .next s := if_pos (by simpa [or_assoc] using h)

theorem exec_fixedBlockEntry_leaves (hac : (s.pcfg p).commodity = cAc) (hlive : s.firnLive (s.pcfg p).die = true)
    (hfixed : s.flag Fld.MP_STATE__FIXED p = false) : exec (.fixedBlockEntry p) s = .next (s.leaveCrossing p) :=
  if_neg (by simp [hac, hlive, hfixed])

/-- R337: a point without a cycle enters fixed-block mode at the latest mark. -/
theorem State.leaveCrossing_first (h : (s.mp p).cyc.on = false) :
    s.leaveCrossing p = (((s.put Fld.MP_STATE__FIXED p 1).setReg .MP_FREQ p 0).setMp p
      { s.mp p with cyc := (s.mp p).cyc.fix (s.firn (s.pcfg p).die).m, harmCount := 0 }).postPt p
        { code := 0x222, sev := 1, obj := p, data := freqImplied (s.mp p).cyc.ign } := by
  simp only [State.leaveCrossing, h, Bool.false_eq_true, if_false]
  rfl

/-- R337: a cycle of 707 samples ends there, and fixed-block mode begins. -/
theorem State.leaveCrossing_ends {u : State} (h : (s.mp p).cyc.on = true)
    (hu : s.endCycle p ((s.mp p).cyc.b + 707) (((s.mp p).cyc.b + 707) * 65536) = u) :
    s.leaveCrossing p = (((u.put Fld.MP_STATE__FIXED p 1).setReg .MP_FREQ p 0).setMp p
      { u.mp p with cyc := (u.mp p).cyc.fix ((s.mp p).cyc.b + 707), harmCount := 0 }).postPt p
        { code := 0x222, sev := 1, obj := p, data := freqImplied (s.mp p).cyc.ign } := by
  simp only [State.leaveCrossing, h, if_true, hu]
  rfl

end

/-! ### Demand and harmonics -/

/-- A rate's demand after a sub-interval that ended at `t`: the latest, and the maximum with its time if it is greater (R352). -/
def RateDemand.after (o : RateDemand) (dem t : Nat) : RateDemand :=
  if o.max < dem then { o with latest := dem, max := dem, time := t } else { o with latest := dem }

@[simp] theorem latest_after (o : RateDemand) (dem t : Nat) : (o.after dem t).latest = dem := by
  unfold RateDemand.after
  split <;> rfl

@[simp] theorem max_after (o : RateDemand) (dem t : Nat) : (o.after dem t).max = max o.max dem := by
  unfold RateDemand.after
  split
  next h => exact (max_eq_right h.le).symm
  next h => exact (max_eq_left (not_lt.1 h)).symm

@[simp] theorem time_after (o : RateDemand) (dem t : Nat) :
    (o.after dem t).time = if o.max < dem then t else o.time := by
  unfold RateDemand.after
  split <;> rfl

/-- The demand of a point after a sub-interval that ended at `t`, under the rate `r`. -/
def DemandSt.after (m : DemandSt) (c : PointCfg) (r t : Nat) : DemandSt :=
  { subs := (m.cur :: m.subs).take (max 1 c.sub), cur := 0, lastEnd := t,
    rates := tabSet m.rates r ((tabGet {} m.rates r).after (demandMw ((m.cur :: m.subs).take (max 1 c.sub)).sum c.di) t) }

section
variable {s : State} {p : Nat}

theorem exec_demandSubintervalEnd_idle {t : Nat} (h : ((s.pcfg p).commodity ≠ cAc ∧ (s.pcfg p).commodity ≠ cDc)
    ∨ s.firnLive (s.pcfg p).die = false ∨ ((s.mp p).dm.lastEnd ≠ 0 ∧ t ≤ (s.mp p).dm.lastEnd)) :
    exec (.demandSubintervalEnd p t) s = .next s := if_pos (by simpa [or_assoc] using h)

theorem exec_demandSubintervalEnd_ends {t : Nat} (hkind : (s.pcfg p).commodity = cAc ∨ (s.pcfg p).commodity = cDc)
    (hlive : s.firnLive (s.pcfg p).die = true) (hnew : (s.mp p).dm.lastEnd = 0 ∨ (s.mp p).dm.lastEnd < t) :
    ∃ u, exec (.demandSubintervalEnd p t) s = .next u ∧
      (u.mp p).dm = (s.mp p).dm.after (s.pcfg p) (s.get Fld.MP_STATE__RATE p) t := by
  have hc : ¬ ((decide ((s.pcfg p).commodity ≠ cAc) && decide ((s.pcfg p).commodity ≠ cDc)) || !s.firnLive (s.pcfg p).die
      || (decide ((s.mp p).dm.lastEnd ≠ 0) && decide (t ≤ (s.mp p).dm.lastEnd))) = true := by
    simp only [hlive, Bool.or_eq_true, Bool.and_eq_true, decide_eq_true_eq, Bool.not_true, Bool.false_eq_true, or_false]
    rintro (⟨hac, hdc⟩ | ⟨hsome, hold⟩)
    · exact hkind.elim hac hdc
    · omega
  exact ⟨_, if_neg hc, by simp only [State.mp_setReg, State.mp_setMp]; rfl⟩

theorem exec_harmonicWindowEnd_idle (h : (s.pcfg p).commodity ≠ cAc ∨ (s.pcfg p).harm = false
    ∨ (s.mp p).cyc.win ≠ harmCycles (s.pcfg p) ∨ s.firnLive (s.pcfg p).die = false) :
    exec (.harmonicWindowEnd p) s = .next s := if_pos (by simpa [or_assoc] using h)

/-- R354: a window of the nominal count of cycles is kept, and the next one begins. -/
theorem exec_harmonicWindowEnd_keeps (hac : (s.pcfg p).commodity = cAc) (hharm : (s.pcfg p).harm = true)
    (hwin : (s.mp p).cyc.win = harmCycles (s.pcfg p)) (hlive : s.firnLive (s.pcfg p).die = true) :
    exec (.harmonicWindowEnd p) s = .next (s.setMp p { s.mp p with
      harmFirst := (s.mp p).cyc.winFirst, harmCount := harmCycles (s.pcfg p), harmMask := harmMaskOf (s.pcfg p),
      harm := (s.mp p).cyc.pts.zipIdx.map fun x => harmWords (harmCycles (s.pcfg p))
        (s.reg .CH_SCALE (chIdx (s.pcfg p).die ((harmChans (s.pcfg p)).getD x.2 0))) (harmBins (harmCycles (s.pcfg p)) x.1),
      cyc := { (s.mp p).cyc with win := 0, pts := [] } }) :=
  if_neg (by simp [hac, hharm, hwin, hlive])

/-! ### Checkpoints -/

theorem exec_checkpoint_idle (idx : Nat) (e h : Option Nat) (hno : (s.pcfg p).commodity = 0 ∨ s.firnLive (s.pcfg p).die = false) :
    exec (.checkpoint p idx e h) s = .next s := if_pos (by simpa using hno)

theorem State.not_pointIdle (hkind : (s.pcfg p).commodity ≠ 0) (hlive : s.firnLive (s.pcfg p).die = true) :
    ¬ (decide ((s.pcfg p).commodity = 0) || !s.firnLive (s.pcfg p).die) = true := by simp [hkind, hlive]

theorem exec_checkpoint_kept (idx : Nat) (hkind : (s.pcfg p).commodity ≠ 0) (hlive : s.firnLive (s.pcfg p).die = true) :
    exec (.checkpoint p idx none none) s = .next (s.checkpoint p idx) := if_neg (State.not_pointIdle hkind hlive)

/-- R263: an estimate that fails retires an engine that serves the point; another engine's is no estimate of it. -/
theorem exec_checkpoint_estimate (idx n : Nat) (hkind : (s.pcfg p).commodity ≠ 0) (hlive : s.firnLive (s.pcfg p).die = true) :
    exec (.checkpoint p idx (some n) none) s = .next (if (s.engLive n && s.cfg.pointEngines.contains (n, p)) = true then s.retire n 4
      else s.checkpoint p idx) := if_neg (State.not_pointIdle hkind hlive)

/-- R277: a shadow that differs fails its probation. -/
theorem exec_checkpoint_shadow (idx n : Nat) (hkind : (s.pcfg p).commodity ≠ 0) (hlive : s.firnLive (s.pcfg p).die = true) :
    exec (.checkpoint p idx none (some n)) s = .next ((if (s.engLive n && decide (s.engState n = eProbation)
      && decide (engDie n = 1 + (s.pcfg p).die.num)) = true then s.probationFailed n else s).checkpoint p idx) :=
  if_neg (State.not_pointIdle hkind hlive)

end

/-! ### Requests of the legal channel and POINT_READ -/

/-- A command that serves a request answers what its own meaning answers, once the channel of a live die holds such a request. -/
theorem State.request_runs {s u : State} {c : Chan} {typ : Nat} {d : Firn} {k : Firn → List Byte → Nat → State → State} {x : Instr}
    (hexec : exec x s = .next (s.takeReq c typ k)) (h : s.takes c typ d = true)
    (hk : k d (s.reqBytes c) (s.chan c).seq (s.clearDb c 1) = u) : exec x s = .next u := by
  rw [hexec, s.takeReq_takes k h, hk]

section
variable {s : State} {c : Chan} {d : Firn}

theorem exec_mdReset_absent (h : s.takes c 0x0207 d = true) (hzero : zeroOutside (s.reqBytes c) [(0, 5)] = true)
    (hown : (s.clearDb c 1).ownsPoint d (field (s.reqBytes c) 4 2) = false) :
    exec (.mdReset c) s = .next ((s.clearDb c 1).replyReq c (s.chan c).seq 0x0207 stAbsent []) :=
  State.request_runs rfl h ((if_neg (by simp [hzero])).trans (if_pos (by rw [hown]; rfl)))

/-- R353: a reset moves each maximum to the previous one, records itself and posts its event. -/
theorem exec_mdReset_resets {p n : Nat} (h : s.takes c 0x0207 d = true) (hzero : zeroOutside (s.reqBytes c) [(0, 5)] = true)
    (hp : field (s.reqBytes c) 4 2 = p) (hn : ((s.clearDb c 1).reg .MP_MD_RESETS p).toNat + 1 = n)
    (hown : (s.clearDb c 1).ownsPoint d p = true) (hroom : (s.clearDb c 1).morRefuses d 8 = false) :
    ∃ u v : State, exec (.mdReset c) s = .next (v.replyReq c (s.chan c).seq 0x0207 stDone []) ∧
      v = (u.moraine d 0x03 p ([5, 0, 0, 0] ++ leBytes 4 n)).postPt p { code := 0x224, sev := 0, obj := p, data := n % 65536 } ∧
      (u.mp p).dm.rates =
        ((s.clearDb c 1).mp p).dm.rates.map fun x => (x.1, { x.2 with prev := x.2.max, max := 0, time := 0 }) := by
  subst hp hn
  refine ⟨_, _, State.request_runs rfl h ((if_neg (by simp [hzero])).trans ((if_neg (by rw [hown]; decide)).trans
    (if_neg (by rw [hroom]; decide)))), rfl, ?_⟩
  simp only [State.mp_setReg, State.mp_setMp]

theorem exec_energyMeasure_begins (first : Nat) (h : s.takes c 0x0205 d = true)
    (hzero : zeroOutside (s.reqBytes c) [(0, 5), (8, 11)] = true) (hlo : 10 ≤ field (s.reqBytes c) 8 4)
    (hhi : field (s.reqBytes c) 8 4 ≤ 100000) (hown : (s.clearDb c 1).ownsPoint d (field (s.reqBytes c) 4 2) = true)
    (hstate : (s.clearDb c 1).mpState (field (s.reqBytes c) 4 2) ≠ mpOos) :
    exec (.energyMeasure c first) s = .next (((s.clearDb c 1).setMp (field (s.reqBytes c) 4 2)
      { (s.clearDb c 1).mp (field (s.reqBytes c) 4 2) with meas := some { n := field (s.reqBytes c) 8 4, first := first } }).replyReq
        c (s.chan c).seq 0x0205 stDone ([0, 0] ++ leBytes 8 first)) :=
  State.request_runs rfl h ((if_neg (by simp [hzero, hlo, hhi])).trans ((if_neg (by rw [hown]; decide)).trans (if_neg hstate)))

theorem exec_energyResult_outOfService (h : s.takes c 0x0206 d = true) (hzero : zeroOutside (s.reqBytes c) [(0, 5)] = true)
    (hown : (s.clearDb c 1).ownsPoint d (field (s.reqBytes c) 4 2) = true)
    (hstate : (s.clearDb c 1).mpState (field (s.reqBytes c) 4 2) = mpOos) :
    exec (.energyResult c) s = .next ((s.clearDb c 1).replyReq c (s.chan c).seq 0x0206 stCapacity []) :=
  State.request_runs rfl h ((if_neg (by simp [hzero])).trans ((if_neg (by rw [hown]; decide)).trans (if_pos hstate)))

/-- R364: before a cycle has ended, the result of a measurement holds its counts and no energies. -/
theorem exec_energyResult_empty {x : EnMeas} (h : s.takes c 0x0206 d = true) (hzero : zeroOutside (s.reqBytes c) [(0, 5)] = true)
    (hown : (s.clearDb c 1).ownsPoint d (field (s.reqBytes c) 4 2) = true)
    (hstate : (s.clearDb c 1).mpState (field (s.reqBytes c) 4 2) ≠ mpOos)
    (hmeas : ((s.clearDb c 1).mp (field (s.reqBytes c) 4 2)).meas = some x) (hsums : x.sums = []) :
    exec (.energyResult c) s = .next ((s.clearDb c 1).replyReq c (s.chan c).seq 0x0206 stDone
      ([BitVec.ofNat 8 (b2n (decide (x.n ≤ x.done))), 0] ++ leBytes 4 x.done ++ leBytes 4 x.first
        ++ List.replicate 24 0 ++ List.replicate 24 0 ++ List.replicate 24 0)) := by
  refine State.request_runs rfl h ((if_neg (by simp [hzero])).trans ((if_neg (by rw [hown]; decide)).trans ((if_neg hstate).trans ?_)))
  simp only [hmeas, hsums, Option.getD_some, tabFind]

end

section
variable {s : State} {d : Desc}

theorem exec_pointRead_absent (h : s.accepts 0x13 d = true) (hsec : (s.taken d).section_ d.target.toNat (DescF.par d 0 1) = none) :
    exec (.pointRead d) s = .next ((s.taken d).fin ((s.taken d).ticket d) stCapacity 1) :=
  State.accepted_runs rfl h (by simp only [hsec])

theorem exec_pointRead_writes {b : List Byte} (h : s.accepts 0x13 d = true)
    (hsec : (s.taken d).section_ d.target.toNat (DescF.par d 0 1) = some b) :
    exec (.pointRead d) s = .next (((s.taken d).writeBuf d b).fin ((s.taken d).ticket d) stDone b.length) :=
  State.accepted_runs rfl h (by simp only [hsec])

end

/-- Settles O29: each clause is the branch above that its hypotheses select. -/
theorem meteringCommands : Obligations.MeteringCommands := by
  refine ⟨fun s p idx hd hl hf hm hflow => ?freezes, fun s p idx hd hl hf hm hflow => ?notes,
    fun s p idx hd hl hf hm hno => ?opens, fun s p idx hd hl hf => exec_freezeLineEdge_verifies idx (State.edgeSeen hd hl hf (.inl rfl)),
    fun s p idx r h => exec_freezeLineEdge_unseen idx (State.edgeUnseen_of_down r h),
    fun s p idx hd hl hf haux => exec_freezeLineEdge_falls idx (State.edgeSeen hd hl hf (.inr haux)),
    fun s p idx haux => exec_freezeLineEdge_unseen idx (State.edgeUnseen_of_undetermined haux),
    fun s p t => exec_cycleEnd_crossing t, fun s p => exec_cycleEnd_block,
    fun s p t => ⟨State.crossing_first t, State.crossing_early, State.crossing_ends⟩, fun s p x => exec_cycleEnd_idle x,
    fun s p b => exec_dcBlockEnd_accumulates b, fun s p b => exec_dcBlockEnd_idle b, fun s p => exec_fixedBlockEntry_leaves,
    fun s p => State.leaveCrossing_first, fun s p h => State.leaveCrossing_ends h rfl, fun s p => exec_fixedBlockEntry_idle,
    fun s p t r x hkind hlive hnew hr hx => ?subinterval, fun s p t => exec_demandSubintervalEnd_idle,
    fun s c d => exec_mdReset_absent, fun s c d h hzero => exec_mdReset_resets h hzero rfl rfl,
    fun s p => exec_harmonicWindowEnd_idle, fun s p => exec_harmonicWindowEnd_keeps,
    fun s c d first => exec_energyMeasure_begins first, fun s c d => exec_energyResult_outOfService,
    fun s c d x => exec_energyResult_empty, fun s p idx => exec_checkpoint_kept idx, fun s p idx => rfl,
    fun s p idx n hkind hlive heng hserves => ?retires, fun s p idx n hkind hlive hother => ?keeps,
    fun s p idx n hkind hlive heng hprob hdie => ?shadow, fun s p idx e h => exec_checkpoint_idle idx e h,
    fun s d b => exec_pointRead_writes, fun s d => exec_pointRead_absent⟩
  case freezes =>
    rw [exec_freezeLineEdge_rises idx (State.edgeSeen hd hl hf (.inl rfl)) (.inl (State.ne_oos_of_metering hm))]
    exact (if_neg (not_not.2 hm)).trans (if_neg (Bool.eq_false_iff.1 hflow))
  case notes =>
    rw [exec_freezeLineEdge_rises idx (State.edgeSeen hd hl hf (.inl rfl)) (.inl (State.ne_oos_of_metering hm))]
    exact (if_neg (not_not.2 hm)).trans (if_pos hflow)
  case opens =>
    rw [exec_freezeLineEdge_rises idx (State.edgeSeen hd hl hf (.inl rfl)) hno]
    exact if_pos hm
  case subinterval =>
    subst hr hx
    obtain ⟨u, hu, hdm⟩ := exec_demandSubintervalEnd_ends hkind hlive hnew
    refine ⟨u, hu, ?_⟩
    simp only [hdm, DemandSt.after, tabGet_tabSet_same, latest_after, max_after, time_after,
      and_self]
  case retires =>
    rw [exec_checkpoint_estimate idx n hkind hlive, heng, hserves]
    rfl
  case keeps =>
    rw [exec_checkpoint_estimate idx n hkind hlive, if_neg]
    rcases hother with h | h <;> simp only [h, Bool.false_and, Bool.and_false, Bool.false_eq_true, not_false_eq_true]
  case shadow =>
    rw [exec_checkpoint_shadow idx n hkind hlive, if_pos]
    simp [heng, hprob, hdie]

end Sys2Proof.Machine
end

section
/-!
PROOFS. Clocks and operating points (R72 to R80): a PWR_DVFS write, the failures of the clock sources and their relock.
-/
namespace Sys2Proof.Machine

/-! ### Fields, flags and bits -/

/-- No cause is given exactly where the first condition does not hold and the rest of the list gives none. -/
theorem ite_some_eq_none_iff {α : Type} {c : Prop} [Decidable c] {a : α} {r : Option α} :
    (if c then some a else r) = none ↔ ¬ c ∧ r = none := by split <;> simp [*]

theorem State.flag_of_get {s t : State} {f : Fld} {i : Nat} (h : t.get f i = s.get f i) : t.flag f i = s.flag f i := by
  rw [State.flag, h, State.flag]

/-- Setting one bit of a number sets that bit. -/
theorem bitAt_putBits_one (n k : Nat) : bitAt (putBits n k 1 1) k = true := by
  have h : putBits n k 1 1 / 2 ^ k % 2 ^ 1 = 1 % 2 ^ 1 := bitsAt_putBits_same n k 1 1
  simpa [bitAt] using h

/-- Cutting a number to its low bits leaves the bits below the cut. -/
theorem bitAt_mod_two_pow (n : Nat) {k w : Nat} (h : k < w) : bitAt (n % 2 ^ w) k = bitAt n k := by
  obtain ⟨j, rfl⟩ := Nat.exists_eq_add_of_lt h
  have hw : 2 ^ (k + j + 1) = 2 ^ k * (2 * 2 ^ j) := by ring
  rw [bitAt, bitAt, hw, Nat.mod_mul_right_div_self, Nat.mod_mul_right_mod]

/-! ### The operating point (R75 to R80) -/

/-- R78: no cause forbids a write exactly when every condition of the table is met. -/
theorem dvfsCause_eq_none_iff (run vok : Bool) (floor v f v' f' : Nat) : dvfsCause run vok floor v f v' f' = none ↔
    run = true ∧ v' ≠ 3 ∧ f' ≠ 3 ∧ (v' = v ∨ f' = f) ∧ (f' < f → v ≤ f') ∧ (v < v' → v' ≤ f) ∧ (f' < f → vok = true)
      ∧ (f' ≠ f → f' ≤ floor) := by
  simp only [dvfsCause, ite_some_eq_none_iff]
  simp
  tauto

section
variable {s : State} {w : W32}

theorem exec_pwrDvfsWrite_unchanged (hv : bitsAt w.toNat 0 2 = s.get Fld.PWR_DVFS__VSEL 0)
    (hf : bitsAt w.toNat 4 2 = s.get Fld.PWR_DVFS__FSEL 0) : exec (.pwrDvfsWrite w) s = .next s :=
  if_pos (by simp [hv, hf])

/-- The cause that R78 gives a write, from the operating point in force. -/
def State.dvfsCauseOf (s : State) (w : W32) : Option Nat :=
  dvfsCause (s.pwr ≤ 1) (s.flag Fld.PWR_DVFS__VOK 0) (s.get Fld.PWR_DVFS__FLOOR 0) (s.get Fld.PWR_DVFS__VSEL 0)
    (s.get Fld.PWR_DVFS__FSEL 0) (bitsAt w.toNat 0 2) (bitsAt w.toNat 4 2)

variable (hnew : ¬(bitsAt w.toNat 0 2 = s.get Fld.PWR_DVFS__VSEL 0 ∧ bitsAt w.toNat 4 2 = s.get Fld.PWR_DVFS__FSEL 0))
include hnew

/-- R76: a refused write sets ERR, records its cause and leaves the operating point. -/
theorem exec_pwrDvfsWrite_refused {c : Nat} (hcause : s.dvfsCauseOf w = some c) (hc : c < 16) :
    ∃ t, exec (.pwrDvfsWrite w) s = .next t ∧ t.get Fld.PWR_DVFS_ERR__ERR 0 = 1 ∧ t.get Fld.PWR_DVFS_ERR__CAUSE 0 = c
      ∧ t.reg .PWR_DVFS 0 = s.reg .PWR_DVFS 0 := by
  rw [State.dvfsCauseOf] at hcause
  refine ⟨_, (if_neg (by simpa using hnew)).trans (by rw [hcause]), ?_⟩
  simp (disch := decide) only [State.bump, State.get_put_apart, State.get_put_same, State.reg_put_ne]
  exact ⟨rfl, Nat.mod_eq_of_lt hc, trivial⟩

/-- R76: a write that no cause forbids puts both codes into force, and VOK falls with a change of the voltage code. -/
theorem exec_pwrDvfsWrite_accepted (hcause : s.dvfsCauseOf w = none) :
    ∃ t, exec (.pwrDvfsWrite w) s = .next t ∧ t.get Fld.PWR_DVFS__VSEL 0 = bitsAt w.toNat 0 2
      ∧ t.get Fld.PWR_DVFS__FSEL 0 = bitsAt w.toNat 4 2
      ∧ (bitsAt w.toNat 0 2 ≠ s.get Fld.PWR_DVFS__VSEL 0 → t.get Fld.PWR_DVFS__VOK 0 = 0)
      ∧ t.reg .PWR_DVFS_ERR 0 = s.reg .PWR_DVFS_ERR 0 := by
  rw [State.dvfsCauseOf] at hcause
  have hvsel : bitsAt w.toNat 0 2 % 2 ^ Fld.PWR_DVFS__VSEL.width = bitsAt w.toNat 0 2 := Nat.mod_eq_of_lt (bitsAt_lt _ _ _)
  have hfsel : bitsAt w.toNat 4 2 % 2 ^ Fld.PWR_DVFS__FSEL.width = bitsAt w.toNat 4 2 := Nat.mod_eq_of_lt (bitsAt_lt _ _ _)
  refine ⟨_, (if_neg (by simpa using hnew)).trans (by rw [hcause]), ?_⟩
  split <;> simp (disch := decide) only [State.get_put_apart, State.get_put_same, State.reg_put_ne, hvsel, hfsel, true_and, and_true]
  case isTrue => exact fun _ => rfl
  case isFalse hsame => exact fun h => absurd h hsame

end

/-- Settles O1: the three answers of a PWR_DVFS write, and the conditions that R78 puts on one without a cause. -/
theorem dvfsWrites : Obligations.DvfsWrites := by
  refine ⟨fun s w => exec_pwrDvfsWrite_unchanged, fun s w c h => exec_pwrDvfsWrite_refused h,
    fun s w h => exec_pwrDvfsWrite_accepted h, dvfsCause_eq_none_iff, ?legal⟩
  case legal =>
    intro run vok floor v f w g hnone hlegal
    obtain ⟨-, -, -, hone, hlower, hraise, -, -⟩ := (dvfsCause_eq_none_iff run vok floor v f w g).1 hnone
    omega

/-! ### Clock failures (R72, R73, R131) -/

/-- A clock failure sets its sticky bit. -/
theorem State.clockFault_get_same (s : State) {f : Fld} (sev : Nat) (hw : f.lo + f.width ≤ 32) (hone : 1 % 2 ^ f.width = 1)
    (hr : plainReg f.reg = true) : (s.clockFault f sev).get f 0 = 1 := by
  rw [State.clockFault, State.postBoth_get _ _ _ hr, s.get_put_same _ _ hw, hone]

/-- A clock failure leaves every other field of a plain register as it was. -/
theorem State.clockFault_get_apart (s : State) {f g : Fld} (i sev : Nat) (hw : f.lo + f.width ≤ 32)
    (h : f.reg ≠ g.reg ∨ f.lo + f.width ≤ g.lo ∨ g.lo + g.width ≤ f.lo) (hr : plainReg g.reg = true) :
    (s.clockFault f sev).get g i = s.get g i := by
  rw [State.clockFault, State.postBoth_get _ _ _ hr, s.get_put_apart _ _ _ hw h]

@[simp] theorem State.stopDie_get (s : State) (d : Die) (f : Fld) (i : Nat) : (s.stopDie d).get f i = s.get f i := by
  rw [State.stopDie]; split <;> simp

@[simp] theorem State.stopDie_dieRuns (s : State) (d : Die) : (s.stopDie d).dieRuns d = false := by
  rw [State.stopDie]
  split <;> simp_all [State.dieRuns, State.setBoot]

/-- What the loss of the SerDes PLL does to one Ethernet port (R73). -/
def State.ethDown (s : State) (p : Nat) : State :=
  if s.flag Fld.ETH_STATUS__LINK p then
    (s.put Fld.ETH_STATUS__LINK p 0).postBoth { code := 0x009, sev := 1, obj := p, data := 0 }
  else s

/-- A port that the SerDes PLL has lost shows no link. -/
theorem State.ethDown_get_same (s : State) (p : Nat) : (s.ethDown p).get Fld.ETH_STATUS__LINK p = 0 := by
  rw [State.ethDown]
  split
  case isTrue => simp (disch := decide) [State.postBoth_get, State.get_put_same]
  case isFalse h => simpa [State.flag] using h

theorem State.ethDown_get_idx (s : State) {p q : Nat} (h : p ≠ q) :
    (s.ethDown p).get Fld.ETH_STATUS__LINK q = s.get Fld.ETH_STATUS__LINK q := by
  rw [State.ethDown]
  split
  case isTrue => rw [State.postBoth_get _ _ _ (by decide), State.get_put_idx _ _ h]
  case isFalse => rfl

theorem State.ethDown_get_ne (s : State) (p : Nat) {f : Fld} (i : Nat) (h : .ETH_STATUS ≠ f.reg) (hr : plainReg f.reg = true) :
    (s.ethDown p).get f i = s.get f i := by
  rw [State.ethDown]
  split
  case isTrue => rw [State.postBoth_get _ _ _ hr, State.get_put_apart _ _ _ _ (by decide) (.inl h)]
  case isFalse => rfl

/-- A captured crossing failure that is no DOMAIN_OFF shows TIMEOUT (R131). -/
theorem State.crossingFailed_timeout (s : State) (init xid addr : Nat) :
    (s.crossingFailed init xid addr false).get Fld.FAB_XERR__TIMEOUT 0 = 1 := by
  simp only [State.crossingFailed, Bool.false_eq_true, if_false]
  split <;> simp (disch := decide) only [State.postBoth_get, State.get_setReg_ne, State.get_put_apart, State.get_put_same] <;> rfl

section
variable (s : State)

theorem exec_corePllUnlock : ∃ t, exec .corePllUnlock s = .next t ∧ t.get Fld.CLK_ERR__CORE_UNLOCK 0 = 1
    ∧ t.get Fld.CLK_STATUS__CORE_PLL_LOCK 0 = 0 ∧ t.dieRuns .cdie = false := by
  refine ⟨_, rfl, ?_, ?_, State.stopDie_dieRuns _ _⟩
  · rw [State.stopDie_get, State.clockFault_get_same _ _ (by decide) rfl rfl]
  · rw [State.stopDie_get, State.clockFault_get_apart _ _ _ (by decide) (by decide) rfl, s.get_put_same _ _ (by decide)]
    rfl

theorem exec_memPllUnlock : ∃ t, exec .memPllUnlock s = .next t ∧ t.get Fld.CLK_ERR__MEM_UNLOCK 0 = 1
    ∧ t.get Fld.CLK_STATUS__MEM_PLL_LOCK 0 = 0 ∧ t.power.memStall = true := by
  refine ⟨_, rfl, ?_, ?_, rfl⟩
  · rw [State.setPower_get, State.clockFault_get_same _ _ (by decide) rfl rfl]
  · rw [State.setPower_get, State.clockFault_get_apart _ _ _ (by decide) (by decide) rfl, s.get_put_same _ _ (by decide)]
    rfl

theorem exec_serdesPllUnlock_eq : exec .serdesPllUnlock s =
    .next ((((s.put Fld.CLK_STATUS__SERDES_PLL_LOCK 0 0).clockFault Fld.CLK_ERR__SERDES_UNLOCK 2).ethDown 0).ethDown 1) := rfl

theorem exec_serdesPllUnlock : ∃ t, exec .serdesPllUnlock s = .next t ∧ t.get Fld.CLK_ERR__SERDES_UNLOCK 0 = 1
    ∧ t.get Fld.CLK_STATUS__SERDES_PLL_LOCK 0 = 0 ∧ t.get Fld.ETH_STATUS__LINK 0 = 0 ∧ t.get Fld.ETH_STATUS__LINK 1 = 0 := by
  refine ⟨_, exec_serdesPllUnlock_eq s, ?_, ?_, ?_, State.ethDown_get_same _ 1⟩
  · simp (disch := decide) only [State.ethDown_get_ne, State.clockFault_get_same]
  · simp (disch := decide) only [State.ethDown_get_ne, State.clockFault_get_apart, State.get_put_same]
    rfl
  · rw [State.ethDown_get_idx _ (by decide), State.ethDown_get_same]

theorem exec_aonOscFail : ∃ t, exec .aonOscFail s = .next t ∧ t.get Fld.CLK_ERR__AON_OSC_FAIL 0 = 1
    ∧ t.get Fld.CLK_STATUS__AON_OSC_OK 0 = 0 := by
  refine ⟨_, rfl, State.clockFault_get_same _ _ (by decide) rfl rfl, ?_⟩
  rw [State.clockFault_get_apart _ _ _ (by decide) (by decide) rfl, State.get_put_same _ _ _ (by decide)]
  rfl

/-- R131: a withdrawn access leaves TIMEOUT; a host's read of it is answered with ones. -/
theorem exec_crossingTimeout (init xid addr : Nat) (rd : Bool) (hawake : s.pwr ≠ 2) :
    ∃ t, exec (.crossingTimeout init xid addr rd) s = .next t ∧ t.get Fld.FAB_XERR__TIMEOUT 0 = 1
      ∧ (rd = true ∧ init ≤ 1 → t.out.getLast? = some (.readValue 0xFFFFFFFF)) := by
  refine ⟨_, if_neg hawake, ?_, ?_⟩
  · split <;> simp only [State.emit_get, State.crossingFailed_timeout]
  · rintro ⟨rfl, hhost⟩
    simp [hhost, State.emit]

/-- R73, R512: the memory answers again, and what has stalled runs, unless a park under way keeps it waiting. -/
theorem exec_memPllRelock_ok : exec (.memPllRelock true) s =
    .next (let u := (s.put Fld.CLK_STATUS__MEM_PLL_LOCK 0 1).setPower { s.power with memStall := false, memOff := false, memFails := 0 }
      if s.ledger.parking = true then u else u.memBack) := rfl

theorem exec_memPllRelock_parking (hpark : s.ledger.parking = true) : ∃ t, exec (.memPllRelock true) s = .next t
    ∧ t.get Fld.CLK_STATUS__MEM_PLL_LOCK 0 = 1 ∧ t.power.memStall = false ∧ t.power.memOff = false := by
  refine ⟨_, (exec_memPllRelock_ok s).trans (congrArg _ (if_pos hpark)), ?_, rfl, rfl⟩
  rw [State.setPower_get, s.get_put_same _ _ (by decide)]
  rfl

end

/-- Settles O3: each failure sets its own bit of CLK_ERR and clears the bit of CLK_STATUS that it takes, and no later part of it
writes either again. -/
theorem clockFailures : Obligations.ClockFailures :=
  ⟨exec_corePllUnlock, exec_memPllUnlock, exec_serdesPllUnlock, exec_aonOscFail, exec_crossingTimeout, exec_memPllRelock_parking⟩

/-! ### Relock (R73) and the end of an operating-point change (R80) -/

/-- Where firmware is raising no operating point, it writes none (R79). -/
theorem State.raiseStep_none {s : State} (h : s.power.raiseTo = none) : s.raiseStep = s := by rw [State.raiseStep, h]

section
variable {s : State}

theorem exec_vokSet_idle (h : s.power.raiseTo = none) : exec .vokSet s = .next (s.put Fld.PWR_DVFS__VOK 0 1) :=
  congrArg _ (State.raiseStep_none (s := s.put Fld.PWR_DVFS__VOK 0 1) h)

theorem exec_firnPllRelock_absent (h : s.variant.hasF1 = false) : exec (.firnPllRelock .f1) s = .next s :=
  if_pos (by simp [h])

theorem exec_firnPllRelock_f1 (h : s.variant.hasF1 = true) :
    exec (.firnPllRelock .f1) s = .next ((s.put Fld.CLK_STATUS__F1_PLL_LOCK 0 1).haltLift .f1 1) :=
  if_neg (by simp [h])

theorem exec_corePllRelock (h : s.isDown = false) : exec .corePllRelock s =
    .next ((((s.setPower { s.power with refLost := false }).put Fld.CLK_STATUS__CORE_PLL_LOCK 0 1).put
      Fld.CLK_STATUS__REFCLK_OK 0 1).cdieReset 5) :=
  if_neg (by simp [h])

/-- R73: the first two failed relocks are counted, and nothing more. -/
theorem exec_memPllRelock_counts (h : s.power.memFails < 2) : exec (.memPllRelock false) s =
    .next (s.setPower { s.power with memFails := s.power.memFails + 1 }) := by
  have hfew : ¬ 3 ≤ s.power.memFails + 1 := by omega
  refine congrArg _ ((if_neg hfew).trans ?_)
  simp only [hfew, decide_false, Bool.or_false]

/-- R73: from the third failed relock on the memory counts as off. -/
theorem exec_memPllRelock_givesUp (h : 2 ≤ s.power.memFails) : exec (.memPllRelock false) s =
    .next (s.setPower { s.power with memFails := s.power.memFails + 1, memOff := true }).memLost := by
  have hmany : 3 ≤ s.power.memFails + 1 := by omega
  refine congrArg _ ((if_pos hmany).trans ?_)
  simp only [hmany, decide_true, Bool.or_true]

end

/-- Settles O6: each clause is the branch above that its hypotheses select, or the model's own composition of it. -/
theorem clockRelock : Obligations.ClockRelock :=
  ⟨fun _ => exec_vokSet_idle, fun _ => rfl, fun _ => rfl, fun _ => rfl, fun _ => rfl, fun _ => exec_firnPllRelock_absent,
    fun _ => exec_firnPllRelock_f1, fun _ => exec_corePllRelock, fun _ => exec_memPllRelock_counts,
    fun _ => exec_memPllRelock_givesUp, exec_memPllRelock_ok⟩

end Sys2Proof.Machine
end

section
/-!
PROOFS. The wake port (R93, R95, R100 to R102) and the power states (R82 to R88, R512).
-/
namespace Sys2Proof.Machine

/-! ### Wake sources, the wake port and Kyoti's preamble -/

/-- A wake source shows in PWR_WAKE_SRC (R93). -/
theorem State.wakeSource_shows (s : State) {n : Nat} (h : n < 14) :
    bitAt ((s.wakeSource n).get Fld.PWR_WAKE_SRC__SRC 0) n = true := by
  rw [State.wakeSource, s.get_put_same _ _ (by decide), bitAt_mod_two_pow _ (w := Fld.PWR_WAKE_SRC__SRC.width) h, bitAt_putBits_one]

section
variable {s : State}

theorem exec_wakePolWrite (v : W32) : ∃ t, exec (.wakePolWrite v) s = .next t
    ∧ t.reg .PWR_WAKE_EN 0 = (v &&& 0x800007FF) ||| 0x3800 ∧ t.power.polLatch = bitAt v.toNat 31 := by
  refine ⟨_, rfl, ?_, rfl⟩
  rw [State.setPower_reg, State.reg_setReg_same]

theorem exec_aonAlarm (hset : ¬(s.reg .PWR_ALARM_LO 0 = 0 ∧ s.reg .PWR_ALARM_HI 0 = 0)) (hon : s.power.entered ≠ 5) :
    exec .aonAlarm s = .next (s.wakeSource 2) :=
  congrArg _ (if_neg (by simpa [hon] using hset))

/-- What the matcher adds to an address match that it takes (R100). -/
def State.matcherHit (s : State) (read : Bool) : State :=
  if (s.wakeSource 1).get Fld.WP_STATUS__COUNT 0 = 0 && !read then (s.wakeSource 1).put Fld.WP_STATUS__TRUNC 0 0 else s.wakeSource 1

theorem State.matcherHit_power (s : State) (read : Bool) : (s.matcherHit read).power = s.power := by
  rw [State.matcherHit]; split <;> rfl

theorem State.matcherHit_shows (s : State) (read : Bool) : bitAt ((s.matcherHit read).get Fld.PWR_WAKE_SRC__SRC 0) 1 = true := by
  rw [State.matcherHit]
  split
  · rw [State.get_put_apart _ _ _ _ (by decide) (by decide), State.wakeSource_shows _ (by decide)]
  · exact State.wakeSource_shows _ (by decide)

/-- R100: an address match at an enabled, powered port puts a frame in progress; where the matcher acts it is wake source 1. -/
theorem exec_wakePortAddressMatch (rd : Bool) (hon : s.power.entered ≠ 5) (hen : s.flag Fld.WP_CFG__EN 0 = true) :
    ∃ t, exec (.wakePortAddressMatch rd) s = .next t ∧ t.power.wpFrame = true ∧ t.power.wpRead = (if rd then some 0 else none)
      ∧ (s.wpMatches = true → bitAt (t.get Fld.PWR_WAKE_SRC__SRC 0) 1 = true) := by
  have hserved : ¬(s.isOff || !s.flag Fld.WP_CFG__EN 0) = true := by simp [State.isOff, hon, hen]
  cases hm : s.wpMatches
  case false =>
    refine ⟨_, (if_neg hserved).trans (congrArg _ (if_neg (by simp [hm]))), rfl, rfl, Bool.noConfusion⟩
  case true =>
    refine ⟨State.matcherHit _ rd, (if_neg hserved).trans (congrArg _ (if_pos hm)), ?_, ?_, fun _ => State.matcherHit_shows _ _⟩ <;>
      rw [State.matcherHit_power] <;> rfl

section
variable (hframe : s.power.wpFrame = true)
include hframe

/-- R100: a data byte of a write frame that the matcher takes fills the next byte of the wake buffer. -/
theorem exec_wakePortDataByte_buffers (b : Byte) (hwrite : s.power.wpRead = none) (hmatch : s.wpMatches = true)
    (hnew : s.power.wpOld = false) (hroom : s.get Fld.WP_STATUS__COUNT 0 < 32) :
    ∃ t, exec (.wakePortDataByte b) s = .next t
      ∧ t.get Fld.WP_STATUS__COUNT 0 = s.get Fld.WP_STATUS__COUNT 0 + 1 ∧ t.get Fld.WP_STATUS__VALID 0 = 1 := by
  have hcut : (s.get Fld.WP_STATUS__COUNT 0 + 1) % 2 ^ Fld.WP_STATUS__COUNT.width = s.get Fld.WP_STATUS__COUNT 0 + 1 :=
    Nat.mod_eq_of_lt (show _ < 64 by omega)
  have hfits : ¬(decide (32 ≤ s.get Fld.WP_STATUS__COUNT 0) || s.power.wpOld) = true := by simp [hnew, hroom]
  refine ⟨_, (if_neg (by simp [hframe])).trans (by rw [hwrite]; exact (if_neg (by simp [hmatch])).trans (if_neg hfits)), ?_⟩
  simp (disch := decide) only [State.get_put_apart, State.get_put_same, hcut, true_and]
  rfl

theorem exec_wakePortDataByte_queues (b : Byte) (hwrite : s.power.wpRead = none) (hrun : s.wpMatches = false) :
    exec (.wakePortDataByte b) s = .next (s.setPower { s.power with wpFifo := s.power.wpFifo ++ [b] }) :=
  (if_neg (by simp [hframe])).trans (by rw [hwrite]; exact if_pos (by simp [hrun]))

/-- R100: the matcher answers a read with the power state, then with 0xFF. -/
theorem exec_wakePortDataByte_answers (b : Byte) {n : Nat} (hread : s.power.wpRead = some n) (hmatch : s.wpMatches = true) :
    exec (.wakePortDataByte b) s = .next ((s.setPower { s.power with wpRead := some (n + 1) }).emit
      (.wakePort (if n = 0 then BitVec.ofNat 8 s.pwr else 255))) :=
  (if_neg (by simp [hframe])).trans (by rw [hread]; exact congrArg _ (if_pos hmatch))

end

theorem exec_wakeBufferRelease : ∃ t, exec .wakeBufferRelease s = .next t ∧ t.get Fld.WP_STATUS__COUNT 0 = 0
    ∧ t.get Fld.WP_STATUS__VALID 0 = 0 ∧ t.power.wpOld = false := by
  refine ⟨_, rfl, ?_⟩
  simp (disch := decide) only [State.setPower_get, State.get_put_apart, State.get_put_same]
  exact ⟨rfl, rfl, rfl⟩

end

/-- Settles O2: each clause is the branch above that its hypotheses select. -/
theorem wakePort : Obligations.WakePort :=
  ⟨fun _ v => exec_wakePolWrite v, fun _ => exec_aonAlarm, fun _ rd => exec_wakePortAddressMatch rd,
    fun _ b hframe => exec_wakePortDataByte_buffers hframe b, fun _ b hframe => exec_wakePortDataByte_queues hframe b,
    fun _ b _ hframe => exec_wakePortDataByte_answers hframe b, fun _ => exec_wakeBufferRelease, fun _ => rfl⟩

/-! ### Idle and Sleep (R82 to R87) -/

section
variable {s : State}

/-- R82: a quiet cluster takes its bit of CLUSTER_IDLE. -/
theorem exec_clusterIdleEntry_gates {k : Nat} (hk : k < 16) (hquiet : s.clusterQuiet k = true) (hrun : s.pwr ≤ 1)
    (hdie : s.dieRuns .cdie = true) : ∃ t, exec (.clusterIdleEntry k) s = .next t
      ∧ bitAt (t.get Fld.PWR_STATE__CLUSTER_IDLE 0) k = true := by
  refine ⟨_, if_neg (by simp [hquiet, hdie]; omega), ?_⟩
  rw [State.get_put_apart _ _ _ _ (by decide) (by decide), State.get_put_same _ _ _ (by decide), 
    bitAt_mod_two_pow _ (w := Fld.PWR_STATE__CLUSTER_IDLE.width) hk, bitAt_putBits_one]

theorem exec_clusterIdleEntry_idle (k : Nat) (h : s.clusterQuiet k = false ∨ 1 < s.pwr) :
    exec (.clusterIdleEntry k) s = .next s := if_pos (by rcases h with h | h <;> simp [h])

/-- Going to L1 touches the port's link state alone. -/
theorem State.sleepLink_get (s : State) (p : Port) {f : Fld} (i : Nat) (h : .HOST_STATUS ≠ f.reg) :
    (s.sleepLink p).get f i = s.get f i := by
  rw [State.sleepLink]
  split
  · exact State.get_put_apart _ _ _ _ (by decide) (.inl h)
  · rfl

/-- The commit point writes no register but PWR_STATE. -/
theorem State.passCommit_get (s : State) (st : Nat) {f : Fld} (i : Nat) (h : .PWR_STATE ≠ f.reg) :
    (s.passCommit st).get f i = s.get f i := by
  rw [State.passCommit, State.get_put_apart _ _ _ _ (by decide) (.inl h)]
  rfl

/-- R84: Sleep with its operating point, 0.60 V and 162.72 MHz, the earlier one saved, and the PCIe links in L1. -/
def State.sleepPoint (s : State) : State :=
  ((((s.passCommit 2).setPower { (s.passCommit 2).power with
    savedFsel := s.get Fld.PWR_DVFS__FSEL 0, savedVsel := s.get Fld.PWR_DVFS__VSEL 0, fselNow := 2 }).put
      Fld.PWR_DVFS__FSEL 0 2).put Fld.PWR_DVFS__VSEL 0 2).put Fld.PWR_DVFS__VOK 0 1 |>.sleepLink .h0 |>.sleepLink .h1

/-- The entry to Sleep leaves every register but PWR_STATE, PWR_DVFS and HOST_STATUS. -/
theorem State.sleepPoint_flag (s : State) {f : Fld} (i : Nat) (hpwr : .PWR_STATE ≠ f.reg) (hdvfs : .PWR_DVFS ≠ f.reg)
    (hhost : .HOST_STATUS ≠ f.reg) : s.sleepPoint.flag f i = s.flag f i := by
  apply State.flag_of_get
  rw [State.sleepPoint, State.sleepLink_get _ _ _ hhost, State.sleepLink_get _ _ _ hhost,
    State.get_put_apart _ _ _ _ (by decide) (.inl hdvfs), State.get_put_apart _ _ _ _ (by decide) (.inl hdvfs),
    State.get_put_apart _ _ _ _ (by decide) (.inl hdvfs), State.setPower_get, State.passCommit_get _ _ _ hpwr]

/-- R84, R86: beyond the operating point and the links, Sleep silences the units that PWR_IDLE_CFG does not keep awake. -/
theorem execSleepEntry_sleeps {dma : Bool} (hready : s.sleepReady dma = true) : execSleepEntry dma s =
    .next (let u := if s.sleepPoint.flag Fld.PWR_IDLE_CFG__SLEEP_FIRN 0 then s.sleepPoint else (s.sleepPoint.firnSleep .f0).firnSleep .f1
      let u := if u.flag Fld.PWR_IDLE_CFG__SLEEP_KYOTI 0 then u else u.kySilent
      if u.flag Fld.PWR_IDLE_CFG__SLEEP_READER 0 then u else u.readerSilent) := by
  have hf : (s.passCommit 2).get Fld.PWR_DVFS__FSEL 0 = s.get Fld.PWR_DVFS__FSEL 0 := State.passCommit_get _ _ _ (by decide)
  have hv : (s.passCommit 2).get Fld.PWR_DVFS__VSEL 0 = s.get Fld.PWR_DVFS__VSEL 0 := State.passCommit_get _ _ _ (by decide)
  rw [execSleepEntry, if_neg (by simp [hready]), State.sleepPoint, ← hf, ← hv]

theorem exec_sleepEntry_allAwake {dma : Bool} (hready : s.sleepReady dma = true)
    (hfirn : s.flag Fld.PWR_IDLE_CFG__SLEEP_FIRN 0 = true) (hky : s.flag Fld.PWR_IDLE_CFG__SLEEP_KYOTI 0 = true)
    (hreader : s.flag Fld.PWR_IDLE_CFG__SLEEP_READER 0 = true) : exec (.sleepEntry dma) s = .next s.sleepPoint := by
  refine (execSleepEntry_sleeps hready).trans ?_
  simp (disch := decide) only [State.sleepPoint_flag, hfirn, hky, hreader, if_true]

theorem exec_sleepEntry_idle {dma : Bool} (h : s.sleepReady dma = false) : exec (.sleepEntry dma) s = .next s :=
  if_pos (by simp [h])

end

/-! ### Deep sleep and Off (R88, R512) -/

/-- Both requests run one operation; a parked one for Off and one for Deep sleep differ in what they ask for alone. -/
theorem exec_pwrReq (s : State) (off : Bool) :
    exec (if off then .pwrReqOff true else .pwrReqDeepSleep) s = .next (s.powerRequest off true) := by cases off <;> rfl

section
variable {s : State} {off parked : Bool}

/-- In any other state than Run or Idle a request has no effect. -/
theorem State.powerRequest_ignored (h : 1 < s.pwr) : s.powerRequest off parked = s := if_pos h

section
variable (hrun : s.pwr ≤ 1)
include hrun

theorem State.powerRequest_refused {c : Nat} (hcause : s.dropRequest.reqRefusal off = some c) :
    s.powerRequest off parked = s.dropRequest.reqStatus 3 c :=
  (if_neg (Nat.not_lt.2 hrun)).trans (by simp only [hcause])

variable (hnone : s.dropRequest.reqRefusal off = none)
include hnone

theorem State.powerRequest_deferred (hbusy : s.dropRequest.frameBusy = true) : s.powerRequest off parked =
    (s.dropRequest.setPower { s.dropRequest.power with deferred := if off then 2 else 1 }).reqStatus 1 4 :=
  (if_neg (Nat.not_lt.2 hrun)).trans (by simp only [hnone]; exact if_pos hbusy)

/-- A request for Off waits, with the ledger's park under way. -/
theorem State.powerRequest_parks (hfree : s.dropRequest.frameBusy = false) (hpark : (off && !parked) = true) :
    s.powerRequest off parked = (s.dropRequest.setLedger { s.dropRequest.ledger with parking := true }).reqStatus 1 7 :=
  (if_neg (Nat.not_lt.2 hrun)).trans (by simp only [hnone]; exact (if_neg (by simp [hfree])).trans (if_pos hpark))

theorem State.powerRequest_granted (hfree : s.dropRequest.frameBusy = false) (hready : (off && !parked) = false) :
    s.powerRequest off parked = s.dropRequest.grantRequest off :=
  (if_neg (Nat.not_lt.2 hrun)).trans (by simp only [hnone]; exact (if_neg (by simp [hfree])).trans (if_neg (by simp [hready])))

end

/-- PWR_REQ_STATUS shows what it is given, and the power state stays. -/
theorem State.reqStatus_shows (s : State) {r c : Nat} (hr : r < 16) (hc : c < 16) :
    (s.reqStatus r c).get Fld.PWR_REQ_STATUS__RESULT 0 = r ∧ (s.reqStatus r c).get Fld.PWR_REQ_STATUS__CAUSE 0 = c
      ∧ (s.reqStatus r c).pwr = s.pwr := by
  simp (disch := decide) only [State.reqStatus, State.pwr, State.get_put_apart, State.get_put_same]
  exact ⟨Nat.mod_eq_of_lt hr, Nat.mod_eq_of_lt hc, trivial⟩

theorem exec_frameBusyTimeout (s : State) : exec .frameBusyTimeout s = .next (if s.power.deferred ≠ 0 ∧ s.frameBusy = true
    then (s.setPower { s.power with deferred := 0 }).reqStatus 3 4 else s) := by
  by_cases h : s.power.deferred ≠ 0 ∧ s.frameBusy = true
  · rw [if_pos h]
    exact congrArg _ (if_neg (by simpa using h))
  · rw [if_neg h]
    exact congrArg _ (if_pos (by simpa [or_iff_not_imp_left] using h))

end

/-- Settles O4: each clause is the branch of the entry or of the request that its hypotheses select. -/
theorem powerStateEntry : Obligations.PowerStateEntry := by
  refine ⟨fun s k => exec_clusterIdleEntry_gates, fun s dma => exec_sleepEntry_allAwake, fun s dma => exec_sleepEntry_idle,
    fun s k => exec_clusterIdleEntry_idle k, fun s c off hrun hcause => ?refused, fun s off hrun hnone hbusy => ?deferred,
    fun s hrun hnone hfree => congrArg _ (State.powerRequest_granted hrun hnone hfree rfl),
    fun s hrun hnone hfree => congrArg _ (State.powerRequest_granted hrun hnone hfree rfl),
    fun s hrun hnone hfree => congrArg _ (State.powerRequest_parks hrun hnone hfree rfl),
    fun s parked h => ⟨congrArg _ (State.powerRequest_ignored h), congrArg _ (State.powerRequest_ignored h)⟩,
    fun s r c => s.reqStatus_shows, fun s => rfl, exec_frameBusyTimeout, fun s => rfl⟩
  case refused => rw [exec_pwrReq, State.powerRequest_refused hrun hcause]
  case deferred => rw [exec_pwrReq, State.powerRequest_deferred hrun hnone hbusy]

end Sys2Proof.Machine
end

section
/-!
PROOFS. The ledger: tariffs, ledger descriptors, records and the replay of a quarantined slot (R73, R114, R447, R494 to R512).
-/
namespace Sys2Proof.Machine

/-! ### Tariffs (R494, R495) -/

section
variable {s : State} {d : Desc}

theorem exec_tariffLoad_bad {b : List Byte} (h : s.accepts 0x38 d = true) (hbad : tariffOk (b.take (DescF.bufLen d)) = false) :
    exec (.tariffLoad d (.data b)) s = .next ((s.taken d).fin ((s.taken d).ticket d) stBad 8) :=
  State.accepted_runs rfl h (if_pos (by simp [hbad]))

/-- R495: a well-formed table is kept pending, cut to its components. -/
theorem exec_tariffLoad_keeps {b : List Byte} (h : s.accepts 0x38 d = true) (hok : tariffOk (b.take (DescF.bufLen d)) = true) :
    exec (.tariffLoad d (.data b)) s = .next ((((s.taken d).setLedger { (s.taken d).ledger with
      pend := tabSet (s.taken d).ledger.pend d.target.toNat
        ((b.take (DescF.bufLen d)).take (64 + 32 * tfComponents (b.take (DescF.bufLen d)))) }).tariffMirror d.target.toNat).fin
          ((s.taken d).ticket d) stDone) :=
  State.accepted_runs rfl h (if_neg (by simp [hok]))

theorem exec_tariffActivate_absent (h : s.accepts 0x39 d = true) (hnone : tabFind (s.taken d).ledger.pend d.target.toNat = none) :
    exec (.tariffActivate d) s = .next ((s.taken d).fin ((s.taken d).ticket d) stCapacity 1) :=
  State.accepted_runs rfl h (if_pos (by simp [hnone]))

theorem exec_tariffActivate_waits {b : List Byte} (h : s.accepts 0x39 d = true)
    (hpend : tabFind (s.taken d).ledger.pend d.target.toNat = some b) :
    exec (.tariffActivate d) s = .next ((s.taken d).setLedger { (s.taken d).ledger with
      acts := (s.taken d).ledger.acts ++ [((s.taken d).ticket d, d.target.toNat)] }) :=
  State.accepted_runs rfl h (if_neg (by simp [hpend]))

end

/-! ### Ledger descriptors (R499, R508, R509) -/

section
variable {s : State} {t : Ticket} {d : Desc} {b : List Byte} {fs : List TagFail}

/-- While the memory PLL relocks or the ledger is being parked, a ledger descriptor waits (R73, R512). -/
theorem State.ledgerDesc_waits {op : Nat} (k : State → State) (h : s.power.memStall = true ∨ s.ledger.parking = true) :
    s.ledgerDesc op t d b k =
      (s.setLedger { s.ledger with stalled := s.ledger.stalled ++ [(op, t, d, b)] }).ledgerMirror :=
  if_pos (by simpa using h)

theorem State.ledgerDesc_runs {op : Nat} (k : State → State) (hmem : s.power.memStall = false) (hpark : s.ledger.parking = false) :
    s.ledgerDesc op t d b k = k s := if_neg (by simp [hmem, hpark])

/-- The same of a descriptor whose data have been read. -/
theorem State.withRead_ledgerDesc_waits {op : Nat} (k : List Byte → State → State)
    (h : s.power.memStall = true ∨ s.ledger.parking = true) :
    (s.withRead t d (.data b) fun b s => s.ledgerDesc op t d b (k b)) =
      (s.setLedger { s.ledger with stalled := s.ledger.stalled ++ [(op, t, d, b)] }).ledgerMirror :=
  (s.withRead_data t d b _).trans (State.ledgerDesc_waits _ h)

theorem State.withRead_ledgerDesc_runs {op : Nat} (k : List Byte → State → State) (hmem : s.power.memStall = false)
    (hpark : s.ledger.parking = false) : (s.withRead t d (.data b) fun b s => s.ledgerDesc op t d b (k b)) = k b s :=
  (s.withRead_data t d b _).trans (State.ledgerDesc_runs _ hmem hpark)

theorem State.ledgerRead_short (h : DescF.bufLen d < 256) : s.ledgerRead t d fs = s.fin t stBad 16 := if_pos h

/-- R509: a read that finds its slot failing ends with the slot's number. -/
theorem State.ledgerRead_fails {u : State} (hbuf : 256 ≤ DescF.bufLen d) (h : s.readSlot fs d.target.toNat = (u, none)) :
    s.ledgerRead t d fs = u.fin t stIntegrity d.target.toNat := by
  simp only [State.ledgerRead, Nat.not_lt.2 hbuf, if_false, h]

theorem State.ledgerRead_gives {u : State} (hbuf : 256 ≤ DescF.bufLen d) (h : s.readSlot fs d.target.toNat = (u, some b)) :
    s.ledgerRead t d fs = (u.writeBuf d b).fin t stDone (field b 40 8) := by
  simp only [State.ledgerRead, Nat.not_lt.2 hbuf, if_false, h]

theorem State.ledgerPost_badLayout (h : postParts b (DescF.bufLen d) = none) : s.ledgerPost t d b fs = s.fin t stBad 8 := by
  unfold State.ledgerPost
  split
  · rfl
  next hsome => rw [h] at hsome; cases hsome

/-- R509: a credential that the index does not hold, while the index can be read. -/
theorem State.ledgerLookup_unknown (hbuf : 256 ≤ DescF.bufLen d) (hindex : fs.contains .index = false)
    (halive : (s.ledger.dead && s.ledger.revived.isEmpty) = false)
    (hnone : s.ledger.index.find? (fun x => x.1 == field b 0 8) = none) : s.ledgerLookup t d b fs = s.fin t stCapacity 1 := by
  simp only [State.ledgerLookup, Nat.not_lt.2 hbuf, hindex, halive, hnone, Bool.false_eq_true, if_false]

end

/-! ### Records (R114, R447, R501) -/

/-- Firmware holds every earlier record that the die has not seen acknowledged. -/
def State.inOrder (s : State) (d : Firn) (seq : Nat) : Bool :=
  ((s.firn d).records.filter fun r => !r.acked && decide (r.seq < seq)).all fun r => (s.ledger.record d r.seq).isSome

theorem State.inOrder_iff (s : State) (d : Firn) (seq : Nat) : s.inOrder d seq = true ↔
    ∀ x ∈ (s.firn d).records, x.acked = false → x.seq < seq → (s.ledger.record d x.seq).isSome = true := by
  simp only [State.inOrder, List.all_eq_true, List.mem_filter, Bool.and_eq_true, Bool.not_eq_true', decide_eq_true_eq, and_imp]

/-- No record of this number is taken: the path to the ledger is closed, or an earlier record has yet to come (R73, R114, R512). -/
def State.recordStopped (s : State) (d : Firn) (seq : Nat) : Bool :=
  !s.dieRuns .cdie || !s.linkUp d.link || s.get Fld.LEDGER_STATUS__STATE 0 ≠ 1 || !s.inOrder d seq || s.power.memStall
    || s.ledger.parking

/-- The die's record of this number that waits for its acknowledgement. -/
def State.sentRecord (s : State) (d : Firn) (seq : Nat) : Option Rec :=
  (s.firn d).records.find? (fun r => r.seq == seq && !r.acked)

/-- The acknowledgement of a record is under way to its die. -/
def State.ackSent (s : State) (d : Firn) (seq : Nat) : State :=
  s.setLedger { s.ledger with acks := (d, seq) :: s.ledger.acks.filter (· != (d, seq)) }

/-- The entry of the journal that holds a record (R501). -/
def recordEntry (d : Firn) (r : Rec) : JEntry := { kind := 4, state := 7, bytes := signed d r.bytes, die := d, point := r.point }

theorem State.journalAdd_full {s : State} (e : JEntry) (h : freePos s.ledger s.ledger.jpos 16384 = none) :
    s.journalAdd e = (s, none) := by rw [State.journalAdd, h]

/-- An entry stands at the first free position. -/
theorem State.journalAdd_free {s : State} {pos : Nat} (e : JEntry) (h : freePos s.ledger s.ledger.jpos 16384 = some pos) :
    ∃ u, s.journalAdd e = (u, some pos) := ⟨_, by rw [State.journalAdd, h]⟩

section
variable {s : State} {d : Firn} {seq : Nat}

theorem State.recordStopped_of_late {x : Rec} (hmem : x ∈ (s.firn d).records) (hack : x.acked = false) (hseq : x.seq < seq)
    (hnone : s.ledger.record d x.seq = none) : s.recordStopped d seq = true := by
  have hout : s.inOrder d seq = false := Bool.eq_false_iff.2 fun h => by
    simpa [hnone] using (s.inOrder_iff d seq).1 h x hmem hack hseq
  simp only [State.recordStopped, hout, Bool.not_false, Bool.or_true, Bool.true_or]

section
variable (fs : List TagFail)

theorem exec_recordArrival_stopped (h : s.recordStopped d seq = true) : exec (.recordArrival d seq fs) s = .next s := if_pos h

theorem exec_recordArrival_unsent (h : s.sentRecord d seq = none) : exec (.recordArrival d seq fs) s = .next s := by
  rw [State.sentRecord] at h
  change execRecordArrival d seq fs s = _
  simp only [execRecordArrival, h, ite_self]

/-- R502: a record that no journal position is left for waits. -/
theorem exec_recordArrival_full (hnew : s.ledger.record d seq = none)
    (hfull : 1024 ≤ unsettled s.ledger ∨ freePos s.ledger s.ledger.jpos 16384 = none) :
    exec (.recordArrival d seq fs) s = .next s := by
  change execRecordArrival d seq fs s = _
  simp only [execRecordArrival, hnew]
  split
  · rfl
  · split
    · rfl
    · rcases hfull with hmany | hpinned
      · rw [if_pos hmany]
      · simp only [State.journalAdd_full _ hpinned, ite_self]

section
variable {r : Rec} (hrun : s.dieRuns .cdie = true) (hlink : s.linkUp d.link = true) (hopen : s.get Fld.LEDGER_STATUS__STATE 0 = 1)
  (horder : ∀ x ∈ (s.firn d).records, x.acked = false → x.seq < seq → (s.ledger.record d x.seq).isSome = true)
  (hmem : s.power.memStall = false) (hpark : s.ledger.parking = false)
include hrun hlink hopen horder hmem hpark

theorem State.recordStopped_not : ¬ s.recordStopped d seq = true := by
  simp [State.recordStopped, hrun, hlink, hopen, (s.inOrder_iff d seq).2 horder, hmem, hpark]

variable (hsent : s.sentRecord d seq = some r)
include hsent

/-- R447: a record that is journalled already is acknowledged again, and nothing else. -/
theorem exec_recordArrival_known {x : Nat × JEntry} (hknown : s.ledger.record d seq = some x) :
    exec (.recordArrival d seq fs) s = .next (s.ackSent d seq) := by
  rw [State.sentRecord] at hsent
  refine (if_neg (State.recordStopped_not hrun hlink hopen horder hmem hpark)).trans ?_
  simp only [hsent, hknown, State.ackSent]

/-- R447, R501: a new record is journalled, acknowledged, priced and posted. -/
theorem exec_recordArrival_new {u : State} {pos : Nat} (hnew : s.ledger.record d seq = none) (hroom : unsettled s.ledger < 1024)
    (hadd : s.journalAdd (recordEntry d r) = (u, some pos)) : exec (.recordArrival d seq fs) s =
      .next (((u.ackSent d seq).settleRecord fs pos (recordEntry d r)).ledgerMirror) := by
  rw [State.sentRecord] at hsent
  rw [recordEntry] at hadd
  refine (if_neg (State.recordStopped_not hrun hlink hopen horder hmem hpark)).trans ?_
  simp only [hsent, hnew, Nat.not_le.2 hroom, if_false, hadd, State.ackSent, recordEntry]

end
end

/-- R447: an acknowledgement reaches a live die over its link. -/
theorem exec_recordAcknowledge_reaches (hlive : s.firnLive d = true) (hlink : s.linkUp d.link = true)
    (hack : s.ledger.acks.contains (d, seq) = true) : exec (.recordAcknowledge d seq) s =
      .next ((s.setLedger { s.ledger with acks := s.ledger.acks.filter (· != (d, seq)) }).acknowledge d seq) :=
  if_neg (by simp only [hlive, hlink, hack]; decide)

theorem exec_recordAcknowledge_lost
    (h : s.firnLive d = false ∨ s.linkUp d.link = false ∨ s.ledger.acks.contains (d, seq) = false) :
    exec (.recordAcknowledge d seq) s = .next s :=
  if_pos (by rcases h with h | h | h <;> simp only [h, Bool.not_false, Bool.true_or, Bool.or_true])

end

/-! ### Replay (R506) -/

/-- The poisoned lines of a slot, each with the image that the journal gives of it. -/
def State.replayImgs (s : State) (n : Nat) : List (Nat × Option (Nat × List Byte)) :=
  ([0, 1, 2, 3].filter fun k => s.ledger.poison.contains (slotLine n k)).map
    fun k => (k, replayImage s.ledger.newest (slotLine n k))

/-- Every line has an image, at a journal position that verifies. -/
def imgsVerify (bad : List Nat) (imgs : List (Nat × Option (Nat × List Byte))) : Bool :=
  imgs.all fun x => match x.2 with | some (p, _) => !bad.contains p | none => false

/-- The journal positions among the images that do not verify. -/
def imgsBad (bad : List Nat) (imgs : List (Nat × Option (Nat × List Byte))) : List Nat :=
  imgs.filterMap fun x => match x.2 with | some (p, _) => if bad.contains p then some p else none | none => none

/-- The lines are written from their images. -/
def State.replayLines (s : State) (n : Nat) (imgs : List (Nat × Option (Nat × List Byte))) : State :=
  imgs.foldl (fun s x => match x.2 with | some (_, b) => s.writeLine [] n x.1 b | none => s) s

/-- A slot leaves quarantine. -/
def State.slotRebuilt (s : State) (n : Nat) : State :=
  (s.setLedger { s.ledger with
    quar := s.ledger.quar.filter (· != n), poison := s.ledger.poison.filter (fun x => x / 4 != n) }).ledgerMirror.slotEvent 0x802 0 n 0

section
variable {s : State} {n : Nat}

theorem exec_slotReplay_sound (bad : List Nat) (h : s.ledger.quar.contains n = false) : exec (.slotReplay n bad) s = .next s :=
  if_pos (by rw [h]; rfl)

/-- R506: the positions that fail are reported; the slot is rebuilt where every poisoned line has a good image, else it is lost. -/
theorem exec_slotReplay (bad : List Nat) (h : s.ledger.quar.contains n = true) : exec (.slotReplay n bad) s =
    .next (if imgsVerify bad (s.replayImgs n) = true
      then (((imgsBad bad (s.replayImgs n)).foldl (fun s p => s.failOther (.journal p)) s).replayLines n (s.replayImgs n)).slotRebuilt n
      else ((imgsBad bad (s.replayImgs n)).foldl (fun s p => s.failOther (.journal p)) s).ledgerMirror.slotEvent 0x803 2 n 0) :=
  (if_neg (by rw [h]; decide)).trans (apply_ite Host.Outcome.next _ _ _).symm

/-- An empty journal holds no entry. -/
theorem LedgerSt.newest_empty {l : LedgerSt} (h : l.journal = []) : l.newest = [] := by
  simp [LedgerSt.newest, h, tabFind]

theorem exec_slotReplay_noImage (h : s.ledger.quar.contains n = true)
    (hlines : [0, 1, 2, 3].filter (fun k => s.ledger.poison.contains (slotLine n k)) = [0]) (hjournal : s.ledger.journal = []) :
    exec (.slotReplay n []) s = .next (s.ledgerMirror.slotEvent 0x803 2 n 0) := by
  have himgs : s.replayImgs n = [(0, none)] := by
    rw [State.replayImgs, hlines, LedgerSt.newest_empty hjournal]
    rfl
  rw [exec_slotReplay [] h, himgs]
  rfl

theorem exec_slotReplay_noPoison (h : s.ledger.quar.contains n = true)
    (hlines : [0, 1, 2, 3].filter (fun k => s.ledger.poison.contains (slotLine n k)) = []) :
    exec (.slotReplay n []) s = .next (s.slotRebuilt n) := by
  have himgs : s.replayImgs n = [] := by rw [State.replayImgs, hlines]; rfl
  rw [exec_slotReplay [] h, himgs]
  rfl

end

/-- Settles O34: each clause is the branch above that its hypotheses select. -/
theorem ledgerCommands : Obligations.LedgerCommands := by
  refine ⟨fun s d b => exec_tariffLoad_bad, fun s d b => exec_tariffLoad_keeps, fun s d => exec_tariffActivate_absent,
    fun s d b => exec_tariffActivate_waits,
    fun s d fs h hmem hpark => State.accepted_runs rfl h (State.ledgerDesc_runs _ hmem hpark),
    fun s d fs h hwait => State.accepted_runs rfl h (State.ledgerDesc_waits _ hwait),
    fun s d b fs h hwait => State.accepted_runs rfl h (State.withRead_ledgerDesc_waits _ hwait),
    fun s d b full h hwait => State.accepted_runs rfl h (State.withRead_ledgerDesc_waits _ hwait),
    fun s d b fs h hwait => State.accepted_runs rfl h (State.withRead_ledgerDesc_waits _ hwait),
    fun s t d fs => State.ledgerRead_short, fun s u t d fs o hbuf h => ?reads,
    fun s d b fs h hmem hpark => State.accepted_runs rfl h (State.withRead_ledgerDesc_runs _ hmem hpark),
    fun s t d b fs => State.ledgerPost_badLayout,
    fun s d b full h hmem hpark => State.accepted_runs rfl h (State.withRead_ledgerDesc_runs _ hmem hpark),
    fun s d b fs h hmem hpark => State.accepted_runs rfl h (State.withRead_ledgerDesc_runs _ hmem hpark),
    fun s t d b fs => State.ledgerLookup_unknown,
    fun s d seq fs r x hrun hlink hopen horder hmem hpark hsent =>
      exec_recordArrival_known fs hrun hlink hopen horder hmem hpark hsent,
    fun s d seq pos fs r hrun hlink hopen horder hmem hpark hsent hnew hroom hpos => ?journals,
    fun s d seq fs h => ?waits, fun s d seq fs => exec_recordArrival_full fs, fun s d seq => exec_recordAcknowledge_lost,
    fun s d seq => exec_recordAcknowledge_reaches, fun s n bad => exec_slotReplay_sound bad,
    fun s u v n bad imgs h himgs hu hv => ?replays, fun s n => exec_slotReplay_noImage, fun s n => exec_slotReplay_noPoison⟩
  case reads =>
    cases o
    case none => exact State.ledgerRead_fails hbuf h
    case some b => exact State.ledgerRead_gives hbuf h
  case journals =>
    obtain ⟨u, hadd⟩ := State.journalAdd_free (recordEntry d r) hpos
    exact ⟨u, _, rfl, hadd.symm, exec_recordArrival_new fs hrun hlink hopen horder hmem hpark hsent hnew hroom hadd⟩
  case waits =>
    rcases h with h | h | h | h | h | h | ⟨x, hx, hack, hseq, hnone⟩
    iterate 5 exact exec_recordArrival_stopped fs (by simp [State.recordStopped, h])
    · exact exec_recordArrival_unsent fs h
    · exact exec_recordArrival_stopped fs (State.recordStopped_of_late hx hack hseq hnone)
  case replays =>
    subst himgs hu hv
    exact exec_slotReplay bad h

end Sys2Proof.Machine
end

section
/-!
PROOFS. Firmware update and configuration: staging, activation, the handover, the trial and CONFIG_LOAD (R722 to R731, R735, R736).
-/
namespace Sys2Proof.Machine

/-! ### IMAGE_STAGE (R722) -/

/-- The run of bytes `c` does not fit where the staging stands, or does not end where it says it does. -/
def State.stageMisfit (s : State) (d : Desc) (c : List Byte) : Bool :=
  decide (DescF.par d 0 4 % 4096 ≠ 0) || (decide (DescF.par d 0 4 ≠ 0) && decide (DescF.par d 0 4 ≠ (s.upd.stage.map (·.2)).getD 0))
    || decide (DescF.par d 4 4 < DescF.par d 0 4 + c.length)
    || (bitAt (DescF.par d 8 1) 0 && decide (DescF.par d 4 4 ≠ DescF.par d 0 4 + c.length))

section
variable {s : State} {d : Desc}

theorem exec_imageStage_reserved (rd : DmaRead) (x y z : Bool) (h : s.accepts 0x68 d = true) (hflags : 2 ≤ DescF.par d 8 1) :
    exec (.imageStage d rd x y z) s = .next ((s.taken d).fin ((s.taken d).ticket d) stBad 32) :=
  State.accepted_runs rfl h (if_pos hflags)

theorem exec_imageStage_onTrial (rd : DmaRead) (x y z : Bool) (h : s.accepts 0x68 d = true) (hflags : DescF.par d 8 1 < 2)
    (htrial : (s.taken d).onTrial = true) :
    exec (.imageStage d rd x y z) s = .next ((s.taken d).fin ((s.taken d).ticket d) stCapacity 1) :=
  State.accepted_runs rfl h ((if_neg (Nat.not_le.2 hflags)).trans (if_pos htrial))

theorem exec_imageStage_handover (rd : DmaRead) (x y z : Bool) (h : s.accepts 0x68 d = true) (hflags : DescF.par d 8 1 < 2)
    (htrial : (s.taken d).onTrial = false) (hphase : (s.taken d).upd.phase ≠ 0) :
    exec (.imageStage d rd x y z) s = .next ((s.taken d).fin ((s.taken d).ticket d) stCapacity 2) :=
  State.accepted_runs rfl h ((if_neg (Nat.not_le.2 hflags)).trans ((if_neg (Bool.eq_false_iff.1 htrial)).trans (if_pos hphase)))

theorem exec_imageStage_otherPort (rd : DmaRead) (x y z : Bool) (h : s.accepts 0x68 d = true) (hflags : DescF.par d 8 1 < 2)
    (htrial : (s.taken d).onTrial = false) (hphase : (s.taken d).upd.phase = 0)
    (hport : (s.taken d).upd.stage.any (·.1 != d.port) = true) :
    exec (.imageStage d rd x y z) s = .next ((s.taken d).fin ((s.taken d).ticket d) stCapacity 3) :=
  State.accepted_runs rfl h ((if_neg (Nat.not_le.2 hflags)).trans ((if_neg (Bool.eq_false_iff.1 htrial)).trans
    ((if_neg (not_not.2 hphase)).trans (if_pos hport))))

section
variable {b : List Byte} (x y : Bool) (h : s.accepts 0x68 d = true) (hflags : DescF.par d 8 1 < 2)
  (htrial : (s.taken d).onTrial = false) (hphase : (s.taken d).upd.phase = 0)
  (hport : (s.taken d).upd.stage.any (·.1 != d.port) = false)
include hflags htrial hphase hport

/-- None of the four refusals that come before the run's data holds. -/
theorem State.stage_open {e1 e2 e3 e4 u : State} : (if 2 ≤ DescF.par d 8 1 then e1 else if (s.taken d).onTrial = true then e2
    else if (s.taken d).upd.phase ≠ 0 then e3 else if (s.taken d).upd.stage.any (·.1 != d.port) = true then e4 else u) = u := by
  rw [if_neg (Nat.not_le.2 hflags), if_neg (Bool.eq_false_iff.1 htrial), if_neg (not_not.2 hphase), if_neg (Bool.eq_false_iff.1 hport)]

include h

theorem exec_imageStage_misfit (z : Bool) (hfit : (s.taken d).stageMisfit d (b.take (DescF.bufLen d)) = true) :
    exec (.imageStage d (.data b) x y z) s =
      .next (((s.taken d).stageBreak.imgRefused stImage 6).fin ((s.taken d).ticket d) stImage 6) :=
  State.accepted_runs rfl h ((State.stage_open hflags htrial hphase hport).trans (if_pos hfit))

variable (hfit : (s.taken d).stageMisfit d (b.take (DescF.bufLen d)) = false)
include hfit

theorem exec_imageStage_flashFails : exec (.imageStage d (.data b) x y false) s =
    .next (((s.taken d).stageEnd.put Fld.UPD_ERR__FLASH 0 1).fin ((s.taken d).ticket d) stCapacity 8) :=
  State.accepted_runs rfl h ((State.stage_open hflags htrial hphase hport).trans
    ((if_neg (Bool.eq_false_iff.1 hfit)).trans (if_pos rfl)))

/-- A run that is not the last is written, and answers the bytes so far. -/
theorem exec_imageStage_part (hlast : bitAt (DescF.par d 8 1) 0 = false) : exec (.imageStage d (.data b) x y true) s =
    .next (((s.taken d).stageChunk d (b.take (DescF.bufLen d)) (DescF.par d 0 4) (DescF.par d 4 4)).fin ((s.taken d).ticket d) stDone
      (DescF.par d 0 4 + (b.take (DescF.bufLen d)).length)) :=
  State.accepted_runs rfl h ((State.stage_open hflags htrial hphase hport).trans
    ((if_neg (Bool.eq_false_iff.1 hfit)).trans ((if_neg (by decide)).trans (if_pos (by rw [hlast]; rfl)))))

variable {u : State} (hlast : bitAt (DescF.par d 8 1) 0 = true)
  (hu : u = (s.taken d).stageChunk d (b.take (DescF.bufLen d)) (DescF.par d 0 4) (DescF.par d 4 4))
include hlast hu

theorem exec_imageStage_lastRefused {st why : Nat} (hfail : u.imgFail (u.slotImg u.freeSlot) x y = some (st, why)) :
    exec (.imageStage d (.data b) x y true) s = .next ((u.stageEnd.imgRefused st why).fin ((s.taken d).ticket d) st why) := by
  subst hu
  exact State.accepted_runs rfl h ((State.stage_open hflags htrial hphase hport).trans
    ((if_neg (Bool.eq_false_iff.1 hfit)).trans ((if_neg (by decide)).trans ((if_neg (by rw [hlast]; decide)).trans (by rw [hfail])))))

theorem exec_imageStage_lastAccepted (hfail : u.imgFail (u.slotImg u.freeSlot) x y = none) :
    exec (.imageStage d (.data b) x y true) s = .next (u.stageAccept ((s.taken d).ticket d)
      (DescF.par d 0 4 + (b.take (DescF.bufLen d)).length) (u.slotImg u.freeSlot)) := by
  subst hu
  exact State.accepted_runs rfl h ((State.stage_open hflags htrial hphase hport).trans
    ((if_neg (Bool.eq_false_iff.1 hfit)).trans ((if_neg (by decide)).trans ((if_neg (by rw [hlast]; decide)).trans (by rw [hfail])))))

end
end

/-! ### IMAGE_ACTIVATE (R723, R727) -/

section
variable {s : State} {d : Desc}

section
variable {mode : Nat} {k : Ticket → State → State} {c : Instr} (hexec : exec c s = .next (s.activate d mode k))
  (h : s.accepts 0x69 d = true)
include hexec h

/-- Each MODE refuses a PARAM that does not fit, at its offset. -/
theorem State.activate_bad {j : Nat} (hbad : activateBad d mode = some j) :
    exec c s = .next ((s.taken d).fin ((s.taken d).ticket d) stBad j) :=
  State.accepted_runs hexec h (by rw [hbad])

theorem State.activate_runs {u : State} (hfits : activateBad d mode = none) (hk : k ((s.taken d).ticket d) (s.taken d) = u) :
    exec c s = .next u := State.accepted_runs hexec h (by rw [hfits]; exact hk)

end

theorem exec_hitless_refused {r : Nat} (h : s.accepts 0x69 d = true) (hfits : activateBad d 1 = none)
    (href : (s.taken d).activateRefusal true (bitAt (DescF.par d 1 1) 0) = some r) :
    exec (.hitless d) s = .next ((s.taken d).fin ((s.taken d).ticket d) stCapacity r) :=
  State.activate_runs rfl h hfits (by rw [href])

/-- R729: an accepted HITLESS prepares the handover. -/
theorem exec_hitless_begins {m : Mapping} {b : List Byte} (h : s.accepts 0x69 d = true) (hfits : activateBad d 1 = none)
    (href : (s.taken d).activateRefusal true (bitAt (DescF.par d 1 1) 0) = none) (hmap : (s.taken d).firmwareMap = some m)
    (himg : (s.taken d).stagedImg = some b) :
    exec (.hitless d) s = .next ((s.taken d).handoverBegin d ((s.taken d).ticket d) m b) :=
  State.activate_runs rfl h hfits (by rw [href, hmap, himg])

theorem exec_restart_refused {r : Nat} (h : s.accepts 0x69 d = true) (hfits : activateBad d 2 = none)
    (href : (s.taken d).activateRefusal false (bitAt (DescF.par d 1 1) 0) = some r) :
    exec (.restart d) s = .next ((s.taken d).fin ((s.taken d).ticket d) stCapacity r) :=
  State.activate_runs rfl h hfits (by rw [href])

/-- R723: an accepted RESTART tries the staged slot after a C-die reset. -/
theorem exec_restart_resets {k : Nat} {u : State} (h : s.accepts 0x69 d = true) (hfits : activateBad d 2 = none)
    (href : (s.taken d).activateRefusal false (bitAt (DescF.par d 1 1) 0) = none) (hslot : (s.taken d).slotWith roStaged = some k)
    (hu : u = ((s.taken d).setRole k roTrial).setRole (1 - k) roFallback) :
    exec (.restart d) s =
      .next ((u.setUpd { u.upd with bootTrial := true, window := activateWindow d, oldMap := [], news := 0 }).cdieReset 4) := by
  subst hu
  exact State.activate_runs rfl h hfits (by rw [href, hslot])

/-- What FIRN_INSTALL does at one die, with its part of the RESULT (R727). -/
def State.installOn (s : State) (d : Desc) (v : W32) (f : Firn) (ok : Bool) : State × Nat :=
  if !bitAt (DescF.par d 2 1) f.num then (s, 0xFFFF)
  else if f = .f1 && !s.variant.hasF1 then (s, stAbsent)
  else if (s.firnOff f).isSome || !s.firnLive f then (s, stDomainOff)
  else s.installLegal f v ok

/-- F0 is never absent. -/
theorem State.installOn_f0 (s : State) (d : Desc) (v : W32) (ok : Bool) : s.installOn d v .f0 ok =
    if !bitAt (DescF.par d 2 1) 0 then (s, 0xFFFF)
    else if (s.firnOff .f0).isSome || !s.firnLive .f0 then (s, stDomainOff) else s.installLegal .f0 v ok := rfl

theorem State.installOn_f1 (s : State) (d : Desc) (v : W32) (ok : Bool) : s.installOn d v .f1 ok =
    if !bitAt (DescF.par d 2 1) 1 then (s, 0xFFFF) else if !s.variant.hasF1 then (s, stAbsent)
    else if (s.firnOff .f1).isSome || !s.firnLive .f1 then (s, stDomainOff) else s.installLegal .f1 v ok := rfl

theorem exec_firnInstall_noSection (v : W32) (x y : Bool) (h : s.accepts 0x69 d = true) (hfits : activateBad d 3 = none)
    (hnone : ((s.taken d).stagedImg.bind fun b => sectionHash b 5) = none) :
    exec (.firnInstall d v x y) s = .next ((s.taken d).fin ((s.taken d).ticket d) stCapacity 5) :=
  State.activate_runs rfl h hfits (by rw [hnone])

theorem exec_firnInstall_busy (v : W32) (x y : Bool) {k : Nat} (h : s.accepts 0x69 d = true) (hfits : activateBad d 3 = none)
    (hsec : ((s.taken d).stagedImg.bind fun b => sectionHash b 5) = some k) (hbusy : (s.taken d).activateBusy = true) :
    exec (.firnInstall d v x y) s = .next ((s.taken d).fin ((s.taken d).ticket d) stCapacity 9) :=
  State.activate_runs rfl h hfits (by rw [hsec]; exact if_pos hbusy)

/-- R727: FIRN_INSTALL offers the section to F0, then to F1, and answers for both. -/
theorem exec_firnInstall_offers (v : W32) (x y : Bool) {k : Nat} {a b : State × Nat} (h : s.accepts 0x69 d = true)
    (hfits : activateBad d 3 = none) (hsec : ((s.taken d).stagedImg.bind fun b => sectionHash b 5) = some k)
    (hfree : (s.taken d).activateBusy = false) (ha : a = (s.taken d).installOn d v .f0 x) (hb : b = a.1.installOn d v .f1 y) :
    exec (.firnInstall d v x y) s = .next (b.1.fin ((s.taken d).ticket d) stDone (a.2 + b.2 * 65536)) := by
  subst hb ha
  exact State.activate_runs rfl h hfits (by rw [hsec]; exact if_neg (Bool.eq_false_iff.1 hfree))

/-! ### REVERT and the handover (R726, R729, R731) -/

theorem exec_revert_noTrial (h : s.accepts 0x69 d = true) (hfits : activateBad d 4 = none) (htrial : (s.taken d).onTrial = false) :
    exec (.revert d) s = .next ((s.taken d).fin ((s.taken d).ticket d) stCapacity 6) :=
  State.activate_runs rfl h hfits (if_pos (by rw [htrial]; rfl))

section
variable (h : s.accepts 0x69 d = true) (hfits : activateBad d 4 = none) (htrial : (s.taken d).onTrial = true)
include h hfits htrial

theorem exec_revert_underWay (hphase : (s.taken d).upd.phase ≠ 0) :
    exec (.revert d) s = .next ((s.taken d).fin ((s.taken d).ticket d) stDone) :=
  State.activate_runs rfl h hfits ((if_neg (by rw [htrial]; decide)).trans (if_pos hphase))

theorem exec_revert_busy (hphase : (s.taken d).upd.phase = 0) (hbusy : (s.taken d).activateBusy = true) :
    exec (.revert d) s = .next ((s.taken d).fin ((s.taken d).ticket d) stCapacity 9) :=
  State.activate_runs rfl h hfits ((if_neg (by rw [htrial]; decide)).trans ((if_neg (not_not.2 hphase)).trans (if_pos hbusy)))

theorem exec_revert_reverts (hphase : (s.taken d).upd.phase = 0) (hfree : (s.taken d).activateBusy = false) :
    exec (.revert d) s = .next ((s.taken d).revert 5 (some ((s.taken d).ticket d))) :=
  State.activate_runs rfl h hfits ((if_neg (by rw [htrial]; decide)).trans
    ((if_neg (not_not.2 hphase)).trans (if_neg (Bool.eq_false_iff.1 hfree))))

end

/-- R726: while the old image is resident, a revert is a reverse handover. -/
theorem State.revert_handover (cause : Nat) (t : Option Ticket) (h : s.upd.resident = true) :
    s.revert cause t = (s.setUpd { s.upd with phase := 1, rev := true, cause := cause, actT := t }).updMirror := if_pos h

theorem State.revert_restart {u : State} (cause : Nat) (t : Option Ticket) (h : s.upd.resident = false) (hu : u = s.revertSlots) :
    s.revert cause t = (u.setUpd { u.upd with news := cause, oldMap := [] }).cdieReset 4 := by
  subst hu
  exact if_neg (Bool.eq_false_iff.1 h)

theorem exec_handoverDone_early (us : Nat) (h : s.upd.phase ≠ 3 ∨ 2000 < us) : exec (.handoverDone us) s = .next s :=
  if_pos (by simpa using h)

/-- R729, R731: a handover in its pause ends within 2 ms, forward or back. -/
theorem exec_handoverDone_ends {us : Nat} (hphase : s.upd.phase = 3) (hlen : us ≤ 2000) :
    exec (.handoverDone us) s = .next (if s.upd.rev then s.handBack us else s.handOver us) :=
  (if_neg (by simp [hphase, hlen])).trans (apply_ite Host.Outcome.next _ _ _).symm

/-! ### The trial (R724 to R726) -/

theorem exec_healthConfirm_refused (h : s.accepts 0x6A d = true)
    (hno : (s.taken d).slotWith roTrial = none ∨ (s.taken d).onTrial = false ∨ (s.taken d).upd.phase ≠ 0) :
    exec (.healthConfirm d) s = .next ((s.taken d).fin ((s.taken d).ticket d) stCapacity 1) := by
  refine State.accepted_runs rfl h ?_
  cases hslot : (s.taken d).slotWith roTrial
  case none => rfl
  case some k =>
    rcases hno with hnone | htrial | hphase
    · rw [hnone] at hslot
      cases hslot
    · exact if_pos (by simp [htrial])
    · exact if_pos (by simp [hphase])

/-- R725: a confirmed trial keeps its image. -/
theorem exec_healthConfirm_confirms {k : Nat} (h : s.accepts 0x6A d = true) (hslot : (s.taken d).slotWith roTrial = some k)
    (htrial : (s.taken d).onTrial = true) (hphase : (s.taken d).upd.phase = 0) :
    exec (.healthConfirm d) s = .next ((((s.taken d).confirm k).fin ((s.taken d).ticket d) stDone).postBoth
      { code := 0xC05, sev := 0, data := imgSvn ((s.taken d).slotImg k) }) :=
  State.accepted_runs rfl h (by rw [hslot]; exact if_neg (by simp [htrial, hphase]))

theorem exec_trialExpiring_silent (h : (!s.onTrial || s.upd.warned) = true) : exec .trialExpiring s = .next s := if_pos h

/-- R724: the warning comes once. -/
theorem exec_trialExpiring_warns (htrial : s.onTrial = true) (hnew : s.upd.warned = false) : exec .trialExpiring s =
    .next ((s.setUpd { s.upd with warned := true }).postBoth { code := 0xC04, sev := 1, data := 5 }) :=
  if_neg (by rw [htrial, hnew]; decide)

theorem exec_trialWindowExpiry_idle (h : (!s.onTrial || decide (s.upd.phase ≠ 0)) = true) :
    exec .trialWindowExpiry s = .next s := if_pos h

section
variable (htrial : s.onTrial = true) (hphase : s.upd.phase = 0)
include htrial hphase

theorem exec_trialWindowExpiry_reverts (hdue : s.upd.cfgDue.isEmpty = true) : exec .trialWindowExpiry s = .next s.windowOver :=
  (if_neg (by simp [htrial, hphase])).trans (if_pos hdue)

/-- R726: a configuration under way comes before the revert. -/
theorem exec_trialWindowExpiry_waits (hdue : s.upd.cfgDue.isEmpty = false) :
    exec .trialWindowExpiry s = .next (s.setUpd { s.upd with trialOver := true }) :=
  (if_neg (by simp [htrial, hphase])).trans (if_neg (Bool.eq_false_iff.1 hdue))

end

/-! ### CONFIG_LOAD (R735, R736) -/

theorem exec_configLoad_waits (rd : DmaRead) (raw : List (Option ConfItem)) (x y : Bool) (hdue : s.upd.cfgDue.isEmpty = false) :
    exec (.configLoad d rd raw x y) s = .next s := if_pos (by rw [hdue]; rfl)

section
variable {b : List Byte} (raw : List (Option ConfItem)) (x y : Bool) (h : s.accepts 0x6B d = true)
  (hdue : s.upd.cfgDue.isEmpty = true)
include h hdue

theorem exec_configLoad_badHead {f : ConfFail} (hhead : (s.taken d).headFail (b.take (DescF.bufLen d)) x = some f) :
    exec (.configLoad d (.data b) raw x y) s = .next ((s.taken d).confRefused ((s.taken d).ticket d) f) :=
  State.accepted_runs (if_neg (by rw [hdue]; decide)) h ((State.withRead_data _ _ _ _ _).trans (by simp only [hhead]))

variable {u : State} (hhead : (s.taken d).headFail (b.take (DescF.bufLen d)) x = none)
include hhead

theorem exec_configLoad_badItem {f : ConfFail}
    (hitems : (s.taken d).itemChecks (((s.taken d).confHeads (b.take (DescF.bufLen d))).getD []) raw y = (u, .inr f)) :
    exec (.configLoad d (.data b) raw x y) s = .next (u.confRefused ((s.taken d).ticket d) f) :=
  State.accepted_runs (if_neg (by rw [hdue]; decide)) h ((State.withRead_data _ _ _ _ _).trans (by simp only [hhead, hitems]))

theorem exec_configLoad_accepts {c : Conf}
    (hitems : (s.taken d).itemChecks (((s.taken d).confHeads (b.take (DescF.bufLen d))).getD []) raw y = (u, .inl c)) :
    exec (.configLoad d (.data b) raw x y) s = .next (u.confAccept ((s.taken d).ticket d) (b.take (DescF.bufLen d)) c) :=
  State.accepted_runs (if_neg (by rw [hdue]; decide)) h ((State.withRead_data _ _ _ _ _).trans (by simp only [hhead, hitems]))

end

theorem exec_configTakesEffect_none (h : s.upd.cfgDue = []) : exec .configTakesEffect s = .next s := by
  change execConfigTakesEffect s = _
  rw [execConfigTakesEffect, h]

section
variable {t : Ticket} {c : Conf} {n : Nat} {r : List (Ticket × Conf × Nat)} (h : s.upd.cfgDue = (t, c, n) :: r)
include h

/-- R736: a configuration waits in a pause, without the C-die, and below the frequency that it needs. -/
theorem exec_configTakesEffect_waits
    (hstop : (s.inPause || !s.dieRuns .cdie || !s.pointMet (fselFloor c.tasks c.taskEngine)) = true) :
    exec .configTakesEffect s = .next s := by
  change execConfigTakesEffect s = _
  rw [execConfigTakesEffect, h]
  exact if_pos hstop

/-- R736, R737: it takes effect, and a window that has ended meanwhile reverts the trial. -/
theorem exec_configTakesEffect_applies {u : State} (hpause : s.inPause = false) (hrun : s.dieRuns .cdie = true)
    (hpoint : s.pointMet (fselFloor c.tasks c.taskEngine) = true)
    (hu : u = ((s.setUpd { s.upd with cfgDue := r }).applyConf c n).confDone t) :
    exec .configTakesEffect s = .next (if u.upd.trialOver && u.onTrial then u.windowOver else u) := by
  subst hu
  change execConfigTakesEffect s = _
  rw [execConfigTakesEffect, h]
  exact if_neg (by rw [hpause, hrun, hpoint]; decide)

end
end

/-- Settles O56: each clause is the branch above that its hypotheses select, or the model's own composition of it. -/
theorem updateCommands : Obligations.UpdateCommands := by
  refine ⟨fun s d rd x y z => exec_imageStage_reserved rd x y z, fun s d rd x y z => exec_imageStage_onTrial rd x y z,
    fun s d rd x y z => exec_imageStage_handover rd x y z, fun s d rd x y z => exec_imageStage_otherPort rd x y z,
    fun s d b x y z c h hflags htrial hphase hport hc hfit => ?misfit,
    fun s d b x y z c h hflags htrial hphase hport hc hfit hflash => ?flashFails,
    fun s d b x y z c h hflags htrial hphase hport hc hfit hflash hlast => ?part,
    fun s d b x y z c u h hflags htrial hphase hport hc hfit hflash hlast hu => ?last,
    fun s d k h => State.activate_bad rfl h, fun s d k h => State.activate_bad rfl h, fun s d k h => State.activate_bad rfl h,
    fun s d k v x y h => State.activate_bad rfl h, fun s d r => exec_hitless_refused, fun s d m b => exec_hitless_begins,
    fun s => rfl, fun s => rfl, fun s us => exec_handoverDone_early us, fun s us => exec_handoverDone_ends,
    fun s d r => exec_restart_refused, fun s d k u => exec_restart_resets, fun s d v x y => exec_firnInstall_noSection v x y,
    fun s d v x y k => exec_firnInstall_busy v x y, fun s d v x y k a b h hfits hsec hfree ha hb => ?offers,
    fun s d => exec_healthConfirm_refused, fun s d k => exec_healthConfirm_confirms, fun s => exec_trialExpiring_silent,
    fun s => exec_trialExpiring_warns, fun s c t => State.revert_handover c t, fun s u c t => State.revert_restart c t,
    fun s d => exec_revert_noTrial, fun s d => exec_revert_underWay, fun s d => exec_revert_busy, fun s d => exec_revert_reverts,
    fun s => exec_trialWindowExpiry_idle, fun s => exec_trialWindowExpiry_reverts, fun s => exec_trialWindowExpiry_waits,
    fun s => rfl, fun s d rd raw x y => exec_configLoad_waits rd raw x y,
    fun s d b raw x y f h hdue => exec_configLoad_badHead raw x y h hdue,
    fun s d b raw x y u f h hdue hhead => exec_configLoad_badItem raw x y h hdue hhead,
    fun s d b raw x y u c h hdue hhead => exec_configLoad_accepts raw x y h hdue hhead, fun s => exec_configTakesEffect_none,
    fun s t c n r h => exec_configTakesEffect_waits h, fun s u t c n r h => exec_configTakesEffect_applies h⟩
  case misfit =>
    subst hc
    exact exec_imageStage_misfit x y h hflags htrial hphase hport z hfit
  case flashFails =>
    subst hc hflash
    exact exec_imageStage_flashFails x y h hflags htrial hphase hport hfit
  case part =>
    subst hc hflash
    exact exec_imageStage_part x y h hflags htrial hphase hport hfit hlast
  case offers =>
    exact exec_firnInstall_offers v x y h hfits hsec hfree (ha.trans (State.installOn_f0 _ _ _ _).symm)
      (hb.trans (State.installOn_f1 _ _ _ _).symm)
  case last =>
    subst hc hflash
    split
    next hfail => exact exec_imageStage_lastRefused x y h hflags htrial hphase hport hfit hlast hu hfail
    next hfail => exact exec_imageStage_lastAccepted x y h hflags htrial hphase hport hfit hlast hu hfail

end Sys2Proof.Machine
end

section
/-!
PROOFS. PERSTn, function-level resets and PCIe links (R93, R112, R119, R138, R176, R614): which branch of its meaning each of them takes.
-/
namespace Sys2Proof.Machine

section
variable {s : State} {p : Port}

theorem exec_perst (h : s.isOff = false) : exec (.perst p) s = .next (((((s.portReset p).put Fld.HOST_STATUS__LINK_WIDTH p.num 0).put
    Fld.HOST_STATUS__LINK_SPEED p.num 0).put Fld.HOST_STATUS__LINK_STATE p.num 0).domainReset (10 + p.num)) := if_neg (by simp [h])

theorem exec_functionLevelReset (h : s.isOff = false) : exec (.functionLevelReset p) s =
    .next (((s.portReset p).domainReset (10 + p.num)).domainReturned (10 + p.num)) := congrArg Host.Outcome.next (if_neg (by simp [h]))

/-- The port of a link that comes up (R119, R176): its width and speed, L0, the end of its failover, and its return. -/
def State.linkUpAt (s : State) (p : Port) (w v : Nat) : State :=
  ((((s.put Fld.HOST_STATUS__LINK_WIDTH p.num w).put Fld.HOST_STATUS__LINK_SPEED p.num v).put
    Fld.HOST_STATUS__LINK_STATE p.num 1).maybeEndFailover p).domainReturned (10 + p.num)

theorem exec_pcieLinkChange_down (w v : Nat) : exec (.pcieLinkChange p false w v) s =
    .next ((((s.put Fld.HOST_STATUS__LINK_WIDTH p.num 0).put Fld.HOST_STATUS__LINK_SPEED p.num 0).put
      Fld.HOST_STATUS__LINK_STATE p.num 0).endSeracSession p) := rfl

theorem exec_pcieLinkChange_untrained (w v : Nat) (h : s.mayTrain = false) : exec (.pcieLinkChange p true w v) s = .next s :=
  if_pos (by simp [h])

/-- R93: a link that comes up out of L1 is the wake source of its port as well. -/
theorem exec_pcieLinkChange_up (w v : Nat) (h : s.mayTrain = true) : exec (.pcieLinkChange p true w v) s =
    .next ((if s.get Fld.HOST_STATUS__LINK_STATE p.num = 2 then s.wakeSource (3 + p.num) else s).linkUpAt p w v) := by
  refine (if_neg (by simp [h])).trans ((if_pos rfl).trans ?_)
  simp only [Bool.true_and, decide_eq_true_eq, if_true]
  rfl

end

/-- Settles O8: each clause is the branch above that its hypotheses select. -/
theorem portResets : Obligations.PortResets := by
  refine ⟨fun s p => exec_perst, fun s p => exec_functionLevelReset, fun s p w v => exec_pcieLinkChange_down w v,
    fun s p w v htrain hstate => ?fresh, fun s p w v htrain hstate => ?woken, fun s p w v => exec_pcieLinkChange_untrained w v⟩
  case fresh =>
    rw [exec_pcieLinkChange_up w v htrain, if_neg hstate]
    rfl
  case woken =>
    rw [exec_pcieLinkChange_up w v htrain, if_pos hstate]
    rfl

end Sys2Proof.Machine
end

section
/-!
PROOFS. Retirement, self-tests and probation of engines (R121, R214, R257, R259, R267, R276, R277): which branch of its meaning each
command takes.
-/
namespace Sys2Proof.Machine

/-! ### Retirement -/

section
variable {s : State} {n : Nat}

theorem State.retire_retired (cause : Nat) (h : s.engState n = eRetired) : s.retire n cause = s := if_pos h

/-- The causes of R257 that a supervisor reports retire a live engine that has passed its first self-test. -/
theorem State.retires_live {c : Instr} {cause : Nat}
    (hexec : exec c s = .next (if (s.engLive n && decide (s.engState n ≠ eHalted)) = true then s.retire n cause else s))
    (hlive : s.engLive n = true) (hstate : s.engState n ≠ eHalted) : exec c s = .next (s.retire n cause) :=
  hexec.trans (congrArg Host.Outcome.next (if_pos (by simp [hlive, hstate])))

/-- They leave one that is retired already as it is. -/
theorem State.retires_retired {c : Instr} {cause : Nat}
    (hexec : exec c s = .next (if (s.engLive n && decide (s.engState n ≠ eHalted)) = true then s.retire n cause else s))
    (h : s.engState n = eRetired) : exec c s = .next s :=
  hexec.trans (congrArg Host.Outcome.next (by rw [State.retire_retired cause h, ite_self]))

theorem exec_spareSelfTest_fails (hlive : s.engLive n = true) (hstate : s.engState n = eSpare) :
    exec (.spareSelfTest n false) s = .next (s.retire n 5) := congrArg Host.Outcome.next (if_pos (by simp [hlive, hstate]))

theorem exec_spareSelfTest_passes : exec (.spareSelfTest n true) s = .next s := congrArg Host.Outcome.next (if_neg (by simp))

/-! ### Self-tests and probation -/

/-- R121: at the die's reset, before its firmware runs, the test decides between SPARE and retirement. -/
theorem exec_engineSelfTestDone_reset (pass : Bool) (hlive : s.engLive n = true) (hstate : s.engState n = eHalted)
    (hcdie : n < 128 → s.stage = 5) (hfirn : 128 ≤ n → (s.firn (if n < 192 then .f0 else .f1)).runs = false) :
    exec (.engineSelfTestDone n pass) s = .next (if pass = true then (s.setEngState n eSpare).poolRefresh else s.retire n 6) := by
  have hdue : (if n < 128 then s.stage != 5 else (s.firn (if n < 192 then .f0 else .f1)).runs) = false := by
    split
    next h => simp [hcdie h]
    next h => exact hfirn (not_lt.1 h)
  refine (if_neg (by simp [hlive])).trans ((if_neg ?_).trans (if_pos hstate))
  rw [hdue]
  simp

/-- R276: later, the test is that of a retired engine. -/
theorem exec_engineSelfTestDone_later (pass : Bool) (hlive : s.engLive n = true) (hstate : s.engState n ≠ eHalted) :
    exec (.engineSelfTestDone n pass) s = .next (s.retiredTest n pass) :=
  (if_neg (by simp [hlive])).trans ((if_neg (by simp [hstate])).trans (if_neg hstate))

theorem State.retiredTest_idle (pass : Bool) (h : s.engState n ≠ eRetired ∨ s.engGet Fld.ENG_HEALTH__PERMANENT n ≠ 0) :
    s.retiredTest n pass = s := if_pos (by simpa using h)

theorem exec_retiredSelfTest (pass : Bool) (hlive : s.engLive n = true) (hstate : s.engState n = eRetired)
    (hperm : s.engGet Fld.ENG_HEALTH__PERMANENT n = 0) : exec (.retiredSelfTest n pass) s =
      .next (if pass = true then s.probation n else s.postEng n { code := 0x908, sev := 1, obj := n, data := 1 }) :=
  congrArg Host.Outcome.next ((if_pos hlive).trans (if_neg (by simp [hstate, hperm])))

theorem exec_probationComplete (clean : Bool) (hlive : s.engLive n = true) (hstate : s.engState n = eProbation) :
    exec (.probationComplete n clean) s = if (!clean) = true then .next (s.probationFailed n)
      else .next ((((({ s with eng := { s.eng with prob := tabErase s.eng.prob n } } : State).engPut Fld.ENG_HEALTH__PROGRESS n 0).setEngState
        n eSpare).poolRefresh).postEng n { code := 0x907, sev := 0, obj := n }) := if_neg (by simp [hlive, hstate])

/-- R277: a probation that fails is counted and reported; the third count is permanent and reported as well. -/
theorem State.probationFailed_posts : ∃ u : State, s.probationFailed n = if 3 ≤ min 15 (s.engGet Fld.ENG_HEALTH__RETIRE_COUNT n + 1) then
      (u.postEng n { code := 0x908, sev := 1, obj := n, data := 2 }).postEng n { code := 0x908, sev := 1, obj := n, data := 4 }
    else u.postEng n { code := 0x908, sev := 1, obj := n, data := 2 } := ⟨_, rfl⟩

/-! ### Scratchpad errors and replays -/

theorem exec_scratchpadEccError_corrected {k : Nat} (h : k < 16) :
    exec (.scratchpadEccError k none) s = .next (s.bump Fld.SPAD_ECC__CORRECTED k 1) := congrArg Host.Outcome.next (if_pos h)

theorem exec_scratchpadEccError_firnCorrected {k : Nat} (h : 16 ≤ k) :
    exec (.scratchpadEccError k none) s = .next (s.bump Fld.FSPAD_ECC__CORRECTED (k - 16) 1) := congrArg Host.Outcome.next (if_neg (not_lt.2 h))

/-- R259: an error that is not correctable, read by a C-die engine between two jobs. -/
theorem exec_scratchpadEccError_faults (k : Nat) (a : W32) (hlive : s.engLive n = true) (hcdie : n < 128) (hstate : s.engState n = eActive)
    (hjob : (s.core n).job = none) : exec (.scratchpadEccError k (some (n, a))) s =
      .next ((s.trap n 5 a).setCore n { (s.trap n 5 a).core n with job := none, jobs := (s.core n).jobs }) := by
  refine (if_neg ?live).trans ((if_pos hcdie).trans (congrArg Host.Outcome.next ?_))
  case live => simp [hlive, hstate, eActive, eRetired, eHalted]
  simp only [hjob]

/-- R267: a replacement that has caught up is ACTIVE, and each point of the migration reports. -/
theorem exec_replayComplete_loading {g : Migr} (first : Nat) (hmigr : tabFind s.eng.migr n = some g) (hlive : s.engLive n = true)
    (hstate : ({ s with eng := { s.eng with migr := tabErase s.eng.migr n } } : State).engState n = eLoading) :
    exec (.replayComplete n first) s = .next ((g.points.foldl (fun s x => s.replayed first g.peaks x)
      (({ s with eng := { s.eng with migr := tabErase s.eng.migr n } } : State).setEngState n eActive)).poolRefresh) := by
  change execReplayComplete n first s = _
  simp only [execReplayComplete, hmigr, hlive, hstate, Bool.not_true, Bool.false_eq_true, if_false, if_true]

end

/-- Settles O21: each clause is the branch above that its hypotheses select. -/
theorem engineRetirement : Obligations.EngineRetirement :=
  ⟨fun _ _ => State.retires_live rfl, fun _ _ => State.retires_live rfl, fun _ _ => State.retires_live rfl,
    fun _ _ => exec_spareSelfTest_fails,
    fun _ _ hlive hstate hcdie hfirn => ⟨exec_engineSelfTestDone_reset true hlive hstate hcdie hfirn,
      exec_engineSelfTestDone_reset false hlive hstate hcdie hfirn⟩,
    fun _ _ pass => exec_engineSelfTestDone_later pass, fun _ _ pass => State.retiredTest_idle pass, fun _ _ => exec_spareSelfTest_passes,
    fun _ _ h => ⟨State.retires_retired rfl h, State.retires_retired rfl h, State.retires_retired rfl h⟩,
    fun _ _ => exec_retiredSelfTest true, fun _ _ => exec_retiredSelfTest false, fun _ _ => exec_probationComplete true,
    fun _ _ => exec_probationComplete false, fun _ _ _ => State.probationFailed_posts, fun _ _ => exec_scratchpadEccError_corrected,
    fun _ _ => exec_scratchpadEccError_firnCorrected, fun _ k _ a => exec_scratchpadEccError_faults k a,
    fun _ _ first _ => exec_replayComplete_loading first⟩

end Sys2Proof.Machine
end

section
/-!
PROOFS. What the metering of a point leaves alone: the engines, and the latches of a power-fail warning (R436, R437). One lemma
`foo_latches` for each operation that the final commit of a point runs, in the order of the definitions.
-/
namespace Sys2Proof.Machine

/-- The engines with, of each Firn die, the latch of its power-fail warning and the level of PFW that it has seen. -/
def State.latches (s : State) : EngSt × (Option (Nat × Nat) × Bool) × (Option (Nat × Nat) × Bool) :=
  (s.eng, (s.f0.pfw, s.f0.pfwHigh), (s.f1.pfw, s.f1.pfwHigh))

section
variable {s t : State}

theorem State.eng_of_latches (h : t.latches = s.latches) : t.eng = s.eng := congrArg Prod.fst h

theorem State.pfw_of_latches (d : Firn) (h : t.latches = s.latches) : (t.firn d).pfw = (s.firn d).pfw := by
  cases d with
  | f0 => exact congrArg (·.2.1.1) h
  | f1 => exact congrArg (·.2.2.1) h

theorem State.pfwHigh_of_latches (d : Firn) (h : t.latches = s.latches) : (t.firn d).pfwHigh = (s.firn d).pfwHigh := by
  cases d with
  | f0 => exact congrArg (·.2.1.2) h
  | f1 => exact congrArg (·.2.2.2) h

theorem State.latches_of_rest (h : t.rest = s.rest) : t.latches = s.latches := by
  change t.rest.latches = s.rest.latches
  rw [h]

/-- A change of a Firn die's state that leaves its latch and its PFW level. -/
theorem State.latches_setFirn {d : Firn} {f : FirnSt} (hp : f.pfw = (s.firn d).pfw) (hh : f.pfwHigh = (s.firn d).pfwHigh) :
    (s.setFirn d f).latches = s.latches := by
  cases d with
  | f0 => exact congrArg (s.eng, ·, (s.f1.pfw, s.f1.pfwHigh)) (Prod.ext hp hh)
  | f1 => exact congrArg (s.eng, (s.f0.pfw, s.f0.pfwHigh), ·) (Prod.ext hp hh)

end

@[simp] theorem State.latches_ite (c : Prop) [Decidable c] (s t : State) :
    (if c then s else t).latches = if c then s.latches else t.latches := apply_ite State.latches c s t

@[simp] theorem State.foldl_latches {α : Type} (g : State → α → State) (h : ∀ s a, (g s a).latches = s.latches) (l : List α)
    (s : State) : (l.foldl g s).latches = s.latches := foldl_keeps g State.latches h l s

@[simp] theorem State.firn_setFirn (s : State) (d : Firn) (f : FirnSt) : (s.setFirn d f).firn d = f := by cases d <;> rfl
@[simp] theorem State.firn_bump (s : State) (f : Fld) (i n : Nat) (d : Firn) : (s.bump f i n).firn d = s.firn d := by cases d <;> rfl

/-! ### Machine/Ops.lean -/

@[simp] theorem State.setReg_latches (s : State) (r : Reg) (i : Nat) (v : W32) : (s.setReg r i v).latches = s.latches := rfl
@[simp] theorem State.put_latches (s : State) (f : Fld) (i v : Nat) : (s.put f i v).latches = s.latches := rfl
@[simp] theorem State.putB_latches (s : State) (f : Fld) (i : Nat) (b : Bool) : (s.putB f i b).latches = s.latches := rfl
@[simp] theorem State.bump_latches (s : State) (f : Fld) (i n : Nat) : (s.bump f i n).latches = s.latches := rfl
@[simp] theorem State.wakeSource_latches (s : State) (n : Nat) : (s.wakeSource n).latches = s.latches :=
  State.latches_of_rest (s.wakeSource_rest n)
@[simp] theorem State.entryRoute_latches (s : State) (k : Nat) (p : Option Port) (x : Nat × Entry) :
    (s.entryRoute k p x).latches = s.latches := State.latches_of_rest (s.entryRoute_rest k p x)

/-! ### Machine/Firn.lean -/

@[simp] theorem State.setMp_latches (s : State) (p : Nat) (m : MpSt) : (s.setMp p m).latches = s.latches := rfl
@[simp] theorem State.firnOrder_latches (s : State) (d : Firn) (a : Act) : (s.firnOrder d a).latches = s.latches := rfl
@[simp] theorem State.firnPost_latches (s : State) (d : Firn) (p : Option Port) (e : Event) :
    (s.firnPost d p e).latches = s.latches := by
  simp [State.firnPost, State.latches_setFirn]
@[simp] theorem State.postPt_latches (s : State) (p : Nat) (e : Event) : (s.postPt p e).latches = s.latches := by simp [State.postPt]
@[simp] theorem State.postDie_latches (s : State) (d : Firn) (code sev data : Nat) :
    (s.postDie d code sev data).latches = s.latches := by simp [State.postDie]
@[simp] theorem State.morMirror_latches (s : State) (d : Firn) : (s.morMirror d).latches = s.latches := by simp [State.morMirror]
@[simp] theorem State.morAppend_latches (s : State) (d : Firn) (es : List (List Byte)) : (s.morAppend d es).latches = s.latches := by
  simp [State.morAppend, State.latches_setFirn]
@[simp] theorem State.moraineAt_latches (s : State) (d : Firn) (typ obj time : Nat) (data : List Byte) :
    (s.moraineAt d typ obj time data).latches = s.latches := by
  simp [State.moraineAt, State.latches_setFirn]
@[simp] theorem State.moraine_latches (s : State) (d : Firn) (typ obj : Nat) (data : List Byte) :
    (s.moraine d typ obj data).latches = s.latches := by simp [State.moraine]
@[simp] theorem State.addUnbilled_latches (s : State) (p : Nat) (qs : List (Nat × Nat)) : (s.addUnbilled p qs).latches = s.latches := by
  simp [State.addUnbilled]
@[simp] theorem State.unbilledRecord_latches (s : State) (d : Firn) (p cause lost : Nat) (qs : List (Nat × Nat)) :
    (s.unbilledRecord d p cause lost qs).latches = s.latches := by simp [State.unbilledRecord]
@[simp] theorem State.haltBound_latches (s : State) (d : Firn) (p n : Nat) : (s.haltBound d p n).latches = s.latches := by
  simp [State.haltBound]

/-! ### Machine/FrontEnd.lean -/

@[simp] theorem State.setAdc_latches (s : State) (d : Firn) (a st lane ch : Nat) : (s.setAdc d a st lane ch).latches = s.latches := by
  simp [State.setAdc]
@[simp] theorem State.regelStop_latches (s : State) (d : Firn) : (s.regelStop d).latches = s.latches := by simp [State.regelStop]

/-! ### Machine/Metering.lean -/

@[simp] theorem State.addQuantities_latches (s : State) (p rate b n : Nat) (adds : List (Nat × Nat)) :
    (s.addQuantities p rate b n adds).latches = s.latches := by simp [State.addQuantities]
@[simp] theorem State.settle_latches (s : State) (p until_ : Nat) : (s.settle p until_).latches = s.latches := by simp [State.settle]
@[simp] theorem State.qLimitCheck_latches (s : State) (p : Nat) : (s.qLimitCheck p).latches = s.latches := by simp [State.qLimitCheck]
@[simp] theorem State.measureCycle_latches (s : State) (p : Nat) (c : CycleIn) (n : Nat) :
    (s.measureCycle p c n).latches = s.latches := by
  simp only [State.measureCycle]
  split <;> simp
@[simp] theorem State.voltageCheck_latches (s : State) (p mask : Nat) : (s.voltageCheck p mask).latches = s.latches := by
  simp [State.voltageCheck]
@[simp] theorem State.rotationCheck_latches (s : State) (p rot : Nat) : (s.rotationCheck p rot).latches = s.latches := by
  simp [State.rotationCheck]
@[simp] theorem State.cycleMirrors_latches (s : State) (p : Nat) (c : CycleIn) (x : CycleE) (n : Nat) :
    (s.cycleMirrors p c x n).latches = s.latches := by
  simp only [State.cycleMirrors, State.setReg_latches, State.latches_ite, ite_self]
  refine State.foldl_latches _ (fun t y => ?_) _ _
  rw [State.setReg_latches, State.setReg_latches]
@[simp] theorem State.afterVerified_latches (s : State) (p : Nat) (c : CycleIn) (n : Nat) (tri dc : Bool) :
    (s.afterVerified p c n tri dc).latches = s.latches := by
  simp only [State.afterVerified]
  split <;> simp
@[simp] theorem State.cycle_latches (s : State) (p : Nat) (c : CycleIn) (dc : Bool) : (s.cycle p c dc).latches = s.latches := by
  simp only [State.cycle]
  repeat' split
  all_goals simp

/-! ### Machine/Flow.lean -/

@[simp] theorem State.blkFill_latches (s : State) (p b upto : Nat) : (s.blkFill p b upto).latches = s.latches := by
  simp [State.blkFill]
@[simp] theorem State.discrepancy_latches (s : State) (p : Nat) (force : Bool) : (s.discrepancy p force).latches = s.latches := by
  simp [State.discrepancy]
@[simp] theorem State.blockBill_latches (s : State) (p : Nat) (b : BlockIn) : (s.blockBill p b).latches = s.latches := by
  simp only [State.blockBill]
  split <;> simp
@[simp] theorem State.blockCounts_latches (s : State) (p : Nat) (b : BlockIn) : (s.blockCounts p b).latches = s.latches := by
  simp [State.blockCounts]

/-! ### Machine/Legal.lean -/

@[simp] theorem State.lastCycle_latches (s : State) (p e : Nat) : (s.lastCycle p e).latches = s.latches := by simp [State.lastCycle]
@[simp] theorem State.lastBlock_latches (s : State) (p e : Nat) : (s.lastBlock p e).latches = s.latches := by
  simp only [State.lastBlock]
  split <;> simp
@[simp] theorem State.finalPoint_latches (s : State) (p k : Nat) : (s.finalPoint p k).latches = s.latches := by simp [State.finalPoint]

end Sys2Proof.Machine
end

section
/-!
PROOFS. Marks of the control cycle, power failure and the start of a Firn die (R120, R414, R419, R422, R434, R437, R439, R442).
-/
namespace Sys2Proof.Machine

section
variable {s : State} {d : Firn}

/-! ### Marks -/

theorem exec_controlCycleMark_works (dev m : Nat) (busy : Bool) (raw : List (Nat × List Nat)) (hlive : s.firnLive d = true)
    (hlink : s.linkUp d.link = true) : exec (.controlCycleMark d dev m busy raw) s =
      .next ((((s.put Fld.FIRN_STATUS__LOCAL_MARKS d.num 0).markClock d
        (max m ((s.put Fld.FIRN_STATUS__LOCAL_MARKS d.num 0).firn d).m) dev).cycleFcount (1 + d.num) 0).markWork d busy
          ((s.put Fld.FIRN_STATUS__LOCAL_MARKS d.num 0).firn d).m raw) :=
  if_neg (by simp [hlive, hlink])

theorem exec_controlCycleMark_lost (dev m : Nat) (busy : Bool) (raw : List (Nat × List Nat))
    (h : s.firnLive d = false ∨ s.linkUp d.link = false) : exec (.controlCycleMark d dev m busy raw) s = .next s :=
  if_pos (by simpa using h)

theorem exec_localMark (m : Nat) (busy : Bool) (raw : List (Nat × List Nat)) (hlive : s.firnLive d = true) :
    exec (.localMark d m busy raw) s = .next ((((s.put Fld.FIRN_STATUS__LOCAL_MARKS d.num 1).setFirn d
      { (s.put Fld.FIRN_STATUS__LOCAL_MARKS d.num 1).firn d with
        m := max m ((s.put Fld.FIRN_STATUS__LOCAL_MARKS d.num 1).firn d).m }).cycleFcount (1 + d.num) 0).markWork d busy
          ((s.put Fld.FIRN_STATUS__LOCAL_MARKS d.num 1).firn d).m raw) := if_neg (by simp [hlive])

theorem exec_restartMarkTimeout_resumes (hlive : s.firnLive d = true) (hrestart : (s.firn d).restart = true) :
    exec (.restartMarkTimeout d) s = .next ((s.resumeUnverified d 0).outageWrite d (s.firn d).m) :=
  congrArg Host.Outcome.next (if_pos (by simp [hlive, hrestart]))

theorem exec_restartMarkTimeout_idle (h : (s.firn d).restart = false) : exec (.restartMarkTimeout d) s = .next s :=
  congrArg Host.Outcome.next (if_neg (by simp [h]))

/-- R422: the first mark after a restart that carries no device time. -/
theorem State.markClock_unverified (m : Nat) (hset : (s.firn d).timeSet = none) (hrestart : (s.firn d).restart = true) :
    s.markClock d m 0 = s.resumeUnverified d m := by
  simp [State.markClock, hset, hrestart]

/-! ### Power failure -/

/-- R437: the metering up to the cut moves no engine's work, so a point that none was taking over gets its snapshot at the cut. -/
theorem State.mp_finalPoint_fin {p : Nat} (k : Nat) (h : (s.eng.migr.any fun x => x.2.points.any (·.1 == p)) = false) :
    ∃ u : State, ((s.finalPoint p k).mp p).fin = some (u.snapshot p k) := by
  have heng : (if (s.pcfg p).commodity ≤ 2 then s.lastCycle p (k + 1) else s.lastBlock p (k + 1)).eng = s.eng :=
    State.eng_of_latches (by simp)
  refine ⟨if (s.pcfg p).commodity ≤ 2 then s.lastCycle p (k + 1) else s.lastBlock p (k + 1), ?_⟩
  simp only [State.finalPoint, State.mp_setMp, heng, h, Bool.false_eq_true, if_false]

/-- The latch of a power-fail warning at index `idx` (R437). -/
def State.pfwLatch (s : State) (d : Firn) (idx : Nat) : State :=
  s.setFirn d { s.firn d with pfw := some (idx, (s.firn d).legal idx), pfwHigh := false }

/-- What a power-fail warning leaves when its marker is due: regelation stopped, the bounds of a halt, the final checkpoints of the points
at the cut and, with F0, a blank display (R314, R437, R443, R457). -/
def State.pfwCut (s : State) (d : Firn) (idx : Nat) : State :=
  let t := (s.pfwLatch d idx).regelStop d
  let t := match (s.firn d).haltFrom with
    | some from_ => (t.diePoints d).foldl (fun t p => t.haltBound d p (idx - 34 - from_)) t
    | none => t
  let t := if (s.firn d).outage.isNone then (t.diePoints d).foldl (fun t p => t.finalPoint p (idx - 34)) t else t
  if d = .f0 then t.setDisp { t.disp with front := [], back := [], shadow := 0 } else t

theorem State.pfwCut_latches (idx : Nat) : (s.pfwCut d idx).latches = (s.pfwLatch d idx).latches := by
  have hdisp (t : State) (x : DispSt) : (t.setDisp x).latches = t.latches := rfl
  cases h : (s.firn d).haltFrom <;> simp [State.pfwCut, h, hdisp]

/-- The marker of a final commit at the cut `k` (R437). -/
def FirnSt.marked (f : FirnSt) (k : Nat) : FirnSt := { f with finalOk := true, commitTime := f.legal k, commitIdx := k }

theorem exec_pfwFall_cuts (idx : Nat) (done : Bool) (hnone : (s.firn d).pfw = none) (hruns : (s.firn d).runs = true) :
    exec (.pfwFall d idx done) s = .next (if ((s.firn d).outage.isNone && done) = true then
      (s.pfwCut d idx).setFirn d (((s.pfwCut d idx).firn d).marked (idx - 34)) else s.pfwCut d idx) := by
  refine (if_neg (by simp [hnone, hruns])).trans ?_
  cases d <;> rfl

theorem exec_pfwFall_latched (idx : Nat) (done : Bool) (h : (s.firn d).pfw.isSome = true ∨ (s.firn d).runs = false) :
    exec (.pfwFall d idx done) s = .next (s.setFirn d { s.firn d with pfwHigh := false }) := if_pos (by simpa using h)

theorem State.pfw_pfwCut (idx : Nat) : ((s.pfwCut d idx).firn d).pfw = some (idx, (s.firn d).legal idx) :=
  (State.pfw_of_latches d (State.pfwCut_latches idx)).trans (congrArg FirnSt.pfw (State.firn_setFirn _ _ _))

theorem State.pfwHigh_pfwCut (idx : Nat) : ((s.pfwCut d idx).firn d).pfwHigh = false :=
  (State.pfwHigh_of_latches d (State.pfwCut_latches idx)).trans (congrArg FirnSt.pfwHigh (State.firn_setFirn _ _ _))

/-- The latch stands whether or not the hold-up lasts until the marker is written. -/
theorem exec_pfwFall_latches (idx : Nat) (done : Bool) (hnone : (s.firn d).pfw = none) (hruns : (s.firn d).runs = true) :
    ∃ t, exec (.pfwFall d idx done) s = .next t ∧ (t.firn d).pfw = some (idx, (s.firn d).legal idx) ∧ (t.firn d).pfwHigh = false ∧
      ((s.firn d).outage = none → done = true → (t.firn d).finalOk = true ∧ (t.firn d).commitIdx = idx - 34) := by
  refine ⟨_, exec_pfwFall_cuts idx done hnone hruns, ?_⟩
  by_cases hmark : ((s.firn d).outage.isNone && done) = true
  · rw [if_pos hmark, State.firn_setFirn]
    exact ⟨State.pfw_pfwCut idx, State.pfwHigh_pfwCut idx, fun _ _ => ⟨rfl, rfl⟩⟩
  · rw [if_neg hmark]
    exact ⟨State.pfw_pfwCut idx, State.pfwHigh_pfwCut idx, fun hserves hdone => absurd (by rw [hserves, hdone]; rfl) hmark⟩

/-! ### Starts and restarts -/

theorem exec_pfwHighTimeout_idle (ok0 ok1 : Bool) (v : W32) (bad : List Nat)
    (h : (s.firn d).pfw = none ∨ (s.firn d).pfwHigh = false) : exec (.pfwHighTimeout d ok0 ok1 v bad) s = .next s :=
  congrArg Host.Outcome.next (if_neg (by rcases h with h | h <;> simp [h]))

theorem exec_pfwHighTimeout_restarts (ok0 ok1 : Bool) (v : W32) (bad : List Nat) (hpfw : (s.firn d).pfw.isSome = true)
    (hhigh : (s.firn d).pfwHigh = true) (hruns : (s.firn d).runs = true) :
    exec (.pfwHighTimeout d ok0 ok1 v bad) s = .next (s.dieStart d ok0 ok1 v bad true) :=
  congrArg Host.Outcome.next (if_pos (by simp [hpfw, hhigh, hruns]))

theorem exec_firnDieStart_starts (ok0 ok1 : Bool) (v : W32) (bad : List Nat) (hruns : (s.firn d).runs = false)
    (hvariant : d = .f1 → s.variant.hasF1 = true) (hrails : s.railsGood d.die = true) (hup : s.isDown = false)
    (hwake : (s.firn d).waking = false ∨ s.pwr ≠ 2) :
    exec (.firnDieStart d ok0 ok1 v bad) s = .next (s.dieStart d ok0 ok1 v bad false) := by
  have hawake (h : (s.firn d).waking = true) : s.pwr ≠ 2 := hwake.resolve_left (by simp [h])
  refine congrArg Host.Outcome.next (if_neg ?_)
  simpa [hruns, hrails, hup] using ⟨hvariant, hawake⟩

theorem exec_firnDieStart_runs (ok0 ok1 : Bool) (v : W32) (bad : List Nat) (h : (s.firn d).runs = true) :
    exec (.firnDieStart d ok0 ok1 v bad) s = .next s := congrArg Host.Outcome.next (if_pos (by simp [h]))

end

/-- Settles O23: each clause is the branch above that its hypotheses select; the latch stands after the final commit because
no operation that it runs touches it (R437). -/
theorem legalMarks : Obligations.LegalMarks :=
  ⟨fun _ _ dev m busy raw => exec_controlCycleMark_works dev m busy raw,
    fun _ _ dev m busy raw => exec_controlCycleMark_lost dev m busy raw, fun _ _ m busy raw => exec_localMark m busy raw,
    fun _ _ => exec_restartMarkTimeout_resumes, fun _ _ _ m hset hrestart hdev => hdev ▸ State.markClock_unverified m hset hrestart,
    fun _ _ idx done => exec_pfwFall_latches idx done, fun _ _ idx done => exec_pfwFall_latched idx done,
    fun _ _ k => State.mp_finalPoint_fin k, fun _ _ => rfl, fun _ _ ok0 ok1 v bad => exec_pfwHighTimeout_idle ok0 ok1 v bad,
    fun _ _ ok0 ok1 v bad => exec_pfwHighTimeout_restarts ok0 ok1 v bad, fun _ _ ok0 ok1 v bad => exec_firnDieStart_starts ok0 ok1 v bad,
    fun _ _ ok0 ok1 v bad => exec_firnDieStart_runs ok0 ok1 v bad, fun _ _ => exec_restartMarkTimeout_idle, fun _ _ _ _ => rfl⟩

end Sys2Proof.Machine
end

section
/-!
PROOFS. Ring configuration (R144, R147, R149, R150): which branch of its meaning each ring and window command takes.
-/
namespace Sys2Proof.Machine

/-! ### The ring that RING_SEL names -/

def State.selRing (s : State) (p : Port) : Ring := s.ring p (s.selCq p) (s.selIdx p)
def State.setSel (s : State) (p : Port) (r : Ring) : State := s.setRing p (s.selCq p) (s.selIdx p) r

section
variable {s : State} {p : Port}

theorem State.selRing_sq (h : s.selCq p = false) : s.selRing p = s.sq p (s.selIdx p) := by simp [State.selRing, State.ring, h]
theorem State.selRing_cq (h : s.selCq p = true) : s.selRing p = s.cq p (s.selIdx p) := by simp [State.selRing, State.ring, h]
theorem State.setSel_sq (r : Ring) (h : s.selCq p = false) : s.setSel p r = s.setSq p (s.selIdx p) r := by
  simp [State.setSel, State.setRing, h]
theorem State.setSel_cq (r : Ring) (h : s.selCq p = true) : s.setSel p r = s.setCq p (s.selIdx p) r := by
  simp [State.setSel, State.setRing, h]

/-! ### ENABLE (R147, R150) -/

theorem exec_ringEnable_refused (rd : DmaRead) {c : Nat} (h : s.enableRefusal p (s.selCq p) (s.selRing p) = some c) :
    exec (.ringEnable p rd) s = .next (s.setSel p { s.selRing p with err := c }) := by
  change execRingEnable p rd s = _
  rw [State.selRing] at h
  simp only [execRingEnable, h]
  rfl

section
variable {rd : DmaRead} {t c : Nat} (hsel : s.selCq p = false) (hok : s.enableRefusal p false (s.sq p (s.selIdx p)) = none)
include hsel hok

theorem exec_ringEnable_sq (htail : tailOf (s.sq p (s.selIdx p)) rd = .inl t) : exec (.ringEnable p rd) s =
    .next (s.setSq p (s.selIdx p) { s.sq p (s.selIdx p) with state := rActive, idx := t, tail := t, needKick := false }) := by
  change execRingEnable p rd s = _
  simp only [execRingEnable, hsel, State.ring, Bool.false_eq_true, if_false, hok, htail]

theorem exec_ringEnable_sqFails (htail : tailOf (s.sq p (s.selIdx p)) rd = .inr c) : exec (.ringEnable p rd) s =
    .next ((s.setSq p (s.selIdx p) { s.sq p (s.selIdx p) with state := rActive }).sqError p (s.selIdx p) c) := by
  change execRingEnable p rd s = _
  simp only [execRingEnable, hsel, State.ring, Bool.false_eq_true, if_false, hok, htail]

end

/-- A completion ring as ENABLE leaves it: ACTIVE from slot 0 with PHASE 1, its host's HEAD taken as 0 (log entry 161). -/
def Ring.started (r : Ring) : Ring := { r with state := rActive, idx := 0, phase := true, head := 0, unsig := 0, headFault := false }

/-- Completion ring 0 then reports the events lost (R177). -/
theorem exec_ringEnable_cq (rd : DmaRead) (hsel : s.selCq p = true) (hok : s.enableRefusal p true (s.cq p (s.selIdx p)) = none) :
    exec (.ringEnable p rd) s = .next (if s.selIdx p = 0
      then (s.setCq p (s.selIdx p) (s.cq p (s.selIdx p)).started).reportLost p
      else s.setCq p (s.selIdx p) (s.cq p (s.selIdx p)).started) := by
  change execRingEnable p rd s = _
  simp only [execRingEnable, hsel, State.ring, if_true, hok]
  rfl

/-! ### DISABLE and CLEAR_ERROR (R147) -/

theorem exec_ringDisable_sq (hsel : s.selCq p = false) :
    exec (.ringDisable p) s = .next (s.setSq p (s.selIdx p) (s.sq p (s.selIdx p)).drain) := by
  change execRingDisable p s = _
  simp only [execRingDisable, hsel, State.ring, Bool.false_eq_true, if_false]

section
variable (hsel : s.selCq p = true)
include hsel

/-- What DISABLE does to a completion ring: bound rings refuse it before its state does (log entry 9). -/
theorem exec_ringDisable_cq : exec (.ringDisable p) s = .next (s.setCq p (s.selIdx p)
    (if (s.host p).boundLive (s.selIdx p) then { s.cq p (s.selIdx p) with err := 8 }
      else if (s.cq p (s.selIdx p)).state = rError then { s.cq p (s.selIdx p) with err := 0xA }
      else { s.cq p (s.selIdx p) with state := rDisabled })) := by
  change execRingDisable p s = _
  simp only [execRingDisable, hsel, State.ring, if_true]
  split
  · rfl
  · split <;> rfl

theorem exec_ringDisable_bound (hlive : (s.host p).boundLive (s.selIdx p) = true) :
    exec (.ringDisable p) s = .next (s.setCq p (s.selIdx p) { s.cq p (s.selIdx p) with err := 8 }) := by
  rw [exec_ringDisable_cq hsel, if_pos hlive]

variable (hfree : (s.host p).boundLive (s.selIdx p) = false)
include hfree

theorem exec_ringDisable_inError (hstate : (s.cq p (s.selIdx p)).state = rError) :
    exec (.ringDisable p) s = .next (s.setCq p (s.selIdx p) { s.cq p (s.selIdx p) with err := 0xA }) := by
  rw [exec_ringDisable_cq hsel, if_neg (by simp [hfree]), if_pos hstate]

theorem exec_ringDisable_disables (hstate : (s.cq p (s.selIdx p)).state ≠ rError) :
    exec (.ringDisable p) s = .next (s.setCq p (s.selIdx p) { s.cq p (s.selIdx p) with state := rDisabled }) := by
  rw [exec_ringDisable_cq hsel, if_neg (by simp [hfree]), if_neg hstate]

end

theorem exec_ringClearError_refused (hstate : (s.selRing p).state ≠ rError) :
    exec (.ringClearError p) s = .next (s.setSel p { s.selRing p with err := 0xA }) := if_pos hstate

theorem exec_ringClearError_clears (hfree : s.selCq p = false ∨ (s.host p).boundLive (s.selIdx p) = false)
    (hstate : (s.selRing p).state = rError) :
    exec (.ringClearError p) s = .next (s.setSel p { s.selRing p with state := rDisabled }) :=
  (if_neg (not_not.2 hstate)).trans (if_neg (by simpa [or_iff_not_imp_left] using hfree))

theorem exec_ringClearError_bound (hsel : s.selCq p = true) (hlive : (s.host p).boundLive (s.selIdx p) = true)
    (hstate : (s.cq p (s.selIdx p)).state = rError) :
    exec (.ringClearError p) s = .next (s.setCq p (s.selIdx p) { s.cq p (s.selIdx p) with err := 8 }) := by
  rw [← State.selRing_cq hsel] at hstate ⊢
  rw [← State.setSel_cq _ hsel]
  exact (if_neg (not_not.2 hstate)).trans (if_pos (by simp [hsel, hlive]))

/-! ### Configuration registers, windows and draining (R144, R147, R149) -/

theorem exec_ringConfigWrite_takes (w : RingReg) (v : W32) (h : (s.selRing p).state = rDisabled) :
    exec (.ringConfigWrite p w v) s = .next (s.setSel p ((s.selRing p).withReg w v)) := if_neg (not_not.2 h)

theorem exec_ringConfigWrite_refused (w : RingReg) (v : W32) (h : (s.selRing p).state ≠ rDisabled) :
    exec (.ringConfigWrite p w v) s = .next (s.setSel p { s.selRing p with err := 1 }) := if_pos h

theorem exec_windowWrite_takes (w : Nat) (v : W32) (h : s.flag Fld.HOST_CTRL__EN p.num = false) :
    exec (.windowWrite p w .lo v) s = .next (s.setReg .HOST_WIN_LO (p.num * 8 + w) (v &&& 0xFFFFF003))
      ∧ exec (.windowWrite p w .hi v) s = .next (s.setReg .HOST_WIN_HI (p.num * 8 + w) v)
      ∧ exec (.windowWrite p w .size v) s = .next (s.setReg .HOST_WIN_SIZE (p.num * 8 + w) v) :=
  have hen : ¬ s.flag Fld.HOST_CTRL__EN p.num = true := by simp [h]
  ⟨if_neg hen, if_neg hen, if_neg hen⟩

theorem exec_windowWrite_locked (w : Nat) (x : WinReg) (v : W32) (h : s.flag Fld.HOST_CTRL__EN p.num = true) :
    exec (.windowWrite p w x v) s = .next (s.put Fld.HOST_ERR__WIN_LOCKED p.num 1) := if_pos h

variable {q : Nat}

theorem exec_sqDrained_disables (hstate : (s.sq p q).state = rDraining) (howed : (s.sq p q).owed = 0) :
    exec (.sqDrained p q) s = .next (s.setSq p q { s.sq p q with state := rDisabled }) :=
  congrArg Host.Outcome.next (if_pos (by simp [hstate, howed]))

theorem exec_sqDrained_idle (h : (s.sq p q).state ≠ rDraining ∨ (s.sq p q).owed ≠ 0) : exec (.sqDrained p q) s = .next s :=
  congrArg Host.Outcome.next (if_neg (by simpa [or_iff_not_imp_left] using h))

end

/-- Settles O10: each clause is the branch above that its hypotheses select; CLEAR_ERROR and the configuration registers act alike on both
kinds of ring. -/
theorem ringControl : Obligations.RingControl := by
  refine ⟨fun s p rd c => exec_ringEnable_refused rd, fun s p rd t => exec_ringEnable_sq, fun s p rd c => exec_ringEnable_sqFails,
    fun s p rd hsel hok hidx => ?starts, fun s p rd hsel hok hidx => ?reports, fun s p => exec_ringDisable_sq,
    fun s p => exec_ringDisable_bound, fun s p => exec_ringDisable_inError, fun s p => exec_ringDisable_disables,
    fun s p => exec_ringClearError_clears, fun s p => exec_ringClearError_bound, fun s p => exec_ringClearError_refused,
    fun s p w v => exec_ringConfigWrite_takes w v, fun s p w v => exec_ringConfigWrite_refused w v,
    fun s p w v => exec_windowWrite_takes w v, fun s p w x v => exec_windowWrite_locked w x v,
    fun s p q => exec_sqDrained_disables, fun s p q => exec_sqDrained_idle⟩
  case starts =>
    rw [exec_ringEnable_cq rd hsel hok, if_neg hidx]
    rfl
  case reports =>
    rw [exec_ringEnable_cq rd hsel hok, if_pos hidx, hidx]
    rfl

end Sys2Proof.Machine
end

section
/-!
PROOFS. Doorbells (R139, R150, R154, R155, R158, R159, R774): polls, idle timeouts and kicks of submission rings, rereads of a head record,
and the port's EN bit.
-/
namespace Sys2Proof.Machine

section
variable {s : State} {p : Port} {q : Nat}

/-! ### HOST_CTRL (R774) -/

/-- HOST_CTRL takes its fields, and DRAINED follows. -/
def State.hostCtrl (s : State) (p : Port) (en : Nat) (poll : Byte) (idle : W16) : State :=
  (((s.put Fld.HOST_CTRL__EN p.num en).put Fld.HOST_CTRL__POLL_US p.num poll.toNat).put Fld.HOST_CTRL__IDLE_US p.num idle.toNat).drained p

theorem exec_hostEnable_rechecks (poll : Byte) (idle : W16) (h : s.flag Fld.HOST_CTRL__EN p.num = false) :
    exec (.hostEnable p poll idle) s = .next ((s.hostCtrl p 1 poll idle).recheckRings p) :=
  congrArg Host.Outcome.next (if_neg (by simp [h]))

theorem exec_hostEnable_again (poll : Byte) (idle : W16) (h : s.flag Fld.HOST_CTRL__EN p.num = true) :
    exec (.hostEnable p poll idle) s = .next (s.hostCtrl p 1 poll idle) := congrArg Host.Outcome.next (if_pos h)

theorem exec_hostDisable (poll : Byte) (idle : W16) : exec (.hostDisable p poll idle) s = .next (s.hostCtrl p 0 poll idle) := rfl

/-! ### Polls (R150, R153, R158, R159) -/

theorem exec_sqPoll_idle (tail head : DmaRead) (l : Option (List (Nat × Desc)))
    (h : s.flag Fld.HOST_CTRL__EN p.num = false ∨ (s.host p).holds = true ∨ (s.sq p q).state ≠ rActive) :
    exec (.sqPoll p q tail head l) s = .next s := if_pos (by rcases h with h | h | h <;> simp [h])

/-- The new TAIL of a ring. -/
def State.sqTail (s : State) (p : Port) (q t : Nat) : State := s.setSq p q { s.sq p q with tail := t }

/-- A ring has its turn: the next turn begins behind it (R159). -/
def State.takeTurn (s : State) (p : Port) (q : Nat) : State := s.setHost p { s.host p with rr := q }

/-- What a poll that reads TAIL `t` does: in the ring's turn it fetches the slots that were read, at most eight. -/
def State.polled (s : State) (p : Port) (q : Nat) (head : DmaRead) (l : Option (List (Nat × Desc))) (t : Nat) : State :=
  if ((s.sqTail p q t).host p).turn ≠ some q then s.sqTail p q t
  else l.elim (((s.sqTail p q t).takeTurn p q).sqError p q 6) fun l => ((s.sqTail p q t).takeTurn p q).fetchSlots p q head (l.take 8)

section
variable {tail : DmaRead} {t c : Nat} (head : DmaRead) (l : Option (List (Nat × Desc)))
  (hen : s.flag Fld.HOST_CTRL__EN p.num = true) (hfree : (s.host p).holds = false) (hstate : (s.sq p q).state = rActive)
  (hserves : s.serves = true)
include hen hfree hstate hserves

/-- A poll that has an effect follows what it reads of the ring's record. -/
theorem exec_sqPoll_reads : exec (.sqPoll p q tail head l) s =
    .next ((tailOf (s.sq p q) tail).elim (s.polled p q head l) (s.sqError p q)) := by
  refine (if_neg (by simp [hen, hfree, hstate, hserves])).trans ?_
  cases tailOf (s.sq p q) tail with
  | inl t => cases l <;> exact (apply_ite Host.Outcome.next _ _ _).symm
  | inr c => rfl

theorem exec_sqPoll_fails (htail : tailOf (s.sq p q) tail = .inr c) :
    exec (.sqPoll p q tail head l) s = .next (s.sqError p q c) := by
  rw [exec_sqPoll_reads head l hen hfree hstate hserves, htail, Sum.elim_inr]

variable (htail : tailOf (s.sq p q) tail = .inl t)
include htail

theorem exec_sqPoll_notInTurn (hturn : ((s.sqTail p q t).host p).turn ≠ some q) :
    exec (.sqPoll p q tail head l) s = .next (s.sqTail p q t) := by
  rw [exec_sqPoll_reads head l hen hfree hstate hserves, htail, Sum.elim_inl, State.polled, if_pos hturn]

theorem exec_sqPoll_inTurn (hturn : ((s.sqTail p q t).host p).turn = some q) : exec (.sqPoll p q tail head l) s =
    .next (l.elim (((s.sqTail p q t).takeTurn p q).sqError p q 6)
      fun l => ((s.sqTail p q t).takeTurn p q).fetchSlots p q head (l.take 8)) := by
  rw [exec_sqPoll_reads head l hen hfree hstate hserves, htail, Sum.elim_inl, State.polled, if_neg (not_not.2 hturn)]

end

/-! ### Idling and kicking (R139, R154, R155) -/

theorem exec_sqIdleTimeout_idles {tail : DmaRead} (hstate : (s.sq p q).state = rActive) (hempty : (s.sq p q).idx = (s.sq p q).tail)
    (hfree : (s.host p).holds = false) (hserves : s.serves = true) (htail : tailOf (s.sq p q) tail = .inl (s.sq p q).tail) :
    exec (.sqIdleTimeout p q tail) s =
      .next ((s.emit (.needKick p q true)).setSq p q { s.sq p q with needKick := true, state := rIdle }) := by
  refine (if_neg (by simp [hstate, hempty, hfree, hserves])).trans ?_
  simp only [htail, if_true]

/-- A kick is the wake source of its port (R93). -/
def State.kickSeen (s : State) (p : Port) : State := s.wakeSource (3 + p.num)

/-- A ring that a kick has made ACTIVE, NEED_KICK taken back. -/
def Ring.kicked (r : Ring) : Ring := { r with state := rActive, needKick := false }

theorem exec_sqKick_awake (tail : DmaRead) (h : ((s.kickSeen p).sq p q).state ≠ rIdle) :
    exec (.sqKick p q tail) s = .next (s.kickSeen p) := if_pos h

section
variable {tail : DmaRead} {t : Nat} (hidle : ((s.kickSeen p).sq p q).state = rIdle)
include hidle

theorem exec_sqKick_held (hhold : ((s.kickSeen p).host p).holds = true) :
    exec (.sqKick p q tail) s = .next ((s.kickSeen p).setSq p q { (s.kickSeen p).sq p q with state := rActive }) :=
  (if_neg (not_not.2 hidle)).trans (if_pos hhold)

theorem exec_sqKick_wakes (hfree : ((s.kickSeen p).host p).holds = false)
    (htail : tailOf ((s.kickSeen p).sq p q).kicked tail = .inl t) : exec (.sqKick p q tail) s =
      .next (((s.kickSeen p).emit (.needKick p q false)).setSq p q { ((s.kickSeen p).sq p q).kicked with tail := t }) := by
  refine (if_neg (not_not.2 hidle)).trans ((if_neg (Bool.eq_false_iff.1 hfree)).trans ?_)
  simp only [Ring.kicked, State.kickSeen] at htail ⊢
  simp only [htail]

end

/-! ### Head records (R158, R775) -/

theorem exec_cqHeadPoll_idle {c : Nat} (head : DmaRead)
    (h : (s.cq p c).state ≠ rActive ∨ (s.host p).holds = true ∨ s.needsHead p c = false) :
    exec (.cqHeadPoll p c head) s = .next s := if_pos (by rcases h with h | h | h <;> simp [h])

theorem exec_cqHeadPoll_reads {c : Nat} (head : DmaRead) (hstate : (s.cq p c).state = rActive) (hfree : (s.host p).holds = false)
    (hneed : s.needsHead p c = true) : exec (.cqHeadPoll p c head) s = .next ((s.readHead p c head).resumeSqs p c) :=
  if_neg (by simp [hstate, hfree, hneed])

end

/-- Settles O11: each clause is the branch above that its hypotheses select. -/
theorem doorbells : Obligations.Doorbells :=
  ⟨fun _ _ poll idle => exec_hostEnable_rechecks poll idle, fun _ _ poll idle => exec_hostEnable_again poll idle,
    fun _ _ poll idle => exec_hostDisable poll idle, fun _ _ _ _ _ head l => exec_sqPoll_inTurn head (some l),
    fun _ _ _ _ _ head l => exec_sqPoll_notInTurn head l, fun _ _ _ _ _ head => exec_sqPoll_inTurn head none,
    fun _ _ _ tail head l => exec_sqPoll_idle tail head l, fun _ _ _ _ _ head l => exec_sqPoll_fails head l,
    fun _ _ _ _ => exec_sqIdleTimeout_idles, fun _ _ _ _ _ => exec_sqKick_wakes, fun _ _ _ _ => exec_sqKick_held,
    fun _ _ _ tail => exec_sqKick_awake tail, fun _ _ _ head => exec_cqHeadPoll_idle head,
    fun _ _ _ head => exec_cqHeadPoll_reads head⟩

end Sys2Proof.Machine
end

section
/-!
PROOFS. Host events (R139, R165, R166, R171, R172, R176): interrupts, Bus Master Enable and D3hot, failover, NOP and TIME_SET.
-/
namespace Sys2Proof.Machine

/-! ### Bus Master Enable and D3hot: what is released when a hold ends leaves them (R139) -/

/-- What decides whether a port holds its DMA traffic: Bus Master Enable and D3hot. -/
def State.holdFlags (s : State) (p : Port) : Bool × Bool := ((s.host p).bme, (s.host p).d3hot)

theorem State.holdFlags_setHost {s : State} {q : Port} {h : HostSt} (hb : h.bme = (s.host q).bme) (hd : h.d3hot = (s.host q).d3hot)
    (p : Port) : (s.setHost q h).holdFlags p = s.holdFlags p := by
  cases p <;> cases q
  case h0.h0 => exact Prod.ext hb hd
  case h1.h1 => exact Prod.ext hb hd
  case h0.h1 => rfl
  case h1.h0 => rfl

section
variable (s : State) (q p : Port)

@[simp] theorem State.put_holdFlags (f : Fld) (i v : Nat) : (s.put f i v).holdFlags p = s.holdFlags p := rfl
@[simp] theorem State.putB_holdFlags (f : Fld) (i : Nat) (b : Bool) : (s.putB f i b).holdFlags p = s.holdFlags p := rfl
@[simp] theorem State.bump_holdFlags (f : Fld) (i n : Nat) : (s.bump f i n).holdFlags p = s.holdFlags p := rfl
@[simp] theorem State.emit_holdFlags (o : Out) : (s.emit o).holdFlags p = s.holdFlags p := rfl

@[simp] theorem State.holdFlags_ite (c : Prop) [Decidable c] (s t : State) :
    (if c then s else t).holdFlags p = if c then s.holdFlags p else t.holdFlags p := apply_ite (State.holdFlags · p) c s t

@[simp] theorem State.foldl_holdFlags {α : Type} (g : State → α → State) (h : ∀ s a, (g s a).holdFlags p = s.holdFlags p)
    (l : List α) : (l.foldl g s).holdFlags p = s.holdFlags p :=
  (List.foldl_hom (State.holdFlags · p) (g₂ := fun x _ => x) fun s a => (h s a).symm).symm.trans (List.foldl_fixed _)

@[simp] theorem State.setSq_holdFlags (k : Nat) (r : Ring) : (s.setSq q k r).holdFlags p = s.holdFlags p := by
  simp [State.setSq, State.holdFlags_setHost]
@[simp] theorem State.setCq_holdFlags (k : Nat) (r : Ring) : (s.setCq q k r).holdFlags p = s.holdFlags p := by
  simp [State.setCq, State.holdFlags_setHost]

@[simp] theorem State.sendMsix_holdFlags (v : Nat) : (s.sendMsix q v).holdFlags p = s.holdFlags p := by
  simp [State.sendMsix, State.holdFlags_setHost]
@[simp] theorem State.msixRelease_holdFlags : (s.msixRelease q).holdFlags p = s.holdFlags p := by
  rw [State.msixRelease, State.foldl_holdFlags _ _ _ (by simp)]
  simp [State.holdFlags_setHost]
@[simp] theorem State.signal_holdFlags (v : Nat) : (s.signal q v).holdFlags p = s.holdFlags p := by
  simp [State.signal, State.holdFlags_setHost]
@[simp] theorem State.writeEntry_holdFlags (c : Nat) (e : Entry) (now : Bool) : (s.writeEntry q c e now).holdFlags p = s.holdFlags p := by
  simp [State.writeEntry]
@[simp] theorem State.loseEvent_holdFlags : (s.loseEvent q).holdFlags p = s.holdFlags p := by
  simp [State.loseEvent, State.holdFlags_setHost]
@[simp] theorem State.reportLost_holdFlags : (s.reportLost q).holdFlags p = s.holdFlags p := by
  simp [State.reportLost, State.holdFlags_setHost]
@[simp] theorem State.writeCpl_holdFlags (c : Cpl) : (s.writeCpl c).holdFlags p = s.holdFlags p := by simp [State.writeCpl]
@[simp] theorem State.releaseHeld_holdFlags : (s.releaseHeld q).holdFlags p = s.holdFlags p := by
  simp [State.releaseHeld, State.holdFlags_setHost]
@[simp] theorem State.kicksDone_holdFlags : (s.kicksDone q).holdFlags p = s.holdFlags p := by simp [State.kicksDone]

/-- A change of what a port holds sets both flags, and the release of what was held keeps them. -/
theorem State.setHolding_holdFlags (b d : Bool) : (s.setHolding p b d).holdFlags p = (b, d) := by
  have hset : (s.setHost p { s.host p with bme := b, d3hot := d }).holdFlags p = (b, d) := by cases p <;> rfl
  simp [State.setHolding, hset]

end

section
variable {s : State} {p : Port}

theorem State.setHolding_shows (b d : Bool) : ((s.setHolding p b d).host p).bme = b ∧ ((s.setHolding p b d).host p).d3hot = d :=
  Prod.mk.inj (s.setHolding_holdFlags p b d)

/-! ### Interrupts (R171, R172) -/

theorem exec_interruptModerationTimeout_signals {c : Nat} (h : (s.cq p c).unsig ≠ 0) : exec (.interruptModerationTimeout p c) s =
    .next ((s.setCq p c { s.cq p c with unsig := 0 }).signal p (s.cq p c).vector) := congrArg Host.Outcome.next (if_neg h)

theorem exec_interruptModerationTimeout_idle {c : Nat} (h : (s.cq p c).unsig = 0) :
    exec (.interruptModerationTimeout p c) s = .next s := congrArg Host.Outcome.next (if_pos h)

/-! ### Failover (R176) -/

theorem exec_eventFailover_fails (hms : s.get Fld.HOST_EVT_CFG__FAILOVER_MS p.num ≠ 0) (hfirst : (s.host p).failedOver = false)
    (hdown : s.get Fld.HOST_STATUS__LINK_STATE p.num = 0 ∨ (s.host p).bme = false) : exec (.eventFailover p) s =
      .next (((s.setHost p { s.host p with failedOver := true }).put Fld.HOST_STATUS__EVT_FAILOVER p.other.num 1).eventTo p.other
        { code := 0xD03, sev := 1, obj := p.num }) :=
  if_neg (by rcases hdown with h | h <;> simp [hms, hfirst, h])

theorem exec_eventFailover_idle (h : s.get Fld.HOST_EVT_CFG__FAILOVER_MS p.num = 0 ∨ (s.host p).failedOver = true ∨
    (s.get Fld.HOST_STATUS__LINK_STATE p.num ≠ 0 ∧ (s.host p).bme = true)) : exec (.eventFailover p) s = .next s :=
  if_pos (by rcases h with h | h | ⟨hlink, hbme⟩ <;> simp [*])

/-! ### NOP and TIME_SET (R165, R166) -/

/-- A descriptor that a poll has fetched and checked runs its own meaning, under the number that it was fetched with (R159). -/
theorem State.withDesc_fetched {op : Nat} {d : Desc} {f : Fetched} (k : Ticket → State → State) (hserves : s.serves = true)
    (hfind : (s.host d.port).fetched.find? (fun f => f.op == op && f.d == d) = some f) (hwaits : s.descWaits op d f.n = false)
    (hchecked : f.checked = true) : s.withDesc op d k =
      k { (s.dropFetched d.port f).ticket d with epoch := f.epoch, n := f.n } (s.dropFetched d.port f) := by
  simp only [State.withDesc, hserves, hfind, hwaits, hchecked, Bool.not_true, Bool.false_eq_true, if_false, if_true]

variable {d : Desc}

theorem exec_nop (h : s.accepts 0x00 d = true) : exec (.nop d) s = .next ((s.taken d).fin ((s.taken d).ticket d) stDone) :=
  State.accepted_runs rfl h rfl

theorem exec_nop_fetched {f : Fetched} (hserves : s.serves = true)
    (hfind : (s.host d.port).fetched.find? (fun f => f.op == 0x00 && f.d == d) = some f) (hwaits : s.descWaits 0x00 d f.n = false)
    (hchecked : f.checked = true) : exec (.nop d) s =
      .next ((s.dropFetched d.port f).fin { (s.dropFetched d.port f).ticket d with epoch := f.epoch, n := f.n } stDone) :=
  congrArg Host.Outcome.next (State.withDesc_fetched _ hserves hfind hwaits hchecked)

section
variable (h : s.accepts 0x01 d = true)
include h

theorem exec_timeSet_waits (hfree : (s.taken d).ptpDisciplines = false) : exec (.timeSet d) s =
    .next { s.taken d with timeSets := (s.taken d).timeSets ++ [((s.taken d).ticket d, DescF.par d 0 8)] } :=
  State.accepted_runs rfl h (if_neg (Bool.eq_false_iff.1 hfree))

theorem exec_timeSet_refused (hptp : (s.taken d).ptpDisciplines = true) : exec (.timeSet d) s =
    .next ((s.taken d).complete { t := (s.taken d).ticket d, status := stConflict, winner := srcFirmware }) :=
  State.accepted_runs rfl h (if_pos hptp)

end

end

/-- Settles O12: each clause is the branch above that its hypotheses select; an end of the hold writes what the port held and leaves
Bus Master Enable and D3hot. -/
theorem hostEvents : Obligations.HostEvents :=
  ⟨fun _ _ _ => exec_interruptModerationTimeout_signals, fun _ _ _ => exec_interruptModerationTimeout_idle, fun _ _ _ => rfl,
    fun _ _ => rfl, fun _ _ b d => State.setHolding_shows b d, fun _ _ _ => rfl, fun _ _ => exec_eventFailover_fails,
    fun _ _ => exec_eventFailover_idle, fun _ _ => exec_nop, fun _ _ => exec_timeSet_waits, fun _ _ => exec_timeSet_refused,
    fun _ _ _ => exec_nop_fetched⟩

end Sys2Proof.Machine
end

section
/-!
PROOFS. Ethernet ports (R73, R93, R184 to R188): links, the receive filter, PTP frames and the management interface.
-/
namespace Sys2Proof.Machine

section
variable {s : State} {p : Nat}

/-! ### Links (R184) -/

/-- A port's link comes up with its SerDes PLL locked, or goes down, and its event says which. -/
theorem exec_ethLink_changes {phy : Option (Nat × Bool)} (hnew : s.flag Fld.ETH_STATUS__LINK p ≠ (phy == some (1000, true)))
    (hrun : phy = some (1000, true) → s.dieRuns .cdie = true) : exec (.ethLink p phy) s =
      .next (if phy == some (1000, true)
        then ((s.putB Fld.ETH_STATUS__LINK p true).put Fld.CLK_STATUS__SERDES_PLL_LOCK 0 1).postBoth
          { code := 0x009, sev := 0, obj := p, data := 1 }
        else (s.putB Fld.ETH_STATUS__LINK p false).postBoth { code := 0x009, sev := 1, obj := p, data := 0 }) := by
  refine (if_neg (by simpa [hnew] using hrun)).trans ?_
  cases phy == some (1000, true) <;> rfl

theorem exec_ethLink_same {phy : Option (Nat × Bool)} (h : s.flag Fld.ETH_STATUS__LINK p = (phy == some (1000, true))) :
    exec (.ethLink p phy) s = .next s := if_pos (by simp [h])

/-! ### Received frames (R93, R185) -/

theorem exec_ethFrameRx_drops {f : EthFrame} (h : s.ethFilter p f = false ∨ 1522 < f.len ∨ 1 < f.vlanTags) :
    exec (.ethFrameRx p f) s = .next (s.bump Fld.ETH_RX_DROPPED__VALUE p 1) := if_pos (by rcases h with h | h | h <;> simp [h])

/-- Counting a received frame leaves the power state. -/
theorem State.bump_rxFrames_pwr : (s.bump Fld.ETH_RX_FRAMES__VALUE p 1).pwr = s.pwr :=
  State.get_put_apart _ _ _ _ (by decide) (.inl (by decide))

/-- A frame that passed: it is counted, and is wake source 5. -/
def State.rxCounted (s : State) (p : Nat) : State := (s.bump Fld.ETH_RX_FRAMES__VALUE p 1).wakeSource 5

theorem State.rxCounted_cfg : (s.rxCounted p).cfg = s.cfg := State.wakeSource_cfg _ _

section
variable {f : EthFrame} (hlen : f.len ≤ 1522) (htags : f.vlanTags ≤ 1) (hpass : s.ethFilter p f = true)
include hlen htags hpass

/-- A frame that passes is counted; it goes on by its EtherType. Only a PTP event message in Sleep wakes nothing. -/
theorem exec_ethFrameRx_passes (hwakes : ¬(s.pwr = 2 ∧ f.etherType = 0x88F7 ∧ f.ptpEvent = true)) : exec (.ethFrameRx p f) s =
    .next (if f.etherType = 0x88F7 then (s.rxCounted p).bump Fld.ETH_PTP_RX__VALUE p 1
      else if f.etherType = 0x88B5 ∧ s.cfg.fedSources.contains f.src = true then s.rxCounted p
      else (s.rxCounted p).bump Fld.ETH_RX_DROPPED__VALUE p 1) := by
  have hcount : (if (decide ((s.bump Fld.ETH_RX_FRAMES__VALUE p 1).pwr = 2) && f.etherType == 0x88F7 && f.ptpEvent) = true
      then s.bump Fld.ETH_RX_FRAMES__VALUE p 1 else (s.bump Fld.ETH_RX_FRAMES__VALUE p 1).wakeSource 5) = s.rxCounted p :=
    if_neg (by rw [State.bump_rxFrames_pwr]; simpa [and_assoc] using hwakes)
  refine (if_neg (by simp [hpass]; omega)).trans ?_
  simp only [hcount]
  simp only [State.rxCounted_cfg, Bool.and_eq_true, decide_eq_true_eq, apply_ite Host.Outcome.next]

theorem exec_ethFrameRx_ptp (htype : f.etherType = 0x88F7) (hawake : s.pwr ≠ 2) :
    exec (.ethFrameRx p f) s = .next ((s.rxCounted p).bump Fld.ETH_PTP_RX__VALUE p 1) := by
  rw [exec_ethFrameRx_passes hlen htags hpass (by simp [hawake]), if_pos htype]

theorem exec_ethFrameRx_federation (htype : f.etherType = 0x88B5) (hsrc : s.cfg.fedSources.contains f.src = true) :
    exec (.ethFrameRx p f) s = .next (s.rxCounted p) := by
  rw [exec_ethFrameRx_passes hlen htags hpass (by simp [htype]), if_neg (by simp [htype]), if_pos ⟨htype, hsrc⟩]

theorem exec_ethFrameRx_unknown (hptp : f.etherType ≠ 0x88F7) (hfed : f.etherType ≠ 0x88B5) :
    exec (.ethFrameRx p f) s = .next ((s.rxCounted p).bump Fld.ETH_RX_DROPPED__VALUE p 1) := by
  rw [exec_ethFrameRx_passes hlen htags hpass (by simp [hptp]), if_neg hptp, if_neg (by simp [hfed])]

end

/-! ### What a PTP message meets (R73, R81, R93) -/

/-- Outside Sleep a message of a port with its link is handled at once. -/
theorem State.orHold_runs (m : PtpHeld) (k : State → State) (hon : s.ptpOn p = true) (hawake : s.pwr ≠ 2) :
    s.orHold p m k = k s := (if_neg (by simp [hon])).trans (if_neg hawake)

theorem State.orHold_off (m : PtpHeld) (k : State → State) (h : s.ptpOn p = false) : s.orHold p m k = s := if_pos (by simp [h])

/-- A frame that is sent is counted. -/
theorem State.ethSend_counts (k : Nat) (b : List Nat) (hon : s.ptpOn p = true) (hawake : s.pwr ≠ 2) :
    s.ethSend p k b = (s.bump Fld.ETH_TX_FRAMES__VALUE p 1).emit (.ethTx p k b) := if_neg (by simp [hon, hawake])

/-! ### As slave (R187) -/

section
variable (off trim rx : Int)

theorem exec_ptpSync_oneStep (hon : s.ptpOn p = true) (hawake : s.pwr ≠ 2) :
    exec (.ptpSync p false rx off trim) s = .next (s.servo p off trim) :=
  congrArg Host.Outcome.next (State.orHold_runs _ _ hon hawake)

theorem exec_ptpSync_twoStep (hon : s.ptpOn p = true) (hawake : s.pwr ≠ 2) :
    exec (.ptpSync p true rx off trim) s = .next (s.setPtp p { s.ptp p with syncRx := some rx }) :=
  congrArg Host.Outcome.next (State.orHold_runs _ _ hon hawake)

theorem exec_ptpSync_off (two : Bool) (h : s.ptpOn p = false) : exec (.ptpSync p two rx off trim) s = .next s :=
  congrArg Host.Outcome.next (State.orHold_off _ _ h)

variable {rx}

theorem exec_ptpFollowUp_completes (hsync : (s.ptp p).syncRx = some rx) (hon : s.ptpOn p = true) (hawake : s.pwr ≤ 1) :
    exec (.ptpFollowUp p off trim) s = .next ((s.setPtp p { s.ptp p with syncRx := none }).servo p off trim) := by
  change execPtpFollowUp p off trim s = _
  rw [execPtpFollowUp, hsync]
  exact congrArg Host.Outcome.next (if_pos (by simp [hon, hawake]))

end

section
variable (hslave : s.get Fld.ETH_STATUS__PTP_STATE p = 8 ∨ s.get Fld.ETH_STATUS__PTP_STATE p = 9)
include hslave

theorem exec_ptpDelayResp_takes (delay : Nat) (hon : s.ptpOn p = true) :
    exec (.ptpDelayResp p delay) s = .next (s.setReg .ETH_PATH p (BitVec.ofNat 32 delay)) :=
  congrArg Host.Outcome.next (if_pos (by simpa [hon] using hslave))

theorem exec_ptpDelayReqTransmit_sends : exec (.ptpDelayReqTransmit p) s = .next (s.ethSend p 1 []) :=
  congrArg Host.Outcome.next (if_pos (by simpa using hslave))

end

/-- The events of PTP write no plain register. -/
theorem State.ptpChanged_get (s old : State) (p : Nat) (stepped : Bool) {f : Fld} (i : Nat) (h : plainReg f.reg = true) :
    (s.ptpChanged old p stepped).get f i = s.get f i := by
  rw [State.ptpChanged]
  split
  · rfl
  · exact State.postBoth_get _ _ _ h

theorem State.ptpReport_get (s old : State) {f : Fld} (i : Nat) (h : plainReg f.reg = true) :
    (s.ptpReport old).get f i = s.get f i := by
  rw [State.ptpReport, State.ptpChanged_get _ _ _ _ _ h, State.ptpChanged_get _ _ _ _ _ h]

theorem State.setPtp_get (s : State) (p : Nat) (x : PtpSt) (f : Fld) (i : Nat) : (s.setPtp p x).get f i = s.get f i :=
  State.get_congr _ _ rfl

theorem exec_ptpSyncTimeout_unlocks : ∃ t, exec (.ptpSyncTimeout p) s = .next t ∧ t.get Fld.ETH_STATUS__LOCKED p = 0 := by
  refine ⟨_, rfl, ?_⟩
  rw [State.ptpReport_get _ _ _ (by decide), State.setPtp_get, State.get_put_same _ _ _ (by decide), Nat.zero_mod]

/-! ### The best-master algorithm (R186) -/

section
variable (st : Nat) (hen : s.flag Fld.ETH_CFG__PTP_EN p = true) (hawake : s.pwr ≤ 1)
include hen hawake

theorem exec_ptpAnnounce_decides (hon : s.ptpOn p = true) :
    exec (.ptpAnnounce p st) s = .next ((s.setPtpState p st).ptpReport s) :=
  congrArg Host.Outcome.next (if_pos (by simp [hen, hawake, hon]))

theorem exec_announceReceiptTimeout_decides :
    exec (.announceReceiptTimeout p st) s = .next ((s.setPtpState p st).ptpReport s) :=
  congrArg Host.Outcome.next (if_pos (by simp [hen, hawake]))

end

/-! ### As master (R186) -/

section
variable (hmaster : s.isMaster p = true)
include hmaster

theorem exec_ptpDelayReq_answers (hon : s.ptpOn p = true) (hawake : s.pwr ≠ 2) :
    exec (.ptpDelayReq p) s = .next (s.ptpNow.2.ethSend p 9 s.ptpNow.1) :=
  congrArg Host.Outcome.next ((State.orHold_runs _ _ hon hawake).trans (if_pos hmaster))

theorem exec_ptpSyncTransmit_sends :
    exec (.ptpSyncTransmit p) s = .next ((s.ptpNow.2.ethSend p 0 []).ethSend p 8 s.ptpNow.1) :=
  congrArg Host.Outcome.next (if_pos hmaster)

theorem exec_ptpAnnounceTransmit_sends : exec (.ptpAnnounceTransmit p) s = .next (s.ethSend p 11 (s.announced p)) :=
  congrArg Host.Outcome.next (if_pos hmaster)

end

/-! ### The management interface (R188) -/

theorem exec_mdioFrame_starts (v : W32) (h : s.flag Fld.ETH_MDIO__GO 0 = false) :
    exec (.mdioFrame v) s = .next ((s.setReg .ETH_MDIO 0 ((v &&& 0x7FF0FFFF) ||| 0x80000000)).emit (.mdio v)) :=
  if_neg (Bool.eq_false_iff.1 h)

theorem exec_mdioFrameDone_reads (x : W16) (hgo : s.flag Fld.ETH_MDIO__GO 0 = true)
    (hread : (s.put Fld.ETH_MDIO__GO 0 0).flag Fld.ETH_MDIO__WRITE 0 = false) : exec (.mdioFrameDone x) s =
      .next ((s.put Fld.ETH_MDIO__GO 0 0).put Fld.ETH_MDIO__DATA 0 x.toNat) :=
  (if_neg (by simp [hgo])).trans (congrArg Host.Outcome.next (if_neg (Bool.eq_false_iff.1 hread)))

end

/-- Settles O13: each clause is the branch above that its hypotheses select. -/
theorem ethernetPorts : Obligations.EthernetPorts :=
  ⟨fun _ _ _ => exec_ethLink_changes, fun _ _ _ => exec_ethLink_same, fun _ _ _ => exec_ethFrameRx_ptp,
    fun _ _ _ => exec_ethFrameRx_federation, fun _ _ _ => exec_ethFrameRx_unknown, fun _ _ _ => exec_ethFrameRx_drops,
    fun _ _ rx off trim => exec_ptpSync_oneStep off trim rx, fun _ _ rx off trim => exec_ptpSync_twoStep off trim rx,
    fun _ _ two rx off trim => exec_ptpSync_off off trim rx two, fun _ _ _ off trim => exec_ptpFollowUp_completes off trim,
    fun _ _ st hen hon hawake => exec_ptpAnnounce_decides st hen hawake hon,
    fun _ _ st => exec_announceReceiptTimeout_decides st, fun _ _ => exec_ptpDelayReq_answers,
    fun _ _ delay hslave => exec_ptpDelayResp_takes hslave delay, fun _ _ => exec_ptpSyncTransmit_sends,
    fun _ _ => exec_ptpAnnounceTransmit_sends, fun _ _ k b => State.ethSend_counts k b,
    fun _ _ _ => exec_ptpSyncTimeout_unlocks, fun _ _ => exec_ptpDelayReqTransmit_sends, fun _ v => exec_mdioFrame_starts v,
    fun _ x => exec_mdioFrameDone_reads x⟩

end Sys2Proof.Machine
end

section
/-!
PROOFS. What each operation that stores keeps of memory's one form (R207), one lemma for each, in the order of the definitions: `foo_wf` of an
operation and `execFoo_keepsForm` of a command. Memory is read off the frame, which every other operation is known to keep.
-/
namespace Sys2Proof.Machine

theorem State.memOk_iff_frame (s : State) : s.memOk ↔ Memory.wf s.frame.2 = true := by rw [State.memOk, State.frame]

/-- A command answers a next state whose memory is in its one form. -/
def KeepsForm (r : Res) : Prop := ∃ t, r = .next t ∧ Memory.wf t.frame.2 = true

@[simp] theorem keepsForm_next (t : State) : KeepsForm (.next t) ↔ Memory.wf t.frame.2 = true := by simp [KeepsForm]

theorem Keeps.keepsForm {s : State} {r : Res} (hr : Keeps s r) (hs : Memory.wf s.frame.2 = true) : KeepsForm r := by
  obtain ⟨t, h, ht⟩ := hr
  exact ⟨t, h, by rw [ht, hs]⟩

theorem ranTo_wf {s : State} {r : Res} (h : KeepsForm r) : Memory.wf (ranTo s r).frame.2 = true := by
  obtain ⟨t, rfl, ht⟩ := h
  exact ht

/-- A choice between two states, both with memory in its form. -/
theorem State.wf_ite {c : Prop} [Decidable c] {t u : State} (ht : Memory.wf t.frame.2 = true) (hu : Memory.wf u.frame.2 = true) :
    Memory.wf (if c then t else u).frame.2 = true := by split <;> assumption

theorem State.foldl_wf {α : Type} (g : State → α → State)
    (h : ∀ s a, Memory.wf s.frame.2 = true → Memory.wf (g s a).frame.2 = true) (l : List α) (s : State)
    (hs : Memory.wf s.frame.2 = true) : Memory.wf (l.foldl g s).frame.2 = true := by
  induction l generalizing s with
  | nil => exact hs
  | cons a l ih => exact ih _ (h s a hs)

/-! ### Engines (Machine/Engine.lean) -/

section
variable {s : State} (hs : Memory.wf s.frame.2 = true)
include hs

theorem State.runs_wf {n : Nat} {k : Engine → State → State} (h : ∀ e, Memory.wf (k e s).frame.2 = true) :
    Memory.wf (s.runs n k).frame.2 = true := by
  unfold State.runs
  split
  · exact hs
  · split <;> simp [hs, h]

theorem State.checked_wf {n a len cause : Nat} {k : AccKind} {go : Place → State → State}
    (h : ∀ p, Memory.wf (go p s).frame.2 = true) : Memory.wf (s.checked n a len k cause go).frame.2 = true := by
  simp only [State.checked]
  split
  · simp [hs]
  · repeat' split
    all_goals simp [hs, h]

@[simp] theorem State.memStore_wf (n a : Nat) (bytes : List Byte) : Memory.wf (s.memStore n a bytes).frame.2 = true := by
  have h : Memory.wf (memWriteL s.mem a bytes) = true := memWriteL_wf bytes a hs
  simpa [State.memStore] using h

@[simp] theorem State.drainOne_wf (n : Nat) : Memory.wf (s.drainOne n).frame.2 = true := by
  unfold State.drainOne
  split <;> simp [hs]

@[simp] theorem State.drainSb_wf (n : Nat) : Memory.wf (s.drainSb n).frame.2 = true :=
  State.foldl_wf _ (fun s x hs => by simp [hs]) _ _ hs

@[simp] theorem State.bufferStore_wf (n a : Nat) (bytes : List Byte) : Memory.wf (s.bufferStore n a bytes).frame.2 = true := by
  simp only [State.bufferStore, State.setCore_frame]
  exact State.wf_ite (State.drainOne_wf hs n) hs

@[simp] theorem State.storeInstr_wf (n : Nat) (op : StoreOp) (rs2 rs1 : Nat) (imm : W32) (rivals : List (List Nat)) (len : W32) :
    Memory.wf (s.storeInstr n op rs2 rs1 imm rivals len).frame.2 = true := by
  refine State.runs_wf hs fun e => State.checked_wf hs fun p => ?_
  cases p with
  | mem at_ amo =>
    rw [State.setCore_frame]
    exact State.foldl_wf _ (fun s x hs => State.bufferStore_wf hs _ _ _) _ _ (by simp [hs])
  | io off => simp [apply_ite, hs]
  | absent => exact hs

theorem State.atomicAt_wf {n a : Nat} {lr : Bool} {go : Nat → State → State} (h : ∀ p, Memory.wf (go p s).frame.2 = true) :
    Memory.wf (s.atomicAt n a lr go).frame.2 = true := by
  unfold State.atomicAt
  split
  · simp [hs]
  · exact State.checked_wf hs fun p => by split <;> simp [h, hs]

@[simp] theorem execStore_keepsForm (n : Nat) (op : StoreOp) (rs2 rs1 : Nat) (imm : W32) (rivals : List (List Nat)) :
    KeepsForm (execStore n op rs2 rs1 imm rivals s) := (keepsForm_next _).2 (State.storeInstr_wf hs _ _ _ _ _ _ _)

@[simp] theorem execLr_keepsForm (n rd rs1 : Nat) (rivals : List (List Nat)) : KeepsForm (execLr n rd rs1 rivals s) :=
  (keepsForm_next _).2 (State.runs_wf hs fun e => State.atomicAt_wf hs fun a => by simp [hs])

@[simp] theorem execSc_keepsForm (n rd rs2 rs1 : Nat) (rivals : List (List Nat)) : KeepsForm (execSc n rd rs2 rs1 rivals s) :=
  (keepsForm_next _).2 (State.runs_wf hs fun e => State.atomicAt_wf hs fun a => by dsimp only; split <;> simp [hs])

@[simp] theorem execAmo_keepsForm (n : Nat) (op : AmoOp) (rd rs2 rs1 : Nat) (rivals : List (List Nat)) :
    KeepsForm (execAmo n op rd rs2 rs1 rivals s) :=
  (keepsForm_next _).2 (State.runs_wf hs fun e => State.atomicAt_wf hs fun a => by simp [hs])

@[simp] theorem execFence_keepsForm (n : Nat) (predR predW : Bool) : KeepsForm (execFence n predR predW s) :=
  (keepsForm_next _).2 (State.runs_wf hs fun e => by cases predW <;> simp [hs])

@[simp] theorem execFenceI_keepsForm (n : Nat) : KeepsForm (execFenceI n s) :=
  (keepsForm_next _).2 (State.runs_wf hs fun e => by simp [hs])

/-! ### Jobs and application loads (Machine/Jobs.lean) -/

@[simp] theorem execReadSnapshot_keepsForm (n : Nat) : KeepsForm (execReadSnapshot n s) := by
  refine (keepsForm_next _).2 (State.runs_wf hs fun e => ?_)
  split
  · simp [hs]
  · dsimp only
    split
    · simp [hs]
    · split <;> simp [hs]

@[simp] theorem State.writeImages_wf (l : AppLoad) (n : Nat) : Memory.wf (s.writeImages l n).frame.2 = true := by
  have h : Memory.wf (memWriteL (memWriteL s.mem (privAddr n 0) l.imem) (privAddr n 0x10000) l.dmem) = true :=
    memWriteL_wf _ _ (memWriteL_wf _ _ hs)
  simpa [State.writeImages] using h

@[simp] theorem State.appLoadBoundary_wf : Memory.wf s.appLoadBoundary.frame.2 = true := by
  unfold State.appLoadBoundary
  refine State.foldl_wf _ (fun s l hs => ?_) _ _ (by simp [hs])
  refine State.foldl_wf _ (fun s n hs => ?_) _ _ hs
  exact State.wf_ite (State.writeImages_wf hs _ _) hs

/-! ### The start from Off (Machine/Domains.lean, Machine/PowerState.lean) -/

omit hs in
/-- After the start from Off memory is empty. -/
@[simp] theorem State.startFromOff_wf : Memory.wf s.startFromOff.frame.2 = true := by
  simp only [State.startFromOff]
  split <;> simp [Memory.wf, memWfFrom]

@[simp] theorem execWakeBallAssert_keepsForm : KeepsForm (execWakeBallAssert s) := by
  simp only [execWakeBallAssert]
  repeat' split
  all_goals simp [hs]

/-! ### Accesses (Machine/Access.lean) -/

theorem State.served_wf {w : Accessor} {a : Nat} {k : State → State}
    (h : ∀ s, Memory.wf s.frame.2 = true → Memory.wf (k s).frame.2 = true) : Memory.wf (s.served w a k).frame.2 = true := by
  simp only [State.served]
  repeat' split
  · exact hs
  · simp [hs]
  · exact h _ (by simp [hs])

@[simp] theorem State.aperWrite_wf (p : Port) (off : Nat) (be : BitVec 4) (v : W32) (rivals : List Nat) :
    Memory.wf (s.aperWrite p off be v rivals).frame.2 = true := by
  unfold State.aperWrite
  split
  · simp [hs]
  · exact State.foldl_wf _ (fun s k hs => State.wf_ite (State.memStore_wf hs _ _ _) hs) _ _ (by simp [hs])

@[simp] theorem execSpadApertureAccess_keepsForm (p : Port) (off : Nat) (w : Option (BitVec 4 × W32)) (rivals : List Nat) :
    KeepsForm (execSpadApertureAccess p off w rivals s) := by
  cases w with
  | some x => exact (keepsForm_next _).2 (State.served_wf hs fun s hs => State.aperWrite_wf hs ..)
  | none => exact (keepsForm_next _).2 (by simp [hs])

@[simp] theorem State.writeAt_wf (w : Accessor) (a : Nat) (v : W32) (rd : DmaRead) : Memory.wf (s.writeAt w a v rd).frame.2 = true := by
  refine State.served_wf hs fun s hs => ?_
  split
  · simp [hs]
  · split
    · cases w with
      | firmware => exact hs
      | host q =>
        dsimp only
        split
        · simp [hs]
        · split
          · simp [hs]
          · split <;> simp [hs]
    · split
      · cases w <;> simp [hs]
      · split <;> simp [hs]

@[simp] theorem execRegisterWrite_keepsForm (w : Accessor) (a : Nat) (be : BitVec 4) (v : W32) (rd : DmaRead) :
    KeepsForm (execRegisterWrite w a be v rd s) := by
  simp only [execRegisterWrite]
  repeat' split
  all_goals simp [hs]

/-! ### Running a word (Machine/Rv32.lean) -/

theorem State.fetchAt_wf {n a len : Nat} {k : State → State} (h : Memory.wf (k s).frame.2 = true) :
    Memory.wf (s.fetchAt n a len k).frame.2 = true := by
  unfold State.fetchAt
  split
  · simp [hs]
  · split <;> simp [hs, h]

@[simp] theorem State.atomicOp_wf (n w : Nat) (rivals : List (List Nat)) : Memory.wf (s.atomicOp n w rivals).frame.2 = true := by
  have amo (o : AmoOp) {rd r1 r2 : Nat} : Memory.wf (ranTo s (execAmo n o rd r2 r1 rivals s)).frame.2 = true :=
    ranTo_wf (execAmo_keepsForm hs ..)
  unfold State.atomicOp
  extract_lets rd r1 r2 amo'
  split
  · exact State.wf_ite (ranTo_wf (execLr_keepsForm hs ..)) (by simp [hs])
  · exact ranTo_wf (execSc_keepsForm hs ..)
  all_goals simp [amo', amo, hs]

@[simp] theorem State.ecall_wf (n : Nat) : Memory.wf (s.ecall n).frame.2 = true := by
  simp only [State.ecall]
  split
  · simp [hs]
  · split
    case h_4 => exact ranTo_wf (execReadSnapshot_keepsForm hs n)
    all_goals simp [hs]

@[simp] theorem State.system_wf (n w : Nat) : Memory.wf (s.system n w).frame.2 = true := by
  simp only [State.system]
  split
  · split <;> simp [hs, apply_ite]
  · split <;> simp [hs]

@[simp] theorem State.execWord_wf (n w : Nat) (len : W32) (rivals : List (List Nat)) :
    Memory.wf (s.execWord n w len rivals).frame.2 = true := by
  simp only [State.execWord]
  repeat' split
  all_goals simp [hs, ranTo_wf]

@[simp] theorem State.engineStep_wf (n : Nat) (rivals : List (List Nat)) : Memory.wf (s.engineStep n rivals).frame.2 = true := by
  refine State.runs_wf hs fun e => State.fetchAt_wf hs ?_
  dsimp only
  split
  · exact State.fetchAt_wf hs (State.execWord_wf hs ..)
  · split <;> simp [hs]

/-! ### The control-cycle boundary (Machine/Boundary.lean) -/

@[simp] theorem State.engineWork_wf : Memory.wf s.engineWork.frame.2 = true := by
  have h : Memory.wf (s.eng.core.foldl (fun s x => s.drainSb x.1) s).frame.2 = true :=
    State.foldl_wf _ (fun s x hs => State.drainSb_wf hs _) _ _ hs
  simp [State.engineWork, h]

@[simp] theorem State.cycleWork_wf (fails : List (Nat × Nat)) (meas : List Meas) : Memory.wf (s.cycleWork fails meas).frame.2 = true := by
  simp [State.cycleWork, hs]

@[simp] theorem execControlCycleBoundary_keepsForm (fails : List (Nat × Nat)) (meas : List Meas) (ran : List (Nat × List (List Nat))) :
    KeepsForm (execControlCycleBoundary fails meas ran s) := by
  have h : Memory.wf (ran.foldl (fun s x => s.engineStep x.1 x.2) s).frame.2 = true :=
    State.foldl_wf _ (fun s x hs => State.engineStep_wf hs _ _) _ _ hs
  simp only [execControlCycleBoundary]
  repeat' split
  all_goals simp [hs, h]

end

/-- Every command keeps memory in its one form: one that stores by the lemma of its arm, any other because it leaves memory as it was. -/
theorem exec_keepsForm (c : Instr) {s : State} (hs : Memory.wf s.frame.2 = true) : KeepsForm (exec c s) := by
  cases hc : mayStore c with
  | false => exact (exec_keeps c s hc).keepsForm hs
  | true =>
    cases c with
    | store | lr | sc | amo | fence | fenceI | readSnapshot | spadApertureAccess | registerWrite | controlCycleBoundary | wakeBallAssert =>
      simp [exec, hs]
    | _ => cases hc

/-- Settles O59: the front command keeps the form, and an empty queue changes nothing. -/
theorem memoryForm : Obligations.MemoryForm := by
  intro s t hs ht
  cases hp : s.pending with
  | nil =>
    rw [step_nil hp] at ht
    cases ht
    exact hs
  | cons c r =>
    rw [step_cons hp] at ht
    obtain ⟨u, hu, hw⟩ := exec_keepsForm c (s := { s with pending := r }) ((State.memOk_iff_frame _).1 hs)
    obtain rfl : u = t := by simpa [hu] using ht
    exact (State.memOk_iff_frame u).2 hw

end Sys2Proof.Machine
end

section
/-!
PROOFS. Loads, stores, reservations, atomics and fences of an engine (R212, R220, R226, R228, R231, R247, R248).
-/
namespace Sys2Proof.Machine

/-! ### What an access meets -/

section
variable {s : State} {n a : Nat}

/-- R220: a refused access is recorded and raises its exception at its first byte. -/
theorem State.checked_refused {len : Nat} {k : AccKind} {r : Option Nat} {b : Bool} (c : Nat) (go : Place → State → State)
    (h : s.mpuRefusal n a len k = some (r, b)) :
    s.checked n a len k c go = (s.mpuRecord n a k r b).trap n c (BitVec.ofNat 32 a) := by
  simp only [State.checked, h]

/-- The check of a reserved or atomic access: LR counts as a load. -/
theorem State.atomicAt_plain {x : Nat} {lr : Bool} (go : Nat → State → State) (halign : a % 4 = 0)
    (h : s.plainAt n a 4 (if lr then .load else .atomic) = some (x, true)) : s.atomicAt n a lr go = go x s :=
  (if_neg (not_not.2 halign)).trans (State.checked_plain _ _ h)

theorem State.atomicAt_misaligned (lr : Bool) (go : Nat → State → State) (h : a % 4 ≠ 0) :
    s.atomicAt n a lr go = s.trap n (if lr then 4 else 6) (BitVec.ofNat 32 a) := if_pos h

theorem State.memStore_mem (bytes : List Byte) : (s.memStore n a bytes).mem = memWriteL s.mem a bytes := rfl

/-- What an instruction that sets or ends the reservation leaves in its destination register. -/
theorem State.getX_setCore_resv (e : Engine) (rd : Nat) (v : W32) (g : Option Nat) :
    ((s.setCore n { (e.setX rd v).next with resv := g }).core n).getX rd = if rd = 0 then 0 else v := by
  rw [State.core_setCore]
  exact (Engine.getX_setX ..).trans (by simp)

theorem alignedParts_ne_nil (a len : Nat) : alignedParts a len ≠ [] := by
  simp only [alignedParts]
  split <;> simp

/-- R212, R247: the aligned parts of a store that the buffer has room for stand behind it, each with its own bytes of `bs`. -/
theorem State.foldl_bufferStore {x len : Nat} (bs : List Byte) (hroom : (s.core n).sb.length + (alignedParts x len).length ≤ 8) :
    (alignedParts x len).foldl (fun s y => s.bufferStore n y.1 ((bs.drop (y.1 - x)).take y.2)) s = s.setCore n { s.core n with
      sb := (s.core n).sb ++ (alignedParts x len).map fun y => (y.1, (bs.drop (y.1 - x)).take y.2) } :=
  (s.bufferStore_all n (fun y => (y.1, (bs.drop (y.1 - x)).take y.2)) _ hroom).resolve_right (alignedParts_ne_nil x len)

@[simp] theorem Engine.setX_sb (e : Engine) (r : Nat) (v : W32) : (e.setX r v).sb = e.sb := by simp only [Engine.setX]; split <;> rfl
@[simp] theorem Engine.setF_sb (e : Engine) (r : Nat) (v : W32) : (e.setF r v).sb = e.sb := rfl

end

/-! ### Loads and stores -/

section
variable {s : State} {n : Nat} (hready : s.engReady n = true)
include hready

/-- R212, R228, R247: what a load of plain memory writes and leaves. -/
theorem exec_load_plain {rd r1 x : Nat} (w : List (List Nat)) {imm : W32} {op : LoadOp} {b : Bool}
    (hplain : s.plainAt n ((s.core n).addr r1 imm) (loadLen op) .load = some (x, b)) :
    ∃ t, exec (.load n op rd r1 imm w) s = .next t ∧ t.mem = s.mem ∧
      (if op = .flw then (t.core n).getF rd else (t.core n).getX rd) =
        (if op ≠ .flw ∧ rd = 0 then 0 else loadValue op (s.loadBytes n x (loadLen op))) ∧
      (t.core n).sb = (s.core n).sb ∧ (t.core n).pc = (s.core n).pc + 4 := by
  refine ⟨_, congrArg Host.Outcome.next ((State.runs_ready _ hready).trans (State.checked_plain _ _ hplain)), ?_⟩
  cases op <;> simp [Engine.getX_setX]

theorem exec_load_refused {rd r1 : Nat} (w : List (List Nat)) {imm : W32} {op : LoadOp} {r : Option Nat} {b : Bool}
    (h : s.mpuRefusal n ((s.core n).addr r1 imm) (loadLen op) .load = some (r, b)) : exec (.load n op rd r1 imm w) s =
      .next ((s.mpuRecord n ((s.core n).addr r1 imm) .load r b).trap n 5 (BitVec.ofNat 32 ((s.core n).addr r1 imm))) :=
  congrArg Host.Outcome.next ((State.runs_ready _ hready).trans (State.checked_refused _ _ h))

theorem exec_store_refused {rs r1 : Nat} (w : List (List Nat)) {imm : W32} {op : StoreOp} {r : Option Nat} {b : Bool}
    (h : s.mpuRefusal n ((s.core n).addr r1 imm) (storeLen op) .store = some (r, b)) : exec (.store n op rs r1 imm w) s =
      .next ((s.mpuRecord n ((s.core n).addr r1 imm) .store r b).trap n 7 (BitVec.ofNat 32 ((s.core n).addr r1 imm))) :=
  congrArg Host.Outcome.next ((State.runs_ready _ hready).trans (State.checked_refused _ _ h))

/-- R212, R247: the aligned accesses of a store that the buffer has room for stand in it, in order. -/
theorem exec_store_buffers {r2 r1 x : Nat} (w : List (List Nat)) {imm : W32} {op : StoreOp} {b : Bool}
    (hplain : s.plainAt n ((s.core n).addr r1 imm) (storeLen op) .store = some (x, b))
    (hroom : (s.core n).sb.length + (alignedParts x (storeLen op)).length ≤ 8) :
    ∃ t, exec (.store n op r2 r1 imm w) s = .next t ∧ t.mem = s.mem ∧
      (t.core n).sb = (s.core n).sb ++ (alignedParts x (storeLen op)).map (fun y => (y.1, ((leBytes (storeLen op)
        (if op = .fsw then (s.core n).getF r2 else (s.core n).getX r2).toNat).drop (y.1 - x)).take y.2)) ∧
      (t.core n).x = (s.core n).x ∧ (t.core n).pc = (s.core n).pc + 4 := by
  refine ⟨_, congrArg Host.Outcome.next ((State.runs_ready _ hready).trans (State.checked_plain _ _ hplain)), ?_⟩
  cases op <;> simp [State.foldl_bufferStore, hroom]

end

/-! ### Reservations and atomics -/

section
variable {s : State} {n r1 x : Nat} (hready : s.engReady n = true) (halign : ((s.core n).getX r1).toNat % 4 = 0)
include hready halign

/-- R231: LR reserves its granule after the engine's earlier stores are in memory. -/
theorem exec_lr_reserves (rd : Nat) (w : List (List Nat)) (hplain : s.plainAt n ((s.core n).getX r1).toNat 4 .load = some (x, true)) :
    ∃ t, exec (.lr n rd r1 w) s = .next t ∧ (t.core n).resv = some (x / 32) ∧ t.mem = (s.drainSb n).mem ∧
      (rd ≠ 0 → (t.core n).getX rd = BitVec.ofNat 32 (leNat (memReadL t.mem x 4))) := by
  refine ⟨_, congrArg Host.Outcome.next ((State.runs_ready _ hready).trans (State.atomicAt_plain _ halign hplain)), ?_⟩
  exact ⟨by simp, by simp, fun hrd => (State.getX_setCore_resv ..).trans (by simp [hrd])⟩

section
variable (hplain : s.plainAt n ((s.core n).getX r1).toNat 4 .atomic = some (x, true))
include hplain

theorem exec_sc_writes (rd r2 : Nat) (w : List (List Nat)) (hresv : ((s.drainSb n).core n).resv = some (x / 32)) :
    ∃ t, exec (.sc n rd r2 r1 w) s = .next t ∧
      t.mem = memWriteL (s.drainSb n).mem x (leBytes 4 ((s.core n).getX r2).toNat) ∧ (t.core n).resv = none ∧ (t.core n).getX rd = 0 := by
  refine ⟨_, congrArg Host.Outcome.next ((State.runs_ready _ hready).trans (State.atomicAt_plain _ halign hplain)), ?_⟩
  exact ⟨by simp [hresv, State.memStore_mem], by simp, (State.getX_setCore_resv ..).trans (by simp [hresv])⟩

theorem exec_sc_fails (rd r2 : Nat) (w : List (List Nat)) (hresv : ((s.drainSb n).core n).resv ≠ some (x / 32)) :
    ∃ t, exec (.sc n rd r2 r1 w) s = .next t ∧
      t.mem = (s.drainSb n).mem ∧ (t.core n).resv = none ∧ (rd ≠ 0 → (t.core n).getX rd = 1) := by
  refine ⟨_, congrArg Host.Outcome.next ((State.runs_ready _ hready).trans (State.atomicAt_plain _ halign hplain)), ?_⟩
  exact ⟨by simp [hresv], by simp, fun hrd => (State.getX_setCore_resv ..).trans (by simp [hresv, hrd])⟩

theorem exec_amo_combines (op : AmoOp) (rd r2 : Nat) (w : List (List Nat)) :
    ∃ t, exec (.amo n op rd r2 r1 w) s = .next t ∧
      t.mem = memWriteL (s.drainSb n).mem x (leBytes 4 (amoVal op (BitVec.ofNat 32 (leNat (memReadL (s.drainSb n).mem x 4)))
        ((s.core n).getX r2)).toNat) ∧
      (rd ≠ 0 → (t.core n).getX rd = BitVec.ofNat 32 (leNat (memReadL (s.drainSb n).mem x 4))) := by
  refine ⟨_, congrArg Host.Outcome.next ((State.runs_ready _ hready).trans (State.atomicAt_plain _ halign hplain)), ?_⟩
  exact ⟨by simp [State.memStore_mem], fun hrd => by simp [Engine.getX_setX, hrd]⟩

end

end

/-- R212: misalignment comes before protection (log entry 34): LR counts as a load, SC and AMO as stores. -/
theorem exec_atomic_misaligned {s : State} {n r1 : Nat} (rd r2 : Nat) (op : AmoOp) (w : List (List Nat)) (hready : s.engReady n = true)
    (h : ((s.core n).getX r1).toNat % 4 ≠ 0) :
    exec (.lr n rd r1 w) s = .next (s.trap n 4 (BitVec.ofNat 32 ((s.core n).getX r1).toNat)) ∧
    exec (.sc n rd r2 r1 w) s = .next (s.trap n 6 (BitVec.ofNat 32 ((s.core n).getX r1).toNat)) ∧
    exec (.amo n op rd r2 r1 w) s = .next (s.trap n 6 (BitVec.ofNat 32 ((s.core n).getX r1).toNat)) :=
  ⟨congrArg Host.Outcome.next ((State.runs_ready _ hready).trans (State.atomicAt_misaligned true _ h)),
    congrArg Host.Outcome.next ((State.runs_ready _ hready).trans (State.atomicAt_misaligned false _ h)),
    congrArg Host.Outcome.next ((State.runs_ready _ hready).trans (State.atomicAt_misaligned false _ h))⟩

/-- Settles O19: each clause is the rule above for its access; a fence by its predecessor set. -/
theorem engineMemory : Obligations.EngineMemory :=
  ⟨fun _ _ _ _ _ w _ _ _ hready => exec_load_plain hready w, fun _ _ _ _ w _ _ _ _ hready => exec_load_refused hready w,
    fun _ _ _ _ w _ _ _ _ hready => exec_store_refused hready w, fun _ _ _ _ _ w _ _ _ hready => exec_store_buffers hready w,
    fun _ _ rd _ _ w hready halign => exec_lr_reserves hready halign rd w,
    fun _ _ rd r2 _ _ w hready halign hplain => exec_sc_writes hready halign hplain rd r2 w,
    fun _ _ rd r2 _ _ w hready halign hplain => exec_sc_fails hready halign hplain rd r2 w,
    fun _ _ rd r2 _ _ op w hready halign hplain => exec_amo_combines hready halign hplain op rd r2 w,
    fun _ _ rd r2 _ op w hready => exec_atomic_misaligned rd r2 op w hready,
    fun _ _ _ hready => congrArg Host.Outcome.next (State.runs_ready _ hready),
    fun _ _ _ hready => congrArg Host.Outcome.next (State.runs_ready _ hready),
    fun _ _ hready => congrArg Host.Outcome.next (State.runs_ready _ hready), fun _ _ => rfl⟩

end Sys2Proof.Machine
end

section
/-!
PROOFS. Mailbox channels: reaching them, sending, doorbells, masks, descriptor requests and late replies (R119, R190 to R202).
-/
namespace Sys2Proof.Machine

/-! ### Reaching a channel between a host and firmware (R119, R190) -/

theorem State.endIs_self (s : State) (e : MbxEnd) : s.endIs e e = true := by simp [State.endIs]

section
variable {s : State} {p q : Port} {c : Chan} (hc : c = .hostFw q ∨ c = .fwHost q) (k : State → State)
include hc

/-- A host's access to a channel that is on every variant, and on no other die. -/
theorem State.mbxReach_ofHostFw (off : Nat) : s.mbxReach (.host p) c off k =
    if !s.dieRuns .cdie then s
    else if s.stage ≠ 0xB then s.crossingFailed p.num c.xid (c.slot.getD 0 + off) true
    else k (s.touched true (c.slot.getD 0 + off)) := by rcases hc with rfl | rfl <;> rfl

theorem State.mbxReach_early (off : Nat) (hrun : s.dieRuns .cdie = true) (hstage : s.stage ≠ 0xB) :
    s.mbxReach (.host p) c off k = s.crossingFailed p.num c.xid (c.slot.getD 0 + off) true := by
  rw [State.mbxReach_ofHostFw hc, if_neg (by simp [hrun]), if_pos hstage]

theorem State.mbxReach_served (off : Nat) (hrun : s.dieRuns .cdie = true) (hstage : s.stage = 0xB) :
    s.mbxReach (.host p) c off k = k (s.touched true (c.slot.getD 0 + off)) := by
  rw [State.mbxReach_ofHostFw hc, if_neg (by simp [hrun]), if_neg (not_not.2 hstage)]

/-- The end that the channel names reaches it (R190). -/
theorem State.mbxAccess_own (e : MbxEnd) (off : Nat) : s.mbxAccess e e c off k = k s := by
  rcases hc with rfl | rfl <;> simp [State.mbxAccess, State.endIs_self, State.chanClosed, State.chanOff]

/-- R190: an end that the channel does not name. -/
theorem State.mbxAccess_foreign {e o : MbxEnd} (off : Nat) (h : s.endIs e o = false) :
    s.mbxAccess e o c off k = s.mbxErr e Fld.MBX_ERR__FOREIGN := by
  rcases hc with rfl | rfl <;> simp [State.mbxAccess, h, State.chanClosed]

end

/-! ### Posting (R192) -/

@[simp] theorem State.chan_setChan (s : State) (c : Chan) (m : Mbx) : (s.setChan c m).chan c = m := by simp [State.chan, State.setChan]

theorem State.chan_of_mbx {s t : State} (c : Chan) (h : t.mbx = s.mbx) : t.chan c = s.chan c := by rw [State.chan, h, State.chan]

@[simp] theorem State.endIdle_mbx (s : State) (n : Nat) : (s.endIdle n).mbx = s.mbx := by
  simp only [State.endIdle]
  split
  · rfl
  · split <;> rfl

@[simp] theorem State.notifyEnd_mbx (s : State) (c : Chan) : (s.notifyEnd c).mbx = s.mbx := by
  simp only [State.notifyEnd]
  split
  · split <;> simp
  · simp [State.engIrq]
  · rfl

@[simp] theorem State.touched_mbx (s : State) (b : Bool) (a : Nat) : (s.touched b a).mbx = s.mbx := by
  simp only [State.touched]
  split <;> simp

/-- R197: setting doorbell bits changes nothing else of the channel. -/
theorem State.chan_ringDb (s : State) (c : Chan) (bits : W32) : (s.ringDb c bits).chan c = { s.chan c with db := (s.chan c).db ||| bits } := by
  simp only [State.ringDb]
  split
  · exact State.chan_setChan ..
  · exact (State.chan_of_mbx c (State.notifyEnd_mbx ..)).trans (State.chan_setChan ..)

/-- A channel after a post of `bytes`. -/
def Mbx.post (m : Mbx) (bytes : List Byte) : Mbx :=
  { m with posted := true, seq := if m.seq = 65535 then 1 else m.seq + 1, len := bytes.length,
           payload := bytes ++ (padTo 256 m.draft).drop bytes.length, draft := bytes ++ (padTo 256 m.draft).drop bytes.length,
           db := m.db ||| 1 }

theorem State.chan_postMsg (s : State) (c : Chan) (bytes : List Byte) : (s.postMsg c bytes).chan c = (s.chan c).post bytes := by
  rw [State.postMsg, State.chan_ringDb, State.chan_setChan]
  rfl

theorem length_padTo (n : Nat) (b : List Byte) : (padTo n b).length = n := by
  simp [padTo]
  omega

theorem bitAt_or_one_zero (x : W32) : bitAt (x ||| 1).toNat 0 = true := by
  simp [bitAt]

/-! ### MBX_SEND (R192, R193) -/

section
variable {s : State} {c : Chan} {len : Nat} (e : MbxEnd) (b : Option (List Byte))

/-- A channel that is POSTED comes before a bad length (log entry 22). -/
theorem State.mbxSend_busy (h : (s.chan c).posted = true) : s.mbxSend e c len b = s.mbxErr e Fld.MBX_ERR__BUSY := if_pos h

theorem State.mbxSend_badLen (hfree : (s.chan c).posted = false) (h : badLen len = true) :
    s.mbxSend e c len b = s.mbxErr e Fld.MBX_ERR__BAD_LEN := (if_neg (by simp [hfree])).trans (if_pos h)

/-- A message to firmware is posted at once. -/
theorem State.mbxSend_hostFw {p : Port} (hfree : (s.chan (.hostFw p)).posted = false) (h : badLen len = false) :
    s.mbxSend e (.hostFw p) len b = s.postMsg (.hostFw p) (padTo len (b.getD (s.chan (.hostFw p)).draft)) :=
  (if_neg (by simp [hfree])).trans (if_neg (by simp [h]))

end

section
variable {s : State} {p : Port} {len : Nat} (hrun : s.dieRuns .cdie = true)
include hrun

/-- R119: before stage 0xB a host's access fails at the crossing. -/
theorem exec_mbxSend_early (hstage : s.stage ≠ 0xB) : exec (.mbxSend (.host p) (.hostFw p) len none false) s =
    .next (s.crossingFailed p.num (Chan.hostFw p).xid ((Chan.hostFw p).slot.getD 0 + 4) true) :=
  congrArg Host.Outcome.next (State.mbxReach_early (.inl rfl) _ 4 hrun hstage)

variable (hstage : s.stage = 0xB)
include hstage

theorem exec_mbxSend_hostFw : exec (.mbxSend (.host p) (.hostFw p) len none false) s =
    .next ((s.touched true ((Chan.hostFw p).slot.getD 0 + 4)).mbxSend (.host p) (.hostFw p) len none) :=
  congrArg Host.Outcome.next ((State.mbxReach_served (.inl rfl) _ 4 hrun hstage).trans (State.mbxAccess_own (.inl rfl) _ _ 4))

/-- R192, R193: a message in a free channel is posted with its length, its bytes and doorbell bit 0, under the next sequence number. -/
theorem exec_mbxSend_posts (hfree : (s.chan (.hostFw p)).posted = false) (hlen : badLen len = false)
    (hseq : (s.chan (.hostFw p)).seq < 65535) :
    ∃ t, exec (.mbxSend (.host p) (.hostFw p) len none false) s = .next t ∧ (t.chan (.hostFw p)).posted = true ∧
      (t.chan (.hostFw p)).seq = (s.chan (.hostFw p)).seq + 1 ∧ (t.chan (.hostFw p)).len = len ∧
      (t.chan (.hostFw p)).payload.take len = padTo len (s.chan (.hostFw p)).draft ∧
      bitAt (t.chan (.hostFw p)).db.toNat 0 = true := by
  have htouched (a : Nat) : (s.touched true a).chan (.hostFw p) = s.chan (.hostFw p) := State.chan_of_mbx _ (State.touched_mbx ..)
  have hne : (s.chan (.hostFw p)).seq ≠ 65535 := by omega
  refine ⟨_, (exec_mbxSend_hostFw hrun hstage).trans
    (congrArg Host.Outcome.next (State.mbxSend_hostFw _ none (by rw [htouched, hfree]) hlen)), ?_⟩
  rw [State.chan_postMsg, htouched]
  exact ⟨rfl, if_neg hne, length_padTo .., List.take_left' (length_padTo ..), bitAt_or_one_zero _⟩

variable (hawake : s.pwr ≤ 1)
include hawake

theorem exec_mbxSend_awake : exec (.mbxSend (.host p) (.hostFw p) len none false) s =
    .next (s.mbxSend (.host p) (.hostFw p) len none) := by
  rw [exec_mbxSend_hostFw hrun hstage, State.touched_awake _ _ hawake]

/-- R190: host 1 is not the sender of host 0's channel. -/
theorem exec_mbxSend_foreign : exec (.mbxSend (.host .h1) (.hostFw .h0) len none false) s =
    .next (s.put Fld.MBX_ERR__FOREIGN 1 1) := by
  refine congrArg Host.Outcome.next ((State.mbxReach_served (.inl rfl) _ 4 hrun hstage).trans ?_)
  rw [State.touched_awake _ _ hawake]
  exact State.mbxAccess_foreign (.inl rfl) _ 4 rfl

/-! ### Doorbells and masks (R197, R199) -/

theorem exec_mbxDbSet_rings (v : W32) :
    exec (.mbxDbSet (.host p) (.hostFw p) v) s = .next (s.ringDb (.hostFw p) (v &&& 0xFFFFFFFE)) := by
  refine congrArg Host.Outcome.next ((State.mbxReach_served (.inl rfl) _ 8 hrun hstage).trans ?_)
  rw [State.touched_awake _ _ hawake]
  exact State.mbxAccess_own (.inl rfl) _ _ 8

theorem exec_mbxDbMaskWrite_masks (v : W32) :
    exec (.mbxDbMaskWrite (.host p) (.fwHost p) v) s = .next (s.mbxMask (.fwHost p) v) := by
  refine congrArg Host.Outcome.next ((State.mbxReach_served (.inr rfl) _ 0x10 hrun hstage).trans ?_)
  rw [State.touched_awake _ _ hawake]
  exact State.mbxAccess_own (.inr rfl) _ _ 0x10

end

/-- Firmware is the receiver of the channel, and no crossing lies before it. -/
theorem exec_mbxDbClear_firmware (s : State) (p : Port) (v sn : W32) :
    exec (.mbxDbClear .firmware (.hostFw p) v sn) s = .next (s.clearDb (.hostFw p) (v &&& ~~~sn)) :=
  congrArg Host.Outcome.next
    (State.mbxAccess_own (c := .hostFw p) (.inl rfl) (·.clearDb (.hostFw p) (v &&& ~~~sn)) .firmware 0xC)

/-! ### Descriptor requests and late replies (R200, R202) -/

section
variable {s : State}

/-- A request with a length that is allowed waits for its channel to become FREE. -/
theorem State.sendRequest_waits (t : Ticket) {d : Desc} {c : Chan} (b : List Byte) (hlen : badLen (DescF.par d 0 2) = false)
    (hbuf : ¬DescF.bufLen d < DescF.par d 0 2) (hposted : (s.chan c).posted = true) :
    ∃ w r, s.sendRequest t d c (.data b) = { s with msgQueue := s.msgQueue ++ [(w, r)] } ∧ w.chan = c ∧ w.t = t ∧ r.take 2 = [0, 0] :=
  ⟨_, _, (if_neg (by simp [hlen, hbuf])).trans ((s.withRead_data t d b _).trans (if_pos hposted)), rfl, rfl, rfl⟩

variable {c : Chan} {seq : Nat}

theorem exec_mailboxReplyTimeout_late {w : MsgWait} (hwait : s.waits.find? (fun w => w.chan == c && w.seq == seq) = some w)
    (htaken : (s.chan c).posted = false ∨ (s.chan c).seq ≠ seq) : exec (.mailboxReplyTimeout c seq) s =
      .next (({ s with waits := s.waits.erase w, lateSeqs := s.lateSeqs ++ [(c.reverse, seq)] } : State).complete
        { t := w.t, status := stTimeout, result := c.xid }) := by
  have hstill : ((s.chan c).posted && (s.chan c).seq == seq) = false := by
    rcases htaken with h | h <;> simp [h]
  change execMailboxReplyTimeout c seq s = _
  simp only [execMailboxReplyTimeout, hwait]
  exact congrArg (fun u : State => Host.Outcome.next (u.complete _)) (if_neg (Bool.eq_false_iff.1 hstill))

theorem exec_mailboxReplyTimeout_answered (h : s.waits.find? (fun w => w.chan == c && w.seq == seq) = none) :
    exec (.mailboxReplyTimeout c seq) s = .next s := by
  change execMailboxReplyTimeout c seq s = _
  simp only [execMailboxReplyTimeout, h]

end

/-- Settles O14: each clause is the branch above that its hypotheses select. -/
theorem mailboxes : Obligations.Mailboxes :=
  ⟨fun _ _ _ hrun hstage => exec_mbxSend_posts hrun hstage,
    fun _ _ _ hrun hstage hawake hfree hlen => (exec_mbxSend_awake hrun hstage hawake).trans
      (congrArg Host.Outcome.next (State.mbxSend_badLen _ none hfree hlen)),
    fun _ _ _ hrun hstage hawake hposted => (exec_mbxSend_awake hrun hstage hawake).trans
      (congrArg Host.Outcome.next (State.mbxSend_busy _ none hposted)),
    fun _ _ hrun hstage => exec_mbxSend_foreign hrun hstage, fun _ _ v hrun hstage hawake => exec_mbxDbSet_rings hrun hstage hawake v,
    fun _ _ v hrun hstage hawake => exec_mbxDbMaskWrite_masks hrun hstage hawake v,
    fun s p => exec_mbxDbClear_firmware s p,
    fun _ _ _ hrun => exec_mbxSend_early hrun, fun _ _ _ h => congrArg Host.Outcome.next (State.withDesc_taken _ h),
    fun _ _ _ h => congrArg Host.Outcome.next (State.withDesc_taken _ h),
    fun _ _ _ h => congrArg Host.Outcome.next (State.withDesc_taken _ h), fun _ t _ _ b => State.sendRequest_waits t b,
    fun _ _ _ _ => exec_mailboxReplyTimeout_late, fun _ _ _ => exec_mailboxReplyTimeout_answered⟩

end Sys2Proof.Machine
end

section
/-!
PROOFS. When an engine takes an instruction (R227, R258), and the instructions that give a result: accumulator reads and writes, packed
arithmetic, the fractional-delay step (R233 to R235, R241).
-/
namespace Sys2Proof.Machine

/-! ### One instruction -/

section
variable {s : State} {n : Nat} {c : Instr} {k : Engine → State → State} (hexec : exec c s = .next (s.runs n k))
include hexec

/-- A ready engine takes the instruction, and leaves what the instruction makes of it. -/
theorem exec_taken {t : State} (hready : s.engReady n = true) (ht : k (s.core n) s = t) : exec c s = .next t :=
  hexec.trans (congrArg Host.Outcome.next ((State.runs_ready k hready).trans ht))

/-- R227, R258: an engine that waits, is retired or stands still takes none. -/
theorem exec_notTaken (hruns : s.engRuns n = false) : exec c s = .next s :=
  hexec.trans (congrArg Host.Outcome.next (if_pos (by rw [hruns]; rfl)))

/-- R227: an interrupt that is due is taken in its place. -/
theorem exec_interrupted {code : Nat} (hruns : s.engRuns n = true) (hirq : (s.core n).irqDue = some code) :
    exec c s = .next (s.trap n (2 ^ 31 + code) 0) := by
  rw [hexec, State.runs, if_neg (by simp [hruns]), hirq]

end

/-! ### Accumulators and packed arithmetic -/

/-- A result clamped to 32 bits reads back as that number, whichever sticky bit it sets. -/
theorem Engine.toInt_getX_setX_clamp (e : Engine) {rd : Nat} (z : Int) (set : Bool) (bit : Nat) (hrd : rd ≠ 0) :
    (((e.setX rd (BitVec.ofInt 32 (clampS 32 z))).orStat set bit).getX rd).toInt = clampS 32 z := by
  rw [Engine.orStat_getX, Engine.getX_setX, if_neg hrd, if_pos rfl, toInt_ofInt_clamp32]

/-- R233: the register takes the accumulator shifted, rounded half up, and clamped to 32 bits. -/
theorem Engine.toInt_getX_accRead (e : Engine) {rd : Nat} (a i : Nat) (hrd : rd ≠ 0) :
    ((e.accRead rd a i).getX rd).toInt = clampS 32 (accShift (e.getAcc a) i) := e.toInt_getX_setX_clamp _ _ _ hrd

section
variable {s : State} {n : Nat} (hready : s.engReady n = true)
include hready

/-- R241: an immediate that selects no part of the accumulator. -/
theorem exec_ardr_illegal (rd a : Nat) {i : Nat} (hi : 2 < i) : exec (.ardr n rd a i) s = .next (s.trap n 2 0) := by
  obtain ⟨j, rfl⟩ := Nat.exists_eq_add_of_le' hi
  exact exec_taken rfl hready rfl

theorem exec_psra16_shifts (rd r1 : Nat) {i : Nat} (hi : ¬ 15 < i) : exec (.psra16 n rd r1 i) s =
    .next (s.setCore n ((s.core n).setX rd (pack (hiH ((s.core n).getX r1) / 2 ^ i) (loH ((s.core n).getX r1) / 2 ^ i))).next) :=
  exec_taken rfl hready (if_neg hi)

theorem exec_psra16_illegal (rd r1 : Nat) {i : Nat} (hi : 15 < i) : exec (.psra16 n rd r1 i) s = .next (s.trap n 2 0) :=
  exec_taken rfl hready (if_pos hi)

/-! ### The fractional-delay step -/

/-- R235: the four samples of an aligned window in plain memory give the cubic Lagrange value, clamped to 32 bits. -/
theorem exec_fdstep_interpolates (rd : Nat) {r1 : Nat} (r2 : Nat) {x : Nat} (w : List (List Nat)) {b : Bool}
    (halign : ((s.core n).getX r1 - 4).toNat % 4 = 0) (hplain : s.plainAt n ((s.core n).getX r1 - 4).toNat 16 .load = some (x, b)) :
    ∃ t, exec (.fdstep n rd r1 r2 w) s = .next t ∧ t.mem = s.mem ∧ (t.core n).pc = (s.core n).pc + 4 ∧
      (rd ≠ 0 → ((t.core n).getX rd).toInt = clampS 32 (lagrangeRound (signedOf 32 (leNat (s.loadBytes n x 4)))
        (signedOf 32 (leNat (s.loadBytes n (x + 4) 4))) (signedOf 32 (leNat (s.loadBytes n (x + 8) 4)))
        (signedOf 32 (leNat (s.loadBytes n (x + 12) 4))) ((((s.core n).getX r2).toNat % 65536 : Nat) : Int))) := by
  refine ⟨_, exec_taken rfl hready ((if_neg (not_not.2 halign)).trans (State.checked_plain _ _ hplain)), by simp, by simp, fun hrd => ?_⟩
  rw [State.core_setCore, Engine.next_getX]
  exact Engine.toInt_getX_setX_clamp _ _ _ _ hrd

/-- R235: misalignment comes before protection (log entry 180). -/
theorem exec_fdstep_misaligned (rd : Nat) {r1 : Nat} (r2 : Nat) (w : List (List Nat)) (h : ((s.core n).getX r1 - 4).toNat % 4 ≠ 0) :
    exec (.fdstep n rd r1 r2 w) s = .next (s.trap n 4 ((s.core n).getX r1)) :=
  exec_taken rfl hready (if_pos h)

end

/-- Settles O18: an instruction without a case is its meaning on the engine's core; the others take the branch above that their hypotheses
select. -/
theorem engineResults : Obligations.EngineResults :=
  ⟨fun _ _ _ _ _ h => exec_taken rfl h rfl, fun _ _ _ _ _ h => exec_taken rfl h rfl, fun _ _ _ _ h => exec_taken rfl h rfl,
    fun e _ a i => e.toInt_getX_accRead a i, fun _ _ _ _ _ h => exec_taken rfl h rfl, fun _ _ _ _ h => exec_taken rfl h rfl,
    fun _ _ _ _ _ h => exec_taken rfl h rfl, fun _ _ _ _ _ h => exec_taken rfl h rfl, fun _ _ _ _ _ h => exec_taken rfl h rfl,
    fun _ _ _ _ _ h => exec_taken rfl h rfl, fun _ _ rd r1 _ h => exec_psra16_shifts h rd r1,
    fun _ _ rd r1 _ h => exec_psra16_illegal h rd r1, fun _ _ _ _ h => exec_taken rfl h rfl, fun _ _ _ _ h => exec_taken rfl h rfl,
    fun _ _ a rd _ h => exec_ardr_illegal h rd a, fun _ _ rd _ r2 _ w _ h => exec_fdstep_interpolates h rd r2 w,
    fun _ _ rd _ r2 w h => exec_fdstep_misaligned h rd r2 w⟩

end Sys2Proof.Machine
end

section
/-!
PROOFS. WFI, xblstat and the deadline timer of an engine (R227, R237 to R242).
-/
namespace Sys2Proof.Machine

/-! ### DLWAIT (R239, R240) -/

section
variable {s : State} {n : Nat} (hready : s.engReady n = true)
include hready

theorem exec_dlwait_unarmed (rd : Nat) (harm : (s.core n).dlArm = false) :
    exec (.dlwait n rd) s = .next (s.setCore n ((s.core n).setX rd 0).next) :=
  exec_taken rfl hready (if_pos (by rw [harm]; rfl))

section
variable (harm : (s.core n).dlArm = true)
include harm

theorem exec_dlwait_late (rd : Nat) (hlate : (s.core n).deadline < s.fcount n) : exec (.dlwait n rd) s =
    .next ((s.setCore n (((s.core n).setX rd (BitVec.ofNat 32 (min (s.fcount n - (s.core n).deadline) 0xFFFFFFFF))).orStat true
      8).next).engBump Fld.ENG_DLMISS__MISS n) :=
  exec_taken rfl hready ((if_neg (by simp [harm])).trans (if_pos hlate))

theorem exec_dlwait_waits (rd : Nat) (hearly : s.fcount n < (s.core n).deadline) :
    exec (.dlwait n rd) s = .next (s.setCore n { (s.core n).next with dlWait := some rd }) :=
  exec_taken rfl hready ((if_neg (by simp [harm])).trans ((if_neg hearly.not_gt).trans (if_neg hearly.ne')))

end

end

/-! ### The expiry of a deadline (R238, R240) -/

section
variable {s : State} {n : Nat}

theorem exec_deadlineExpiry_unarmed (harm : (s.core n).dlArm = false) : exec (.deadlineExpiry n) s = .next s :=
  if_pos (by rw [harm]; rfl)

section
variable (harm : (s.core n).dlArm = true) (hdue : (s.core n).deadline ≤ s.fcount n)
include harm hdue

theorem exec_deadlineExpiry_wakes {rd : Nat} (hlie : (s.core n).dlie = false) (hwait : (s.core n).dlWait = some rd) :
    exec (.deadlineExpiry n) s = .next ((s.setCore n { (s.core n).setX rd 0 with dlWait := none }).endIdle n) := by
  refine (if_neg (by simp [harm])).trans ?_
  simp only [if_neg hdue.not_gt, hwait, hlie, Bool.false_eq_true, if_false]

theorem exec_deadlineExpiry_interrupts (hlie : (s.core n).dlie = true) (hwait : (s.core n).dlWait = none) :
    exec (.deadlineExpiry n) s = .next (s.engIrq n 16) := by
  refine (if_neg (by simp [harm])).trans ?_
  simp only [if_neg hdue.not_gt, hwait, hlie, if_true]

end

end

/-- Settles O20: the timer's commands act on the core; a wait and an expiry take the branch above that their hypotheses select. -/
theorem engineTiming : Obligations.EngineTiming :=
  ⟨fun _ _ h => exec_taken rfl h rfl, fun _ _ _ h => exec_taken rfl h rfl, fun _ _ _ _ _ h => exec_taken rfl h rfl,
    fun _ _ _ _ h => exec_taken rfl h rfl, fun _ _ h => exec_taken rfl h rfl, fun _ _ rd h => exec_dlwait_unarmed h rd,
    fun _ _ rd h harm => exec_dlwait_late h harm rd, fun _ _ rd h harm => exec_dlwait_waits h harm rd,
    fun _ _ _ harm hlie hwait hdue => exec_deadlineExpiry_wakes harm hdue hlie hwait,
    fun _ _ harm hlie hwait hdue => exec_deadlineExpiry_interrupts harm hdue hlie hwait, fun _ _ => exec_deadlineExpiry_unarmed,
    fun _ _ _ _ _ hruns => ⟨exec_notTaken rfl hruns, exec_notTaken rfl hruns⟩,
    fun _ _ _ _ _ _ hruns hirq => ⟨exec_interrupted rfl hruns hirq, exec_interrupted rfl hruns hirq⟩⟩

end Sys2Proof.Machine
end

section
/-!
PROOFS. Jobs of an engine: release, end, overrun and miss, the ECALL services, and APP_LOAD (R244 to R246, R747).
-/
namespace Sys2Proof.Machine

/-! ### The ECALL services (R245) -/

section
variable {s : State} {n : Nat} {c : Instr} {k : Engine → State → State} (hexec : exec c s = .next (s.service n k))
  (hready : s.engReady n = true)
include hexec hready

theorem exec_service_serves {t : State} (hmach : (s.core n).mach = false) (hjob : (s.core n).job.isNone = false)
    (ht : k (s.core n) s = t) : exec c s = .next t :=
  exec_taken hexec hready ((if_neg (by simp [hmach, hjob])).trans ht)

/-- In machine mode an ECALL is an exception and no service. -/
theorem exec_service_machine (hmach : (s.core n).mach = true) : exec c s = .next (s.trap n 11 0) :=
  exec_taken hexec hready ((if_pos (by simp [hmach])).trans (by rw [if_pos hmach]))

end

section
variable {s : State} {n : Nat} (hready : s.engReady n = true) (hmach : (s.core n).mach = false)
  (hjob : (s.core n).job.isNone = false)
include hready hmach hjob

theorem exec_readSnapshot_refused (hpoint : s.cfg.appPoints.contains ((s.core n).getX 10).toNat = false) :
    exec (.readSnapshot n) s =
      .next (s.setCore n ({ (s.core n).setX 10 0xFFFFFFFE with resv := none } : Engine).next) :=
  exec_service_serves rfl hready hmach hjob (if_pos (by rw [hpoint]; rfl))

/-- A snapshot that fits in data memory is stored there. -/
theorem exec_readSnapshot_stores {b : List Byte} (hpoint : s.cfg.appPoints.contains ((s.core n).getX 10).toNat = true)
    (hsec : (s.section_ ((s.core n).getX 10).toNat 0).getD [] = b) (hlo : 0x10000 ≤ ((s.core n).getX 11).toNat)
    (hhi : ((s.core n).getX 11).toNat + b.length ≤ 0x20000) : exec (.readSnapshot n) s =
      .next ((s.memStore n (privAddr n ((s.core n).getX 11).toNat) b).setCore n
        ({ ((s.memStore n (privAddr n ((s.core n).getX 11).toNat) b).core n).setX 10 0 with resv := none } : Engine).next) := by
  subst hsec
  exact exec_service_serves rfl hready hmach hjob
    ((if_neg (by rw [hpoint]; decide)).trans (if_pos (by simp only [hlo, hhi, decide_true, Bool.and_self])))

end

/-! ### Jobs (R244, R245, R747) -/

section
variable {s : State}

theorem exec_jobRelease_active {item n : Nat} (fc : Nat) {t : TaskCfg} (htask : tabFind s.cfg.tasks item = some t)
    (heng : tabFind s.cfg.taskEngine item = some n) (hheld : s.taskHeld item n = false)
    (hactive : s.engGet Fld.ENG_STATE__STATE n = eActive) :
    exec (.jobRelease item fc) s = .next (s.release item n (s.releaseAt t item n fc)) := by
  change execJobRelease item fc s = _
  simp only [execJobRelease, htask, heng, hheld, hactive, ne_eq, not_true, decide_false, Bool.or_self, Bool.false_eq_true, if_false]

section
variable {n item rel : Nat} (hjob : (s.core n).job = some (item, rel))
include hjob

theorem exec_budgetOverrun_stops : exec (.budgetOverrun n) s =
    .next (((s.engBump Fld.ENG_DLMISS__OVERRUN n).dropJob n).postBoth { code := 0x909, sev := 1, obj := item }) := by
  change execBudgetOverrun n s = _
  simp only [execBudgetOverrun, hjob]

theorem exec_jobDeadlineMiss_stops : exec (.jobDeadlineMiss n) s = .next ((s.engBump Fld.ENG_DLMISS__MISS n).dropJob n) := by
  change execJobDeadlineMiss n s = _
  simp only [execJobDeadlineMiss, hjob]

end

/-! ### APP_LOAD (R246) -/

section
variable {d : Desc} {b : List Byte} (im dm : List Byte) (h : s.accepts 0x70 d = true)
include h

theorem exec_appLoad_foreign (hcluster : (s.taken d).cfg.appClusters.contains d.target.toNat = false) :
    exec (.appLoad d (.data b) im dm) s = .next ((s.taken d).fin ((s.taken d).ticket d) stProtection) :=
  congrArg Host.Outcome.next ((State.withDesc_taken _ h).trans ((State.withRead_data ..).trans (if_pos (by rw [hcluster]; rfl))))

theorem exec_appLoad_waits (hcluster : (s.taken d).cfg.appClusters.contains d.target.toNat = true)
    (hhash : tabFind (s.taken d).cfg.appHash d.target.toNat = some (Config.digest 1 (b.map (·.toNat)))) (him : im.length ≤ 65536)
    (hdm : dm.length ≤ 65536) : exec (.appLoad d (.data b) im dm) s =
      .next ({ s.taken d with eng := { (s.taken d).eng with appLoads := (s.taken d).eng.appLoads ++
        [{ t := (s.taken d).ticket d, cluster := d.target.toNat, imem := im, dmem := dm }] } }) :=
  congrArg Host.Outcome.next ((State.withDesc_taken _ h).trans ((State.withRead_data ..).trans
    ((if_neg (by rw [hcluster]; decide)).trans ((if_neg (not_not.2 hhash)).trans
      (if_neg (by simp only [not_lt.2 him, not_lt.2 hdm, decide_false, Bool.or_self, Bool.false_eq_true, not_false_eq_true]))))))

end

end

/-- Settles O22: each clause is the branch above that its hypotheses select. -/
theorem engineJobs : Obligations.EngineJobs :=
  ⟨fun _ _ h hmach hjob => exec_service_serves rfl h hmach hjob rfl, fun _ _ h hmach hjob => exec_service_serves rfl h hmach hjob rfl,
    fun _ _ h hmach hjob => exec_service_serves rfl h hmach hjob rfl, fun _ _ => exec_readSnapshot_refused,
    fun _ _ _ h hmach hjob => exec_readSnapshot_stores h hmach hjob, fun _ _ => exec_service_machine rfl,
    fun _ _ _ fc _ => exec_jobRelease_active fc, fun _ _ _ _ => exec_budgetOverrun_stops, fun _ _ _ _ => exec_jobDeadlineMiss_stops,
    fun _ _ _ im dm => exec_appLoad_foreign im dm, fun _ _ _ im dm => exec_appLoad_waits im dm⟩

end Sys2Proof.Machine
end

section
/-!
PROOFS. Regelation (R280, R291, R292, R300 to R310): calibrations and their verdicts, lane steps and seams, trips, channel faults and the
half-periods of resistance channels.
-/
namespace Sys2Proof.Machine

/-! ### Calibrations (R280, R302, R309, R310, R315) -/

/-- A calibration that ends has compared the references, and its ADC is under suspicion no more. -/
def State.calCompared (s : State) (d : Firn) (a : Nat) (m : CalSums) : State :=
  (s.calCompare d m).setFirn d { (s.calCompare d m).firn d with suspect := tabErase ((s.calCompare d m).firn d).suspect a }

/-- R306: a clean calibration of an ADC that a channel's seam has brought under suspicion is reported. -/
def State.suspicionCleared (s : State) (d : Firn) (sus : Option Nat) : State :=
  match sus with
  | some j => s.firnPost d none { code := 0x216, sev := 1, obj := chIdx d j, data := 3 }
  | none => s

section
variable {s : State} {d : Firn} {a : Nat} {m : CalSums}

section
variable (hlive : s.firnLive d = true) (hst : s.adcSt d a = aCalibrating)
include hlive hst

theorem exec_adcCalibrationDone_fails (hv : s.calVerdict d a (s.calGainOf d a) m ≠ 0) : exec (.adcCalibrationDone d a m) s =
    .next ((((s.calCompared d a m).bump Fld.ADC_COUNT__FAILS (adcIdx d a) 1).retireAdc d a
      (s.calVerdict d a (s.calGainOf d a) m)).regelRefresh d) :=
  (if_neg (by simp [hlive])).trans ((if_neg (by rw [hst]; decide)).trans ((if_neg (not_not.2 hst)).trans (if_neg hv)))

theorem exec_adcCalibrationDone_clean {t : State} {sus : Option Nat} (hv : s.calVerdict d a (s.calGainOf d a) m = 0)
    (hsus : tabFind ((s.calCompare d m).firn d).suspect a = sus) (ht : (s.calCompared d a m).publish d a (s.calGainOf d a) m = t) :
    exec (.adcCalibrationDone d a m) s =
      .next (((t.put Fld.ADC_STATUS__STATE (adcIdx d a) (if t.adcLane d a < 8 then aSpare else aReserve)).suspicionCleared d
        sus).regelRefresh d) := by
  subst hsus ht
  exact (if_neg (by simp [hlive])).trans ((if_neg (by rw [hst]; decide)).trans ((if_neg (not_not.2 hst)).trans (if_pos hv)))

end

theorem exec_adcCalibrationDone_notCalibrating (h : s.adcSt d a ≠ aCalibrating) : exec (.adcCalibrationDone d a m) s =
    .next (if s.firnLive d = true ∧ s.adcSt d a = aStart then s.calCompare d m else s) := by
  by_cases hlive : s.firnLive d = true
  · refine (if_neg (by simp [hlive])).trans ?_
    by_cases hstart : s.adcSt d a = aStart
    · rw [if_pos hstart, if_pos ⟨hlive, hstart⟩]
    · rw [if_neg hstart, if_pos h, if_neg fun hc => hstart hc.2]
  · rw [if_neg fun hc => hlive hc.1]
    exact if_pos (by simp [hlive])

theorem exec_reserveRecalibration_calibrates (hst : s.adcSt d a = aReserve) (hlive : s.firnLive d = true) :
    exec (.reserveRecalibration d a) s = .next (s.setAdc d a aCalibrating 15 255) :=
  congrArg Host.Outcome.next (if_pos (by simp [hst, hlive]))

theorem exec_reserveRecalibration_idle (hst : s.adcSt d a ≠ aReserve) : exec (.reserveRecalibration d a) s = .next s :=
  congrArg Host.Outcome.next (if_neg (by simp [hst]))

section
variable (hst : s.adcSt d a = aRetired) (hlive : s.firnLive d = true)
include hst hlive

theorem exec_retiredAdcCalibration_fails (hv : s.calVerdict d a (s.get Fld.ADC_STATUS__GAIN (adcIdx d a)) m ≠ 0) :
    exec (.retiredAdcCalibration d a m) s =
      .next (((s.calCompare d m).bump Fld.ADC_COUNT__FAILS (adcIdx d a) 1).put Fld.ADC_STATUS__CLEAN (adcIdx d a) 0) :=
  (if_neg (by simp [hst, hlive])).trans (if_pos hv)

/-- R280: the second clean calibration in a row returns the ADC to the reserve. -/
theorem exec_retiredAdcCalibration_clean {t : State} {n : Nat}
    (hv : s.calVerdict d a (s.get Fld.ADC_STATUS__GAIN (adcIdx d a)) m = 0)
    (ht : (s.calCompare d m).publish d a (s.get Fld.ADC_STATUS__GAIN (adcIdx d a)) m = t)
    (hn : t.get Fld.ADC_STATUS__CLEAN (adcIdx d a) + 1 = n) :
    exec (.retiredAdcCalibration d a m) s = .next (if n < 2 then t.put Fld.ADC_STATUS__CLEAN (adcIdx d a) n
      else (((t.put Fld.ADC_STATUS__CLEAN (adcIdx d a) n).setAdc d a aReserve 15 255).firnPost d none
        { code := 0x211, sev := 0, obj := d.num * 256 + a, data := 0 }).regelRefresh d) := by
  subst hn ht
  exact ((if_neg (by simp [hst, hlive])).trans (if_neg (not_not.2 hv))).trans (apply_ite Host.Outcome.next _ _ _).symm

end

theorem exec_refHaltLift_lifts (hhalt : s.flag Fld.REF_STATUS__HALT d.num = true) (hdev : s.refDev d < 1000) :
    exec (.refHaltLift d) s = .next ((s.put Fld.REF_STATUS__HALT d.num 0).haltLift d 2) :=
  congrArg Host.Outcome.next (if_pos (by simp [hhalt, hdev]))

theorem exec_refHaltLift_idle (h : s.flag Fld.REF_STATUS__HALT d.num = false ∨ 1000 ≤ s.refDev d) :
    exec (.refHaltLift d) s = .next s :=
  congrArg Host.Outcome.next (if_neg (by
    rcases h with h | h
    · simp [h]
    · simp [Nat.not_lt.2 h]))

end

/-! ### Lane steps, seams and trips (R304 to R307) -/

section
variable {s : State} {d : Firn} {k a j : Nat}

theorem exec_laneStepStart_noStep (h : s.laneAdc d k = none ∨ s.laneNext d k = none) : exec (.laneStepStart d k) s = .next s := by
  change execLaneStepStart d k s = _
  unfold execLaneStepStart
  rcases h with h | h
  · rw [h]
  · cases hadc : s.laneAdc d k <;> rw [h]

section
variable (hadc : s.laneAdc d k = some a) (hnext : s.laneNext d k = some j)
include hadc hnext

/-- A lane that holds an ADC and has a next channel steps if the ADC is its spare and the channel of a live die is in service. -/
theorem exec_laneStepStart_of : exec (.laneStepStart d k) s =
    if (decide (s.adcSt d a = aSpare) && decide (s.get Fld.CH_STATUS__STATE (chIdx d j) = 1) && s.firnLive d) = true
    then .next ((s.setAdc d a aIncoming k j).put Fld.CH_STATUS__INCOMING (chIdx d j) a) else .next s := by
  change execLaneStepStart d k s = _
  unfold execLaneStepStart
  rw [hadc, hnext]

theorem exec_laneStepStart_steps (hst : s.adcSt d a = aSpare) (hch : s.get Fld.CH_STATUS__STATE (chIdx d j) = 1)
    (hlive : s.firnLive d = true) :
    exec (.laneStepStart d k) s = .next ((s.setAdc d a aIncoming k j).put Fld.CH_STATUS__INCOMING (chIdx d j) a) :=
  (exec_laneStepStart_of hadc hnext).trans (if_pos (by simp [hst, hch, hlive]))

theorem exec_laneStepStart_stays
    (h : s.adcSt d a ≠ aSpare ∨ s.get Fld.CH_STATUS__STATE (chIdx d j) ≠ 1 ∨ s.firnLive d = false) :
    exec (.laneStepStart d k) s = .next s :=
  (exec_laneStepStart_of hadc hnext).trans (if_neg (by rcases h with h | h | h <;> simp [h]))

end

/-- The sums of a seam of channel `j`: over the converted words of its overlap, of the incoming ADC `a` and the one that serves (R305). -/
def State.seamOf (s : State) (d : Firn) (a j : Nat) (ys ya : List Int) : SeamSums :=
  seamSums (ys.map (s.adcY d a)) (ya.map (s.adcY d (s.get Fld.CH_STATUS__SERVING (chIdx d j))))

/-- The steps of a seam are published. -/
def State.seamShown (s : State) (d : Firn) (j : Nat) (m : SeamSums) : State :=
  (s.put Fld.CH_SEAM__DSTEP (chIdx d j) (seamD m)).put Fld.CH_SEAM__GSTEP (chIdx d j) (seamG m)

@[simp] theorem State.firn_seamShown (s : State) (d e : Firn) (j : Nat) (m : SeamSums) : (s.seamShown d j m).firn e = s.firn e := by
  cases e <;> rfl

/-- R306: the second failure in a row hands over all the same, with the outgoing ADC under suspicion. -/
def State.seamFailedAgain (s : State) (d : Firn) (k j a : Nat) : State :=
  (((s.setFirn d { s.firn d with failedOnce := (s.firn d).failedOnce.filter (· != j),
                                 suspect := tabSet (s.firn d).suspect (s.get Fld.CH_STATUS__SERVING (chIdx d j)) j }).bump
    Fld.REGEL_SEAM_FAIL__COUNT d.num 1).firnPost d none { code := 0x216, sev := 1, obj := chIdx d j, data := 2 }).handover d k j a

section
variable {ys ya : List Int} (hlive : s.firnLive d = true) (hadc : s.laneAdc d k = some a) (hst : s.adcSt d a = aIncoming)
  (hch : s.get Fld.ADC_STATUS__CHANNEL (adcIdx d a) = j) (hj : j < 96)
include hlive hadc hst hch hj

/-- What a seam comes to depends on its sums and on whether the channel's step before it failed. -/
theorem exec_seamDecision_of {t : State} (ht : s.seamShown d j (s.seamOf d a j ys ya) = t) : exec (.seamDecision d k ys ya) s =
    if seamPass (s.seamOf d a j ys ya) = true then
      .next ((t.setFirn d { t.firn d with failedOnce := (t.firn d).failedOnce.filter (· != j) }).handover d k j a)
    else if (!(t.firn d).failedOnce.contains j) = true then .next (t.stepFailed d k j a)
    else .next (t.seamFailedAgain d k j a) := by
  subst ht hch
  change execSeamDecision d k ys ya s = _
  unfold execSeamDecision
  rw [hadc]
  exact if_neg (by simp [hst, hlive, hj])

theorem exec_seamDecision_passes {t : State} (ht : s.seamShown d j (s.seamOf d a j ys ya) = t)
    (hpass : seamPass (s.seamOf d a j ys ya) = true) : exec (.seamDecision d k ys ya) s =
      .next ((t.setFirn d { t.firn d with failedOnce := (t.firn d).failedOnce.filter (· != j) }).handover d k j a) :=
  (exec_seamDecision_of hlive hadc hst hch hj ht).trans (if_pos hpass)

theorem exec_seamDecision_failsOnce {t : State} (ht : s.seamShown d j (s.seamOf d a j ys ya) = t)
    (hpass : seamPass (s.seamOf d a j ys ya) = false) (honce : (s.firn d).failedOnce.contains j = false) :
    exec (.seamDecision d k ys ya) s = .next (t.stepFailed d k j a) := by
  subst ht
  exact (exec_seamDecision_of hlive hadc hst hch hj rfl).trans ((if_neg (by simp [hpass])).trans
    (if_pos (by rw [State.firn_seamShown, honce]; rfl)))

theorem exec_seamDecision_failsAgain {t : State} (ht : s.seamShown d j (s.seamOf d a j ys ya) = t)
    (hpass : seamPass (s.seamOf d a j ys ya) = false) (honce : (s.firn d).failedOnce.contains j = true) :
    exec (.seamDecision d k ys ya) s = .next (t.seamFailedAgain d k j a) := by
  subst ht
  exact (exec_seamDecision_of hlive hadc hst hch hj rfl).trans ((if_neg (by simp [hpass])).trans
    (if_neg (by rw [State.firn_seamShown, honce]; decide)))

end

/-- An ADC that neither serves nor steps in trips without effect. -/
theorem exec_adcStabilityTrip_idle (b : Bool) (lost : Nat) (hin : s.adcSt d a ≠ aIncoming) (hserve : s.adcSt d a ≠ aServing) :
    exec (.adcStabilityTrip d a b lost) s = .next s := by
  by_cases hlive : s.firnLive d = true
  · exact (if_neg (by simp [hlive])).trans ((if_neg hin).trans (if_pos hserve))
  · exact if_pos (by simp [hlive])

theorem exec_adcStabilityTrip_incoming (b : Bool) (lost : Nat) (hlive : s.firnLive d = true) (hin : s.adcSt d a = aIncoming) :
    exec (.adcStabilityTrip d a b lost) s =
      .next ((s.stepFailed d (s.adcLane d a) (s.get Fld.ADC_STATUS__CHANNEL (adcIdx d a)) a).regelRefresh d) :=
  (if_neg (by simp [hlive])).trans (if_pos hin)

end

/-! ### Channels (R291, R292) -/

section
variable {s : State} {d : Firn} {src j : Nat} {pos : Bool}
  (hch : ((s.usedCh d).find? fun j => s.get Fld.CH_CFG__TYPE (chIdx d j) == 6 && s.get Fld.CH_CFG__RTD_SRC (chIdx d j) == src) = some j)
  (hlive : s.firnLive d = true)
include hch hlive

/-- A reversal closes a half-period; with one before it, it gives a difference. -/
theorem exec_rtdReversal_pair {b : Int} (idx : Nat) (hrtd : tabGet (true, none) (s.firn d).rtd src = (pos, some b)) :
    exec (.rtdReversal d src idx) s = .next (s.setFirn d { s.firn d with
      rtd := tabSet (s.firn d).rtd src (!pos, some (s.rtdSum d j idx)),
      rtdDiff := tabSet (s.firn d).rtdDiff src (if pos then s.rtdSum d j idx - b else b - s.rtdSum d j idx) }) := by
  change execRtdReversal d src idx s = _
  unfold execRtdReversal
  simp only [hch, hlive, hrtd, Bool.not_true, Bool.false_eq_true, if_false]

theorem exec_rtdReversal_first (idx : Nat) (hrtd : tabGet (true, none) (s.firn d).rtd src = (pos, none)) :
    exec (.rtdReversal d src idx) s = .next (s.setFirn d { s.firn d with
      rtd := tabSet (s.firn d).rtd src (!pos, some (s.rtdSum d j idx)) }) := by
  change execRtdReversal d src idx s = _
  unfold execRtdReversal
  simp only [hch, hlive, hrtd, Bool.not_true, Bool.false_eq_true, if_false]

end

section
variable {s : State} {ch code : Nat}

theorem exec_channelFault_shows (hsuits : faultSuits ((s.faultBlocks ch).get Fld.CH_CFG__TYPE ch) code = true)
    (hst : (s.faultBlocks ch).get Fld.CH_STATUS__STATE ch = 1) (hnew : (s.faultBlocks ch).get Fld.CH_STATUS__FAULT ch ≠ code) :
    exec (.channelFault ch code) s = .next (((s.faultBlocks ch).put Fld.CH_STATUS__FAULT ch code).firnPost (chDie ch) none
      { code := 0x217, sev := 2, obj := ch, data := code }) :=
  if_neg (by simp [hsuits, hst, hnew])

theorem exec_channelFault_same (h : faultSuits ((s.faultBlocks ch).get Fld.CH_CFG__TYPE ch) code = false
    ∨ (s.faultBlocks ch).get Fld.CH_STATUS__STATE ch ≠ 1 ∨ (s.faultBlocks ch).get Fld.CH_STATUS__FAULT ch = code) :
    exec (.channelFault ch code) s = .next (s.faultBlocks ch) :=
  if_pos (by rcases h with h | h | h <;> simp [h])

end

/-- Settles O27: each clause is the branch above that its hypotheses select. -/
theorem regelation : Obligations.Regelation :=
  ⟨fun _ _ _ _ hlive hst hv => ⟨_, rfl, exec_adcCalibrationDone_fails hlive hst hv⟩,
    fun _ _ _ _ hlive hst hv hsus => ⟨_, rfl, exec_adcCalibrationDone_clean (sus := none) hlive hst hv hsus rfl⟩,
    fun _ _ _ j _ hlive hst hv hsus => ⟨_, rfl, exec_adcCalibrationDone_clean (sus := some j) hlive hst hv hsus rfl⟩,
    fun _ _ _ _ => exec_adcCalibrationDone_notCalibrating,
    fun _ _ _ => exec_reserveRecalibration_calibrates, fun _ _ _ => exec_reserveRecalibration_idle,
    fun _ _ _ _ => exec_retiredAdcCalibration_fails,
    fun _ _ _ _ hst hlive hv => ⟨_, rfl, exec_retiredAdcCalibration_clean hst hlive hv rfl rfl⟩,
    fun _ _ _ _ _ => exec_laneStepStart_steps, fun _ _ _ => exec_laneStepStart_noStep, fun _ _ _ _ _ => exec_laneStepStart_stays,
    fun _ _ _ _ _ _ _ hlive hadc hst hch hj hpass => ⟨_, rfl, exec_seamDecision_passes hlive hadc hst hch hj rfl hpass⟩,
    fun _ _ _ _ _ _ _ hlive hadc hst hch hj hpass honce =>
      ⟨_, rfl, exec_seamDecision_failsOnce hlive hadc hst hch hj rfl hpass honce⟩,
    fun s d _ _ _ _ _ hlive hadc hst hch hj hpass honce =>
      ⟨_, _, rfl, rfl, (exec_seamDecision_failsAgain hlive hadc hst hch hj rfl hpass honce).trans (by
        rw [State.seamFailedAgain, State.firn_seamShown]; rfl)⟩,
    fun _ _ _ lost b => exec_adcStabilityTrip_idle b lost, fun _ _ _ lost b => exec_adcStabilityTrip_incoming b lost,
    fun _ _ => exec_refHaltLift_lifts, fun _ _ => exec_refHaltLift_idle,
    fun _ _ _ idx _ _ _ hch hlive => exec_rtdReversal_pair hch hlive idx,
    fun _ _ _ idx _ _ hch hlive => exec_rtdReversal_first hch hlive idx,
    fun _ _ _ => exec_channelFault_shows, fun _ _ _ => exec_channelFault_same,
    fun _ _ hst => congrArg Host.Outcome.next (if_pos hst), fun _ _ hst => congrArg Host.Outcome.next (if_neg hst)⟩

end Sys2Proof.Machine
end

section
/-!
PROOFS. The load switches' descriptors: SWITCH_UNLOCK (R565), SWITCH_CONFIG (R555, R561) and SWITCH_RETURN (R285, R286).
-/
namespace Sys2Proof.Machine

/-! ### SWITCH_UNLOCK -/

section
variable {s : State} {d : Desc} (h : s.accepts 0x22 d = true)
include h

theorem exec_switchUnlock_inTest (htest : ((s.taken d).sw d.target.toNat).test.isSome = true) :
    exec (.switchUnlock d) s = .next ((s.taken d).fin ((s.taken d).ticket d) stCapacity 1) :=
  State.accepted_runs rfl h (if_pos htest)

section
variable (htest : ((s.taken d).sw d.target.toNat).test.isSome = false)
include htest

theorem exec_switchUnlock_notLocked (hlock : (s.taken d).swLocked d.target.toNat = false) :
    exec (.switchUnlock d) s = .next ((s.taken d).fin ((s.taken d).ticket d) stDone 0) :=
  State.accepted_runs rfl h ((if_neg (by simp [htest])).trans (if_pos (by rw [hlock]; rfl)))

section
variable (hlock : (s.taken d).swLocked d.target.toNat = true)
include hlock

theorem exec_switchUnlock_clampFull (hclamp : ((s.taken d).sw d.target.toNat).clampLock ≠ 0)
    (hsum : (s.taken d).get Fld.SW_CFG__CLAMP_BUDGET d.target.toNat * 500000 ≤ (s.taken d).clampSum d.target.toNat) :
    exec (.switchUnlock d) s = .next ((s.taken d).fin ((s.taken d).ticket d) stCapacity 3) :=
  State.accepted_runs rfl h ((if_neg (by simp [htest])).trans ((if_neg (by simp [hlock])).trans (if_pos (by simp [hclamp, hsum]))))

theorem exec_switchUnlock_hot (hclamp : ((s.taken d).sw d.target.toNat).clampLock = 0)
    (hlatch : ((s.taken d).sw d.target.toNat).latch ≠ 0) (htj : 200 ≤ (s.taken d).get Fld.SW_STATUS__TJ d.target.toNat) :
    exec (.switchUnlock d) s = .next ((s.taken d).fin ((s.taken d).ticket d) stCapacity 5) :=
  State.accepted_runs rfl h ((if_neg (by simp [htest])).trans ((if_neg (by simp [hlock])).trans
    ((if_neg (by simp [hclamp])).trans (if_pos (by simp [hlatch, htj])))))

theorem exec_switchUnlock_releases
    (hsum : (s.taken d).clampSum d.target.toNat < (s.taken d).get Fld.SW_CFG__CLAMP_BUDGET d.target.toNat * 500000)
    (htj : (s.taken d).get Fld.SW_STATUS__TJ d.target.toNat < 200) : exec (.switchUnlock d) s =
      .next (((((s.taken d).setSw d.target.toNat { (s.taken d).sw d.target.toNat with clampLock := 0, latch := 0, drive := false
        }).lockMirrorSw d.target.toNat).postSwitch d.target.toNat { code := 0x505, sev := 0, obj := d.target.toNat }).fin
          ((s.taken d).ticket d) stDone 1) :=
  State.accepted_runs rfl h ((if_neg (by simp [htest])).trans ((if_neg (by simp [hlock])).trans
    ((if_neg (by simp [Nat.not_le.2 hsum])).trans (if_neg (by simp [Nat.not_le.2 htj])))))

end

end

end

/-! ### SWITCH_CONFIG -/

section
variable {s : State} {d : Desc} (h : s.accepts 0x23 d = true)
include h

theorem exec_switchConfig_bad {k : Nat} (hbad : switchConfigBad d.param = some k) :
    exec (.switchConfig d) s = .next ((s.taken d).fin ((s.taken d).ticket d) stBad k) :=
  State.accepted_runs rfl h (by simp only [hbad])

section
variable (hgood : switchConfigBad d.param = none)
include hgood

/-- Good settings wait for the boundary, but for an FS that R555 forbids and for a switch in test. -/
theorem exec_switchConfig_good {u : State}
    (hu : (if (decide (field d.param 0 1 ≠ 0) && ((s.taken d).sessionSw d.target.toNat
        || (s.taken d).flag Fld.SW_CFG__SAFETY d.target.toNat)) = true then (s.taken d).fin ((s.taken d).ticket d) stCapacity 1
      else if ((s.taken d).sw d.target.toNat).test.isSome = true then (s.taken d).fin ((s.taken d).ticket d) stCapacity 1
      else (s.taken d).setSw d.target.toNat { (s.taken d).sw d.target.toNat with
        cfgPend := ((s.taken d).sw d.target.toNat).cfgPend ++ [((s.taken d).ticket d, d.param)] }) = u) :
    exec (.switchConfig d) s = .next u :=
  State.accepted_runs rfl h (by simp only [hgood]; exact hu)

theorem exec_switchConfig_session (hfs : field d.param 0 1 ≠ 0) (hsession : (s.taken d).sessionSw d.target.toNat = true) :
    exec (.switchConfig d) s = .next ((s.taken d).fin ((s.taken d).ticket d) stCapacity 1) :=
  exec_switchConfig_good h hgood (if_pos (by simp [hfs, hsession]))

theorem exec_switchConfig_waits (hfs : field d.param 0 1 = 0) (htest : ((s.taken d).sw d.target.toNat).test.isSome = false) :
    exec (.switchConfig d) s = .next ((s.taken d).setSw d.target.toNat { (s.taken d).sw d.target.toNat with
      cfgPend := ((s.taken d).sw d.target.toNat).cfgPend ++ [((s.taken d).ticket d, d.param)] }) :=
  exec_switchConfig_good h hgood ((if_neg (by simp [hfs])).trans (if_neg (by simp [htest])))

theorem exec_switchConfig_inTest (htest : ((s.taken d).sw d.target.toNat).test.isSome = true) :
    exec (.switchConfig d) s = .next ((s.taken d).fin ((s.taken d).ticket d) stCapacity 1) :=
  exec_switchConfig_good h hgood (by rw [if_pos htest, ite_self])

end

end

/-! ### SWITCH_RETURN -/

section
variable {s : State} {d : Desc} (h : s.accepts 0x24 d = true)
include h

theorem exec_switchReturn_inTest (htest : ((s.taken d).sw d.target.toNat).test.isSome = true) :
    exec (.switchReturn d) s = .next ((s.taken d).fin ((s.taken d).ticket d) stCapacity 1) :=
  State.accepted_runs rfl h (if_pos htest)

section
variable (htest : ((s.taken d).sw d.target.toNat).test.isSome = false)
include htest

theorem exec_switchReturn_works (hfail : (s.taken d).swFailed d.target.toNat = false) :
    exec (.switchReturn d) s = .next ((s.taken d).fin ((s.taken d).ticket d) stDone 0) :=
  State.accepted_runs rfl h ((if_neg (by simp [htest])).trans (if_pos (by rw [hfail]; rfl)))

section
variable (hfail : (s.taken d).swFailed d.target.toNat = true)
include hfail

theorem exec_switchReturn_session {p : Nat} (hp : p ∈ (s.taken d).pointsOfSw d.target.toNat) (hlo : 1 ≤ (s.taken d).mpState p)
    (hhi : (s.taken d).mpState p ≤ 3) :
    exec (.switchReturn d) s = .next ((s.taken d).fin ((s.taken d).ticket d) stCapacity 1) :=
  State.accepted_runs rfl h ((if_neg (by simp [htest])).trans ((if_neg (by simp [hfail])).trans
    (if_pos (List.any_eq_true.2 ⟨p, hp, by simp [hlo, hhi]⟩))))

theorem exec_switchReturn_tests
    (hfree : ∀ p ∈ (s.taken d).pointsOfSw d.target.toNat, (s.taken d).mpState p = 0 ∨ 3 < (s.taken d).mpState p) :
    exec (.switchReturn d) s = .next ((s.taken d).setSw d.target.toNat { (s.taken d).sw d.target.toNat with
      test := some ((s.taken d).ticket d) }) := by
  refine State.accepted_runs rfl h ((if_neg (by simp [htest])).trans ((if_neg (by simp [hfail])).trans (if_neg ?_)))
  rw [Bool.not_eq_true, List.any_eq_false]
  intro p hp
  have hstate := hfree p hp
  simp only [Bool.and_eq_true, decide_eq_true_eq]
  omega

end

end

end

/-- Settles O39: each clause is the branch above that its hypotheses select. -/
theorem switchDescriptors : Obligations.SwitchDescriptors :=
  ⟨fun _ _ => exec_switchUnlock_notLocked, fun _ _ => exec_switchUnlock_clampFull, fun _ _ => exec_switchUnlock_hot,
    fun _ _ => exec_switchUnlock_releases, fun _ _ _ h => exec_switchConfig_bad h, fun _ _ => exec_switchConfig_session,
    fun _ _ => exec_switchConfig_waits, fun _ _ => exec_switchReturn_works, fun _ _ => exec_switchReturn_tests,
    fun _ _ => exec_switchUnlock_inTest, fun _ _ => exec_switchConfig_inTest, fun _ _ => exec_switchReturn_inTest,
    fun _ _ _ h htest hfail => exec_switchReturn_session h htest hfail⟩

end Sys2Proof.Machine
end

section
/-!
PROOFS. Protection of the load switches (R284, R562, R563, R566, R567), supply under-voltage (R568), the serial watchdog (R569) and ISNS
(R571).
-/
namespace Sys2Proof.Machine

/-! ### Overload, overtemperature, open load and failure -/

/-- A protected switch-off is reported, and the deliveries over the switch stop (R566). -/
def State.protReported (s : State) (n cause : Nat) : State :=
  let v := s.postSwitch n { code := 0x501, sev := 1, obj := n, data := cause }
  if v.sessionSw n = true then v.stopPoints n 5 else v

section
variable {s : State} {n : Nat}

/-- Once the switch is off, counted and reported with its cause, it latches or owes a restart. -/
theorem State.protectOff_of {cause r : Nat} {t u : State}
    (hr : r = if (s.sw n).onSince + 10000000 ≤ s.time then 0 else s.get Fld.SW_STATUS__RETRIES n)
    (ht : t = (((s.put Fld.SW_STATUS__RETRIES n r).setWant n false).bump Fld.SW_COUNT__PROT_OFFS n 1).put
      (if cause = 1 then Fld.DRV_ERR__OVERLOAD else Fld.DRV_ERR__OVERTEMP) 0 1)
    (hu : u = t.protReported n cause) :
    s.protectOff n cause =
      if u.flag Fld.SW_CFG__OT_MODE n = true ∨ (8 ≤ r ∧ u.sessionSw n = false) then
        (((u.setSw n { u.sw n with latch := if cause = 1 then 4 else 3 }).lockMirrorSw n).dropRestart n).postSwitch n
          { code := 0x502, sev := 2, obj := n, data := if cause = 1 then 4 else 3 }
      else if u.sessionSw n = true ∨ u.swLocked n = true then u else u.setSw n { u.sw n with due := cause } := by
  have hput (w : State) : (if cause = 1 then w.put Fld.DRV_ERR__OVERLOAD 0 1 else w.put Fld.DRV_ERR__OVERTEMP 0 1)
      = w.put (if cause = 1 then Fld.DRV_ERR__OVERLOAD else Fld.DRV_ERR__OVERTEMP) 0 1 := by split <;> rfl
  simp only [State.protReported] at hu
  unfold State.protectOff
  simp only [hput, ← hr, ← ht, ← hu, Bool.or_eq_true, Bool.and_eq_true, decide_eq_true_eq, Bool.not_eq_true']

theorem exec_overloadTrip_trips (hon : s.swOn n = true) (hlim : s.flag Fld.SW_CFG__ILIM_TIME n = true) :
    exec (.overloadTrip n) s = .next (s.protectOff n 1) :=
  congrArg Host.Outcome.next (if_pos (by simp [hon, hlim]))

theorem exec_overloadTrip_idle (h : s.swOn n = false ∨ s.flag Fld.SW_CFG__ILIM_TIME n = false) :
    exec (.overloadTrip n) s = .next s :=
  congrArg Host.Outcome.next (if_neg (by rcases h with h | h <;> simp [h]))

/-- A restart is asked for, and owed no more. -/
def State.restartAsked (s : State) (n : Nat) : State := (s.setSw n { s.sw n with due := 0 }).askRestart n 2

/-- What a restart owed for a cause comes to: it is asked for while the C-die runs. -/
theorem State.owed_asks {cause : Nat} (hdue : (s.sw n).due = cause) (hrun : s.dieRuns .cdie = true) :
    (if (decide ((s.sw n).due = cause) && s.dieRuns .cdie) = true then s.restartAsked n else s) = s.restartAsked n :=
  if_pos (by simp [hdue, hrun])

theorem State.owed_waits {cause : Nat} (h : (s.sw n).due ≠ cause ∨ s.dieRuns .cdie = false) :
    (if (decide ((s.sw n).due = cause) && s.dieRuns .cdie) = true then s.restartAsked n else s) = s :=
  if_neg (by rcases h with h | h <;> simp [h])

theorem exec_overtemperatureCooled_below {tj : Nat} {t : State} (htj : tj < 200) (ht : (let u := s.put Fld.SW_STATUS__TJ n tj
    if (decide ((u.sw n).due = 2) && u.dieRuns .cdie) = true then u.restartAsked n else u) = t) :
    exec (.overtemperatureCooled n tj) s = .next t :=
  (if_neg (Nat.not_le.2 htj)).trans (congrArg Host.Outcome.next ht)

theorem exec_switchOpenLoad_shown (h : s.swOn n = false ∨ s.flag Fld.SW_STATUS__OPEN_LOAD n = true) :
    exec (.switchOpenLoad n) s = .next s :=
  congrArg Host.Outcome.next (if_neg (by rcases h with h | h <;> simp [h]))

theorem exec_switchOpenLoad_shows (hon : s.swOn n = true) (hnew : s.flag Fld.SW_STATUS__OPEN_LOAD n = false) :
    exec (.switchOpenLoad n) s =
      .next ((s.put Fld.SW_STATUS__OPEN_LOAD n 1).postSwitch n { code := 0x504, sev := 1, obj := n }) :=
  congrArg Host.Outcome.next (if_pos (by simp [hon, hnew]))

theorem exec_switchFailure_noCode {code : Nat} (h : code = 0 ∨ 5 < code) : exec (.switchFailure n code) s = .next s :=
  if_pos (by simpa using h)

/-- R284: the switch is off and locked, with its event. -/
def State.failedOff (s : State) (n code : Nat) : State :=
  ((((s.put Fld.SW_STATUS__FAIL n code).setWant n false).lockMirrorSw n).dropRestart n).postSwitch n
    { code := 0x5F0, sev := 2, obj := n, data := code }

theorem exec_switchFailure_locks {code : Nat} (hlo : 1 ≤ code) (hhi : code ≤ 5) : exec (.switchFailure n code) s =
    .next (if (s.failedOff n code).sessionSw n then (s.failedOff n code).stopPoints n 5 else s.failedOff n code) :=
  if_neg (by simp; omega)

end

/-! ### Supply under-voltage -/

/-- A switch that the under-voltage turned off stops its session, or waits for a restart unless it is locked. -/
def State.uvOff (s : State) (n : Nat) : State :=
  if (s.setWant n false).sessionSw n = true then (s.setWant n false).stopPoints n 5
  else if (s.setWant n false).swLocked n = true then s.setWant n false
  else (s.setWant n false).put Fld.SW_STATUS__UV_WAIT n 1

/-- The switches that wait for the supply. -/
def State.uvWaiting (s : State) : List Nat := (upTo 48).filter fun n => s.flag Fld.SW_STATUS__UV_WAIT n

section
variable {s : State} {v : Nat}

theorem exec_vswUndervoltage_falls {t : State} (hv : v < 750) (hgood : s.vswGood = true) (hrun : s.dieRuns .ddie = true)
    (ht : t = ((s.put Fld.DRV_STATUS__VSW 0 v).put Fld.DRV_STATUS__VSW_STATE 0 1).put Fld.DRV_ERR__VSW_UV 0 1) :
    exec (.vswUndervoltage v) s = .next ((((upTo 48).filter s.swOn).foldl State.uvOff t).postBoth
      { code := 0x110, sev := 2, data := ((upTo 48).filter s.swOn).length }) := by
  subst ht
  exact if_neg (by simp [hv, hgood, hrun])

theorem exec_vswUndervoltage_idle (h : 750 ≤ v ∨ s.vswGood = false ∨ s.dieRuns .ddie = false) :
    exec (.vswUndervoltage v) s = .next s :=
  if_pos (by rcases h with h | h | h <;> simp [h])

theorem exec_vswRestored_rises {t u : State} (hv : 850 < v) (hgood : s.vswGood = false) (hrun : s.dieRuns .ddie = true)
    (ht : t = if s.dieRuns .cdie = true then s else (upTo 48).foldl (fun s n => s.put Fld.SW_STATUS__UV_WAIT n 0) s)
    (hu : u = ((t.put Fld.DRV_STATUS__VSW 0 v).put Fld.DRV_STATUS__VSW_STATE 0 (if t.uvWaiting = [] then 0 else 2)).postBoth
      { code := 0x111, sev := 0, data := t.uvWaiting.length }) : exec (.vswRestored v) s =
      .next ((upTo 48).foldl (fun u n => u.swRefresh n) (t.uvWaiting.foldl (fun s n => s.askRestart n 1) u)) := by
  simp only [← List.isEmpty_iff] at hu
  subst ht hu
  exact if_neg (by simp [hv, hgood, hrun])

theorem exec_vswRestored_idle (h : v ≤ 850 ∨ s.vswGood = true ∨ s.dieRuns .ddie = false) : exec (.vswRestored v) s = .next s :=
  if_pos (by rcases h with h | h | h <;> simp [h])

end

/-! ### The serial watchdog -/

/-- R569: every switch with FS off that is on is driven off, and every pilot to state F. -/
def State.failsafeOff (s : State) : State :=
  (upTo 64).foldl (fun w i => w.drivePilot i 2 0) (((upTo 48).filter fun n => s.swOn n && s.get Fld.SW_CFG__FS n == 0).foldl
    (fun w n => (w.setSw n { w.sw n with drive := false }).swRefresh n) s)

section
variable {s : State}

theorem exec_serialWatchdogExpiry_idle
    (h : s.gov.wdt.isSome = true ∨ s.dieRuns .ddie = false ∨ (s.pwr = 2 ∧ s.linkUp .driver = true)) :
    exec .serialWatchdogExpiry s = .next s :=
  if_pos (by simpa [or_assoc] using h)

theorem exec_serialWatchdogExpiry_expires {u v : State} (hwdt : s.gov.wdt = none) (hrun : s.dieRuns .ddie = true)
    (hpwr : s.pwr ≠ 2 ∨ s.linkUp .driver = false)
    (hu : u = (s.bump Fld.DRV_WDT__EXPIRIES 0 1).put Fld.DRV_ERR__WDT_EXPIRED 0 1) (hv : v = u.failsafeOff) :
    exec .serialWatchdogExpiry s = .next (v.setGov { v.gov with
      wdt := some ((upTo 48).filter fun n => u.swOn n && u.get Fld.SW_CFG__FS n == 0).length,
      fsOn := (upTo 48).filter fun n => !u.swOn n && u.get Fld.SW_CFG__FS n == 1 && !u.swLocked n && !u.swFailed n }) := by
  subst hu hv
  exact if_neg (by rcases hpwr with hpwr | hpwr <;> simp [hwdt, hrun, hpwr])

theorem exec_failsafeOnSequence_next {u : State} {k n : Nat} {r : List Nat} (hwdt : s.gov.wdt = some k) (hon : s.gov.fsOn = n :: r)
    (hu : u = s.setGov { s.gov with wdt := some (k + 1), fsOn := r }) : exec .failsafeOnSequence s =
      .next (if u.swLocked n = true ∨ u.swFailed n = true then u
        else ((u.setSw n { u.sw n with drive := true }).swRefresh n).postSwitch n { code := 0x503, sev := 0, obj := n, data := 3 }) := by
  change execFailsafeOnSequence s = _
  unfold execFailsafeOnSequence
  simp only [hwdt, hon, ← hu, Bool.or_eq_true]
  exact (apply_ite Host.Outcome.next _ _ _).symm

theorem exec_failsafeOnSequence_idle (h : s.gov.wdt = none ∨ s.gov.fsOn = []) : exec .failsafeOnSequence s = .next s := by
  change execFailsafeOnSequence s = _
  unfold execFailsafeOnSequence
  rcases h with h | h
  · rw [h]
  · cases hwdt : s.gov.wdt <;> rw [h]

end

/-! ### ISNS -/

section
variable {s : State}

theorem exec_drvIsnsSelWrite_takes (v : W32) (h : s.flag Fld.DRV_STATUS__SNS_SEL_MODE 0 = false) :
    exec (.drvIsnsSelWrite v) s = .next (s.selectIsns (bitsAt v.toNat 0 6)) :=
  congrArg Host.Outcome.next (if_neg (by simp [h]))

theorem exec_drvIsnsSelWrite_ignored (v : W32) (h : s.flag Fld.DRV_STATUS__SNS_SEL_MODE 0 = true) :
    exec (.drvIsnsSelWrite v) s = .next s :=
  congrArg Host.Outcome.next (if_pos h)

theorem exec_snsSelChange_takes (v : Nat) (h : s.flag Fld.DRV_STATUS__SNS_SEL_MODE 0 = true) :
    exec (.snsSelChange v) s = .next (s.selectIsns v) :=
  congrArg Host.Outcome.next (if_pos h)

theorem exec_snsSelChange_ignored (v : Nat) (h : s.flag Fld.DRV_STATUS__SNS_SEL_MODE 0 = false) :
    exec (.snsSelChange v) s = .next s :=
  congrArg Host.Outcome.next (if_neg (by simp [h]))

end

/-- Settles O38: each clause is the branch above that its hypotheses select. -/
theorem switchProtection : Obligations.SwitchProtection :=
  ⟨fun _ _ => exec_overloadTrip_trips, fun _ _ => exec_overloadTrip_idle, fun _ _ _ _ _ _ => State.protectOff_of,
    fun _ _ hdue hrun => congrArg Host.Outcome.next (State.owed_asks hdue hrun),
    fun _ _ h => congrArg Host.Outcome.next (State.owed_waits h), fun _ _ hon => congrArg Host.Outcome.next (if_pos hon),
    fun _ _ hoff => congrArg Host.Outcome.next (if_neg (ne_true_of_eq_false hoff)),
    fun _ _ _ htj hdue hrun => exec_overtemperatureCooled_below htj (State.owed_asks hdue hrun),
    fun _ _ _ htj h => exec_overtemperatureCooled_below htj (State.owed_waits h), fun _ _ _ htj => if_pos htj,
    fun _ _ => exec_switchOpenLoad_shown, fun _ _ _ => exec_switchFailure_noCode, fun _ _ => exec_switchOpenLoad_shows,
    fun _ _ _ hlo hhi => ⟨_, rfl, exec_switchFailure_locks hlo hhi⟩, fun _ _ _ => exec_vswUndervoltage_falls,
    fun _ _ => exec_vswUndervoltage_idle, fun _ _ _ _ => exec_vswRestored_rises, fun _ _ => exec_vswRestored_idle,
    fun _ => exec_serialWatchdogExpiry_idle,
    fun _ hwdt hrun hpwr => ⟨_, _, rfl, rfl, exec_serialWatchdogExpiry_expires hwdt hrun hpwr rfl rfl⟩,
    fun _ _ _ _ _ => exec_failsafeOnSequence_next, fun _ => exec_failsafeOnSequence_idle, fun _ => exec_drvIsnsSelWrite_takes,
    fun _ => exec_drvIsnsSelWrite_ignored, fun _ => exec_snsSelChange_takes, fun _ => exec_snsSelChange_ignored⟩

end Sys2Proof.Machine
end

section
/-!
PROOFS. Commands of a charging slice: lock (R531, R532), pilot (R519, R520), proximity (R525), timers (R523, R524, R526, R527), earth fault
(R542 to R544) and SLICE_RETURN (R285).
-/
namespace Sys2Proof.Machine

@[simp] theorem State.slice_setBoot (s : State) (b : BootSt) (i : Nat) : (s.setBoot b).slice i = s.slice i := rfl

/-! ### Lock -/

/-- R532: a lock that fails to lock keeps the start of its point from OFFERED. -/
def State.lockStartDropped (s : State) (i : Nat) (dir : Bool) : State :=
  match dir, (s.scfg i).point with
  | true, some p => match s.starts.find? fun x => x.point == p && x.phase != 3 with
    | some x => s.dropStart x stCapacity 0xD 0
    | none => s
  | _, _ => s

/-- R531: a drive that stays without its feedback is a LOCK_FAULT, with its event. -/
def State.lockFaulted (s : State) (i : Nat) (dir : Bool) : State :=
  ((s.setSlice i { s.slice i with
    lockDir := none, lockRun := none, lockAgain := false, lockFault := true, locked := false, unlockDue := false,
    lockWaits := [] }).lockMirror i).postSlice i { code := 0x407, sev := 2, obj := i, data := if dir = true then 1 else 2 }

/-- The filtered lock feedback as an input. -/
def State.lockFed (s : State) (i : Nat) (x : Bool) : State :=
  s.setBoot { s.boot with inputs := tabSet s.boot.inputs (.lockFb i) (if x = true then .high else .low) }

section
variable {s : State} {i : Nat}

theorem exec_lockHoldExpiry_held (h : s.deEnergised i = true) :
    exec (.lockHoldExpiry i) s = .next (s.setSlice i { s.slice i with held := true }) :=
  congrArg Host.Outcome.next (if_pos h)

theorem exec_lockHoldExpiry_idle (h : s.deEnergised i = false) : exec (.lockHoldExpiry i) s = .next s :=
  congrArg Host.Outcome.next (if_neg (by simp [h]))

theorem exec_lockConfirmTimeout_idle (h : (s.slice i).lockDir = none ∨ (s.slice i).lockRun = none) :
    exec (.lockConfirmTimeout i) s = .next s := by
  change execLockConfirmTimeout i s = _
  unfold execLockConfirmTimeout
  rcases h with h | h
  · simp only [h]
  · cases hdir : (s.slice i).lockDir <;> simp only [hdir, h]

section
variable {dir : Bool} {k : Nat} (hdir : (s.slice i).lockDir = some dir) (hrun : (s.slice i).lockRun = some k)
include hdir hrun

theorem exec_lockConfirmTimeout_first (hfirst : (s.slice i).lockAgain = false) : exec (.lockConfirmTimeout i) s =
    .next ((s.setSlice i { s.slice i with lockRun := none, lockAgain := true }).lockMirror i) := by
  change execLockConfirmTimeout i s = _
  unfold execLockConfirmTimeout
  simp only [hdir, hrun]
  exact if_pos (by rw [hfirst]; rfl)

/-- R531: the second drive without its feedback is a LOCK_FAULT, and what waits for the lock ends. -/
theorem exec_lockConfirmTimeout_second {t u : State} (hagain : (s.slice i).lockAgain = true) (ht : t = s.lockFaulted i dir)
    (hu : u = (s.slice i).lockWaits.foldl (fun s w => s.fin w.1 stCapacity 3) t) :
    exec (.lockConfirmTimeout i) s = .next (u.lockStartDropped i dir) := by
  subst ht hu
  change execLockConfirmTimeout i s = _
  unfold execLockConfirmTimeout
  simp only [hdir, hrun]
  exact if_neg (by simp [hagain])

end

theorem exec_lockRetry_repeats {dir : Bool} (hdir : (s.slice i).lockDir = some dir) (hagain : (s.slice i).lockAgain = true)
    (hrun : (s.slice i).lockRun = none) : exec (.lockRetry i) s = .next ((s.setSlice i { s.slice i with
      lockWant := (dir, (s.slice i).lockWaits) :: (s.slice i).lockWant, lockDir := none, lockWaits := [] }).lockGo i) := by
  change execLockRetry i s = _
  unfold execLockRetry
  simp only [hdir]
  exact congrArg Host.Outcome.next (if_pos (by simp [hagain, hrun]))

theorem exec_lockRetry_idle
    (h : (s.slice i).lockDir = none ∨ (s.slice i).lockAgain = false ∨ (s.slice i).lockRun.isSome = true) :
    exec (.lockRetry i) s = .next s := by
  change execLockRetry i s = _
  unfold execLockRetry
  cases hdir : (s.slice i).lockDir with
  | none => simp only [hdir]
  | some dir =>
    simp only [hdir]
    refine congrArg Host.Outcome.next (if_neg ?_)
    rcases h with h | h | h
    · rw [hdir] at h
      cases h
    · simp [h]
    · simp [Option.isSome_iff_ne_none.1 h]

theorem exec_lockFeedbackChange_dieOff (x : Bool) (hrun : s.dieRuns .ddie = false) : exec (.lockFeedbackChange i x) s = .next s :=
  if_pos (by rw [hrun]; rfl)

section
variable (hrun : s.dieRuns .ddie = true)
include hrun

theorem exec_lockFeedbackChange_confirms {t : Nat} {x : Bool} (hdir : (s.slice i).lockDir = some x)
    (hdrive : (s.slice i).lockRun = some t) : exec (.lockFeedbackChange i x) s = .next ((s.lockFed i x).lockConfirmed i x) :=
  (if_neg (by simp [hrun])).trans (if_pos (by simp [hdir, hdrive]))

/-- R529, R531: a lock that is lost without an order trips the session. -/
theorem exec_lockFeedbackChange_lost {u : State} (hdir : (s.slice i).lockDir = none) (hlocked : (s.slice i).locked = true)
    (hu : s.lockFed i false = u) : exec (.lockFeedbackChange i false) s =
      .next ((((u.setSlice i { u.slice i with locked := false, lockFault := true }).lockMirror i).postSlice i
        { code := 0x407, sev := 2, obj := i, data := 3 }).reflex i 0xA 0) := by
  subst hu
  exact (if_neg (by simp [hrun])).trans ((if_neg (by simp [hdir])).trans (if_pos (by simp [hdir, hlocked])))

theorem exec_lockFeedbackChange_shows {u : State} {x : Bool} (hu : u = s.lockFed i x)
    (hno : (s.slice i).lockDir ≠ some x ∨ (s.slice i).lockRun = none)
    (hkept : x = true ∨ (s.slice i).locked = false ∨ (s.slice i).lockDir ≠ none) :
    exec (.lockFeedbackChange i x) s = .next (u.lockMirror i) := by
  subst hu
  refine (if_neg (by simp [hrun])).trans ((if_neg ?_).trans (if_neg ?_))
  · rcases hno with hno | hno <;> simp [hno]
  · rcases hkept with hkept | hkept | hkept <;> simp [hkept]

end

end

/-! ### Pilot -/

/-- The shown pilot state after a confirmed one: the first one confirmed is no change (R520). -/
def State.pilotShown (s : State) (i k : Nat) : State :=
  if s.pilot i = k then s
  else if s.pilot i = 7 then s.put Fld.SLICE_STATUS__PILOT i k
  else (s.put Fld.SLICE_STATUS__PILOT i k).wakeSource 6

section
variable {s : State} {i : Nat}

theorem exec_pilotStateConfirmed_idle (h0 l : Int) (h : 2 ≤ (s.slice i).out ∨ s.dieRuns .ddie = false) :
    exec (.pilotStateConfirmed i h0 l) s = .next s :=
  if_pos (by simpa using h)

theorem exec_pilotStateConfirmed_shows {t u : State} {k : Nat} {h l : Int} (hout : (s.slice i).out < 2)
    (hrun : s.dieRuns .ddie = true) (hk : k = pilotClass (s.pilot i) ((s.slice i).out == 1) h l)
    (ht : t = (s.put Fld.SLICE_PILOT__HIGH i (bitsOf 16 h)).put Fld.SLICE_PILOT__LOW i
      (if (s.slice i).out = 1 then bitsOf 16 l else 0x8000)) (hu : u = t.pilotShown i k) :
    exec (.pilotStateConfirmed i h l) s = .next (if k = 0 then u.reflex i 2 0 else if k = 4 ∨ k = 6 then u.reflex i 3 0 else u) := by
  subst hu ht hk
  refine (if_neg (by simp [hrun, hout])).trans ?_
  simp only [Bool.or_eq_true, decide_eq_true_eq]
  rfl

end

/-- R519: does the state last confirmed hold at a level, within its hysteresis? -/
def pilotKeep (last : Nat) (h : Int) : Bool :=
  match last with
  | 0 => decide (10400 ≤ h)
  | 1 => decide (7400 ≤ h) && decide (h ≤ 10600)
  | 2 => decide (4400 ≤ h) && decide (h ≤ 7600)
  | 3 => decide (1400 ≤ h) && decide (h ≤ 4600)
  | 4 => decide (h ≤ 1600)
  | _ => false

/-- R519: the state of a level alone. -/
def pilotBand (h : Int) : Nat := if 10500 < h then 0 else if 7500 ≤ h then 1 else if 4500 ≤ h then 2 else if 1500 ≤ h then 3 else 4

/-- The state of a level after the state last confirmed. -/
def pilotLevel (last : Nat) (h : Int) : Nat := if pilotKeep last h = true then last else pilotBand h

theorem pilotClass_eq (last : Nat) (pwm : Bool) (h l : Int) : pilotClass last pwm h l =
    if (decide (1 ≤ pilotLevel last h) && decide (pilotLevel last h ≤ 3) && pwm && decide (-10500 < l)) = true then 6
    else pilotLevel last h := rfl

theorem pilotClass_steady (last : Nat) (h l : Int) : pilotClass last false h l = pilotLevel last h := by
  rw [pilotClass_eq, Bool.and_false, Bool.false_and, if_neg Bool.false_ne_true]

theorem pilotKeep_iff (last : Nat) (h : Int) : pilotKeep last h = true ↔ (last = 0 ∧ 10400 ≤ h) ∨
    (last = 1 ∧ 7400 ≤ h ∧ h ≤ 10600) ∨ (last = 2 ∧ 4400 ≤ h ∧ h ≤ 7600) ∨ (last = 3 ∧ 1400 ≤ h ∧ h ≤ 4600) ∨ (last = 4 ∧ h ≤ 1600) := by
  match last with
  | 0 | 1 | 2 | 3 | 4 => simp [pilotKeep]
  | n + 5 => simp [pilotKeep]

/-- A level that no other state keeps is its band's. -/
theorem pilotLevel_eq {last v : Nat} {h : Int} (hband : pilotBand h = v) (hkeep : pilotKeep last h = true → last = v) :
    pilotLevel last h = v := by
  unfold pilotLevel
  split
  case isTrue hk => exact hkeep hk
  case isFalse => exact hband

/-- R519: clear of the hysteresis zones the level alone tells the state. -/
theorem pilotLevel_bands (last : Nat) (h : Int) : (10600 < h → pilotLevel last h = 0) ∧
    (7600 < h → h < 10400 → pilotLevel last h = 1) ∧ (4600 < h → h < 7400 → pilotLevel last h = 2) ∧
    (1600 < h → h < 4400 → pilotLevel last h = 3) ∧ (h < 1400 → pilotLevel last h = 4) := by
  have hkept (hkeep : pilotKeep last h = true) := (pilotKeep_iff last h).1 hkeep
  refine ⟨fun hA => ?_, fun hB hB' => ?_, fun hC hC' => ?_, fun hD hD' => ?_, fun hE => ?_⟩
  · exact pilotLevel_eq (if_pos (by omega)) fun hkeep => by have := hkept hkeep; omega
  · exact pilotLevel_eq ((if_neg (by omega)).trans (if_pos (by omega))) fun hkeep => by have := hkept hkeep; omega
  · exact pilotLevel_eq ((if_neg (by omega)).trans ((if_neg (by omega)).trans (if_pos (by omega))))
      fun hkeep => by have := hkept hkeep; omega
  · exact pilotLevel_eq ((if_neg (by omega)).trans ((if_neg (by omega)).trans ((if_neg (by omega)).trans (if_pos (by omega)))))
      fun hkeep => by have := hkept hkeep; omega
  · exact pilotLevel_eq ((if_neg (by omega)).trans ((if_neg (by omega)).trans ((if_neg (by omega)).trans (if_neg (by omega)))))
      fun hkeep => by have := hkept hkeep; omega

/-- R519: with PWM and a low level that shows no diode, a vehicle's state is E's 6. -/
theorem pilotClass_noDiode {last : Nat} {h l : Int} (hlevel : pilotLevel last h = 2) (hlow : -10500 < l) :
    pilotClass last true h l = 6 := by
  rw [pilotClass_eq, hlevel]
  exact if_pos (by simp [hlow])

/-! ### Proximity -/

/-- The proximity registers of a resistance with its code. -/
def State.proximityShown (s : State) (i ohm k : Nat) : State :=
  ((s.put Fld.SLICE_PP__R_PP i (if k = 0 then 65535 else min 65535 ohm)).put Fld.SLICE_PP__PP_CODE i k).put
    Fld.SLICE_PP__CABLE_A i (min 255 (cableOf (s.scfg i) k))

section
variable {s : State} {i ohm : Nat}

theorem exec_proximityConfirmed_shows {t : State} {k : Nat} (hrun : s.dieRuns .ddie = true) (hk : k = ppClass (s.scfg i).ppMode ohm)
    (ht : t = s.proximityShown i ohm k) : exec (.proximityConfirmed i ohm) s = .next (if (s.scfg i).ppMode = 0 then
      (if k = 0 then t.reflex i 2 0 else if k = 5 then t.reflex i 3 0 else t) else if k = 2 then t.stopSlice i 8 2 else t) := by
  subst ht hk
  exact (if_neg (by simp [hrun])).trans (apply_ite Host.Outcome.next _ _ _).symm

theorem exec_proximityConfirmed_dieOff (hrun : s.dieRuns .ddie = false) : exec (.proximityConfirmed i ohm) s = .next s :=
  if_pos (by rw [hrun]; rfl)

end

/-- R525: the code of a resistance under type 2, by its band. -/
theorem ppClass_bands (ohm : Nat) : (4500 < ohm → ppClass 0 ohm = 0) ∧ (1100 ≤ ohm → ohm ≤ 4500 → ppClass 0 ohm = 1) ∧
    (450 ≤ ohm → ohm ≤ 1099 → ppClass 0 ohm = 2) ∧ (160 ≤ ohm → ohm ≤ 449 → ppClass 0 ohm = 3) ∧
    (60 ≤ ohm → ohm ≤ 159 → ppClass 0 ohm = 4) ∧ (ohm < 60 → ppClass 0 ohm = 5) := by
  simp only [ppClass, if_neg Nat.zero_ne_one, Bool.and_eq_true, decide_eq_true_eq]
  split_ifs <;> omega

/-! ### Timers -/

section
variable {s : State} {i : Nat}

theorem exec_offerBelowMinimumTimeout_stops (hlow : (s.slice i).low = true) (hon : s.contactorOn i = true)
    (hpilot : s.pilot i = 2 ∨ s.pilot i = 3) : exec (.offerBelowMinimumTimeout i) s = .next (s.stopSlice i srcFirmware 9) :=
  congrArg Host.Outcome.next (if_pos (by simpa [hlow, hon] using hpilot))

theorem exec_offerBelowMinimumTimeout_idle
    (h : (s.slice i).low = false ∨ s.contactorOn i = false ∨ (s.pilot i ≠ 2 ∧ s.pilot i ≠ 3)) :
    exec (.offerBelowMinimumTimeout i) s = .next s :=
  congrArg Host.Outcome.next (if_neg (by rcases h with h | h | h <;> simp [h]))

/-- R524: the phases that have been above their limit for 5 s. -/
def State.hotPhases (s : State) (i : Nat) : List (Nat × Nat) := (s.slice i).above.filter fun x => decide (x.2 + 5000000 ≤ s.time)

theorem exec_overcurrent_stops {hot : List (Nat × Nat)} (hst : s.session i = ssEnergised) (hhot : hot = s.hotPhases i)
    (hsome : hot ≠ []) : exec (.overcurrent i) s = .next ((s.stopSlice i srcFirmware 8).postSlice i
      { code := 0x40A, sev := 1, obj := i, data := hot.foldl (fun m x => m + 2 ^ x.1) 0 }) := by
  subst hhot
  exact congrArg Host.Outcome.next (if_pos (by simpa [hst, State.hotPhases] using hsome))

theorem exec_overcurrent_idle (h : s.session i ≠ ssEnergised ∨ s.hotPhases i = []) : exec (.overcurrent i) s = .next s := by
  refine congrArg Host.Outcome.next (if_neg ?_)
  rcases h with h | h
  · simp [h]
  · rw [State.hotPhases] at h
    simp [h]

theorem exec_offerTimeout_stops (hst : s.session i = ssOffered) (hpilot : s.pilot i ≠ 2) :
    exec (.offerTimeout i) s = .next (s.stopSlice i srcFirmware 0xB) :=
  congrArg Host.Outcome.next (if_pos (by simp [hst, hpilot]))

theorem exec_offerTimeout_idle (h : s.session i ≠ ssOffered ∨ s.pilot i = 2) : exec (.offerTimeout i) s = .next s :=
  congrArg Host.Outcome.next (if_neg (by rcases h with h | h <;> simp [h]))

theorem exec_tripStateFTimeout_idle (htrip : (s.slice i).tripF = false) : exec (.tripStateFTimeout i) s = .next s :=
  if_pos (by rw [htrip]; rfl)

/-- R526: state F ends; a slice that is TRIPPED drives +12 V again. -/
theorem exec_tripStateFTimeout_of {t u : State} (htrip : (s.slice i).tripF = true)
    (ht : t = s.setSlice i { s.slice i with tripF := false }) (hu : (if t.session i = ssTripped then t.drivePilot i 0 0 else t) = u) :
    exec (.tripStateFTimeout i) s = .next u := by
  subst ht
  exact (if_neg (by simp [htrip])).trans (congrArg Host.Outcome.next hu)

end

/-! ### Earth fault -/

section
variable {s : State} {i : Nat}

theorem exec_earthFaultTrip_trips {dc : Int} (hrun : s.dieRuns .ddie = true) (hmode : (s.scfg i).efMode = 1)
    (hkind : (s.scfg i).kind = 1 ∨ (s.scfg i).kind = 2) (hon : s.contactorOn i = true) (hdc : 300 ≤ dc.natAbs) :
    exec (.earthFaultTrip i dc) s =
      .next ((s.put Fld.SLICE_RDC__I_DC i (bitsOf 16 (clampS 16 dc))).reflex i 4 (min 0x7FFF (dc.natAbs / 100))) := by
  have hlow : ¬ dc.natAbs < 300 := Nat.not_lt.2 hdc
  exact if_neg (by rcases hkind with hkind | hkind <;> simp [hrun, hmode, hkind, hon, hlow])

theorem exec_earthFaultTrip_idle {dc : Int} (h : (s.scfg i).efMode ≠ 1 ∨ (s.scfg i).kind = 3 ∨ (s.scfg i).kind = 0
    ∨ s.dieRuns .ddie = false ∨ s.contactorOn i = false ∨ dc.natAbs < 300) : exec (.earthFaultTrip i dc) s = .next s :=
  if_pos (by simpa [or_assoc] using h)

theorem exec_rdcSelfTestResult_idle (ok : Bool) (hwait : (s.slice i).rdcWait = false) :
    exec (.rdcSelfTestResult i ok) s = .next s := if_pos (by rw [hwait]; rfl)

section
variable (hwait : (s.slice i).rdcWait = true)
include hwait

theorem exec_rdcSelfTestResult_fails : exec (.rdcSelfTestResult i false) s = .next (s.failSlice i 4) :=
  (if_neg (by simp [hwait])).trans (if_pos rfl)

theorem exec_rdcSelfTestResult_noSwitch (hsw : (s.scfg i).switch = none) :
    exec (.rdcSelfTestResult i true) s = .next (s.setSlice i { s.slice i with rdcWait := false }) := by
  refine (if_neg (by simp [hwait])).trans ((if_neg (by decide)).trans (congrArg Host.Outcome.next ?_))
  change (match (s.scfg i).switch with | some n => _ | none => _) = _
  rw [hsw]

theorem exec_rdcSelfTestResult_closes {n : Nat} (hsw : (s.scfg i).switch = some n) :
    exec (.rdcSelfTestResult i true) s = .next ((s.setSlice i { s.slice i with rdcWait := false }).swRefresh n) := by
  refine (if_neg (by simp [hwait])).trans ((if_neg (by decide)).trans (congrArg Host.Outcome.next ?_))
  change (match (s.scfg i).switch with | some n => _ | none => _) = _
  rw [hsw]

end

/-- R540: the shown insulation, and the answer to welding detection once the contactor has opened. -/
def State.isoSeen (s : State) (i r u : Nat) : State :=
  let v := s.isoShow i r u
  if (v.usesHlc i && v.session i = ssEnding && !v.contactorOn i) = true then v.emit (.hlc i 9 u) else v

/-- R544: insulation below 500 ohm/V is an event. -/
def State.isoPosted (s : State) (i r umax : Nat) : State :=
  s.postSlice i { code := 0x406, sev := 1, obj := i, data := min (isoPerVolt r umax) 65535 }

theorem exec_insulationMeasurement_shows {t : State} {r u umax : Nat} {l : Bool} (hmode : (s.scfg i).efMode = 2)
    (hkind : (s.scfg i).kind = 3) (hrun : s.dieRuns .ddie = true) (ht : t = s.isoSeen i r u) :
    exec (.insulationMeasurement i r u umax l) s = .next (if 500 * umax < r * 1000 then t
      else if 100 ≤ isoPerVolt r umax then t.isoPosted i r umax
      else if (l && t.session i = ssEnergised) = true then t.reflex i 4 (0x8000 + isoPerVolt r umax) else t) := by
  subst ht
  rw [apply_ite Host.Outcome.next, apply_ite Host.Outcome.next]
  exact if_neg (by simp [hmode, hkind, hrun])

theorem exec_insulationMeasurement_idle (r u umax : Nat) (l : Bool)
    (h : (s.scfg i).efMode ≠ 2 ∨ (s.scfg i).kind ≠ 3 ∨ s.dieRuns .ddie = false) :
    exec (.insulationMeasurement i r u umax l) s = .next s := if_pos (by simpa [or_assoc] using h)

section
variable (r u umax : Nat)

section
variable (hmode : (s.scfg i).efMode = 2) (hkind : (s.scfg i).kind = 3) (hin : s.inSession i = true)
include hmode hkind hin

theorem exec_cableCheckResult_fails : exec (.cableCheckResult i r u umax false) s = .next (s.failSlice i 4) :=
  (if_neg (by simp [hmode, hkind, hin])).trans (if_pos rfl)

theorem exec_cableCheckResult_shows : exec (.cableCheckResult i r u umax true) s = .next (if 500 * umax < r * 1000 then s.isoShow i r u
    else if 100 ≤ isoPerVolt r umax then (s.isoShow i r u).isoPosted i r umax
    else (s.isoShow i r u).stopSlice i srcFirmware 4) := by
  rw [apply_ite Host.Outcome.next, apply_ite Host.Outcome.next]
  exact (if_neg (by simp [hmode, hkind, hin])).trans (if_neg (by decide))

end

theorem exec_cableCheckResult_idle (l : Bool) (h : (s.scfg i).efMode ≠ 2 ∨ (s.scfg i).kind ≠ 3 ∨ s.inSession i = false) :
    exec (.cableCheckResult i r u umax l) s = .next s := if_pos (by simpa [or_assoc] using h)

end

end

/-! ### SLICE_RETURN -/

/-- R285: may a failed slice be tested? Its point, if it has one, is out of service for the slice alone, with its last record formed and no
start open. -/
def State.returnReady (s : State) (i : Nat) : Bool :=
  match (s.scfg i).point with
  | some p => (s.mp p).oos == [1] && (s.mp p).final && (s.mp p).recFormed && !s.starts.any (·.point == p)
  | none => true

section
variable {s : State} {d : Desc} (h : s.accepts 0x2C d = true)
include h

theorem exec_sliceReturn_inTest (htest : ((s.taken d).slice d.target.toNat).test.isSome = true) :
    exec (.sliceReturn d) s = .next ((s.taken d).fin ((s.taken d).ticket d) stCapacity 1) :=
  State.accepted_runs rfl h (if_pos htest)

section
variable (htest : ((s.taken d).slice d.target.toNat).test.isSome = false)
include htest

theorem exec_sliceReturn_works (hfault : (s.taken d).flag Fld.SLICE_STATUS__FAULT d.target.toNat = false) :
    exec (.sliceReturn d) s = .next ((s.taken d).fin ((s.taken d).ticket d) stDone 0) :=
  State.accepted_runs rfl h ((if_neg (by simp [htest])).trans (if_pos (by rw [hfault]; rfl)))

theorem exec_sliceReturn_faulty {ready : Bool} (hfault : (s.taken d).flag Fld.SLICE_STATUS__FAULT d.target.toNat = true)
    (hready : ready = (s.taken d).returnReady d.target.toNat) : exec (.sliceReturn d) s = .next (if ready = true then
      (s.taken d).setSlice d.target.toNat { (s.taken d).slice d.target.toNat with test := some ((s.taken d).ticket d) }
    else (s.taken d).fin ((s.taken d).ticket d) stCapacity 1) := by
  refine State.accepted_runs rfl h ((if_neg (by simp [htest])).trans ((if_neg (by simp [hfault])).trans ?_))
  cases ready with
  | true => exact if_neg (by change ¬ (!(s.taken d).returnReady d.target.toNat) = true; rw [← hready]; decide)
  | false => exact if_pos (by change (!(s.taken d).returnReady d.target.toNat) = true; rw [← hready]; rfl)

end

end

/-- Settles O41: each clause is the branch or the band above that its hypotheses select. -/
theorem sliceCommands : Obligations.SliceCommands :=
  ⟨fun _ _ => exec_lockHoldExpiry_held, fun _ _ => exec_lockHoldExpiry_idle, fun _ _ _ _ => exec_lockConfirmTimeout_first,
    fun _ _ _ _ _ _ hdir hrun => exec_lockConfirmTimeout_second hdir hrun, fun _ _ => exec_lockConfirmTimeout_idle,
    fun _ _ _ => exec_lockRetry_repeats, fun _ _ => exec_lockRetry_idle,
    fun _ _ _ _ hrun => exec_lockFeedbackChange_confirms hrun,
    fun _ _ hrun hdir hlocked => ⟨_, rfl, exec_lockFeedbackChange_lost hrun hdir hlocked rfl⟩,
    fun _ _ _ _ hrun => exec_lockFeedbackChange_shows hrun, fun _ _ => exec_lockFeedbackChange_dieOff,
    fun _ _ => exec_pilotStateConfirmed_idle, fun _ _ _ _ _ _ _ => exec_pilotStateConfirmed_shows,
    fun h l k _ => by
      obtain ⟨hA, hB, hC, hD, hE⟩ := pilotLevel_bands k h
      simp only [pilotClass_steady]
      exact ⟨hA, hB, hC, hD, hE, fun hlo hhi => pilotClass_noDiode (hC hlo hhi)⟩,
    fun _ _ _ _ _ => exec_proximityConfirmed_shows, ppClass_bands, fun _ _ _ => exec_proximityConfirmed_dieOff,
    fun _ _ => exec_offerBelowMinimumTimeout_stops, fun _ _ => exec_offerBelowMinimumTimeout_idle,
    fun _ _ _ => exec_overcurrent_stops, fun _ _ => exec_overcurrent_idle, fun _ _ => exec_offerTimeout_stops,
    fun _ _ => exec_offerTimeout_idle, fun _ _ => exec_tripStateFTimeout_idle,
    fun _ _ htrip hst => exec_tripStateFTimeout_of htrip rfl (if_neg hst),
    fun _ _ htrip hst => exec_tripStateFTimeout_of htrip rfl (if_pos hst),
    fun _ _ hcred => congrArg Host.Outcome.next (if_neg hcred), fun _ _ hcred => congrArg Host.Outcome.next (if_pos hcred),
    fun _ _ _ => exec_earthFaultTrip_trips, fun _ _ _ => exec_earthFaultTrip_idle, fun _ _ => exec_rdcSelfTestResult_idle,
    fun _ _ => exec_rdcSelfTestResult_fails, fun _ _ => exec_rdcSelfTestResult_noSwitch,
    fun _ _ _ hwait => exec_rdcSelfTestResult_closes hwait, fun _ _ _ _ _ _ _ => exec_insulationMeasurement_shows,
    fun _ _ => exec_insulationMeasurement_idle, fun _ _ => exec_cableCheckResult_fails, fun _ _ => exec_cableCheckResult_shows,
    fun _ _ => exec_cableCheckResult_idle, fun _ _ => exec_sliceReturn_works, fun _ _ => exec_sliceReturn_inTest,
    fun _ _ _ h htest hfault hready => exec_sliceReturn_faulty h htest hfault hready, fun _ _ => rfl, fun _ _ _ => rfl⟩

end Sys2Proof.Machine
end

section
/-!
PROOFS. Requests to a Firn die (R195, R316, R317): the conditions of a Sealed request, the requests that measure and calibrate channels
(R316 to R318, R335), and the legal requests (R424, R429, R449, R453, R454).
-/
namespace Sys2Proof.Machine

/-! ### Sealed requests (R317) -/

section
variable {s u : State} {c : Chan} {typ : Nat} {d : Firn} {ok : List Byte → Bool} {k : Firn → List Byte → Nat → State → State}
  {x : Instr} (h : s.takes c typ d = true) (hok : ok (s.reqBytes c) = true)
include h hok

theorem State.sealedReq_locks {chan : List Byte → Option Nat} (hexec : exec x s = .next (s.sealedReq c typ ok chan k))
    (hseal : (s.clearDb c 1).sealed d = true) : exec x s = .next ((s.clearDb c 1).sealLocked d c (s.chan c).seq typ) :=
  State.request_runs hexec h ((if_neg (by simp [hok])).trans (if_pos hseal))

variable (hseal : (s.clearDb c 1).sealed d = false)
include hseal

/-- A Sealed request of the whole die, unsealed and its count of changes not at its end, makes its change. -/
theorem State.sealedDieReq_changes (hexec : exec x s = .next (s.sealedReq c typ ok (fun _ => none) k))
    (hroom : (s.clearDb c 1).calFull d = false) (hk : k d (s.reqBytes c) (s.chan c).seq (s.clearDb c 1) = u) :
    exec x s = .next u :=
  State.request_runs hexec h ((if_neg (by simp [hok])).trans ((if_neg (Bool.eq_false_iff.1 hseal)).trans
    ((if_neg Bool.false_ne_true).trans ((if_neg (Bool.eq_false_iff.1 hroom)).trans hk))))

variable (hexec : exec x s = .next (s.sealedReq c typ ok (fun b => some (field b 4 2)) k))
include hexec

theorem State.sealedChannelReq_absent (hoff : chOn d (field (s.reqBytes c) 4 2) = false) :
    exec x s = .next ((s.clearDb c 1).replyReq c (s.chan c).seq typ stAbsent []) :=
  State.request_runs hexec h ((if_neg (by simp [hok])).trans ((if_neg (Bool.eq_false_iff.1 hseal)).trans
    (if_pos (by rw [Option.any_some, hoff]; rfl))))

/-- A Sealed request of a channel also needs that the die converts it and that no point in use takes it. -/
theorem State.sealedChannelReq_changes (hon : chOn d (field (s.reqBytes c) 4 2) = true)
    (hidle : (s.clearDb c 1).chBusy (field (s.reqBytes c) 4 2) = false) (hroom : (s.clearDb c 1).calFull d = false)
    (hk : k d (s.reqBytes c) (s.chan c).seq (s.clearDb c 1) = u) : exec x s = .next u :=
  State.request_runs hexec h ((if_neg (by simp [hok])).trans ((if_neg (Bool.eq_false_iff.1 hseal)).trans
    ((if_neg (by rw [Option.any_some, hon]; decide)).trans ((if_neg (by rw [Option.any_some, hidle, hroom]; decide)).trans hk))))

end

/-! ### Channels (R316 to R318, R335) -/

theorem divHalfUp_mul (a : Int) {b : Nat} (h : 0 < b) : divHalfUp (a * b) b = a := by
  have hsum : 2 * (a * b) + (b : Int) = b + a * (2 * b) := by ring
  rw [divHalfUp, hsum, Int.add_mul_ediv_right _ _ (by omega), Int.ediv_eq_zero_of_lt (by omega) (by omega), zero_add]

/-- The mean of samples, where 65,536 times it is a whole number. -/
theorem calMean_eq {ys : List Int} {q : Int} (hys : 0 < ys.length) (h : ys.sum * 65536 = q * ys.length) : calMean ys = q := by
  rw [calMean, Nat.max_eq_right hys, h, divHalfUp_mul q hys]

section
variable {s : State} {c : Chan} {d : Firn}

section
variable (h : s.takes c 0x0201 d = true)
include h

theorem exec_calMeasure_malformed (hbad : zeroOutside (s.reqBytes c) [(0, 5), (8, 11)] = false ∨ field (s.reqBytes c) 8 4 < 1024 ∨
    16384 < field (s.reqBytes c) 8 4) : exec (.calMeasure c) s = .next ((s.clearDb c 1).replyReq c (s.chan c).seq 0x0201 stBad []) :=
  State.request_runs rfl h (if_pos (by simpa [or_assoc] using hbad))

variable (hzero : zeroOutside (s.reqBytes c) [(0, 5), (8, 11)] = true) (hlo : 1024 ≤ field (s.reqBytes c) 8 4)
  (hhi : field (s.reqBytes c) 8 4 ≤ 16384)
include hzero hlo hhi

theorem exec_calMeasure_absent (hoff : chOn d (field (s.reqBytes c) 4 2) = false) :
    exec (.calMeasure c) s = .next ((s.clearDb c 1).replyReq c (s.chan c).seq 0x0201 stAbsent []) :=
  State.request_runs rfl h ((if_neg (by simp [hzero, hlo, hhi])).trans (if_pos (by simp [hoff])))

theorem exec_calMeasure_begins (hon : chOn d (field (s.reqBytes c) 4 2) = true) :
    exec (.calMeasure c) s = .next ((s.clearDb c 1).setFirn d { (s.clearDb c 1).firn d with
      measure := ((s.clearDb c 1).firn d).measure ++
        [{ chan := c, seq := (s.chan c).seq, ch := field (s.reqBytes c) 4 2, n := field (s.reqBytes c) 8 4 }] }) :=
  State.request_runs rfl h ((if_neg (by simp [hzero, hlo, hhi])).trans (if_neg (by simp [hon])))

end

section
variable {raw : List (Nat × Int)} (first : Nat)

theorem exec_calMeasureDone_idle (h : (s.firn d).measure.find? (·.n == raw.length) = none) :
    exec (.calMeasureDone d raw first) s = .next s := by
  change execCalMeasureDone d raw first s = _
  simp only [execCalMeasureDone, h]

theorem exec_calMeasureDone_answers {m : CalMeas} (h : (s.firn d).measure.find? (·.n == raw.length) = some m) :
    exec (.calMeasureDone d raw first) s = .next ((s.setFirn d { s.firn d with measure := (s.firn d).measure.erase m }).replyReq
      m.chan m.seq 0x0201 stDone ([0, 0] ++ leInt 8 (calMean (raw.map fun x => s.adcY d x.1 x.2))
        ++ leBytes 4 (calRms (raw.map fun x => s.adcY d x.1 x.2)) ++ leBytes 8 first)) := by
  change execCalMeasureDone d raw first s = _
  simp only [execCalMeasureDone, h]

end

end

/-- Settles O26: a measurement passes its own checks in turn; each Sealed request is one of the outcomes that all of them share, and its
change is the meaning of its command. -/
theorem channelCalibration : Obligations.ChannelCalibration := by
  refine ⟨fun _ _ _ => exec_calMeasure_begins, fun _ _ _ => exec_calMeasure_malformed, fun _ _ _ => exec_calMeasure_absent,
    fun _ _ _ first _ => exec_calMeasureDone_answers first, fun _ _ => ⟨calMean_eq (by simp) ?pair, calMean_eq (by simp) ?single⟩,
    fun _ _ _ first => exec_calMeasureDone_idle first,
    fun _ _ _ _ h hok hseal => State.sealedReq_locks h hok rfl hseal,
    fun _ _ _ _ h hok hseal hoff => State.sealedChannelReq_absent h hok hseal rfl hoff,
    fun _ _ _ _ h hok hseal hoff => State.sealedChannelReq_absent h hok hseal rfl hoff,
    fun _ _ _ _ h hok hseal hon hidle hroom =>
      ⟨_, _, rfl, State.sealedChannelReq_changes h hok hseal rfl hon hidle hroom rfl⟩,
    fun _ _ _ _ h hok hseal hon hidle hroom =>
      ⟨_, _, rfl, State.sealedChannelReq_changes h hok hseal rfl hon hidle hroom rfl⟩,
    fun _ _ _ _ h hok hseal => State.sealedReq_locks h hok rfl hseal,
    fun _ _ _ h hok hseal => State.sealedReq_locks h hok rfl hseal,
    fun _ _ _ h hok hseal hroom => ⟨_, _, rfl, State.sealedDieReq_changes h hok hseal rfl hroom rfl⟩⟩
  case pair =>
    simp only [List.sum_cons, List.sum_nil, List.length_cons, List.length_nil]
    omega
  case single => simp

/-! ### Legal requests (R424, R429, R449, R453, R454) -/

section
variable {s : State} {c : Chan} {d : Firn}

/-- R453: a pulse output with every setting in its limits keeps them for the next mark. -/
theorem exec_pulseOut_waits (h : s.takes c 0x0104 d = true) (hk : field (s.reqBytes c) 4 1 < 8) (hen : field (s.reqBytes c) 5 1 < 2)
    (hown : (s.clearDb c 1).ownsPoint d (field (s.reqBytes c) 6 2) = true) (hq : field (s.reqBytes c) 8 1 < 8)
    (hzero : field (s.reqBytes c) 9 1 = 0) (hwlo : 1 ≤ field (s.reqBytes c) 10 2) (hwhi : field (s.reqBytes c) 10 2 ≤ 80)
    (hqlo : 1 ≤ field (s.reqBytes c) 12 8) (hqhi : field (s.reqBytes c) 12 8 ≤ 10 ^ 12) :
    exec (.pulseOut c) s = .next (((s.clearDb c 1).setPto d (field (s.reqBytes c) 4 1)
      { (s.clearDb c 1).pto d (field (s.reqBytes c) 4 1) with pend := some (field (s.reqBytes c) 5 1 == 1, field (s.reqBytes c) 6 2,
        field (s.reqBytes c) 8 1, field (s.reqBytes c) 10 2, field (s.reqBytes c) 12 8) }).replyReq
          c (s.chan c).seq 0x0104 stDone []) := by
  refine State.request_runs rfl h (if_neg ?_)
  rw [hown]
  simp [hzero]
  omega

theorem exec_pulseOut_malformed (h : s.takes c 0x0104 d = true)
    (hbad : field (s.reqBytes c) 10 2 < 1 ∨ 80 < field (s.reqBytes c) 10 2 ∨ 8 ≤ field (s.reqBytes c) 4 1) :
    exec (.pulseOut c) s = .next ((s.clearDb c 1).replyReq c (s.chan c).seq 0x0104 stBad []) := by
  refine State.request_runs rfl h (if_pos ?_)
  rcases hbad with hshort | hlong | hk
  · simp [hshort]
  · simp [hlong]
  · simp [hk]

section
variable (mark : Nat) (h : s.takes c 0x0102 d = true)
include h

theorem exec_rateSchedule_malformed (hbad : scheduleOk (s.reqBytes c) = false) :
    exec (.rateSchedule c mark) s = .next ((s.clearDb c 1).replyReq c (s.chan c).seq 0x0102 stBad []) :=
  State.request_runs rfl h (if_pos (by simp [hbad]))

variable (hok : scheduleOk (s.reqBytes c) = true)
include hok

/-- R429: a rate that a point of the schedule does not have refuses it. -/
theorem exec_rateSchedule_noRate (hrates : (((s.clearDb c 1).diePoints d).any fun p =>
      ((s.clearDb c 1).pcfg p).sched == field (s.reqBytes c) 4 1 &&
        decide (((s.clearDb c 1).pcfg p).rates ≤ topRate (s.reqBytes c))) = true) :
    exec (.rateSchedule c mark) s = .next ((s.clearDb c 1).replyReq c (s.chan c).seq 0x0102 stCapacity []) :=
  State.request_runs rfl h ((if_neg (by simp [hok])).trans (if_pos hrates))

/-- R429: any other schedule is pending until it activates: at the time it names, or at the next mark. -/
theorem exec_rateSchedule_waits {k id a : Nat} (hk : field (s.reqBytes c) 4 1 = k) (hid : field (s.reqBytes c) 16 4 = id)
    (ha : (if field (s.reqBytes c) 8 8 = 0 then mark else field (s.reqBytes c) 8 8) = a)
    (hrates : (((s.clearDb c 1).diePoints d).any fun p =>
      ((s.clearDb c 1).pcfg p).sched == k && decide (((s.clearDb c 1).pcfg p).rates ≤ topRate (s.reqBytes c))) = false)
    (hroom : (s.clearDb c 1).morRefuses d 12 = false) :
    exec (.rateSchedule c mark) s = .next ((((s.clearDb c 1).setFirn d { (s.clearDb c 1).firn d with
      schedPend := tabSet ((s.clearDb c 1).firn d).schedPend k { id := id, activate := a, body := s.reqBytes c } }).setReg
        .FIRN_SCHED_PEND (4 * d.num + k) (BitVec.ofNat 32 id)).replyReq
          c (s.chan c).seq 0x0102 stDone ([0, 0] ++ leBytes 4 id ++ leBytes 8 a)) := by
  subst hk hid ha
  exact State.request_runs rfl h ((if_neg (by simp [hok])).trans ((if_neg (Bool.eq_false_iff.1 hrates)).trans
    (if_neg (Bool.eq_false_iff.1 hroom))))

end

theorem exec_outageRead_absent (h : s.takes c 0x0106 d = true)
    (hown : (s.clearDb c 1).ownsPoint d (field (s.reqBytes c) 4 2) = false) :
    exec (.outageRead c) s = .next ((s.clearDb c 1).replyReq c (s.chan c).seq 0x0106 stAbsent []) :=
  State.request_runs rfl h (if_pos (by rw [hown]; rfl))

theorem exec_outageRead_answers {p : Nat} (h : s.takes c 0x0106 d = true) (hp : field (s.reqBytes c) 4 2 = p)
    (hown : (s.clearDb c 1).ownsPoint d p = true) :
    exec (.outageRead c) s = .next ((s.clearDb c 1).replyReq c (s.chan c).seq 0x0106 stDone ([0, 0] ++
      (upTo 8).flatMap (fun q => leBytes 16 (tabGet 0 ((s.clearDb c 1).mp p).unb q))
        ++ leBytes 4 ((s.clearDb c 1).get Fld.MP_OUTAGES__VALUE p) ++ leBytes 8 ((s.clearDb c 1).mp p).outTime)) := by
  subst hp
  exact State.request_runs rfl h (if_neg (by rw [hown]; decide))

end

/-- Settles O24: LEGAL_TIME_SET is a Sealed request of the die; each other request passes its own checks in turn, and FIRMWARE_CHECK and
LEGAL_IDENTITY have none. -/
theorem legalRequests : Obligations.LegalRequests :=
  ⟨fun _ _ _ _ h => State.request_runs rfl h rfl, fun _ _ _ _ h hok hseal => State.sealedReq_locks h hok rfl hseal,
    fun _ _ _ _ h hok hseal hroom => State.sealedDieReq_changes h hok hseal rfl hroom rfl,
    fun _ _ _ => exec_pulseOut_waits, fun _ _ _ => exec_pulseOut_malformed,
    fun _ _ _ mark => exec_rateSchedule_noRate mark, fun _ _ _ mark => exec_rateSchedule_malformed mark,
    fun _ _ _ mark h hok hrates hroom => ⟨_, _, _, exec_rateSchedule_waits mark h hok rfl rfl rfl hrates hroom, rfl, rfl, rfl⟩,
    fun _ _ _ => exec_outageRead_absent, fun _ _ _ h => exec_outageRead_answers h rfl, fun _ _ _ h => State.request_runs rfl h rfl⟩

end Sys2Proof.Machine
end

section
/-!
PROOFS. Flow points (R373 to R401) and their parameter sets (R368): which branch of its meaning each command takes.
-/
namespace Sys2Proof.Machine

/-! ### Blocks and the tail of a delivery (R373 to R377, R394 to R400) -/

section
variable {s : State} {p : Nat}

theorem exec_flowBlockEnd_idle (b : Nat) (h : pointFlow (s.pcfg p) = false ∨ s.firnLive (s.pcfg p).die = false) :
    exec (.flowBlockEnd p b) s = .next s := if_pos (by simpa using h)

/-- The stages of a block's end, each from the one before: filled, formed, judged, flagged, its whole quantity and rate; then billed, shown,
and settled. -/
theorem exec_flowBlockEnd_ends {b r : Nat} {f u t v w : State} {x y : BlockIn} {a : List (Nat × List (Nat × Nat))}
    (hflow : pointFlow (s.pcfg p) = true) (hlive : s.firnLive (s.pcfg p).die = true)
    (hf : f = s.blkFill p b (blkStart (b + 1))) (hx : x = f.formBlock p b (blkStart (b + 1) - blkStart b))
    (hu : u = f.blockInputs p x) (hy : y = u.blockHeld p x) (ht : t = u.blockFlags p y)
    (ha : a = t.blockAdds p y y.n y.root false) (hr : r = hourly (addsFwd a + addsRev a) y.n)
    (hv : v = ((((t.blockBill p y).blockShow p y a).blockStack p y).blockOutside p (addsFwd a + addsRev a)
      (decide (r < lfcOf (t.mp p).flow.par))).blockUnit p b)
    (hw : w = ((v.blockCounts p y).blockTail p y (decide (r < lfcOf (t.mp p).flow.par))).blockSettle p (y.first + y.n)) :
    exec (.flowBlockEnd p b) s = .next ((if parByte (w.mp p).flow.par 4 = 0 then w.batchCheck p (hourly (addsFwd a) y.n)
      else w).blockLimit p (hourly (addsFwd a) y.n)) := by
  subst hf hx hu hy ht ha hr hv hw
  exact if_neg (by simp [hflow, hlive])

theorem exec_flowTailTimeout_freezes (idx : Nat) (hstate : s.mpState p = mpMetering) (hrose : (s.mp p).flow.rose.isSome = true)
    (hlive : s.firnLive (s.pcfg p).die = true) : exec (.flowTailTimeout p idx) s =
      .next ((s.freezePoint p idx 8).postPt p { code := 0x235, sev := 1, obj := p }) :=
  if_pos (by simp [hstate, hrose, hlive])

theorem exec_flowTailTimeout_idle (idx : Nat) (h : s.mpState p ≠ mpMetering ∨ (s.mp p).flow.rose = none) :
    exec (.flowTailTimeout p idx) s = .next s := by
  refine if_neg ?_
  rcases h with hstate | hrose
  · simp [hstate]
  · simp [hrose]

end

/-! ### Edges of a pulse input (R385, R401) -/

/-- The train of a point after a falling edge: no pulse of it is open. -/
def State.pulseFallen (s : State) (p : Nat) (isB : Bool) : State := s.setTrain p isB { s.train p isB with rise := none }

/-- R386 to R390: what a pulse of accepted width does at its level: train B of a single-train point is only compared. -/
def State.pulseCounted (s : State) (p i : Nat) (isB : Bool) (r : Nat) : State :=
  let u := s.bump Fld.PI_EDGES__VALUE (trainIdx i isB) 1
  if parByte (s.mp p).flow.par 4 = 1 ∨ parByte (s.mp p).flow.par 4 = 2 then u.dualPulse p i isB r
  else if isB = true then u.setMp p { u.mp p with flow := { (u.mp p).flow with cmpB := (u.mp p).flow.cmpB + 1 } }
  else u.singlePulse p i r

section
variable {s u : State} {i p t r : Nat} {isB : Bool}

theorem exec_pulseEdge_unseen (rising : Bool)
    (h : s.pulsesReach i isB (s.pulseDie i) = false ∨ (s.get Fld.PI_CFG__ROLE i ≠ 2 ∧ s.piPoint i = none)) :
    exec (.pulseEdge i isB rising t) s = .next s := by
  change execPulseEdge i isB rising t s = _
  rcases h with hreach | ⟨hrole, hpoint⟩
  · exact if_pos (by simp [hreach])
  · simp only [execPulseEdge, hrole, hpoint, if_false, ite_self]

section
variable (hreach : s.pulsesReach i isB (s.pulseDie i) = true)
include hreach

theorem exec_pulseEdge_detector (rising : Bool) (hrole : s.get Fld.PI_CFG__ROLE i = 2) :
    exec (.pulseEdge i isB rising t) s = .next (if (rising && !isB) = true then s.detectorEdge i t else s) :=
  (if_neg (by simp [hreach])).trans (if_pos hrole)

variable (hrole : s.get Fld.PI_CFG__ROLE i ≠ 2) (hpoint : s.piPoint i = some p)
include hrole hpoint

theorem exec_pulseEdge_rises : exec (.pulseEdge i isB true t) s =
    .next ((s.edgeRecord (s.pcfg p).die (trainIdx i isB) t true).setTrain p isB
      { (s.edgeRecord (s.pcfg p).die (trainIdx i isB) t true).train p isB with rise := some t }) := by
  refine (if_neg (by simp [hreach])).trans ((if_neg hrole).trans ?_)
  simp only [hpoint, if_true]

theorem exec_pulseEdge_noRise (hrise : ((s.edgeRecord (s.pcfg p).die (trainIdx i isB) t false).train p isB).rise = none) :
    exec (.pulseEdge i isB false t) s = .next (s.edgeRecord (s.pcfg p).die (trainIdx i isB) t false) := by
  refine (if_neg (by simp [hreach])).trans ((if_neg hrole).trans ?_)
  simp only [hpoint, Bool.false_eq_true, if_false, hrise]

section
variable (hrise : ((s.edgeRecord (s.pcfg p).die (trainIdx i isB) t false).train p isB).rise = some r)
  (hu : u = (s.edgeRecord (s.pcfg p).die (trainIdx i isB) t false).pulseFallen p isB)
include hrise hu

/-- R385: the width of a pulse against MIN_WIDTH. -/
theorem exec_pulseEdge_falls : exec (.pulseEdge i isB false t) s =
    .next (if (t - r) * 1000 < field (u.mp p).flow.par 148 4 * 8136 then u.bump Fld.PI_SPUR__VALUE (trainIdx i isB) 1
      else u.pulseCounted p i isB r) := by
  subst hu
  refine (if_neg (by simp [hreach])).trans ((if_neg hrole).trans ?_)
  simp only [hpoint, Bool.false_eq_true, if_false, hrise]
  rw [apply_ite Host.Outcome.next, State.pulseCounted]
  refine if_congr Iff.rfl rfl ?_
  rw [apply_ite Host.Outcome.next, apply_ite Host.Outcome.next]
  exact if_congr (by simp [State.pulseFallen]) rfl rfl

theorem exec_pulseEdge_spurious (hshort : (t - r) * 1000 < field (u.mp p).flow.par 148 4 * 8136) :
    exec (.pulseEdge i isB false t) s = .next (u.bump Fld.PI_SPUR__VALUE (trainIdx i isB) 1) :=
  (exec_pulseEdge_falls hreach hrole hpoint hrise hu).trans (congrArg Host.Outcome.next (if_pos hshort))

theorem exec_pulseEdge_counts (hwide : field (u.mp p).flow.par 148 4 * 8136 ≤ (t - r) * 1000) :
    exec (.pulseEdge i isB false t) s = .next (u.pulseCounted p i isB r) :=
  (exec_pulseEdge_falls hreach hrole hpoint hrise hu).trans (congrArg Host.Outcome.next (if_neg (Nat.not_lt.2 hwide)))

end

end

end

/-! ### Held pulses, inferred pulses and acquisition (R387, R388, R390) -/

section
variable {s u : State} {i p t l a b : Nat} {isB : Bool}

theorem exec_pulseHoldExpiry_noPoint (h : s.piPoint i = none) :
    exec (.pulseHoldExpiry i isB t) s = .next s := by
  change execPulseHoldExpiry i isB t s = _
  simp only [execPulseHoldExpiry, h]

theorem exec_pulseHoldExpiry_idle (hpoint : s.piPoint i = some p)
    (h : (s.train p isB).held.contains t = false ∨ s.firnLive (s.pcfg p).die = false) :
    exec (.pulseHoldExpiry i isB t) s = .next s := by
  change execPulseHoldExpiry i isB t s = _
  simp only [execPulseHoldExpiry, hpoint]
  exact if_pos (by simpa using h)

section
variable (hpoint : s.piPoint i = some p) (hheld : (s.train p isB).held.contains t = true)
  (hlive : s.firnLive (s.pcfg p).die = true)
include hpoint hheld hlive

/-- R387: a held pulse is in sequence between half a period and one and a half after the train's last counted one. -/
theorem exec_pulseHoldExpiry_outOfSequence
    (hseq : ∀ l, (s.train p isB).last = some l → 2 * (t - l) < (s.mp p).flow.p ∨ 3 * (s.mp p).flow.p < 2 * (t - l)) :
    exec (.pulseHoldExpiry i isB t) s =
      .next (((s.setTrain p isB { s.train p isB with held := (s.train p isB).held.erase t }).bump
        Fld.PI_SPUR__VALUE (trainIdx i isB) 1).discrepancy p false) := by
  change execPulseHoldExpiry i isB t s = _
  simp only [execPulseHoldExpiry, hpoint]
  refine (if_neg (by simp [List.contains_iff_mem.1 hheld, hlive])).trans (if_neg ?_)
  cases hlast : (s.train p isB).last with
  | none => exact Bool.false_ne_true
  | some l =>
    have hout := hseq l hlast
    simp only [Bool.and_eq_true, decide_eq_true_eq]
    omega

theorem exec_pulseHoldExpiry_inSequence (hlast : (s.train p isB).last = some l) (hlo : (s.mp p).flow.p ≤ 2 * (t - l))
    (hhi : 2 * (t - l) ≤ 3 * (s.mp p).flow.p)
    (ha : a = if isB = true then (if (s.mp p).flow.reverse = true then t + phiP (s.mp p).flow.par (s.mp p).flow.p
      else t - phiP (s.mp p).flow.par (s.mp p).flow.p) else t)
    (hb : b = if isB = true then t else (if (s.mp p).flow.reverse = true then t - phiP (s.mp p).flow.par (s.mp p).flow.p
      else t + phiP (s.mp p).flow.par (s.mp p).flow.p)) :
    exec (.pulseHoldExpiry i isB t) s =
      .next ((((s.setTrain p isB { s.train p isB with held := (s.train p isB).held.erase t }).bump
        Fld.PI_MISS__VALUE (trainIdx i (!isB)) 1).dualCount p i a b (s.mp p).flow.reverse).discrepancy p false) := by
  subst ha hb
  change execPulseHoldExpiry i isB t s = _
  simp only [execPulseHoldExpiry, hpoint, hlast]
  refine (if_neg (by simp [List.contains_iff_mem.1 hheld, hlive])).trans ((if_pos (by simp [hlo, hhi])).trans ?_)
  cases isB <;> rfl

end

theorem exec_inferredPulse_noPoint (h : s.piPoint i = none) : exec (.inferredPulse i) s = .next s := by
  change execInferredPulse i s = _
  simp only [execInferredPulse, h]

theorem exec_inferredPulse_idle (hpoint : s.piPoint i = some p) (h : parByte (s.mp p).flow.par 4 < 3 ∨ (s.mp p).flow.acquire = true ∨
    (s.mp p).flow.lastA = none ∨ s.firnLive (s.pcfg p).die = false) : exec (.inferredPulse i) s = .next s := by
  change execInferredPulse i s = _
  simp only [execInferredPulse, hpoint]
  exact if_pos (by simpa [or_assoc] using h)

/-- R390: an inferred pulse counts as missing at once, and checks the quantity limit at the rate of the period. -/
theorem exec_inferredPulse_infers (hpoint : s.piPoint i = some p) (hlevel : 3 ≤ parByte (s.mp p).flow.par 4)
    (hacq : (s.mp p).flow.acquire = false) (hlast : (s.mp p).flow.lastA = some a) (hlive : s.firnLive (s.pcfg p).die = true)
    (hu : u = (s.setMp p { s.mp p with flow := { (s.mp p).flow with inferred := (s.mp p).flow.inferred + 1 } }).bump
      Fld.PI_MISS__VALUE (trainIdx i false) 1) :
    exec (.inferredPulse i) s = .next (u.batchCheck p (if (s.mp p).flow.p = 0 then 0
      else (s.mp p).flow.inPos0 (countQty (s.mp p).flow.par (s.mp p).flow.p) * 3600 * 8136000 / (s.mp p).flow.p)) := by
  subst hu
  change execInferredPulse i s = _
  simp only [execInferredPulse, hpoint]
  exact if_neg (by simp [hlevel, hacq, hlast, hlive])

theorem exec_acquisitionRestart_idle (h : pointFlow (s.pcfg p) = false ∨ parByte (s.mp p).flow.par 4 = 0 ∨
    s.firnLive (s.pcfg p).die = false) : exec (.acquisitionRestart p) s = .next s :=
  if_pos (by simpa [or_assoc] using h)

theorem exec_acquisitionRestart_restarts (hflow : pointFlow (s.pcfg p) = true) (hlevel : parByte (s.mp p).flow.par 4 ≠ 0)
    (hlive : s.firnLive (s.pcfg p).die = true) : exec (.acquisitionRestart p) s =
      .next ((s.setMp p { s.mp p with flow := (s.mp p).flow.acquisition }).put Fld.FP_STATUS__ACQUIRE p 1) :=
  if_neg (by simp [hflow, hlevel, hlive])

end

/-! ### Parameter sets (R368) -/

section
variable {s : State} {c : Chan} {d : Firn} (eff : Nat) (h : s.takes c 0x020A d = true)
include h

theorem exec_flowParam_malformed (hpar : parOk (((s.reqBytes c).drop 8).take 200) = false) :
    exec (.flowParam c eff) s = .next ((s.clearDb c 1).replyReq c (s.chan c).seq 0x020A stBad []) :=
  State.request_runs rfl h (if_pos (by simp [hpar]))

/-- R368: a set that keeps every rule, for a point in no use, is in force, its trim 0, and the die records the change of hash. -/
theorem exec_flowParam_sets {p : Nat} {set : List Byte} {u v : State} (hp : field (s.reqBytes c) 4 2 = p)
    (hset : ((s.reqBytes c).drop 8).take 200 = set) (hzero : zeroOutside (s.reqBytes c) [(0, 5), (8, 207)] = true)
    (hpar : parOk set = true) (hseal : (s.clearDb c 1).sealed d = false) (hlt : p < 256)
    (hfree : tabFind (s.clearDb c 1).cfg.points p = none) (hidle : (s.clearDb c 1).mpState p = mpIdle)
    (hroom : (s.clearDb c 1).calFull d = false)
    (hu : u = ((s.clearDb c 1).setMp p { (s.clearDb c 1).mp p with flow :=
      { ((s.clearDb c 1).mp p).flow with par := set, hash := parHash set, trim := 0 } }).setReg .FP_TRIM p 0)
    (hv : v = (u.mirrorParams p).calRecord d 0x020A p eff
      (leBytes 4 ((s.clearDb c 1).mp p).flow.hash ++ leBytes 4 (parHash set))) :
    exec (.flowParam c eff) s = .next (v.replyReq c (s.chan c).seq 0x020A stDone
      ([0, 0] ++ leBytes 4 (v.get Fld.FIRN_CAL_COUNT__COUNT d.num) ++ leBytes 8 eff ++ leBytes 4 (parHash set))) := by
  subst hp hset hu hv
  exact State.request_runs rfl h ((if_neg (by simp [hzero, hpar])).trans ((if_neg (Bool.eq_false_iff.1 hseal)).trans
    ((if_neg (by rw [hfree, decide_eq_false (Nat.not_le.2 hlt)]; exact Bool.false_ne_true)).trans
      (if_neg (by rw [hidle, hroom]; decide)))))

end

/-! ### Proving runs (R401) -/

section
variable {s : State} {c : Chan} {d : Firn} {i : Nat} {v : ProveSt}

section
variable (h : s.takes c 0x0208 d = true)
include h

theorem exec_proveArm_malformed (hbad : zeroOutside (s.reqBytes c) [(0, 6), (8, 11)] = false ∨ 64 ≤ field (s.reqBytes c) 6 1) :
    exec (.proveArm c) s = .next ((s.clearDb c 1).replyReq c (s.chan c).seq 0x0208 stBad []) :=
  State.request_runs rfl h (if_pos (by simpa using hbad))

variable (hzero : zeroOutside (s.reqBytes c) [(0, 6), (8, 11)] = true) (hlt : field (s.reqBytes c) 6 1 < 64)
include hzero hlt

theorem exec_proveArm_absent (habsent : (s.clearDb c 1).variant.hasDdie = false ∨
    (s.clearDb c 1).ownsPoint d (field (s.reqBytes c) 4 2) = false) :
    exec (.proveArm c) s = .next ((s.clearDb c 1).replyReq c (s.chan c).seq 0x0208 stAbsent []) := by
  refine State.request_runs rfl h ((if_neg (by simp [hzero, hlt])).trans ?_)
  rcases habsent with hdie | hown
  · exact if_pos (by rw [hdie]; rfl)
  · exact (congrArg _ (if_pos (by rw [hown]; rfl))).trans (ite_self _)

/-- R401: an input that serves no point becomes the detector of the run, which waits for its first edge. -/
theorem exec_proveArm_arms (hdie : (s.clearDb c 1).variant.hasDdie = true)
    (hown : (s.clearDb c 1).ownsPoint d (field (s.reqBytes c) 4 2) = true)
    (hrole : (s.clearDb c 1).get Fld.PI_CFG__ROLE (field (s.reqBytes c) 6 1) ≠ 1)
    (hlevel : parByte ((s.clearDb c 1).mp (field (s.reqBytes c) 4 2)).flow.par 4 ≠ 0) :
    ∃ u : State, exec (.proveArm c) s =
      .next ((u.put Fld.PI_CFG__ROLE (field (s.reqBytes c) 6 1) 2).replyReq c (s.chan c).seq 0x0208 stDone []) ∧
      tabFind u.prove (field (s.reqBytes c) 6 1) =
        some { point := field (s.reqBytes c) 4 2, vol := BitVec.ofNat 32 (field (s.reqBytes c) 8 4) } :=
  ⟨_, State.request_runs rfl h ((if_neg (by simp [hzero, hlt])).trans ((if_neg (by rw [hdie]; decide)).trans
    ((if_neg (by rw [hown]; decide)).trans (if_neg (by rw [decide_eq_false hrole, decide_eq_false hlevel]; decide))))),
    tabFind_tabSet_same _ _ _⟩

end

section
variable (h : s.takes c 0x0209 d = true) (hzero : zeroOutside (s.reqBytes c) [(0, 5)] = true)
  (hown : (s.clearDb c 1).ownsPoint d (field (s.reqBytes c) 4 2) = true)
include h hzero hown

theorem exec_proveResult_noRun (hrun : (s.clearDb c 1).prove = []) :
    exec (.proveResult c) s = .next ((s.clearDb c 1).replyReq c (s.chan c).seq 0x0209 stCapacity []) := by
  refine State.request_runs rfl h ((if_neg (by simp [hzero])).trans ((if_neg (by rw [hown]; decide)).trans ?_))
  simp only [hrun, List.find?_nil]

/-- R401: a run that is not complete answers its counts, with no interpolated count and no factor. -/
theorem exec_proveResult_incomplete (hrun : (s.clearDb c 1).prove = [(i, v)])
    (hpoint : v.point = field (s.reqBytes c) 4 2) (hstate : v.state ≠ 2) :
    exec (.proveResult c) s = .next ((s.clearDb c 1).replyReq c (s.chan c).seq 0x0209 stDone
      ([BitVec.ofNat 8 v.state, 0] ++ leBytes 4 v.n ++ leBytes 8 0 ++ leBytes 4 0 ++ leBytes 8 v.firstTime)) := by
  refine State.request_runs rfl h ((if_neg (by simp [hzero])).trans ((if_neg (by rw [hown]; decide)).trans ?_))
  have hfound : (s.clearDb c 1).prove.find? (fun x => x.2.point = field (s.reqBytes c) 4 2) = some (i, v) := by
    rw [hrun]
    exact List.find?_cons_of_pos (decide_eq_true hpoint)
  simp only [hfound, hstate, if_false]

end

theorem exec_proveTimeout_ends (hrun : tabFind s.prove i = some v) (hstate : v.state ≤ 1)
    (hsecond : v.second = none) :
    exec (.proveTimeout i) s = .next { s with prove := tabSet s.prove i { v with state := 3 } } := by
  change execProveTimeout i s = _
  simp only [execProveTimeout, hrun]
  exact congrArg Host.Outcome.next (if_pos (by simp [hstate, hsecond]))

theorem exec_proveTimeout_idle
    (h : tabFind s.prove i = none ∨ ∃ v, tabFind s.prove i = some v ∧ (2 ≤ v.state ∨ v.second ≠ none)) :
    exec (.proveTimeout i) s = .next s := by
  change execProveTimeout i s = _
  rcases h with hnone | ⟨v, hrun, hpast⟩
  · simp only [execProveTimeout, hnone]
  · simp only [execProveTimeout, hrun]
    refine congrArg Host.Outcome.next (if_neg ?_)
    simp only [Bool.and_eq_true, decide_eq_true_eq, Option.isNone_iff_eq_none]
    rintro ⟨hle, hsecond⟩
    exact hpast.elim (fun hge => by omega) fun hne => hne hsecond

end

/-- Settles O30: each clause is the branch above that its hypotheses select; a block's end is the model's own composition of its stages. -/
theorem flowCommands : Obligations.FlowCommands :=
  ⟨fun _ _ _ hflow hlive => ⟨_, _, _, _, _, _, _, _, _, rfl, rfl, rfl, rfl, rfl, rfl, rfl, rfl, rfl,
      exec_flowBlockEnd_ends hflow hlive rfl rfl rfl rfl rfl rfl rfl rfl rfl⟩,
    fun _ _ b => exec_flowBlockEnd_idle b, fun _ _ idx => exec_flowTailTimeout_freezes idx, fun _ _ idx => exec_flowTailTimeout_idle idx,
    fun _ _ _ _ _ => exec_pulseEdge_rises, fun _ _ _ _ rising hreach => exec_pulseEdge_detector hreach rising,
    fun _ _ _ _ rising => exec_pulseEdge_unseen rising,
    fun _ _ _ _ _ _ hreach hrole hpoint hrise => exec_pulseEdge_spurious hreach hrole hpoint hrise rfl,
    fun _ _ _ _ _ _ _ => exec_pulseEdge_counts, fun _ _ _ _ _ => exec_pulseEdge_noRise,
    fun _ _ _ _ _ => exec_pulseHoldExpiry_outOfSequence, fun _ _ _ _ _ _ _ _ => exec_pulseHoldExpiry_inSequence,
    fun _ _ _ _ _ => exec_pulseHoldExpiry_idle, fun _ _ _ _ => exec_pulseHoldExpiry_noPoint,
    fun _ _ _ _ _ => exec_inferredPulse_infers, fun _ _ _ => exec_inferredPulse_idle, fun _ _ => exec_inferredPulse_noPoint,
    fun _ _ => exec_acquisitionRestart_restarts, fun _ => ⟨rfl, rfl, rfl, rfl, rfl, rfl⟩, fun _ _ => exec_acquisitionRestart_idle,
    fun _ _ _ eff => exec_flowParam_malformed eff,
    fun _ _ _ eff h hzero hpar hseal hlt hfree hidle hroom =>
      ⟨_, _, rfl, rfl, exec_flowParam_sets eff h rfl rfl hzero hpar hseal hlt hfree hidle hroom rfl rfl⟩,
    fun _ _ _ => exec_proveArm_arms, fun _ _ _ => exec_proveArm_absent, fun _ _ _ => exec_proveArm_malformed,
    fun _ _ _ => exec_proveResult_noRun, fun _ _ _ _ _ => exec_proveResult_incomplete, fun _ _ _ => exec_proveTimeout_ends,
    fun _ _ => exec_proveTimeout_idle⟩

end Sys2Proof.Machine
end

section
/-!
PROOFS. Seal and tamper inputs (R411, R472), the check value (R416), pulse outputs (R451, R452), records (R445 to R448), legal firmware
(R415) and rate schedules (R428, R430): which branch of its meaning each command takes.
-/
namespace Sys2Proof.Machine

/-! ### What a change of SEAL leaves alone -/

section
variable {s : State} (d : Firn)

theorem State.firnLive_put (f : Fld) (i v : Nat) : (s.put f i v).firnLive d = s.firnLive d := by cases d <;> rfl

theorem State.firnLive_putB (f : Fld) (i : Nat) (b : Bool) : (s.putB f i b).firnLive d = s.firnLive d := State.firnLive_put d f i (b2n b)

theorem State.firnLive_setMp (p : Nat) (m : MpSt) : (s.setMp p m).firnLive d = s.firnLive d := by cases d <;> rfl

theorem State.firnLive_setInput (i : Inp) (l : Level) : (s.setInput i l).firnLive d = s.firnLive d := by cases d <;> rfl

theorem State.firnLive_morMirror (e : Firn) : (s.morMirror e).firnLive d = s.firnLive d := by
  simp only [State.morMirror, State.firnLive_put, State.firnLive_putB]

theorem State.firnLive_flagSessions (e : Firn) (bits : Nat) : (s.flagSessions e bits).firnLive d = s.firnLive d := by
  refine foldl_keeps _ (State.firnLive · d) (fun t p => ?_) _ _
  split
  · exact State.firnLive_setMp d p _
  · rfl

/-- A new state of SEAL marks sessions and mirrors its registers; no die stops by it. -/
theorem State.firnLive_sealState (e : Firn) (l : Level) : (s.sealState e l).firnLive d = s.firnLive d := by
  simp only [State.sealState, State.firnLive_morMirror, apply_ite (State.firnLive · d), State.firnLive_flagSessions, State.firnLive_putB,
    State.firnLive_put, State.firnLive_setInput, ite_self]

end

/-! ### SEAL, COVER and MAGNET (R411, R472) -/

section
variable {s : State} {d : Firn} {high : Bool}

theorem exec_sealChange_same (h : s.input (.seal d) = if high then Level.high else Level.low) :
    exec (.sealChange d high) s = .next s := if_pos h

theorem exec_sealChange_first (h : s.input (.seal d) = .undet) :
    exec (.sealChange d high) s = .next (s.sealState d (if high then Level.high else Level.low)) :=
  (if_neg (by rw [h]; cases high <;> decide)).trans (congrArg Host.Outcome.next (if_pos (by simp [h])))

/-- R411: a change between defined states is a tamper event, for the die that ran before the change runs after it. -/
theorem exec_sealChange_tampers (hlive : s.firnLive d = true) (h : s.input (.seal d) = if high then Level.low else Level.high) :
    exec (.sealChange d high) s = .next ((s.sealState d (if high then Level.high else Level.low)).tamper d 2 3 3 []) := by
  refine (if_neg (by rw [h]; cases high <;> decide)).trans (congrArg Host.Outcome.next (if_neg ?_))
  rw [State.firnLive_sealState, hlive, h]
  cases high <;> decide

/-! ### The check value (R416) -/

/-- R416: a wrong value under a firmware halt that already stands only shows. -/
theorem State.checkValue_halted {v : W32} (hv : v ≠ s.reg .FIRN_CHECK_REF d.num) (hhalt : s.flag Fld.FIRN_STATUS__HALT_FW d.num = true) :
    s.checkValue d v = (s.setReg .FIRN_CHECK d.num v).put Fld.FIRN_STATUS__CHECK_OK d.num 0 := by
  have hstands : ((s.setReg .FIRN_CHECK d.num v).put Fld.FIRN_STATUS__CHECK_OK d.num 0).flag Fld.FIRN_STATUS__HALT_FW d.num = true :=
    (State.flag_of_get ((State.get_put_apart _ _ _ _ (by decide) (by decide)).trans (State.get_setReg_ne _ _ _ _ (by decide)))).trans hhalt
  exact (if_neg hv).trans (if_pos hstands)

end

/-! ### Pulse outputs (R451, R452) -/

section
variable {s : State} {d : Firn} {k : Nat}

section
variable (hlive : s.firnLive d = true) (hen : s.flag Fld.PTO_CFG__EN (ptoIdx d k) = true)
  (hmeter : s.mpState (s.get Fld.PTO_CFG__POINT (ptoIdx d k)) = mpMetering)
  (hdue : s.get Fld.PTO_COUNT__PULSES (ptoIdx d k) + (s.pto d k).queued < s.ptoDue d k)
include hlive hen hmeter hdue

/-- A pulse that is due is neither begun nor queued yet: the edge is one of an output that counts. -/
theorem State.pulse_due : ¬ (!s.firnLive d || !s.flag Fld.PTO_CFG__EN (ptoIdx d k) ||
    decide (s.mpState (s.get Fld.PTO_CFG__POINT (ptoIdx d k)) ≠ mpMetering) ||
    decide (s.ptoDue d k ≤ s.get Fld.PTO_COUNT__PULSES (ptoIdx d k) + (s.pto d k).queued)) = true := by
  simp [hlive, hen, hmeter, hdue]

theorem exec_pulseTestOutputEdge_starts (hoff : (s.pto d k).on = false) :
    exec (.pulseTestOutputEdge d k) s = .next (s.ptoStart d k) :=
  (if_neg (State.pulse_due hlive hen hmeter hdue)).trans (if_pos (by simp [hoff]))

theorem exec_pulseTestOutputEdge_queues (hon : (s.pto d k).on = true) (hroom : (s.pto d k).queued < 65535) :
    exec (.pulseTestOutputEdge d k) s = .next (s.setPto d k { s.pto d k with queued := (s.pto d k).queued + 1 }) :=
  (if_neg (State.pulse_due hlive hen hmeter hdue)).trans ((if_neg (by simp [hon])).trans (if_pos hroom))

end

section
variable (hon : (s.pto d k).on = true)
include hon

theorem exec_pulseTestOutputEnd_next (hq : (s.pto d k).queued ≠ 0) : exec (.pulseTestOutputEnd d k) s =
    .next ((s.setPto d k { s.pto d k with on := false, queued := (s.pto d k).queued - 1 }).ptoStart d k) :=
  (if_neg (by simp [hon])).trans (if_neg hq)

theorem exec_pulseTestOutputEnd_last (hq : (s.pto d k).queued = 0) :
    exec (.pulseTestOutputEnd d k) s = .next (s.setPto d k { s.pto d k with on := false }) :=
  (if_neg (by simp [hon])).trans (if_pos hq)

end

end

/-! ### Records (R445, R447, R448) -/

section
variable {s : State} {p : Nat}

/-- R445: the record takes the sequence number after the die's latest. -/
theorem exec_readingRecordForm_forms (hlive : s.firnLive (s.pcfg p).die = true) (hfinal : (s.mp p).final = true)
    (hnew : (s.mp p).recFormed = false) (hserves : (s.firn (s.pcfg p).die).outage = none) (hstate : s.mpState p = mpFrozen) :
    ∃ t, exec (.readingRecordForm p) s = .next t ∧
      t.reg .MP_REC_SEQ p = BitVec.ofNat 32 (s.get Fld.FIRN_REC_SEQ__SEQ (s.pcfg p).die.num + 1) :=
  ⟨_, if_neg (by simp [hlive, hfinal, hnew, hserves, hstate]), (State.reg_put_ne _ _ _ _ (by decide)).trans
    ((State.reg_setReg_ne _ _ _ _ (by decide)).trans (State.reg_setReg_same _ _ _ _))⟩

theorem exec_readingRecordForm_idle (h : (s.mp p).final = false ∨ (s.mp p).recFormed = true) :
    exec (.readingRecordForm p) s = .next s := if_pos (by rcases h with h | h <;> simp [h])

end

section
variable {s : State} {d : Desc} (h : s.accepts 0x41 d = true)
include h

/-- R448: the newest record of the point that has the number asked for. -/
theorem exec_recordRead_answers {r : Rec} (hr : (((s.taken d).firn ((s.taken d).pcfg d.target.toNat).die).records.filter fun r =>
    r.point == d.target.toNat && (DescF.par d 0 4 == 0 || r.seq == DescF.par d 0 4)).getLast? = some r) :
    exec (.recordRead d) s = .next (((s.taken d).writeBuf d (signed ((s.taken d).pcfg d.target.toNat).die r.bytes)).fin
      ((s.taken d).ticket d) stDone ((signed ((s.taken d).pcfg d.target.toNat).die r.bytes).length % 65536)) :=
  State.accepted_runs rfl h (by simp only [hr])

theorem exec_recordRead_none (hnone : ((s.taken d).firn ((s.taken d).pcfg d.target.toNat).die).records = []) :
    exec (.recordRead d) s = .next ((s.taken d).fin ((s.taken d).ticket d) stCapacity 1) :=
  State.accepted_runs rfl h (by simp only [hnone, List.filter_nil, List.getLast?_nil])

end

/-! ### Schedules (R430) -/

section
variable {s : State} {d : Firn} {k idx : Nat} {sc : Sched}

/-- The schedule `sc` of number `k` in force, none pending in its place (R430). -/
def State.scheduleInForce (s : State) (d : Firn) (k : Nat) (sc : Sched) : State :=
  ((s.setFirn d { s.firn d with sched := tabSet (s.firn d).sched k sc, schedPend := tabErase (s.firn d).schedPend k }).setReg .FIRN_SCHED
    (4 * d.num + k) (BitVec.ofNat 32 sc.id)).setReg .FIRN_SCHED_PEND (4 * d.num + k) 0

theorem State.scheduleInForce_pending : (s.scheduleInForce d k sc).reg .FIRN_SCHED_PEND (4 * d.num + k) = 0 :=
  State.reg_setReg_same _ _ _ _

theorem State.scheduleInForce_current :
    (s.scheduleInForce d k sc).reg .FIRN_SCHED (4 * d.num + k) = BitVec.ofNat 32 sc.id :=
  (State.reg_setReg_ne _ _ _ _ (by decide)).trans (State.reg_setReg_same _ _ _ _)

/-- R430: the schedule comes into force with its record, its event and the rates after it. -/
theorem exec_scheduleActivation_activates (hlive : s.firnLive d = true) (hpend : tabFind (s.firn d).schedPend k = some sc)
    (htime : sc.activate ≤ (s.firn d).legal idx) (hroom : s.morRoom d 12 = true) : exec (.scheduleActivation d k idx) s =
      .next ((((s.scheduleInForce d k sc).moraine d 0x03 0 ([3, BitVec.ofNat 8 k, 0, 0] ++
        leBytes 4 (s.get Fld.FIRN_SCHED__ID (4 * d.num + k)) ++ leBytes 4 sc.id)).postDie d 0x247 0 k).rateRefresh d idx) := by
  change execScheduleActivation d k idx s = _
  simp only [execScheduleActivation, hpend]
  exact if_neg (by simp [hlive, htime, hroom])

end

/-- Settles O25: each clause is the branch above that its hypotheses select; a change of SEAL is judged by the die that runs after it, which
is the one that ran before (R411). -/
theorem legalRecords : Obligations.LegalRecords :=
  ⟨fun _ _ _ => exec_sealChange_tampers, fun _ _ _ => exec_sealChange_same, fun _ _ _ => exec_sealChange_first,
    fun _ _ _ _ h => congrArg Host.Outcome.next (if_pos h), fun _ _ _ _ h => congrArg Host.Outcome.next (if_neg h),
    fun _ _ _ hlive => congrArg Host.Outcome.next (if_pos hlive), fun _ _ _ => State.checkValue_halted,
    fun _ _ _ => exec_pulseTestOutputEdge_starts, fun _ _ _ => exec_pulseTestOutputEdge_queues,
    fun _ _ _ => exec_pulseTestOutputEnd_next, fun _ _ _ => exec_pulseTestOutputEnd_last,
    fun _ _ => exec_readingRecordForm_forms, fun _ _ => exec_readingRecordForm_idle,
    fun _ _ _ h => exec_recordRead_answers h, fun _ _ => exec_recordRead_none,
    fun _ _ _ _ hlive => congrArg Host.Outcome.next (if_pos hlive), fun _ _ _ _ hsealed => if_pos hsealed,
    fun _ _ _ hlive => congrArg Host.Outcome.next (if_pos hlive),
    fun _ _ _ _ _ hlive hpend htime hroom => ⟨_, exec_scheduleActivation_activates hlive hpend htime hroom, _, _, rfl,
      State.scheduleInForce_pending, State.scheduleInForce_current⟩⟩

end Sys2Proof.Machine
end

section
/-!
PROOFS. Money (R496, R499): what the parties of a session pay and get sums to zero, and so do the parts of a LEDGER_POST.
-/
namespace Sys2Proof.Machine

/-- What party `p` gets of an amount that `payer` pays to `payee`. -/
def partyShare (payer payee : Nat) (a : Int) (p : Nat) : Int := (if payee = p then a else 0) - (if payer = p then a else 0)

theorem partyShare_eq (payer payee : Nat) (a : Int) (p : Nat) :
    partyShare payer payee a p = (if payee = p then a else 0) + (if payer = p then -a else 0) := by
  unfold partyShare
  split <;> split <;> ring

theorem sum_upTo_single (a : Int) (q n : Nat) : ((upTo n).map fun p => if q = p then a else 0).sum = if q < n then a else 0 := by
  induction n with
  | zero => rfl
  | succ n ih =>
    rw [upTo, List.map_append, List.sum_append, ih, List.map_cons, List.map_nil, List.sum_singleton]
    rcases Nat.lt_trichotomy q n with h | h | h
    · rw [if_pos h, if_neg (by omega), if_pos (by omega), add_zero]
    · rw [if_neg (by omega), if_pos h, if_pos (by omega), zero_add]
    · rw [if_neg (by omega), if_neg (by omega), if_neg (by omega), add_zero]

/-- Between parties below `n` an amount is conserved. -/
theorem sum_partyShare {payer payee n : Nat} (hpayer : payer < n) (hpayee : payee < n) (a : Int) :
    ((upTo n).map (partyShare payer payee a)).sum = 0 := by
  simp only [funext (partyShare_eq payer payee a), List.sum_map_add, sum_upTo_single, if_pos hpayee, if_pos hpayer, add_neg_cancel]

/-- The payer and the payee of component `c` (R494). -/
def tfPayer (tf : List Byte) (c : Nat) : Nat := field tf (64 + 32 * c + 3) 1
def tfPayee (tf : List Byte) (c : Nat) : Nat := field tf (64 + 32 * c + 4) 1

theorem amounts_length (tf r : List Byte) : (amounts tf r).length = tfComponents tf := by
  have hfold (f : List Int → Nat → Int) (n : Nat) : ((upTo n).foldl (fun acc c => acc ++ [f acc c]) []).length = n := by
    induction n with
    | zero => rfl
    | succ n ih => rw [upTo, List.foldl_append, List.foldl_cons, List.foldl_nil, List.length_append, ih]; rfl
  exact hfold _ _

/-- A party's amount is the sum of its shares of the components. -/
theorem partyAmount_eq (tf r : List Byte) (p : Nat) : partyAmount tf r p =
    ((amounts tf r).zipIdx.map fun x => partyShare (tfPayer tf x.2) (tfPayee tf x.2) x.1 p).sum := by
  have hfold (l : List (Int × Nat)) (f g : Int × Nat → Int) :
      ∀ t, l.foldl (fun t x => t + f x - g x) t = t + (l.map fun x => f x - g x).sum := by
    induction l with
    | nil => simp
    | cons x l ih => intro t; rw [List.foldl_cons, ih, List.map_cons, List.sum_cons]; ring
  exact (hfold _ _ _ 0).trans (zero_add _)

theorem sum_partyAmount {tf r : List Byte} {n : Nat} (hparties : ∀ c < 16, tfPayer tf c < n ∧ tfPayee tf c < n)
    (hcomps : tfComponents tf ≤ 16) : ((upTo n).map fun p => partyAmount tf r p).sum = 0 := by
  have hidx : ∀ x ∈ (amounts tf r).zipIdx, x.2 < 16 := fun x hx => by
    have hlt := List.snd_lt_of_mem_zipIdx hx
    rw [amounts_length] at hlt
    omega
  simp only [partyAmount_eq]
  generalize (amounts tf r).zipIdx = comps at hidx ⊢
  induction comps with
  | nil => simp
  | cons x l ih =>
    obtain ⟨hx, hl⟩ := List.forall_mem_cons.1 hidx
    obtain ⟨hpayer, hpayee⟩ := hparties x.2 hx
    simp only [List.map_cons, List.sum_cons, List.sum_map_add]
    rw [ih hl, add_zero]
    exact sum_partyShare hpayer hpayee x.1

/-- R499: what the layout of a LEDGER_POST asks of its parts. -/
theorem postParts_some {b : List Byte} {n : Nat} {l : List Part} (h : postParts b n = some l) :
    l.foldl (fun t p => t + p.amount) 0 = 0 ∧ (l.map (·.slot)).Nodup ∧ ∀ p ∈ l, p.slot < 5242880 := by
  unfold postParts at h
  dsimp only at h
  split at h
  next hok =>
    obtain rfl := Option.some.inj h
    simp only [Bool.and_eq_true, List.all_eq_true (p := fun p : Part => decide (p.slot < 5242880)), decide_eq_true_eq, beq_iff_eq] at hok
    obtain ⟨⟨⟨-, hslots⟩, hdistinct⟩, hsum⟩ := hok
    exact ⟨hsum, hdistinct, hslots⟩
  next => cases h

/-- Settles O33: each component moves its amount from one party to another, and the layout of a LEDGER_POST asks for its sum. -/
theorem moneyConserved : Obligations.MoneyConserved :=
  ⟨fun _ _ _ => sum_partyAmount, fun _ _ _ => postParts_some⟩

end Sys2Proof.Machine
end

section
/-!
PROOFS. The output of a load switch (R556), and Serac's series enables (R600, R601): what a turn-off leaves alone, the conditions of an
output that is on, and when an enable is on.
-/
namespace Sys2Proof.Machine

/-! ### What leaving a queue and a turn-off keep -/

/-- Is the output on, and Serac. -/
def State.outSerac (s : State) (m : Nat) : Bool × SeracSt := (s.swOn m, s.serac)

section
variable (s : State) (m : Nat)

theorem State.outSerac_put {f : Fld} (i v : Nat) (hw : f.lo + f.width ≤ 32) (h : f.reg ≠ .SW_STATUS ∨ f.lo + f.width ≤ 31) :
    (s.put f i v).outSerac m = s.outSerac m :=
  Prod.ext (State.flag_of_get (State.get_put_apart s i m v hw (h.imp_right .inl))) rfl

theorem State.outSerac_bump {f : Fld} (i v : Nat) (hw : f.lo + f.width ≤ 32) (h : f.reg ≠ .SW_STATUS ∨ f.lo + f.width ≤ 31) :
    (s.bump f i v).outSerac m = s.outSerac m := State.outSerac_put s m i _ hw h

theorem State.outSerac_putB {f : Fld} (i : Nat) (b : Bool) (hw : f.lo + f.width ≤ 32) (h : f.reg ≠ .SW_STATUS ∨ f.lo + f.width ≤ 31) :
    (s.putB f i b).outSerac m = s.outSerac m := State.outSerac_put s m i _ hw h

@[simp] theorem State.outSerac_setGov (g : GovSt) : (s.setGov g).outSerac m = s.outSerac m := rfl
@[simp] theorem State.outSerac_setSw (n : Nat) (x : SwSt) : (s.setSw n x).outSerac m = s.outSerac m := rfl
@[simp] theorem State.outSerac_drawBelow (n : Nat) : (s.drawBelow n).2.outSerac m = s.outSerac m := rfl

@[simp] theorem State.outSerac_postSwitch (n : Nat) (e : Event) : (s.postSwitch n e).outSerac m = s.outSerac m :=
  Prod.ext (State.flag_of_get (State.get_of_same (State.postSwitch_same s n e) _ m rfl)) (State.postSwitch_serac s n e)

@[simp] theorem State.outSerac_qMirror (g : Nat) (n : Option Nat) : (s.qMirror g n).outSerac m = s.outSerac m := by
  have hvsw (t : State) (b : Bool) :
      (if b = true then t.put Fld.DRV_STATUS__VSW_STATE 0 0 else t).outSerac m = t.outSerac m := by
    split
    next => exact State.outSerac_put t m 0 0 (by decide) (by decide)
    next => rfl
  refine (hvsw _ _).trans ?_
  cases n with
  | none => exact State.outSerac_put s m _ _ (by decide) (by decide)
  | some n => exact (State.outSerac_putB _ m _ _ (by decide) (by decide)).trans (State.outSerac_put s m _ _ (by decide) (by decide))

@[simp] theorem State.outSerac_qDrop (o : QObj) : (s.qDrop o).outSerac m = s.outSerac m := by
  unfold State.qDrop
  split
  next => rfl
  next => simp

@[simp] theorem State.outSerac_dropRestart (n : Nat) : (s.dropRestart n).outSerac m = s.outSerac m := by
  simp only [State.dropRestart, State.outSerac_qDrop]
  exact State.outSerac_put _ m n 0 (by decide) (by decide)

@[simp] theorem State.outSerac_lockMirrorSw (n : Nat) : (s.lockMirrorSw n).outSerac m = s.outSerac m :=
  State.outSerac_put s m n _ (by decide) (by decide)

/-- The sums of a turn-off before its lock. -/
def State.clampMeasured (s : State) (n : Nat) : State :=
  let (e, s) := s.drawBelow 65536
  ((s.setSw n { s.sw n with sum := s.clampSum n + e * 100000, sumAt := s.time }).put Fld.SW_CLAMP__LAST n e).clampMirror n

@[simp] theorem State.outSerac_clampMeasured (n : Nat) : (s.clampMeasured n).outSerac m = s.outSerac m :=
  (State.outSerac_put _ m n _ (by decide) (by decide)).trans (State.outSerac_put _ m n _ (by decide) (by decide))

/-- A channel locked off by its clamp. -/
def State.clampLocked (s : State) (n lock : Nat) : State :=
  ((((((s.setSw n { s.sw n with clampLock := lock }).lockMirrorSw n).bump Fld.SW_COUNT__LOCKS n 1).put Fld.DRV_ERR__CLAMP_LOCK 0 1).dropRestart n)).postSwitch
    n { code := 0x502, sev := 2, obj := n, data := lock }

@[simp] theorem State.outSerac_clampLocked (n lock : Nat) : (s.clampLocked n lock).outSerac m = s.outSerac m := by
  rw [State.clampLocked, State.outSerac_postSwitch, State.outSerac_dropRestart, State.outSerac_put _ m _ _ (by decide) (by decide),
    State.outSerac_bump _ m _ _ (by decide) (by decide), State.outSerac_lockMirrorSw, State.outSerac_setSw]

theorem State.clampEvent_eq (n : Nat) : ∃ lock, s.clampEvent n =
    if lock = 0 then s.clampMeasured n else (s.clampMeasured n).clampLocked n lock := ⟨_, rfl⟩

@[simp] theorem State.outSerac_clampEvent (n : Nat) : (s.clampEvent n).outSerac m = s.outSerac m := by
  obtain ⟨lock, h⟩ := s.clampEvent_eq n
  rw [h]
  split <;> simp

theorem State.clampEvent_swOn (n : Nat) : (s.clampEvent n).swOn m = s.swOn m := congrArg Prod.fst (State.outSerac_clampEvent s m n)

theorem State.clampEvent_serac (n : Nat) : (s.clampEvent n).serac = s.serac := congrArg Prod.snd (State.outSerac_clampEvent s 0 n)

end

/-! ### The output (R556) -/

/-- R556: the conditions of an output. -/
def State.outMayBeOn (s : State) (n : Nat) : Bool :=
  (s.sw n).drive && !s.swLocked n && s.vswGood && !s.swFailed n && s.seriesOk n && !s.rdcHolds n && s.dieRuns .ddie

/-- A turn-on: counted, and its time kept. -/
def State.turnedOn (s : State) (n : Nat) : State :=
  let s := s.putB Fld.SW_STATUS__OUT n true
  (s.put Fld.SW_COUNT__ONS n (s.get Fld.SW_COUNT__ONS n + 1)).setSw n { s.sw n with onSince := s.time }

/-- A turn-off: measured, and a test of the switch-off path. -/
def State.turnedOff (s : State) (n : Nat) : State := ((s.putB Fld.SW_STATUS__OUT n false).clampEvent n).testedOff n

/-- An output goes on or off. -/
def State.outFollows (s : State) (n : Nat) (on : Bool) : State :=
  if on = s.swOn n then s
  else
    let s := s.putB Fld.SW_STATUS__OUT n on
    if on then (s.put Fld.SW_COUNT__ONS n (s.get Fld.SW_COUNT__ONS n + 1)).setSw n { s.sw n with onSince := s.time }
    else (s.clampEvent n).testedOff n

section
variable (s : State) (n : Nat)

theorem State.swRefresh_follows : s.swRefresh n = s.outFollows n (s.outMayBeOn n) := by
  rw [State.swRefresh, State.outFollows, State.outMayBeOn]

theorem State.swRefresh_eq : s.swRefresh n = if s.outMayBeOn n = s.swOn n then s
    else if s.outMayBeOn n = true then s.turnedOn n else s.turnedOff n := by
  rw [State.swRefresh_follows, State.outFollows]
  cases s.outMayBeOn n with
  | true => simp only [if_true, State.turnedOn]
  | false => simp only [Bool.false_eq_true, if_false, State.turnedOff]

theorem State.testedOff_swOn (m : Nat) : (s.testedOff n).swOn m = s.swOn m := by
  simp only [State.testedOff]
  split <;> rfl

theorem State.turnedOff_swOn : (s.turnedOff n).swOn n = false := by
  rw [State.turnedOff, State.testedOff_swOn, State.clampEvent_swOn]
  exact State.flag_put_same s n (b2n false) (by decide)

/-- The conditions of an output that R556 names. -/
def State.outConditions (s : State) (n : Nat) : Prop :=
  (s.sw n).drive = true ∧ s.swLocked n = false ∧ s.vswGood = true ∧ s.swFailed n = false ∧ s.seriesOk n = true

theorem State.outConditions_of_mayBeOn {s : State} {n : Nat} (h : s.outMayBeOn n = true) : s.outConditions n := by
  simp only [State.outMayBeOn, Bool.and_eq_true, Bool.not_eq_true'] at h
  obtain ⟨⟨⟨⟨⟨⟨hdrive, hlock⟩, hvsw⟩, hfail⟩, hseries⟩, -⟩, -⟩ := h
  exact ⟨hdrive, hlock, hvsw, hfail, hseries⟩

theorem State.turnedOn_sw : (s.turnedOn n).sw n = { s.sw n with onSince := s.time } := tabGet_tabSet_same _ _ _ _

theorem State.turnedOn_regs : (s.turnedOn n).regs = ((s.putB Fld.SW_STATUS__OUT n true).put Fld.SW_COUNT__ONS n
    ((s.putB Fld.SW_STATUS__OUT n true).get Fld.SW_COUNT__ONS n + 1)).regs := by rw [State.turnedOn, State.setSw_regs]

/-- A turn-on changes the output's field and the count of turn-ons alone. -/
theorem State.turnedOn_get {f : Fld} (i : Nat) (hout : f.reg ≠ .SW_STATUS ∨ f.lo + f.width ≤ 31) (hons : f.reg ≠ .SW_COUNT) :
    (s.turnedOn n).get f i = s.get f i := by
  rw [State.get_congr f i (s.turnedOn_regs n), State.get_put_apart _ n i _ (by decide) (.inl hons.symm), State.putB,
    State.get_put_apart s n i _ (by decide) (hout.elim (fun h => .inl h.symm) fun h => .inr (.inr h))]

/-- A turn-on changes none of the conditions. -/
theorem State.outConditions_turnedOn {s : State} {n : Nat} (h : s.outConditions n) : (s.turnedOn n).outConditions n := by
  obtain ⟨hdrive, hlock, hvsw, hfail, hseries⟩ := h
  have hget {f : Fld} (i : Nat) (hout : f.reg ≠ .SW_STATUS ∨ f.lo + f.width ≤ 31) (hons : f.reg ≠ .SW_COUNT) :=
    State.turnedOn_get s n i hout hons
  refine ⟨?_, ?_, ?_, ?_, ?_⟩
  · rw [State.turnedOn_sw]
    exact hdrive
  · rw [State.swLocked, State.turnedOn_sw]
    exact hlock
  · rw [State.vswGood, hget 0 (by decide) (by decide)]
    exact hvsw
  · rw [State.swFailed, State.flag_of_get (hget n (by decide) (by decide))]
    exact hfail
  · rw [State.seriesOk, State.flag_of_get (hget n (by decide) (by decide)), State.flag_of_get (hget n (by decide) (by decide))]
    exact hseries

/-- R556: an output that the refresh leaves on is one that its conditions turn on or keep on. -/
theorem State.swRefresh_on {s : State} {n : Nat} (h : (s.swRefresh n).swOn n = true) : (s.swRefresh n).outConditions n := by
  rw [State.swRefresh_eq] at h ⊢
  split at h
  next hsame =>
    rw [if_pos hsame]
    exact State.outConditions_of_mayBeOn (hsame.trans h)
  next hchange =>
    rw [if_neg hchange]
    split at h
    next hon => rw [if_pos hon]; exact State.outConditions_turnedOn (State.outConditions_of_mayBeOn hon)
    next => rw [State.turnedOff_swOn] at h; cases h

end

/-- Settles O37: the refresh leaves an output as it is, turns it on under its conditions, or turns it off. -/
theorem switchOutput : Obligations.SwitchOutput := fun _ _ => State.swRefresh_on

/-! ### Series enables (R600, R601) -/

/-- What of Serac a switch's output leaves alone: what lets an enable on, and the enables. -/
def SeracSt.enableView (x : SeracSt) : (Nat × List Byte × List (Nat × SFunc)) × Nat := ((x.st, x.cfg, x.fns), x.en)

section
variable (s : State) (n : Nat)

theorem State.testedOff_enableView : (s.testedOff n).serac.enableView = s.serac.enableView := by
  simp only [State.testedOff]
  split <;> rfl

theorem State.dropRestart_serac : (s.dropRestart n).serac = s.serac := congrArg Prod.snd (State.outSerac_dropRestart s 0 n)

theorem State.swRefresh_enableView : (s.swRefresh n).serac.enableView = s.serac.enableView := by
  rw [State.swRefresh_eq]
  split
  next => rfl
  next =>
    split
    next => rfl
    next => rw [State.turnedOff, State.testedOff_enableView, State.clampEvent_serac, State.putB_serac]

end

/-- R600, R601: the state, the map and the functions that name an enable let it on. -/
def SeracSt.enableOn (x : SeracSt) (k : Nat) : Bool := (x.st == 2 || x.st == 3) && serMapped x.cfg k && (x.holding k).isEmpty

theorem SeracSt.enableOn_congr {x y : SeracSt} (h : y.enableView.1 = x.enableView.1) (k : Nat) : y.enableOn k = x.enableOn k := by
  simp only [SeracSt.enableView, Prod.mk.injEq] at h
  obtain ⟨hst, hcfg, hfns⟩ := h
  simp only [SeracSt.enableOn, SeracSt.holding, SeracSt.fn, hst, hcfg, hfns]

theorem bitAt_eq_bitsAt (n k : Nat) : bitAt n k = (bitsAt n k 1 == 1) := by rw [bitAt, bitsAt, pow_one]

theorem bitAt_putBits (n k j : Nat) (b : Bool) : bitAt (putBits n k 1 (b2n b)) j = if j = k then b else bitAt n j := by
  rw [bitAt_eq_bitsAt]
  split
  next h => rw [h, bitsAt_putBits_same]; cases b <;> rfl
  next h =>
    rw [bitAt_eq_bitsAt]
    rcases Nat.lt_or_gt_of_ne h with h | h
    · rw [bitsAt_putBits_below n _ h]
    · rw [bitsAt_putBits_above n _ h]

section
variable (s : State) (k : Nat) (on : Bool)

/-- Writing an enable writes its bit alone. -/
theorem State.setEnable_enableView (h : bitAt s.serac.en k ≠ on) :
    (s.setEnable k on).serac.enableView = (s.serac.enableView.1, putBits s.serac.en k 1 (b2n on)) := by
  unfold State.setEnable
  rw [if_neg h]
  dsimp only
  split
  next => rfl
  next m _ =>
    cases on with
    | true => rfl
    | false =>
      rw [if_neg (by decide), State.swRefresh_enableView, State.dropRestart_serac]
      rfl

theorem State.setEnable_keeps : (s.setEnable k on).serac.enableView.1 = s.serac.enableView.1 := by
  by_cases h : bitAt s.serac.en k = on
  · rw [State.setEnable, if_pos h]
  · rw [State.setEnable_enableView s k on h]

theorem State.setEnable_bit (j : Nat) : bitAt (s.setEnable k on).serac.en j = if j = k then on else bitAt s.serac.en j := by
  by_cases h : bitAt s.serac.en k = on
  · rw [State.setEnable, if_pos h]
    split
    next hj => rw [hj, h]
    next => rfl
  · have hen : (s.setEnable k on).serac.en = putBits s.serac.en k 1 (b2n on) :=
      congrArg Prod.snd (State.setEnable_enableView s k on h)
    rw [hen, bitAt_putBits]

end

/-- Serac writes enable `k`. -/
def State.enableWritten (s : State) (k : Nat) : State := s.setEnable k (s.serac.enableOn k)

/-- After the enables below `n` are written, each of them is as Serac lets it, and what lets them on has not changed. -/
theorem State.enablesWritten (s : State) : ∀ n, ((upTo n).foldl State.enableWritten s).serac.enableView.1 = s.serac.enableView.1 ∧
    ∀ k < n, bitAt ((upTo n).foldl State.enableWritten s).serac.en k = s.serac.enableOn k
  | 0 => ⟨rfl, fun k hk => absurd hk (Nat.not_lt_zero k)⟩
  | n + 1 => by
    obtain ⟨hkept, hbits⟩ := State.enablesWritten s n
    rw [upTo, List.foldl_append, List.foldl_cons, List.foldl_nil, State.enableWritten]
    refine ⟨(State.setEnable_keeps _ _ _).trans hkept, fun k hk => ?_⟩
    rw [State.setEnable_bit]
    split
    next h => rw [h, SeracSt.enableOn_congr hkept]
    next h => exact hbits k (by omega)

/-- R600: no function holds the enable exactly when every used function that names it is CLEAR. -/
theorem SeracSt.holding_isEmpty (x : SeracSt) (k : Nat) : (x.holding k).isEmpty = true ↔
    ∀ f ∈ usedFns x.cfg, bitAt (fnCfg x.cfg f).mask k = true → (x.fn f).st = 1 := by
  rw [List.isEmpty_iff, SeracSt.holding, List.filter_eq_nil_iff]
  simp

/-- Settles O45: the enables are written one after another, each by its own condition. -/
theorem seriesEnables : Obligations.SeriesEnables :=
  ⟨fun s k hk => (State.enablesWritten s 16).2 k hk, SeracSt.holding_isEmpty⟩

end Sys2Proof.Machine
end

section
/-!
PROOFS. The shares of a key (R695): what is stored is read back, and re-masking changes no key.
-/
namespace Sys2Proof.Machine

/-- The exclusive or of the shares gives the key back, whatever the mask. -/
theorem KeySlot.key_masked (key m : Nat) : KeySlot.key ⟨Nat.xor key m, m⟩ = key := Nat.xor_xor_cancel_right key m

/-- The same random in both shares cancels. -/
theorem KeySlot.key_mask (k : KeySlot) (d : Nat) : (k.mask d).key = k.key := by
  change (k.s0 ^^^ d) ^^^ (k.s1 ^^^ d) = k.s0 ^^^ k.s1
  rw [Nat.xor_comm k.s1, ← Nat.xor_assoc, Nat.xor_xor_cancel_right]

theorem State.keyOf_of_rime {s t : State} (h : t.rime.slots = s.rime.slots) (n : Nat) : t.keyOf n = s.keyOf n := by
  rw [State.keyOf, State.keyOf, h]

theorem State.keyOf_storeKey (s : State) (n : Nat) (a : KeyAttr) (key : Nat) : (s.storeKey n a key).keyOf n = key := by
  have hslot : (s.storeKey n a key).rime.slots =
      tabSet s.rime.slots n ⟨Nat.xor key (s.drawBelow (2 ^ 512)).1, (s.drawBelow (2 ^ 512)).1⟩ := rfl
  rw [State.keyOf, hslot, tabGet_tabSet_same, KeySlot.key_masked]

theorem State.keyOf_remaskSlot (s : State) (n m : Nat) : (s.remaskSlot n).keyOf m = s.keyOf m := by
  have hslot : (s.remaskSlot n).rime.slots =
      tabSet s.rime.slots n ((tabGet ⟨0, 0⟩ s.rime.slots n).mask (s.random 512).1) := rfl
  rw [State.keyOf, hslot, tabGet_tabSet]
  split
  next h => rw [KeySlot.key_mask, h, State.keyOf]
  next => rfl

theorem State.keyOf_remaskSlots (l : List Nat) (m : Nat) : ∀ s : State, (l.foldl State.remaskSlot s).keyOf m = s.keyOf m := by
  induction l with
  | nil => exact fun _ => rfl
  | cons n r ih => exact fun s => (ih _).trans (s.keyOf_remaskSlot n m)

/-- A late round is noted (R695). -/
def State.remaskDue (s : State) : State :=
  if s.rime.lastMask + 1100000 < s.time then s.put Fld.KEY_ERR__REMASK_LATE 0 1 else s

/-- A round begins: it is counted, and the next one is due a second after it. -/
def State.remaskBegun (u : State) : State :=
  (u.setRime { u.rime with lastMask := u.time }).put Fld.KEY_REMASK__ROUNDS 0 ((u.reg .KEY_REMASK 0).toNat + 1)

section
variable {s : State}

theorem exec_keyRemask_idle (h : s.pwr = 3 ∨ s.dieRuns .cdie = false) : exec .keyRemask s = .next s :=
  if_pos (by simpa using h)

section
variable (hpwr : s.pwr ≠ 3) (hrun : s.dieRuns .cdie = true)
include hpwr hrun

theorem exec_keyRemask_noRandom (hrng : s.remaskDue.rngReady = false) : exec .keyRemask s = .next s.remaskDue :=
  (if_neg (by simp [hpwr, hrun])).trans (if_pos (by change (!s.remaskDue.rngReady) = true; rw [hrng]; rfl))

theorem exec_keyRemask_masks (hrng : s.remaskDue.rngReady = true) : exec .keyRemask s =
    .next ((s.remaskDue.remaskBegun.rime.slots.map (·.1)).foldl State.remaskSlot s.remaskDue.remaskBegun) :=
  (if_neg (by simp [hpwr, hrun])).trans (if_neg (by change ¬ (!s.remaskDue.rngReady) = true; rw [hrng]; decide))

end

theorem State.keyOf_remaskDue (n : Nat) : s.remaskDue.keyOf n = s.keyOf n := by
  unfold State.remaskDue
  split
  next => exact State.keyOf_of_rime rfl n
  next => rfl

theorem State.keyOf_remaskBegun (n : Nat) : s.remaskBegun.keyOf n = s.keyOf n := State.keyOf_of_rime rfl n

theorem exec_keyRemask_keeps : ∃ t, exec .keyRemask s = .next t ∧ ∀ n, t.keyOf n = s.keyOf n := by
  by_cases hidle : s.pwr = 3 ∨ s.dieRuns .cdie = false
  · exact ⟨s, exec_keyRemask_idle hidle, fun _ => rfl⟩
  obtain ⟨hpwr, hrun⟩ := not_or.1 hidle
  rw [Bool.not_eq_false] at hrun
  cases hrng : s.remaskDue.rngReady with
  | false => exact ⟨_, exec_keyRemask_noRandom hpwr hrun hrng, fun n => State.keyOf_remaskDue n⟩
  | true =>
    refine ⟨_, exec_keyRemask_masks hpwr hrun hrng, fun n => ?_⟩
    rw [State.keyOf_remaskSlots, State.keyOf_remaskBegun, State.keyOf_remaskDue]

end

/-- Settles O54: both shares change by the same random, so their exclusive or stays. -/
theorem keyShares : Obligations.KeyShares := by
  refine ⟨State.keyOf_storeKey, State.keyOf_remaskSlot, fun s u v hpwr hrun hu hrng hv => ?masks, fun s u hpwr hrun hu hrng => ?late,
    fun _ => exec_keyRemask_idle, fun _ => exec_keyRemask_keeps⟩
  case masks => subst hu hv; exact exec_keyRemask_masks hpwr hrun hrng
  case late => subst hu; exact exec_keyRemask_noRandom hpwr hrun hrng

end Sys2Proof.Machine
end

section
/-!
PROOFS. The level of an allocation (R576 steps 3 and 4), found bit by bit.
-/
namespace Sys2Proof.Machine

/-- The search never leaves what the supply allows. -/
theorem levelFrom_within (d : Nat → Nat) {v : Nat} : ∀ (k : Nat) {w : Nat}, d w ≤ v → d (levelFrom d v k w) ≤ v
  | 0, _, h => h
  | k + 1, w, h => by
    unfold levelFrom
    split
    next hup => exact levelFrom_within d k hup
    next => exact levelFrom_within d k h

/-- With `k` bits left, 2^k above the level reached exceeds the supply; so in the end one above does. -/
theorem levelFrom_next (d : Nat → Nat) {v : Nat} : ∀ (k : Nat) {w : Nat}, v < d (w + 2 ^ k) → v < d (levelFrom d v k w + 1)
  | 0, _, h => h
  | k + 1, w, h => by
    unfold levelFrom
    split
    next => exact levelFrom_next d k (by rwa [Nat.add_assoc, ← Nat.two_mul, ← Nat.pow_succ'])
    next hup => exact levelFrom_next d k (Nat.lt_of_not_le hup)

/-- Where the supply binds: 2^64 is too much, and the level is the one found. -/
theorem levelOf_eq_some {l : List Sess} {cap : Sess → Nat → Nat} {v w : Nat} (h : levelOf l cap (some v) = some w) :
    v < takeAt l cap (2 ^ 64) ∧ levelFrom (takeAt l cap) v 64 0 = w := by
  change (if takeAt l cap (2 ^ 64) ≤ v then none else some _) = some w at h
  split at h
  next => cases h
  next hbind => exact ⟨Nat.lt_of_not_le hbind, Option.some.inj h⟩

theorem levelOf_eq_none {l : List Sess} {cap : Sess → Nat → Nat} {v : Nat} (h : levelOf l cap (some v) = none) :
    takeAt l cap (2 ^ 64) ≤ v := by
  change (if takeAt l cap (2 ^ 64) ≤ v then none else some _) = none at h
  split at h
  next hfree => exact hfree
  next => cases h

/-- Settles O43: the two invariants of the search, from level 0 with 64 bits left. -/
theorem governorLevels : Obligations.GovernorLevels := by
  refine ⟨fun l cap v w h hfloor => ?within, fun l cap v w h => ?next, fun _ _ _ => levelOf_eq_none⟩
  case within =>
    obtain ⟨-, rfl⟩ := levelOf_eq_some h
    exact levelFrom_within _ 64 hfloor
  case next =>
    obtain ⟨hbind, rfl⟩ := levelOf_eq_some h
    exact levelFrom_next _ 64 (by rwa [Nat.zero_add])

end Sys2Proof.Machine
end

section
/-!
PROOFS. A safety function is CLEAR only while its inputs demand nothing (R593, R597, R599).
-/
namespace Sys2Proof.Machine

/-! ### Two channels (R597): the stages of a cycle, one after another -/

/-- A channel that is not healthy demands. -/
def SFunc.demanded (x : SFunc) (c : FnCfg) (ha hb : Bool) : SFunc :=
  if (!ha || !hb) && x.st ≠ 4 then { x with st := 2, cause := if x.st = 2 then x.cause else if ha then c.input 1 else c.input 0 } else x

/-- Channels that disagree for too long, or under a fault, are a FAULT. -/
def SFunc.compared (x : SFunc) (c : FnCfg) (ha hb fault : Bool) (tick : Nat) : SFunc :=
  if ha ≠ hb then
    { x with disc := some (x.disc.getD tick), st := if 2 * c.disc ≤ tick - x.disc.getD tick || fault then 4 else x.st }
  else { x with disc := none }

def SFunc.faulted (x : SFunc) (fault : Bool) : SFunc := if fault then { x with st := 4 } else x

/-- A FAULT ends with both channels not healthy and no input fault. -/
def SFunc.faultEnded (x : SFunc) (ha hb fault : Bool) : SFunc :=
  if x.st = 4 && !ha && !hb && !fault then { x with st := 2 } else x

/-- A demand ends with both channels healthy, or then waits for a reset. -/
def SFunc.demandEnded (x : SFunc) (c : FnCfg) (ha hb : Bool) : SFunc :=
  if x.st = 2 && ha && hb then { x with st := if c.mode = 1 || x.owes then 3 else 1 } else x

def SFunc.resetDone (x : SFunc) (reset : Bool) : SFunc := if x.st = 3 && reset then { x with st := 1, owes := false } else x

theorem twoChannel_eq (c : FnCfg) (ha hb fault reset : Bool) (tick : Nat) (x : SFunc) : twoChannel c ha hb fault reset tick x =
    (((((x.demanded c ha hb).compared c ha hb fault tick).faulted fault).faultEnded ha hb fault).demandEnded c ha hb).resetDone reset :=
  rfl

section
variable {c : FnCfg} {ha hb fault reset : Bool} {tick : Nat} {x : SFunc}

theorem SFunc.demanded_st (h : ha = false ∨ hb = false) : (x.demanded c ha hb).st = 2 ∨ (x.demanded c ha hb).st = 4 := by
  unfold SFunc.demanded
  split
  next => exact .inl rfl
  next hno => exact .inr (by simpa [h] using hno)

theorem SFunc.demanded_fault (h : x.st = 4) : (x.demanded c ha hb).st = 4 := by
  rw [SFunc.demanded, if_neg (by simp [h]), h]

theorem SFunc.compared_st : (x.compared c ha hb fault tick).st = x.st ∨ (x.compared c ha hb fault tick).st = 4 := by
  unfold SFunc.compared
  split
  next => dsimp only; split <;> simp
  next => exact .inl rfl

/-- Neither the end of a demand nor a reset leaves a FAULT. -/
theorem SFunc.ended_fault (h : x.st = 4) : ((x.demandEnded c ha hb).resetDone reset).st = 4 := by
  have hkept : x.demandEnded c ha hb = x := if_neg (by simp [h])
  rw [hkept, SFunc.resetDone, if_neg (by simp [h]), h]

/-- A demand stands while a channel is not healthy. -/
theorem SFunc.ended_demand (h : ha = false ∨ hb = false) (hst : x.st = 2) : ((x.demandEnded c ha hb).resetDone reset).st = 2 := by
  have hkept : x.demandEnded c ha hb = x := if_neg (by rcases h with h | h <;> simp [h])
  rw [hkept, SFunc.resetDone, if_neg (by simp [hst]), hst]

/-- R597: a FAULT stands unless both channels are not healthy and no input has a fault. -/
theorem SFunc.faultEnded_fault (hst : x.st = 4) (h : ¬ (ha = false ∧ hb = false ∧ fault = false)) :
    (x.faultEnded ha hb fault).st = 4 := by
  rw [SFunc.faultEnded, if_neg (by simpa [hst] using h), hst]

/-- R593: an input fault makes the state FAULT, whatever the channels show. -/
theorem twoChannel_fault : (twoChannel c ha hb true reset tick x).st = 4 :=
  SFunc.ended_fault (SFunc.faultEnded_fault rfl (by simp))

theorem twoChannel_unhealthy (h : ha = false ∨ hb = false) :
    (twoChannel c ha hb false reset tick x).st = 2 ∨ (twoChannel c ha hb false reset tick x).st = 4 := by
  rw [twoChannel_eq, SFunc.faulted, if_neg Bool.false_ne_true]
  have hst : ((x.demanded c ha hb).compared c ha hb false tick).st = 2 ∨ ((x.demanded c ha hb).compared c ha hb false tick).st = 4 := by
    rcases SFunc.compared_st (x := x.demanded c ha hb) with hsame | hlate
    · rw [hsame]; exact SFunc.demanded_st h
    · exact .inr hlate
  generalize (x.demanded c ha hb).compared c ha hb false tick = y at hst ⊢
  have hend : (y.faultEnded ha hb false).st = 2 ∨ (y.faultEnded ha hb false).st = 4 := by
    unfold SFunc.faultEnded
    split
    next => exact .inl rfl
    next => exact hst
  exact hend.imp (SFunc.ended_demand h) SFunc.ended_fault

theorem twoChannel_clear (h : (twoChannel c ha hb fault reset tick x).st = 1) : ha = true ∧ hb = true ∧ fault = false := by
  cases fault with
  | true => rw [twoChannel_fault] at h; cases h
  | false =>
    by_contra hno
    have hun : ha = false ∨ hb = false := by simpa [imp_iff_not_or] using hno
    rcases twoChannel_unhealthy (c := c) (reset := reset) (tick := tick) (x := x) hun with hst | hst <;> rw [hst] at h <;> cases h

theorem twoChannel_leaves (hst : x.st = 4) (h : (twoChannel c ha hb fault reset tick x).st ≠ 4) :
    ha = false ∧ hb = false ∧ fault = false := by
  by_contra hno
  rw [twoChannel_eq] at h
  have hcmp : ((x.demanded c ha hb).compared c ha hb fault tick).st = 4 :=
    SFunc.compared_st.elim (fun hsame => hsame.trans (SFunc.demanded_fault hst)) id
  have hfault : (((x.demanded c ha hb).compared c ha hb fault tick).faulted fault).st = 4 := by
    unfold SFunc.faulted
    split
    next => rfl
    next => exact hcmp
  exact h (SFunc.ended_fault (SFunc.faultEnded_fault hfault hno))

end

/-! ### Two hands (R599) -/

/-- A function that is CLEAR ends with either hand. -/
def SFunc.handLost (x : SFunc) (c : FnCfg) (h1 h2 : Bool) : SFunc :=
  if x.st = 1 && !(h1 && h2) then { x with st := 5, armed := false, cause := if h1 then c.input 1 else c.input 0 } else x

/-- Both hands released arm a function that has ended, and both actuated together make an armed one CLEAR. -/
def SFunc.handWait (x : SFunc) (h1 h2 : Bool) : SFunc :=
  if x.st = 5 || x.st = 2 then
    let x := if !h1 && !h2 then { x with st := if x.owes then 3 else 2, armed := true } else x
    if (h1 && h2) && x.armed && handsNear x && x.st ≠ 3 then { x with st := 1 }
    else if h1 && h2 then { x with st := 5, armed := false }
    else x
  else x

section
variable {c : FnCfg} {h1 h2 d1 d2 fault reset : Bool} {tick : Nat} {x : SFunc}

theorem handRun_running (hfault : x.st ≠ 4) (hreset : x.st ≠ 3) :
    handRun c h1 h2 reset x = (x.handLost c h1 h2).handWait h1 h2 := (if_neg hfault).trans (if_neg hreset)

theorem handRun_stopped (h : x.st = 4 ∨ x.st = 3) : (handRun c h1 h2 reset x).st ≠ 1 := by
  unfold handRun
  rcases h with h | h
  · rw [if_pos h]
    split <;> simp [h]
  · rw [if_neg (by simp [h]), if_pos h]
    split <;> simp [h]

theorem SFunc.handLost_st (h : (h1 && h2) = false) : (x.handLost c h1 h2).st ≠ 1 := by
  unfold SFunc.handLost
  split
  next => exact show 5 ≠ 1 by decide
  next hno => simpa [h] using hno

theorem SFunc.handWait_released (h : (h1 && h2) = false) (hst : x.st ≠ 1) : (x.handWait h1 h2).st ≠ 1 := by
  simp only [SFunc.handWait, h, Bool.false_and, Bool.false_eq_true, if_false]
  split_ifs
  · exact show 3 ≠ 1 by decide
  · exact show 2 ≠ 1 by decide
  · exact hst
  · exact hst

theorem SFunc.handWait_actuated (h : (x.handWait true true).st = 1) : x.st = 1 ∨ x.armed = true ∧ handsNear x = true := by
  simp only [SFunc.handWait, Bool.not_true, Bool.and_self, Bool.true_and, Bool.false_eq_true, if_false, if_true] at h
  split_ifs at h with hend hnear
  · simp only [Bool.and_eq_true] at hnear
    exact .inr hnear.1
  · cases h
  · exact .inl h

/-- Without a fault: CLEAR needs both hands, and it is as before or a new actuation. -/
theorem handRun_clear (h : (handRun c h1 h2 reset x).st = 1) :
    h1 = true ∧ h2 = true ∧ (x.st = 1 ∨ x.armed = true ∧ handsNear x = true) := by
  obtain ⟨hfault, hreset⟩ := not_or.1 fun hstop => handRun_stopped hstop h
  rw [handRun_running hfault hreset] at h
  cases hboth : h1 && h2 with
  | false => exact absurd h (SFunc.handWait_released hboth (SFunc.handLost_st hboth))
  | true =>
    obtain ⟨rfl, rfl⟩ := Bool.and_eq_true _ _ ▸ hboth
    have hkept : x.handLost c true true = x := if_neg (by simp)
    rw [hkept] at h
    exact ⟨rfl, rfl, SFunc.handWait_actuated h⟩

/-- Two hands actuated together were actuated within 500 ms of each other. -/
theorem handsNear_handTimes (h : handsNear (handTimes true true d1 d2 tick x) = true) :
    max (x.t1.getD tick) (x.t2.getD tick) - min (x.t1.getD tick) (x.t2.getD tick) ≤ 1000 := of_decide_eq_true h

theorem twoHand_clear (h : (twoHand c h1 h2 d1 d2 fault reset tick x).st = 1) : fault = false ∧ h1 = true ∧ h2 = true ∧
    (x.st = 1 ∨ x.armed = true ∧ handsNear (handTimes h1 h2 d1 d2 tick x) = true) := by
  unfold twoHand at h
  dsimp only at h
  split at h
  next => cases h
  next hfault =>
    have hno : fault = false := by
      cases fault with
      | true => exact absurd rfl hfault
      | false => rfl
    exact ⟨hno, handRun_clear h⟩

end

/-- Settles O46: for two channels by the stages of a cycle, for two hands by what its states without a fault allow. -/
theorem safetyFunctions : Obligations.SafetyFunctions := by
  refine ⟨fun _ _ _ _ _ _ _ => twoChannel_clear, fun _ _ _ _ _ _ _ => twoChannel_leaves,
    fun c h1 h2 d1 d2 fault reset tick x h => ?hands, fun c h1 h2 d1 d2 fault reset tick x hst h => ?anew⟩
  case hands =>
    obtain ⟨hfault, hh1, hh2, -⟩ := twoHand_clear h
    exact ⟨hh1, hh2, hfault⟩
  case anew =>
    obtain ⟨-, rfl, rfl, hwas⟩ := twoHand_clear h
    obtain ⟨harmed, hnear⟩ := hwas.resolve_left hst
    exact ⟨harmed, handsNear_handTimes hnear⟩

end Sys2Proof.Machine
end

section
/-!
PROOFS. The legal display (R462, R463, R469 to R471) and the requests to it and to the Moraine log (R461, R468, R479, R480): which branch
of its meaning each of them takes.
-/
namespace Sys2Proof.Machine

/-! ### Frames (R462, R463) -/

/-- The front buffer has been scanned: its bytes are `f`, and DISP_CRC shows their CRC. -/
def State.frameScanned (s : State) (f : List Byte) : State := (s.setDisp { s.disp with front := f }).setReg .DISP_CRC 0 (crc32 f)

/-- A frame whose CRC equals the shadow CRC: the count of misses clears, and in a fault the tenth such frame ends it. -/
def State.frameClean (t : State) (fault : Bool) : State :=
  let u := t.setDisp { t.disp with miss := 0, blank := fault, clean := if fault then t.disp.clean + 1 else 0 }
  if fault && 10 ≤ u.disp.clean then
    (((u.put Fld.DISP_STATUS__FAULT 0 0).setDisp { u.disp with blank := false, clean := 0 }).dispRecord 2).postDie .f0 0x251 0 0
  else u

/-- A mismatch counts and blanks; the first and second in a row rewrite the frame, the third begins a fault. -/
def State.frameMissed (t : State) (fault : Bool) : State :=
  let u := (t.bump Fld.DISP_STATUS__MISMATCHES 0 1).setDisp { t.disp with miss := t.disp.miss + 1, blank := true, clean := 0 }
  let v := (u.put Fld.DISP_STATUS__FAULT 0 1).dispRecord 1
  if fault = true then u
  else if u.disp.miss < 3 then u.dispMirror.writeFrame
  else (v.postDie .f0 0x250 2 (v.get Fld.DISP_STATUS__MISMATCHES 0)).dispMirror.writeFrame

section
variable {s t u : State} {upset : List (Nat × Byte)} {f : List Byte}

theorem State.frameScanned_fault (s : State) (f : List Byte) :
    (s.frameScanned f).flag Fld.DISP_STATUS__FAULT 0 = s.flag Fld.DISP_STATUS__FAULT 0 :=
  State.flag_of_get (State.get_setReg_ne _ 0 0 _ (by decide))

section
variable (hlive : s.firnLive .f0 = true)
  (hf : upset.foldl (fun b x => listSet b x.1 ((b.getD x.1 0) ^^^ x.2)) (padTo 96 s.disp.front) = f) (ht : t = s.frameScanned f)
include hlive hf ht

theorem exec_displayFrameEnd_clean (hcrc : crc32 f = s.disp.shadow ∨ (f = List.replicate 96 0 ∧ s.disp.shadow = 0)) :
    exec (.displayFrameEnd upset) s = .next (t.frameClean (s.flag Fld.DISP_STATUS__FAULT 0)).dispMirror.swapFrame := by
  subst hf ht
  rw [← State.frameScanned_fault]
  exact (if_neg (by simp [hlive])).trans (if_pos (by simpa using hcrc))

theorem exec_displayFrameEnd_missed (hcrc : crc32 f ≠ s.disp.shadow) (hfresh : f ≠ List.replicate 96 0 ∨ s.disp.shadow ≠ 0) :
    exec (.displayFrameEnd upset) s = .next (t.frameMissed (s.flag Fld.DISP_STATUS__FAULT 0)) := by
  subst ht
  rw [← State.frameScanned_fault s f]
  have hno : ¬ (decide (crc32 f = s.disp.shadow) || (decide (f = List.replicate 96 0) && decide (s.disp.shadow = 0))) = true := by
    simpa [hcrc, imp_iff_not_or] using hfresh
  subst hf
  refine (if_neg (by simp [hlive])).trans ((if_neg hno).trans ?_)
  simp only [State.frameMissed, apply_ite Host.Outcome.next]
  rfl

end

theorem State.frameClean_fine (t : State) : t.frameClean false = t.setDisp { t.disp with miss := 0, blank := false, clean := 0 } :=
  by simp [State.frameClean]

theorem State.frameClean_faulty (hfew : t.disp.clean < 9) :
    t.frameClean true = t.setDisp { t.disp with miss := 0, blank := true, clean := t.disp.clean + 1 } := by
  have hno : ¬ 10 ≤ t.disp.clean + 1 := by omega
  simp [State.frameClean, hno]

theorem State.frameClean_ends (hten : 9 ≤ t.disp.clean)
    (hu : u = (t.setDisp { t.disp with miss := 0, blank := true, clean := t.disp.clean + 1 }).put Fld.DISP_STATUS__FAULT 0 0) :
    t.frameClean true = ((u.setDisp { u.disp with blank := false, clean := 0 }).dispRecord 2).postDie .f0 0x251 0 0 := by
  subst hu
  have hyes : 10 ≤ t.disp.clean + 1 := by omega
  simp [State.frameClean, hyes]

theorem State.frameMissed_eq {fault : Bool}
    (hu : u = (t.bump Fld.DISP_STATUS__MISMATCHES 0 1).setDisp { t.disp with miss := t.disp.miss + 1, blank := true, clean := 0 }) :
    t.frameMissed fault = if fault = true then u else if t.disp.miss < 2 then u.dispMirror.writeFrame else
      (((u.put Fld.DISP_STATUS__FAULT 0 1).dispRecord 1).postDie .f0 0x250 2
        (((u.put Fld.DISP_STATUS__FAULT 0 1).dispRecord 1).get Fld.DISP_STATUS__MISMATCHES 0)).dispMirror.writeFrame := by
  subst hu
  have hthird : t.disp.miss + 1 < 3 ↔ t.disp.miss < 2 := by omega
  simp only [State.frameMissed, State.setDisp_disp, hthird]

end

/-! ### Scrolling and the values of F1 (R463, R469 to R471) -/

section
variable {s : State}

theorem exec_displayFaultRewrite_idle (h : s.firnLive .f0 = false ∨ s.flag Fld.DISP_STATUS__FAULT 0 = false) :
    exec .displayFaultRewrite s = .next s :=
  congrArg Host.Outcome.next (if_neg (by rcases h with h | h <;> simp [h]))

theorem exec_displayFaultRewrite_rewrites (hlive : s.firnLive .f0 = true) (hfault : s.flag Fld.DISP_STATUS__FAULT 0 = true) :
    exec .displayFaultRewrite s = .next s.writeFrame :=
  congrArg Host.Outcome.next (if_pos (by simp [hlive, hfault]))

section
variable (hlive : s.firnLive .f0 = true) (hauto : s.flag Fld.DISP_STATUS__MANUAL 0 = false)
include hlive hauto

theorem exec_scrollDwellExpiry_error (hmore : s.disp.err < s.dispErrors.length) :
    exec .scrollDwellExpiry s = .next (s.setDisp { s.disp with err := s.disp.err + 1 }) :=
  (if_neg (by simp [hlive, hauto])).trans (if_pos hmore)

theorem exec_scrollDwellExpiry_item (hdone : s.dispErrors.length ≤ s.disp.err) : exec .scrollDwellExpiry s = .next s.nextItem :=
  (if_neg (by simp [hlive, hauto])).trans (if_neg (Nat.not_lt.2 hdone))

end

theorem exec_scrollDwellExpiry_idle (h : s.firnLive .f0 = false ∨ s.flag Fld.DISP_STATUS__MANUAL 0 = true) :
    exec .scrollDwellExpiry s = .next s :=
  if_pos (by rcases h with h | h <;> simp [h])

theorem exec_f1DisplayValues_takes (ok : Bool) (vals : List (Nat × Nat)) (hlive : s.firnLive .f0 = true)
    (hf1 : s.variant.hasF1 = true) (hrun : s.dieRuns .cdie = true) (hlink : s.linkUp Firn.f0.link = true)
    (hlink1 : s.linkUp Firn.f1.link = true) : exec (.f1DisplayValues ok vals) s =
      .next (s.setDisp { s.disp with vals := if ok then some vals else none }).dispMirror :=
  congrArg Host.Outcome.next (if_neg (by simp [hlive, hf1, hrun, hlink, hlink1]))

theorem exec_f1DisplayValues_idle (ok : Bool) (vals : List (Nat × Nat)) (h : s.firnLive .f0 = false ∨ s.variant.hasF1 = false ∨
    s.dieRuns .cdie = false ∨ s.linkUp Firn.f0.link = false ∨ s.linkUp Firn.f1.link = false) :
    exec (.f1DisplayValues ok vals) s = .next s :=
  congrArg Host.Outcome.next (if_pos (by simpa [or_assoc] using h))

theorem exec_f1ValuesStale_clears (hlive : s.firnLive .f0 = true) :
    exec .f1ValuesStale s = .next (s.setDisp { s.disp with vals := none }).dispMirror :=
  congrArg Host.Outcome.next (if_neg (by simp [hlive]))

theorem exec_f1ValuesStale_idle (hoff : s.firnLive .f0 = false) : exec .f1ValuesStale s = .next s :=
  congrArg Host.Outcome.next (if_pos (by simp [hoff]))

end

/-- Settles O31: a frame is clean or missed, each with what its count makes of it; every other command has one condition. -/
theorem displayCommands : Obligations.DisplayCommands := by
  refine ⟨fun s t upset f hlive hf ht hcrc hfault => ?fine, fun s t upset f hlive hf ht hcrc hfault hfew => ?faulty,
    fun s t u upset f hlive hf ht hcrc hfault hten hu => ?ends, fun s t u upset f hlive hf ht hcrc hfresh hu => ?missed,
    fun _ _ hoff => if_pos (by simp [hoff]), fun _ => exec_displayFaultRewrite_rewrites, fun _ => exec_displayFaultRewrite_idle,
    fun _ => exec_scrollDwellExpiry_error, fun _ => exec_scrollDwellExpiry_item, fun _ => exec_scrollDwellExpiry_idle,
    fun _ hin => congrArg Host.Outcome.next (if_pos hin), fun _ hin => congrArg Host.Outcome.next (if_neg (ne_true_of_eq_false hin)),
    fun _ hin => congrArg Host.Outcome.next (if_pos hin), fun _ hin => congrArg Host.Outcome.next (if_neg (ne_true_of_eq_false hin)),
    fun _ => rfl, fun _ hlive => congrArg Host.Outcome.next (if_pos hlive),
    fun _ hoff => congrArg Host.Outcome.next (if_neg (ne_true_of_eq_false hoff)), fun _ ok vals => exec_f1DisplayValues_takes ok vals,
    fun _ ok vals => exec_f1DisplayValues_idle ok vals, fun _ => exec_f1ValuesStale_clears, fun _ => exec_f1ValuesStale_idle⟩
  case fine => rw [exec_displayFrameEnd_clean hlive hf ht hcrc, hfault, State.frameClean_fine]
  case faulty =>
    have hclean : t.disp.clean = s.disp.clean := by rw [ht]; rfl
    rw [exec_displayFrameEnd_clean hlive hf ht hcrc, hfault, State.frameClean_faulty (by rwa [hclean]), hclean]
  case ends =>
    have hclean : t.disp.clean = s.disp.clean := by rw [ht]; rfl
    rw [← hclean] at hten hu
    rw [exec_displayFrameEnd_clean hlive hf ht hcrc, hfault, State.frameClean_ends hten hu]
  case missed =>
    have hmiss : t.disp.miss = s.disp.miss := by rw [ht]; rfl
    rw [← hmiss] at hu
    rw [exec_displayFrameEnd_missed hlive hf ht hcrc hfresh, State.frameMissed_eq hu, hmiss]

/-! ### Requests (R461, R468, R479, R480) -/

section
variable {s : State} {c : Chan} {d : Firn}

section
variable (h : s.takes c 0x0110 d = true)
include h

theorem exec_dispMap_f1 (hd : d = .f1) : exec (.dispMap c) s = .next ((s.clearDb c 1).replyReq c (s.chan c).seq 0x0110 stBad []) :=
  State.request_runs rfl h (if_pos hd)

section
variable (hd : d = .f0)
include hd

theorem exec_dispMap_mapped (hmapped : (s.clearDb c 1).flag Fld.DISP_STATUS__MAPPED 0 = true) :
    exec (.dispMap c) s = .next ((s.clearDb c 1).replyReq c (s.chan c).seq 0x0110 stCapacity []) :=
  State.request_runs rfl h ((if_neg (by simp [hd])).trans (if_pos hmapped))

section
variable (hnew : (s.clearDb c 1).flag Fld.DISP_STATUS__MAPPED 0 = false)
include hnew

theorem exec_dispMap_sealed (hseal : (s.clearDb c 1).sealed .f0 = true) :
    exec (.dispMap c) s = .next ((s.clearDb c 1).replyReq c (s.chan c).seq 0x0110 stSealLocked []) :=
  State.request_runs rfl h ((if_neg (by simp [hd])).trans ((if_neg (ne_true_of_eq_false hnew)).trans (if_pos hseal)))

theorem exec_dispMap_maps {u : State} (hseal : (s.clearDb c 1).sealed .f0 = false) (hok : mapOk (s.reqBytes c) = true)
    (hu : u = (((((((s.clearDb c 1).put Fld.DISP_CFG__COMS 0 (field (s.reqBytes c) 4 1)).put Fld.DISP_CFG__BIAS 0
      (field (s.reqBytes c) 5 1)).put Fld.DISP_CFG__INVERSION 0 (field (s.reqBytes c) 6 1)).put Fld.DISP_CFG__FRAME 0
      (field (s.reqBytes c) 7 1)).put Fld.DISP_CFG__VLCD 0 (field (s.reqBytes c) 8 1)).put Fld.DISP_CFG__VLCD_TC 0
      (field (s.reqBytes c) 9 1))) : exec (.dispMap c) s =
      .next ((((u.put Fld.DISP_STATUS__MAPPED 0 1).setDisp { u.disp with map := mapElements (s.reqBytes c) }).dispRecord 3).replyReq
        c (s.chan c).seq 0x0110 stDone []) := by
  subst hu
  exact State.request_runs rfl h ((if_neg (by simp [hd])).trans ((if_neg (ne_true_of_eq_false hnew)).trans
    ((if_neg (ne_true_of_eq_false hseal)).trans (if_neg (by simp [hok])))))

end

end

end

/-- The items of a part of DISP_SCROLL (R468). -/
def scrollItems (b : List Byte) : List (List Byte) := (upTo (field b 7 1)).map fun k => (b.drop (16 + 6 * k)).take 6

section
variable (h : s.takes c 0x0111 d = true) (hd : d = .f0)
include h hd

theorem exec_dispScroll_long (hlong : 40 < field (s.reqBytes c) 7 1) : exec (.dispScroll c) s =
    .next (((s.clearDb c 1).setDisp { (s.clearDb c 1).disp with staged := [] }).replyReq c (s.chan c).seq 0x0111 stBad []) :=
  State.request_runs rfl h ((if_neg (by simp [hd])).trans (if_pos (by simp [Nat.not_le.2 hlong])))

/-- R468: the first part of a list, which does not commit it. -/
theorem exec_dispScroll_stages (hdwell : 1 ≤ field (s.reqBytes c) 4 1) (hdwell' : field (s.reqBytes c) 4 1 ≤ 30)
    (hn : 1 ≤ field (s.reqBytes c) 7 1) (hn' : field (s.reqBytes c) 7 1 ≤ 40) (hfirst : field (s.reqBytes c) 6 1 = 0)
    (hempty : (s.clearDb c 1).disp.staged = []) (hmore : field (s.reqBytes c) 8 1 = 0)
    (hitems : (scrollItems (s.reqBytes c)).all (s.clearDb c 1).itemOk = true) : exec (.dispScroll c) s =
      .next (((s.clearDb c 1).setDisp { (s.clearDb c 1).disp with staged := scrollItems (s.reqBytes c) }).replyReq
        c (s.chan c).seq 0x0111 stDone []) := by
  have hlimit : field (s.reqBytes c) 7 1 ≤ if (s.clearDb c 1).variant.hasF1 then 123 else 125 := by split <;> omega
  refine State.request_runs rfl h ((if_neg (by simp [hd])).trans ((if_neg ?_).trans ((if_pos hmore).trans ?_)))
  · change ¬ (_ || !(scrollItems (s.reqBytes c)).all (s.clearDb c 1).itemOk) = true
    rw [hitems]
    simp [hdwell, hdwell', hn, hn', hfirst, hmore]
    exact hlimit
  · rw [hempty, List.take_nil, List.drop_nil, List.append_nil, List.nil_append]
    rfl

end

theorem State.firn_morMirror (s : State) (d e : Firn) : (s.morMirror d).firn e = s.firn e := by
  cases e with
  | f0 => rfl
  | f1 => rfl

section
variable (h : s.takes c 0x0112 d = true)
include h

theorem exec_moraineRelease_sealed (hseal : (s.clearDb c 1).sealed d = true) :
    exec (.moraineRelease c) s = .next ((s.clearDb c 1).sealLocked d c (s.chan c).seq 0x0112) :=
  State.request_runs rfl h (if_pos hseal)

section
variable (hseal : (s.clearDb c 1).sealed d = false)
include hseal

theorem exec_moraineRelease_noEntry (hno : ((s.clearDb c 1).firn d).log.any (fun x => x.1 == field (s.reqBytes c) 8 4) = false) :
    exec (.moraineRelease c) s = .next ((s.clearDb c 1).replyReq c (s.chan c).seq 0x0112 stBad []) :=
  State.request_runs rfl h ((if_neg (ne_true_of_eq_false hseal)).trans (by
    rw [hno]
    cases ((s.clearDb c 1).firn d).log.head? <;> rfl))

/-- R479: the log keeps what follows the entry released last. -/
theorem exec_moraineRelease_releases {e : Nat × List Byte} (hfirst : ((s.clearDb c 1).firn d).log.head? = some e)
    (hlast : ((s.clearDb c 1).firn d).log.any (fun x => x.1 == field (s.reqBytes c) 8 4) = true) : ∃ (t : State) (l : List Byte),
      exec (.moraineRelease c) s = .next ((t.moraine d 0x03 0 l).replyReq c (s.chan c).seq 0x0112 stDone []) ∧
        (t.firn d).log = ((s.clearDb c 1).firn d).log.filter fun x => decide (field (s.reqBytes c) 8 4 < x.1) :=
  ⟨_, _, State.request_runs rfl h ((if_neg (ne_true_of_eq_false hseal)).trans (by rw [hfirst, hlast])), by
    rw [State.firn_morMirror, State.firn_setFirn]⟩

end

end

end

section
variable {s : State} {d : Desc} (h : s.accepts 0x42 d = true)
include h

theorem exec_moraineRead_short (hshort : DescF.bufLen d < 32) :
    exec (.moraineRead d) s = .next ((s.taken d).fin ((s.taken d).ticket d) stBad 16) :=
  State.accepted_runs rfl h (if_pos hshort)

/-- R480: the held entries from SEQ on, as many as fit and MAX allows. -/
theorem exec_moraineRead_answers {n : Nat} {dd : Firn} {l : List (Nat × List Byte)} (hbuf : 32 ≤ DescF.bufLen d)
    (hdd : dd = if d.target.toNat = 0 then .f0 else .f1)
    (hn : n = if DescF.par d 4 4 = 0 then DescF.bufLen d / 32 else min (DescF.par d 4 4) (DescF.bufLen d / 32))
    (hl : l = ((s.taken d).firn dd).log.filter (fun e => decide (DescF.par d 0 4 ≤ e.1))) : exec (.moraineRead d) s =
      .next (((s.taken d).writeBuf d ((l.take n).flatMap entryBytes)).fin ((s.taken d).ticket d) stDone
        ((l.take n).length + (match (l.drop n).head? with | some e => e.1 | none => 0) * 2 ^ 32)) := by
  subst hdd hn hl
  exact State.accepted_runs rfl h (if_neg (Nat.not_lt.2 hbuf))

end

/-- Settles O32: each request passes its checks in turn. -/
theorem displayRequests : Obligations.DisplayRequests :=
  ⟨fun _ _ _ => exec_dispMap_f1, fun _ _ _ => exec_dispMap_mapped,
    fun _ _ _ h hd hnew hseal hok => ⟨_, rfl, exec_dispMap_maps h hd hnew hseal hok rfl⟩,
    fun _ _ _ => exec_dispScroll_long, fun _ _ _ h hd hdwell hdwell' hn hn' hfirst hempty hmore =>
      exec_dispScroll_stages h hd hdwell hdwell' hn hn' hfirst hempty hmore,
    fun _ _ _ => exec_moraineRelease_noEntry, fun _ _ _ => exec_dispMap_sealed, fun _ _ _ => exec_moraineRelease_sealed,
    fun _ _ _ _ h hseal => exec_moraineRelease_releases h hseal, fun _ _ => exec_moraineRead_short, fun _ _ _ _ _ h => exec_moraineRead_answers h⟩

end Sys2Proof.Machine
end

section
/-!
PROOFS. High-level communication with the vehicle (R527, R533, R535, R537 to R540, R552) and HLC_CTRL (R547): which branch of its meaning
each command takes.
-/
namespace Sys2Proof.Machine

/-! ### SLAC, SDP and the protocol (R537, R538) -/

section
variable {s : State} {i a : Nat} {tls : Option Bool} {offers : List Nat} {t13 : Bool}

theorem exec_slacMatch_idle (sdp : Bool) (h : s.get Fld.SLICE_HLC__STAGE i ≠ 1 ∨ s.inSession i = false) :
    exec (.slacMatch i a sdp tls offers t13) s = .next s :=
  if_pos (by simpa using h)

section
variable (hstage : s.get Fld.SLICE_HLC__STAGE i = 1) (hin : s.inSession i = true)
include hstage hin

theorem exec_slacMatch_weak (sdp : Bool) (ha : 50 < a) : exec (.slacMatch i a sdp tls offers t13) s = .next (s.slacFail i) :=
  (if_neg (by simp [hstage, hin])).trans (if_pos ha)

section
variable (ha : a ≤ 50)
include ha

theorem exec_slacMatch_noSdp : exec (.slacMatch i a false tls offers t13) s = .next (s.put Fld.SLICE_HLC__STAGE i 2) :=
  (if_neg (by simp [hstage, hin])).trans ((if_neg (Nat.not_lt.2 ha)).trans (if_pos rfl))

theorem exec_slacMatch_noTls : exec (.slacMatch i a true (some false) offers t13) s = .next (s.hlcFail i 3) :=
  (if_neg (by simp [hstage, hin])).trans ((if_neg (Nat.not_lt.2 ha)).trans ((if_neg (by decide)).trans (if_pos rfl)))

section
variable (htls : tls ≠ some false)
include htls

/-- After SDP and TLS, what the agreed protocol makes of the session. -/
theorem exec_slacMatch_agrees {k : Nat} (hk : protoOf (s.scfg i) offers tls.isSome t13 = k) :
    exec (.slacMatch i a true tls offers t13) s = .next (if k = 0 then s.hlcFail i 4
      else (((s.put Fld.SLICE_HLC__STAGE i 4).put Fld.SLICE_HLC__PROTO i k).emit (.hlc i 4 k)).postSlice i
        { code := 0x408, sev := 0, obj := i, data := k }) := by
  refine (if_neg (by simp [hstage, hin])).trans ((if_neg (Nat.not_lt.2 ha)).trans ((if_neg (by decide)).trans ((if_neg htls).trans ?_)))
  simp only [hk]
  cases k with
  | zero => rfl
  | succ n => rfl

theorem exec_slacMatch_noProtocol (hk : protoOf (s.scfg i) offers tls.isSome t13 = 0) :
    exec (.slacMatch i a true tls offers t13) s = .next (s.hlcFail i 4) :=
  exec_slacMatch_agrees hstage hin ha htls hk

theorem exec_slacMatch_protocol {k : Nat} (hk : protoOf (s.scfg i) offers tls.isSome t13 = k) (hsome : k ≠ 0) :
    exec (.slacMatch i a true tls offers t13) s = .next ((((s.put Fld.SLICE_HLC__STAGE i 4).put Fld.SLICE_HLC__PROTO i k).emit
      (.hlc i 4 k)).postSlice i { code := 0x408, sev := 0, obj := i, data := k }) := by
  rw [exec_slacMatch_agrees hstage hin ha htls hk, if_neg hsome]

end

end

end

theorem State.slacFail_eq {t : State}
    (ht : t = (s.put Fld.SLICE_HLC__FAILS i (min 255 (s.get Fld.SLICE_HLC__FAILS i + 1))).put Fld.SLICE_HLC__REASON i 1) :
    s.slacFail i = if s.get Fld.SLICE_HLC__FAILS i < 2 then t.drivePilot i 3 0
      else if (t.scfg i).fallback = true then ((t.setSlice i { t.slice i with basic := true }).put Fld.SLICE_HLC__STAGE i 6).postSlice i
        { code := 0x409, sev := 1, obj := i, data := 1 }
      else t.hlcFail i 1 := by
  subst ht
  have hthird : s.get Fld.SLICE_HLC__FAILS i + 1 < 3 ↔ s.get Fld.SLICE_HLC__FAILS i < 2 := by omega
  simp only [State.slacFail, hthird]

theorem exec_slacTimeout_fails (hstage : s.get Fld.SLICE_HLC__STAGE i = 1) (hin : s.inSession i = true) (hout : (s.slice i).out ≠ 3) :
    exec (.slacTimeout i) s = .next (s.slacFail i) :=
  congrArg Host.Outcome.next (if_pos (by simp [hstage, hin, hout]))

theorem exec_slacTimeout_idle (h : s.get Fld.SLICE_HLC__STAGE i ≠ 1 ∨ s.inSession i = false ∨ (s.slice i).out = 3) :
    exec (.slacTimeout i) s = .next s :=
  congrArg Host.Outcome.next (if_neg (by rcases h with h | h | h <;> simp [h]))

theorem exec_slacRetry_idle (h : (s.slice i).out ≠ 3 ∨ s.inSession i = false) : exec (.slacRetry i) s = .next s :=
  congrArg Host.Outcome.next (if_neg (by rcases h with h | h <;> simp [h]))

theorem exec_slacRetry_retries (hout : (s.slice i).out = 3) (hin : s.inSession i = true) :
    exec (.slacRetry i) s = .next ((s.drivePilot i 1 50).emit (.hlc i 1 0)) :=
  congrArg Host.Outcome.next (if_pos (by simp [hout, hin]))

end

/-! ### Authorization, power delivery and demand (R527, R533, R535, R539) -/

section
variable {s : State} {i nb na : Nat} {e : List Byte}

theorem exec_hlcAuthorization_presents (hhlc : (s.scfg i).hlc = true) (hnb : nb ≤ s.devTime) (hna : s.devTime ≤ na) :
    exec (.hlcAuthorization i e nb na true) s = .next (s.presentCred i 2 (emaidHash e)) :=
  congrArg Host.Outcome.next ((if_neg (by simp [hhlc])).trans (if_pos (by simp [hnb, hna])))

theorem exec_hlcAuthorization_refuses {ok : Bool} (hhlc : (s.scfg i).hlc = true) (h : ok = false ∨ s.devTime < nb ∨ na < s.devTime) :
    exec (.hlcAuthorization i e nb na ok) s =
      .next ((s.put Fld.SLICE_HLC__REASON i 6).postSlice i { code := 0x403, sev := 1, obj := i, data := 5 }) := by
  refine congrArg Host.Outcome.next ((if_neg (by simp [hhlc])).trans (if_neg ?_))
  rcases h with h | h | h
  · simp [h]
  · simp [Nat.not_le.2 h]
  · simp [Nat.not_le.2 h]

theorem exec_hlcAuthorization_noHlc (ok : Bool) (hhlc : (s.scfg i).hlc = false) :
    exec (.hlcAuthorization i e nb na ok) s = .next s :=
  congrArg Host.Outcome.next (if_pos (by simp [hhlc]))

theorem exec_hlcPowerDelivery_idle (b : Bool) (h : s.inSession i = false ∨ s.usesHlc i = false) :
    exec (.hlcPowerDelivery i b) s = .next s :=
  congrArg Host.Outcome.next (if_pos (by simpa using h))

theorem exec_hlcPowerDelivery_takes (b : Bool) (hin : s.inSession i = true) (hhlc : s.usesHlc i = true) :
    exec (.hlcPowerDelivery i b) s =
      .next (if b = true then s.setSlice i { s.slice i with hlcGo := true } else s.stopSlice i 8 7) :=
  congrArg Host.Outcome.next (if_neg (by simp [hin, hhlc]))

theorem exec_hlcCurrentDemand_limits {p u : Nat} {cur : Int} {t : State} (hp : (s.scfg i).point = some p)
    (hin : s.inSession i = true) (hhlc : s.usesHlc i = true) (ht : t = (s.setSlice i { s.slice i with demand := some (u, cur) }).pushOrder
      { src := 8, act := .limit p (if cur < 0 then 4 else 1) (cur.natAbs * 100) }) :
    exec (.hlcCurrentDemand i u cur) s = .next (t.sendLimit i p 5 (t.offered i p)) := by
  subst ht
  change execHlcCurrentDemand i u cur s = _
  unfold execHlcCurrentDemand
  simp only [hp]
  exact if_neg (by simp [hin, hhlc])

theorem exec_hlcCurrentDemand_idle (u : Nat) (cur : Int)
    (h : (s.scfg i).point = none ∨ s.inSession i = false ∨ s.usesHlc i = false) : exec (.hlcCurrentDemand i u cur) s = .next s := by
  change execHlcCurrentDemand i u cur s = _
  unfold execHlcCurrentDemand
  cases hp : (s.scfg i).point with
  | none => rfl
  | some p => exact if_pos (by simpa [hp] using h)

end

/-! ### HLC_CTRL (R547) -/

section
variable {s u : State} {d : Desc} {subop : Nat} {buf : Bool} {x : Instr} {k : Ticket → Nat → State → State}
  (hexec : exec x s = .next (s.hlcCtrl d subop buf k)) (h : s.accepts 0x2A d = true) (hop : field d.param 0 1 = subop)
  (hzero : DescF.parNonZero d 1 = none)
  (hbuf : if buf = true then DescF.bufLen d = 16 else d.bufAddr = 0 ∧ DescF.bufLen d = 0)
include hexec h hop hzero hbuf

/-- A well-formed HLC_CTRL goes on to what the slice says of HLC. -/
theorem State.hlcCtrl_wellFormed (hu : (if (!((s.taken d).scfg d.target.toNat).hlc) = true then
      (s.taken d).fin ((s.taken d).ticket d) stCapacity 2
    else if ((s.taken d).slice d.target.toNat).test.isSome = true then (s.taken d).fin ((s.taken d).ticket d) stCapacity 1
    else k ((s.taken d).ticket d) d.target.toNat (s.taken d)) = u) : exec x s = .next u := by
  refine State.accepted_runs hexec h ((if_neg (by simp [hop])).trans ?_)
  simp only [hzero]
  cases buf with
  | true => exact (if_neg (by simpa using hbuf)).trans ((if_neg (by simp)).trans ((if_neg (by simp)).trans hu))
  | false =>
    obtain ⟨haddr, hlen⟩ := hbuf
    exact (if_neg (by simp)).trans ((if_neg (by simp [haddr])).trans ((if_neg (by simp [hlen])).trans hu))

theorem State.hlcCtrl_noHlc (hhlc : ((s.taken d).scfg d.target.toNat).hlc = false) :
    exec x s = .next ((s.taken d).fin ((s.taken d).ticket d) stCapacity 2) :=
  State.hlcCtrl_wellFormed hexec h hop hzero hbuf (if_pos (by rw [hhlc]; rfl))

theorem State.hlcCtrl_runs (hhlc : ((s.taken d).scfg d.target.toNat).hlc = true)
    (htest : ((s.taken d).slice d.target.toNat).test.isSome = false) (hu : k ((s.taken d).ticket d) d.target.toNat (s.taken d) = u) :
    exec x s = .next u :=
  State.hlcCtrl_wellFormed hexec h hop hzero hbuf
    ((if_neg (by rw [hhlc]; decide)).trans ((if_neg (ne_true_of_eq_false htest)).trans hu))

end

/-- The converter's report (R540). -/
def State.converterShown (s : State) (i : Nat) (b : List Byte) : State :=
  s.setSlice i { s.slice i with conv := some (field b 0 1, field b 4 4, field b 8 4, field b 12 4) }

@[simp] theorem State.scfg_converterShown (s : State) (i j : Nat) (b : List Byte) : (s.converterShown i b).scfg j = s.scfg j := rfl

section
variable {s : State} {d : Desc}

section
variable {b : List Byte} {t : State} (h : s.accepts 0x2A d = true) (hop : field d.param 0 1 = 1)
  (hzero : DescF.parNonZero d 1 = none) (hbuf : DescF.bufLen d = 16) (hhlc : ((s.taken d).scfg d.target.toNat).hlc = true)
  (htest : ((s.taken d).slice d.target.toNat).test.isSome = false) (ht : t = (s.taken d).converterShown d.target.toNat b)
include h hop hzero hbuf hhlc htest ht

/-- R540: a report is kept, and one of a fault stops a DC session. -/
theorem exec_converterStatus_reports : exec (.converterStatus d (.data b)) s =
    .next ((if (bitAt (field b 0 1) 1 && decide (((s.taken d).scfg d.target.toNat).kind = 3)) = true then
      t.stopSlice d.target.toNat srcFirmware 7 else t).fin ((s.taken d).ticket d) stDone 0) := by
  rw [← State.scfg_converterShown (b := b) (i := d.target.toNat), ← ht]
  subst ht
  exact State.hlcCtrl_runs rfl h hop hzero hbuf hhlc htest rfl

theorem exec_converterStatus_dc (hkind : ((s.taken d).scfg d.target.toNat).kind = 3) : exec (.converterStatus d (.data b)) s =
    .next ((if bitAt (field b 0 1) 1 = true then t.stopSlice d.target.toNat srcFirmware 7 else t).fin
      ((s.taken d).ticket d) stDone 0) := by
  rw [exec_converterStatus_reports h hop hzero hbuf hhlc htest ht, hkind, decide_eq_true rfl, Bool.and_true]

theorem exec_converterStatus_other (hkind : ((s.taken d).scfg d.target.toNat).kind ≠ 3) :
    exec (.converterStatus d (.data b)) s = .next (t.fin ((s.taken d).ticket d) stDone 0) := by
  rw [exec_converterStatus_reports h hop hzero hbuf hhlc htest ht, if_neg (by simp [hkind])]

end

section
variable {t : State} (h : s.accepts 0x2A d = true) (hop : field d.param 0 1 = 3) (hzero : DescF.parNonZero d 1 = none)
  (haddr : d.bufAddr = 0) (hlen : DescF.bufLen d = 0) (hhlc : ((s.taken d).scfg d.target.toNat).hlc = true)
  (htest : ((s.taken d).slice d.target.toNat).test.isSome = false)
include h hop hzero haddr hlen hhlc htest

theorem exec_modemReset_refused (hst : (s.taken d).session d.target.toNat = ssEnergised) :
    exec (.modemReset d) s = .next ((s.taken d).fin ((s.taken d).ticket d) stCapacity 1) :=
  State.hlcCtrl_runs rfl h hop hzero ⟨haddr, hlen⟩ hhlc htest (if_pos hst)

theorem exec_modemReset_resets (hst : (s.taken d).session d.target.toNat ≠ ssEnergised)
    (ht : t = ((s.taken d).emit (.hlc d.target.toNat 6 0)).put Fld.SLICE_HLC__STAGE d.target.toNat
      (if (s.taken d).session d.target.toNat = ssOffered then 1 else 0)) : exec (.modemReset d) s =
      .next (((t.setSlice d.target.toNat { t.slice d.target.toNat with basic := false }).put Fld.SLICE_HLC__PROTO d.target.toNat 0).fin
        ((s.taken d).ticket d) stDone 0) := by
  subst ht
  exact State.hlcCtrl_runs rfl h hop hzero ⟨haddr, hlen⟩ hhlc htest (if_neg hst)

end

/-! ### A stale converter (R540) -/

variable {i : Nat}

theorem exec_converterStale_stops (hkind : (s.scfg i).kind = 3) (hin : s.inSession i = true)
    (h : s.session i ≠ ssOffered ∨ (s.slice i).conv.any (fun c => bitAt c.1 0) = false) : exec (.converterStale i) s =
      .next ((s.postSlice i { code := 0x40C, sev := 1, obj := i, data := if s.session i = ssOffered then 1 else 2 }).stopSlice i
        srcFirmware 7) :=
  (if_neg (by simp [hkind, hin])).trans (if_neg (by rcases h with h | h <;> simp [h]))

theorem exec_converterStale_idle (h : (s.scfg i).kind ≠ 3 ∨ s.inSession i = false ∨
    (s.session i = ssOffered ∧ (s.slice i).conv.any (fun c => bitAt c.1 0) = true)) : exec (.converterStale i) s = .next s := by
  by_cases hidle : (s.scfg i).kind ≠ 3 ∨ s.inSession i = false
  · exact if_pos (by simpa using hidle)
  · obtain ⟨hkind, hin⟩ := not_or.1 hidle
    obtain ⟨hst, hready⟩ := (h.resolve_left hkind).resolve_left hin
    exact (if_neg (by simpa using hidle)).trans (if_pos (by rw [hready]; simp [hst]))

end

/-- Settles O42: each clause is the branch above that its hypotheses select. -/
theorem highLevelCommunication : Obligations.HighLevelCommunication :=
  ⟨fun _ _ _ _ _ _ _ hstage hin ha htls hk => exec_slacMatch_protocol hstage hin ha htls hk,
    fun _ _ _ _ _ _ => exec_slacMatch_noSdp, fun _ _ _ _ _ => exec_slacMatch_noTls,
    fun _ _ _ sdp _ _ _ => exec_slacMatch_idle sdp, fun _ _ _ sdp _ _ _ hstage hin => exec_slacMatch_weak hstage hin sdp,
    fun _ _ _ => State.slacFail_eq, fun _ _ _ _ _ _ => exec_slacMatch_noProtocol, fun _ _ => exec_slacTimeout_fails,
    fun _ _ => exec_slacTimeout_idle, fun _ _ => exec_slacRetry_idle, fun _ _ => exec_slacRetry_retries,
    fun _ _ _ _ _ => exec_hlcAuthorization_presents, fun _ _ _ _ _ _ => exec_hlcAuthorization_refuses,
    fun _ _ _ _ _ ok => exec_hlcAuthorization_noHlc ok, fun _ _ => rfl, fun _ _ => rfl,
    fun _ _ => exec_hlcPowerDelivery_takes true, fun _ _ => exec_hlcPowerDelivery_takes false,
    fun _ _ b => exec_hlcPowerDelivery_idle b,
    fun _ _ _ _ _ hp hin hhlc => ⟨_, rfl, exec_hlcCurrentDemand_limits hp hin hhlc rfl⟩,
    fun _ _ u cur => exec_hlcCurrentDemand_idle u cur,
    fun _ _ _ _ h hop hzero hbuf hhlc hkind htest ht => exec_converterStatus_dc h hop hzero hbuf hhlc htest ht hkind,
    fun _ _ _ h hop hzero hbuf hhlc hkind htest => exec_converterStatus_other h hop hzero hbuf hhlc htest rfl hkind,
    fun _ _ h hop hzero haddr hlen hhlc htest => State.hlcCtrl_runs rfl h hop hzero ⟨haddr, hlen⟩ hhlc htest rfl,
    fun _ _ h hop hzero haddr hlen => State.hlcCtrl_noHlc rfl h hop hzero ⟨haddr, hlen⟩,
    fun _ _ => exec_modemReset_refused, fun _ _ _ => exec_modemReset_resets, fun _ _ => exec_converterStale_stops,
    fun _ _ => exec_converterStale_idle⟩

end Sys2Proof.Machine
end

section
/-!
PROOFS. The governor: a budget that the boundary takes (R579), DEFER_MAX (R574) and ramps (R577).
-/
namespace Sys2Proof.Machine

section
variable {s : State}

/-- R579: the boundary takes a site budget that waits. -/
theorem State.takeBudgets_site {v : W32} (h : s.gov.budgets = [(none, v.toNat)]) :
    s.takeBudgets = (s.setGov { s.gov with budgets := [] }).put Fld.GOV_SITE_BUDGET__BUDGET 0 v.toNat := by
  rw [State.takeBudgets, h]
  rfl

theorem State.takeBudgets_site_shows {v : W32} (h : s.gov.budgets = [(none, v.toNat)]) :
    s.takeBudgets.get Fld.GOV_SITE_BUDGET__BUDGET 0 = v.toNat ∧ s.takeBudgets.gov.budgets = [] := by
  rw [State.takeBudgets_site h]
  exact ⟨(State.get_put_same _ 0 _ (by decide)).trans (Nat.mod_eq_of_lt v.isLt), rfl⟩

section
variable {e : QEntry} (hover : s.gov.queue.filter (·.overdue) = [e])
include hover

theorem State.deferOver_start {p : Nat} {x : StartSt} (hobj : e.obj = .start p)
    (hx : s.starts.find? (fun x => x.point == p && x.phase == 1) = some x) : s.deferOver = s.dropStart x stCapacity 0x10 0 := by
  rw [State.deferOver, hover, List.foldl_cons, List.foldl_nil]
  simp only [hobj, hx]

theorem State.deferOver_on {n : Nat} (hobj : e.obj = .on n) : s.deferOver = s.onOutcome n stCapacity 0x10 0 := by
  rw [State.deferOver, hover, List.foldl_cons, List.foldl_nil]
  simp only [hobj]

theorem State.deferOver_restart {n w : Nat} (hobj : e.obj = .restart n w) : s.deferOver = s.dropRestart n := by
  rw [State.deferOver, hover, List.foldl_cons, List.foldl_nil]
  simp only [hobj]

end

theorem exec_rampStep_noSlice {p : Nat} (hp : s.sliceOf p = none) : exec (.rampStep p) s = .next s := by
  change execRampStep p s = _
  simp only [execRampStep, hp]

section
variable {p i : Nat} (hp : s.sliceOf p = some i)
include hp

theorem exec_rampStep_counts (hst : s.session i = ssEnergised) (hshed : s.gov.shed.contains p = false)
    (hramp : tabGet 0 s.gov.ramp p * 100 < s.get Fld.GOV_RAMP__RAMP_MS (s.groupOf p)) : exec (.rampStep p) s =
      .next (s.setGov { s.gov with ramp := tabSet s.gov.ramp p (tabGet 0 s.gov.ramp p + 1) }) := by
  change execRampStep p s = _
  simp only [execRampStep, hp]
  exact congrArg Host.Outcome.next (if_pos (by rw [hshed]; simp [hst, hramp]))

theorem exec_rampStep_idle (h : s.session i ≠ ssEnergised ∨ s.gov.shed.contains p = true ∨
    s.get Fld.GOV_RAMP__RAMP_MS (s.groupOf p) ≤ tabGet 0 s.gov.ramp p * 100) : exec (.rampStep p) s = .next s := by
  change execRampStep p s = _
  simp only [execRampStep, hp]
  refine congrArg Host.Outcome.next (if_neg ?_)
  rcases h with h | h | h
  · simp [h]
  · rw [h]; simp
  · simp [Nat.not_lt.2 h]

end

end

/-- Settles O44: the writes are the meanings of their commands; a boundary takes one budget or drops one entry. -/
theorem governorCommands : Obligations.GovernorCommands :=
  ⟨fun _ _ => rfl, fun _ _ _ => rfl, fun _ _ => rfl, fun _ _ => State.takeBudgets_site_shows, fun _ _ => rfl,
    fun _ _ _ _ h => State.deferOver_start h, fun _ _ _ h => State.deferOver_on h, fun _ _ _ _ h => State.deferOver_restart h,
    fun _ _ _ hp => exec_rampStep_counts hp, fun _ _ _ hp => exec_rampStep_idle hp, fun _ _ => exec_rampStep_noSlice⟩

end Sys2Proof.Machine
end

section
/-!
PROOFS. Requests to Serac over a port (R610 to R617): who may ask, and which branch of its meaning each request takes.
-/
namespace Sys2Proof.Machine

/-! ### Taking a request (R612, R613) -/

/-- The bytes of the request in a port's channel to Serac, and the state once Serac has taken it. -/
abbrev State.seracBytes (s : State) (p : Port) : List Byte := s.reqBytes (.hostSerac p)
abbrev State.seracTaken (s : State) (p : Port) : State := s.clearDb (.hostSerac p) 1

/-- Serac's reply to the request taken, with nothing after its reason. -/
abbrev State.seracAnswers (s : State) (p : Port) (typ status reason : Nat) : State :=
  (s.seracTaken p).seracReply p (s.chan (.hostSerac p)).seq typ status reason []

section
variable {s u : State} {p : Port} {typ : Nat} {x : Instr} {k : Nat → List Byte → State → State}

theorem State.seracReq_runs (hexec : exec x s = .next (s.seracReq p typ k)) (h : s.seracTakes p typ = true)
    (hu : k (s.chan (.hostSerac p)).seq (s.seracBytes p) (s.seracTaken p) = u) : exec x s = .next u := by
  rw [hexec, State.seracReq_takes k h, hu]

section
variable {ranges : List Byte → List (Nat × Nat)} {bad : List Byte → Bool}
  (hexec : exec x s = .next (s.sessionReq p typ ranges bad k)) (h : s.seracTakes p typ = true)
include hexec h

theorem State.sessionReq_malformed
    (hbad : (bad (s.seracBytes p) || !zeroOutside (s.seracBytes p) ([(0, 3)] ++ ranges (s.seracBytes p))) = true) :
    exec x s = .next (s.seracAnswers p typ stBad 0) :=
  State.seracReq_runs hexec h (if_pos hbad)

section
variable (hgood : (bad (s.seracBytes p) || !zeroOutside (s.seracBytes p) ([(0, 3)] ++ ranges (s.seracBytes p))) = false)
include hgood

theorem State.sessionReq_noSession (hsession : (s.seracTaken p).serac.session ≠ some p) :
    exec x s = .next (s.seracAnswers p typ stCapacity 3) :=
  State.seracReq_runs hexec h ((if_neg (ne_true_of_eq_false hgood)).trans (if_pos hsession))

theorem State.sessionReq_runs (hsession : (s.seracTaken p).serac.session = some p)
    (hu : k (s.chan (.hostSerac p)).seq (s.seracBytes p) (s.seracTaken p) = u) : exec x s = .next u :=
  State.seracReq_runs hexec h ((if_neg (ne_true_of_eq_false hgood)).trans ((if_neg (not_not_intro hsession)).trans hu))

end

end

end

/-- A request whose length is right has a zero byte wherever it holds none of its ranges. -/
theorem goodRequest {bad zero : Bool} (hbad : bad = false) (hzero : zero = true) : (bad || !zero) = false := by
  rw [hbad, hzero]
  rfl

/-! ### LOGIN (R612 to R614) -/

/-- R614: the password of `n` bytes in a request is the one that is set, or none where none is set. -/
def passwordOk (pw : Option (List Byte × Nat)) (n : Nat) (b : List Byte) : Bool :=
  match pw with
  | none => n == 0
  | some (salt, h) => Config.digest 1 ((salt ++ (b.drop 8).take n).map (·.toNat)) == h

/-- The outcome of a LOGIN that no rule refuses. -/
def State.loginOpens (t : State) (p : Port) : State :=
  let u := if t.serac.session = some p then t else t.setSerac { t.serac with session := some p, staged := none }
  (u.setSerac { u.serac with fails := 0 }).seracNote 0x01 p.num 0 0

/-- A wrong password counts, is logged and posted; the fifth locks out. -/
def State.loginFails (t : State) (p : Port) (f : Nat) : State :=
  let u := ((t.setSerac { t.serac with fails := f }).seracNote 0x02 p.num 0 f).seracPost 0x609 1 p.num f
  if f < 5 then u else ((u.setSerac { u.serac with lockout := true }).seracNote 0x03 p.num 0 0).seracPost 0x609 1 p.num f

section
variable {s : State} {p : Port} (h : s.seracTakes p 0x301 = true) (hn : field (s.seracBytes p) 4 1 ≤ 32)
  (hzero : zeroOutside (s.seracBytes p) [(0, 4), (8, 39)] = true)
include h hn hzero

theorem exec_login_lockout (hlock : (s.seracTaken p).serac.lockout = true) :
    exec (.login p) s = .next (s.seracAnswers p 0x301 stCapacity 2) :=
  State.seracReq_runs rfl h ((if_neg (by simp [hn, hzero])).trans (if_pos hlock))

section
variable (hlock : (s.seracTaken p).serac.lockout = false)
include hlock

theorem exec_login_taken (hother : (s.seracTaken p).serac.session = some p.other) :
    exec (.login p) s = .next (s.seracAnswers p 0x301 stCapacity 1) :=
  State.seracReq_runs rfl h ((if_neg (by simp [hn, hzero])).trans ((if_neg (ne_true_of_eq_false hlock)).trans (if_pos hother)))

section
variable (hfree : (s.seracTaken p).serac.session ≠ some p.other)
include hfree

theorem exec_login_opens (hok : passwordOk (s.seracTaken p).serac.pw (field (s.seracBytes p) 4 1) (s.seracBytes p) = true) :
    exec (.login p) s =
      .next (((s.seracTaken p).loginOpens p).seracReply p (s.chan (.hostSerac p)).seq 0x301 stDone 0 []) :=
  State.seracReq_runs rfl h ((if_neg (by simp [hn, hzero])).trans ((if_neg (ne_true_of_eq_false hlock)).trans
    ((if_neg hfree).trans (if_pos hok))))

theorem exec_login_fails (hno : passwordOk (s.seracTaken p).serac.pw (field (s.seracBytes p) 4 1) (s.seracBytes p) = false) :
    exec (.login p) s = .next (((s.seracTaken p).loginFails p ((s.seracTaken p).serac.fails + 1)).seracReply p
      (s.chan (.hostSerac p)).seq 0x301 stProtection 1 []) :=
  State.seracReq_runs rfl h ((if_neg (by simp [hn, hzero])).trans ((if_neg (ne_true_of_eq_false hlock)).trans
    ((if_neg hfree).trans (if_neg (ne_true_of_eq_false hno)))))

end

end

end

/-! ### CONFIG_READ, CONFIG_STAGE and CONFIG_COMMIT (R611, R613, R615) -/

/-- A configuration with the bytes of a CONFIG_STAGE in it. -/
def stagedBytes (l b : List Byte) : List Byte :=
  l.take (field b 4 2) ++ (b.drop 16).take (field b 6 2) ++ l.drop (field b 4 2 + field b 6 2)

/-- Nothing remains staged. -/
abbrev State.unstaged (t : State) : State := t.setSerac { t.serac with staged := none }

section
variable {s : State} {p : Port}

theorem exec_configRead_bad (h : s.seracTakes p 0x303 = true) (hspan : spanBad (s.seracBytes p) = true) :
    exec (.configRead p) s = .next (s.seracAnswers p 0x303 stBad 0) :=
  State.seracReq_runs rfl h (if_pos (by simp [hspan]))

theorem exec_configRead_gives (h : s.seracTakes p 0x303 = true) (hspan : spanBad (s.seracBytes p) = false)
    (hzero : zeroOutside (s.seracBytes p) [(0, 8)] = true) (hforce : field (s.seracBytes p) 8 1 = 0) : exec (.configRead p) s =
      .next ((s.seracTaken p).seracReply p (s.chan (.hostSerac p)).seq 0x303 stDone 0 (List.replicate 8 0 ++
        ((s.seracTaken p).serac.cfg.drop (field (s.seracBytes p) 4 2)).take (field (s.seracBytes p) 6 2))) :=
  State.seracReq_runs rfl h ((if_neg (by simp [hspan, hzero, hforce])).trans (if_pos hforce))

theorem exec_configStage_stages (h : s.seracTakes p 0x304 = true) (hspan : spanBad (s.seracBytes p) = false)
    (hzero : zeroOutside (s.seracBytes p) ([(0, 3)] ++ [(4, 7), (16, 15 + field (s.seracBytes p) 6 2)]) = true)
    (hsession : (s.seracTaken p).serac.session = some p) {l : List Byte}
    (hl : l = (s.seracTaken p).serac.staged.getD (s.seracTaken p).serac.cfg) : exec (.configStage p) s =
      .next (((s.seracTaken p).setSerac { (s.seracTaken p).serac with staged := some (stagedBytes l (s.seracBytes p)) }).seracReply
        p (s.chan (.hostSerac p)).seq 0x304 stDone 0 []) := by
  subst hl
  exact State.sessionReq_runs rfl h (goodRequest hspan hzero) hsession rfl

section
variable {c : List Byte} (h : s.seracTakes p 0x305 = true) (hzero : zeroOutside (s.seracBytes p) ([(0, 3)] ++ []) = true)
  (hsession : (s.seracTaken p).serac.session = some p) (hc : c = (s.seracTaken p).serac.staged.getD (s.seracTaken p).serac.cfg)
include h hzero hsession hc

theorem exec_configCommit_on
    (hon : (serSwitches (s.seracTaken p).serac.cfg ++ serSwitches c).any (s.seracTaken p).unstaged.swOn = true) :
    exec (.configCommit p) s =
      .next ((s.seracTaken p).unstaged.seracReply p (s.chan (.hostSerac p)).seq 0x305 stCapacity 4 []) := by
  subst hc
  exact State.sessionReq_runs rfl h (goodRequest rfl hzero) hsession (if_pos hon)

section
variable (hoff : (serSwitches (s.seracTaken p).serac.cfg ++ serSwitches c).any (s.seracTaken p).unstaged.swOn = false)
include hoff

theorem exec_configCommit_noPassword (hpw : (s.seracTaken p).serac.pw = none) : exec (.configCommit p) s =
    .next ((s.seracTaken p).unstaged.seracReply p (s.chan (.hostSerac p)).seq 0x305 stCapacity 5 []) := by
  subst hc
  exact State.sessionReq_runs rfl h (goodRequest rfl hzero) hsession ((if_neg (ne_true_of_eq_false hoff)).trans
    (if_pos (by rw [hpw]; rfl)))

section
variable (hpw : (s.seracTaken p).serac.pw.isNone = false)
include hpw

theorem exec_configCommit_logFull (hfull : (s.seracTaken p).unstaged.logFull = true) : exec (.configCommit p) s =
    .next ((s.seracTaken p).unstaged.seracReply p (s.chan (.hostSerac p)).seq 0x305 stCapacity 6 []) := by
  subst hc
  exact State.sessionReq_runs rfl h (goodRequest rfl hzero) hsession ((if_neg (ne_true_of_eq_false hoff)).trans
    ((if_neg (ne_true_of_eq_false hpw)).trans (if_pos hfull)))

section
variable (hroom : (s.seracTaken p).unstaged.logFull = false)
include hroom

theorem exec_configCommit_badTable {o : Nat} (hbad : configBad c = some o) : exec (.configCommit p) s =
    .next ((s.seracTaken p).unstaged.seracReply p (s.chan (.hostSerac p)).seq 0x305 stImage 0 (leBytes 2 o)) := by
  subst hc
  refine State.sessionReq_runs rfl h (goodRequest rfl hzero) hsession ((if_neg (ne_true_of_eq_false hoff)).trans
    ((if_neg (ne_true_of_eq_false hpw)).trans ((if_neg (ne_true_of_eq_false hroom)).trans ?_)))
  rw [hbad]

/-- R613, R615: a good table is in force at once, or at the next start where the image differs. -/
theorem exec_configCommit_takes {a b e : State} (hgood : configBad c = none)
    (ha : a = (s.seracTaken p).unstaged.seracChange p 0x04 (b2n (decide (field c 8 32 ≠ (s.seracTaken p).serac.img)))
      (s.seracTaken p).serac.cfg c)
    (hb : b = if field c 8 32 ≠ (s.seracTaken p).serac.img then a.setSerac { a.serac with pend := some c }
      else a.setSerac { a.serac with cfg := c })
    (he : e = ((b.seracReply p (s.chan (.hostSerac p)).seq 0x305 stDone 0 (leBytes 4 b.serac.lseq ++ leBytes 4 (configHash c) ++
      [BitVec.ofNat 8 (b2n (decide (field c 8 32 ≠ (s.seracTaken p).serac.img)))])).seracPost 0x608 1 0
        (field c 4 4 % 65536)).closeSession) :
    exec (.configCommit p) s = .next (if field c 8 32 ≠ (s.seracTaken p).serac.img then e else e.seracMismatch.seracOff) := by
  subst hc ha hb he
  refine State.sessionReq_runs rfl h (goodRequest rfl hzero) hsession ((if_neg (ne_true_of_eq_false hoff)).trans
    ((if_neg (ne_true_of_eq_false hpw)).trans ((if_neg (ne_true_of_eq_false hroom)).trans ?_)))
  rw [hgood]

end

end

end

end

end

/-! ### PASSWORD_SET, LOG_READ, LOG_RELEASE and SERAC_RESTART (R610, R612, R614, R617) -/

/-- R614: is the length of a new password out of range? -/
def passwordBad (b : List Byte) : Bool := let n := field b 4 1; decide (n < 8) || decide (32 < n)

section
variable {s u v : State} {p : Port}

section
variable (h : s.seracTakes p 0x306 = true) (hlo : 8 ≤ field (s.seracBytes p) 4 1) (hhi : field (s.seracBytes p) 4 1 ≤ 32)
  (hzero : zeroOutside (s.seracBytes p) ([(0, 3)] ++ [(4, 4), (8, 39)]) = true)
  (hsession : (s.seracTaken p).serac.session = some p)
include h hlo hhi hzero hsession

theorem exec_passwordSet_logFull (hfull : (s.seracTaken p).logFull = true) :
    exec (.passwordSet p) s = .next (s.seracAnswers p 0x306 stCapacity 6) :=
  State.sessionReq_runs (bad := passwordBad) rfl h
    (goodRequest (by simp [passwordBad, Nat.not_lt.2 hlo, Nat.not_lt.2 hhi]) hzero) hsession (if_pos hfull)

/-- R614: a new salt, and the hash of salt and password. -/
theorem exec_passwordSet_sets {w n : Nat} (hroom : (s.seracTaken p).logFull = false) (hw : (w, u) = (s.seracTaken p).drawBelow (2 ^ 128))
    (hn : n = Config.digest 1 ((leBytes 16 w ++ ((s.seracBytes p).drop 8).take (field (s.seracBytes p) 4 1)).map (·.toNat)))
    (hv : v = (u.setSerac { u.serac with pw := some (leBytes 16 w, n) }).seracChange p 0x06 0 u.serac.cfg u.serac.cfg) :
    exec (.passwordSet p) s =
      .next (v.seracReply p (s.chan (.hostSerac p)).seq 0x306 stDone 0 (leBytes 4 v.serac.lseq)) := by
  obtain ⟨rfl, rfl⟩ := Prod.mk.inj hw
  subst hn hv
  exact State.sessionReq_runs (bad := passwordBad) rfl h
    (goodRequest (by simp [passwordBad, Nat.not_lt.2 hlo, Nat.not_lt.2 hhi]) hzero) hsession (if_neg (ne_true_of_eq_false hroom))

end

/-- R612: the entries from SEQ on, seven at a time. -/
theorem exec_logRead_answers {l : List (List Byte)} (h : s.seracTakes p 0x307 = true)
    (hzero : zeroOutside (s.seracBytes p) [(0, 3), (8, 11)] = true)
    (hl : l = (s.seracTaken p).serac.log.filter fun e => decide (field (s.seracBytes p) 8 4 ≤ field e 0 4)) :
    exec (.logRead p) s = .next ((s.seracTaken p).seracReply p (s.chan (.hostSerac p)).seq 0x307 stDone 0
      ([BitVec.ofNat 8 (min 7 l.length), 0, 0, 0] ++ leBytes 4 (match l.drop 7 with | [] => 0 | e :: _ => field e 0 4)
        ++ (l.take 7).flatten)) := by
  subst hl
  exact State.seracReq_runs rfl h (if_neg (by simp [hzero]))

section
variable (h : s.seracTakes p 0x308 = true) (hzero : zeroOutside (s.seracBytes p) ([(0, 3)] ++ [(8, 11)]) = true)
  (hsession : (s.seracTaken p).serac.session = some p)
include h hzero hsession

theorem exec_logRelease_logFull (hfull : (s.seracTaken p).logFull = true) :
    exec (.logRelease p) s = .next (s.seracAnswers p 0x308 stCapacity 6) :=
  State.sessionReq_runs rfl h (goodRequest rfl hzero) hsession (if_pos hfull)

/-- R617: the entries up to a SEQ go, and the release is logged. -/
theorem exec_logRelease_releases (hroom : (s.seracTaken p).logFull = false)
    (hu : u = (s.seracTaken p).setSerac { (s.seracTaken p).serac with
      log := (s.seracTaken p).serac.log.filter (fun e => decide (field (s.seracBytes p) 8 4 < field e 0 4)), fullPosted := false })
    (hv : v = u.seracChange p 0x07 (field (s.seracBytes p) 8 4) u.serac.cfg u.serac.cfg) : exec (.logRelease p) s =
      .next (v.seracReply p (s.chan (.hostSerac p)).seq 0x308 stDone 0 (leBytes 4 v.serac.lseq)) := by
  subst hv hu
  exact State.sessionReq_runs rfl h (goodRequest rfl hzero) hsession (if_neg (ne_true_of_eq_false hroom))

end

section
variable (h : s.seracTakes p 0x309 = true) (hzero : zeroOutside (s.seracBytes p) ([(0, 3)] ++ []) = true)
  (hsession : (s.seracTaken p).serac.session = some p)
include h hzero hsession

theorem exec_seracRestart_stuck (hst : (s.seracTaken p).serac.st = 5) (hstuck : (s.seracTaken p).serac.stuck = true) :
    exec (.seracRestart p) s = .next (s.seracAnswers p 0x309 stCapacity 7) :=
  State.sessionReq_runs rfl h (goodRequest rfl hzero) hsession (if_pos (by rw [hst, hstuck]; rfl))

theorem exec_seracRestart_restarts (hfree : (s.seracTaken p).serac.st ≠ 5 ∨ (s.seracTaken p).serac.stuck = false) :
    exec (.seracRestart p) s = .next (((s.seracTaken p).seracNote 0x08 p.num 0 (s.seracTaken p).serac.st).seracReply p
      (s.chan (.hostSerac p)).seq 0x309 stDone 0 []).seracOff := by
  refine State.sessionReq_runs rfl h (goodRequest rfl hzero) hsession (if_neg ?_)
  rw [Bool.and_eq_true, decide_eq_true_eq, not_and_or, Bool.not_eq_true]
  exact hfree

end

end

/-- A password as it stands after LOGIN's match. -/
theorem passwordOk_eq (pw : Option (List Byte × Nat)) (n : Nat) (b : List Byte) : passwordOk pw n b = (match pw with
    | none => n == 0
    | some x => Config.digest 1 ((x.1 ++ (b.drop 8).take n).map (·.toNat)) == x.2) := by
  cases pw <;> rfl

/-- Settles O48: each request is refused as every request of a session is, or passes its own checks in turn. -/
theorem seracRequests : Obligations.SeracRequests :=
  ⟨fun _ _ => exec_login_taken, fun _ _ => exec_login_lockout,
    fun _ _ _ h hzero hn hlock hfree hok hu => by
      subst hu
      exact exec_login_opens h hn hzero hlock hfree ((passwordOk_eq _ _ _).trans hok),
    fun _ _ _ _ h hzero hn hlock hfree hno hf hu => by
      subst hu hf
      exact exec_login_fails h hn hzero hlock hfree ((passwordOk_eq _ _ _).trans hno),
    fun _ _ h hzero => State.sessionReq_noSession rfl h (goodRequest rfl hzero),
    fun _ _ h hzero hsession => State.sessionReq_runs rfl h (goodRequest rfl hzero) hsession rfl,
    fun _ _ h hbad => State.sessionReq_malformed rfl h hbad, fun _ _ h hgood => State.sessionReq_noSession rfl h hgood,
    fun _ _ h hbad => State.sessionReq_malformed rfl h hbad, fun _ _ h hgood => State.sessionReq_noSession rfl h hgood,
    fun _ _ h hbad => State.sessionReq_malformed rfl h hbad, fun _ _ h hgood => State.sessionReq_noSession rfl h hgood,
    fun _ _ h hbad => State.sessionReq_malformed rfl h hbad, fun _ _ h hgood => State.sessionReq_noSession rfl h hgood,
    fun _ _ => exec_configRead_gives, fun _ _ => exec_configRead_bad,
    fun _ _ h hspan hzero hsession => ⟨_, rfl, exec_configStage_stages h hspan hzero hsession rfl⟩,
    fun _ _ h hzero hsession => exec_configCommit_on h hzero hsession rfl,
    fun _ _ h hzero hsession => exec_configCommit_noPassword h hzero hsession rfl,
    fun _ _ h hzero hsession => exec_configCommit_logFull h hzero hsession rfl,
    fun _ _ _ h hzero hsession hoff hpw hroom => exec_configCommit_badTable h hzero hsession rfl hoff hpw hroom,
    fun _ _ _ _ _ _ h hzero hsession hc hoff hpw hroom =>
      exec_configCommit_takes h hzero hsession hc hoff hpw hroom, fun _ _ => exec_passwordSet_logFull,
    fun _ _ h hlo hhi hzero hsession hroom =>
      ⟨_, _, _, _, rfl, rfl, rfl, exec_passwordSet_sets h hlo hhi hzero hsession hroom rfl rfl rfl⟩,
    fun _ _ _ => exec_logRead_answers, fun _ _ => exec_logRelease_logFull,
    fun _ _ h hzero hsession hroom => ⟨_, _, rfl, rfl, exec_logRelease_releases h hzero hsession hroom rfl rfl⟩,
    fun _ _ => exec_seracRestart_stuck, fun _ _ => exec_seracRestart_restarts⟩

end Sys2Proof.Machine
end

section
/-!
PROOFS. The power line (R626 to R643, R663): crossings, superframes, polled slots, frames received, and repeats.
-/
namespace Sys2Proof.Machine

/-! ### Mains time (R627) -/

/-- The state at a crossing, once KY_STATUS.ZC shows it. -/
abbrev State.kyCrossed (s : State) : State := s.put Fld.KY_STATUS__ZC 0 1

/-- What is known of the mains after a crossing at `t`, `d` after the latest: a regular interval counts among the latest four. -/
abbrev KySt.crossed (k : KySt) (t d : Nat) (regular : Bool) : KySt :=
  { k with zc := some t, ivals := if regular then (d :: k.ivals).take 4 else k.ivals }

theorem exec_kyZeroCrossing_absent {s : State} {t : Nat} (h : (!s.variant.hasKyoti || !s.dieRuns .ddie) = true) :
    exec (.kyZeroCrossing t) s = .next s :=
  if_pos h

section
variable {s : State} {t z : Nat} (hky : s.variant.hasKyoti = true) (hdie : s.dieRuns .ddie = true)
include hky hdie

theorem exec_kyZeroCrossing_first (hz : s.ky.zc = none) :
    exec (.kyZeroCrossing t) s = .next (s.kyCrossed.setKy { s.ky with zc := some t }) := by
  refine (if_neg (by simp [hky, hdie])).trans ?_
  have hz' : s.kyCrossed.ky.zc = none := hz
  simp only [hz']
  rfl

theorem exec_kyZeroCrossing_early (hz : s.ky.zc = some z) (hearly : (t - z) * 10 < s.kyCrossed.kyT * 8) :
    exec (.kyZeroCrossing t) s = .next s.kyCrossed := by
  refine (if_neg (by simp [hky, hdie])).trans ?_
  have hz' : s.kyCrossed.ky.zc = some z := hz
  simp only [hz']
  exact if_pos hearly

/-- A crossing that is not early: with the line good it begins a unit; with crossings lost it counts towards the three regular ones. -/
theorem exec_kyZeroCrossing_counts {regular : Bool} (hz : s.ky.zc = some z) (hlate : s.kyCrossed.kyT * 8 ≤ (t - z) * 10)
    (hr : decide (2 * (t - z) ≤ 3 * s.kyCrossed.kyT) = regular) :
    exec (.kyZeroCrossing t) s = if s.kyCrossed.flag Fld.KY_STATUS__ZC_LOST 0 = true then
      .next (if (if regular then s.ky.regular + 1 else 0) < 3 then
          s.kyCrossed.setKy { s.ky.crossed t (t - z) regular with regular := if regular then s.ky.regular + 1 else 0 }
        else ((s.kyCrossed.setKy { s.ky.crossed t (t - z) regular with
          regular := if regular then s.ky.regular + 1 else 0 }).put Fld.KY_STATUS__ZC_LOST 0 0).kyUnit)
    else .next (s.kyCrossed.setKy (s.ky.crossed t (t - z) regular)).kyUnit := by
  subst hr
  refine (if_neg (by simp [hky, hdie])).trans ?_
  have hz' : s.kyCrossed.ky.zc = some z := hz
  simp only [hz']
  exact if_neg (Nat.not_lt.2 hlate)

section
variable {u : State} (hz : s.ky.zc = some z) (hu : u = s.kyCrossed) (hlate : u.kyT * 8 ≤ (t - z) * 10)
include hz hu hlate

theorem exec_kyZeroCrossing_regular (hreg : 2 * (t - z) ≤ 3 * u.kyT) (hline : u.flag Fld.KY_STATUS__ZC_LOST 0 = false) :
    exec (.kyZeroCrossing t) s = .next (u.setKy { s.ky with zc := some t, ivals := ((t - z) :: s.ky.ivals).take 4 }).kyUnit := by
  subst hu
  rw [exec_kyZeroCrossing_counts hky hdie hz hlate (decide_eq_true hreg), if_neg (ne_true_of_eq_false hline)]
  rfl

theorem exec_kyZeroCrossing_irregular (hirr : 3 * u.kyT < 2 * (t - z)) (hline : u.flag Fld.KY_STATUS__ZC_LOST 0 = false) :
    exec (.kyZeroCrossing t) s = .next (u.setKy { s.ky with zc := some t }).kyUnit := by
  subst hu
  rw [exec_kyZeroCrossing_counts hky hdie hz hlate (decide_eq_false (Nat.not_le.2 hirr)), if_neg (ne_true_of_eq_false hline)]
  rfl

theorem exec_kyZeroCrossing_recovers (hreg : 2 * (t - z) ≤ 3 * u.kyT) (hlost : u.flag Fld.KY_STATUS__ZC_LOST 0 = true) :
    exec (.kyZeroCrossing t) s = .next (if s.ky.regular + 1 < 3 then
        u.setKy { s.ky with zc := some t, ivals := ((t - z) :: s.ky.ivals).take 4, regular := s.ky.regular + 1 }
      else ((u.setKy { s.ky with
        zc := some t, ivals := ((t - z) :: s.ky.ivals).take 4, regular := s.ky.regular + 1 }).put Fld.KY_STATUS__ZC_LOST 0 0).kyUnit) := by
  subst hu
  rw [exec_kyZeroCrossing_counts hky hdie hz hlate (decide_eq_true hreg), if_pos hlost]
  rfl

end

end

section
variable {s u : State}

theorem exec_zcLost_absent (hky : s.variant.hasKyoti = false) : exec .zcLost s = .next s :=
  if_pos (by rw [hky]; rfl)

theorem exec_zcLost_stands (hky : s.variant.hasKyoti = true) (hlost : s.flag Fld.KY_STATUS__ZC_LOST 0 = true) :
    exec .zcLost s = .next s.kyUnit :=
  (if_neg (by simp [hky])).trans (if_pos hlost)

theorem exec_zcLost_begins (hky : s.variant.hasKyoti = true) (hline : s.flag Fld.KY_STATUS__ZC_LOST 0 = false)
    (hu : u = (s.put Fld.KY_STATUS__ZC_LOST 0 1).put Fld.KY_ERR__ZC_LOST 0 1) :
    exec .zcLost s = .next ((u.setKy { u.ky with regular := 0 }).postBoth { code := 0xA09, sev := 1 }).kyUnit := by
  subst hu
  exact (if_neg (by simp [hky])).trans (if_neg (ne_true_of_eq_false hline))

/-! ### Superframes (R634, R635, R663) -/

theorem exec_cellStart_starts {e : Nat} (hst : s.kyState = 1) (he : e = s.devTime / 1000000 % 256)
    (hu : u = ((s.put Fld.KY_STATUS__STATE 0 2).put Fld.KY_STATUS__EPOCH 0 (if e = 0 then 1 else e)).setReg .KY_SF 0 0) :
    exec .cellStart s = .next (u.setKy { s.ky with unit := 0, roundAt := 0, relayAt := [] }) := by
  subst he hu
  exact if_neg (not_not_intro hst)

theorem exec_beaconTransmit_sends (hrun : s.kyRuns = true) (hfault : s.ky.fault = false) (hunit : s.ky.unit = 0)
    (hfits : s.kyFitsNow ((s.ky.layout.takeWhile (· == 0)).length) 120 = true) :
    exec .beaconTransmit s = .next (s.kySendFrame 1 [s.ky.layoutId % 16, s.cfg.ky.device % 256,
      s.cfg.ky.device / 256 % 64 + 64 * b2n (s.flag Fld.KY_STATUS__JOIN_OPEN 0), s.kySf % 256, s.get Fld.KY_STATUS__EPOCH 0, 0, 0, 0]) :=
  if_neg (by simp [hrun, hfault, hunit, hfits])

end

/-! ### Polled slots (R639, R642) -/

section
variable {s : State} {m : KyMsg} {r : List KyMsg}

/-- The kind of the present unit in the layout in force: 1 begins a polled slot. -/
abbrev State.kyUnitKind (s : State) : Nat := (sfUnits s.ky.layout s.cfg.ky.cycle2 (s.kySf % 2 == 1)).getD s.ky.unit 5

/-- A relay whose beacon is due. -/
abbrev State.kyRelayDue (s : State) : Option Nat :=
  (s.kyMembers.filter fun q => decide (0 < s.kyThrough q)).find? fun q => decide (tabGet 0 s.ky.relayAt q + s.cfg.ky.relayInterval ≤ s.kySf)

theorem exec_polledSlot_elsewhere (h : (!s.kyRuns || s.ky.fault || decide (s.kyUnitKind ≠ 1)) = true) :
    exec .polledSlot s = .next s :=
  if_pos h

section
variable (hrun : s.kyRuns = true) (hfault : s.ky.fault = false) (hslot : s.kyUnitKind = 1)
include hrun hfault hslot

theorem State.kySlot_open : ¬ (!s.kyRuns || s.ky.fault || decide (s.kyUnitKind ≠ 1)) = true := by
  rw [hrun, hfault, hslot]
  decide

theorem exec_polledSlot_held (hhold : s.ky.hold ≠ 0) : exec .polledSlot s = .next (s.setKy { s.ky with hold := s.ky.hold - 1 }) :=
  (if_neg (State.kySlot_open hrun hfault hslot)).trans (if_pos hhold)

section
variable (hhold : s.ky.hold = 0)
include hhold

theorem exec_polledSlot_transaction {t : KyTx} (htx : s.ky.tx = some t) :
    exec .polledSlot s = .next (if t.due then s.kySendTx t else s.setKy { s.ky with tx := some { t with slots := t.slots - 1 } }) := by
  refine (if_neg (State.kySlot_open hrun hfault hslot)).trans ((if_neg (not_not_intro hhold)).trans ?_)
  rw [htx]

section
variable (htx : s.ky.tx = none)
include htx

theorem exec_polledSlot_relay {q : Nat} (hrelay : s.kyRelayDue = some q) :
    exec .polledSlot s = .next (s.setKy { s.ky with relayAt := tabSet s.ky.relayAt q s.kySf }) := by
  refine (if_neg (State.kySlot_open hrun hfault hslot)).trans ((if_neg (not_not_intro hhold)).trans ?_)
  simp only [htx, hrelay]

section
variable (hrelay : s.kyRelayDue = none)
include hrelay

theorem exec_polledSlot_routine (hq : s.ky.queue = []) : exec .polledSlot s = .next s.kyRoutine := by
  refine (if_neg (State.kySlot_open hrun hfault hslot)).trans ((if_neg (not_not_intro hhold)).trans ?_)
  simp only [htx, hrelay, hq]

/-- The first message of the queue in a slot that is free for it: a leave already formed, an outcome for a node that is not
there, or a transmission. -/
theorem exec_polledSlot_message (hq : s.ky.queue = m :: r) : exec .polledSlot s =
    if (!m.route.isEmpty) = true then .next (s.kyLeaveFrame m)
    else if (m.dst ≠ kyBroadcast && (s.kyNode m.dst).st ≠ 1 && (s.kyNode m.dst).st ≠ 2) = true then
      .next ((s.setKy { s.ky with queue := r }).kyOutcome m stCapacity (if (s.kyNode m.dst).st = 3 then 2 else 1))
    else .next (s.kyServe m) := by
  refine (if_neg (State.kySlot_open hrun hfault hslot)).trans ((if_neg (not_not_intro hhold)).trans ?_)
  simp only [htx, hrelay, hq]

variable (hq : s.ky.queue = m :: r)
include hq

theorem exec_polledSlot_leave (hroute : m.route.isEmpty = false) : exec .polledSlot s = .next (s.kyLeaveFrame m) :=
  (exec_polledSlot_message hrun hfault hslot hhold htx hrelay hq).trans (if_pos (by rw [hroute]; rfl))

variable (hroute : m.route.isEmpty = true)
include hroute

theorem exec_polledSlot_gone (hdst : m.dst ≠ kyBroadcast) (h1 : (s.kyNode m.dst).st ≠ 1) (h2 : (s.kyNode m.dst).st ≠ 2) :
    exec .polledSlot s =
      .next ((s.setKy { s.ky with queue := r }).kyOutcome m stCapacity (if (s.kyNode m.dst).st = 3 then 2 else 1)) :=
  (exec_polledSlot_message hrun hfault hslot hhold htx hrelay hq).trans
    ((if_neg (by simp [hroute])).trans (if_pos (by simp [hdst, h1, h2])))

theorem exec_polledSlot_serves (hthere : m.dst = kyBroadcast ∨ (s.kyNode m.dst).st = 1 ∨ (s.kyNode m.dst).st = 2) :
    exec .polledSlot s = .next (s.kyServe m) := by
  refine (exec_polledSlot_message hrun hfault hslot hhold htx hrelay hq).trans
    ((if_neg (by simp [hroute])).trans (if_neg ?_))
  rcases hthere with h | h | h <;> simp [h]

end

end

end

end

end

/-! ### Frames received (R632, R638, R643) -/

section
variable {s u v w : State} {rx : List Byte} {ftype n e : Nat} {f : KyFrame} {k : KyFrame → State → State} {x : Instr}

theorem State.kyTakeFrame_silent (hrun : s.kyRuns = false) : s.kyTakeFrame rx ftype k = s :=
  if_pos (by rw [hrun]; rfl)

theorem State.kyTakeFrame_failed (hrun : s.kyRuns = true) (hrx : kyRead s.cfg.ky.interleave rx = .failed n) :
    s.kyTakeFrame rx ftype k = s.kyDiscard n (ftype == 5) := by
  refine (if_neg (by rw [hrun]; simp)).trans ?_
  rw [hrx]

theorem State.kyTakeFrame_dropped (hrun : s.kyRuns = true) (hrx : kyRead s.cfg.ky.interleave rx = .dropped e) :
    s.kyTakeFrame rx ftype k = s.kyDrop := by
  refine (if_neg (by rw [hrun]; simp)).trans ?_
  rw [hrx]

theorem State.kyTakeFrame_foreign (hrun : s.kyRuns = true) (hrx : kyRead s.cfg.ky.interleave rx = .frame f e)
    (hbad : f.ok s.cfg.ky.device ftype = false ∨ f.next ≠ 0) : s.kyTakeFrame rx ftype k = s.kyDrop := by
  refine (if_neg (by rw [hrun]; simp)).trans ?_
  rw [hrx]
  exact if_pos (by simpa using hbad)

theorem State.kyTakeFrame_takes (hrun : s.kyRuns = true) (hrx : kyRead s.cfg.ky.interleave rx = .frame f e)
    (hok : f.ok s.cfg.ky.device ftype = true) (hnext : f.next = 0) (hu : u = s.kyReceived e) : s.kyTakeFrame rx ftype k = k f u := by
  subst hu
  refine (if_neg (by rw [hrun]; simp)).trans ?_
  rw [hrx]
  exact if_neg (by simp [hok, hnext])

/-- No answer is awaited that this frame gives. -/
abbrev State.kyUnasked (u : State) (f : KyFrame) : Prop := ∀ t, u.ky.tx = some t → u.kyAnswers f t = false

section
variable (hrun : s.kyRuns = true) (hrx : kyRead s.cfg.ky.interleave rx = .frame f e)
include hrun hrx

section
variable (hok : f.ok s.cfg.ky.device 3 = true) (hnext : f.next = 0) (hu : u = s.kyReceived e)
include hok hnext hu

theorem exec_up_answers {t : KyTx} (htx : u.ky.tx = some t) (hans : u.kyAnswers f t = true)
    (hv : v = u.setNode f.src { u.kyNode f.src with part := (kyJoinSeg (u.kyNode f.src).part f).1 }) :
    exec (.up rx) s = .next ((v.kyAnswered t true).kyArrived f.src f.src (kyJoinSeg (u.kyNode f.src).part f).2) := by
  subst hv
  refine congrArg Host.Outcome.next ((State.kyTakeFrame_takes hrun hrx hok hnext hu).trans ?_)
  simp only [htx]
  exact if_neg (by simp [hans])

theorem exec_up_unasked (hno : u.kyUnasked f) : exec (.up rx) s = .next u := by
  refine congrArg Host.Outcome.next ((State.kyTakeFrame_takes hrun hrx hok hnext hu).trans ?_)
  cases htx : u.ky.tx with
  | none => rfl
  | some t => exact if_pos (by rw [hno t htx]; rfl)

end

section
variable (hok : f.ok s.cfg.ky.device 4 = true) (hnext : f.next = 0) (hu : u = s.kyReceived e)
include hok hnext hu

theorem exec_idle_answers {t : KyTx} (htx : u.ky.tx = some t) (hans : u.kyAnswers f t = true) :
    exec (.idle rx) s = .next (u.kyAnswered t false) := by
  refine congrArg Host.Outcome.next ((State.kyTakeFrame_takes hrun hrx hok hnext hu).trans ?_)
  simp only [htx]
  exact if_pos hans

theorem exec_idle_unasked (hno : u.kyUnasked f) : exec (.idle rx) s = .next u := by
  refine congrArg Host.Outcome.next ((State.kyTakeFrame_takes hrun hrx hok hnext hu).trans ?_)
  cases htx : u.ky.tx with
  | none => rfl
  | some t => exact if_neg (ne_true_of_eq_false (hno t htx))

end

theorem exec_contention_joins (hok : f.ok s.cfg.ky.device 5 = true) (hnext : f.next = 0) (hu : u = s.kyReceived e)
    (hv : v = u.setKy { u.ky with parts := match (kyJoinSeg (tabFind u.ky.parts (f.src, f.last)) f).1 with
      | some x => tabSet u.ky.parts (f.src, f.last) x
      | none => tabErase u.ky.parts (f.src, f.last) })
    (hw : w = if (v.kyNode f.src).st = 2 then v.setNode f.src { v.kyNode f.src with ack := true } else v) :
    exec (.contention rx) s = .next (w.kyArrived f.src 0 (kyJoinSeg (tabFind u.ky.parts (f.src, f.last)) f).2) := by
  subst hw hv
  exact congrArg Host.Outcome.next (State.kyTakeFrame_takes hrun hrx hok hnext hu)

end

section
variable {b : Bool}

theorem exec_kyotiFrameDiscarded_silent (hrun : s.kyRuns = false) : exec (.kyotiFrameDiscarded rx b) s = .next s :=
  congrArg Host.Outcome.next (if_pos (by rw [hrun]; rfl))

variable (hrun : s.kyRuns = true)
include hrun

theorem exec_kyotiFrameDiscarded_failed (hrx : kyRead s.cfg.ky.interleave rx = .failed n) :
    exec (.kyotiFrameDiscarded rx b) s = .next (s.kyDiscard n b) := by
  refine congrArg Host.Outcome.next ((if_neg (by rw [hrun]; simp)).trans ?_)
  rw [hrx]

theorem exec_kyotiFrameDiscarded_dropped (hrx : kyRead s.cfg.ky.interleave rx = .dropped e) :
    exec (.kyotiFrameDiscarded rx b) s = .next s.kyDrop := by
  refine congrArg Host.Outcome.next ((if_neg (by rw [hrun]; simp)).trans ?_)
  rw [hrx]

theorem exec_kyotiFrameDiscarded_frame (hrx : kyRead s.cfg.ky.interleave rx = .frame f e) :
    exec (.kyotiFrameDiscarded rx b) s = .next (if f.cell = s.cfg.ky.device then s else s.kyDrop) := by
  refine congrArg Host.Outcome.next ((if_neg (by rw [hrun]; simp)).trans ?_)
  rw [hrx]

end

/-- R632, R643: codewords that are not correctable count, and a collision besides in a contention sub-slot. -/
theorem State.kyDiscard_counts (hn : n ≠ 0) (hu : u = (s.bump Fld.KY_RS_FAILED__VALUE 0 n).setPower { s.power with kyFrame := false }) :
    s.kyDiscard n true = u.bump Fld.KY_COLLISIONS__VALUE 0 1 ∧ s.kyDiscard n false = u := by
  subst hu
  exact ⟨if_neg hn, if_neg hn⟩

end

/-! ### Repeats and line faults (R626, R640) -/

section
variable {s u : State} {n why : Nat} {t : KyTx}

theorem exec_transactionTimeout_repeats (htx : s.ky.tx = some t) (hnode : t.node = n) (hdue : t.due = false) :
    exec (.transactionTimeout n) s = .next ((s.kyHeard (t.route.headD n) false).kyAgain t) := by
  change execTransactionTimeout n s = _
  simp only [execTransactionTimeout, htx]
  exact congrArg Host.Outcome.next (if_pos (by simp [hnode, hdue]))

theorem exec_transactionTimeout_stale (hno : ∀ t, s.ky.tx = some t → (t.node = n ∧ t.due = false) → False) :
    exec (.transactionTimeout n) s = .next s := by
  change execTransactionTimeout n s = _
  simp only [execTransactionTimeout]
  cases htx : s.ky.tx with
  | none => rfl
  | some t => exact congrArg Host.Outcome.next (if_neg (by simpa using hno t htx))

theorem State.kyAgain_repeats (hsecond : t.second = false) (hmore : t.attempts ≤ s.cfg.ky.retries) :
    s.kyAgain t = s.setKy { s.ky with tx := some { t with attempts := t.attempts + 1, due := true, slots := 0 } } :=
  (if_neg (ne_true_of_eq_false hsecond)).trans (if_pos hmore)

theorem State.kyAgain_second {x : Nat} {r : List Nat} (hsecond : t.second = false) (hdone : s.cfg.ky.retries < t.attempts)
    (hroute : s.kySecond t.node t.route = some (x, r)) : s.kyAgain t =
      s.setKy { s.ky with tx := some { t with attempts := t.attempts + 1, due := true, slots := 0, second := true, route := r } } := by
  refine (if_neg (ne_true_of_eq_false hsecond)).trans ((if_neg (Nat.not_le.2 hdone)).trans ?_)
  rw [hroute]

theorem State.kyAgain_fails
    (hend : t.second = true ∨ (s.cfg.ky.retries < t.attempts ∧ s.kySecond t.node t.route = none)) : s.kyAgain t = s.kyFailed t := by
  by_cases hsecond : t.second = true
  · exact if_pos hsecond
  · obtain ⟨hdone, hroute⟩ := hend.resolve_left hsecond
    refine (if_neg hsecond).trans ((if_neg (Nat.not_le.2 hdone)).trans ?_)
    rw [hroute]

theorem exec_lineFault_absent (hky : s.variant.hasKyoti = false) : exec (.lineFault why) s = .next s :=
  if_pos (by rw [hky]; rfl)

theorem exec_lineFault_reports (hky : s.variant.hasKyoti = true) (hu : u = ((s.put Fld.KY_ERR__LINE_FAULT 0 1).postBoth
      { code := 0xA0A, sev := 2, data := why }).setKy { s.ky with fault := true }) :
    exec (.lineFault why) s = .next (match s.ky.tx with | some t => if t.due then u else u.kyAgain t | none => u) := by
  have hsame : ((s.put Fld.KY_ERR__LINE_FAULT 0 1).postBoth { code := 0xA0A, sev := 2, data := why }).ky = s.ky := by simp
  have htx : u.ky.tx = s.ky.tx := by rw [hu]; rfl
  refine (if_neg (by simp [hky])).trans ?_
  simp only [hsame, ← hu, htx] <;> rfl

end

/-- Settles O49: each event of the power line, by the branch of its meaning that the line, the cell and the frame choose. -/
theorem kyotiLine : Obligations.KyotiLine :=
  ⟨fun _ _ => exec_kyZeroCrossing_absent, fun _ _ => exec_kyZeroCrossing_first, fun _ _ _ => exec_kyZeroCrossing_early,
    fun _ _ _ _ hky hdie hz hu hlate => exec_kyZeroCrossing_regular hky hdie hz hu hlate,
    fun _ _ _ _ hky hdie hz hu hlate => exec_kyZeroCrossing_irregular hky hdie hz hu hlate,
    fun _ _ _ _ hky hdie hz hu hlate => exec_kyZeroCrossing_recovers hky hdie hz hu hlate,
    fun _ => exec_zcLost_absent, fun _ _ => exec_zcLost_begins, fun _ => exec_zcLost_stands,
    fun _ _ _ => exec_cellStart_starts, fun _ h => if_pos h, fun _ h => if_pos h, fun _ => exec_beaconTransmit_sends,
    fun _ => exec_polledSlot_elsewhere, fun _ => exec_polledSlot_held,
    fun _ _ hrun hfault hslot hhold htx => exec_polledSlot_transaction hrun hfault hslot hhold htx,
    fun _ _ hrun hfault hslot hhold htx hrelay => exec_polledSlot_relay hrun hfault hslot hhold htx hrelay,
    fun _ => exec_polledSlot_routine, fun _ _ _ => exec_polledSlot_leave, fun _ _ _ => exec_polledSlot_gone,
    fun _ _ _ => exec_polledSlot_serves,
    fun _ _ hrun => congrArg _ (State.kyTakeFrame_silent hrun),
    fun _ _ _ hrun hrx => congrArg _ (State.kyTakeFrame_failed hrun hrx),
    fun _ _ _ hrun hrx => congrArg _ (State.kyTakeFrame_dropped hrun hrx),
    fun _ _ _ _ hrun hrx hbad => congrArg _ (State.kyTakeFrame_foreign hrun hrx hbad),
    fun _ _ hrun => congrArg _ (State.kyTakeFrame_silent hrun),
    fun _ _ _ hrun hrx => congrArg _ (State.kyTakeFrame_failed hrun hrx),
    fun _ _ _ hrun hrx => congrArg _ (State.kyTakeFrame_dropped hrun hrx),
    fun _ _ _ _ hrun hrx hbad => congrArg _ (State.kyTakeFrame_foreign hrun hrx hbad),
    fun _ _ hrun => congrArg _ (State.kyTakeFrame_silent hrun),
    fun _ _ _ hrun hrx => congrArg _ (State.kyTakeFrame_failed hrun hrx),
    fun _ _ _ hrun hrx => congrArg _ (State.kyTakeFrame_dropped hrun hrx),
    fun _ _ _ _ hrun hrx hbad => congrArg _ (State.kyTakeFrame_foreign hrun hrx hbad),
    fun _ _ _ _ _ _ _ hrun hrx hok hnext hu => exec_up_answers hrun hrx hok hnext hu,
    fun _ _ _ _ _ => exec_up_unasked,
    fun _ _ _ _ _ _ hrun hrx hok hnext hu => exec_idle_answers hrun hrx hok hnext hu,
    fun _ _ _ _ _ => exec_idle_unasked, fun _ _ _ _ _ _ _ => exec_contention_joins,
    fun _ _ _ => exec_kyotiFrameDiscarded_silent,
    fun _ _ _ _ hrun hrx => exec_kyotiFrameDiscarded_failed hrun hrx,
    fun _ _ _ _ hrun hrx => exec_kyotiFrameDiscarded_dropped hrun hrx,
    fun _ _ _ _ _ hrun hrx => exec_kyotiFrameDiscarded_frame hrun hrx,
    fun _ _ _ => State.kyDiscard_counts, fun _ _ _ => exec_transactionTimeout_repeats,
    fun _ _ => exec_transactionTimeout_stale, fun _ _ => State.kyAgain_repeats, fun _ _ _ _ => State.kyAgain_second,
    fun _ _ => State.kyAgain_fails, fun _ _ => exec_lineFault_absent, fun _ _ _ => exec_lineFault_reports, fun _ => rfl⟩

end Sys2Proof.Machine
end

section
/-!
PROOFS. The contactless reader (R671 to R687): pings and baselines, what each answer of a card does in each phase, repeats, and
the credential that a judged card gives.
-/
namespace Sys2Proof.Machine

/-! ### Pings (R671 to R673, R687) -/

section
variable {s u v : State} {p a : Nat} {ph : Int} {l : List (Nat × Int)}

theorem exec_detuningPing_idle (h : (!s.pinged p || (s.ant p).capt) = true) : exec (.detuningPing p a ph) s = .next s :=
  if_pos h

section
variable (hping : s.pinged p = true) (hcapt : (s.ant p).capt = false)
include hping hcapt

theorem State.ping_counts : ¬ (!s.pinged p || (s.ant p).capt) = true := by
  rw [hping, hcapt]
  decide

theorem exec_detuningPing_detects (hdet : s.detects p a ph = true) : exec (.detuningPing p a ph) s =
    .next (if s.flag Fld.ANT_STATUS__HELD p then s.setAnt p { s.ant p with clear := 0 }
      else s.setAnt p { s.ant p with conf := true }) :=
  (if_neg (State.ping_counts hping hcapt)).trans ((if_pos hdet).trans (apply_ite Host.Outcome.next _ _ _).symm)

section
variable (hdet : s.detects p a ph = false) (hu : u = s.setAnt p { s.ant p with conf := false })
include hdet hu

theorem exec_detuningPing_clears (hheld : u.flag Fld.ANT_STATUS__HELD p = false) :
    exec (.detuningPing p a ph) s = .next ((u.put Fld.ANT_STATUS__DETECT p 0).baseTrack p a ph) := by
  subst hu
  exact (if_neg (State.ping_counts hping hcapt)).trans ((if_neg (ne_true_of_eq_false hdet)).trans
    (congrArg (fun v : State => Host.Outcome.next (v.baseTrack p a ph)) (if_neg (ne_true_of_eq_false hheld))))

/-- R672: a held credential goes with the second ping in a row that does not detect. -/
theorem exec_detuningPing_held (hheld : u.flag Fld.ANT_STATUS__HELD p = true) :
    exec (.detuningPing p a ph) s = .next ((if (s.ant p).clear + 1 < 2 then u.setAnt p { u.ant p with clear := (s.ant p).clear + 1 }
      else ((u.setAnt p { u.ant p with clear := 0 }).put Fld.ANT_STATUS__HELD p 0).put Fld.ANT_STATUS__DETECT p 0).baseTrack p a ph) := by
  subst hu
  exact (if_neg (State.ping_counts hping hcapt)).trans ((if_neg (ne_true_of_eq_false hdet)).trans
    (congrArg (fun v : State => Host.Outcome.next (v.baseTrack p a ph)) (if_pos hheld)))

end

end

theorem exec_confirmingPing_idle (h : (!(s.ant p).conf || !(s.setReader { s.reader with pres := [] }).pinged p) = true) :
    exec (.confirmingPing p a ph) s = .next s :=
  if_pos h

section
variable (hconf : (s.ant p).conf = true) (hping : (s.setReader { s.reader with pres := [] }).pinged p = true)
  (hu : u = s.setAnt p { s.ant p with conf := false })
include hconf hping hu

theorem exec_confirmingPing_clears (hdet : u.detects p a ph = false) :
    exec (.confirmingPing p a ph) s = .next (u.baseTrack p a ph) := by
  subst hu
  exact (if_neg (by rw [hconf, hping]; decide)).trans (if_pos (by rw [hdet]; rfl))

theorem exec_confirmingPing_detects (hdet : u.detects p a ph = true)
    (hv : v = ((u.bump Fld.ANT_COUNT__DETECTIONS p 1).put Fld.ANT_STATUS__DETECT p 1).wakeSource 10) :
    exec (.confirmingPing p a ph) s = .next (if (v.presAt (p / 8)).isSome then
      v.setReader { v.reader with waits := v.reader.waits ++ [p] } else v.presBegin p) := by
  subst hu hv
  exact (if_neg (by rw [hconf, hping]; decide)).trans (if_neg (by rw [hdet]; decide))

end

theorem exec_baselineCapture_idle (h : (!(s.ant p).capt || !s.pinged p) = true) : exec (.baselineCapture p l) s = .next s :=
  if_pos h

theorem exec_baselineCapture_sets (hcapt : (s.ant p).capt = true) (hping : s.pinged p = true)
    (hu : u = (s.setAnt p { s.ant p with capt := false }).setBase p
      ((l.map fun x => (x.1 : Int)).foldl (· + ·) 0 * 4096) ((l.map (·.2)).foldl (· + ·) 0 * 4096)) :
    exec (.baselineCapture p l) s = .next (if u.tagState = 1 then u.readerCaptures else u) := by
  subst hu
  exact if_neg (by rw [hcapt, hping]; decide)

end

/-! ### A card's answers (R674 to R678) -/

section
variable {s u : State} {n k : Nat} {x : Pres} {b : List Byte}

theorem exec_cardFrameRx_none {f : CardFrame} (hx : s.presAt n = none) : exec (.cardFrameRx n f) s = .next s := by
  change execCardFrameRx n f s = _
  simp only [execCardFrameRx, hx]

section
variable (hx : s.presAt n = some x)
include hx

theorem exec_cardFrameRx_atqa {v : W16} : exec (.cardFrameRx n (.atqa v)) s =
    if x.phase = 1 then
      .next (((s.put Fld.RD_STATUS__CARD n 1).setAnt x.pos { s.ant x.pos with wakes := 0 }).presSend n
        { x with phase := 2, atqa := v.toNat } [0x93, 0x20])
    else if x.phase = 7 then .next (s.presMultiple n x 2)
    else .next s := by
  change execCardFrameRx n (.atqa v) s = _
  simp only [execCardFrameRx, hx]

theorem exec_cardFrameRx_collision : exec (.cardFrameRx n (.collision k b)) s =
    if x.phase = 2 then
      .next (s.presSend n { x with multi := true } ([selByte x.level, BitVec.ofNat 8 ((2 + (k + 1) / 8) * 16 + (k + 1) % 8)]
        ++ leBytes ((k + 8) / 8) (leNat b % 2 ^ k + 2 ^ k)))
    else .next s := by
  change execCardFrameRx n (.collision k b) s = _
  simp only [execCardFrameRx, hx]

theorem exec_cardFrameRx_anticol : exec (.cardFrameRx n (.anticol b)) s =
    if (decide (x.phase = 2) && bccOk b) = true then
      .next (s.presSend n { x with phase := 3, part := b.take 4 } ([selByte x.level, 0x70] ++ b))
    else .next s := by
  change execCardFrameRx n (.anticol b) s = _
  simp only [execCardFrameRx, hx]

theorem exec_cardFrameRx_sak {v : Byte} : exec (.cardFrameRx n (.sak v)) s =
    if x.phase = 3 then .next (s.presSelected n x v.toNat) else .next s := by
  change execCardFrameRx n (.sak v) s = _
  simp only [execCardFrameRx, hx]

/-- A layer-4 card's settings, from its ATS and the front end's highest rate. -/
abbrev State.presAts (s : State) (n : Nat) (x : Pres) (b : List Byte) : Pres :=
  { x with l4 := true, rate := min (atsRate b) (s.get Fld.RD_CFG__MAX_RATE n), fsc := atsFsc b, fwt := atsFwt b }

theorem exec_cardFrameRx_ats : exec (.cardFrameRx n (.ats b)) s =
    if x.phase = 4 then
      if (s.presAts n x b).rate = 0 then .next (s.presAsk n (s.presAts n x b) 8)
      else .next (s.presSend n { s.presAts n x b with phase := 5 } [0xD0, 0x11, BitVec.ofNat 8 (5 * (s.presAts n x b).rate)])
    else .next s := by
  change execCardFrameRx n (.ats b) s = _
  simp only [execCardFrameRx, hx]

theorem exec_cardFrameRx_pps : exec (.cardFrameRx n .pps) s =
    if x.phase = 5 then .next ((s.put Fld.RD_STATUS__RATE n x.rate).presAsk n x 8) else .next s := by
  change execCardFrameRx n .pps s = _
  simp only [execCardFrameRx, hx]

theorem exec_cardFrameRx_wtx {m : Nat} : exec (.cardFrameRx n (.wtx m)) s =
    if (decide (x.phase = 6) && x.l4 && decide (x.wtx + m * x.fwt ≤ 5000000)) = true then
      .next ((s.setPres n { x with wtx := x.wtx + m * x.fwt }).rfSend x.pos 2 [0xF2, BitVec.ofNat 8 (m % 64)])
    else .next s := by
  change execCardFrameRx n (.wtx m) s = _
  simp only [execCardFrameRx, hx]

theorem exec_cardFrameRx_more : exec (.cardFrameRx n (.more b)) s =
    if (decide (x.phase = 6) && x.l4) = true then
      .next (s.presSend n { x with part4 := x.part4 ++ b, blk := x.blk + 1 } [BitVec.ofNat 8 (0xA2 + x.blk % 2)])
    else .next s := by
  change execCardFrameRx n (.more b) s = _
  simp only [execCardFrameRx, hx]

theorem exec_cardFrameRx_resp : exec (.cardFrameRx n (.resp b)) s =
    if x.phase = 6 then
      .next (s.presHalt n { x with issuer := some x.ask, verdict :=
        if (x.part4 ++ b).length < ((x.issuers[x.ask]?).getD { slot := 0 }).off + 64 then some false else none })
    else .next s := by
  change execCardFrameRx n (.resp b) s = _
  simp only [execCardFrameRx, hx]

end

/-! ### Guard, missing answers and the end of a presentation (R675 to R678) -/

theorem exec_guardExpiry_none (hx : s.presAt n = none) : exec (.guardExpiry n) s = .next s := by
  change execGuardExpiry n s = _
  simp only [execGuardExpiry, hx]

theorem exec_guardExpiry_asks (hx : s.presAt n = some x) : exec (.guardExpiry n) s =
    .next (if x.phase = 0 then s.presSend n { x with phase := 1, tries := 1 } [0x26] else s) := by
  change execGuardExpiry n s = _
  simp only [execGuardExpiry, hx]

theorem exec_presentationTimeout_none (hx : s.presAt n = none) : exec (.presentationTimeout n) s = .next s := by
  change execPresentationTimeout n s = _
  simp only [execPresentationTimeout, hx]

theorem exec_presentationTimeout_ends (hx : s.presAt n = some x) : exec (.presentationTimeout n) s = .next (s.presFail n x) := by
  change execPresentationTimeout n s = _
  simp only [execPresentationTimeout, hx]

section
variable {error : Bool}

theorem exec_cardResponseTimeout_none (hx : s.presAt n = none) : exec (.cardResponseTimeout n error) s = .next s := by
  change execCardResponseTimeout n error s = _
  simp only [execCardResponseTimeout, hx]

section
variable (hx : s.presAt n = some x)
include hx

theorem exec_cardResponseTimeout_quiet (hphase : (decide (x.phase = 0) || decide (x.phase = 8)) = true) :
    exec (.cardResponseTimeout n error) s = .next s := by
  change execCardResponseTimeout n error s = _
  simp only [execCardResponseTimeout, hx]
  exact if_pos hphase

section
variable (hphase : x.phase = 1)
include hphase

theorem exec_cardResponseTimeout_again (htries : x.tries < 3) :
    exec (.cardResponseTimeout n error) s = .next (s.presSend n { x with tries := x.tries + 1 } [0x26]) := by
  change execCardResponseTimeout n error s = _
  simp only [execCardResponseTimeout, hx]
  exact (if_neg (by simp [hphase])).trans ((if_pos hphase).trans (if_pos htries))

/-- R675: REQA unanswered three times is a false wake. -/
theorem exec_cardResponseTimeout_falseWake {w : Nat} (htries : 3 ≤ x.tries) (hw : w = (s.ant x.pos).wakes + 1)
    (hu : u = ((s.presEnd n).bump Fld.ANT_COUNT__FALSE_WAKES x.pos 1).put Fld.ANT_STATUS__DETECT x.pos 0) :
    exec (.cardResponseTimeout n error) s = .next (u.setAnt x.pos
      { u.ant x.pos with wakes := if w < 8 then w else 0, capt := (u.ant x.pos).capt || decide (8 ≤ w) }) := by
  subst hw hu
  change execCardResponseTimeout n error s = _
  simp only [execCardResponseTimeout, hx]
  exact (if_neg (by simp [hphase])).trans ((if_pos hphase).trans (if_neg (Nat.not_lt.2 htries)))

end

/-- A frame of the exchange with a card that has answered REQA goes unanswered: the check for company ends, or the frame is
repeated once, or the next issuer is asked, or the presentation ends. -/
theorem exec_cardResponseTimeout_exchange (hlo : 2 ≤ x.phase) (hhi : x.phase ≤ 7) :
    exec (.cardResponseTimeout n error) s =
      if (decide (x.phase = 7) && !error) = true then .next (s.presJudge n { x with alone := true })
      else if (!x.retried) = true then .next ((s.setPres n { x with retried := true }).rfSend x.pos 2
        (if x.phase = 6 && x.l4 then [BitVec.ofNat 8 (0xB2 + (x.blk + 1) % 2)] else x.sent))
      else if (decide (x.phase = 6) && !error && !x.l4) = true then .next (s.presAsk n { x with ask := x.ask + 1 } 8)
      else .next (s.presFail n x) := by
  have hstart : ¬ (decide (x.phase = 0) || decide (x.phase = 8)) = true := by
    rw [Bool.or_eq_true, decide_eq_true_eq, decide_eq_true_eq]
    omega
  change execCardResponseTimeout n error s = _
  simp only [execCardResponseTimeout, hx]
  exact (if_neg hstart).trans (if_neg (by omega))

theorem exec_cardResponseTimeout_alone (hphase : x.phase = 7) :
    exec (.cardResponseTimeout n false) s = .next (s.presJudge n { x with alone := true }) :=
  (exec_cardResponseTimeout_exchange hx (by omega) (by omega)).trans (if_pos (by simp [hphase]))

theorem exec_cardResponseTimeout_nextIssuer (hphase : x.phase = 6) (hretried : x.retried = true) (hl3 : x.l4 = false) :
    exec (.cardResponseTimeout n false) s = .next (s.presAsk n { x with ask := x.ask + 1 } 8) :=
  (exec_cardResponseTimeout_exchange hx (by omega) (by omega)).trans
    ((if_neg (by simp [hphase])).trans ((if_neg (by simp [hretried])).trans (if_pos (by simp [hphase, hl3]))))

section
variable (hlo : 2 ≤ x.phase) (hhi : x.phase ≤ 7) (herror : x.phase = 7 → error = true)
include hlo hhi herror

theorem exec_cardResponseTimeout_repeats (hretried : x.retried = false) :
    exec (.cardResponseTimeout n error) s = .next ((s.setPres n { x with retried := true }).rfSend x.pos 2
      (if x.phase = 6 && x.l4 then [BitVec.ofNat 8 (0xB2 + (x.blk + 1) % 2)] else x.sent)) :=
  (exec_cardResponseTimeout_exchange hx hlo hhi).trans
    ((if_neg (by simpa using herror)).trans (if_pos (by rw [hretried]; rfl)))

theorem exec_cardResponseTimeout_fails (hlast : x.phase = 6 → (error = true ∨ x.l4 = true)) (hretried : x.retried = true) :
    exec (.cardResponseTimeout n error) s = .next (s.presFail n x) := by
  have hnoNext : ¬ (decide (x.phase = 6) && !error && !x.l4) = true := by
    intro h
    simp only [Bool.and_eq_true, decide_eq_true_eq, Bool.not_eq_true'] at h
    obtain ⟨⟨hphase, hnoError⟩, hl3⟩ := h
    simpa [hnoError, hl3] using hlast hphase
  exact (exec_cardResponseTimeout_exchange hx hlo hhi).trans
    ((if_neg (by simpa using herror)).trans ((if_neg (by simp [hretried])).trans (if_neg hnoNext)))

end

end

end

end

/-! ### Signatures and credentials (R679 to R682) -/

section
variable {s u v : State} {p i : Nat} {ok : Bool} {x : Pres}

section
variable {c : Issuer} (hissuer : x.issuer = some i) (hc : x.issuers[i]? = some c) (hu : u = s.useKey 3 c.slot)
include hissuer hc hu

/-- A card that has left waits for the verdict on its signature. -/
theorem exec_signatureVerifyDone_pending (hpend : (s.ant p).pend = some x)
    (hv : v = u.setAnt p { u.ant p with pend := none }) : exec (.signatureVerifyDone p ok) s =
      .next (v.credential { x with verdict := some (ok && s.keyUsable c.slot [5] 4) }) := by
  have hkeeps : ((s.useKey 3 c.slot).ant p).pend = some x := hpend
  subst hu hv
  change execSignatureVerifyDone p ok s = _
  simp [execSignatureVerifyDone, hpend, hkeeps, hissuer, hc]

/-- A card that is still there is judged where it is. -/
theorem exec_signatureVerifyDone_present (hpend : (s.ant p).pend = none) (hx : s.presAt (p / 8) = some x) (hpos : x.pos = p)
    (hverdict : x.verdict = none) : exec (.signatureVerifyDone p ok) s =
      .next (u.presJudge (p / 8) { x with verdict := some (ok && s.keyUsable c.slot [5] 4) }) := by
  have hkeeps : ((s.useKey 3 c.slot).ant p).pend = none := hpend
  have hthere : (s.useKey 3 c.slot).presAt (p / 8) = some x := hx
  subst hu
  change execSignatureVerifyDone p ok s = _
  simp [execSignatureVerifyDone, hpend, hx, hkeeps, hthere, hissuer, hc, hpos, hverdict]

end

theorem exec_signatureVerifyDone_none (hpend : (s.ant p).pend = none) (hx : s.presAt (p / 8) = none) :
    exec (.signatureVerifyDone p ok) s = .next s := by
  change execSignatureVerifyDone p ok s = _
  simp [execSignatureVerifyDone, hpend, hx]

theorem State.credential_refused (hverdict : x.verdict ≠ some true) (hpolicy : x.policy = 0) : s.credential x =
    s.postAnt x.pos { code := 0xB02, sev := 1, obj := x.pos, data := if x.issuer.isNone then 1 else 2 } := by
  have hno : (x.verdict == some true) = false := beq_eq_false_iff_ne.2 hverdict
  simp only [State.credential, hno]
  exact if_pos (by simp [hpolicy])

/-- The first session whose settings name an antenna position. -/
abbrev State.sessionOfAntenna (u : State) (p : Nat) : Option Nat :=
  (upTo 64).find? fun i => (u.scfg i).kind != 0 && (u.scfg i).antenna == some p

section
variable {r : List Byte} (hverdict : x.verdict = some true) (hr : r = credRecord x true)
  (hu : u = (s.setAnt x.pos { s.ant x.pos with last := r, clear := 0 }).put Fld.ANT_STATUS__HELD x.pos 1)
include hverdict hr hu

theorem State.credential_posts (hnone : u.sessionOfAntenna x.pos = none) : s.credential x =
    u.postAnt x.pos { code := 0xB01, sev := 0, obj := x.pos, data := field r 17 1 } := by
  subst hr hu
  have hyes : (x.verdict == some true) = true := by rw [hverdict]; rfl
  simp only [State.credential, hyes]
  refine (if_neg (by simp)).trans ?_
  simp only [if_true, hnone]

theorem State.credential_presents (hsome : u.sessionOfAntenna x.pos = some i) :
    s.credential x = u.presentCred i 1 (hash64 x.uid) := by
  subst hr hu
  have hyes : (x.verdict == some true) = true := by rw [hverdict]; rfl
  simp only [State.credential, hyes]
  refine (if_neg (by simp)).trans ?_
  simp only [if_true, hsome]

end

end

/-- Settles O52: each ping, answer, missing answer and verdict, by the phase of the presentation that it meets. -/
theorem readerExchange : Obligations.ReaderExchange :=
  ⟨fun _ _ _ _ => exec_detuningPing_idle, fun _ _ _ _ => exec_detuningPing_detects, fun _ _ _ _ _ => exec_detuningPing_clears,
    fun _ _ _ _ _ => exec_detuningPing_held, fun _ _ _ _ hdet => if_neg (ne_true_of_eq_false hdet),
    fun _ _ _ _ => exec_confirmingPing_idle,
    fun _ _ _ _ _ _ hconf hping hu hdet hv => exec_confirmingPing_detects hconf hping hu hdet hv,
    fun _ _ _ _ _ => exec_confirmingPing_clears, fun _ _ _ _ => exec_baselineCapture_sets,
    fun _ _ _ => exec_baselineCapture_idle,
    fun _ _ => exec_guardExpiry_none, fun _ _ _ => exec_guardExpiry_asks, fun _ _ _ => exec_cardFrameRx_none,
    fun _ _ _ _ _ hx hphase hu => hu ▸ (exec_cardFrameRx_atqa hx).trans (if_pos hphase),
    fun _ _ _ _ hx hphase => (exec_cardFrameRx_atqa hx).trans ((if_neg (by omega)).trans (if_pos hphase)),
    fun _ _ _ _ hx h1 h7 => (exec_cardFrameRx_atqa hx).trans ((if_neg h1).trans (if_neg h7)),
    fun _ _ _ _ _ _ hx hphase hm => hm ▸ (exec_cardFrameRx_collision hx).trans (if_pos hphase),
    fun _ _ _ _ _ hx hphase => (exec_cardFrameRx_collision hx).trans (if_neg hphase),
    fun _ _ _ _ hx hphase hbcc => (exec_cardFrameRx_anticol hx).trans (if_pos (by simp [hphase, hbcc])),
    fun _ _ _ _ hx hno => (exec_cardFrameRx_anticol hx).trans (if_neg (ne_true_of_eq_false hno)),
    fun _ _ _ _ hx hphase => (exec_cardFrameRx_sak hx).trans (if_pos hphase),
    fun _ _ _ _ hx hphase => (exec_cardFrameRx_sak hx).trans (if_neg hphase),
    fun _ _ _ _ _ hx hphase hy => hy ▸ (exec_cardFrameRx_ats hx).trans ((if_pos hphase).trans (apply_ite Host.Outcome.next _ _ _).symm),
    fun _ _ _ _ hx hphase => (exec_cardFrameRx_ats hx).trans (if_neg hphase),
    fun _ _ _ hx hphase => (exec_cardFrameRx_pps hx).trans (if_pos hphase),
    fun _ _ _ hx hphase => (exec_cardFrameRx_pps hx).trans (if_neg hphase),
    fun _ _ _ _ hx hphase hl4 hwtx => (exec_cardFrameRx_wtx hx).trans (if_pos (by simp [hphase, hl4, hwtx])),
    fun _ _ _ _ hx hno => (exec_cardFrameRx_wtx hx).trans (if_neg (ne_true_of_eq_false hno)),
    fun _ _ _ _ hx hphase hl4 => (exec_cardFrameRx_more hx).trans (if_pos (by simp [hphase, hl4])),
    fun _ _ _ _ hx hno => (exec_cardFrameRx_more hx).trans (if_neg (ne_true_of_eq_false hno)),
    fun _ _ _ _ hx hphase => (exec_cardFrameRx_resp hx).trans (if_pos hphase),
    fun _ _ _ _ hx hphase => (exec_cardFrameRx_resp hx).trans (if_neg hphase),
    fun _ _ _ => exec_cardResponseTimeout_none, fun _ _ _ _ => exec_cardResponseTimeout_quiet,
    fun _ _ _ _ => exec_cardResponseTimeout_again,
    fun _ _ _ _ _ _ hx hphase htries hw hu => exec_cardResponseTimeout_falseWake hx hphase htries hw hu,
    fun _ _ _ => exec_cardResponseTimeout_alone, fun _ _ _ _ => exec_cardResponseTimeout_repeats,
    fun _ _ _ => exec_cardResponseTimeout_nextIssuer, fun _ _ _ _ => exec_cardResponseTimeout_fails,
    fun _ _ _ _ _ _ _ _ hpend hissuer hc hu hv => exec_signatureVerifyDone_pending hissuer hc hu hpend hv,
    fun _ _ _ _ _ _ _ hpend hx hpos hverdict hissuer hc hu =>
      exec_signatureVerifyDone_present hissuer hc hu hpend hx hpos hverdict,
    fun _ _ _ => exec_signatureVerifyDone_none, fun _ _ _ => exec_presentationTimeout_ends,
    fun _ _ => exec_presentationTimeout_none, fun _ _ _ hmulti => if_pos hmulti, fun _ _ => State.credential_refused,
    fun _ _ _ _ hverdict hr hu hnone => State.credential_posts hverdict hr hu hnone,
    fun _ _ _ _ hverdict hu hsome => State.credential_presents hverdict rfl hu hsome⟩

end Sys2Proof.Machine
end

section
/-!
PROOFS. TAG_CMD (R684, R685): what each sub-operation of an accepted descriptor does.
-/
namespace Sys2Proof.Machine

section
variable {s u : State} {d : Desc} {c : Instr} {subop used minBuf : Nat} {k : Ticket → Nat → State → State}

section
variable (hexec : exec c s = .next (s.tagCmd d subop used minBuf k)) (h : s.accepts 0x58 d = true)
include hexec h

theorem State.tagCmd_reserved (hparam : (DescF.parNonZero d used).isSome = true) :
    exec c s = .next ((s.taken d).fin ((s.taken d).ticket d) stBad 24) :=
  State.accepted_runs hexec h (if_pos (by rw [hparam, Bool.or_true]))

variable (hsubop : DescF.par d 0 1 = subop) (hparam : (DescF.parNonZero d used).isSome = false)
include hsubop hparam

theorem State.tagCmd_short (hneeded : minBuf ≠ 0) (hbuf : DescF.bufLen d < minBuf) :
    exec c s = .next ((s.taken d).fin ((s.taken d).ticket d) stBad 16) :=
  State.accepted_runs hexec h ((if_neg (by simp [hsubop, hparam])).trans (if_pos (by simp [hneeded, hbuf])))

theorem State.tagCmd_runs (hbuf : minBuf ≤ DescF.bufLen d)
    (hk : k ((s.taken d).ticket d) d.target.toNat (s.taken d) = u) : exec c s = .next u :=
  State.accepted_runs hexec h ((if_neg (by simp [hsubop, hparam])).trans ((if_neg (by simp [hbuf])).trans hk))

end

/-! ### READ_LAST -/

section
variable (h : s.accepts 0x58 d = true) (hsubop : DescF.par d 0 1 = 1) (hparam : (DescF.parNonZero d 1).isSome = false)
  (hbuf : 64 ≤ DescF.bufLen d)
include h hsubop hparam hbuf

theorem exec_readLast_none (hnone : ((s.taken d).ant d.target.toNat).last.isEmpty = true) :
    exec (.readLast d) s = .next ((s.taken d).fin ((s.taken d).ticket d) stCapacity 1) :=
  State.tagCmd_runs rfl h hsubop hparam hbuf (if_pos hnone)

theorem exec_readLast_gives (hsome : ((s.taken d).ant d.target.toNat).last.isEmpty = false) : exec (.readLast d) s =
    .next (((s.taken d).writeBuf d ((s.taken d).ant d.target.toNat).last).fin ((s.taken d).ticket d) stDone 64) :=
  State.tagCmd_runs rfl h hsubop hparam hbuf (if_neg (ne_true_of_eq_false hsome))

end

/-! ### APDU -/

/-- An APDU's length is out of range, or a reserved byte is not 0. -/
abbrev apduBad (d : Desc) : Bool :=
  decide (DescF.par d 1 1 < 4) || decide (32 < DescF.par d 1 1) || !zeroOutside d.param [(0, 1), (8, 39)]

section
variable {resp : Option (List Byte)} {b : List Byte} {x : Pres}
variable (h : s.accepts 0x58 d = true) (hsubop : DescF.par d 0 1 = 2) (hparam : (DescF.parNonZero d 40).isSome = false)
  (hbuf : 258 ≤ DescF.bufLen d)
include h hsubop hparam hbuf

theorem exec_apdu_bad (hbad : apduBad d = true) :
    exec (.apdu d resp) s = .next ((s.taken d).fin ((s.taken d).ticket d) stBad 24) :=
  State.tagCmd_runs rfl h hsubop hparam hbuf (if_pos (by simpa using hbad))

variable (hgood : apduBad d = false)
include hgood

theorem exec_apdu_noCard (hx : (s.taken d).presAt (d.target.toNat / 8) = none) :
    exec (.apdu d resp) s = .next ((s.taken d).fin ((s.taken d).ticket d) stCapacity 2) := by
  refine State.tagCmd_runs rfl h hsubop hparam hbuf ((if_neg (by simpa using hgood)).trans ?_)
  rw [hx]

variable (hx : (s.taken d).presAt (d.target.toNat / 8) = some x)
include hx

theorem exec_apdu_otherCard
    (hother : (decide (x.pos ≠ d.target.toNat) || decide (x.phase ≠ 8) || !(s.taken d).flag Fld.ANT_STATUS__HELD d.target.toNat) = true) :
    exec (.apdu d resp) s = .next ((s.taken d).fin ((s.taken d).ticket d) stCapacity 2) := by
  refine State.tagCmd_runs rfl h hsubop hparam hbuf ((if_neg (by simpa using hgood)).trans ?_)
  rw [hx]
  exact if_pos (by simpa using hother)

variable (hpos : x.pos = d.target.toNat) (hphase : x.phase = 8) (hheld : (s.taken d).flag Fld.ANT_STATUS__HELD d.target.toNat = true)
  (hu : u = (s.taken d).presApdu (d.target.toNat / 8) x ((d.param.drop 8).take (DescF.par d 1 1)))
include hpos hphase hheld hu

theorem exec_apdu_sends : exec (.apdu d resp) s = .next (match resp with
    | some b => (u.writeBuf d b).fin ((s.taken d).ticket d) stDone b.length
    | none => (u.presEnd (d.target.toNat / 8)).fin ((s.taken d).ticket d) stCapacity 2) := by
  subst hu
  refine State.tagCmd_runs rfl h hsubop hparam hbuf ((if_neg (by simpa using hgood)).trans ?_)
  rw [hx]
  exact if_neg (by simp [hpos, hphase, hheld])

end

/-! ### RELEASE, ENABLE and CALIBRATE -/

section
variable (h : s.accepts 0x58 d = true) (hsubop : DescF.par d 0 1 = 3) (hparam : (DescF.parNonZero d 1).isSome = false)
include h hsubop hparam

theorem exec_release_noCard (hx : (s.taken d).presAt (d.target.toNat / 8) = none) :
    exec (.release d) s = .next ((s.taken d).fin ((s.taken d).ticket d) stDone 0) := by
  refine State.tagCmd_runs rfl h hsubop hparam (Nat.zero_le _) ?_
  simp only [hx]

theorem exec_release_card {x : Pres} (hx : (s.taken d).presAt (d.target.toNat / 8) = some x) : exec (.release d) s =
    .next ((if x.pos = d.target.toNat then ((s.taken d).rfSend d.target.toNat 2 [0x50, 0]).presEnd (d.target.toNat / 8)
      else s.taken d).fin ((s.taken d).ticket d) stDone 0) := by
  refine State.tagCmd_runs rfl h hsubop hparam (Nat.zero_le _) ?_
  simp only [hx]

end

section
variable (h : s.accepts 0x58 d = true) (hsubop : DescF.par d 0 1 = 4) (hparam : (DescF.parNonZero d 2).isSome = false)
include h hsubop hparam

theorem exec_enable_bad (hbad : 1 < DescF.par d 1 1) :
    exec (.enable d) s = .next ((s.taken d).fin ((s.taken d).ticket d) stBad 24) :=
  State.tagCmd_runs rfl h hsubop hparam (Nat.zero_le _) (if_pos hbad)

theorem exec_enable_switches (hgood : DescF.par d 1 1 ≤ 1)
    (hu : u = (s.taken d).putB Fld.ANT_CFG__EN d.target.toNat (DescF.par d 1 1 == 1)) : exec (.enable d) s =
      .next ((u.setAnt d.target.toNat { u.ant d.target.toNat with capt := DescF.par d 1 1 == 1, conf := false }).fin
        ((s.taken d).ticket d) stDone 0) := by
  subst hu
  exact State.tagCmd_runs rfl h hsubop hparam (Nat.zero_le _) (if_neg (Nat.not_lt.2 hgood))

end

section
variable {l : List Nat}
variable (h : s.accepts 0x58 d = true) (hsubop : DescF.par d 0 1 = 5) (hparam : (DescF.parNonZero d 1).isSome = false)
include h hsubop hparam

theorem exec_calibrate_detected (hdet : (s.taken d).flag Fld.ANT_STATUS__DETECT d.target.toNat = true) :
    exec (.calibrate d l) s = .next ((s.taken d).fin ((s.taken d).ticket d) stCapacity 3) :=
  State.tagCmd_runs rfl h hsubop hparam (Nat.zero_le _) (if_pos hdet)

theorem exec_calibrate_sets (hdet : (s.taken d).flag Fld.ANT_STATUS__DETECT d.target.toNat = false)
    (hu : u = ((s.taken d).put Fld.ANT_STATUS__A_REF d.target.toNat (min (l.foldl (· + ·) 0 / 64) 65535)).put
      Fld.ANT_STATUS__FAULT d.target.toNat 0) : exec (.calibrate d l) s =
      .next ((u.setAnt d.target.toNat { u.ant d.target.toNat with capt := u.flag Fld.ANT_CFG__EN d.target.toNat }).fin
        ((s.taken d).ticket d) stDone (min (l.foldl (· + ·) 0 / 64) 65535)) := by
  subst hu
  exact State.tagCmd_runs rfl h hsubop hparam (Nat.zero_le _) (if_neg (ne_true_of_eq_false hdet))

end

end

/-- Settles O53: the checks of TAG_CMD come first, then those of the sub-operation. -/
theorem readerDescriptors : Obligations.ReaderDescriptors :=
  ⟨fun _ _ h _ hparam => State.tagCmd_reserved rfl h hparam,
    fun _ _ h hsubop hparam hbuf => State.tagCmd_short rfl h hsubop hparam (by decide) hbuf,
    fun _ _ => exec_readLast_none, fun _ _ => exec_readLast_gives, fun _ _ _ => exec_apdu_bad, fun _ _ _ => exec_apdu_noCard,
    fun _ _ _ _ => exec_apdu_otherCard, fun _ _ _ _ _ => exec_apdu_sends, fun _ _ _ _ => exec_apdu_sends,
    fun _ _ => exec_release_noCard, fun _ _ _ h hsubop hparam hx => exec_release_card h hsubop hparam hx,
    fun _ _ => exec_enable_bad, fun _ _ _ => exec_enable_switches, fun _ _ _ => exec_calibrate_detected,
    fun _ _ _ _ => exec_calibrate_sets⟩

end Sys2Proof.Machine
end

section
/-!
PROOFS. Key descriptors, the generator and tamper (R692 to R710): which refusal or effect each one takes.
-/
namespace Sys2Proof.Machine

section
variable {s u v w : State} {d : Desc} {rd : DmaRead} {b : List Byte} {o : Bool} {a : Nat}

/-! ### KEY_WRITE (R701, R702) -/

section
variable (h : s.accepts 0x60 d = true)
include h

theorem exec_keyWrite_short (hbuf : DescF.bufLen d < 96) :
    exec (.keyWrite d rd o) s = .next ((s.taken d).fin ((s.taken d).ticket d) stBad 16) :=
  State.accepted_runs rfl h (if_pos hbuf)

variable (hbuf : 96 ≤ DescF.bufLen d)
include hbuf

section
variable (haddr : DescF.par d 0 8 ≠ 0)
include haddr

theorem exec_keyWrite_boundary (hrange : (s.taken d).checkRange d.port (DescF.par d 0 8) 128 false true = .boundary a) :
    exec (.keyWrite d rd o) s = .next ((s.taken d).fin ((s.taken d).ticket d) stBoundary a) := by
  refine State.accepted_runs rfl h ((if_neg (Nat.not_lt.2 hbuf)).trans ?_)
  simp only [if_pos haddr, hrange]

theorem exec_keyWrite_protection (hrange : (s.taken d).checkRange d.port (DescF.par d 0 8) 128 false true = .protection a) :
    exec (.keyWrite d rd o) s = .next ((s.taken d).fin ((s.taken d).ticket d) stProtection a) := by
  refine State.accepted_runs rfl h ((if_neg (Nat.not_lt.2 hbuf)).trans ?_)
  simp only [if_pos haddr, hrange]

end

/-- The key that KEY_WRITE's buffer holds, and what its slot is to show of it. -/
abbrev writtenKey (w : List Byte) : Nat := leNat ((w.drop 16).take (keyLen (field w 2 1)))
abbrev writtenAttr (w : List Byte) (persist blobOut : Bool) : KeyAttr :=
  { type := field w 2 1, usage := field w 4 2, persist := persist, exported := blobOut, id := field w 8 4 }

section
variable (haddr : DescF.par d 0 8 = 0)
include haddr

theorem exec_keyWrite_badLayout (hbad : keyWriteOk (b.take 96) = false) :
    exec (.keyWrite d (.data b) o) s = .next ((s.taken d).fin ((s.taken d).ticket d) stBad 8) := by
  refine State.accepted_runs rfl h ((if_neg (Nat.not_lt.2 hbuf)).trans ?_)
  simp only [haddr, ne_eq, not_true_eq_false, if_false]
  exact if_pos (by rw [hbad]; rfl)

section
variable (hok : keyWriteOk (b.take 96) = true) (hin : bitAt (field (b.take 96) 3 1) 1 = false)
include hok hin

/-- A key that is neither marked PERSIST nor goes out as a blob. -/
theorem exec_keyWrite_plain (hpersist : bitAt (field (b.take 96) 3 1) 0 = false)
    (hu : u = (s.taken d).storeKey d.target.toNat (writtenAttr (b.take 96) false false) (writtenKey (b.take 96))) :
    exec (.keyWrite d (.data b) o) s = .next (if (s.taken d).keySt d.target.toNat = 1 then
      (s.taken d).fin ((s.taken d).ticket d) stCapacity 1 else u.fin ((s.taken d).ticket d) stDone (u.keyGen d.target.toNat)) := by
  subst hu
  refine State.accepted_runs rfl h ((if_neg (Nat.not_lt.2 hbuf)).trans ?_)
  simp only [haddr, ne_eq, not_true_eq_false, if_false]
  refine (if_neg (by rw [hok]; decide)).trans ((if_neg (by simp)).trans ?_)
  simp only [hin, hpersist, Bool.or_self, Bool.false_and, Bool.false_eq_true, if_false, Bool.not_false, Bool.and_self, if_true]

/-- A key marked PERSIST: its blob stays in the key area (R696). -/
theorem exec_keyWrite_persist {g : List Byte} (hpersist : bitAt (field (b.take 96) 3 1) 0 = true)
    (hu : u = (s.taken d).storeKey d.target.toNat (writtenAttr (b.take 96) true false) (writtenKey (b.take 96)))
    (hv : v = (u.random 96).2.useKey 2 2)
    (hg : g = v.makeBlob d.target.toNat (writtenAttr (b.take 96) true false) (writtenKey (b.take 96)) (u.random 96).1)
    (hw : w = v.keepKey d.target.toNat {
      rootId := (v.reg .KEY_ROOT_ID 0).toNat, type := field (b.take 96) 2 1, usage := field (b.take 96) 4 2,
      id := field (b.take 96) 8 4, exported := false, blob := g, gen := v.keyGen d.target.toNat }) :
    exec (.keyWrite d (.data b) o) s = .next (if (s.taken d).keySt d.target.toNat = 1 then
        (s.taken d).fin ((s.taken d).ticket d) stCapacity 1
      else if (s.taken d).rime.root.isNone then (s.taken d).fin ((s.taken d).ticket d) stCapacity 9
      else if !(s.taken d).rngReady then (s.taken d).fin ((s.taken d).ticket d) stCapacity 0xB
      else if (s.taken d).trialRefuses o then (s.taken d).fin ((s.taken d).ticket d) stCapacity 0xD
      else w.fin ((s.taken d).ticket d) stDone (w.keyGen d.target.toNat)) := by
  subst hw hg hv hu
  refine State.accepted_runs rfl h ((if_neg (Nat.not_lt.2 hbuf)).trans ?_)
  simp only [haddr, ne_eq, not_true_eq_false, if_false]
  refine (if_neg (by rw [hok]; decide)).trans ((if_neg (by simp)).trans ?_)
  simp only [hin, hpersist, Bool.false_or, Bool.true_and, Bool.false_eq_true, if_false, Bool.not_false, Bool.not_true, Bool.and_false, if_true]

/-- A slot that holds a key is not written over, wherever the new key was to go. -/
theorem exec_keyWrite_taken (htaken : (s.taken d).keySt d.target.toNat = 1) :
    exec (.keyWrite d (.data b) o) s = .next ((s.taken d).fin ((s.taken d).ticket d) stCapacity 1) := by
  cases hpersist : bitAt (field (b.take 96) 3 1) 0 with
  | false => exact (exec_keyWrite_plain h hbuf haddr hok hin hpersist rfl).trans (congrArg Host.Outcome.next (if_pos htaken))
  | true =>
    exact (exec_keyWrite_persist h hbuf haddr hok hin hpersist rfl rfl rfl rfl).trans
      (congrArg Host.Outcome.next (if_pos htaken))

end

end

section
variable (haddr : DescF.par d 0 8 ≠ 0)
  (hrange : (s.taken d).checkRange d.port (DescF.par d 0 8) 128 false true = .ok) (hok : keyWriteOk (b.take 96) = true)
include haddr hrange hok

/-- An address for a blob that the buffer does not ask for. -/
theorem exec_keyWrite_noBlob (hin : bitAt (field (b.take 96) 3 1) 1 = false) :
    exec (.keyWrite d (.data b) o) s = .next ((s.taken d).fin ((s.taken d).ticket d) stBad 24) := by
  refine State.accepted_runs rfl h ((if_neg (Nat.not_lt.2 hbuf)).trans ?_)
  simp only [if_pos haddr, hrange]
  exact (if_neg (by rw [hok]; decide)).trans (if_pos (by rw [hin, decide_eq_true haddr]; rfl))

/-- A key that is not marked PERSIST goes out as a blob. -/
theorem exec_keyWrite_blob (hout : bitAt (field (b.take 96) 3 1) 1 = true) (hpersist : bitAt (field (b.take 96) 3 1) 0 = false)
    (hfree : (s.taken d).keySt d.target.toNat ≠ 1) (hroot : (s.taken d).rime.root.isNone = false)
    (hready : (s.taken d).rngReady = true)
    (hu : u = (s.taken d).storeKey d.target.toNat (writtenAttr (b.take 96) false true) (writtenKey (b.take 96)))
    (hv : v = (u.random 96).2.useKey 2 2)
    (hw : w = v.emit (.dma d.port (DescF.par d 0 8)
      (v.makeBlob d.target.toNat (writtenAttr (b.take 96) false true) (writtenKey (b.take 96)) (u.random 96).1))) :
    exec (.keyWrite d (.data b) o) s = .next (w.fin ((s.taken d).ticket d) stDone (w.keyGen d.target.toNat)) := by
  subst hw hv hu
  refine State.accepted_runs rfl h ((if_neg (Nat.not_lt.2 hbuf)).trans ?_)
  simp only [if_pos haddr, hrange]
  refine (if_neg (by rw [hok]; decide)).trans ((if_neg (by simp [hout])).trans ?_)
  simp only [hout, hpersist, hrange, hroot, hready, if_neg hfree, Bool.or_false, Bool.and_false, Bool.false_and, Bool.not_true,
    Bool.false_eq_true, if_false, if_true]

end

end

/-! ### KEY_UNWRAP (R703) -/

section
variable (h : s.accepts 0x63 d = true)
include h

theorem exec_keyUnwrap_short (hbuf : DescF.bufLen d < 128) :
    exec (.keyUnwrap d rd) s = .next ((s.taken d).fin ((s.taken d).ticket d) stBad 16) :=
  State.accepted_runs rfl h (if_pos hbuf)

variable (hbuf : 128 ≤ DescF.bufLen d)
include hbuf

theorem exec_keyUnwrap_badLayout (hbad : (decide (field (b.take 128) 0 2 ≠ 1) || decide (field (b.take 128) 3 1 ≠ 0)
      || decide (field (b.take 128) 100 12 ≠ 0)) = true) :
    exec (.keyUnwrap d (.data b)) s = .next ((s.taken d).fin ((s.taken d).ticket d) stBad 8) :=
  State.accepted_runs rfl h ((if_neg (Nat.not_lt.2 hbuf)).trans (if_pos hbad))

/-- A blob of the right layout: what its slot, the blob's own slot, the root and its tag say in turn. -/
theorem exec_keyUnwrap_layout (hversion : field (b.take 128) 0 2 = 1) (hzero : field (b.take 128) 3 1 = 0)
    (hreserved : field (b.take 128) 100 12 = 0) (hu : u = (s.taken d).useKey 2 2) :
    exec (.keyUnwrap d (.data b)) s = .next (
      if (s.taken d).keySt d.target.toNat = 1 then (s.taken d).fin ((s.taken d).ticket d) stCapacity 1
      else if field (b.take 128) 6 2 ≠ d.target.toNat then (s.taken d).fin ((s.taken d).ticket d) stCapacity 2
      else if (s.taken d).rime.root.isNone then (s.taken d).fin ((s.taken d).ticket d) stCapacity 9
      else match u.openBlob (b.take 128) with
        | none => u.fin ((s.taken d).ticket d) stCapacity 3
        | some key => (u.storeKey d.target.toNat { type := field (b.take 128) 2 1, usage := field (b.take 128) 4 2, exported := true, id := field (b.take 128) 8 4 } key).fin
          ((s.taken d).ticket d) stDone 0) := by
  subst hu
  exact State.accepted_runs rfl h
    ((if_neg (Nat.not_lt.2 hbuf)).trans (if_neg (by rw [hversion, hzero, hreserved]; decide)))

end

/-! ### KEY_DERIVE (R704, R705) -/

/-- What the slot of a key derived from parent `p` at level `l` is to show of it. -/
abbrev derivedAttr (d : Desc) (persist : Bool) (l p g : Nat) : KeyAttr where
  type := DescF.par d 2 1
  usage := DescF.par d 4 2
  level := l
  derived := true
  persist := persist
  parent := p
  pgen := g
  id := DescF.par d 32 4

section
variable (h : s.accepts 0x61 d = true)
include h

theorem exec_keyDerive_badLayout {k : Nat} (hbad : deriveBad d = some k) :
    exec (.keyDerive d o) s = .next ((s.taken d).fin ((s.taken d).ticket d) stBad k) := by
  refine State.accepted_runs rfl h ?_
  simp only [hbad]

variable (hok : deriveBad d = none)
include hok

theorem exec_keyDerive_taken (htaken : (s.taken d).keySt d.target.toNat = 1) :
    exec (.keyDerive d o) s = .next ((s.taken d).fin ((s.taken d).ticket d) stCapacity 1) := by
  refine State.accepted_runs rfl h ?_
  simp only [hok]
  exact if_pos htaken

variable (hfree : (s.taken d).keySt d.target.toNat ≠ 1)
include hfree

theorem exec_keyDerive_deep (hdeep : 4 ≤ (s.taken d).get Fld.KEY_ATTR__LEVEL (DescF.par d 0 2)) :
    exec (.keyDerive d o) s = .next ((s.taken d).fin ((s.taken d).ticket d) stCapacity 4) := by
  refine State.accepted_runs rfl h ?_
  simp only [hok]
  exact (if_neg hfree).trans (if_pos (Nat.lt_succ_of_le hdeep))

variable (hlevel : (s.taken d).get Fld.KEY_ATTR__LEVEL (DescF.par d 0 2) ≤ 3)
include hlevel

theorem exec_keyDerive_noParent (hno : (s.taken d).keyUsable (DescF.par d 0 2) [3] 5 = false) :
    exec (.keyDerive d o) s = .next ((s.taken d).fin ((s.taken d).ticket d) stCapacity 5) := by
  refine State.accepted_runs rfl h ?_
  simp only [hok]
  exact (if_neg hfree).trans ((if_neg (Nat.not_lt.2 (Nat.succ_le_succ hlevel))).trans (if_pos (by rw [hno]; rfl)))

variable (hparent : (s.taken d).keyUsable (DescF.par d 0 2) [3] 5 = true)
include hparent

theorem exec_keyDerive_trial (hpersist : bitAt (DescF.par d 3 1) 0 = true) (htrial : (s.taken d).trialRefuses o = true) :
    exec (.keyDerive d o) s = .next ((s.taken d).fin ((s.taken d).ticket d) stCapacity 0xD) := by
  refine State.accepted_runs rfl h ?_
  simp only [hok]
  exact (if_neg hfree).trans ((if_neg (Nat.not_lt.2 (Nat.succ_le_succ hlevel))).trans
    ((if_neg (by rw [hparent]; decide)).trans (if_pos (by rw [hpersist, htrial]; rfl))))

section
variable {p k g l : Nat} (hp : p = DescF.par d 0 2) (hg : g = (s.taken d).keyGen p)
  (hl : l = (s.taken d).get Fld.KEY_ATTR__LEVEL p + 1) (hu : u = (s.taken d).useKey 4 p)
  (hk : k = kdf (u.keyOf p) ((d.param.drop 8).take (DescF.par d 6 2)) ((d.param.drop 24).take 8) g (DescF.par d 2 1))
include hp hg hl hu hk

theorem exec_keyDerive_plain (hpersist : bitAt (DescF.par d 3 1) 0 = false) : exec (.keyDerive d o) s =
    .next ((u.storeKey d.target.toNat (derivedAttr d false l p g) k).fin ((s.taken d).ticket d) stDone 0) := by
  subst hk hu hl hg hp
  refine State.accepted_runs rfl h ?_
  simp only [hok, hpersist]
  exact (if_neg hfree).trans ((if_neg (Nat.not_lt.2 (Nat.succ_le_succ hlevel))).trans
    ((if_neg (by rw [hparent]; decide)).trans (if_neg (by simp))))

/-- A derived key marked PERSIST: how it was derived stays in the key area (R696). -/
theorem exec_keyDerive_persist (hpersist : bitAt (DescF.par d 3 1) 0 = true) (htrial : (s.taken d).trialRefuses o = false)
    (hv : v = u.storeKey d.target.toNat (derivedAttr d true l p g) k) : exec (.keyDerive d o) s =
    .next ((v.keepKey d.target.toNat {
      rootId := (v.reg .KEY_ROOT_ID 0).toNat, type := DescF.par d 2 1, usage := DescF.par d 4 2, id := DescF.par d 32 4,
      derived := true, level := l, parent := p, pgen := g, label := (d.param.drop 8).take (DescF.par d 6 2),
      ctx := (d.param.drop 24).take 8 }).fin ((s.taken d).ticket d) stDone 0) := by
  subst hv hk hu hl hg hp
  refine State.accepted_runs rfl h ?_
  simp only [hok, hpersist]
  exact (if_neg hfree).trans ((if_neg (Nat.not_lt.2 (Nat.succ_le_succ hlevel))).trans
    ((if_neg (by rw [hparent]; decide)).trans (if_neg (by rw [htrial]; decide))))

end

end

/-! ### KEY_DESTROY (R707, R708) -/

section
variable {c : Instr} {mode : Nat} {k : Ticket → Nat → State → State}
  (hexec : exec c s = .next (s.keyDestroy d mode k)) (h : s.accepts 0x62 d = true)
include hexec h

theorem State.keyDestroy_otherMode (hmode : DescF.par d 0 1 ≠ mode) :
    exec c s = .next ((s.taken d).fin ((s.taken d).ticket d) stBad 24) :=
  State.accepted_runs hexec h (if_pos hmode)

theorem State.keyDestroy_runs (hmode : DescF.par d 0 1 = mode)
    (hk : k ((s.taken d).ticket d) d.target.toNat (s.taken d) = u) : exec c s = .next u :=
  State.accepted_runs hexec h ((if_neg (not_not_intro hmode)).trans hk)

end

section
variable {g : Nat} {x : State × Nat} (h : s.accepts 0x62 d = true)
include h

section
variable (hmode : DescF.par d 0 1 = 1)
include hmode

theorem exec_keyDestroy_empty (hempty : (s.taken d).keySt d.target.toNat ≠ 1) :
    exec (.keyDestroy d) s = .next ((s.taken d).fin ((s.taken d).ticket d) stDone 0) :=
  State.keyDestroy_runs rfl h hmode (if_pos hempty)

variable (hkey : (s.taken d).keySt d.target.toNat = 1)
  (hg : (if (s.taken d).flag Fld.KEY_ATTR__DERIVED d.target.toNat = true then (s.taken d).get Fld.KEY_PARENT__PARENT d.target.toNat
    else d.target.toNat) = g)
include hkey hg

theorem exec_keyDestroy_lastGen (hlast : (s.taken d).keyGen g = 0xFFFFFFFF) :
    exec (.keyDestroy d) s = .next ((s.taken d).fin ((s.taken d).ticket d) stCapacity 7) := by
  subst hg
  exact State.keyDestroy_runs rfl h hmode ((if_neg (not_not_intro hkey)).trans (if_pos hlast))

theorem exec_keyDestroy_drops (hmore : (s.taken d).keyGen g ≠ 0xFFFFFFFF)
    (hx : x = ((s.taken d).dropKey d.target.toNat 0).raiseGen g) :
    exec (.keyDestroy d) s = .next (x.1.fin ((s.taken d).ticket d) stDone (x.2 + 1)) := by
  subst hg
  refine State.keyDestroy_runs rfl h hmode ((if_neg (not_not_intro hkey)).trans ((if_neg hmore).trans ?_))
  rw [← hx]

end

section
variable (hmode : DescF.par d 0 1 = 2)
include hmode

/-- Has this slot no children to destroy? -/
abbrev State.keyChildless (s : State) (n : Nat) : Bool :=
  decide (n < 4) || decide (s.keySt n ≠ 1) || !s.flag Fld.KEY_ATTR__DERIVED n

theorem exec_keyDestroyChildren_none (hnone : (s.taken d).keyChildless d.target.toNat = true) :
    exec (.keyDestroyChildren d) s = .next ((s.taken d).fin ((s.taken d).ticket d) stCapacity 6) :=
  State.keyDestroy_runs rfl h hmode (if_pos hnone)

variable (hsome : (s.taken d).keyChildless d.target.toNat = false)
include hsome

theorem exec_keyDestroyChildren_lastGen (hlast : (s.taken d).keyGen d.target.toNat = 0xFFFFFFFF) :
    exec (.keyDestroyChildren d) s = .next ((s.taken d).fin ((s.taken d).ticket d) stCapacity 7) :=
  State.keyDestroy_runs rfl h hmode ((if_neg (ne_true_of_eq_false hsome)).trans (if_pos hlast))

theorem exec_keyDestroyChildren_drops (hmore : (s.taken d).keyGen d.target.toNat ≠ 0xFFFFFFFF)
    (hx : x = (s.taken d).raiseGen d.target.toNat) :
    exec (.keyDestroyChildren d) s = .next (x.1.fin ((s.taken d).ticket d) stDone x.2) := by
  refine State.keyDestroy_runs rfl h hmode ((if_neg (ne_true_of_eq_false hsome)).trans ((if_neg hmore).trans ?_))
  rw [← hx]

end

section
variable (hmode : DescF.par d 0 1 = 3)
include hmode

theorem exec_evict_empty (hempty : (s.taken d).keySt d.target.toNat ≠ 1) :
    exec (.evict d) s = .next ((s.taken d).fin ((s.taken d).ticket d) stDone 0) :=
  State.keyDestroy_runs rfl h hmode (if_pos hempty)

variable (hkey : (s.taken d).keySt d.target.toNat = 1)
include hkey

theorem exec_evict_noBlob (hderived : (s.taken d).flag Fld.KEY_ATTR__DERIVED d.target.toNat = false)
    (hexported : (s.taken d).flag Fld.KEY_ATTR__EXPORTED d.target.toNat = false) :
    exec (.evict d) s = .next ((s.taken d).fin ((s.taken d).ticket d) stCapacity 8) :=
  State.keyDestroy_runs rfl h hmode ((if_neg (not_not_intro hkey)).trans (if_pos (by rw [hderived, hexported]; rfl)))

variable (hback : ((s.taken d).flag Fld.KEY_ATTR__DERIVED d.target.toNat || (s.taken d).flag Fld.KEY_ATTR__EXPORTED d.target.toNat) = true)
include hback

theorem exec_evict_parent (hchildren : (s.taken d).hasChildren d.target.toNat = true) :
    exec (.evict d) s = .next ((s.taken d).fin ((s.taken d).ticket d) stCapacity 0xC) :=
  State.keyDestroy_runs rfl h hmode ((if_neg (not_not_intro hkey)).trans
    ((if_neg (by rw [← Bool.not_or, hback]; decide)).trans (if_pos hchildren)))

theorem exec_evict_drops (hchildren : (s.taken d).hasChildren d.target.toNat = false) : exec (.evict d) s =
    .next ((((s.taken d).dropKey d.target.toNat 0).keyCounts).fin ((s.taken d).ticket d) stDone 1) :=
  State.keyDestroy_runs rfl h hmode ((if_neg (not_not_intro hkey)).trans
    ((if_neg (by rw [← Bool.not_or, hback]; decide)).trans (if_neg (ne_true_of_eq_false hchildren))))

end

end

/-- R708: what a generation's rise orphans is counted in the event that reports it. -/
theorem State.raiseGen_eq {n : Nat} {x : State × Nat} (hx : x = (s.put Fld.KEY_GEN__GEN n (s.keyGen n + 1)).orphanTree 4) :
    s.raiseGen n = (x.1.keyCounts.postBoth { code := 0x0C2, sev := 1, obj := n, data := min x.2 65535 }, x.2) := by
  simp only [State.raiseGen, ← hx]

/-! ### The generator and tamper (R692, R709, R710) -/

theorem exec_drbgReseed_off {ok : Bool} (hdie : s.dieRuns .cdie = false) : exec (.drbgReseed ok) s = .next s :=
  if_pos (by rw [hdie]; rfl)

theorem exec_drbgReseed_fails (hdie : s.dieRuns .cdie = true) :
    exec (.drbgReseed false) s = .next ((s.setRime { s.rime with drbg := 2 }).put Fld.KEY_ERR__DRBG 0 1) :=
  (if_neg (by rw [hdie]; decide)).trans (if_neg (by decide))

theorem exec_drbgReseed_seeds (hdie : s.dieRuns .cdie = true) :
    exec (.drbgReseed true) s = .next (((s.setRime { s.rime with drbg := 1, reqs := 0 }).makeRoot).reopenLedger) :=
  (if_neg (by rw [hdie]; decide)).trans (if_pos rfl)

section
variable {k : Nat}

theorem State.tamperLatch_root : (s.tamperLatch k).rime.root = none ∧ (s.tamperLatch k).rime.zeroed = true := ⟨rfl, rfl⟩

theorem exec_tamperMonitorTrip_unarmed (h : (decide (5 ≤ k) || !bitAt (s.get Fld.KEY_TAMPER__ARMED 0) k) = true) :
    exec (.tamperMonitorTrip k) s = .next s :=
  if_pos h

theorem exec_tamperMonitorTrip_trips (hk : k < 5) (harmed : bitAt (s.get Fld.KEY_TAMPER__ARMED 0) k = true)
    (hu : u = s.tamperLatch k) : exec (.tamperMonitorTrip k) s =
      .next (if u.dieRuns .cdie && u.pwr ≠ 3 && !u.isOff then u.zeroiseSlots else u.setRime { u.rime with clearDue := true }) := by
  subst hu
  exact if_neg (by rw [harmed, decide_eq_false (Nat.not_le.2 hk)]; decide)

end

end

/-- Settles O55: each key descriptor is refused in the order of its checks, or has its effect; the generator and the monitors by
the die and the arming that they find. -/
theorem keyCommands : Obligations.KeyCommands :=
  ⟨fun _ _ _ _ => exec_keyWrite_short, fun _ _ _ _ _ => exec_keyWrite_boundary, fun _ _ _ _ _ => exec_keyWrite_protection,
    fun _ _ _ _ => exec_keyWrite_badLayout, fun _ _ _ _ => exec_keyWrite_noBlob,
    fun _ _ _ _ => exec_keyWrite_taken,
    fun _ _ _ _ h hbuf haddr hok hin hfree hpersist hroot =>
      (exec_keyWrite_persist h hbuf haddr hok hin hpersist rfl rfl rfl rfl).trans
        (congrArg Host.Outcome.next ((if_neg hfree).trans (if_pos hroot))),
    fun _ _ _ _ h hbuf haddr hok hin hfree hpersist hroot hready =>
      (exec_keyWrite_persist h hbuf haddr hok hin hpersist rfl rfl rfl rfl).trans
        (congrArg Host.Outcome.next ((if_neg hfree).trans ((if_neg (ne_true_of_eq_false hroot)).trans
          (if_pos (by rw [hready]; rfl))))),
    fun _ _ _ _ h hbuf haddr hok hin hfree hpersist hroot hready htrial =>
      (exec_keyWrite_persist h hbuf haddr hok hin hpersist rfl rfl rfl rfl).trans
        (congrArg Host.Outcome.next ((if_neg hfree).trans ((if_neg (ne_true_of_eq_false hroot)).trans
          ((if_neg (by rw [hready]; decide)).trans (if_pos htrial))))),
    fun _ _ _ _ _ _ h hbuf haddr hok hin hpersist hfree hk hu => by
      subst hk
      exact (exec_keyWrite_plain h hbuf haddr hok hin hpersist hu).trans (congrArg Host.Outcome.next (if_neg hfree)),
    fun _ _ _ _ _ _ _ _ _ h hbuf haddr hok hin hpersist hfree hroot hready htrial hk ha hu hv hg => by
      subst hk ha
      exact (exec_keyWrite_persist h hbuf haddr hok hin hpersist hu hv hg rfl).trans
        (congrArg Host.Outcome.next ((if_neg hfree).trans ((if_neg (ne_true_of_eq_false hroot)).trans
          ((if_neg (by rw [hready]; decide)).trans (if_neg (ne_true_of_eq_false htrial)))))),
    fun _ _ _ _ _ _ _ _ h hbuf haddr hrange hok hout hpersist hfree hroot hready hk ha hu hv => by
      subst hk ha
      exact exec_keyWrite_blob h hbuf haddr hrange hok hout hpersist hfree hroot hready hu hv rfl,
    fun _ _ _ => exec_keyUnwrap_short, fun _ _ _ => exec_keyUnwrap_badLayout,
    fun _ _ _ h hbuf hversion hzero hreserved htaken =>
      (exec_keyUnwrap_layout h hbuf hversion hzero hreserved rfl).trans (congrArg Host.Outcome.next (if_pos htaken)),
    fun _ _ _ h hbuf hversion hzero hreserved hfree hother =>
      (exec_keyUnwrap_layout h hbuf hversion hzero hreserved rfl).trans
        (congrArg Host.Outcome.next ((if_neg hfree).trans (if_pos hother))),
    fun _ _ _ h hbuf hversion hzero hreserved hfree hown hroot =>
      (exec_keyUnwrap_layout h hbuf hversion hzero hreserved rfl).trans
        (congrArg Host.Outcome.next ((if_neg hfree).trans ((if_neg (not_not_intro hown)).trans (if_pos hroot)))),
    fun _ _ _ _ h hbuf hversion hzero hreserved hfree hown hroot hu =>
      (exec_keyUnwrap_layout h hbuf hversion hzero hreserved hu).trans
        (congrArg Host.Outcome.next ((if_neg hfree).trans ((if_neg (not_not_intro hown)).trans
          (if_neg (ne_true_of_eq_false hroot))))),
    fun _ _ _ _ h hbad => exec_keyDerive_badLayout h hbad, fun _ _ _ => exec_keyDerive_taken, fun _ _ _ => exec_keyDerive_deep,
    fun _ _ _ => exec_keyDerive_noParent, fun _ _ _ => exec_keyDerive_trial,
    fun _ _ _ _ _ _ h hok hfree hlevel hparent hpersist hp hu hk =>
      exec_keyDerive_plain h hok hfree hlevel hparent hp rfl rfl hu hk hpersist,
    fun _ _ _ _ _ _ _ _ _ h hok hfree hlevel hparent hpersist htrial hp hg hl hu hk hv =>
      exec_keyDerive_persist h hok hfree hlevel hparent hp hg hl hu hk hpersist htrial hv,
    fun _ _ h h1 h2 h3 => ⟨State.keyDestroy_otherMode rfl h h1, State.keyDestroy_otherMode rfl h h2,
      State.keyDestroy_otherMode rfl h h3⟩,
    fun _ _ => exec_keyDestroy_empty, fun _ _ _ => exec_keyDestroy_lastGen, fun _ _ _ _ => exec_keyDestroy_drops,
    fun _ _ => exec_keyDestroyChildren_none, fun _ _ => exec_keyDestroyChildren_lastGen,
    fun _ _ _ => exec_keyDestroyChildren_drops,
    fun _ _ => exec_evict_empty, fun _ _ => exec_evict_noBlob, fun _ _ => exec_evict_parent, fun _ _ => exec_evict_drops,
    fun _ _ _ => State.raiseGen_eq, fun _ _ => exec_drbgReseed_off, fun _ => exec_drbgReseed_fails,
    fun _ => exec_drbgReseed_seeds, fun _ _ => exec_tamperMonitorTrip_unarmed, fun _ _ => State.tamperLatch_root,
    fun _ _ _ => exec_tamperMonitorTrip_trips⟩

end Sys2Proof.Machine
end
